-- ==== Sys2Proof/Word.lean ====
section
/-! DEFINITION. The word types of the GT7140 (spec/00_scope.md R5, R8): 32-bit register words, 8-bit memory bytes. -/

namespace Sys2Proof

/-- A 32-bit register word (R8). -/
abbrev Word := BitVec 32

/-- A byte of one of the memories of R40. -/
abbrev Byte := BitVec 8

end Sys2Proof
end

