-- ==== Sys2Proof/Machine/Types.lean ====
section
/-! DEFINITION. The names that commands and state share: bus masters, islands, rail sets, die links, memories. -/

namespace Sys2Proof.Machine

/-- A bus master (R10, R41). The processor complex is one master (`ash`) outside split mode; each core counts separately in
split mode. -/
inductive Master where
  | ash | elm | oak | alder | h0 | h1
deriving DecidableEq, Repr

/-- The size of a bus access (R8). -/
inductive Size where
  | b8 | b16 | b32
deriving DecidableEq, Repr

/-- The die links that carry a heartbeat (R23). -/
inductive DieLink where
  | edge | ret | sample | control | clockForward | isol0 | isol1
deriving DecidableEq, Repr

/-- The rail sets of R395. -/
inductive RailSet where
  | pwrC | pwrA | snsA | snsI0 | snsI1 | cmpC | comC | safA | kalP
deriving DecidableEq, Repr

/-- Why the module starts (R399, R411): power-on or supply return, a wake cause, the nRESET edge, a restart. -/
inductive StartCause where
  | power | pin | rtc | hva | nreset | restart | supply
deriving DecidableEq, Repr

/-- The gate outputs of a leg. -/
inductive Side where
  | hi | lo
deriving DecidableEq, Repr

/-- The two duty compares of a leg. -/
inductive Cmp where
  | a | b
deriving DecidableEq, Repr

/-- The levels that a gate land can take (R113): driven low or high, or pulled to GNDP through 50 kΩ. -/
inductive PadLevel where
  | low | high | pulled
deriving DecidableEq, Repr

/-- The phase of a converter (R147). -/
inductive ConvPhase where
  | idle | acquiring | converting
deriving DecidableEq, Repr

/-- An item that a core commits (R293, R300): a register-file write (x1 to x31 as 1 to 31, f0 to f31 as 32 to 63), a store with its byte
mask, a CSR write, an uncached load, the line address of a cache refill, a cache lookup of a pair (tag, hit, read data). -/
inductive Item where
  | reg (idx : Fin 64) (val : BitVec 32)
  | store (addr data : BitVec 32) (mask : BitVec 4)
  | csr (num : BitVec 12) (val : BitVec 32)
  | load (addr : BitVec 32) (size : Size)
  | refill (line : BitVec 32)
  | lookup (tag : BitVec 32) (hit : Bool) (data : BitVec 32)
deriving DecidableEq, Repr

/-- A received chain frame (R344): header words 0 and 1, the payload words, the CRC-32. -/
structure ChFrame where
  w0 : BitVec 32
  w1 : BitVec 32
  pay : List (BitVec 32)
  crc : BitVec 32
deriving DecidableEq, Repr

/-- What a chain port sends (R343, R344): the words of a frame with its CRC, or an ordered set. -/
inductive ChSent where
  | frame (words : List Nat)
  | mark (time corr hops : Nat) (dir : Bool)
  | dreq
  | drsp (turn : Nat)
  | lsw (lane : Nat)
  | unwrap
deriving DecidableEq, Repr

/-- What a self-test group found (R419 to R424): failing physical units, logical legs whose gate pad path failed (A4), failed taps by
ladder PU (A5), failed rows by array code (M1, M2), failing partitions of logic that is neither a spared unit nor a resource, failing
timebases and position channels by resource ID, AGE by sensor (AG), the highest extra draw so far in mW, the duration so far in ms, and
whether the write of the wear record succeeds. -/
structure StResult where
  fails : List Nat
  pads : List Nat
  taps : List (Nat × List Nat)
  rows : List (Nat × Nat)
  logic : List Nat
  units : List Nat
  ages : List (Nat × Nat)
  peak : Nat
  dur : Nat
  written : Bool
deriving DecidableEq, Repr

/-- What the surroundings supply to a bus write whose effect depends on them: the phase error of a new local reference (R380), whether
the CAN bus is idle (R365), whether the clock of a released island runs (R28), whether a wake condition stands (R404), the position of
the write within its tick in ns (R441). -/
structure BusEnv where
  phase : BitVec 16
  idle : Bool
  clk : Bool
  wake : Bool
  at0 : Nat
deriving DecidableEq, Repr

end Sys2Proof.Machine
end

