-- ==== Sys2Proof/Syntax.lean ====
section
/-! DEFINITION. The commands of the module: one constructor for each row of spec/opcode_table.json. A command that a bus master
gives carries the master, the unit and the value; an event of the hardware or its surroundings carries the unit and what the
surroundings supply (a level, a conversion result, a received frame). The operands are the model's own: the table gives none. -/

namespace Sys2Proof

open Sys2Proof.Machine

/-- The commands (R11 to R445); each docstring cites the rule that the table cites for the row. -/
inductive Instr where
  /-- REGISTER_WRITE (R11) -/
  | registerWrite (m : Master) (size : Size) (addr : BitVec 32) (data : BitVec 32) (env : BusEnv)
  /-- WIDE_LOW_READ (R10) -/
  | wideLowRead (m : Master) (addr : BitVec 32)
  /-- WIDE_UPPER_WRITE (R10) -/
  | wideUpperWrite (m : Master) (addr : BitVec 32) (data : BitVec 32) (env : BusEnv)
  /-- WIDE_LOW_WRITE (R10) -/
  | wideLowWrite (m : Master) (addr : BitVec 32) (data : BitVec 32) (env : BusEnv)
  /-- BASIC_COMMIT (R15) -/
  | basicCommit (m : Master) (blk : Fin 17)
  /-- BASIC_COMMIT_DONE (R17) -/
  | basicCommitDone (blk : Fin 17)
  /-- MEMORY_SLOT_WRITE (R45) -/
  | memorySlotWrite (m : Master) (size : Size) (addr : BitVec 32) (data : BitVec 32) (env : BusEnv)
  /-- DIE_LINK_LOSS (R23) -/
  | dieLinkLoss (link : DieLink)
  /-- CROSSING_TIMEOUT (R27) -/
  | crossingTimeout (m : Master) (isl : Fin 39) (addr : BitVec 32)
  /-- ISLAND_CLOCK_LOST (R31) -/
  | islandClockLost (isl : Fin 37)
  /-- RAIL_FAULT (R33) -/
  | railFault (set : RailSet)
  /-- POWER_GOOD (R395) -/
  | powerGood (set : RailSet)
  /-- ECC_SINGLE_BIT (R33) -/
  | eccSingleBit (addr : BitVec 32)
  /-- ECC_DOUBLE_BIT (R33) -/
  | eccDoubleBit (m : Master) (addr : BitVec 32)
  /-- UNIT_RUNTIME_FAULT (R33) -/
  | unitRuntimeFault (id : Fin 4096)
  /-- POWER_ON_RESET (R32) -/
  | powerOnReset
  /-- MODULE_RESET (R32) -/
  | moduleReset
  /-- START_SEQUENCE (R399) -/
  | startSequence (bootsel : Bool) (bands : List (BitVec 32)) (trims : List (BitVec 32))
  /-- LOAD (R52) -/
  | imgLoad (m : Master) (slot : Fin 2)
  /-- LOAD_DONE (R52) -/
  | loadDone
  /-- IMG_LOCK_KEY (R63) -/
  | imgLockKey (m : Master) (key : BitVec 16)
  /-- IMG_LOCK_CLOSE (R65) -/
  | imgLockClose (m : Master) (key : BitVec 16)
  /-- RWI_WRITE (R64) -/
  | rwiWrite (m : Master) (addr : BitVec 32) (data : BitVec 32) (env : BusEnv)
  /-- STAGE_ENABLE (R56) -/
  | stageEnable (m : Master) (n : Fin 8)
  /-- STAGE_DISABLE (R56) -/
  | stageDisable (m : Master) (n : Fin 8)
  /-- TB_RUN (R70) -/
  | tbRun (m : Master) (n : Fin 8)
  /-- TBG_START (R71) -/
  | tbgStart (m : Master) (mask : BitVec 8)
  /-- TB_STOP (R72) -/
  | tbStop (m : Master) (n : Fin 8)
  /-- SWSYNC (R73) -/
  | swsync (m : Master) (n : Fin 8)
  /-- SYNC_LOAD (R73) -/
  | syncLoad (n : Fin 8)
  /-- ZRO (R69) -/
  | zro (n : Fin 8)
  /-- PRD (R69) -/
  | prd (n : Fin 8)
  /-- COMPARE_MATCH (R77) -/
  | compareMatch (leg : Fin 24) (cmp : Cmp) (fine : Fin 128)
  /-- TRIGGER_PULSE (R78) -/
  | triggerPulse (leg : Fin 24) (k : Fin 4)
  /-- SHADOW_TRANSFER (R80) -/
  | shadowTransfer (n : Fin 8)
  /-- LADDER_CAL_UPDATE (R89) -/
  | ladderCalUpdate (leg : Fin 24) (lad : Fin 3) (up : Bool)
  /-- LADDER_CAL_LIMIT (R91) -/
  | ladderCalLimit (leg : Fin 24) (lad : Fin 3)
  /-- LADDER_LOCK (R90) -/
  | ladderLock (leg : Fin 24) (lad : Fin 3)
  /-- OUTMODE_APPLY (R95) -/
  | outmodeApply (leg : Fin 24)
  /-- DEADTIME_EXPIRY (R96) -/
  | deadtimeExpiry (leg : Fin 24)
  /-- HELD_EDGE_EXECUTE (R103) -/
  | heldEdgeExecute (leg : Fin 24)
  /-- SWN_ACCEPT (R104) -/
  | swnAccept (leg : Fin 24) (level : Bool) (fine : Fin 128)
  /-- SWN_WINDOW_EXPIRY (R106) -/
  | swnWindowExpiry (leg : Fin 24)
  /-- ADT_ENABLE (R110) -/
  | adtEnable (m : Master) (leg : Fin 24)
  /-- ADT_FAIL_CLEAR (R110) -/
  | adtFailClear (m : Master) (leg : Fin 24)
  /-- ADT_TRIM_WRITE (R109) -/
  | adtTrimWrite (m : Master) (leg : Fin 24) (rise : BitVec 16) (fall : BitVec 16)
  /-- PAD_MISMATCH (R115) -/
  | padMismatch (leg : Fin 24) (side : Side)
  /-- COMPARATOR_CROSSING (R118) -/
  | comparatorCrossing (cmp : Fin 96) (uv : Nat)
  /-- TRIPIN_CHANGE (R121) -/
  | tripinChange (land : Fin 16) (high : Bool)
  /-- ASC_DT_EXPIRY (R127) -/
  | ascDtExpiry (stage : Fin 8)
  /-- SWTRIP (R132) -/
  | swtrip (m : Master) (stage : Fin 8) (on : Bool)
  /-- TRIP_CLEAR (R131) -/
  | tripClear (m : Master) (stage : Fin 8) (source : Option (Fin 4096))
  /-- ARMED_STALE (R137) -/
  | armedStale
  /-- CHOP_FAULT_CLEAR (R139) -/
  | chopFaultClear (m : Master) (stage : Fin 8)
  /-- SEQ_ENABLE (R151) -/
  | seqEnable (m : Master) (j : Fin 4)
  /-- SEQ_DISABLE (R155) -/
  | seqDisable (m : Master) (j : Fin 4)
  /-- SEQ_START (R152) -/
  | seqStart (j : Fin 4)
  /-- SEQ_SWSTART (R152) -/
  | seqSwstart (m : Master) (j : Fin 4)
  /-- SEQ_GROUP_ISSUE (R153) -/
  | seqGroupIssue (j : Fin 4)
  /-- ADC_EOC (R147) -/
  | adcEoc (adc : Fin 32)
  /-- INJ_ENABLE (R151) -/
  | injEnable (m : Master) (adc : Fin 32) (slot : Fin 2)
  /-- INJ_TRIGGER (R156) -/
  | injTrigger (adc : Fin 32) (slot : Fin 2)
  /-- SWTRIG (R156) -/
  | swtrig (m : Master) (adc : Fin 32) (slot : Fin 2)
  /-- INJ_SLOT_START (R156) -/
  | injSlotStart (adc : Fin 32) (slot : Fin 2)
  /-- CAL_START (R162) -/
  | calStart (m : Master) (adc : Fin 32)
  /-- ADC_CAL_BEGIN (R163) -/
  | adcCalBegin (adc : Fin 32)
  /-- ADC_CAL_DONE (R162) -/
  | adcCalDone (adc : Fin 32) (lo : Nat) (hi : Nat)
  /-- ARM (R164) -/
  | ilArm (m : Master) (k : Fin 16)
  /-- PAIR_BURST_TRIGGER (R164) -/
  | pairBurstTrigger (k : Fin 16)
  /-- PAIR_SWSTART (R164) -/
  | pairSwstart (m : Master) (k : Fin 16)
  /-- PAIR_BURST_DONE (R164) -/
  | pairBurstDone (k : Fin 16)
  /-- PAIR_CAL (R165) -/
  | pairCal (m : Master) (k : Fin 16)
  /-- PAIR_CAL_BEGIN (R165) -/
  | pairCalBegin (k : Fin 16)
  /-- PAIR_CAL_DONE (R165) -/
  | pairCalDone (k : Fin 16) (eLo : Nat) (eHi : Nat) (oLo : Nat) (oHi : Nat) (ramp : List Int)
  /-- ISO_OUTPUT (R173) -/
  | isoOutput (ch : Fin 8) (bits : List Bool)
  /-- ISO_OVERLOAD (R178) -/
  | isoOverload (ch : Fin 8)
  /-- ISO_ENABLE (R179) -/
  | isoEnable (m : Master) (ch : Fin 8) (on : Bool)
  /-- ISO_CAL_START (R180) -/
  | isoCalStart (m : Master) (ch : Fin 8)
  /-- ISO_CAL_DONE (R181) -/
  | isoCalDone (ch : Fin 8) (short : Int) (ref : Int)
  /-- SAMPLE_LINK_WORD (R199) -/
  | sampleLinkWord
  /-- LP_ROUTE_START (R201) -/
  | lpRouteStart (u : Fin 8) (p : Fin 4)
  /-- LP_RUN_START (R204) -/
  | lpRunStart (u : Fin 8)
  /-- NOP (R192) -/
  | cedNop (u : Fin 8)
  /-- END (R192) -/
  | cedEnd (u : Fin 8)
  /-- MOV (R192) -/
  | cedMov (u : Fin 8)
  /-- LDI (R192) -/
  | cedLdi (u : Fin 8)
  /-- ADD (R193) -/
  | cedAdd (u : Fin 8)
  /-- SUB (R193) -/
  | cedSub (u : Fin 8)
  /-- ADDW (R192) -/
  | cedAddw (u : Fin 8)
  /-- MUL (R193) -/
  | cedMul (u : Fin 8)
  /-- MAC (R193) -/
  | cedMac (u : Fin 8)
  /-- MVA (R192) -/
  | cedMva (u : Fin 8)
  /-- CLRA (R192) -/
  | cedClra (u : Fin 8)
  /-- NEG (R192) -/
  | cedNeg (u : Fin 8)
  /-- ABS (R192) -/
  | cedAbs (u : Fin 8)
  /-- MIN (R192) -/
  | cedMin (u : Fin 8)
  /-- MAX (R192) -/
  | cedMax (u : Fin 8)
  /-- CMP (R192) -/
  | cedCmp (u : Fin 8)
  /-- TST (R192) -/
  | cedTst (u : Fin 8)
  /-- SEL (R192) -/
  | cedSel (u : Fin 8)
  /-- DIV (R193) -/
  | cedDiv (u : Fin 8)
  /-- MAG (R192) -/
  | cedMag (u : Fin 8)
  /-- SINCOS (R194) -/
  | cedSincos (u : Fin 8)
  /-- CLARKE (R194) -/
  | cedClarke (u : Fin 8)
  /-- ICLARKE (R194) -/
  | cedIclarke (u : Fin 8)
  /-- PARK (R194) -/
  | cedPark (u : Fin 8)
  /-- IPARK (R194) -/
  | cedIpark (u : Fin 8)
  /-- PI (R195) -/
  | cedPi (u : Fin 8)
  /-- PR (R195) -/
  | cedPr (u : Fin 8)
  /-- SVM (R194) -/
  | cedSvm (u : Fin 8)
  /-- TLU (R197) -/
  | cedTlu (u : Fin 8)
  /-- WRL (R198) -/
  | cedWrl (u : Fin 8)
  /-- REQ (R198) -/
  | cedReq (u : Fin 8)
  /-- OUT (R192) -/
  | cedOut (u : Fin 8)
  /-- WRL_CAPTURE (R198) -/
  | wrlCapture (u : Fin 8)
  /-- REQ_PULSE (R198) -/
  | reqPulse (u : Fin 8)
  /-- PEN (R209) -/
  | lpPen (m : Master) (u : Fin 8) (p : Fin 4)
  /-- LP_VALIDATION_DONE (R209) -/
  | lpValidationDone (u : Fin 8)
  /-- LP_DISABLE (R210) -/
  | lpDisable (m : Master) (u : Fin 8) (p : Fin 4)
  /-- SWAP_REQ (R207) -/
  | swapReq (m : Master) (u : Fin 8)
  /-- CLR (R196) -/
  | blkClr (m : Master) (u : Fin 8) (b : Fin 16)
  /-- FC_ENABLE (R216) -/
  | fcEnable (m : Master) (n : Fin 8)
  /-- FC_DISABLE (R217) -/
  | fcDisable (m : Master) (n : Fin 8)
  /-- START (R231) -/
  | fcStart (m : Master) (n : Fin 8)
  /-- STOP (R231) -/
  | fcStop (m : Master) (n : Fin 8)
  /-- PROBE_PULSE_END (R218) -/
  | probePulseEnd (n : Fin 8)
  /-- ALIGN_EXPIRY (R233) -/
  | alignExpiry (n : Fin 8)
  /-- RAMP_STEP (R221) -/
  | rampStep (n : Fin 8)
  /-- RAMP_TIMEOUT (R234) -/
  | rampTimeout (n : Fin 8)
  /-- RETRY_WAIT_EXPIRY (R235) -/
  | retryWaitExpiry (n : Fin 8)
  /-- SINE_FILL_DONE (R227) -/
  | sineFillDone
  /-- FC_TBL_DATA (R229) -/
  | fcTblData (m : Master) (wr : Bool) (data : BitVec 32)
  /-- OFFS_STORE (R223) -/
  | offsStore (m : Master) (n : Fin 8)
  /-- POS_INPUT_ACCEPT (R244) -/
  | posInputAccept (n : Fin 4) (lv : BitVec 7)
  /-- POS_SPEED_ESTIMATE (R248) -/
  | posSpeedEstimate (n : Fin 4)
  /-- HALL_TIMEOUT (R251) -/
  | hallTimeout (n : Fin 4)
  /-- POS_COUNT_WRITE (R247) -/
  | posCountWrite (m : Master) (n : Fin 4) (v : BitVec 24)
  /-- SSI_FRAME_DONE (R253) -/
  | ssiFrameDone (n : Fin 4) (raw : BitVec 32)
  /-- RESOLVER_SAMPLE_PAIR (R256) -/
  | resolverSamplePair (r : Fin 2) (negPeak : Bool) (nvS : Int) (nvC : Int)
  /-- EXC_FAULT (R258) -/
  | excFault (r : Fin 2)
  /-- POS_ENABLE (R260) -/
  | posEnable (m : Master) (n : Fin 4) (on : Bool)
  /-- RS_ENABLE (R254) -/
  | rsEnable (m : Master) (r : Fin 2) (on : Bool)
  /-- POS_FAULT_CLEAR (R259) -/
  | posFaultClear (m : Master) (n : Fin 4)
  /-- RS_FAULT_CLEAR (R259) -/
  | rsFaultClear (m : Master) (r : Fin 2)
  /-- EMU_ENABLE (R262) -/
  | emuEnable (m : Master) (e : Fin 4) (on : Bool)
  /-- EMU_STEP (R261) -/
  | emuStep (e : Fin 4)
  /-- ROWAN_REFRESH (R266) -/
  | rowanRefresh
  /-- TQ_PERM (R271) -/
  | tqPerm (k : Fin 4)
  /-- DISCH (R280) -/
  | disch (k : Fin 4)
  /-- SAFE_STATE (R271) -/
  | safeState (k : Fin 4)
  /-- RELEASE (R269) -/
  | release (k : Fin 4)
  /-- ROWAN_FAULT (R265) -/
  | rowanFault
  /-- LV_LOST (R280) -/
  | lvLost
  /-- CPX_LOST (R279) -/
  | cpxLost
  /-- VOTE_ITEM (R294) -/
  | voteItem (pc : BitVec 32) (a : Option Item) (e : Option Item) (o : Option Item) (env : BusEnv)
  /-- SYNC_POINT (R296) -/
  | syncPoint (sa : BitVec 32) (se : BitVec 32) (so : BitVec 32)
  /-- OUTVOTE_WINDOW_EXPIRY (R298) -/
  | outvoteWindowExpiry (core : Fin 3)
  /-- YEW_FILL_DONE (R299) -/
  | yewFillDone
  /-- PAIR_TEST_DONE (R301) -/
  | pairTestDone (pass : BitVec 4)
  /-- CHECKER_TEST (R304) -/
  | checkerTest (r : Fin 4)
  /-- CPX_REPORT_SEND (R305) -/
  | cpxReportSend
  /-- SPLIT (R306) -/
  | cpxSplit (m : Master)
  /-- JOIN_RDY (R307) -/
  | joinRdy (m : Master)
  /-- JOIN (R307) -/
  | cpxJoin (m : Master)
  /-- JOIN_FILL_DONE (R307) -/
  | joinFillDone
  /-- CRST (R309) -/
  | crst (m : Master) (core : Fin 3)
  /-- PAUSE (R310) -/
  | cpxPause (m : Master)
  /-- RESUME (R310) -/
  | cpxResume (m : Master)
  /-- CPX_INJ_GO (R304) -/
  | cpxInjGo (m : Master) (core : Fin 4) (bit : Fin 32)
  /-- DCINV (R312) -/
  | dcinv (core : Fin 3) (addr : BitVec 32)
  /-- DCFLUSH (R312) -/
  | dcflush (core : Fin 3) (addr : BitVec 32)
  /-- DCALL (R312) -/
  | dcall (core : Fin 3) (v : BitVec 32)
  /-- MTIME_COMPARE (R313) -/
  | mtimeCompare (core : Fin 3)
  /-- IRQ_SOURCE (R314) -/
  | irqSource (src : Fin 64)
  /-- MB_WRITE (R320) -/
  | mbWrite (m : Master) (n : Fin 64) (w : Fin 17) (v : BitVec 32) (rival : Option (Master × Fin 17 × BitVec 32))
  /-- GO (R321) -/
  | mbGo (m : Master) (n : Fin 64)
  /-- REL (R322) -/
  | mbRel (m : Master) (n : Fin 64)
  /-- ABORT_FILL (R322) -/
  | abortFill (m : Master) (n : Fin 64)
  /-- MB_CFG_WRITE (R319) -/
  | mbCfgWrite (m : Master) (n : Fin 64) (rx : Fin 8) (notify : Bool) (db : Fin 32)
  /-- DB_RING (R325) -/
  | dbRing (m : Master) (e : Fin 6) (v : BitVec 32)
  /-- DB_PEND_CLEAR (R325) -/
  | dbPendClear (m : Master) (e : Fin 6) (v : BitVec 32) (ring : BitVec 32)
  /-- SEM_ACQ (R328) -/
  | semAcq (n : Fin 64) (ms : List Master)
  /-- SEM_RELEASE (R329) -/
  | semRelease (n : Fin 64) (m : Master)
  /-- RD (R333) -/
  | hpRd (p : Fin 2) (addr : BitVec 32) (env : BusEnv)
  /-- RDN (R333) -/
  | hpRdn (p : Fin 2) (addr : BitVec 32) (n : BitVec 8) (env : BusEnv)
  /-- WR (R333) -/
  | hpWr (p : Fin 2) (addr : BitVec 32) (ws : List (BitVec 32))
  /-- RDSR (R333) -/
  | hpRdsr (p : Fin 2)
  /-- RSTEN (R333) -/
  | hpRsten (p : Fin 2)
  /-- RST (R336) -/
  | hpRst (p : Fin 2)
  /-- HP_WRITE_ISSUE (R335) -/
  | hpWriteIssue (p : Fin 2) (env : BusEnv)
  /-- HP_ABANDON (R337) -/
  | hpAbandon (p : Fin 2) (addr : BitVec 32) (reads : Option (BitVec 8)) (ws : List (BitVec 32)) (env : BusEnv)
  /-- PORT_TRAINED (R340) -/
  | portTrained (p : Fin 2) (delay : Nat) (eq : List (Fin 16 × Fin 16))
  /-- TRAINING_RETRY (R340) -/
  | trainingRetry (p : Fin 2)
  /-- PORT_DOWN (R342) -/
  | portDown (p : Fin 2)
  /-- UNWRAP_TIMER (R342) -/
  | unwrapTimer (p : Fin 2)
  /-- UNWRAP (R342) -/
  | chUnwrap (p : Fin 2)
  /-- LANE_FAIL (R341) -/
  | laneFail (p : Fin 2) (lane : Fin 3) (errs : BitVec 16) (unlocked : Bool)
  /-- LSW (R341) -/
  | chLsw (p : Fin 2) (transmit : Bool) (lane : Fin 2)
  /-- DREQ (R350) -/
  | chDreq (p : Fin 2) (sub : Fin 64) (far : Option Nat)
  /-- DRSP (R350) -/
  | chDrsp (p : Fin 2) (sub : Fin 64) (turn : Nat)
  /-- MARK_EMIT (R350) -/
  | markEmit
  /-- MARK (R350) -/
  | chMark (p : Fin 2) (time : BitVec 64) (corr : BitVec 32) (hops : BitVec 8) (dir : Bool) (first : Bool) (sub : Fin 64) (res : Nat)
  /-- MARK_APPLY (R350) -/
  | markApply
  /-- DATA (R347) -/
  | chData (p : Fin 2) (f : ChFrame) (first : Bool)
  /-- CH_TX_GO (R346) -/
  | chTxGo (m : Master)
  /-- TX_FRAME_SEND (R346) -/
  | txFrameSend
  /-- ENUM (R348) -/
  | chEnum (m : Master) (keep : Bool)
  /-- TOKEN (R348) -/
  | chToken (p : Fin 2) (f : ChFrame) (first : Bool)
  /-- ENUM_RETRY (R348) -/
  | enumRetry
  /-- CENSUS_EMIT (R349) -/
  | censusEmit
  /-- CENSUS (R349) -/
  | chCensus (p : Fin 2) (f : ChFrame) (first : Bool)
  /-- CSYNC_ARM (R352) -/
  | csyncArm (m : Master) (per : BitVec 24)
  /-- CARRIER_SYNC (R352) -/
  | carrierSync
  /-- PREPARE_WRITE (R355) -/
  | prepareWrite (m : Master) (id : BitVec 16)
  /-- PREPARE (R354) -/
  | chPrepare (p : Fin 2) (f : ChFrame) (first : Bool)
  /-- ARMED (R355) -/
  | chArmed (p : Fin 2) (f : ChFrame) (first : Bool)
  /-- REFUSED (R355) -/
  | chRefused (p : Fin 2) (f : ChFrame) (first : Bool)
  /-- COMMIT (R356) -/
  | chCommit (p : Fin 2) (f : ChFrame) (first : Bool)
  /-- ABORT (R356) -/
  | chAbort (p : Fin 2) (f : ChFrame) (first : Bool)
  /-- APPLIED (R355) -/
  | chApplied (p : Fin 2) (f : ChFrame) (first : Bool)
  /-- EXPIRED (R356) -/
  | chExpired (p : Fin 2) (f : ChFrame) (first : Bool)
  /-- MC_ARM_TIMEOUT (R355) -/
  | mcArmTimeout
  /-- MC_APPLY (R356) -/
  | mcApply
  /-- MC_RESULT_TIMEOUT (R355) -/
  | mcResultTimeout
  /-- RESET_ONE (R358) -/
  | resetOne (m : Master) (target : Fin 64)
  /-- RESET_ALL (R358) -/
  | resetAll (m : Master)
  /-- RESET (R358) -/
  | chReset (p : Fin 2) (f : ChFrame) (first : Bool)
  /-- CHAIN_RESET_APPLY (R358) -/
  | chainResetApply
  /-- CAN_RUN (R365) -/
  | canRun (m : Master) (n : Fin 6)
  /-- CAN_STOP (R365) -/
  | canStop (m : Master) (n : Fin 6) (idle : Bool)
  /-- CAN_SYNC_DONE (R365) -/
  | canSyncDone (n : Fin 6)
  /-- CAN_TX_SELECT (R370) -/
  | canTxSelect (n : Fin 6) (start : Bool)
  /-- CAN_TX_DONE (R370) -/
  | canTxDone (n : Fin 6) (tdcv : BitVec 7)
  /-- CAN_FRAME_RX (R372) -/
  | canFrameRx (n : Fin 6) (id : BitVec 31) (dlc : Fin 16) (fd : Bool) (brs : Bool) (esi : Bool) (data : List (BitVec 8)) (sof : BitVec 64) (release : BitVec 64)
  /-- CAN_BUS_ERROR (R367) -/
  | canBusError (n : Fin 6) (kind : Fin 6) (exempt : Bool) (grave : Bool)
  /-- TXREQ (R369) -/
  | txreq (m : Master) (n : Fin 6) (w : Fin 2) (v : BitVec 32) (cancel : BitVec 32)
  /-- TXCAN (R371) -/
  | txcan (m : Master) (n : Fin 6) (w : Fin 2) (v : BitVec 32)
  /-- RXFULL_RELEASE (R372) -/
  | rxfullRelease (m : Master) (n : Fin 6) (w : Fin 2) (v : BitVec 32)
  /-- REC_START (R373) -/
  | recStart (m : Master) (n : Fin 6)
  /-- CAN_RECOVERY_DONE (R373) -/
  | canRecoveryDone (n : Fin 6)
  /-- REF_LOST (R377) -/
  | refLost (src : Fin 3) (e : BitVec 16)
  /-- REF_VALID (R377) -/
  | refValid (src : Fin 3) (e : BitVec 16)
  /-- LOCAL_SEL (R378) -/
  | localSel (m : Master) (v : Fin 4) (e : BitVec 16)
  /-- PLL_ENABLE (R381) -/
  | pllEnable (m : Master) (k : Fin 3) (on : Bool)
  /-- RELOCK (R381) -/
  | relock (m : Master) (k : Fin 3)
  /-- BAND_TRY_TIMEOUT (R381) -/
  | bandTryTimeout (k : Fin 3)
  /-- PLL_LOCK (R382) -/
  | pllLock (k : Fin 3)
  /-- PLL_UNLOCK (R382) -/
  | pllUnlock (k : Fin 3)
  /-- PLLS_RETURN (R383) -/
  | pllsReturn
  /-- SLEW_DONE (R385) -/
  | slewDone (e : BitVec 16)
  /-- TICK_STRETCH (R386) -/
  | tickStretch (e : BitVec 16)
  /-- VLV_RISE (R392) -/
  | vlvRise
  /-- VLV_FALL (R394) -/
  | vlvFall (ovr : Bool) (vhb : BitVec 16)
  /-- HVA_RISE (R392) -/
  | hvaRise (ac : Bool)
  /-- HVA_FALL (R394) -/
  | hvaFall (vhb : BitVec 16)
  /-- PREF_WRITE (R393) -/
  | prefWrite (m : Master) (v : Bool)
  /-- NRESET (R399) -/
  | nreset
  /-- SHDN (R402) -/
  | shdn (m : Master)
  /-- SELFTEST_GROUP_DONE (R419) -/
  | selftestGroupDone (r : StResult)
  /-- RST_REQ (R404) -/
  | rstReq (m : Master) (isl : Fin 39)
  /-- ISLAND_RESET_RELEASE (R404) -/
  | islandResetRelease (isl : Fin 39)
  /-- ISL_REL (R404) -/
  | islRel (m : Master) (isl : Fin 39) (clk : Bool)
  /-- ISLAND_POWER_DOWN (R404) -/
  | islandPowerDown (m : Master) (isl : Fin 39) (wake : Bool)
  /-- ISLAND_POWER_UP (R404) -/
  | islandPowerUp (m : Master) (isl : Fin 39)
  /-- ISLAND_POWERED (R404) -/
  | islandPowered (isl : Fin 39)
  /-- CAP_CLR (R407) -/
  | capClr (m : Master)
  /-- CAPTURE_COPY (R407) -/
  | captureCopy
  /-- CLAY_COLD_START (R408) -/
  | clayColdStart
  /-- SCRUB_PASS (R409) -/
  | scrubPass (sbe : Fin 4097) (dbe : List (Fin 4096))
  /-- WAKE_PIN (R411) -/
  | wakePin (lvl : Bool)
  /-- WAKE_AT_MATCH (R411) -/
  | wakeAtMatch
  /-- WEAR_ENTRY (R418) -/
  | wearEntry (written : Bool)
  /-- AGING_READ (R424) -/
  | agingRead (ages : List (Fin 93 × Fin 1024))
  /-- LOAD_WINDOW (R432) -/
  | loadWindow (load : Fin 1001)
  /-- LOG_WRITE (R435) -/
  | logWrite (ok : Bool)
  /-- STATUS (R438) -/
  | mgStatus
  /-- LOG_MARK (R438) -/
  | logMark
  /-- KEY_WRITE (R438) -/
  | keyWrite
  /-- KEY_REVOKE (R438) -/
  | keyRevoke
  /-- SVN_RAISE (R438) -/
  | svnRaise
  /-- RUN_HOUSE (R438) -/
  | runHouse (ages : List (Fin 93 × Fin 1024))
  /-- REPLY_RETRY (R439) -/
  | replyRetry
  /-- MON_ENABLE (R440) -/
  | monEnable (m : Master) (n : Fin 16)
  /-- MON_EVENT (R442) -/
  | monEvent (codes : List (Fin 256)) (at0 : Nat)
  /-- MON_SAMPLE (R444) -/
  | monSample (n : Fin 16) (x : Int)
  /-- MON_CLR (R444) -/
  | monClr (m : Master) (n : Fin 16)
  /-- MON_SWEV (R441) -/
  | monSwev (m : Master) (ev : BitVec 8) (at0 : Nat)
  /-- DIE_LINK_RETURN (R23) -/
  | dieLinkReturn (link : DieLink)
  /-- VGIO_RISE (R113) -/
  | vgioRise
  /-- VGIO_FALL (R113) -/
  | vgioFall
  /-- SAFETY_REGION_FALL (R285) -/
  | safetyRegionFall
  /-- CLAY_SUPPLY_LOSS (R394) -/
  | claySupplyLoss
  /-- ADC_SAMPLING_INSTANT (R147) -/
  | adcSamplingInstant (adc : Fin 32) (nv : Int)
  /-- ISO_OVERLOAD_END (R178) -/
  | isoOverloadEnd (ch : Fin 8)
  /-- ALIGN_PRE_HALF_EXPIRY (R233) -/
  | alignPreHalfExpiry (n : Fin 8)
  /-- DISCHARGE_PWM_EDGE (R281) -/
  | dischargePwmEdge (stage : Fin 8)
  /-- UNKNOWN_COMMAND (R337) -/
  | hpUnknownCommand (p : Fin 2)
  /-- MALFORMED_MANAGEMENT_REQUEST (R439) -/
  | malformedManagementRequest
  /-- MARK_MISSING (R350) -/
  | markMissing
  /-- CAN_ARBITRATION_LOST (R370) -/
  | canArbitrationLost (n : Fin 6)
  /-- PROTOCOL_EXCEPTION_EVENT (R360) -/
  | protocolExceptionEvent (n : Fin 6)
  /-- BAND_SELECTION_RETRY (R401) -/
  | bandSelectionRetry (k : Fin 3)
  /-- CRYSTAL_WAIT_EXPIRY (R378) -/
  | crystalWaitExpiry
  /-- SCRUB_PASS_END (R409) -/
  | scrubPassEnd
  /-- INPUT_MEASUREMENT (R392) -/
  | inputMeasurement (vlv : BitVec 16) (vhb : BitVec 16) (mw : Nat)
deriving DecidableEq, Repr

end Sys2Proof
end

