-- ==== Sys2Proof/Config.lean ====
section
/-! DEFINITION. Constants without a body: the values that the spec leaves open. Nothing can evaluate them, so whatever is proved
holds for every value of them. -/

namespace Sys2Proof

/-- Ticks from the assertion of a trip node to the forwarded-clock edge that stamps it, 0 to 2 (R133). -/
opaque Config.tripStamp : Nat → Fin 3

/-- Where a rule gives a quantity and states no rounding for the register that holds it: whether the value lies above the quantity
(numerator, denominator) or below it. -/
opaque Config.roundsUp : Int → Nat → Bool

/-- The phase advance at a speed while ADV_DSPD is 0 (R224 states no result), in 2^-24 turn. -/
opaque Config.advByZero : Int → Int

/-- The references of the motor map while Vdc or a node distance is not positive (R225 states no result), Q1.15. -/
opaque Config.mapOpen : Int → Int × Int

/-- The amplitude A in 2^-15 for which the coefficients of Rowan's own resolver loop are those of R256 at the natural frequency and
damping of R277, for an AMP_CODE and the squared amplitude of the pair: R277 names no amplitude. -/
opaque Config.rowanAmp : Nat → Nat → Nat

/-- ψd and ψq, in Q1.15 of FLX_FS, for currents outside the nodes of the flux table (R278 states no result). -/
opaque Config.fluxOpen : Rat → Rat → Rat × Rat

/-- The torque estimate of a six-phase stage (R278 states no result), in 0.1 N·m. -/
opaque Config.torqueOpen : Nat → Int

/-- Whether an AUTO entry short-circuits while the link voltage is unknown (R141 states no result). -/
opaque Config.autoOpen : Nat → Bool

/-- On-time of the discharge leg, in Rowan clock cycles, while the link voltage is unknown (R281 states no result). -/
opaque Config.disOnOpen : Nat → Nat

/-- Rising and falling edge, in Rowan clock cycles of the 20 kHz period, of a phase of Rowan's space-vector modulation, for a modulation
index in 1/1,024, an angle in 2^-48 turn and a phase (R282 gives no formula). -/
opaque Config.rowanSvm : Nat → Nat → Nat → Nat × Nat

/-- Does the synchroniser of an ADC cluster take 3 ticks, not 2, for the pulse of a comparator: by tick, comparator and ADC (R149 gives 2 to 3
ticks). -/
opaque Config.syncTick : Nat → Nat → Nat → Bool

/-- Ticks from a period boundary or a change of state until the references of a field channel land (R226 gives a typical figure only). -/
opaque Config.refTicks : Nat

/-- Ticks from a period boundary until the duties of a field channel land (R228 gives a typical figure only). -/
opaque Config.dutyTicks : Nat

/-- REC after a successful reception while it lies above 127: ISO 11898-1 lets it take a value from 119 to 127 (R367). -/
opaque Config.canRec : Nat → Fin 9

/-- COUNT and REV of a position channel after a transition of its Hall state, as REV × 2^24 + COUNT, from their value before, the old and the
new state: R247 has COUNT follow the decoder and states no count for it. -/
opaque Config.hallCount : Nat → Nat → Nat → Nat

/-- Spare rows of a memory array beyond the least number of R413. -/
opaque Config.spareRows : Nat → Nat

/-- The 4 KiB block of an array that holds a row (R422 names no layout of rows). -/
opaque Config.rowBlock : Nat → Nat → Nat

/-- Milliseconds, less one, until Alder expects to stop being busy: the RETRY_MS of a BUSY reply (R437 states a range and no rule). -/
opaque Config.retryMs : Nat → Fin 1000

/-- Which of the differing items CPX_LAST shows, for the PC of the instruction, where they differ in kind, register index or CSR number
(R294 states no choice). -/
opaque Config.itemShown : Nat → Nat

end Sys2Proof
end

