-- ==== Sys2Proof/Machine/SMap.lean ====
section
/-! DEFINITION. Sparse maps: a list of (key, value) pairs in one canonical form (keys strictly rising, no entry equal to
what an unlisted key reads as). The register file, the memories and the banks of unit records are held in it. -/

namespace Sys2Proof.Machine

/-- A sparse map from natural numbers; what an unlisted key reads as is given at each use. -/
abbrev SMap (α : Type) := List (Nat × α)

variable {α : Type}

/-- The value at a key; `d` where the key is not listed. -/
def SMap.get (d : α) : SMap α → Nat → α
  | [], _ => d
  | (k, v) :: t, x => if k = x then v else SMap.get d t x

/-- Insert a pair before the first larger key. -/
def SMap.ins (k : Nat) (v : α) : SMap α → SMap α
  | [] => [(k, v)]
  | (k', v') :: t => if k < k' then (k, v) :: (k', v') :: t else (k', v') :: SMap.ins k v t

/-- Every entry but those of one key. -/
def SMap.drop (k : Nat) (m : SMap α) : SMap α := m.filter fun e => e.1 ≠ k

/-- Set the value at a key; setting what an unlisted key reads as removes the entry. -/
def SMap.set [DecidableEq α] (d : α) (m : SMap α) (k : Nat) (v : α) : SMap α :=
  if v = d then SMap.drop k m else SMap.ins k v (SMap.drop k m)

/-- Keys strictly rising. -/
def SMap.sorted : SMap α → Bool
  | [] => true
  | [_] => true
  | a :: b :: t => decide (a.1 < b.1) && SMap.sorted (b :: t)

/-- The canonical form: keys strictly rising, no entry equal to the default of its key. -/
def SMap.wf [DecidableEq α] (d : Nat → α) (m : SMap α) : Bool :=
  SMap.sorted m && m.all fun e => decide (e.2 ≠ d e.1)

end Sys2Proof.Machine
end

