-- ==== Sys2Proof/Machine/Bits.lean ====
section
/-! DEFINITION. Bit fields, sign extension and saturation: the number conventions of spec/00_scope.md (R5, R7) that every
family shares. Values of registers are natural numbers below two to the field's width. -/

namespace Sys2Proof.Machine

/-- The `w` bits of `n` from bit `lo` upwards. -/
def bits (n lo w : Nat) : Nat := n / 2 ^ lo % 2 ^ w

/-- Bit `i` of `n`. -/
def bitAt (n i : Nat) : Bool := n / 2 ^ i % 2 == 1

/-- `n` with bit `i` set. -/
def withBit (n i : Nat) : Nat := if bitAt n i then n else n + 2 ^ i

/-- `n` with bit `i` cleared. -/
def withoutBit (n i : Nat) : Nat := if bitAt n i then n - 2 ^ i else n

/-- The signed reading of the low `w` bits (two's complement, R7). -/
def sgn (w n : Nat) : Int :=
  let m := n % 2 ^ w
  if m < 2 ^ (w - 1) then (m : Int) else (m : Int) - 2 ^ w

/-- The `w`-bit two's-complement encoding of an integer. -/
def uns (w : Nat) (i : Int) : Nat := (i % (2 ^ w : Int)).toNat

/-- Saturation of an integer to a range. -/
def clampI (lo hi x : Int) : Int := if x < lo then lo else if hi < x then hi else x

/-- Saturation to the signed range of `w` bits. -/
def satI (w : Nat) (x : Int) : Int := clampI (-(2 ^ (w - 1))) (2 ^ (w - 1) - 1) x

/-- A counter that saturates at `m`. -/
def satAdd (m n : Nat) : Nat := if n < m then n + 1 else m

/-- 1 for true, 0 for false: a one-bit field. -/
def b2n (b : Bool) : Nat := if b then 1 else 0

/-- Integer division rounded to nearest, an exact half away from zero (R15), for a positive divisor. -/
def divHalfAway (a : Int) (b : Nat) : Int :=
  if a < 0 then -((2 * (-a) + b) / (2 * b)) else (2 * a + b) / (2 * b)

/-- Rational number rounded to the nearest integer, an exact half away from zero (R15). -/
def roundAway (q : Rat) : Int := divHalfAway q.num q.den

/-- The steps of a binary square root: the bits of the root from 2^(k-1) down. -/
def isqrtGo (n : Nat) : Nat → Nat → Nat
  | 0, r => r
  | k + 1, r => if (r + 2 ^ k) * (r + 2 ^ k) ≤ n then isqrtGo n k (r + 2 ^ k) else isqrtGo n k r

/-- The integer square root of a number below 2^256, rounded down. -/
def isqrt (n : Nat) : Nat := isqrtGo n 128 0

/-- The integer below `q` times the square root of 3. -/
def floorSqrt3 (q : Int) : Int :=
  if 0 ≤ q then (isqrt (3 * q.natAbs * q.natAbs) : Int) else -(isqrt (3 * q.natAbs * q.natAbs) : Int) - 1

/-- (p + q √3) / (2 d) rounded to the nearest integer, an exact half away from zero (R15, R193): with q = 0 the value is rational, with
q ≠ 0 it never lies halfway. -/
def roundSqrt3 (p q : Int) (d : Nat) : Int :=
  if q = 0 then divHalfAway p (2 * d) else (p + d + floorSqrt3 q) / (2 * d)

/-- Is p + q √3 not negative? -/
def sqrt3Nonneg (p q : Int) : Bool := if q = 0 then decide (0 ≤ p) else decide (0 ≤ p + floorSqrt3 q)

/-- The list of the numbers below `n` whose bit is set in `m`. -/
def bitList (n m : Nat) : List Nat := (List.range n).filter (bitAt m)

/-- Little-endian bytes of a number (R5). -/
def leBytes : Nat → Nat → List Nat
  | 0, _ => []
  | k + 1, v => v % 256 :: leBytes k (v / 256)

/-- The number that little-endian bytes spell (R5). -/
def ofLe : List Nat → Nat
  | [] => 0
  | b :: t => b + 256 * ofLe t

/-- The number that big-endian bytes spell. -/
def ofBe (l : List Nat) : Nat := ofLe l.reverse

/-- Run an operation once for each element of a list, in order. -/
def foldEach {α σ : Type} (f : α → σ → σ) : List α → σ → σ
  | [], s => s
  | a :: t, s => foldEach f t (f a s)

/-- Insert a number into a rising list. -/
def insNat (a : Nat) : List Nat → List Nat
  | [] => [a]
  | b :: t => if a ≤ b then a :: b :: t else b :: insNat a t

/-- Insert an element before the first one with a larger key. -/
def insBy {α : Type} (key : α → Nat) (a : α) : List α → List α
  | [] => [a]
  | b :: t => if key b ≤ key a then b :: insBy key a t else a :: b :: t

/-- The elements of a list in rising order of their keys; equal keys keep their order. -/
def sortBy {α : Type} (key : α → Nat) (l : List α) : List α := l.foldl (fun r a => insBy key a r) []

/-- The numbers of a list in rising order. -/
def sortNat : List Nat → List Nat
  | [] => []
  | a :: t => insNat a (sortNat t)

/-- A list of consecutive numbers. -/
def run (a n : Nat) : List Nat := (List.range n).map (a + ·)

end Sys2Proof.Machine
end

