-- ==== Sys2Proof/Machine/Reg.lean ====
section
/-! DEFINITION. Field descriptors: what a register map of the spec states of one field (R11, R12, R13). The maps themselves
are in RegMapA, RegMapB and RegMapC. -/

namespace Sys2Proof.Machine

/-- The access codes of R11. -/
inductive Access where
  | rw | ro | wo | w1c | w1s | rwi
deriving DecidableEq, Repr

/-- The reset classes that a map names for a field (R12); `none` is a field that keeps its content through every reset. -/
inductive RCls where
  | none | p | pm | pmd
deriving DecidableEq, Repr

/-- One field of one register, or of every register of an array of one or two dimensions. -/
structure FD where
  /-- window number: the window base is 0x4000_0000 + blk × 0x1_0000 (R17) -/
  blk : Nat
  /-- offset of the first register of the array -/
  off : Nat
  /-- units in the first dimension, and their stride -/
  n1 : Nat
  s1 : Nat
  /-- units in the second dimension, and their stride -/
  n2 : Nat
  s2 : Nat
  /-- lowest bit and width; a field of more than 32 bits spans consecutive registers (R10) -/
  lo : Nat
  w : Nat
  acc : Access
  /-- reset value of the unit with the given indices -/
  rst : Nat → Nat → Nat
  cls : RCls

namespace Reg

/-- A reset value that is the same for every unit of the array. -/
def k (v : Nat) : Nat → Nat → Nat := fun _ _ => v

/-- A reset value that depends on the parity of the unit (the comparators of a window pair). -/
def evenOdd (e o : Nat) : Nat → Nat → Nat := fun i _ => if i % 2 = 0 then e else o

/-- PD_CAP: the gateable islands of R404 are CPX, ALD, MON, CAN, CHN, HP0 and HP1. -/
def gateable : Nat → Nat → Nat := fun i _ => if [0x09, 0x0A, 0x0D, 0x0E, 0x0F, 0x10, 0x11].contains i then 1 else 0

end Reg

/-- The address of the register word that holds the field's lowest bit, for unit `i`, sub-unit `j` (R13). -/
def FD.addr (f : FD) (i j : Nat) : Nat := 0x40000000 + f.blk * 0x10000 + f.off + i * f.s1 + j * f.s2

/-- The key under which the register file holds the field: its address and its lowest bit. -/
def FD.key (f : FD) (i j : Nat) : Nat := f.addr i j * 32 + f.lo

/-- The indices of the unit whose register holds byte offset `off` of the window, if it belongs to this array; the third
component is the word within a wide field. -/
def FD.locate (f : FD) (off : Nat) : Option (Nat × Nat × Nat) :=
  if off < f.off then none
  else
    let d := off - f.off
    let i := if f.s1 = 0 then 0 else d / f.s1
    let d1 := d - i * f.s1
    let j := if f.s2 = 0 then 0 else d1 / f.s2
    let r := d1 - j * f.s2
    let words := (f.w + 31) / 32
    if i < f.n1 ∧ j < f.n2 ∧ r < 4 * words ∧ r % 4 = 0 then some (i, j, r / 4) else none

end Sys2Proof.Machine
end

