-- ==== Sys2Proof/Machine/RegMapA.lean ====
section
/-! DEFINITION. The register maps of spec/02_ahnulo_image.md, 03_timebases_and_legs.md, 04_dead_time_and_extremes.md, 05_protection.md: one field
descriptor per field (window, offset, first and second array dimension, lowest bit, width, access code, reset
value, reset classes), and the list of the registers of each chapter. -/

namespace Sys2Proof.Machine.Reg

/-! ## spec/02_ahnulo_image.md -/

def IMG_STATUS.BOOT_INDEP : FD := ⟨16, 0x0, 1, 0x0, 1, 0x0, 8, 1, .ro, (k 0), .pm⟩
def IMG_STATUS.CM_ALLOW : FD := ⟨16, 0x0, 1, 0x0, 1, 0x0, 7, 1, .ro, (k 0), .pm⟩
def IMG_STATUS.LOCK_OPEN : FD := ⟨16, 0x0, 1, 0x0, 1, 0x0, 6, 1, .ro, (k 0), .pm⟩
def IMG_STATUS.FALLBACK : FD := ⟨16, 0x0, 1, 0x0, 1, 0x0, 3, 1, .ro, (k 0), .pm⟩
def IMG_STATUS.ACTIVE_SLOT : FD := ⟨16, 0x0, 1, 0x0, 1, 0x0, 2, 1, .ro, (k 0), .pm⟩
def IMG_STATUS.STATE : FD := ⟨16, 0x0, 1, 0x0, 1, 0x0, 0, 2, .ro, (k 0), .pm⟩

def IMG_CTRL.LOAD_ERR : FD := ⟨16, 0x4, 1, 0x0, 1, 0x0, 8, 1, .w1c, (k 0), .pm⟩
def IMG_CTRL.NEXT_PREF : FD := ⟨16, 0x4, 1, 0x0, 1, 0x0, 4, 2, .rw, (k 0), .none⟩
def IMG_CTRL.SLOT : FD := ⟨16, 0x4, 1, 0x0, 1, 0x0, 1, 1, .rw, (k 0), .pm⟩
def IMG_CTRL.LOAD : FD := ⟨16, 0x4, 1, 0x0, 1, 0x0, 0, 1, .w1s, (k 0), .pm⟩

def IMG_SEQ.SEQ : FD := ⟨16, 0x8, 2, 0x4, 1, 0x0, 0, 32, .ro, (k 0), .pm⟩

def IMG_BUILD.BUILD_ID : FD := ⟨16, 0x10, 1, 0x0, 1, 0x0, 0, 32, .ro, (k 0), .pm⟩

def IMG_FAIL.FAIL_RES : FD := ⟨16, 0x14, 1, 0x0, 1, 0x0, 16, 12, .ro, (k 0), .pm⟩
def IMG_FAIL.FAIL_SLOT : FD := ⟨16, 0x14, 1, 0x0, 1, 0x0, 8, 1, .ro, (k 0), .pm⟩
def IMG_FAIL.FAIL_CODE : FD := ⟨16, 0x14, 1, 0x0, 1, 0x0, 0, 8, .ro, (k 0), .pm⟩

def IMG_LOCK.UNLOCK_ERR : FD := ⟨16, 0x20, 1, 0x0, 1, 0x0, 20, 1, .w1c, (k 0), .pm⟩
def IMG_LOCK.OPENER : FD := ⟨16, 0x20, 1, 0x0, 1, 0x0, 18, 2, .ro, (k 0), .pm⟩
def IMG_LOCK.OPEN : FD := ⟨16, 0x20, 1, 0x0, 1, 0x0, 17, 1, .ro, (k 0), .pm⟩
def IMG_LOCK.CLOSE : FD := ⟨16, 0x20, 1, 0x0, 1, 0x0, 16, 1, .wo, (k 0), .none⟩
def IMG_LOCK.KEY : FD := ⟨16, 0x20, 1, 0x0, 1, 0x0, 0, 16, .wo, (k 0), .none⟩

def CLM_STATUS.CONFLICT_CNT : FD := ⟨16, 0x30, 1, 0x0, 1, 0x0, 8, 8, .ro, (k 0), .pm⟩
def CLM_STATUS.DYN_DROPPED : FD := ⟨16, 0x30, 1, 0x0, 1, 0x0, 2, 1, .w1c, (k 0), .pm⟩
def CLM_STATUS.RWI_DISCARD : FD := ⟨16, 0x30, 1, 0x0, 1, 0x0, 1, 1, .w1c, (k 0), .pm⟩
def CLM_STATUS.CONFLICT : FD := ⟨16, 0x30, 1, 0x0, 1, 0x0, 0, 1, .w1c, (k 0), .pm⟩

def CLM_LAST.RES_ID : FD := ⟨16, 0x34, 1, 0x0, 1, 0x0, 16, 12, .ro, (k 0), .pm⟩
def CLM_LAST.REQUESTER : FD := ⟨16, 0x34, 1, 0x0, 1, 0x0, 8, 8, .ro, (k 0), .pm⟩
def CLM_LAST.OWNER : FD := ⟨16, 0x34, 1, 0x0, 1, 0x0, 0, 8, .ro, (k 0), .pm⟩

def RWI_LAST.REASON : FD := ⟨16, 0x38, 1, 0x0, 1, 0x0, 22, 2, .ro, (k 0), .pm⟩
def RWI_LAST.MASTER : FD := ⟨16, 0x38, 1, 0x0, 1, 0x0, 20, 2, .ro, (k 0), .pm⟩
def RWI_LAST.WORD : FD := ⟨16, 0x38, 1, 0x0, 1, 0x0, 0, 20, .ro, (k 0), .pm⟩

def STG_DESC.ATTR : FD := ⟨16, 0x100, 8, 0x10, 1, 0x0, 16, 4, .rwi, (k 0), .pm⟩
def STG_DESC.LU : FD := ⟨16, 0x100, 8, 0x10, 1, 0x0, 8, 4, .rwi, (k 0), .pm⟩
def STG_DESC.TB : FD := ⟨16, 0x100, 8, 0x10, 1, 0x0, 4, 3, .rwi, (k 0), .pm⟩
def STG_DESC.KIND : FD := ⟨16, 0x100, 8, 0x10, 1, 0x0, 0, 3, .rwi, (k 0), .pm⟩

def STG_LEGS.LEGS : FD := ⟨16, 0x104, 8, 0x10, 1, 0x0, 0, 24, .rwi, (k 0), .pm⟩

def STG_CTRL.EN_DENIED : FD := ⟨16, 0x108, 8, 0x10, 1, 0x0, 1, 1, .w1c, (k 0), .pm⟩
def STG_CTRL.EN : FD := ⟨16, 0x108, 8, 0x10, 1, 0x0, 0, 1, .rw, (k 0), .pm⟩

def STG_STATE.FAIL_RES : FD := ⟨16, 0x10C, 8, 0x10, 1, 0x0, 16, 12, .ro, (k 0), .pm⟩
def STG_STATE.DEGRADED : FD := ⟨16, 0x10C, 8, 0x10, 1, 0x0, 2, 1, .ro, (k 0), .pm⟩
def STG_STATE.CLAIM_FAIL : FD := ⟨16, 0x10C, 8, 0x10, 1, 0x0, 1, 1, .ro, (k 0), .pm⟩
def STG_STATE.READY : FD := ⟨16, 0x10C, 8, 0x10, 1, 0x0, 0, 1, .ro, (k 0), .pm⟩

def CLAIM.STATE : FD := ⟨16, 0x8000, 2818, 0x4, 1, 0x0, 8, 2, .ro, (k 0), .pm⟩
def CLAIM.OWNER : FD := ⟨16, 0x8000, 2818, 0x4, 1, 0x0, 0, 8, .ro, (k 0), .pm⟩

/-- The registers of spec/02_ahnulo_image.md, each with its fields. -/
def map02 : List (List FD) :=
  [[IMG_STATUS.BOOT_INDEP, IMG_STATUS.CM_ALLOW, IMG_STATUS.LOCK_OPEN, IMG_STATUS.FALLBACK, IMG_STATUS.ACTIVE_SLOT, IMG_STATUS.STATE],
   [IMG_CTRL.LOAD_ERR, IMG_CTRL.NEXT_PREF, IMG_CTRL.SLOT, IMG_CTRL.LOAD],
   [IMG_SEQ.SEQ],
   [IMG_BUILD.BUILD_ID],
   [IMG_FAIL.FAIL_RES, IMG_FAIL.FAIL_SLOT, IMG_FAIL.FAIL_CODE],
   [IMG_LOCK.UNLOCK_ERR, IMG_LOCK.OPENER, IMG_LOCK.OPEN, IMG_LOCK.CLOSE, IMG_LOCK.KEY],
   [CLM_STATUS.CONFLICT_CNT, CLM_STATUS.DYN_DROPPED, CLM_STATUS.RWI_DISCARD, CLM_STATUS.CONFLICT],
   [CLM_LAST.RES_ID, CLM_LAST.REQUESTER, CLM_LAST.OWNER],
   [RWI_LAST.REASON, RWI_LAST.MASTER, RWI_LAST.WORD],
   [STG_DESC.ATTR, STG_DESC.LU, STG_DESC.TB, STG_DESC.KIND],
   [STG_LEGS.LEGS],
   [STG_CTRL.EN_DENIED, STG_CTRL.EN],
   [STG_STATE.FAIL_RES, STG_STATE.DEGRADED, STG_STATE.CLAIM_FAIL, STG_STATE.READY],
   [CLAIM.STATE, CLAIM.OWNER]]

/-! ## spec/03_timebases_and_legs.md -/

def TB_FSW.FSW : FD := ⟨0, 0x6000, 8, 0x100, 1, 0x0, 0, 32, .rw, (k 0), .pmd⟩

def TB_PHASE.PHASE : FD := ⟨0, 0x6004, 8, 0x100, 1, 0x0, 0, 16, .rw, (k 0), .pmd⟩

def TB_CTRL.RLD_AT : FD := ⟨0, 0x6008, 8, 0x100, 1, 0x0, 24, 2, .rw, (k 0), .pmd⟩
def TB_CTRL.UPD_EVERY : FD := ⟨0, 0x6008, 8, 0x100, 1, 0x0, 16, 5, .rw, (k 1), .pmd⟩
def TB_CTRL.SYNC_TB : FD := ⟨0, 0x6008, 8, 0x100, 1, 0x0, 13, 3, .rw, (k 0), .pmd⟩
def TB_CTRL.SYNC_SRC : FD := ⟨0, 0x6008, 8, 0x100, 1, 0x0, 10, 3, .rw, (k 0), .pmd⟩
def TB_CTRL.UPD_HOLD : FD := ⟨0, 0x6008, 8, 0x100, 1, 0x0, 8, 1, .rw, (k 0), .pmd⟩
def TB_CTRL.MODE : FD := ⟨0, 0x6008, 8, 0x100, 1, 0x0, 4, 2, .rw, (k 0), .pmd⟩
def TB_CTRL.SWSYNC : FD := ⟨0, 0x6008, 8, 0x100, 1, 0x0, 1, 1, .wo, (k 0), .none⟩
def TB_CTRL.RUN : FD := ⟨0, 0x6008, 8, 0x100, 1, 0x0, 0, 1, .rw, (k 0), .pmd⟩

def TB_STATUS.UPD_CNT : FD := ⟨0, 0x600C, 8, 0x100, 1, 0x0, 19, 5, .ro, (k 0), .pmd⟩
def TB_STATUS.DIR : FD := ⟨0, 0x600C, 8, 0x100, 1, 0x0, 18, 1, .ro, (k 0), .pmd⟩
def TB_STATUS.RUNNING : FD := ⟨0, 0x600C, 8, 0x100, 1, 0x0, 17, 1, .ro, (k 0), .pmd⟩
def TB_STATUS.RUN_DENIED : FD := ⟨0, 0x600C, 8, 0x100, 1, 0x0, 7, 1, .w1c, (k 0), .pmd⟩
def TB_STATUS.MODE_DENIED : FD := ⟨0, 0x600C, 8, 0x100, 1, 0x0, 6, 1, .w1c, (k 0), .pmd⟩
def TB_STATUS.PER_ERR : FD := ⟨0, 0x600C, 8, 0x100, 1, 0x0, 5, 1, .w1c, (k 0), .pmd⟩
def TB_STATUS.CNT_ERR : FD := ⟨0, 0x600C, 8, 0x100, 1, 0x0, 4, 1, .w1c, (k 0), .pmd⟩
def TB_STATUS.SYNC_JUMP : FD := ⟨0, 0x600C, 8, 0x100, 1, 0x0, 3, 1, .w1c, (k 0), .pmd⟩
def TB_STATUS.HOLD_SKIP : FD := ⟨0, 0x600C, 8, 0x100, 1, 0x0, 2, 1, .w1c, (k 0), .pmd⟩

def TBG_START.START : FD := ⟨0, 0x7000, 1, 0x0, 1, 0x0, 0, 8, .w1s, (k 0), .pmd⟩

def TBG_STATUS.LAD_ERR : FD := ⟨0, 0x7004, 1, 0x0, 1, 0x0, 1, 1, .ro, (k 0), .pmd⟩
def TBG_STATUS.LAD_LOCK : FD := ⟨0, 0x7004, 1, 0x0, 1, 0x0, 0, 1, .ro, (k 0), .pmd⟩

def LEG_DUTY_A.DUTY_A : FD := ⟨0, 0x0, 24, 0x400, 1, 0x0, 0, 32, .rw, (k 0), .pmd⟩

def LEG_DUTY_B.DUTY_B : FD := ⟨0, 0x4, 24, 0x400, 1, 0x0, 0, 32, .rw, (k 0), .pmd⟩

def LEG_TRGPOS.POS : FD := ⟨0, 0x10, 24, 0x400, 4, 0x4, 0, 16, .rw, (k 0), .pmd⟩

def LEG_CMPA.TICK : FD := ⟨0, 0x8000, 24, 0x400, 1, 0x0, 7, 25, .rw, (k 0), .pmd⟩
def LEG_CMPA.FINE : FD := ⟨0, 0x8000, 24, 0x400, 1, 0x0, 0, 7, .rw, (k 0), .pmd⟩

def LEG_CMPB.TICK : FD := ⟨0, 0x8004, 24, 0x400, 1, 0x0, 7, 25, .rw, (k 0), .pmd⟩
def LEG_CMPB.FINE : FD := ⟨0, 0x8004, 24, 0x400, 1, 0x0, 0, 7, .rw, (k 0), .pmd⟩

def LEG_CMPA_ACT.CMPA_ACT : FD := ⟨0, 0x8008, 24, 0x400, 1, 0x0, 0, 32, .ro, (k 0), .pmd⟩

def LEG_CMPB_ACT.CMPB_ACT : FD := ⟨0, 0x800C, 24, 0x400, 1, 0x0, 0, 32, .ro, (k 0), .pmd⟩

def LEG_TRG.EN : FD := ⟨0, 0x8010, 24, 0x400, 4, 0x4, 27, 1, .rw, (k 0), .pmd⟩
def LEG_TRG.DIR : FD := ⟨0, 0x8010, 24, 0x400, 4, 0x4, 25, 2, .rw, (k 0), .pmd⟩
def LEG_TRG.TICK : FD := ⟨0, 0x8010, 24, 0x400, 4, 0x4, 0, 25, .rw, (k 0), .pmd⟩

def LEG_ACTQ.CBD : FD := ⟨0, 0x8020, 24, 0x400, 1, 0x0, 10, 2, .rw, (k 0), .pmd⟩
def LEG_ACTQ.CBU : FD := ⟨0, 0x8020, 24, 0x400, 1, 0x0, 8, 2, .rw, (k 0), .pmd⟩
def LEG_ACTQ.CAD : FD := ⟨0, 0x8020, 24, 0x400, 1, 0x0, 6, 2, .rw, (k 0), .pmd⟩
def LEG_ACTQ.CAU : FD := ⟨0, 0x8020, 24, 0x400, 1, 0x0, 4, 2, .rw, (k 1), .pmd⟩
def LEG_ACTQ.PRD : FD := ⟨0, 0x8020, 24, 0x400, 1, 0x0, 2, 2, .rw, (k 0), .pmd⟩
def LEG_ACTQ.ZRO : FD := ⟨0, 0x8020, 24, 0x400, 1, 0x0, 0, 2, .rw, (k 2), .pmd⟩

def LEG_CFG.REF_INIT : FD := ⟨0, 0x8024, 24, 0x400, 1, 0x0, 6, 1, .rw, (k 0), .pmd⟩
def LEG_CFG.FORCE : FD := ⟨0, 0x8024, 24, 0x400, 1, 0x0, 4, 2, .rw, (k 0), .pmd⟩
def LEG_CFG.SHD_TRG : FD := ⟨0, 0x8024, 24, 0x400, 1, 0x0, 2, 1, .rw, (k 1), .pmd⟩
def LEG_CFG.SHD_B : FD := ⟨0, 0x8024, 24, 0x400, 1, 0x0, 1, 1, .rw, (k 1), .pmd⟩
def LEG_CFG.SHD_A : FD := ⟨0, 0x8024, 24, 0x400, 1, 0x0, 0, 1, .rw, (k 1), .pmd⟩

def LEG_STATUS.IMM_LATE : FD := ⟨0, 0x8028, 24, 0x400, 1, 0x0, 10, 1, .w1c, (k 0), .pmd⟩
def LEG_STATUS.SHD_COLL : FD := ⟨0, 0x8028, 24, 0x400, 1, 0x0, 9, 1, .w1c, (k 0), .pmd⟩
def LEG_STATUS.XFER_COINC : FD := ⟨0, 0x8028, 24, 0x400, 1, 0x0, 8, 1, .w1c, (k 0), .pmd⟩
def LEG_STATUS.REF : FD := ⟨0, 0x8028, 24, 0x400, 1, 0x0, 3, 1, .ro, (k 0), .pmd⟩
def LEG_STATUS.PEND_TRG : FD := ⟨0, 0x8028, 24, 0x400, 1, 0x0, 2, 1, .ro, (k 0), .pmd⟩
def LEG_STATUS.PEND_B : FD := ⟨0, 0x8028, 24, 0x400, 1, 0x0, 1, 1, .ro, (k 0), .pmd⟩
def LEG_STATUS.PEND_A : FD := ⟨0, 0x8028, 24, 0x400, 1, 0x0, 0, 1, .ro, (k 0), .pmd⟩

def LEG_LAD.CAL_CODE : FD := ⟨0, 0x8030, 24, 0x400, 3, 0x4, 8, 12, .ro, (k 0), .pmd⟩
def LEG_LAD.SPARE_TAPS : FD := ⟨0, 0x8030, 24, 0x400, 3, 0x4, 4, 4, .ro, (k 0), .pmd⟩
def LEG_LAD.CAL_ERR : FD := ⟨0, 0x8030, 24, 0x400, 3, 0x4, 1, 1, .ro, (k 0), .pmd⟩
def LEG_LAD.LOCK : FD := ⟨0, 0x8030, 24, 0x400, 3, 0x4, 0, 1, .ro, (k 0), .pmd⟩

def TB_PER.PER : FD := ⟨0, 0xE000, 8, 0x100, 1, 0x0, 0, 24, .rw, (k 0), .pmd⟩

def TB_PER_ACT.PER_ACT : FD := ⟨0, 0xE004, 8, 0x100, 1, 0x0, 0, 24, .ro, (k 0), .pmd⟩

def TB_PHS.PHS_DIR : FD := ⟨0, 0xE008, 8, 0x100, 1, 0x0, 24, 1, .rw, (k 0), .pmd⟩
def TB_PHS.PHS : FD := ⟨0, 0xE008, 8, 0x100, 1, 0x0, 0, 24, .rw, (k 0), .pmd⟩

def TB_CNT.CNT : FD := ⟨0, 0xE00C, 8, 0x100, 1, 0x0, 0, 24, .ro, (k 0), .pmd⟩

/-- The registers of spec/03_timebases_and_legs.md, each with its fields. -/
def map03 : List (List FD) :=
  [[TB_FSW.FSW],
   [TB_PHASE.PHASE],
   [TB_CTRL.RLD_AT, TB_CTRL.UPD_EVERY, TB_CTRL.SYNC_TB, TB_CTRL.SYNC_SRC, TB_CTRL.UPD_HOLD, TB_CTRL.MODE, TB_CTRL.SWSYNC, TB_CTRL.RUN],
   [TB_STATUS.UPD_CNT, TB_STATUS.DIR, TB_STATUS.RUNNING, TB_STATUS.RUN_DENIED, TB_STATUS.MODE_DENIED, TB_STATUS.PER_ERR, TB_STATUS.CNT_ERR, TB_STATUS.SYNC_JUMP, TB_STATUS.HOLD_SKIP],
   [TBG_START.START],
   [TBG_STATUS.LAD_ERR, TBG_STATUS.LAD_LOCK],
   [LEG_DUTY_A.DUTY_A],
   [LEG_DUTY_B.DUTY_B],
   [LEG_TRGPOS.POS],
   [LEG_CMPA.TICK, LEG_CMPA.FINE],
   [LEG_CMPB.TICK, LEG_CMPB.FINE],
   [LEG_CMPA_ACT.CMPA_ACT],
   [LEG_CMPB_ACT.CMPB_ACT],
   [LEG_TRG.EN, LEG_TRG.DIR, LEG_TRG.TICK],
   [LEG_ACTQ.CBD, LEG_ACTQ.CBU, LEG_ACTQ.CAD, LEG_ACTQ.CAU, LEG_ACTQ.PRD, LEG_ACTQ.ZRO],
   [LEG_CFG.REF_INIT, LEG_CFG.FORCE, LEG_CFG.SHD_TRG, LEG_CFG.SHD_B, LEG_CFG.SHD_A],
   [LEG_STATUS.IMM_LATE, LEG_STATUS.SHD_COLL, LEG_STATUS.XFER_COINC, LEG_STATUS.REF, LEG_STATUS.PEND_TRG, LEG_STATUS.PEND_B, LEG_STATUS.PEND_A],
   [LEG_LAD.CAL_CODE, LEG_LAD.SPARE_TAPS, LEG_LAD.CAL_ERR, LEG_LAD.LOCK],
   [TB_PER.PER],
   [TB_PER_ACT.PER_ACT],
   [TB_PHS.PHS_DIR, TB_PHS.PHS],
   [TB_CNT.CNT]]

/-! ## spec/04_dead_time_and_extremes.md -/

def LEG_DT_RISE.DT_RISE : FD := ⟨0, 0x100, 24, 0x400, 1, 0x0, 0, 32, .rw, (k 0), .pmd⟩

def LEG_DT_FALL.DT_RISE : FD := ⟨0, 0x104, 24, 0x400, 1, 0x0, 0, 32, .rw, (k 0), .pmd⟩

def LEG_MINP_B.MINP : FD := ⟨0, 0x108, 24, 0x400, 1, 0x0, 0, 32, .rw, (k 0), .pmd⟩

def LEG_ADT_MARGIN.ADT_MARGIN : FD := ⟨0, 0x10C, 24, 0x400, 1, 0x0, 0, 32, .rw, (k 0), .pmd⟩

def LEG_DTR.TICK : FD := ⟨0, 0x8100, 24, 0x400, 1, 0x0, 7, 12, .rw, (k 0), .pmd⟩
def LEG_DTR.FINE : FD := ⟨0, 0x8100, 24, 0x400, 1, 0x0, 0, 7, .rw, (k 0), .pmd⟩

def LEG_DTF.TICK : FD := ⟨0, 0x8104, 24, 0x400, 1, 0x0, 7, 12, .rw, (k 0), .pmd⟩
def LEG_DTF.FINE : FD := ⟨0, 0x8104, 24, 0x400, 1, 0x0, 0, 7, .rw, (k 0), .pmd⟩

def LEG_MINP.TICK : FD := ⟨0, 0x8108, 24, 0x400, 1, 0x0, 7, 10, .rw, (k 0), .pmd⟩
def LEG_MINP.FINE : FD := ⟨0, 0x8108, 24, 0x400, 1, 0x0, 0, 7, .rw, (k 0), .pmd⟩

def LEG_OUT_CFG.POL_SRC : FD := ⟨0, 0x810C, 24, 0x400, 1, 0x0, 13, 1, .rw, (k 0), .pmd⟩
def LEG_OUT_CFG.ADT_EN : FD := ⟨0, 0x810C, 24, 0x400, 1, 0x0, 12, 1, .rw, (k 0), .pmd⟩
def LEG_OUT_CFG.DRV : FD := ⟨0, 0x810C, 24, 0x400, 1, 0x0, 8, 2, .rw, (k 1), .pmd⟩
def LEG_OUT_CFG.MINP_MODE : FD := ⟨0, 0x810C, 24, 0x400, 1, 0x0, 0, 2, .rw, (k 2), .pmd⟩

def LEG_FLOOR.DT_FLOOR : FD := ⟨0, 0x8110, 24, 0x400, 1, 0x0, 0, 19, .rwi, (k 0), .pm⟩

def LEG_PAD_CFG.OUTMODE : FD := ⟨0, 0x8114, 24, 0x400, 1, 0x0, 4, 2, .rwi, (k 0), .pm⟩
def LEG_PAD_CFG.INV_L : FD := ⟨0, 0x8114, 24, 0x400, 1, 0x0, 1, 1, .rwi, (k 0), .pm⟩
def LEG_PAD_CFG.INV_H : FD := ⟨0, 0x8114, 24, 0x400, 1, 0x0, 0, 1, .rwi, (k 0), .pm⟩

def LEG_ADT_CFG.STEP : FD := ⟨0, 0x8118, 24, 0x400, 1, 0x0, 16, 8, .rw, (k 0), .pmd⟩
def LEG_ADT_CFG.MARGIN : FD := ⟨0, 0x8118, 24, 0x400, 1, 0x0, 0, 16, .rw, (k 0), .pmd⟩

def LEG_ADT_LIM.SWN_WIN : FD := ⟨0, 0x811C, 24, 0x400, 1, 0x0, 24, 8, .rw, (k 0), .pmd⟩
def LEG_ADT_LIM.MISS_LIM : FD := ⟨0, 0x811C, 24, 0x400, 1, 0x0, 16, 8, .rw, (k 0), .pmd⟩
def LEG_ADT_LIM.TRIM_LIM : FD := ⟨0, 0x811C, 24, 0x400, 1, 0x0, 0, 16, .rw, (k 0), .pmd⟩

def LEG_SWN_CFG.INV : FD := ⟨0, 0x8120, 24, 0x400, 1, 0x0, 8, 1, .rw, (k 0), .pmd⟩
def LEG_SWN_CFG.FLT : FD := ⟨0, 0x8120, 24, 0x400, 1, 0x0, 0, 8, .rw, (k 4), .pmd⟩

def LEG_ADT_TRIM.TRIM_FALL : FD := ⟨0, 0x8124, 24, 0x400, 1, 0x0, 16, 16, .rw, (k 0), .pmd⟩
def LEG_ADT_TRIM.TRIM_RISE : FD := ⟨0, 0x8124, 24, 0x400, 1, 0x0, 0, 16, .rw, (k 0), .pmd⟩

def LEG_DT_EFF_R.DT_R : FD := ⟨0, 0x8128, 24, 0x400, 1, 0x0, 0, 19, .ro, (k 0), .pmd⟩

def LEG_DT_EFF_F.DT_F : FD := ⟨0, 0x812C, 24, 0x400, 1, 0x0, 0, 19, .ro, (k 0), .pmd⟩

def LEG_SWN_DLY.D_FALL : FD := ⟨0, 0x8130, 24, 0x400, 1, 0x0, 16, 16, .ro, (k 0), .pmd⟩
def LEG_SWN_DLY.D_RISE : FD := ⟨0, 0x8130, 24, 0x400, 1, 0x0, 0, 16, .ro, (k 0), .pmd⟩

def LEG_SWN_TS.EDGE : FD := ⟨0, 0x8134, 24, 0x400, 1, 0x0, 31, 1, .ro, (k 0), .pmd⟩
def LEG_SWN_TS.CNT : FD := ⟨0, 0x8134, 24, 0x400, 1, 0x0, 7, 24, .ro, (k 0), .pmd⟩
def LEG_SWN_TS.FINE : FD := ⟨0, 0x8134, 24, 0x400, 1, 0x0, 0, 7, .ro, (k 0), .pmd⟩

def LEG_DT_STATUS.SWN_LVL : FD := ⟨0, 0x8138, 24, 0x400, 1, 0x0, 15, 1, .ro, (k 0), .pmd⟩
def LEG_DT_STATUS.POL : FD := ⟨0, 0x8138, 24, 0x400, 1, 0x0, 13, 2, .ro, (k 0), .pmd⟩
def LEG_DT_STATUS.ADT_RUN : FD := ⟨0, 0x8138, 24, 0x400, 1, 0x0, 12, 1, .ro, (k 0), .pmd⟩
def LEG_DT_STATUS.PAD_MISMATCH : FD := ⟨0, 0x8138, 24, 0x400, 1, 0x0, 8, 1, .w1c, (k 0), .pmd⟩
def LEG_DT_STATUS.CFG_ERR : FD := ⟨0, 0x8138, 24, 0x400, 1, 0x0, 7, 1, .w1c, (k 0), .pmd⟩
def LEG_DT_STATUS.DT_ERR : FD := ⟨0, 0x8138, 24, 0x400, 1, 0x0, 6, 1, .w1c, (k 0), .pmd⟩
def LEG_DT_STATUS.SWN_UNEXP : FD := ⟨0, 0x8138, 24, 0x400, 1, 0x0, 5, 1, .w1c, (k 0), .pmd⟩
def LEG_DT_STATUS.ADT_FAIL : FD := ⟨0, 0x8138, 24, 0x400, 1, 0x0, 4, 1, .w1c, (k 0), .pmd⟩
def LEG_DT_STATUS.ADT_LIMIT : FD := ⟨0, 0x8138, 24, 0x400, 1, 0x0, 3, 1, .w1c, (k 0), .pmd⟩
def LEG_DT_STATUS.DT_CLAMP : FD := ⟨0, 0x8138, 24, 0x400, 1, 0x0, 2, 1, .w1c, (k 0), .pmd⟩
def LEG_DT_STATUS.MERGE : FD := ⟨0, 0x8138, 24, 0x400, 1, 0x0, 1, 1, .w1c, (k 0), .pmd⟩
def LEG_DT_STATUS.MINP_ACT : FD := ⟨0, 0x8138, 24, 0x400, 1, 0x0, 0, 1, .w1c, (k 0), .pmd⟩

def LEG_DT_CNT.UNEXP_CNT : FD := ⟨0, 0x813C, 24, 0x400, 1, 0x0, 16, 16, .rw, (k 0), .pmd⟩
def LEG_DT_CNT.MINP_CNT : FD := ⟨0, 0x813C, 24, 0x400, 1, 0x0, 0, 16, .rw, (k 0), .pmd⟩

def LEG_ISIGN.ISIGN : FD := ⟨0, 0x8140, 24, 0x400, 1, 0x0, 0, 2, .rw, (k 0), .pmd⟩

/-- The registers of spec/04_dead_time_and_extremes.md, each with its fields. -/
def map04 : List (List FD) :=
  [[LEG_DT_RISE.DT_RISE],
   [LEG_DT_FALL.DT_RISE],
   [LEG_MINP_B.MINP],
   [LEG_ADT_MARGIN.ADT_MARGIN],
   [LEG_DTR.TICK, LEG_DTR.FINE],
   [LEG_DTF.TICK, LEG_DTF.FINE],
   [LEG_MINP.TICK, LEG_MINP.FINE],
   [LEG_OUT_CFG.POL_SRC, LEG_OUT_CFG.ADT_EN, LEG_OUT_CFG.DRV, LEG_OUT_CFG.MINP_MODE],
   [LEG_FLOOR.DT_FLOOR],
   [LEG_PAD_CFG.OUTMODE, LEG_PAD_CFG.INV_L, LEG_PAD_CFG.INV_H],
   [LEG_ADT_CFG.STEP, LEG_ADT_CFG.MARGIN],
   [LEG_ADT_LIM.SWN_WIN, LEG_ADT_LIM.MISS_LIM, LEG_ADT_LIM.TRIM_LIM],
   [LEG_SWN_CFG.INV, LEG_SWN_CFG.FLT],
   [LEG_ADT_TRIM.TRIM_FALL, LEG_ADT_TRIM.TRIM_RISE],
   [LEG_DT_EFF_R.DT_R],
   [LEG_DT_EFF_F.DT_F],
   [LEG_SWN_DLY.D_FALL, LEG_SWN_DLY.D_RISE],
   [LEG_SWN_TS.EDGE, LEG_SWN_TS.CNT, LEG_SWN_TS.FINE],
   [LEG_DT_STATUS.SWN_LVL, LEG_DT_STATUS.POL, LEG_DT_STATUS.ADT_RUN, LEG_DT_STATUS.PAD_MISMATCH, LEG_DT_STATUS.CFG_ERR, LEG_DT_STATUS.DT_ERR, LEG_DT_STATUS.SWN_UNEXP, LEG_DT_STATUS.ADT_FAIL, LEG_DT_STATUS.ADT_LIMIT, LEG_DT_STATUS.DT_CLAMP, LEG_DT_STATUS.MERGE, LEG_DT_STATUS.MINP_ACT],
   [LEG_DT_CNT.UNEXP_CNT, LEG_DT_CNT.MINP_CNT],
   [LEG_ISIGN.ISIGN]]

/-! ## spec/05_protection.md -/

def CMP_TH.TH_UV : FD := ⟨1, 0x0, 96, 0x10, 1, 0x0, 0, 32, .rw, (evenOdd 2999267 0), .pmd⟩

def CMP_HYST.HYST_UV : FD := ⟨1, 0x4, 96, 0x10, 1, 0x0, 0, 32, .rw, (k 0), .pmd⟩

def CMP_STAT.SEEN : FD := ⟨1, 0x8, 96, 0x10, 1, 0x0, 1, 1, .w1c, (k 0), .pmd⟩
def CMP_STAT.STATE : FD := ⟨1, 0x8, 96, 0x10, 1, 0x0, 0, 1, .ro, (k 0), .pmd⟩

def TRIPIN_STAT.SEEN : FD := ⟨1, 0x800, 16, 0x4, 1, 0x0, 1, 1, .w1c, (k 0), .pm⟩
def TRIPIN_STAT.LEVEL : FD := ⟨1, 0x800, 16, 0x4, 1, 0x0, 0, 1, .ro, (k 0), .pm⟩

def STG_TRIP.SEC_CLS : FD := ⟨1, 0x1000, 8, 0x40, 1, 0x0, 12, 4, .ro, (k 0), .pm⟩
def STG_TRIP.ROWAN_HOLD : FD := ⟨1, 0x1000, 8, 0x40, 1, 0x0, 9, 1, .ro, (k 0), .pm⟩
def STG_TRIP.SWTRIP : FD := ⟨1, 0x1000, 8, 0x40, 1, 0x0, 8, 1, .rw, (k 0), .pm⟩
def STG_TRIP.SS : FD := ⟨1, 0x1000, 8, 0x40, 1, 0x0, 6, 2, .ro, (k 0), .p⟩
def STG_TRIP.CLASS : FD := ⟨1, 0x1000, 8, 0x40, 1, 0x0, 4, 2, .ro, (k 0), .pm⟩
def STG_TRIP.ACTIVE : FD := ⟨1, 0x1000, 8, 0x40, 1, 0x0, 3, 1, .ro, (k 0), .pm⟩
def STG_TRIP.RETRIP : FD := ⟨1, 0x1000, 8, 0x40, 1, 0x0, 2, 1, .w1c, (k 0), .pm⟩
def STG_TRIP.CLR_DENIED : FD := ⟨1, 0x1000, 8, 0x40, 1, 0x0, 1, 1, .w1c, (k 0), .pm⟩
def STG_TRIP.TRIP : FD := ⟨1, 0x1000, 8, 0x40, 1, 0x0, 0, 1, .w1c, (k 0), .p⟩

def STG_TRIP_SRC.TRIP_CNT : FD := ⟨1, 0x1004, 8, 0x40, 1, 0x0, 16, 16, .rw, (k 0), .p⟩
def STG_TRIP_SRC.FIRST_SRC : FD := ⟨1, 0x1004, 8, 0x40, 1, 0x0, 0, 12, .ro, (k 0), .p⟩

def STG_TRIP_TIME.TIME : FD := ⟨1, 0x1008, 8, 0x40, 1, 0x0, 0, 32, .ro, (k 0), .p⟩

def STG_ARMED.CHOP_FAULT : FD := ⟨1, 0x100C, 8, 0x40, 1, 0x0, 17, 1, .ro, (k 0), .pm⟩
def STG_ARMED.STALE : FD := ⟨1, 0x100C, 8, 0x40, 1, 0x0, 16, 1, .ro, (k 1), .pm⟩
def STG_ARMED.LB : FD := ⟨1, 0x100C, 8, 0x40, 1, 0x0, 12, 2, .ro, (k 0), .pm⟩
def STG_ARMED.SB : FD := ⟨1, 0x100C, 8, 0x40, 1, 0x0, 8, 3, .ro, (k 0), .pm⟩
def STG_ARMED.ARM_GEN : FD := ⟨1, 0x100C, 8, 0x40, 1, 0x0, 6, 2, .ro, (k 0), .pm⟩
def STG_ARMED.ARM_OVNB : FD := ⟨1, 0x100C, 8, 0x40, 1, 0x0, 4, 2, .ro, (k 0), .pm⟩
def STG_ARMED.ARM_OV : FD := ⟨1, 0x100C, 8, 0x40, 1, 0x0, 2, 2, .ro, (k 0), .pm⟩
def STG_ARMED.ARM_OC : FD := ⟨1, 0x100C, 8, 0x40, 1, 0x0, 0, 2, .ro, (k 0), .pm⟩

def STG_CHOP.RESP_T : FD := ⟨1, 0x1010, 8, 0x40, 1, 0x0, 16, 16, .ro, (k 0), .pm⟩
def STG_CHOP.REASON : FD := ⟨1, 0x1010, 8, 0x40, 1, 0x0, 2, 2, .ro, (k 0), .pm⟩
def STG_CHOP.CLR_DENIED : FD := ⟨1, 0x1010, 8, 0x40, 1, 0x0, 1, 1, .w1c, (k 0), .pm⟩
def STG_CHOP.CHOP_FAULT : FD := ⟨1, 0x1010, 8, 0x40, 1, 0x0, 0, 1, .w1c, (k 0), .pm⟩

def CMP_DAC.STATE : FD := ⟨1, 0x8000, 96, 0x10, 1, 0x0, 29, 1, .ro, (k 0), .pmd⟩
def CMP_DAC.FILT : FD := ⟨1, 0x8000, 96, 0x10, 1, 0x0, 26, 2, .rwi, (k 0), .pm⟩
def CMP_DAC.EN : FD := ⟨1, 0x8000, 96, 0x10, 1, 0x0, 24, 1, .rwi, (k 0), .pm⟩
def CMP_DAC.HYST : FD := ⟨1, 0x8000, 96, 0x10, 1, 0x0, 16, 6, .rw, (k 0), .pmd⟩
def CMP_DAC.CODE : FD := ⟨1, 0x8000, 96, 0x10, 1, 0x0, 0, 12, .rw, (evenOdd 0xFFF 0), .pmd⟩

def TRIPIN_CFG.LEVEL : FD := ⟨1, 0x8800, 16, 0x4, 1, 0x0, 8, 1, .ro, (k 0), .pm⟩
def TRIPIN_CFG.FILT : FD := ⟨1, 0x8800, 16, 0x4, 1, 0x0, 2, 2, .rwi, (k 0), .pm⟩
def TRIPIN_CFG.POL : FD := ⟨1, 0x8800, 16, 0x4, 1, 0x0, 1, 1, .rwi, (k 0), .pm⟩
def TRIPIN_CFG.EN : FD := ⟨1, 0x8800, 16, 0x4, 1, 0x0, 0, 1, .rwi, (k 0), .pm⟩

def STG_SS_CFG.CHOP_STG : FD := ⟨1, 0x9000, 8, 0x100, 1, 0x0, 16, 8, .rwi, (k 0), .pm⟩
def STG_SS_CFG.ASC_HIGH : FD := ⟨1, 0x9000, 8, 0x100, 1, 0x0, 9, 1, .rwi, (k 0), .pm⟩
def STG_SS_CFG.OVNB_EN : FD := ⟨1, 0x9000, 8, 0x100, 1, 0x0, 8, 1, .rwi, (k 0), .pm⟩
def STG_SS_CFG.ASC_DT : FD := ⟨1, 0x9000, 8, 0x100, 1, 0x0, 0, 4, .rwi, (k 0), .pm⟩

def STG_SPD_TH.TH : FD := ⟨1, 0x9004, 8, 0x100, 7, 0x4, 0, 16, .rwi, (k 0), .pm⟩

def STG_HYST.VDC_HYST : FD := ⟨1, 0x9020, 8, 0x100, 1, 0x0, 16, 16, .rwi, (k 0), .pm⟩
def STG_HYST.SPD_HYST : FD := ⟨1, 0x9020, 8, 0x100, 1, 0x0, 0, 16, .rwi, (k 0), .pm⟩

def STG_VDC_TH.TH : FD := ⟨1, 0x9024, 8, 0x100, 3, 0x4, 0, 16, .rwi, (k 0), .pm⟩

def STG_CHOP_CFG.CHOP_IMIN : FD := ⟨1, 0x9030, 8, 0x100, 1, 0x0, 16, 16, .rwi, (k 0), .pm⟩
def STG_CHOP_CFG.CHOP_TMO : FD := ⟨1, 0x9030, 8, 0x100, 1, 0x0, 0, 16, .rwi, (k 0), .pm⟩

def STG_KE.KE : FD := ⟨1, 0x9034, 8, 0x100, 1, 0x0, 0, 16, .rwi, (k 0), .pm⟩

def STG_SS_TAB.E3 : FD := ⟨1, 0x9040, 8, 0x100, 32, 0x4, 24, 8, .rwi, (k 0), .pm⟩
def STG_SS_TAB.E2 : FD := ⟨1, 0x9040, 8, 0x100, 32, 0x4, 16, 8, .rwi, (k 0), .pm⟩
def STG_SS_TAB.E1 : FD := ⟨1, 0x9040, 8, 0x100, 32, 0x4, 8, 8, .rwi, (k 0), .pm⟩
def STG_SS_TAB.E0 : FD := ⟨1, 0x9040, 8, 0x100, 32, 0x4, 0, 8, .rwi, (k 0), .pm⟩

/-- The registers of spec/05_protection.md, each with its fields. -/
def map05 : List (List FD) :=
  [[CMP_TH.TH_UV],
   [CMP_HYST.HYST_UV],
   [CMP_STAT.SEEN, CMP_STAT.STATE],
   [TRIPIN_STAT.SEEN, TRIPIN_STAT.LEVEL],
   [STG_TRIP.SEC_CLS, STG_TRIP.ROWAN_HOLD, STG_TRIP.SWTRIP, STG_TRIP.SS, STG_TRIP.CLASS, STG_TRIP.ACTIVE, STG_TRIP.RETRIP, STG_TRIP.CLR_DENIED, STG_TRIP.TRIP],
   [STG_TRIP_SRC.TRIP_CNT, STG_TRIP_SRC.FIRST_SRC],
   [STG_TRIP_TIME.TIME],
   [STG_ARMED.CHOP_FAULT, STG_ARMED.STALE, STG_ARMED.LB, STG_ARMED.SB, STG_ARMED.ARM_GEN, STG_ARMED.ARM_OVNB, STG_ARMED.ARM_OV, STG_ARMED.ARM_OC],
   [STG_CHOP.RESP_T, STG_CHOP.REASON, STG_CHOP.CLR_DENIED, STG_CHOP.CHOP_FAULT],
   [CMP_DAC.STATE, CMP_DAC.FILT, CMP_DAC.EN, CMP_DAC.HYST, CMP_DAC.CODE],
   [TRIPIN_CFG.LEVEL, TRIPIN_CFG.FILT, TRIPIN_CFG.POL, TRIPIN_CFG.EN],
   [STG_SS_CFG.CHOP_STG, STG_SS_CFG.ASC_HIGH, STG_SS_CFG.OVNB_EN, STG_SS_CFG.ASC_DT],
   [STG_SPD_TH.TH],
   [STG_HYST.VDC_HYST, STG_HYST.SPD_HYST],
   [STG_VDC_TH.TH],
   [STG_CHOP_CFG.CHOP_IMIN, STG_CHOP_CFG.CHOP_TMO],
   [STG_KE.KE],
   [STG_SS_TAB.E3, STG_SS_TAB.E2, STG_SS_TAB.E1, STG_SS_TAB.E0]]

end Sys2Proof.Machine.Reg
end

