-- ==== Sys2Proof/Machine/RegMapB.lean ====
section
/-! DEFINITION. The register maps of spec/06_converters.md, 07_isolated_sensing.md, 08_cedar.md, 09_field_control.md, 10_position.md: one field
descriptor per field (window, offset, first and second array dimension, lowest bit, width, access code, reset
value, reset classes), and the list of the registers of each chapter. -/

namespace Sys2Proof.Machine.Reg

/-! ## spec/06_converters.md -/

def ADC_ACQ.ACQ_PS : FD := ⟨2, 0x0, 32, 0x200, 1, 0x0, 0, 32, .rw, (k 0x5dc0), .pmd⟩

def ADC_CTRL.SWTRIG_J1 : FD := ⟨2, 0x4, 32, 0x200, 1, 0x0, 3, 1, .wo, (k 0), .none⟩
def ADC_CTRL.SWTRIG_J0 : FD := ⟨2, 0x4, 32, 0x200, 1, 0x0, 2, 1, .wo, (k 0), .none⟩
def ADC_CTRL.CAL_STORE : FD := ⟨2, 0x4, 32, 0x200, 1, 0x0, 1, 1, .rw, (k 0), .pmd⟩
def ADC_CTRL.CAL_START : FD := ⟨2, 0x4, 32, 0x200, 1, 0x0, 0, 1, .w1s, (k 0), .pmd⟩

def ADC_STATUS.MISS_CNT : FD := ⟨2, 0x8, 32, 0x200, 1, 0x0, 16, 8, .rw, (k 0), .pmd⟩
def ADC_STATUS.TRIG_MISS : FD := ⟨2, 0x8, 32, 0x200, 1, 0x0, 10, 1, .w1c, (k 0), .pmd⟩
def ADC_STATUS.J1_PEND : FD := ⟨2, 0x8, 32, 0x200, 1, 0x0, 9, 1, .ro, (k 0), .pmd⟩
def ADC_STATUS.J0_PEND : FD := ⟨2, 0x8, 32, 0x200, 1, 0x0, 8, 1, .ro, (k 0), .pmd⟩
def ADC_STATUS.CLIP : FD := ⟨2, 0x8, 32, 0x200, 1, 0x0, 6, 1, .w1c, (k 0), .pmd⟩
def ADC_STATUS.CAL_ERR : FD := ⟨2, 0x8, 32, 0x200, 1, 0x0, 5, 1, .w1c, (k 0), .pmd⟩
def ADC_STATUS.CAL_DONE : FD := ⟨2, 0x8, 32, 0x200, 1, 0x0, 4, 1, .w1c, (k 0), .pmd⟩
def ADC_STATUS.CAL_ST : FD := ⟨2, 0x8, 32, 0x200, 1, 0x0, 2, 2, .ro, (k 0), .pmd⟩
def ADC_STATUS.INJ_HELD : FD := ⟨2, 0x8, 32, 0x200, 1, 0x0, 1, 1, .ro, (k 0), .pmd⟩
def ADC_STATUS.BUSY : FD := ⟨2, 0x8, 32, 0x200, 1, 0x0, 0, 1, .ro, (k 0), .pmd⟩

def ADC_LAST.WORD : FD := ⟨2, 0xC, 32, 0x200, 1, 0x0, 0, 32, .ro, (k 0), .pmd⟩

def ADC_INJ.EN : FD := ⟨2, 0x10, 32, 0x200, 2, 0x4, 11, 1, .rw, (k 0), .pmd⟩
def ADC_INJ.PREEMPT : FD := ⟨2, 0x10, 32, 0x200, 2, 0x4, 10, 1, .rw, (k 0), .pmd⟩
def ADC_INJ.CEDAR : FD := ⟨2, 0x10, 32, 0x200, 2, 0x4, 9, 1, .rw, (k 0), .pmd⟩
def ADC_INJ.MUX : FD := ⟨2, 0x10, 32, 0x200, 2, 0x4, 0, 5, .rw, (k 0), .pmd⟩

def ADC_INJ_RES.WORD : FD := ⟨2, 0x18, 32, 0x200, 2, 0x4, 0, 32, .ro, (k 0), .pmd⟩

def SEQ_CTRL.RING_BLKS : FD := ⟨2, 0x4000, 4, 0x400, 1, 0x0, 25, 7, .rw, (k 1), .pmd⟩
def SEQ_CTRL.RING_BASE : FD := ⟨2, 0x4000, 4, 0x400, 1, 0x0, 19, 6, .rw, (k 0), .pmd⟩
def SEQ_CTRL.LEN : FD := ⟨2, 0x4000, 4, 0x400, 1, 0x0, 12, 7, .rw, (k 1), .pmd⟩
def SEQ_CTRL.SWSTART : FD := ⟨2, 0x4000, 4, 0x400, 1, 0x0, 3, 1, .wo, (k 0), .none⟩
def SEQ_CTRL.CONT : FD := ⟨2, 0x4000, 4, 0x400, 1, 0x0, 2, 1, .rw, (k 0), .pmd⟩
def SEQ_CTRL.EN : FD := ⟨2, 0x4000, 4, 0x400, 1, 0x0, 0, 1, .rw, (k 0), .pmd⟩

def SEQ_STATUS.MISS_CNT : FD := ⟨2, 0x4004, 4, 0x400, 1, 0x0, 24, 8, .rw, (k 0), .pmd⟩
def SEQ_STATUS.ENTRY : FD := ⟨2, 0x4004, 4, 0x400, 1, 0x0, 16, 6, .ro, (k 0), .pmd⟩
def SEQ_STATUS.ERR_CODE : FD := ⟨2, 0x4004, 4, 0x400, 1, 0x0, 8, 3, .ro, (k 0), .pmd⟩
def SEQ_STATUS.OVF : FD := ⟨2, 0x4004, 4, 0x400, 1, 0x0, 4, 1, .w1c, (k 0), .pmd⟩
def SEQ_STATUS.MISS : FD := ⟨2, 0x4004, 4, 0x400, 1, 0x0, 3, 1, .w1c, (k 0), .pmd⟩
def SEQ_STATUS.ERR : FD := ⟨2, 0x4004, 4, 0x400, 1, 0x0, 2, 1, .w1c, (k 0), .pmd⟩
def SEQ_STATUS.DONE : FD := ⟨2, 0x4004, 4, 0x400, 1, 0x0, 1, 1, .w1c, (k 0), .pmd⟩
def SEQ_STATUS.RUNNING : FD := ⟨2, 0x4004, 4, 0x400, 1, 0x0, 0, 1, .ro, (k 0), .pmd⟩

def SEQ_PTR.RD_PTR : FD := ⟨2, 0x4008, 4, 0x400, 1, 0x0, 16, 16, .rw, (k 0), .pmd⟩
def SEQ_PTR.WR_PTR : FD := ⟨2, 0x4008, 4, 0x400, 1, 0x0, 0, 16, .ro, (k 0), .pmd⟩

def SEQ_OW_TH.OW_TH_UV : FD := ⟨2, 0x4010, 4, 0x400, 1, 0x0, 0, 32, .rw, (k 0x16e360), .pmd⟩

def SEQ_OW_ACQ.OW_ACQ_PS : FD := ⟨2, 0x4014, 4, 0x400, 1, 0x0, 0, 32, .rw, (k 0x7d00), .pmd⟩

def SEQ_ENT.TS : FD := ⟨2, 0x4100, 4, 0x400, 64, 0x4, 11, 1, .rw, (k 0), .pmd⟩
def SEQ_ENT.OWCHK : FD := ⟨2, 0x4100, 4, 0x400, 64, 0x4, 10, 1, .rw, (k 0), .pmd⟩
def SEQ_ENT.CEDAR : FD := ⟨2, 0x4100, 4, 0x400, 64, 0x4, 9, 1, .rw, (k 0), .pmd⟩
def SEQ_ENT.SIM : FD := ⟨2, 0x4100, 4, 0x400, 64, 0x4, 8, 1, .rw, (k 0), .pmd⟩
def SEQ_ENT.MUX : FD := ⟨2, 0x4100, 4, 0x400, 64, 0x4, 3, 5, .rw, (k 0), .pmd⟩
def SEQ_ENT.ADC : FD := ⟨2, 0x4100, 4, 0x400, 64, 0x4, 0, 3, .rw, (k 0), .pmd⟩

def IL_CTRL.IL_BLKS : FD := ⟨2, 0x5000, 16, 0x40, 1, 0x0, 24, 7, .rw, (k 1), .pmd⟩
def IL_CTRL.IL_BASE : FD := ⟨2, 0x5000, 16, 0x40, 1, 0x0, 18, 6, .rw, (k 0), .pmd⟩
def IL_CTRL.MUX : FD := ⟨2, 0x5000, 16, 0x40, 1, 0x0, 13, 5, .rw, (k 0), .pmd⟩
def IL_CTRL.IL_EN : FD := ⟨2, 0x5000, 16, 0x40, 1, 0x0, 12, 1, .rwi, (k 0), .pm⟩
def IL_CTRL.CAL_STORE : FD := ⟨2, 0x5000, 16, 0x40, 1, 0x0, 4, 1, .rw, (k 0), .pmd⟩
def IL_CTRL.PAIR_CAL : FD := ⟨2, 0x5000, 16, 0x40, 1, 0x0, 3, 1, .w1s, (k 0), .pmd⟩
def IL_CTRL.SWSTART : FD := ⟨2, 0x5000, 16, 0x40, 1, 0x0, 2, 1, .wo, (k 0), .none⟩
def IL_CTRL.CONT : FD := ⟨2, 0x5000, 16, 0x40, 1, 0x0, 1, 1, .rw, (k 0), .pmd⟩
def IL_CTRL.ARM : FD := ⟨2, 0x5000, 16, 0x40, 1, 0x0, 0, 1, .rw, (k 0), .pmd⟩

def IL_BURST.BURST : FD := ⟨2, 0x5004, 16, 0x40, 1, 0x0, 0, 20, .rw, (k 0x400), .pmd⟩

def IL_STATUS.COUNT : FD := ⟨2, 0x5008, 16, 0x40, 1, 0x0, 0, 20, .ro, (k 0), .pmd⟩

def IL_FLAGS.ERR_CODE : FD := ⟨2, 0x500C, 16, 0x40, 1, 0x0, 8, 2, .ro, (k 0), .pmd⟩
def IL_FLAGS.CAL_ST : FD := ⟨2, 0x500C, 16, 0x40, 1, 0x0, 6, 2, .ro, (k 0), .pmd⟩
def IL_FLAGS.PAIR_ERR : FD := ⟨2, 0x500C, 16, 0x40, 1, 0x0, 5, 1, .w1c, (k 0), .pmd⟩
def IL_FLAGS.MISS : FD := ⟨2, 0x500C, 16, 0x40, 1, 0x0, 4, 1, .w1c, (k 0), .pmd⟩
def IL_FLAGS.ERR : FD := ⟨2, 0x500C, 16, 0x40, 1, 0x0, 3, 1, .w1c, (k 0), .pmd⟩
def IL_FLAGS.DONE : FD := ⟨2, 0x500C, 16, 0x40, 1, 0x0, 2, 1, .w1c, (k 0), .pmd⟩
def IL_FLAGS.RUNNING : FD := ⟨2, 0x500C, 16, 0x40, 1, 0x0, 0, 1, .ro, (k 0), .pmd⟩

def IL_ACQ.IL_ACQ_PS : FD := ⟨2, 0x5010, 16, 0x40, 1, 0x0, 0, 32, .rw, (k 0x5dc0), .pmd⟩

def AIN_OW.STATIC : FD := ⟨2, 0x6000, 64, 0x4, 1, 0x0, 3, 1, .rw, (k 0), .pmd⟩
def AIN_OW.DIR : FD := ⟨2, 0x6000, 64, 0x4, 1, 0x0, 2, 1, .rw, (k 0), .pmd⟩
def AIN_OW.CUR : FD := ⟨2, 0x6000, 64, 0x4, 1, 0x0, 0, 2, .rw, (k 0), .pmd⟩

def ADC_ACQ_X.ACQ : FD := ⟨2, 0x8000, 32, 0x200, 1, 0x0, 0, 8, .rw, (k 0xc), .pmd⟩

def ADC_TRIM.GAIN_TRIM : FD := ⟨2, 0x8004, 32, 0x200, 1, 0x0, 16, 16, .rw, (k 0), .pmd⟩
def ADC_TRIM.OFS_TRIM : FD := ⟨2, 0x8004, 32, 0x200, 1, 0x0, 0, 16, .rw, (k 0), .pmd⟩

def ADC_SKEW.SKEW_TRIM : FD := ⟨2, 0x8008, 32, 0x200, 1, 0x0, 0, 8, .rw, (k 0), .pmd⟩

def SEQ_OW_X.OW_ACQ : FD := ⟨2, 0xC010, 4, 0x400, 1, 0x0, 16, 8, .rw, (k 1), .pmd⟩
def SEQ_OW_X.OW_TH : FD := ⟨2, 0xC010, 4, 0x400, 1, 0x0, 0, 16, .rw, (k 0x8000), .pmd⟩

def IL_ACQ_X.ACQ : FD := ⟨2, 0xD000, 16, 0x40, 1, 0x0, 0, 8, .rw, (k 0xc), .pmd⟩

/-- The registers of spec/06_converters.md, each with its fields. -/
def map06 : List (List FD) :=
  [[ADC_ACQ.ACQ_PS],
   [ADC_CTRL.SWTRIG_J1, ADC_CTRL.SWTRIG_J0, ADC_CTRL.CAL_STORE, ADC_CTRL.CAL_START],
   [ADC_STATUS.MISS_CNT, ADC_STATUS.TRIG_MISS, ADC_STATUS.J1_PEND, ADC_STATUS.J0_PEND, ADC_STATUS.CLIP, ADC_STATUS.CAL_ERR, ADC_STATUS.CAL_DONE, ADC_STATUS.CAL_ST, ADC_STATUS.INJ_HELD, ADC_STATUS.BUSY],
   [ADC_LAST.WORD],
   [ADC_INJ.EN, ADC_INJ.PREEMPT, ADC_INJ.CEDAR, ADC_INJ.MUX],
   [ADC_INJ_RES.WORD],
   [SEQ_CTRL.RING_BLKS, SEQ_CTRL.RING_BASE, SEQ_CTRL.LEN, SEQ_CTRL.SWSTART, SEQ_CTRL.CONT, SEQ_CTRL.EN],
   [SEQ_STATUS.MISS_CNT, SEQ_STATUS.ENTRY, SEQ_STATUS.ERR_CODE, SEQ_STATUS.OVF, SEQ_STATUS.MISS, SEQ_STATUS.ERR, SEQ_STATUS.DONE, SEQ_STATUS.RUNNING],
   [SEQ_PTR.RD_PTR, SEQ_PTR.WR_PTR],
   [SEQ_OW_TH.OW_TH_UV],
   [SEQ_OW_ACQ.OW_ACQ_PS],
   [SEQ_ENT.TS, SEQ_ENT.OWCHK, SEQ_ENT.CEDAR, SEQ_ENT.SIM, SEQ_ENT.MUX, SEQ_ENT.ADC],
   [IL_CTRL.IL_BLKS, IL_CTRL.IL_BASE, IL_CTRL.MUX, IL_CTRL.IL_EN, IL_CTRL.CAL_STORE, IL_CTRL.PAIR_CAL, IL_CTRL.SWSTART, IL_CTRL.CONT, IL_CTRL.ARM],
   [IL_BURST.BURST],
   [IL_STATUS.COUNT],
   [IL_FLAGS.ERR_CODE, IL_FLAGS.CAL_ST, IL_FLAGS.PAIR_ERR, IL_FLAGS.MISS, IL_FLAGS.ERR, IL_FLAGS.DONE, IL_FLAGS.RUNNING],
   [IL_ACQ.IL_ACQ_PS],
   [AIN_OW.STATIC, AIN_OW.DIR, AIN_OW.CUR],
   [ADC_ACQ_X.ACQ],
   [ADC_TRIM.GAIN_TRIM, ADC_TRIM.OFS_TRIM],
   [ADC_SKEW.SKEW_TRIM],
   [SEQ_OW_X.OW_ACQ, SEQ_OW_X.OW_TH],
   [IL_ACQ_X.ACQ]]

/-! ## spec/07_isolated_sensing.md -/

def ISO_RATE.RATE_HZ : FD := ⟨3, 0x0, 8, 0x40, 1, 0x0, 0, 32, .rw, (k 0x98968), .pmd⟩

def ISO_CTRL.CAL_STORE : FD := ⟨3, 0x4, 8, 0x40, 1, 0x0, 3, 1, .rw, (k 0), .pmd⟩
def ISO_CTRL.CAL_START : FD := ⟨3, 0x4, 8, 0x40, 1, 0x0, 2, 1, .w1s, (k 0), .pmd⟩
def ISO_CTRL.CEDAR : FD := ⟨3, 0x4, 8, 0x40, 1, 0x0, 1, 1, .rw, (k 0), .pmd⟩
def ISO_CTRL.EN : FD := ⟨3, 0x4, 8, 0x40, 1, 0x0, 0, 1, .rw, (k 0), .pmd⟩

def ISO_STATUS.OVR_CNT : FD := ⟨3, 0x8, 8, 0x40, 1, 0x0, 24, 8, .rw, (k 0), .pmd⟩
def ISO_STATUS.REASON : FD := ⟨3, 0x8, 8, 0x40, 1, 0x0, 8, 3, .ro, (k 0), .pmd⟩
def ISO_STATUS.EN_DENIED : FD := ⟨3, 0x8, 8, 0x40, 1, 0x0, 7, 1, .w1c, (k 0), .pmd⟩
def ISO_STATUS.OVR : FD := ⟨3, 0x8, 8, 0x40, 1, 0x0, 6, 1, .w1c, (k 0), .pmd⟩
def ISO_STATUS.CAL_ERR : FD := ⟨3, 0x8, 8, 0x40, 1, 0x0, 5, 1, .w1c, (k 0), .pmd⟩
def ISO_STATUS.CAL_DONE : FD := ⟨3, 0x8, 8, 0x40, 1, 0x0, 4, 1, .w1c, (k 0), .pmd⟩
def ISO_STATUS.CAL_ST : FD := ⟨3, 0x8, 8, 0x40, 1, 0x0, 2, 2, .ro, (k 0), .pmd⟩
def ISO_STATUS.SETTLE : FD := ⟨3, 0x8, 8, 0x40, 1, 0x0, 1, 1, .ro, (k 0), .pmd⟩
def ISO_STATUS.VALID : FD := ⟨3, 0x8, 8, 0x40, 1, 0x0, 0, 1, .ro, (k 0), .pmd⟩

def ISO_RESULT.WORD : FD := ⟨3, 0xC, 8, 0x40, 1, 0x0, 0, 32, .ro, (k 0), .pmd⟩

def ISO_UV.UV : FD := ⟨3, 0x10, 8, 0x40, 1, 0x0, 0, 32, .ro, (k 0), .pmd⟩

def ISO_CFG.ALIGN_TB : FD := ⟨3, 0x8000, 8, 0x40, 1, 0x0, 8, 4, .rw, (k 0xf), .pmd⟩
def ISO_CFG.RANGE : FD := ⟨3, 0x8000, 8, 0x40, 1, 0x0, 4, 2, .rwi, (k 0), .pm⟩
def ISO_CFG.DEC_SEL : FD := ⟨3, 0x8000, 8, 0x40, 1, 0x0, 0, 3, .rw, (k 1), .pmd⟩

def ISO_TRIM.GAIN_TRIM : FD := ⟨3, 0x8004, 8, 0x40, 1, 0x0, 16, 16, .rw, (k 0), .pmd⟩
def ISO_TRIM.OFS_TRIM : FD := ⟨3, 0x8004, 8, 0x40, 1, 0x0, 0, 16, .rw, (k 0), .pmd⟩

def RED_CUR.SEC : FD := ⟨3, 0x9000, 8, 0x20, 6, 0x4, 8, 8, .rwi, (k 0), .pm⟩
def RED_CUR.PRI : FD := ⟨3, 0x9000, 8, 0x20, 6, 0x4, 0, 8, .rwi, (k 0), .pm⟩

def RED_VDC.VDC_B : FD := ⟨3, 0x9018, 8, 0x20, 1, 0x0, 8, 8, .rwi, (k 0), .pm⟩
def RED_VDC.VDC_A : FD := ⟨3, 0x9018, 8, 0x20, 1, 0x0, 0, 8, .rwi, (k 0), .pm⟩

def RED_CFG.SUMCHK : FD := ⟨3, 0x901C, 8, 0x20, 1, 0x0, 0, 1, .rwi, (k 0), .pm⟩

/-- The registers of spec/07_isolated_sensing.md, each with its fields. -/
def map07 : List (List FD) :=
  [[ISO_RATE.RATE_HZ],
   [ISO_CTRL.CAL_STORE, ISO_CTRL.CAL_START, ISO_CTRL.CEDAR, ISO_CTRL.EN],
   [ISO_STATUS.OVR_CNT, ISO_STATUS.REASON, ISO_STATUS.EN_DENIED, ISO_STATUS.OVR, ISO_STATUS.CAL_ERR, ISO_STATUS.CAL_DONE, ISO_STATUS.CAL_ST, ISO_STATUS.SETTLE, ISO_STATUS.VALID],
   [ISO_RESULT.WORD],
   [ISO_UV.UV],
   [ISO_CFG.ALIGN_TB, ISO_CFG.RANGE, ISO_CFG.DEC_SEL],
   [ISO_TRIM.GAIN_TRIM, ISO_TRIM.OFS_TRIM],
   [RED_CUR.SEC, RED_CUR.PRI],
   [RED_VDC.VDC_B, RED_VDC.VDC_A],
   [RED_CFG.SUMCHK]]

/-! ## spec/08_cedar.md -/

def BLK_FS.FS_HZ : FD := ⟨4, 0x0, 8, 0x200, 16, 0x20, 0, 32, .rw, (k 0), .pmd⟩

def BLK_MODE.MODE : FD := ⟨4, 0x4, 8, 0x200, 16, 0x20, 0, 2, .rw, (k 0), .pmd⟩

def BLK_KP.KP_U : FD := ⟨4, 0x8, 8, 0x200, 16, 0x20, 0, 32, .rw, (k 0), .pmd⟩

def BLK_TI.TI_NS : FD := ⟨4, 0xC, 8, 0x200, 16, 0x20, 0, 32, .rw, (k 0), .pmd⟩

def BLK_KR.KR_U : FD := ⟨4, 0x10, 8, 0x200, 16, 0x20, 0, 32, .rw, (k 0), .pmd⟩

def BLK_F0.F0_MHZ : FD := ⟨4, 0x14, 8, 0x200, 16, 0x20, 0, 32, .rw, (k 0), .pmd⟩

def BLK_UMAX.PPM : FD := ⟨4, 0x18, 8, 0x200, 16, 0x20, 0, 32, .rw, (k 0), .pmd⟩

def BLK_UMIN.PPM : FD := ⟨4, 0x1C, 8, 0x200, 16, 0x20, 0, 32, .rw, (k 0), .pmd⟩

def LU_SP.SP : FD := ⟨4, 0x2000, 8, 0x40, 16, 0x4, 0, 32, .rw, (k 0), .pmd⟩

def LU_CTRL.SP_HOLD : FD := ⟨4, 0x3000, 8, 0x10, 1, 0x0, 2, 1, .rw, (k 0), .pmd⟩
def LU_CTRL.SWAP_REQ : FD := ⟨4, 0x3000, 8, 0x10, 1, 0x0, 0, 1, .w1s, (k 0), .pmd⟩

def LU_STAT.FAULT : FD := ⟨4, 0x3004, 8, 0x10, 1, 0x0, 15, 1, .ro, (k 0), .pm⟩
def LU_STAT.SAT_ANY : FD := ⟨4, 0x3004, 8, 0x10, 1, 0x0, 14, 1, .ro, (k 0), .pmd⟩
def LU_STAT.ECC : FD := ⟨4, 0x3004, 8, 0x10, 1, 0x0, 13, 1, .ro, (k 0), .pm⟩
def LU_STAT.CODE_DENIED : FD := ⟨4, 0x3004, 8, 0x10, 1, 0x0, 12, 1, .w1c, (k 0), .pmd⟩
def LU_STAT.BLK_DENIED : FD := ⟨4, 0x3004, 8, 0x10, 1, 0x0, 11, 1, .w1c, (k 0), .pmd⟩
def LU_STAT.CFG_DENIED : FD := ⟨4, 0x3004, 8, 0x10, 1, 0x0, 10, 1, .w1c, (k 0), .pmd⟩
def LU_STAT.COEF_DENIED : FD := ⟨4, 0x3004, 8, 0x10, 1, 0x0, 9, 1, .w1c, (k 0), .pmd⟩
def LU_STAT.PARITY : FD := ⟨4, 0x3004, 8, 0x10, 1, 0x0, 8, 1, .ro, (k 0), .pm⟩
def LU_STAT.RUNNING : FD := ⟨4, 0x3004, 8, 0x10, 1, 0x0, 7, 1, .ro, (k 0), .pmd⟩
def LU_STAT.PROG : FD := ⟨4, 0x3004, 8, 0x10, 1, 0x0, 4, 2, .ro, (k 0), .pmd⟩
def LU_STAT.SWAP_PEND : FD := ⟨4, 0x3004, 8, 0x10, 1, 0x0, 2, 1, .ro, (k 0), .pmd⟩
def LU_STAT.ACTIVE_BANK : FD := ⟨4, 0x3004, 8, 0x10, 1, 0x0, 0, 1, .ro, (k 0), .pmd⟩

def LU_OUT.OUT : FD := ⟨4, 0x3400, 8, 0x40, 16, 0x4, 0, 32, .ro, (k 0), .pmd⟩

def LP_CFG.PEN : FD := ⟨4, 0x8000, 8, 0x400, 4, 0x10, 31, 1, .rw, (k 0), .pmd⟩
def LP_CFG.START_SRC : FD := ⟨4, 0x8000, 8, 0x400, 4, 0x10, 29, 2, .rw, (k 0), .pmd⟩
def LP_CFG.TRIP_HALT : FD := ⟨4, 0x8000, 8, 0x400, 4, 0x10, 28, 1, .rw, (k 0), .pmd⟩
def LP_CFG.LEN : FD := ⟨4, 0x8000, 8, 0x400, 4, 0x10, 13, 11, .rw, (k 0), .pmd⟩
def LP_CFG.START_ADDR : FD := ⟨4, 0x8000, 8, 0x400, 4, 0x10, 0, 13, .rw, (k 0), .pmd⟩

def LP_MASK.REQ_MASK : FD := ⟨4, 0x8004, 8, 0x400, 4, 0x10, 0, 16, .rw, (k 0), .pmd⟩

def LP_STAT.MISS_CNT : FD := ⟨4, 0x8008, 8, 0x400, 4, 0x10, 24, 8, .rw, (k 0), .pmd⟩
def LP_STAT.BOUND_OK : FD := ⟨4, 0x8008, 8, 0x400, 4, 0x10, 20, 1, .ro, (k 0), .pmd⟩
def LP_STAT.LOAD_ERR : FD := ⟨4, 0x8008, 8, 0x400, 4, 0x10, 16, 4, .ro, (k 0), .pmd⟩
def LP_STAT.VALIDATING : FD := ⟨4, 0x8008, 8, 0x400, 4, 0x10, 8, 1, .ro, (k 0), .pmd⟩
def LP_STAT.PENDING : FD := ⟨4, 0x8008, 8, 0x400, 4, 0x10, 7, 1, .ro, (k 0), .pmd⟩
def LP_STAT.OVR : FD := ⟨4, 0x8008, 8, 0x400, 4, 0x10, 5, 1, .w1c, (k 0), .pmd⟩
def LP_STAT.BAD : FD := ⟨4, 0x8008, 8, 0x400, 4, 0x10, 4, 1, .w1c, (k 0), .pmd⟩
def LP_STAT.MISS : FD := ⟨4, 0x8008, 8, 0x400, 4, 0x10, 3, 1, .w1c, (k 0), .pmd⟩
def LP_STAT.SAT : FD := ⟨4, 0x8008, 8, 0x400, 4, 0x10, 2, 1, .w1c, (k 0), .pmd⟩
def LP_STAT.LOAD_FAIL : FD := ⟨4, 0x8008, 8, 0x400, 4, 0x10, 1, 1, .w1c, (k 0), .pmd⟩

def LP_CYC.T : FD := ⟨4, 0x800C, 8, 0x400, 4, 0x10, 16, 16, .ro, (k 0), .pmd⟩
def LP_CYC.W : FD := ⟨4, 0x800C, 8, 0x400, 4, 0x10, 0, 16, .ro, (k 0), .pmd⟩

def TBL_DESC.WRAP : FD := ⟨4, 0x8080, 8, 0x400, 8, 0x4, 20, 1, .rw, (k 0), .pmd⟩
def TBL_DESC.LOG2N : FD := ⟨4, 0x8080, 8, 0x400, 8, 0x4, 16, 4, .rw, (k 0), .pmd⟩
def TBL_DESC.BASE : FD := ⟨4, 0x8080, 8, 0x400, 8, 0x4, 0, 14, .rw, (k 0), .pmd⟩

def SLOT_CFG.EN : FD := ⟨4, 0x8100, 8, 0x400, 16, 0x10, 31, 1, .rw, (k 0), .pmd⟩
def SLOT_CFG.TYPE : FD := ⟨4, 0x8100, 8, 0x400, 16, 0x10, 29, 2, .rw, (k 0), .pmd⟩
def SLOT_CFG.BAD : FD := ⟨4, 0x8100, 8, 0x400, 16, 0x10, 27, 1, .ro, (k 0), .pmd⟩
def SLOT_CFG.FRESH : FD := ⟨4, 0x8100, 8, 0x400, 16, 0x10, 26, 1, .ro, (k 0), .pmd⟩
def SLOT_CFG.UNIT : FD := ⟨4, 0x8100, 8, 0x400, 16, 0x10, 16, 5, .rw, (k 0), .pmd⟩
def SLOT_CFG.SRC : FD := ⟨4, 0x8100, 8, 0x400, 16, 0x10, 0, 6, .rw, (k 0), .pmd⟩

def SLOT_ZERO.ZERO : FD := ⟨4, 0x8104, 8, 0x400, 16, 0x10, 0, 32, .rw, (k 0), .pmd⟩

def SLOT_GAIN.GAIN : FD := ⟨4, 0x8108, 8, 0x400, 16, 0x10, 0, 32, .rw, (k 0), .pmd⟩

def SLOT_VAL.VAL : FD := ⟨4, 0x810C, 8, 0x400, 16, 0x10, 0, 32, .ro, (k 0), .pmd⟩

def BLK_S1.S1 : FD := ⟨4, 0x8200, 8, 0x400, 16, 0x20, 0, 48, .rw, (k 0), .pmd⟩

def BLK_S2.S2 : FD := ⟨4, 0x8208, 8, 0x400, 16, 0x20, 0, 48, .rw, (k 0), .pmd⟩

def BLK_CTRL.TYPE : FD := ⟨4, 0x8210, 8, 0x400, 16, 0x20, 8, 2, .ro, (k 0), .pmd⟩
def BLK_CTRL.LIM : FD := ⟨4, 0x8210, 8, 0x400, 16, 0x20, 4, 1, .w1c, (k 0), .pmd⟩
def BLK_CTRL.CLR : FD := ⟨4, 0x8210, 8, 0x400, 16, 0x20, 1, 1, .w1s, (k 0), .pmd⟩
def BLK_CTRL.CI : FD := ⟨4, 0x8210, 8, 0x400, 16, 0x20, 0, 1, .rw, (k 0), .pmd⟩

def COEF.C : FD := ⟨4, 0xA000, 8, 0x800, 512, 0x4, 0, 32, .rw, (k 0), .pmd⟩

/-- The registers of spec/08_cedar.md, each with its fields. -/
def map08 : List (List FD) :=
  [[BLK_FS.FS_HZ],
   [BLK_MODE.MODE],
   [BLK_KP.KP_U],
   [BLK_TI.TI_NS],
   [BLK_KR.KR_U],
   [BLK_F0.F0_MHZ],
   [BLK_UMAX.PPM],
   [BLK_UMIN.PPM],
   [LU_SP.SP],
   [LU_CTRL.SP_HOLD, LU_CTRL.SWAP_REQ],
   [LU_STAT.FAULT, LU_STAT.SAT_ANY, LU_STAT.ECC, LU_STAT.CODE_DENIED, LU_STAT.BLK_DENIED, LU_STAT.CFG_DENIED, LU_STAT.COEF_DENIED, LU_STAT.PARITY, LU_STAT.RUNNING, LU_STAT.PROG, LU_STAT.SWAP_PEND, LU_STAT.ACTIVE_BANK],
   [LU_OUT.OUT],
   [LP_CFG.PEN, LP_CFG.START_SRC, LP_CFG.TRIP_HALT, LP_CFG.LEN, LP_CFG.START_ADDR],
   [LP_MASK.REQ_MASK],
   [LP_STAT.MISS_CNT, LP_STAT.BOUND_OK, LP_STAT.LOAD_ERR, LP_STAT.VALIDATING, LP_STAT.PENDING, LP_STAT.OVR, LP_STAT.BAD, LP_STAT.MISS, LP_STAT.SAT, LP_STAT.LOAD_FAIL],
   [LP_CYC.T, LP_CYC.W],
   [TBL_DESC.WRAP, TBL_DESC.LOG2N, TBL_DESC.BASE],
   [SLOT_CFG.EN, SLOT_CFG.TYPE, SLOT_CFG.BAD, SLOT_CFG.FRESH, SLOT_CFG.UNIT, SLOT_CFG.SRC],
   [SLOT_ZERO.ZERO],
   [SLOT_GAIN.GAIN],
   [SLOT_VAL.VAL],
   [BLK_S1.S1],
   [BLK_S2.S2],
   [BLK_CTRL.TYPE, BLK_CTRL.LIM, BLK_CTRL.CLR, BLK_CTRL.CI],
   [COEF.C]]

/-! ## spec/09_field_control.md -/

def FC_CTRL.OFFS_STORE : FD := ⟨5, 0x0, 8, 0x100, 1, 0x0, 8, 1, .w1s, (k 0), .pmd⟩
def FC_CTRL.DIR : FD := ⟨5, 0x0, 8, 0x100, 1, 0x0, 5, 1, .rw, (k 0), .pmd⟩
def FC_CTRL.SALIGN : FD := ⟨5, 0x0, 8, 0x100, 1, 0x0, 3, 1, .rw, (k 0), .pmd⟩
def FC_CTRL.STOP : FD := ⟨5, 0x0, 8, 0x100, 1, 0x0, 2, 1, .wo, (k 0), .none⟩
def FC_CTRL.START : FD := ⟨5, 0x0, 8, 0x100, 1, 0x0, 1, 1, .wo, (k 0), .none⟩
def FC_CTRL.EN : FD := ⟨5, 0x0, 8, 0x100, 1, 0x0, 0, 1, .rw, (k 0), .pmd⟩

def FC_STAT.ATTEMPT : FD := ⟨5, 0x4, 8, 0x100, 1, 0x0, 28, 4, .ro, (k 0), .pmd⟩
def FC_STAT.STATE : FD := ⟨5, 0x4, 8, 0x100, 1, 0x0, 24, 4, .ro, (k 0), .pmd⟩
def FC_STAT.CFG_CODE : FD := ⟨5, 0x4, 8, 0x100, 1, 0x0, 20, 4, .ro, (k 0), .pmd⟩
def FC_STAT.FAIL_RSN : FD := ⟨5, 0x4, 8, 0x100, 1, 0x0, 16, 4, .ro, (k 0), .pmd⟩
def FC_STAT.FAULT : FD := ⟨5, 0x4, 8, 0x100, 1, 0x0, 11, 1, .w1c, (k 0), .pmd⟩
def FC_STAT.WRL_DISC : FD := ⟨5, 0x4, 8, 0x100, 1, 0x0, 10, 1, .w1c, (k 0), .pmd⟩
def FC_STAT.SP_DENIED : FD := ⟨5, 0x4, 8, 0x100, 1, 0x0, 9, 1, .w1c, (k 0), .pmd⟩
def FC_STAT.CFG_ERR : FD := ⟨5, 0x4, 8, 0x100, 1, 0x0, 8, 1, .w1c, (k 0), .pmd⟩
def FC_STAT.SRC_FAULT : FD := ⟨5, 0x4, 8, 0x100, 1, 0x0, 7, 1, .w1c, (k 0), .pmd⟩
def FC_STAT.REVERSE : FD := ⟨5, 0x4, 8, 0x100, 1, 0x0, 6, 1, .ro, (k 0), .pmd⟩
def FC_STAT.CAUGHT : FD := ⟨5, 0x4, 8, 0x100, 1, 0x0, 5, 1, .w1c, (k 0), .pmd⟩
def FC_STAT.ABORT : FD := ⟨5, 0x4, 8, 0x100, 1, 0x0, 4, 1, .w1c, (k 0), .pmd⟩
def FC_STAT.START_FAIL : FD := ⟨5, 0x4, 8, 0x100, 1, 0x0, 3, 1, .w1c, (k 0), .pmd⟩
def FC_STAT.HANDOVER : FD := ⟨5, 0x4, 8, 0x100, 1, 0x0, 2, 1, .w1c, (k 0), .pmd⟩
def FC_STAT.OBS_OK : FD := ⟨5, 0x4, 8, 0x100, 1, 0x0, 1, 1, .ro, (k 0), .pmd⟩

def FC_TQ.TQ_CMD : FD := ⟨5, 0x8, 8, 0x100, 1, 0x0, 0, 32, .rw, (k 0), .pmd⟩

def FC_ANG.ANG : FD := ⟨5, 0xC, 8, 0x100, 1, 0x0, 0, 24, .ro, (k 0), .pmd⟩

def FC_SPD.SPD : FD := ⟨5, 0x10, 8, 0x100, 1, 0x0, 0, 32, .ro, (k 0), .pmd⟩

def FC_FLY.FLY_SPD : FD := ⟨5, 0x14, 8, 0x100, 1, 0x0, 0, 32, .ro, (k 0), .pmd⟩

def FC_ALIGN_US.ALIGN_US : FD := ⟨5, 0x20, 8, 0x100, 1, 0x0, 0, 32, .rw, (k 0), .pmd⟩

def FC_WAIT_US.WAIT_US : FD := ⟨5, 0x24, 8, 0x100, 1, 0x0, 0, 32, .rw, (k 0), .pmd⟩

def FC_ACC.ACC_MTPS2 : FD := ⟨5, 0x28, 8, 0x100, 1, 0x0, 0, 32, .rw, (k 0), .pmd⟩

def FC_RSPD_B.RSPD_MTPS : FD := ⟨5, 0x2C, 8, 0x100, 1, 0x0, 0, 32, .rw, (k 0), .pmd⟩

def FC_OFFS_B.OFFS_UDEG : FD := ⟨5, 0x30, 8, 0x100, 1, 0x0, 0, 32, .rw, (k 0), .pmd⟩

def FC_CFG.START_RETRY : FD := ⟨5, 0x8000, 8, 0x100, 1, 0x0, 28, 4, .rw, (k 0), .pmd⟩
def FC_CFG.VDC_OUT : FD := ⟨5, 0x8000, 8, 0x100, 1, 0x0, 24, 4, .rw, (k 0), .pmd⟩
def FC_CFG.OBS_OUT : FD := ⟨5, 0x8000, 8, 0x100, 1, 0x0, 20, 4, .rw, (k 0), .pmd⟩
def FC_CFG.REF_SP : FD := ⟨5, 0x8000, 8, 0x100, 1, 0x0, 16, 4, .rw, (k 0), .pmd⟩
def FC_CFG.SIX30 : FD := ⟨5, 0x8000, 8, 0x100, 1, 0x0, 15, 1, .rw, (k 0), .pmd⟩
def FC_CFG.ADV_EN : FD := ⟨5, 0x8000, 8, 0x100, 1, 0x0, 14, 1, .rw, (k 0), .pmd⟩
def FC_CFG.MAP_EN : FD := ⟨5, 0x8000, 8, 0x100, 1, 0x0, 13, 1, .rw, (k 0), .pmd⟩
def FC_CFG.REF_EN : FD := ⟨5, 0x8000, 8, 0x100, 1, 0x0, 12, 1, .rw, (k 0), .pmd⟩
def FC_CFG.FLY_POLICY : FD := ⟨5, 0x8000, 8, 0x100, 1, 0x0, 10, 1, .rw, (k 0), .pmd⟩
def FC_CFG.DRIVE : FD := ⟨5, 0x8000, 8, 0x100, 1, 0x0, 9, 1, .rw, (k 0), .pmd⟩
def FC_CFG.ALIGN_PRE : FD := ⟨5, 0x8000, 8, 0x100, 1, 0x0, 8, 1, .rw, (k 0), .pmd⟩
def FC_CFG.SRC_IDX : FD := ⟨5, 0x8000, 8, 0x100, 1, 0x0, 4, 3, .rw, (k 0), .pmd⟩
def FC_CFG.ANG_SRC : FD := ⟨5, 0x8000, 8, 0x100, 1, 0x0, 0, 3, .rw, (k 0), .pmd⟩

def FC_OFFS.OFFS : FD := ⟨5, 0x8004, 8, 0x100, 1, 0x0, 0, 24, .rw, (k 0), .pmd⟩

def FC_COMP.COMP_NS : FD := ⟨5, 0x8008, 8, 0x100, 1, 0x0, 0, 16, .rw, (k 0), .pmd⟩

def FC_ALIGN.ALIGN_ANG : FD := ⟨5, 0x800C, 8, 0x100, 1, 0x0, 0, 24, .rw, (k 0), .pmd⟩

def FC_LEVEL.L_RAMP : FD := ⟨5, 0x8010, 8, 0x100, 1, 0x0, 16, 16, .rw, (k 0), .pmd⟩
def FC_LEVEL.L_ALIGN : FD := ⟨5, 0x8010, 8, 0x100, 1, 0x0, 0, 16, .rw, (k 0), .pmd⟩

def FC_TIME.RAMP_TMO : FD := ⟨5, 0x8014, 8, 0x100, 1, 0x0, 16, 16, .rw, (k 0), .pmd⟩
def FC_TIME.ALIGN_T : FD := ⟨5, 0x8014, 8, 0x100, 1, 0x0, 0, 16, .rw, (k 0), .pmd⟩

def FC_WAIT.RETRY_WAIT : FD := ⟨5, 0x8018, 8, 0x100, 1, 0x0, 0, 16, .rw, (k 0), .pmd⟩

def FC_ACC_X.RAMP_ACC : FD := ⟨5, 0x801C, 8, 0x100, 1, 0x0, 0, 24, .rw, (k 0), .pmd⟩

def FC_RSPD.RAMP_SPD : FD := ⟨5, 0x8020, 8, 0x100, 1, 0x0, 0, 32, .rw, (k 0), .pmd⟩

def FC_ZSPD.ZERO_SPD : FD := ⟨5, 0x8024, 8, 0x100, 1, 0x0, 0, 32, .rw, (k 0), .pmd⟩

def FC_HO.HO_SLEW : FD := ⟨5, 0x8028, 8, 0x100, 1, 0x0, 24, 8, .rw, (k 0), .pmd⟩
def FC_HO.HO_N : FD := ⟨5, 0x8028, 8, 0x100, 1, 0x0, 16, 8, .rw, (k 0), .pmd⟩
def FC_HO.HO_TOL : FD := ⟨5, 0x8028, 8, 0x100, 1, 0x0, 0, 16, .rw, (k 0), .pmd⟩

def FC_PROBE.PROBE_IN1 : FD := ⟨5, 0x802C, 8, 0x100, 1, 0x0, 28, 4, .rw, (k 0), .pmd⟩
def FC_PROBE.PROBE_IN0 : FD := ⟨5, 0x802C, 8, 0x100, 1, 0x0, 24, 4, .rw, (k 0), .pmd⟩
def FC_PROBE.PROBE_N : FD := ⟨5, 0x802C, 8, 0x100, 1, 0x0, 20, 4, .rw, (k 0), .pmd⟩
def FC_PROBE.BRAKE_T : FD := ⟨5, 0x802C, 8, 0x100, 1, 0x0, 8, 8, .rw, (k 0), .pmd⟩
def FC_PROBE.PROBE_T : FD := ⟨5, 0x802C, 8, 0x100, 1, 0x0, 0, 8, .rw, (k 0), .pmd⟩

def FC_PLIM.BRAKE_TQ : FD := ⟨5, 0x8030, 8, 0x100, 1, 0x0, 16, 16, .rw, (k 0), .pmd⟩
def FC_PLIM.PROBE_IMIN : FD := ⟨5, 0x8030, 8, 0x100, 1, 0x0, 0, 16, .rw, (k 0), .pmd⟩

def FC_MAP.LT : FD := ⟨5, 0x8034, 8, 0x100, 1, 0x0, 20, 3, .rw, (k 0), .pmd⟩
def FC_MAP.LS : FD := ⟨5, 0x8034, 8, 0x100, 1, 0x0, 16, 4, .rw, (k 0), .pmd⟩
def FC_MAP.MAP_BASE : FD := ⟨5, 0x8034, 8, 0x100, 1, 0x0, 0, 15, .rw, (k 0), .pmd⟩

def FC_MAPSPD.MAP_DSPD : FD := ⟨5, 0x8038, 8, 0x100, 1, 0x0, 0, 32, .rw, (k 0), .pmd⟩

def FC_MAPTQ.MAP_DTQ : FD := ⟨5, 0x803C, 8, 0x100, 1, 0x0, 0, 32, .rw, (k 0), .pmd⟩

def FC_VDC.VDC_MIN : FD := ⟨5, 0x8040, 8, 0x100, 1, 0x0, 16, 16, .rw, (k 0), .pmd⟩
def FC_VDC.VDC_NOM : FD := ⟨5, 0x8040, 8, 0x100, 1, 0x0, 0, 16, .rw, (k 0), .pmd⟩

def FC_ADV.ADV_DSPD : FD := ⟨5, 0x8044, 8, 0x100, 1, 0x0, 0, 32, .rw, (k 0), .pmd⟩

def FC_ADVT.ADV_LOG2N : FD := ⟨5, 0x8048, 8, 0x100, 1, 0x0, 16, 4, .rw, (k 0), .pmd⟩
def FC_ADVT.ADV_BASE : FD := ⟨5, 0x8048, 8, 0x100, 1, 0x0, 0, 10, .rw, (k 0), .pmd⟩

def FC_TQS.TQ_SLEW : FD := ⟨5, 0x804C, 8, 0x100, 1, 0x0, 0, 32, .rw, (k 0), .pmd⟩

def FC_REF.ID_REF : FD := ⟨5, 0x8050, 8, 0x100, 1, 0x0, 16, 16, .ro, (k 0), .pmd⟩
def FC_REF.IQ_REF : FD := ⟨5, 0x8050, 8, 0x100, 1, 0x0, 0, 16, .ro, (k 0), .pmd⟩

def FC_PRB.M_LAST : FD := ⟨5, 0x8054, 8, 0x100, 1, 0x0, 16, 16, .ro, (k 0), .pmd⟩
def FC_PRB.PHI_LAST : FD := ⟨5, 0x8054, 8, 0x100, 1, 0x0, 0, 16, .ro, (k 0), .pmd⟩

def FC_TBL_ADDR.AINC : FD := ⟨5, 0xF000, 1, 0x0, 1, 0x0, 20, 1, .rw, (k 0), .pmd⟩
def FC_TBL_ADDR.TBL : FD := ⟨5, 0xF000, 1, 0x0, 1, 0x0, 16, 2, .rw, (k 0), .pmd⟩
def FC_TBL_ADDR.IDX : FD := ⟨5, 0xF000, 1, 0x0, 1, 0x0, 0, 15, .rw, (k 0), .pmd⟩

def FC_TBL_DATA.DATA : FD := ⟨5, 0xF004, 1, 0x0, 1, 0x0, 0, 32, .rw, (k 0), .pmd⟩

def FC_TBL_STAT.ECC_ERR : FD := ⟨5, 0xF008, 1, 0x0, 1, 0x0, 1, 1, .w1c, (k 0), .pmd⟩
def FC_TBL_STAT.SINE_RDY : FD := ⟨5, 0xF008, 1, 0x0, 1, 0x0, 0, 1, .ro, (k 0), .pmd⟩

/-- The registers of spec/09_field_control.md, each with its fields. -/
def map09 : List (List FD) :=
  [[FC_CTRL.OFFS_STORE, FC_CTRL.DIR, FC_CTRL.SALIGN, FC_CTRL.STOP, FC_CTRL.START, FC_CTRL.EN],
   [FC_STAT.ATTEMPT, FC_STAT.STATE, FC_STAT.CFG_CODE, FC_STAT.FAIL_RSN, FC_STAT.FAULT, FC_STAT.WRL_DISC, FC_STAT.SP_DENIED, FC_STAT.CFG_ERR, FC_STAT.SRC_FAULT, FC_STAT.REVERSE, FC_STAT.CAUGHT, FC_STAT.ABORT, FC_STAT.START_FAIL, FC_STAT.HANDOVER, FC_STAT.OBS_OK],
   [FC_TQ.TQ_CMD],
   [FC_ANG.ANG],
   [FC_SPD.SPD],
   [FC_FLY.FLY_SPD],
   [FC_ALIGN_US.ALIGN_US],
   [FC_WAIT_US.WAIT_US],
   [FC_ACC.ACC_MTPS2],
   [FC_RSPD_B.RSPD_MTPS],
   [FC_OFFS_B.OFFS_UDEG],
   [FC_CFG.START_RETRY, FC_CFG.VDC_OUT, FC_CFG.OBS_OUT, FC_CFG.REF_SP, FC_CFG.SIX30, FC_CFG.ADV_EN, FC_CFG.MAP_EN, FC_CFG.REF_EN, FC_CFG.FLY_POLICY, FC_CFG.DRIVE, FC_CFG.ALIGN_PRE, FC_CFG.SRC_IDX, FC_CFG.ANG_SRC],
   [FC_OFFS.OFFS],
   [FC_COMP.COMP_NS],
   [FC_ALIGN.ALIGN_ANG],
   [FC_LEVEL.L_RAMP, FC_LEVEL.L_ALIGN],
   [FC_TIME.RAMP_TMO, FC_TIME.ALIGN_T],
   [FC_WAIT.RETRY_WAIT],
   [FC_ACC_X.RAMP_ACC],
   [FC_RSPD.RAMP_SPD],
   [FC_ZSPD.ZERO_SPD],
   [FC_HO.HO_SLEW, FC_HO.HO_N, FC_HO.HO_TOL],
   [FC_PROBE.PROBE_IN1, FC_PROBE.PROBE_IN0, FC_PROBE.PROBE_N, FC_PROBE.BRAKE_T, FC_PROBE.PROBE_T],
   [FC_PLIM.BRAKE_TQ, FC_PLIM.PROBE_IMIN],
   [FC_MAP.LT, FC_MAP.LS, FC_MAP.MAP_BASE],
   [FC_MAPSPD.MAP_DSPD],
   [FC_MAPTQ.MAP_DTQ],
   [FC_VDC.VDC_MIN, FC_VDC.VDC_NOM],
   [FC_ADV.ADV_DSPD],
   [FC_ADVT.ADV_LOG2N, FC_ADVT.ADV_BASE]] ++
  [[FC_TQS.TQ_SLEW],
   [FC_REF.ID_REF, FC_REF.IQ_REF],
   [FC_PRB.M_LAST, FC_PRB.PHI_LAST],
   [FC_TBL_ADDR.AINC, FC_TBL_ADDR.TBL, FC_TBL_ADDR.IDX],
   [FC_TBL_DATA.DATA],
   [FC_TBL_STAT.ECC_ERR, FC_TBL_STAT.SINE_RDY]]

/-! ## spec/10_position.md -/

def POS_CTRL.ZRESET : FD := ⟨6, 0x0, 4, 0x100, 1, 0x0, 3, 1, .rw, (k 0), .pmd⟩
def POS_CTRL.MODE : FD := ⟨6, 0x0, 4, 0x100, 1, 0x0, 1, 2, .rw, (k 0), .pmd⟩
def POS_CTRL.EN : FD := ⟨6, 0x0, 4, 0x100, 1, 0x0, 0, 1, .rw, (k 0), .pmd⟩

def POS_STAT.IDX_ERR_CNT : FD := ⟨6, 0x4, 4, 0x100, 1, 0x0, 24, 8, .rw, (k 0), .pmd⟩
def POS_STAT.FAULT_RSN : FD := ⟨6, 0x4, 4, 0x100, 1, 0x0, 20, 4, .ro, (k 0), .pmd⟩
def POS_STAT.SSI_MISS : FD := ⟨6, 0x4, 4, 0x100, 1, 0x0, 9, 1, .w1c, (k 0), .pmd⟩
def POS_STAT.CFG_ERR : FD := ⟨6, 0x4, 4, 0x100, 1, 0x0, 8, 1, .w1c, (k 0), .pmd⟩
def POS_STAT.FAULT : FD := ⟨6, 0x4, 4, 0x100, 1, 0x0, 7, 1, .w1c, (k 0), .pmd⟩
def POS_STAT.CLR_DENIED : FD := ⟨6, 0x4, 4, 0x100, 1, 0x0, 6, 1, .w1c, (k 0), .pmd⟩
def POS_STAT.SSI_ERR : FD := ⟨6, 0x4, 4, 0x100, 1, 0x0, 5, 1, .w1c, (k 0), .pmd⟩
def POS_STAT.HALL_ERR : FD := ⟨6, 0x4, 4, 0x100, 1, 0x0, 4, 1, .w1c, (k 0), .pmd⟩
def POS_STAT.QERR : FD := ⟨6, 0x4, 4, 0x100, 1, 0x0, 3, 1, .w1c, (k 0), .pmd⟩
def POS_STAT.INDEX_ERR : FD := ⟨6, 0x4, 4, 0x100, 1, 0x0, 2, 1, .w1c, (k 0), .pmd⟩
def POS_STAT.IDX_SEEN : FD := ⟨6, 0x4, 4, 0x100, 1, 0x0, 1, 1, .ro, (k 0), .pmd⟩
def POS_STAT.VALID : FD := ⟨6, 0x4, 4, 0x100, 1, 0x0, 0, 1, .ro, (k 0), .pmd⟩

def POS_ANG.ANG : FD := ⟨6, 0x8, 4, 0x100, 1, 0x0, 0, 24, .ro, (k 0), .pmd⟩

def POS_SPD.SPD : FD := ⟨6, 0xC, 4, 0x100, 1, 0x0, 0, 32, .ro, (k 0), .pmd⟩

def POS_CNT.REV : FD := ⟨6, 0x10, 4, 0x100, 1, 0x0, 24, 8, .ro, (k 0), .pmd⟩
def POS_CNT.COUNT : FD := ⟨6, 0x10, 4, 0x100, 1, 0x0, 0, 24, .rw, (k 0), .pmd⟩

def POS_FILT_B.FILT_NS : FD := ⟨6, 0x14, 4, 0x100, 1, 0x0, 0, 32, .rw, (k 0x10), .pmd⟩

def POS_SPDW_B.SPDW_NS : FD := ⟨6, 0x18, 4, 0x100, 1, 0x0, 0, 32, .rw, (k 0x186a0), .pmd⟩

def RS_CTRL.EN : FD := ⟨6, 0x400, 2, 0x100, 1, 0x0, 0, 1, .rw, (k 0), .pmd⟩

def RS_STAT.AMP : FD := ⟨6, 0x404, 2, 0x100, 1, 0x0, 16, 16, .ro, (k 0), .pmd⟩
def RS_STAT.FAULT_RSN : FD := ⟨6, 0x404, 2, 0x100, 1, 0x0, 12, 4, .ro, (k 0), .pmd⟩
def RS_STAT.CFG_ERR : FD := ⟨6, 0x404, 2, 0x100, 1, 0x0, 5, 1, .w1c, (k 0), .pmd⟩
def RS_STAT.CLR_DENIED : FD := ⟨6, 0x404, 2, 0x100, 1, 0x0, 4, 1, .w1c, (k 0), .pmd⟩
def RS_STAT.FAULT : FD := ⟨6, 0x404, 2, 0x100, 1, 0x0, 3, 1, .w1c, (k 0), .pmd⟩
def RS_STAT.LOCK : FD := ⟨6, 0x404, 2, 0x100, 1, 0x0, 1, 1, .ro, (k 0), .pmd⟩
def RS_STAT.VALID : FD := ⟨6, 0x404, 2, 0x100, 1, 0x0, 0, 1, .ro, (k 0), .pmd⟩

def RS_ANG.ANG : FD := ⟨6, 0x408, 2, 0x100, 1, 0x0, 0, 24, .ro, (k 0), .pmd⟩

def RS_SPD.SPD : FD := ⟨6, 0x40C, 2, 0x100, 1, 0x0, 0, 32, .ro, (k 0), .pmd⟩

def RS_EXC_B.EXC_MHZ : FD := ⟨6, 0x410, 2, 0x100, 1, 0x0, 0, 32, .rw, (k 0x989680), .pmd⟩

def POS_CFG.ELEC_MUL : FD := ⟨6, 0x8000, 4, 0x100, 1, 0x0, 26, 6, .rw, (k 1), .pmd⟩
def POS_CFG.LINES : FD := ⟨6, 0x8000, 4, 0x100, 1, 0x0, 0, 22, .rw, (k 0), .pmd⟩

def POS_FLT.REVDIR : FD := ⟨6, 0x8004, 4, 0x100, 1, 0x0, 9, 1, .rw, (k 0), .pmd⟩
def POS_FLT.ZGATE : FD := ⟨6, 0x8004, 4, 0x100, 1, 0x0, 8, 1, .rw, (k 0), .pmd⟩
def POS_FLT.FILT_N : FD := ⟨6, 0x8004, 4, 0x100, 1, 0x0, 0, 8, .rw, (k 4), .pmd⟩

def POS_SPDC.SPD_FLT : FD := ⟨6, 0x8008, 4, 0x100, 1, 0x0, 24, 3, .rw, (k 0), .pmd⟩
def POS_SPDC.SPD_TMO : FD := ⟨6, 0x8008, 4, 0x100, 1, 0x0, 16, 8, .rw, (k 0x40), .pmd⟩
def POS_SPDC.SPD_T : FD := ⟨6, 0x8008, 4, 0x100, 1, 0x0, 0, 16, .rw, (k 0xc350), .pmd⟩

def POS_IDX.IDX_LIMIT : FD := ⟨6, 0x800C, 4, 0x100, 1, 0x0, 24, 8, .rw, (k 3), .pmd⟩
def POS_IDX.IDX_MODE : FD := ⟨6, 0x800C, 4, 0x100, 1, 0x0, 16, 2, .rw, (k 0), .pmd⟩
def POS_IDX.IDX_TOL : FD := ⟨6, 0x800C, 4, 0x100, 1, 0x0, 0, 16, .rw, (k 0), .pmd⟩

def POS_IDXPOS.CONSEC : FD := ⟨6, 0x8010, 4, 0x100, 1, 0x0, 24, 8, .ro, (k 0), .pmd⟩
def POS_IDXPOS.IDX_POS : FD := ⟨6, 0x8010, 4, 0x100, 1, 0x0, 0, 24, .ro, (k 0), .pmd⟩

def POS_HALL.CTR_HI : FD := ⟨6, 0x8014, 4, 0x100, 3, 0x4, 16, 16, .rw, (k 0), .pmd⟩
def POS_HALL.CTR_LO : FD := ⟨6, 0x8014, 4, 0x100, 3, 0x4, 0, 16, .rw, (k 0), .pmd⟩

def POS_SSI.GRAY : FD := ⟨6, 0x8020, 4, 0x100, 1, 0x0, 31, 1, .rw, (k 0), .pmd⟩
def POS_SSI.FRAME : FD := ⟨6, 0x8020, 4, 0x100, 1, 0x0, 25, 6, .rw, (k 0x19), .pmd⟩
def POS_SSI.ST_BITS : FD := ⟨6, 0x8020, 4, 0x100, 1, 0x0, 20, 5, .rw, (k 0xd), .pmd⟩
def POS_SSI.DLY : FD := ⟨6, 0x8020, 4, 0x100, 1, 0x0, 14, 6, .rw, (k 0), .pmd⟩
def POS_SSI.ERRBIT : FD := ⟨6, 0x8020, 4, 0x100, 1, 0x0, 13, 1, .rw, (k 0), .pmd⟩
def POS_SSI.CLKDIV : FD := ⟨6, 0x8020, 4, 0x100, 1, 0x0, 0, 8, .rw, (k 0x19), .pmd⟩

def POS_SSIT.TM_US : FD := ⟨6, 0x8024, 4, 0x100, 1, 0x0, 24, 8, .rw, (k 0x14), .pmd⟩
def POS_SSIT.REQ_TB : FD := ⟨6, 0x8024, 4, 0x100, 1, 0x0, 16, 3, .rw, (k 0), .pmd⟩
def POS_SSIT.JUMP : FD := ⟨6, 0x8024, 4, 0x100, 1, 0x0, 0, 16, .rw, (k 0), .pmd⟩

def RS_EXC.AMP_CODE : FD := ⟨6, 0x8400, 2, 0x100, 1, 0x0, 20, 12, .rw, (k 0x800), .pmd⟩
def RS_EXC.FTW : FD := ⟨6, 0x8400, 2, 0x100, 1, 0x0, 0, 18, .rw, (k 0x14f8b), .pmd⟩

def RS_PH.ELEC_MUL : FD := ⟨6, 0x8404, 2, 0x100, 1, 0x0, 16, 6, .rw, (k 1), .pmd⟩
def RS_PH.EXC_PH : FD := ⟨6, 0x8404, 2, 0x100, 1, 0x0, 0, 16, .rw, (k 0), .pmd⟩

def RS_ADC.COS_MUX : FD := ⟨6, 0x8408, 2, 0x100, 1, 0x0, 24, 5, .rw, (k 0), .pmd⟩
def RS_ADC.COS_ADC : FD := ⟨6, 0x8408, 2, 0x100, 1, 0x0, 16, 5, .rw, (k 0), .pmd⟩
def RS_ADC.SIN_MUX : FD := ⟨6, 0x8408, 2, 0x100, 1, 0x0, 8, 5, .rw, (k 0), .pmd⟩
def RS_ADC.SIN_ADC : FD := ⟨6, 0x8408, 2, 0x100, 1, 0x0, 0, 5, .rw, (k 0), .pmd⟩

def RS_TRK.KI : FD := ⟨6, 0x840C, 2, 0x100, 1, 0x0, 16, 16, .rw, (k 0), .pmd⟩
def RS_TRK.KP : FD := ⟨6, 0x840C, 2, 0x100, 1, 0x0, 0, 16, .rw, (k 0), .pmd⟩

def RS_MON.AMP_HI : FD := ⟨6, 0x8410, 2, 0x100, 1, 0x0, 16, 16, .rw, (k 0x7000), .pmd⟩
def RS_MON.AMP_LO : FD := ⟨6, 0x8410, 2, 0x100, 1, 0x0, 0, 16, .rw, (k 0x1000), .pmd⟩

def RS_LIM.LOCK_N : FD := ⟨6, 0x8414, 2, 0x100, 1, 0x0, 16, 8, .rw, (k 0x10), .pmd⟩
def RS_LIM.TRK_LIM : FD := ⟨6, 0x8414, 2, 0x100, 1, 0x0, 0, 16, .rw, (k 0x400), .pmd⟩

def EMU_CTRL.MINT : FD := ⟨6, 0x8800, 4, 0x40, 1, 0x0, 8, 8, .rw, (k 0xa), .pmd⟩
def EMU_CTRL.ZEN : FD := ⟨6, 0x8800, 4, 0x40, 1, 0x0, 4, 1, .rw, (k 0), .pmd⟩
def EMU_CTRL.SRC : FD := ⟨6, 0x8800, 4, 0x40, 1, 0x0, 1, 3, .rw, (k 0), .pmd⟩
def EMU_CTRL.EN : FD := ⟨6, 0x8800, 4, 0x40, 1, 0x0, 0, 1, .rw, (k 0), .pmd⟩

def EMU_PQ.Q : FD := ⟨6, 0x8804, 4, 0x40, 1, 0x0, 16, 16, .rw, (k 1), .pmd⟩
def EMU_PQ.P : FD := ⟨6, 0x8804, 4, 0x40, 1, 0x0, 0, 16, .rw, (k 1), .pmd⟩

def EMU_PINS.PIN_Z : FD := ⟨6, 0x8808, 4, 0x40, 1, 0x0, 12, 6, .rw, (k 0), .pmd⟩
def EMU_PINS.PIN_B : FD := ⟨6, 0x8808, 4, 0x40, 1, 0x0, 6, 6, .rw, (k 0), .pmd⟩
def EMU_PINS.PIN_A : FD := ⟨6, 0x8808, 4, 0x40, 1, 0x0, 0, 6, .rw, (k 0), .pmd⟩

def EMU_STAT.BACKLOG : FD := ⟨6, 0x880C, 4, 0x40, 1, 0x0, 16, 11, .ro, (k 0), .pmd⟩
def EMU_STAT.CFG_ERR : FD := ⟨6, 0x880C, 4, 0x40, 1, 0x0, 2, 1, .w1c, (k 0), .pmd⟩
def EMU_STAT.OVF : FD := ⟨6, 0x880C, 4, 0x40, 1, 0x0, 1, 1, .w1c, (k 0), .pmd⟩
def EMU_STAT.RUN : FD := ⟨6, 0x880C, 4, 0x40, 1, 0x0, 0, 1, .ro, (k 0), .pmd⟩

/-- The registers of spec/10_position.md, each with its fields. -/
def map10 : List (List FD) :=
  [[POS_CTRL.ZRESET, POS_CTRL.MODE, POS_CTRL.EN],
   [POS_STAT.IDX_ERR_CNT, POS_STAT.FAULT_RSN, POS_STAT.SSI_MISS, POS_STAT.CFG_ERR, POS_STAT.FAULT, POS_STAT.CLR_DENIED, POS_STAT.SSI_ERR, POS_STAT.HALL_ERR, POS_STAT.QERR, POS_STAT.INDEX_ERR, POS_STAT.IDX_SEEN, POS_STAT.VALID],
   [POS_ANG.ANG],
   [POS_SPD.SPD],
   [POS_CNT.REV, POS_CNT.COUNT],
   [POS_FILT_B.FILT_NS],
   [POS_SPDW_B.SPDW_NS],
   [RS_CTRL.EN],
   [RS_STAT.AMP, RS_STAT.FAULT_RSN, RS_STAT.CFG_ERR, RS_STAT.CLR_DENIED, RS_STAT.FAULT, RS_STAT.LOCK, RS_STAT.VALID],
   [RS_ANG.ANG],
   [RS_SPD.SPD],
   [RS_EXC_B.EXC_MHZ],
   [POS_CFG.ELEC_MUL, POS_CFG.LINES],
   [POS_FLT.REVDIR, POS_FLT.ZGATE, POS_FLT.FILT_N],
   [POS_SPDC.SPD_FLT, POS_SPDC.SPD_TMO, POS_SPDC.SPD_T],
   [POS_IDX.IDX_LIMIT, POS_IDX.IDX_MODE, POS_IDX.IDX_TOL],
   [POS_IDXPOS.CONSEC, POS_IDXPOS.IDX_POS],
   [POS_HALL.CTR_HI, POS_HALL.CTR_LO],
   [POS_SSI.GRAY, POS_SSI.FRAME, POS_SSI.ST_BITS, POS_SSI.DLY, POS_SSI.ERRBIT, POS_SSI.CLKDIV],
   [POS_SSIT.TM_US, POS_SSIT.REQ_TB, POS_SSIT.JUMP],
   [RS_EXC.AMP_CODE, RS_EXC.FTW],
   [RS_PH.ELEC_MUL, RS_PH.EXC_PH],
   [RS_ADC.COS_MUX, RS_ADC.COS_ADC, RS_ADC.SIN_MUX, RS_ADC.SIN_ADC],
   [RS_TRK.KI, RS_TRK.KP],
   [RS_MON.AMP_HI, RS_MON.AMP_LO],
   [RS_LIM.LOCK_N, RS_LIM.TRK_LIM],
   [EMU_CTRL.MINT, EMU_CTRL.ZEN, EMU_CTRL.SRC, EMU_CTRL.EN],
   [EMU_PQ.Q, EMU_PQ.P],
   [EMU_PINS.PIN_Z, EMU_PINS.PIN_B, EMU_PINS.PIN_A],
   [EMU_STAT.BACKLOG, EMU_STAT.CFG_ERR, EMU_STAT.OVF, EMU_STAT.RUN]]

end Sys2Proof.Machine.Reg
end

