-- ==== Sys2Proof/Machine/RegMapC.lean ====
section
/-! DEFINITION. The register maps of spec/11_rowan.md, 12_processor_complex.md, 13_messaging_and_hosts.md, 14_obpex_chain.md, 15_can.md, 16_clocks.md, 17_power_and_clay.md, 18_selftest_spares_wear.md, 19_alder_and_monitors.md: one field
descriptor per field (window, offset, first and second array dimension, lowest bit, width, access code, reset
value, reset classes), and the list of the registers of each chapter. -/

namespace Sys2Proof.Machine.Reg

/-! ## spec/11_rowan.md -/

def ROW_STATUS.LINK_FLT : FD := ⟨15, 0x0, 1, 0x0, 1, 0x0, 17, 7, .ro, (k 0), .pmd⟩
def ROW_STATUS.CPX_LOST : FD := ⟨15, 0x0, 1, 0x0, 1, 0x0, 16, 1, .ro, (k 0), .pmd⟩
def ROW_STATUS.CPX_MODE : FD := ⟨15, 0x0, 1, 0x0, 1, 0x0, 12, 2, .ro, (k 0), .pmd⟩
def ROW_STATUS.CPX_SS : FD := ⟨15, 0x0, 1, 0x0, 1, 0x0, 11, 1, .ro, (k 0), .pmd⟩
def ROW_STATUS.HVA_ONLY : FD := ⟨15, 0x0, 1, 0x0, 1, 0x0, 3, 1, .ro, (k 0), .pmd⟩
def ROW_STATUS.LV_LOST : FD := ⟨15, 0x0, 1, 0x0, 1, 0x0, 2, 1, .ro, (k 0), .pmd⟩
def ROW_STATUS.READY : FD := ⟨15, 0x0, 1, 0x0, 1, 0x0, 1, 1, .ro, (k 0), .pmd⟩
def ROW_STATUS.ROW_FAULT : FD := ⟨15, 0x0, 1, 0x0, 1, 0x0, 0, 1, .ro, (k 0), .pm⟩

def ROW_REQ.SEQ : FD := ⟨15, 0x4, 1, 0x0, 1, 0x0, 16, 16, .ro, (k 0), .pmd⟩
def ROW_REQ.RESULT : FD := ⟨15, 0x4, 1, 0x0, 1, 0x0, 13, 3, .ro, (k 0), .pmd⟩
def ROW_REQ.MBX : FD := ⟨15, 0x4, 1, 0x0, 1, 0x0, 11, 2, .ro, (k 0), .pmd⟩
def ROW_REQ.STAGE : FD := ⟨15, 0x4, 1, 0x0, 1, 0x0, 8, 3, .ro, (k 0), .pmd⟩
def ROW_REQ.CODE : FD := ⟨15, 0x4, 1, 0x0, 1, 0x0, 0, 8, .ro, (k 0), .pmd⟩

def ROW_STG.HCAUSE : FD := ⟨15, 0x100, 8, 0x20, 1, 0x0, 20, 4, .ro, (k 0), .pmd⟩
def ROW_STG.HOLD : FD := ⟨15, 0x100, 8, 0x20, 1, 0x0, 19, 1, .ro, (k 0), .pmd⟩
def ROW_STG.REL_PEND : FD := ⟨15, 0x100, 8, 0x20, 1, 0x0, 18, 1, .ro, (k 0), .pmd⟩
def ROW_STG.SB_SHARED : FD := ⟨15, 0x100, 8, 0x20, 1, 0x0, 10, 1, .ro, (k 0), .pmd⟩
def ROW_STG.PERM_STALE : FD := ⟨15, 0x100, 8, 0x20, 1, 0x0, 9, 1, .ro, (k 1), .pmd⟩
def ROW_STG.POS2_SAME : FD := ⟨15, 0x100, 8, 0x20, 1, 0x0, 8, 1, .ro, (k 0), .pmd⟩
def ROW_STG.POS2_LOST : FD := ⟨15, 0x100, 8, 0x20, 1, 0x0, 7, 1, .ro, (k 0), .pmd⟩
def ROW_STG.POS_DIS : FD := ⟨15, 0x100, 8, 0x20, 1, 0x0, 6, 1, .ro, (k 0), .pmd⟩
def ROW_STG.TQ_VIOL : FD := ⟨15, 0x100, 8, 0x20, 1, 0x0, 5, 1, .ro, (k 0), .pmd⟩
def ROW_STG.SRC_LOST : FD := ⟨15, 0x100, 8, 0x20, 1, 0x0, 4, 1, .ro, (k 0), .pmd⟩
def ROW_STG.VDC_DIS : FD := ⟨15, 0x100, 8, 0x20, 1, 0x0, 3, 1, .ro, (k 0), .pmd⟩
def ROW_STG.ISUM : FD := ⟨15, 0x100, 8, 0x20, 1, 0x0, 2, 1, .ro, (k 0), .pmd⟩
def ROW_STG.XCHK_I : FD := ⟨15, 0x100, 8, 0x20, 1, 0x0, 1, 1, .ro, (k 0), .pmd⟩

def ROW_LOST.CHOP : FD := ⟨15, 0x104, 8, 0x20, 1, 0x0, 14, 1, .ro, (k 0), .pmd⟩
def ROW_LOST.VDC : FD := ⟨15, 0x104, 8, 0x20, 1, 0x0, 12, 2, .ro, (k 0), .pmd⟩
def ROW_LOST.SEC : FD := ⟨15, 0x104, 8, 0x20, 1, 0x0, 6, 6, .ro, (k 0), .pmd⟩
def ROW_LOST.PRI : FD := ⟨15, 0x104, 8, 0x20, 1, 0x0, 0, 6, .ro, (k 0), .pmd⟩

def ROW_TEST.T_EST : FD := ⟨15, 0x108, 8, 0x20, 1, 0x0, 0, 32, .ro, (k 0), .pmd⟩

def ROW_TMIN.T_EST : FD := ⟨15, 0x10C, 8, 0x20, 1, 0x0, 0, 32, .ro, (k 0), .pmd⟩

def ROW_TMAX.T_EST : FD := ⟨15, 0x110, 8, 0x20, 1, 0x0, 0, 32, .ro, (k 0), .pmd⟩

def ROW_SPD.SPD : FD := ⟨15, 0x114, 8, 0x20, 1, 0x0, 0, 32, .ro, (k 0), .pmd⟩

def ROW_DIS.ELAPSED : FD := ⟨15, 0x118, 8, 0x20, 1, 0x0, 16, 16, .ro, (k 0), .pmd⟩
def ROW_DIS.VLINK : FD := ⟨15, 0x118, 8, 0x20, 1, 0x0, 8, 8, .ro, (k 0), .pmd⟩
def ROW_DIS.ABORT_OC : FD := ⟨15, 0x118, 8, 0x20, 1, 0x0, 5, 1, .ro, (k 0), .pmd⟩
def ROW_DIS.UNVERIFIED : FD := ⟨15, 0x118, 8, 0x20, 1, 0x0, 4, 1, .ro, (k 0), .pmd⟩
def ROW_DIS.DSTATE : FD := ⟨15, 0x118, 8, 0x20, 1, 0x0, 0, 3, .ro, (k 0), .pmd⟩

def ROW_MECH.DIS_STG : FD := ⟨15, 0x8000, 8, 0x40, 1, 0x0, 24, 8, .rwi, (k 0), .pm⟩
def ROW_MECH.CHOP_ISRC : FD := ⟨15, 0x8000, 8, 0x40, 1, 0x0, 16, 8, .rwi, (k 0), .pm⟩
def ROW_MECH.TQ_ISRC : FD := ⟨15, 0x8000, 8, 0x40, 1, 0x0, 8, 1, .rwi, (k 0), .pm⟩
def ROW_MECH.DISCH_MODE : FD := ⟨15, 0x8000, 8, 0x40, 1, 0x0, 6, 2, .rwi, (k 0), .pm⟩
def ROW_MECH.AUTO_DISCH : FD := ⟨15, 0x8000, 8, 0x40, 1, 0x0, 5, 1, .rwi, (k 0), .pm⟩
def ROW_MECH.LOSS_REACT : FD := ⟨15, 0x8000, 8, 0x40, 1, 0x0, 4, 1, .rwi, (k 0), .pm⟩
def ROW_MECH.TQM_MODE : FD := ⟨15, 0x8000, 8, 0x40, 1, 0x0, 2, 2, .rwi, (k 0), .pm⟩
def ROW_MECH.VCHK_EN : FD := ⟨15, 0x8000, 8, 0x40, 1, 0x0, 1, 1, .rwi, (k 0), .pm⟩
def ROW_MECH.XCHK_EN : FD := ⟨15, 0x8000, 8, 0x40, 1, 0x0, 0, 1, .rwi, (k 0), .pm⟩

def ROW_TOL.VTOL : FD := ⟨15, 0x8004, 8, 0x40, 1, 0x0, 16, 16, .rwi, (k 0), .pm⟩
def ROW_TOL.ITOL : FD := ⟨15, 0x8004, 8, 0x40, 1, 0x0, 0, 16, .rwi, (k 0), .pm⟩

def ROW_CNT.SRC_TMO : FD := ⟨15, 0x8008, 8, 0x40, 1, 0x0, 24, 8, .rwi, (k 0), .pm⟩
def ROW_CNT.N_T : FD := ⟨15, 0x8008, 8, 0x40, 1, 0x0, 16, 8, .rwi, (k 0), .pm⟩
def ROW_CNT.N_V : FD := ⟨15, 0x8008, 8, 0x40, 1, 0x0, 8, 8, .rwi, (k 0), .pm⟩
def ROW_CNT.N_I : FD := ⟨15, 0x8008, 8, 0x40, 1, 0x0, 0, 8, .rwi, (k 0), .pm⟩

def ROW_ISUM.I_FS : FD := ⟨15, 0x800C, 8, 0x40, 1, 0x0, 16, 16, .rwi, (k 0), .pm⟩
def ROW_ISUM.ISUM_TOL : FD := ⟨15, 0x800C, 8, 0x40, 1, 0x0, 0, 16, .rwi, (k 0), .pm⟩

def ROW_POS.ANG_TOL : FD := ⟨15, 0x8010, 8, 0x40, 1, 0x0, 16, 16, .rwi, (k 0), .pm⟩
def ROW_POS.PP : FD := ⟨15, 0x8010, 8, 0x40, 1, 0x0, 8, 8, .rwi, (k 0), .pm⟩
def ROW_POS.POS2_SRC : FD := ⟨15, 0x8010, 8, 0x40, 1, 0x0, 0, 3, .rwi, (k 0), .pm⟩

def ROW_FLX.FLX_FS : FD := ⟨15, 0x8014, 8, 0x40, 1, 0x0, 16, 16, .rwi, (k 0), .pm⟩
def ROW_FLX.FLX_L : FD := ⟨15, 0x8014, 8, 0x40, 1, 0x0, 12, 3, .rwi, (k 0), .pm⟩
def ROW_FLX.FLX_BASE : FD := ⟨15, 0x8014, 8, 0x40, 1, 0x0, 0, 12, .rwi, (k 0), .pm⟩

def ROW_TQ.TQ_IDLE : FD := ⟨15, 0x8018, 8, 0x40, 1, 0x0, 16, 16, .rwi, (k 0), .pm⟩
def ROW_TQ.TQ_TOL : FD := ⟨15, 0x8018, 8, 0x40, 1, 0x0, 0, 16, .rwi, (k 0), .pm⟩

def ROW_TQT.TQP_TMO : FD := ⟨15, 0x801C, 8, 0x40, 1, 0x0, 0, 16, .rwi, (k 0), .pm⟩

def ROW_DISV.DISCH_T : FD := ⟨15, 0x8020, 8, 0x40, 1, 0x0, 16, 16, .rwi, (k 0), .pm⟩
def ROW_DISV.DISCH_V : FD := ⟨15, 0x8020, 8, 0x40, 1, 0x0, 0, 16, .rwi, (k 0), .pm⟩

def ROW_DISL.DIS_RES : FD := ⟨15, 0x8024, 8, 0x40, 1, 0x0, 16, 16, .rwi, (k 0), .pm⟩
def ROW_DISL.DIS_PMAX : FD := ⟨15, 0x8024, 8, 0x40, 1, 0x0, 0, 16, .rwi, (k 0), .pm⟩

def ROW_DISW.DIS_SPD : FD := ⟨15, 0x8028, 8, 0x40, 1, 0x0, 16, 16, .rwi, (k 0), .pm⟩
def ROW_DISW.DIS_ID : FD := ⟨15, 0x8028, 8, 0x40, 1, 0x0, 0, 16, .rwi, (k 0), .pm⟩

def ROW_SRC_ZERO.ZERO : FD := ⟨15, 0x9000, 72, 0x8, 1, 0x0, 0, 32, .rwi, (k 0), .pm⟩

def ROW_SRC_GAIN.GAIN : FD := ⟨15, 0x9004, 72, 0x8, 1, 0x0, 0, 32, .rwi, (k 0), .pm⟩

def ROW_FLUX.PSI_D : FD := ⟨15, 0xA000, 4096, 0x4, 1, 0x0, 16, 16, .rwi, (k 0), .pm⟩
def ROW_FLUX.PSI_Q : FD := ⟨15, 0xA000, 4096, 0x4, 1, 0x0, 0, 16, .rwi, (k 0), .pm⟩

/-- The registers of spec/11_rowan.md, each with its fields. -/
def map11 : List (List FD) :=
  [[ROW_STATUS.LINK_FLT, ROW_STATUS.CPX_LOST, ROW_STATUS.CPX_MODE, ROW_STATUS.CPX_SS, ROW_STATUS.HVA_ONLY, ROW_STATUS.LV_LOST, ROW_STATUS.READY, ROW_STATUS.ROW_FAULT],
   [ROW_REQ.SEQ, ROW_REQ.RESULT, ROW_REQ.MBX, ROW_REQ.STAGE, ROW_REQ.CODE],
   [ROW_STG.HCAUSE, ROW_STG.HOLD, ROW_STG.REL_PEND, ROW_STG.SB_SHARED, ROW_STG.PERM_STALE, ROW_STG.POS2_SAME, ROW_STG.POS2_LOST, ROW_STG.POS_DIS, ROW_STG.TQ_VIOL, ROW_STG.SRC_LOST, ROW_STG.VDC_DIS, ROW_STG.ISUM, ROW_STG.XCHK_I],
   [ROW_LOST.CHOP, ROW_LOST.VDC, ROW_LOST.SEC, ROW_LOST.PRI],
   [ROW_TEST.T_EST],
   [ROW_TMIN.T_EST],
   [ROW_TMAX.T_EST],
   [ROW_SPD.SPD],
   [ROW_DIS.ELAPSED, ROW_DIS.VLINK, ROW_DIS.ABORT_OC, ROW_DIS.UNVERIFIED, ROW_DIS.DSTATE],
   [ROW_MECH.DIS_STG, ROW_MECH.CHOP_ISRC, ROW_MECH.TQ_ISRC, ROW_MECH.DISCH_MODE, ROW_MECH.AUTO_DISCH, ROW_MECH.LOSS_REACT, ROW_MECH.TQM_MODE, ROW_MECH.VCHK_EN, ROW_MECH.XCHK_EN],
   [ROW_TOL.VTOL, ROW_TOL.ITOL],
   [ROW_CNT.SRC_TMO, ROW_CNT.N_T, ROW_CNT.N_V, ROW_CNT.N_I],
   [ROW_ISUM.I_FS, ROW_ISUM.ISUM_TOL],
   [ROW_POS.ANG_TOL, ROW_POS.PP, ROW_POS.POS2_SRC],
   [ROW_FLX.FLX_FS, ROW_FLX.FLX_L, ROW_FLX.FLX_BASE],
   [ROW_TQ.TQ_IDLE, ROW_TQ.TQ_TOL],
   [ROW_TQT.TQP_TMO],
   [ROW_DISV.DISCH_T, ROW_DISV.DISCH_V],
   [ROW_DISL.DIS_RES, ROW_DISL.DIS_PMAX],
   [ROW_DISW.DIS_SPD, ROW_DISW.DIS_ID],
   [ROW_SRC_ZERO.ZERO],
   [ROW_SRC_GAIN.GAIN],
   [ROW_FLUX.PSI_D, ROW_FLUX.PSI_Q]]

/-! ## spec/12_processor_complex.md -/

def CPX_STATUS.HALT_RSN : FD := ⟨14, 0x0, 1, 0x0, 1, 0x0, 24, 4, .ro, (k 0), .pmd⟩
def CPX_STATUS.JRDY : FD := ⟨14, 0x0, 1, 0x0, 1, 0x0, 16, 3, .ro, (k 0), .pmd⟩
def CPX_STATUS.PAUSED : FD := ⟨14, 0x0, 1, 0x0, 1, 0x0, 11, 1, .ro, (k 0), .pmd⟩
def CPX_STATUS.UNCHK : FD := ⟨14, 0x0, 1, 0x0, 1, 0x0, 10, 1, .ro, (k 0), .pm⟩
def CPX_STATUS.SPARE_CHK : FD := ⟨14, 0x0, 1, 0x0, 1, 0x0, 9, 1, .ro, (k 0), .pm⟩
def CPX_STATUS.ACT : FD := ⟨14, 0x0, 1, 0x0, 1, 0x0, 4, 3, .ro, (k 0), .pmd⟩
def CPX_STATUS.MODE : FD := ⟨14, 0x0, 1, 0x0, 1, 0x0, 0, 4, .ro, (k 0), .pmd⟩

def CPX_CTRL.CRST : FD := ⟨14, 0x4, 1, 0x0, 1, 0x0, 16, 3, .w1s, (k 0), .pmd⟩
def CPX_CTRL.PAUSE : FD := ⟨14, 0x4, 1, 0x0, 1, 0x0, 8, 1, .rw, (k 0), .pmd⟩
def CPX_CTRL.JOIN_RDY : FD := ⟨14, 0x4, 1, 0x0, 1, 0x0, 2, 1, .w1s, (k 0), .pmd⟩
def CPX_CTRL.JOIN : FD := ⟨14, 0x4, 1, 0x0, 1, 0x0, 1, 1, .w1s, (k 0), .pmd⟩
def CPX_CTRL.SPLIT : FD := ⟨14, 0x4, 1, 0x0, 1, 0x0, 0, 1, .w1s, (k 0), .pmd⟩

def CPX_CFG.RETIRE_MS : FD := ⟨14, 0x8, 1, 0x0, 1, 0x0, 16, 16, .rw, (k 0x3e8), .pmd⟩
def CPX_CFG.WB : FD := ⟨14, 0x8, 1, 0x0, 1, 0x0, 12, 1, .rw, (k 0), .pmd⟩
def CPX_CFG.RETIRE_K : FD := ⟨14, 0x8, 1, 0x0, 1, 0x0, 8, 4, .rw, (k 3), .pmd⟩
def CPX_CFG.SYNC_US : FD := ⟨14, 0x8, 1, 0x0, 1, 0x0, 0, 4, .rw, (k 8), .pmd⟩

def CPX_EVT.PAUSE_DENIED : FD := ⟨14, 0xC, 1, 0x0, 1, 0x0, 15, 1, .w1c, (k 0), .pmd⟩
def CPX_EVT.INJ_DENIED : FD := ⟨14, 0xC, 1, 0x0, 1, 0x0, 14, 1, .w1c, (k 0), .pmd⟩
def CPX_EVT.RELOAD : FD := ⟨14, 0xC, 1, 0x0, 1, 0x0, 13, 1, .w1c, (k 0), .pmd⟩
def CPX_EVT.CFG_ERR : FD := ⟨14, 0xC, 1, 0x0, 1, 0x0, 12, 1, .w1c, (k 0), .pmd⟩
def CPX_EVT.CRST_DENIED : FD := ⟨14, 0xC, 1, 0x0, 1, 0x0, 11, 1, .w1c, (k 0), .pmd⟩
def CPX_EVT.JOIN_DENIED : FD := ⟨14, 0xC, 1, 0x0, 1, 0x0, 10, 1, .w1c, (k 0), .pmd⟩
def CPX_EVT.SPLIT_DENIED : FD := ⟨14, 0xC, 1, 0x0, 1, 0x0, 9, 1, .w1c, (k 0), .pmd⟩
def CPX_EVT.CHK_FAULT : FD := ⟨14, 0xC, 1, 0x0, 1, 0x0, 8, 1, .w1c, (k 0), .pmd⟩
def CPX_EVT.TRANSIENT : FD := ⟨14, 0xC, 1, 0x0, 1, 0x0, 7, 1, .w1c, (k 0), .pmd⟩
def CPX_EVT.PAIR_MM : FD := ⟨14, 0xC, 1, 0x0, 1, 0x0, 6, 1, .w1c, (k 0), .pmd⟩
def CPX_EVT.DISAGREE : FD := ⟨14, 0xC, 1, 0x0, 1, 0x0, 5, 1, .w1c, (k 0), .pmd⟩
def CPX_EVT.LATENT : FD := ⟨14, 0xC, 1, 0x0, 1, 0x0, 4, 1, .w1c, (k 0), .pmd⟩
def CPX_EVT.PROMOTE : FD := ⟨14, 0xC, 1, 0x0, 1, 0x0, 3, 1, .w1c, (k 0), .pmd⟩
def CPX_EVT.RETIRE : FD := ⟨14, 0xC, 1, 0x0, 1, 0x0, 2, 1, .w1c, (k 0), .pmd⟩
def CPX_EVT.RESYNC : FD := ⟨14, 0xC, 1, 0x0, 1, 0x0, 1, 1, .w1c, (k 0), .pmd⟩
def CPX_EVT.OUTVOTE : FD := ⟨14, 0xC, 1, 0x0, 1, 0x0, 0, 1, .w1c, (k 0), .pmd⟩

def CPX_OUTV.OAK : FD := ⟨14, 0x10, 1, 0x0, 1, 0x0, 16, 8, .ro, (k 0), .pmd⟩
def CPX_OUTV.ELM : FD := ⟨14, 0x10, 1, 0x0, 1, 0x0, 8, 8, .ro, (k 0), .pmd⟩
def CPX_OUTV.ASH : FD := ⟨14, 0x10, 1, 0x0, 1, 0x0, 0, 8, .ro, (k 0), .pmd⟩

def CPX_MAP.YEW_USED : FD := ⟨14, 0x14, 1, 0x0, 1, 0x0, 20, 1, .ro, (k 0), .pm⟩
def CPX_MAP.RETIRED : FD := ⟨14, 0x14, 1, 0x0, 1, 0x0, 16, 4, .ro, (k 0), .pm⟩
def CPX_MAP.OAK_PHY : FD := ⟨14, 0x14, 1, 0x0, 1, 0x0, 8, 2, .ro, (k 2), .pm⟩
def CPX_MAP.ELM_PHY : FD := ⟨14, 0x14, 1, 0x0, 1, 0x0, 4, 2, .ro, (k 1), .pm⟩
def CPX_MAP.ASH_PHY : FD := ⟨14, 0x14, 1, 0x0, 1, 0x0, 0, 2, .ro, (k 0), .pm⟩

def CPX_LAST.KIND : FD := ⟨14, 0x18, 1, 0x0, 1, 0x0, 28, 4, .ro, (k 0), .pmd⟩
def CPX_LAST.CORE : FD := ⟨14, 0x18, 1, 0x0, 1, 0x0, 16, 2, .ro, (k 0), .pmd⟩
def CPX_LAST.ITEM : FD := ⟨14, 0x18, 1, 0x0, 1, 0x0, 0, 12, .ro, (k 0), .pmd⟩

def CPX_LAST_PC.PC : FD := ⟨14, 0x1C, 1, 0x0, 1, 0x0, 0, 32, .ro, (k 0), .pmd⟩

def CPX_VEC.VEC : FD := ⟨14, 0x20, 3, 0x4, 1, 0x0, 2, 30, .rw, (fun i _ => if i = 1 then 0x20 else if i = 2 then 0x40 else 0), .pm⟩

def CPX_MTIMECMP.CMP : FD := ⟨14, 0x30, 3, 0x8, 1, 0x0, 0, 64, .rw, (k 0xFFFFFFFFFFFFFFFF), .pmd⟩

def CPX_IRQ_CFG.TARGET : FD := ⟨14, 0x100, 64, 0x4, 1, 0x0, 8, 2, .rw, (k 0), .pmd⟩
def CPX_IRQ_CFG.PRIO : FD := ⟨14, 0x100, 64, 0x4, 1, 0x0, 0, 3, .rw, (k 0), .pmd⟩

def CPX_IRQ_PEND.PEND : FD := ⟨14, 0x200, 2, 0x4, 1, 0x0, 0, 32, .w1c, (k 0), .pmd⟩

def CPX_IRQ_TOP.THRESH : FD := ⟨14, 0x210, 3, 0x4, 1, 0x0, 16, 3, .rw, (k 0), .pmd⟩
def CPX_IRQ_TOP.VALID : FD := ⟨14, 0x210, 3, 0x4, 1, 0x0, 8, 1, .ro, (k 0), .pmd⟩
def CPX_IRQ_TOP.SRC : FD := ⟨14, 0x210, 3, 0x4, 1, 0x0, 0, 6, .ro, (k 0), .pmd⟩

def CPX_CHK.TEST_CNT : FD := ⟨14, 0x8000, 1, 0x0, 1, 0x0, 16, 16, .ro, (k 0), .pm⟩
def CPX_CHK.DLY_PAR : FD := ⟨14, 0x8000, 1, 0x0, 1, 0x0, 3, 1, .ro, (k 0), .pm⟩
def CPX_CHK.MAIN_OK : FD := ⟨14, 0x8000, 1, 0x0, 1, 0x0, 2, 1, .ro, (k 1), .pm⟩
def CPX_CHK.SPARE_OK : FD := ⟨14, 0x8000, 1, 0x0, 1, 0x0, 1, 1, .ro, (k 1), .pm⟩
def CPX_CHK.ACTIVE : FD := ⟨14, 0x8000, 1, 0x0, 1, 0x0, 0, 1, .ro, (k 0), .pm⟩

def CPX_INJ.GO : FD := ⟨14, 0x8004, 1, 0x0, 1, 0x0, 31, 1, .w1s, (k 0), .pmd⟩
def CPX_INJ.CORE : FD := ⟨14, 0x8004, 1, 0x0, 1, 0x0, 16, 2, .rw, (k 0), .pmd⟩
def CPX_INJ.BIT : FD := ⟨14, 0x8004, 1, 0x0, 1, 0x0, 0, 5, .rw, (k 0), .pmd⟩

/-- The registers of spec/12_processor_complex.md, each with its fields. -/
def map12 : List (List FD) :=
  [[CPX_STATUS.HALT_RSN, CPX_STATUS.JRDY, CPX_STATUS.PAUSED, CPX_STATUS.UNCHK, CPX_STATUS.SPARE_CHK, CPX_STATUS.ACT, CPX_STATUS.MODE],
   [CPX_CTRL.CRST, CPX_CTRL.PAUSE, CPX_CTRL.JOIN_RDY, CPX_CTRL.JOIN, CPX_CTRL.SPLIT],
   [CPX_CFG.RETIRE_MS, CPX_CFG.WB, CPX_CFG.RETIRE_K, CPX_CFG.SYNC_US],
   [CPX_EVT.PAUSE_DENIED, CPX_EVT.INJ_DENIED, CPX_EVT.RELOAD, CPX_EVT.CFG_ERR, CPX_EVT.CRST_DENIED, CPX_EVT.JOIN_DENIED, CPX_EVT.SPLIT_DENIED, CPX_EVT.CHK_FAULT, CPX_EVT.TRANSIENT, CPX_EVT.PAIR_MM, CPX_EVT.DISAGREE, CPX_EVT.LATENT, CPX_EVT.PROMOTE, CPX_EVT.RETIRE, CPX_EVT.RESYNC, CPX_EVT.OUTVOTE],
   [CPX_OUTV.OAK, CPX_OUTV.ELM, CPX_OUTV.ASH],
   [CPX_MAP.YEW_USED, CPX_MAP.RETIRED, CPX_MAP.OAK_PHY, CPX_MAP.ELM_PHY, CPX_MAP.ASH_PHY],
   [CPX_LAST.KIND, CPX_LAST.CORE, CPX_LAST.ITEM],
   [CPX_LAST_PC.PC],
   [CPX_VEC.VEC],
   [CPX_MTIMECMP.CMP],
   [CPX_IRQ_CFG.TARGET, CPX_IRQ_CFG.PRIO],
   [CPX_IRQ_PEND.PEND],
   [CPX_IRQ_TOP.THRESH, CPX_IRQ_TOP.VALID, CPX_IRQ_TOP.SRC],
   [CPX_CHK.TEST_CNT, CPX_CHK.DLY_PAR, CPX_CHK.MAIN_OK, CPX_CHK.SPARE_OK, CPX_CHK.ACTIVE],
   [CPX_INJ.GO, CPX_INJ.CORE, CPX_INJ.BIT]]

/-! ## spec/13_messaging_and_hosts.md -/

def MB_DATA.DATA : FD := ⟨7, 0x0, 64, 0x80, 16, 0x4, 0, 32, .rw, (k 0), .pm⟩

def MB_HDR.USER : FD := ⟨7, 0x40, 64, 0x80, 1, 0x0, 16, 16, .rw, (k 0), .pm⟩
def MB_HDR.SENDER : FD := ⟨7, 0x40, 64, 0x80, 1, 0x0, 8, 3, .ro, (k 7), .pm⟩
def MB_HDR.LEN : FD := ⟨7, 0x40, 64, 0x80, 1, 0x0, 0, 5, .rw, (k 0), .pm⟩

def MB_EPOCH.S_EPOCH : FD := ⟨7, 0x44, 64, 0x80, 1, 0x0, 16, 16, .ro, (k 0), .pm⟩
def MB_EPOCH.R_EPOCH : FD := ⟨7, 0x44, 64, 0x80, 1, 0x0, 0, 16, .ro, (k 0), .pm⟩

def MB_CTRL.ABORT : FD := ⟨7, 0x48, 64, 0x80, 1, 0x0, 2, 1, .wo, (k 0), .none⟩
def MB_CTRL.REL : FD := ⟨7, 0x48, 64, 0x80, 1, 0x0, 1, 1, .wo, (k 0), .none⟩
def MB_CTRL.GO : FD := ⟨7, 0x48, 64, 0x80, 1, 0x0, 0, 1, .wo, (k 0), .none⟩

def MB_STAT.FILLER : FD := ⟨7, 0x4C, 64, 0x80, 1, 0x0, 8, 3, .ro, (k 7), .pm⟩
def MB_STAT.FILL_LOST : FD := ⟨7, 0x4C, 64, 0x80, 1, 0x0, 7, 1, .w1c, (k 0), .pm⟩
def MB_STAT.R_RESET : FD := ⟨7, 0x4C, 64, 0x80, 1, 0x0, 6, 1, .ro, (k 0), .pm⟩
def MB_STAT.S_RESET : FD := ⟨7, 0x4C, 64, 0x80, 1, 0x0, 5, 1, .ro, (k 0), .pm⟩
def MB_STAT.CFG_DENIED : FD := ⟨7, 0x4C, 64, 0x80, 1, 0x0, 4, 1, .w1c, (k 0), .pm⟩
def MB_STAT.STATE : FD := ⟨7, 0x4C, 64, 0x80, 1, 0x0, 0, 2, .ro, (k 0), .pm⟩

def MB_TIME.TIME : FD := ⟨7, 0x50, 64, 0x80, 1, 0x0, 0, 32, .ro, (k 0), .pm⟩

def MB_CFG.RX : FD := ⟨7, 0x54, 64, 0x80, 1, 0x0, 16, 3, .rw, (fun i _ => if i < 60 then 0 else 6), .pm⟩
def MB_CFG.NOTIFY : FD := ⟨7, 0x54, 64, 0x80, 1, 0x0, 8, 1, .rw, (k 0), .pm⟩
def MB_CFG.DB : FD := ⟨7, 0x54, 64, 0x80, 1, 0x0, 0, 5, .rw, (k 0), .pm⟩

def DB_PEND.PEND : FD := ⟨7, 0x2000, 6, 0x20, 1, 0x0, 0, 32, .w1c, (k 0), .pm⟩

def DB_MASK.MASK : FD := ⟨7, 0x2004, 6, 0x20, 1, 0x0, 0, 32, .rw, (k 0), .pm⟩

def DB_RING.RING : FD := ⟨7, 0x2008, 6, 0x20, 1, 0x0, 0, 32, .w1s, (k 0), .pm⟩

def DB_WAKE.WAKE_MB : FD := ⟨7, 0x200C, 6, 0x20, 1, 0x0, 8, 6, .ro, (k 0), .pm⟩
def DB_WAKE.WAKE : FD := ⟨7, 0x200C, 6, 0x20, 1, 0x0, 0, 1, .w1c, (k 0), .pm⟩

def EP_EPOCH.EPOCH : FD := ⟨7, 0x2100, 7, 0x4, 1, 0x0, 0, 16, .ro, (k 0), .pm⟩

def SEM_ACQ.WORD : FD := ⟨7, 0x3000, 64, 0x4, 1, 0x0, 0, 32, .rw, (k 0), .pm⟩

def SEM_PEEK.WORD : FD := ⟨7, 0x3100, 64, 0x4, 1, 0x0, 0, 32, .ro, (k 0x70000), .pm⟩

def SEM_CTRL.STALE_REL : FD := ⟨7, 0x3200, 1, 0x0, 1, 0x0, 2, 1, .w1c, (k 0), .pm⟩
def SEM_CTRL.REL_DENIED : FD := ⟨7, 0x3200, 1, 0x0, 1, 0x0, 1, 1, .w1c, (k 0), .pm⟩
def SEM_CTRL.PREC : FD := ⟨7, 0x3200, 1, 0x0, 1, 0x0, 0, 1, .ro, (k 0), .pm⟩

def HP_STAT.FREE : FD := ⟨7, 0x3800, 2, 0x20, 1, 0x0, 16, 7, .ro, (k 0x40), .pm⟩
def HP_STAT.BERR : FD := ⟨7, 0x3800, 2, 0x20, 1, 0x0, 7, 1, .w1c, (k 0), .pm⟩
def HP_STAT.WOVF : FD := ⟨7, 0x3800, 2, 0x20, 1, 0x0, 6, 1, .w1c, (k 0), .pm⟩
def HP_STAT.ABND : FD := ⟨7, 0x3800, 2, 0x20, 1, 0x0, 3, 1, .w1c, (k 0), .pm⟩
def HP_STAT.CMD_ERR : FD := ⟨7, 0x3800, 2, 0x20, 1, 0x0, 2, 1, .w1c, (k 0), .pm⟩

def HP_BERR_ADDR.ADDR : FD := ⟨7, 0x3804, 2, 0x20, 1, 0x0, 0, 32, .ro, (k 0), .pm⟩

/-- The registers of spec/13_messaging_and_hosts.md, each with its fields. -/
def map13 : List (List FD) :=
  [[MB_DATA.DATA],
   [MB_HDR.USER, MB_HDR.SENDER, MB_HDR.LEN],
   [MB_EPOCH.S_EPOCH, MB_EPOCH.R_EPOCH],
   [MB_CTRL.ABORT, MB_CTRL.REL, MB_CTRL.GO],
   [MB_STAT.FILLER, MB_STAT.FILL_LOST, MB_STAT.R_RESET, MB_STAT.S_RESET, MB_STAT.CFG_DENIED, MB_STAT.STATE],
   [MB_TIME.TIME],
   [MB_CFG.RX, MB_CFG.NOTIFY, MB_CFG.DB],
   [DB_PEND.PEND],
   [DB_MASK.MASK],
   [DB_RING.RING],
   [DB_WAKE.WAKE_MB, DB_WAKE.WAKE],
   [EP_EPOCH.EPOCH],
   [SEM_ACQ.WORD],
   [SEM_PEEK.WORD],
   [SEM_CTRL.STALE_REL, SEM_CTRL.REL_DENIED, SEM_CTRL.PREC],
   [HP_STAT.FREE, HP_STAT.BERR, HP_STAT.WOVF, HP_STAT.ABND, HP_STAT.CMD_ERR],
   [HP_BERR_ADDR.ADDR]]

/-! ## spec/14_obpex_chain.md -/

def CH_CFG.ROLE : FD := ⟨9, 0x0, 1, 0x0, 1, 0x0, 4, 2, .rwi, (k 0), .pm⟩
def CH_CFG.RST_EN : FD := ⟨9, 0x0, 1, 0x0, 1, 0x0, 3, 1, .rwi, (k 0), .pm⟩
def CH_CFG.ACCEPT : FD := ⟨9, 0x0, 1, 0x0, 1, 0x0, 2, 1, .rw, (k 1), .pmd⟩
def CH_CFG.EN : FD := ⟨9, 0x0, 1, 0x0, 1, 0x0, 0, 1, .rw, (k 0), .pmd⟩

def CH_STATUS.ADDR_OK : FD := ⟨9, 0x4, 1, 0x0, 1, 0x0, 24, 1, .ro, (k 0), .pmd⟩
def CH_STATUS.ADDR : FD := ⟨9, 0x4, 1, 0x0, 1, 0x0, 18, 6, .ro, (k 0), .pmd⟩
def CH_STATUS.MASTER_LOST : FD := ⟨9, 0x4, 1, 0x0, 1, 0x0, 8, 1, .ro, (k 0), .pmd⟩
def CH_STATUS.ENUM_DONE : FD := ⟨9, 0x4, 1, 0x0, 1, 0x0, 7, 1, .ro, (k 0), .pmd⟩
def CH_STATUS.TLOCK : FD := ⟨9, 0x4, 1, 0x0, 1, 0x0, 6, 1, .ro, (k 0), .pmd⟩
def CH_STATUS.WRAP1 : FD := ⟨9, 0x4, 1, 0x0, 1, 0x0, 5, 1, .ro, (k 0), .pmd⟩
def CH_STATUS.WRAP0 : FD := ⟨9, 0x4, 1, 0x0, 1, 0x0, 4, 1, .ro, (k 0), .pmd⟩
def CH_STATUS.UP1 : FD := ⟨9, 0x4, 1, 0x0, 1, 0x0, 1, 1, .ro, (k 0), .pmd⟩
def CH_STATUS.UP0 : FD := ⟨9, 0x4, 1, 0x0, 1, 0x0, 0, 1, .ro, (k 0), .pmd⟩

def CH_CMD.TARGET : FD := ⟨9, 0x8, 1, 0x0, 1, 0x0, 16, 6, .rw, (k 0), .pmd⟩
def CH_CMD.RESET_ONE : FD := ⟨9, 0x8, 1, 0x0, 1, 0x0, 3, 1, .w1s, (k 0), .pmd⟩
def CH_CMD.RESET_ALL : FD := ⟨9, 0x8, 1, 0x0, 1, 0x0, 2, 1, .w1s, (k 0), .pmd⟩
def CH_CMD.KEEP : FD := ⟨9, 0x8, 1, 0x0, 1, 0x0, 1, 1, .rw, (k 0), .pmd⟩
def CH_CMD.ENUM : FD := ⟨9, 0x8, 1, 0x0, 1, 0x0, 0, 1, .w1s, (k 0), .pmd⟩

def CH_EVT.MC_DENIED : FD := ⟨9, 0xC, 1, 0x0, 1, 0x0, 15, 1, .w1c, (k 0), .pmd⟩
def CH_EVT.MEMBER_LOST : FD := ⟨9, 0xC, 1, 0x0, 1, 0x0, 14, 1, .w1c, (k 0), .pmd⟩
def CH_EVT.LANE_SPARED : FD := ⟨9, 0xC, 1, 0x0, 1, 0x0, 13, 1, .w1c, (k 0), .pmd⟩
def CH_EVT.MC_EVT : FD := ⟨9, 0xC, 1, 0x0, 1, 0x0, 12, 1, .w1c, (k 0), .pmd⟩
def CH_EVT.CSYNC_STEP : FD := ⟨9, 0xC, 1, 0x0, 1, 0x0, 11, 1, .w1c, (k 0), .pmd⟩
def CH_EVT.CSYNC_LATE : FD := ⟨9, 0xC, 1, 0x0, 1, 0x0, 10, 1, .w1c, (k 0), .pmd⟩
def CH_EVT.CRC_DROP : FD := ⟨9, 0xC, 1, 0x0, 1, 0x0, 9, 1, .w1c, (k 0), .pmd⟩
def CH_EVT.RX_OVF : FD := ⟨9, 0xC, 1, 0x0, 1, 0x0, 8, 1, .w1c, (k 0), .pmd⟩
def CH_EVT.TX_ERR : FD := ⟨9, 0xC, 1, 0x0, 1, 0x0, 7, 1, .w1c, (k 0), .pmd⟩
def CH_EVT.CMD_ERR : FD := ⟨9, 0xC, 1, 0x0, 1, 0x0, 6, 1, .w1c, (k 0), .pmd⟩
def CH_EVT.ENUM_OVF : FD := ⟨9, 0xC, 1, 0x0, 1, 0x0, 5, 1, .w1c, (k 0), .pmd⟩
def CH_EVT.TSTEP : FD := ⟨9, 0xC, 1, 0x0, 1, 0x0, 4, 1, .w1c, (k 0), .pmd⟩
def CH_EVT.TLOCK_LOST : FD := ⟨9, 0xC, 1, 0x0, 1, 0x0, 3, 1, .w1c, (k 0), .pmd⟩
def CH_EVT.WRAP_CHG : FD := ⟨9, 0xC, 1, 0x0, 1, 0x0, 2, 1, .w1c, (k 0), .pmd⟩
def CH_EVT.LINK_CHG : FD := ⟨9, 0xC, 1, 0x0, 1, 0x0, 1, 1, .w1c, (k 0), .pmd⟩
def CH_EVT.ENUM_END : FD := ⟨9, 0xC, 1, 0x0, 1, 0x0, 0, 1, .w1c, (k 0), .pmd⟩

def CH_TIME.TIME : FD := ⟨9, 0x10, 1, 0x0, 1, 0x0, 0, 64, .ro, (k 0), .pm⟩

def CH_CSYNC_AT.AT : FD := ⟨9, 0x18, 1, 0x0, 1, 0x0, 0, 64, .rw, (k 0), .pmd⟩

def CH_CSYNC.PER : FD := ⟨9, 0x20, 1, 0x0, 1, 0x0, 8, 24, .rw, (k 0), .pmd⟩
def CH_CSYNC.ARM : FD := ⟨9, 0x20, 1, 0x0, 1, 0x0, 0, 1, .rw, (k 0), .pmd⟩

def CH_PRESENT.MAP : FD := ⟨9, 0x28, 1, 0x0, 1, 0x0, 0, 64, .ro, (k 0), .pmd⟩

def CH_TX.DEST : FD := ⟨9, 0x40, 1, 0x0, 1, 0x0, 24, 8, .rw, (k 0), .pmd⟩
def CH_TX.LEN : FD := ⟨9, 0x40, 1, 0x0, 1, 0x0, 16, 8, .rw, (k 0), .pmd⟩
def CH_TX.OFFSET : FD := ⟨9, 0x40, 1, 0x0, 1, 0x0, 0, 13, .rw, (k 0), .pmd⟩

def CH_TX_CTRL.QUSED : FD := ⟨9, 0x44, 1, 0x0, 1, 0x0, 8, 5, .ro, (k 0), .pmd⟩
def CH_TX_CTRL.GO : FD := ⟨9, 0x44, 1, 0x0, 1, 0x0, 0, 1, .w1s, (k 0), .pmd⟩

def CH_RX_PTR.RD_PTR : FD := ⟨9, 0x48, 1, 0x0, 1, 0x0, 16, 13, .rw, (k 0), .pmd⟩
def CH_RX_PTR.WR_PTR : FD := ⟨9, 0x48, 1, 0x0, 1, 0x0, 0, 13, .ro, (k 0), .pmd⟩

def CH_MC_CTRL.ID : FD := ⟨9, 0x60, 1, 0x0, 1, 0x0, 16, 16, .rw, (k 0), .pmd⟩
def CH_MC_CTRL.PREPARE : FD := ⟨9, 0x60, 1, 0x0, 1, 0x0, 0, 1, .w1s, (k 0), .pmd⟩

def CH_MC_AT.T : FD := ⟨9, 0x64, 1, 0x0, 1, 0x0, 0, 64, .rw, (k 0), .pmd⟩

def CH_MC_STAT.ID : FD := ⟨9, 0x70, 1, 0x0, 1, 0x0, 16, 16, .ro, (k 0), .pmd⟩
def CH_MC_STAT.REASON : FD := ⟨9, 0x70, 1, 0x0, 1, 0x0, 8, 3, .ro, (k 0), .pmd⟩
def CH_MC_STAT.LOCK_LOST : FD := ⟨9, 0x70, 1, 0x0, 1, 0x0, 5, 1, .ro, (k 0), .pmd⟩
def CH_MC_STAT.CMT : FD := ⟨9, 0x70, 1, 0x0, 1, 0x0, 4, 1, .ro, (k 0), .pmd⟩
def CH_MC_STAT.STATE : FD := ⟨9, 0x70, 1, 0x0, 1, 0x0, 0, 3, .ro, (k 0), .pmd⟩

def CH_MC_RES.RESULT : FD := ⟨9, 0x74, 1, 0x0, 1, 0x0, 0, 3, .ro, (k 0), .pmd⟩

def CH_MC_MAP.APPLIED : FD := ⟨9, 0x78, 1, 0x0, 1, 0x0, 0, 64, .ro, (k 0), .pmd⟩

def CH_MC_STG.STG_EN : FD := ⟨9, 0x88, 1, 0x0, 1, 0x0, 0, 8, .rw, (k 0), .pmd⟩

def CH_MC_ADDR.ADDR : FD := ⟨9, 0x90, 8, 0x8, 1, 0x0, 0, 32, .rw, (k 0), .pmd⟩

def CH_MC_VAL.VAL : FD := ⟨9, 0x94, 8, 0x8, 1, 0x0, 0, 32, .rw, (k 0), .pmd⟩

def CH_MC_TMO.ARM_TMO_US : FD := ⟨9, 0xD0, 1, 0x0, 1, 0x0, 16, 16, .rw, (k 0x64), .pmd⟩
def CH_MC_TMO.LEAD_US : FD := ⟨9, 0xD0, 1, 0x0, 1, 0x0, 0, 16, .rw, (k 0x14), .pmd⟩

def CH_PORT.DELAY : FD := ⟨9, 0x100, 2, 0x20, 1, 0x0, 16, 16, .ro, (k 0), .pmd⟩
def CH_PORT.SPARE_TX : FD := ⟨9, 0x100, 2, 0x20, 1, 0x0, 3, 1, .ro, (k 0), .pmd⟩
def CH_PORT.SPARE_RX : FD := ⟨9, 0x100, 2, 0x20, 1, 0x0, 2, 1, .ro, (k 0), .pmd⟩
def CH_PORT.WRAP : FD := ⟨9, 0x100, 2, 0x20, 1, 0x0, 1, 1, .ro, (k 0), .pmd⟩
def CH_PORT.UP : FD := ⟨9, 0x100, 2, 0x20, 1, 0x0, 0, 1, .ro, (k 0), .pmd⟩

def CH_PORT_ERR.CRC_CNT : FD := ⟨9, 0x104, 2, 0x20, 1, 0x0, 16, 16, .rw, (k 0), .pmd⟩
def CH_PORT_ERR.CODE_CNT : FD := ⟨9, 0x104, 2, 0x20, 1, 0x0, 0, 16, .rw, (k 0), .pmd⟩

def CH_EQ.FREEZE : FD := ⟨9, 0x8000, 2, 0x20, 3, 0x4, 8, 1, .rw, (k 0), .pmd⟩
def CH_EQ.DFE : FD := ⟨9, 0x8000, 2, 0x20, 3, 0x4, 4, 4, .ro, (k 0), .pmd⟩
def CH_EQ.CTLE : FD := ⟨9, 0x8000, 2, 0x20, 3, 0x4, 0, 4, .ro, (k 0), .pmd⟩

/-- The registers of spec/14_obpex_chain.md, each with its fields. -/
def map14 : List (List FD) :=
  [[CH_CFG.ROLE, CH_CFG.RST_EN, CH_CFG.ACCEPT, CH_CFG.EN],
   [CH_STATUS.ADDR_OK, CH_STATUS.ADDR, CH_STATUS.MASTER_LOST, CH_STATUS.ENUM_DONE, CH_STATUS.TLOCK, CH_STATUS.WRAP1, CH_STATUS.WRAP0, CH_STATUS.UP1, CH_STATUS.UP0],
   [CH_CMD.TARGET, CH_CMD.RESET_ONE, CH_CMD.RESET_ALL, CH_CMD.KEEP, CH_CMD.ENUM],
   [CH_EVT.MC_DENIED, CH_EVT.MEMBER_LOST, CH_EVT.LANE_SPARED, CH_EVT.MC_EVT, CH_EVT.CSYNC_STEP, CH_EVT.CSYNC_LATE, CH_EVT.CRC_DROP, CH_EVT.RX_OVF, CH_EVT.TX_ERR, CH_EVT.CMD_ERR, CH_EVT.ENUM_OVF, CH_EVT.TSTEP, CH_EVT.TLOCK_LOST, CH_EVT.WRAP_CHG, CH_EVT.LINK_CHG, CH_EVT.ENUM_END],
   [CH_TIME.TIME],
   [CH_CSYNC_AT.AT],
   [CH_CSYNC.PER, CH_CSYNC.ARM],
   [CH_PRESENT.MAP],
   [CH_TX.DEST, CH_TX.LEN, CH_TX.OFFSET],
   [CH_TX_CTRL.QUSED, CH_TX_CTRL.GO],
   [CH_RX_PTR.RD_PTR, CH_RX_PTR.WR_PTR],
   [CH_MC_CTRL.ID, CH_MC_CTRL.PREPARE],
   [CH_MC_AT.T],
   [CH_MC_STAT.ID, CH_MC_STAT.REASON, CH_MC_STAT.LOCK_LOST, CH_MC_STAT.CMT, CH_MC_STAT.STATE],
   [CH_MC_RES.RESULT],
   [CH_MC_MAP.APPLIED],
   [CH_MC_STG.STG_EN],
   [CH_MC_ADDR.ADDR],
   [CH_MC_VAL.VAL],
   [CH_MC_TMO.ARM_TMO_US, CH_MC_TMO.LEAD_US],
   [CH_PORT.DELAY, CH_PORT.SPARE_TX, CH_PORT.SPARE_RX, CH_PORT.WRAP, CH_PORT.UP],
   [CH_PORT_ERR.CRC_CNT, CH_PORT_ERR.CODE_CNT],
   [CH_EQ.FREEZE, CH_EQ.DFE, CH_EQ.CTLE]]

/-! ## spec/15_can.md -/

def CAN_NBR.NBR_BPS : FD := ⟨8, 0x0, 6, 0x100, 1, 0x0, 0, 32, .rw, (k 0), .pmd⟩

def CAN_DBR.DBR_BPS : FD := ⟨8, 0x4, 6, 0x100, 1, 0x0, 0, 32, .rw, (k 0), .pmd⟩

def CAN_SP.DSP_PM : FD := ⟨8, 0x8, 6, 0x100, 1, 0x0, 16, 16, .rw, (k 0x2ee), .pmd⟩
def CAN_SP.NSP_PM : FD := ⟨8, 0x8, 6, 0x100, 1, 0x0, 0, 16, .rw, (k 0x320), .pmd⟩

def CAN_CTRL.TS_SHIFT : FD := ⟨8, 0xC, 6, 0x100, 1, 0x0, 8, 4, .rw, (k 0), .pmd⟩
def CAN_CTRL.PXHD : FD := ⟨8, 0xC, 6, 0x100, 1, 0x0, 5, 1, .rw, (k 0), .pmd⟩
def CAN_CTRL.FDOE : FD := ⟨8, 0xC, 6, 0x100, 1, 0x0, 4, 1, .rw, (k 0), .pmd⟩
def CAN_CTRL.MODE : FD := ⟨8, 0xC, 6, 0x100, 1, 0x0, 2, 2, .rw, (k 0), .pmd⟩
def CAN_CTRL.REC_START : FD := ⟨8, 0xC, 6, 0x100, 1, 0x0, 1, 1, .w1s, (k 0), .pmd⟩
def CAN_CTRL.RUN : FD := ⟨8, 0xC, 6, 0x100, 1, 0x0, 0, 1, .rw, (k 0), .pmd⟩

def CAN_STAT.REC : FD := ⟨8, 0x10, 6, 0x100, 1, 0x0, 24, 8, .ro, (k 0), .pmd⟩
def CAN_STAT.TEC : FD := ⟨8, 0x10, 6, 0x100, 1, 0x0, 15, 9, .ro, (k 0), .pmd⟩
def CAN_STAT.LEC : FD := ⟨8, 0x10, 6, 0x100, 1, 0x0, 12, 3, .ro, (k 0), .pmd⟩
def CAN_STAT.BOFF_VALID : FD := ⟨8, 0x10, 6, 0x100, 1, 0x0, 11, 1, .ro, (k 0), .pmd⟩
def CAN_STAT.BOFF_BUF : FD := ⟨8, 0x10, 6, 0x100, 1, 0x0, 5, 6, .ro, (k 0), .pmd⟩
def CAN_STAT.EWARN : FD := ⟨8, 0x10, 6, 0x100, 1, 0x0, 4, 1, .ro, (k 0), .pmd⟩
def CAN_STAT.STATE : FD := ⟨8, 0x10, 6, 0x100, 1, 0x0, 0, 3, .ro, (k 0), .pmd⟩

def CAN_EVT.CFG_CODE : FD := ⟨8, 0x14, 6, 0x100, 1, 0x0, 16, 3, .ro, (k 0), .pmd⟩
def CAN_EVT.CLK_STOP : FD := ⟨8, 0x14, 6, 0x100, 1, 0x0, 10, 1, .w1c, (k 0), .pmd⟩
def CAN_EVT.PXE : FD := ⟨8, 0x14, 6, 0x100, 1, 0x0, 9, 1, .w1c, (k 0), .pmd⟩
def CAN_EVT.BUSOFF : FD := ⟨8, 0x14, 6, 0x100, 1, 0x0, 8, 1, .w1c, (k 0), .pmd⟩
def CAN_EVT.EPASS : FD := ⟨8, 0x14, 6, 0x100, 1, 0x0, 7, 1, .w1c, (k 0), .pmd⟩
def CAN_EVT.RX_LOST : FD := ⟨8, 0x14, 6, 0x100, 1, 0x0, 6, 1, .w1c, (k 0), .pmd⟩
def CAN_EVT.CANCEL_LATE : FD := ⟨8, 0x14, 6, 0x100, 1, 0x0, 5, 1, .w1c, (k 0), .pmd⟩
def CAN_EVT.CANCELLED : FD := ⟨8, 0x14, 6, 0x100, 1, 0x0, 4, 1, .w1c, (k 0), .pmd⟩
def CAN_EVT.TX_ERR : FD := ⟨8, 0x14, 6, 0x100, 1, 0x0, 3, 1, .w1c, (k 0), .pmd⟩
def CAN_EVT.CFG_ERR : FD := ⟨8, 0x14, 6, 0x100, 1, 0x0, 2, 1, .w1c, (k 0), .pmd⟩
def CAN_EVT.RXF : FD := ⟨8, 0x14, 6, 0x100, 1, 0x0, 1, 1, .w1c, (k 0), .pmd⟩
def CAN_EVT.TXF : FD := ⟨8, 0x14, 6, 0x100, 1, 0x0, 0, 1, .w1c, (k 0), .pmd⟩

def CAN_IE.IE : FD := ⟨8, 0x18, 6, 0x100, 1, 0x0, 0, 32, .rw, (k 0), .pmd⟩

def CAN_TSNOW.TSNOW : FD := ⟨8, 0x1C, 6, 0x100, 1, 0x0, 0, 32, .ro, (k 0), .pmd⟩

def CAN_TXREQ.REQ : FD := ⟨8, 0x20, 6, 0x100, 2, 0x4, 0, 32, .w1s, (k 0), .pmd⟩

def CAN_TXCAN.CAN : FD := ⟨8, 0x28, 6, 0x100, 2, 0x4, 0, 32, .w1s, (k 0), .pmd⟩

def CAN_TXPEND.PEND : FD := ⟨8, 0x30, 6, 0x100, 2, 0x4, 0, 32, .ro, (k 0), .pmd⟩

def CAN_TXDONE.DONE : FD := ⟨8, 0x38, 6, 0x100, 2, 0x4, 0, 32, .w1c, (k 0), .pmd⟩

def CAN_RXFULL.FULL : FD := ⟨8, 0x40, 6, 0x100, 2, 0x4, 0, 32, .w1c, (k 0), .pmd⟩

def CAN_NBT0.TSEG1 : FD := ⟨8, 0x8000, 6, 0x100, 1, 0x0, 16, 9, .rw, (k 0xf), .pmd⟩
def CAN_NBT0.BRP : FD := ⟨8, 0x8000, 6, 0x100, 1, 0x0, 0, 9, .rw, (k 0x14), .pmd⟩

def CAN_NBT1.SJW : FD := ⟨8, 0x8004, 6, 0x100, 1, 0x0, 16, 8, .rw, (k 4), .pmd⟩
def CAN_NBT1.TSEG2 : FD := ⟨8, 0x8004, 6, 0x100, 1, 0x0, 0, 8, .rw, (k 4), .pmd⟩

def CAN_DBT.SJW : FD := ⟨8, 0x8008, 6, 0x100, 1, 0x0, 24, 5, .rw, (k 4), .pmd⟩
def CAN_DBT.TSEG2 : FD := ⟨8, 0x8008, 6, 0x100, 1, 0x0, 16, 5, .rw, (k 4), .pmd⟩
def CAN_DBT.TSEG1 : FD := ⟨8, 0x8008, 6, 0x100, 1, 0x0, 8, 6, .rw, (k 0xf), .pmd⟩
def CAN_DBT.BRP : FD := ⟨8, 0x8008, 6, 0x100, 1, 0x0, 0, 6, .rw, (k 5), .pmd⟩

def CAN_TDC.TDCV : FD := ⟨8, 0x800C, 6, 0x100, 1, 0x0, 16, 7, .ro, (k 0), .pmd⟩
def CAN_TDC.TDC_EN : FD := ⟨8, 0x800C, 6, 0x100, 1, 0x0, 8, 1, .rw, (k 0), .pmd⟩
def CAN_TDC.TDCO : FD := ⟨8, 0x800C, 6, 0x100, 1, 0x0, 0, 7, .rw, (k 0), .pmd⟩

/-- The registers of spec/15_can.md, each with its fields. -/
def map15 : List (List FD) :=
  [[CAN_NBR.NBR_BPS],
   [CAN_DBR.DBR_BPS],
   [CAN_SP.DSP_PM, CAN_SP.NSP_PM],
   [CAN_CTRL.TS_SHIFT, CAN_CTRL.PXHD, CAN_CTRL.FDOE, CAN_CTRL.MODE, CAN_CTRL.REC_START, CAN_CTRL.RUN],
   [CAN_STAT.REC, CAN_STAT.TEC, CAN_STAT.LEC, CAN_STAT.BOFF_VALID, CAN_STAT.BOFF_BUF, CAN_STAT.EWARN, CAN_STAT.STATE],
   [CAN_EVT.CFG_CODE, CAN_EVT.CLK_STOP, CAN_EVT.PXE, CAN_EVT.BUSOFF, CAN_EVT.EPASS, CAN_EVT.RX_LOST, CAN_EVT.CANCEL_LATE, CAN_EVT.CANCELLED, CAN_EVT.TX_ERR, CAN_EVT.CFG_ERR, CAN_EVT.RXF, CAN_EVT.TXF],
   [CAN_IE.IE],
   [CAN_TSNOW.TSNOW],
   [CAN_TXREQ.REQ],
   [CAN_TXCAN.CAN],
   [CAN_TXPEND.PEND],
   [CAN_TXDONE.DONE],
   [CAN_RXFULL.FULL],
   [CAN_NBT0.TSEG1, CAN_NBT0.BRP],
   [CAN_NBT1.SJW, CAN_NBT1.TSEG2],
   [CAN_DBT.SJW, CAN_DBT.TSEG2, CAN_DBT.TSEG1, CAN_DBT.BRP],
   [CAN_TDC.TDCV, CAN_TDC.TDC_EN, CAN_TDC.TDCO]]

/-! ## spec/16_clocks.md -/

def CLK_REF.CFG_CODE : FD := ⟨10, 0x0, 1, 0x0, 1, 0x0, 16, 3, .ro, (k 0), .pmd⟩
def CLK_REF.CHAIN_PORT : FD := ⟨10, 0x0, 1, 0x0, 1, 0x0, 10, 1, .ro, (k 0), .pmd⟩
def CLK_REF.LOCAL : FD := ⟨10, 0x0, 1, 0x0, 1, 0x0, 8, 2, .ro, (k 0), .pmd⟩
def CLK_REF.LOCAL_SEL : FD := ⟨10, 0x0, 1, 0x0, 1, 0x0, 4, 2, .rw, (k 0), .pmd⟩
def CLK_REF.CHAIN_OK : FD := ⟨10, 0x0, 1, 0x0, 1, 0x0, 2, 1, .ro, (k 0), .pmd⟩
def CLK_REF.REFCLK_OK : FD := ⟨10, 0x0, 1, 0x0, 1, 0x0, 1, 1, .ro, (k 0), .pmd⟩
def CLK_REF.XTAL_OK : FD := ⟨10, 0x0, 1, 0x0, 1, 0x0, 0, 1, .ro, (k 0), .pmd⟩

def CLK_EVT.CFG_ERR : FD := ⟨10, 0x4, 1, 0x0, 1, 0x0, 9, 1, .w1c, (k 0), .pmd⟩
def CLK_EVT.BAND_ERR : FD := ⟨10, 0x4, 1, 0x0, 1, 0x0, 8, 1, .w1c, (k 0), .pmd⟩
def CLK_EVT.REF_BACK : FD := ⟨10, 0x4, 1, 0x0, 1, 0x0, 7, 1, .w1c, (k 0), .pmd⟩
def CLK_EVT.REF_LOST : FD := ⟨10, 0x4, 1, 0x0, 1, 0x0, 6, 1, .w1c, (k 0), .pmd⟩
def CLK_EVT.C_UNLOCK : FD := ⟨10, 0x4, 1, 0x0, 1, 0x0, 5, 1, .w1c, (k 0), .pmd⟩
def CLK_EVT.S_RETURN : FD := ⟨10, 0x4, 1, 0x0, 1, 0x0, 4, 1, .w1c, (k 0), .pmd⟩
def CLK_EVT.S_BYP : FD := ⟨10, 0x4, 1, 0x0, 1, 0x0, 3, 1, .w1c, (k 0), .pmd⟩
def CLK_EVT.T_STEP : FD := ⟨10, 0x4, 1, 0x0, 1, 0x0, 2, 1, .w1c, (k 0), .pmd⟩
def CLK_EVT.T_RELOCK : FD := ⟨10, 0x4, 1, 0x0, 1, 0x0, 1, 1, .w1c, (k 0), .pmd⟩
def CLK_EVT.T_COAST : FD := ⟨10, 0x4, 1, 0x0, 1, 0x0, 0, 1, .w1c, (k 0), .pmd⟩

def CLK_SLEW_B.SLEW_PPB : FD := ⟨10, 0x8, 1, 0x0, 1, 0x0, 0, 32, .rw, (k 0xc350), .pmd⟩

def PLL_DEV_B.DEV_PPB : FD := ⟨10, 0x100, 3, 0x40, 1, 0x0, 0, 32, .rw, (fun i _ => if i = 1 then 250 else 0), .pmd⟩

def PLL_CTRL.RET_MODE : FD := ⟨10, 0x104, 3, 0x40, 1, 0x0, 12, 1, .rw, (k 0), .pmd⟩
def PLL_CTRL.STEP_TB : FD := ⟨10, 0x104, 3, 0x40, 1, 0x0, 8, 3, .rw, (k 0), .pmd⟩
def PLL_CTRL.DITH_EN : FD := ⟨10, 0x104, 3, 0x40, 1, 0x0, 4, 1, .rw, (fun i _ => if i = 1 then 1 else 0), .pmd⟩
def PLL_CTRL.RELOCK : FD := ⟨10, 0x104, 3, 0x40, 1, 0x0, 1, 1, .w1s, (k 0), .pmd⟩
def PLL_CTRL.EN : FD := ⟨10, 0x104, 3, 0x40, 1, 0x0, 0, 1, .rw, (k 0), .pmd⟩

def PLL_STAT.BAND : FD := ⟨10, 0x108, 3, 0x40, 1, 0x0, 10, 6, .ro, (k 0), .pmd⟩
def PLL_STAT.ENTRY : FD := ⟨10, 0x108, 3, 0x40, 1, 0x0, 5, 5, .ro, (k 0), .pmd⟩
def PLL_STAT.LOCK : FD := ⟨10, 0x108, 3, 0x40, 1, 0x0, 4, 1, .ro, (k 0), .pmd⟩
def PLL_STAT.STATE : FD := ⟨10, 0x108, 3, 0x40, 1, 0x0, 0, 3, .ro, (k 0), .pmd⟩

def PLL_PHERR.FOFS : FD := ⟨10, 0x10C, 3, 0x40, 1, 0x0, 16, 16, .ro, (k 0), .pmd⟩
def PLL_PHERR.PH_ERR : FD := ⟨10, 0x10C, 3, 0x40, 1, 0x0, 0, 16, .ro, (k 0), .pmd⟩

def CLK_TRK.TRK_SLEW : FD := ⟨10, 0x8000, 1, 0x0, 1, 0x0, 0, 14, .rw, (k 0x320), .pmd⟩

def PLL_DITH.SEED : FD := ⟨10, 0x8100, 3, 0x40, 1, 0x0, 16, 16, .rw, (k 0xace1), .pmd⟩
def PLL_DITH.DEV : FD := ⟨10, 0x8100, 3, 0x40, 1, 0x0, 0, 16, .rw, (fun i _ => if i = 1 then 1 else 0), .pmd⟩

def CLK_BAND.VALID : FD := ⟨10, 0x8200, 32, 0x4, 1, 0x0, 31, 1, .rw, (k 0), .p⟩
def CLK_BAND.USE : FD := ⟨10, 0x8200, 32, 0x4, 1, 0x0, 28, 3, .rw, (k 0), .p⟩
def CLK_BAND.CODE : FD := ⟨10, 0x8200, 32, 0x4, 1, 0x0, 22, 6, .rw, (k 0), .p⟩
def CLK_BAND.F_HI : FD := ⟨10, 0x8200, 32, 0x4, 1, 0x0, 11, 11, .rw, (k 0), .p⟩
def CLK_BAND.F_LO : FD := ⟨10, 0x8200, 32, 0x4, 1, 0x0, 0, 11, .rw, (k 0), .p⟩

/-- The registers of spec/16_clocks.md, each with its fields. -/
def map16 : List (List FD) :=
  [[CLK_REF.CFG_CODE, CLK_REF.CHAIN_PORT, CLK_REF.LOCAL, CLK_REF.LOCAL_SEL, CLK_REF.CHAIN_OK, CLK_REF.REFCLK_OK, CLK_REF.XTAL_OK],
   [CLK_EVT.CFG_ERR, CLK_EVT.BAND_ERR, CLK_EVT.REF_BACK, CLK_EVT.REF_LOST, CLK_EVT.C_UNLOCK, CLK_EVT.S_RETURN, CLK_EVT.S_BYP, CLK_EVT.T_STEP, CLK_EVT.T_RELOCK, CLK_EVT.T_COAST],
   [CLK_SLEW_B.SLEW_PPB],
   [PLL_DEV_B.DEV_PPB],
   [PLL_CTRL.RET_MODE, PLL_CTRL.STEP_TB, PLL_CTRL.DITH_EN, PLL_CTRL.RELOCK, PLL_CTRL.EN],
   [PLL_STAT.BAND, PLL_STAT.ENTRY, PLL_STAT.LOCK, PLL_STAT.STATE],
   [PLL_PHERR.FOFS, PLL_PHERR.PH_ERR],
   [CLK_TRK.TRK_SLEW],
   [PLL_DITH.SEED, PLL_DITH.DEV],
   [CLK_BAND.VALID, CLK_BAND.USE, CLK_BAND.CODE, CLK_BAND.F_HI, CLK_BAND.F_LO]]

/-! ## spec/17_power_and_clay.md -/

def PWR_STATUS.PWR_STATE : FD := ⟨11, 0x0, 1, 0x0, 1, 0x0, 24, 4, .ro, (k 1), .pm⟩
def PWR_STATUS.PG : FD := ⟨11, 0x0, 1, 0x0, 1, 0x0, 16, 6, .ro, (k 0), .pm⟩
def PWR_STATUS.PWM_RDY : FD := ⟨11, 0x0, 1, 0x0, 1, 0x0, 8, 1, .ro, (k 0), .pm⟩
def PWR_STATUS.VLV_OVR : FD := ⟨11, 0x0, 1, 0x0, 1, 0x0, 5, 1, .ro, (k 0), .pm⟩
def PWR_STATUS.SRC : FD := ⟨11, 0x0, 1, 0x0, 1, 0x0, 4, 1, .ro, (k 0), .pm⟩
def PWR_STATUS.HVA_AC : FD := ⟨11, 0x0, 1, 0x0, 1, 0x0, 3, 1, .ro, (k 0), .pm⟩
def PWR_STATUS.HVA_OK : FD := ⟨11, 0x0, 1, 0x0, 1, 0x0, 2, 1, .ro, (k 0), .pm⟩
def PWR_STATUS.VLV_OK : FD := ⟨11, 0x0, 1, 0x0, 1, 0x0, 0, 1, .ro, (k 0), .pm⟩

def PWR_EVT.DENY_ISL : FD := ⟨11, 0x4, 1, 0x0, 1, 0x0, 24, 6, .ro, (k 0), .pm⟩
def PWR_EVT.SD_CODE : FD := ⟨11, 0x4, 1, 0x0, 1, 0x0, 16, 3, .ro, (k 0), .pm⟩
def PWR_EVT.PD_DENIED : FD := ⟨11, 0x4, 1, 0x0, 1, 0x0, 9, 1, .w1c, (k 0), .pm⟩
def PWR_EVT.RST_DENIED : FD := ⟨11, 0x4, 1, 0x0, 1, 0x0, 8, 1, .w1c, (k 0), .pm⟩
def PWR_EVT.SD_DENIED : FD := ⟨11, 0x4, 1, 0x0, 1, 0x0, 7, 1, .w1c, (k 0), .pm⟩
def PWR_EVT.ISL_FAULT : FD := ⟨11, 0x4, 1, 0x0, 1, 0x0, 6, 1, .w1c, (k 0), .pm⟩
def PWR_EVT.PG_FAIL : FD := ⟨11, 0x4, 1, 0x0, 1, 0x0, 5, 1, .w1c, (k 0), .pm⟩
def PWR_EVT.SRC_CHG : FD := ⟨11, 0x4, 1, 0x0, 1, 0x0, 4, 1, .w1c, (k 0), .pm⟩
def PWR_EVT.HVA_RISE : FD := ⟨11, 0x4, 1, 0x0, 1, 0x0, 3, 1, .w1c, (k 0), .pm⟩
def PWR_EVT.HVA_FALL : FD := ⟨11, 0x4, 1, 0x0, 1, 0x0, 2, 1, .w1c, (k 0), .pm⟩
def PWR_EVT.VLV_RISE : FD := ⟨11, 0x4, 1, 0x0, 1, 0x0, 1, 1, .w1c, (k 0), .pm⟩
def PWR_EVT.VLV_FALL : FD := ⟨11, 0x4, 1, 0x0, 1, 0x0, 0, 1, .w1c, (k 0), .pm⟩

def PWR_CTRL.SKIP_ST : FD := ⟨11, 0x8, 1, 0x0, 1, 0x0, 8, 1, .rw, (k 0), .pm⟩
def PWR_CTRL.SD_MODE : FD := ⟨11, 0x8, 1, 0x0, 1, 0x0, 4, 1, .rw, (k 0), .pm⟩
def PWR_CTRL.PREF : FD := ⟨11, 0x8, 1, 0x0, 1, 0x0, 1, 1, .rw, (k 0), .pm⟩
def PWR_CTRL.SHDN : FD := ⟨11, 0x8, 1, 0x0, 1, 0x0, 0, 1, .w1s, (k 0), .pm⟩

def PWR_MEAS.HVA_V : FD := ⟨11, 0xC, 1, 0x0, 1, 0x0, 16, 16, .ro, (k 0), .pm⟩
def PWR_MEAS.VLV_CV : FD := ⟨11, 0xC, 1, 0x0, 1, 0x0, 0, 16, .ro, (k 0), .pm⟩

def PWR_IN.P_MW : FD := ⟨11, 0x10, 1, 0x0, 1, 0x0, 0, 16, .ro, (k 0), .pm⟩

def ISL_CTRL.PD : FD := ⟨11, 0x100, 39, 0x4, 1, 0x0, 2, 1, .rw, (k 0), .pm⟩
def ISL_CTRL.REL : FD := ⟨11, 0x100, 39, 0x4, 1, 0x0, 1, 1, .w1s, (k 0), .pm⟩
def ISL_CTRL.RST_REQ : FD := ⟨11, 0x100, 39, 0x4, 1, 0x0, 0, 1, .w1s, (k 0), .pm⟩

def ISL_STAT.PD_CAP : FD := ⟨11, 0x200, 39, 0x4, 1, 0x0, 5, 1, .ro, gateable, .none⟩
def ISL_STAT.FAULT : FD := ⟨11, 0x200, 39, 0x4, 1, 0x0, 4, 1, .ro, (k 0), .pm⟩
def ISL_STAT.CLK_OK : FD := ⟨11, 0x200, 39, 0x4, 1, 0x0, 3, 1, .ro, (k 0), .pm⟩
def ISL_STAT.RAIL_OK : FD := ⟨11, 0x200, 39, 0x4, 1, 0x0, 2, 1, .ro, (k 0), .pm⟩
def ISL_STAT.IN_RESET : FD := ⟨11, 0x200, 39, 0x4, 1, 0x0, 1, 1, .ro, (k 1), .pm⟩
def ISL_STAT.POWERED : FD := ⟨11, 0x200, 39, 0x4, 1, 0x0, 0, 1, .ro, (k 0), .pm⟩

def CLY_CNT.CNT : FD := ⟨11, 0x1000, 1, 0x0, 1, 0x0, 0, 48, .rw, (k 0), .none⟩

def CLY_WAKE_AT.AT : FD := ⟨11, 0x1008, 1, 0x0, 1, 0x0, 0, 48, .rw, (k 0), .none⟩

def CLY_WAKE_CFG.PIN_FLT : FD := ⟨11, 0x1010, 1, 0x0, 1, 0x0, 8, 8, .rw, (k 0x20), .none⟩
def CLY_WAKE_CFG.PIN_POL : FD := ⟨11, 0x1010, 1, 0x0, 1, 0x0, 4, 1, .rw, (k 1), .none⟩
def CLY_WAKE_CFG.EN_HVA : FD := ⟨11, 0x1010, 1, 0x0, 1, 0x0, 2, 1, .rw, (k 0), .none⟩
def CLY_WAKE_CFG.EN_RTC : FD := ⟨11, 0x1010, 1, 0x0, 1, 0x0, 1, 1, .rw, (k 0), .none⟩
def CLY_WAKE_CFG.EN_PIN : FD := ⟨11, 0x1010, 1, 0x0, 1, 0x0, 0, 1, .rw, (k 0), .none⟩

def CLY_STAT.CAP_CNT : FD := ⟨11, 0x1014, 1, 0x0, 1, 0x0, 16, 16, .ro, (k 0), .none⟩
def CLY_STAT.CAP_WR : FD := ⟨11, 0x1014, 1, 0x0, 1, 0x0, 10, 6, .ro, (k 0), .none⟩
def CLY_STAT.WAKE_LVL : FD := ⟨11, 0x1014, 1, 0x0, 1, 0x0, 8, 1, .ro, (k 0), .none⟩
def CLY_STAT.RTC_LATE : FD := ⟨11, 0x1014, 1, 0x0, 1, 0x0, 7, 1, .w1c, (k 0), .none⟩
def CLY_STAT.COLD : FD := ⟨11, 0x1014, 1, 0x0, 1, 0x0, 6, 1, .w1c, (k 1), .none⟩
def CLY_STAT.SCRUB_BUSY : FD := ⟨11, 0x1014, 1, 0x0, 1, 0x0, 5, 1, .ro, (k 0), .none⟩
def CLY_STAT.DBE : FD := ⟨11, 0x1014, 1, 0x0, 1, 0x0, 4, 1, .w1c, (k 0), .none⟩
def CLY_STAT.WAKE_CAUSE : FD := ⟨11, 0x1014, 1, 0x0, 1, 0x0, 0, 3, .ro, (k 0), .none⟩

def CLY_ECC.DBE_CNT : FD := ⟨11, 0x1018, 1, 0x0, 1, 0x0, 16, 16, .ro, (k 0), .none⟩
def CLY_ECC.SBE_CNT : FD := ⟨11, 0x1018, 1, 0x0, 1, 0x0, 0, 16, .ro, (k 0), .none⟩

def CLY_DBE_ADDR.ADDR : FD := ⟨11, 0x101C, 1, 0x0, 1, 0x0, 0, 14, .ro, (k 0), .none⟩

def CLY_CTRL.CAP_CLR : FD := ⟨11, 0x1020, 1, 0x0, 1, 0x0, 0, 1, .w1s, (k 0), .none⟩

/-- The registers of spec/17_power_and_clay.md, each with its fields. -/
def map17 : List (List FD) :=
  [[PWR_STATUS.PWR_STATE, PWR_STATUS.PG, PWR_STATUS.PWM_RDY, PWR_STATUS.VLV_OVR, PWR_STATUS.SRC, PWR_STATUS.HVA_AC, PWR_STATUS.HVA_OK, PWR_STATUS.VLV_OK],
   [PWR_EVT.DENY_ISL, PWR_EVT.SD_CODE, PWR_EVT.PD_DENIED, PWR_EVT.RST_DENIED, PWR_EVT.SD_DENIED, PWR_EVT.ISL_FAULT, PWR_EVT.PG_FAIL, PWR_EVT.SRC_CHG, PWR_EVT.HVA_RISE, PWR_EVT.HVA_FALL, PWR_EVT.VLV_RISE, PWR_EVT.VLV_FALL],
   [PWR_CTRL.SKIP_ST, PWR_CTRL.SD_MODE, PWR_CTRL.PREF, PWR_CTRL.SHDN],
   [PWR_MEAS.HVA_V, PWR_MEAS.VLV_CV],
   [PWR_IN.P_MW],
   [ISL_CTRL.PD, ISL_CTRL.REL, ISL_CTRL.RST_REQ],
   [ISL_STAT.PD_CAP, ISL_STAT.FAULT, ISL_STAT.CLK_OK, ISL_STAT.RAIL_OK, ISL_STAT.IN_RESET, ISL_STAT.POWERED],
   [CLY_CNT.CNT],
   [CLY_WAKE_AT.AT],
   [CLY_WAKE_CFG.PIN_FLT, CLY_WAKE_CFG.PIN_POL, CLY_WAKE_CFG.EN_HVA, CLY_WAKE_CFG.EN_RTC, CLY_WAKE_CFG.EN_PIN],
   [CLY_STAT.CAP_CNT, CLY_STAT.CAP_WR, CLY_STAT.WAKE_LVL, CLY_STAT.RTC_LATE, CLY_STAT.COLD, CLY_STAT.SCRUB_BUSY, CLY_STAT.DBE, CLY_STAT.WAKE_CAUSE],
   [CLY_ECC.DBE_CNT, CLY_ECC.SBE_CNT],
   [CLY_DBE_ADDR.ADDR],
   [CLY_CTRL.CAP_CLR]]

/-! ## spec/18_selftest_spares_wear.md -/

def ST_STATUS.LOGIC_PART : FD := ⟨12, 0x0, 1, 0x0, 1, 0x0, 16, 8, .ro, (k 0), .pm⟩
def ST_STATUS.GROUP : FD := ⟨12, 0x0, 1, 0x0, 1, 0x0, 12, 4, .ro, (k 0xf), .pm⟩
def ST_STATUS.LOGIC_FAIL : FD := ⟨12, 0x0, 1, 0x0, 1, 0x0, 7, 1, .ro, (k 0), .pm⟩
def ST_STATUS.MEM_UNREP : FD := ⟨12, 0x0, 1, 0x0, 1, 0x0, 6, 1, .ro, (k 0), .pm⟩
def ST_STATUS.MAP_REBUILT : FD := ⟨12, 0x0, 1, 0x0, 1, 0x0, 5, 1, .ro, (k 0), .pm⟩
def ST_STATUS.NO_VERDICT : FD := ⟨12, 0x0, 1, 0x0, 1, 0x0, 4, 1, .ro, (k 0), .pm⟩
def ST_STATUS.PARTIAL : FD := ⟨12, 0x0, 1, 0x0, 1, 0x0, 3, 1, .ro, (k 0), .pm⟩
def ST_STATUS.RUNNING : FD := ⟨12, 0x0, 1, 0x0, 1, 0x0, 2, 1, .ro, (k 0), .pm⟩

def ST_EVT.PARTIAL_RUN : FD := ⟨12, 0x4, 1, 0x0, 1, 0x0, 6, 1, .w1c, (k 0), .pm⟩
def ST_EVT.WEAR_ERR : FD := ⟨12, 0x4, 1, 0x0, 1, 0x0, 5, 1, .w1c, (k 0), .pm⟩
def ST_EVT.RT_REC : FD := ⟨12, 0x4, 1, 0x0, 1, 0x0, 4, 1, .w1c, (k 0), .pm⟩
def ST_EVT.AGE_WARN : FD := ⟨12, 0x4, 1, 0x0, 1, 0x0, 3, 1, .w1c, (k 0), .pm⟩
def ST_EVT.NO_SPARE : FD := ⟨12, 0x4, 1, 0x0, 1, 0x0, 2, 1, .w1c, (k 0), .pm⟩
def ST_EVT.PROMOTED : FD := ⟨12, 0x4, 1, 0x0, 1, 0x0, 1, 1, .w1c, (k 0), .pm⟩
def ST_EVT.RETIRED : FD := ⟨12, 0x4, 1, 0x0, 1, 0x0, 0, 1, .w1c, (k 0), .pm⟩

def ST_RUN.SEQ : FD := ⟨12, 0x8, 1, 0x0, 1, 0x0, 16, 16, .ro, (k 0), .pm⟩
def ST_RUN.DUR_MS : FD := ⟨12, 0x8, 1, 0x0, 1, 0x0, 0, 10, .ro, (k 0), .pm⟩

def ST_GRP.DONE : FD := ⟨12, 0xC, 1, 0x0, 1, 0x0, 16, 10, .ro, (k 0), .pm⟩
def ST_GRP.PEAK_MW : FD := ⟨12, 0xC, 1, 0x0, 1, 0x0, 0, 12, .ro, (k 0), .pm⟩

def ST_ROT.RUNS : FD := ⟨12, 0x10, 1, 0x0, 1, 0x0, 16, 16, .ro, (k 0), .pm⟩
def ST_ROT.PARTIALS : FD := ⟨12, 0x10, 1, 0x0, 1, 0x0, 8, 8, .ro, (k 0), .pm⟩
def ST_ROT.ROT_PTR : FD := ⟨12, 0x10, 1, 0x0, 1, 0x0, 0, 5, .ro, (k 0), .pm⟩

def ST_MEM.ROWS : FD := ⟨12, 0x14, 1, 0x0, 1, 0x0, 24, 8, .ro, (k 0), .pm⟩
def ST_MEM.UNREP : FD := ⟨12, 0x14, 1, 0x0, 1, 0x0, 16, 8, .ro, (k 0), .pm⟩
def ST_MEM.FIRST_UNREP : FD := ⟨12, 0x14, 1, 0x0, 1, 0x0, 0, 8, .ro, (k 0xff), .pm⟩

def SPR_MAP.AGE : FD := ⟨12, 0x100, 188, 0x4, 1, 0x0, 16, 10, .ro, (k 0), .pm⟩
def SPR_MAP.PADF : FD := ⟨12, 0x100, 188, 0x4, 1, 0x0, 14, 1, .ro, (k 0), .pm⟩
def SPR_MAP.STATE : FD := ⟨12, 0x100, 188, 0x4, 1, 0x0, 12, 2, .ro, (k 0), .pm⟩
def SPR_MAP.SPARE_LEFT : FD := ⟨12, 0x100, 188, 0x4, 1, 0x0, 11, 1, .ro, (k 0), .pm⟩
def SPR_MAP.PU : FD := ⟨12, 0x100, 188, 0x4, 1, 0x0, 0, 9, .ro, (k 0x1ff), .pm⟩

def SPR_PU.FAILS : FD := ⟨12, 0x400, 297, 0x4, 1, 0x0, 24, 8, .ro, (k 0), .pm⟩
def SPR_PU.AGE : FD := ⟨12, 0x400, 297, 0x4, 1, 0x0, 14, 10, .ro, (k 0), .pm⟩
def SPR_PU.LAST : FD := ⟨12, 0x400, 297, 0x4, 1, 0x0, 12, 2, .ro, (k 0), .pm⟩
def SPR_PU.STATUS : FD := ⟨12, 0x400, 297, 0x4, 1, 0x0, 10, 2, .ro, (k 0), .pm⟩
def SPR_PU.HOLDER : FD := ⟨12, 0x400, 297, 0x4, 1, 0x0, 0, 9, .ro, (k 0x1ff), .pm⟩

def ST_CFG.AGE_TH : FD := ⟨12, 0x8000, 1, 0x0, 1, 0x0, 0, 10, .rwi, (k 0), .pm⟩

/-- The registers of spec/18_selftest_spares_wear.md, each with its fields. -/
def map18 : List (List FD) :=
  [[ST_STATUS.LOGIC_PART, ST_STATUS.GROUP, ST_STATUS.LOGIC_FAIL, ST_STATUS.MEM_UNREP, ST_STATUS.MAP_REBUILT, ST_STATUS.NO_VERDICT, ST_STATUS.PARTIAL, ST_STATUS.RUNNING],
   [ST_EVT.PARTIAL_RUN, ST_EVT.WEAR_ERR, ST_EVT.RT_REC, ST_EVT.AGE_WARN, ST_EVT.NO_SPARE, ST_EVT.PROMOTED, ST_EVT.RETIRED],
   [ST_RUN.SEQ, ST_RUN.DUR_MS],
   [ST_GRP.DONE, ST_GRP.PEAK_MW],
   [ST_ROT.RUNS, ST_ROT.PARTIALS, ST_ROT.ROT_PTR],
   [ST_MEM.ROWS, ST_MEM.UNREP, ST_MEM.FIRST_UNREP],
   [SPR_MAP.AGE, SPR_MAP.PADF, SPR_MAP.STATE, SPR_MAP.SPARE_LEFT, SPR_MAP.PU],
   [SPR_PU.FAILS, SPR_PU.AGE, SPR_PU.LAST, SPR_PU.STATUS, SPR_PU.HOLDER],
   [ST_CFG.AGE_TH]]

/-! ## spec/19_alder_and_monitors.md -/

def MON_CFG.STOP_EV : FD := ⟨13, 0x0, 16, 0x200, 1, 0x0, 24, 8, .rw, (k 0), .pmd⟩
def MON_CFG.SRC : FD := ⟨13, 0x0, 16, 0x200, 1, 0x0, 16, 8, .rw, (k 0), .pmd⟩
def MON_CFG.IE : FD := ⟨13, 0x0, 16, 0x200, 1, 0x0, 4, 1, .rw, (k 0), .pmd⟩
def MON_CFG.FREEZE : FD := ⟨13, 0x0, 16, 0x200, 1, 0x0, 3, 1, .rw, (k 0), .pmd⟩
def MON_CFG.MODE : FD := ⟨13, 0x0, 16, 0x200, 1, 0x0, 1, 2, .rw, (k 0), .pmd⟩
def MON_CFG.EN : FD := ⟨13, 0x0, 16, 0x200, 1, 0x0, 0, 1, .rw, (k 0), .pmd⟩

def MON_OFS.OFS : FD := ⟨13, 0x4, 16, 0x200, 1, 0x0, 0, 32, .rw, (k 0), .pmd⟩

def MON_WID.WID : FD := ⟨13, 0x8, 16, 0x200, 1, 0x0, 0, 32, .rw, (k 1), .pmd⟩

def MON_PER.PER : FD := ⟨13, 0xC, 16, 0x200, 1, 0x0, 0, 16, .rw, (k 0x3e8), .pmd⟩

def MON_CTRL.CLR : FD := ⟨13, 0x10, 16, 0x200, 1, 0x0, 0, 1, .w1s, (k 0), .pmd⟩

def MON_STAT.CFG_ERR : FD := ⟨13, 0x14, 16, 0x200, 1, 0x0, 6, 1, .w1c, (k 0), .pmd⟩
def MON_STAT.OVERLAP : FD := ⟨13, 0x14, 16, 0x200, 1, 0x0, 5, 1, .w1c, (k 0), .pmd⟩
def MON_STAT.OVER : FD := ⟨13, 0x14, 16, 0x200, 1, 0x0, 4, 1, .w1c, (k 0), .pmd⟩
def MON_STAT.UNDER : FD := ⟨13, 0x14, 16, 0x200, 1, 0x0, 3, 1, .w1c, (k 0), .pmd⟩
def MON_STAT.SAT : FD := ⟨13, 0x14, 16, 0x200, 1, 0x0, 2, 1, .w1c, (k 0), .pmd⟩
def MON_STAT.OPEN : FD := ⟨13, 0x14, 16, 0x200, 1, 0x0, 1, 1, .ro, (k 0), .pmd⟩
def MON_STAT.RUN : FD := ⟨13, 0x14, 16, 0x200, 1, 0x0, 0, 1, .ro, (k 0), .pmd⟩

def MON_MIN.VAL : FD := ⟨13, 0x18, 16, 0x200, 1, 0x0, 0, 32, .ro, (k 0x7FFFFFFF), .pmd⟩

def MON_MAX.VAL : FD := ⟨13, 0x1C, 16, 0x200, 1, 0x0, 0, 32, .ro, (k 0x80000000), .pmd⟩

def MON_CNT.N : FD := ⟨13, 0x20, 16, 0x200, 1, 0x0, 0, 32, .ro, (k 0), .pmd⟩

def MON_MISS.N : FD := ⟨13, 0x24, 16, 0x200, 1, 0x0, 0, 32, .ro, (k 0), .pmd⟩

def MON_BIN.N : FD := ⟨13, 0x100, 16, 0x200, 64, 0x4, 0, 32, .ro, (k 0), .pmd⟩

def MON_SWEV.EV : FD := ⟨13, 0x4020, 1, 0x0, 1, 0x0, 0, 8, .w1s, (k 0), .pmd⟩

def ALD_STATUS.LOAD : FD := ⟨13, 0x4000, 1, 0x0, 1, 0x0, 16, 10, .ro, (k 0), .pmd⟩
def ALD_STATUS.QUEUE : FD := ⟨13, 0x4000, 1, 0x0, 1, 0x0, 8, 7, .ro, (k 0), .pmd⟩
def ALD_STATUS.BUSY : FD := ⟨13, 0x4000, 1, 0x0, 1, 0x0, 4, 1, .ro, (k 0), .pmd⟩
def ALD_STATUS.JOB : FD := ⟨13, 0x4000, 1, 0x0, 1, 0x0, 0, 3, .ro, (k 0), .pmd⟩

def ALD_EVT.LOG_ERR : FD := ⟨13, 0x4004, 1, 0x0, 1, 0x0, 4, 1, .w1c, (k 0), .pmd⟩
def ALD_EVT.DEFERRED : FD := ⟨13, 0x4004, 1, 0x0, 1, 0x0, 3, 1, .w1c, (k 0), .pmd⟩
def ALD_EVT.REPLY_LOST : FD := ⟨13, 0x4004, 1, 0x0, 1, 0x0, 2, 1, .w1c, (k 0), .pmd⟩
def ALD_EVT.EV_LOST : FD := ⟨13, 0x4004, 1, 0x0, 1, 0x0, 1, 1, .w1c, (k 0), .pmd⟩
def ALD_EVT.BUSY_REPLY : FD := ⟨13, 0x4004, 1, 0x0, 1, 0x0, 0, 1, .w1c, (k 0), .pmd⟩

def ALD_CFG.BUSY_PM : FD := ⟨13, 0x4008, 1, 0x0, 1, 0x0, 0, 10, .rw, (k 0x320), .pmd⟩

def ALD_LOG.HEAD_SEQ : FD := ⟨13, 0x400C, 1, 0x0, 1, 0x0, 0, 32, .ro, (k 0), .pmd⟩

def ALD_LOGIDX.HEAD : FD := ⟨13, 0x4010, 1, 0x0, 1, 0x0, 0, 14, .ro, (k 0), .pmd⟩

def ALD_CNT.BUSY_CNT : FD := ⟨13, 0x4014, 1, 0x0, 1, 0x0, 16, 16, .ro, (k 0), .pmd⟩
def ALD_CNT.LOST_CNT : FD := ⟨13, 0x4014, 1, 0x0, 1, 0x0, 0, 16, .ro, (k 0), .pmd⟩

/-- The registers of spec/19_alder_and_monitors.md, each with its fields. -/
def map19 : List (List FD) :=
  [[MON_CFG.STOP_EV, MON_CFG.SRC, MON_CFG.IE, MON_CFG.FREEZE, MON_CFG.MODE, MON_CFG.EN],
   [MON_OFS.OFS],
   [MON_WID.WID],
   [MON_PER.PER],
   [MON_CTRL.CLR],
   [MON_STAT.CFG_ERR, MON_STAT.OVERLAP, MON_STAT.OVER, MON_STAT.UNDER, MON_STAT.SAT, MON_STAT.OPEN, MON_STAT.RUN],
   [MON_MIN.VAL],
   [MON_MAX.VAL],
   [MON_CNT.N],
   [MON_MISS.N],
   [MON_BIN.N],
   [MON_SWEV.EV],
   [ALD_STATUS.LOAD, ALD_STATUS.QUEUE, ALD_STATUS.BUSY, ALD_STATUS.JOB],
   [ALD_EVT.LOG_ERR, ALD_EVT.DEFERRED, ALD_EVT.REPLY_LOST, ALD_EVT.EV_LOST, ALD_EVT.BUSY_REPLY],
   [ALD_CFG.BUSY_PM],
   [ALD_LOG.HEAD_SEQ],
   [ALD_LOGIDX.HEAD],
   [ALD_CNT.BUSY_CNT, ALD_CNT.LOST_CNT]]

end Sys2Proof.Machine.Reg
end

