-- ==== Sys2Proof/Machine/Map.lean ====
section
/-! DEFINITION. The address map of spec/01_architecture.md (R40) and what it gives an address: the register that lies there,
the island that holds it (R25), the fields that a reset class restores (R12). -/

namespace Sys2Proof.Machine

/-! The register BASIC_CTRL that every window carries (R17); the unit index is the window number. -/

def Reg.BASIC_CTRL.ERR_WORD : FD := ⟨0, 0x7FFC, 17, 0x10000, 1, 0, 16, 13, .ro, Reg.k 0, .pmd⟩
def Reg.BASIC_CTRL.EXPERT_OVR : FD := ⟨0, 0x7FFC, 17, 0x10000, 1, 0, 3, 1, .ro, Reg.k 0, .pmd⟩
def Reg.BASIC_CTRL.BERR : FD := ⟨0, 0x7FFC, 17, 0x10000, 1, 0, 2, 1, .w1c, Reg.k 0, .pmd⟩
def Reg.BASIC_CTRL.BUSY : FD := ⟨0, 0x7FFC, 17, 0x10000, 1, 0, 1, 1, .ro, Reg.k 0, .pmd⟩
def Reg.BASIC_CTRL.COMMIT : FD := ⟨0, 0x7FFC, 17, 0x10000, 1, 0, 0, 1, .w1s, Reg.k 0, .pmd⟩

/-- The fields of BASIC_CTRL. -/
def Reg.basicCtrl : List FD :=
  [Reg.BASIC_CTRL.ERR_WORD, Reg.BASIC_CTRL.EXPERT_OVR, Reg.BASIC_CTRL.BERR, Reg.BASIC_CTRL.BUSY, Reg.BASIC_CTRL.COMMIT]

/-- The registers of a window: one list of fields for each register (R13). -/
def windowMap (blk : Nat) : List (List FD) :=
  match blk with
  | 0 => Reg.map03 ++ Reg.map04
  | 1 => Reg.map05
  | 2 => Reg.map06
  | 3 => Reg.map07
  | 4 => Reg.map08
  | 5 => Reg.map09
  | 6 => Reg.map10
  | 7 => Reg.map13
  | 8 => Reg.map15
  | 9 => Reg.map14
  | 10 => Reg.map16
  | 11 => Reg.map17
  | 12 => Reg.map18
  | 13 => Reg.map19
  | 14 => Reg.map12
  | 15 => Reg.map11
  | 16 => Reg.map02
  | _ => []

/-- Every field that has a reset value, over all windows. -/
def allFields : List FD := Reg.basicCtrl ++ ((List.range 17).flatMap fun b => (windowMap b).flatten)

/-- The first register of a list that holds byte offset `off`, with its unit indices and its word within a wide field. -/
def findReg (off : Nat) : List (List FD) → Option (List FD × Nat × Nat × Nat)
  | [] => none
  | fs :: t =>
    match fs.findSome? (fun f => f.locate off) with
    | some (i, j, k) => some (fs, i, j, k)
    | none => findReg off t

/-- Is the address inside one of the seventeen block windows (R40)? -/
def inWindows (a : Nat) : Bool := 0x40000000 ≤ a && a < 0x40110000

/-- Window number and offset of an address inside the block windows. -/
def winOf (a : Nat) : Nat × Nat := (a / 0x10000 % 0x4000, a % 0x10000)

/-- The register at an address (R9: none where the offset names no register). CLAIM answers only for the resource IDs of R57. -/
def regAt (a : Nat) : Option (List FD × Nat × Nat × Nat) :=
  let (b, off) := winOf a
  if off = 0x7FFC then some (Reg.basicCtrl, b, 0, 0) else findReg off (windowMap b)

/-- The field that a key of the register file names. -/
def fieldOfKey (key : Nat) : Option (FD × Nat × Nat) :=
  match regAt (key / 32) with
  | some (fs, i, j, _) =>
    match fs.find? (fun f => f.key i j == key) with
    | some f => some (f, i, j)
    | none => none
  | none => none

/-- The resource IDs of R57. -/
def resourceOk (id : Nat) : Bool :=
  let n := id % 256
  match id / 256 with
  | 0 => n < 24
  | 1 => n < 8
  | 2 => n < 32
  | 3 => n < 96
  | 4 => n < 8
  | 5 => n < 8
  | 6 => n < 6
  | 7 => n < 16
  | 8 => n < 64
  | 9 => n < 128
  | 10 => n < 64
  | 11 => n < 2
  | _ => false

/-! The islands of R25, by identifier. -/

def islTBC : Nat := 0x06
def islCED : Nat := 0x07
def islFPC : Nat := 0x08
def islCPX : Nat := 0x09
def islALD : Nat := 0x0A
def islMEM : Nat := 0x0B
def islMSG : Nat := 0x0C
def islMON : Nat := 0x0D
def islCAN : Nat := 0x0E
def islCHN : Nat := 0x0F
def islHP0 : Nat := 0x10
def islCLK : Nat := 0x12
def islRXC : Nat := 0x1F
def islISF : Nat := 0x20
def islPAD : Nat := 0x21
def islRWN : Nat := 0x22
def islPCV : Nat := 0x25
def islCLY : Nat := 0x26

/-- A number that names no island: registers of the safety region that take no D reset (R22). -/
def islNone : Nat := 0x27

/-- The island that holds leg, converter or comparator n (R25). -/
def islLeg (l : Nat) : Nat := l / 4
def islAdc (a : Nat) : Nat := 0x13 + a / 8
def islCmp (c : Nat) : Nat := 0x17 + c / 12

/-- The island of a register address, by the rules on layout and reset of each window (R93, R143, R166, R184, R214, R241,
R263, R316, R359, R376, R391, R412, R445). DESIGN CHOICE: BASIC_CTRL and the identity word of a window that several islands share, on
which R17 is silent, belong to TBC in window 0, CC0 in 1, AC0 in 2, FPC in 6, PCV in 11 and MON in 13. -/
def islandAt (a : Nat) : Nat :=
  let (b, off) := winOf a
  let e := off % 0x8000
  if (b = 1 ∨ b = 2) ∧ (off = 0x7FFC ∨ off = 0x7FF8) then (if b = 1 then islCmp 0 else islAdc 0)
  else match b with
  | 0 => if off = 0x7FFC ∨ off = 0x7FF8 then islTBC
         else if e < 0x6000 then islLeg (e / 0x400) else islTBC
  | 1 => if e < 0x600 then islCmp (e / 0x10) else islNone
  | 2 => if e < 0x4000 then islAdc (e / 0x200)
         else if e < 0x5000 then 0x13 + (e - 0x4000) / 0x400
         else if e < 0x6000 then 0x13 + (e - 0x5000) / 0x40 / 4
         else 0x13 + (e - 0x6000) / 4 / 16
  | 3 => islISF
  | 4 => islCED
  | 5 => islFPC
  | 6 => if (0x8400 ≤ off ∧ off < 0x8404) ∨ (0x8500 ≤ off ∧ off < 0x8504) then islRXC else islFPC
  | 7 => islMSG
  | 8 => islCAN
  | 9 => islCHN
  | 10 => islCLK
  | 11 => if 0x1000 ≤ off ∧ off < 0x1100 then islCLY else islPCV
  | 12 => islALD
  | 13 => if 0x4000 ≤ off ∧ off < 0x4018 then islALD else islMON
  | 14 => islCPX
  | 15 => islRWN
  | 16 => islALD
  | _ => islNone

/-- The memory ranges of R40: base, size, island. -/
def memRanges : List (Nat × Nat × Nat) :=
  [(0x00000000, 0x1000000, islMEM), (0x10000000, 0x40000, islCPX), (0x20000000, 0x400000, islMEM),
   (0x48000000, 0x80000, islCED), (0x49000000, 0x40000, islMEM), (0x4A000000, 0x18000, islCAN),
   (0x4B000000, 0x10000, islCHN), (0x4C000000, 0x4000, islCLY)]

/-- The memory range that holds an address (R42: none outside the map). -/
def memRangeOf (a : Nat) : Option (Nat × Nat × Nat) :=
  memRanges.find? fun r => r.1 ≤ a && a < r.1 + r.2.1

end Sys2Proof.Machine
end

