-- ==== Sys2Proof/Machine/Units.lean ====
section
/-! DEFINITION. The state that the spec gives the units behind their registers: what the hardware must hold between two steps
and shows in no register field. Every record is plain data; its `init` is the unit right after reset. -/

namespace Sys2Proof.Machine

/-- What the last access of a bus master answered (R42: a bus error is reported to the master that issued the access). -/
structure Resp where
  berr : Bool
  data : Nat
deriving DecidableEq, Repr

def Resp.init : Resp := ⟨false, 0⟩

/-- A read or write holding register of a bus master (R10): the field it names (by the address of its low word) and the upper
word it holds. -/
structure Hold where
  fld : Option Nat
  up : Nat
deriving DecidableEq, Repr

def Hold.init : Hold := ⟨none, 0⟩

/-- One record of a ROUTES section (R47). -/
structure Route where
  kind : Nat
  src : Nat
  dst : Nat
  par : Nat
deriving DecidableEq, Repr

/-- A trigger pulse on its way along a route to its destination (R78, R149, R201), with the tick at which it arrives. -/
structure Pulse where
  tick : Nat
  rt : Route
deriving DecidableEq, Repr

/-- What a shadow register captured at one tick edge (R84, R86): the tick, the value before, and who wrote. -/
structure Cap where
  tick : Nat
  old : Nat
  bus : Bool
  ced : Bool
deriving DecidableEq, Repr

def Cap.init : Cap := ⟨0, 0, false, false⟩

/-- A pending event record of Alder (R433, R435). -/
structure LogRec where
  code : Nat
  src : Nat
  flags : Nat
  tFirst : Nat
  tLast : Nat
  count : Nat
  data : List Nat
deriving DecidableEq, Repr

/-- A timebase behind its registers (R70 to R83). -/
structure TbS where
  /-- UPD_EVERY as latched at the start and at each transfer (R81) -/
  n : Nat
  /-- PER held for the next period boundary by a transfer at PRD (R83) -/
  perPend : Option Nat
  /-- tick whose reload point is already counted; the start tick is not counted (R70) -/
  rldAt : Option Nat
  /-- tick of the last transfer, for a write captured at the transfer edge (R84) -/
  xferAt : Option Nat
  /-- tick of a sync event whose load has not come (R73) -/
  syncAt : Option Nat
  /-- ticks of the last ZRO and PRD events: each comes once at a counter position (R69) -/
  zroAt : Option Nat
  prdAt : Option Nat
  /-- counter values of the ticks before the present one, the last one first: as many as the longest filter of R104 looks back -/
  hist : List Nat
deriving DecidableEq, Repr

def TbS.init : TbS := ⟨1, none, none, none, none, none, none, []⟩

/-- A pending turn-on of an output: its output and its due time in fine steps (R96). -/
structure PendOn where
  side : Side
  due : Nat
deriving DecidableEq, Repr

/-- The pulse whose closing edge an output stage awaits (R101, R102): its output, its turn-on time in fine steps, and the
MINP_MODE and MINP_EFF that stood at its opening edge. -/
structure OutPulse where
  side : Side
  onT : Nat
  mode : Nat
  minp : Nat
deriving DecidableEq, Repr

/-- A commutation window of the switch-node feedback (R106), times in fine steps. -/
structure SwnWin where
  off : Nat
  on : Nat
  rise : Bool
  seen : Bool
deriving DecidableEq, Repr

/-- A leg behind its registers: the output stage (R95 to R103), the active registers that no register field shows, and the
switch-node feedback (R104 to R111). -/
structure LegS where
  /-- level that the action qualifier last produced (R79) -/
  aq : Bool
  outH : Bool
  outL : Bool
  pend : Option PendOn
  /-- due time of a held closing edge (R102, R103) -/
  held : Option Nat
  pulse : Option OutPulse
  /-- a reference pulse is being removed under DROP (R102) -/
  dropping : Bool
  /-- turn-off times of the two outputs in fine steps (R103) -/
  offH : Nat
  offL : Nat
  /-- times of the last edges of the two outputs, in fine steps (R87, R89) -/
  edgeH : Nat
  edgeL : Nat
  /-- active DTR, DTF and MINP in fine steps (R97) -/
  dtr : Nat
  dtf : Nat
  minp : Nat
  /-- active TICK and DIR of TRG0 to TRG3 (R78), and for an immediate write its tick and what it replaced (R85) -/
  trg : List (Nat × Nat)
  trgWas : List (Option (Nat × Nat × Nat))
  win : List SwnWin
  /-- last classification of R106: 0 near zero, 1 positive, 2 negative -/
  cls : Nat
  miss : Nat
  /-- accepted samples with the tick that took them, the newest first: the last one of the running period, and one of the present tick
  above it (R109, R111) -/
  smpR : List (Nat × Nat)
  smpF : List (Nat × Nat)
  /-- a new OUTMODE waits for its tick edge: the mode before it, and the tick of its write (R95) -/
  newMode : Option (Nat × Nat)
  /-- per ladder: tick of the last bias update and consecutive updates at a limit (R89, R91) -/
  ladAt : List Nat
  ladCnt : List Nat
deriving DecidableEq, Repr

def LegS.init : LegS :=
  { aq := false, outH := false, outL := false, pend := none, held := none, pulse := none, dropping := false
    offH := 0, offL := 0, edgeH := 0, edgeL := 0, dtr := 0, dtf := 0, minp := 0
    trg := [(0, 0), (0, 0), (0, 0), (0, 0)], trgWas := [none, none, none, none], win := [], cls := 0, miss := 0, smpR := [], smpF := []
    newMode := none, ladAt := [0, 0, 0], ladCnt := [0, 0, 0] }

/-- The gate pads of a leg: the override latch (R22, R32, R126) and the polarity latches (R113). -/
structure PadS where
  ov : Bool
  ovH : Bool
  ovL : Bool
  polH : Option Bool
  polL : Option Bool
  /-- the commands of the two outputs as the last tick edge found them, and the ticks of their last edges (R115) -/
  cmdH : Bool
  cmdL : Bool
  cmdAtH : Nat
  cmdAtL : Nat
deriving DecidableEq, Repr

def PadS.init : PadS := ⟨true, false, false, none, none, false, false, 0, 0⟩

/-- A running ASC_DT delay (R127): the tick at which the latches set, the code of the delay, the legs and the safe state. -/
structure AscRun where
  at0 : Nat
  dt : Nat
  legs : List Nat
  code : Nat
deriving DecidableEq, Repr

/-- A conversion in progress (R147, R160): kind 0 sequence, 1 injected, 2 pair; the entry, slot or sample it serves; its input; the
half tick at which acquisition began and its length in ticks; the first entry of its group; the step of an open-wire check
(0 none, 1 pull-down, 2 pull-up); whether its result is discarded (R156). -/
structure ConvJob where
  kind : Nat
  src : Nat
  ain : Nat
  start2 : Nat
  acq : Nat
  grp : Nat
  step : Nat
  drop : Bool
deriving DecidableEq, Repr

def ConvJob.init : ConvJob := ⟨0, 0, 0, 0, 0, 0, 0, false⟩

/-- A converter behind its registers. -/
structure AdcS where
  phase : ConvPhase
  job : ConvJob
  /-- half tick that ends acquisition, the sampling instant in fine steps (SKEW_TRIM after it, R147), the voltage in nanovolts and the chain
  time then (R154) -/
  smp2 : Nat
  smpAt : Int
  nv : Int
  smpTime : Nat
  /-- result and clipping of the pull-down conversion of an open-wire check (R159) -/
  down : Nat
  downClip : Bool
  /-- the second conversion of an open-wire check that waits behind an injected slot (R156, R159) -/
  owNext : Option ConvJob
  /-- slots that were pending when a calibration was requested (R163) -/
  pre0 : Bool
  pre1 : Bool
  /-- start tick of a running calibration -/
  calAt : Nat
deriving DecidableEq, Repr

def AdcS.init : AdcS := ⟨.idle, ConvJob.init, 0, 0, 0, 0, 0, false, none, false, false, 0⟩

/-- A sequence entry as latched at a start (R152). -/
structure SeqEnt where
  adc : Nat
  mux : Nat
  sim : Bool
  cedar : Bool
  ow : Bool
  ts : Bool
deriving DecidableEq, Repr

/-- A sequencer behind its registers: the latched entries, the groups still to issue, the entries issued whose EOC is awaited, the
claims that its enable took, those of a stopped run that still completes, whether the ring is full with equal pointers, whether CONT starts
a run at the next tick, and the results on their way to the ring: EOC edge, entry, words (R152 to R155). -/
structure SeqS where
  ents : List SeqEnt
  groups : List (List Nat)
  wait : List Nat
  claims : List Nat
  old : List Nat
  full : Bool
  again : Bool
  out : List (Nat × Nat × List Nat)
deriving DecidableEq, Repr

def SeqS.init : SeqS := ⟨[], [], [], [], [], false, false, []⟩

/-- An interleaved pair behind its registers: the latched burst length, acquisition and input, the saved trims of the odd converter during
PAIR_CAL (gain, offset, skew), the claims of ARM, and whether CONT starts a burst at the next tick (R164, R165). -/
structure PairS where
  len : Nat
  acq : Nat
  ain : Nat
  saved : Nat × Nat × Nat
  claims : List Nat
  again : Bool
deriving DecidableEq, Repr

def PairS.init : PairS := ⟨0, 0, 0, (0, 0, 0), [], false⟩

/-- An isolated channel behind its registers (R173 to R181): the DEC_SEL in use, that of the channel itself while a calibration runs, the
modulator bits that the filter still weights, the newest first, the tick of the last output edge or restart, the outputs that still carry
SETTLE, a running overload; of a calibration: its outputs so far and the sums of its filter sums on the short and on the reference. -/
structure IsoS where
  dec : Nat
  own : Nat
  bits : List Bool
  base : Nat
  settle : Nat
  ovl : Bool
  calN : Nat
  calShort : Int
  calRef : Int
deriving DecidableEq, Repr

def IsoS.init : IsoS := ⟨1, 1, [], 0, 3, false, 0, 0, 0⟩

/-- A result word on the sample link (R161, R177, R199): type 0 ADC sequence, 1 ADC injected, 2 isolated; unit and source key. -/
structure LinkWord where
  typ : Nat
  unit : Nat
  src : Nat
  word : Nat
deriving DecidableEq, Repr

/-- A source of Rowan (R272, R273): sum and number of the codes received since the last refresh, whether the last word was flagged,
the mean in use (sum and number; number 0 where none was received), and refreshes without a new word. -/
structure SrcS where
  sum : Int
  n : Nat
  bad : Bool
  mean : Int
  div : Nat
  age : Nat
deriving DecidableEq, Repr

def SrcS.init : SrcS := ⟨0, 0, false, 0, 0, 0⟩

/-- An access to the table port of field control that waits for the sine fill (R227, R229); none where its master has no reply to come
(R28). -/
structure TblWait where
  m : Option Master
  wr : Bool
  data : Nat
deriving DecidableEq, Repr

/-- A bus access to Cedar table RAM that waits for a cycle without a run (R188): master (none where no reply is to come, R28), whether it
reads, address, bytes, value. -/
structure CedWait where
  m : Option Master
  rd : Bool
  addr : Nat
  n : Nat
  data : Nat
deriving DecidableEq, Repr

/-- Which die links are lost (R23). -/
structure Links where
  edge : Bool
  ret : Bool
  sample : Bool
  control : Bool
  clockForward : Bool
  isol0 : Bool
  isol1 : Bool
deriving DecidableEq, Repr

def Links.init : Links := ⟨false, false, false, false, false, false, false⟩

/-- A staged write of a WRL (R198): the leg, the target (0 CMPA, 1 CMPB, 2 ISIGN) and the value for it. -/
structure StagedWr where
  leg : Nat
  tgt : Nat
  val : Nat
deriving DecidableEq, Repr

/-- A loop unit behind its registers (R185 to R211). -/
structure LuS where
  /-- program of the run in progress, and the number of the next word of that program -/
  run : Option Nat
  pc : Nat
  /-- D0 to D63, A0 to A7 and P (R189) -/
  d : SMap Nat
  acc : SMap Int
  p : Bool
  /-- what the run latched: IN0 to IN15, a bit for each BAD, SP0 to SP15, ANG and SPD (R203) -/
  inp : List Nat
  bad : Nat
  sp : List Nat
  ang : Nat
  spd : Nat
  /-- pending programs in the order of their starts (R204); a bit for each armed program (R201) -/
  queue : List Nat
  arms : Nat
  /-- writes staged by the run in progress, and those of ended runs that await their capture edge (R198) -/
  staged : List StagedWr
  rel : List (List StagedWr)
  /-- request lines whose pulse has not begun (R198) -/
  reqs : List Nat
  /-- programs that validate, the running validation first (R209) -/
  vq : List Nat
  /-- a bit for each program whose blocks its next start clears under TRIP_HALT, and for each whose pending start is that one (R210) -/
  halt : Nat
  clr : Nat
  /-- a bit for each OUT written since a period boundary of its stage read it (R222) -/
  outw : Nat
deriving DecidableEq, Repr

def LuS.init : LuS :=
  { run := none, pc := 0, d := [], acc := [], p := false, inp := [], bad := 0, sp := [], ang := 0, spd := 0, queue := []
    arms := 0, staged := [], rel := [], reqs := [], vq := [], halt := 0, clr := 0, outw := 0 }

/-- A field channel behind its registers (R216 to R240). Angles are counted in 2^-48 turn, speeds in 2^-20 turns/s. -/
structure FcS where
  /-- TQeff in Q2.30 (R226), and whether a sensor catch brakes against the direction (R236) -/
  tq : Int
  brake : Bool
  /-- the forced integrator: angle, speed and ramp target (R221, R234) -/
  th : Nat
  w : Int
  wt : Int
  /-- handover residual in 2^-48 turn, and agreements counted (R234) -/
  r : Int
  ho : Nat
  /-- tick of the last entry to ALIGN or WAIT, or of the last ramp step, and tick from which the handover time-out counts -/
  since : Nat
  tmo : Option Nat
  /-- the delivered angle carried on in 2^-48 turn while the source is at fault (R222) -/
  ext : Nat
  /-- pre-alignment half of ALIGN (R233) -/
  pre : Bool
  /-- probe or brake pulses given; tick of the last pulse while its fills are awaited; a running pulse and the tick at which it ends; ia and
  ib taken -/
  k : Nat
  pulseAt : Option Nat
  pulse : Bool
  pulseEnd : Nat
  ia : Option Int
  ib : Option Int
  /-- the probes taken, the last one first: below PROBE_IMIN, and φ in 2^-48 turn; consecutive brake pulses below PROBE_IMIN -/
  prb : List (Bool × Nat)
  low : Nat
  /-- consecutive boundaries without a fresh observer value (R222) -/
  stale : Nat
  /-- the outputs of the stage's legs are held off, from a tick on (R218); an enable awaits the sine fill (R227) -/
  hold : Bool
  holdAt : Nat
  enWait : Bool
  /-- DIR as the last START or entry to RAMP read it (R240); ADV_BASE and MAP_BASE as the last period boundary took them (R229) -/
  dir : Bool
  advBase : Nat
  mapBase : Nat
  /-- references that have still to land: the tick of their event, ID and IQ (R226) -/
  refs : List (Nat × Int × Int)
  /-- duties that have still to land: the tick of their boundary, and leg and compare value of each leg (R228) -/
  duty : List (Nat × List (Nat × Nat))
deriving DecidableEq, Repr

def FcS.init : FcS :=
  { tq := 0, brake := false, th := 0, w := 0, wt := 0, r := 0, ho := 0, since := 0, tmo := none, ext := 0, pre := false, k := 0
    pulseAt := none, pulse := false, pulseEnd := 0, ia := none, ib := none, prb := [], low := 0, stale := 0, hold := false, holdAt := 0
    enWait := false, dir := false, advBase := 0, mapBase := 0, refs := [], duty := [] }

/-- A position channel behind its registers (R244 to R259). -/
structure PosS where
  /-- accepted levels of A, B, Z, HU, HV, HW (bits 0 to 5) and the level of SSI data (bit 6), the levels as sampled, for each of A to HW the
  FPC cycle since which the samples differ from the accepted level (R244), and the tick since which SSI data is high -/
  lvl : Nat
  raw : Nat
  since : List (Option Nat)
  hiAt : Nat
  /-- signed count, and the edges kept for the speed, the newest first: count and tick (R248) -/
  cnt : Int
  edges : List (Int × Nat)
  /-- referenced; the next index event is the reference; tick of the last COUNT write (R247, R249, R250) -/
  refd : Bool
  first : Bool
  wrAt : Option Nat
  /-- last estimate, and the filtered speed: 2^-16 counts/s (ABZ), 2^-32 turns/s (Hall, SSI); tick of the last estimate -/
  wm : Int
  w : Int
  est : Nat
  /-- tick and direction of the last edge, transition or latch instant, and the angle then in 2^-24 turn -/
  at0 : Nat
  dir : Int
  base : Nat
  /-- a Hall transition has come since EN; the mechanical angle of the last cycle in 2^-24 turn -/
  moved : Bool
  mech : Nat
  /-- SSI: the bits sampled of the running frame, the data level half a clock period after its last rising edge (R252) -/
  shift : Nat
  tail : Bool
  /-- SSI: a frame runs, its request, the end of the last frame, a good frame since EN, consecutive bad frames, the last was bad -/
  busy : Bool
  reqAt : Nat
  endAt : Nat
  good : Bool
  bad : Nat
  lastBad : Bool
deriving DecidableEq, Repr

def PosS.init : PosS :=
  { lvl := 0, raw := 0, since := [], hiAt := 0, cnt := 0, edges := [], refd := false, first := true, wrAt := none, wm := 0, w := 0, est := 0, at0 := 0
    dir := 0, base := 0, moved := false, mech := 0, shift := 0, tail := false, busy := false, reqAt := 0, endAt := 0, good := false, bad := 0
    lastBad := false }

/-- A resolver channel behind its registers (R254 to R259): phase of the excitation in 2^-32 turn, φ in 2^-48 turn, ω̂ in 2^-32 turns/s, consecutive pairs tracked, not tracked,
low and high, whether the last was tracked and in its window, and the claims of its enable with their owner. -/
structure RsS where
  exc : Nat
  phi : Nat
  w : Int
  trk : Nat
  untrk : Nat
  low : Nat
  high : Nat
  lastTrk : Bool
  inWin : Bool
  owner : Nat
  claims : List Nat
deriving DecidableEq, Repr

def RsS.init : RsS := ⟨0, 0, 0, 0, 0, 0, 0, false, false, 0, []⟩

/-- An encoder emulator behind its registers (R261, R262): accumulator, quadrature state 0 to 3, Z land, Z due at the next step, tick of
the last step, the source angle last seen in 2^-16 turn, and the lands it claims. -/
structure EmuS where
  acc : Int
  ab : Nat
  z : Bool
  zDue : Bool
  stepAt : Option Nat
  last : Nat
  claims : List Nat
deriving DecidableEq, Repr

def EmuS.init : EmuS := ⟨0, 0, false, false, none, 0, []⟩

/-- What Rowan holds for one stage (R269 to R283). -/
structure RowS where
  /-- causes of the hold, the first one first, and its class; none without a hold -/
  causes : List Nat
  cls : Nat
  /-- consecutive failing and passing refreshes: the pairs of phases 0 to 5, the two phase sums, the link pair, torque, angle -/
  fails : List Nat
  oks : List Nat
  /-- the measurement checks, by number, for which the hold of cause 1 stands (R269) -/
  why : List Nat
  /-- what step 2 of a refresh has decided and step 4 carries out: cause and class of a hold; cause 0 is a pulse (R266) -/
  due : List (Nat × Nat)
  /-- last accepted TQ_PERM: window in 0.1 N·m and the tick -/
  permit : Option (Int × Int × Nat)
  /-- link values of the last refreshes in volts, the newest first; none where both sources are lost or none is named -/
  links : List (Option Rat)
  /-- CHOP_STG, OVNB_EN and ASC_DT as the last refresh took them (R144) -/
  chopStg : Nat
  ovnb : Bool
  ascDt : Nat
  /-- chopper: tick of the running command, its response seen, tick since which it conducts uncommanded, a cleared fault waits for
  the next command -/
  on : Option Nat
  resp : Bool
  uncmd : Option Nat
  wait : Bool
  /-- discharge: start tick, method that runs (0 none, 1 leg, 2 windings), modulation index in 1/1,024, and the 20 kHz period and the
  on-time in Rowan clock cycles of the leg method -/
  dAt : Nat
  meth : Nat
  idx : Nat
  per : Option Nat
  onCyc : Nat
deriving DecidableEq, Repr

def RowS.init : RowS :=
  { causes := [], cls := 3, fails := [], oks := [], why := [], due := [], permit := none, links := [], chopStg := 0xFF, ovnb := false, ascDt := 0, on := none, resp := false
    uncmd := none, wait := false, dAt := 0, meth := 0, idx := 0, per := none, onCyc := 0 }

/-- What Rowan holds for the module: last accepted SEQ of MB60 to MB63 (R270), the last complex report (0 voted, 1 pair, 2 pair
self-test, 3 unchecked, 4 disagreement, 5 split), whether a disagreement awaits a refresh, and the tick of the last report (R279). -/
structure RowG where
  seqs : List (Option Nat)
  rep : Nat
  dis : Bool
  repAt : Nat
deriving DecidableEq, Repr

def RowG.init : RowG := ⟨[none, none, none, none], 0, false, 0⟩

/-- Rowan's own tracking loop on a resolver (R277): angle in 2^-48 turn at its last pair and the tick of that pair, speed in
2^-32 turns/s, consecutive pairs tracked and not tracked, tracked at all, amplitude in its window. -/
structure RowRs where
  phi : Nat
  at0 : Nat
  w : Int
  trk : Nat
  untrk : Nat
  lock : Bool
  inWin : Bool
deriving DecidableEq, Repr

def RowRs.init : RowRs := ⟨0, 0, 0, 0, 0, false, false⟩

/-- The processor complex behind its registers (R290 to R315). Core sets are bit masks over Ash, Elm and Oak. -/
structure CpxS where
  /-- cores excluded from voting, and those of them that a C reset excluded (R294, R309) -/
  excl : Nat
  rst : Nat
  /-- checkpoint: registers 1 to 63, CSRs and PC after the last released item (R295) -/
  regs : SMap Nat
  csrs : SMap Nat
  pc : Nat
  /-- outvotes held of each core, and the tick of the first one held (R298) -/
  cnt : List Nat
  first : List (Option Nat)
  /-- CPX_CFG as latched at a sync point: SYNC_US, RETIRE_K, RETIRE_MS, WB (R296) -/
  sync : Nat
  kRet : Nat
  msRet : Nat
  wb : Bool
  /-- ticks at which the sync timer, the checker test and the periodic report fall due next (R296, R304, R305) -/
  syncAt : Nat
  testAt : Nat
  repAt : Nat
  /-- PROMOTING: the position being filled; a TCM fill (of Yew, or of Elm and Oak) has ended; Yew's TCM failed during it (R299, R311) -/
  promo : Nat
  filled : Bool
  yewBad : Bool
  /-- PAIR_TEST: the cores under test, whether a disagreement led to it, whether the mismatched item was an uncached load; a checker fault
  awaits its end (R301, R302, R311) -/
  test : Nat
  dis : Bool
  load : Bool
  chkWait : Bool
  /-- ticks of the self-tests of a pair that found no fault (R301) -/
  trans : List Nat
  /-- MTIP and MEIP of each core (R313, R315) -/
  mtip : Nat
  meip : Nat
deriving DecidableEq, Repr

def CpxS.init : CpxS :=
  { excl := 0, rst := 0, regs := [], csrs := [], pc := 0, cnt := [0, 0, 0], first := [none, none, none], sync := 8, kRet := 3
    msRet := 1000, wb := false, syncAt := 0, testAt := 0, repAt := 0, promo := 0, filled := false, yewBad := false, test := 0, dis := false, load := false
    chkWait := false, trans := [], mtip := 0, meip := 0 }

/-- The image logic behind its registers: the slot that a load verifies, STATE before it (R52), the master whose last write to IMG_LOCK
was the first key (R63), and the owners that the image binds by resource ID (R59). -/
structure ImgS where
  slot : Nat
  prev : Nat
  key : Option Nat
  bound : SMap Nat
deriving DecidableEq, Repr

def ImgS.init : ImgS := ⟨0, 0, none, []⟩

/-- The power unit behind its registers (R280, R392 to R411): the tick of the last fall of VLV; what the supplies hold (0 the module runs,
1 hibernation, 2 off with Clay held, 3 only the discharge set powered, 4 nothing), whether the start sequence has run since the last reset,
the wake cause latched during a shutdown, island holds after RST_REQ by their release tick, power-ups by the tick of the PD = 0 write,
inputs that became present in hibernation (VLV, HVA), whether a Clay cold start awaits its first start, BOOTSEL as sampled, the
capture records made and copied, and the words that a scrub pass has still to read. -/
structure PwrS where
  vlvAt : Nat
  mode : Nat
  begun : Bool
  wake : Option Nat
  hold : SMap (Option Nat)
  pup : SMap (Option Nat)
  riseV : Bool
  riseH : Bool
  cold : Bool
  bootsel : Bool
  capTot : Nat
  capDone : Nat
  scrubLeft : Nat
deriving DecidableEq, Repr

def PwrS.init : PwrS := ⟨0, 0, false, none, [], [], false, false, true, false, 0, 0, 0⟩

/-- A chain port behind its registers (R340 to R342, R350): start tick of the training in progress, tick at which it came up, UNWRAP sent
and received, the receive lane that awaits its LSW, the receive lane that the spare replaced, and the instant of the last DREQ in
1/64 tick. -/
structure ChPort where
  trainAt : Nat
  upAt : Nat
  sent : Bool
  rcvd : Bool
  lsw : Option Nat
  spared : Option Nat
  t1 : Option Nat
deriving DecidableEq, Repr

def ChPort.init : ChPort := ⟨0, 0, false, false, none, none, none⟩

/-- A MARK that awaits its application (R350): its master time, H and error in 1/64 tick of the copy in use, the tick of the first copy,
the copies that have come. -/
structure ChMark where
  tm : Nat
  h : Nat
  err : Int
  at0 : Nat
  n : Nat
deriving DecidableEq, Repr

/-- The chain logic behind its registers (R339 to R358). -/
structure ChS where
  p0 : ChPort
  p1 : ChPort
  /-- frames sent, and the descriptors queued: DEST, LEN, OFFSET (R344, R346) -/
  seq : Nat
  queue : List (Nat × Nat × Nat)
  /-- addresses seen in a census since the last enumeration, and consecutive censuses that each one missed (R349) -/
  members : Nat
  miss : SMap Nat
  /-- ticks of the last MARK and CENSUS that the master sent -/
  markAt : Option Nat
  censAt : Option Nat
  /-- the pending MARK, the tick of the last one that came or was counted missing, MARKs in a row within ±1 ns, MARKs in a row missing
  or beyond ±2 ns, MARKs in a row missing (R349, R350) -/
  mark : Option ChMark
  markIn : Option Nat
  good : Nat
  bad : Nat
  gone : Nat
  /-- KEEP and send tick of the token that travels (R348) -/
  keep : Bool
  tokAt : Nat
  /-- T of the change with STATE = 1; the master's ID, T and S, the start tick of its wait, and who reported ARMED and REFUSED (R355) -/
  t : Nat
  mId : Nat
  mT : Nat
  mS : Nat
  mAt : Nat
  armed : Nat
  refused : Nat
  /-- COMMIT and ABORT frames that have still to be sent again: tick, type and ID (R355) -/
  rep : List (Nat × Nat × Nat)
  /-- tick at which a chain reset takes effect (R358) -/
  rstAt : Option Nat
deriving DecidableEq, Repr

def ChS.init : ChS :=
  { p0 := ChPort.init, p1 := ChPort.init, seq := 0, queue := [], members := 0, miss := [], markAt := none, censAt := none
    mark := none, markIn := none, good := 0, bad := 0, gone := 0, keep := false, tokAt := 0, t := 0, mId := 0, mT := 0, mS := 0
    mAt := 0, armed := 0, refused := 0, rep := [], rstAt := none }

/-- A CAN controller behind its registers (R370, R371): the selected buffer, whether its frame has begun, and the counter of R374 at its
start of frame. -/
structure CanS where
  sel : Option Nat
  begun : Bool
  sof : Nat
deriving DecidableEq, Repr

def CanS.init : CanS := ⟨none, false, 0⟩

/-- A phase-locked loop behind its registers (R381 to R388): the entries left to try in the table as latched (entry, band code), start
tick of the try, tick of the last lock, whether the returning loop has closed, whether this return waits for a step, the LFSR of its
dither, band selections that failed in a row and the tick of the last failure. -/
structure PllS where
  cand : List (Nat × Nat)
  since : Nat
  lockAt : Nat
  closed : Bool
  step : Bool
  lfsr : Nat
  fails : Nat
  errAt : Option Nat
deriving DecidableEq, Repr

def PllS.init : PllS := ⟨[], 0, 0, false, false, 0, 0, none⟩

/-- Clock control behind its registers (R377 to R390): the loops, the release tick while the crystal is awaited, whether the PLL-S islands
run from PLL-S, whether PLL-T has locked since its last enable, the last stretched tick with its lengthening in 0.5 ns. -/
structure ClkS where
  plls : SMap PllS
  wait : Option Nat
  sOn : Bool
  tRun : Bool
  stretch : Option (Nat × Nat)
deriving DecidableEq, Repr

def ClkS.init : ClkS := ⟨[], none, false, false, none⟩

/-- An entry of the spare map (R426): physical unit (0x1FF none), STATE, PADF. -/
structure MapEnt where
  pu : Nat
  state : Nat
  padf : Bool
deriving DecidableEq, Repr

/-- Entries that await a write of the wear record (R418, R425, R428): physical units with their cause, aged-out units, failed taps by
ladder, failed rows by array, a new ROT_PTR, AGE by physical unit, a completed run, an interrupted run. -/
structure WearAdd where
  marks : List (Nat × Nat)
  aged : List Nat
  taps : List (Nat × List Nat)
  rows : List (Nat × Nat)
  rot : Option Nat
  ages : List (Nat × Nat)
  run : Bool
  part : Bool
deriving DecidableEq, Repr

def WearAdd.init : WearAdd := ⟨[], [], [], [], none, [], false, false⟩

/-- The self-test and the wear record behind their registers (R416 to R429): the wear copy in force, the verdict record that a run writes and its SEQ, entries
whose write failed, whether the interrupted run that stands in Clay is counted, resources without a physical unit number that logic
BIST found failed, the islands that the running group holds in D reset, and all that the run has held (R420). -/
structure SelfS where
  copy : Option Nat
  rcd : Nat
  seq : Nat
  pend : List WearAdd
  counted : Bool
  noPu : List Nat
  under : List Nat
  made : List Nat
deriving DecidableEq, Repr

def SelfS.init : SelfS := ⟨none, 0, 0, [], false, [], [], []⟩

/-- A host port behind its registers (R332 to R336): write words taken and not yet issued, whether RSTEN came just before, and what the
port returned in its last transaction: data words, then the status byte; for RDSR the status byte, FREE and the doorbell word. -/
structure HpS where
  buf : List (Nat × Nat)
  rsten : Bool
  out : List Nat
deriving DecidableEq, Repr

def HpS.init : HpS := ⟨[], false, []⟩

/-- A reply of Alder that its mailbox did not take (R439): mailbox, words, sender, tries, tick of the last try, request word 0. -/
structure Reply where
  mb : Nat
  words : List Nat
  src : Nat
  tries : Nat
  at0 : Nat
  req : Nat
deriving DecidableEq, Repr

end Sys2Proof.Machine
end

