-- ==== Sys2Proof/Machine/State.lean ====
section
/-! DEFINITION. The state of the module: every register, memory, queue, latch and pin that the spec gives it, as plain data, and
the queue of waiting commands. Register fields are held in one register file keyed by address and lowest bit; what a field reads
as when it has no entry is its reset value. -/

namespace Sys2Proof.Machine

/-- Reasons for which a step could stop with a fault. No meaning of this model raises one: every command of the spec has an effect
or is without effect, and a forbidden access is a bus error of its master (R42), which is state. -/
inductive Fault where
  /-- raised by nothing: it stands so that the type has a name for a step that an unreachable internal case would stop (safe) -/
  | internal
deriving DecidableEq, Repr

/-- Reasons for which a step could be refused. -/
inductive Refusal where
  /-- raised by the dispatcher for a row of the table that has no meaning yet (safe: nothing is proved of such a row) -/
  | notModelled (mnemonic : String)
deriving DecidableEq, Repr

structure State where
  /-- ticks since the timebase clock started (R6) -/
  now : Nat
  /-- register file: every field of every register map, by its key -/
  regs : SMap Nat
  /-- bytes of the memories of R40, by bus address -/
  mem : List Host.Cell
  /-- bytes of the tightly coupled memories: logical core × 0x4_0000 + offset (R41) -/
  tcm : List Host.Cell
  /-- word addresses whose double-bit ECC error stands (R33, R409) -/
  eccBad : List Nat
  /-- last answer to each bus master (R42) -/
  resp : SMap Resp
  /-- read and write holding registers of each bus master (R10) -/
  rhold : SMap Hold
  whold : SMap Hold
  /-- captures of the shadow registers at the current tick edge (R84) -/
  caps : SMap Cap
  /-- timebases, legs and gate pads behind their registers -/
  tbs : SMap TbS
  legs : SMap LegS
  pads : SMap PadS
  /-- converters, sequencers, pairs and isolated channels behind their registers -/
  adcs : SMap AdcS
  seqs : SMap SeqS
  pairs : SMap PairS
  isos : SMap IsoS
  /-- result words on the sample link, first in first out (R161, R199) -/
  linkq : List LinkWord
  /-- Rowan's sources by code (R272) -/
  ains : SMap SrcS
  /-- ASC_DT delays that run, by stage (R127) -/
  asc : SMap (Option AscRun)
  /-- levels that the TRIPIN lands are driven to, none for an open land (R121) -/
  lands : SMap (Option Bool)
  /-- comparators and TRIPIN lands, by resource ID, whose input differs from the filtered level, with the tick since which it does (R120) -/
  glitch : SMap (Option Nat)
  /-- tick of Rowan's last refresh (R137, R266) -/
  rowanAt : Option Nat
  /-- resource IDs of units that failed at run time and await their retirement entry (R33, R418) -/
  retireq : List Nat
  /-- phase of the Clay counter against the tick: 32,768 counts in 500,000,000 ticks (R410) -/
  clyPhase : Nat
  /-- VGIO present (R113) -/
  vgio : Bool
  /-- lost die links (R23) and rail sets whose power-good is high (R395) -/
  links : Links
  rails : SMap Bool
  /-- loop units and field channels behind their registers -/
  lus : SMap LuS
  fcs : SMap FcS
  /-- the sine, phase-advance and motor-map tables of field control (R224, R225, R227): the key is 0x10000 × table + entry; an
  unlisted sine entry reads the hardware fill -/
  fctab : SMap Nat
  tblq : List TblWait
  /-- position channels, resolver channels and encoder emulators behind their registers -/
  poss : SMap PosS
  rss : SMap RsS
  emus : SMap EmuS
  /-- routes of the loaded image (R47) and trigger pulses on their way -/
  routes : List Route
  pulses : List Pulse
  /-- Alder's pending event records, events dropped since the last code-0x000C record, and LOST_BEFORE for the next record
  (R435, R436) -/
  logq : List LogRec
  logLost : Nat
  logGap : Bool
  /-- the model's own counter of free values: it numbers the values that the spec leaves open -/
  fresh : Nat
  /-- Rowan behind its registers: stages, module, resolver loops -/
  rows : SMap RowS
  rowg : RowG
  rowrs : SMap RowRs
  /-- the power unit behind its registers -/
  pwr : PwrS
  /-- the processor complex and the image logic behind their registers -/
  cpx : CpxS
  img : ImgS
  /-- dirty bytes of the data caches: logical core × 2^32 + address (R312) -/
  dcache : SMap (Option (BitVec 8))
  /-- the chain logic behind its registers -/
  ch : ChS
  /-- what the chain ports sent within the present tick: port and content (R343, R344) -/
  chOut : List (Nat × ChSent)
  /-- function codes of the multi-function lands (R462) -/
  pins : SMap Nat
  /-- CAN controllers behind their registers -/
  cans : SMap CanS
  /-- clock control behind its registers -/
  clk : ClkS
  /-- the self-test and the wear record behind their registers -/
  st : SelfS
  /-- host ports behind their registers -/
  hps : SMap HpS
  /-- replies of Alder that await their mailbox (R439) -/
  replies : List Reply
  /-- start of the measurement that a monitor has open, in ns (R442) -/
  mons : SMap (Option Nat)
  /-- windows of Alder at or above the busy threshold in a row (R432) -/
  aldLoad : Nat
  /-- ECC counters of R33 by memory range of R40: twice the range, corrected words, plus 1, double-bit errors -/
  ecc : SMap Nat
  /-- Alder is busy by its load (R432) -/
  aldHot : Bool
  /-- tick at which a HOUSE job was first deferred (R432) -/
  houseAt : Option Nat
  /-- the mailbox from which Alder's pass over its requests goes on (R437) -/
  aldScan : Nat
  /-- bus accesses to Cedar table RAM that wait for their unit (R188) -/
  cedq : List CedWait
  /-- commands that wait, first in, first out -/
  pending : List Instr
deriving DecidableEq, Repr

/-- The machine right after a power-on reset, before the start sequence runs: every register field at its reset value (no entry
in the register file), every gate output held off by its override latch (R32), nothing loaded, nothing powered. -/
def State.reset : State :=
  { now := 0, regs := [], mem := [], tcm := [], eccBad := [], resp := [], rhold := [], whold := [], caps := []
    tbs := [], legs := [], pads := [], adcs := [], seqs := [], pairs := [], isos := [], linkq := [], ains := [], asc := [], lands := [], glitch := [], rowanAt := none, retireq := [], clyPhase := 0, vgio := false, links := Links.init, rails := []
    lus := [], fcs := [], fctab := [], tblq := [], poss := [], rss := [], emus := []
    routes := [], pulses := [], logq := [], logLost := 0, logGap := false
    rows := []
    rowg := RowG.init
    rowrs := []
    pwr := PwrS.init
    cpx := CpxS.init
    img := ImgS.init
    dcache := []
    ch := ChS.init
    chOut := []
    pins := []
    cans := []
    clk := ClkS.init
    st := SelfS.init
    hps := []
    replies := []
    mons := []
    aldLoad := 0
    ecc := []
    aldHot := false
    houseAt := none
    aldScan := 0
    cedq := []
    fresh := 0, pending := [] }

end Sys2Proof.Machine
end

