-- ==== Sys2Proof/Machine/Ops.lean ====
section
/-! DEFINITION. The named operations that every family shares: reading and writing register fields, memory, the answers to
bus masters, event records, interrupts, resource claims. -/

namespace Sys2Proof.Machine

/-! ## Register fields -/

/-- The value of a field of unit `i`, sub-unit `j`: its entry in the register file, or its reset value. -/
def State.rd (s : State) (f : FD) (i : Nat := 0) (j : Nat := 0) : Nat := SMap.get (f.rst i j) s.regs (f.key i j)

/-- Set a field; a value wider than the field loses its upper bits. -/
def State.wr2 (s : State) (f : FD) (i j v : Nat) : State :=
  { s with regs := SMap.set (f.rst i j) s.regs (f.key i j) (v % 2 ^ f.w) }

/-- Set a field of a one-dimensional array. -/
def State.wr (s : State) (f : FD) (i v : Nat) : State := s.wr2 f i 0 v

/-- Is a one-bit field set? -/
def State.on (s : State) (f : FD) (i : Nat := 0) (j : Nat := 0) : Bool := s.rd f i j == 1

/-- The two's-complement reading of a field (R7). -/
def State.rdI (s : State) (f : FD) (i : Nat := 0) (j : Nat := 0) : Int := sgn f.w (s.rd f i j)

/-- Set a field to the two's-complement encoding of an integer. -/
def State.wrI (s : State) (f : FD) (i : Nat) (v : Int) : State := s.wr f i (uns f.w v)

/-- Set a flag. -/
def State.flag (s : State) (f : FD) (i : Nat) : State := s.wr f i 1

/-- Set a flag of a two-dimensional array. -/
def State.flag2 (s : State) (f : FD) (i j : Nat) : State := s.wr2 f i j 1

/-- Add one to a counter field that saturates at its largest value. -/
def State.bump (s : State) (f : FD) (i : Nat) : State := s.wr f i (satAdd (2 ^ f.w - 1) (s.rd f i))

/-- Run a change only where a condition holds. -/
def State.onlyIf (s : State) (c : Bool) (f : State → State) : State := if c then f s else s

/-- Restore to reset every field that a scope selects (R12): its entry leaves the register file. -/
def State.resetFields (s : State) (sel : FD → Nat → Nat → Bool) : State :=
  { s with regs := s.regs.filter fun e =>
      match fieldOfKey e.1 with
      | some (f, i, j) => !sel f i j
      | none => true }

/-- Does any W1C flag of a register read 1? -/
def State.w1cOn (s : State) (f : FD) (i : Nat) (j : Nat := 0) : Bool :=
  (windowMap f.blk).any fun fs => (fs.any fun g => g.off == f.off) && fs.any fun g => g.acc == .w1c && s.rd g i j != 0

/-- The register word that holds a field: every field of the register at its place. -/
def State.regWord (s : State) (f : FD) (i : Nat) (j : Nat := 0) : Nat :=
  ((windowMap f.blk).flatten.filter fun g => g.off == f.off).foldl (fun a g => a + s.rd g i j % 2 ^ 32 * 2 ^ g.lo) 0

/-! ## Banks of unit records -/

def State.tb (s : State) (n : Nat) : TbS := SMap.get TbS.init s.tbs n
def State.setTb (s : State) (n : Nat) (r : TbS) : State := { s with tbs := SMap.set TbS.init s.tbs n r }
def State.leg (s : State) (n : Nat) : LegS := SMap.get LegS.init s.legs n
def State.setLeg (s : State) (n : Nat) (r : LegS) : State := { s with legs := SMap.set LegS.init s.legs n r }
def State.pad (s : State) (n : Nat) : PadS := SMap.get PadS.init s.pads n
def State.setPad (s : State) (n : Nat) (r : PadS) : State := { s with pads := SMap.set PadS.init s.pads n r }
def State.ascOf (s : State) (n : Nat) : Option AscRun := SMap.get none s.asc n
def State.setAsc (s : State) (n : Nat) (r : Option AscRun) : State := { s with asc := SMap.set none s.asc n r }

def State.adc (s : State) (n : Nat) : AdcS := SMap.get AdcS.init s.adcs n
def State.setAdc (s : State) (n : Nat) (r : AdcS) : State := { s with adcs := SMap.set AdcS.init s.adcs n r }
def State.seq (s : State) (n : Nat) : SeqS := SMap.get SeqS.init s.seqs n
def State.setSeq (s : State) (n : Nat) (r : SeqS) : State := { s with seqs := SMap.set SeqS.init s.seqs n r }
def State.pair (s : State) (n : Nat) : PairS := SMap.get PairS.init s.pairs n
def State.setPair (s : State) (n : Nat) (r : PairS) : State := { s with pairs := SMap.set PairS.init s.pairs n r }
def State.iso (s : State) (n : Nat) : IsoS := SMap.get IsoS.init s.isos n
def State.setIso (s : State) (n : Nat) (r : IsoS) : State := { s with isos := SMap.set IsoS.init s.isos n r }

def State.lu (s : State) (n : Nat) : LuS := SMap.get LuS.init s.lus n
def State.setLu (s : State) (n : Nat) (r : LuS) : State := { s with lus := SMap.set LuS.init s.lus n r }
def State.fc (s : State) (n : Nat) : FcS := SMap.get FcS.init s.fcs n
def State.setFc (s : State) (n : Nat) (r : FcS) : State := { s with fcs := SMap.set FcS.init s.fcs n r }
def State.pos (s : State) (n : Nat) : PosS := SMap.get PosS.init s.poss n
def State.setPos (s : State) (n : Nat) (r : PosS) : State := { s with poss := SMap.set PosS.init s.poss n r }
def State.rsv (s : State) (n : Nat) : RsS := SMap.get RsS.init s.rss n
def State.setRsv (s : State) (n : Nat) (r : RsS) : State := { s with rss := SMap.set RsS.init s.rss n r }
def State.emu (s : State) (n : Nat) : EmuS := SMap.get EmuS.init s.emus n
def State.setEmu (s : State) (n : Nat) (r : EmuS) : State := { s with emus := SMap.set EmuS.init s.emus n r }

def State.src (s : State) (n : Nat) : SrcS := SMap.get SrcS.init s.ains n
def State.setSrc (s : State) (n : Nat) (r : SrcS) : State := { s with ains := SMap.set SrcS.init s.ains n r }
def State.row (s : State) (n : Nat) : RowS := SMap.get RowS.init s.rows n
def State.setRow (s : State) (n : Nat) (r : RowS) : State := { s with rows := SMap.set RowS.init s.rows n r }
def State.rowRs (s : State) (n : Nat) : RowRs := SMap.get RowRs.init s.rowrs n
def State.setRowRs (s : State) (n : Nat) (r : RowRs) : State := { s with rowrs := SMap.set RowRs.init s.rowrs n r }

/-- A word of a source arrives at Rowan (R272, R273). -/
def State.srcWord (s : State) (c : Nat) (code : Int) (bad : Bool) : State :=
  let r := s.src c
  s.setSrc c { r with sum := r.sum + code, n := r.n + 1, bad := bad }

/-! ## Memory: a byte that nothing has written reads 0 (a choice of the model where the spec gives no content) -/

/-- One byte at a bus address. -/
def State.byte (s : State) (a : Nat) : Nat := (SMap.get (0 : BitVec 8) s.mem a).toNat

/-- Write one byte. -/
def State.setByte (s : State) (a v : Nat) : State := { s with mem := SMap.set (0 : BitVec 8) s.mem a (BitVec.ofNat 8 v) }

/-- The bytes of a range, in rising address. -/
def State.bytes (s : State) (a n : Nat) : List Nat := (List.range n).map fun k => s.byte (a + k)

/-- Write bytes at rising addresses. -/
def State.setBytes (s : State) (a : Nat) : List Nat → State
  | [] => s
  | b :: t => (s.setByte a b).setBytes (a + 1) t

/-- A little-endian number of `n` bytes (R5). -/
def State.num (s : State) (a n : Nat) : Nat := ofLe (s.bytes a n)

/-- Store a little-endian number of `n` bytes. -/
def State.setNum (s : State) (a n v : Nat) : State := s.setBytes a (leBytes n v)

/-- A word that is written whole has valid check bits again (R33, R409). -/
def State.eccWritten (s : State) (a n : Nat) : State :=
  if n = 4 then { s with eccBad := s.eccBad.filter (· ≠ a) } else s

/-- A 32-bit word. -/
def State.word (s : State) (a : Nat) : Nat := s.num a 4
def State.setWord (s : State) (a v : Nat) : State := (s.setNum a 4 v).eccWritten a 4

/-! ## Bus masters -/

/-- The holding registers and answers of R10 count the processor complex as one master outside split mode. -/
def State.splitMode (s : State) : Bool := s.rd Reg.CPX_STATUS.MODE == 5 || s.rd Reg.CPX_STATUS.MODE == 6

/-- The number of a master: cores 0 to 2 (one master outside split mode), Alder 3, H0 4, H1 5. -/
def State.masterNo (s : State) (m : Master) : Nat :=
  match m with
  | .ash => 0
  | .elm => if s.splitMode then 1 else 0
  | .oak => if s.splitMode then 2 else 0
  | .alder => 3
  | .h0 => 4
  | .h1 => 5

/-- The master code of IMG_LOCK.OPENER and RWI_LAST.MASTER: 0 complex, 1 Alder, 2 H0, 3 H1. -/
def Master.code : Master → Nat
  | .ash => 0
  | .elm => 0
  | .oak => 0
  | .alder => 1
  | .h0 => 2
  | .h1 => 3

/-- The answer to the last access of a master. -/
def State.respOf (s : State) (m : Master) : Resp := SMap.get Resp.init s.resp (s.masterNo m)
def State.setResp (s : State) (m : Master) (r : Resp) : State := { s with resp := SMap.set Resp.init s.resp (s.masterNo m) r }

/-- The host port of a master. -/
def Master.port : Master → Option Nat
  | .h0 => some 0
  | .h1 => some 1
  | _ => none

/-- The access to an address ends in a bus error, reported to its master, and changes nothing (R42); a host port shows it in BERR and
BERR_ADDR (R334, R335). -/
def State.busErr (s : State) (m : Master) (a : Nat) : State :=
  let t := s.setResp m ⟨true, 0⟩
  match m.port with
  | some p => (t.flag Reg.HP_STAT.BERR p).wr Reg.HP_BERR_ADDR.ADDR p a
  | none => t

/-- The access completes without data. -/
def State.ack (s : State) (m : Master) : State := s.setResp m ⟨false, 0⟩

/-- The same for an access that has waited: none is the master whose island was reset meanwhile, to which no reply goes (R28). -/
def State.errTo (s : State) (m : Option Master) (a : Nat) : State := match m with | some m => s.busErr m a | none => s
def State.ackTo (s : State) (m : Option Master) : State := match m with | some m => s.ack m | none => s

/-- The presence signal of an island (R27): out of D reset, with a clock and power. The safety region has no island and no
D reset (R22); it is present while its rail is. -/
def State.present (s : State) (isl : Nat) : Bool :=
  if isl < 39 then
    s.on Reg.ISL_STAT.POWERED isl && !s.on Reg.ISL_STAT.IN_RESET isl && s.on Reg.ISL_STAT.CLK_OK isl
      && s.on Reg.ISL_STAT.RAIL_OK isl
  else SMap.get false s.rails 7

/-- Die A islands are reached over the control link (R23). -/
def onDieA (isl : Nat) : Bool := (0x13 ≤ isl && isl ≤ 0x22) || isl == 0x27

/-- Can a bus access reach an island (R23, R27)? -/
def State.reach (s : State) (isl : Nat) : Bool := s.present isl && !(onDieA isl && s.links.control)

/-- A write to the register at an address: where it reaches its island it has its effect and completes, else it ends in a bus error
(R27). -/
def State.busWrite (s : State) (m : Master) (a : Nat) (f : State → State) : State :=
  if s.reach (islandAt a) then (f s).ack m else s.busErr m a

/-- A host port loses its buffered writes, and HP_STAT is cleared (R336). -/
def State.hpClear (s : State) (p : Nat) : State :=
  let t := (((s.wr Reg.HP_STAT.CMD_ERR p 0).wr Reg.HP_STAT.ABND p 0).wr Reg.HP_STAT.WOVF p 0).wr Reg.HP_STAT.BERR p 0
  { t.wr Reg.HP_STAT.FREE p 64 with hps := SMap.drop p s.hps }

/-! ## Time -/

/-- Chain time in ticks (R313, R350). -/
def State.chainTime (s : State) : Nat := s.rd Reg.CH_TIME.TIME

/-- A new free value's number, and the counter moved on. -/
def State.next (s : State) : State := { s with fresh := s.fresh + 1 }

/-- PWM_RDY sets once the image is loaded, the ladders and PLL-T are locked and Rowan is ready (R399); it stays set. -/
def State.showPwm (s : State) : State :=
  if s.rd Reg.IMG_STATUS.STATE = 2 ∧ s.on Reg.TBG_STATUS.LAD_LOCK ∧ s.on Reg.ROW_STATUS.READY ∧ s.on Reg.PLL_STAT.LOCK 0 then
    s.wr Reg.PWR_STATUS.PWM_RDY 0 1
  else s

/-! ## Event records of Alder (R433 to R436) -/

/-- Codes that never merge (R435). -/
def logNeverMerges (code : Nat) : Bool := [0x0002, 0x0005, 0x0009, 0x000A, 0x0080].contains code

/-- Merge an event into the pending record of the same code and source, if there is one. -/
def logMerge (code src t : Nat) : List LogRec → Option (List LogRec)
  | [] => none
  | r :: rest =>
    if r.code = code ∧ r.src = src then
      some ({ r with count := satAdd 0xFFFFFFFF r.count, tLast := t, flags := r.flags ||| 1 } :: rest)
    else (logMerge code src t rest).map (r :: ·)

/-- Record how many events are pending (ALD_STATUS.QUEUE). -/
def State.setLogq (s : State) (q : List LogRec) : State := { s with logq := q }.wr Reg.ALD_STATUS.QUEUE 0 q.length

/-- An event reaches Alder: it merges, is queued, or is dropped and counted (R435). Alder records nothing while its island is
in reset or unpowered (R436). -/
def State.logEv (s : State) (code src : Nat) (data : List Nat) : State :=
  if !s.present islALD then s
  else
    match (if logNeverMerges code then none else logMerge code src s.chainTime s.logq) with
    | some q => s.setLogq q
    | none =>
      if s.logq.length < 64 then s.setLogq (s.logq ++ [⟨code, src, 0, s.chainTime, s.chainTime, 1, data⟩])
      else ({ s with logLost := s.logLost + 1 }.bump Reg.ALD_CNT.LOST_CNT 0).flag Reg.ALD_EVT.EV_LOST 0

/-! ## ECC (R33, R409) -/

/-- The number of the memory range that holds an address, from R40's order; the tables of field control, whose entries have numbers from
2^32 on, come after them. -/
def memNo (a : Nat) : Option Nat :=
  if 2 ^ 32 ≤ a then some memRanges.length else memRanges.findIdx? fun r => r.1 ≤ a && a < r.1 + r.2.1

/-- Count an ECC error of a memory range: `k` 0 corrected, 1 double-bit. Clay counts in CLY_ECC (R409). -/
def State.eccCount (s : State) (a k : Nat) : State :=
  match memNo a with
  | some 7 => if k = 0 then s.bump Reg.CLY_ECC.SBE_CNT 0
      else ((s.flag Reg.CLY_STAT.DBE 0).bump Reg.CLY_ECC.DBE_CNT 0).wr Reg.CLY_DBE_ADDR.ADDR 0 (a % 0x4000 / 4 * 4)
  | some n => { s with ecc := SMap.set 0 s.ecc (2 * n + k) (SMap.get 0 s.ecc (2 * n + k) + 1) }
  | none => s

/-- A double-bit error in the word at an address is met: the error counter and the event log (R33). -/
def State.eccMet (s : State) (a isl : Nat) : State := (s.eccCount a 1).logEv 0x0004 isl (leBytes 4 a)

/-! ## Interrupt sources (R314) -/

/-- An event source sets its CPX_IRQ_PEND bit, which stays set until it is written 1. -/
def State.irqEv (s : State) (src : Nat) : State :=
  s.wr Reg.CPX_IRQ_PEND.PEND (src / 32) (withBit (s.rd Reg.CPX_IRQ_PEND.PEND (src / 32)) (src % 32))

/-! ## Resource claims (R57 to R61) -/

def State.claimState (s : State) (id : Nat) : Nat := s.rd Reg.CLAIM.STATE id
def State.claimOwner (s : State) (id : Nat) : Nat := s.rd Reg.CLAIM.OWNER id

/-- The function of a multi-function land follows its dynamic claim: emulator output while an emulator holds it, none after (R262, R462). -/
def State.claimPin (s : State) (id st : Nat) : State :=
  if id / 256 = 0xA ∧ st = 2 then { s with pins := SMap.set 0 s.pins (id % 256) 0x30 }
  else if id / 256 = 0xA ∧ s.claimState id = 2 then { s with pins := SMap.set 0 s.pins (id % 256) 0 }
  else s

def State.setClaim (s : State) (id st owner : Nat) : State :=
  ((s.claimPin id st).wr Reg.CLAIM.STATE id st).wr Reg.CLAIM.OWNER id owner

/-- A refused claim request: CONFLICT, its counter and CLM_LAST (R60, R61). -/
def State.claimRefused (s : State) (id owner : Nat) : State :=
  let holder := if s.claimState id = 3 then 0 else s.claimOwner id
  ((((s.flag Reg.CLM_STATUS.CONFLICT 0).bump Reg.CLM_STATUS.CONFLICT_CNT 0).wr Reg.CLM_LAST.RES_ID 0 id).wr
    Reg.CLM_LAST.REQUESTER 0 owner).wr Reg.CLM_LAST.OWNER 0 holder

/-- The first resource of a list that an owner cannot take, by the rows of R61 in their order: one unusable, one bound by the image to
another owner, one that another owner holds dynamically; while an image loads, any that the owner does not hold already. -/
def State.claimBlock (s : State) (owner : Nat) (ids : List Nat) : Option Nat :=
  let held (id : Nat) : Bool := s.claimState id != 0 && s.claimOwner id == owner
  let bar (st : Nat) : Option Nat := ids.find? fun id => s.claimState id == st && (st == 3 || s.claimOwner id != owner)
  ((bar 3).orElse fun _ => bar 1).orElse fun _ => (bar 2).orElse fun _ =>
    if s.rd Reg.IMG_STATUS.STATE = 1 then ids.find? fun id => !held id else none

/-- A claim decision (R60, R61): the enable takes every free resource of the list as a dynamic claim and runs `yes`, or takes none,
is recorded as refused and runs `no`. -/
def State.claimAll (s : State) (owner : Nat) (ids : List Nat) (yes no : State → State) : State :=
  match s.claimBlock owner ids with
  | some id => no (s.claimRefused id owner)
  | none => yes (foldEach (fun id t => if t.claimState id = 0 then t.setClaim id 2 owner else t) ids s)

/-- The owner clears its enable: its dynamic claims on the listed resources are released (R61). -/
def State.releaseClaims (s : State) (owner : Nat) (ids : List Nat) : State :=
  foldEach (fun id t => if t.claimState id = 2 ∧ t.claimOwner id = owner then t.setClaim id 0 0 else t) ids s

/-! ## Stages (R54 to R56) -/

def State.stgEnabled (s : State) (n : Nat) : Bool := s.on Reg.STG_CTRL.EN n
def State.stgLegs (s : State) (n : Nat) : List Nat := bitList 24 (s.rd Reg.STG_LEGS.LEGS n)
def State.stgKind (s : State) (n : Nat) : Nat := s.rd Reg.STG_DESC.KIND n
def State.stgTripped (s : State) (n : Nat) : Bool := s.on Reg.STG_TRIP.TRIP n

/-- SAFE, DEGRADE, SPLIT_OK and UNCHK_SS of a stage (R55). -/
def State.stgAttr (s : State) (n bit : Nat) : Bool := bitAt (s.rd Reg.STG_DESC.ATTR n) bit

/-- The stage that a loop unit serves (R186). -/
def State.stageOfLu (s : State) (u : Nat) : Option Nat :=
  (List.range 8).find? fun n => s.stgKind n ≠ 0 && s.rd Reg.STG_DESC.LU n == u

/-- The stage whose leg mask holds a leg (R68): the stages of a loaded image have disjoint leg masks (R59). -/
def State.stageOfLeg (s : State) (l : Nat) : Option Nat :=
  (List.range 8).find? fun n => s.stgKind n ≠ 0 && bitAt (s.rd Reg.STG_LEGS.LEGS n) l

/-- The timebase a leg counts against (R68). -/
def State.tbOfLeg (s : State) (l : Nat) : Option Nat := (s.stageOfLeg l).map fun n => s.rd Reg.STG_DESC.TB n

/-- The clocked legs that count against a timebase: a leg in D reset keeps its reset values (R86). -/
def State.legsOfTb (s : State) (n : Nat) : List Nat :=
  (List.range 24).filter fun l => s.tbOfLeg l == some n && s.present (islLeg l)

/-- Is any stage bound to the timebase enabled (R72)? -/
def State.tbUsed (s : State) (n : Nat) : Bool :=
  (List.range 8).any fun k => s.stgEnabled k && s.stgKind k ≠ 0 && s.rd Reg.STG_DESC.TB k == n

/-- The stages that claim a resource: by the owner of its claim. -/
def State.stageOfClaim (s : State) (id : Nat) : Option Nat :=
  let o := s.claimOwner id
  if s.claimState id ≠ 0 ∧ 1 ≤ o ∧ o ≤ 8 then some (o - 1) else none

/-- Is the resource claimed by a stage that is enabled (R31, R64)? -/
def State.claimedByEnabled (s : State) (id : Nat) : Bool :=
  match s.stageOfClaim id with
  | some n => s.stgEnabled n
  | none => false

/-! ## Trigger pulses (R78, R149, R201) -/

/-- Ticks from the edge that raises a pulse to its arrival (R149): 6 over the edge link, 2 to 3 through the synchroniser of the cluster; none
to a loop unit, for whose arrival R201 states no time. -/
def State.pulseTicks (s : State) (r : Route) : Nat :=
  if r.kind = 1 then 6 else if r.kind = 5 then 2 + b2n (Config.syncTick s.now r.src r.dst) else 0

/-- Does a pulse reach its destination: its island present, and for a route of kind 0x01 the edge link alive (R23, R149)? -/
def State.pulseGoes (s : State) (r : Route) : Bool :=
  s.present (if r.kind = 2 then islCED else islAdc (r.dst % 256)) && !(r.kind == 1 && s.links.edge)

/-- A source raises a pulse into every route of the listed kinds that names it with the selector `sel` in bits [1:0]. -/
def State.raisePulse (s : State) (kinds : List Nat) (src sel : Nat) : State :=
  { s with pulses := s.pulses ++
      ((s.routes.filter fun r => kinds.contains r.kind && r.src == src && r.par % 4 == sel && s.pulseGoes r).map fun r =>
        ⟨s.now + s.pulseTicks r, r⟩) }

/-- The arrival tick of the earliest pulse that has reached a target. -/
def State.pulseAt (s : State) (tgt : Route → Bool) : Option Nat :=
  (s.pulses.filter fun p => tgt p.rt && decide (p.tick ≤ s.now)).foldl
    (fun o p => match o with | some t => some (min t p.tick) | none => some p.tick) none

/-- Take from the pulses all those that reached one target in one tick: they count as one trigger (R150, R202). -/
def State.takePulse (s : State) (tgt : Route → Bool) : State :=
  match s.pulseAt tgt with
  | some t => { s with pulses := s.pulses.filter fun p => !(tgt p.rt && p.tick == t) }
  | none => s

/-! ## The Clay capture ring (R133, R407) -/

/-- Write a 16-byte capture record at CAP_WR and advance the ring. -/
def State.capture (s : State) (rec : List Nat) : State :=
  let w := s.rd Reg.CLY_STAT.CAP_WR
  let t := foldEach (fun k (t : State) => t.eccWritten (0x4C001000 + 16 * w + 4 * k) 4) [0, 1, 2, 3] (s.setBytes (0x4C001000 + 16 * w) rec)
  let t := (t.wr Reg.CLY_STAT.CAP_WR 0 ((w + 1) % 64)).bump Reg.CLY_STAT.CAP_CNT 0
  { t with pwr := { t.pwr with capTot := t.pwr.capTot + 1 } }

/-! ## Rail switches (R404) -/

/-- PD of an island becomes 0: its rail switch closes and it leaves D reset once its supplies are good. -/
def State.closeSwitch (s : State) (isl : Nat) : State :=
  if s.on Reg.ISL_CTRL.PD isl then
    { s.wr Reg.ISL_CTRL.PD isl 0 with pwr := { s.pwr with pup := SMap.set none s.pwr.pup isl (some s.now) } }
  else s

/-! ## Outcomes -/

/-- The next state as the outcome of a meaning. -/
def done (s : State) : Host.Outcome State Fault Refusal := .next s

end Sys2Proof.Machine
end

