-- ==== Sys2Proof/Machine/Shape.lean ====
section
/-! DEFINITION. What a timebase and the compares of a leg do at a position of the carrier (R69, R76, R77, R80), the values in force at the
present tick edge (R84), and the reference edge that a leg's active registers foretell (R101). -/

namespace Sys2Proof.Machine

/-! ## Positions -/

def State.tbMode (s : State) (n : Nat) : Nat := s.rd Reg.TB_CTRL.MODE n
def State.tbPer (s : State) (n : Nat) : Nat := s.rd Reg.TB_PER_ACT.PER_ACT n
def State.tbCnt (s : State) (n : Nat) : Nat := s.rd Reg.TB_CNT.CNT n
def State.tbRunning (s : State) (n : Nat) : Bool := s.on Reg.TB_STATUS.RUNNING n

/-- Length of a period in ticks (R69). -/
def periodLen (mode per : Nat) : Nat := if mode = 2 then 2 * per else per + 1

/-- Time from the period start that a counter value and a direction stand for (R69, R73). -/
def timeOf (mode per cnt : Nat) (down : Bool) : Nat :=
  match mode with
  | 1 => per - cnt
  | 2 => if down ∧ 0 < cnt then 2 * per - cnt else cnt
  | _ => cnt

/-- Time from the period start of the present tick. -/
def State.tbTime (s : State) (n : Nat) : Nat := timeOf (s.tbMode n) (s.tbPer n) (s.tbCnt n) (s.on Reg.TB_STATUS.DIR n)

/-- The legal range of PER (R69). -/
def perOk (mode per : Nat) : Bool := (if mode = 2 then 8 else 16) ≤ per && per ≤ 16777215

/-- Times of the ZRO and PRD events (R69). -/
def zroTime (mode per : Nat) : Nat := if mode = 1 then per else 0
def prdTime (mode per : Nat) : Nat := if mode = 1 then 0 else per

/-- Is time `t` a reload point (R80)? RLD_AT applies in up-down mode only. -/
def isReload (mode rld per t : Nat) : Bool :=
  if mode = 2 then
    match rld with
    | 0 => t == 0
    | 1 => t == per
    | _ => t == 0 || t == per
  else t == 0

/-! ## What is in force at the present tick edge (R84) -/

/-- The value of a shadow register that a transfer at the present tick edge takes: a write captured at the transfer edge itself is
not taken (R84). -/
def State.shadowAt (s : State) (f : FD) (i j cur : Nat) : Nat :=
  match s.caps.find? (fun e => e.1 == f.key i j) with
  | some (_, c) => if c.tick = s.now then c.old else cur
  | none => cur

/-- Did the shadow capture a write at the present tick edge? -/
def State.capturedNow (s : State) (f : FD) (i j : Nat) : Bool :=
  match s.caps.find? (fun e => e.1 == f.key i j) with
  | some (_, c) => c.tick == s.now
  | none => false

/-- What the shadow has captured at the present tick edge. -/
def State.capOf (s : State) (f : FD) (i j : Nat) : Cap :=
  let c := SMap.get Cap.init s.caps (f.key i j)
  if c.tick = s.now then c else ⟨s.now, 0, false, false⟩

/-- Record a capture: the value before the first write of this tick edge, and who wrote (R84, R86). -/
def State.noteCap (s : State) (f : FD) (i j old : Nat) (cedar : Bool) : State :=
  let c := s.capOf f i j
  let c := if s.capturedNow f i j then c else { c with old := old }
  { s with caps := SMap.set Cap.init s.caps (f.key i j) { c with bus := c.bus || !cedar, ced := c.ced || cedar } }

/-- Record the present values of fields whose write takes effect at the next tick edge (R84): until then their old values are in force. -/
def State.noteFields (s : State) (fs : List FD) (i : Nat) : State := foldEach (fun f t => t.noteCap f i 0 (t.rd f i) false) fs s

/-- The value of a field in force at the present tick edge: what a write of this edge replaced, else what it holds (R84). -/
def State.inForce (s : State) (f : FD) (i : Nat) : Nat := s.shadowAt f i 0 (s.rd f i)

/-- The active value of a compare that matches at the present tick edge: an immediate write matches from the next edge onward (R85). -/
def State.cmpAct (s : State) (l : Nat) : Cmp → Nat
  | .a => s.inForce Reg.LEG_CMPA_ACT.CMPA_ACT l
  | .b => s.inForce Reg.LEG_CMPB_ACT.CMPB_ACT l

/-! ## Matches and actions (R76, R77) -/

/-- Does compare value `c` match upward or downward at fine position `p` of the period (R76)? -/
def upMatch (mode per c p : Nat) : Bool :=
  match mode with
  | 0 => c < (per + 1) * 128 && p == c
  | 1 => false
  | _ => c ≤ per * 128 && p == c
def downMatch (mode per c p : Nat) : Bool :=
  match mode with
  | 0 => false
  | 1 => 0 < c && c ≤ (per + 1) * 128 && p + c == (per + 1) * 128
  | _ => c ≤ per * 128 && p == (2 * per * 128 - c) % (2 * per * 128)

/-- The winning event at a fine position: 0 ZRO, 1 PRD, 2 CAU, 3 CAD, 4 CBU, 5 CBD (R77). Where both directions of one compare
meet, the direction that begins there wins: up at the period start, down at PRD. -/
def winner (mode per ca cb p : Nat) : Option Nat :=
  let bu := upMatch mode per cb p
  let bd := downMatch mode per cb p
  let au := upMatch mode per ca p
  let ad := downMatch mode per ca p
  if bu && bd then some (if p = 0 then 4 else 5)
  else if bu then some 4
  else if bd then some 5
  else if au && ad then some (if p = 0 then 2 else 3)
  else if au then some 2
  else if ad then some 3
  else if p = prdTime mode per * 128 then some 1
  else if p = zroTime mode per * 128 then some 0
  else none

/-- The action of an event in ACTQ (R77); a write of ACTQ takes effect at the next tick edge (R79). -/
def State.action (s : State) (l ev : Nat) : Nat :=
  match ev with
  | 0 => s.inForce Reg.LEG_ACTQ.ZRO l
  | 1 => s.inForce Reg.LEG_ACTQ.PRD l
  | 2 => s.inForce Reg.LEG_ACTQ.CAU l
  | 3 => s.inForce Reg.LEG_ACTQ.CAD l
  | 4 => s.inForce Reg.LEG_ACTQ.CBU l
  | _ => s.inForce Reg.LEG_ACTQ.CBD l

/-- The level that an action leaves (R77). -/
def act (a : Nat) (lvl : Bool) : Bool :=
  match a with
  | 1 => false
  | 2 => true
  | 3 => !lvl
  | _ => lvl

/-- The winning event at a fine position of a leg's timebase. -/
def State.winnerAt (s : State) (l n p : Nat) : Option Nat :=
  winner (s.tbMode n) (s.tbPer n) (s.cmpAct l .a) (s.cmpAct l .b) p

/-- The fine positions at which a leg has an event. -/
def State.eventPos (s : State) (l n : Nat) : List Nat :=
  let m := s.tbMode n
  let per := s.tbPer n
  let len := periodLen m per * 128
  let cs := [s.cmpAct l .a, s.cmpAct l .b]
  ([zroTime m per * 128, prdTime m per * 128] ++ cs ++ (cs.map fun c => (2 * per * 128 - c) % len)
    ++ (cs.map fun c => (per + 1) * 128 - c)).filter fun p => decide (p < len)

/-- Fine steps from position `p` to the next transfer edge of the timebase (R80, R101). -/
def State.toTransfer (s : State) (n p : Nat) : Nat :=
  let m := s.tbMode n
  let per := s.tbPer n
  let len := periodLen m per * 128
  let dist (q : Nat) : Nat := if p < q then q - p else q + len - p
  let left := (s.tb n).n - s.rd Reg.TB_STATUS.UPD_CNT n
  let k := if left = 0 then 0 else left - 1
  let a := dist 0
  let b := dist (per * 128)
  if m = 2 ∧ s.rd Reg.TB_CTRL.RLD_AT n = 1 then b + k * len
  else if m = 2 ∧ s.rd Reg.TB_CTRL.RLD_AT n = 2 then
    k / 2 * len + (if k % 2 = 0 then min a b else max a b)
  else a + k * len

/-- The earliest offset after position `p` at which the winning action changes level `lvl`, trying the event positions in the order
of a list of offsets that rises. -/
def State.firstChange (s : State) (l n p len : Nat) (lvl : Bool) : List Nat → Option Nat
  | [] => none
  | o :: t =>
    match s.winnerAt l n ((p + o) % len) with
    | some ev => if act (s.action l ev) lvl ≠ lvl then some o else s.firstChange l n p len lvl t
    | none => s.firstChange l n p len lvl t

/-- The time of the reference edge that will end a pulse opened now at fine position `p`, if it comes before the next transfer edge
(R101); unknown while a force stands. -/
def State.closeTime (s : State) (l n p t : Nat) (lvl : Bool) : Option Nat :=
  if s.inForce Reg.LEG_CFG.FORCE l = 1 ∨ s.inForce Reg.LEG_CFG.FORCE l = 2 then none
  else
    let len := periodLen (s.tbMode n) (s.tbPer n) * 128
    let offs := (s.eventPos l n).map fun q => if p < q then q - p else q + len - p
    match s.firstChange l n p len lvl (sortNat offs) with
    | some o => if o < s.toTransfer n p then some (t + o) else none
    | none => none

/-- The reference level under a force (R79). -/
def State.forced (s : State) (l : Nat) (aq : Bool) : Bool :=
  match s.inForce Reg.LEG_CFG.FORCE l with
  | 1 => false
  | 2 => true
  | _ => aq

/-- The time of the reference edge that will end a pulse which opens at the absolute fine time `t`, at reference level `lvl`, where the
active registers tell it (R101): none while the timebase of the leg does not run. -/
def State.closeAfter (s : State) (l t : Nat) (lvl : Bool) : Option Nat :=
  match s.tbOfLeg l with
  | some n =>
    let len := periodLen (s.tbMode n) (s.tbPer n) * 128
    if s.tbRunning n then s.closeTime l n ((s.tbTime n * 128 + t + len * (s.now * 128 / len + 1) - s.now * 128) % len) t lvl else none
  | none => none

end Sys2Proof.Machine
end

