-- ==== Sys2Proof/Machine/Output.lean ====
section
/-! DEFINITION. The output stage of a leg: reference edges, dead time, short pulses and held edges (R95 to R103), and the levels
that reach the gate pads (R112, R113). Times are absolute, in fine steps of 1/128 tick (R6). -/

namespace Sys2Proof.Machine

/-- The absolute time of a fine position of the present tick. -/
def State.fineNow (s : State) (fine : Nat) : Nat := s.now * 128 + fine

def Side.other : Side → Side
  | .hi => .lo
  | .lo => .hi

/-- The OUTMODE by which a leg acts (R95): a new mode awaits its tick edge. -/
def State.outmode (s : State) (l : Nat) : Nat :=
  match (s.leg l).newMode with
  | some (old, _) => old
  | none => s.rd Reg.LEG_PAD_CFG.OUTMODE l

/-- The level of one output of the output stage. -/
def LegS.out (r : LegS) : Side → Bool
  | .hi => r.outH
  | .lo => r.outL

/-- Turn one output on or off at time `t`; an edge is noted for its ladder (R89), a turn-off for R103. -/
def LegS.drive (r : LegS) (sd : Side) (on : Bool) (t : Nat) : LegS :=
  match sd with
  | .hi => if r.outH = on then r else { r with outH := on, edgeH := t, offH := if on then r.offH else t }
  | .lo => if r.outL = on then r else { r with outL := on, edgeL := t, offL := if on then r.offL else t }

/-- The ladder of an output (R87). -/
def Side.ladder : Side → Nat
  | .hi => 0
  | .lo => 1

/-- The time, in fine steps, at which the ladder of an output has placed its last edge: its fine code counts as 0 until the ladder has
locked (R87, R90). -/
def State.placedEdge (s : State) (l : Nat) (sd : Side) : Nat :=
  let e := match sd with | .hi => (s.leg l).edgeH | .lo => (s.leg l).edgeL
  if s.on Reg.LEG_LAD.LOCK l sd.ladder then e else e / 128 * 128

/-- The command of an output stage as its ladder hands it on at fine position `fine` of the present tick (R87, R90). -/
def State.stageOut (s : State) (l : Nat) (sd : Side) (fine : Nat) : Bool :=
  if s.fineNow fine < s.placedEdge l sd then !(s.leg l).out sd else (s.leg l).out sd

/-- Does the override multiplexer leave the pad to the output stage? A leg that no stage names is held off (R68). -/
def State.padFree (s : State) (l : Nat) : Bool := !(s.pad l).ov && (s.stageOfLeg l).isSome

/-- The command of a gate output under the hold of the stage's field channel, where that holds it: off, but for GL in a probe or brake pulse.
The hold acts from the tick edge after the event that began it (R218). -/
def State.heldGate (s : State) (l : Nat) (sd : Side) : Option Bool :=
  (s.stageOfLeg l).bind fun n =>
    let r := s.fc n
    if r.hold ∧ r.holdAt < s.now then some (sd == .lo && r.pulse) else none

/-- Is the gate output commanded on at its pad at a fine position of the present tick, by default at its end (R112, R126)? -/
def State.gateOn (s : State) (l : Nat) (sd : Side) (fine : Nat := 127) : Bool :=
  if s.padFree l then
    (match s.heldGate l sd with | some on => on | none => s.stageOut l sd fine)
  else (match sd with | .hi => (s.pad l).ovH | .lo => (s.pad l).ovL)

/-- The level of a gate land (R112, R113): the fail-safe level of its polarity latch while SAF.A is not good, and while the
output is held off with no image applied since VGIO rose. The level is that at a fine position of the present tick, by default at its
end. -/
def State.landLevel (s : State) (l : Nat) (sd : Side) (fine : Nat := 127) : PadLevel :=
  let pol := match sd with | .hi => (s.pad l).polH | .lo => (s.pad l).polL
  if !s.vgio then .pulled
  else
    match pol with
    | none => .pulled
    | some inv =>
      if !SMap.get false s.rails 7 then (if inv then .high else .low)
      else if s.gateOn l sd fine = inv then .low else .high

/-! ## Dead time and minimum pulse -/

/-- ISIGN as it acts: a write takes effect at the next tick edge (R116), and 3 acts as 0 (R107). -/
def State.isign (s : State) (l : Nat) : Nat :=
  let v := s.inForce Reg.LEG_ISIGN.ISIGN l
  if v = 3 then 0 else v

/-- The polarity in force (R107): 0 near zero, 1 positive, 2 negative. -/
def State.polarity (s : State) (l : Nat) : Nat := if s.on Reg.LEG_OUT_CFG.POL_SRC l then s.isign l else (s.leg l).cls

/-- Show the polarity in force in LEG_DT_STATUS.POL. -/
def State.showPol (s : State) (l : Nat) : State := s.wr Reg.LEG_DT_STATUS.POL l (s.polarity l)

/-- The trim that the adaptive loop supplies to an edge (R108); a trim that a boundary changes applies from the tick after it (R109). -/
def State.trimOf (s : State) (l : Nat) (sd : Side) : Int :=
  match sd with
  | .lo => if s.polarity l = 1 then sgn 16 (s.inForce Reg.LEG_ADT_TRIM.TRIM_FALL l) else 0
  | .hi => if s.polarity l = 2 then sgn 16 (s.inForce Reg.LEG_ADT_TRIM.TRIM_RISE l) else 0

/-- The dead time before the floor (R98). -/
def State.dtRaw (s : State) (l : Nat) (sd : Side) : Int :=
  min ((match sd with | .hi => (s.leg l).dtr | .lo => (s.leg l).dtf : Nat) + s.trimOf l sd) 512000

/-- The effective dead time of the edge that turns an output on (R98). -/
def State.dtEff (s : State) (l : Nat) (sd : Side) : Nat :=
  (max (s.rd Reg.LEG_FLOOR.DT_FLOOR l : Int) (s.dtRaw l sd)).toNat

/-- Fix the effective dead time at the opening edge: it shows in LEG_DT_EFF_R or LEG_DT_EFF_F, and DT_CLAMP where the floor raised
it (R98). -/
def State.fixDt (s : State) (l : Nat) (sd : Side) : State :=
  ((match sd with
    | .hi => s.wr Reg.LEG_DT_EFF_R.DT_R l (s.dtEff l sd)
    | .lo => s.wr Reg.LEG_DT_EFF_F.DT_F l (s.dtEff l sd))).onlyIf
      (decide (s.dtRaw l sd < (s.rd Reg.LEG_FLOOR.DT_FLOOR l : Int))) (·.flag Reg.LEG_DT_STATUS.DT_CLAMP l)

/-- MINP_EFF (R100). -/
def State.minpEff (s : State) (l : Nat) : Nat := max (s.leg l).minp 128

/-- A pulse decided below MINP_EFF that was removed, cancelled or held (R102). -/
def State.minpAct (s : State) (l : Nat) : State :=
  (s.flag Reg.LEG_DT_STATUS.MINP_ACT l).bump Reg.LEG_DT_CNT.MINP_CNT l

/-- Apply what is due up to time `t`: a pending turn-on takes place at its due time. -/
def LegS.turnOn (r : LegS) (t : Nat) : LegS :=
  match r.pend with
  | some p => if p.due ≤ t then { r.drive p.side true p.due with pend := none } else r
  | none => r

/-- When an output that is to turn on at `d` may do so: one tick after its turn-off at the earliest (R103). -/
def LegS.onTime (r : LegS) (sd : Side) (d : Nat) : Nat :=
  let off := match sd with | .hi => r.offH | .lo => r.offL
  if off = 0 then d else max d (off + 128)

/-- Open the pulse of an output at time `t`: its dead time runs (none in OUTMODE 1 and 2), and its turn-on is delayed to one tick
after its last turn-off (R96, R100, R103). -/
def State.openPulse (s : State) (l : Nat) (sd : Side) (t : Nat) : State :=
  let s := if s.outmode l = 0 then s.fixDt l sd else s
  let d := t + (if s.outmode l = 0 then s.dtEff l sd else 0)
  let r := s.leg l
  let on := r.onTime sd d
  let r := { r with pulse := some ⟨sd, on, s.rd Reg.LEG_OUT_CFG.MINP_MODE l, s.minpEff l⟩, pend := some ⟨sd, on⟩ }
  let r := if on ≤ t then r.turnOn t else r
  (s.setLeg l r).onlyIf (decide (d < on)) (·.flag Reg.LEG_DT_STATUS.MINP_ACT l)

/-- A commutation opens a window: from the turn-off of the outgoing output to SWN_WIN ticks after the incoming turn-on (R106). -/
def State.openWindow (s : State) (l : Nat) (sd : Side) (t : Nat) : State :=
  let r := s.leg l
  match r.pulse with
  | some p => if s.outmode l = 0 then s.setLeg l { r with win := r.win ++ [⟨t, p.onT, sd == .hi, false⟩] } else s
  | none => s

/-- Is the pulse of an output that would open at time `t` a reference pulse that DROP removes: within one period and shorter than
MINP_EFF (R101, R102)? -/
def State.dropped (s : State) (l : Nat) (sd : Side) (t : Nat) : Bool :=
  s.rd Reg.LEG_OUT_CFG.MINP_MODE l == 1 && match s.closeAfter l t (s.on Reg.LEG_STATUS.REF l) with
    | some c => decide (c < (s.leg l).onTime sd (t + (if s.outmode l = 0 then s.dtEff l sd else 0)) + s.minpEff l)
    | none => false

/-- A reference pulse is removed: neither of its edges occurs, and the output that is on stays on (R102). -/
def State.dropPulse (s : State) (l : Nat) : State := (s.setLeg l { s.leg l with dropping := true, held := none }).minpAct l

/-- A closing edge executes at time `t`: the output turns off, and in OUTMODE 0 the pulse of the other output opens (R96), where DROP does
not remove that pulse and with it this edge (R102). -/
def State.closeEdge (s : State) (l : Nat) (sd : Side) (t : Nat) : State :=
  if s.outmode l = 0 ∧ s.dropped l sd.other t then s.dropPulse l
  else
    let r := (s.leg l).drive sd false t
    let s := s.setLeg l { r with pulse := none, pend := none, held := none }
    if s.outmode l = 0 then (s.openPulse l sd.other t).openWindow l sd.other t else s

/-- A closing edge for an output that never turned on: the pending turn-on is cancelled and the other output turns on again after
its dead time from the closing edge (R99, R102). -/
def State.cancelPulse (s : State) (l : Nat) (sd : Side) (t : Nat) : State :=
  let r := (s.leg l).drive sd false t
  let s := s.setLeg l { r with pulse := none, pend := none, win := r.win.dropLast }
  if s.outmode l = 0 then s.openPulse l sd.other t else s

/-- The decision of R102 on the pulse that a closing reference edge at time `t` ends. The row that removes a pulse within one period
is decided at its opening edge, where the edge that would open it executes. DESIGN CHOICE: a pulse that ends shortened, and whose ending
edge DROP removes with the next pulse, stays on and is not counted as shortened. -/
def State.endPulse (s : State) (l : Nat) (p : OutPulse) (t : Nat) : State :=
  let r := s.leg l
  if p.onT + p.minp ≤ t then s.closeEdge l p.side t
  else if p.mode = 2 then (s.setLeg l { r with held := some (p.onT + p.minp) }).minpAct l
  else if t ≤ p.onT then (s.cancelPulse l p.side t).minpAct l
  else if p.mode = 1 then (s.setLeg l { r with held := some (p.onT + p.minp) }).minpAct l
  else if t < p.onT + 128 then (s.setLeg l { r with held := some (p.onT + 128) }).minpAct l
  else
    let u := s.closeEdge l p.side t
    u.onlyIf (!(u.leg l).dropping) (·.bump Reg.LEG_DT_CNT.MINP_CNT l)

/-- The output whose pulse a reference level commands (R95): none where the mode holds it off. -/
def pulseSide (mode : Nat) (lvl : Bool) : Option Side :=
  match mode with
  | 0 => some (if lvl then .hi else .lo)
  | 1 => if lvl then some .hi else none
  | 2 => if lvl then some .lo else none
  | _ => none

/-- Bring the output stage up to time `t`: turn-ons and held edges that fell due before it have happened. -/
def State.settle (s : State) (l t : Nat) : State :=
  let s := s.setLeg l ((s.leg l).turnOn (t - 1))
  let r := s.leg l
  match r.held, r.pulse with
  | some h, some p => if h < t then s.closeEdge l p.side h else s
  | _, _ => s

/-- A reference edge to level `lvl` at time `t` (R96, R99 to R103): it meets a removed pulse, a held edge, or an open pulse, which it
ends; else it opens a pulse. -/
def State.refEdge (s : State) (l : Nat) (lvl : Bool) (t : Nat) : State :=
  let s := s.settle l t
  let r := s.leg l
  if s.outmode l = 3 then s
  else if r.dropping then s.setLeg l { r with dropping := false }
  else if r.held.isSome then (s.setLeg l { r with held := none }).flag Reg.LEG_DT_STATUS.MERGE l
  else
    match r.pulse with
    | some p => s.endPulse l p t
    | none => match pulseSide (s.outmode l) lvl with
      | some sd => if s.dropped l sd t then s.dropPulse l else s.openPulse l sd t
      | none => s

/-- Start the output stage afresh at time `t`, both outputs off: the output that the reference level commands on turns on after its
dead time from this edge, decided as a split pulse (R95, R128). -/
def State.restartLeg (s : State) (l t : Nat) : State :=
  let r := ((s.leg l).drive .hi false t).drive .lo false t
  let s := s.setLeg l { r with pend := none, held := none, pulse := none, dropping := false, win := [] }
  match pulseSide (s.outmode l) (s.on Reg.LEG_STATUS.REF l) with
  | some sd => s.openPulse l sd t
  | none => s

/-- A trip cancels pending turn-ons and discards held closing edges (R128, R132); the output stage then awaits the next reference
edge behind the latches. -/
def State.cancelStage (s : State) (l : Nat) : State :=
  let r := s.leg l
  if r.pend.isSome || r.held.isSome then
    let r := (r.drive .hi false (s.fineNow 0)).drive .lo false (s.fineNow 0)
    s.setLeg l { r with pend := none, held := none, dropping := false, pulse := none }
  else s

end Sys2Proof.Machine
end

