-- ==== Sys2Proof/Machine/Carrier.lean ====
section
/-! DEFINITION. Timebases and compares: the counter (R69), its loads (R70, R73), shadow registers and transfers (R80 to R86), the
events that change a leg's reference (R77, R79). -/

namespace Sys2Proof.Machine

/-- Put a counter value and the direction it stands for (R69): the down direction begins at PRD, the up direction at ZRO. -/
def State.loadCnt (s : State) (n cnt : Nat) (down : Bool) : State :=
  let per := s.tbPer n
  let dir : Bool := match s.tbMode n with
    | 1 => true
    | 2 => if cnt = per then true else if cnt = 0 then false else down
    | _ => false
  (s.wr Reg.TB_CNT.CNT n cnt).wr Reg.TB_STATUS.DIR n (b2n dir)

/-- One tick of a running counter (R69). -/
def State.advance (s : State) (n : Nat) : State :=
  let per := s.tbPer n
  let c := s.tbCnt n
  if !s.tbRunning n then s
  else match s.tbMode n with
    | 1 => s.loadCnt n (if c = 0 then per else c - 1) true
    | 2 => if s.on Reg.TB_STATUS.DIR n ∧ 0 < c then s.loadCnt n (c - 1) true
           else s.loadCnt n (min (c + 1) per) false
    | _ => s.loadCnt n (if per ≤ c then 0 else c + 1) false

/-! ## Shadow registers (R80 to R86) -/

/-- A write to a leg's shadow group at this tick edge: a bus write loses to a Cedar write of the same edge (R86), a write at a
transfer edge sets XFER_COINC (R84). `old` is the shadow before, `put` writes it. -/
def State.shadowWrite (s : State) (l : Nat) (f : FD) (j old : Nat) (cedar : Bool) (put : State → State) : State :=
  let c := s.capOf f l j
  let s := if (c.ced && !cedar) || (c.bus && cedar) then s.flag Reg.LEG_STATUS.SHD_COLL l else s
  if c.ced && !cedar then s
  else
    let s := put (s.noteCap f l j old cedar)
    match s.tbOfLeg l with
    | some n => s.onlyIf ((s.tb n).xferAt == some s.now) (·.flag Reg.LEG_STATUS.XFER_COINC l)
    | none => s

/-- The raw value of CMPA or CMPB as the shadow holds it (R75). -/
def State.cmpRaw (s : State) (l : Nat) : Cmp → Nat
  | .a => s.rd Reg.LEG_CMPA.TICK l * 128 + s.rd Reg.LEG_CMPA.FINE l
  | .b => s.rd Reg.LEG_CMPB.TICK l * 128 + s.rd Reg.LEG_CMPB.FINE l

def State.setCmpAct (s : State) (l : Nat) (c : Cmp) (v : Nat) : State :=
  match c with
  | .a => s.wr Reg.LEG_CMPA_ACT.CMPA_ACT l v
  | .b => s.wr Reg.LEG_CMPB_ACT.CMPB_ACT l v

/-- DTR, DTF and MINP as their shadows hold them, in fine steps (R97). -/
def State.dtrRaw (s : State) (l : Nat) : Nat := s.rd Reg.LEG_DTR.TICK l * 128 + s.rd Reg.LEG_DTR.FINE l
def State.dtfRaw (s : State) (l : Nat) : Nat := s.rd Reg.LEG_DTF.TICK l * 128 + s.rd Reg.LEG_DTF.FINE l
def State.minpRaw (s : State) (l : Nat) : Nat := s.rd Reg.LEG_MINP.TICK l * 128 + s.rd Reg.LEG_MINP.FINE l

/-- TICK and DIR of a trigger compare as one number. -/
def State.trgRaw (s : State) (l k : Nat) : Nat := s.rd Reg.LEG_TRG.TICK l k + s.rd Reg.LEG_TRG.DIR l k * 2 ^ 25

/-- Is the compare in immediate operation (R85)? -/
def State.immediate (s : State) (l : Nat) : Cmp → Bool
  | .a => !s.on Reg.LEG_CFG.SHD_A l
  | .b => !s.on Reg.LEG_CFG.SHD_B l

/-- Fine position from the period start of the match of compare value `c` in the present count direction (R76). -/
def matchPos (mode per c : Nat) (down : Bool) : Option Nat :=
  match mode with
  | 0 => if c < (per + 1) * 128 then some c else none
  | 1 => if 0 < c ∧ c ≤ (per + 1) * 128 then some ((per + 1) * 128 - c) else none
  | _ => if per * 128 < c then none else if down then some (2 * per * 128 - c) else some c

/-- Time from the period start at which a trigger compare with TICK and DIR matches in the present count direction (R78). -/
def trgPos (mode per tick dir : Nat) (down : Bool) : Option Nat :=
  let up := dir % 2 == 1
  let dn := dir / 2 == 1
  match mode with
  | 0 => if up ∧ tick ≤ per then some tick else none
  | 1 => if dn ∧ tick ≤ per then some (per - tick) else none
  | _ =>
    let both := (tick == 0 || tick == per) && dir != 0
    if per < tick then none
    else if down then (if dn || both then some (2 * per - tick) else none)
    else if up || both then some tick else none

/-- Has the carrier passed a time from the period start at which a value written now could match (R85)? -/
def State.lateAt (s : State) (n : Nat) (p : Option Nat) : Bool :=
  match p with
  | some q => s.tbRunning n && q ≤ s.tbTime n
  | none => false

/-- An immediate value becomes active: it matches from the next tick edge onward, and IMM_LATE is set where the carrier has passed its match
in the present count direction (R85, R86). -/
def State.immCmp (s : State) (l : Nat) (c : Cmp) (v : Nat) : State :=
  let s := s.noteFields (match c with | .a => [Reg.LEG_CMPA_ACT.CMPA_ACT] | .b => [Reg.LEG_CMPB_ACT.CMPB_ACT]) l
  let s := s.setCmpAct l c v
  match s.tbOfLeg l with
  | some n => s.onlyIf (s.lateAt n ((matchPos (s.tbMode n) (s.tbPer n) v (s.on Reg.TB_STATUS.DIR n)).map (· / 128)))
      (·.flag Reg.LEG_STATUS.IMM_LATE l)
  | none => s

/-- A write of CMPA or CMPB by the bus or by Cedar (R84 to R86). -/
def State.writeCmp (s : State) (l : Nat) (c : Cmp) (v : Nat) (cedar : Bool) : State :=
  match c with
  | .a => s.shadowWrite l Reg.LEG_CMPA.TICK 0 (s.cmpRaw l .a) cedar fun s =>
      let s := (s.wr Reg.LEG_CMPA.TICK l (v / 128)).wr Reg.LEG_CMPA.FINE l (v % 128)
      if s.immediate l .a then s.immCmp l .a v else s.flag Reg.LEG_STATUS.PEND_A l
  | .b => s.shadowWrite l Reg.LEG_CMPB.TICK 0 (s.cmpRaw l .b) cedar fun s =>
      let s := (s.wr Reg.LEG_CMPB.TICK l (v / 128)).wr Reg.LEG_CMPB.FINE l (v % 128)
      if s.immediate l .b then s.immCmp l .b v else s.flag Reg.LEG_STATUS.PEND_B l

/-- The active TICK and DIR of a trigger compare that match at the present tick edge: an immediate write matches from the next edge onward
(R85). -/
def State.trgAct (s : State) (l k : Nat) : Nat × Nat :=
  match (s.leg l).trgWas.getD k none with
  | some (t, old) => if t = s.now then old else (s.leg l).trg.getD k (0, 0)
  | none => (s.leg l).trg.getD k (0, 0)

def State.setTrgAct (s : State) (l k tick dir : Nat) : State :=
  s.setLeg l { s.leg l with trg := (s.leg l).trg.set k (tick, dir), trgWas := (s.leg l).trgWas.set k none }

/-- An immediate write of a trigger compare. -/
def State.immTrg (s : State) (l k tick dir : Nat) : State :=
  let old := s.trgAct l k
  let s := s.setTrgAct l k tick dir
  let s := s.setLeg l { s.leg l with trgWas := (s.leg l).trgWas.set k (some (s.now, old)) }
  match s.tbOfLeg l with
  | some n => s.onlyIf (s.lateAt n (trgPos (s.tbMode n) (s.tbPer n) tick dir (s.on Reg.TB_STATUS.DIR n))) (·.flag Reg.LEG_STATUS.IMM_LATE l)
  | none => s

/-- A write of a trigger compare (R78, R85); EN is not shadowed. -/
def State.writeTrg (s : State) (l k tick dir : Nat) (cedar : Bool) : State :=
  s.shadowWrite l Reg.LEG_TRG.TICK k (s.trgRaw l k) cedar fun s =>
    let s := (s.wr2 Reg.LEG_TRG.TICK l k tick).wr2 Reg.LEG_TRG.DIR l k dir
    if s.on Reg.LEG_CFG.SHD_TRG l then s.flag Reg.LEG_STATUS.PEND_TRG l
    else s.immTrg l k tick dir

/-- Writes of DTR, DTF and MINP: always shadowed (R97). -/
def State.writeDtr (s : State) (l v : Nat) : State :=
  s.shadowWrite l Reg.LEG_DTR.TICK 0 (s.dtrRaw l) false fun s =>
    (s.wr Reg.LEG_DTR.TICK l (v / 128)).wr Reg.LEG_DTR.FINE l (v % 128)
def State.writeDtf (s : State) (l v : Nat) : State :=
  s.shadowWrite l Reg.LEG_DTF.TICK 0 (s.dtfRaw l) false fun s =>
    (s.wr Reg.LEG_DTF.TICK l (v / 128)).wr Reg.LEG_DTF.FINE l (v % 128)
def State.writeMinp (s : State) (l v : Nat) : State :=
  s.shadowWrite l Reg.LEG_MINP.TICK 0 (s.minpRaw l) false fun s =>
    (s.wr Reg.LEG_MINP.TICK l (v / 128)).wr Reg.LEG_MINP.FINE l (v % 128)

/-- A write of the period shadow. DESIGN CHOICE (R84): XFER_COINC is a leg's flag and the rule names no leg for PER, so a PER write captured at
a transfer edge sets none. -/
def State.writePer (s : State) (n v : Nat) : State :=
  (s.noteCap Reg.TB_PER.PER n 0 (s.rd Reg.TB_PER.PER n) false).wr Reg.TB_PER.PER n v

/-- A leg has switched from shadowed to immediate operation with a value pending: the value becomes active at the next edge (R86). It
matches there, so nothing is noted for the edge before. -/
def State.goImmediate (s : State) (l : Nat) : State :=
  let s := s.onlyIf (s.immediate l .a && s.on Reg.LEG_STATUS.PEND_A l)
    fun t => (t.setCmpAct l .a (t.cmpRaw l .a)).wr Reg.LEG_STATUS.PEND_A l 0
  let s := s.onlyIf (s.immediate l .b && s.on Reg.LEG_STATUS.PEND_B l)
    fun t => (t.setCmpAct l .b (t.cmpRaw l .b)).wr Reg.LEG_STATUS.PEND_B l 0
  s.onlyIf (!s.on Reg.LEG_CFG.SHD_TRG l && s.on Reg.LEG_STATUS.PEND_TRG l) fun t =>
    (foldEach (fun k u => u.setTrgAct l k (u.rd Reg.LEG_TRG.TICK l k) (u.rd Reg.LEG_TRG.DIR l k)) [0, 1, 2, 3] t).wr
      Reg.LEG_STATUS.PEND_TRG l 0

/-! ## Transfers -/

/-- The transfer of one compare of a leg; a write captured at this edge stays pending (R84). -/
def State.xferCmp (s : State) (l : Nat) (c : Cmp) (tickF pend : FD) : State :=
  if s.immediate l c then s
  else
    let late := s.capturedNow tickF l 0
    let s := s.setCmpAct l c (s.shadowAt tickF l 0 (s.cmpRaw l c))
    if late then s.flag Reg.LEG_STATUS.XFER_COINC l else s.wr pend l 0

/-- The transfer of the trigger compares of a leg. -/
def State.xferTrg (s : State) (l : Nat) : State :=
  if !s.on Reg.LEG_CFG.SHD_TRG l then s
  else
    let late := [0, 1, 2, 3].any fun k => s.capturedNow Reg.LEG_TRG.TICK l k
    let s := foldEach (fun k t =>
      let v := t.shadowAt Reg.LEG_TRG.TICK l k (t.trgRaw l k)
      t.setTrgAct l k (v % 2 ^ 25) (v / 2 ^ 25)) [0, 1, 2, 3] s
    if late then s.flag Reg.LEG_STATUS.XFER_COINC l else s.wr Reg.LEG_STATUS.PEND_TRG l 0

/-- The transfer of DTR, DTF and MINP: a value out of range is not taken and sets DT_ERR (R97). -/
def State.xferDt (s : State) (l : Nat) : State :=
  let a := s.shadowAt Reg.LEG_DTR.TICK l 0 (s.dtrRaw l)
  let b := s.shadowAt Reg.LEG_DTF.TICK l 0 (s.dtfRaw l)
  let m := s.shadowAt Reg.LEG_MINP.TICK l 0 (s.minpRaw l)
  let late := s.capturedNow Reg.LEG_DTR.TICK l 0 || s.capturedNow Reg.LEG_DTF.TICK l 0 || s.capturedNow Reg.LEG_MINP.TICK l 0
  let r := s.leg l
  let s := s.setLeg l { r with
    dtr := if a ≤ 512000 then a else r.dtr
    dtf := if b ≤ 512000 then b else r.dtf
    minp := if m ≤ 128000 then m else r.minp }
  let s := s.onlyIf (decide (512000 < a) || decide (512000 < b) || decide (128000 < m)) (·.flag Reg.LEG_DT_STATUS.DT_ERR l)
  s.onlyIf late (·.flag Reg.LEG_STATUS.XFER_COINC l)

/-- The transfer of every shadow of a leg at one tick edge. -/
def State.xferLeg (s : State) (l : Nat) : State :=
  (((s.xferCmp l .a Reg.LEG_CMPA.TICK Reg.LEG_STATUS.PEND_A).xferCmp l .b Reg.LEG_CMPB.TICK Reg.LEG_STATUS.PEND_B).xferTrg l).xferDt l

/-- Take a period value: out of range it is not taken and PER_ERR is set (R83). In down mode the counter enters the new period. -/
def State.takePer (s : State) (n v : Nat) : State :=
  if perOk (s.tbMode n) v then
    let s := s.wr Reg.TB_PER_ACT.PER_ACT n v
    if s.tbMode n = 1 then s.loadCnt n v true else s
  else s.flag Reg.TB_STATUS.PER_ERR n

/-- A transfer at the present tick edge (R80 to R84): every leg of the timebase; PER at a period boundary, or held for the next
one; UPD_EVERY latched if in range. -/
def State.transfer (s : State) (n : Nat) : State :=
  let v := s.shadowAt Reg.TB_PER.PER n 0 (s.rd Reg.TB_PER.PER n)
  let s := if s.tbTime n = 0 then s.takePer n v else s.setTb n { s.tb n with perPend := some v }
  let s := foldEach (fun l t => t.xferLeg l) (s.legsOfTb n) s
  let u := s.rd Reg.TB_CTRL.UPD_EVERY n
  let ok : Bool := 1 ≤ u && u ≤ 16
  let s := s.setTb n { s.tb n with n := if ok then u else (s.tb n).n, xferAt := some s.now }
  s.onlyIf (!ok) (·.flag Reg.TB_STATUS.CNT_ERR n)

/-- A transfer waits at the present reload point: it is not yet counted and the count reaches the latched UPD_EVERY (R80). -/
def State.xferDue (s : State) (n : Nat) : Bool :=
  s.tbRunning n && isReload (s.tbMode n) (s.rd Reg.TB_CTRL.RLD_AT n) (s.tbPer n) (s.tbTime n)
    && (s.tb n).rldAt ≠ some s.now && (s.tb n).n ≤ s.rd Reg.TB_STATUS.UPD_CNT n + 1

/-- What the tick edge of a counter position does before the events of that position: a period held since PRD is taken at the
boundary (R83), a reload point is counted once and transfers when it is due, or is skipped under UPD_HOLD (R80, R82). -/
def State.edgeWork (s : State) (n : Nat) : State :=
  if !s.tbRunning n then s
  else
    let s := if s.tbTime n = 0 then
        match (s.tb n).perPend with
        | some v => (s.setTb n { s.tb n with perPend := none }).takePer n v
        | none => s
      else s
    let reload := isReload (s.tbMode n) (s.rd Reg.TB_CTRL.RLD_AT n) (s.tbPer n) (s.tbTime n)
    if !reload || (s.tb n).rldAt == some s.now then s
    else
      let due := s.xferDue n
      let s := s.setTb n { s.tb n with rldAt := some s.now }
      if due then
        let s := s.wr Reg.TB_STATUS.UPD_CNT n 0
        if s.on Reg.TB_CTRL.UPD_HOLD n then s.flag Reg.TB_STATUS.HOLD_SKIP n else s.transfer n
      else s.wr Reg.TB_STATUS.UPD_CNT n (s.rd Reg.TB_STATUS.UPD_CNT n + 1)

/-! ## The reference of a leg (R77, R79) -/

/-- Show the reference level that follows from the action qualifier and the force; a change is a reference edge at fine position
`fine` of the present tick (R77, R79, R96). -/
def State.followRef (s : State) (l fine : Nat) : State :=
  let lvl := s.forced l (s.leg l).aq
  if lvl = s.on Reg.LEG_STATUS.REF l then s
  else
    (s.wr Reg.LEG_STATUS.REF l (b2n lvl)).refEdge l lvl (s.fineNow fine)

/-- An event of the action qualifier takes its action if it wins its fine position (R77). DESIGN CHOICE (R76): in up-down mode with C = 0 the
down match falls on the next period start, and where a transfer falls there too, it is the active value after the transfer that decides
it. -/
def State.takeEvent (s : State) (l n fine : Nat) (mine : Nat → Bool) : State :=
  match s.winnerAt l n (s.tbTime n * 128 + fine) with
  | some ev =>
    if mine ev then
      let s := s.setLeg l { s.leg l with aq := act (s.action l ev) (s.leg l).aq }
      s.followRef l fine
    else s
  | none => s

/-! ## Starts, stops and loads -/

/-- A start is commanded: RUN = 1, and the timebase starts at the next tick edge (R70); with RUN = 1 it has no effect (R74). -/
def State.tbStart (s : State) (n : Nat) : State := s.wr Reg.TB_CTRL.RUN n 1

/-- A timebase whose RUN was written 1 starts at this tick edge, or refuses (R70, R74): the edge is a transfer of PER and of its legs. -/
def State.startTb (s : State) (n : Nat) : State :=
  let u := s.rd Reg.TB_CTRL.UPD_EVERY n
  let v := s.rd Reg.TB_PER.PER n
  if !perOk (s.tbMode n) v then (s.wr Reg.TB_CTRL.RUN n 0).flag Reg.TB_STATUS.PER_ERR n
  else if u = 0 ∨ 16 < u then (s.wr Reg.TB_CTRL.RUN n 0).flag Reg.TB_STATUS.CNT_ERR n
  else
    let s := (s.wr Reg.TB_STATUS.RUNNING n 1).wr Reg.TB_PER_ACT.PER_ACT n v
    let s := foldEach (fun l t => t.xferLeg l) (s.legsOfTb n) s
    let phs := min (s.rd Reg.TB_PHS.PHS n) v
    let s := (s.loadCnt n phs (s.on Reg.TB_PHS.PHS_DIR n)).wr Reg.TB_STATUS.UPD_CNT n 0
    let s := s.setTb n { TbS.init with n := u, rldAt := some s.now, xferAt := some s.now, hist := (s.tb n).hist }
    foldEach (fun l t =>
      let t := t.setLeg l { t.leg l with aq := t.on Reg.LEG_CFG.REF_INIT l }
      if (t.leg l).pulse.isNone && t.forced l (t.leg l).aq == t.on Reg.LEG_STATUS.REF l then t.restartLeg l (t.fineNow 0)
      else t.followRef l 0) (s.legsOfTb n) s

/-- A stop is commanded: RUN = 0, and the counter stops at the next tick edge; it is refused while an enabled stage uses the timebase
(R72). -/
def State.stopTb (s : State) (n : Nat) : State :=
  if !s.on Reg.TB_CTRL.RUN n then s
  else if s.tbUsed n then s.flag Reg.TB_STATUS.RUN_DENIED n
  else s.wr Reg.TB_CTRL.RUN n 0

/-- One tick edge of a timebase: it counts on, stops where RUN was written 0 (R72), starts where RUN was written 1 (R70); the value that it
held is remembered for R104. -/
def State.tbEdge (s : State) (n : Nat) : State :=
  let r := s.tb n
  let s := s.setTb n { r with hist := s.tbCnt n :: r.hist.take 254 }
  if s.tbRunning n then
    (if s.on Reg.TB_CTRL.RUN n then s.advance n else s.wr Reg.TB_STATUS.RUNNING n 0)
  else s

/-- One tick edge of a leg: pending values of a leg that switched to immediate operation become active (R86), a force, its release and
an ISIGN that were written act (R79, R116). -/
def State.legEdge (s : State) (l : Nat) : State := ((s.goImmediate l).followRef l 0).showPol l

/-- A sync event for a timebase whose SYNC_SRC is `src` (R73); it is ignored while RUN = 0. -/
def State.syncEvent (s : State) (n src : Nat) : State :=
  if s.on Reg.TB_CTRL.RUN n ∧ s.rd Reg.TB_CTRL.SYNC_SRC n = src then s.setTb n { s.tb n with syncAt := some s.now } else s

/-- Is a time passed over by a jump from `a` forward to `b` - 1, modulo the period (R73)? -/
def passed (len a b t : Nat) : Bool := (t + len - a) % len < (b + len - a) % len

/-- The load of a sync event (R73, R74): PHS, or PER where PHS lies above it. A forward jump that passes over ZRO or PRD sets
SYNC_JUMP. A reload point at the loaded position counts. -/
def State.loadSync (s : State) (n : Nat) : State :=
  let m := s.tbMode n
  let per := s.tbPer n
  let len := periodLen m per
  let phs := min (s.rd Reg.TB_PHS.PHS n) per
  let tN := s.tbTime n
  let s := s.loadCnt n phs (s.on Reg.TB_PHS.PHS_DIR n)
  let tL := s.tbTime n
  let d := (tL + len - tN) % len
  let fwd : Bool := 1 ≤ d && d ≤ len / 2
  let jump := fwd && (passed len tN tL (zroTime m per) || passed len tN tL (prdTime m per))
  let s := s.setTb n { s.tb n with
    syncAt := none, zroAt := none, prdAt := none, rldAt := if d = 0 then (s.tb n).rldAt else none }
  s.onlyIf jump (·.flag Reg.TB_STATUS.SYNC_JUMP n)

end Sys2Proof.Machine
end

