-- ==== Sys2Proof/Machine/Hold.lean ====
section
/-! DEFINITION. What a trip or a disable of a stage does to its field channel (R217, R218, R231) and to its loop programs (R210). -/

namespace Sys2Proof.Machine

/-- A channel's outputs are held off from the next tick edge on, where they are not held already (R218). -/
def State.fcHoldOff (s : State) (n : Nat) : State :=
  s.onlyIf (!(s.fc n).hold) fun t => t.setFc n { t.fc n with hold := true, holdAt := t.now }

/-- References of a channel leave for the set-points, where it writes any: REF_EN = 1 and a state other than OFF (R226). -/
def State.sendRefs (s : State) (n : Nat) (d q : Int) : State :=
  if s.on Reg.FC_CFG.REF_EN n && s.rd Reg.FC_STAT.STATE n != 0 && decide (s.rd Reg.STG_DESC.LU n < 8) then
    s.setFc n { s.fc n with refs := (s.fc n).refs ++ [(s.now, d, q)] }
  else s

/-- A field channel enters HOLD: its outputs are held off, a pulse in progress ends, its references are 0 (R217, R218, R226, R240). -/
def State.fcEnterHold (s : State) (n : Nat) : State :=
  let s := (s.setFc n { s.fc n with pulse := false, pulseAt := none, brake := false, r := 0 }).fcHoldOff n
  (s.wr Reg.FC_STAT.STATE n 1).sendRefs n 0 0

/-- An event of R231 takes a field channel to HOLD from any state but OFF and HOLD, and sets ABORT. -/
def State.fcAbort (s : State) (n : Nat) : State :=
  if 2 ≤ s.rd Reg.FC_STAT.STATE n then (s.fcEnterHold n).flag Reg.FC_STAT.ABORT n else s

/-- EN of a stage falls to 0: the blocks of programs under TRIP_HALT are cleared at their first start after EN returns (R210), and
the field channel aborts (R231). -/
def State.stageOff (s : State) (n : Nat) : State :=
  let u := s.rd Reg.STG_DESC.LU n
  let s := if s.stgKind n ≠ 0 ∧ u < 8 then s.setLu u { s.lu u with halt := 15 } else s
  s.fcAbort n

end Sys2Proof.Machine
end

