-- ==== Sys2Proof/Machine/Trip.lean ====
section
/-! DEFINITION. The Root net: sources, trip nodes, override latches and the trip capture (R122 to R133). -/

namespace Sys2Proof.Machine

/-! ## Source and class numbers (R124, R126, R133) -/

def clsGeneral : Nat := 3
def srcCmp (c : Nat) : Nat := 0x300 + c
def srcTripin (p : Nat) : Nat := 0x700 + p
def srcRowan (l : Nat) : Nat := 0xD00 + l
def srcSwtrip : Nat := 0xE00
def srcDieLink : Nat := 0xE01

/-- The routes that take a source to the trip node of a stage (R122). -/
def State.tripRoutes (s : State) (src n : Nat) : List Route :=
  s.routes.filter fun r => (r.kind == 3 || r.kind == 4 || r.kind == 7) && r.src == src && r.dst == 0xC00 + n

/-! ## Die-link faults (R23, R33) -/

/-- Does the stage claim a unit on a PLL-T-clocked island of die A (R23, R25): an ADC, a comparator, an isolated channel or an
excitation? -/
def State.claimsDieA (s : State) (n : Nat) : Bool :=
  let own (id : Nat) : Bool := s.claimState id ≠ 0 && s.claimOwner id == n + 1
  ((List.range 32).any fun k => own (0x200 + k)) || ((List.range 96).any fun k => own (0x300 + k))
    || ((List.range 8).any fun k => own (0x400 + k)) || ((List.range 2).any fun k => own (0xB00 + k))

/-- Do the stage's Cedar programs read the sample link (R23): its loop unit has an enabled program and an enabled slot? -/
def State.readsLink (s : State) (n : Nat) : Bool :=
  let u := s.rd Reg.STG_DESC.LU n
  s.stgKind n ≠ 0 && u < 8 && (List.range 4).any (fun p => s.on Reg.LP_CFG.PEN u p)
    && (List.range 16).any (fun k => s.on Reg.SLOT_CFG.EN u k)

/-- The die-link fault that stands at the trip node of a stage (R23, R123). -/
def State.dieFault (s : State) (n : Nat) : Bool :=
  s.links.edge || (s.links.clockForward && s.claimsDieA n) || (s.links.sample && s.readsLink n)

/-! ## Active sources (R123) -/

/-- Is a routed source active? -/
def State.srcActive (s : State) (src : Nat) : Bool :=
  if src / 256 = 3 then s.on Reg.CMP_STAT.STATE (src % 256)
  else if src / 256 = 7 then s.on Reg.TRIPIN_STAT.LEVEL (src % 256)
  else false

/-- Is any source of a trip node active (R123, R131)? -/
def State.nodeActive (s : State) (n : Nat) : Bool :=
  s.on Reg.STG_TRIP.SWTRIP n || s.on Reg.STG_TRIP.ROWAN_HOLD n || s.dieFault n
    || s.routes.any fun r => (r.kind == 3 || r.kind == 4) && r.dst == 0xC00 + n && s.srcActive r.src

/-- Show ACTIVE of a stage. -/
def State.showActive (s : State) (n : Nat) : State := s.wr Reg.STG_TRIP.ACTIVE n (b2n (s.nodeActive n))

/-- Show ACTIVE of every stage. -/
def State.showAllActive (s : State) : State := foldEach (fun n t => t.showActive n) (List.range 8) s

/-! ## Override latches (R126, R127) -/

/-- Does a safe state command an output on (R126)? SS_DISCH starts with both off. -/
def ssOn (code : Nat) : Side → Bool
  | .hi => code == 2
  | .lo => code == 1

/-- Set the latches of one leg to a safe state: what is commanded off turns off at once; what is commanded on stays on if it is on
and else waits for ASC_DT (R127). -/
def State.latchLeg (s : State) (l code : Nat) : State :=
  s.setPad l { s.pad l with ov := true, ovH := ssOn code .hi && s.gateOn l .hi, ovL := ssOn code .lo && s.gateOn l .lo }

/-- Set the latches of a stage to a safe state and show it in SS. -/
def State.latchStage (s : State) (n code : Nat) : State :=
  let s := foldEach (fun l t => t.latchLeg l code) (s.stgLegs n) s
  (s.setAsc n (if code = 1 ∨ code = 2 then some ⟨s.now, (s.row n).ascDt, s.stgLegs n, code⟩ else none)).wr Reg.STG_TRIP.SS n code

/-- Has a delay of (k + 1) × 100 ns, within ±15 %, had the time to pass (R127)? -/
def State.ascDue (s : State) (r : AscRun) : Bool := decide (85 * (r.dt + 1) ≤ 2 * (s.now - r.at0))

/-- ASC_DT has passed: the outputs that the safe state commands on turn on (R127). -/
def State.ascOn (s : State) (n : Nat) (r : AscRun) : State :=
  (foldEach (fun l t => t.setPad l { t.pad l with ovH := ssOn r.code .hi, ovL := ssOn r.code .lo }) r.legs s).setAsc n none

/-- A trip acts on the output stages of the stage's legs (R128). -/
def State.cancelLegs (s : State) (n : Nat) : State := foldEach (fun l t => t.cancelStage l) (s.stgLegs n) s

/-! ## Trip nodes (R126, R132, R133, R140) -/

/-- The class of a source after the substitution of R140: OVERVOLT becomes OV_NOBRAKE while the chopper that the stage names is
faulty and OVNB_EN = 1; a write of the two acts from Rowan's next refresh (R144). -/
def State.effClass (s : State) (n cls : Nat) : Nat :=
  let c := (s.row n).chopStg
  if cls = 1 ∧ (s.row n).ovnb ∧ c < 8 ∧ s.on Reg.STG_CHOP.CHOP_FAULT c then 2 else cls

/-- The armed safe state of a fault class. -/
def State.armed (s : State) (n : Nat) (cls : Nat) : Nat :=
  match cls with
  | 0 => s.rd Reg.STG_ARMED.ARM_OC n
  | 1 => s.rd Reg.STG_ARMED.ARM_OV n
  | 2 => s.rd Reg.STG_ARMED.ARM_OVNB n
  | _ => s.rd Reg.STG_ARMED.ARM_GEN n

/-- The chain time that stamps a capture: 0 to 2 ticks after the assertion, all ones without the forwarded clock, which needs PLL-T and
its link (R133). -/
def State.stampTime (s : State) : Nat :=
  if s.links.clockForward || !s.clk.tRun then 2 ^ 64 - 1 else (s.chainTime + (Config.tripStamp s.fresh).val) % 2 ^ 64

/-- The 16-byte capture record of a trip (R133). -/
def State.captureRec (s : State) (n : Nat) (retrip : Bool) (time : Nat) : List Nat :=
  [n, s.rd Reg.STG_TRIP.CLASS n, s.rd Reg.STG_TRIP.SS n, b2n retrip] ++ leBytes 2 (s.rd Reg.STG_TRIP_SRC.FIRST_SRC n)
    ++ [s.rd Reg.STG_ARMED.SB n, s.rd Reg.STG_ARMED.LB n] ++ leBytes 8 time

/-- The first assertion of a trip node: latches, TRIP, CLASS, SS, FIRST_SRC, the count, the capture, EN and the legs (R126, R128,
R133); the stage's field channel aborts (R231). -/
def State.tripFirst (s : State) (n src cls code : Nat) (retrip : Bool) : State :=
  let s := (s.latchStage n code).cancelLegs n
  let s := ((((s.flag Reg.STG_TRIP.TRIP n).wr Reg.STG_TRIP.CLASS n cls).wr Reg.STG_TRIP_SRC.FIRST_SRC n src).wr
    Reg.STG_TRIP.SEC_CLS n 0).bump Reg.STG_TRIP_SRC.TRIP_CNT n
  let t := s.stampTime
  let s := (s.next.wr Reg.STG_TRIP_TIME.TIME n (t % 2 ^ 32)).capture (s.captureRec n retrip t)
  (s.wr Reg.STG_CTRL.EN n 0).stageOff n

/-- A source of class `cls` becomes active at a trip node: the first assertion trips the stage, a later one only marks its class
(R126, R132). `code` gives the safe state of a command that carries one (R268). -/
def State.nodeRise (s : State) (n src cls : Nat) (code : Option Nat := none) : State :=
  let c := s.effClass n cls
  let s := if s.stgTripped n then
      (if s.rd Reg.STG_TRIP_SRC.FIRST_SRC n = src then s
       else s.wr Reg.STG_TRIP.SEC_CLS n (withBit (s.rd Reg.STG_TRIP.SEC_CLS n) c))
    else s.tripFirst n src c (code.getD (s.armed n c)) false
  s.showActive n

/-- Several stages trip for a fault of R31 or R33: class GENERAL, shown as a die-link fault (R123, R133). -/
def State.tripStages (s : State) (ns : List Nat) : State :=
  foldEach (fun n t => t.nodeRise n srcDieLink clsGeneral) ns s

/-- The stages, in rising order, that a test selects. -/
def stagesWhere (p : Nat → Bool) : List Nat := (List.range 8).filter p

/-- A routed source becomes active: every trip node that it reaches asserts, in stage order. -/
def State.routedRise (s : State) (src : Nat) : State :=
  foldEach (fun n t => foldEach (fun r u => u.nodeRise n src (r.par % 4)) (t.tripRoutes src n) t) (List.range 8) s

/-- A run-time fault of a unit (R33): the stages that claim it trip, and it is recorded for retirement. -/
def State.unitFault (s : State) (id : Nat) : State :=
  let t := match s.stageOfClaim id with
    | some n => s.nodeRise n srcDieLink clsGeneral
    | none => s
  { t with retireq := if t.retireq.contains id then t.retireq else t.retireq ++ [id] }

/-! ## ECC (R33) -/

/-- An access of a master meets a double-bit error (R33, R409): a bus error, the counter, the event log; in Cedar table RAM the stage that
the owning loop unit serves trips. -/
def State.eccMeet (s : State) (m : Master) (addr isl : Nat) : State :=
  let a := addr / 4 * 4
  let t := { s with eccBad := if s.eccBad.contains a then s.eccBad else s.eccBad ++ [a] }
  let t := (t.eccMet a isl).busErr m addr
  if isl = islCED then
    match s.stageOfLu ((a - 0x48000000) / 0x10000) with
    | some n => t.tripStages [n]
    | none => t
  else t

/-! ## Ladders (R90, R91) -/

/-- Have all ladders of all usable legs locked (R90)? -/
def State.allLocked (s : State) : Bool :=
  (List.range 24).all fun l => s.claimState l == 3 || [0, 1, 2].all fun j => s.on Reg.LEG_LAD.LOCK l j

/-- Show LAD_LOCK and LAD_ERR: all ladders of usable legs have locked, some ladder reads CAL_ERR = 1 (R90, R91). -/
def State.showLadders (s : State) : State :=
  let err : Bool := (List.range 24).any fun l => [0, 1, 2].any fun j => s.on Reg.LEG_LAD.CAL_ERR l j
  (s.wr Reg.TBG_STATUS.LAD_LOCK 0 (b2n s.allLocked)).wr Reg.TBG_STATUS.LAD_ERR 0 (b2n err)

/-! ## Comparators and lands (R118, R121) -/

/-- The level before the filter of a comparator or land (R120). -/
def State.rawLevel (s : State) (src : Nat) : Bool := (SMap.get none s.glitch src).isSome != s.srcActive src

/-- The comparison of R118 at an input voltage in microvolts: even comparators watch the high threshold, odd ones the low; the
hysteresis acts on the way back. -/
def State.cmpLevel (s : State) (c uv : Nat) : Bool :=
  let th := s.rd Reg.CMP_DAC.CODE c * 3000000
  let hy := s.rd Reg.CMP_DAC.HYST c * 3000000
  let v := uv * 4096
  if !s.on Reg.CMP_DAC.EN c then false
  else if c % 2 = 0 then
    if s.rawLevel (srcCmp c) then decide (th ≤ v + hy) else decide (th < v)
  else
    if s.rawLevel (srcCmp c) then decide (v ≤ th + hy) else decide (v < th)

/-- A comparator takes a state; becoming active, it asserts its trip nodes (R126) and starts the conversions routed from it (R149). -/
def State.setCmp (s : State) (c : Nat) (lvl : Bool) : State :=
  let was := s.on Reg.CMP_STAT.STATE c
  let s := (s.wr Reg.CMP_STAT.STATE c (b2n lvl)).wr Reg.CMP_DAC.STATE c (b2n lvl)
  if lvl && !was then
    ((s.flag Reg.CMP_STAT.SEEN c).routedRise (srcCmp c)).raisePulse [5] (srcCmp c) 0
  else s.showAllActive

/-- A TRIPIN land takes a level (R121). -/
def State.setTripin (s : State) (p : Nat) (lvl : Bool) : State :=
  let was := s.on Reg.TRIPIN_STAT.LEVEL p
  let s := (s.wr Reg.TRIPIN_STAT.LEVEL p (b2n lvl)).wr Reg.TRIPIN_CFG.LEVEL p (b2n lvl)
  if lvl && !was then (s.flag Reg.TRIPIN_STAT.SEEN p).routedRise (srcTripin p) else s.showAllActive

/-! ## Glitch filters (R120) and land levels (R121) -/

/-- Ticks after which a filter code passes a change: 5, 10 and 20 ns, at the next tick edge. -/
def filtTicks (code : Nat) : Nat :=
  match code with
  | 0 => 0
  | 1 => 3
  | 2 => 5
  | _ => 10

def State.setGlitch (s : State) (src : Nat) (t : Option Nat) : State := { s with glitch := SMap.set none s.glitch src t }

/-- The FILT code of a comparator or land, and its filtered level, by resource ID. -/
def State.filtOf (s : State) (src : Nat) : Nat :=
  if src / 256 = 3 then s.rd Reg.CMP_DAC.FILT (src % 256) else s.rd Reg.TRIPIN_CFG.FILT (src % 256)

/-- A comparator or a land takes its filtered level. -/
def State.setSrcLevel (s : State) (src : Nat) (lvl : Bool) : State :=
  if src / 256 = 3 then s.setCmp (src % 256) lvl else s.setTripin (src % 256) lvl

/-- The input of a comparator or land takes a level: without a filter it acts at once; else a level that differs from the filtered one must
stay for the time of the filter, and a return before that rejects the pulse (R120). -/
def State.filtered (s : State) (src : Nat) (lvl : Bool) : State :=
  let t := s.setGlitch src none
  if s.filtOf src = 0 then t.setSrcLevel src lvl
  else if lvl = s.srcActive src then t
  else if (SMap.get none s.glitch src).isSome then s
  else s.setGlitch src (some s.now)

/-- Changes that have stayed for the time of their filter pass (R120). -/
def State.filterEdge (s : State) : State :=
  foldEach (fun (e : Nat × Option Nat) t => match e.2 with
    | some a => if a + filtTicks (t.filtOf e.1) ≤ t.now then (t.setGlitch e.1 none).setSrcLevel e.1 (!t.srcActive e.1) else t
    | none => t) s.glitch s

/-- The level of a TRIPIN land behind EN and POL: an open land is pulled to its active level, a land with EN = 0 is inactive (R121).
DESIGN CHOICE: a land that nothing has driven since power-on is open. -/
def State.tripinSees (s : State) (p : Nat) : Bool :=
  s.on Reg.TRIPIN_CFG.EN p && match SMap.get none s.lands p with
    | some h => h == s.on Reg.TRIPIN_CFG.POL p
    | none => true

/-- A land, its EN or its POL has changed. -/
def State.tripinLook (s : State) (p : Nat) : State :=
  if s.on Reg.TRIPIN_CFG.EN p then s.filtered (srcTripin p) (s.tripinSees p)
  else (s.setGlitch (srcTripin p) none).setTripin p false

/-- Every source that is active asserts the trip nodes to which a new image routes it (R126). -/
def State.assertActive (s : State) : State :=
  foldEach (fun n t => foldEach (fun (r : Route) u =>
    if (r.kind == 3 || r.kind == 4) && r.dst == 0xC00 + n && u.srcActive r.src then u.nodeRise n r.src (r.par % 4) else u) t.routes t)
    (List.range 8) s

/-- Writing SWTRIP: 1 activates a GENERAL source, 0 removes it (R123, R132). -/
def State.setSwtrip (s : State) (n : Nat) (on : Bool) : State :=
  let was := s.on Reg.STG_TRIP.SWTRIP n
  let s := s.wr Reg.STG_TRIP.SWTRIP n (b2n on)
  if on && !was then s.nodeRise n srcSwtrip clsGeneral else s.showActive n

/-! ## Clearing (R131, R132) -/

/-- A write of 1 to TRIP lands: refused while a source is active; it keeps FIRST_SRC and the latches. -/
def State.clearTrip (s : State) (n : Nat) : State :=
  if s.nodeActive n then s.onlyIf (s.stgTripped n) (·.flag Reg.STG_TRIP.CLR_DENIED n)
  else ((s.wr Reg.STG_TRIP.TRIP n 0).wr Reg.STG_TRIP.CLASS n 0).wr Reg.STG_TRIP.SEC_CLS n 0

/-- A source becomes active at the edge at which a clear lands, with no source active before: the latch set dominates, TRIP stays 1,
a new capture is recorded (R132). -/
def State.retripNode (s : State) (n src cls : Nat) : State :=
  let c := s.effClass n cls
  ((s.tripFirst n src c (s.armed n c) true).flag Reg.STG_TRIP.RETRIP n).showActive n

/-- A source shows that it is active, and starts the conversions routed from it (R118, R121, R149); SWTRIP is that of stage `n`; a Rowan line
and a die-link fault show nothing here: at this edge they are a pulse. -/
def State.showSource (s : State) (n src : Nat) : State :=
  let i := src % 256
  match src / 256 with
  | 3 => (((s.wr Reg.CMP_STAT.STATE i 1).wr Reg.CMP_DAC.STATE i 1).flag Reg.CMP_STAT.SEEN i).raisePulse [5] src 0
  | 7 => ((s.wr Reg.TRIPIN_STAT.LEVEL i 1).wr Reg.TRIPIN_CFG.LEVEL i 1).flag Reg.TRIPIN_STAT.SEEN i
  | 0xE => s.onlyIf (src == srcSwtrip) (·.wr Reg.STG_TRIP.SWTRIP n 1)
  | _ => s

/-- The class with which a source reaches the trip node of a stage, where it does (R122, R123). DESIGN CHOICE (R132): a Rowan line that
asserts at the edge of a clear is an OV_NOBRAKE pulse (R140), the one command of Rowan that is no hold. -/
def State.sourceClass (s : State) (src n : Nat) : Option Nat :=
  if src = srcDieLink ∨ src = srcSwtrip then some clsGeneral
  else (s.tripRoutes src n).head?.map fun r => if src / 256 = 0xD then 2 else r.par % 4

/-- A source becomes active at the edge at which the clear of a stage lands (R132): with no source active before, the latch set dominates;
every other node that the source reaches asserts as at any other time. -/
def State.clearAgainst (s : State) (n src : Nat) : State :=
  let clash : Bool := s.stgTripped n && !s.nodeActive n
  let others := (List.range 8).filter (· != n)
  let u := match s.sourceClass src n with
    | some c => if clash then (s.showSource n src).retripNode n src c else ((s.clearTrip n).showSource n src).nodeRise n src c
    | none => (s.clearTrip n).showSource n src
  if src / 256 = 0xE then u
  else foldEach (fun m t => foldEach (fun (r : Route) t => t.nodeRise m src (if src / 256 = 0xD then 2 else r.par % 4)) (t.tripRoutes src m) t)
    others u

/-- Show the fault of a chopper stage in the STG_ARMED of every stage that names it. -/
def State.showChop (s : State) : State :=
  foldEach (fun n t =>
    let c := (t.row n).chopStg
    t.wr Reg.STG_ARMED.CHOP_FAULT n (if c < 8 ∧ t.stgKind n ≠ 0 then t.rd Reg.STG_CHOP.CHOP_FAULT c else 0)) (List.range 8) s

/-- Writing 1 to CHOP_FAULT clears a sticky fault if the chopper stage is not tripped (R139). -/
def State.clearChop (s : State) (n : Nat) : State :=
  if !s.on Reg.STG_CHOP.CHOP_FAULT n ∨ s.rd Reg.STG_CHOP.REASON n = 3 then s
  else if s.stgTripped n then s.flag Reg.STG_CHOP.CLR_DENIED n
  else ((s.wr Reg.STG_CHOP.CHOP_FAULT n 0).wr Reg.STG_CHOP.REASON n 0).showChop

end Sys2Proof.Machine
end

