-- ==== Sys2Proof/Machine/Adc.lean ====
section
/-! DEFINITION. Converters, sequencers, injected slots and interleaved pairs (spec/06_converters.md). -/

namespace Sys2Proof.Machine

/-! ## Inputs, results and trims (R145 to R148, R160) -/

/-- The input that a converter reaches with a multiplexer index (R145). -/
def ainOf (adc mux : Nat) : Nat :=
  let j := adc / 8
  if mux < 16 then 16 * j + mux else 16 * ((j + 1) % 4) + mux - 16

/-- The raw code of a voltage in nanovolts (R146). -/
def rawCode (nv : Int) : Nat := (clampI 0 65535 (nv * 65536 / 3000000000)).toNat

/-- The corrected result of a raw code, and whether CLIP holds (R148). -/
def State.correct (s : State) (adc raw : Nat) : Nat × Bool :=
  let v := divHalfAway ((raw : Int) * (2 ^ 20 + s.rdI Reg.ADC_TRIM.GAIN_TRIM adc) + s.rdI Reg.ADC_TRIM.OFS_TRIM adc * 2 ^ 16) (2 ^ 20)
  let c := (clampI 0 65535 v).toNat
  (c, raw == 0 || raw == 65535 || decide (v < 0) || decide (65535 < v))

/-- A result word (R160). -/
def resultWord (opn clip : Bool) (src kind ain result : Nat) : Nat :=
  b2n opn * 2 ^ 31 + b2n clip * 2 ^ 30 + src % 64 * 2 ^ 24 + kind * 2 ^ 22 + ain * 2 ^ 16 + result

/-- The physical converter that serves a logical one: from the spare map, or its place at manufacture (R414). -/
def State.physAdc (s : State) (adc : Nat) : Nat :=
  let p := s.rd Reg.SPR_MAP.PU (24 + adc)
  if 30 ≤ p ∧ p ≤ 65 then p else 30 + 9 * (adc / 8) + adc % 8

/-- The Clay address of a converter's trims (R406). -/
def State.adcClay (s : State) (adc : Nat) : Nat := 0x4C000D00 + 8 * (s.physAdc adc - 30)

/-- At a reset the trims take the copy held in Clay (R148); a word with a double-bit error gives trims of 0 (R409). -/
def State.loadAdcTrims (s : State) (adc : Nat) : State :=
  let a := s.adcClay adc
  let w := if s.eccBad.contains a then 0 else s.word a
  let k := if s.eccBad.contains (a + 4) then 0 else s.word (a + 4)
  ((s.wr Reg.ADC_TRIM.GAIN_TRIM adc (bits w 16 16)).wr Reg.ADC_TRIM.OFS_TRIM adc (bits w 0 16)).wr Reg.ADC_SKEW.SKEW_TRIM adc
    (bits k 0 8)

/-- Copy a converter's trims to Clay (R148). -/
def State.storeAdcTrims (s : State) (adc : Nat) : State :=
  let a := s.adcClay adc
  (s.setWord a (s.rd Reg.ADC_TRIM.GAIN_TRIM adc * 65536 + s.rd Reg.ADC_TRIM.OFS_TRIM adc)).setWord (a + 4)
    (s.rd Reg.ADC_SKEW.SKEW_TRIM adc)

/-- SKEW_TRIM of a converter in fine steps; −128 acts as −127 (R147, R166). -/
def State.skew (s : State) (adc : Nat) : Int := max (-127) (s.rdI Reg.ADC_SKEW.SKEW_TRIM adc)

/-- Is the converter in a pair with IL_EN = 1 (R164)? -/
def State.paired (s : State) (adc : Nat) : Bool := s.on Reg.IL_CTRL.IL_EN (adc / 2)

/-- Does an enabled resolver channel sample through the converter (R255)? -/
def State.rsUses (s : State) (adc : Nat) : Bool :=
  (List.range 2).any fun r => s.on Reg.RS_CTRL.EN r && (s.rd Reg.RS_ADC.SIN_ADC r == adc || s.rd Reg.RS_ADC.COS_ADC r == adc)

/-- Is the converter idle, with no open-wire check half done? -/
def State.adcIdle (s : State) (adc : Nat) : Bool := (s.adc adc).phase == .idle && (s.adc adc).owNext.isNone

/-- The currents that flow on an input (R158, R159), each as its direction (pull-up) and CUR: that of every open-wire check on it, during its
two conversions; else the static one. -/
def State.owCurrents (s : State) (ain : Nat) : List (Bool × Nat) :=
  let cur := s.rd Reg.AIN_OW.CUR ain
  let checks := (List.range 32).filterMap fun a =>
    let r := s.adc a
    if r.phase ≠ .idle ∧ r.job.step ≠ 0 ∧ r.job.ain = ain then some (r.job.step == 2, cur) else none
  if cur = 0 then [] else if checks ≠ [] then checks
  else if s.on Reg.AIN_OW.STATIC ain then [(s.on Reg.AIN_OW.DIR ain, cur)] else []

/-- A converter begins an acquisition (R147). -/
def State.acquire (s : State) (adc : Nat) (job : ConvJob) : State :=
  (s.setAdc adc { s.adc adc with phase := .acquiring, job := job }).flag Reg.ADC_STATUS.BUSY adc

/-- A converter becomes idle. -/
def State.release (s : State) (adc : Nat) : State :=
  (s.setAdc adc { s.adc adc with phase := .idle, job := ConvJob.init }).wr Reg.ADC_STATUS.BUSY adc 0

/-- A word enters the sample link (R161). -/
def State.sendLink (s : State) (w : LinkWord) : State := if s.links.sample then s else { s with linkq := s.linkq ++ [w] }

/-- A result of an input reaches Rowan's source of that input (R182, R272): RESULT, flagged by OPEN or CLIP. -/
def State.keepAin (s : State) (ain word : Nat) : State := s.srcWord ain (bits word 0 16) (bits word 30 2 ≠ 0)

/-! ## The ring (R154) -/

/-- Write one word into the ring of a sequencer; onto an unread word it overwrites the oldest and sets OVF. -/
def State.ringWrite (s : State) (j v : Nat) : State :=
  let size := s.rd Reg.SEQ_CTRL.RING_BLKS j * 1024
  if size = 0 then s
  else
    let w := s.rd Reg.SEQ_PTR.WR_PTR j
    let r := s.rd Reg.SEQ_PTR.RD_PTR j
    let ovf := w == r && (s.seq j).full
    let w' := (w + 1) % size
    let r' := if ovf then (r + 1) % size else r
    let s := s.setWord (0x49000000 + s.rd Reg.SEQ_CTRL.RING_BASE j * 0x1000 + 4 * w) v
    let s := (s.wr Reg.SEQ_PTR.WR_PTR j w').wr Reg.SEQ_PTR.RD_PTR j r'
    let s := s.setSeq j { s.seq j with full := w' == r' }
    s.onlyIf ovf (·.flag Reg.SEQ_STATUS.OVF j)

/-! ## Sequencers (R151 to R155) -/

/-- Entry `e` of a sequencer as its register stands. -/
def State.seqEnt (s : State) (j e : Nat) : SeqEnt :=
  ⟨8 * j + s.rd Reg.SEQ_ENT.ADC j e, s.rd Reg.SEQ_ENT.MUX j e, s.on Reg.SEQ_ENT.SIM j e, s.on Reg.SEQ_ENT.CEDAR j e,
   s.on Reg.SEQ_ENT.OWCHK j e, s.on Reg.SEQ_ENT.TS j e⟩

/-- The groups of a list of entries (R153): each entry that does not carry SIM begins a group; SIM on entry 0 is ignored. -/
def groupsFrom : Nat → List SeqEnt → List (List Nat)
  | _, [] => []
  | k, e :: t =>
    match t, groupsFrom (k + 1) t with
    | f :: _, g :: gs => if f.sim then (k :: g) :: gs else [k] :: g :: gs
    | _, gs => let _ := e; [k] :: gs

/-- The converters of a group. -/
def groupAdcs (ents : List SeqEnt) (g : List Nat) : List Nat := g.filterMap fun e => (ents[e]?).map (·.adc)

/-- Does a list name one element twice? -/
def hasDup : List Nat → Bool
  | [] => false
  | a :: t => t.contains a || hasDup t

/-- A refused start or enable of a sequencer. -/
def State.seqErr (s : State) (j code : Nat) : State := (s.flag Reg.SEQ_STATUS.ERR j).wr Reg.SEQ_STATUS.ERR_CODE j code

/-- Do conversions of a run of the sequencer still complete? -/
def State.seqOpen (s : State) (j : Nat) : Bool :=
  (s.seq j).wait != [] || (List.range 8).any fun k =>
    let r := s.adc (8 * j + k)
    (r.phase != .idle && r.job.kind == 0) || r.owNext.isSome

/-- A sequence start (R152, R155): refused while EN = 0 and while a run that EN = 0 stopped still completes. -/
def State.seqStart (s : State) (j : Nat) : State :=
  let len := s.rd Reg.SEQ_CTRL.LEN j
  let ents := (List.range len).map (s.seqEnt j)
  let groups := groupsFrom 0 ents
  if !s.on Reg.SEQ_CTRL.EN j || (s.seqOpen j && !s.on Reg.SEQ_STATUS.RUNNING j) then s.seqErr j 6
  else if len = 0 ∨ 64 < len then s.seqErr j 1
  else if s.on Reg.SEQ_STATUS.RUNNING j then (s.flag Reg.SEQ_STATUS.MISS j).bump Reg.SEQ_STATUS.MISS_CNT j
  else if groups.any (fun g => hasDup (groupAdcs ents g)) then s.seqErr j 2
  else if ents.any (fun e => s.claimOwner (0x200 + e.adc) ≠ 0x10 + j || s.paired e.adc || s.rsUses e.adc) then s.seqErr j 3
  else if ents.any (fun e => e.ow && s.rd Reg.AIN_OW.CUR (ainOf e.adc e.mux) == 0) then s.seqErr j 5
  else (s.setSeq j { s.seq j with ents := ents, groups := groups }).flag Reg.SEQ_STATUS.RUNNING j

/-- May the next group issue (R153, R155, R163): every converter idle, no injected conversion pending, no calibration? -/
def State.groupReady (s : State) (ents : List SeqEnt) (g : List Nat) : Bool :=
  (groupAdcs ents g).all fun a =>
    s.adcIdle a && !s.on Reg.ADC_STATUS.J0_PEND a && !s.on Reg.ADC_STATUS.J1_PEND a && s.rd Reg.ADC_STATUS.CAL_ST a == 0

/-- Issue one entry: its converter begins acquisition, of OW_ACQ × 16 ticks for an open-wire check (R153, R159). -/
def State.issueEntry (s : State) (j grp e : Nat) : State :=
  match (s.seq j).ents[e]? with
  | some x =>
    let acq := if x.ow then s.rd Reg.SEQ_OW_X.OW_ACQ j * 16 else s.rd Reg.ADC_ACQ_X.ACQ x.adc
    s.acquire x.adc ⟨0, e, ainOf x.adc x.mux, 2 * s.now, acq, grp, if x.ow then 1 else 0, false⟩
  | none => s

/-- The first group issues if it may. -/
def State.issueGroup (s : State) (j : Nat) : State :=
  let q := s.seq j
  match q.groups with
  | g :: gs =>
    if s.on Reg.SEQ_STATUS.RUNNING j && s.groupReady q.ents g then
      let s := s.setSeq j { q with groups := gs, wait := q.wait ++ g }
      (foldEach (fun e t => t.issueEntry j (g.headD 0) e) g s).wr Reg.SEQ_STATUS.ENTRY j (g.headD 0)
    else s
  | [] => s

/-- The resources that SEQ_CTRL.EN needs (R151). -/
def State.seqNeeds (s : State) (j : Nat) : List Nat :=
  ((List.range (min (s.rd Reg.SEQ_CTRL.LEN j) 64)).map fun e => 0x200 + 8 * j + s.rd Reg.SEQ_ENT.ADC j e).eraseDups
    ++ (List.range (s.rd Reg.SEQ_CTRL.RING_BLKS j)).map fun b => 0x800 + s.rd Reg.SEQ_CTRL.RING_BASE j + b

/-- The ring starts empty (R154). -/
def State.ringClear (s : State) (j : Nat) : State :=
  ((s.setSeq j { s.seq j with full := false }).wr Reg.SEQ_PTR.WR_PTR j 0).wr Reg.SEQ_PTR.RD_PTR j 0

/-- Writing EN = 1 (R151, R154). DESIGN CHOICE: while EN reads 1 it sets the pointers, as R154 says of every such write, and takes no claim;
a refused claim sets ERR with ERR_CODE 0, since no code of R166 names it. -/
def State.seqEnable (s : State) (j : Nat) : State :=
  let blks := s.rd Reg.SEQ_CTRL.RING_BLKS j
  if s.on Reg.SEQ_CTRL.EN j then s.ringClear j
  else if blks = 0 ∨ 64 < s.rd Reg.SEQ_CTRL.RING_BASE j + blks then s.seqErr j 4
  else
    let need := s.seqNeeds j
    s.claimAll (0x10 + j) need (fun t => ((t.setSeq j { t.seq j with claims := need }).flag Reg.SEQ_CTRL.EN j).ringClear j) (·.seqErr j 0)

/-- Is an injected slot of the converter enabled? The claim that it shares with the sequencer then stays. -/
def State.slotsOn (s : State) (adc : Nat) : Bool := s.on Reg.ADC_INJ.EN adc 0 || s.on Reg.ADC_INJ.EN adc 1

/-- Release the claims of a stopped run, but for those that the present enable took again (R61, R155). -/
def State.seqRelease (s : State) (j : Nat) : State :=
  let ids := (s.seq j).old.filter fun id => !((s.seq j).claims.contains id || (id / 256 == 2 && s.slotsOn (id % 256)))
  (s.releaseClaims (0x10 + j) ids).setSeq j { s.seq j with old := [] }

/-- A run ends after its last EOC: DONE, and with CONT = 1 a new start at the next tick (R153); a stopped run releases its claims. -/
def State.seqRunEnd (s : State) (j : Nat) : State :=
  if s.seqOpen j ∨ (s.seq j).groups ≠ [] then s
  else if s.on Reg.SEQ_STATUS.RUNNING j then
    ((s.wr Reg.SEQ_STATUS.RUNNING j 0).flag Reg.SEQ_STATUS.DONE j).setSeq j { s.seq j with again := s.on Reg.SEQ_CTRL.CONT j }
  else s.seqRelease j

/-- Writing EN = 0: started conversions complete, and the claims are released after the last of their EOCs (R155). -/
def State.seqDisable (s : State) (j : Nat) : State :=
  let q := s.seq j
  (((s.wr Reg.SEQ_CTRL.EN j 0).wr Reg.SEQ_STATUS.RUNNING j 0).setSeq j
    { q with groups := [], again := false, old := q.old ++ q.claims, claims := [] }).seqRunEnd j

/-- The results on their way reach the ring: in the order of their EOC edges, those of one edge in entry order (R154). -/
def State.ringFlush (s : State) (j : Nat) : State :=
  let l := sortBy (fun e => e.1 * 64 + e.2.1 % 64) (s.seq j).out
  foldEach (fun e t => foldEach (fun v u => u.ringWrite j v) e.2.2 t) l (s.setSeq j { s.seq j with out := [] })

/-! ## Injected slots (R156, R157, R163) -/

def injPend (slot : Nat) : FD := if slot = 0 then Reg.ADC_STATUS.J0_PEND else Reg.ADC_STATUS.J1_PEND

/-- A lost injected trigger. -/
def State.trigMiss (s : State) (adc : Nat) : State := (s.flag Reg.ADC_STATUS.TRIG_MISS adc).bump Reg.ADC_STATUS.MISS_CNT adc

/-- Start a pending slot: its converter begins acquisition (R156). -/
def State.startSlot (s : State) (adc slot : Nat) : State :=
  let r := s.adc adc
  let s := s.setAdc adc (if slot = 0 then { r with pre0 := false } else { r with pre1 := false })
  (s.wr (injPend slot) adc 0).acquire adc
    ⟨1, slot, ainOf adc (s.rd Reg.ADC_INJ.MUX adc slot), 2 * s.now, s.rd Reg.ADC_ACQ_X.ACQ adc, 0, 0, false⟩

/-- Interrupt the group of a sequence acquisition as a whole (R156): its converters still in acquisition end it, an open-wire check half
done is dropped, those past their sampling instant discard their result, and the group issues again in full. -/
def State.preempt (s : State) (j grp : Nat) : State :=
  let q := s.seq j
  let g := (groupsFrom 0 q.ents).find? (fun g => g.headD 0 == grp) |>.getD []
  let s := foldEach (fun a t =>
    let r := t.adc a
    let t := t.onlyIf (r.owNext.any (·.grp == grp)) fun u => u.setAdc a { u.adc a with owNext := none }
    if r.job.kind = 0 ∧ r.job.grp = grp ∧ r.phase = .acquiring then t.release a
    else if r.job.kind = 0 ∧ r.job.grp = grp ∧ r.phase = .converting then t.setAdc a { t.adc a with job := { r.job with drop := true } }
    else t) (groupAdcs q.ents g) s
  (s.setSeq j { q with groups := if s.on Reg.SEQ_STATUS.RUNNING j then g :: q.groups else q.groups
                       wait := q.wait.filter fun e => !g.contains e }).seqRunEnd j

/-- Does a route trigger this slot (R150)? -/
def injTarget (adc slot : Nat) (r : Route) : Bool :=
  (r.kind == 1 || r.kind == 5) && r.dst == 0x200 + adc && bits r.par 4 2 == 1 + slot

/-- A trigger reaches an injected slot (R156, R157, R163); J0 goes before J1, so a J1 that pre-empts lets a pending J0 run first. -/
def State.injTrig (s : State) (adc slot : Nat) : State :=
  if s.on (injPend slot) adc then s.trigMiss adc
  else if !s.on Reg.ADC_INJ.EN adc slot then s
  else if s.paired adc || s.rsUses adc then s.trigMiss adc
  else
    let s := s.flag (injPend slot) adc
    let r := s.adc adc
    if s.rd Reg.ADC_STATUS.CAL_ST adc ≠ 0 then s.flag Reg.ADC_STATUS.INJ_HELD adc
    else if s.on Reg.ADC_INJ.PREEMPT adc slot ∧ r.phase = .acquiring ∧ r.job.kind = 0 then
      (s.preempt (adc / 8) r.job.grp).startSlot adc (if s.on (injPend 0) adc then 0 else slot)
    else s

/-- Is a slot pending that no calibration holds: during one, only a slot that was pending at its request (R163)? -/
def State.slotFree (s : State) (adc slot : Nat) : Bool :=
  let r := s.adc adc
  let cal := s.rd Reg.ADC_STATUS.CAL_ST adc
  s.on (injPend slot) adc && (cal == 0 || (cal == 1 && (if slot = 0 then r.pre0 else r.pre1)))

/-- May a pending slot start: converter idle, and J0, pending or its trigger just arrived, before J1 (R156, R157)? -/
def State.slotReady (s : State) (adc slot : Nat) : Bool :=
  (s.adc adc).phase == .idle && s.slotFree adc slot
    && (slot == 0 || (!s.slotFree adc 0 && ((s.pulseAt (injTarget adc 0)).isNone || !s.on Reg.ADC_INJ.EN adc 0)))

/-! ## Calibration (R162, R163) -/

/-- CAL_START on a converter. -/
def State.calStart (s : State) (adc : Nat) : State :=
  if s.claimedByEnabled (0x200 + adc) || s.paired adc || s.rsUses adc then s.flag Reg.ADC_STATUS.CAL_ERR adc
  else if s.rd Reg.ADC_STATUS.CAL_ST adc ≠ 0 then s
  else
    ((s.setAdc adc { s.adc adc with pre0 := s.on Reg.ADC_STATUS.J0_PEND adc, pre1 := s.on Reg.ADC_STATUS.J1_PEND adc }).wr
      Reg.ADC_STATUS.CAL_ST adc 1).flag Reg.ADC_CTRL.CAL_START adc

/-- Gain and offset trims that bring two mean raw codes to 6,553.6 and 58,982.4 codes (R162); none outside the trim ranges. -/
def calTrims (lo hi : Rat) : Option (Int × Int) :=
  if hi = lo then none
  else
    let g := roundAway ((524288 / 10 / (hi - lo) - 1) * 2 ^ 20)
    let o := roundAway (16 * (65536 / 10 - lo * (1 + (g : Rat) / 2 ^ 20)))
    if -32768 ≤ g ∧ g ≤ 32767 ∧ -32768 ≤ o ∧ o ≤ 32767 then some (g, o) else none

/-- A converter's calibration ends: idle, held slots released. -/
def State.calEnd (s : State) (adc : Nat) : State :=
  (((s.wr Reg.ADC_STATUS.BUSY adc 0).wr Reg.ADC_STATUS.CAL_ST adc 0).wr Reg.ADC_CTRL.CAL_START adc 0).wr Reg.ADC_STATUS.INJ_HELD adc 0

/-! ## Interleaved pairs (R164, R165) -/

/-- The claims and the owner of ARM (R151): the holder of both converters, the cluster's sequencer if both are free, none where
they differ. -/
def State.pairOwner (s : State) (k : Nat) : Option Nat :=
  let e := 0x200 + 2 * k
  if s.claimState e = 0 ∧ s.claimState (e + 1) = 0 then some (0x10 + k / 4)
  else if s.claimOwner e = s.claimOwner (e + 1) then some (s.claimOwner e) else none

def State.pairErr (s : State) (k code : Nat) : State := (s.flag Reg.IL_FLAGS.ERR k).wr Reg.IL_FLAGS.ERR_CODE k code

/-- Writing ARM = 1 (R151, R164, R166): refused with IL_EN = 0, for its block range, for a claim; ERR shows each. DESIGN CHOICE: ERR_CODE
reads 0 where no code of R166 names the cause. -/
def State.pairArm (s : State) (k : Nat) : State :=
  let base := s.rd Reg.IL_CTRL.IL_BASE k
  let blks := s.rd Reg.IL_CTRL.IL_BLKS k
  let need := [0x200 + 2 * k, 0x201 + 2 * k] ++ (List.range blks).map fun b => 0x800 + base + b
  if !s.on Reg.IL_CTRL.IL_EN k then s.pairErr k 0
  else if s.on Reg.IL_CTRL.ARM k then s
  else if blks = 0 ∨ 64 < base + blks then s.pairErr k 2
  else match s.pairOwner k with
    | some o => s.claimAll o need (fun t => (t.setPair k { t.pair k with claims := need }).flag Reg.IL_CTRL.ARM k) (·.pairErr k 0)
    | none => (s.claimRefused (0x201 + 2 * k) (s.claimOwner (0x200 + 2 * k))).pairErr k 0

/-- The pair is disarmed: its dynamic claims are released (R61). -/
def State.pairDisarm (s : State) (k : Nat) : State :=
  let s := s.wr Reg.IL_CTRL.ARM k 0
  (foldEach (fun id t => t.releaseClaims (t.claimOwner id) [id]) (s.pair k).claims s).setPair k { s.pair k with claims := [] }

/-- A pair sample begins on the even or the odd converter at a half tick. -/
def State.pairSample (s : State) (k i start2 : Nat) : State :=
  let p := s.pair k
  if i < p.len then s.acquire (2 * k + i % 2) ⟨2, i, p.ain, start2, p.acq, 0, 0, false⟩ else s

/-- A burst starts (R164, R165): ignored during a burst or a calibration, without effect on a pair that is not armed, refused for its
length. -/
def State.burstStart (s : State) (k : Nat) : State :=
  let len := s.rd Reg.IL_BURST.BURST k
  if s.rd Reg.IL_FLAGS.CAL_ST k ≠ 0 ∨ s.on Reg.IL_FLAGS.RUNNING k then s.flag Reg.IL_FLAGS.MISS k
  else if !s.on Reg.IL_CTRL.ARM k then s
  else if len = 0 ∨ s.rd Reg.IL_CTRL.IL_BLKS k * 1024 < len then s.pairErr k 1
  else
    let acq := s.rd Reg.IL_ACQ_X.ACQ k
    let s := s.setPair k { s.pair k with len := len, acq := acq, ain := ainOf (2 * k) (s.rd Reg.IL_CTRL.MUX k) }
    let s := (s.flag Reg.IL_FLAGS.RUNNING k).wr Reg.IL_STATUS.COUNT k 0
    (s.pairSample k 0 (2 * s.now)).pairSample k 1 (2 * s.now + acq + 21)

/-! ## The end of a conversion (R147, R154, R159 to R161) -/

/-- A result of a sequence entry: towards the ring, the sample link, ADC_LAST. `edge` is its EOC edge. -/
def State.seqResult (s : State) (adc : Nat) (job : ConvJob) (word time edge : Nat) : State :=
  let j := adc / 8
  let s := (s.wr Reg.ADC_LAST.WORD adc word).keepAin job.ain word
  match (s.seq j).ents[job.src]? with
  | some x =>
    let s := if x.cedar then s.sendLink ⟨0, adc, job.src, word⟩ else s
    (s.setSeq j { s.seq j with
      wait := (s.seq j).wait.erase job.src
      out := (s.seq j).out ++ [(edge, job.src, word :: if x.ts then [time % 2 ^ 32] else [])] }).seqRunEnd j
  | none => s.seqRunEnd j

/-- The second conversion of an open-wire check begins (R159). -/
def State.owSecond (s : State) (adc : Nat) (job : ConvJob) : State :=
  (s.setAdc adc { s.adc adc with owNext := none }).acquire adc { job with start2 := 2 * s.now, step := 2 }

/-- The first conversion of an open-wire check has ended (R156, R159): a pending slot runs before the second one, which waits for it; a
pre-empting slot interrupts the group instead. -/
def State.owBetween (s : State) (adc : Nat) (job : ConvJob) : State :=
  let slot (k : Nat) : Bool := s.slotFree adc k
  let pre (k : Nat) : Bool := slot k && s.on Reg.ADC_INJ.PREEMPT adc k
  if pre 0 || pre 1 then (s.release adc).preempt (adc / 8) job.grp
  else if slot 0 || slot 1 then (s.release adc).setAdc adc { (s.release adc).adc adc with owNext := some job }
  else s.owSecond adc job

/-- The EOC of a sequence conversion; an open-wire check converts twice (R159). -/
def State.eocSeq (s : State) (adc : Nat) (r : AdcS) : State :=
  let job := r.job
  let edge := (r.smp2 + 42) / 2
  let (v, clip) := s.correct adc (rawCode r.nv)
  if job.drop then (s.release adc).seqRunEnd (adc / 8)
  else if job.step = 1 then (s.setAdc adc { r with down := v, downClip := clip }).owBetween adc job
  else
    let s := (s.release adc).onlyIf (clip || (job.step == 2 && r.downClip)) (·.flag Reg.ADC_STATUS.CLIP adc)
    if job.step = 2 then
      let opn := decide (s.rd Reg.SEQ_OW_X.OW_TH (adc / 8) < v - r.down)
      s.seqResult adc job (resultWord opn (clip || r.downClip) job.src 0 job.ain ((v + r.down) / 2)) r.smpTime edge
    else s.seqResult adc job (resultWord false clip job.src 0 job.ain v) r.smpTime edge

/-- The EOC of an injected conversion; an open-wire check that waited for it goes on, unless another slot is pending. -/
def State.eocInj (s : State) (adc : Nat) (r : AdcS) : State :=
  let (v, clip) := s.correct adc (rawCode r.nv)
  let w := resultWord false clip r.job.src 1 r.job.ain v
  let s := (s.release adc).onlyIf clip (·.flag Reg.ADC_STATUS.CLIP adc)
  let s := (s.wr Reg.ADC_LAST.WORD adc w).wr2 Reg.ADC_INJ_RES.WORD adc r.job.src w
  let s := if s.on Reg.ADC_INJ.CEDAR adc r.job.src then (s.keepAin r.job.ain w).sendLink ⟨1, adc, r.job.src, w⟩ else s
  match r.owNext with
  | some job => if s.slotFree adc 0 || s.slotFree adc 1 then s else s.owSecond adc job
  | none => s

/-- The EOC of a pair sample: word i of the pair's blocks; the converter's next sample begins at once (R164). -/
def State.eocPair (s : State) (adc : Nat) (r : AdcS) : State :=
  let k := adc / 2
  let (v, clip) := s.correct adc (rawCode r.nv)
  let w := resultWord false clip (adc % 2) 2 r.job.ain v
  let s := (s.release adc).onlyIf clip (·.flag Reg.ADC_STATUS.CLIP adc)
  let s := ((s.wr Reg.ADC_LAST.WORD adc w).keepAin r.job.ain w).setWord
    (0x49000000 + s.rd Reg.IL_CTRL.IL_BASE k * 0x1000 + 4 * r.job.src) w
  (s.wr Reg.IL_STATUS.COUNT k (s.rd Reg.IL_STATUS.COUNT k + 1)).pairSample k (r.job.src + 2) (r.smp2 + 42)

/-! ## Meanings -/

/-- Does a route start the sequencer of cluster j (R150)? -/
def seqTarget (j : Nat) (r : Route) : Bool :=
  (r.kind == 1 || r.kind == 5) && r.dst / 256 == 2 && r.dst % 256 / 8 == j && bits r.par 4 2 == 0

/-- R152: a route trigger reaches the sequencer. -/
def execSeqStart (j : Fin 4) (s : State) : Host.Outcome State Fault Refusal :=
  .next (if (s.pulseAt (seqTarget j.val)).isSome && s.present (0x13 + j.val) then
      (s.takePulse (seqTarget j.val)).seqStart j.val
    else s)

/-- R153: the next group issues at the first tick edge at which it may. -/
def execSeqGroupIssue (j : Fin 4) (s : State) : Host.Outcome State Fault Refusal :=
  .next (if s.present (0x13 + j.val) then s.issueGroup j.val else s)

/-- R147: acquisition has lasted its ticks; the input is sampled SKEW_TRIM after that edge. `nv` is the voltage at the input in nanovolts. -/
def execAdcSamplingInstant (adc : Fin 32) (nv : Int) (s : State) : Host.Outcome State Fault Refusal :=
  .next (
    let r := s.adc adc.val
    if s.present (islAdc adc.val) && r.phase == .acquiring && decide (r.job.start2 + 2 * r.job.acq ≤ 2 * s.now + 1) then
      let edge := r.job.start2 + 2 * r.job.acq
      let at' : Int := edge * 64 + s.skew adc.val
      s.setAdc adc.val { r with phase := .converting, smp2 := edge, smpAt := at', nv := nv
                                smpTime := ((s.chainTime : Int) + at' / 128 - s.now).toNat }
    else s)

/-- R147: the conversion ends 21 ticks after the sampling instant's tick edge. -/
def execAdcEoc (adc : Fin 32) (s : State) : Host.Outcome State Fault Refusal :=
  .next (
    let r := s.adc adc.val
    if s.present (islAdc adc.val) && r.phase == .converting && decide (r.smp2 + 42 ≤ 2 * s.now + 1) then
      match r.job.kind with
      | 0 => s.eocSeq adc.val r
      | 1 => s.eocInj adc.val r
      | _ => s.eocPair adc.val r
    else s)

/-- The owner that an injected slot's enable acts for (R151). -/
def State.injOwner (s : State) (adc : Nat) : Nat :=
  if s.claimState (0x200 + adc) = 0 then 0x10 + adc / 8 else s.claimOwner (0x200 + adc)

/-- Writing ADC_INJ.EN = 1 (R151). -/
def State.injEnable (s : State) (adc slot : Nat) : State :=
  s.claimAll (s.injOwner adc) [0x200 + adc] (fun t => t.wr2 Reg.ADC_INJ.EN adc slot 1) id

/-- Writing ADC_INJ.EN = 0: the cluster's dynamic claim goes when neither the other slot nor the sequencer needs it (R61). -/
def State.injDisable (s : State) (adc slot : Nat) : State :=
  let s := s.wr2 Reg.ADC_INJ.EN adc slot 0
  if s.slotsOn adc || (s.seq (adc / 8)).claims.contains (0x200 + adc) then s
  else s.releaseClaims (0x10 + adc / 8) [0x200 + adc]

/-- A route trigger that has arrived reaches its slot. -/
def State.injRoute (s : State) (adc slot : Nat) : State := (s.takePulse (injTarget adc slot)).injTrig adc slot

/-- R156: a route trigger reaches an injected slot; of two that arrived in one tick, that of J0 first (R157). -/
def execInjTrigger (adc : Fin 32) (slot : Fin 2) (s : State) : Host.Outcome State Fault Refusal :=
  .next (if (s.pulseAt (injTarget adc.val slot.val)).isSome && s.present (islAdc adc.val) then
      let both : Bool := slot.val == 1 && s.pulseAt (injTarget adc.val 0) == s.pulseAt (injTarget adc.val 1)
      (s.onlyIf both (·.injRoute adc.val 0)).injRoute adc.val slot.val
    else s)

/-- R156: a pending slot starts at the first tick edge at which its converter is idle. -/
def execInjSlotStart (adc : Fin 32) (slot : Fin 2) (s : State) : Host.Outcome State Fault Refusal :=
  .next (if s.present (islAdc adc.val) && s.slotReady adc.val slot.val then s.startSlot adc.val slot.val else s)

/-- R163: a waiting calibration begins once what was pending or running at its request has ended. -/
def execAdcCalBegin (adc : Fin 32) (s : State) : Host.Outcome State Fault Refusal :=
  .next (
    let r := s.adc adc.val
    if s.rd Reg.ADC_STATUS.CAL_ST adc.val = 1 ∧ s.adcIdle adc.val ∧ r.pre0 = false ∧ r.pre1 = false then
      ((s.setAdc adc.val { r with calAt := s.now }).wr Reg.ADC_STATUS.CAL_ST adc.val 2).flag Reg.ADC_STATUS.BUSY adc.val
    else s)

/-- R162: a calibration ends 18,432 ticks after its start; `lo` and `hi` are the sums of the 256 raw codes of the two references. -/
def execAdcCalDone (adc : Fin 32) (lo hi : Nat) (s : State) : Host.Outcome State Fault Refusal :=
  .next (
    if s.rd Reg.ADC_STATUS.CAL_ST adc.val = 2 ∧ (s.adc adc.val).calAt + 18432 ≤ s.now then
      match calTrims ((lo : Rat) / 256) ((hi : Rat) / 256) with
      | some (g, o) =>
        let t := (s.wrI Reg.ADC_TRIM.GAIN_TRIM adc.val g).wrI Reg.ADC_TRIM.OFS_TRIM adc.val o
        let t := if t.on Reg.ADC_CTRL.CAL_STORE adc.val then t.storeAdcTrims adc.val else t
        (t.calEnd adc.val).flag Reg.ADC_STATUS.CAL_DONE adc.val
      | none => ((s.calEnd adc.val).flag Reg.ADC_STATUS.CAL_DONE adc.val).flag Reg.ADC_STATUS.CAL_ERR adc.val
    else s)

/-- Does a route start a burst of this pair (R150)? -/
def pairTarget (k : Nat) (r : Route) : Bool :=
  (r.kind == 1 || r.kind == 5) && r.dst == 0x200 + 2 * k && bits r.par 4 2 == 3

/-- R164: a TARGET 3 route reaches the pair. -/
def execPairBurstTrigger (k : Fin 16) (s : State) : Host.Outcome State Fault Refusal :=
  .next (if (s.pulseAt (pairTarget k.val)).isSome && s.present (0x13 + k.val / 4) then
      (s.takePulse (pairTarget k.val)).burstStart k.val
    else s)

/-- R164: the last EOC of a burst has come; with CONT = 1 a new burst starts at the next tick. -/
def execPairBurstDone (k : Fin 16) (s : State) : Host.Outcome State Fault Refusal :=
  .next (if s.on Reg.IL_FLAGS.RUNNING k.val ∧ (s.pair k.val).len ≤ s.rd Reg.IL_STATUS.COUNT k.val then
      let t := (s.wr Reg.IL_FLAGS.RUNNING k.val 0).flag Reg.IL_FLAGS.DONE k.val
      t.setPair k.val { t.pair k.val with again := t.on Reg.IL_CTRL.CONT k.val }
    else s)

/-- A tick edge of the converters: results reach their rings, and runs and bursts with CONT = 1 begin anew (R153, R154, R164). -/
def State.adcEdge (s : State) : State :=
  let s := foldEach (fun j (t : State) =>
    let t := t.onlyIf ((t.seq j).out != []) (·.ringFlush j)
    t.onlyIf (t.seq j).again fun u => (u.setSeq j { u.seq j with again := false }).seqStart j) [0, 1, 2, 3] s
  foldEach (fun k (t : State) => t.onlyIf (t.pair k).again fun u => (u.setPair k { u.pair k with again := false }).burstStart k)
    (List.range 16) s

/-- A write of PAIR_CAL = 1 (R165). -/
def State.pairCal (s : State) (k : Nat) : State :=
  if s.claimedByEnabled (0x200 + 2 * k) then s.flag Reg.IL_FLAGS.PAIR_ERR k
  else if s.rd Reg.IL_FLAGS.CAL_ST k ≠ 0 then s
  else (s.wr Reg.IL_FLAGS.CAL_ST k 1).flag Reg.IL_CTRL.PAIR_CAL k

/-- R165: no burst runs any more; the odd converter's trims are saved and set to 0. -/
def execPairCalBegin (k : Fin 16) (s : State) : Host.Outcome State Fault Refusal :=
  .next (if s.rd Reg.IL_FLAGS.CAL_ST k.val = 1 ∧ s.rd Reg.IL_FLAGS.RUNNING k.val = 0 then
      let o := 2 * k.val + 1
      let t := s.setPair k.val { s.pair k.val with
        saved := (s.rd Reg.ADC_TRIM.GAIN_TRIM o, s.rd Reg.ADC_TRIM.OFS_TRIM o, s.rd Reg.ADC_SKEW.SKEW_TRIM o) }
      let t := ((t.wr Reg.IL_FLAGS.CAL_ST k.val 2).wr Reg.ADC_TRIM.GAIN_TRIM o 0).wr Reg.ADC_TRIM.OFS_TRIM o 0
      (t.flag Reg.ADC_STATUS.BUSY (2 * k.val)).flag Reg.ADC_STATUS.BUSY o
    else s)

/-- Gain and offset of the odd converter from the four means (R165). -/
def pairTrims (eLo eHi oLo oHi : Rat) : Option (Int × Int) :=
  if oHi = oLo then none
  else
    let g := roundAway (((eHi - eLo) / (oHi - oLo) - 1) * 2 ^ 20)
    let o := roundAway (16 * (eLo - oLo * (1 + (g : Rat) / 2 ^ 20)))
    if -32768 ≤ g ∧ g ≤ 32767 ∧ -32768 ≤ o ∧ o ≤ 32767 then some (g, o) else none

/-- The skew after the ramp passes (R165): up to four, each moving it by round(mean / 0.512); none if the last step is not 0. The list
holds the sums of O − E over 256 conversions of each pass. -/
def skewPasses : Nat → Int → List Int → Option Int
  | _, k, [] => some k
  | 0, _, _ :: _ => none
  | n + 1, k, x :: t =>
    let st := roundAway ((x : Rat) / 256 * 1000 / 512)
    if st = 0 then some k else if n = 0 then none else skewPasses n (k - st) t

/-- R165: pair calibration ends with new trims of the odd converter, or restores the saved ones. The operands are the sums of 256
corrected results of each reference and of each ramp pass. -/
def execPairCalDone (k : Fin 16) (eLo eHi oLo oHi : Nat) (ramp : List Int) (s : State) : Host.Outcome State Fault Refusal :=
  .next (if s.rd Reg.IL_FLAGS.CAL_ST k.val = 2 then
      let o := 2 * k.val + 1
      let (g0, o0, k0) := (s.pair k.val).saved
      let trims := pairTrims ((eLo : Rat) / 256) ((eHi : Rat) / 256) ((oLo : Rat) / 256) ((oHi : Rat) / 256)
      let skew := skewPasses 4 (s.skew o) (ramp.take 4)
      let t := match trims, skew with
        | some (g, f), some sk =>
          if -127 ≤ sk ∧ sk ≤ 127 then
            let u := ((s.wrI Reg.ADC_TRIM.GAIN_TRIM o g).wrI Reg.ADC_TRIM.OFS_TRIM o f).wrI Reg.ADC_SKEW.SKEW_TRIM o sk
            if u.on Reg.IL_CTRL.CAL_STORE k.val then u.storeAdcTrims o else u
          else (((s.wr Reg.ADC_TRIM.GAIN_TRIM o g0).wr Reg.ADC_TRIM.OFS_TRIM o o0).wr Reg.ADC_SKEW.SKEW_TRIM o k0).flag
            Reg.IL_FLAGS.PAIR_ERR k.val
        | _, _ => (((s.wr Reg.ADC_TRIM.GAIN_TRIM o g0).wr Reg.ADC_TRIM.OFS_TRIM o o0).wr Reg.ADC_SKEW.SKEW_TRIM o k0).flag
            Reg.IL_FLAGS.PAIR_ERR k.val
      let t := (t.wr Reg.ADC_STATUS.BUSY (2 * k.val) 0).wr Reg.ADC_STATUS.BUSY o 0
      ((t.wr Reg.IL_FLAGS.CAL_ST k.val 0).flag Reg.IL_FLAGS.DONE k.val).wr Reg.IL_CTRL.PAIR_CAL k.val 0
    else s)

end Sys2Proof.Machine
end

