-- ==== Sys2Proof/Machine/Mailbox.lean ====
section
/-! DEFINITION. Mailboxes, doorbells and semaphores: the operations of spec/13_messaging_and_hosts.md that commands, Rowan and Alder
share (R317 to R331). An endpoint code is the number of its master: 0 Ash, 1 Elm, 2 Oak, 3 Alder, 4 H0, 5 H1; 6 is Rowan. -/

namespace Sys2Proof.Machine

/-- The present epoch of an endpoint (R318). -/
def State.epoch (s : State) (e : Nat) : Nat := s.rd Reg.EP_EPOCH.EPOCH e

/-! ## Mailboxes -/

def State.mbState (s : State) (n : Nat) : Nat := s.rd Reg.MB_STAT.STATE n

/-- The receiver of a mailbox; MB60 to MB63 belong to Rowan (R319). -/
def State.mbRx (s : State) (n : Nat) : Nat := if 60 ≤ n then 6 else s.rd Reg.MB_CFG.RX n

/-- A data word. -/
def State.mbWord (s : State) (n w : Nat) : Nat := s.rd Reg.MB_DATA.DATA n w

/-- The words of a message. -/
def State.mbWords (s : State) (n : Nat) : List Nat := (List.range (s.rd Reg.MB_HDR.LEN n)).map fun w => s.mbWord n w

/-- R_RESET and S_RESET of a mailbox are computed (R324). -/
def State.mbShow (s : State) (n : Nat) : State :=
  let full := s.mbState n = 2
  (s.wr Reg.MB_STAT.R_RESET n (b2n (full && s.epoch (s.mbRx n) != s.rd Reg.MB_EPOCH.R_EPOCH n))).wr Reg.MB_STAT.S_RESET n
    (b2n (full && s.epoch (s.rd Reg.MB_HDR.SENDER n) != s.rd Reg.MB_EPOCH.S_EPOCH n))

/-- A mailbox becomes EMPTY (R320): its content reads 0 and SENDER and FILLER read 7. -/
def State.mbEmpty (s : State) (n : Nat) : State :=
  let s := foldEach (fun w t => t.wr2 Reg.MB_DATA.DATA n w 0) (List.range 16) s
  let s := ((s.wr Reg.MB_HDR.USER n 0).wr Reg.MB_HDR.LEN n 0).wr Reg.MB_HDR.SENDER n 7
  let s := ((s.wr Reg.MB_EPOCH.S_EPOCH n 0).wr Reg.MB_EPOCH.R_EPOCH n 0).wr Reg.MB_TIME.TIME n 0
  ((s.wr Reg.MB_STAT.STATE n 0).wr Reg.MB_STAT.FILLER n 7).mbShow n

/-- May an endpoint write the content of a mailbox (R320, R323)? -/
def State.mbMayFill (s : State) (n e : Nat) : Bool :=
  s.mbState n == 0 || (s.mbState n == 1 && s.rd Reg.MB_STAT.FILLER n == e)

/-- A write of content by an endpoint that may write it: the first one starts the fill (R320). -/
def State.mbFill (s : State) (n e : Nat) (f : State → State) : State :=
  let s := if s.mbState n = 0 then (s.wr Reg.MB_STAT.STATE n 1).wr Reg.MB_STAT.FILLER n e else s
  f s

/-- The island of an endpoint from 0 to 3 (R327). -/
def islEndpoint (e : Nat) : Nat := if e = 3 then islALD else islCPX

/-- The notification at a posting (R325, R327): a doorbell bit, or the wake event. Rowan takes none (R319). -/
def State.mbNotify (s : State) (n : Nat) : State :=
  let rx := s.mbRx n
  if 6 ≤ rx then s
  else if s.on Reg.MB_CFG.NOTIFY n then
    let s := (s.flag Reg.DB_WAKE.WAKE rx).wr Reg.DB_WAKE.WAKE_MB rx n
    if rx ≤ 3 then s.closeSwitch (islEndpoint rx) else s
  else s.wr Reg.DB_PEND.PEND rx (withBit (s.rd Reg.DB_PEND.PEND rx) (s.rd Reg.MB_CFG.DB n))

/-- The posting of a message by its filler (R321). -/
def State.mbPost (s : State) (n e : Nat) : State :=
  let len := s.rd Reg.MB_HDR.LEN n
  let s := foldEach (fun w t => if len ≤ w then t.wr2 Reg.MB_DATA.DATA n w 0 else t) (List.range 16) s
  let s := ((s.wr Reg.MB_HDR.SENDER n e).wr Reg.MB_EPOCH.S_EPOCH n (s.epoch e)).wr Reg.MB_EPOCH.R_EPOCH n (s.epoch (s.mbRx n))
  let s := ((s.wr Reg.MB_TIME.TIME n s.chainTime).wr Reg.MB_STAT.STATE n 2).wr Reg.MB_STAT.FILLER n 7
  (s.mbShow n).mbNotify n

/-- An internal sender posts a whole message into an EMPTY mailbox (Alder's replies, R439). -/
def State.mbSend (s : State) (n e : Nat) (ws : List Nat) : State :=
  let s := foldEach (fun w t => t.wr2 Reg.MB_DATA.DATA n w (ws.getD w 0)) (List.range 16) s
  (s.wr Reg.MB_HDR.LEN n ws.length).mbPost n e

/-! ## Doorbells (R326) -/

/-- (DB_PEND AND DB_MASK) of an endpoint. -/
def State.dbWord (s : State) (e : Nat) : Nat := s.rd Reg.DB_PEND.PEND e &&& s.rd Reg.DB_MASK.MASK e

/-- The doorbell level of an endpoint. -/
def State.dbLevel (s : State) (e : Nat) : Bool := s.dbWord e != 0 || s.on Reg.DB_WAKE.WAKE e

/-! ## Semaphores (R328): the holder is the HOLDER field of SEM_PEEK -/

def State.semHolder (s : State) (n : Nat) : Nat := bits (s.rd Reg.SEM_PEEK.WORD n) 16 3

/-- The word of R328 with its holder. -/
def semWord (res holder : Nat) : Nat :=
  let host : Bool := holder == 4 || holder == 5
  res * 2 ^ 30 + holder * 2 ^ 16 + b2n host * 2 ^ 8 + (if host then holder - 4 else 0)

/-- Set the holder; SEM_PEEK shows it (RES 3 while held; a holder's own peek reads RES 2, which the read forms). -/
def State.setSem (s : State) (n holder : Nat) : State :=
  s.wr Reg.SEM_PEEK.WORD n (semWord (if holder = 7 then 0 else 3) holder)

/-- The word that a read of SEM_PEEK gives an endpoint. -/
def State.semPeek (s : State) (n e : Nat) : Nat :=
  let h := s.semHolder n
  semWord (if h = 7 then 0 else if h = e then 2 else 3) h

/-- A read of SEM_ACQ by an endpoint: it acquires a free semaphore; the word it returns (R328). -/
def State.semAcq (s : State) (n e : Nat) : State × Nat :=
  if s.semHolder n = 7 then (s.setSem n e, semWord 1 e) else (s, s.semPeek n e)

/-- A write of SEM_ACQ (R329). -/
def State.semRelease (s : State) (n e : Nat) : State :=
  if s.semHolder n = e then s.setSem n 7 else s.flag Reg.SEM_CTRL.REL_DENIED 0

/-! ## Epochs -/

/-- An endpoint resets: its epoch advances, its semaphores are released, its fills are discarded (R318, R324, R329). -/
def State.advanceEpoch (s : State) (e : Nat) : State :=
  let s := s.wr Reg.EP_EPOCH.EPOCH e (s.epoch e + 1)
  let s := foldEach (fun n t => if t.semHolder n = e ∧ e < 6 then (t.setSem n 7).flag Reg.SEM_CTRL.STALE_REL 0 else t) (List.range 64) s
  foldEach (fun n t =>
    if t.mbState n = 1 ∧ t.rd Reg.MB_STAT.FILLER n = e then (t.mbEmpty n).flag Reg.MB_STAT.FILL_LOST n else t.mbShow n)
    (List.range 64) s

end Sys2Proof.Machine
end

