-- ==== Sys2Proof/Machine/Crc.lean ====
section
/-! DEFINITION. The CRC-32 of R270: polynomial 0x04C1_1DB7, reflected, initial value and final XOR all ones. -/

namespace Sys2Proof.Machine

/-- Eight steps of the reflected register. -/
def crcBits : Nat → Nat → Nat
  | 0, c => c
  | k + 1, c => crcBits k (if c % 2 = 1 then (c / 2) ^^^ 0xEDB88320 else c / 2)

/-- The register after some bytes. -/
def crcBytes : List Nat → Nat → Nat
  | [], c => c
  | b :: t, c => crcBytes t (crcBits 8 (c ^^^ (b % 256)))

/-- The CRC-32 of a byte list. -/
def crc32 (l : List Nat) : Nat := crcBytes l 0xFFFFFFFF ^^^ 0xFFFFFFFF

/-- The CRC-32 of 32-bit words as little-endian bytes. -/
def crcWords (l : List Nat) : Nat := crc32 (l.flatMap (leBytes 4))

end Sys2Proof.Machine
end

