-- ==== Sys2Proof/Machine/Cedar.lean ====
section
/-! DEFINITION. The loop units of Cedar (spec/08_cedar.md): instruction words, operands, arithmetic, control blocks, starts, runs,
coefficient banks and validation. An instruction command names its unit; the unit fetches the word from its bank and executes it
where it is that instruction. -/

namespace Sys2Proof.Machine

/-! ## Instruction words (R187, R190, R192) -/

/-- Byte address of the bank of a unit (R187). -/
def luBank (u : Nat) : Nat := 0x48000000 + u * 0x10000

def wOp (w : Nat) : Nat := bits w 56 8
def wCond (w : Nat) : Nat := bits w 54 2
def wDst (w : Nat) : Nat := bits w 40 8
def wSa (w : Nat) : Nat := bits w 32 8
def wSb (w : Nat) : Nat := bits w 24 8
def wSc (w : Nat) : Nat := bits w 16 8
def wAux (w : Nat) : Nat := bits w 0 16
def wImm (w : Nat) : Nat := bits w 0 32

/-- What R192 and R198 give an OP: the kind of DST (0 unused, 1 data register, 2 leg, 3 output), the operands read, the AUX bits
that the operation uses, the data registers written, and the cycles. -/
def opForm (op : Nat) : Option (Nat × Nat × Nat × Nat × Nat) :=
  match op with
  | 0x00 => some (0, 0, 0, 0, 1)
  | 0x01 => some (0, 0, 0, 0, 1)
  | 0x02 => some (1, 1, 0, 1, 1)
  | 0x03 => some (1, 0, 0, 1, 1)
  | 0x04 => some (1, 2, 0, 1, 1)
  | 0x05 => some (1, 2, 0, 1, 1)
  | 0x06 => some (1, 2, 0, 1, 1)
  | 0x07 => some (1, 2, 1, 1, 2)
  | 0x08 => some (0, 2, 15, 0, 2)
  | 0x09 => some (1, 0, 7, 1, 1)
  | 0x0A => some (0, 0, 7, 0, 1)
  | 0x0B => some (1, 1, 1, 1, 1)
  | 0x0C => some (1, 2, 1, 1, 1)
  | 0x0D => some (0, 2, 3, 0, 1)
  | 0x0E => some (0, 1, 0, 0, 1)
  | 0x0F => some (1, 2, 0, 1, 1)
  | 0x10 => some (1, 2, 0, 1, 18)
  | 0x11 => some (1, 2, 0, 1, 12)
  | 0x12 => some (1, 1, 0, 2, 6)
  | 0x13 => some (1, 2, 1, 2, 3)
  | 0x14 => some (1, 2, 0, 3, 3)
  | 0x15 => some (1, 3, 0, 2, 8)
  | 0x16 => some (1, 3, 0, 2, 8)
  | 0x17 => some (1, 1, 15, 1, 4)
  | 0x18 => some (1, 1, 15, 1, 6)
  | 0x19 => some (1, 2, 0, 3, 6)
  | 0x1A => some (1, 1, 7, 1, 6)
  | 0x20 => some (2, 1, 3, 0, 2)
  | 0x21 => some (0, 0, 3, 0, 1)
  | 0x22 => some (3, 1, 0, 0, 1)
  | _ => none

/-- The operand codes that an instruction word reads (R192): CLARKE reads c with AUX 1 only (R194). -/
def wReads (w : Nat) : List Nat :=
  match opForm (wOp w) with
  | some (_, k, _, _, _) =>
    let k := if wOp w = 0x13 ∧ wAux w % 2 = 1 then 3 else k
    [wSa w, wSb w, wSc w].take k
  | none => []

/-- The cycles of a word (R192). -/
def wCycles (w : Nat) : Nat :=
  match opForm (wOp w) with
  | some (_, _, _, _, c) => c
  | none => 0

/-- The readable operand codes (R191). -/
def operandOk (c : Nat) : Bool := decide (c < 0x60) || (0x68 ≤ c && c ≤ 0x6B) || (0x80 ≤ c && c ≤ 0xFF)

/-- Check 4 of R209 for one word. -/
def wordLegal (w : Nat) : Bool :=
  match opForm (wOp w) with
  | none => false
  | some (dk, _, mask, nd, _) =>
    let n := (wReads w).length
    wCond w != 3 && bits w 48 6 == 0
      && (match dk with
          | 0 => wDst w == 0
          | 1 => decide (wDst w + nd ≤ 64)
          | 2 => decide (wDst w < 32)
          | _ => decide (wDst w < 16))
      && (wReads w).all operandOk
      && (if wOp w = 0x03 then wSa w == 0
          else (1 ≤ n || wSa w == 0) && (2 ≤ n || wSb w == 0) && (3 ≤ n || wSc w == 0)
            && decide (wAux w ≤ mask) && (wAux w &&& mask) == wAux w)
      && (wOp w != 0x0E || (0x40 ≤ wSa w && wSa w < 0x50))
      && (wOp w != 0x20 || wAux w != 3)

/-! ## Operands (R191, R203) -/

/-- The active coefficient k of a unit (R207). -/
def State.coef (s : State) (u k : Nat) : Int :=
  sgn 32 (s.rd Reg.COEF.C u (s.rd Reg.LU_STAT.ACTIVE_BANK u * 256 + k))

/-- An operand as a signed 32-bit word. -/
def State.operand (s : State) (u c : Nat) : Int :=
  let r := s.lu u
  if c < 0x40 then sgn 32 (SMap.get 0 r.d c)
  else if c < 0x50 then sgn 32 (r.inp.getD (c - 0x40) 0)
  else if c < 0x60 then sgn 32 (r.sp.getD (c - 0x50) 0)
  else if c = 0x68 then sgn 32 (r.ang * 256)
  else if c = 0x69 then sgn 32 r.spd
  else if c = 0x6B then 2 ^ 30
  else if 0x80 ≤ c then s.coef u (c - 0x80)
  else 0

/-- Does a word read an IN operand that was latched with BAD (R203)? -/
def State.readsBad (s : State) (u w : Nat) : Bool :=
  (wReads w).any fun c => 0x40 ≤ c && c < 0x50 && bitAt (s.lu u).bad (c - 0x40)

/-! ## Results -/

/-- A saturation sets SAT of the running program, and SAT_ANY (R193). -/
def State.markSat (s : State) (u : Nat) : State :=
  match (s.lu u).run with
  | some p => (s.flag2 Reg.LP_STAT.SAT u p).flag Reg.LU_STAT.SAT_ANY u
  | none => s

/-- Write a data register (R189). -/
def State.putD (s : State) (u k v : Nat) : State := s.setLu u { s.lu u with d := SMap.set 0 (s.lu u).d (k % 64) (v % 2 ^ 32) }

/-- Write a saturated result to a data register (R193). -/
def State.putSat (s : State) (u k : Nat) (x : Int) : State :=
  (s.putD u k (uns 32 (satI 32 x))).onlyIf (satI 32 x ≠ x) (·.markSat u)

/-- Write a predicate. -/
def State.putP (s : State) (u : Nat) (b : Bool) : State := s.setLu u { s.lu u with p := b }

/-- The accumulator k (R189). -/
def State.acc (s : State) (u k : Nat) : Int := SMap.get 0 (s.lu u).acc k

/-- Write a saturated accumulator (R193). -/
def State.putAcc (s : State) (u k : Nat) (x : Int) : State :=
  (s.setLu u { s.lu u with acc := SMap.set 0 (s.lu u).acc k (satI 48 x) }).onlyIf (satI 48 x ≠ x) (·.markSat u)

/-! ## Faults of a unit (R211) -/

/-- A unit stops: its run is abandoned, and the stage that it serves trips (R33, R211). -/
def State.luStop (s : State) (u : Nat) (why : FD) : State :=
  let s := s.setLu u { s.lu u with run := none, queue := [], arms := 0, staged := [], rel := [], reqs := [] }
  let s := foldEach (fun p t => t.wr2 Reg.LP_STAT.PENDING u p 0) [0, 1, 2, 3] s
  (((s.wr Reg.LU_STAT.RUNNING u 0).flag Reg.LU_STAT.FAULT u).flag why u).unitFault (0x500 + u)

/-- A unit meets a double-bit error in its bank (R33, R211). -/
def State.luEcc (s : State) (u a : Nat) : State := (s.eccMet a islCED).luStop u Reg.LU_STAT.ECC

/-! ## Programs -/

def State.lpLen (s : State) (u p : Nat) : Nat := s.rd Reg.LP_CFG.LEN u p
def State.lpAddr (s : State) (u p : Nat) : Nat := s.rd Reg.LP_CFG.START_ADDR u p

/-- The word i of a program. -/
def State.lpWord (s : State) (u p i : Nat) : Nat := s.num (luBank u + 8 * (s.lpAddr u p + i)) 8

/-- The words of a program from word i on, at most 1,024. -/
def State.lpWords (s : State) (u p : Nat) (i : Nat := 0) : List Nat :=
  (List.range (min (s.lpLen u p) 1024 - i)).map fun k => s.lpWord u p (i + k)

/-- PEN = 1, or validating: its words and configuration are protected (R209, R210). -/
def State.lpHeld (s : State) (u p : Nat) : Bool := s.on Reg.LP_CFG.PEN u p || s.on Reg.LP_STAT.VALIDATING u p

/-- The blocks that a program uses, with 1 for PI and 2 for PR (R195, R209). -/
def blocksOf (ws : List Nat) : List (Nat × Nat) :=
  ws.filterMap fun w =>
    if wOp w = 0x17 then some (wAux w % 16, 1) else if wOp w = 0x18 then some (wAux w % 16, 2) else none

/-- The leg targets that a program writes (R209). -/
def targetsOf (ws : List Nat) : List (Nat × Nat) :=
  ws.filterMap fun w => if wOp w = 0x20 then some (wDst w % 32, wAux w % 4) else none

/-- The table descriptors that a program uses. -/
def tablesOf (ws : List Nat) : List Nat := ws.filterMap fun w => if wOp w = 0x1A then some (wAux w % 8) else none

/-- The slots that a program reads: those of its words and of its sample set. -/
def State.slotsRead (s : State) (u p : Nat) : List Nat :=
  ((s.lpWords u p).flatMap fun w => (wReads w).filterMap fun c => if 0x40 ≤ c ∧ c < 0x50 then some (c - 0x40) else none)
    ++ bitList 16 (s.rd Reg.LP_MASK.REQ_MASK u p)

/-- The programs of a unit with PEN = 1. -/
def State.lpEnabled (s : State) (u : Nat) : List Nat := (List.range 4).filter fun p => s.on Reg.LP_CFG.PEN u p

/-- Does an enabled program of the unit use a block? -/
def State.blkUsed (s : State) (u b : Nat) : Bool :=
  (s.lpEnabled u).any fun p => (blocksOf (s.lpWords u p)).any fun e => e.1 == b

/-- T and W of a program (R205). -/
def cycT (ws : List Nat) : Nat := (ws.map wCycles).sum
def cycW : List Nat → Nat
  | [] => 0
  | w :: t => if (w :: t).any (fun x => wOp x == 0x20) then wCycles w + cycW t else 0

/-- BOUND_OK of every program of a unit, evaluated at each enable and disable (R206). -/
def State.bounds (s : State) (u : Nat) : State :=
  foldEach (fun p t =>
    let others := ((t.lpEnabled u).filter (· ≠ p)).map fun q => t.rd Reg.LP_CYC.T u q
    let w := t.rd Reg.LP_CYC.W u p
    t.wr2 Reg.LP_STAT.BOUND_OK u p (b2n (t.on Reg.LP_CFG.PEN u p && decide (0 < w) && decide (w + others.sum ≤ 320))))
    [0, 1, 2, 3] s

/-! ## Banks and blocks (R196, R207) -/

/-- The coefficient banks change places. -/
def State.swapBank (s : State) (u : Nat) : State :=
  if s.on Reg.LU_STAT.SWAP_PEND u then
    ((s.wr Reg.LU_STAT.ACTIVE_BANK u (1 - s.rd Reg.LU_STAT.ACTIVE_BANK u)).wr Reg.LU_STAT.SWAP_PEND u 0).wr
      Reg.LU_CTRL.SWAP_REQ u 0
  else s

/-- A pending swap takes place at once where no program of the unit is enabled and no run is in progress (R207, R208). -/
def State.swapIdle (s : State) (u : Nat) : State :=
  if (s.lpEnabled u).isEmpty && (s.lu u).run.isNone then s.swapBank u else s

/-- A request for a swap (R207, R208). -/
def State.swapReq (s : State) (u : Nat) : State :=
  if s.on Reg.LU_STAT.SWAP_PEND u then s
  else ((s.flag Reg.LU_STAT.SWAP_PEND u).flag Reg.LU_CTRL.SWAP_REQ u).swapIdle u

/-- Clear the states of a block (R196). -/
def State.clearBlk (s : State) (u b : Nat) : State :=
  ((s.wr2 Reg.BLK_S1.S1 u b 0).wr2 Reg.BLK_S2.S2 u b 0).wr2 Reg.BLK_CTRL.CLR u b 0

/-- A write of CLR = 1: at once where no enabled program uses the block, else at the next start (R196). -/
def State.clrReq (s : State) (u b : Nat) : State :=
  if s.blkUsed u b then s.flag2 Reg.BLK_CTRL.CLR u b else s.clearBlk u b

/-- A control block b with error e (R195). Products and states are exact until they are stored; each is rounded once (R193). The
coefficients k = 0 to 4 lie at C(128 + 8 b + k). -/
def State.blkLimit (s : State) (u b : Nat) (x : Int) : Int × Bool :=
  let hi := s.coef u (128 + 8 * b + 3) * 4
  let lo := s.coef u (128 + 8 * b + 4) * 4
  if hi < x then (hi, true) else if x < lo then (lo, true) else (x, false)

/-- The 48-bit saturation of an exact value in units of 2^-(30 + k): the value that goes on, and the state that is stored. -/
def sat48At (k : Nat) (x : Int) : Int × Int :=
  let r := divHalfAway x (2 ^ k)
  if satI 48 r = r then (x, r) else (satI 48 r * 2 ^ k, satI 48 r)

/-- The end of a block: LIM where the output was limited, SAT where a value saturated, and the output. -/
def State.blkEnd (s : State) (u b d : Nat) (y : Int) (lim sat : Bool) : State :=
  ((s.onlyIf lim (·.flag2 Reg.BLK_CTRL.LIM u b)).onlyIf sat (·.markSat u)).putSat u d y

/-- PI(e) (R195). -/
def State.blkPI (s : State) (u b d : Nat) (e : Int) : State :=
  let c := fun k => s.coef u (128 + 8 * b + k)
  let x := sgn 48 (s.rd Reg.BLK_S1.S1 u b) * 2 ^ 28 + c 1 * e
  let (xin, inn) := sat48At 28 x
  let (y, lim) := s.blkLimit u b (divHalfAway (c 0 * e + xin) (2 ^ 28))
  let s1 := if !s.on Reg.BLK_CTRL.CI u b then min (max inn (c 4 * 4)) (c 3 * 4)
    else if lim then sgn 48 (s.rd Reg.BLK_S1.S1 u b) else inn
  (s.wr2 Reg.BLK_S1.S1 u b (uns 48 s1)).blkEnd u b d y lim (xin ≠ x)

/-- PR(e) (R195). -/
def State.blkPR (s : State) (u b d : Nat) (e : Int) : State :=
  let c := fun k => s.coef u (128 + 8 * b + k)
  let s1 := sgn 48 (s.rd Reg.BLK_S1.S1 u b)
  let s2 := sgn 48 (s.rd Reg.BLK_S2.S2 u b)
  let x1 := s1 * 2 ^ 28 + c 1 * e - c 2 * s2
  let (y1, n1) := sat48At 28 x1
  let x2 := s2 * 2 ^ 56 + c 2 * y1
  let (y2, n2) := sat48At 56 x2
  let (y, lim) := s.blkLimit u b (divHalfAway (c 0 * e + y1) (2 ^ 28))
  let s := if !s.on Reg.BLK_CTRL.CI u b ∨ !lim then (s.wr2 Reg.BLK_S1.S1 u b (uns 48 n1)).wr2 Reg.BLK_S2.S2 u b (uns 48 n2) else s
  s.blkEnd u b d y lim (y1 ≠ x1 ∨ y2 ≠ x2)

/-! ## Angles and vectors (R194) -/

/-- The 24-bit angle of an operand. -/
def thetaOf (x : Int) : Nat := uns 32 x / 256

/-- The interpolated table value at a 24-bit angle, in units of 2^-42. -/
def sineAt (th : Nat) : Int :=
  let i := th % 2 ^ 24 / 4096
  sineEntry i * 4096 + (sineEntry (i + 1) - sineEntry i) * (th % 4096 : Nat)

/-- The interpolated cosine: the entry 1,024 further on. -/
def cosineAt (th : Nat) : Int := sineAt (th + 0x400000)

/-- A value p + q √3 of the space-vector modulation, in units of 2^-32. -/
def svmMax (a b : Int × Int) : Int × Int := if sqrt3Nonneg (a.1 - b.1) (a.2 - b.2) then a else b
def svmMin (a b : Int × Int) : Int × Int := if sqrt3Nonneg (a.1 - b.1) (a.2 - b.2) then b else a

/-- The three duties of SVM before the clamp, rounded once (R194). -/
def svmDuties (a b : Int) : List Int :=
  let va := (4 * a, (0 : Int))
  let vb := (-2 * a, 2 * b)
  let vc := (-2 * a, -2 * b)
  let hi := svmMax va (svmMax vb vc)
  let lo := svmMin va (svmMin vb vc)
  let m := ((hi.1 + lo.1) / 2, (hi.2 + lo.2) / 2)
  [va, vb, vc].map fun v => roundSqrt3 (2 ^ 31 + v.1 - m.1) (v.2 - m.2) 2

/-- The square root of n rounded to the nearest integer: no integer lies exactly halfway. -/
def roundSqrt (n : Nat) : Nat := if isqrt n * isqrt n + isqrt n < n then isqrt n + 1 else isqrt n

/-! ## Tables (R197) -/

/-- The position of a lookup: index, fraction numerator and denominator, and the entry that follows. -/
def State.tluPos (s : State) (u d : Nat) (a : Int) : Nat × Nat × Nat × Nat :=
  let n := 2 ^ s.rd Reg.TBL_DESC.LOG2N u d
  if s.on Reg.TBL_DESC.WRAP u d then
    let pos := thetaOf a * n
    (pos / 2 ^ 24, pos % 2 ^ 24, 2 ^ 24, (pos / 2 ^ 24 + 1) % n)
  else
    let pos := (clampI 0 (2 ^ 30) a).toNat * (n - 1)
    (pos / 2 ^ 30, pos % 2 ^ 30, 2 ^ 30, pos / 2 ^ 30 + 1)

/-- Address of an entry of a table. -/
def State.tluAddr (s : State) (u d i : Nat) : Nat := luBank u + 4 * (s.rd Reg.TBL_DESC.BASE u d + i)

/-! ## Starts (R201, R204, R210) -/

/-- A start or an arm is lost (R201, R204). -/
def State.lpMiss (s : State) (u p : Nat) : State :=
  (s.flag2 Reg.LP_STAT.MISS u p).wr2 Reg.LP_STAT.MISS_CNT u p (satAdd 255 (s.rd Reg.LP_STAT.MISS_CNT u p))

/-- May a program start or be armed? It is enabled, its unit has not stopped, and under TRIP_HALT its stage's EN reads 1. -/
def State.mayStart (s : State) (u p : Nat) : Bool :=
  s.on Reg.LP_CFG.PEN u p && !s.on Reg.LU_STAT.FAULT u &&
    (!s.on Reg.LP_CFG.TRIP_HALT u p ||
      (match s.stageOfLu u with
       | some n => s.stgEnabled n
       | none => false))

/-- A start makes the program pending; one for a program that is pending is lost (R204). The first start after a halt is the one that
clears the blocks (R210). -/
def State.lpArrive (s : State) (u p : Nat) : State :=
  let r := s.lu u
  let clr : Bool := bitAt r.halt p && s.on Reg.LP_CFG.TRIP_HALT u p
  if r.queue.contains p then s.lpMiss u p
  else
    (s.setLu u { r with queue := r.queue ++ [p], halt := withoutBit r.halt p, clr := if clr then withBit r.clr p else r.clr }).flag2
      Reg.LP_STAT.PENDING u p

/-- Clear FRESH on the slots of REQ_MASK. -/
def State.clearFresh (s : State) (u p : Nat) : State :=
  foldEach (fun k t => t.wr2 Reg.SLOT_CFG.FRESH u k 0) (bitList 16 (s.rd Reg.LP_MASK.REQ_MASK u p)) s

/-- A route of kind 0x02 reaches a program (R201). -/
def State.lpRoute (s : State) (u p : Nat) : State :=
  if !s.mayStart u p then s
  else match s.rd Reg.LP_CFG.START_SRC u p with
    | 1 => s.lpArrive u p
    | 3 =>
      let s := if bitAt (s.lu u).arms p then s.lpMiss u p else s
      (s.setLu u { s.lu u with arms := withBit (s.lu u).arms p }).clearFresh u p
    | _ => s

/-- Is the sample set of a program complete? -/
def State.setFull (s : State) (u p : Nat) : Bool :=
  s.rd Reg.LP_MASK.REQ_MASK u p ≠ 0 && (bitList 16 (s.rd Reg.LP_MASK.REQ_MASK u p)).all fun k => s.on Reg.SLOT_CFG.FRESH u k

/-- Does a fill of the slots `ks` complete the set of a program that may start on it (R201, R210)? -/
def State.setStarts (s : State) (u : Nat) (ks : List Nat) (p : Nat) : Bool :=
  let src := s.rd Reg.LP_CFG.START_SRC u p
  s.mayStart u p && s.setFull u p && ks.any (bitAt (s.rd Reg.LP_MASK.REQ_MASK u p) ·)
    && (src == 2 || (src == 3 && bitAt (s.lu u).arms p))

/-- A completed set starts its program (R201). -/
def State.lpSet (s : State) (u p : Nat) : State :=
  ((s.clearFresh u p).setLu u { s.lu u with arms := withoutBit (s.lu u).arms p }).lpArrive u p

/-! ## Sample slots (R199, R200, R211) -/

/-- Does a slot match a word of the sample link (R199)? -/
def State.slotMatch (s : State) (u k : Nat) (w : LinkWord) : Bool :=
  s.on Reg.SLOT_CFG.EN u k && s.rd Reg.SLOT_CFG.TYPE u k == w.typ && s.rd Reg.SLOT_CFG.UNIT u k == w.unit
    && (w.typ == 2 || s.rd Reg.SLOT_CFG.SRC u k == w.src)

/-- Fill a slot (R200): OVR of a program whose set waits for more (R211), the value, FRESH and BAD. -/
def State.fillSlot (s : State) (u k : Nat) (w : LinkWord) : State :=
  let code : Int := if w.typ = 2 then sgn 24 w.word else (w.word % 2 ^ 16 : Nat)
  let x := (code - sgn 32 (s.rd Reg.SLOT_ZERO.ZERO u k)) * sgn 32 (s.rd Reg.SLOT_GAIN.GAIN u k) * 4
  let again := s.on Reg.SLOT_CFG.FRESH u k
  let s := foldEach (fun p t =>
    let src := t.rd Reg.LP_CFG.START_SRC u p
    t.onlyIf (again && t.on Reg.LP_CFG.PEN u p && (src == 2 || src == 3) && bitAt (t.rd Reg.LP_MASK.REQ_MASK u p) k
      && !t.setFull u p) (·.flag2 Reg.LP_STAT.OVR u p)) [0, 1, 2, 3] s
  let bad := bitAt w.word 31 || bitAt w.word 30 || decide (satI 32 x ≠ x)
  ((s.wr2 Reg.SLOT_VAL.VAL u k (uns 32 (satI 32 x))).flag2 Reg.SLOT_CFG.FRESH u k).wr2 Reg.SLOT_CFG.BAD u k (b2n bad)

/-- The slots of a unit that a word fills. -/
def State.slotsFilled (s : State) (u : Nat) (w : LinkWord) : List Nat := (List.range 16).filter fun k => s.slotMatch u k w

/-- A word fills every slot of a unit that it matches, and starts every program whose set it completes, in program order. -/
def State.fillUnit (s : State) (u : Nat) (w : LinkWord) : State :=
  let ks := s.slotsFilled u w
  let t := foldEach (fun k t => t.fillSlot u k w) ks s
  foldEach (fun p t => t.lpSet u p) ([0, 1, 2, 3].filter (t.setStarts u ks)) t

/-! ## Runs (R203, R204) -/

/-- Clear, before a run's first instruction, the blocks of its program that await it (R196, R210). -/
def State.clearDue (s : State) (u p : Nat) : State :=
  let all := bitAt (s.lu u).clr p
  let s := foldEach (fun e t => if all || t.on Reg.BLK_CTRL.CLR u e.1 then t.clearBlk u e.1 else t) (blocksOf (s.lpWords u p)) s
  s.setLu u { s.lu u with clr := withoutBit (s.lu u).clr p }

/-- The latch of a run (R203): samples, set-points unless SP_HOLD, the angle and speed of the stage's field channel. -/
def State.latchRun (s : State) (u p : Nat) : State :=
  let r := s.lu u
  let sp := if s.on Reg.LU_CTRL.SP_HOLD u then r.sp else (List.range 16).map fun i => s.rd Reg.LU_SP.SP u i
  let (ang, spd) := match s.stageOfLu u with
    | some n => (s.rd Reg.FC_ANG.ANG n, s.rd Reg.FC_SPD.SPD n)
    | none => (0, 0)
  let bad := ((List.range 16).map fun k => s.rd Reg.SLOT_CFG.BAD u k * 2 ^ k).sum
  s.setLu u { r with
    run := some p, pc := 0, p := false, inp := (List.range 16).map fun k => s.rd Reg.SLOT_VAL.VAL u k
    bad := bad, sp := sp, ang := ang, spd := spd, staged := [] }

/-- The first pending program of a free unit begins its run: a pending swap first, then the clears, then the latch (R203, R207). -/
def State.lpBegin (s : State) (u : Nat) : State :=
  match (s.lu u).run, (s.lu u).queue with
  | none, p :: rest =>
    let s := (s.setLu u { s.lu u with queue := rest }).wr2 Reg.LP_STAT.PENDING u p 0
    (((s.swapBank u).clearDue u p).latchRun u p).wr Reg.LU_STAT.PROG u p |>.flag Reg.LU_STAT.RUNNING u
  | _, _ => s

/-- END: the run is over, its staged writes await their capture (R198, R204). -/
def State.lpEnd (s : State) (u : Nat) : State :=
  let r := s.lu u
  let s := s.setLu u { r with run := none, staged := [], rel := if r.staged.isEmpty then r.rel else r.rel ++ [r.staged] }
  (s.wr Reg.LU_STAT.RUNNING u 0).swapIdle u

/-- Execute the next word of the run in progress, where it is the instruction that `is` names: a double-bit error stops the unit
(R211); a failed COND changes nothing (R190); a read of an IN operand with BAD is marked (R203). -/
def State.cedRun (s : State) (u : Nat) (is : Nat → Bool) (f : Nat → State → State) : State :=
  match (s.lu u).run with
  | none => s
  | some p =>
    let a := luBank u + 8 * (s.lpAddr u p + (s.lu u).pc)
    match [a, a + 4].find? s.eccBad.contains with
    | some b => s.luEcc u b
    | none =>
      let w := s.num a 8
      if !is w then s
      else
        let ok : Bool := wCond w = 0 || (wCond w == 1 && (s.lu u).p) || (wCond w == 2 && !(s.lu u).p)
        let s := s.setLu u { s.lu u with pc := (s.lu u).pc + 1 }
        if ok then f w (s.onlyIf (s.readsBad u w) (·.flag2 Reg.LP_STAT.BAD u p)) else s

/-- An instruction with one OP. -/
def isOp (op : Nat) (w : Nat) : Bool := wOp w == op

/-- An instruction that writes one saturated result of its operands a and b. -/
def State.cedSat2 (s : State) (u op : Nat) (g : Nat → Int → Int → Int) : State :=
  s.cedRun u (isOp op) fun w t => t.putSat u (wDst w) (g w (t.operand u (wSa w)) (t.operand u (wSb w)))

/-! ## Validation (R209) -/

/-- Is every word of a byte range of a bank in a block bound by the image to the stage (R187, R209)? -/
def State.boundRange (s : State) (u n lo hi : Nat) : Bool :=
  (List.range 16).all fun k => hi < 4096 * k || 4096 * (k + 1) ≤ lo ||
    (s.claimState (0x900 + 16 * u + k) == 1 && s.claimOwner (0x900 + 16 * u + k) == n + 1)

/-- The other enabled programs of the unit. -/
def State.lpOthers (s : State) (u p : Nat) : List Nat := (s.lpEnabled u).filter (· ≠ p)

/-- The first failing check of R209, 0 where all pass. -/
def State.lpCheck (s : State) (u p : Nat) : Nat :=
  let ws := s.lpWords u p
  let len := s.lpLen u p
  let a0 := s.lpAddr u p
  let src := s.rd Reg.LP_CFG.START_SRC u p
  let mask := s.rd Reg.LP_MASK.REQ_MASK u p
  match s.stageOfLu u with
  | none => 1
  | some n =>
    if s.rd Reg.IMG_STATUS.STATE ≠ 2 then 1
    else if len = 0 ∨ 1024 < len then 2
    else if 8192 < a0 + len ∨ !s.boundRange u n (8 * a0) (8 * (a0 + len) - 1) then 3
    else if !(ws.all wordLegal) ∨ (ws.getLastD 0) / 2 ^ 54 ≠ 4 then 4
    else if (targetsOf ws).any (fun e => !(s.stgLegs n).contains e.1)
        ∨ (targetsOf ws).any (fun e => (s.lpOthers u p).any fun q => (targetsOf (s.lpWords u q)).contains e) then 5
    else if (blocksOf ws).any (fun e => (blocksOf ws).any (fun g => g.1 == e.1 && g.2 != e.2))
        ∨ (blocksOf ws).any (fun e => (s.lpOthers u p).any fun q => (blocksOf (s.lpWords u q)).any fun g => g.1 == e.1) then 6
    else if (tablesOf ws).any (fun d =>
        let lg := s.rd Reg.TBL_DESC.LOG2N u d
        let b := s.rd Reg.TBL_DESC.BASE u d
        !(4 ≤ lg && lg ≤ 12 && decide (b + 2 ^ lg ≤ 16384) && s.boundRange u n (4 * b) (4 * (b + 2 ^ lg) - 1))) then 7
    else if (src = 1 ∨ src = 3) ∧ !(s.routes.any fun r => r.kind == 2 && r.dst == 0x500 + u && r.par / 16 % 4 == p) then 8
    else if (src = 2 ∨ src = 3) ∧ (mask = 0 ∨ (bitList 16 mask).any fun k =>
        !s.on Reg.SLOT_CFG.EN u k || s.rd Reg.SLOT_CFG.TYPE u k == 3) then 8
    else if (List.range (2 * len)).any (fun k => s.eccBad.contains (luBank u + 8 * a0 + 4 * k)) then 9
    else 0

/-- PEN = 1 (R209): the program validates; no effect while it is enabled or validates. -/
def State.lpEnable (s : State) (u p : Nat) : State :=
  if s.lpHeld u p then s
  else (s.setLu u { s.lu u with vq := (s.lu u).vq ++ [p] }).flag2 Reg.LP_STAT.VALIDATING u p

/-- The program passes (R206, R209). -/
def State.lpPass (s : State) (u p : Nat) : State :=
  let ws := s.lpWords u p
  let off : Bool := match s.stageOfLu u with
    | some n => !s.stgEnabled n
    | none => true
  let r := s.lu u
  let s := s.setLu u { r with arms := withoutBit r.arms p, halt := if off then withBit r.halt p else withoutBit r.halt p }
  let s := ((s.flag2 Reg.LP_CFG.PEN u p).wr2 Reg.LP_CYC.T u p (cycT ws)).wr2 Reg.LP_CYC.W u p (cycW ws)
  (foldEach (fun e t => t.wr2 Reg.BLK_CTRL.TYPE u e.1 e.2) (blocksOf ws) s).bounds u

/-- A double-bit error met by validation also counts as a fault of the unit (R33, R209). -/
def State.lpRefuse (s : State) (u p code : Nat) : State :=
  let s := (s.flag2 Reg.LP_STAT.LOAD_FAIL u p).wr2 Reg.LP_STAT.LOAD_ERR u p code
  if code = 9 then
    s.luEcc u (((List.range (2 * s.lpLen u p)).map fun k => luBank u + 8 * s.lpAddr u p + 4 * k).find? s.eccBad.contains |>.getD 0)
  else s

/-- Validation of the first program in turn ends (R209). -/
def State.lpValidated (s : State) (u : Nat) : State :=
  match (s.lu u).vq with
  | [] => s
  | p :: rest =>
    let s := (s.setLu u { s.lu u with vq := rest }).wr2 Reg.LP_STAT.VALIDATING u p 0
    if s.lpCheck u p = 0 then s.lpPass u p else s.lpRefuse u p (s.lpCheck u p)

/-- PEN = 0 (R209, R210): a validation is abandoned; an enabled program loses its pending start and its arm. -/
def State.lpDisable (s : State) (u p : Nat) : State :=
  let r := s.lu u
  if s.on Reg.LP_STAT.VALIDATING u p then (s.setLu u { r with vq := r.vq.filter (· ≠ p) }).wr2 Reg.LP_STAT.VALIDATING u p 0
  else if !s.on Reg.LP_CFG.PEN u p then s
  else
    let s := s.setLu u { r with queue := r.queue.filter (· ≠ p), arms := withoutBit r.arms p }
    let s := (s.wr2 Reg.LP_STAT.PENDING u p 0).wr2 Reg.LP_CFG.PEN u p 0
    let s := foldEach (fun e t => if t.blkUsed u e.1 then t else t.wr2 Reg.BLK_CTRL.TYPE u e.1 0) (blocksOf (s.lpWords u p)) s
    (s.bounds u).swapIdle u

/-! ## Outputs (R198, R228) -/

/-- S′ × 128 of a leg's timebase (R94, R198). -/
def State.span128 (s : State) (l : Nat) : Nat :=
  match s.tbOfLeg l with
  | some n => (if s.tbMode n = 2 then s.tbPer n else s.tbPer n + 1) * 128
  | none => 0

/-- Does field control write the duties of the stage of a unit itself (R228)? -/
def State.fcDrives (s : State) (n : Nat) : Bool :=
  s.on Reg.FC_CFG.DRIVE n && [4, 5, 7].contains (s.rd Reg.FC_STAT.STATE n)

/-- WRL stages a write of a leg of the unit's stage; a compare write is discarded while field control writes the duties (R186, R198, R228). -/
def State.stageWrl (s : State) (u leg tgt : Nat) (a : Int) : State :=
  let s := s.onlyIf (decide (tgt < 2) && clampI 0 (2 ^ 30) a != a) (·.markSat u)
  let v := if tgt < 2 then ((clampI 0 (2 ^ 30) a).toNat * s.span128 leg * 2 + 2 ^ 30) / 2 ^ 31 else uns 32 a % 4
  match s.stageOfLu u with
  | some n =>
    if tgt < 2 ∧ s.fcDrives n then s.flag Reg.FC_STAT.WRL_DISC n
    else if !(s.stgLegs n).contains leg then s
    else s.setLu u { s.lu u with staged := (s.lu u).staged ++ [⟨leg, tgt, v⟩] }
  | none => s

/-- A staged write lands in its leg (R84 to R86, R107), where that is a leg of the unit's stage still (R186). -/
def State.landWrl (s : State) (u : Nat) (e : StagedWr) : State :=
  if !((s.stageOfLu u).any fun n => (s.stgLegs n).contains e.leg) then s
  else match e.tgt with
  | 0 => s.writeCmp e.leg .a e.val true
  | 1 => s.writeCmp e.leg .b e.val true
  | _ => (s.noteFields [Reg.LEG_ISIGN.ISIGN] e.leg).wr Reg.LEG_ISIGN.ISIGN e.leg e.val

/-- The capture edge of the oldest staged set that is complete: that of an ended run, or of the run in progress once no WRL remains
(R198). -/
def State.captureWrl (s : State) (u : Nat) : State :=
  let r := s.lu u
  match r.rel with
  | ws :: rest => foldEach (fun e t => t.landWrl u e) ws (s.setLu u { r with rel := rest })
  | [] =>
    match r.run with
    | some p =>
      if (s.lpWords u p r.pc).any (fun w => wOp w == 0x20) then s
      else foldEach (fun e t => t.landWrl u e) r.staged (s.setLu u { r with staged := [] })
    | none => s

/-! ## The meanings of the rows -/

/-- R192: NOP does nothing. -/
def execCedNop (u : Fin 8) (s : State) : Host.Outcome State Fault Refusal := .next (s.cedRun u.val (isOp 0x00) fun _ t => t)

/-- R192: END ends the run. -/
def execCedEnd (u : Fin 8) (s : State) : Host.Outcome State Fault Refusal :=
  .next (s.cedRun u.val (isOp 0x01) fun _ t => t.lpEnd u.val)

/-- R192: D ← a. -/
def execCedMov (u : Fin 8) (s : State) : Host.Outcome State Fault Refusal :=
  .next (s.cedRun u.val (isOp 0x02) fun w t => t.putD u.val (wDst w) (uns 32 (t.operand u.val (wSa w))))

/-- R192: D ← IMM. -/
def execCedLdi (u : Fin 8) (s : State) : Host.Outcome State Fault Refusal :=
  .next (s.cedRun u.val (isOp 0x03) fun w t => t.putD u.val (wDst w) (wImm w))

/-- R193: D ← sat(a + b). -/
def execCedAdd (u : Fin 8) (s : State) : Host.Outcome State Fault Refusal := .next (s.cedSat2 u.val 0x04 fun _ a b => a + b)

/-- R193: D ← sat(a − b). -/
def execCedSub (u : Fin 8) (s : State) : Host.Outcome State Fault Refusal := .next (s.cedSat2 u.val 0x05 fun _ a b => a - b)

/-- R192: D ← (a + b) mod 2^32; no flag. -/
def execCedAddw (u : Fin 8) (s : State) : Host.Outcome State Fault Refusal :=
  .next (s.cedRun u.val (isOp 0x06) fun w t =>
    t.putD u.val (wDst w) (uns 32 (t.operand u.val (wSa w) + t.operand u.val (wSb w))))

/-- R193: D ← sat(a × b), rounded to 30 fraction bits; b is Q4.28 with AUX[0] = 1. -/
def execCedMul (u : Fin 8) (s : State) : Host.Outcome State Fault Refusal :=
  .next (s.cedSat2 u.val 0x07 fun w a b => divHalfAway (a * b) (if wAux w % 2 = 1 then 2 ^ 28 else 2 ^ 30))

/-- R193: A ← sat48(A + a × b). -/
def execCedMac (u : Fin 8) (s : State) : Host.Outcome State Fault Refusal :=
  .next (s.cedRun u.val (isOp 0x08) fun w t =>
    let k := wAux w % 8
    let x := divHalfAway (t.operand u.val (wSa w) * t.operand u.val (wSb w)) (if wAux w / 8 % 2 = 1 then 2 ^ 28 else 2 ^ 30)
    t.putAcc u.val k (t.acc u.val k + x))

/-- R192: D ← sat(A). -/
def execCedMva (u : Fin 8) (s : State) : Host.Outcome State Fault Refusal :=
  .next (s.cedRun u.val (isOp 0x09) fun w t => t.putSat u.val (wDst w) (t.acc u.val (wAux w % 8)))

/-- R192: A ← 0. -/
def execCedClra (u : Fin 8) (s : State) : Host.Outcome State Fault Refusal :=
  .next (s.cedRun u.val (isOp 0x0A) fun w t => t.putAcc u.val (wAux w % 8) 0)

/-- R192: D ← sat(−a), AUX 0. -/
def execCedNeg (u : Fin 8) (s : State) : Host.Outcome State Fault Refusal :=
  .next (s.cedRun u.val (fun w => isOp 0x0B w && wAux w % 2 == 0) fun w t =>
    t.putSat u.val (wDst w) (-t.operand u.val (wSa w)))

/-- R192: D ← sat(|a|), AUX 1. -/
def execCedAbs (u : Fin 8) (s : State) : Host.Outcome State Fault Refusal :=
  .next (s.cedRun u.val (fun w => isOp 0x0B w && wAux w % 2 == 1) fun w t =>
    t.putSat u.val (wDst w) (t.operand u.val (wSa w)).natAbs)

/-- R192: D ← min(a, b), AUX 0. -/
def execCedMin (u : Fin 8) (s : State) : Host.Outcome State Fault Refusal :=
  .next (s.cedRun u.val (fun w => isOp 0x0C w && wAux w % 2 == 0) fun w t =>
    t.putSat u.val (wDst w) (min (t.operand u.val (wSa w)) (t.operand u.val (wSb w))))

/-- R192: D ← max(a, b), AUX 1. -/
def execCedMax (u : Fin 8) (s : State) : Host.Outcome State Fault Refusal :=
  .next (s.cedRun u.val (fun w => isOp 0x0C w && wAux w % 2 == 1) fun w t =>
    t.putSat u.val (wDst w) (max (t.operand u.val (wSa w)) (t.operand u.val (wSb w))))

/-- The signed comparison that AUX selects (R192). -/
def cmpOf (aux : Nat) (a b : Int) : Bool :=
  match aux % 4 with
  | 0 => decide (a < b)
  | 1 => decide (a ≤ b)
  | 2 => decide (a = b)
  | _ => decide (a ≠ b)

/-- R192: P ← the comparison of a and b. -/
def execCedCmp (u : Fin 8) (s : State) : Host.Outcome State Fault Refusal :=
  .next (s.cedRun u.val (isOp 0x0D) fun w t =>
    t.putP u.val (cmpOf (wAux w) (t.operand u.val (wSa w)) (t.operand u.val (wSb w))))

/-- R192: P ← BAD of slot a. -/
def execCedTst (u : Fin 8) (s : State) : Host.Outcome State Fault Refusal :=
  .next (s.cedRun u.val (isOp 0x0E) fun w t => t.putP u.val (bitAt (t.lu u.val).bad (wSa w - 0x40)))

/-- R192: D ← a if P = 1, otherwise b. -/
def execCedSel (u : Fin 8) (s : State) : Host.Outcome State Fault Refusal :=
  .next (s.cedRun u.val (isOp 0x0F) fun w t =>
    t.putD u.val (wDst w) (uns 32 (t.operand u.val (if (t.lu u.val).p then wSa w else wSb w))))

/-- The quotient of two Q2.30 words, rounded to 30 fraction bits (R193); by 0, a value that saturates with the sign of a. -/
def divQ30 (a b : Int) : Int :=
  if b = 0 then (if 0 ≤ a then 2 ^ 31 else -(2 ^ 31) - 1)
  else divHalfAway ((if b < 0 then -a else a) * 2 ^ 30) b.natAbs

/-- R193: D ← sat(a / b). -/
def execCedDiv (u : Fin 8) (s : State) : Host.Outcome State Fault Refusal := .next (s.cedSat2 u.val 0x10 fun _ a b => divQ30 a b)

/-- R192: D ← sat(√(a² + b²)). -/
def execCedMag (u : Fin 8) (s : State) : Host.Outcome State Fault Refusal :=
  .next (s.cedSat2 u.val 0x11 fun _ a b => roundSqrt (a * a + b * b).toNat)

/-- R194: D, D+1 ← sin θ, cos θ. -/
def execCedSincos (u : Fin 8) (s : State) : Host.Outcome State Fault Refusal :=
  .next (s.cedRun u.val (isOp 0x12) fun w t =>
    let th := thetaOf (t.operand u.val (wSa w))
    (t.putSat u.val (wDst w) (divHalfAway (sineAt th) 4096)).putSat u.val (wDst w + 1) (divHalfAway (cosineAt th) 4096))

/-- R194: D, D+1 ← α, β from two or three phase values. -/
def execCedClarke (u : Fin 8) (s : State) : Host.Outcome State Fault Refusal :=
  .next (s.cedRun u.val (isOp 0x13) fun w t =>
    let a := t.operand u.val (wSa w)
    let b := t.operand u.val (wSb w)
    let c := t.operand u.val (wSc w)
    if wAux w % 2 = 0 then (t.putSat u.val (wDst w) a).putSat u.val (wDst w + 1) (roundSqrt3 0 (2 * (a + 2 * b)) 3)
    else (t.putSat u.val (wDst w) (divHalfAway (2 * a - b - c) 3)).putSat u.val (wDst w + 1) (roundSqrt3 0 (2 * (b - c)) 3))

/-- R194: D, D+1, D+2 ← the phase values of α and β. -/
def execCedIclarke (u : Fin 8) (s : State) : Host.Outcome State Fault Refusal :=
  .next (s.cedRun u.val (isOp 0x14) fun w t =>
    let a := t.operand u.val (wSa w)
    let b := t.operand u.val (wSb w)
    ((t.putSat u.val (wDst w) a).putSat u.val (wDst w + 1) (roundSqrt3 (-a) b 1)).putSat u.val (wDst w + 2) (roundSqrt3 (-a) (-b) 1))

/-- R194: D, D+1 ← d, q; the sine and cosine are held exactly. -/
def execCedPark (u : Fin 8) (s : State) : Host.Outcome State Fault Refusal :=
  .next (s.cedRun u.val (isOp 0x15) fun w t =>
    let a := t.operand u.val (wSa w)
    let b := t.operand u.val (wSb w)
    let th := thetaOf (t.operand u.val (wSc w))
    (t.putSat u.val (wDst w) (divHalfAway (a * cosineAt th + b * sineAt th) (2 ^ 42))).putSat u.val (wDst w + 1)
      (divHalfAway (b * cosineAt th - a * sineAt th) (2 ^ 42)))

/-- R194: D, D+1 ← α, β from d and q. -/
def execCedIpark (u : Fin 8) (s : State) : Host.Outcome State Fault Refusal :=
  .next (s.cedRun u.val (isOp 0x16) fun w t =>
    let a := t.operand u.val (wSa w)
    let b := t.operand u.val (wSb w)
    let th := thetaOf (t.operand u.val (wSc w))
    (t.putSat u.val (wDst w) (divHalfAway (a * cosineAt th - b * sineAt th) (2 ^ 42))).putSat u.val (wDst w + 1)
      (divHalfAway (a * sineAt th + b * cosineAt th) (2 ^ 42)))

/-- R195: D ← PI block on error a. -/
def execCedPi (u : Fin 8) (s : State) : Host.Outcome State Fault Refusal :=
  .next (s.cedRun u.val (isOp 0x17) fun w t => t.blkPI u.val (wAux w % 16) (wDst w) (t.operand u.val (wSa w)))

/-- R195: D ← PR block on error a. -/
def execCedPr (u : Fin 8) (s : State) : Host.Outcome State Fault Refusal :=
  .next (s.cedRun u.val (isOp 0x18) fun w t => t.blkPR u.val (wAux w % 16) (wDst w) (t.operand u.val (wSa w)))

/-- Write one duty of SVM: outside 0 to 1.0 it is clamped and sets SAT (R194). -/
def State.putDuty (s : State) (u d : Nat) (x : Int) : State :=
  (s.putD u d (clampI 0 (2 ^ 30) x).toNat).onlyIf (clampI 0 (2 ^ 30) x ≠ x) (·.markSat u)

/-- R194: D, D+1, D+2 ← three duties. -/
def execCedSvm (u : Fin 8) (s : State) : Host.Outcome State Fault Refusal :=
  .next (s.cedRun u.val (isOp 0x19) fun w t =>
    let ds := svmDuties (t.operand u.val (wSa w)) (t.operand u.val (wSb w))
    ((t.putDuty u.val (wDst w) (ds.getD 0 0)).putDuty u.val (wDst w + 1) (ds.getD 1 0)).putDuty u.val (wDst w + 2) (ds.getD 2 0))

/-- R197: D ← table at a, interpolated. -/
def execCedTlu (u : Fin 8) (s : State) : Host.Outcome State Fault Refusal :=
  .next (s.cedRun u.val (isOp 0x1A) fun w t =>
    let td := wAux w % 8
    let (i, f, den, j) := t.tluPos u.val td (t.operand u.val (wSa w))
    let as := if f = 0 then [t.tluAddr u.val td i] else [t.tluAddr u.val td i, t.tluAddr u.val td j]
    match as.find? t.eccBad.contains with
    | some b => t.luEcc u.val b
    | none =>
      let ti := sgn 32 (t.word (t.tluAddr u.val td i))
      let tj := if f = 0 then ti else sgn 32 (t.word (t.tluAddr u.val td j))
      t.putSat u.val (wDst w) (divHalfAway (ti * den + f * (tj - ti)) den))

/-- R198: stage a write of a leg. -/
def execCedWrl (u : Fin 8) (s : State) : Host.Outcome State Fault Refusal :=
  .next (s.cedRun u.val (isOp 0x20) fun w t => t.stageWrl u.val (wDst w % 32) (wAux w % 4) (t.operand u.val (wSa w)))

/-- R198: request a pulse on a request line. -/
def execCedReq (u : Fin 8) (s : State) : Host.Outcome State Fault Refusal :=
  .next (s.cedRun u.val (isOp 0x21) fun w t => t.setLu u.val { t.lu u.val with reqs := (t.lu u.val).reqs ++ [wAux w % 4] })

/-- R198: LU_OUT n ← a. -/
def execCedOut (u : Fin 8) (s : State) : Host.Outcome State Fault Refusal :=
  .next (s.cedRun u.val (isOp 0x22) fun w t =>
    let i := wDst w % 16
    (t.wr2 Reg.LU_OUT.OUT u.val i (uns 32 (t.operand u.val (wSa w)))).setLu u.val
      { t.lu u.val with outw := withBit (t.lu u.val).outw i })

/-- R198: the staged writes of a run are captured at one tick edge. -/
def execWrlCapture (u : Fin 8) (s : State) : Host.Outcome State Fault Refusal :=
  .next (s.onlyIf (s.present islCED) (·.captureWrl u.val))

/-- R198: the pulse of the oldest request begins and reaches the converters through routes of kind 0x01. -/
def execReqPulse (u : Fin 8) (s : State) : Host.Outcome State Fault Refusal :=
  .next (match (s.lu u.val).reqs with
    | l :: rest => (s.setLu u.val { s.lu u.val with reqs := rest }).raisePulse [1] (0x500 + u.val) l
    | [] => s)

/-- The trigger pulses of kind 0x02 for a program (R202). -/
def toProgram (u p : Nat) (r : Route) : Bool := r.kind == 2 && r.dst == 0x500 + u && r.par / 16 % 4 == p

/-- R201: a route starts or arms a program; of the programs of the unit that routes reach in one tick, the lower numbers first (R204). -/
def execLpRouteStart (u : Fin 8) (p : Fin 4) (s : State) : Host.Outcome State Fault Refusal :=
  .next (match s.pulseAt (toProgram u.val p.val) with
    | some k =>
      foldEach (fun q t => (t.takePulse (toProgram u.val q)).onlyIf (t.present islCED) (·.lpRoute u.val q))
        ((List.range (p.val + 1)).filter fun q => s.pulseAt (toProgram u.val q) == some k) s
    | none => s)

/-- R204: the first pending program begins its run. -/
def execLpRunStart (u : Fin 8) (s : State) : Host.Outcome State Fault Refusal :=
  .next (s.onlyIf (s.present islCED && !s.on Reg.LU_STAT.FAULT u.val) (·.lpBegin u.val))

/-- R209: a validation ends. -/
def execLpValidationDone (u : Fin 8) (s : State) : Host.Outcome State Fault Refusal :=
  .next (s.onlyIf (s.present islCED) (·.lpValidated u.val))

end Sys2Proof.Machine
end

