-- ==== Sys2Proof/Machine/Can.lean ====
section
/-! DEFINITION. The CAN FD controllers: the commands of spec/15_can.md (R360 to R376). -/

namespace Sys2Proof.Machine

def State.can (s : State) (n : Nat) : CanS := SMap.get CanS.init s.cans n
def State.setCan (s : State) (n : Nat) (r : CanS) : State := { s with cans := SMap.set CanS.init s.cans n r }
def State.canState (s : State) (n : Nat) : Nat := s.rd Reg.CAN_STAT.STATE n
def State.setCanState (s : State) (n v : Nat) : State := s.wr Reg.CAN_STAT.STATE n v

/-- Is a bit of a pair of words set; set and clear it (TXPEND, TXDONE, RXFULL). -/
def State.canBit (s : State) (f : FD) (n b : Nat) : Bool := bitAt (s.rd f n (b / 32)) (b % 32)
def State.setCanBit (s : State) (f : FD) (n b : Nat) (v : Bool) : State :=
  s.wr2 f n (b / 32) ((if v then withBit else withoutBit) (s.rd f n (b / 32)) (b % 32))

/-! ## Message buffers (R368) -/

/-- The address of a word of a buffer. -/
def canBuf (n b off : Nat) : Nat := 0x4A000000 + n * 0x4000 + b * 0x100 + off

def State.canId (s : State) (n b : Nat) : Nat := s.word (canBuf n b 0)
def State.canCtl (s : State) (n b : Nat) : Nat := s.word (canBuf n b 4)
def State.canDir (s : State) (n b : Nat) : Nat := bits (s.canCtl n b) 8 2 % 3

/-- Data bytes that a DLC stands for. -/
def dlcLen (dlc : Nat) (fd : Bool) : Nat :=
  if dlc ≤ 8 then dlc else if !fd then 8 else [12, 16, 20, 24, 32, 48, 64].getD (dlc - 9) 64

/-! ## Configuration (R362, R365) -/

/-- Every timing field within R362. -/
def State.canTimingOk (s : State) (n : Nat) : Bool :=
  let ok (brp t1 t2 sjw brpMax t1Max t2Max sjwMax : Nat) : Bool :=
    1 ≤ brp && brp ≤ brpMax && 2 ≤ t1 + (if t1Max = 32 then 1 else 0) && t1 ≤ t1Max && 1 ≤ t2 && t2 ≤ t2Max && 1 ≤ sjw && sjw ≤ sjwMax
      && sjw ≤ t1 && sjw ≤ t2
  ok (s.rd Reg.CAN_NBT0.BRP n) (s.rd Reg.CAN_NBT0.TSEG1 n) (s.rd Reg.CAN_NBT1.TSEG2 n) (s.rd Reg.CAN_NBT1.SJW n) 256 256 128 128
    && ok (s.rd Reg.CAN_DBT.BRP n) (s.rd Reg.CAN_DBT.TSEG1 n) (s.rd Reg.CAN_DBT.TSEG2 n) (s.rd Reg.CAN_DBT.SJW n) 32 32 16 16

/-- A land of the active image carries a function for the controller (R361, R462). -/
def State.canLand (s : State) (n fn : Nat) : Bool :=
  (List.range 64).any fun l => SMap.get 0 s.pins l == fn && s.claimState (0xA00 + l) != 0 && s.claimOwner (0xA00 + l) == 0x18 + n

/-- The code that refuses RUN = 1; 0 where nothing does (R365, R375). -/
def State.canRunCode (s : State) (n : Nat) : Nat :=
  let bit := s.rd Reg.CAN_DBT.BRP n * (1 + s.rd Reg.CAN_DBT.TSEG1 n + s.rd Reg.CAN_DBT.TSEG2 n)
  if !(s.canLand n 0x10 && s.canLand n 0x11) then 1
  else if !s.canTimingOk n then 2
  else if s.on Reg.CAN_CTRL.FDOE n ∧ bit < 200 ∧ !s.on Reg.CAN_TDC.TDC_EN n then 3
  else if !s.clk.sOn then 5
  else 0

/-- A refused RUN or configuration write. -/
def State.canRefuse (s : State) (n code : Nat) : State := (s.wr Reg.CAN_EVT.CFG_CODE n code).flag Reg.CAN_EVT.CFG_ERR n

/-! ## Counters and states (R365, R367) -/

/-- The state that the counters give a controller on the bus: BUSOFF, PASSIVE or ACTIVE. -/
def State.canErrState (s : State) (n : Nat) : Nat :=
  let t := s.rd Reg.CAN_STAT.TEC n
  if 255 < t then 4 else if 128 ≤ t ∨ 128 ≤ s.rd Reg.CAN_STAT.REC n then 3 else 2

/-- The controller leaves the frame: nothing is selected. -/
def State.canIdle (s : State) (n : Nat) : State := s.setCan n { s.can n with sel := none, begun := false }

/-- Entry to INIT. -/
def State.canInit (s : State) (n : Nat) : State :=
  (((s.setCanState n 0).wr Reg.CAN_CTRL.RUN n 0).wr Reg.CAN_CTRL.REC_START n 0).canIdle n

/-- Entry to BUSOFF (R373): the buffer whose frame was being sent is kept. -/
def State.canBusOff (s : State) (n : Nat) : State :=
  let c := s.can n
  let s := match c.begun, c.sel with
    | true, some b => (s.wr Reg.CAN_STAT.BOFF_BUF n b).wr Reg.CAN_STAT.BOFF_VALID n 1
    | _, _ => s
  ((s.setCanState n 4).flag Reg.CAN_EVT.BUSOFF n).canIdle n

/-- EWARN, and the state after a change of the counters. -/
def State.canCount (s : State) (n : Nat) (tec rec : Nat) : State :=
  let s := (s.wr Reg.CAN_STAT.TEC n (min 256 tec)).wr Reg.CAN_STAT.REC n (min 255 rec)
  let s := s.wr Reg.CAN_STAT.EWARN n (b2n (decide (96 ≤ tec) || decide (96 ≤ rec)))
  let st := s.canState n
  if st = 2 ∨ st = 3 ∨ st = 6 then
    match s.canErrState n with
    | 4 => s.canBusOff n
    | e => if st = 6 then s else (s.onlyIf (st == 2 && e == 3) (·.flag Reg.CAN_EVT.EPASS n)).setCanState n e
  else s

/-- The end of a frame: STOPPING ends in INIT, BUSOFF with RUN = 0 as well. -/
def State.canFrameEnd (s : State) (n : Nat) (stopping : Bool) : State :=
  let s := s.canIdle n
  s.onlyIf stopping (·.canInit n)

/-- On the bus: may frames be received? -/
def State.canOnBus (s : State) (n : Nat) : Bool := s.present islCAN && [2, 3, 6].contains (s.canState n)

/-- The counter of R374 for a chain time. -/
def State.canTs (s : State) (n t : Nat) : Nat := t / 2 ^ s.rd Reg.CAN_CTRL.TS_SHIFT n % 2 ^ 32

/-- RUN = 1 is written (R365). -/
def State.canRun (s : State) (n : Nat) : State :=
  if s.canState n ≠ 0 then s
  else match s.canRunCode n with
    | 0 =>
      let s := s.wr Reg.CAN_CTRL.RUN n 1
      if 255 < s.rd Reg.CAN_STAT.TEC n then (s.setCanState n 4).flag Reg.CAN_EVT.BUSOFF n else s.setCanState n 1
    | c => s.canRefuse n c

/-- RUN = 0 is written, with the bus idle or a frame in progress (R365, R373). -/
def State.canStop (s : State) (n : Nat) (idle : Bool) : State :=
  let st := s.canState n
  if st = 0 then s
  else if st = 4 ∨ st = 5 ∨ (idle ∧ !(s.can n).begun) then s.canInit n
  else (s.wr Reg.CAN_CTRL.RUN n 0).setCanState n 6

/-- R365: eleven recessive bits end SYNC. -/
def execCanSyncDone (n : Fin 6) (s : State) : Host.Outcome State Fault Refusal :=
  .next (if s.present islCAN ∧ s.canState n.val = 1 then s.setCanState n.val (s.canErrState n.val) else s)

/-! ## Transmission (R369 to R371) -/

/-- The arbitration field of a buffer as a number: the lower one wins. -/
def State.canArb (s : State) (n b : Nat) : Nat :=
  let id := s.canId n b
  let base := bits id 18 11
  if bitAt id 29 then base * 2 ^ 21 + 2 ^ 20 + 2 ^ 19 + bits id 0 18 * 2 + b2n (bitAt id 30)
  else base * 2 ^ 21 + b2n (bitAt id 30) * 2 ^ 20

/-- The better of two buffers; the lower number where the fields are equal. -/
def State.canBetter (s : State) (n : Nat) (best : Option Nat) (b : Nat) : Option Nat :=
  match best with
  | none => some b
  | some a => if s.canArb n b < s.canArb n a then some b else some a

/-- The pending buffers of a controller. -/
def State.canPending (s : State) (n : Nat) : List Nat := (List.range 64).filter fun b => s.canBit Reg.CAN_TXPEND.PEND n b

/-- The selection at a sample point: the buffer of BOFF_BUF first after a recovery (R370, R373). -/
def State.canSelect (s : State) (n : Nat) : State :=
  let b := s.rd Reg.CAN_STAT.BOFF_BUF n
  if s.on Reg.CAN_STAT.BOFF_VALID n ∧ s.canBit Reg.CAN_TXPEND.PEND n b then
    (s.setCan n { s.can n with sel := some b }).wr Reg.CAN_STAT.BOFF_VALID n 0
  else s.setCan n { s.can n with sel := (s.canPending n).foldl (s.canBetter n) none }

/-- R370, R371: a sample point at which a buffer is selected; or, with `start`, the bit start at which the start of frame of the
selected buffer is driven. -/
def execCanTxSelect (n : Fin 6) (start : Bool) (s : State) : Host.Outcome State Fault Refusal :=
  .next (
    let k := n.val
    let md := s.rd Reg.CAN_CTRL.MODE k
    let may : Bool := s.present islCAN && (s.canState k == 2 || s.canState k == 3) && (md == 0 || md == 3) && !(s.can k).begun
    if !may then s
    else if start then
      (if (s.can k).sel.isSome then s.setCan k { s.can k with begun := true, sof := s.canTs k s.chainTime } else s)
    else s.canSelect k)

/-- R371: the cancel of one buffer. -/
def State.canCancel (s : State) (n b : Nat) : State :=
  let c := s.can n
  if !s.canBit Reg.CAN_TXPEND.PEND n b then s
  else if c.begun ∧ c.sel = some b then s.flag Reg.CAN_EVT.CANCEL_LATE n
  else
    let s := (s.setCanBit Reg.CAN_TXPEND.PEND n b false).flag Reg.CAN_EVT.CANCELLED n
    let s := s.onlyIf (c.sel == some b) (·.canIdle n)
    s.onlyIf (s.on Reg.CAN_STAT.BOFF_VALID n && s.rd Reg.CAN_STAT.BOFF_BUF n == b) (·.wr Reg.CAN_STAT.BOFF_VALID n 0)

/-- R369: the request of one buffer. -/
def State.canRequest (s : State) (n b : Nat) : State :=
  let ctl := s.canCtl n b
  let fd := bitAt ctl 4
  if s.canDir n b ≠ 1 ∨ (fd ∧ !s.on Reg.CAN_CTRL.FDOE n) ∨ (fd ∧ bitAt (s.canId n b) 30) ∨ s.canBit Reg.CAN_TXPEND.PEND n b then
    s.flag Reg.CAN_EVT.TX_ERR n
  else s.setCanBit Reg.CAN_TXPEND.PEND n b true

/-- The bits of word `w` of a register as buffer numbers. -/
def canBufs (w v : Nat) : List Nat := (bitList 32 v).map (32 * w + ·)

/-! ## Reception (R372) -/

/-- Does a received identifier match a buffer? -/
def State.canMatch (s : State) (n b rxid : Nat) (fd : Bool) : Bool :=
  let id := s.canId n b
  let mask := s.word (canBuf n b 8) % 2 ^ 29
  s.canDir n b == 2 && ((rxid % 2 ^ 29) ^^^ (id % 2 ^ 29)) &&& mask == 0 && bitAt rxid 29 == bitAt id 29 && bitAt rxid 30 == bitAt id 30
    && (fd == bitAt (s.canCtl n b) 4 || bitAt (s.canCtl n b) 11)

/-- Write a frame into a buffer: the identifier, DLC and format, the stamp, the data; then RXFULL. -/
def State.canStore (s : State) (n b rxid ctl ts : Nat) (data : List Nat) : State :=
  let len := if bitAt rxid 30 then 0 else dlcLen (ctl % 16) (bitAt ctl 4)
  let s := s.setBytes (canBuf n b 0x10) ((List.range 64).map fun k => if k < len then data.getD k 0 else 0)
  let s := ((s.setWord (canBuf n b 0x50) rxid).setWord (canBuf n b 0x54) ctl).setWord (canBuf n b 0x0C) ts
  (s.setCanBit Reg.CAN_RXFULL.FULL n b true).flag Reg.CAN_EVT.RXF n

/-- The reception of a valid frame: the lowest free matching buffer takes it. -/
def State.canReceive (s : State) (n rxid ctl ts : Nat) (data : List Nat) : State :=
  let ms := (List.range 64).filter fun b => s.canMatch n b rxid (bitAt ctl 4)
  match ms.find? (fun b => !s.canBit Reg.CAN_RXFULL.FULL n b) with
  | some b => s.canStore n b rxid ctl ts data
  | none =>
    match ms with
    | [] => s
    | b :: _ =>
      if bitAt (s.canCtl n b) 10 then (s.canStore n b rxid ctl ts data).flag Reg.CAN_EVT.RX_LOST n else s.flag Reg.CAN_EVT.RX_LOST n

/-- Release of buffers. -/
def State.canRelease (s : State) (n w v : Nat) : State :=
  foldEach (fun b u => u.setCanBit Reg.CAN_RXFULL.FULL n b false) (canBufs w v) s

/-- R372, R374: a valid frame at its end: identifier, DLC, format bits, data, chain time at the start-of-frame edge; `release` are
RXFULL bits (words 0 and 1) that a write releases in the same cycle. -/
def execCanFrameRx (n : Fin 6) (id : BitVec 31) (dlc : Fin 16) (fd brs esi : Bool) (data : List (BitVec 8)) (sof : BitVec 64)
    (release : BitVec 64) (s : State) : Host.Outcome State Fault Refusal :=
  .next (
    let k := n.val
    if !s.canOnBus k || (s.can k).begun || (fd && !s.on Reg.CAN_CTRL.FDOE k) then s
    else
      let stop : Bool := s.canState k == 6
      let s := foldEach (fun b u => u.setCanBit Reg.CAN_RXFULL.FULL k b false) (bitList 64 release.toNat) s
      let ctl := dlc.val + b2n fd * 16 + b2n brs * 32 + b2n esi * 64
      let s := s.canReceive k id.toNat ctl (s.canTs k sof.toNat) (data.map (·.toNat))
      let r := s.rd Reg.CAN_STAT.REC k
      let r' := if 127 < r then 119 + (Config.canRec s.fresh).val else r - 1
      let s := s.wr Reg.CAN_STAT.LEC k 0
      let s := if s.rd Reg.CAN_CTRL.MODE k = 1 then s else s.next.canCount k (s.rd Reg.CAN_STAT.TEC k) r'
      s.canFrameEnd k stop)

/-- R370, R374: the frame of the selected buffer completes without error; in MODE 3 the own buffers receive it. `tdcv` is the delay of
R363 that an FD frame measured. -/
def execCanTxDone (n : Fin 6) (tdcv : BitVec 7) (s : State) : Host.Outcome State Fault Refusal :=
  .next (
    let k := n.val
    match (s.can k).begun, (s.can k).sel with
    | true, some b =>
      if !s.canOnBus k then s
      else
        let stop : Bool := s.canState k == 6
        let ts := (s.can k).sof
        let s := s.onlyIf (bitAt (s.canCtl k b) 4 && s.on Reg.CAN_TDC.TDC_EN k) (·.wr Reg.CAN_TDC.TDCV k tdcv.toNat)
        let s := (s.setCanBit Reg.CAN_TXPEND.PEND k b false).setCanBit Reg.CAN_TXDONE.DONE k b true
        let s := ((s.setWord (canBuf k b 0x0C) ts).flag Reg.CAN_EVT.TXF k).wr Reg.CAN_STAT.LEC k 0
        let s := s.canCount k (s.rd Reg.CAN_STAT.TEC k - 1) (s.rd Reg.CAN_STAT.REC k)
        let s := s.onlyIf (s.rd Reg.CAN_CTRL.MODE k == 3) fun t =>
          t.canReceive k (t.canId k b % 2 ^ 31) (t.canCtl k b % 2 ^ 7) ts (t.bytes (canBuf k b 0x10) 64)
        s.canFrameEnd k stop
    | _, _ => s)

/-- R370: the frame in progress loses arbitration; its buffer stays pending. -/
def execCanArbitrationLost (n : Fin 6) (s : State) : Host.Outcome State Fault Refusal :=
  .next (if s.canOnBus n.val ∧ (s.can n.val).begun then s.canIdle n.val else s)

/-! ## Errors (R366, R367, R373) -/

/-- A bus error of kind LEC 1 to 6: the transmitter's TEC rises by 8 unless ISO 11898-1 exempts it, a receiver's REC by 1, or by 8 where
the first bit after its error flag is dominant. -/
def State.canError (s : State) (n kind : Nat) (exempt grave : Bool) : State :=
  let stop : Bool := s.canState n == 6
  let s := s.wr Reg.CAN_STAT.LEC n kind
  let tec := s.rd Reg.CAN_STAT.TEC n
  let rec' := s.rd Reg.CAN_STAT.REC n
  if s.rd Reg.CAN_CTRL.MODE n = 1 then ((s.canIdle n).setCanState n 1).onlyIf stop (·.canInit n)
  else if (s.can n).begun then (s.canCount n (if exempt then tec else tec + 8) rec').canFrameEnd n stop
  else (s.canCount n tec (rec' + (if grave then 8 else 1))).canFrameEnd n stop

/-- R367: a bus error. -/
def execCanBusError (n : Fin 6) (kind : Fin 6) (exempt grave : Bool) (s : State) : Host.Outcome State Fault Refusal :=
  .next (s.onlyIf (s.canOnBus n.val) (·.canError n.val (kind.val + 1) exempt grave))

/-- R360: a recessive res bit: a protocol exception, or with PXHD = 1 a form error. -/
def execProtocolExceptionEvent (n : Fin 6) (s : State) : Host.Outcome State Fault Refusal :=
  .next (
    let k := n.val
    if !s.canOnBus k then s
    else if s.on Reg.CAN_CTRL.PXHD k then s.canError k 2 false false
    else
      let stop : Bool := s.canState k == 6
      ((s.flag Reg.CAN_EVT.PXE k).canIdle k |>.setCanState k 1).onlyIf stop (·.canInit k))

/-- R373: 128 occurrences of 11 recessive bits have passed. -/
def execCanRecoveryDone (n : Fin 6) (s : State) : Host.Outcome State Fault Refusal :=
  .next (if s.present islCAN ∧ s.canState n.val = 5 then
      let t := ((s.wr Reg.CAN_STAT.TEC n.val 0).wr Reg.CAN_STAT.REC n.val 0).wr Reg.CAN_STAT.EWARN n.val 0
      (t.wr Reg.CAN_CTRL.REC_START n.val 0).setCanState n.val 2
    else s)

/-- R375: PLL-S moves to bypass: every controller enters INIT. -/
def State.canClockStop (s : State) : State :=
  s.onlyIf (s.present islCAN) (foldEach (fun n t => (t.canInit n).flag Reg.CAN_EVT.CLK_STOP n) (List.range 6))

/-- A bus write to a buffer's CTRL has changed DIR: RXFULL clears (R372). -/
def State.canDirChanged (s : State) (n b old : Nat) : State :=
  s.onlyIf (bits old 8 2 != bits (s.canCtl n b) 8 2) (·.setCanBit Reg.CAN_RXFULL.FULL n b false)

end Sys2Proof.Machine
end

