-- ==== Sys2Proof/Machine/Iso.lean ====
section
/-! DEFINITION. Isolated channels: decimation outputs, overload, enables and calibration (spec/07_isolated_sensing.md). -/

namespace Sys2Proof.Machine

/-- Ticks between two outputs of a channel with decimation ratio 2^(4 + dec): DEC periods of 50 ns (R173). -/
def isoPeriod (dec : Nat) : Nat := 2 ^ (4 + dec) * 25

/-- The ratio field as the filter takes it: DEC_SEL runs from 0 to 4 (R173). -/
def State.decSel (s : State) (c : Nat) : Nat := min (s.rd Reg.ISO_CFG.DEC_SEL c) 4

/-- Is the channel without a link, a powered high-voltage side or its modulator: its isolator die at fault (R33, R171, R178)? -/
def State.isoCut (s : State) (c : Nat) : Bool :=
  !s.present (0x23 + c / 4)
    || if c < 4 then s.links.isol0 || !SMap.get false s.rails 3 else s.links.isol1 || !SMap.get false s.rails 4

/-- Is the channel unusable, with no spare left (R178)? -/
def State.isoDead (s : State) (c : Nat) : Bool := s.claimState (0x400 + c) == 3

/-- Weight of the modulator bit `k` periods before an output edge in a sinc3 filter of ratio `d`: the coefficient of x^k in
(1 + x + … + x^(d − 1))^3 (R173, R174). -/
def sinc3 (d k : Nat) : Int :=
  let t (n : Nat) : Int := (n : Int) * (n + 1) / 2
  t (k + 1) - 3 * t (k + 1 - d) + 3 * t (k + 1 - 2 * d) - t (k + 1 - 3 * d)

/-- The filter sum of bits, the newest first: a 1 counts up, a 0 down. -/
def sincSum (d : Nat) (bits : List Bool) : Int := (bits.zipIdx.map fun e => if e.1 then sinc3 d e.2 else -sinc3 d e.2).sum

/-- CODE of a filter sum at ratio `d`, and whether it was clamped (R173): raw = sum × 2^23 / d^3, for the largest sum d^3. -/
def State.isoCode (s : State) (c d : Nat) (sum : Int) : Int × Bool :=
  let num := sum * 2 ^ 23 * (2 ^ 20 + s.rdI Reg.ISO_TRIM.GAIN_TRIM c) + s.rdI Reg.ISO_TRIM.OFS_TRIM c * 2 ^ 23 * (d ^ 3 : Nat)
  let v := divHalfAway num (2 ^ 20 * d ^ 3)
  (clampI (-8388607) 8388607 v, decide (v < -8388607) || decide (8388607 < v))

/-- Full scale at the lands in microvolts, by RANGE (R169). -/
def isoFs (range : Nat) : Nat :=
  match range with
  | 0 => 320000
  | 1 => 400000000
  | 2 => 1000000000
  | _ => 1600000000

/-- The physical channel that serves a logical one, and its trim word in Clay (R176, R406, R414). -/
def State.physIso (s : State) (c : Nat) : Nat :=
  let p := s.rd Reg.SPR_MAP.PU (152 + c)
  if 170 ≤ p ∧ p ≤ 179 then p else 170 + 5 * (c / 4) + c % 4
def State.isoClay (s : State) (c : Nat) : Nat := 0x4C000F00 + 4 * (s.physIso c - 170)

/-- Trims from Clay at a reset of ISF (R176), 0 from a word with a double-bit error (R409). -/
def State.loadIsoTrims (s : State) (c : Nat) : State :=
  let a := s.isoClay c
  let w := if s.eccBad.contains a then 0 else s.word a
  (s.wr Reg.ISO_TRIM.GAIN_TRIM c (bits w 16 16)).wr Reg.ISO_TRIM.OFS_TRIM c (bits w 0 16)

/-- Copy the trims of a channel to Clay. -/
def State.storeIsoTrims (s : State) (c : Nat) : State :=
  s.setWord (s.isoClay c) (s.rd Reg.ISO_TRIM.GAIN_TRIM c * 65536 + s.rd Reg.ISO_TRIM.OFS_TRIM c)

/-- The filter counts from now on with the ratio field `dec`: the next three outputs carry SETTLE (R174, R175). -/
def State.isoCount (s : State) (c dec : Nat) : State :=
  s.setIso c { s.iso c with base := s.now, settle := 3, bits := [], dec := dec }

/-- The output count starts afresh (R174, R175). -/
def State.isoRestart (s : State) (c : Nat) : State := s.isoCount c (s.decSel c)

/-- EN becomes 1: the count starts afresh, but not under a calibration, which goes on (R174, R180). -/
def State.isoStart (s : State) (c : Nat) : State :=
  let t := s.flag Reg.ISO_CTRL.EN c
  if s.rd Reg.ISO_STATUS.CAL_ST c = 1 then t else t.isoRestart c

/-- ISF has left its reset: every filter starts (R174). -/
def State.isoResetEnd (s : State) : State := foldEach (fun c t => t.isoRestart c) (List.range 8) s

/-- Channels without a spare show REASON 5 and no valid word (R178). -/
def State.showIsoDead (s : State) : State :=
  foldEach (fun c (t : State) => t.onlyIf (t.isoDead c) fun u => (u.wr Reg.ISO_STATUS.REASON c 5).wr Reg.ISO_STATUS.VALID c 0) (List.range 8) s

/-- Does a calibration run (R180)? -/
def State.isoCal (s : State) (c : Nat) : Bool := s.rd Reg.ISO_STATUS.CAL_ST c == 1

/-- Does the channel run: enabled, or for a calibration (R180)? -/
def State.isoRuns (s : State) (c : Nat) : Bool := !s.isoDead c && (s.on Reg.ISO_CTRL.EN c || s.isoCal c)

/-- A start or a sync of a timebase: a channel aligned to it restarts its output count if its edges are out of phase (R175). -/
def State.isoAlign (s : State) (tb : Nat) : State :=
  foldEach (fun c t =>
    if t.rd Reg.ISO_CFG.ALIGN_TB c = tb ∧ t.on Reg.ISO_CTRL.EN c then
      let r := t.iso c
      if (t.now - r.base) % isoPeriod r.dec = 0 then t else t.isoCount c r.dec
    else t) (List.range 8) s

/-- The condition that holds for an output (R178), the first of the case table: 1 link, 2 overload, 3 settling, 4 calibration. -/
def State.isoReason (s : State) (c : Nat) : Nat :=
  if s.isoCut c then 1
  else if (s.iso c).ovl then 2
  else if 0 < (s.iso c).settle then 3
  else if s.rd Reg.ISO_STATUS.CAL_ST c = 1 then 4
  else 0

/-- The result word of R177. -/
def isoWord (invalid ovr settle : Bool) (c : Nat) (code : Int) : Nat :=
  b2n invalid * 2 ^ 31 + b2n ovr * 2 ^ 30 + b2n settle * 2 ^ 29 + c * 2 ^ 24 + uns 24 code

/-- The outputs of a calibration (R180): after three settling ones, 64 of the short, then the same for the reference. -/
def State.isoCalStep (s : State) (c : Nat) (sum : Int) : State :=
  let r := s.iso c
  let n := r.calN + 1
  s.setIso c { r with
    calN := n, settle := if n = 67 then 3 else r.settle
    calShort := if 3 < n ∧ n ≤ 67 then r.calShort + sum else r.calShort
    calRef := if 70 < n ∧ n ≤ 134 then r.calRef + sum else r.calRef }

/-- One output of a channel (R173, R174, R177, R178), with the modulator bits of its period, the oldest first. -/
def State.isoEmit (s : State) (c : Nat) (new : List Bool) : State :=
  let r := s.iso c
  let d := 2 ^ (4 + r.dec)
  let win := (new.reverse ++ r.bits).take (3 * d)
  let sum := sincSum d win
  let (code, clamp) := s.isoCode c d sum
  let reason := s.isoReason c
  let settle : Bool := 0 < r.settle
  let ovr := clamp || r.ovl
  let w := isoWord (reason ≠ 0) ovr settle c code
  let newDec := if s.isoCal c then r.dec else s.decSel c
  let s := s.setIso c { r with
    base := r.base + isoPeriod r.dec, dec := newDec, bits := if newDec ≠ r.dec then [] else win
    settle := if newDec ≠ r.dec then 3 else r.settle - 1 }
  let s := s.onlyIf (s.isoCal c) (·.isoCalStep c sum)
  let s := ((s.wr Reg.ISO_RESULT.WORD c w).srcWord (64 + c) code (reason ≠ 0 || ovr)).wrI Reg.ISO_UV.UV c (divHalfAway (code * isoFs (s.rd Reg.ISO_CFG.RANGE c)) 8388608)
  let s := ((s.wr Reg.ISO_STATUS.REASON c reason).wr Reg.ISO_STATUS.SETTLE c (b2n settle)).wr Reg.ISO_STATUS.VALID c
    (b2n (reason == 0))
  let s := if ovr then (s.flag Reg.ISO_STATUS.OVR c).bump Reg.ISO_STATUS.OVR_CNT c else s
  if s.on Reg.ISO_CTRL.CEDAR c then s.sendLink ⟨2, c, 0, w⟩ else s

/-- R173: a decimation filter completes an output; `bits` are the DEC modulator bits since the last one, the oldest first. -/
def execIsoOutput (ch : Fin 8) (bits : List Bool) (s : State) : Host.Outcome State Fault Refusal :=
  .next (
    let c := ch.val
    let r := s.iso c
    if s.present islISF && s.isoRuns c && bits.length == 2 ^ (4 + r.dec) && decide (r.base + isoPeriod r.dec ≤ s.now) then s.isoEmit c bits
    else s)

/-- R178: sixty-four consecutive equal modulator bits start an overload. -/
def execIsoOverload (ch : Fin 8) (s : State) : Host.Outcome State Fault Refusal :=
  .next (s.setIso ch.val { s.iso ch.val with ovl := true })

/-- R178: sixty-four modulator bits have passed after the run of equal bits ended. -/
def execIsoOverloadEnd (ch : Fin 8) (s : State) : Host.Outcome State Fault Refusal :=
  .next (s.setIso ch.val { s.iso ch.val with ovl := false })

/-- Does Rowan hold the channel by the image (R179)? -/
def State.isoOfRowan (s : State) (c : Nat) : Bool := s.claimState (0x400 + c) == 1 && s.claimOwner (0x400 + c) == 0x28

/-- Writing ISO_CTRL.EN (R179). -/
def State.isoSetEn (s : State) (c : Nat) (on : Bool) : State :=
  let id := 0x400 + c
  if on then
    let o := if s.claimState id = 0 then 0x2A else s.claimOwner id
    s.claimAll o [id] (fun t => if t.on Reg.ISO_CTRL.EN c then t else  t.isoStart c) (fun t => t)
  else if s.isoOfRowan c then s.flag Reg.ISO_STATUS.EN_DENIED c
  else ((s.wr Reg.ISO_CTRL.EN c 0).wr Reg.ISO_STATUS.VALID c 0).releaseClaims 0x2A [id]

/-- Is a stage with SAFE = 1 enabled? -/
def State.safeEnabled (s : State) : Bool := (List.range 8).any fun n => s.stgEnabled n && s.stgAttr n 0

/-- Writing CAL_START = 1 (R180, R181): the channel runs at DEC = 256, whether enabled or not. -/
def State.isoCalStart (s : State) (c : Nat) : State :=
  let id := 0x400 + c
  if s.claimedByEnabled id || (s.claimState id ≠ 0 && s.claimOwner id == 0x28 && s.safeEnabled) then
    s.flag Reg.ISO_STATUS.CAL_ERR c
  else if s.rd Reg.ISO_STATUS.CAL_ST c ≠ 0 then s
  else
    let own := (s.iso c).dec
    let t := ((s.wr Reg.ISO_STATUS.CAL_ST c 1).flag Reg.ISO_CTRL.CAL_START c).isoCount c 4
    t.setIso c { t.iso c with own := own, calN := 0, calShort := 0, calRef := 0 }

/-- Trims that bring the mean raw outputs of the short to 0 and of the reference to 6,553,600 codes (R180). -/
def isoTrims (short ref : Rat) : Option (Int × Int) :=
  if ref = short then none
  else
    let g := roundAway ((6553600 / (ref - short) - 1) * 2 ^ 20)
    let o := roundAway (-(short * (1 + (g : Rat) / 2 ^ 20)) / 8)
    if -32768 ≤ g ∧ g ≤ 32767 ∧ -32768 ≤ o ∧ o ≤ 32767 then some (g, o) else none

/-- A calibration of a channel ends: the channel returns to its own DEC, to which a DEC_SEL written meanwhile follows at its first output; one
with EN = 0 stops (R174, R180, R181). -/
def State.isoCalEnd (s : State) (c : Nat) : State :=
  let t := ((s.wr Reg.ISO_STATUS.CAL_ST c 0).wr Reg.ISO_CTRL.CAL_START c 0).isoCount c (s.iso c).own
  t.onlyIf (!s.on Reg.ISO_CTRL.EN c) (·.wr Reg.ISO_STATUS.VALID c 0)

/-- The trims that a calibration has found: its raw outputs are filter sums × 2^23 / 256^3. -/
def State.isoCalTrims (s : State) (c : Nat) : Option (Int × Int) :=
  isoTrims (((s.iso c).calShort : Rat) / 128) (((s.iso c).calRef : Rat) / 128)

/-- R180, R181: a calibration ends after its 134 outputs; trims out of range leave the old ones and set CAL_ERR alone.
`short` and `ref` are the sums of the 64 outputs of each reference, as the channel gave them. -/
def execIsoCalDone (ch : Fin 8) (short ref : Int) (s : State) : Host.Outcome State Fault Refusal :=
  .next (
    let c := ch.val
    if s.isoCal c ∧ 134 ≤ (s.iso c).calN ∧ short = (s.iso c).calShort ∧ ref = (s.iso c).calRef then
      match s.isoCalTrims c with
      | some (g, o) =>
        let t := (s.wrI Reg.ISO_TRIM.GAIN_TRIM c g).wrI Reg.ISO_TRIM.OFS_TRIM c o
        let t := if t.on Reg.ISO_CTRL.CAL_STORE c then t.storeIsoTrims c else t
        (t.isoCalEnd c).flag Reg.ISO_STATUS.CAL_DONE c
      | none => (s.isoCalEnd c).flag Reg.ISO_STATUS.CAL_ERR c
    else s)

/-- The isolation link of a die is lost during a calibration: it is abandoned with the trims unchanged (R181). -/
def State.isoAbandon (s : State) (c : Nat) : State :=
  if s.isoCal c then ((s.isoCalEnd c).flag Reg.ISO_STATUS.CAL_ERR c).wr Reg.ISO_STATUS.REASON c 1 else s

end Sys2Proof.Machine
end

