-- ==== Sys2Proof/Machine/Legs.lean ====
section
/-! DEFINITION. The meanings of the leg commands of spec/03_timebases_and_legs.md and spec/04_dead_time_and_extremes.md. The
commands on timebases, which other units follow, are in Carriers. -/

namespace Sys2Proof.Machine

/-! ## Compares and triggers -/

/-- R77: a compare matches at a fine position of the present tick; its event acts if it wins that position. -/
def execCompareMatch (leg : Fin 24) (cmp : Cmp) (fine : Fin 128) (s : State) : Host.Outcome State Fault Refusal :=
  .next (match s.tbOfLeg leg.val with
    | some n =>
      if s.tbRunning n && s.present (islLeg leg.val) then
        (s.edgeWork n).takeEvent leg.val n fine.val fun ev => match cmp with
          | .a => ev == 2 || ev == 3
          | .b => ev == 4 || ev == 5
      else s
    | none => s)

/-- Does a trigger compare fire at the present counter position (R78)? -/
def State.trgFires (s : State) (l k n : Nat) : Bool :=
  let (tick, dir) := s.trgAct l k
  let per := s.tbPer n
  let up := dir % 2 == 1
  let down := dir / 2 == 1
  s.on Reg.LEG_TRG.EN l k && s.tbCnt n == tick &&
    (match s.tbMode n with
     | 0 => up
     | 1 => down
     | _ => if tick = 0 ∨ tick = per then up || down
            else if s.on Reg.TB_STATUS.DIR n then down else up)

/-- R78: a trigger compare matches and fires a one-tick pulse into its routes. -/
def execTriggerPulse (leg : Fin 24) (k : Fin 4) (s : State) : Host.Outcome State Fault Refusal :=
  .next (match s.tbOfLeg leg.val with
    | some n =>
      if s.tbRunning n && s.present (islLeg leg.val) then
        let t := s.edgeWork n
        if t.trgFires leg.val k.val n then t.raisePulse [1, 2] leg.val k.val else t
      else s
    | none => s)

/-! ## Silt ladders (R89 to R91) -/

/-- Has the ladder placed no edge in the last two ticks? The SWN ladder places none. A stretched tick and the one after it count as ticks
with edges (R386). -/
def State.ladIdle (s : State) (l j : Nat) : Bool :=
  let idle (e : Nat) : Bool := e / 128 + 2 < s.now || e = 0
  let even : Bool := match s.clk.stretch with | some t => decide (t.1 + 3 < s.now) | none => true
  even && match j with
  | 0 => idle (s.leg l).edgeH
  | 1 => idle (s.leg l).edgeL
  | _ => true

/-- R89, R91: the bias code moves by one count, at most once per 256 ticks and after two idle ticks; a code at its limit stays there, and a
ladder with CAL_ERR holds its code. -/
def execLadderCalUpdate (leg : Fin 24) (lad : Fin 3) (up : Bool) (s : State) : Host.Outcome State Fault Refusal :=
  .next (
    let l := leg.val
    let j := lad.val
    let r := s.leg l
    let last := r.ladAt.getD j 0
    if s.present (islLeg l) && !s.on Reg.LEG_LAD.CAL_ERR l j && s.ladIdle l j && (last = 0 || last + 256 ≤ s.now) then
      let c := s.rd Reg.LEG_LAD.CAL_CODE l j
      let c' := if up then (if c < 4095 then c + 1 else c) else c - 1
      let n := if c' = 0 ∨ c' = 4095 then r.ladCnt.getD j 0 + 1 else 0
      (s.wr2 Reg.LEG_LAD.CAL_CODE l j c').setLeg l { r with ladAt := r.ladAt.set j s.now, ladCnt := r.ladCnt.set j n }
    else s)

/-- The register word of a ladder, as the event log records it (R434). -/
def State.ladWord (s : State) (l j : Nat) : Nat :=
  s.rd Reg.LEG_LAD.CAL_CODE l j * 256 + s.rd Reg.LEG_LAD.SPARE_TAPS l j * 16 + s.rd Reg.LEG_LAD.CAL_ERR l j * 2
    + s.rd Reg.LEG_LAD.LOCK l j

/-- R91: the code has stood at its limit for 1,024 consecutive updates. DESIGN CHOICE (R91): CAL_ERR stays 1 until a reset of the ladder's
cluster, for the ladder then holds its code at the limit. -/
def execLadderCalLimit (leg : Fin 24) (lad : Fin 3) (s : State) : Host.Outcome State Fault Refusal :=
  .next (if 1024 ≤ (s.leg leg.val).ladCnt.getD lad.val 0 then
      let t := (s.wr2 Reg.LEG_LAD.CAL_ERR leg.val lad.val 1).showLadders
      t.logEv 0x0008 leg.val (leBytes 4 (t.ladWord leg.val lad.val))
    else s)

/-- R90: a ladder reaches LOCK = 1 once PLL-T is locked. -/
def execLadderLock (leg : Fin 24) (lad : Fin 3) (s : State) : Host.Outcome State Fault Refusal :=
  .next (if s.present (islLeg leg.val) && s.on Reg.PLL_STAT.LOCK 0 then
      ((s.wr2 Reg.LEG_LAD.LOCK leg.val lad.val 1).showLadders).showPwm
    else s)

/-! ## Output stage (R95 to R103) -/

/-- R95: a new OUTMODE takes effect at a tick edge after the one that captured its write (R84). -/
def execOutmodeApply (leg : Fin 24) (s : State) : Host.Outcome State Fault Refusal :=
  .next (match (s.leg leg.val).newMode with
    | some (_, t) =>
      if t < s.now then (s.setLeg leg.val { s.leg leg.val with newMode := none }).restartLeg leg.val (s.fineNow 0) else s
    | none => s)

/-- R96: a pending turn-on reaches its due time in the present tick, or did so before. -/
def execDeadtimeExpiry (leg : Fin 24) (s : State) : Host.Outcome State Fault Refusal :=
  .next (s.setLeg leg.val ((s.leg leg.val).turnOn (s.fineNow 127)))

/-- R103: a held closing edge reaches its held time. -/
def execHeldEdgeExecute (leg : Fin 24) (s : State) : Host.Outcome State Fault Refusal :=
  .next (
    let r := s.leg leg.val
    match r.held, r.pulse with
    | some h, some p =>
      if h ≤ s.fineNow 127 then (s.setLeg leg.val (r.turnOn h)).closeEdge leg.val p.side h else s
    | _, _ => s)

/-! ## Switch-node feedback (R104 to R107) -/

/-- The counter value that the leg's timebase held `k` ticks ago. -/
def State.cntBack (s : State) (n k : Nat) : Nat := if k = 0 then s.tbCnt n else (s.tb n).hist.getD (k - 1) 0

/-- A new sample of a direction: above it stays the last one of an earlier tick, which a boundary of the present tick takes (R111). -/
def addSample (old : List (Nat × Nat)) (d now : Nat) : List (Nat × Nat) := (d, now) :: (old.filter fun e => e.2 < now).take 1

/-- The list of windows with the one at a place marked as seen. -/
def markSeen (k : Nat) (ws : List SwnWin) : List SwnWin :=
  match ws[k]? with
  | some w => ws.set k { w with seen := true }
  | none => ws

/-- A natural transition gives a sample of the delay from the outgoing turn-off; with POL_SRC = 1 it is discarded unless ISIGN matches
its direction (R106, R107). -/
def State.natural (s : State) (l k : Nat) (w : SwnWin) (rise : Bool) (t : Nat) : State :=
  let r := s.leg l
  let d := min (t - w.off) 65535
  let keep := !s.on Reg.LEG_OUT_CFG.POL_SRC l || (s.isign l == if rise then 2 else 1)
  let s := s.setLeg l { r with
    win := markSeen k r.win, miss := 0, cls := if rise then 2 else 1
    smpR := if rise && keep then addSample r.smpR d s.now else r.smpR
    smpF := if !rise && keep then addSample r.smpF d s.now else r.smpF }
  let s := if rise then s.wr Reg.LEG_SWN_DLY.D_RISE l d else s.wr Reg.LEG_SWN_DLY.D_FALL l d
  s.showPol l

/-- The window of a list, the newest first, in which a transition at time `t` in a direction lies, with its place in the list; each ends
`len` fine steps after its turn-on. -/
def winOfEdge (ws : List SwnWin) (rise : Bool) (t len : Nat) : Option (Nat × SwnWin) :=
  ((List.range ws.length).reverse.filterMap fun k => ws[k]?.map fun w => (k, w)).find?
    fun e => e.2.rise == rise && decide (e.2.off ≤ t) && decide (t ≤ e.2.on + len)

/-- Class an accepted transition against the commutation windows (R106); classing is done in OUTMODE 0 only. -/
def State.classSwn (s : State) (l : Nat) (rise : Bool) (t : Nat) : State :=
  let r := s.leg l
  if s.outmode l ≠ 0 then s
  else match winOfEdge r.win rise t (s.rd Reg.LEG_ADT_LIM.SWN_WIN l * 128) with
    | some (k, w) =>
      if t < w.on then s.natural l k w rise t else s.setLeg l { r with win := markSeen k r.win, miss := 0 }
    | none => (s.flag Reg.LEG_DT_STATUS.SWN_UNEXP l).bump Reg.LEG_DT_CNT.UNEXP_CNT l

/-- R104: a level change on SWNn has stayed for FLT ticks; `level` is the level at the land, `fine` the fine code of its first
crossing, FLT ticks ago. A change cannot be accepted while the return link is lost (R23). -/
def execSwnAccept (leg : Fin 24) (level : Bool) (fine : Fin 128) (s : State) : Host.Outcome State Fault Refusal :=
  .next (
    let l := leg.val
    let rise := level != s.on Reg.LEG_SWN_CFG.INV l
    if !s.present (islLeg l) || s.links.ret || rise == s.on Reg.LEG_DT_STATUS.SWN_LVL l then s
    else
      let k := s.rd Reg.LEG_SWN_CFG.FLT l
      let t := s.now * 128 + fine.val - k * 128
      let cnt := match s.tbOfLeg l with
        | some n => s.cntBack n k
        | none => 0
      let s := (((s.wr Reg.LEG_DT_STATUS.SWN_LVL l (b2n rise)).wr Reg.LEG_SWN_TS.EDGE l (b2n rise)).wr Reg.LEG_SWN_TS.CNT l cnt).wr
        Reg.LEG_SWN_TS.FINE l fine.val
      s.classSwn l rise t)

/-- Is the adaptive loop of a leg running (R110, R111)? -/
def State.adtRuns (s : State) (l : Nat) : Bool :=
  s.on Reg.LEG_OUT_CFG.ADT_EN l && !s.on Reg.LEG_DT_STATUS.ADT_FAIL l && !s.links.ret

/-- Show ADT_RUN. -/
def State.showAdt (s : State) (l : Nat) : State := s.wr Reg.LEG_DT_STATUS.ADT_RUN l (b2n (s.adtRuns l))

/-- A window without a transition in it: a miss is counted, and MISS_LIM consecutive misses stop the loop with ADT_FAIL (R106, R110). -/
def State.swnMiss (s : State) (l : Nat) : State :=
  let n := (s.leg l).miss + 1
  let s := (s.setLeg l { s.leg l with cls := 0, miss := n }).showPol l
  if s.adtRuns l && s.rd Reg.LEG_ADT_LIM.MISS_LIM l ≤ n then (s.flag Reg.LEG_DT_STATUS.ADT_FAIL l).showAdt l else s

/-- R106, R110: the oldest commutation window that is over ends. While the return link is lost no transition can arrive, the leg holds its
polarity and its dead time, and no miss is counted (R23, R111). -/
def execSwnWindowExpiry (leg : Fin 24) (s : State) : Host.Outcome State Fault Refusal :=
  .next (
    let l := leg.val
    let r := s.leg l
    match r.win.find? fun w => decide (w.on + s.rd Reg.LEG_ADT_LIM.SWN_WIN l * 128 ≤ s.fineNow 0) with
    | some w =>
      let s := s.setLeg l { r with win := r.win.erase w }
      if w.seen || s.links.ret then s else s.swnMiss l
    | none => s)

/-! ## The adaptive loop (R109, R110) -/

/-- The trim of one direction after the last sample `d` of the ending period, and whether it met TRIM_LIM (R109). -/
def adtStep (d margin base step lim : Nat) (trim : Int) : Int × Bool :=
  let t : Int := d + margin
  let e : Int := base + trim
  let x := if e < t then trim + min (step : Int) (t - e) else if t < e then trim - min (step : Int) (e - t) else trim
  if (lim : Int) < x then (lim, true) else if x < -(lim : Int) then (-(lim : Int), true) else (x, false)

/-- One trim takes its sampled value, if there is one; MARGIN, STEP and TRIM_LIM are those of the state `s0`. The new trim applies from the
tick after this one (R109). -/
def State.adtApply (u s0 : State) (l : Nat) (x : Option Nat) (base : Nat) (f : FD) : State :=
  match x with
  | some d =>
    let (v, hit) := adtStep d (s0.rd Reg.LEG_ADT_CFG.MARGIN l) base (s0.rd Reg.LEG_ADT_CFG.STEP l) (s0.rd Reg.LEG_ADT_LIM.TRIM_LIM l) (u.rdI f l)
    ((u.noteFields [f] l).wrI f l v).onlyIf hit (·.flag Reg.LEG_DT_STATUS.ADT_LIMIT l)
  | none => u

/-- The update of a leg at a period boundary (R109): each direction with a sample accepted before this tick moves toward its
target; a sample of the boundary tick counts in the next period (R111). -/
def State.adtUpdate (s : State) (l : Nat) : State :=
  let r := s.leg l
  let old (x : List (Nat × Nat)) : Option Nat := (x.find? fun e => decide (e.2 < s.now)).map (·.1)
  let new (x : List (Nat × Nat)) : List (Nat × Nat) := x.filter fun e => decide (s.now ≤ e.2)
  let s' := s.setLeg l { r with smpR := new r.smpR, smpF := new r.smpF }
  if s.adtRuns l then
    (s'.adtApply s l (old r.smpR) r.dtr Reg.LEG_ADT_TRIM.TRIM_RISE).adtApply s l (old r.smpF) r.dtf Reg.LEG_ADT_TRIM.TRIM_FALL
  else s'

/-- Writing ADT_EN = 1 (R110). -/
def State.adtEnable (s : State) (l : Nat) : State :=
  if s.on Reg.LEG_OUT_CFG.ADT_EN l then s
  else if s.rd Reg.LEG_ADT_CFG.STEP l = 0 ∨ s.rd Reg.LEG_ADT_LIM.MISS_LIM l = 0 ∨ s.rd Reg.LEG_ADT_LIM.SWN_WIN l = 0 then
    s.flag Reg.LEG_DT_STATUS.CFG_ERR l
  else
    ((s.setLeg l { s.leg l with miss := 0 }).flag Reg.LEG_OUT_CFG.ADT_EN l).showAdt l

/-- Clearing ADT_FAIL: with ADT_EN = 1 the loop restarts with a miss count of 0 (R110). -/
def State.adtClear (s : State) (l : Nat) : State :=
  let was := s.on Reg.LEG_DT_STATUS.ADT_FAIL l
  let s := s.wr Reg.LEG_DT_STATUS.ADT_FAIL l 0
  if was && s.on Reg.LEG_OUT_CFG.ADT_EN l then (s.setLeg l { s.leg l with miss := 0 }).showAdt l else s

/-- The pad watch of one leg at a tick edge: what the commands of its outputs became in the tick that ends (R115). -/
def State.padEdge (s : State) (l : Nat) : State :=
  let p := s.pad l
  let h := s.gateOn l .hi
  let w := s.gateOn l .lo
  s.setPad l { p with cmdH := h, cmdL := w, cmdAtH := if h = p.cmdH then p.cmdAtH else s.now, cmdAtL := if w = p.cmdL then p.cmdAtL else s.now }

/-- R115: the readback of a gate land has differed from the commanded level for more than 64 ticks after the last commanded edge, whatever
commanded it: the leg counts as a leg with a run-time fault (R33). -/
def execPadMismatch (leg : Fin 24) (side : Side) (s : State) : Host.Outcome State Fault Refusal :=
  .next (
    let p := s.pad leg.val
    let (lvl, e) : Bool × Nat := match side with | .hi => (p.cmdH, p.cmdAtH) | .lo => (p.cmdL, p.cmdAtL)
    if s.present islPAD && s.gateOn leg.val side == lvl && decide (e + 64 < s.now) then
      (s.flag Reg.LEG_DT_STATUS.PAD_MISMATCH leg.val).unitFault leg.val
    else s)

end Sys2Proof.Machine
end

