-- ==== Sys2Proof/Machine/Trig.lean ====
section
/-! DEFINITION. Angles of real vectors and sines of real angles, by plane rotations in fixed point, exact to within 2^-48: for the rules
that name atan2, sin and cos of a quantity and give no table for them (R237, R256). Where a rule gives a quantity and no rounding for
the register that holds it, the choice of the neighbouring value is free. -/

namespace Sys2Proof.Machine

/-- A rational number brought to an integer where the spec states no rounding: the number itself, or one of its two neighbours. -/
def roundAny (q : Rat) : Int := if q.den = 1 then q.num else q.num / (q.den : Int) + b2n (Config.roundsUp q.num q.den)

/-- The angles atan(2^-k), k = 0 to 55, in 2^-60 turn. -/
def rotAngles : List Int :=
  [144115188075855872, 85076163258429574, 44951908161305065, 22818290470345122, 11453424468330927, 5732295643252264,
   2866847280169571, 1433511120421931, 716766496754739, 358384615492275, 179192478636968, 89596260679883,
   44798133010118, 22399066838831, 11199533461137, 5599766735784, 2799883368544, 1399941684353,
   699970842187, 349985421095, 174992710548, 87496355274, 43748177637, 21874088818,
   10937044409, 5468522205, 2734261102, 1367130551, 683565276, 341782638] ++
  [170891319, 85445659, 42722830, 21361415, 10680707, 5340354,
   2670177, 1335088, 667544, 333772, 166886, 83443,
   41722, 20861, 10430, 5215, 2608, 1304,
   652, 326, 163, 81, 41, 20,
   10, 5]

/-- The product of the cosines of those angles, in 2^-60. -/
def rotScale : Int := 700114967507363238

/-- Rotate a vector onto the positive x axis; the angle turned comes out in 2^-60 turn. -/
def rotToAxis : List Int → Nat → Int → Int → Int → Int
  | [], _, _, _, z => z
  | a :: t, k, x, y, z =>
    if 0 ≤ y then rotToAxis t (k + 1) (x + y / 2 ^ k) (y - x / 2 ^ k) (z + a)
    else rotToAxis t (k + 1) (x - y / 2 ^ k) (y + x / 2 ^ k) (z - a)

/-- The angle of a vector, atan2(y, x), in 2^-48 turn from 0 to 2^48 - 1; 0 for the zero vector. -/
def angleOf (y x : Int) : Nat :=
  let m : Int := 2 ^ 64
  let z := if x = 0 ∧ y = 0 then 0
    else if 0 ≤ x then rotToAxis rotAngles 0 (x * m) (y * m) 0
    else 2 ^ 59 + rotToAxis rotAngles 0 (-x * m) (-y * m) 0
  (((z + 2 ^ 11) / 2 ^ 12) % 2 ^ 48).toNat

/-- Turn the x axis by an angle given in 2^-60 turn, within a quarter turn: cosine and sine in 2^-60. -/
def rotBy : List Int → Nat → Int → Int → Int → Int × Int
  | [], _, x, y, _ => (x, y)
  | a :: t, k, x, y, z =>
    if 0 ≤ z then rotBy t (k + 1) (x - y / 2 ^ k) (y + x / 2 ^ k) (z - a)
    else rotBy t (k + 1) (x + y / 2 ^ k) (y - x / 2 ^ k) (z + a)

/-- Cosine and sine, in 2^-60, of an angle in 2^-48 turn. -/
def cosSin (th : Nat) : Int × Int :=
  let q : Nat := th % 2 ^ 48
  let half : Bool := decide (2 ^ 46 < q) && decide (q < 3 * 2 ^ 46)
  let z : Int := (if half then (q : Int) - 2 ^ 47 else if 2 ^ 47 < q then (q : Int) - 2 ^ 48 else (q : Int)) * 2 ^ 12
  let (c, s) := rotBy rotAngles 0 rotScale 0 z
  if half then (-c, -s) else (c, s)

end Sys2Proof.Machine
end

