-- ==== Sys2Proof/Machine/Field.lean ====
section
/-! DEFINITION. The field channels (spec/09_field_control.md): delivered angle and speed, the tables, references, voltage drive,
starting and the flying start. Channel n serves STGn. -/

namespace Sys2Proof.Machine

/-! ## The configuration of a channel -/

def State.fcState (s : State) (n : Nat) : Nat := s.rd Reg.FC_STAT.STATE n
def State.fcSrc (s : State) (n : Nat) : Nat := s.rd Reg.FC_CFG.ANG_SRC n
def State.fcIdx (s : State) (n : Nat) : Nat := s.rd Reg.FC_CFG.SRC_IDX n

/-- A sensor source (R219). -/
def State.fcSensor (s : State) (n : Nat) : Bool := s.fcSrc n == 1 || s.fcSrc n == 2

/-- The loop unit of the stage of a channel. -/
def State.fcLu (s : State) (n : Nat) : Nat := s.rd Reg.STG_DESC.LU n

/-- A LU_OUT of that unit. -/
def State.fcOut (s : State) (n i : Nat) : Nat := if s.fcLu n < 8 then s.rd Reg.LU_OUT.OUT (s.fcLu n) i else 0

/-- The electrical angle and speed of the sensor that a channel names, and whether it is valid and at fault (R219, R257, R258). -/
def State.sensorAng (s : State) (n : Nat) : Nat :=
  if s.fcSrc n = 1 then s.rd Reg.POS_ANG.ANG (s.fcIdx n) else s.rd Reg.RS_ANG.ANG (s.fcIdx n)
def State.sensorSpd (s : State) (n : Nat) : Int :=
  if s.fcSrc n = 1 then s.rdI Reg.POS_SPD.SPD (s.fcIdx n) else s.rdI Reg.RS_SPD.SPD (s.fcIdx n)
def State.sensorValid (s : State) (n : Nat) : Bool :=
  if s.fcSrc n = 1 then s.on Reg.POS_STAT.VALID (s.fcIdx n) else s.on Reg.RS_STAT.VALID (s.fcIdx n)
def State.sensorFault (s : State) (n : Nat) : Bool :=
  if s.fcSrc n = 1 then s.on Reg.POS_STAT.FAULT (s.fcIdx n) else s.on Reg.RS_STAT.FAULT (s.fcIdx n)

/-- The observer's angle (24 bits) and speed (Q20.12) (R219). -/
def State.obsAng (s : State) (n : Nat) : Nat := s.fcOut n (s.rd Reg.FC_CFG.OBS_OUT n) / 256
def State.obsSpd (s : State) (n : Nat) : Int := sgn 32 (s.fcOut n (s.rd Reg.FC_CFG.OBS_OUT n + 1))

/-- Has the loop unit written the observer value since the last boundary (R222)? -/
def State.obsFresh (s : State) (n : Nat) : Bool :=
  s.fcLu n < 8 && bitAt (s.lu (s.fcLu n)).outw (s.rd Reg.FC_CFG.OBS_OUT n)

/-- The sign of DIR as the last START or entry to RAMP read it (R240): +1 forward, −1 backward. -/
def State.dirSign (s : State) (n : Nat) : Int := if (s.fc n).dir then -1 else 1

/-- DIR is read (R240). -/
def State.readDir (s : State) (n : Nat) : State := s.setFc n { s.fc n with dir := s.on Reg.FC_CTRL.DIR n }

/-- The sign that R220 gives a quantity: sgn(0) = +1. -/
def sgnOf (x : Int) : Int := if x < 0 then -1 else 1

/-! ## Tables (R224, R225, R227, R229) -/

/-- Entries of a table: sine, advance, map. -/
def tblSize (tbl : Nat) : Nat :=
  match tbl with
  | 0 => 4096
  | 1 => 1024
  | 2 => 32768
  | _ => 0

/-- The key of a table entry, and the number under which its double-bit error is kept. -/
def tblKey (tbl i : Nat) : Nat := 0x10000 * tbl + i
def tblEcc (tbl i : Nat) : Nat := 2 ^ 32 + tblKey tbl i

/-- What an entry holds before any write: the hardware fill of the sine table, 0 elsewhere (R227). -/
def tblInit (key : Nat) : Nat := if key < 4096 then uns 32 (sineEntry key) else 0

/-- A table entry. -/
def State.tbl (s : State) (t i : Nat) : Nat := SMap.get (tblInit (tblKey t i)) s.fctab (tblKey t i)

/-- Write a table entry: bits [7:0] of an advance entry are 0 (R224). -/
def State.setTbl (s : State) (t i v : Nat) : State :=
  let w := if t = 1 then v % 2 ^ 32 / 256 * 256 else v % 2 ^ 32
  { s with fctab := SMap.set (tblInit (tblKey t i)) s.fctab (tblKey t i) w, eccBad := s.eccBad.filter (· ≠ tblEcc t i) }

/-- The address of the table port's data register, under which a table error is reported. -/
def tblPortAddr : Nat := Reg.FC_TBL_DATA.DATA.addr 0 0

/-- A double-bit error in a table entry is met: counter and event log (R33). -/
def State.tblMet (s : State) (e : Nat) : State := (s.eccCount e 1).logEv 0x0004 islFPC (leBytes 4 tblPortAddr)

/-- A lookup of a channel meets a double-bit error: the stage trips as at a run-time fault, which takes the channel to HOLD with ABORT where
R231 does, and FAULT is set (R230). The entry that is lowest in the lookup's list is the one counted. -/
def State.fcTblFault (s : State) (n e : Nat) : State :=
  (((s.tblMet e).nodeRise n srcDieLink clsGeneral).fcAbort n).flag Reg.FC_STAT.FAULT n

/-- A lookup reads table entries, given as error numbers: it goes on where none is bad (R230). -/
def State.tblLookup (s : State) (n : Nat) (es : List Nat) (go : State → State) : State :=
  match es.find? s.eccBad.contains with
  | some e => s.fcTblFault n e
  | none => go s

/-- The phase advance at a speed magnitude (raw Q20.12), in 2^-24 turn (R224). -/
def State.advance24 (s : State) (n : Nat) (mag : Nat) : Rat :=
  let d := s.rd Reg.FC_ADV.ADV_DSPD n
  if d = 0 then Config.advByZero mag
  else
    let nn := 2 ^ s.rd Reg.FC_ADVT.ADV_LOG2N n
    let t (i : Nat) : Rat := (sgn 24 (s.tbl 1 (((s.fc n).advBase + i) % 1024) / 256) : Int)
    let i := mag / d
    if i < nn - 1 then t i + mkRat (mag % d : Nat) d * (t (i + 1) - t i) else t (nn - 1)

/-- The advance entries that a lookup reads, as error numbers (R230). -/
def State.advReads (s : State) (n : Nat) (mag : Nat) : List Nat :=
  let d := s.rd Reg.FC_ADV.ADV_DSPD n
  let nn := 2 ^ s.rd Reg.FC_ADVT.ADV_LOG2N n
  let i := mag / d
  (if d = 0 then [] else if i < nn - 1 then [i, i + 1] else [nn - 1]).map fun k => tblEcc 1 (((s.fc n).advBase + k) % 1024)

/-- A + C of R220 at a speed (raw Q20.12), in 2^-24 turn. -/
def State.corr24 (s : State) (n : Nat) (w : Int) : Rat :=
  (if s.on Reg.FC_CFG.ADV_EN n then (sgnOf w : Rat) * s.advance24 n w.natAbs else 0)
    + mkRat (w * s.rd Reg.FC_COMP.COMP_NS n * 4096) 1000000000

/-! ## Delivered angle and speed (R216, R217, R220 to R222) -/

/-- A sum of angles in 2^-24 turn, wrapped to a 24-bit angle (R7). -/
def wrap24 (q : Rat) : Nat := uns 24 (roundAny q)

/-- The forced angle in 2^-24 turn and the forced speed as Q20.12 (R221). -/
def State.forcedAng (s : State) (n : Nat) : Rat := mkRat (s.fc n).th (2 ^ 24)
def State.forcedSpd (s : State) (n : Nat) : Int := roundAny (mkRat (s.fc n).w 256)

/-- What a sensor source delivers in RUN. -/
def State.deliverSensor (s : State) (n : Nat) : Nat × Int :=
  let w := s.sensorSpd n
  (wrap24 ((s.sensorAng n + s.rd Reg.FC_OFFS.OFFS n : Nat) + s.corr24 n w), w)

/-- The delivered angle and speed by state (R216, R220). -/
def State.deliver (s : State) (n : Nat) : Nat × Int :=
  let st := s.fcState n
  let align : Nat := s.rd Reg.FC_ALIGN.ALIGN_ANG n + if (s.fc n).pre then 0x400000 else 0
  if st = 4 then (align % 2 ^ 24, 0)
  else if st = 5 ∨ (st = 7 ∧ s.fcSrc n = 4) then (wrap24 (s.forcedAng n), s.forcedSpd n)
  else if st = 6 then (wrap24 (s.forcedAng n + s.corr24 n (s.forcedSpd n)), s.forcedSpd n)
  else if s.fcSensor n then s.deliverSensor n
  else if st = 7 then
    (wrap24 ((s.obsAng n : Rat) + mkRat (s.fc n).r (2 ^ 24) + s.corr24 n (s.obsSpd n)), s.obsSpd n)
  else if st = 0 then (0, 0)
  else (s.rd Reg.FC_ANG.ANG n, 0)

/-- Does the delivered angle hold the phase advance A (R216, R220)? -/
def State.advUsed (s : State) (n : Nat) : Bool :=
  let st := s.fcState n
  s.on Reg.FC_CFG.ADV_EN n && (st == 6 || (st != 4 && st != 5 && s.fcSensor n) || (st == 7 && s.fcSrc n == 3))

/-- Does a source fault of R222 stand? A position fault counts in every state, for a sensor source delivers in OFF as it does in RUN
(R216). -/
def State.srcDown (s : State) (n : Nat) : Bool :=
  (s.fcState n == 7 && s.fcSrc n == 3 && decide (4 ≤ (s.fc n).stale) && !s.obsFresh n)
    || (s.fcSensor n && s.sensorFault n)

/-- Angle in 2^-48 turn that a speed in 2^-20 turns/s covers in `t` ticks of 2 ns. -/
def turnIn (w : Int) (t : Nat) : Rat := mkRat (w * 2 ^ 28 * t) 500000000

/-- Deliver the angle and speed; at a source fault the angle goes on at the last delivered speed (R222). -/
def State.fcDeliver (s : State) (n : Nat) : State :=
  if s.srcDown n then
    let e := uns 48 ((s.fc n).ext + roundAny (turnIn (s.rdI Reg.FC_SPD.SPD n * 256) 2))
    (s.setFc n { s.fc n with ext := e }).wr Reg.FC_ANG.ANG n (e / 2 ^ 24)
  else
    let (a, w) := s.deliver n
    s.tblLookup n (if s.advUsed n then s.advReads n w.natAbs else []) fun t =>
      ((t.wr Reg.FC_ANG.ANG n a).wrI Reg.FC_SPD.SPD n w).setFc n { t.fc n with ext := a * 2 ^ 24 }

/-! ## References (R217, R225, R226) -/

/-- The position in the motor map for a speed magnitude (raw Q20.12) and a torque magnitude (raw Q2.30); none where Vdc or a node
distance is not positive (R225). -/
def State.mapPos (s : State) (n : Nat) (mag tq : Nat) : Option (Rat × Rat) :=
  let vdc := max (sgn 32 (s.fcOut n (s.rd Reg.FC_CFG.VDC_OUT n))) (sgn 16 (s.rd Reg.FC_VDC.VDC_MIN n) * 2 ^ 15)
  let dspd := s.rd Reg.FC_MAPSPD.MAP_DSPD n
  let dtq := s.rd Reg.FC_MAPTQ.MAP_DTQ n
  let lim (q : Rat) (k : Nat) : Rat := if q < 0 then 0 else if ((k - 1 : Nat) : Rat) < q then ((k - 1 : Nat) : Rat) else q
  if vdc ≤ 0 ∨ dspd = 0 ∨ dtq = 0 then none
  else some (lim (mkRat (mag * sgn 16 (s.rd Reg.FC_VDC.VDC_NOM n) * 2 ^ 15) (vdc.toNat * dspd)) (2 ^ s.rd Reg.FC_MAP.LS n),
    lim (mkRat tq dtq) (2 ^ s.rd Reg.FC_MAP.LT n))

/-- The map entry of node (i, j); beyond the last node of an axis, the last one (R225). -/
def State.mapNode (s : State) (n i j : Nat) : Nat :=
  let ns := 2 ^ s.rd Reg.FC_MAP.LS n
  let nt := 2 ^ s.rd Reg.FC_MAP.LT n
  ((s.fc n).mapBase + min i (ns - 1) * nt + min j (nt - 1)) % 32768

/-- Bilinear interpolation of the motor map, rounded to Q1.15 (R225): ID and IQ. -/
def State.mapRef (s : State) (n : Nat) (mag tq : Nat) : Int × Int :=
  match s.mapPos n mag tq with
  | none => Config.mapOpen s.fresh
  | some (x, y) =>
    let i := x.floor.toNat
    let j := y.floor.toNat
    let fx := x - i
    let fy := y - j
    let mix (g : Nat → Int) : Int :=
      let at' (a b : Nat) : Rat := g (s.tbl 2 (s.mapNode n a b))
      let p := at' i j * (1 - fx) + at' (i + 1) j * fx
      let q := at' i (j + 1) * (1 - fx) + at' (i + 1) (j + 1) * fx
      roundAway (p * (1 - fy) + q * fy)
    (mix fun w => sgn 16 (w / 2 ^ 16), mix fun w => sgn 16 (w % 2 ^ 16))

/-- The map entries that a lookup in RUN reads, as error numbers (R230). -/
def State.mapReads (s : State) (n : Nat) : List Nat :=
  if s.fcState n = 7 ∧ s.on Reg.FC_CFG.MAP_EN n ∧ !s.srcDown n then
    match s.mapPos n (s.rdI Reg.FC_SPD.SPD n).natAbs (s.fc n).tq.natAbs with
    | some (x, y) =>
      let i := x.floor.toNat
      let j := y.floor.toNat
      [(i, j), (i + 1, j), (i, j + 1), (i + 1, j + 1)].map fun e => tblEcc 2 (s.mapNode n e.1 e.2)
    | none => []
  else []

/-- The references of a channel by state (R217, R225): 0 while its source is at fault (R222). -/
def State.refsOf (s : State) (n : Nat) : Int × Int :=
  if s.srcDown n then (0, 0)
  else match s.fcState n with
  | 4 => (sgn 16 (s.rd Reg.FC_LEVEL.L_ALIGN n), 0)
  | 5 => (0, sgnOf (s.fc n).wt * sgn 16 (s.rd Reg.FC_LEVEL.L_RAMP n))
  | 7 =>
    let tq := (s.fc n).tq
    if s.on Reg.FC_CFG.MAP_EN n then
      let (d, q) := s.mapRef n (s.rdI Reg.FC_SPD.SPD n).natAbs tq.natAbs
      (d, if tq < 0 then -q else q)
    else (0, satI 16 (roundAny (mkRat tq (2 ^ 15))))
  | _ => (0, 0)

/-- The references of a channel leave for the set-points after a period boundary or a change of state (R226). -/
def State.writeRefs (s : State) (n : Nat) : State :=
  s.tblLookup n (s.mapReads n) fun t => t.sendRefs n (t.refsOf n).1 (t.refsOf n).2

/-- References land in the set-points (R226). -/
def State.landRefs (s : State) (n : Nat) (d q : Int) : State :=
  if s.on Reg.FC_CFG.REF_EN n && s.fcState n != 0 && decide (s.fcLu n < 8) then
    let k := s.rd Reg.FC_CFG.REF_SP n
    (((s.wr2 Reg.LU_SP.SP (s.fcLu n) k (uns 32 (d * 2 ^ 15))).wr2 Reg.LU_SP.SP (s.fcLu n) (k + 1) (uns 32 (q * 2 ^ 15))).wrI
      Reg.FC_REF.ID_REF n d).wrI Reg.FC_REF.IQ_REF n q
  else s

/-- Is a set-point one that a channel writes (R226)? -/
def State.spOwned (s : State) (u i : Nat) : Option Nat :=
  (List.range 8).find? fun n => s.stgKind n ≠ 0 && s.fcLu n == u && s.on Reg.FC_CFG.REF_EN n && s.fcState n ≠ 0
    && (i == s.rd Reg.FC_CFG.REF_SP n || i == s.rd Reg.FC_CFG.REF_SP n + 1)

/-! ## Sinusoidal voltage drive (R228) -/

/-- The sine table at a 24-bit angle, as a fraction (R227). -/
def State.sineTbl (s : State) (th : Nat) : Rat :=
  let i := th % 2 ^ 24 / 4096
  let a := sgn 32 (s.tbl 0 i)
  let b := sgn 32 (s.tbl 0 ((i + 1) % 4096))
  mkRat (a * 4096 + (b - a) * (th % 4096 : Nat)) (2 ^ 42)

/-- The vector angle in 2^-24 turn and the amplitude M by state (R228): M = 0 while the source is at fault (R222). -/
def State.driveVec (s : State) (n : Nat) : Rat × Rat :=
  let down := s.srcDown n
  let th : Rat := s.rd Reg.FC_ANG.ANG n
  let quarter (x : Int) : Rat := (sgnOf x * 0x400000 : Int)
  let la : Rat := mkRat (sgn 16 (s.rd Reg.FC_LEVEL.L_ALIGN n)) (2 ^ 15)
  let lr : Rat := mkRat (sgn 16 (s.rd Reg.FC_LEVEL.L_RAMP n)) (2 ^ 15)
  match s.fcState n with
  | 4 => (th, if down then 0 else la)
  | 5 =>
    let top := s.rd Reg.FC_RSPD.RAMP_SPD n * 256
    let f : Rat := if (s.fc n).w.natAbs < top then mkRat (s.fc n).w.natAbs top else 1
    (s.forcedAng n + quarter (s.fc n).wt, la + (lr - la) * f)
  | _ =>
    let m : Rat := if down then 0 else mkRat (min (s.fc n).tq.natAbs (2 ^ 30)) (2 ^ 30)
    (th + quarter (s.fc n).tq, m)

/-- The phase of the stage's k-th leg in 2^-24 turn. -/
def State.drivePhase (s : State) (n k : Nat) : Rat :=
  if k < 3 then -(mkRat (k * 2 ^ 24) 3)
  else -(mkRat ((k - 3 : Nat) * 2 ^ 24) 3) - (if s.on Reg.FC_CFG.SIX30 n then mkRat (2 ^ 24) 12 else 0)

/-- The 24-bit table angle of the stage's k-th leg. -/
def State.driveAngle (s : State) (n k : Nat) : Nat :=
  let tb := s.rd Reg.STG_DESC.TB n
  let per := periodLen (s.tbMode tb) (s.tbPer tb)
  -- ω × 1.5 × Tper in 2^-24 turn: ω in 2^-12 turns/s, Tper in 2 ns
  wrap24 ((s.driveVec n).1 + s.drivePhase n k + mkRat (s.rdI Reg.FC_SPD.SPD n * 4096 * 3 * per) 1000000000)

/-- The compare value of the stage's k-th leg. -/
def State.driveCmp (s : State) (n k l : Nat) : Nat :=
  let d : Rat := mkRat 1 2 + mkRat 1 2 * (s.driveVec n).2 * s.sineTbl (s.driveAngle n k)
  let d : Rat := if d < 0 then 0 else if 1 < d then 1 else d
  (roundAway (d * s.span128 l)).toNat

/-- The sine entries that the duties of a stage read, as error numbers (R230). -/
def State.sineReads (s : State) (n : Nat) : List Nat :=
  (List.range (s.stgLegs n).length).flatMap fun k =>
    let i := s.driveAngle n k / 4096
    [tblEcc 0 i, tblEcc 0 ((i + 1) % 4096)]

/-- The duties of every leg of the stage leave for the CMPA shadows at a period boundary (R228). -/
def State.driveLegs (s : State) (n : Nat) : State :=
  s.tblLookup n (s.sineReads n) fun t =>
    t.setFc n { t.fc n with
      duty := (t.fc n).duty ++ [(t.now, (t.stgLegs n).zipIdx.map fun e => (e.1, t.driveCmp n e.2 e.1))] }

/-- What a channel sent lands, references and duties each after their own time, all duties of a boundary at one tick edge, as Cedar writes
(R86, R226, R228). DESIGN CHOICE: duties on their way land also where the channel has left the states that drive, unless it is OFF. -/
def State.fcLand (s : State) (n : Nat) : State :=
  let r := s.fc n
  let refIn (e : Nat × Int × Int) : Bool := decide (e.1 + Config.refTicks ≤ s.now)
  let dutyIn (e : Nat × List (Nat × Nat)) : Bool := decide (e.1 + Config.dutyTicks ≤ s.now)
  if r.refs.isEmpty && r.duty.isEmpty then s
  else
    let t := s.setFc n { r with refs := r.refs.filter fun e => !refIn e, duty := r.duty.filter fun e => !dutyIn e }
    let t := foldEach (fun e u => u.landRefs n e.2.1 e.2.2) (r.refs.filter refIn) t
    t.onlyIf (t.fcState n != 0) fun t =>
      foldEach (fun e u => foldEach (fun c v => v.writeCmp c.1 .a c.2 true) e.2 u) (r.duty.filter dutyIn) t

/-! ## States (R217, R218, R231 to R237) -/

/-- Enter a state that keeps the outputs held off; a pulse in progress lasts its time (R218). -/
def State.fcHeld (s : State) (n st : Nat) : State :=
  (((s.setFc n { s.fc n with pulseAt := none, since := s.now }).fcHoldOff n).wr Reg.FC_STAT.STATE n st).writeRefs n

/-- Enter RUN: TQeff starts from 0 (R226). -/
def State.fcRun (s : State) (n : Nat) : State :=
  ((s.setFc n { s.fc n with tq := 0, stale := 0 }).wr Reg.FC_STAT.STATE n 7).writeRefs n

/-- Enter RAMP toward the target that DIR names (R234, R240). -/
def State.fcRamp (s : State) (n : Nat) : State :=
  let s := s.readDir n
  ((s.setFc n { s.fc n with
      wt := s.dirSign n * (s.rd Reg.FC_RSPD.RAMP_SPD n * 256 : Nat), since := s.now, tmo := none, ho := 0 }).wr
    Reg.FC_STAT.STATE n 5).writeRefs n

/-- START_FROM_REST: enter ALIGN (R233, R235); a pulse in progress lasts its time (R218). -/
def State.fcAlign (s : State) (n : Nat) : State :=
  ((s.setFc n { s.fc n with since := s.now, pre := s.on Reg.FC_CFG.ALIGN_PRE n, pulseAt := none }).wr
    Reg.FC_STAT.STATE n 4).writeRefs n

/-- An attempt fails (R235). -/
def State.fcFail (s : State) (n rsn : Nat) : State := (s.wr Reg.FC_STAT.FAIL_RSN n rsn).fcHeld n 8

/-- Enter PROBE (R237). -/
def State.fcProbe (s : State) (n : Nat) : State :=
  (s.setFc n { s.fc n with k := 0, prb := [], low := 0, ia := none, ib := none }).fcHeld n 2

/-- The catch of R236 with a sensor. -/
def State.fcCatchSensor (s : State) (n : Nat) : State :=
  let w := s.sensorSpd n
  let slow := decide (w.natAbs < s.rd Reg.FC_ZSPD.ZERO_SPD n)
  let against : Bool := !slow && sgnOf w != s.dirSign n
  let s := (s.wr Reg.FC_STAT.REVERSE n (b2n against)).setFc n
    { s.fc n with brake := against && !s.on Reg.FC_CFG.FLY_POLICY n }
  s.fcRun n

/-- The start decision (R236, R237, R239). -/
def State.fcDecide (s : State) (n : Nat) : State :=
  if s.fcSensor n then (if s.on Reg.FC_CTRL.SALIGN n then s.fcAlign n else s.fcCatchSensor n) else s.fcProbe n

/-- m² × 3 in Q2.30 squared, from the phase currents (R237). -/
def probeSq (ia ib : Int) : Nat := (3 * ia * ia + (ia + 2 * ib) * (ia + 2 * ib)).toNat

/-- φ in 2^-48 turn: the angle of (α, β) = (ia, (ia + 2 ib) / √3) (R237). -/
def probePhi (ia ib : Int) : Nat :=
  let x : Int := isqrt (3 * ia.natAbs * ia.natAbs * 2 ^ 64)
  angleOf ((ia + 2 * ib) * 2 ^ 32) (if ia < 0 then -x else x)

/-- Is m below PROBE_IMIN? -/
def State.probeLow (s : State) (n : Nat) (ia ib : Int) : Bool :=
  decide (probeSq ia ib < 3 * (s.rd Reg.FC_PLIM.PROBE_IMIN n * 2 ^ 15) ^ 2)

/-- FC_PRB: m rounded to Q1.15 and φ to 2^-16 turn. -/
def State.showProbe (s : State) (n : Nat) (ia ib : Int) : State :=
  let m := (isqrt (4 * probeSq ia ib / (3 * 2 ^ 30)) + 1) / 2
  (s.wr Reg.FC_PRB.M_LAST n (min m 0x7FFF)).wr Reg.FC_PRB.PHI_LAST n ((probePhi ia ib + 2 ^ 31) / 2 ^ 32)

/-- The sum of the wrapped steps of φ, the last probe first. -/
def phiSteps : List (Bool × Nat) → Int
  | a :: b :: t => sgn 48 (uns 48 ((a.2 : Int) - b.2)) + phiSteps (b :: t)
  | _ => 0

/-- The catch of R237: every m at or above PROBE_IMIN. -/
def State.fcCatch (s : State) (n : Nat) : State :=
  let r := s.fc n
  let tb := s.rd Reg.STG_DESC.TB n
  let len := periodLen (s.tbMode tb) (s.tbPer tb)
  -- ω in 2^-20 turns/s from steps in 2^-48 turn over (PROBE_N - 1) periods of `len` × 2 ns
  let w := roundAny (mkRat (phiSteps r.prb * 500000000) ((s.rd Reg.FC_PROBE.PROBE_N n - 1) * len * 2 ^ 28))
  let last := match r.prb with
    | a :: _ => a.2
    | [] => 0
  -- ticks, counted in halves, since the midpoint of the last pulse
  let half : Int := 2 * (s.now - r.pulseAt.getD s.now : Nat) - s.rd Reg.FC_PROBE.PROBE_T n
  let th := uns 48 ((last : Int) + sgnOf w * 2 ^ 46 + roundAny (mkRat (w * 2 ^ 28 * half) 1000000000))
  let against : Bool := sgnOf w != s.dirSign n
  let s := ((s.flag Reg.FC_STAT.CAUGHT n).wrI Reg.FC_FLY.FLY_SPD n (roundAny (mkRat w 256))).wr Reg.FC_STAT.REVERSE n (b2n against)
  if against && !s.on Reg.FC_CFG.FLY_POLICY n then (s.setFc n { s.fc n with low := 0, k := 0, ia := none, ib := none }).fcHeld n 3
  else
    let s := s.setFc n { s.fc n with th := th, w := w, pulseAt := none }
    if s.fcSrc n = 3 then
      ((s.setFc n { s.fc n with tmo := some s.now, ho := 0 }).wr Reg.FC_STAT.STATE n 6).writeRefs n
    else s.fcRamp n

/-- Both phase currents of a pulse are taken (R237). -/
def State.fcTaken (s : State) (n : Nat) (ia ib : Int) : State :=
  let low := s.probeLow n ia ib
  let s := s.showProbe n ia ib
  if s.fcState n = 3 then
    let r := s.fc n
    let k := if low then r.low + 1 else 0
    let s := s.setFc n { r with ia := none, ib := none, low := k, k := 0 }
    if 2 ≤ k then s.fcAlign n else s
  else
    let r := s.fc n
    let s := s.setFc n { r with ia := none, ib := none, prb := (low, probePhi ia ib) :: r.prb }
    let r := s.fc n
    if r.prb.length < s.rd Reg.FC_PROBE.PROBE_N n then s
    else if r.prb.all (·.1) then s.fcAlign n
    else if r.prb.any (·.1) then s.fcFail n 2
    else s.fcCatch n

/-- Is the fill of the running pulse still awaited? In PROBE pulse k awaits the k-th result; in BRAKE each pulse awaits one. -/
def State.fcAwaits (s : State) (n : Nat) : Bool :=
  let r := s.fc n
  (s.fcState n == 2 && r.prb.length < r.k) || (s.fcState n == 3 && decide (0 < r.k))

/-- The first fill of a probe slot after a pulse is a phase current (R237). -/
def State.fcFilled (s : State) (n k : Nat) : State :=
  if !s.fcAwaits n then s
  else
    let v := sgn 32 (s.rd Reg.SLOT_VAL.VAL (s.fcLu n) k)
    let r := s.fc n
    let ia := if k = s.rd Reg.FC_PROBE.PROBE_IN0 n then (match r.ia with | some x => some x | none => some v) else r.ia
    let ib := if k = s.rd Reg.FC_PROBE.PROBE_IN1 n then (match r.ib with | some x => some x | none => some v) else r.ib
    let s := s.setFc n { r with ia := ia, ib := ib }
    match ia, ib with
    | some x, some y => s.fcTaken n x y
    | _, _ => s

/-! ## Period boundaries (R218, R222, R226, R228, R234) -/

/-- The hold of R218 is released: the legs start afresh with both outputs off, and the blocks of the loop unit's enabled programs are
to be cleared. -/
def State.fcReleaseHold (s : State) (n : Nat) : State :=
  let u := s.fcLu n
  let s := s.setFc n { s.fc n with hold := false, pulse := false }
  let s := foldEach (fun l t => t.restartLeg l (t.fineNow 0)) (s.stgLegs n) s
  if u < 8 then
    foldEach (fun b t => if t.blkUsed u b then t.flag2 Reg.BLK_CTRL.CLR u b else t) (List.range 16) s
  else s

/-- Freshness of the observer at a boundary, and SRC_FAULT (R222). -/
def State.fcObserve (s : State) (n : Nat) : State :=
  let fresh := s.obsFresh n
  let u := s.fcLu n
  let s := s.wr Reg.FC_STAT.OBS_OK n (b2n fresh)
  let s := s.setFc n { s.fc n with stale := if fresh then 0 else (s.fc n).stale + 1 }
  let s := if u < 8 then s.setLu u { s.lu u with outw := withoutBit (s.lu u).outw (s.rd Reg.FC_CFG.OBS_OUT n) } else s
  s.onlyIf (s.srcDown n) (·.flag Reg.FC_STAT.SRC_FAULT n)

/-- A handover to the observer (R234); REVERSE falls where the direction is that of DIR (R239). -/
def State.fcHandover (s : State) (n : Nat) : State :=
  let d := sgn 48 (uns 48 (((s.fc n).th : Int) - s.obsAng n * 2 ^ 24))
  let r := if s.rd Reg.FC_HO.HO_SLEW n = 0 then 0 else d
  let s := (s.setFc n { s.fc n with r := r, tmo := none }).flag Reg.FC_STAT.HANDOVER n
  (s.onlyIf (sgnOf (s.fc n).w == s.dirSign n) (·.wr Reg.FC_STAT.REVERSE n 0)).fcRun n

/-- A boundary in TRACK, or in RAMP once the target is reached, counts an agreement or starts the count afresh (R234). -/
def State.fcAgree (s : State) (n : Nat) : State :=
  let r := s.fc n
  if s.fcSrc n = 3 ∧ (s.fcState n = 6 ∨ (s.fcState n = 5 ∧ r.w = r.wt ∧ r.tmo.isSome)) then
    let d := sgn 48 (uns 48 ((r.th : Int) - s.obsAng n * 2 ^ 24))
    let ok := s.on Reg.FC_STAT.OBS_OK n && decide (d.natAbs ≤ s.rd Reg.FC_HO.HO_TOL n * 2 ^ 32)
    let s := s.setFc n { r with ho := if ok then r.ho + 1 else 0 }
    if ok ∧ s.rd Reg.FC_HO.HO_N n ≤ r.ho + 1 then s.fcHandover n else s
  else s

/-- Move a value toward a target by at most a step. -/
def moveTo (x t step : Int) : Int := if x < t then min (x + step) t else max (x - step) t

/-- TQeff and the handover residual move on in RUN (R226, R234, R236). -/
def State.fcTorque (s : State) (n : Nat) : State :=
  let r := s.fc n
  let cmd : Int := if r.brake then -(sgnOf (s.sensorSpd n)) * (sgn 16 (s.rd Reg.FC_PLIM.BRAKE_TQ n) * 2 ^ 15)
    else s.rdI Reg.FC_TQ.TQ_CMD n
  let sl : Nat := s.rd Reg.FC_TQS.TQ_SLEW n
  s.setFc n { r with
    tq := if sl = 0 then cmd else moveTo r.tq cmd sl
    r := moveTo r.r 0 (s.rd Reg.FC_HO.HO_SLEW n * 2 ^ 32 : Nat) }

/-- A pulse of PROBE_T or BRAKE_T ticks begins (R218). -/
def State.startPulse (s : State) (n k len : Nat) : State :=
  s.setFc n { s.fc n with k := k, pulseAt := some s.now, pulse := true, pulseEnd := s.now + len, ia := none, ib := none }

/-- A pulse of PROBE or BRAKE begins at a boundary; a pulse of PROBE whose fill is missing fails the attempt (R237). -/
def State.fcPulse (s : State) (n : Nat) : State :=
  let r := s.fc n
  if s.fcState n = 2 then
    if r.prb.length < r.k then s.fcFail n 3
    else if r.k < s.rd Reg.FC_PROBE.PROBE_N n then s.startPulse n (r.k + 1) (s.rd Reg.FC_PROBE.PROBE_T n)
    else s
  else if s.fcState n = 3 then s.startPulse n 1 (s.rd Reg.FC_PROBE.BRAKE_T n)
  else s

/-- The period-boundary work of a channel (R226): TQeff and the residual move on where the boundary finds RUN, before an agreement of this
boundary hands over (R234). -/
def State.fcBoundary (s : State) (n : Nat) : State :=
  let s := s.setFc n { s.fc n with advBase := s.rd Reg.FC_ADVT.ADV_BASE n, mapBase := s.rd Reg.FC_MAP.MAP_BASE n }
  let s := s.fcObserve n
  let s := s.onlyIf ((s.fc n).hold && [0, 4, 5, 6, 7].contains (s.fcState n)) (·.fcReleaseHold n)
  if s.fcState n = 0 then s
  else
    let s := (((s.onlyIf (s.fcState n == 7) (·.fcTorque n)).fcPulse n).fcAgree n).writeRefs n
    s.onlyIf (s.fcDrives n) (·.driveLegs n)

/-- The channels of a timebase take a period boundary. -/
def State.fcBoundaries (s : State) (tb : Nat) : State :=
  if s.present islFPC then
    foldEach (fun n t => t.onlyIf ((t.stgKind n == 1 || t.stgKind n == 2) && t.rd Reg.STG_DESC.TB n == tb) (·.fcBoundary n))
      (List.range 8) s
  else s

/-! ## FPC cycles (R220, R221, R236, R239) -/

/-- One FPC cycle of a channel: the forced integrator, the end of braking, the return to RAMP below RAMP_SPD / 2, the delivery. -/
def State.fcCycle (s : State) (n : Nat) : State :=
  let st := s.fcState n
  let s := s.onlyIf (st == 5 || st == 6 || (st == 7 && s.fcSrc n == 4)) fun t =>
    t.setFc n { t.fc n with th := uns 48 ((t.fc n).th + roundAny (turnIn (t.fc n).w 2)) }
  let s := s.onlyIf ((s.fc n).brake && decide ((s.sensorSpd n).natAbs < s.rd Reg.FC_ZSPD.ZERO_SPD n)) fun t =>
    (t.setFc n { t.fc n with brake := false }).wr Reg.FC_STAT.REVERSE n 0
  let s := s.onlyIf (st == 7 && s.fcSrc n == 3 && !s.srcDown n
      && decide (2 * (s.obsSpd n).natAbs < s.rd Reg.FC_RSPD.RAMP_SPD n)) fun t =>
    (t.setFc n { t.fc n with th := uns 48 (t.obsAng n * 2 ^ 24 + (t.fc n).r), w := t.obsSpd n * 256 }).fcRamp n
  s.fcDeliver n

/-! ## Checks of R232 -/

def State.fcRefuse (s : State) (n code : Nat) : State := (s.flag Reg.FC_STAT.CFG_ERR n).wr Reg.FC_STAT.CFG_CODE n code

/-- ANG_SRC and SRC_IDX within their ranges (R219). -/
def State.srcOk (s : State) (n : Nat) : Bool :=
  match s.fcSrc n with
  | 1 => decide (s.fcIdx n ≤ 3)
  | 2 => decide (s.fcIdx n ≤ 1)
  | 3 => true
  | 4 => true
  | _ => false

/-- The ranges of FC_MAP and FC_ADVT (R232, check 7). -/
def mapOk (ls lt base : Nat) : Bool := 2 ≤ ls && ls ≤ 8 && 2 ≤ lt && lt ≤ 7 && decide (base + 2 ^ (ls + lt) ≤ 32768)
def advOk (lg base : Nat) : Bool := 4 ≤ lg && lg ≤ 10 && decide (base + 2 ^ lg ≤ 1024)

/-- Check 6 of R232: values that are needed. -/
def State.fcValues (s : State) (n : Nat) : Bool :=
  let u := s.fcLu n
  let slotOn (k : Nat) : Bool := s.on Reg.SLOT_CFG.EN u k && s.rd Reg.SLOT_CFG.TYPE u k != 3
  let free : Bool := s.fcSrc n == 3 || s.fcSrc n == 4
  let salign : Bool := s.on Reg.FC_CTRL.SALIGN n
  (!(free || salign) || s.rd Reg.FC_TIME.ALIGN_T n != 0)
    && (!free || (s.rd Reg.FC_TIME.RAMP_TMO n != 0 && s.rd Reg.FC_WAIT.RETRY_WAIT n != 0 && s.rd Reg.FC_ACC_X.RAMP_ACC n != 0
        && s.rd Reg.FC_RSPD.RAMP_SPD n != 0 && s.rd Reg.FC_HO.HO_N n != 0))
    && (decide (16 ≤ s.rd Reg.FC_PROBE.PROBE_T n) && decide (2 ≤ s.rd Reg.FC_PROBE.PROBE_N n)
        && (s.on Reg.FC_CFG.FLY_POLICY n || decide (16 ≤ s.rd Reg.FC_PROBE.BRAKE_T n))
        && slotOn (s.rd Reg.FC_PROBE.PROBE_IN0 n) && slotOn (s.rd Reg.FC_PROBE.PROBE_IN1 n))
    && (!s.on Reg.FC_CFG.MAP_EN n || (s.rd Reg.FC_VDC.VDC_MIN n != 0 && s.rd Reg.FC_MAPSPD.MAP_DSPD n != 0
        && s.rd Reg.FC_MAPTQ.MAP_DTQ n != 0))
    && (!s.on Reg.FC_CFG.ADV_EN n || s.rd Reg.FC_ADV.ADV_DSPD n != 0)

/-- The first failing check of a START, 0 where all pass (R232). -/
def State.startCheck (s : State) (n : Nat) : Nat :=
  let salign := s.on Reg.FC_CTRL.SALIGN n
  if !s.srcOk n ∨ (s.fcSensor n ∧ !salign ∧ !s.sensorValid n) then 3
  else if !s.on Reg.FC_CFG.DRIVE n ∧ ((s.fcSrc n = 3 ∨ s.fcSrc n = 4) ∨ salign) ∧ !s.on Reg.FC_CFG.REF_EN n then 4
  else if s.on Reg.FC_CFG.DRIVE n ∧ s.fcSrc n = 3 then 5
  else if !s.fcValues n then 6
  else if !mapOk (s.rd Reg.FC_MAP.LS n) (s.rd Reg.FC_MAP.LT n) (s.rd Reg.FC_MAP.MAP_BASE n)
      ∨ !advOk (s.rd Reg.FC_ADVT.ADV_LOG2N n) (s.rd Reg.FC_ADVT.ADV_BASE n)
      ∨ s.rd Reg.FC_CFG.OBS_OUT n = 15 ∨ s.rd Reg.FC_CFG.REF_SP n = 15 then 7
  else if s.fcSensor n ∧ salign ∧ s.rd Reg.FC_ZSPD.ZERO_SPD n ≤ (s.sensorSpd n).natAbs then 9
  else 0

/-! ## Commands -/

/-- The position channel that a sensor source names (R57, R216). -/
def State.fcClaim (s : State) (n : Nat) : List Nat :=
  match s.fcSrc n with
  | 1 => [0x600 + s.fcIdx n]
  | 2 => [0x604 + s.fcIdx n]
  | _ => []

/-- EN = 1 (R216, R227, R232). -/
def State.fcEnable (s : State) (n : Nat) : State :=
  if s.on Reg.FC_CTRL.EN n then s
  else if !s.on Reg.FC_TBL_STAT.SINE_RDY 0 then s.setFc n { s.fc n with enWait := true }
  else if s.stgKind n ≠ 1 ∧ s.stgKind n ≠ 2 then s.fcRefuse n 1
  else if !s.srcOk n then s.fcRefuse n 3
  else s.claimAll (n + 1) (s.fcClaim n) (fun t => (t.flag Reg.FC_CTRL.EN n).fcHeld n 1) fun t => t.fcRefuse n 2

/-- EN = 0: OFF from any state; the outputs stay held until the next boundary (R217, R218), and what was on its way to set-points or compare
shadows is dropped, for a channel in OFF writes nothing (R216). DESIGN CHOICE: a pulse in progress ends at once, as it does at STOP. -/
def State.fcDisable (s : State) (n : Nat) : State :=
  let s := s.setFc n { s.fc n with enWait := false }
  if !s.on Reg.FC_CTRL.EN n then s
  else
    let s := ((s.wr Reg.FC_CTRL.EN n 0).releaseClaims (n + 1) [0x600, 0x601, 0x602, 0x603, 0x604, 0x605]).wr Reg.FC_STAT.STATE n 0
    s.setFc n { s.fc n with pulse := false, pulseAt := none, brake := false, refs := [], duty := [] }

/-- START (R231). -/
def State.fcStart (s : State) (n : Nat) : State :=
  if s.fcState n = 1 ∧ s.stgEnabled n ∧ !s.stgTripped n then
    if s.startCheck n = 0 then ((s.wr Reg.FC_STAT.ATTEMPT n 0).readDir n).fcDecide n else s.fcRefuse n (s.startCheck n)
  else s

/-- STOP (R231, R240). -/
def State.fcStop (s : State) (n : Nat) : State := if s.fcState n = 0 then s else s.fcEnterHold n

/-- OFFS is copied to Clay (R223, R406). -/
def State.offsStore (s : State) (n : Nat) : State := s.setWord (0x4C000F80 + 4 * n) (s.rd Reg.FC_OFFS.OFFS n)

/-- OFFS from Clay at a reset of FPC (R223), 0 from a word with a double-bit error (R409). -/
def State.loadOffs (s : State) (n : Nat) : State :=
  let a := 0x4C000F80 + 4 * n
  s.wr Reg.FC_OFFS.OFFS n (if s.eccBad.contains a then 0 else s.word a)

/-- The entry that the table port names, as an error number. -/
def State.portEntry (s : State) : Nat := tblEcc (s.rd Reg.FC_TBL_ADDR.TBL 0) (s.rd Reg.FC_TBL_ADDR.IDX 0)

/-- The port moves to the next entry with AINC (R229). -/
def State.tblNext (s : State) : State :=
  let t := s.rd Reg.FC_TBL_ADDR.TBL 0
  if s.on Reg.FC_TBL_ADDR.AINC 0 then s.wr Reg.FC_TBL_ADDR.IDX 0 ((s.rd Reg.FC_TBL_ADDR.IDX 0 + 1) % tblSize t) else s

/-- An access to FC_TBL_DATA with SINE_RDY = 1 (R229, R230). -/
def State.tblPort (s : State) (m : Option Master) (wr : Bool) (v : Nat) : State :=
  let t := s.rd Reg.FC_TBL_ADDR.TBL 0
  let i := s.rd Reg.FC_TBL_ADDR.IDX 0
  if tblSize t ≤ i then s.errTo m tblPortAddr
  else if wr then ((s.setTbl t i v).tblNext).ackTo m
  else if s.eccBad.contains (tblEcc t i) then ((s.tblMet (tblEcc t i)).flag Reg.FC_TBL_STAT.ECC_ERR 0).errTo m tblPortAddr
  else match m with
    | some m => s.tblNext.setResp m ⟨false, s.tbl t i⟩
    | none => s.tblNext

/-- An access to FC_TBL_DATA: before the sine fill ends it waits (R227). -/
def State.tblAccess (s : State) (m : Master) (wr : Bool) (v : Nat) : State :=
  if s.on Reg.FC_TBL_STAT.SINE_RDY 0 then s.tblPort (some m) wr v else { s with tblq := s.tblq ++ [⟨some m, wr, v⟩] }

/-! ## The meanings of the rows -/

/-- R199, R200, R237: the word at the front of the sample link fills the slots that it matches, and starts the programs whose sets
it completes; a probe slot also serves its field channel. -/
def execSampleLinkWord (s : State) : Host.Outcome State Fault Refusal :=
  .next (match s.linkq with
    | [] => s
    | w :: rest =>
      let s := { s with linkq := rest }
      if s.present islCED then
        foldEach (fun u t =>
          let ks := t.slotsFilled u w
          let t := t.fillUnit u w
          match t.stageOfLu u with
          | some n => foldEach (fun k r => r.fcFilled n k) ks t
          | none => t) (List.range 8) s
      else s)

/-- R218: a probe or brake pulse ends. -/
def execProbePulseEnd (n : Fin 8) (s : State) : Host.Outcome State Fault Refusal :=
  .next (
    let r := s.fc n.val
    if r.pulse ∧ r.pulseEnd ≤ s.now then s.setFc n.val { r with pulse := false } else s)

/-- R233: the alignment time has passed. -/
def execAlignExpiry (n : Fin 8) (s : State) : Host.Outcome State Fault Refusal :=
  .next (
    let k := n.val
    if s.fcState k = 4 ∧ (s.fc k).since + s.rd Reg.FC_TIME.ALIGN_T k * 1024 ≤ s.now then
      if s.fcSensor k then
        (s.wr Reg.FC_OFFS.OFFS k (uns 24 ((s.rd Reg.FC_ALIGN.ALIGN_ANG k : Int) - s.sensorAng k))).fcRun k
      else
        (s.setFc k { s.fc k with th := s.rd Reg.FC_ALIGN.ALIGN_ANG k * 2 ^ 24, w := 0, pre := false }).fcRamp k
    else s)

/-- R233: the first half of a two-step alignment has passed. -/
def execAlignPreHalfExpiry (n : Fin 8) (s : State) : Host.Outcome State Fault Refusal :=
  .next (
    let k := n.val
    if s.fcState k = 4 ∧ (s.fc k).pre ∧ (s.fc k).since + s.rd Reg.FC_TIME.ALIGN_T k * 512 ≤ s.now then
      s.setFc k { s.fc k with pre := false }
    else s)

/-- R221, R234: the ramp speed moves one step; at the target, RUN with ANG_SRC 4, else the handover time begins. -/
def execRampStep (n : Fin 8) (s : State) : Host.Outcome State Fault Refusal :=
  .next (
    let k := n.val
    let r := s.fc k
    if s.present islFPC ∧ s.fcState k = 5 ∧ r.since + 1024 ≤ s.now then
      let w := moveTo r.w r.wt (s.rd Reg.FC_ACC_X.RAMP_ACC k : Nat)
      let s := s.setFc k { r with w := w, since := r.since + 1024 }
      if w = r.wt then
        if s.fcSrc k = 4 then s.fcRun k
        else s.setFc k { s.fc k with tmo := match r.tmo with | some t => some t | none => some s.now }
      else s
    else s)

/-- R234: no handover within RAMP_TMO. -/
def execRampTimeout (n : Fin 8) (s : State) : Host.Outcome State Fault Refusal :=
  .next (
    let k := n.val
    match (s.fc k).tmo with
    | some t =>
      if (s.fcState k = 5 ∨ s.fcState k = 6) ∧ t + s.rd Reg.FC_TIME.RAMP_TMO k * 1024 ≤ s.now then s.fcFail k 1 else s
    | none => s)

/-- R235: the wait before a retry has passed. -/
def execRetryWaitExpiry (n : Fin 8) (s : State) : Host.Outcome State Fault Refusal :=
  .next (
    let k := n.val
    if s.fcState k = 8 ∧ (s.fc k).since + s.rd Reg.FC_WAIT.RETRY_WAIT k * 1024 ≤ s.now then
      let a := s.rd Reg.FC_STAT.ATTEMPT k + 1
      let s := s.wr Reg.FC_STAT.ATTEMPT k (min a 15)
      if s.rd Reg.FC_CFG.START_RETRY k < a then (s.fcHeld k 9).flag Reg.FC_STAT.START_FAIL k else s.fcDecide k
    else s)

/-- R227: the hardware fill of the sine table ends; what waited for it goes on. -/
def execSineFillDone (s : State) : Host.Outcome State Fault Refusal :=
  .next (if s.present islFPC ∧ !s.on Reg.FC_TBL_STAT.SINE_RDY 0 then
      let q := s.tblq
      let s := { s.flag Reg.FC_TBL_STAT.SINE_RDY 0 with tblq := [] }
      let s := foldEach (fun e t => t.tblPort e.m e.wr e.data) q s
      foldEach (fun n t => if (t.fc n).enWait then (t.setFc n { t.fc n with enWait := false }).fcEnable n else t) (List.range 8) s
    else s)

end Sys2Proof.Machine
end

