-- ==== Sys2Proof/Machine/Position.lean ====
section
/-! DEFINITION. Position and speed feedback (spec/10_position.md): encoders, Hall sensors, SSI encoders, resolvers and the encoder
emulators. -/

namespace Sys2Proof.Machine

/-! ## Configuration and validity -/

def State.posEn (s : State) (n : Nat) : Bool := s.on Reg.POS_CTRL.EN n
def State.posMode (s : State) (n : Nat) : Nat := s.rd Reg.POS_CTRL.MODE n

/-- Counts per turn (R246). -/
def State.cpr (s : State) (n : Nat) : Nat := 4 * s.rd Reg.POS_CFG.LINES n

/-- Does a route connect a land to a signal of the channel (R243)? -/
def State.posRouted (s : State) (n sig : Nat) : Bool :=
  s.routes.any fun r => r.kind == 6 && r.dst == 0x600 + n && r.par % 8 == sig

/-- The Hall state HU × 4 + HV × 2 + HW (R251). -/
def hallOf (lvl : Nat) : Nat := bits lvl 3 1 * 4 + bits lvl 4 1 * 2 + bits lvl 5 1

/-- The centre angle of Hall state k, 1 to 6, in 2^-16 turn. -/
def State.ctr (s : State) (n k : Nat) : Nat :=
  if k % 2 = 1 then s.rd Reg.POS_HALL.CTR_LO n ((k - 1) / 2) else s.rd Reg.POS_HALL.CTR_HI n ((k - 1) / 2)

def hallOk (k : Nat) : Bool := 1 ≤ k && k ≤ 6

/-- VALID (R257). -/
def State.showValid (s : State) (n : Nat) : State :=
  let r := s.pos n
  let ok := match s.posMode n with
    | 0 => r.refd
    | 1 => hallOk (hallOf r.lvl)
    | _ => r.good
  s.wr Reg.POS_STAT.VALID n (b2n (s.posEn n && ok && !s.on Reg.POS_STAT.FAULT n))

/-- A position fault (R258). -/
def State.posFault (s : State) (n rsn : Nat) : State :=
  (s.flag Reg.POS_STAT.FAULT n).wr Reg.POS_STAT.FAULT_RSN n rsn

/-! ## Encoder emulators (R261) -/

/-- Input counts reach an emulator: the accumulator, and the backlog within ±1,023. -/
def State.emuCount (s : State) (e : Nat) (k : Int) : State :=
  let q : Int := s.rd Reg.EMU_PQ.Q e
  let tot := (s.emu e).acc + k * (s.rd Reg.EMU_PQ.P e : Int)
  let st := Int.tdiv tot q
  let b := s.rdI Reg.EMU_STAT.BACKLOG e + st
  let s := s.setEmu e { s.emu e with acc := tot - st * q }
  (s.wrI Reg.EMU_STAT.BACKLOG e (clampI (-1023) 1023 b)).onlyIf (clampI (-1023) 1023 b ≠ b) (·.flag Reg.EMU_STAT.OVF e)

/-- Counts of position channel n reach the emulators that name it. -/
def State.emuFeed (s : State) (n : Nat) (k : Int) : State :=
  foldEach (fun e t =>
    if t.on Reg.EMU_CTRL.EN e ∧ t.rd Reg.EMU_CTRL.SRC e = n ∧ t.posEn n ∧ !t.on Reg.POS_STAT.FAULT n then t.emuCount e k else t)
    [0, 1, 2, 3] s

/-- An index event of an ABZ source: Z is due at the next step. -/
def State.emuIndex (s : State) (n : Nat) : State :=
  foldEach (fun e t =>
    if t.on Reg.EMU_CTRL.EN e ∧ t.rd Reg.EMU_CTRL.SRC e = n then t.setEmu e { t.emu e with zDue := true } else t) [0, 1, 2, 3] s

/-- The mechanical angle of a source in 2^-16 turn, of every source but an ABZ one, and whether the source is enabled and sound. -/
def State.srcAngle16 (s : State) (src : Nat) : Option (Nat × Bool) :=
  if src < 4 then
    (if s.posMode src ≠ 0 then some ((s.pos src).mech / 256, s.posEn src && !s.on Reg.POS_STAT.FAULT src) else none)
  else if src < 6 then
    some ((s.rsv (src - 4)).phi / 2 ^ 32, s.on Reg.RS_CTRL.EN (src - 4) && !s.on Reg.RS_STAT.FAULT (src - 4))
  else none

/-- Does a source count by the change of its mechanical angle (R261): an SSI channel or a resolver? -/
def State.countsAngle (s : State) (src : Nat) : Bool := decide (4 ≤ src) || s.posMode src != 1

/-- One FPC cycle of an emulator: Z falls due where the mechanical angle passes 0, and the change of the angle is counted. -/
def State.emuCycle (s : State) (e : Nat) : State :=
  if !s.on Reg.EMU_CTRL.EN e then s
  else match s.srcAngle16 (s.rd Reg.EMU_CTRL.SRC e) with
    | some (a, live) =>
      let old := (s.emu e).last
      let k := sgn 16 (uns 16 ((a : Int) - old))
      let zero : Bool := (0 < k && decide (65536 ≤ (old : Int) + k)) || (k < 0 && decide ((old : Int) + k < 0))
      let s := s.setEmu e { s.emu e with last := a, zDue := (s.emu e).zDue || (live && zero) }
      if live && k != 0 && s.countsAngle (s.rd Reg.EMU_CTRL.SRC e) then s.emuCount e k else s
    | none => s

/-! ## Incremental encoders (R246 to R250) -/

/-- The position of a quadrature state AB in the forward order 00, 10, 11, 01. -/
def quadPos (a b : Bool) : Nat :=
  match a, b with
  | false, false => 0
  | true, false => 1
  | true, true => 2
  | false, true => 3

/-- Count one edge: COUNT wraps at both ends, REV follows (R246), the edge is kept for the speed (R248). -/
def State.posStep (s : State) (n : Nat) (d : Int) : State :=
  let c := s.rd Reg.POS_CNT.COUNT n
  let m := s.cpr n
  let rev := s.rd Reg.POS_CNT.REV n
  let (c', rev') := if 0 < d then (if m ≤ c + 1 then (0, rev + 1) else (c + 1, rev))
    else (if c = 0 then (m - 1, rev + 255) else (c - 1, rev))
  let r := s.pos n
  let s := s.setPos n { r with
    cnt := r.cnt + d, edges := ((r.cnt + d, s.now) :: r.edges).take 64, at0 := s.now, dir := d, moved := true }
  ((s.wr Reg.POS_CNT.COUNT n c').wr Reg.POS_CNT.REV n rev').emuFeed n d

/-- The error of an index event (R250): COUNT − IDX_POS, taken in the range −CPR / 2 ≤ e < CPR / 2. -/
def indexErr (count idx m : Nat) : Int :=
  let e := ((count : Int) - idx) % m
  if m ≤ 2 * e then e - m else e

/-- The first index event is the reference (R249). -/
def State.posReference (s : State) (n : Nat) : State :=
  let s := s.setPos n { s.pos n with refd := true, first := false }
  let s := if s.on Reg.POS_CTRL.ZRESET n then (s.wr Reg.POS_CNT.COUNT n 0).wr Reg.POS_IDXPOS.IDX_POS n 0
    else s.wr Reg.POS_IDXPOS.IDX_POS n (s.rd Reg.POS_CNT.COUNT n)
  s.flag Reg.POS_STAT.IDX_SEEN n

/-- IDX_MODE 1: the position changes by −e (R250). -/
def State.posCorrect (s : State) (n : Nat) (e : Int) : State :=
  let p := (s.rd Reg.POS_CNT.COUNT n : Int) - e
  let rev := s.rd Reg.POS_CNT.REV n
  (s.wr Reg.POS_CNT.COUNT n (s.rd Reg.POS_IDXPOS.IDX_POS n)).wr Reg.POS_CNT.REV n
    (if p < 0 then rev + 255 else if (s.cpr n : Int) ≤ p then rev + 1 else rev)

/-- A later index event is checked (R250). -/
def State.posCheck (s : State) (n : Nat) : State :=
  let e := indexErr (s.rd Reg.POS_CNT.COUNT n) (s.rd Reg.POS_IDXPOS.IDX_POS n) (s.cpr n)
  if e.natAbs ≤ s.rd Reg.POS_IDX.IDX_TOL n then s.wr Reg.POS_IDXPOS.CONSEC n 0
  else
    let k := satAdd 255 (s.rd Reg.POS_IDXPOS.CONSEC n)
    let s := ((s.flag Reg.POS_STAT.INDEX_ERR n).bump Reg.POS_STAT.IDX_ERR_CNT n).wr Reg.POS_IDXPOS.CONSEC n k
    let s := match s.rd Reg.POS_IDX.IDX_MODE n with
      | 1 => s.posCorrect n e
      | 2 => s.wr Reg.POS_IDXPOS.IDX_POS n (s.rd Reg.POS_CNT.COUNT n)
      | _ => s
    s.onlyIf (decide (s.rd Reg.POS_IDX.IDX_LIMIT n ≤ k)) (·.posFault n 1)

/-- An index event (R249, R250). -/
def State.posIndex (s : State) (n : Nat) : State :=
  let s := s.emuIndex n
  if (s.pos n).wrAt = some (s.now / 2) then s
  else if (s.pos n).first then s.posReference n else s.posCheck n

/-- Accepted changes in ABZ mode (R246, R249, R258). -/
def State.posAbz (s : State) (n old new : Nat) : State :=
  let a0 := bitAt old 0
  let b0 := bitAt old 1
  let a1 := bitAt new 0
  let b1 := bitAt new 1
  let both := a0 != a1 && b0 != b1
  let step := (quadPos a1 b1 + 4 - quadPos a0 b0) % 4
  let fwd : Int := if step = 1 then 1 else -1
  let d : Int := if s.on Reg.POS_FLT.REVDIR n then -fwd else fwd
  let s1 := if both then
      (s.flag Reg.POS_STAT.QERR n).onlyIf (s.rd Reg.POS_IDX.IDX_MODE n ≠ 1) (·.posFault n 2)
    else if step = 0 then s else s.posStep n d
  let idx : Bool := if s.on Reg.POS_FLT.ZGATE n then !both && step != 0 && a1 && b1 && bitAt new 2
    else bitAt new 2 && !bitAt old 2
  s1.onlyIf idx (·.posIndex n)

/-- Drop the edges older than SPD_TMO × 1,024 ticks (R248). -/
def State.keptEdges (s : State) (n : Nat) : List (Int × Nat) :=
  (s.pos n).edges.filter fun e => s.now ≤ e.2 + s.rd Reg.POS_SPDC.SPD_TMO n * 1024

/-- The mechanical speed of an ABZ channel in 2^-16 counts/s (R248). -/
def State.estimate (s : State) (n : Nat) (es : List (Int × Nat)) : Int :=
  match es with
  | [] => 0
  | [e] =>
    let top := (s.pos n).wm.natAbs
    let v := if s.now = e.2 then (top : Int) else roundAny (mkRat (500000000 * 2 ^ 16) (s.now - e.2))
    (s.pos n).dir * min v top
  | e1 :: rest =>
    let e0 := (rest.find? fun e => s.rd Reg.POS_SPDC.SPD_T n ≤ e1.2 - e.2).getD (rest.getLastD e1)
    roundAny (mkRat ((e1.1 - e0.1) * 500000000 * 2 ^ 16) (e1.2 - e0.2))

/-- The filter of R248. -/
def filterSpeed (old new : Int) (shift : Nat) : Int := old + roundAny (mkRat (new - old) (2 ^ shift))

/-! ## Hall sensors (R251, R258) -/

/-- The difference of two centre angles, wrapped, in 2^-16 turn. -/
def State.ctrStep (s : State) (n a b : Nat) : Int := sgn 16 (uns 16 ((s.ctr n b : Int) - s.ctr n a))

/-- COUNT and REV follow the decoder of a Hall channel (R247). -/
def State.hallCount (s : State) (n a b : Nat) : State :=
  let v := Config.hallCount (s.rd Reg.POS_CNT.REV n * 2 ^ 24 + s.rd Reg.POS_CNT.COUNT n) a b
  (s.wr Reg.POS_CNT.COUNT n (v % 2 ^ 24)).wr Reg.POS_CNT.REV n (v / 2 ^ 24)

/-- An accepted change in Hall mode. -/
def State.posHall (s : State) (n old new : Nat) : State :=
  let a := hallOf old
  let b := hallOf new
  let r := s.pos n
  let s := if a = b then s else s.hallCount n a b
  if a = b then s
  else if !hallOk b then (s.flag Reg.POS_STAT.HALL_ERR n).posFault n 3
  else
    let d := s.ctrStep n a b
    let dir := sgnOf d
    if hallOk a && decide (d.natAbs ≤ 16384) then
      let w := if r.moved ∧ r.dir = dir then roundAny (mkRat (d * 500000000 * 2 ^ 16) (s.now - r.at0)) else 0
      let mid := uns 24 ((s.ctr n a : Int) * 256 + d * 128)
      (s.setPos n { r with w := w, at0 := s.now, dir := dir, base := mid, moved := true }).emuFeed n dir
    else
      (s.setPos n { r with w := 0, at0 := s.now, dir := 0, base := s.ctr n b * 256, moved := true }).onlyIf (hallOk a)
        (·.flag Reg.POS_STAT.HALL_ERR n)

/-! ## SSI encoders (R252, R253) -/

/-- A frame request at a ZRO of REQ_TB. -/
def State.ssiRequest (s : State) (n : Nat) : State :=
  let r := s.pos n
  if !(s.posEn n && s.posMode n == 2) then s
  else
    let rest := max r.hiAt r.endAt + s.rd Reg.POS_SSIT.TM_US n * 500
    if r.busy || !bitAt r.lvl 6 || decide (s.now < rest) then s.flag Reg.POS_STAT.SSI_MISS n
    else s.setPos n { r with busy := true, reqAt := s.now, shift := 0, tail := true }

/-- Every channel that takes its requests from a timebase. -/
def State.ssiRequests (s : State) (tb : Nat) : State :=
  if s.present islFPC then
    foldEach (fun n t => t.onlyIf (t.rd Reg.POS_SSIT.REQ_TB n == tb) (·.ssiRequest n)) [0, 1, 2, 3] s
  else s

/-- Gray code to binary. -/
def grayGo : Nat → Nat → Nat → Nat
  | 0, _, acc => acc
  | k + 1, v, acc => grayGo k v (acc * 2 + (bits v k 1 + acc) % 2)
def grayDecode (w v : Nat) : Nat := grayGo w v 0

/-- FPC cycles from the request to the check of the data line, half a clock period after the last rising edge: the clock falls one cycle
after the request, and FRAME + 1 periods follow (R252). -/
def State.ssiCheck (s : State) (n : Nat) : Nat := 1 + (s.rd Reg.POS_SSI.FRAME n + 1) * s.rd Reg.POS_SSI.CLKDIV n * 2

/-- FPC cycles from the request to the sample of bit `k`, 1 to FRAME: DLY after rising edge k + 1. -/
def State.ssiSample (s : State) (n k : Nat) : Nat :=
  1 + k * s.rd Reg.POS_SSI.CLKDIV n * 2 + s.rd Reg.POS_SSI.CLKDIV n + s.rd Reg.POS_SSI.DLY n

/-- Ticks from the request to the end of a frame: the check of the data line and the last sample. -/
def State.ssiLen (s : State) (n : Nat) : Nat := 2 * max (s.ssiCheck n) (s.ssiSample n (s.rd Reg.POS_SSI.FRAME n))

/-- The level that the channel drives on the SSI clock: high when idle, low in the first half of each of the FRAME + 1 periods of a frame. -/
def State.ssiClk (s : State) (n : Nat) : Bool :=
  let c := (s.now - (s.pos n).reqAt) / 2
  !(s.posEn n && s.posMode n == 2 && (s.pos n).busy && decide (1 ≤ c) && decide (c < s.ssiCheck n)
    && decide ((c - 1) % (2 * s.rd Reg.POS_SSI.CLKDIV n) < s.rd Reg.POS_SSI.CLKDIV n))

/-- One FPC cycle of a running frame: its bits are sampled, the first one highest, and the data line is read at the check. -/
def State.ssiCycle (s : State) (n : Nat) : State :=
  let r := s.pos n
  let c := (s.now - r.reqAt) / 2
  let d := bitAt r.lvl 6
  let hit : Bool := (List.range (s.rd Reg.POS_SSI.FRAME n)).any fun k => s.ssiSample n (k + 1) == c
  if r.busy then
    s.setPos n { r with shift := if hit then r.shift * 2 + b2n d else r.shift, tail := if c = s.ssiCheck n then d else r.tail }
  else s

/-- The angle in 2^-24 turn that the channel reaches at a tick at its estimated speed. -/
def State.ssiAngle (s : State) (n at' : Nat) : Rat :=
  let r := s.pos n
  (r.base : Rat) + mkRat (r.w * ((at' : Int) - r.at0)) (256 * 500000000)

/-- A bad frame (R253). -/
def State.ssiBad (s : State) (n : Nat) : State :=
  let k := (s.pos n).bad + 1
  ((s.setPos n { s.pos n with bad := k, lastBad := true }).flag Reg.POS_STAT.SSI_ERR n).onlyIf (decide (3 ≤ k)) (·.posFault n 4)

/-- A good frame (R252): COUNT, REV, the angle at the latch instant and the speed. -/
def State.ssiGood (s : State) (n val th latch : Nat) : State :=
  let st := s.rd Reg.POS_SSI.ST_BITS n
  let r := s.pos n
  let wm := if r.good then roundAny (mkRat (sgn 24 (uns 24 ((th : Int) - r.base)) * 500000000 * 2 ^ 8) (latch - r.at0)) else 0
  let w := if r.good then filterSpeed r.w wm (s.rd Reg.POS_SPDC.SPD_FLT n) else 0
  let s := s.setPos n { r with base := th, at0 := latch, w := w, wm := wm, good := true, bad := 0, lastBad := false }
  (s.wr Reg.POS_CNT.COUNT n (val % 2 ^ st)).wr Reg.POS_CNT.REV n (val / 2 ^ st)

/-- The bits of a frame are in: it is good or bad (R253). -/
def State.ssiFrame (s : State) (n raw : Nat) : State :=
  let f := s.rd Reg.POS_SSI.FRAME n
  let eb := s.on Reg.POS_SSI.ERRBIT n
  let v := raw % 2 ^ f
  let w := if eb then f - 1 else f
  let v' := if eb then v / 2 else v
  let val := if s.on Reg.POS_SSI.GRAY n then grayDecode w v' else v'
  let st := s.rd Reg.POS_SSI.ST_BITS n
  let th := val % 2 ^ st * 2 ^ (24 - st)
  let r := s.pos n
  let latch := r.reqAt + 2
  let jump := s.rd Reg.POS_SSIT.JUMP n
  let d := sgn 24 (uns 24 ((th : Int) - roundAny (s.ssiAngle n latch)))
  let bad := (eb && v % 2 == 1) || r.tail || (jump != 0 && r.good && decide (jump * 256 < d.natAbs))
  let s := s.setPos n { r with busy := false, endAt := s.now }
  if bad then s.ssiBad n else s.ssiGood n val th latch

/-! ## The angle in every FPC cycle (R247, R251, R252) -/

/-- Advance of a quantity at speed `w` (in 2^-k of its unit per second) over `t` ticks, in units, held between 0 and `lim` in direction
`dir`. -/
def coast (w : Int) (k t : Nat) (dir : Int) (lim : Rat) : Rat :=
  let x : Rat := mkRat (w * t) (2 ^ k * 500000000)
  if 0 < dir then (if x < 0 then 0 else if lim < x then lim else x)
  else if dir < 0 then (if 0 < x then 0 else if x < -lim then -lim else x)
  else 0

/-- The mechanical angle of an ABZ channel in 2^-24 turn (R247). -/
def State.abzAngle (s : State) (n : Nat) : Rat :=
  let m := s.cpr n
  let r := s.pos n
  if m = 0 then 0
  else ((s.rd Reg.POS_CNT.COUNT n * 2 ^ 24 / m : Nat) : Rat) + coast r.w 16 (s.now - r.at0) r.dir 1 * mkRat (2 ^ 24) m

/-- The electrical angle and speed of a channel, and its mechanical angle. -/
def State.posShown (s : State) (n : Nat) : Nat × Int × Nat :=
  let r := s.pos n
  let mul := s.rd Reg.POS_CFG.ELEC_MUL n
  match s.posMode n with
  | 1 =>
    let a := if s.on Reg.POS_STAT.FAULT n && s.rd Reg.POS_STAT.FAULT_RSN n == 3 && !hallOk (hallOf r.lvl) then (s.rd Reg.POS_ANG.ANG n : Rat)
      else (r.base : Rat) + coast r.w 32 (s.now - r.at0) r.dir (mkRat 1 6) * (2 ^ 24 : Nat)
    (wrap24 a, roundAny (mkRat r.w (2 ^ 20)), wrap24 a)
  | 2 =>
    let a := s.ssiAngle n s.now
    (wrap24 (a * (mul : Nat)), roundAway (mkRat (r.w * mul) (2 ^ 20)), wrap24 a)
  | _ =>
    let a := s.abzAngle n
    let m := s.cpr n
    (wrap24 (a * (mul : Nat)), if m = 0 then 0 else roundAway (mkRat (r.w * mul) (m * 16)), wrap24 a)

/-- The inputs of a channel are sampled at new levels (R244): a level that differs from the accepted one counts from this FPC cycle; SSI data
is not filtered. -/
def State.posRaw (s : State) (n new : Nat) : State :=
  let r := s.pos n
  s.setPos n { r with
    raw := new
    since := (List.range 6).map fun b => if bitAt new b = bitAt r.lvl b then none else (r.since.getD b none).orElse fun _ => some (s.now / 2)
    lvl := r.lvl % 64 + bits new 6 1 * 64
    hiAt := if bitAt new 6 && !bitAt r.lvl 6 then s.now else r.hiAt }

/-- Accepted levels of a channel act on its decoder. -/
def State.posTake (s : State) (n old new : Nat) : State :=
  if !s.posEn n then s
  else (match s.posMode n with
    | 0 => s.posAbz n old new
    | 1 => s.posHall n old new
    | _ => s).showValid n

/-- Is input `b` accepted at its new level: has it shown it in FILT_N consecutive samples (R244)? -/
def State.posAccepts (s : State) (n b : Nat) : Bool :=
  match (s.pos n).since.getD b none with
  | some c => decide (s.rd Reg.POS_FLT.FILT_N n ≤ s.now / 2 - c + 1)
  | none => false

/-- The sample of one FPC cycle: the levels that have stood for FILT_N samples are accepted together (R244). -/
def State.posSample (s : State) (n : Nat) : State :=
  let r := s.pos n
  let flip (b : Nat) : Bool := s.posAccepts n b
  if !(List.range 6).any flip then s
  else
    let new := ((List.range 6).map fun b => if flip b != bitAt r.lvl b then 2 ^ b else 0).sum + r.lvl / 64 * 64
    (s.setPos n { r with lvl := new, since := (List.range 6).map fun b => if flip b then none else r.since.getD b none }).posTake n r.lvl new

/-- One FPC cycle of a position channel. -/
def State.posCycle (s : State) (n : Nat) : State :=
  let s := s.posSample n
  if !s.posEn n then s
  else
    let s := s.ssiCycle n
    let (a, w, m) := s.posShown n
    ((s.wr Reg.POS_ANG.ANG n a).wrI Reg.POS_SPD.SPD n w).setPos n { s.pos n with mech := m }

/-! ## Resolvers (R254 to R259) -/

/-- Does the excitation generator of a resolver run (R254)? -/
def State.excRuns (s : State) (r : Nat) : Bool := s.present islRXC && s.on Reg.RS_CTRL.EN r

/-- One tick of the excitation: its phase advances by FTW × 2^-32 turn, whatever FTW was before (R254). -/
def State.excTick (s : State) (r : Nat) : State :=
  if s.excRuns r then s.setRsv r { s.rsv r with exc := ((s.rsv r).exc + s.rd Reg.RS_EXC.FTW r) % 2 ^ 32 } else s

/-- The differential output EXCr at a tick, as a part of the swing: a sine of amplitude AMP_CODE / 4,096, and 0 with EN = 0 (R254). -/
def State.excOut (s : State) (r : Nat) : Rat :=
  if s.excRuns r then mkRat ((cosSin ((s.rsv r).exc * 2 ^ 16)).2 * s.rd Reg.RS_EXC.AMP_CODE r) (2 ^ 72) else 0

/-- Does the sampling instant of a peak lie in the present tick: EXC_PH × 2^-16 of a period after phase 0.25 or 0.75 turn (R255)? -/
def State.excPeak (s : State) (r : Nat) (neg : Bool) : Bool :=
  let q := (if neg then 3 * 2 ^ 30 else 2 ^ 30) + s.rd Reg.RS_PH.EXC_PH r * 2 ^ 16
  decide ((q + 2 ^ 32 - (s.rsv r).exc) % 2 ^ 32 < s.rd Reg.RS_EXC.FTW r)

def State.rsFault (s : State) (r rsn : Nat) : State := (s.flag Reg.RS_STAT.FAULT r).wr Reg.RS_STAT.FAULT_RSN r rsn

/-- Show the electrical angle and speed of a resolver (R256). -/
def State.rsShow (s : State) (r : Nat) : State :=
  let mul := s.rd Reg.RS_PH.ELEC_MUL r
  (s.wr Reg.RS_ANG.ANG r (wrap24 (mkRat ((s.rsv r).phi * mul) (2 ^ 24)))).wrI Reg.RS_SPD.SPD r
    (roundAway (mkRat ((s.rsv r).w * mul) (2 ^ 20)))

/-- π, exact to 10^-33. -/
def piR : Rat := mkRat 3141592653589793238462643383279503 (10 ^ 33)

/-- T of R256 in seconds: half an excitation period at an FTW. -/
def loopT (ftw : Nat) : Rat := mkRat (2 ^ 31) (ftw * 500000000)

/-- The angle of Rowan's own loop at the present tick, in 2^-48 turn: between pairs it advances at ω̂ (R256, R277). -/
def State.rowPhi (s : State) (r : Nat) : Nat :=
  let x := s.rowRs r
  uns 48 (x.phi + roundAny (mkRat (x.w * 2 ^ 16 * ((s.now : Int) - x.at0)) 500000000))

/-- Rowan's own tracking loop on a sample pair, s and c in 2^-15 (R277): the form of R256 with KP and KI of a natural frequency of 500 Hz
and damping 0.707, and the tracking test of R256 with LOCK_N = 16. KP × e × 2^-16 is 2 × 0.707 × 500 × T × e / A in turns, KI × e / 16
is 2π × 500² × T × e / A in turns/s. -/
def State.rowTrack (s : State) (r : Nat) (sn cs : Int) : State :=
  let x := s.rowRs r
  let phi := s.rowPhi r
  let (co, si) := cosSin phi
  let e : Rat := mkRat (sn * co - cs * si) (2 ^ 75)
  let a2 := (sn * sn + cs * cs).toNat
  let g : Rat := e * loopT (s.rd Reg.RS_EXC.FTW r) * mkRat 32768 (Config.rowanAmp (s.rd Reg.RS_EXC.AMP_CODE r) a2)
  let lim := s.rd Reg.RS_LIM.TRK_LIM r
  let ok : Bool := decide (e * e ≤ mkRat (a2 * lim * lim) (2 ^ 62))
  let trk := if ok then x.trk + 1 else 0
  let untrk := if ok then 0 else x.untrk + 1
  s.setRowRs r { phi := uns 48 (phi + roundAny (g * 707 * (2 ^ 48 : Nat))), at0 := s.now
                 w := x.w + roundAny (g * 500000 * piR * (2 ^ 32 : Nat)), trk := trk, untrk := untrk
                 lock := if 16 ≤ trk then true else if 16 ≤ untrk then false else x.lock
                 inWin := decide (s.rd Reg.RS_MON.AMP_LO r ^ 2 ≤ a2) && decide (a2 ≤ s.rd Reg.RS_MON.AMP_HI r ^ 2) }

/-- One FPC cycle of a resolver: φ advances by ω̂ × 4 ns (R256). -/
def State.rsCycle (s : State) (r : Nat) : State :=
  if !s.on Reg.RS_CTRL.EN r then s
  else
    let x := s.rsv r
    (s.setRsv r { x with phi := uns 48 (x.phi + roundAny (mkRat (x.w * 2 ^ 16) 250000000)) }).rsShow r

/-- VALID of a resolver (R257). -/
def State.rsValid (s : State) (r : Nat) : State :=
  s.wr Reg.RS_STAT.VALID r (b2n (s.on Reg.RS_CTRL.EN r && s.on Reg.RS_STAT.LOCK r && (s.rsv r).inWin && !s.on Reg.RS_STAT.FAULT r))

/-- The tracking loop on a sample pair, s and c in 2^-15 (R256). The FPC cycles since the last pair have advanced φ by ω̂ × T: the loop adds
KP × e × 2^-16. -/
def State.rsTrack (s : State) (r : Nat) (sn cs : Int) : State :=
  let x := s.rsv r
  let (co, si) := cosSin x.phi
  let e : Rat := mkRat (sn * co - cs * si) (2 ^ 75)
  let w := x.w + roundAny (e * (s.rd Reg.RS_TRK.KI r * 2 ^ 28 : Nat))
  let phi := uns 48 (x.phi + roundAny (e * (s.rd Reg.RS_TRK.KP r * 2 ^ 32 : Nat)))
  let a2 := (sn * sn + cs * cs).toNat
  let lim := s.rd Reg.RS_LIM.TRK_LIM r
  let ok : Bool := decide (e * e ≤ mkRat (a2 * lim * lim) (2 ^ 62))
  let low := decide (a2 < s.rd Reg.RS_MON.AMP_LO r ^ 2)
  let high := decide (s.rd Reg.RS_MON.AMP_HI r ^ 2 < a2)
  (s.setRsv r { x with
    phi := phi, w := w, trk := if ok then x.trk + 1 else 0, untrk := if ok then 0 else x.untrk + 1
    low := if low then x.low + 1 else 0, high := if high then x.high + 1 else 0, lastTrk := ok, inWin := !low && !high }).wr
      Reg.RS_STAT.AMP r (min 65535 (roundSqrt a2))

/-- LOCK and the faults after a pair (R256, R258). -/
def State.rsJudge (s : State) (r : Nat) : State :=
  let x := s.rsv r
  let n := s.rd Reg.RS_LIM.LOCK_N r
  let s := if n ≤ x.trk then s.flag Reg.RS_STAT.LOCK r
    else if n ≤ x.untrk ∧ s.on Reg.RS_STAT.LOCK r then (s.wr Reg.RS_STAT.LOCK r 0).rsFault r 3 else s
  let s := s.onlyIf (decide (n ≤ x.low)) (·.rsFault r 1)
  (s.onlyIf (decide (n ≤ x.high)) (·.rsFault r 2)).rsValid r

/-- Does an enabled field channel name a sensor (R260)? -/
def State.sensorUsed (s : State) (src idx : Nat) : Bool :=
  (List.range 8).any fun n => s.on Reg.FC_CTRL.EN n && s.fcSrc n == src && s.fcIdx n == idx

/-- The owner for whom a resolver takes its claims (R254). -/
def State.rsOwner (s : State) (r : Nat) : Nat := if s.claimState (0x604 + r) ≠ 0 then s.claimOwner (0x604 + r) else 0x2A

/-- RS_CTRL.EN = 1 (R254, R260). -/
def State.rsEnable (s : State) (r : Nat) : State :=
  let sa := s.rd Reg.RS_ADC.SIN_ADC r
  let ca := s.rd Reg.RS_ADC.COS_ADC r
  let mul := s.rd Reg.RS_PH.ELEC_MUL r
  if s.on Reg.RS_CTRL.EN r then s
  else if mul < 1 ∨ 32 < mul ∨ s.rd Reg.RS_TRK.KP r = 0 ∨ s.rd Reg.RS_TRK.KI r = 0 ∨ sa = ca ∨ s.paired sa ∨ s.paired ca then
    s.flag Reg.RS_STAT.CFG_ERR r
  else
    let o := s.rsOwner r
    let ids := [0xB00 + r, 0x200 + sa, 0x200 + ca]
    s.claimAll o ids
      (fun t => (t.setRsv r { RsS.init with owner := o, claims := ids }).flag Reg.RS_CTRL.EN r |>.wr Reg.RS_STAT.LOCK r 0 |>.rsValid r)
      id

/-- RS_CTRL.EN = 0 (R260). -/
def State.rsDisable (s : State) (r : Nat) : State :=
  if !s.on Reg.RS_CTRL.EN r then s
  else if s.sensorUsed 2 r then s.flag Reg.RS_STAT.CFG_ERR r
  else ((s.releaseClaims (s.rsv r).owner (s.rsv r).claims).wr Reg.RS_CTRL.EN r 0).rsValid r

/-! ## Enables and clears of position channels (R247, R259, R260) -/

/-- Is the configuration of a channel one with which it can be enabled? -/
def State.posCfgOk (s : State) (n : Nat) : Bool :=
  let mul := s.rd Reg.POS_CFG.ELEC_MUL n
  let routed (l : List Nat) : Bool := l.all (s.posRouted n)
  let f := s.rd Reg.POS_SSI.FRAME n
  let st := s.rd Reg.POS_SSI.ST_BITS n
  decide (1 ≤ mul) && decide (mul ≤ 32) &&
    (match s.posMode n with
     | 0 => s.rd Reg.POS_CFG.LINES n != 0 && s.rd Reg.POS_IDX.IDX_LIMIT n != 0 && s.rd Reg.POS_SPDC.SPD_TMO n != 0 && routed [0, 1]
     | 1 => s.rd Reg.POS_SPDC.SPD_TMO n != 0 && routed [3, 4, 5]
     | _ => 8 ≤ f && f ≤ 32 && 8 ≤ st && st ≤ 24 && decide (st + s.rd Reg.POS_SSI.ERRBIT n ≤ f)
        && decide (13 ≤ s.rd Reg.POS_SSI.CLKDIV n) && decide (1 ≤ s.rd Reg.POS_SSIT.TM_US n) && routed [6, 7])

/-- POS_CTRL.EN = 1. -/
def State.posEnable (s : State) (n : Nat) : State :=
  if s.posEn n then s
  else if !s.posCfgOk n then s.flag Reg.POS_STAT.CFG_ERR n
  else
    let r := s.pos n
    let k := hallOf r.lvl
    let s := s.setPos n { PosS.init with
      lvl := r.lvl, raw := r.raw, since := r.since, hiAt := r.hiAt, endAt := r.endAt, at0 := s.now
      base := if s.posMode n = 1 ∧ hallOk k then s.ctr n k * 256 else 0 }
    ((s.flag Reg.POS_CTRL.EN n).wr Reg.POS_STAT.IDX_SEEN n 0).showValid n

/-- POS_CTRL.EN = 0. -/
def State.posDisable (s : State) (n : Nat) : State :=
  if !s.posEn n then s
  else if s.sensorUsed 1 n then s.flag Reg.POS_STAT.CFG_ERR n
  else ((s.wr Reg.POS_CTRL.EN n 0).setPos n { s.pos n with busy := false }).showValid n

/-- A write of COUNT (R247). -/
def State.posLoad (s : State) (n v : Nat) : State :=
  let m := s.cpr n
  if s.posMode n ≠ 0 ∨ m ≤ v then s.flag Reg.POS_STAT.CFG_ERR n
  else
    let idx := (((s.rd Reg.POS_IDXPOS.IDX_POS n : Int) + v - s.rd Reg.POS_CNT.COUNT n) % m).toNat
    let s := s.setPos n { s.pos n with refd := true, first := true, wrAt := some (s.now / 2) }
    ((s.wr Reg.POS_CNT.COUNT n v).wr Reg.POS_IDXPOS.IDX_POS n idx).showValid n

/-- A write of 1 to FAULT (R259). -/
def State.posClear (s : State) (n : Nat) : State :=
  let r := s.pos n
  if !s.on Reg.POS_STAT.FAULT n then s
  else if (s.posMode n = 1 ∧ !hallOk (hallOf r.lvl)) ∨ (s.posMode n = 2 ∧ r.lastBad) then s.flag Reg.POS_STAT.CLR_DENIED n
  else
    let rsn := s.rd Reg.POS_STAT.FAULT_RSN n
    let s := (s.wr Reg.POS_STAT.FAULT n 0).wr Reg.POS_STAT.FAULT_RSN n 0
    let s := if rsn = 1 ∨ rsn = 2 then
        ((s.wr Reg.POS_IDXPOS.CONSEC n 0).wr Reg.POS_STAT.IDX_SEEN n 0).setPos n { r with refd := false, first := true }
      else s
    s.showValid n

/-- A write of 1 to FAULT of a resolver (R259). -/
def State.rsClear (s : State) (r : Nat) : State :=
  let x := s.rsv r
  if !s.on Reg.RS_STAT.FAULT r then s
  else if !x.inWin ∨ !x.lastTrk then s.flag Reg.RS_STAT.CLR_DENIED r
  else ((s.wr Reg.RS_STAT.FAULT r 0).wr Reg.RS_STAT.FAULT_RSN r 0).rsValid r

/-! ## Emulator enables (R262) -/

/-- The lands that an emulator needs. -/
def State.emuPins (s : State) (e : Nat) : List Nat :=
  [s.rd Reg.EMU_PINS.PIN_A e, s.rd Reg.EMU_PINS.PIN_B e] ++ (if s.on Reg.EMU_CTRL.ZEN e then [s.rd Reg.EMU_PINS.PIN_Z e] else [])

/-- EMU_CTRL.EN = 1. -/
def State.emuEnable (s : State) (e : Nat) : State :=
  let pins := s.emuPins e
  let p := s.rd Reg.EMU_PQ.P e
  let q := s.rd Reg.EMU_PQ.Q e
  if s.on Reg.EMU_CTRL.EN e then s
  else if p = 0 ∨ q = 0 ∨ q < p ∨ 5 < s.rd Reg.EMU_CTRL.SRC e ∨ s.rd Reg.EMU_CTRL.MINT e = 0 ∨ hasDup pins then
    s.flag Reg.EMU_STAT.CFG_ERR e
  else
    let ids := pins.map (0xA00 + ·)
    s.claimAll (0x20 + e) ids
      (fun t =>
        let a := match t.srcAngle16 (t.rd Reg.EMU_CTRL.SRC e) with
          | some x => x.1
          | none => 0
        (((t.setEmu e { EmuS.init with ab := (t.emu e).ab, last := a, claims := ids }).flag Reg.EMU_CTRL.EN e).flag
          Reg.EMU_STAT.RUN e).wr Reg.EMU_STAT.BACKLOG e 0)
      id

/-- EMU_CTRL.EN = 0. -/
def State.emuDisable (s : State) (e : Nat) : State :=
  if !s.on Reg.EMU_CTRL.EN e then s
  else
    let s := s.releaseClaims (0x20 + e) (s.emu e).claims
    (((s.setEmu e { s.emu e with acc := 0, zDue := false, z := false, claims := [] }).wr Reg.EMU_CTRL.EN e 0).wr
      Reg.EMU_STAT.RUN e 0).wr Reg.EMU_STAT.BACKLOG e 0

/-- One FPC cycle of the island FPC: resolvers and positions, then emulators, then field channels. -/
def State.fpcCycle (s : State) : State :=
  let s := foldEach (fun r t => t.rsCycle r) [0, 1] s
  let s := foldEach (fun n t => t.posCycle n) [0, 1, 2, 3] s
  let s := foldEach (fun e t => t.emuCycle e) [0, 1, 2, 3] s
  foldEach (fun n t => t.fcCycle n) (List.range 8) s

/-! ## The meanings of the rows -/

/-- R244, R246, R249, R251: the levels of a channel's inputs as one FPC cycle samples them behind the synchronisers: A, B, Z, HU, HV, HW and
SSI data from bit 0 up; the cycles after it sample the same levels until the row comes again. A change that has stood for FILT_N samples is
accepted and decoded, here or in a later cycle. A signal with no route reads low. -/
def execPosInputAccept (n : Fin 4) (lv : BitVec 7) (s : State) : Host.Outcome State Fault Refusal :=
  .next (if !s.present islFPC then s
    else
      let k := n.val
      (s.posRaw k ((List.range 7).map fun b => if bitAt lv.toNat b && s.posRouted k b then 2 ^ b else 0).sum).posSample k)

/-- R248: the speed estimate of an ABZ channel, every 64 FPC cycles. -/
def execPosSpeedEstimate (n : Fin 4) (s : State) : Host.Outcome State Fault Refusal :=
  .next (
    let k := n.val
    let r := s.pos k
    if s.present islFPC ∧ s.posEn k ∧ s.posMode k = 0 ∧ r.est + 128 ≤ s.now then
      let es := s.keptEdges k
      let wm := s.estimate k es
      s.setPos k { r with edges := es, wm := wm, w := filterSpeed r.w wm (s.rd Reg.POS_SPDC.SPD_FLT k), est := s.now }
    else s)

/-- R251: no Hall transition for SPD_TMO × 1,024 ticks. -/
def execHallTimeout (n : Fin 4) (s : State) : Host.Outcome State Fault Refusal :=
  .next (
    let k := n.val
    let r := s.pos k
    if s.present islFPC ∧ s.posEn k ∧ s.posMode k = 1 ∧ r.at0 + s.rd Reg.POS_SPDC.SPD_TMO k * 1024 ≤ s.now then
      let h := hallOf r.lvl
      s.setPos k { r with w := 0, base := if hallOk h then s.ctr k h * 256 else r.base }
    else s)

/-- R252, R253: the bits of an SSI frame have been sampled and the data line has been checked; `raw` are the
sampled bits. -/
def execSsiFrameDone (n : Fin 4) (raw : BitVec 32) (s : State) : Host.Outcome State Fault Refusal :=
  .next (
    let k := n.val
    if s.present islFPC ∧ (s.pos k).busy ∧ (s.pos k).reqAt + s.ssiLen k ≤ s.now ∧ raw = BitVec.ofNat 32 (s.pos k).shift then
      (s.ssiFrame k (s.pos k).shift).showValid k
    else s)

/-- R255, R256: the sample pair of an excitation peak whose sampling instant lies in the present tick, as the voltages of its two converters
in nanovolts. Rowan takes the pair on die A (R277); FPC takes it over the sample link. -/
def execResolverSamplePair (r : Fin 2) (negPeak : Bool) (nvS nvC : Int) (s : State) : Host.Outcome State Fault Refusal :=
  .next (
    let k := r.val
    let sa := s.rd Reg.RS_ADC.SIN_ADC k
    let ca := s.rd Reg.RS_ADC.COS_ADC k
    if s.excRuns k && s.excPeak k negPeak && s.present (islAdc sa) && s.present (islAdc ca) then
      let v (adc : Nat) (nv : Int) : Int := ((s.correct adc (rawCode nv)).1 : Int) - 32768
      let sg : Int := if negPeak then -1 else 1
      let sn := sg * v sa nvS
      let cs := sg * v ca nvC
      let s := s.rowTrack k sn cs
      if s.present islFPC && !s.links.sample then ((s.rsTrack k sn cs).rsJudge k).rsShow k else s
    else s)

/-- R258: the excitation output is open or over its limit. -/
def execExcFault (r : Fin 2) (s : State) : Host.Outcome State Fault Refusal :=
  .next (if s.present islFPC && s.present islRXC && s.on Reg.RS_CTRL.EN r.val then (s.rsFault r.val 4).rsValid r.val else s)

/-- R261: an output step of an emulator. -/
def execEmuStep (e : Fin 4) (s : State) : Host.Outcome State Fault Refusal :=
  .next (
    let k := e.val
    let b := s.rdI Reg.EMU_STAT.BACKLOG k
    let x := s.emu k
    let due : Bool := match x.stepAt with
      | some t => decide (t + 2 * s.rd Reg.EMU_CTRL.MINT k ≤ s.now)
      | none => true
    if s.present islFPC && s.on Reg.EMU_CTRL.EN k && b != 0 && due then
      (s.setEmu k { x with ab := if 0 < b then (x.ab + 1) % 4 else (x.ab + 3) % 4, stepAt := some s.now
                           z := x.zDue && s.on Reg.EMU_CTRL.ZEN k, zDue := false }).wrI Reg.EMU_STAT.BACKLOG k
        (if 0 < b then b - 1 else b + 1)
    else s)

end Sys2Proof.Machine
end

