-- ==== Sys2Proof/Machine/Carriers.lean ====
section
/-! DEFINITION. The meanings of the timebase commands of spec/03_timebases_and_legs.md: starts, stops, syncs, and the ZRO and PRD
events with what follows them in other units. -/

namespace Sys2Proof.Machine

/-- The start of a timebase whose RUN was written 1, at the tick edge after that write, with the channels aligned to it (R70, R175). -/
def State.startDue (s : State) (n : Nat) : State :=
  if s.tbRunning n || !s.on Reg.TB_CTRL.RUN n then s
  else
    let t := s.startTb n
    t.onlyIf (t.tbRunning n) (·.isoAlign n)

/-- A tick edge of the timebases and legs: the counters count on and stop, all due starts happen at the one edge (R71), then each clocked
leg takes what was written for this edge (R84). -/
def State.carrierEdge (s : State) : State :=
  let s := s.onlyIf (s.present islTBC) fun t =>
    foldEach (fun n u => u.startDue n) (List.range 8) (foldEach (fun n u => u.tbEdge n) (List.range 8) t)
  foldEach (fun l t => t.onlyIf (t.present (islLeg l)) (·.legEdge l)) (List.range 24) s

/-- The work of a period boundary (R69): the adaptive loops and the field channels. -/
def State.boundary (s : State) (n : Nat) : State :=
  (foldEach (fun l t => t.adtUpdate l) (s.legsOfTb n) s).fcBoundaries n

/-- The sync outputs of a ZRO event (R73). -/
def State.syncOuts (s : State) (n : Nat) : State :=
  foldEach (fun k t => t.onlyIf (t.rd Reg.TB_CTRL.SYNC_TB k == n) (·.syncEvent k 2)) (List.range 8) s

/-- The ZRO event of a timebase. -/
def State.zroEvent (s : State) (n : Nat) : State :=
  let s := (s.edgeWork n).setTb n { (s.edgeWork n).tb n with zroAt := some s.now }
  let s := foldEach (fun l t => t.takeEvent l n 0 fun ev => ev == 0) (s.legsOfTb n) s
  let s := (((s.syncOuts n).raisePulse [1, 2] (0x100 + n) 0).ssiRequests n).irqEv (8 + n)
  s.onlyIf (s.tbMode n ≠ 1) (·.boundary n)

/-- The PRD event of a timebase. -/
def State.prdEvent (s : State) (n : Nat) : State :=
  let s := (s.edgeWork n).setTb n { (s.edgeWork n).tb n with prdAt := some s.now }
  let s := foldEach (fun l t => t.takeEvent l n 0 fun ev => ev == 1) (s.legsOfTb n) s
  let s := s.raisePulse [1, 2] (0x100 + n) 1
  s.onlyIf (s.tbMode n = 1) (·.boundary n)

/-- R73: the load at a tick edge after a sync event. -/
def execSyncLoad (n : Fin 8) (s : State) : Host.Outcome State Fault Refusal :=
  .next (match (s.tb n.val).syncAt with
    | some t => if s.present islTBC ∧ s.tbRunning n.val ∧ t < s.now then (s.loadSync n.val).isoAlign n.val else s
    | none => s)

/-- R69: the counter holds its ZRO position. -/
def execZro (n : Fin 8) (s : State) : Host.Outcome State Fault Refusal :=
  .next (
    let k := n.val
    if s.present islTBC ∧ s.tbRunning k ∧ s.tbTime k = zroTime (s.tbMode k) (s.tbPer k) ∧ (s.tb k).zroAt ≠ some s.now then
      s.zroEvent k
    else s)

/-- R69: the counter holds its PRD position. -/
def execPrd (n : Fin 8) (s : State) : Host.Outcome State Fault Refusal :=
  .next (
    let k := n.val
    if s.present islTBC ∧ s.tbRunning k ∧ s.tbTime k = prdTime (s.tbMode k) (s.tbPer k) ∧ (s.tb k).prdAt ≠ some s.now then
      s.prdEvent k
    else s)

/-- R80: the transfer due at the present reload point. -/
def execShadowTransfer (n : Fin 8) (s : State) : Host.Outcome State Fault Refusal :=
  .next (if s.present islTBC ∧ s.xferDue n.val then s.edgeWork n.val else s)

end Sys2Proof.Machine
end

