-- ==== Sys2Proof/Machine/Commit.lean ====
section
/-! DEFINITION. BASIC_COMMIT (R15 to R18): the translations of each block (R94, R116, R143, R167, R184, R215, R241, R263, R364,
R391), their refusals, the end of a commit, and the wait of an access that meets one. -/

namespace Sys2Proof.Machine

/-- A quotient of natural numbers rounded to the nearest, halves away from zero (R15). -/
def rnd (a b : Nat) : Nat := (divHalfAway a b).toNat

/-- Is a number outside a range? -/
def outside (lo hi v : Nat) : Bool := v < lo || hi < v

/-- The word index of the first refused Basic register of a list of (offset, refused). -/
def firstRefused (l : List (Nat × Bool)) : Option Nat := (l.find? (·.2)).map (·.1 / 4)

/-! ## Timebases and legs (R94, R116) -/

/-- PER that FSW gives in a count mode. -/
def perOfFsw (mode fsw : Nat) : Nat := if mode = 2 then rnd 50000000000 (2 * fsw) else rnd 50000000000 fsw - 1

/-- Mode and translated PER of a timebase that takes part in the commit. -/
def State.tbXlate (s : State) (n : Nat) : Option (Nat × Nat) :=
  let fsw := s.rd Reg.TB_FSW.FSW n
  if fsw = 0 then none else some (s.tbMode n, perOfFsw (s.tbMode n) fsw)

/-- The position that a fraction of the period gives. -/
def fracPos (mode per f : Nat) : Nat :=
  let span := if mode = 2 then 2 * per else per + 1
  rnd (f * span) 65536 % span

/-- TICK and DIR of a trigger position. -/
def trigPos (mode per p : Nat) : Nat × Nat :=
  if mode = 0 then (p, 1)
  else if mode = 1 then (per - p, 2)
  else if p = 0 ∨ p = per then (p, 3)
  else if p < per then (p, 1)
  else (2 * per - p, 2)

/-- The raw compare value that a duty gives. -/
def dutyCmp (mode per duty : Nat) : Nat := rnd (duty * (if mode = 2 then per else per + 1) * 128) (2 ^ 30)

/-- Mode and translated PER of a leg's timebase, where it takes part in the commit. -/
def State.legXlate (s : State) (l : Nat) : Option (Nat × Nat) := (s.tbOfLeg l).bind fun n => s.tbXlate n

/-- The refusals of window 0, in the order of translation. -/
def State.commitBad0 (s : State) : Option Nat :=
  firstRefused
    (((List.range 8).map fun n => (0x6000 + n * 0x100, match s.tbXlate n with | some (m, p) => !perOk m p | none => false))
    ++ ((List.range 24).flatMap fun l =>
      let dutyBad (d : Nat) : Bool := (s.legXlate l).isSome && decide (0x40000000 < d)
      [(l * 0x400, dutyBad (s.rd Reg.LEG_DUTY_A.DUTY_A l)), (l * 0x400 + 4, dutyBad (s.rd Reg.LEG_DUTY_B.DUTY_B l))])
    ++ ((List.range 24).flatMap fun l =>
      [(l * 0x400 + 0x100, decide (512000 < rnd (s.rd Reg.LEG_DT_RISE.DT_RISE l * 8) 125)),
       (l * 0x400 + 0x104, decide (512000 < rnd (s.rd Reg.LEG_DT_FALL.DT_RISE l * 8) 125)),
       (l * 0x400 + 0x108, decide (128000 < rnd (s.rd Reg.LEG_MINP_B.MINP l * 8) 125)),
       (l * 0x400 + 0x10C, decide (65535 < rnd (s.rd Reg.LEG_ADT_MARGIN.ADT_MARGIN l * 8) 125))]))

/-- PER and PHS of a timebase. -/
def State.commitTb (s : State) (n : Nat) : State :=
  match s.tbXlate n with
  | some (mode, per) =>
    let p := fracPos mode per (s.rd Reg.TB_PHASE.PHASE n)
    let t := s.writePer n per
    match mode with
    | 1 => t.wr Reg.TB_PHS.PHS n (per - p)
    | 2 => (t.wr Reg.TB_PHS.PHS n (if p < per then p else 2 * per - p)).wr Reg.TB_PHS.PHS_DIR n (b2n (decide (per ≤ p)))
    | _ => t.wr Reg.TB_PHS.PHS n p
  | none => s

/-- The compares and trigger positions of a leg. -/
def State.commitLeg (s : State) (l : Nat) : State :=
  match s.legXlate l with
  | some (mode, per) =>
    let t := (s.writeCmp l .a (dutyCmp mode per (s.rd Reg.LEG_DUTY_A.DUTY_A l)) false).writeCmp l .b
      (dutyCmp mode per (s.rd Reg.LEG_DUTY_B.DUTY_B l)) false
    foldEach (fun k u =>
      let (tick, dir) := trigPos mode per (fracPos mode per (s.rd Reg.LEG_TRGPOS.POS l k))
      u.writeTrg l k tick dir false) [0, 1, 2, 3] t
  | none => s

/-- The dead times, the minimum pulse and the adaptive margin of a leg. -/
def State.commitDt (s : State) (l : Nat) : State :=
  (((s.writeDtr l (rnd (s.rd Reg.LEG_DT_RISE.DT_RISE l * 8) 125)).writeDtf l (rnd (s.rd Reg.LEG_DT_FALL.DT_RISE l * 8) 125)).writeMinp l
    (rnd (s.rd Reg.LEG_MINP_B.MINP l * 8) 125)).wr Reg.LEG_ADT_CFG.MARGIN l (rnd (s.rd Reg.LEG_ADT_MARGIN.ADT_MARGIN l * 8) 125)

def State.commitDo0 (s : State) : State :=
  let t := foldEach (fun n t => t.commitTb n) (List.range 8) s
  foldEach (fun l t => t.commitDt l) (List.range 24) (foldEach (fun l t => t.commitLeg l) (List.range 24) t)

/-! ## Comparators (R143), converters (R167), isolated channels (R184) -/

/-- CODE or HYST from a voltage in µV. -/
def dacOf (uv : Nat) : Nat := rnd (uv * 4096) 3000000

def State.commitBad1 (s : State) : Option Nat :=
  firstRefused ((List.range 96).flatMap fun c =>
    [(c * 0x10, decide (4095 < dacOf (s.rd Reg.CMP_TH.TH_UV c))), (c * 0x10 + 4, decide (63 < dacOf (s.rd Reg.CMP_HYST.HYST_UV c)))])

def State.commitDo1 (s : State) : State :=
  foldEach (fun c t => (t.wr Reg.CMP_DAC.CODE c (dacOf (s.rd Reg.CMP_TH.TH_UV c))).wr Reg.CMP_DAC.HYST c
    (dacOf (s.rd Reg.CMP_HYST.HYST_UV c))) (List.range 96) s

def State.commitBad2 (s : State) : Option Nat :=
  firstRefused
    (((List.range 32).map fun n => (n * 0x200, outside 12 255 (rnd (s.rd Reg.ADC_ACQ.ACQ_PS n) 2000)))
    ++ ((List.range 4).flatMap fun j =>
      [(0x4010 + j * 0x400, outside 0 65535 (rnd (s.rd Reg.SEQ_OW_TH.OW_TH_UV j * 65536) 3000000)),
       (0x4014 + j * 0x400, outside 1 255 (rnd (s.rd Reg.SEQ_OW_ACQ.OW_ACQ_PS j) 32000))])
    ++ ((List.range 16).map fun k => (0x5010 + k * 0x40, outside 12 255 (rnd (s.rd Reg.IL_ACQ.IL_ACQ_PS k) 2000))))

def State.commitDo2 (s : State) : State :=
  let t := foldEach (fun n t => t.wr Reg.ADC_ACQ_X.ACQ n (rnd (s.rd Reg.ADC_ACQ.ACQ_PS n) 2000)) (List.range 32) s
  let t := foldEach (fun j t => (t.wr Reg.SEQ_OW_X.OW_TH j (rnd (s.rd Reg.SEQ_OW_TH.OW_TH_UV j * 65536) 3000000)).wr Reg.SEQ_OW_X.OW_ACQ j
    (rnd (s.rd Reg.SEQ_OW_ACQ.OW_ACQ_PS j) 32000)) (List.range 4) t
  foldEach (fun k t => t.wr Reg.IL_ACQ_X.ACQ k (rnd (s.rd Reg.IL_ACQ.IL_ACQ_PS k) 2000)) (List.range 16) t

/-- DEC_SEL that a rate gives, where DEC is a ratio of R173. -/
def decSelOf (rate : Nat) : Option Nat :=
  if rate = 0 then none else (List.range 5).find? fun k => rnd 20000000 rate == 2 ^ (4 + k)

def State.commitBad3 (s : State) : Option Nat :=
  firstRefused ((List.range 8).map fun c => (c * 0x40, (decSelOf (s.rd Reg.ISO_RATE.RATE_HZ c)).isNone))

def State.commitDo3 (s : State) : State :=
  foldEach (fun c t => match decSelOf (s.rd Reg.ISO_RATE.RATE_HZ c) with | some d => t.wr Reg.ISO_CFG.DEC_SEL c d | none => t) (List.range 8) s

/-! ## Control blocks (R215) -/

/-- The blocks of a unit that a commit translates. -/
def State.blkXlate (s : State) (u : Nat) : List Nat :=
  (List.range 16).filter fun b => (s.rd Reg.BLK_MODE.MODE u b == 1 || s.rd Reg.BLK_MODE.MODE u b == 2) && s.rd Reg.BLK_FS.FS_HZ u b != 0

/-- 2π to 60 decimal places. -/
def twoPi : Nat × Nat := (6283185307179586476925286766559005768394338798750211641949889, 10 ^ 60)

/-- KP, then KI or KR, then W of a block. -/
def State.blkGains (s : State) (u b : Nat) : Nat × Nat × Nat :=
  let kp := s.rd Reg.BLK_KP.KP_U u b
  let fs := s.rd Reg.BLK_FS.FS_HZ u b
  let ti := s.rd Reg.BLK_TI.TI_NS u b
  if s.rd Reg.BLK_MODE.MODE u b = 1 then
    (rnd (kp * 2 ^ 28) 1000000, if ti = 0 then 0 else rnd (kp * 2 ^ 28 * 1000) (fs * ti), 0)
  else
    (rnd (kp * 2 ^ 28) 1000000, rnd (s.rd Reg.BLK_KR.KR_U u b * 2 ^ 28) 1000000,
      rnd (twoPi.1 * s.rd Reg.BLK_F0.F0_MHZ u b * 2 ^ 28) (twoPi.2 * 1000 * fs))

/-- UMAX and UMIN of a block. -/
def State.blkLims (s : State) (u b : Nat) : Int × Int :=
  (divHalfAway (s.rdI Reg.BLK_UMAX.PPM u b * 2 ^ 28) 1000000, divHalfAway (s.rdI Reg.BLK_UMIN.PPM u b * 2 ^ 28) 1000000)

def State.commitBad4 (s : State) : Option Nat :=
  firstRefused ((List.range 8).flatMap fun u =>
    ((s.blkXlate u).take 1).map (fun b => (u * 0x200 + b * 0x20 + 4, s.on Reg.LU_STAT.SWAP_PEND u))
    ++ (s.blkXlate u).flatMap fun b =>
      let o := u * 0x200 + b * 0x20
      let (kp, k1, w) := s.blkGains u b
      let (hi, lo) := s.blkLims u b
      [(o + 0x08, decide (2 ^ 31 ≤ kp)),
       (o + (if s.rd Reg.BLK_MODE.MODE u b = 1 then 0x0C else 0x10), decide (2 ^ 31 ≤ k1)),
       (o + 0x14, decide (2 ^ 28 < w)),
       (o + 0x18, decide (2 ^ 29 < hi) || decide (hi < -(2 ^ 29)) || decide (hi ≤ lo)),
       (o + 0x1C, decide (2 ^ 29 < lo) || decide (lo < -(2 ^ 29)))])

/-- The idle bank of a unit takes the active bank, then the translations of its blocks; then a swap is requested. -/
def State.commitLu (s : State) (u : Nat) : State :=
  if (s.blkXlate u).isEmpty then s
  else
    let from' := s.rd Reg.LU_STAT.ACTIVE_BANK u * 256
    let to' := (1 - s.rd Reg.LU_STAT.ACTIVE_BANK u) * 256
    let t := foldEach (fun k t => t.wr2 Reg.COEF.C u (to' + k) (s.rd Reg.COEF.C u (from' + k))) (List.range 256) s
    let t := foldEach (fun b t =>
      let (kp, k1, w) := s.blkGains u b
      let (hi, lo) := s.blkLims u b
      foldEach (fun (e : Nat × Nat) t => t.wr2 Reg.COEF.C u (to' + 128 + 8 * b + e.2) e.1)
        [(kp, 0), (k1, 1), (w, 2), (uns 32 hi, 3), (uns 32 lo, 4)] t) (s.blkXlate u) t
    t.swapReq u

def State.commitDo4 (s : State) : State := foldEach (fun u t => t.commitLu u) (List.range 8) s

/-! ## Field channels (R241), position (R263) -/

def State.commitBad5 (s : State) : Option Nat :=
  firstRefused ((List.range 8).flatMap fun n =>
    if s.rd Reg.FC_ALIGN_US.ALIGN_US n = 0 then []
    else
      let o := n * 0x100
      [(o + 0x20, !(s.fcState n == 0 || s.fcState n == 1) || outside 1 65535 (rnd (s.rd Reg.FC_ALIGN_US.ALIGN_US n * 1000) 2048)),
       (o + 0x24, outside 1 65535 (rnd (s.rd Reg.FC_WAIT_US.WAIT_US n * 1000) 2048)),
       (o + 0x28, outside 1 16777215 (rnd (s.rd Reg.FC_ACC.ACC_MTPS2 n * 2147483648) 1000000000000)),
       (o + 0x2C, outside 1 (2 ^ 31 - 1) (rnd (s.rd Reg.FC_RSPD_B.RSPD_MTPS n * 4096) 1000))])

def State.commitFc (s : State) (n : Nat) : State :=
  if s.rd Reg.FC_ALIGN_US.ALIGN_US n = 0 then s
  else
    ((((s.wr Reg.FC_TIME.ALIGN_T n (rnd (s.rd Reg.FC_ALIGN_US.ALIGN_US n * 1000) 2048)).wr Reg.FC_WAIT.RETRY_WAIT n
      (rnd (s.rd Reg.FC_WAIT_US.WAIT_US n * 1000) 2048)).wr Reg.FC_ACC_X.RAMP_ACC n
      (rnd (s.rd Reg.FC_ACC.ACC_MTPS2 n * 2147483648) 1000000000000)).wr Reg.FC_RSPD.RAMP_SPD n
      (rnd (s.rd Reg.FC_RSPD_B.RSPD_MTPS n * 4096) 1000)).wr Reg.FC_OFFS.OFFS n
      (rnd (s.rd Reg.FC_OFFS_B.OFFS_UDEG n * 16777216) 360000000 % 2 ^ 24)

def State.commitDo5 (s : State) : State := foldEach (fun n t => t.commitFc n) (List.range 8) s

/-- FTW of an excitation frequency in mHz. -/
def ftwOf (mhz : Nat) : Nat := rnd (mhz * 2 ^ 32) 500000000000

def State.commitBad6 (s : State) : Option Nat :=
  firstRefused
    (((List.range 4).flatMap fun n =>
      [(n * 0x100 + 0x14, outside 1 255 (rnd (s.rd Reg.POS_FILT_B.FILT_NS n) 4)),
       (n * 0x100 + 0x18, outside 1 65535 (rnd (s.rd Reg.POS_SPDW_B.SPDW_NS n) 2))])
    ++ (List.range 2).map fun r => (0x410 + r * 0x100, outside 17180 171799 (ftwOf (s.rd Reg.RS_EXC_B.EXC_MHZ r))))

def State.commitDo6 (s : State) : State :=
  let t := foldEach (fun n t => (t.wr Reg.POS_FLT.FILT_N n (rnd (s.rd Reg.POS_FILT_B.FILT_NS n) 4)).wr Reg.POS_SPDC.SPD_T n
    (rnd (s.rd Reg.POS_SPDW_B.SPDW_NS n) 2)) (List.range 4) s
  foldEach (fun r t => t.wr Reg.RS_EXC.FTW r (ftwOf (s.rd Reg.RS_EXC_B.EXC_MHZ r))) (List.range 2) t

/-! ## CAN bit timing (R364) -/

/-- BRP, TSEG1, TSEG2 and SJW of a phase: the smallest BRP that divides the clock into a permitted number of quanta. -/
def canPhase (brpMax lo hi rate sp : Nat) : Option (Nat × Int × Int) :=
  (((List.range brpMax).map (· + 1)).find? fun b => 200000000 % (b * rate) == 0 && !outside lo hi (200000000 / (b * rate))).map fun b =>
    let n := 200000000 / (b * rate)
    let t1 : Int := (rnd (n * sp) 1000 : Int) - 1
    (b, t1, (n : Int) - 1 - t1)

/-- The nominal phase, and the data phase where DBR_BPS is not 0. -/
def State.canNominal (s : State) (n : Nat) : Option (Nat × Int × Int) :=
  canPhase 256 4 385 (s.rd Reg.CAN_NBR.NBR_BPS n) (s.rd Reg.CAN_SP.NSP_PM n)
def State.canDataPh (s : State) (n : Nat) : Option (Nat × Int × Int) :=
  canPhase 32 3 49 (s.rd Reg.CAN_DBR.DBR_BPS n) (s.rd Reg.CAN_SP.DSP_PM n)

/-- TDCO of a data phase. -/
def tdcOf (b : Nat) (t1 : Int) : Nat := b * (1 + t1).toNat

def State.commitBad8 (s : State) : Option Nat :=
  firstRefused ((List.range 6).flatMap fun n =>
    let o := n * 0x100
    if s.rd Reg.CAN_NBR.NBR_BPS n = 0 then []
    else
      let dbr := s.rd Reg.CAN_DBR.DBR_BPS n
      [(o, s.canState n != 0 || (s.canNominal n).isNone),
       (o + 4, dbr != 0 && match s.canDataPh n with | some (b, t1, _) => decide (1000000 < dbr) && decide (127 < tdcOf b t1) | none => true),
       (o + 8, (match s.canNominal n with
          | some (_, t1, t2) => decide (t1 < 2) || decide (256 < t1) || decide (t2 < 1) || decide (128 < t2) | none => false)
         || (dbr != 0 && match s.canDataPh n with
          | some (_, t1, t2) => decide (t1 < 1) || decide (32 < t1) || decide (t2 < 1) || decide (16 < t2) | none => false))])

def State.commitCan (s : State) (n : Nat) : State :=
  match (if s.rd Reg.CAN_NBR.NBR_BPS n = 0 then none else s.canNominal n) with
  | none => s
  | some (b, t1, t2) =>
    let t := (((s.wr Reg.CAN_NBT0.BRP n b).wr Reg.CAN_NBT0.TSEG1 n t1.toNat).wr Reg.CAN_NBT1.TSEG2 n t2.toNat).wr Reg.CAN_NBT1.SJW n
      (min t1 t2).toNat
    let dbr := s.rd Reg.CAN_DBR.DBR_BPS n
    match (if dbr = 0 then none else s.canDataPh n) with
    | none => t
    | some (b, t1, t2) =>
      let t := (((t.wr Reg.CAN_DBT.BRP n b).wr Reg.CAN_DBT.TSEG1 n t1.toNat).wr Reg.CAN_DBT.TSEG2 n t2.toNat).wr Reg.CAN_DBT.SJW n
        (min t1 t2).toNat
      if 1000000 < dbr then (t.wr Reg.CAN_TDC.TDCO n (tdcOf b t1)).wr Reg.CAN_TDC.TDC_EN n 1 else t.wr Reg.CAN_TDC.TDC_EN n 0

def State.commitDo8 (s : State) : State := foldEach (fun n t => t.commitCan n) (List.range 6) s

/-! ## Clocks (R391) -/

def State.commitBad10 (s : State) : Option Nat :=
  firstRefused ((8, outside 16 16000 (rnd (s.rd Reg.CLK_SLEW_B.SLEW_PPB * 16) 1000))
    :: [0, 1].map fun k => (0x100 + k * 0x40, outside 0 65535 (rnd (s.rd Reg.PLL_DEV_B.DEV_PPB k) 250)))

def State.commitDo10 (s : State) : State :=
  let t := s.wr Reg.CLK_TRK.TRK_SLEW 0 (rnd (s.rd Reg.CLK_SLEW_B.SLEW_PPB * 16) 1000)
  (foldEach (fun k t => t.wr Reg.PLL_DITH.DEV k (rnd (s.rd Reg.PLL_DEV_B.DEV_PPB k) 250)) [0, 1] t).wr Reg.PLL_DITH.DEV 2 0

/-! ## The commit of a block (R15 to R18) -/

/-- The first refused register of a block's translation. -/
def State.commitBad (s : State) (b : Nat) : Option Nat :=
  match b with
  | 0 => s.commitBad0
  | 1 => s.commitBad1
  | 2 => s.commitBad2
  | 3 => s.commitBad3
  | 4 => s.commitBad4
  | 5 => s.commitBad5
  | 6 => s.commitBad6
  | 8 => s.commitBad8
  | 10 => s.commitBad10
  | _ => none

/-- Every Expert field of a block takes its translated value. -/
def State.commitDo (s : State) (b : Nat) : State :=
  match b with
  | 0 => s.commitDo0
  | 1 => s.commitDo1
  | 2 => s.commitDo2
  | 3 => s.commitDo3
  | 4 => s.commitDo4
  | 5 => s.commitDo5
  | 6 => s.commitDo6
  | 8 => s.commitDo8
  | 10 => s.commitDo10
  | _ => s

/-- COMMIT = 1 is written: no effect while BUSY (R17, R18). -/
def State.commitStart (s : State) (b : Nat) : State :=
  if s.on Reg.BASIC_CTRL.BUSY b then s else (s.flag Reg.BASIC_CTRL.BUSY b).flag Reg.BASIC_CTRL.COMMIT b

/-- A commit in progress ends: whole or refused (R15, R17). -/
def State.commitEnd (s : State) (b : Nat) : State :=
  if !s.on Reg.BASIC_CTRL.BUSY b then s
  else
    let t := match s.commitBad b with
      | some w => (s.flag Reg.BASIC_CTRL.BERR b).wr Reg.BASIC_CTRL.ERR_WORD b w
      | none => ((s.commitDo b).wr Reg.BASIC_CTRL.BERR b 0).wr Reg.BASIC_CTRL.EXPERT_OVR b 0
    (t.wr Reg.BASIC_CTRL.BUSY b 0).wr Reg.BASIC_CTRL.COMMIT b 0

/-- A write to the register at an address: one that meets a commit in progress of its block waits until it ends, then lands (R18). -/
def State.winWrite (s : State) (m : Master) (a : Nat) (f : State → State) : State :=
  s.busWrite m a fun t => f (t.commitEnd (winOf a).1)

/-- R15, R17: a write of COMMIT = 1 to the BASIC_CTRL of a window; the Rowan window takes no write. -/
def execBasicCommit (m : Master) (blk : Fin 17) (s : State) : Host.Outcome State Fault Refusal :=
  .next (if blk = 15 then s.busErr m (Reg.BASIC_CTRL.COMMIT.addr blk.val 0)
    else s.busWrite m (Reg.BASIC_CTRL.COMMIT.addr blk.val 0) (·.commitStart blk.val))

/-- R15 to R18: a commit ends. -/
def execBasicCommitDone (blk : Fin 17) (s : State) : Host.Outcome State Fault Refusal := .next (s.commitEnd blk.val)

end Sys2Proof.Machine
end

