-- ==== Sys2Proof/Machine/Chain.lean ====
section
/-! DEFINITION. The Obpex chain: ports, frames, data, addresses, the mode change on the wire, chain resets (spec/14_obpex_chain.md, R339
to R349, R352 to R358). Chain time and what a mode change applies are in ChainTime. -/

namespace Sys2Proof.Machine

/-! ## Ports (R340 to R342) -/

def State.chRole (s : State) : Nat := s.rd Reg.CH_CFG.ROLE % 3
def State.chOn (s : State) : Bool := s.present islCHN && s.on Reg.CH_CFG.EN
def State.chUp (s : State) (p : Nat) : Bool := s.on Reg.CH_PORT.UP p
def State.chWrapped (s : State) (p : Nat) : Bool := s.on Reg.CH_PORT.WRAP p
def State.chPort (s : State) (p : Nat) : ChPort := if p = 0 then s.ch.p0 else s.ch.p1
def State.setChPort (s : State) (p : Nat) (r : ChPort) : State :=
  { s with ch := if p = 0 then { s.ch with p0 := r } else { s.ch with p1 := r } }

/-- Set UP of a port, in CH_PORT and CH_STATUS. -/
def State.setUp (s : State) (p : Nat) (b : Bool) : State :=
  ((s.wr Reg.CH_PORT.UP p (b2n b)).wr (if p = 0 then Reg.CH_STATUS.UP0 else Reg.CH_STATUS.UP1) 0 (b2n b)).flag Reg.CH_EVT.LINK_CHG 0

/-- Wrap or unwrap a port, in CH_PORT and CH_STATUS. -/
def State.setWrap (s : State) (p : Nat) (b : Bool) : State :=
  ((s.wr Reg.CH_PORT.WRAP p (b2n b)).wr (if p = 0 then Reg.CH_STATUS.WRAP0 else Reg.CH_STATUS.WRAP1) 0 (b2n b)).flag
    Reg.CH_EVT.WRAP_CHG 0

/-- The port through which what entered at `p` leaves: the other port, or back out of the same one where that is wrapped (R342). -/
def State.chRoute (s : State) (p : Nat) : Option Nat :=
  let o := 1 - p
  if s.chWrapped o then (if s.chWrapped p || !s.chUp p then none else some p) else if s.chUp o then some o else none

/-- Send something onwards as if it had entered at `p`; what has no way out is lost. -/
def State.chEmit (s : State) (p : Nat) (x : ChSent) : State :=
  match s.chRoute p with
  | some o => { s with chOut := s.chOut ++ [(o, x)] }
  | none => s

/-- A port goes down: the module wraps there and the port trains again while EN = 1 (R340, R342). -/
def State.chPortDown (s : State) (p : Nat) : State :=
  if !s.chUp p then s
  else
    let t := (s.setUp p false).onlyIf (!s.chWrapped p) (·.setWrap p true)
    t.setChPort p { t.chPort p with trainAt := t.now, sent := false, rcvd := false, lsw := none, t1 := none }

/-- R340: a port has trained, with PLL-C locked (R401); `delay` is the link delay in 1/64 tick, `eq` the equaliser step and first-tap code of each receive lane. -/
def execPortTrained (p : Fin 2) (delay : Nat) (eq : List (Fin 16 × Fin 16)) (s : State) : Host.Outcome State Fault Refusal :=
  .next (if s.chOn ∧ !s.chUp p.val ∧ s.on Reg.PLL_STAT.LOCK 2 then
      let t := (s.setUp p.val true).wr Reg.CH_PORT.DELAY p.val (min delay 65535)
      let t := foldEach (fun (e : (Fin 16 × Fin 16) × Nat) u =>
        if e.2 < 3 ∧ !(u.on Reg.CH_EQ.FREEZE p.val e.2) then
          (u.wr2 Reg.CH_EQ.CTLE p.val e.2 e.1.1.val).wr2 Reg.CH_EQ.DFE p.val e.2 e.1.2.val
        else u) eq.zipIdx t
      t.setChPort p.val { t.chPort p.val with upAt := t.now }
    else s)

/-- R340: training is repeated 10 ms after its start. -/
def execTrainingRetry (p : Fin 2) (s : State) : Host.Outcome State Fault Refusal :=
  .next (if s.chOn ∧ !s.chUp p.val ∧ (s.chPort p.val).trainAt + 5000000 ≤ s.now then
      s.setChPort p.val { s.chPort p.val with trainAt := s.now }
    else s)

/-- R342: the receive direction carries no valid characters for 1 µs, or the far end restarts training. -/
def execPortDown (p : Fin 2) (s : State) : Host.Outcome State Fault Refusal :=
  .next (s.onlyIf s.chOn (·.chPortDown p.val))

/-- Both ends have been UP for 10 ms: the port unwraps. -/
def State.chUnwrapIf (s : State) (p : Nat) : State :=
  s.onlyIf (s.chWrapped p && s.chUp p && (s.chPort p).sent && (s.chPort p).rcvd) (·.setWrap p false)

/-- R342: a wrapped port has been UP for 10 ms and sends UNWRAP. -/
def execUnwrapTimer (p : Fin 2) (s : State) : Host.Outcome State Fault Refusal :=
  .next (
    let c := s.chPort p.val
    if s.chOn ∧ s.chUp p.val ∧ s.chWrapped p.val ∧ !c.sent ∧ c.upAt + 5000000 ≤ s.now then
      let t := s.setChPort p.val { c with sent := true }
      { t with chOut := t.chOut ++ [(p.val, ChSent.unwrap)] }.chUnwrapIf p.val
    else s)

/-- R342: the far end's UNWRAP arrives. -/
def execChUnwrap (p : Fin 2) (s : State) : Host.Outcome State Fault Refusal :=
  .next (if s.chOn ∧ s.chUp p.val ∧ s.chWrapped p.val then
      (s.setChPort p.val { s.chPort p.val with rcvd := true }).chUnwrapIf p.val
    else s)

/-- Is a receive lane in use: an active lane that the spare has not replaced, or the spare that replaced one (R341)? -/
def State.chLaneUsed (s : State) (p l : Nat) : Bool :=
  match (s.chPort p).spared with
  | none => decide (l < 2)
  | some k => l ≠ k

/-- R341: a receive lane shows code or disparity errors within 1 ms, or has lost character lock. -/
def execLaneFail (p : Fin 2) (lane : Fin 3) (errs : BitVec 16) (unlocked : Bool) (s : State) : Host.Outcome State Fault Refusal :=
  .next (if s.chOn ∧ s.chUp p.val ∧ s.chLaneUsed p.val lane.val then
      let t := s.wr Reg.CH_PORT_ERR.CODE_CNT p.val (min 65535 (s.rd Reg.CH_PORT_ERR.CODE_CNT p.val + errs.toNat))
      if errs.toNat < 16 ∧ !unlocked then t
      else if t.on Reg.CH_PORT.SPARE_RX p.val then t.chPortDown p.val
      else t.setChPort p.val { t.chPort p.val with lsw := some lane.val }
    else s)

/-- The physical unit of a chain lane enters the queue of retirements (R341, R418). -/
def State.retireLane (s : State) (p d l : Nat) : State :=
  { s with retireq := s.retireq ++ [0x1000 + 195 + 6 * p + 3 * d + l] }.flag Reg.CH_EVT.LANE_SPARED 0

/-- R341: the LSW ordered set passes a port, on the receive direction whose lane failed or on the transmit direction whose lane the far
end found failed. -/
def execChLsw (p : Fin 2) (transmit : Bool) (lane : Fin 2) (s : State) : Host.Outcome State Fault Refusal :=
  .next (
    let c := s.chPort p.val
    if !s.chOn || !s.chUp p.val then s
    else if transmit then
      (if s.on Reg.CH_PORT.SPARE_TX p.val then s
       else { s with chOut := s.chOut ++ [(p.val, ChSent.lsw lane.val)] }.flag Reg.CH_PORT.SPARE_TX p.val |>.retireLane p.val 0 lane.val)
    else if c.lsw = some lane.val then
      ((s.setChPort p.val { c with lsw := none, spared := some lane.val }).flag Reg.CH_PORT.SPARE_RX p.val).retireLane p.val 1 lane.val
    else s)

/-! ## Link delay (R350) -/

/-- R350: a port sends DREQ every 4.096 µs; or the far end's DREQ arrives, and the port answers after `turn` 1/64 ticks. -/
def execChDreq (p : Fin 2) (sub : Fin 64) (far : Option Nat) (s : State) : Host.Outcome State Fault Refusal :=
  .next (if s.chOn ∧ s.chUp p.val then
      match far with
      | some turn => { s with chOut := s.chOut ++ [(p.val, .drsp turn)] }
      | none =>
        let c := s.chPort p.val
        let due : Bool := match c.t1 with | some t => decide (t / 64 + 2048 ≤ s.now) | none => true
        if due then { s.setChPort p.val { c with t1 := some (64 * s.now + sub.val) } with chOut := s.chOut ++ [(p.val, .dreq)] } else s
    else s)

/-- R350: DRSP arrives: d = ((t4 − t1) − turnaround) / 2. -/
def execChDrsp (p : Fin 2) (sub : Fin 64) (turn : Nat) (s : State) : Host.Outcome State Fault Refusal :=
  .next (match (s.chPort p.val).t1 with
    | some t1 =>
      if s.chOn ∧ s.chUp p.val then
        s.wr Reg.CH_PORT.DELAY p.val (clampI 0 65535 (roundAny (mkRat ((64 * s.now + sub.val : Nat) - t1 - turn) 2))).toNat
      else s
    | none => s)

/-! ## Frames (R344, R345) -/

/-- The frame types of R344. -/
def chTypes : List Nat := [0x01, 0x10, 0x11, 0x12, 0x13, 0x14, 0x15, 0x16, 0x20, 0x21, 0x22]

def ChFrame.typ (f : ChFrame) : Nat := bits f.w0.toNat 0 8
def ChFrame.dest (f : ChFrame) : Nat := bits f.w0.toNat 8 8
def ChFrame.src (f : ChFrame) : Nat := bits f.w0.toNat 16 8
def ChFrame.len (f : ChFrame) : Nat := bits f.w0.toNat 24 8
def ChFrame.hops (f : ChFrame) : Nat := bits f.w1.toNat 16 8
def ChFrame.words (f : ChFrame) : List Nat := f.pay.map (·.toNat)

/-- A frame that the first module to receive it drops. -/
def ChFrame.bad (f : ChFrame) : Bool :=
  decide (64 < f.len) || !chTypes.contains f.typ || f.pay.length != f.len
    || crcWords (f.w0.toNat :: f.w1.toNat :: f.words) != f.crc.toNat

/-- The words of a frame that leaves the module, with its CRC. -/
def chWords (w0 w1 : Nat) (pay : List Nat) : List Nat := w0 :: w1 :: pay ++ [crcWords (w0 :: w1 :: pay)]

/-- Send a frame of this module out of P1 (primary direction). -/
def State.chSend (s : State) (typ dest : Nat) (pay : List Nat) : State :=
  let w0 := typ + dest * 2 ^ 8 + s.rd Reg.CH_STATUS.ADDR * 2 ^ 16 + pay.length * 2 ^ 24
  { s with ch := { s.ch with seq := (s.ch.seq + 1) % 2 ^ 16 } }.chEmit 0 (.frame (chWords w0 s.ch.seq pay))

/-- Forward a frame with its payload: HOPS advances, and at 128 the frame leaves the ring. -/
def State.chForward (s : State) (p : Nat) (f : ChFrame) (pay : List Nat) : State :=
  if 128 ≤ f.hops + 1 then s else s.chEmit p (.frame (chWords f.w0.toNat (f.w1.toNat + 2 ^ 16) pay))

/-- The reception of a frame of one type at a port: what the module does with it at its first visit or as its DEST (`act`, which may change
the payload that travels on), and what it does with its own broadcast frame that returns (`home`). -/
def State.chFrame (s : State) (p : Nat) (f : ChFrame) (first : Bool) (typ : Nat)
    (act : State → List Nat → State × List Nat) (home : State → List Nat → State) : State :=
  let named := s.on Reg.CH_STATUS.ADDR_OK
  let own := s.rd Reg.CH_STATUS.ADDR
  if !s.chOn || !s.chUp p then s
  else if f.bad then (s.flag Reg.CH_EVT.CRC_DROP 0).bump Reg.CH_PORT_ERR.CRC_CNT p
  else if f.typ ≠ typ then s
  else if named && f.src == own && f.dest == 0xFF then home s f.words
  else if named && f.dest == own then (act s f.words).1
  else if f.dest = 0xFF ∧ first then
    let r := act s f.words
    r.1.chForward p f r.2
  else s.chForward p f f.words

/-- An action that leaves the payload alone. -/
def keepPay (act : State → List Nat → State) (s : State) (w : List Nat) : State × List Nat := (act s w, w)

/-! ## Data (R346, R347) -/

def chTxBase : Nat := 0x4B000000
def chRxBase : Nat := 0x4B008000

/-- Store words in the RX area from a word index, which wraps. -/
def State.chStore (s : State) (i : Nat) : List Nat → State
  | [] => s
  | w :: t => (s.setWord (chRxBase + 4 * (i % 8192)) w).chStore (i + 1) t

/-- A DATA frame for this module. -/
def State.chData (s : State) (f : ChFrame) : State :=
  let wp := s.rd Reg.CH_RX_PTR.WR_PTR
  let free := (s.rd Reg.CH_RX_PTR.RD_PTR + 2 * 8192 - wp - 1) % 8192
  if free < f.len + 2 then s.flag Reg.CH_EVT.RX_OVF 0
  else (s.chStore wp (f.w0.toNat :: f.w1.toNat :: f.words)).wr Reg.CH_RX_PTR.WR_PTR 0 ((wp + f.len + 2) % 8192)

/-- R344, R347: a DATA frame arrives, or a frame that is dropped. -/
def execChData (p : Fin 2) (f : ChFrame) (first : Bool) (s : State) : Host.Outcome State Fault Refusal :=
  .next (s.chFrame p.val f first 0x01 (keepPay fun t _ => t.chData f) fun t _ => t)

/-- GO (R346). -/
def State.chGo (s : State) : State :=
  let len := s.rd Reg.CH_TX.LEN
  let off := s.rd Reg.CH_TX.OFFSET
  let dest := s.rd Reg.CH_TX.DEST
  if len = 0 ∨ 64 < len ∨ 8192 < off + len ∨ (63 < dest ∧ dest ≠ 0xFF) ∨ dest = s.rd Reg.CH_STATUS.ADDR ∨ !s.on Reg.CH_STATUS.ADDR_OK
      ∨ 16 ≤ s.ch.queue.length then s.flag Reg.CH_EVT.TX_ERR 0
  else { s with ch := { s.ch with queue := s.ch.queue ++ [(dest, len, off)] } }.wr Reg.CH_TX_CTRL.QUSED 0 (s.ch.queue.length + 1)

/-- R346: a write of GO = 1. -/
def execChTxGo (m : Master) (s : State) : Host.Outcome State Fault Refusal := .next (s.winWrite m (Reg.CH_TX_CTRL.GO.addr 0 0) (·.chGo))

/-- R346: the frame of the oldest descriptor leaves the module. -/
def execTxFrameSend (s : State) : Host.Outcome State Fault Refusal :=
  .next (match s.ch.queue with
    | (dest, len, off) :: rest =>
      if s.chOn ∧ (s.chRoute 0).isSome then
        let pay := (List.range len).map fun k => s.word (chTxBase + 4 * (off + k))
        ({ s with ch := { s.ch with queue := rest } }.wr Reg.CH_TX_CTRL.QUSED 0 rest.length).chSend 0x01 dest pay
      else s
    | [] => s)

/-! ## Addresses and censuses (R348, R349) -/

/-- The lowest number of 1 to 63 that a map lacks; 64 where none is left. -/
def nextFree (m : Nat) : Nat := ((List.range 64).find? fun a => 1 ≤ a && !bitAt m a).getD 64

/-- A 64-bit number as two words, and back. -/
def two (v : Nat) : List Nat := [v % 2 ^ 32, v / 2 ^ 32 % 2 ^ 32]
def ofTwo (w : List Nat) (i : Nat) : Nat := w.getD i 0 + w.getD (i + 1) 0 * 2 ^ 32

/-- The master sends a token. -/
def State.sendToken (s : State) (keep : Bool) : State :=
  let taken := if keep then s.rd Reg.CH_PRESENT.MAP ||| 1 else 1
  { s with ch := { s.ch with keep := keep, tokAt := s.now } }.chSend 0x20 0xFF ([nextFree taken, b2n keep] ++ two taken)

/-- ENUM = 1 is written. -/
def State.chEnumerate (s : State) (keep : Bool) : State :=
  let s := s.wr Reg.CH_CMD.KEEP 0 (b2n keep)
  let r := s.rd Reg.CH_MC_RES.RESULT
  if s.chRole ≠ 2 ∨ r = 1 ∨ r = 2 then s.flag Reg.CH_EVT.CMD_ERR 0
  else (((s.wr Reg.CH_STATUS.ADDR 0 0).wr Reg.CH_STATUS.ADDR_OK 0 1).wr Reg.CH_CMD.ENUM 0 1).sendToken keep

/-- R348: a write of ENUM = 1. -/
def execChEnum (m : Master) (keep : Bool) (s : State) : Host.Outcome State Fault Refusal :=
  .next (s.winWrite m (Reg.CH_CMD.ENUM.addr 0 0) (·.chEnumerate keep))

/-- A census leaves the master. -/
def State.sendCensus (s : State) : State :=
  let t := s.chSend 0x21 0xFF (two 1)
  { t with ch := { t.ch with censAt := some t.now } }

/-- After an enumeration the members are those that its censuses find (R349). -/
def State.chNewRing (s : State) : State := { s with ch := { s.ch with members := 0, miss := [] } }

/-- The token at a module. -/
def State.chTokenVisit (s : State) (w : List Nat) : State × List Nat :=
  let next := w.getD 0 0
  let taken := ofTwo w 2
  let s := if w.getD 1 0 = 0 then s.wr Reg.CH_STATUS.ADDR_OK 0 0 else s
  if s.on Reg.CH_STATUS.ADDR_OK then (s, w)
  else if next ≤ 63 then
    let taken := withBit taken next
    ((s.wr Reg.CH_STATUS.ADDR 0 next).wr Reg.CH_STATUS.ADDR_OK 0 1, [nextFree taken, w.getD 1 0] ++ two taken)
  else (s.flag Reg.CH_EVT.ENUM_OVF 0, w)

/-- R348: a token arrives. -/
def execChToken (p : Fin 2) (f : ChFrame) (first : Bool) (s : State) : Host.Outcome State Fault Refusal :=
  .next (s.chFrame p.val f first 0x20 State.chTokenVisit fun t _ =>
    if t.on Reg.CH_CMD.ENUM then
      ((((t.chNewRing.flag Reg.CH_EVT.ENUM_END 0).wr Reg.CH_STATUS.ENUM_DONE 0 1).wr Reg.CH_CMD.ENUM 0 0).sendCensus)
    else t)

/-- R348: a lost token is sent again 100 µs later. -/
def execEnumRetry (s : State) : Host.Outcome State Fault Refusal :=
  .next (if s.chOn ∧ s.on Reg.CH_CMD.ENUM ∧ s.ch.tokAt + 50000 ≤ s.now then (s.wr Reg.CH_STATUS.ENUM_DONE 0 0).sendToken s.ch.keep else s)

/-- R349: every 100 µs the master sends a census. -/
def execCensusEmit (s : State) : Host.Outcome State Fault Refusal :=
  .next (
    let due : Bool := match s.ch.censAt with | some t => decide (t + 50000 ≤ s.now) | none => true
    if s.chOn ∧ s.chRole = 2 ∧ due then s.sendCensus else s)

/-- A census is back at the master: PRESENT, and what each member missed. -/
def State.chCensusHome (s : State) (map : Nat) : State :=
  let members := s.ch.members ||| map
  let s := { s with ch := { s.ch with members := members } }.wr Reg.CH_PRESENT.MAP 0 map
  foldEach (fun a t =>
    if bitAt map a then { t with ch := { t.ch with miss := SMap.set 0 t.ch.miss a 0 } }
    else
      let n := SMap.get 0 t.ch.miss a
      let t := { t with ch := { t.ch with miss := SMap.set 0 t.ch.miss a (min 3 (n + 1)) } }
      t.onlyIf (n == 2) (·.flag Reg.CH_EVT.MEMBER_LOST 0)) (bitList 64 members) s

/-- R349: a census arrives. -/
def execChCensus (p : Fin 2) (f : ChFrame) (first : Bool) (s : State) : Host.Outcome State Fault Refusal :=
  .next (s.chFrame p.val f first 0x21
    (fun t w => (t, if t.on Reg.CH_STATUS.ADDR_OK then two (withBit (ofTwo w 0) (t.rd Reg.CH_STATUS.ADDR)) else w))
    fun t w => t.onlyIf (t.chRole == 2) (·.chCensusHome (ofTwo w 0)))

/-! ## Carrier sync (R352) -/

/-- The carrier sync event reaches the timebases. -/
def State.carrierSync (s : State) : State := s.onlyIf (s.present islTBC) (foldEach (fun n t => t.syncEvent n 3) (List.range 8))

/-- ARM = 1 is written. -/
def State.csyncArm (s : State) (per : Nat) : State :=
  let s := s.wr Reg.CH_CSYNC.PER 0 per
  if s.rd Reg.CH_CSYNC_AT.AT ≤ s.chainTime then (s.wr Reg.CH_CSYNC.ARM 0 0).flag Reg.CH_EVT.CSYNC_LATE 0 else s.wr Reg.CH_CSYNC.ARM 0 1

/-- R352: a write of CH_CSYNC with ARM = 1. -/
def execCsyncArm (m : Master) (per : BitVec 24) (s : State) : Host.Outcome State Fault Refusal :=
  .next (s.winWrite m (Reg.CH_CSYNC.ARM.addr 0 0) (·.csyncArm per.toNat))

/-- The sync event is raised: ARM clears, or CSYNC_AT advances by PER as often as it takes to lie above a time. -/
def State.csyncRaise (s : State) (t : Nat) : State :=
  let at0 := s.rd Reg.CH_CSYNC_AT.AT
  let per := s.rd Reg.CH_CSYNC.PER
  let s := s.carrierSync
  if per = 0 then s.wr Reg.CH_CSYNC.ARM 0 0 else s.wr Reg.CH_CSYNC_AT.AT 0 (at0 + per * ((t - at0) / per + 1))

/-- R352: chain time equals CSYNC_AT. -/
def execCarrierSync (s : State) : Host.Outcome State Fault Refusal :=
  .next (if s.present islCHN ∧ s.on Reg.CH_CSYNC.ARM ∧ s.chainTime = s.rd Reg.CH_CSYNC_AT.AT then s.csyncRaise s.chainTime else s)

/-! ## Two-phase mode change (R353 to R357) -/

/-- Set STATE and RESULT; a change sets MC_EVT. -/
def State.mcState (s : State) (v : Nat) : State :=
  if s.rd Reg.CH_MC_STAT.STATE = v then s else (s.wr Reg.CH_MC_STAT.STATE 0 v).flag Reg.CH_EVT.MC_EVT 0
def State.mcResult (s : State) (v : Nat) : State :=
  if s.rd Reg.CH_MC_RES.RESULT = v then s else (s.wr Reg.CH_MC_RES.RESULT 0 v).flag Reg.CH_EVT.MC_EVT 0

/-- Is a staged address legal: word-aligned, in a range of R353, naming an RW register? -/
def mcAddrOk (a : Nat) : Bool :=
  a % 4 == 0 && ((0x40000000 ≤ a && a ≤ 0x4000FFFF) || (0x40042000 ≤ a && a ≤ 0x400421FF))
    && match regAt a with
      | some (fs, _) => fs.any fun f => f.acc == .rw
      | none => false

/-- The first check of R354 that fails; 0 where all pass. -/
def State.mcCheck (s : State) (id t : Nat) : Nat :=
  let lead : Int := (t : Int) - s.chainTime
  if !s.on Reg.CH_CFG.ACCEPT then 1
  else if !s.on Reg.CH_STATUS.ADDR_OK then 2
  else if !s.on Reg.CH_STATUS.TLOCK then 3
  else if lead < 5000 ∨ 2 ^ 31 < lead then 4
  else if (bitList 8 (s.rd Reg.CH_MC_STG.STG_EN)).any fun i => !mcAddrOk (s.rd Reg.CH_MC_ADDR.ADDR i) then 5
  else if s.rd Reg.CH_MC_STAT.STATE = 1 ∧ s.rd Reg.CH_MC_STAT.ID ≠ id then 6
  else 0

/-- Arm a change, or refuse it: the armed change of another ID keeps STATE. -/
def State.mcArm (s : State) (id t : Nat) : State × Nat :=
  let r := s.mcCheck id t
  if r = 0 then
    let s := ((s.wr Reg.CH_MC_STAT.ID 0 id).wr Reg.CH_MC_STAT.REASON 0 0).wr Reg.CH_MC_STAT.CMT 0 0
    ({ (s.wr Reg.CH_MC_STAT.LOCK_LOST 0 0).mcState 1 with ch := { s.ch with t := t } }, 0)
  else if s.rd Reg.CH_MC_STAT.STATE = 1 then (s, r)
  else
    let s := ((s.wr Reg.CH_MC_STAT.ID 0 id).wr Reg.CH_MC_STAT.REASON 0 r).wr Reg.CH_MC_STAT.CMT 0 0
    ((s.wr Reg.CH_MC_STAT.LOCK_LOST 0 0).mcState 3, r)

/-- PREPARE = 1 is written on the master (R355). -/
def State.mcPrepare (s : State) (id : Nat) : State :=
  let s := s.wr Reg.CH_MC_CTRL.ID 0 id
  let r := s.rd Reg.CH_MC_RES.RESULT
  if s.chRole ≠ 2 ∨ !s.on Reg.CH_STATUS.ENUM_DONE ∨ r = 1 ∨ r = 2 then s.flag Reg.CH_EVT.CMD_ERR 0
  else
    let t := s.rd Reg.CH_MC_AT.T
    let s := { s with ch := { s.ch with mId := id, mT := t, mS := s.rd Reg.CH_PRESENT.MAP ||| 1, mAt := s.now, armed := 1, refused := 0 } }
    let s := s.wr Reg.CH_MC_MAP.APPLIED 0 0
    match s.mcArm id t with
    | (s', 0) => (s'.mcResult 1).chSend 0x10 0xFF (id :: two t)
    | (s', _) => s'.mcResult 4

/-- R355: a write of CH_MC_CTRL with PREPARE = 1. -/
def execPrepareWrite (m : Master) (id : BitVec 16) (s : State) : Host.Outcome State Fault Refusal :=
  .next (s.winWrite m (Reg.CH_MC_CTRL.PREPARE.addr 0 0) (·.mcPrepare id.toNat))

/-- R354: a PREPARE arrives; the module reports to address 0. -/
def execChPrepare (p : Fin 2) (f : ChFrame) (first : Bool) (s : State) : Host.Outcome State Fault Refusal :=
  .next (s.chFrame p.val f first 0x10
    (keepPay fun t w =>
      let id := w.getD 0 0 % 2 ^ 16
      match t.mcArm id (ofTwo w 1) with
      | (t', 0) => t'.chSend 0x11 0 [id]
      | (t', r) => t'.chSend 0x12 0 [id, r])
    fun t _ => t)

/-- Does a report answer the change that the master runs? -/
def State.mcMine (s : State) (w : List Nat) : Bool := s.chRole == 2 && w.getD 0 0 == s.ch.mId

/-- R355: an ARMED report arrives. -/
def execChArmed (p : Fin 2) (f : ChFrame) (first : Bool) (s : State) : Host.Outcome State Fault Refusal :=
  .next (s.chFrame p.val f first 0x11 (keepPay fun t w =>
    if t.mcMine w then { t with ch := { t.ch with armed := withBit t.ch.armed (f.src % 64) } } else t) fun t _ => t)

/-- R355: a REFUSED report arrives. -/
def execChRefused (p : Fin 2) (f : ChFrame) (first : Bool) (s : State) : Host.Outcome State Fault Refusal :=
  .next (s.chFrame p.val f first 0x12 (keepPay fun t w =>
    if t.mcMine w then { t with ch := { t.ch with refused := withBit t.ch.refused (f.src % 64) } } else t) fun t _ => t)

/-- The first COMMIT with the armed ID. -/
def State.mcCommit (s : State) (w : List Nat) : State :=
  s.onlyIf (s.rd Reg.CH_MC_STAT.STATE == 1 && s.rd Reg.CH_MC_STAT.ID == w.getD 0 0) (·.wr Reg.CH_MC_STAT.CMT 0 1)

/-- R356: a COMMIT arrives; the master acts on its own when it returns. -/
def execChCommit (p : Fin 2) (f : ChFrame) (first : Bool) (s : State) : Host.Outcome State Fault Refusal :=
  .next (s.chFrame p.val f first 0x13 (keepPay State.mcCommit) State.mcCommit)

/-- R356: an ABORT arrives. -/
def execChAbort (p : Fin 2) (f : ChFrame) (first : Bool) (s : State) : Host.Outcome State Fault Refusal :=
  .next (s.chFrame p.val f first 0x14 (keepPay fun t w =>
    t.onlyIf (t.rd Reg.CH_MC_STAT.STATE == 1 && t.rd Reg.CH_MC_STAT.ID == w.getD 0 0) (·.mcState 4)) fun t _ => t)

/-- Does a map hold every bit of a set? -/
def covers (m set : Nat) : Bool := m &&& set == set

/-- An APPLIED report from an address (R355). -/
def State.mcApplied (s : State) (a : Nat) : State :=
  let map := withBit (s.rd Reg.CH_MC_MAP.APPLIED) a
  (s.wr Reg.CH_MC_MAP.APPLIED 0 map).onlyIf (s.rd Reg.CH_MC_RES.RESULT == 2 && covers map s.ch.mS) (·.mcResult 3)

/-- R355: an APPLIED report arrives. -/
def execChApplied (p : Fin 2) (f : ChFrame) (first : Bool) (s : State) : Host.Outcome State Fault Refusal :=
  .next (s.chFrame p.val f first 0x15 (keepPay fun t w => if t.mcMine w then t.mcApplied (f.src % 64) else t) fun t _ => t)

/-- R356: an EXPIRED report arrives: the master takes it, and its RESULT follows from the APPLIED reports that are missing. -/
def execChExpired (p : Fin 2) (f : ChFrame) (first : Bool) (s : State) : Host.Outcome State Fault Refusal :=
  .next (s.chFrame p.val f first 0x16 (keepPay fun t _ => t) fun t _ => t)

/-- The master sends a COMMIT or ABORT of its change, and twice again, 2 µs apart (R355). -/
def State.mcThrice (s : State) (typ : Nat) : State :=
  let id := s.ch.mId
  let t := s.chSend typ 0xFF [id]
  { t with ch := { t.ch with rep := [(t.now + 1000, typ, id), (t.now + 2000, typ, id)] } }

/-- The repeated frames that are due leave (R355). -/
def State.mcRepeat (s : State) : State :=
  if s.ch.rep.isEmpty then s
  else
    let due (e : Nat × Nat × Nat) : Bool := decide (e.1 ≤ s.now)
    foldEach (fun e t => t.chSend e.2.1 0xFF [e.2.2]) (s.ch.rep.filter due)
      { s with ch := { s.ch with rep := s.ch.rep.filter fun e => !due e } }

/-- R355: all reports are in, or ARM_TMO_US has passed: the master commits or aborts. -/
def execMcArmTimeout (s : State) : Host.Outcome State Fault Refusal :=
  .next (
    let c := s.ch
    if s.present islCHN ∧ s.rd Reg.CH_MC_RES.RESULT = 1
        ∧ (covers (c.armed ||| c.refused) c.mS ∨ c.mAt + 500 * s.rd Reg.CH_MC_TMO.ARM_TMO_US ≤ s.now) then
      if covers c.armed c.mS && c.refused == 0 && decide (s.chainTime + 500 * s.rd Reg.CH_MC_TMO.LEAD_US ≤ c.mT) then
        (s.mcResult 2).mcThrice 0x13
      else
        let t := s.mcThrice 0x14
        (t.onlyIf (t.rd Reg.CH_MC_STAT.STATE == 1 && t.rd Reg.CH_MC_STAT.ID == c.mId) (·.mcState 4)).mcResult 4
    else s)

/-- R355: APPLIED reports are missing at T + 50,000 ticks. -/
def execMcResultTimeout (s : State) : Host.Outcome State Fault Refusal :=
  .next (s.onlyIf (s.present islCHN && s.rd Reg.CH_MC_RES.RESULT == 2 && decide (s.ch.mT + 50000 ≤ s.chainTime)) (·.mcResult 5))

/-! ## Chain resets (R358) -/

/-- An M reset is due in some ticks; an earlier one stands. -/
def State.chResetIn (s : State) (d : Nat) : State :=
  { s with ch := { s.ch with rstAt := some (match s.ch.rstAt with | some t => min t (s.now + d) | none => s.now + d) } }

/-- RESET_ONE = 1 is written. -/
def State.chResetOne (s : State) (target : Nat) : State :=
  let s := s.wr Reg.CH_CMD.TARGET 0 target
  if s.chRole = 2 then s.chSend 0x22 target [target] else s.flag Reg.CH_EVT.CMD_ERR 0

/-- R358: a write of RESET_ONE = 1 with TARGET. -/
def execResetOne (m : Master) (target : Fin 64) (s : State) : Host.Outcome State Fault Refusal :=
  .next (s.winWrite m (Reg.CH_CMD.RESET_ONE.addr 0 0) (·.chResetOne target.val))

/-- RESET_ALL = 1 is written. -/
def State.chResetAll (s : State) : State :=
  if s.chRole = 2 then (s.chSend 0x22 0xFF [0xFF]).chResetIn 10000 else s.flag Reg.CH_EVT.CMD_ERR 0

/-- R358: a write of RESET_ALL = 1. -/
def execResetAll (m : Master) (s : State) : Host.Outcome State Fault Refusal := .next (s.winWrite m (Reg.CH_CMD.RESET_ALL.addr 0 0) (·.chResetAll))

/-- R358: a RESET arrives. -/
def execChReset (p : Fin 2) (f : ChFrame) (first : Bool) (s : State) : Host.Outcome State Fault Refusal :=
  .next (s.chFrame p.val f first 0x22 (keepPay fun t w =>
    t.onlyIf (t.on Reg.CH_CFG.RST_EN
        && (w.getD 0 0 == 0xFF || (t.on Reg.CH_STATUS.ADDR_OK && w.getD 0 0 == t.rd Reg.CH_STATUS.ADDR))) (·.chResetIn 5000))
    fun t _ => t)

/-! ## EN and ROLE -/

/-- TLOCK of the master reads 1 while EN = 1 (R350). -/
def State.chShowLock (s : State) : State := s.onlyIf (s.chRole == 2) (·.wr Reg.CH_STATUS.TLOCK 0 (s.rd Reg.CH_CFG.EN))

/-- EN is written: 0 to 1 starts training, 0 takes both ports down (R340, R342). -/
def State.chSetEn (s : State) (b : Bool) : State :=
  let t := s.wr Reg.CH_CFG.EN 0 (b2n b)
  let t := if b then
      (if s.on Reg.CH_CFG.EN then t
       else foldEach (fun p u => u.setChPort p { u.chPort p with trainAt := u.now }) [0, 1] t)
    else foldEach (fun p u => u.chPortDown p) [0, 1] t
  t.chShowLock

end Sys2Proof.Machine
end

