-- ==== Sys2Proof/Machine/Clock.lean ====
section
/-! DEFINITION. Clock references and the three phase-locked loops: the commands of spec/16_clocks.md (R377 to R391). Loop 0 is PLL-T, 1
PLL-S, 2 PLL-C. -/

namespace Sys2Proof.Machine

def State.pll (s : State) (k : Nat) : PllS := SMap.get PllS.init s.clk.plls k
def State.setPll (s : State) (k : Nat) (r : PllS) : State := { s with clk := { s.clk with plls := SMap.set PllS.init s.clk.plls k r } }
def State.pllSt (s : State) (k : Nat) : Nat := s.rd Reg.PLL_STAT.STATE k
def State.setPllSt (s : State) (k v : Nat) : State :=
  (s.wr Reg.PLL_STAT.STATE k v).wr Reg.PLL_STAT.LOCK k (b2n (v == 3))

/-- A refused or discarded write (R391). -/
def State.clkRefuse (s : State) (code : Nat) : State := (s.wr Reg.CLK_REF.CFG_CODE 0 code).flag Reg.CLK_EVT.CFG_ERR 0

/-! ## References (R377 to R379) -/

/-- A member with its chain running takes PLL-T from the chain-recovered reference. -/
def State.chainRef (s : State) : Bool := s.rd Reg.CH_CFG.ROLE == 1 && s.on Reg.CH_CFG.EN

/-- Is the reference of a loop valid? -/
def State.pllRefOk (s : State) (k : Nat) : Bool :=
  let loc : Bool := s.rd Reg.CLK_REF.LOCAL != 0
  match k with
  | 0 => if s.chainRef then s.on Reg.CLK_REF.CHAIN_OK else loc
  | 1 => loc
  | _ => if s.rd Reg.CH_CFG.ROLE = 1 then s.clk.tRun else loc

/-- The loops that the local reference drives. -/
def State.localLoops (s : State) : List Nat :=
  [0, 1, 2].filter fun k => match k with
    | 0 => !s.chainRef
    | 1 => true
    | _ => s.rd Reg.CH_CFG.ROLE != 1

/-! ## Islands of a loop (R25) -/

/-- The islands that a loop clocks and that stand still until it locks. -/
def pllIslands (k : Nat) : List Nat :=
  match k with
  | 0 => List.range 9 ++ (List.range 15).map (0x13 + ·) ++ [0x23, 0x24]
  | 2 => [islCHN]
  | _ => []

/-- The PLL-T-clocked islands of die A, whose clock the clock-forward link carries (R23). -/
def forwardIslands : List Nat := run 0x13 15

/-- An island has its clock from now on, and leaves D reset where no fault, power-down or rail holds it (R382, R401). -/
def State.clkIsland (s : State) (i : Nat) : State :=
  let u := s.wr Reg.ISL_STAT.CLK_OK i 1
  let held : Bool := u.on Reg.ISL_STAT.FAULT i || !u.on Reg.ISL_STAT.POWERED i || !u.on Reg.ISL_STAT.RAIL_OK i
    || (SMap.get none u.pwr.hold i).isSome
  if held then u
  else (u.wr Reg.ISL_STAT.IN_RESET i 0).onlyIf (i == islISF && s.on Reg.ISL_STAT.IN_RESET i) (·.isoResetEnd)

/-- The islands of a loop have their clock; those of die A only while the clock-forward link is alive (R23). -/
def State.clkRun (s : State) (k : Nat) : State :=
  foldEach (fun i t => if t.links.clockForward && forwardIslands.contains i then t else t.clkIsland i) (pllIslands k) s

/-! ## Loss and return (R383 to R386, R390) -/

/-- PLL-S islands move to bypass; the CAN controllers stop (R375, R383). -/
def State.toBypass (s : State) : State :=
  if s.clk.sOn then ({ s with clk := { s.clk with sOn := false } }.flag Reg.CLK_EVT.S_BYP 0).canClockStop else s

/-- PLL-C loses lock: both chain ports go down (R342, R379). -/
def State.pllcDown (s : State) : State :=
  foldEach (fun p t => t.chPortDown p) [0, 1] (s.onlyIf (s.on Reg.PLL_STAT.LOCK 2) (·.flag Reg.CLK_EVT.C_UNLOCK 0))

/-- A loop loses lock or its reference. -/
def State.pllLoss (s : State) (k : Nat) : State :=
  let st := s.pllSt k
  match k with
  | 0 =>
    if st = 3 ∨ st = 5 then
      let waits : Bool := st == 5 && (s.pll 0).step && !(s.pll 0).closed
      let t := (s.setPllSt 0 4).wr Reg.PLL_PHERR.FOFS 0 0
      (t.setPll 0 { t.pll 0 with step := false, closed := false }).onlyIf (!waits) (·.flag Reg.CLK_EVT.T_COAST 0)
    else s
  | 1 => if st = 2 ∨ st = 3 then (s.setPllSt 1 6).toBypass else s.toBypass
  | _ => if st = 3 then s.pllcDown.setPllSt 2 2 else s

/-- The reference of a loop is back: PLL-T returns with the phase error `e` (31.25 ps) in the mode of RET_MODE. -/
def State.pllBack (s : State) (k : Nat) (e : Int) : State :=
  if k = 0 ∧ s.pllSt 0 = 4 then
    let step : Bool := s.on Reg.PLL_CTRL.RET_MODE 0 && !s.chainRef
    let slew := s.rd Reg.CLK_TRK.TRK_SLEW
    let s := (s.setPllSt 0 5).wrI Reg.PLL_PHERR.PH_ERR 0 e
    let s := s.setPll 0 { s.pll 0 with step := step, closed := !step && decide (e.natAbs ≤ 16) }
    s.wrI Reg.PLL_PHERR.FOFS 0 (if step ∨ e.natAbs ≤ 16 then 0 else if 0 < e then -slew else slew)
  else if k = 1 ∧ s.pllSt 1 = 6 then s.setPllSt 1 2
  else s

/-- The local reference is lost and back at once (an accepted change of LOCAL_SEL, a switch). -/
def State.localCycle (s : State) (e : Int) : State :=
  foldEach (fun k t => (t.pllLoss k).pllBack k e) s.localLoops s

/-! ## Band selection (R380, R381, R401) -/

/-- The VCO target of a loop in 2 MHz. -/
def vcoTarget (k : Nat) : Nat := if k = 2 then 1250 else 1000

/-- The entries of the band table that a loop may take, as it stands now. -/
def State.bandList (s : State) (k : Nat) : List (Nat × Nat) :=
  ((List.range 32).filter fun i =>
    s.on Reg.CLK_BAND.VALID i && bitAt (s.rd Reg.CLK_BAND.USE i) k && decide (s.rd Reg.CLK_BAND.F_LO i ≤ vcoTarget k)
      && decide (vcoTarget k ≤ s.rd Reg.CLK_BAND.F_HI i)).map fun i => (i, s.rd Reg.CLK_BAND.CODE i)

/-- No entry is left: BAND_ERR, and a record at the first failure and every 100th one after it. -/
def State.bandErr (s : State) (k : Nat) : State :=
  let n := (s.pll k).fails + 1
  let s := (s.setPllSt k 0).flag Reg.CLK_EVT.BAND_ERR 0
  let s := s.setPll k { s.pll k with cand := [], fails := n, errAt := some s.now }
  s.onlyIf (n % 100 == 1) fun t =>
    t.logEv 0x000E k (leBytes 4 (t.regWord Reg.CLK_EVT.CFG_ERR 0) ++ leBytes 4 (t.regWord Reg.PLL_STAT.STATE k) ++ leBytes 4 n)

/-- Try the first of the entries left. -/
def State.bandTry (s : State) (k : Nat) (l : List (Nat × Nat)) : State :=
  match l with
  | [] => s.bandErr k
  | (i, code) :: _ =>
    let s := (s.wr Reg.PLL_STAT.ENTRY k i).wr Reg.PLL_STAT.BAND k code
    (s.setPllSt k 1).setPll k { s.pll k with cand := l, since := s.now, errAt := none }

/-- A loop begins its band selection; with no reference it stays off until one is valid (R378). -/
def State.bandSelect (s : State) (k : Nat) : State :=
  if s.pllRefOk k then s.bandTry k (s.bandList k) else (s.setPllSt k 0).setPll k { s.pll k with cand := [], errAt := none }

/-- A local reference is chosen: enabled loops that stand still select their bands, the others return. -/
def State.localChosen (s : State) (src : Nat) (e : Int) : State :=
  let s := s.wr Reg.CLK_REF.LOCAL 0 src
  foldEach (fun k t =>
    if t.on Reg.PLL_CTRL.EN k ∧ t.pllSt k = 0 ∧ (t.pll k).errAt = none then t.bandSelect k else t.pllBack k e) s.localLoops s

/-- The valid bit of a local source: 1 crystal, 2 REFCLK. -/
def refBit (src : Nat) : FD := if src = 1 then Reg.CLK_REF.XTAL_OK else Reg.CLK_REF.REFCLK_OK

/-- A local source is lost (R377, R378, R390). -/
def State.localLost (s : State) (src : Nat) (e : Int) : State :=
  let s := (s.wr (refBit src) 0 0).flag Reg.CLK_EVT.REF_LOST 0
  let other := 3 - src
  let sel := s.rd Reg.CLK_REF.LOCAL_SEL
  if s.rd Reg.CLK_REF.LOCAL ≠ src then s
  else if (sel = 0 ∨ sel = 3) ∧ s.on (refBit other) then
    ((s.wr Reg.CLK_REF.LOCAL 0 other).flag Reg.CLK_EVT.REF_BACK 0).localCycle e
  else foldEach (fun k t => t.pllLoss k) s.localLoops (s.wr Reg.CLK_REF.LOCAL 0 0)

/-- A local source becomes valid: it is chosen where none is in use and LOCAL_SEL and the wait for the crystal permit it. -/
def State.localValid (s : State) (src : Nat) (e : Int) : State :=
  let s := s.onlyIf (!s.on (refBit src)) fun t => (t.wr (refBit src) 0 1).flag Reg.CLK_EVT.REF_BACK 0
  let sel := s.rd Reg.CLK_REF.LOCAL_SEL
  let may : Bool := sel == 0 || sel == 3 || sel == src
  let loc := s.rd Reg.CLK_REF.LOCAL
  if loc = 0 ∧ may ∧ (src = 1 ∨ s.clk.wait = none) then { s with clk := { s.clk with wait := none } }.localChosen src e
  else if loc = src then foldEach (fun k t => t.pllBack k e) s.localLoops s
  else s

/-- The port that the chain-recovered reference would be taken from. -/
def State.chainBest (s : State) : Option Nat := if s.chUp 0 then some 0 else if s.chUp 1 then some 1 else none

/-- R377: a reference is lost: 0 crystal, 1 REFCLK, 2 chain-recovered. `e` is the phase error after a switch to the other local source. -/
def execRefLost (src : Fin 3) (e : BitVec 16) (s : State) : Host.Outcome State Fault Refusal :=
  .next (if !s.present islCLK then s
    else if src.val < 2 then s.localLost (src.val + 1) e.toInt
    else if s.on Reg.CLK_REF.CHAIN_OK ∧ s.chainBest ≠ some (s.rd Reg.CLK_REF.CHAIN_PORT) then
      ((s.wr Reg.CLK_REF.CHAIN_OK 0 0).flag Reg.CLK_EVT.REF_LOST 0).onlyIf s.chainRef (·.pllLoss 0)
    else s)

/-- R377: a reference has been valid for 1,024 periods; `e` is the phase error that a returning PLL-T measures. -/
def execRefValid (src : Fin 3) (e : BitVec 16) (s : State) : Host.Outcome State Fault Refusal :=
  .next (if !s.present islCLK then s
    else if src.val < 2 then s.localValid (src.val + 1) e.toInt
    else match s.chainBest with
      | some p =>
        if (s.chPort p).upAt + 20480 ≤ s.now then
          let t := s.onlyIf (!s.on Reg.CLK_REF.CHAIN_OK) fun t =>
            ((t.wr Reg.CLK_REF.CHAIN_OK 0 1).wr Reg.CLK_REF.CHAIN_PORT 0 p).flag Reg.CLK_EVT.REF_BACK 0
          t.onlyIf s.chainRef fun u =>
            if u.on Reg.PLL_CTRL.EN 0 ∧ u.pllSt 0 = 0 ∧ (u.pll 0).errAt = none then u.bandSelect 0 else u.pllBack 0 e.toInt
        else s
      | none => s)

/-- R378, R401: 2 ms after the release no crystal is valid: REFCLK is chosen if it is valid, otherwise the first source to come. -/
def execCrystalWaitExpiry (s : State) : Host.Outcome State Fault Refusal :=
  .next (match s.clk.wait with
    | some t =>
      if s.present islCLK ∧ t + 1000000 ≤ s.now then
        let u := { s with clk := { s.clk with wait := none } }
        u.onlyIf (u.rd Reg.CLK_REF.LOCAL == 0 && u.on Reg.CLK_REF.REFCLK_OK) (·.localChosen 2 0)
      else s
    | none => s)

/-- LOCAL_SEL is written (R378). -/
def State.clkLocalSel (s : State) (v : Nat) (e : Int) : State :=
  if v = 1 ∨ v = 2 then
    if !s.on (refBit v) then s.clkRefuse 1
    else
      let t := s.wr Reg.CLK_REF.LOCAL_SEL 0 v
      let loc := s.rd Reg.CLK_REF.LOCAL
      if loc = v then t else if loc = 0 then t.localChosen v e else (t.wr Reg.CLK_REF.LOCAL 0 v).localCycle e
  else s.wr Reg.CLK_REF.LOCAL_SEL 0 v

/-! ## Enables and locks (R381, R382, R389) -/

/-- May a loop be stopped or relocked? -/
def State.pllFree (s : State) (k : Nat) : Bool :=
  match k with
  | 0 => (List.range 8).all fun n => !s.on Reg.TB_CTRL.RUN n
  | 2 => !s.on Reg.CH_CFG.EN
  | _ => true

/-- What a loop drives when it stops or selects anew: PLL-S islands move to bypass, the chain ports go down. -/
def State.pllQuit (s : State) (k : Nat) : State :=
  match k with
  | 1 => s.toBypass
  | 2 => s.pllcDown
  | _ => s

/-- EN is written. -/
def State.pllEn (s : State) (k : Nat) (b : Bool) : State :=
  if b then
    if s.on Reg.PLL_CTRL.EN k then s
    else ((s.wr Reg.PLL_CTRL.EN k 1).onlyIf (k == 0) fun t => { t with clk := { t.clk with tRun := false } }).bandSelect k
  else if !s.on Reg.PLL_CTRL.EN k then s
  else if !s.pllFree k then s.clkRefuse 3
  else
    let t := ((s.pllQuit k).wr Reg.PLL_CTRL.EN k 0).setPllSt k 0
    (t.setPll k { t.pll k with cand := [], errAt := none }).onlyIf (k == 0) fun u => { u with clk := { u.clk with tRun := false } }

/-- RELOCK = 1 is written. -/
def State.pllRelock (s : State) (k : Nat) : State :=
  if !s.on Reg.PLL_CTRL.EN k then s
  else if !s.pllFree k then s.clkRefuse 3
  else (s.pllQuit k).bandSelect k

/-- R381: an entry has not locked within 20 µs of selection and 400 µs. -/
def execBandTryTimeout (k : Fin 3) (s : State) : Host.Outcome State Fault Refusal :=
  .next (
    let r := s.pll k.val
    if s.present islCLK ∧ (s.pllSt k.val = 1 ∨ s.pllSt k.val = 2) ∧ r.cand ≠ [] ∧ r.since + 210000 ≤ s.now then s.bandTry k.val r.cand.tail
    else s)

/-- R401: 100 ms after BAND_ERR, Alder selects anew. -/
def execBandSelectionRetry (k : Fin 3) (s : State) : Host.Outcome State Fault Refusal :=
  .next (match (s.pll k.val).errAt with
    | some t => if s.present islCLK ∧ s.present islALD ∧ s.pllSt k.val = 0 ∧ t + 50000000 ≤ s.now then s.pllRelock k.val else s
    | none => s)

/-- R382: a loop has held its phase within ±1 ns for 1,024 periods. -/
def execPllLock (k : Fin 3) (s : State) : Host.Outcome State Fault Refusal :=
  .next (
    let n := k.val
    let st := s.pllSt n
    let r := s.pll n
    let may : Bool := st == 2 || st == 6 || (st == 1 && decide (r.since + 10000 ≤ s.now)) || (st == 5 && r.closed)
    if s.present islCLK ∧ s.on Reg.PLL_CTRL.EN n ∧ s.pllRefOk n ∧ may then
      let t := (s.setPllSt n 3).setPll n { r with cand := [], lockAt := s.now, closed := false, step := false, fails := 0
                                                  lfsr := s.rd Reg.PLL_DITH.SEED n }
      let t := t.onlyIf (st == 5) (·.flag Reg.CLK_EVT.T_RELOCK 0)
      match n with
      | 0 =>
        let u := if t.clk.tRun then t else { t with clk := { t.clk with tRun := true } }.clkRun 0
        u.showPwm
      | 2 => t.clkRun 2
      | _ => t
    else s)

/-- R382: a locked loop has lain beyond ±4 ns for 4 periods. -/
def execPllUnlock (k : Fin 3) (s : State) : Host.Outcome State Fault Refusal :=
  .next (s.onlyIf (s.present islCLK && s.pllSt k.val == 3) (·.pllLoss k.val))

/-- R383: PLL-S has held lock for 1 ms: its islands switch back. -/
def execPllsReturn (s : State) : Host.Outcome State Fault Refusal :=
  .next (if s.present islCLK ∧ s.pllSt 1 = 3 ∧ !s.clk.sOn ∧ (s.pll 1).lockAt + 500000 ≤ s.now then
      { s with clk := { s.clk with sOn := true } }.flag Reg.CLK_EVT.S_RETURN 0
    else s)

/-- R385: a returning PLL-T measures its phase error; within 0.5 ns the slew ends and the loop closes. -/
def execSlewDone (e : BitVec 16) (s : State) : Host.Outcome State Fault Refusal :=
  .next (
    let r := s.pll 0
    if s.present islCLK ∧ s.pllSt 0 = 5 ∧ !r.step ∧ !r.closed then
      let t := s.wrI Reg.PLL_PHERR.PH_ERR 0 e.toInt
      if e.toInt.natAbs ≤ 16 then (t.wr Reg.PLL_PHERR.FOFS 0 0).setPll 0 { r with closed := true } else t
    else s)

/-- The lengthening of a tick in 0.5 ns for a phase error in 31.25 ps: e, or 40 ns + e where e is negative, to the nearest 0.5 ns, a value
halfway up (R386). -/
def stretchOf (e : Int) : Nat := ((if 0 ≤ e then e else 1280 + e).toNat + 8) / 16

/-- R386: the tick at the awaited edge is stretched; `e` is the phase error of the last reference edge before it. The counters of ticks, chain
time among them, count one tick for the stretched one, so all that they time falls behind by its lengthening. -/
def execTickStretch (e : BitVec 16) (s : State) : Host.Outcome State Fault Refusal :=
  .next (
    let r := s.pll 0
    let n := s.rd Reg.PLL_CTRL.STEP_TB 0
    let edge : Bool := if s.tbRunning n then s.xferDue n || (s.tb n).xferAt == some s.now else true
    if s.present islCLK ∧ s.pllSt 0 = 5 ∧ r.step ∧ !r.closed ∧ edge then
      let t := (s.wrI Reg.PLL_PHERR.PH_ERR 0 e.toInt).flag Reg.CLK_EVT.T_STEP 0
      { t.setPll 0 { r with closed := true } with clk := { (t.setPll 0 { r with closed := true }).clk with stretch := some (s.now, stretchOf e.toInt) } }
    else s)

/-! ## Register writes with rules of their own (R380, R388, R391) -/

/-- Is a word legal for the band table? -/
def bandOk (v : Nat) : Bool :=
  let lo := bits v 0 11
  let hi := bits v 11 11
  !bitAt v 31 || (decide (lo < hi) && decide (800 ≤ lo) && decide (hi ≤ 1600))

/-- DITH_EN is written. -/
def State.pllDither (s : State) (k : Nat) (b : Bool) : State :=
  if !b then s.wr Reg.PLL_CTRL.DITH_EN k 0
  else if k = 2 then s.clkRefuse 6
  else if k = 0 ∧ s.chRole ≠ 0 then s.clkRefuse 2
  else if s.on Reg.PLL_CTRL.DITH_EN k then s
  else (s.wr Reg.PLL_CTRL.DITH_EN k 1).setPll k { s.pll k with lfsr := s.rd Reg.PLL_DITH.SEED k }

/-- PLL_DITH is written. -/
def State.pllSeed (s : State) (k seed dev : Nat) : State :=
  if seed = 0 then s.clkRefuse 5
  else if k = 2 ∧ dev ≠ 0 then s.clkRefuse 6
  else (s.wr Reg.PLL_DITH.SEED k seed).wr Reg.PLL_DITH.DEV k dev

/-- ROLE has become other than 0: PLL-T's dither ends (R388); a master's TLOCK follows EN (R350). -/
def State.roleChanged (s : State) : State := (s.onlyIf (s.chRole != 0) (·.wr Reg.PLL_CTRL.DITH_EN 0 0)).chShowLock

/-- PLL-T or PLL-C takes another reference than before: as at a change of LOCAL_SEL (R378), the loop loses its reference. DEDUCED: the return
comes with the next report that the new reference is valid, which carries the phase error. -/
def State.refSwitch (s old : State) : State :=
  let member (t : State) : Bool := t.rd Reg.CH_CFG.ROLE == 1
  (s.onlyIf (s.chainRef != old.chainRef) (·.pllLoss 0)).onlyIf (member s != member old) (·.pllLoss 2)

/-! ## One tick -/

/-- A step of the Fibonacci LFSR x^16 + x^14 + x^13 + x^11 + 1 (R388). -/
def lfsrStep (v : Nat) : Nat :=
  v / 2 + 2 ^ 15 * (b2n (bitAt v 0) ^^^ b2n (bitAt v 2) ^^^ b2n (bitAt v 3) ^^^ b2n (bitAt v 5))

/-- One tick of clock control: a selection ends after 20 µs per entry and the loop goes to locking (R381); every reference period, 20
ticks, the LFSR of a dithering loop steps (R388). -/
def State.clkTick (s : State) : State :=
  let s := foldEach (fun k t =>
    if t.pllSt k = 1 ∧ (t.pll k).since + 10000 ≤ t.now then t.setPllSt k 2 else t) [0, 1, 2] s
  foldEach (fun k t =>
    if t.now % 20 = 0 ∧ t.pllSt k = 3 ∧ t.on Reg.PLL_CTRL.DITH_EN k then t.setPll k { t.pll k with lfsr := lfsrStep (t.pll k).lfsr }
    else t) [0, 1] s

end Sys2Proof.Machine
end

