-- ==== Sys2Proof/Machine/Memory.lean ====
section
/-! DEFINITION. Bus accesses to MRAM and system SRAM, the tightly coupled memories, and the data caches of the cores
(R40, R41, R45, R312, R427, R433). -/

namespace Sys2Proof.Machine

/-! ## MRAM regions (R44, R427, R433) -/

def keyRecord : Nat := 0x00DFF000
def slotBase (k : Nat) : Nat := 0x00E00000 + 0x100000 * k
def logBase : Nat := 0x00D00000
def wearBase (k : Nat) : Nat := 0x00DE0000 + 0x4000 * k

/-- Is the byte one that no bus write may change: the event log, the wear record, the key record, the active slot, a slot that a load
verifies (R45, R427, R433)? -/
def State.mramLocked (s : State) (a : Nat) : Bool :=
  let st := s.rd Reg.IMG_STATUS.STATE
  let inSlot (k : Nat) : Bool := slotBase k ≤ a && a < slotBase k + 0x100000
  (logBase ≤ a && a < 0x00DE0000) || (wearBase 0 ≤ a && a < wearBase 2) || (keyRecord ≤ a && a < keyRecord + 0x1000)
    || (st == 2 && inSlot (s.rd Reg.IMG_STATUS.ACTIVE_SLOT))
    || (st == 1 && (inSlot s.img.slot || (s.img.prev == 2 && inSlot (s.rd Reg.IMG_STATUS.ACTIVE_SLOT))))

/-- A store of `n` bytes to MRAM or system SRAM. -/
def State.ramStore (s : State) (m : Master) (a n v : Nat) : State :=
  if !s.reach islMEM || (a < 0x1000000 && s.mramLocked a) then s.busErr m a
  else ((s.setNum a n v).eccWritten a n).ack m

/-! ## Tightly coupled memories: logical core × 0x4_0000 + offset (R41, R294) -/

/-- The key under which the ECC state of a word of a TCM stands. -/
def tcmEcc (core off : Nat) : Nat := 2 ^ 33 + 0x40000 * core + off

def State.tcmByte (s : State) (core off : Nat) : Nat := (SMap.get (0 : BitVec 8) s.tcm (0x40000 * core + off)).toNat
def State.setTcmByte (s : State) (core off v : Nat) : State :=
  { s with tcm := SMap.set (0 : BitVec 8) s.tcm (0x40000 * core + off) (BitVec.ofNat 8 v) }

/-- Store `n` bytes into the TCM of one core. -/
def State.tcmStore (s : State) (core off n v : Nat) : State :=
  let t := foldEach (fun (e : Nat × Nat) t => t.setTcmByte core (off + e.2) e.1) ((leBytes n v).zipIdx) s
  if n = 4 then { t with eccBad := t.eccBad.filter (· ≠ tcmEcc core off) } else t

/-- The TCM of a core takes the content of another one. -/
def State.tcmCopy (s : State) (src dst : Nat) : State :=
  if src = dst then s
  else
    let lo := 0x40000 * dst
    let keep := s.tcm.filter fun e => !(lo ≤ e.1 && e.1 < lo + 0x40000)
    let new := (s.tcm.filter fun e => 0x40000 * src ≤ e.1 && e.1 < 0x40000 * src + 0x40000).map fun e => (e.1 - 0x40000 * src + lo, e.2)
    { s with
      tcm := foldEach (fun e m => SMap.set (0 : BitVec 8) m e.1 e.2) new keep
      eccBad := s.eccBad.filter fun k => !(tcmEcc dst 0 ≤ k && k < tcmEcc dst 0 + 0x40000) }

/-! ## Data caches (R312): only lines that a core has written and not yet written back are state; a clean line holds what memory gave it -/

/-- Cacheable: MRAM and system SRAM. -/
def cacheable (a : Nat) : Bool := a < 0x1000000 || (0x20000000 ≤ a && a < 0x20400000)

def dKey (core a : Nat) : Nat := 2 ^ 32 * core + a

/-- The byte that a dirty line of a core's data cache holds at an address. -/
def State.dirty (s : State) (core a : Nat) : Option (BitVec 8) := SMap.get none s.dcache (dKey core a)

/-- The line of an address enters a core's data cache whole, where it does not hold it dirty already. -/
def State.dFill (s : State) (core a : Nat) : State :=
  foldEach (fun k t =>
      if (t.dirty core k).isNone then { t with dcache := SMap.set none t.dcache (dKey core k) (some (BitVec.ofNat 8 (t.byte k))) } else t)
    ((List.range 32).map (a / 32 * 32 + ·)) s

/-- A store of a core in SPLIT with WB = 1 stays in its data cache, in a line that is written back whole. -/
def State.dStore (s : State) (core a n v : Nat) : State :=
  foldEach (fun (e : Nat × Nat) t => { t with dcache := SMap.set none t.dcache (dKey core (a + e.2)) (some (BitVec.ofNat 8 e.1)) })
    ((leBytes n v).zipIdx) (s.dFill core a)

/-- Drop what a core's cache holds of a range, without writing back. -/
def State.dDrop (s : State) (core a n : Nat) : State :=
  { s with dcache := s.dcache.filter fun e => !(dKey core a ≤ e.1 && e.1 < dKey core a + n) }

/-- The bus master of a core. -/
def masterOfCore (core : Nat) : Master := match core with | 0 => .ash | 1 => .elm | _ => .oak

/-- Write back what a core's cache holds dirty in a range, then invalidate it. -/
def State.dFlush (s : State) (core a n : Nat) : State :=
  let es := s.dcache.filter fun e => dKey core a ≤ e.1 && e.1 < dKey core a + n
  let t := foldEach (fun (e : Nat × Option (BitVec 8)) u => match e.2 with
    | some v => u.ramStore (masterOfCore core) (e.1 - dKey core 0) 1 v.toNat
    | none => u) es s
  t.dDrop core a n

end Sys2Proof.Machine
end

