-- ==== Sys2Proof/Machine/Rowan.lean ====
section
/-! DEFINITION. The Rowan safety island of spec/11_rowan.md, with the bands, armed codes and chopper supervision of
spec/05_protection.md that Rowan carries out. -/

namespace Sys2Proof.Machine

/-! ## Status (R314 source 47) -/

/-- Write a field of ROW_STATUS; a change is an event. -/
def State.rowStatus (s : State) (f : FD) (v : Nat) : State := if s.rd f 0 = v then s else (s.wr f 0 v).irqEv 47

/-- Does Rowan run (R265)? -/
def State.rowanRuns (s : State) : Bool := s.present islRWN && !s.on Reg.ROW_STATUS.ROW_FAULT

/-- Has an image been applied (R52, R267): LOADED, or LOADING over an image in force? -/
def State.imageApplied (s : State) : Bool :=
  s.rd Reg.IMG_STATUS.STATE == 2 || (s.rd Reg.IMG_STATUS.STATE == 1 && s.img.prev == 2)

/-- Does Rowan refresh (R267): it runs, and it has loaded its parameters from an applied image? -/
def State.rowanLoops (s : State) : Bool := s.rowanRuns && s.imageApplied

/-! ## Command lines (R268, R269) -/

/-- The command lines that reach the trip node of a stage. -/
def State.linesOf (s : State) (n : Nat) : List Nat :=
  (List.range 8).filter fun l => s.routes.any fun r => r.kind == 7 && r.src == srcRowan l && r.dst == 0xC00 + n

/-- The stages whose trip node a line reaches. -/
def State.nodesOf (s : State) (l : Nat) : List Nat := (List.range 8).filter fun n => (s.linesOf n).contains l

/-- The stages that discharge through a leg stage, by the leg stage they name (R281). -/
def State.disTarget (s : State) (n : Nat) : Bool :=
  (List.range 8).any fun m => (s.row m).meth == 1 && s.rd Reg.ROW_MECH.DIS_STG m == n

/-- Does Rowan keep a line asserted: a hold, a discharge command, or a Rowan fault (R265, R269)? -/
def State.lineOn (s : State) (l : Nat) : Bool :=
  s.on Reg.ROW_STATUS.ROW_FAULT ||
    (s.nodesOf l).any fun n => (s.row n).causes != [] || s.disTarget n

/-- Show ROWAN_HOLD and ACTIVE of every trip node. -/
def State.showLines (s : State) : State :=
  foldEach (fun n t => (t.wr Reg.STG_TRIP.ROWAN_HOLD n (b2n ((t.linesOf n).any fun l => t.lineOn l))).showActive n) (List.range 8) s

/-- A command reaches one trip node: it trips the stage, or replaces the safe state of a tripped one (R132). -/
def State.rowNode (s : State) (n l cls : Nat) (code : Option Nat) : State :=
  if s.stgTripped n then
    let c := s.effClass n cls
    let new := code.getD (s.armed n c)
    let s := if s.rd Reg.STG_TRIP.SS n = new then s else s.latchStage n new
    if s.rd Reg.STG_TRIP_SRC.FIRST_SRC n = srcRowan l then s
    else s.wr Reg.STG_TRIP.SEC_CLS n (withBit (s.rd Reg.STG_TRIP.SEC_CLS n) c)
  else s.nodeRise n (srcRowan l) cls code

/-- Rowan commands a stage: it asserts every line that reaches it, and a line trips every node that it reaches (R268). -/
def State.rowCmd (s : State) (n cls : Nat) (code : Option Nat := none) : State :=
  (foldEach (fun l t => foldEach (fun m u => u.rowNode m l cls code) (t.nodesOf l) t) (s.linesOf n) s).showLines

/-! ## Sources (R272, R273) -/

/-- Step 1 of a refresh: every source takes the mean of the words received since the last refresh. -/
def State.srcRefresh (s : State) : State :=
  foldEach (fun c t =>
    let r := t.src c
    t.setSrc c (if r.n = 0 then { r with age := r.age + 1 } else { r with mean := r.sum, div := r.n, sum := 0, n := 0, age := 0 }))
    (List.range 72) s

/-- Is a source lost for a stage (R273)? -/
def State.srcLost (s : State) (n c : Nat) : Bool :=
  c < 72 && (decide (s.rd Reg.ROW_CNT.SRC_TMO n ≤ (s.src c).age) || (s.src c).bad || (decide (64 ≤ c) && s.isoCut (c - 64)))

/-- Does the self-test make something lost that stands on these islands (R420)? Rowan takes no hold for it. -/
def State.testLost (s : State) (isls : List Nat) : Bool := isls.any s.st.made.contains

/-- Is a source lost, and not by the self-test? -/
def State.holdLost (s : State) (n c : Nat) : Bool :=
  s.srcLost n c && !s.testLost (if c < 64 then run 0x13 4 else [islISF, 0x23 + (c - 64) / 4])

/-- The value of a source for a stage (R272), in per unit; none where no source is named, or it is lost or has given no word. -/
def State.srcVal (s : State) (n c : Nat) : Option Rat :=
  let r := s.src c
  if 72 ≤ c ∨ s.srcLost n c ∨ r.div = 0 then none
  else some ((mkRat r.mean r.div - (s.rdI Reg.ROW_SRC_ZERO.ZERO c : Int)) * mkRat (s.rdI Reg.ROW_SRC_GAIN.GAIN c) (2 ^ 28))

/-- The phases of a stage (R182). -/
def phasesOf (kind : Nat) : List Nat :=
  match kind with
  | 1 => [0, 1, 2]
  | 2 => [0, 1, 2, 3, 4, 5]
  | 3 => [0, 1, 2]
  | 4 => [0, 1, 2]
  | 5 => [0]
  | _ => []

def State.priOf (s : State) (n p : Nat) : Nat := s.rd Reg.RED_CUR.PRI n p
def State.secOf (s : State) (n p : Nat) : Nat := s.rd Reg.RED_CUR.SEC n p
def State.vdcA (s : State) (n : Nat) : Nat := s.rd Reg.RED_VDC.VDC_A n
def State.vdcB (s : State) (n : Nat) : Nat := s.rd Reg.RED_VDC.VDC_B n

/-- The higher of two values that may be missing. -/
def maxOpt : Option Rat → Option Rat → Option Rat
  | some a, some b => some (if a < b then b else a)
  | some a, none => some a
  | none, b => b

/-- The link voltage of a stage in volts (R134, R272): the higher of its two sources. -/
def State.linkNow (s : State) (n : Nat) : Option Rat := (maxOpt (s.srcVal n (s.vdcA n)) (s.srcVal n (s.vdcB n))).map (· * 1000)

/-- Are both link sources lost (R275)? A source that is not named does not count; with none named nothing is lost. -/
def State.linkLost (s : State) (n : Nat) : Bool :=
  let named := [s.vdcA n, s.vdcB n].filter (· < 72)
  named != [] && named.all (s.srcLost n)

/-- The link value kept of the last refresh. -/
def State.linkOf (s : State) (n : Nat) : Option Rat := (s.row n).links.headD none

/-- Is the link rising: its slope over the last 20 µs, four refreshes, above 0 (R138)? -/
def State.linkRising (s : State) (n : Nat) : Bool :=
  match (s.row n).links with
  | some a :: _ :: _ :: _ :: some e :: _ => decide (e < a)
  | _ => false

/-- ROW_LOST of a stage (R273): entries that its KIND does not use are not judged (R183). -/
def State.showLost (s : State) (n : Nat) : State :=
  let kind := s.stgKind n
  let bitsOf (f : Nat → Nat) : Nat := ((phasesOf kind).filter fun p => s.srcLost n (f p)).foldl withBit 0
  let link : Bool := 1 ≤ kind && kind ≤ 6
  (((s.wr Reg.ROW_LOST.PRI n (bitsOf (s.priOf n))).wr Reg.ROW_LOST.SEC n (bitsOf (s.secOf n))).wr Reg.ROW_LOST.VDC n
    (b2n (link && s.srcLost n (s.vdcA n)) + 2 * b2n (link && s.srcLost n (s.vdcB n)))).wr Reg.ROW_LOST.CHOP n
      (b2n (kind == 5 && s.srcLost n (s.rd Reg.ROW_MECH.CHOP_ISRC n)))

/-! ## Checks: consecutive counts -/

/-- Replace entry `k` of a list of counts, filling with 0. -/
def setAt (l : List Nat) (k v : Nat) : List Nat := (List.range (max l.length (k + 1))).map fun i => if i = k then v else l.getD i 0

/-- Check `k` of a stage fails or passes in this refresh. -/
def State.count (s : State) (n k : Nat) (fail : Bool) : State :=
  let r := s.row n
  s.setRow n (if fail then { r with fails := setAt r.fails k (r.fails.getD k 0 + 1), oks := setAt r.oks k 0 }
    else { r with fails := setAt r.fails k 0, oks := setAt r.oks k (r.oks.getD k 0 + 1) })

/-- Check `k` pauses (R275): its failures so far stand, and it has not held. -/
def State.pauseCheck (s : State) (n k : Nat) : State := s.setRow n { s.row n with oks := setAt (s.row n).oks k 0 }

/-- Has check `k` failed in `cnt` consecutive refreshes? -/
def State.failed (s : State) (n k cnt : Nat) : Bool := max 1 cnt ≤ (s.row n).fails.getD k 0

/-- Has check `k` held in `cnt` consecutive refreshes? -/
def State.held (s : State) (n k cnt : Nat) : Bool := max 1 cnt ≤ (s.row n).oks.getD k 0

/-- A flag of bits [8:1]: it follows its condition, and stays set while the hold stands. -/
def State.rowFlag (s : State) (f : FD) (n : Nat) (c : Bool) : State :=
  s.wr f n (b2n (c || (s.on f n && s.on Reg.ROW_STG.HOLD n)))

def absR (q : Rat) : Rat := if q < 0 then -q else q

/-- Run one check: with a value it fails or passes, without one it pauses. -/
def State.runCheck (s : State) (n k : Nat) (fail : Option Bool) : State :=
  match fail with
  | some b => s.count n k b
  | none => s.pauseCheck n k

/-! ## The measurement checks (R274, R275): 0 to 5 are the phase pairs, 6 and 7 the phase sums, 8 the link pair -/

/-- Are both sources of a pair named? -/
def State.pairNamed (s : State) (n k : Nat) : Bool :=
  if k = 8 then s.vdcA n < 72 && s.vdcB n < 72
  else k < 6 && (phasesOf (s.stgKind n)).contains k && s.priOf n k < 72 && s.secOf n k < 72

/-- Is a check enabled? -/
def State.checkOn (s : State) (n k : Nat) : Bool :=
  let kind := s.stgKind n
  if k < 6 then s.on Reg.ROW_MECH.XCHK_EN n && s.pairNamed n k
  else if k = 8 then s.on Reg.ROW_MECH.VCHK_EN n && s.pairNamed n 8
  else s.on Reg.RED_CFG.SUMCHK n && kind != 5 && (if k = 6 then phasesOf kind != [] else kind == 2)

/-- The count N of a check. -/
def State.checkCnt (s : State) (n k : Nat) : Nat := if k = 8 then s.rd Reg.ROW_CNT.N_V n else s.rd Reg.ROW_CNT.N_I n

/-- The sources of a check. -/
def State.checkSrcs (s : State) (n k : Nat) : List Nat :=
  if k < 6 then [s.priOf n k, s.secOf n k]
  else if k = 8 then [s.vdcA n, s.vdcB n]
  else [0, 1, 2].map fun i => s.priOf n (3 * (k - 6) + i)

/-- Does a check fail in this refresh? None while a source of it gives no value. ITOL and ISUM_TOL are Q1.15 in two's complement (R7). -/
def State.checkFails (s : State) (n k : Nat) : Option Bool :=
  match (s.checkSrcs n k).map (s.srcVal n) with
  | [some a, some b] =>
    some (if k = 8 then decide ((s.rd Reg.ROW_TOL.VTOL n : Rat) < absR (a - b) * 10000)
      else decide (mkRat (s.rdI Reg.ROW_TOL.ITOL n) 32768 < absR (a - b)))
  | [some a, some b, some c] => some (decide (mkRat (s.rdI Reg.ROW_ISUM.ISUM_TOL n) 32768 < absR (a + b + c)))
  | _ => none

/-- Are both sources of a phase, or both link sources, lost? -/
def State.checkBoth (s : State) (n k : Nat) : Bool := s.pairNamed n k && (s.checkSrcs n k).all (s.srcLost n)

/-- Has a check held for its N since it failed or paused (R269)? The loss of both sources of a pair whose check is off has passed when one is
back. -/
def State.checkHeld (s : State) (n k : Nat) : Bool := if s.checkOn n k then s.held n k (s.checkCnt n k) else !s.checkBoth n k

/-! ## Holds (R269) -/

/-- Show HOLD and HCAUSE. -/
def State.showHold (s : State) (n : Nat) : State :=
  let cs := (s.row n).causes
  (s.wr Reg.ROW_STG.HOLD n (b2n (cs != []))).wr Reg.ROW_STG.HCAUSE n (cs.headD 0)

/-- Take a hold: the first cause commands the stage with its class; a further cause is kept beside it. A SAFE_STATE request commands
its class in any case. -/
def State.takeHold (s : State) (n cause cls : Nat) : State :=
  let r := s.row n
  let new : Bool := r.causes == []
  let s := (s.setRow n { r with
    causes := if r.causes.contains cause then r.causes else r.causes ++ [cause]
    cls := if new then cls else r.cls }).showHold n
  if new || cause = 4 then s.rowCmd n cls else s

/-- Step 2 of a refresh decides on a hold, or with cause 0 on a pulse of class GENERAL: step 4 issues the command (R266). -/
def State.wantHold (s : State) (n cause : Nat) : State :=
  s.setRow n { s.row n with due := (s.row n).due ++ [(cause, clsGeneral)] }

/-- Step 4 of a refresh: what step 2 decided for a stage. -/
def State.carryOut (s : State) (n : Nat) : State :=
  let t := s.setRow n { s.row n with due := [] }
  foldEach (fun (e : Nat × Nat) u => if e.1 = 0 then u.rowCmd n e.2 else u.takeHold n e.1 e.2) (s.row n).due t

/-- Has a cause passed? -/
def State.causePassed (s : State) (n cause : Nat) : Bool :=
  match cause with
  | 1 => (s.row n).why.all (s.checkHeld n)
  | 2 => s.stgTripped n
  | 3 => s.rowg.rep ≤ 1 && !s.on Reg.ROW_STATUS.CPX_LOST
  | 4 => true
  | 5 => 3 ≤ s.rd Reg.ROW_DIS.DSTATE n
  | _ => false

/-- The outputs that a discharge drives through the latches turn off. -/
def State.latchesOff (s : State) (n : Nat) : State :=
  foldEach (fun l t => t.setPad l { t.pad l with ovH := false, ovL := false }) (s.stgLegs n) s

/-- The discharge method of a stage stops (R283). -/
def State.disStop (s : State) (n : Nat) : State :=
  let r := s.row n
  let d := s.rd Reg.ROW_MECH.DIS_STG n
  let s := if r.meth = 1 ∧ d < 8 then s.latchesOff d else if r.meth = 2 then s.latchesOff n else s
  s.setRow n { r with meth := 0, idx := 0, per := none, onCyc := 0 }

/-- The flags of ROW_STG bits [8:1]. -/
def rowFlags : List FD :=
  [Reg.ROW_STG.XCHK_I, Reg.ROW_STG.ISUM, Reg.ROW_STG.VDC_DIS, Reg.ROW_STG.SRC_LOST, Reg.ROW_STG.TQ_VIOL, Reg.ROW_STG.POS_DIS,
   Reg.ROW_STG.POS2_LOST, Reg.ROW_STG.POS2_SAME]

/-- Release a hold whose RELEASE waits and whose causes have all passed; a discharge ends with it. -/
def State.tryRelease (s : State) (n : Nat) : State :=
  let r := s.row n
  if s.on Reg.ROW_STG.REL_PEND n ∧ r.causes ≠ [] ∧ r.causes.all (s.causePassed n) then
    let s := if r.causes.contains 5 then (s.disStop n).wr Reg.ROW_DIS.DSTATE n 0 else s
    let s := (s.setRow n { s.row n with causes := [], why := [] }).showHold n
    let s := foldEach (fun f t => t.wr f n 0) rowFlags s
    (s.wr Reg.ROW_STG.REL_PEND n 0).showLines
  else s

/-- The measurement checks of a stage with SAFE = 1 in one refresh (R274, R275). -/
def State.measure (s : State) (n : Nat) : State :=
  let ks := (List.range 9).filter (s.checkOn n)
  let t := foldEach (fun k u => u.runCheck n k (s.checkFails n k)) ks s
  let bad (k : Nat) : Bool := t.checkOn n k && t.failed n k (t.checkCnt n k)
  let lost (k : Nat) : Bool := t.checkBoth n k || (t.checkOn n k && (t.checkSrcs n k).any (t.srcLost n))
  let react (k : Nat) : Bool := (t.checkBoth n k && (t.checkSrcs n k).all (t.holdLost n))
    || (t.checkOn n k && (t.checkSrcs n k).any (t.holdLost n) && t.on Reg.ROW_MECH.LOSS_REACT n)
  let why := (List.range 9).filter fun k => bad k || react k
  let u := (((t.rowFlag Reg.ROW_STG.XCHK_I n ((List.range 6).any bad)).rowFlag Reg.ROW_STG.ISUM n (bad 6 || bad 7)).rowFlag
    Reg.ROW_STG.VDC_DIS n (bad 8)).rowFlag Reg.ROW_STG.SRC_LOST n ((List.range 9).any lost)
  u.onlyIf (why != []) fun v =>
    (v.setRow n { v.row n with why := (v.row n).why ++ why.filter fun k => !(v.row n).why.contains k }).wantHold n 1

/-! ## Second position source (R277) -/

/-- POS2_SRC, 6 read as 7. -/
def State.pos2 (s : State) (n : Nat) : Nat := min (s.rd Reg.ROW_POS.POS2_SRC n) 6

/-- Is the named second source lost? -/
def State.pos2Lost (s : State) (n : Nat) : Bool :=
  let p := s.pos2 n
  if p ≤ 3 then s.links.control || !s.present islFPC || !s.on Reg.POS_STAT.VALID p
  else if p ≤ 5 then !s.on Reg.RS_CTRL.EN (p - 4) || !s.present islRXC || !(s.rowRs (p - 4)).lock || !(s.rowRs (p - 4)).inWin
  else false

/-- θr in 2^-48 turn and the electrical speed in Q20.12. -/
def State.pos2Val (s : State) (n : Nat) : Option (Nat × Int) :=
  let p := s.pos2 n
  let pp := s.rd Reg.ROW_POS.PP n
  if 6 ≤ p ∨ s.pos2Lost n then none
  else if p ≤ 3 then some (s.rd Reg.POS_ANG.ANG p * 2 ^ 24, s.rdI Reg.POS_SPD.SPD p)
  else some (s.rowPhi (p - 4) * pp % 2 ^ 48, roundAny (mkRat ((s.rowRs (p - 4)).w * pp) (2 ^ 20)))

/-- Does the field channel name the same channel as its sensor source? -/
def State.pos2Same (s : State) (n : Nat) : Bool :=
  (s.pos2 n ≤ 3 && s.fcSrc n == 1 && s.fcIdx n == s.pos2 n)
    || (s.pos2 n == 4 && s.fcSrc n == 2 && s.fcIdx n == 0) || (s.pos2 n == 5 && s.fcSrc n == 2 && s.fcIdx n == 1)

/-- Can Rowan read the field channel over the control link? -/
def State.fcReadable (s : State) (n : Nat) : Bool := !s.links.control && s.present islFPC && s.fcState n != 0

/-- The position part of a refresh: the flags and the hold of LOSS_REACT. -/
def State.position (s : State) (n : Nat) : State :=
  let lost := s.pos2Lost n
  ((s.rowFlag Reg.ROW_STG.POS2_LOST n lost).rowFlag Reg.ROW_STG.POS2_SAME n (s.pos2Same n)).onlyIf
    (lost && s.on Reg.ROW_MECH.LOSS_REACT n && !s.testLost (if s.pos2 n ≤ 3 then [islFPC] else islRXC :: run 0x13 4)) (·.wantHold n 2)

/-- The speed used for SB, of a stage that has speed bands (R134, R277). -/
def State.speed (s : State) (n : Nat) : State :=
  match s.pos2Val n with
  | some (_, w) => (s.wrI Reg.ROW_SPD.SPD n w).wr Reg.ROW_STG.SB_SHARED n 0
  | none =>
    let s := s.wr Reg.ROW_STG.SB_SHARED n 1
    if s.fcReadable n then s.wrI Reg.ROW_SPD.SPD n (s.rdI Reg.FC_SPD.SPD n) else s

/-! ## Torque monitor (R278) -/

/-- The square root of 3 in 2^-96. -/
def sqrt3R : Rat := mkRat (isqrt (3 * 2 ^ 192)) (2 ^ 96)

/-- α and β of three phase currents. -/
def clarke (a b c : Rat) : Rat × Rat := ((2 * a - b - c) * mkRat 1 3, (b - c) * sqrt3R * mkRat 1 3)

/-- The magnitude of a vector, exact to 2^-48. -/
def magR (x y : Rat) : Rat :=
  let q := x * x + y * y
  mkRat (isqrt (q.num.toNat * 2 ^ 96 / q.den)) (2 ^ 48)

/-- The phase currents of the first set in per unit: the chosen source of each phase, or the other one where it is lost. -/
def State.phaseCur (s : State) (n p : Nat) : Option Rat :=
  let a := s.srcVal n (s.priOf n p)
  let b := s.srcVal n (s.secOf n p)
  if s.on Reg.ROW_MECH.TQ_ISRC n then b.orElse fun _ => a else a.orElse fun _ => b

/-- The current vector (α, β) of a three-phase set in per unit. -/
def State.curVec (s : State) (n : Nat) : Option (Rat × Rat) :=
  (s.phaseCur n 0).bind fun a => (s.phaseCur n 1).bind fun b => (s.phaseCur n 2).map fun c => clarke a b c

/-- The flux-table entry of node (i, j) in per unit of FLX_FS. -/
def State.fluxAt (s : State) (n i j : Nat) : Rat × Rat :=
  let k := (s.rd Reg.ROW_FLX.FLX_BASE n + i * 2 ^ s.rd Reg.ROW_FLX.FLX_L n + j) % 4096
  (mkRat (s.rdI Reg.ROW_FLUX.PSI_D k) 32768, mkRat (s.rdI Reg.ROW_FLUX.PSI_Q k) 32768)

/-- ψd and ψq at (id, iq) in per unit, read bilinearly. -/
def State.flux (s : State) (n : Nat) (d q : Rat) : Rat × Rat :=
  let m : Nat := 2 ^ s.rd Reg.ROW_FLX.FLX_L n - 1
  if d < -1 ∨ 1 < d ∨ q < -1 ∨ 1 < q ∨ m = 0 then Config.fluxOpen d q
  else
    let x : Rat := (d + 1) * mkRat m 2
    let y : Rat := (q + 1) * mkRat m 2
    let i := min x.floor.toNat (m - 1)
    let j := min y.floor.toNat (m - 1)
    let fx := x - (i : Rat)
    let fy := y - (j : Rat)
    let mix (f : Rat × Rat → Rat) : Rat :=
      (f (s.fluxAt n i j) * (1 - fy) + f (s.fluxAt n i (j + 1)) * fy) * (1 - fx)
        + (f (s.fluxAt n (i + 1) j) * (1 - fy) + f (s.fluxAt n (i + 1) (j + 1)) * fy) * fx
    (mix Prod.fst, mix Prod.snd)

/-- 1.5 × PP × FLX_FS × I_FS in 0.1 N·m per unit of flux and current. -/
def State.torqueScale (s : State) (n : Nat) : Rat :=
  mkRat (3 * s.rd Reg.ROW_POS.PP n * s.rd Reg.ROW_FLX.FLX_FS n * s.rd Reg.ROW_ISUM.I_FS n) 200000

/-- Does the stage's monitor run in angle mode: TQM_MODE 1 with a second source that is present and not the field channel's? -/
def State.angleMode (s : State) (n : Nat) : Option Nat :=
  if s.rd Reg.ROW_MECH.TQM_MODE n = 1 ∧ !s.pos2Same n then (s.pos2Val n).map (·.1) else none

/-- The torque estimate in 0.1 N·m; none where a phase has no current. -/
def State.torque (s : State) (n : Nat) : Option Rat :=
  (s.curVec n).map fun (al, be) =>
    if s.stgKind n = 2 then (Config.torqueOpen s.fresh : Rat)
    else match s.angleMode n with
      | some th =>
        let (co, si) := cosSin th
        let c : Rat := mkRat co (2 ^ 60)
        let sn : Rat := mkRat si (2 ^ 60)
        let d := al * c + be * sn
        let q := be * c - al * sn
        let (pd, pq) := s.flux n d q
        s.torqueScale n * (pd * q - pq * d)
      | none => s.torqueScale n * magR al be

/-- Is the permit stale (R278)? -/
def State.permitStale (s : State) (n : Nat) : Bool :=
  match (s.row n).permit with
  | some (_, _, t) => decide (s.rd Reg.ROW_TQT.TQP_TMO n * 500000 < s.now - t)
  | none => true

/-- The window in force, in 0.1 N·m. -/
def State.window (s : State) (n : Nat) : Int × Int :=
  let tol : Int := s.rd Reg.ROW_TQ.TQ_TOL n
  let idle : Int := s.rd Reg.ROW_TQ.TQ_IDLE n
  match (if s.permitStale n then none else (s.row n).permit) with
  | some (lo, hi, _) => (lo - tol, hi + tol)
  | none => (-idle - tol, idle + tol)

/-- The angle with which the field channel's source is compared, in 2^-24 turn: θs + OFFS, or θo (R277). -/
def State.fcSourceAngle (s : State) (n : Nat) : Option Nat :=
  if !s.fcReadable n then none
  else if s.fcSensor n then some ((s.sensorAng n + s.rd Reg.FC_OFFS.OFFS n) % 2 ^ 24)
  else if s.fcSrc n = 3 then some (s.obsAng n)
  else none

/-- The angle agreement in angle mode: check 10. -/
def State.angleCheck (s : State) (n th : Nat) : State :=
  match s.fcSourceAngle n with
  | none => s
  | some a =>
    let diff := (sgn 48 (uns 48 ((th : Int) - a * 2 ^ 24))).natAbs
    let s := s.count n 10 (decide (s.rd Reg.ROW_POS.ANG_TOL n * 2 ^ 32 < diff))
    let bad := s.failed n 10 (s.rd Reg.ROW_CNT.N_T n)
    (s.rowFlag Reg.ROW_STG.POS_DIS n bad).onlyIf bad fun t => t.wantHold n 2

/-- The torque monitor of one refresh: check 9. -/
def State.monitor (s : State) (n : Nat) : State :=
  let s := s.wr Reg.ROW_STG.PERM_STALE n (b2n (s.permitStale n))
  let mode := s.rd Reg.ROW_MECH.TQM_MODE n
  if mode ≠ 1 ∧ mode ≠ 2 then s
  else
    let (lo, hi) := s.window n
    let s := (s.wrI Reg.ROW_TMIN.T_EST n lo).wrI Reg.ROW_TMAX.T_EST n hi
    if !s.stgEnabled n || s.stgTripped n then
      (s.setRow n { s.row n with fails := setAt (setAt (s.row n).fails 9 0) 10 0 }).rowFlag Reg.ROW_STG.TQ_VIOL n false
        |>.rowFlag Reg.ROW_STG.POS_DIS n false
    else
      let s := match s.torque n with
        | none => s
        | some t =>
          let fail : Bool := match s.angleMode n with
            | some _ => decide (t < (lo : Rat)) || decide ((hi : Rat) < t)
            | none => decide ((max lo.natAbs hi.natAbs : Rat) < absR t)
          let s := (s.next.wrI Reg.ROW_TEST.T_EST n (roundAny t)).count n 9 fail
          let bad := s.failed n 9 (s.rd Reg.ROW_CNT.N_T n)
          (s.rowFlag Reg.ROW_STG.TQ_VIOL n bad).onlyIf bad fun t => t.wantHold n 2
      match s.angleMode n with
      | some th => s.angleCheck n th
      | none => s

/-! ## Chopper supervision (R138, R139, R276) -/

/-- Is a chopper stage commanded on, by the PAD readback? -/
def State.chopOn (s : State) (n : Nat) : Bool :=
  (s.stgLegs n).any fun l =>
    if s.rd Reg.LEG_PAD_CFG.OUTMODE l ≤ 1 then s.gateOn l .hi
    else s.rd Reg.LEG_PAD_CFG.OUTMODE l = 2 && s.gateOn l .lo

/-- Does the chopper carry current above CHOP_IMIN? -/
def State.chopCurrent (s : State) (n : Nat) : Bool :=
  match s.srcVal n (s.rd Reg.ROW_MECH.CHOP_ISRC n) with
  | some v => decide ((s.rd Reg.STG_CHOP_CFG.CHOP_IMIN n : Rat) < absR v * 65536)
  | none => false

/-- A sticky chopper fault: Rowan trips the chopper stage with class GENERAL, as a pulse, in step 4. -/
def State.chopFault (s : State) (n reason : Nat) : State :=
  let s := s.setRow n { s.row n with on := none, resp := false, uncmd := none, wait := true }
  ((s.flag Reg.STG_CHOP.CHOP_FAULT n).wr Reg.STG_CHOP.REASON n reason).wantHold n 0

/-- Judge a chopper that is commanded on. -/
def State.judgeOn (s : State) (n : Nat) : State :=
  let r := s.row n
  let tmo := s.rd Reg.STG_CHOP_CFG.CHOP_TMO n * 500
  if r.wait then s.setRow n { r with uncmd := none }
  else
    let t0 := r.on.getD s.now
    let d := s.now - t0
    let s := s.setRow n { r with on := some t0, uncmd := none }
    if r.resp ∧ r.on ≠ none then s
    else if d ≤ tmo ∧ (s.chopCurrent n ∨ !s.linkRising n) then
      (s.setRow n { s.row n with resp := true }).wr Reg.STG_CHOP.RESP_T n (min 65535 (roundAny (mkRat d 50)).toNat)
    else if tmo ≤ d then s.chopFault n 1 else s

/-- Judge a chopper that is not commanded on. -/
def State.judgeOff (s : State) (n : Nat) : State :=
  let r := s.row n
  let s := s.setRow n { r with on := none, resp := false, wait := false, uncmd := none }
  if s.chopCurrent n then
    let t0 := r.uncmd.getD s.now
    let s := s.setRow n { s.row n with uncmd := some t0 }
    if s.rd Reg.STG_CHOP_CFG.CHOP_TMO n * 500 ≤ s.now - t0 then s.chopFault n 2 else s
  else s

/-- Is a chopper stage unavailable to an enabled stage that names it? -/
def State.chopUnavail (s : State) (n : Nat) : Bool :=
  (!s.stgEnabled n || s.stgTripped n)
    && (List.range 8).any fun m => s.stgEnabled m && (s.row m).chopStg == n

/-- The chopper judgement of one refresh. -/
def State.chopper (s : State) (n : Nat) : State :=
  if s.stgKind n ≠ 5 then s
  else
    let sticky (t : State) : Bool := t.on Reg.STG_CHOP.CHOP_FAULT n && t.rd Reg.STG_CHOP.REASON n != 3
    let s := if sticky s then s else if s.chopOn n then s.judgeOn n else s.judgeOff n
    if sticky s then s
    else if s.on Reg.STG_CHOP.CHOP_FAULT n then
      (if s.stgEnabled n then (s.wr Reg.STG_CHOP.CHOP_FAULT n 0).wr Reg.STG_CHOP.REASON n 0 else s)
    else if s.chopUnavail n then (s.flag Reg.STG_CHOP.CHOP_FAULT n).wr Reg.STG_CHOP.REASON n 3
    else s

/-! ## Bands and armed codes (R134, R135, R137, R140, R141) -/

/-- A band with hysteresis: it rises at a threshold and falls below the threshold minus the hysteresis. `k` thresholds from the
`k`-th down. -/
def bandOf (th : Nat → Nat) (hy : Nat) (v : Rat) (old : Nat) : Nat → Nat
  | 0 => 0
  | k + 1 =>
    if (th k : Rat) ≤ v ∨ (k + 1 ≤ old ∧ (th k : Rat) - (hy : Rat) ≤ v) then k + 1 else bandOf th hy v old k

/-- |speed| in turns/s. -/
def State.absSpeed (s : State) (n : Nat) : Rat := mkRat (s.rdI Reg.ROW_SPD.SPD n).natAbs 4096

/-- The safe-state table entry (R135). -/
def State.ssEntry (s : State) (n e : Nat) : Nat :=
  match e % 4 with
  | 0 => s.rd Reg.STG_SS_TAB.E0 n (e / 4)
  | 1 => s.rd Reg.STG_SS_TAB.E1 n (e / 4)
  | 2 => s.rd Reg.STG_SS_TAB.E2 n (e / 4)
  | _ => s.rd Reg.STG_SS_TAB.E3 n (e / 4)

/-- The code that a table entry arms (R141). -/
def State.armCode (s : State) (n sb lb fc : Nat) : Nat :=
  let x := s.ssEntry n (sb * 16 + lb * 4 + fc)
  if bitAt x 2 then
    let short : Bool := match s.linkOf n with
      | some v => decide (v ≤ mkRat (s.rd Reg.STG_KE.KE n) 1000 * s.absSpeed n)
      | none => Config.autoOpen s.fresh
    if short then (if s.on Reg.STG_SS_CFG.ASC_HIGH n then 2 else 1) else 0
  else x % 4

/-- SB and LB of a stage. -/
def State.bands (s : State) (n : Nat) : Nat × Nat :=
  let kind := s.stgKind n
  let sb := if kind = 1 ∨ kind = 2 then
      bandOf (fun k => s.rd Reg.STG_SPD_TH.TH n k) (s.rd Reg.STG_HYST.SPD_HYST n) (s.absSpeed n) (s.rd Reg.STG_ARMED.SB n) 7
    else 0
  let lb := match s.linkOf n with
    | some v => bandOf (fun k => s.rd Reg.STG_VDC_TH.TH n k) (s.rd Reg.STG_HYST.VDC_HYST n) (v * 10) (s.rd Reg.STG_ARMED.LB n) 3
    | none => if s.linkLost n then 3 else s.rd Reg.STG_ARMED.LB n
  (sb, lb)

/-- Step 3 of a refresh: the armed codes of a stage that is not tripped. -/
def State.armStage (s : State) (n : Nat) : State :=
  let s := s.wr Reg.STG_ARMED.STALE n 0
  if s.stgTripped n then s
  else
    let (sb, lb) := s.bands n
    let ovnb := s.armCode n sb lb 2
    let ov := if s.effClass n 1 = 2 then ovnb else s.armCode n sb lb 1
    let s' := ((s.next.wr Reg.STG_ARMED.SB n sb).wr Reg.STG_ARMED.LB n lb).wr Reg.STG_ARMED.ARM_OC n (s.armCode n sb lb 0)
    ((s'.wr Reg.STG_ARMED.ARM_OV n ov).wr Reg.STG_ARMED.ARM_OVNB n ovnb).wr Reg.STG_ARMED.ARM_GEN n (s.armCode n sb lb 3)

/-- Rowan commands OV_NOBRAKE on a stage (R140), as a pulse. -/
def State.ovNoBrake (s : State) (n : Nat) : State :=
  if s.effClass n 1 = 2 ∧ s.stgEnabled n ∧ !s.stgTripped n ∧ s.rd Reg.STG_ARMED.LB n = 3 ∧ s.linkRising n then s.rowCmd n 2 else s

/-! ## Complex reports (R279) -/

/-- The holds that a complex state draws: every enabled stage that `p` selects. -/
def State.cpxHolds (s : State) (p : Nat → Bool) : State :=
  foldEach (fun n t => (t.takeHold n 3 clsGeneral).rowStatus Reg.ROW_STATUS.CPX_SS 1)
    (stagesWhere fun n => s.stgEnabled n && p n) s

/-- Rowan's response to the last report. -/
def State.cpxRespond (s : State) : State :=
  let g := s.rowg
  let s := if g.rep ≤ 3 then s.rowStatus Reg.ROW_STATUS.CPX_MODE g.rep else s
  let s := if g.dis ∨ s.on Reg.ROW_STATUS.CPX_LOST then s.cpxHolds (fun n => s.stgAttr n 0) else s
  let s := { s with rowg := { g with dis := decide (g.rep = 4) } }
  if g.rep = 3 then s.cpxHolds fun n => s.stgAttr n 3
  else if g.rep = 5 then s.cpxHolds fun n => s.stgAttr n 0 && !s.stgAttr n 2
  else s

/-- A report of the complex reaches Rowan over the control link. -/
def State.cpxReport (s : State) (rep : Nat) : State :=
  if s.links.control then s
  else { s with rowg := { s.rowg with rep := rep, dis := s.rowg.dis || rep == 4, repAt := s.now } }.rowStatus
    Reg.ROW_STATUS.CPX_LOST 0

/-! ## Active discharge (R280 to R284) -/

/-- Is a discharge of the stage running? -/
def State.discharging (s : State) (n : Nat) : Bool := s.rd Reg.ROW_DIS.DSTATE n != 0

/-- Start the leg method: SS_DISCH on the discharge leg stage (R281). -/
def State.legMethod (s : State) (n : Nat) : State :=
  (s.setRow n { s.row n with meth := 1, per := none, onCyc := 0 }).rowCmd (s.rd Reg.ROW_MECH.DIS_STG n) clsGeneral (some 3)

/-- May the windings method run: a valid θr and |speed| ≤ DIS_SPD (R282)? -/
def State.windReady (s : State) (n : Nat) : Bool :=
  (s.pos2Val n).isSome && decide (s.absSpeed n ≤ (s.rd Reg.ROW_DISW.DIS_SPD n : Rat))

/-- The windings method runs or waits. -/
def State.windStep (s : State) (n : Nat) : State :=
  let st := s.rd Reg.ROW_DIS.DSTATE n
  if s.windReady n then
    if (s.row n).meth = 2 then
      match s.curVec n with
      | some (a, b) =>
        let i := magR a b
        let want : Rat := mkRat (s.rdI Reg.ROW_DISW.DIS_ID n) 32768
        let k := (s.row n).idx
        s.setRow n { s.row n with idx := if i < want then min 1024 (k + 1) else if want < i then k - 1 else k }
      | none => s
    else
      let s := (s.setRow n { s.row n with meth := 2, idx := 0, per := none }).rowCmd n clsGeneral (some 3)
      s.onlyIf (decide (st = 1)) fun t => t.wr Reg.ROW_DIS.DSTATE n 2
  else
    let s := if (s.row n).meth = 2 then (s.disStop n).rowCmd n clsGeneral else s
    s.onlyIf (decide (st = 2)) fun t => t.wr Reg.ROW_DIS.DSTATE n 1

/-- A discharge starts (R280, R283). One that runs already is left as it is. -/
def State.disStart (s : State) (n : Nat) : State :=
  if s.discharging n then s
  else
    let mode := s.rd Reg.ROW_MECH.DISCH_MODE n
    let s := s.setRow n { s.row n with dAt := s.now, meth := 0, idx := 0, per := none, onCyc := 0 }
    let s := (((s.wr Reg.ROW_DIS.ELAPSED n 0).wr Reg.ROW_DIS.ABORT_OC n 0).wr Reg.ROW_DIS.UNVERIFIED n 0).takeHold n 5 clsGeneral
    if mode = 1 then (s.wr Reg.ROW_DIS.DSTATE n 2).legMethod n
    else if s.on Reg.ROW_STATUS.HVA_ONLY then s.wr Reg.ROW_DIS.DSTATE n 4
    else (s.wr Reg.ROW_DIS.DSTATE n 1).windStep n

/-- Is an OVERCUR source active on the stage (R284)? -/
def State.overcurActive (s : State) (n : Nat) : Bool :=
  s.routes.any fun r => (r.kind == 3 || r.kind == 4) && r.dst == 0xC00 + n && r.par % 4 == 0 && s.srcActive r.src

/-- The windings method stops for an overcurrent: SS_OFF on the stage; the leg method continues where a leg stage is named. -/
def State.abortOc (s : State) (n : Nat) : State :=
  let s := ((s.disStop n).flag Reg.ROW_DIS.ABORT_OC n).rowCmd n clsGeneral (some 0)
  if s.rd Reg.ROW_MECH.DIS_STG n < 8 then (s.onlyIf (s.rd Reg.ROW_DIS.DSTATE n == 1) (·.wr Reg.ROW_DIS.DSTATE n 2)).legMethod n
  else s.wr Reg.ROW_DIS.DSTATE n 4

/-- The method of a running discharge in one refresh. -/
def State.disMethod (s : State) (n : Nat) : State :=
  if s.rd Reg.ROW_MECH.DISCH_MODE n ≠ 2 ∨ s.on Reg.ROW_DIS.ABORT_OC n then s
  else if s.on Reg.ROW_STATUS.HVA_ONLY then
    (if s.rd Reg.ROW_DIS.DSTATE n = 4 then s
     else ((if (s.row n).meth = 2 then (s.disStop n).rowCmd n clsGeneral else s).wr Reg.ROW_DIS.DSTATE n 4))
  else if s.overcurActive n ∧ (s.row n).meth = 2 then s.abortOc n
  else s.windStep n

/-- Step 6 of a refresh (R283). -/
def State.disRefresh (s : State) (n : Nat) : State :=
  if !s.discharging n then s
  else
    let ms := (s.now - (s.row n).dAt) / 500000
    let s := s.wr Reg.ROW_DIS.ELAPSED n (min 65535 ms)
    let s := match s.linkOf n with
      | some v => s.wr Reg.ROW_DIS.VLINK n (min 255 (roundAny (v * mkRat 1 10)).toNat)
      | none => s
    let s := s.onlyIf (s.linkLost n) (·.flag Reg.ROW_DIS.UNVERIFIED n)
    let s := s.disMethod n
    let run (t : State) : Bool := t.rd Reg.ROW_DIS.DSTATE n == 1 || t.rd Reg.ROW_DIS.DSTATE n == 2
    let s := match s.linkOf n with
      | some v => s.onlyIf (run s && !s.on Reg.ROW_DIS.UNVERIFIED n && decide (v * 10 ≤ (s.rd Reg.ROW_DISV.DISCH_V n : Rat)))
          fun t => t.wr Reg.ROW_DIS.DSTATE n 3
      | none => s
    s.onlyIf (run s && decide (s.rd Reg.ROW_DISV.DISCH_T n ≤ ms)) fun t => t.wr Reg.ROW_DIS.DSTATE n 4

/-! ## Requests (R270, R271) -/

/-- Show the outcome of a request. -/
def State.reqResult (s : State) (k w0 res : Nat) : State :=
  let s := ((s.wr Reg.ROW_REQ.SEQ 0 (w0 / 65536)).wr Reg.ROW_REQ.RESULT 0 res).wr Reg.ROW_REQ.MBX 0 k
  ((s.wr Reg.ROW_REQ.STAGE 0 (bits w0 8 3)).wr Reg.ROW_REQ.CODE 0 (w0 % 256)).irqEv 47

/-- Carry out a request whose form is right: its result code and the new state. -/
def State.reqRun (s : State) (code n p1 p2 : Nat) : State × Nat :=
  match code with
  | 1 =>
    let mode := s.rd Reg.ROW_MECH.TQM_MODE n
    if sgn 32 p2 < sgn 32 p1 ∨ (mode ≠ 1 ∧ mode ≠ 2) then (s, 5)
    else (s.setRow n { s.row n with permit := some (sgn 32 p1, sgn 32 p2, s.now) }, 0)
  | 2 =>
    let mode := s.rd Reg.ROW_MECH.DISCH_MODE n
    if mode ≠ 1 ∧ mode ≠ 2 then (s, 5) else (s.disStart n, 0)
  | 3 => (s.takeHold n 4 (p1 % 4), 0)
  | _ => if (s.row n).causes = [] then (s, 5) else ((s.flag Reg.ROW_STG.REL_PEND n).tryRelease n, 0)

/-- Take the request that waits in MB60 + k out of its mailbox and decide it; none comes while the control link is lost (R23). -/
def State.request (s : State) (k : Nat) : State :=
  let mb := 60 + k
  if s.mbState mb ≠ 2 ∨ s.links.control then s
  else
    let ws := s.mbWords mb
    let w0 := s.mbWord mb 0
    let code := w0 % 256
    let n := bits w0 8 4
    let seq := w0 / 65536
    let s := s.mbEmpty mb
    if ws.length ≠ 8 then s.reqResult k w0 3
    else if crcWords (ws.take 7) ≠ ws.getD 7 0 then s.reqResult k w0 1
    else if ((s.rowg.seqs.getD k none).any fun q => seq != (q + 1) % 65536) then s.reqResult k w0 2
    else if code = 0 ∨ 4 < code ∨ 8 ≤ n ∨ s.stgKind n = 0 then s.reqResult k w0 4
    else
      let (t, res) := s.reqRun code n (ws.getD 1 0) (ws.getD 2 0)
      let t := if res = 0 then { t with rowg := { t.rowg with seqs := t.rowg.seqs.set k (some seq) } } else t
      t.reqResult k w0 res

/-- Rowan takes a request of one code out of its turn of the refresh. -/
def State.requestOf (s : State) (k code : Nat) : State :=
  if s.rowanLoops && s.mbState (60 + k) == 2 && s.mbWord (60 + k) 0 % 256 == code then s.request k else s

/-! ## The refresh (R266) -/

/-- Keep the link value of this refresh. -/
def State.keepLink (s : State) (n : Nat) : State :=
  s.setRow n { s.row n with links := (s.linkNow n :: (s.row n).links).take 5 }

/-- The parameters that Rowan takes from STG_SS_CFG at a refresh (R144). -/
def State.takeCfg (s : State) (n : Nat) : State :=
  s.setRow n { s.row n with
    chopStg := s.rd Reg.STG_SS_CFG.CHOP_STG n, ovnb := s.on Reg.STG_SS_CFG.OVNB_EN n, ascDt := s.rd Reg.STG_SS_CFG.ASC_DT n }

/-- Step 2 for one stage. -/
def State.stageChecks (s : State) (n : Nat) : State :=
  let kind := s.stgKind n
  if kind = 0 then s
  else
    let s := s.showLost n
    let s := if s.stgAttr n 0 then s.measure n else s
    let s := s.position n
    let s := s.onlyIf (decide (kind = 1 ∨ kind = 2)) (·.speed n)
    (s.monitor n).chopper n

/-- ROW_STATUS.LINK_FLT: the lost die links (R23). -/
def linkBits (l : Links) : Nat :=
  b2n l.edge + 2 * b2n l.ret + 4 * b2n l.sample + 8 * b2n l.control + 16 * b2n l.clockForward + 32 * b2n l.isol0 + 64 * b2n l.isol1

/-- One refresh of Rowan, in the order of R266. -/
def State.refresh (s : State) : State :=
  let each (f : Nat → State → State) (t : State) : State := foldEach f (List.range 8) t
  let s := s.srcRefresh
  let s := each (fun n t => (t.takeCfg n).keepLink n) s
  let s := (each (fun n t => t.stageChecks n) s).showChop
  let s := each (fun n t => t.armStage n) s
  let s := (each (fun n t => t.carryOut n) s).cpxRespond
  let s := each (fun n t => (t.ovNoBrake n).tryRelease n) s
  let s := foldEach (fun k t => t.request k) (List.range 4) s
  let s := each (fun n t => t.disRefresh n) s
  ({ s with rowanAt := some s.now }.rowStatus Reg.ROW_STATUS.LINK_FLT (linkBits s.links)).rowStatus Reg.ROW_STATUS.READY 1 |>.showPwm

/-- R266, R267: Rowan runs a refresh, once an image has been applied. -/
def execRowanRefresh (s : State) : Host.Outcome State Fault Refusal := .next (if s.rowanLoops then s.refresh else s)

/-- R271: Rowan takes a TQ_PERM request out of MB60 + k. -/
def execTqPerm (k : Fin 4) (s : State) : Host.Outcome State Fault Refusal := .next (s.requestOf k.val 1)

/-- R271, R280: Rowan takes a DISCH request. -/
def execDisch (k : Fin 4) (s : State) : Host.Outcome State Fault Refusal := .next (s.requestOf k.val 2)

/-- R271: Rowan takes a SAFE_STATE request. -/
def execSafeState (k : Fin 4) (s : State) : Host.Outcome State Fault Refusal := .next (s.requestOf k.val 3)

/-- R271, R269: Rowan takes a RELEASE request. -/
def execRelease (k : Fin 4) (s : State) : Host.Outcome State Fault Refusal := .next (s.requestOf k.val 4)

/-- R265: a Rowan fault: every line asserted with class GENERAL and held, Rowan stops, a running discharge stops (R284). -/
def execRowanFault (s : State) : Host.Outcome State Fault Refusal :=
  .next (
    if s.rowanRuns then
      let s := foldEach (fun n t => if (t.row n).meth = 0 then t else t.disStop n) (List.range 8) s
      let s := s.rowStatus Reg.ROW_STATUS.ROW_FAULT 1
      foldEach (fun n t => if t.linesOf n = [] then t else t.takeHold n 6 clsGeneral |>.rowCmd n clsGeneral) (List.range 8) s.showLines
    else s)

/-- R280: VLV has stayed below its operating range for 1 ms (500,000 ticks). -/
def execLvLost (s : State) : Host.Outcome State Fault Refusal :=
  .next (
    if s.rowanRuns && !s.on Reg.PWR_STATUS.VLV_OK && decide (s.pwr.vlvAt + 500000 ≤ s.now) && !s.on Reg.ROW_STATUS.LV_LOST then
      let s := s.rowStatus Reg.ROW_STATUS.LV_LOST 1
      foldEach (fun n t =>
        let mode := t.rd Reg.ROW_MECH.DISCH_MODE n
        if t.on Reg.ROW_MECH.AUTO_DISCH n ∧ (mode = 1 ∨ mode = 2) ∧ t.on Reg.PWR_STATUS.HVA_OK then t.disStart n else t) (List.range 8) s
    else s)

/-- R279: no report of the complex for 10 µs (5,000 ticks) while a stage with SAFE = 1 is enabled. -/
def execCpxLost (s : State) : Host.Outcome State Fault Refusal :=
  .next (
    if s.rowanRuns && decide (s.rowg.repAt + 5000 ≤ s.now) && s.safeEnabled then
      (s.rowStatus Reg.ROW_STATUS.CPX_LOST 1).cpxHolds fun n => s.stgAttr n 0
    else s)

/-! ## Discharge modulation (R281, R282) -/

/-- The on-time of the discharge leg in Rowan clock cycles of a 10,000-cycle period; below 1 µs it is not given. -/
def State.disOn (s : State) (n : Nat) : Nat :=
  let k := match s.linkOf n with
    | some v =>
      let p : Rat := mkRat (s.rd Reg.ROW_DISL.DIS_PMAX n * s.rd Reg.ROW_DISL.DIS_RES n) 10
      if v * v ≤ p then 10000 else (roundAny (p / (v * v) * 10000)).toNat
    | none => min 10000 (Config.disOnOpen s.fresh)
  if k < 200 then 0 else k

/-- Dead time of a leg in Rowan clock cycles: the larger of DT_FLOOR and 1,000 ns, rounded up to 5 ns. -/
def State.disDead (s : State) (l : Nat) : Nat := (max (s.rd Reg.LEG_FLOOR.DT_FLOOR l) 64000 + 319) / 320

/-- The leg method at half-cycle position `p2` (2.5 ns) of the period. -/
def State.disEdge (s : State) (n per p2 : Nat) : State :=
  let d := s.rd Reg.ROW_MECH.DIS_STG n
  let s := if (s.row n).per = some per then s else s.next.setRow n { s.row n with per := some per, onCyc := s.disOn n }
  let on : Bool := decide (p2 < 2 * (s.row n).onCyc)
  foldEach (fun l t => t.setPad l { t.pad l with ovH := on, ovL := false }) (s.stgLegs d) s

/-- One leg of the windings method: GH on from its rising edge plus the dead time to its falling edge, GL the other way round. -/
def State.windLeg (s : State) (n th k l cyc : Nat) : State :=
  let (up, down) := Config.rowanSvm (s.row n).idx th k
  let dt := s.disDead l
  let past (a : Nat) : Nat := (cyc + 10000 - a % 10000) % 10000
  let len := (down + 10000 - up % 10000) % 10000
  let hi : Bool := decide (past up < len) && decide (dt ≤ past up)
  let lo : Bool := decide (len ≤ past up) && decide (dt ≤ past down)
  s.setPad l { s.pad l with ovH := hi, ovL := lo }

/-- R281, R282: an edge of Rowan's 20 kHz discharge modulation of a stage: its latch-driven outputs take the levels of the present
position in the 50 µs period (25,000 ticks, 10,000 Rowan clock cycles). The vector lies on the negative d axis. -/
def execDischargePwmEdge (stage : Fin 8) (s : State) : Host.Outcome State Fault Refusal :=
  .next (
    let n := stage.val
    let d := s.now - (s.row n).dAt
    let pos := d % 25000
    if !s.rowanRuns then s
    else if (s.row n).meth = 1 ∧ s.rd Reg.ROW_MECH.DIS_STG n < 8 ∧ s.rd Reg.STG_TRIP.SS (s.rd Reg.ROW_MECH.DIS_STG n) = 3 then
      s.disEdge n (d / 25000) (pos * 4 / 5)
    else if (s.row n).meth = 2 ∧ s.rd Reg.STG_TRIP.SS n = 3 then
      match s.pos2Val n with
      | some (th, _) => foldEach (fun e t => t.windLeg n ((th + 2 ^ 47) % 2 ^ 48) e.2 e.1 (pos * 2 / 5)) ((s.stgLegs n).zipIdx) s
      | none => s
    else s)

end Sys2Proof.Machine
end

