-- ==== Sys2Proof/Machine/Complex.lean ====
section
/-! DEFINITION. The processor complex of spec/12_processor_complex.md: modes, sync points, retirement, split and join, interrupts.
What the voter does with committed items is in Voter.lean. -/

namespace Sys2Proof.Machine

/-! ## Modes (R291) -/

def cpxVoted : Nat := 0
def cpxPromoting : Nat := 1
def cpxPair : Nat := 2
def cpxTest : Nat := 3
def cpxSingle : Nat := 4
def cpxSplit : Nat := 5
def cpxJoining : Nat := 6
def cpxHalted : Nat := 7

def State.mode (s : State) : Nat := s.rd Reg.CPX_STATUS.MODE
def State.act (s : State) : Nat := s.rd Reg.CPX_STATUS.ACT
def State.setCpx (s : State) (c : CpxS) : State := { s with cpx := c }

/-- The cores of a mask, in rising order. -/
def coresOf (m : Nat) : List Nat := bitList 3 m

/-- The report of the present mode (R291, R305): 0 voted, 1 pair, 2 pair self-test, 3 unchecked, 4 three-way disagreement, 5 split;
none in HALTED. -/
def State.cpxReportOf (s : State) : Option Nat :=
  if s.mode = cpxHalted then none
  else if s.on Reg.CPX_STATUS.UNCHK then some 3
  else if s.on Reg.CPX_CTRL.SPLIT then some 5
  else if s.mode = cpxVoted ∨ s.mode = cpxPromoting then some 0
  else if s.mode = cpxPair then some 1
  else if s.mode = cpxTest then some (if s.cpx.dis then 4 else 2)
  else if s.mode = cpxSingle then some 3
  else some 5

/-- The checker sends its report. -/
def State.sendReport (s : State) : State :=
  match s.cpxReportOf with
  | some r => s.cpxReport r
  | none => s

/-- A change of mode, with the cores that run in it; it is reported (R305). -/
def State.toMode (s : State) (mode act : Nat) : State :=
  ((s.wr Reg.CPX_STATUS.MODE 0 mode).wr Reg.CPX_STATUS.ACT 0 act).sendReport

/-- The complex stops. -/
def State.cpxHalt (s : State) (rsn : Nat) : State := (s.wr Reg.CPX_STATUS.HALT_RSN 0 rsn).toMode cpxHalted 0

/-- Alder records an event of the complex (R434). -/
def State.cpxLog (s : State) (core : Nat) : State :=
  s.logEv 0x0007 core (leBytes 4 (s.regWord Reg.CPX_EVT.OUTVOTE 0) ++ leBytes 4 (s.regWord Reg.CPX_LAST.KIND 0) ++ leBytes 4 (s.rd Reg.CPX_LAST_PC.PC))

/-! ## Map, counts, retirement (R290, R298) -/

def outvReg (c : Nat) : FD := match c with | 0 => Reg.CPX_OUTV.ASH | 1 => Reg.CPX_OUTV.ELM | _ => Reg.CPX_OUTV.OAK
def phyReg (c : Nat) : FD := match c with | 0 => Reg.CPX_MAP.ASH_PHY | 1 => Reg.CPX_MAP.ELM_PHY | _ => Reg.CPX_MAP.OAK_PHY

/-- A core is outvoted or diverges latently: its counts advance (R298). -/
def State.countOut (s : State) (c : Nat) : State :=
  let p := s.cpx
  (s.setCpx { p with
    cnt := p.cnt.set c (p.cnt.getD c 0 + 1)
    first := if p.first.getD c none = none then p.first.set c (some s.now) else p.first }).bump (outvReg c) 0

/-- The count of a core returns to 0. -/
def State.clearCount (s : State) (c : Nat) : State :=
  s.setCpx { s.cpx with cnt := s.cpx.cnt.set c 0, first := s.cpx.first.set c none }

/-- A physical core is retired: it is marked, and awaits its entry in the wear record. -/
def State.retirePhys (s : State) (p : Nat) : State :=
  let t := (s.wr Reg.CPX_MAP.RETIRED 0 (withBit (s.rd Reg.CPX_MAP.RETIRED) p)).flag Reg.CPX_EVT.RETIRE 0
  { t with retireq := t.retireq ++ [0x1000 + 189 + p] }

/-- The physical core of a logical position is retired, which is reported as an event (R305). -/
def State.retireCore (s : State) (c : Nat) : State := (s.retirePhys (s.rd (phyReg c))).cpxLog c

/-- Is Yew there to be promoted? -/
def State.yewFree (s : State) : Bool := !s.on Reg.CPX_MAP.YEW_USED && !bitAt (s.rd Reg.CPX_MAP.RETIRED) 3

/-- Promotion of Yew to a position begins (R299): the cores of `act` run compared. -/
def State.promote (s : State) (c act : Nat) : State :=
  (s.setCpx { s.cpx with promo := c, filled := false, yewBad := false }).toMode cpxPromoting act

/-! ## Self-test (R301, R302) -/

/-- The complex enters PAIR_TEST with the cores that voted. -/
def State.enterTest (s : State) (dis load : Bool) : State :=
  (s.setCpx { s.cpx with test := s.act, dis := dis, load := load, excl := 0, rst := 0, filled := false }).toMode cpxTest 0

/-- CPX_LAST and CPX_LAST_PC of a mismatch; core 3 is none. -/
def State.lastMismatch (s : State) (kind core item pc : Nat) : State :=
  (((s.wr Reg.CPX_LAST.KIND 0 kind).wr Reg.CPX_LAST.CORE 0 core).wr Reg.CPX_LAST.ITEM 0 item).wr Reg.CPX_LAST_PC.PC 0 pc

/-- A three-way disagreement (R302). -/
def State.disagree (s : State) (load : Bool) : State := ((s.flag Reg.CPX_EVT.DISAGREE 0).cpxLog 3).enterTest true load

/-- A mismatch in PAIR (R301). -/
def State.pairMismatch (s : State) (load : Bool) : State := ((s.flag Reg.CPX_EVT.PAIR_MM 0).cpxLog 3).enterTest false load

/-- A running core is outvoted: it is excluded until its resynchronisation (R294). -/
def State.outvote (s : State) (c : Nat) : State :=
  let s := (s.setCpx { s.cpx with excl := withBit s.cpx.excl c }).wr Reg.CPX_STATUS.ACT 0 (withoutBit s.act c)
  ((s.flag Reg.CPX_EVT.OUTVOTE 0).countOut c).cpxLog c

/-! ## Checker faults (R304) -/

/-- Comparison moves to the spare checker; with none left the complex goes on unchecked in SINGLE. -/
def State.moveChecker (s : State) : State :=
  if !s.on Reg.CPX_CHK.ACTIVE ∧ s.on Reg.CPX_CHK.SPARE_OK then
    let t := ((s.wr Reg.CPX_CHK.MAIN_OK 0 0).flag Reg.CPX_CHK.ACTIVE 0).flag Reg.CPX_STATUS.SPARE_CHK 0
    { t with retireq := t.retireq ++ [0x1000 + 193] }
  else
    let t := (s.wr Reg.CPX_CHK.MAIN_OK 0 0).wr Reg.CPX_CHK.SPARE_OK 0 0
    let t := { t with retireq := t.retireq ++ [if s.on Reg.CPX_CHK.ACTIVE then 0x1000 + 194 else 0x1000 + 193] }.flag Reg.CPX_STATUS.UNCHK 0
    match (coresOf t.act).head? with
    | some c => (t.setCpx { t.cpx with excl := 0, rst := 0 }).toMode cpxSingle (2 ^ c)
    | none => t.sendReport

/-- A checker fault; during PAIR_TEST the spare waits for its end (R311). -/
def State.checkerFault (s : State) : State :=
  let s := (s.flag Reg.CPX_EVT.CHK_FAULT 0).cpxLog 0
  if s.mode = cpxTest then s.setCpx { s.cpx with chkWait := true } else s.moveChecker

/-- The expiry after now of a timer with a period, from an expiry that has passed. -/
def nextDue (due per now : Nat) : Nat := now + per - (now - due) % per

/-- R304: every 1 ms the checker injects a mismatch on each rail: 0 passes, 1 the rails disagree, 2 the mismatch is not detected, 3 a parity
error in the delay registers. The rails disagree and parity fails at any time, the test has its time. -/
def execCheckerTest (r : Fin 4) (s : State) : Host.Outcome State Fault Refusal :=
  .next (
    let due : Bool := decide (s.cpx.testAt ≤ s.now)
    let t := s.setCpx { s.cpx with testAt := nextDue s.cpx.testAt 500000 s.now }
    if !s.present islCPX then s
    else match r.val with
      | 0 => if due then t.bump Reg.CPX_CHK.TEST_CNT 0 else s
      | 1 => s.checkerFault
      | 2 => if due then t.checkerFault else s
      | _ => (s.flag Reg.CPX_CHK.DLY_PAR 0).checkerFault)

/-- R305: every 2 µs the checker sends its report to Rowan. -/
def execCpxReportSend (s : State) : Host.Outcome State Fault Refusal :=
  .next (if s.present islCPX && decide (s.cpx.repAt ≤ s.now) then
      (s.setCpx { s.cpx with repAt := nextDue s.cpx.repAt 1000 s.now }).sendReport
    else s)

/-! ## Sync points (R296 to R303, R306 to R309) -/

/-- Dirty lines of every core are dropped with the caches. -/
def State.cachesInvalid (s : State) : State := { s with dcache := [] }

/-- Resynchronisation of a core (R297): its bad TCM words take the copy of a running core. -/
def State.resync (s : State) (c : Nat) : State :=
  let src := (coresOf s.act).headD c
  let bad := s.eccBad.filter fun k => tcmEcc c 0 ≤ k && k < tcmEcc c 0 + 0x40000
  let s := foldEach (fun k t => foldEach (fun i u => u.setTcmByte c (k - tcmEcc c 0 + i) (u.tcmByte src (k - tcmEcc c 0 + i))) (List.range 4) t) bad s
  let s := { s with eccBad := s.eccBad.filter fun k => !bad.contains k }
  ((s.setCpx { s.cpx with excl := withoutBit s.cpx.excl c, rst := withoutBit s.cpx.rst c }).wr Reg.CPX_STATUS.ACT 0 (withBit s.act c)).flag
    Reg.CPX_EVT.RESYNC 0 |>.wr Reg.CPX_CTRL.CRST 0 (withoutBit (s.rd Reg.CPX_CTRL.CRST) c)

/-- Retirement in place of a resynchronisation (R298). -/
def State.retireAtSync (s : State) (c : Nat) : State :=
  let s := (s.retireCore c).setCpx { s.cpx with excl := withoutBit s.cpx.excl c, rst := withoutBit s.cpx.rst c }
  if s.yewFree then s.promote c s.act else s.toMode cpxPair s.act

/-- Steps 1 and 2: the outvoted cores rejoin or are retired. -/
def State.rejoinCores (s : State) : State :=
  foldEach (fun c t =>
    if !bitAt t.cpx.excl c ∨ bitAt t.cpx.rst c ∨ t.mode ≠ cpxVoted then t
    else if t.cpx.kRet ≤ t.cpx.cnt.getD c 0 then t.retireAtSync c
    else t.resync c) [0, 1, 2] s

/-- Step 4: the cores that a C reset excluded rejoin (R309). -/
def State.rejoinReset (s : State) : State :=
  foldEach (fun c t => if bitAt t.cpx.rst c ∧ t.mode ≤ cpxPair then t.resync c else t) [0, 1, 2] s

/-- Yew takes the position it was filled for (R299); if its TCM failed during the fill, it is retired and the complex enters PAIR (R311). -/
def State.promoteDone (s : State) : State :=
  let c := s.cpx.promo
  if s.mode ≠ cpxPromoting then s
  else if s.cpx.yewBad then ((s.retirePhys 3).cpxLog 3).toMode cpxPair s.act
  else if !s.cpx.filled then s
  else
    let s := (s.tcmCopy ((coresOf s.act).headD 0) c).clearCount c
    let s := (((s.wr (phyReg c) 0 3).flag Reg.CPX_MAP.YEW_USED 0).wr (outvReg c) 0 0).flag Reg.CPX_EVT.PROMOTE 0
    (s.cpxLog c).toMode cpxVoted 7

/-- The split hand-over (R306): a core that a C reset excluded meanwhile starts with the others. -/
def State.splitNow (s : State) : State :=
  if s.mode = cpxVoted ∧ s.on Reg.CPX_CTRL.SPLIT then
    let s := (s.setCpx { s.cpx with excl := 0, rst := 0 }).wr Reg.CPX_CTRL.CRST 0 0
    (((s.cachesInvalid.wr Reg.CPX_CTRL.SPLIT 0 0).advanceEpoch 1).advanceEpoch 2).toMode cpxSplit 7
  else s

/-- The join hand-overs (R307). -/
def State.joinNow (s : State) : State :=
  if s.mode = cpxSplit ∧ s.on Reg.CPX_CTRL.JOIN then (s.setCpx { s.cpx with filled := false }).toMode cpxJoining 1
  else if s.mode = cpxJoining ∧ s.cpx.filled then
    let s := ((s.dFlush 0 0 (2 ^ 32)).tcmCopy 0 1).tcmCopy 0 2
    ((s.cachesInvalid.wr Reg.CPX_STATUS.JRDY 0 0).wr Reg.CPX_CTRL.JOIN 0 0).toMode cpxVoted 7
  else s

/-- Step 5: CPX_CFG is latched field by field; a value outside its range is not taken. -/
def State.latchCfg (s : State) : State :=
  let y := s.rd Reg.CPX_CFG.SYNC_US
  let k := s.rd Reg.CPX_CFG.RETIRE_K
  let r := s.rd Reg.CPX_CFG.RETIRE_MS
  let t := s.setCpx { s.cpx with
    sync := if 1 ≤ y ∧ y ≤ 8 then y else s.cpx.sync
    kRet := if 1 ≤ k then k else s.cpx.kRet
    msRet := if 1 ≤ r then r else s.cpx.msRet
    wb := s.on Reg.CPX_CFG.WB }
  t.onlyIf (decide (y = 0 ∨ 8 < y ∨ k = 0 ∨ r = 0)) (·.flag Reg.CPX_EVT.CFG_ERR 0)

/-- A latent divergence of one core (R303). -/
def State.latent (s : State) (c : Nat) : State :=
  let s := (s.setCpx { s.cpx with excl := withBit s.cpx.excl c }).wr Reg.CPX_STATUS.ACT 0 (withoutBit s.act c)
  (((s.flag Reg.CPX_EVT.LATENT 0).countOut c).lastMismatch 5 c 0 s.cpx.pc).cpxLog c

/-- The signatures of the running cores differ: what R303 makes of it. -/
def State.signatures (s : State) (sig : Nat → Nat) : State :=
  let cs := coresOf s.act
  let same (a b : Nat) : Bool := sig a == sig b
  match cs with
  | [a, b, c] =>
    if same a b && same b c then s
    else if same a b then s.latent c
    else if same a c then s.latent b
    else if same b c then s.latent a
    else (s.lastMismatch 5 3 0 s.cpx.pc).disagree false
  | [a, b] =>
    if same a b then s
    else
      let s := s.lastMismatch 5 3 0 s.cpx.pc
      if s.mode = cpxPair then s.pairMismatch false else s.disagree false
  | _ => s

/-- What a sync point applies after the signatures, in R296's order. -/
def State.syncSteps (s : State) : State := (s.promoteDone.rejoinCores.splitNow.joinNow.rejoinReset).latchCfg

/-- The sync timer runs on to its next expiry. -/
def State.syncRearm (s : State) : State :=
  s.setCpx { s.cpx with syncAt := nextDue s.cpx.syncAt (500 * s.cpx.sync) s.now }

/-- R296: a sync point, with the signatures of Ash, Elm and Oak: at an instruction boundary, the first after an expiry of the sync timer. -/
def execSyncPoint (sa se so : BitVec 32) (s : State) : Host.Outcome State Fault Refusal :=
  .next (
    if !s.present islCPX || s.mode == cpxTest || s.mode == cpxHalted || decide (s.now < s.cpx.syncAt) then s
    else
      let t := s.syncRearm
      let t := if t.mode ≤ cpxPair then t.signatures fun c => (match c with | 0 => sa | 1 => se | _ => so).toNat else t
      if t.mode = cpxTest then t else t.syncSteps)

/-- R298: RETIRE_MS has passed since the first outvote that a count holds. -/
def execOutvoteWindowExpiry (core : Fin 3) (s : State) : Host.Outcome State Fault Refusal :=
  .next (match s.cpx.first.getD core.val none with
    | some t => if t + s.cpx.msRet * 500000 ≤ s.now then s.clearCount core.val else s
    | none => s)

/-- R299: the fill of Yew's TCM ends. -/
def execYewFillDone (s : State) : Host.Outcome State Fault Refusal :=
  .next (if s.present islCPX && s.mode == cpxPromoting then s.setCpx { s.cpx with filled := true } else s)

/-- R307: the fill of the TCMs of Elm and Oak ends. -/
def execJoinFillDone (s : State) : Host.Outcome State Fault Refusal :=
  .next (if s.present islCPX && s.mode == cpxJoining then s.setCpx { s.cpx with filled := true } else s)

/-- The end of a self-test: the cores that resume. -/
def State.resumeWith (s : State) (pass : List Nat) (yewPass : Bool) : State :=
  let act := pass.foldl withBit 0
  match pass.length with
  | 0 => s.cpxHalt 1
  | 1 => s.toMode cpxSingle act
  | 2 => if s.cpx.dis && yewPass then s.promote (([0, 1, 2].find? fun c => !pass.contains c).getD 0) act else s.toMode cpxPair act
  | _ => s.toMode cpxVoted act

/-- R301, R302: the self-test ends; bits 0 to 2 of `pass` for the logical cores, bit 3 for Yew. -/
def State.testDone (s : State) (pass : Nat) : State :=
  let tested := coresOf s.cpx.test
  let good := tested.filter (bitAt pass)
  let yewTested : Bool := s.cpx.dis && s.yewFree
  let s := foldEach (fun c t => if bitAt pass c then t else t.retireCore c) tested s
  let s := if yewTested && !bitAt pass 3 then (s.retirePhys 3).cpxLog 3 else s
  let none' : Bool := good.length == tested.length && (!yewTested || bitAt pass 3)
  let recent := s.cpx.trans.filter fun t => s.now - t < 500000000
  let s := if !s.cpx.dis && none' then s.setCpx { s.cpx with trans := recent ++ [s.now] } else s
  if !s.cpx.dis && none' && 3 ≤ recent.length then s.cpxHalt 2
  else
    let s := if none' && (!s.cpx.dis || good.length == 3) then s.flag Reg.CPX_EVT.TRANSIENT 0 else s
    let s := if s.cpx.load && good != [] then s.flag Reg.CPX_EVT.RELOAD 0 else s
    s.resumeWith good (yewTested && bitAt pass 3)

/-- R301: the self-test of PAIR_TEST ends. A pause and a checker fault that waited take effect. -/
def execPairTestDone (pass : BitVec 4) (s : State) : Host.Outcome State Fault Refusal :=
  .next (
    if s.present islCPX && s.mode == cpxTest then
      let t := s.testDone pass.toNat
      let t := t.setCpx { t.cpx with test := 0, dis := false, load := false }
      let t := t.onlyIf (t.on Reg.CPX_CTRL.PAUSE) (·.flag Reg.CPX_STATUS.PAUSED 0)
      if t.cpx.chkWait then (t.setCpx { t.cpx with chkWait := false }).moveChecker else t
    else s)

/-! ## Split, join, resets, pause (R306 to R310) -/

/-- May the complex split (R306)? -/
def State.splitOk (s : State) : Bool :=
  s.mode == cpxVoted && s.cpx.excl == 0 && (List.range 8).all fun n => !(s.stgEnabled n && s.stgAttr n 0 && !s.stgAttr n 2)

/-- A write of SPLIT = 1. -/
def State.splitWrite (s : State) : State :=
  if s.splitOk then (s.flag Reg.CPX_CTRL.SPLIT 0).sendReport else s.flag Reg.CPX_EVT.SPLIT_DENIED 0

/-- R306: a write of SPLIT = 1. -/
def execCpxSplit (m : Master) (s : State) : Host.Outcome State Fault Refusal := .next (s.winWrite m (Reg.CPX_CTRL.SPLIT.addr 0 0) (·.splitWrite))

/-- The logical core of a master. -/
def coreOf : Master → Option Nat
  | .ash => some 0
  | .elm => some 1
  | .oak => some 2
  | _ => none

/-- A write of JOIN_RDY: in SPLIT the writing core flushes its dirty lines and its bit sets. -/
def State.joinRdyWrite (s : State) (m : Master) : State :=
  match coreOf m with
  | some c =>
    if s.mode = cpxSplit then (s.dFlush c 0 (2 ^ 32)).wr Reg.CPX_STATUS.JRDY 0 (withBit (s.rd Reg.CPX_STATUS.JRDY) c) else s
  | none => s

/-- R307: a write of JOIN_RDY = 1. -/
def execJoinRdy (m : Master) (s : State) : Host.Outcome State Fault Refusal := .next (s.winWrite m (Reg.CPX_CTRL.JOIN_RDY.addr 0 0) (·.joinRdyWrite m))

/-- A write of JOIN = 1: only in SPLIT, only from Ash, only with the bits of Elm and Oak set, and all three positions running (R308). -/
def State.joinWrite (s : State) (m : Master) : State :=
  let j := s.rd Reg.CPX_STATUS.JRDY
  if s.mode = cpxSplit ∧ m = .ash ∧ bitAt j 1 ∧ bitAt j 2 ∧ s.act = 7 then s.flag Reg.CPX_CTRL.JOIN 0 else s.flag Reg.CPX_EVT.JOIN_DENIED 0

/-- R307: a write of JOIN = 1. -/
def execCpxJoin (m : Master) (s : State) : Host.Outcome State Fault Refusal := .next (s.winWrite m (Reg.CPX_CTRL.JOIN.addr 0 0) (·.joinWrite m))

/-- A C reset of a core in SPLIT: it restarts at its CPX_VEC with its CSRs at their reset values, after its dirty lines are written back
(R309, R312). The checkpoint is that of the lowest running core. -/
def State.splitReset (s : State) (c : Nat) : State :=
  let t := (s.dFlush c 0 (2 ^ 32)).advanceEpoch c
  t.onlyIf ((coresOf t.act).head? == some c) (·.setCpx { t.cpx with pc := 4 * t.rd Reg.CPX_VEC.VEC c, csrs := [] })

/-- A write of a CRST bit (R309). A core that names another core in SPLIT is disregarded (R316). -/
def State.crstWrite (s : State) (m : Master) (c : Nat) : State :=
  if s.mode = cpxVoted then
    ((s.setCpx { s.cpx with
      excl := withBit s.cpx.excl c
      rst := if bitAt s.cpx.excl c then s.cpx.rst else withBit s.cpx.rst c }).wr Reg.CPX_STATUS.ACT 0 (withoutBit s.act c)).wr
        Reg.CPX_CTRL.CRST 0 (withBit (s.rd Reg.CPX_CTRL.CRST) c)
  else if s.mode = cpxSplit then
    (match coreOf m with
     | some k => if k = c then s.splitReset c else s
     | none => s.splitReset c)
  else s.flag Reg.CPX_EVT.CRST_DENIED 0

/-- R309: a write of a CRST bit. -/
def execCrst (m : Master) (core : Fin 3) (s : State) : Host.Outcome State Fault Refusal :=
  .next (s.winWrite m (Reg.CPX_CTRL.CRST.addr 0 0) (·.crstWrite m core.val))

/-- A write of PAUSE (R310). -/
def State.pauseWrite (s : State) (m : Master) (on : Bool) : State :=
  if (coreOf m).isSome then s.flag Reg.CPX_EVT.PAUSE_DENIED 0
  else
    let s := s.wr Reg.CPX_CTRL.PAUSE 0 (b2n on)
    if !on then s.wr Reg.CPX_STATUS.PAUSED 0 0 else if s.mode = cpxTest then s else s.flag Reg.CPX_STATUS.PAUSED 0

/-- R310: a write of PAUSE = 1. -/
def execCpxPause (m : Master) (s : State) : Host.Outcome State Fault Refusal := .next (s.winWrite m (Reg.CPX_CTRL.PAUSE.addr 0 0) (·.pauseWrite m true))

/-- R310: a write of PAUSE = 0. -/
def execCpxResume (m : Master) (s : State) : Host.Outcome State Fault Refusal := .next (s.winWrite m (Reg.CPX_CTRL.PAUSE.addr 0 0) (·.pauseWrite m false))

/-- A write of CPX_INJ with GO = 1: accepted under the open image lock in VOTED and PAIR. -/
def State.injWrite (s : State) (core bit : Nat) : State :=
  let s := (s.wr Reg.CPX_INJ.CORE 0 core).wr Reg.CPX_INJ.BIT 0 bit
  if s.on Reg.IMG_STATUS.LOCK_OPEN ∧ (s.mode = cpxVoted ∨ s.mode = cpxPair) then s.flag Reg.CPX_INJ.GO 0
  else s.flag Reg.CPX_EVT.INJ_DENIED 0

/-- R304: a write of CPX_INJ with GO = 1. -/
def execCpxInjGo (m : Master) (core : Fin 4) (bit : Fin 32) (s : State) : Host.Outcome State Fault Refusal :=
  .next (s.winWrite m (Reg.CPX_INJ.GO.addr 0 0) (·.injWrite core.val bit.val))

/-! ## Data-cache CSRs (R312): issued by a running core -/

/-- The core whose CSR write this is runs. -/
def State.coreRuns (s : State) (c : Nat) : Bool := s.present islCPX && bitAt s.act c && !s.on Reg.CPX_STATUS.PAUSED

/-- R312: a write of DCINV: the line that holds the address is invalidated. -/
def execDcinv (core : Fin 3) (addr : BitVec 32) (s : State) : Host.Outcome State Fault Refusal :=
  .next (if s.coreRuns core.val then s.dDrop core.val (addr.toNat / 32 * 32) 32 else s)

/-- R312: a write of DCFLUSH: the line is written back if dirty, then invalidated. -/
def execDcflush (core : Fin 3) (addr : BitVec 32) (s : State) : Host.Outcome State Fault Refusal :=
  .next (if s.coreRuns core.val then s.dFlush core.val (addr.toNat / 32 * 32) 32 else s)

/-- R312: a write of DCALL: 1 invalidates every line, 2 writes every line back and then invalidates it. -/
def execDcall (core : Fin 3) (v : BitVec 32) (s : State) : Host.Outcome State Fault Refusal :=
  .next (
    if !s.coreRuns core.val then s
    else if v = 1 then s.dDrop core.val 0 (2 ^ 32)
    else if v = 2 then s.dFlush core.val 0 (2 ^ 32)
    else s)

/-! ## Timer and interrupts (R313 to R315) -/

/-- MTIP of a core follows its compare. -/
def State.showMtip (s : State) (c : Nat) : State :=
  let p : Bool := s.rd Reg.CPX_MTIMECMP.CMP c ≤ s.chainTime
  s.setCpx { s.cpx with mtip := if p then withBit s.cpx.mtip c else withoutBit s.cpx.mtip c }

/-- R313: chain time reaches CPX_MTIMECMP of a core. -/
def execMtimeCompare (core : Fin 3) (s : State) : Host.Outcome State Fault Refusal :=
  .next (if s.present islCPX then s.showMtip core.val else s)

/-- The enabled flags of a CAN controller (R376): (EVT AND IE) ≠ 0. -/
def State.canIrq (s : State) (n : Nat) : Bool := s.regWord Reg.CAN_EVT.TXF n &&& s.rd Reg.CAN_IE.IE n != 0

/-- Is a level source active (R314)? -/
def State.levelActive (s : State) (src e : Nat) : Bool :=
  if src < 8 then s.stgTripped src
  else if 16 ≤ src ∧ src < 24 then s.w1cOn Reg.LU_STAT.CODE_DENIED (src - 16) || (List.range 4).any fun p => s.w1cOn Reg.LP_STAT.SAT (src - 16) p
  else if 24 ≤ src ∧ src < 28 then
    let j := src - 24
    s.w1cOn Reg.SEQ_STATUS.DONE j || ((List.range 4).any fun k => s.w1cOn Reg.IL_FLAGS.DONE (4 * j + k))
      || (List.range 8).any fun k => s.w1cOn Reg.ADC_STATUS.CLIP (8 * j + k)
  else if src = 28 then (List.range 8).any fun c => s.w1cOn Reg.ISO_STATUS.OVR c
  else if 29 ≤ src ∧ src < 37 then s.w1cOn Reg.FC_STAT.CFG_ERR (src - 29)
  else if src = 37 then
    ((List.range 4).any fun n => s.w1cOn Reg.POS_STAT.FAULT n || s.w1cOn Reg.EMU_STAT.OVF n)
      || (List.range 2).any fun r => s.w1cOn Reg.RS_STAT.FAULT r
  else if 38 ≤ src ∧ src < 44 then s.canIrq (src - 38)
  else if src = 44 then s.w1cOn Reg.CH_EVT.CRC_DROP 0
  else if src = 45 then s.w1cOn Reg.CLK_EVT.REF_LOST 0
  else if src = 46 then s.w1cOn Reg.PWR_EVT.VLV_FALL 0
  else if src = 48 then s.dbLevel e
  else if src = 49 then s.w1cOn Reg.CPX_EVT.OUTVOTE 0
  else if src = 50 then s.w1cOn Reg.CLM_STATUS.CONFLICT 0
  else if src = 51 then (List.range 16).any fun n => s.on Reg.MON_CFG.IE n && s.w1cOn Reg.MON_STAT.OVER n
  else if src = 52 then s.w1cOn Reg.ALD_EVT.EV_LOST 0
  else if src = 53 then s.w1cOn Reg.ST_EVT.RETIRED 0
  else false

/-- Is a source pending for a core: an event that was set, or an active level? Source 48 follows the core's own endpoint in SPLIT and
JOINING (R326). -/
def State.pending' (s : State) (src c : Nat) : Bool :=
  let event : Bool := (8 ≤ src && src < 16) || src == 47
  if event then bitAt (s.rd Reg.CPX_IRQ_PEND.PEND (src / 32)) (src % 32)
  else s.levelActive src (if s.splitMode then c else 0)

/-- Does a source go to a core (R315)? -/
def State.goesTo (s : State) (src c : Nat) : Bool :=
  if s.splitMode then
    src == 48 || s.rd Reg.CPX_IRQ_CFG.TARGET src == c || s.rd Reg.CPX_IRQ_CFG.TARGET src == 3
  else c == 0

/-- Of two sources the one of higher priority, the lower number at equal priority. -/
def State.topSource (s : State) (c : Nat) : Option Nat :=
  ((List.range 64).filter fun i => s.rd Reg.CPX_IRQ_CFG.PRIO i != 0 && s.goesTo i c && s.pending' i c).foldl
    (fun best i => match best with
      | some b => if s.rd Reg.CPX_IRQ_CFG.PRIO b < s.rd Reg.CPX_IRQ_CFG.PRIO i then some i else some b
      | none => some i) none

/-- CPX_IRQ_TOP and MEIP of a core. -/
def State.showTop (s : State) (c : Nat) : State :=
  match s.topSource c with
  | some i =>
    let v : Bool := s.rd Reg.CPX_IRQ_TOP.THRESH c < s.rd Reg.CPX_IRQ_CFG.PRIO i
    ((s.wr Reg.CPX_IRQ_TOP.SRC c i).wr Reg.CPX_IRQ_TOP.VALID c (b2n v)).setCpx
      { s.cpx with meip := if v then withBit s.cpx.meip c else withoutBit s.cpx.meip c }
  | none =>
    ((s.wr Reg.CPX_IRQ_TOP.SRC c 0).wr Reg.CPX_IRQ_TOP.VALID c 0).setCpx { s.cpx with meip := withoutBit s.cpx.meip c }

/-- CPX_IRQ_PEND, CPX_IRQ_TOP and MEIP follow the sources. -/
def State.irqUpdate (s : State) : State :=
  let pend (w : Nat) : Nat := ((List.range 32).filter fun b => s.pending' (32 * w + b) 0).foldl withBit 0
  let t := (s.wr Reg.CPX_IRQ_PEND.PEND 0 (pend 0)).wr Reg.CPX_IRQ_PEND.PEND 1 (pend 1)
  foldEach (fun c u => u.showTop c) [0, 1, 2] t

/-- R314, R315: a source has become active, or inactive; the interrupt registers follow. -/
def execIrqSource (src : Fin 64) (s : State) : Host.Outcome State Fault Refusal :=
  .next (if s.present islCPX && decide (src.val < 54) then s.irqUpdate else s)

end Sys2Proof.Machine
end

