-- ==== Sys2Proof/Machine/Crypto.lean ====
section
/-! DEFINITION. SHA-256 and the ECDSA check over NIST P-256 that the verification of an image needs (R48, R50), on natural numbers. -/

namespace Sys2Proof.Machine

/-! ## SHA-256 -/

def shaK : List Nat :=
  [0x428a2f98, 0x71374491, 0xb5c0fbcf, 0xe9b5dba5, 0x3956c25b, 0x59f111f1, 0x923f82a4, 0xab1c5ed5] ++
   [0xd807aa98, 0x12835b01, 0x243185be, 0x550c7dc3, 0x72be5d74, 0x80deb1fe, 0x9bdc06a7, 0xc19bf174] ++
   [0xe49b69c1, 0xefbe4786, 0x0fc19dc6, 0x240ca1cc, 0x2de92c6f, 0x4a7484aa, 0x5cb0a9dc, 0x76f988da] ++
   [0x983e5152, 0xa831c66d, 0xb00327c8, 0xbf597fc7, 0xc6e00bf3, 0xd5a79147, 0x06ca6351, 0x14292967] ++
   [0x27b70a85, 0x2e1b2138, 0x4d2c6dfc, 0x53380d13, 0x650a7354, 0x766a0abb, 0x81c2c92e, 0x92722c85] ++
   [0xa2bfe8a1, 0xa81a664b, 0xc24b8b70, 0xc76c51a3, 0xd192e819, 0xd6990624, 0xf40e3585, 0x106aa070] ++
   [0x19a4c116, 0x1e376c08, 0x2748774c, 0x34b0bcb5, 0x391c0cb3, 0x4ed8aa4a, 0x5b9cca4f, 0x682e6ff3] ++
   [0x748f82ee, 0x78a5636f, 0x84c87814, 0x8cc70208, 0x90befffa, 0xa4506ceb, 0xbef9a3f7, 0xc67178f2]

def shaH : List Nat :=
  [0x6a09e667, 0xbb67ae85, 0x3c6ef372, 0xa54ff53a, 0x510e527f, 0x9b05688c, 0x1f83d9ab, 0x5be0cd19]

def rotr (x n : Nat) : Nat := x / 2 ^ n + x % 2 ^ n * 2 ^ (32 - n)

/-- The sixty-four words of a block: `k` more, the newest first. -/
def shaExpand : Nat → List Nat → List Nat
  | 0, w => w
  | k + 1, w =>
    let a := w.getD 14 0
    let b := w.getD 1 0
    let s0 := rotr a 7 ^^^ rotr a 18 ^^^ (a / 2 ^ 3)
    let s1 := rotr b 17 ^^^ rotr b 19 ^^^ (b / 2 ^ 10)
    shaExpand k ((w.getD 15 0 + s0 + w.getD 6 0 + s1) % 2 ^ 32 :: w)

/-- The rounds over pairs of a constant and a word. -/
def shaRounds : List (Nat × Nat) → Nat × Nat × Nat × Nat × Nat × Nat × Nat × Nat → Nat × Nat × Nat × Nat × Nat × Nat × Nat × Nat
  | [], v => v
  | (k, w) :: t, (a, b, c, d, e, f, g, h) =>
    let s1 := rotr e 6 ^^^ rotr e 11 ^^^ rotr e 25
    let ch := (e &&& f) ^^^ ((2 ^ 32 - 1 - e) &&& g)
    let t1 := h + s1 + ch + k + w
    let s0 := rotr a 2 ^^^ rotr a 13 ^^^ rotr a 22
    let mj := (a &&& b) ^^^ (a &&& c) ^^^ (b &&& c)
    shaRounds t ((t1 + s0 + mj) % 2 ^ 32, a, b, c, (d + t1) % 2 ^ 32, e, f, g)

/-- One block of sixteen words. -/
def shaBlock (h w : List Nat) : List Nat :=
  let ws := (shaExpand 48 w.reverse).reverse
  let g (i : Nat) : Nat := h.getD i 0
  match shaRounds (shaK.zip ws) (g 0, g 1, g 2, g 3, g 4, g 5, g 6, g 7) with
  | (a, b, c, d, e, f, x, y) => ([a, b, c, d, e, f, x, y].zip h).map fun p => (p.1 + p.2) % 2 ^ 32

/-- Big-endian words of a byte list, `n` of them. -/
def beWords : Nat → List Nat → List Nat
  | 0, _ => []
  | n + 1, l => ofBe (l.take 4) :: beWords n (l.drop 4)

/-- The blocks of a padded message. -/
def shaBlocks : Nat → List Nat → List Nat → List Nat
  | 0, _, h => h
  | n + 1, l, h => shaBlocks n (l.drop 64) (shaBlock h (beWords 16 (l.take 64)))

/-- The digest of a byte list as a number: its first byte is the most significant one. -/
def sha256 (l : List Nat) : Nat :=
  let len := l.length
  let zeros := (119 - len % 64) % 64
  let msg := l ++ [0x80] ++ List.replicate zeros 0 ++ (leBytes 8 (8 * len)).reverse
  (shaBlocks (msg.length / 64) msg shaH).foldl (fun a w => a * 2 ^ 32 + w) 0

/-! ## P-256 in Jacobian coordinates -/

def p256 : Nat := 0xffffffff00000001000000000000000000000000ffffffffffffffffffffffff
def n256 : Nat := 0xffffffff00000000ffffffffffffffffbce6faada7179e84f3b9cac2fc632551
def b256 : Nat := 0x5ac635d8aa3a93e7b3ebbd55769886bc651d06b0cc53b0f63bce3c3e27d2604b
def g256 : Nat × Nat :=
  (0x6b17d1f2e12c4247f8bce6e563a440f277037d812deb33a0f4a13945d898c296,
   0x4fe342e2fe1a7f9b8ee7eb4a7c0f9e162bce33576b315ececbb6406837bf51f5)

/-- x^e modulo m for an exponent of `k` bits, from the highest down. -/
def powMod (m x e : Nat) : Nat → Nat → Nat
  | 0, a => a
  | k + 1, a =>
    let a := a * a % m
    powMod m x e k (if bitAt e k then a * x % m else a)

/-- The inverse modulo a prime. -/
def invMod (m x : Nat) : Nat := powMod m x (m - 2) 256 1

def subP (a b : Nat) : Nat := (a + p256 - b) % p256

/-- Doubling. The point at infinity has Z = 0. -/
def jDouble : Nat × Nat × Nat → Nat × Nat × Nat
  | (x, y, z) =>
    let zz := z * z % p256
    let m := 3 * subP x zz * (x + zz) % p256
    let yy := y * y % p256
    let s := 4 * x * yy % p256
    let x' := subP (m * m % p256) (2 * s % p256)
    (x', subP (m * subP s x' % p256) (8 * yy * yy % p256), 2 * y * z % p256)

/-- Addition. -/
def jAdd (p q : Nat × Nat × Nat) : Nat × Nat × Nat :=
  match p, q with
  | (x1, y1, z1), (x2, y2, z2) =>
    if z1 = 0 then q
    else if z2 = 0 then p
    else
      let a := z1 * z1 % p256
      let b := z2 * z2 % p256
      let u1 := x1 * b % p256
      let u2 := x2 * a % p256
      let s1 := y1 * z2 * b % p256
      let s2 := y2 * z1 * a % p256
      if u1 = u2 then (if s1 = s2 then jDouble p else (1, 1, 0))
      else
        let h := subP u2 u1
        let r := subP s2 s1
        let hh := h * h % p256
        let hhh := h * hh % p256
        let v := u1 * hh % p256
        let x3 := subP (subP (r * r % p256) hhh) (2 * v % p256)
        (x3, subP (r * subP v x3 % p256) (s1 * hhh % p256), h * z1 * z2 % p256)

/-- A multiple of a point by a number of `k` bits, from the highest down. -/
def jMul (e : Nat) (p : Nat × Nat × Nat) : Nat → Nat × Nat × Nat → Nat × Nat × Nat
  | 0, a => a
  | k + 1, a =>
    let a := jDouble a
    jMul e p k (if bitAt e k then jAdd a p else a)

/-- Is (r, s) a signature of a digest under a public key? -/
def ecdsaOk (x y r s digest : Nat) : Bool :=
  let inRange (v m : Nat) : Bool := 0 < v && v < m
  let curve : Bool := x < p256 && y < p256 && (y * y) % p256 == (x * x * x + (p256 - 3) * x + b256) % p256
  if !(inRange r n256 && inRange s n256 && curve) then false
  else
    let w := invMod n256 s
    let a := jMul (digest * w % n256) (g256.1, g256.2, 1) 256 (1, 1, 0)
    let b := jMul (r * w % n256) (x, y, 1) 256 (1, 1, 0)
    match jAdd a b with
    | (x3, _, z3) =>
      if z3 = 0 then false
      else
        let zi := invMod p256 z3
        x3 * zi % p256 * zi % p256 % n256 == r

end Sys2Proof.Machine
end

