-- ==== Sys2Proof/Machine/ImageCheck.lean ====
section
/-! DEFINITION. The Ahnulo image: its layout, the fields that it sets, and its verification (spec/02_ahnulo_image.md, R44 to R50, R54, R55,
R57 to R59; R125, R136, R150, R164, R169, R183, R202, R243, R289, R462). -/

namespace Sys2Proof.Machine

/-! ## Layout (R46, R47) -/

/-- A section: type, offset, length. -/
abbrev Sect := Nat × Nat × Nat

/-- A number of the image in a slot. -/
def State.imgNum (s : State) (slot off n : Nat) : Nat := s.num (slotBase slot + off) n

def State.imgLen (s : State) (slot : Nat) : Nat := s.imgNum slot 0x08 4
def State.imgSectCount (s : State) (slot : Nat) : Nat := s.imgNum slot 0x13 1

/-- The directory. -/
def State.imgDir (s : State) (slot : Nat) : List Sect :=
  (List.range (s.imgSectCount slot)).map fun k =>
    let a := 0x40 + 16 * k
    (s.imgNum slot a 4, s.imgNum slot (a + 4) 4, s.imgNum slot (a + 8) 4)

/-- Offset and record count of a section; no records where it is absent. -/
def State.imgSect (s : State) (slot typ size : Nat) : Nat × Nat :=
  match (s.imgDir slot).find? (fun d => d.1 == typ) with
  | some (_, off, len) => (off, len / size)
  | none => (0, 0)

/-- A STAGES record (R54): KIND, TB, LU, ATTR, leg mask word, and the eight bytes that must be 0. -/
structure StageRec where
  kind : Nat
  tb : Nat
  lu : Nat
  attr : Nat
  legs : Nat
  tail : Nat
deriving DecidableEq, Repr

/-- The content of an image. -/
structure Image where
  stages : List StageRec
  claims : List Nat
  routes : List (Nat × Nat)
  pins : List Nat
  safety : List Nat
  rwi : List (Nat × Nat)
deriving DecidableEq, Repr

/-- The content of the image in a slot. -/
def State.image (s : State) (slot : Nat) : Image :=
  let words (typ size : Nat) : List Nat :=
    let (off, n) := s.imgSect slot typ size
    (List.range n).map fun k => off + size * k
  { stages := (words 1 16).map fun a =>
      ⟨s.imgNum slot a 1, s.imgNum slot (a + 1) 1, s.imgNum slot (a + 2) 1, s.imgNum slot (a + 3) 1, s.imgNum slot (a + 4) 4,
        s.imgNum slot (a + 8) 8⟩
    claims := (words 2 4).map fun a => s.imgNum slot a 4
    routes := (words 3 8).map fun a => (s.imgNum slot a 4, s.imgNum slot (a + 4) 4)
    pins := (words 4 4).map fun a => s.imgNum slot a 4
    safety := (words 5 1280).flatMap fun a => (List.range 1280).map fun k => s.imgNum slot (a + k) 1
    rwi := (words 6 8).map fun a => (s.imgNum slot a 4, s.imgNum slot (a + 4) 4) }

/-! ## Records -/

/-- Routes, pins and claims as the module holds them. -/
def routeOf (w : Nat × Nat) : Route := ⟨bits w.1 0 8, bits w.1 8 12, bits w.1 20 12, w.2⟩
def pinLand (w : Nat) : Nat := bits w 0 6
def pinFn (w : Nat) : Nat := bits w 8 8
def pinOwner (w : Nat) : Nat := bits w 16 8

/-- The resources that a stage claims, in the order of R59. -/
def stageClaims (kind tb lu legs : Nat) : List Nat :=
  if kind = 0 then [] else bitList 24 legs ++ [0x100 + tb] ++ (if lu < 8 then [0x500 + lu] else [])

/-- Every claim of an image in the order STAGES, CLAIMS, PINS: resource and owner. -/
def Image.allClaims (im : Image) : List (Nat × Nat) :=
  (im.stages.zipIdx.flatMap fun e => (stageClaims e.1.kind e.1.tb e.1.lu e.1.legs).map fun id => (id, e.2 + 1))
    ++ (im.claims.map fun w => (bits w 0 12, bits w 16 8)) ++ im.pins.map fun w => (0xA00 + pinLand w, pinOwner w)

/-- The owner codes of R58. -/
def ownerOk (o : Nat) : Bool :=
  (1 ≤ o && o ≤ 8) || (0x10 ≤ o && o ≤ 0x13) || (0x18 ≤ o && o ≤ 0x1D) || (0x20 ≤ o && o ≤ 0x23) || (0x28 ≤ o && o ≤ 0x2A)
    || (0x30 ≤ o && o ≤ 0x3F)

/-- The structure rules of R54 and R55 on a stage. -/
def stageOk (kind tb lu attr legs : Nat) : Bool :=
  let n := (bitList 24 legs).length
  let luOk : Bool := match kind with
    | 0 => lu == 0xF
    | 5 => lu == 0xF || lu < 8
    | 6 => lu == 0xF
    | _ => decide (lu < 8)
  let legsOk : Bool := match kind with
    | 1 => n == 3
    | 2 => n == 6
    | 3 => 1 ≤ n && n ≤ 8
    | 4 => n == 3
    | 5 => n == 1 || n == 2
    | 6 => n == 1
    | _ => tb == 0 && attr == 0 && legs == 0
  kind ≤ 6 && tb < 8 && luOk && legsOk && attr < 16 && (!bitAt attr 1 || kind == 3 || kind == 5) && legs < 2 ^ 24

/-- A STAGES record on its own. -/
def StageRec.ok (r : StageRec) : Bool := stageOk r.kind r.tb r.lu r.attr r.legs && r.tail == 0

/-- A CLAIMS record on its own (R58). -/
def claimOk (w : Nat) : Bool :=
  bits w 12 4 == 0 && bits w 24 8 == 0 && ownerOk (bits w 16 8) && resourceOk (bits w 0 12)

/-- Is an ID a resource of a kind? -/
def isRes (kind id : Nat) : Bool := id / 256 == kind && resourceOk id
def isNode (id : Nat) : Bool := 0xC00 ≤ id && id < 0xC08
def isLine (id : Nat) : Bool := 0xD00 ≤ id && id < 0xD08

/-- A ROUTES record on its own (R122, R125, R150, R202, R243). -/
def Route.ok (r : Route) : Bool :=
  let sel := r.par % 4
  let tbSel : Bool := !isRes 1 r.src || sel < 2
  match r.kind with
  | 1 => (isRes 0 r.src || isRes 1 r.src || isRes 5 r.src) && isRes 2 r.dst && tbSel && bits r.par 2 2 == 0 && r.par < 64
         && !(bits r.par 4 2 == 3 && r.dst % 2 == 1)
  | 2 => (isRes 0 r.src || isRes 1 r.src) && isRes 5 r.dst && tbSel && bits r.par 2 2 == 0 && r.par < 64
  | 3 => isRes 3 r.src && isNode r.dst && r.par < 4
  | 4 => isRes 7 r.src && isNode r.dst && r.par < 4
  | 5 => isRes 3 r.src && isRes 2 r.dst && sel == 0 && bits r.par 2 2 == 0 && r.par < 64 && !(bits r.par 4 2 == 3 && r.dst % 2 == 1)
  | 6 => isRes 0xA r.src && isRes 6 r.dst && r.dst < 0x604 && r.par < 8
  | 7 => isLine r.src && isNode r.dst && r.par == 0
  | _ => false

/-- A PINS record on its own (R462). DESIGN CHOICE: the bits [7:6] and [31:24], to which R462 gives no content, must be 0. -/
def pinOk (w : Nat) : Bool :=
  let o := pinOwner w
  let st : Bool := (1 ≤ o && o ≤ 8) || o == 0x2A
  bits w 6 2 == 0 && bits w 24 8 == 0 && match pinFn w with
    | 0x01 => o == 0x2A
    | 0x10 => 0x18 ≤ o && o ≤ 0x1D
    | 0x11 => 0x18 ≤ o && o ≤ 0x1D
    | 0x20 => st
    | 0x21 => st
    | 0x30 => 0x20 ≤ o && o ≤ 0x23
    | _ => false

/-! ## RWI registers -/

/-- The RWI fields of the register at an address. -/
def rwiFields (a : Nat) : List (FD × Nat × Nat) :=
  if !inWindows a || a % 4 != 0 then []
  else match regAt a with
    | some (fs, i, j, _) => (fs.filter fun f => f.acc == .rwi).map fun f => (f, i, j)
    | none => []

/-- Set the RWI fields of a register from a word. -/
def State.setRwi (s : State) (a v : Nat) : State := foldEach (fun e t => t.wr2 e.1 e.2.1 e.2.2 (bits v e.1.lo e.1.w)) (rwiFields a) s

/-- The resource that an RWI register belongs to (R50): a leg, timebase, converter, comparator, isolated channel, loop unit or TRIPIN
land; 0 for any other. -/
def rwiUnit (a : Nat) : Option Nat :=
  let (b, off) := winOf a
  let e := off % 0x8000
  match b with
  | 0 => if e < 0x6000 then some (e / 0x400) else none
  | 1 => if off < 0x8000 then none
         else if e < 0x600 then some (0x300 + e / 0x10)
         else if 0x800 ≤ e ∧ e < 0x840 then some (0x700 + (e - 0x800) / 4) else none
  | 2 => if e < 0x4000 then some (0x200 + e / 0x200)
         else if 0x5000 ≤ e ∧ e < 0x5400 then some (0x200 + 2 * ((e - 0x5000) / 0x40)) else none
  | 3 => if e < 0x200 then some (0x400 + e / 0x40) else none
  | _ => none

/-- A value that the chapter of an RWI field refuses on its own (R97, R169). -/
def rwiValueBad (a v : Nat) : Bool :=
  (rwiFields a).any fun e =>
    (e.1.key e.2.1 e.2.2 == Reg.LEG_FLOOR.DT_FLOOR.key e.2.1 e.2.2 && decide (512000 < bits v e.1.lo e.1.w))
      || (e.1.key e.2.1 e.2.2 == Reg.ISO_CFG.RANGE.key e.2.1 e.2.2 && (e.2.1 == 3 || e.2.1 == 7) && bits v e.1.lo e.1.w != 0)

/-! ## What an image sets -/

/-- The RWI fields and the image's own structure fields take their reset values (R52). -/
def State.clearRwi (s : State) : State := s.resetFields fun f _ _ => f.acc == .rwi

/-- A number of `n` bytes of a byte list. -/
def bytesNum (l : List Nat) (off n : Nat) : Nat := ofLe ((l.drop off).take n)

/-- The SAFETY section of one stage (R135). -/
def State.setSafety (s : State) (l : List Nat) (n : Nat) : State :=
  let t := foldEach (fun w (t : State) =>
    let e (k : Nat) := l.getD (n * 128 + 4 * w + k) 0
    (((t.wr2 Reg.STG_SS_TAB.E0 n w (e 0)).wr2 Reg.STG_SS_TAB.E1 n w (e 1)).wr2 Reg.STG_SS_TAB.E2 n w (e 2)).wr2
      Reg.STG_SS_TAB.E3 n w (e 3)) (List.range 32) s
  let b := 1024 + 32 * n
  let t := foldEach (fun j (t : State) => t.wr2 Reg.STG_SPD_TH.TH n j (bytesNum l (b + 2 * j) 2)) (List.range 7) t
  let t := foldEach (fun j (t : State) => t.wr2 Reg.STG_VDC_TH.TH n j (bytesNum l (b + 0x0E + 2 * j) 2)) (List.range 3) t
  let t := (t.wr Reg.STG_HYST.SPD_HYST n (bytesNum l (b + 0x14) 2)).wr Reg.STG_HYST.VDC_HYST n (bytesNum l (b + 0x16) 2)
  let t := (t.wr Reg.STG_CHOP_CFG.CHOP_TMO n (bytesNum l (b + 0x18) 2)).wr Reg.STG_CHOP_CFG.CHOP_IMIN n (bytesNum l (b + 0x1A) 2)
  let t := (t.wr Reg.STG_KE.KE n (bytesNum l (b + 0x1C) 2)).wr Reg.STG_SS_CFG.CHOP_STG n (l.getD (b + 0x1E) 0)
  let f := l.getD (b + 0x1F) 0
  (t.wr Reg.STG_SS_CFG.OVNB_EN n (f % 2)).wr Reg.STG_SS_CFG.ASC_HIGH n (f / 2 % 2)

/-- The registers of one stage. -/
def State.setStage (s : State) (r : StageRec) (n : Nat) : State :=
  let t := ((s.wr Reg.STG_DESC.KIND n r.kind).wr Reg.STG_DESC.TB n r.tb).wr Reg.STG_DESC.LU n r.lu
  (t.wr Reg.STG_DESC.ATTR n r.attr).wr Reg.STG_LEGS.LEGS n r.legs

/-- Every RWI field as the STAGES and SAFETY sections set it (R62). -/
def State.setSections (s : State) (im : Image) : State :=
  let t := foldEach (fun (e : StageRec × Nat) u => u.setStage e.1 e.2) im.stages.zipIdx s.clearRwi
  foldEach (fun n u => u.setSafety im.safety n) (List.range 8) t

/-- Every RWI field as an image sets it: the RWI records follow the sections (R52, R62). -/
def State.setImageFields (s : State) (im : Image) : State :=
  foldEach (fun (e : Nat × Nat) u => u.setRwi e.1 e.2) im.rwi (s.setSections im)

/-- The STAGES records as the RWI records leave them; `t` has the fields of the image. DESIGN CHOICE: an RWI record that names STG_DESC or
STG_LEGS changes what the stage claims; R59 and R62 do not say how the two meet. -/
def Image.inForce (im : Image) (t : State) : Image :=
  { im with stages := (List.range 8).map fun n =>
      ⟨t.stgKind n, t.rd Reg.STG_DESC.TB n, t.rd Reg.STG_DESC.LU n, t.rd Reg.STG_DESC.ATTR n, t.rd Reg.STG_LEGS.LEGS n, 0⟩ }

/-! ## Rules on the fields of a stage (R136, R183, R289) -/

/-- Do numbers rise strictly? -/
def rising : List Nat → Bool
  | a :: b :: t => decide (a < b) && rising (b :: t)
  | _ => true

/-- The table entry of a stage. -/
def State.ssTab (s : State) (n e : Nat) : Nat :=
  match e % 4 with
  | 0 => s.rd Reg.STG_SS_TAB.E0 n (e / 4)
  | 1 => s.rd Reg.STG_SS_TAB.E1 n (e / 4)
  | 2 => s.rd Reg.STG_SS_TAB.E2 n (e / 4)
  | _ => s.rd Reg.STG_SS_TAB.E3 n (e / 4)

/-- R136 on the registers of a stage: a stage of KIND 0 holds zeros. -/
def State.safetyOk (s : State) (n : Nat) : Bool :=
  let kind := s.stgKind n
  let ents := (List.range 128).map (s.ssTab n)
  let spd := (List.range 7).map fun j => s.rd Reg.STG_SPD_TH.TH n j
  let vdc := (List.range 3).map fun j => s.rd Reg.STG_VDC_TH.TH n j
  let c := s.rd Reg.STG_SS_CFG.CHOP_STG n
  let motor : Bool := kind == 1 || kind == 2
  let entryOk (i e : Nat) : Bool :=
    e < 8 && (match e % 4 with | 0 => true | 3 => motor || kind == 6 | _ => motor) && (!bitAt e 2 || (i % 4 == 2 && motor))
  if kind = 0 then
    ents.all (· == 0) && spd.all (· == 0) && vdc.all (· == 0) && c == 0 && s.rd Reg.STG_HYST.SPD_HYST n == 0
      && s.rd Reg.STG_HYST.VDC_HYST n == 0 && s.rd Reg.STG_CHOP_CFG.CHOP_TMO n == 0 && s.rd Reg.STG_CHOP_CFG.CHOP_IMIN n == 0
      && s.rd Reg.STG_KE.KE n == 0 && !s.on Reg.STG_SS_CFG.OVNB_EN n && !s.on Reg.STG_SS_CFG.ASC_HIGH n
  else
    rising spd && rising vdc && ((List.range 128).zip ents).all (fun p => entryOk p.1 p.2)
      && (c == 0xFF || (c < 8 && s.stgKind c == 5)) && (kind != 5 || s.rd Reg.STG_CHOP_CFG.CHOP_TMO n != 0)

/-- Source codes of R182: AIN0 to AIN63, ISO0 to ISO7, none. -/
def srcCodeOk (c : Nat) : Bool := c < 72 || c == 0xFF

/-- Independence of two sources that are both named (R183). -/
def independent (a b : Nat) : Bool :=
  if a = 0xFF ∨ b = 0xFF then true
  else if a < 64 ∧ b < 64 then a / 16 != b / 16
  else if 64 ≤ a ∧ 64 ≤ b then (a - 64) / 4 != (b - 64) / 4
  else true

/-- The phases that a stage kind uses (R182). -/
def kindPhases (kind : Nat) : List Nat :=
  match kind with
  | 1 => [0, 1, 2]
  | 2 => [0, 1, 2, 3, 4, 5]
  | 3 => [0, 1, 2]
  | 4 => [0, 1, 2]
  | 5 => [0]
  | _ => []

/-- R183 on the registers of a stage. -/
def State.redOk (s : State) (n : Nat) : Bool :=
  let kind := s.stgKind n
  let pri (p : Nat) := s.rd Reg.RED_CUR.PRI n p
  let sec (p : Nat) := s.rd Reg.RED_CUR.SEC n p
  let a := s.rd Reg.RED_VDC.VDC_A n
  let b := s.rd Reg.RED_VDC.VDC_B n
  let ph := kindPhases kind
  (List.range 6).all (fun p => srcCodeOk (pri p) && srcCodeOk (sec p)) && srcCodeOk a && srcCodeOk b
    && (kind == 0
        || (ph.all (fun p => independent (pri p) (sec p) && (sec p == 0xFF || pri p != 0xFF)) && independent a b
            && (!s.on Reg.RED_CFG.SUMCHK n || kind == 5 || ph.all (fun p => pri p != 0xFF))
            && (!(s.stgAttr n 0 && kind ≤ 5) || (a != 0xFF && b != 0xFF))))

/-- The RWI registers of Rowan for a stage. -/
def rowStageFields : List FD :=
  (Reg.map11.flatten).filter fun f => f.acc == .rwi && f.n1 == 8 && f.n2 == 1

/-- R289 on the registers of a stage. -/
def State.rowOk (s : State) (n : Nat) : Bool :=
  let kind := s.stgKind n
  let tqm := s.rd Reg.ROW_MECH.TQM_MODE n % 3
  let p2 := s.rd Reg.ROW_POS.POS2_SRC n
  let pp := s.rd Reg.ROW_POS.PP n
  let l := s.rd Reg.ROW_FLX.FLX_L n
  let dm := s.rd Reg.ROW_MECH.DISCH_MODE n % 3
  let dst := s.rd Reg.ROW_MECH.DIS_STG n
  if kind = 0 then rowStageFields.all fun f => s.rd f n == 0
  else
    !(tqm == 1 && (p2 == 6 || p2 == 7))
      && (tqm == 0 || (1 ≤ pp && pp ≤ 32 && s.rd Reg.ROW_ISUM.I_FS n != 0 && s.rd Reg.ROW_FLX.FLX_FS n != 0 && 3 ≤ l && l ≤ 6
            && s.rd Reg.ROW_FLX.FLX_BASE n + 4 ^ l ≤ 4096))
      && (!s.stgAttr n 0 || (s.rd Reg.ROW_CNT.N_I n != 0 && s.rd Reg.ROW_CNT.N_V n != 0 && s.rd Reg.ROW_CNT.N_T n != 0
            && s.rd Reg.ROW_CNT.SRC_TMO n != 0))
      && (dm != 1 || (dst < 8 && s.stgKind dst == 6 && s.rd Reg.ROW_DISL.DIS_PMAX n != 0 && s.rd Reg.ROW_DISL.DIS_RES n != 0))
      && (dm != 2 || ((kind == 1 || kind == 2) && s.rd Reg.ROW_DISW.DIS_ID n != 0))
      && (dm == 0 || (s.rd Reg.ROW_DISV.DISCH_T n != 0 && s.rd Reg.ROW_DISV.DISCH_V n != 0))
      && (kind != 5 || s.rd Reg.ROW_MECH.CHOP_ISRC n != 0xFF)

/-! ## Step 8 (R50) -/

/-- The SAFETY bits that no register holds. -/
def safetyMarked (l : List Nat) : Bool := (List.range 8).all fun n => l.getD (1024 + 32 * n + 0x1F) 0 < 4

/-- The first record that fails on its own, in section order: its FAIL_RES. `t` has the fields of the sections, without the RWI records.
DESIGN CHOICE: an RWI record whose address lies outside the windows of R62 or is not word-aligned fails here, with FAIL_RES 0; one whose
address names no RWI field fails step 10. -/
def State.recordFail (t : State) (im : Image) : Option Nat :=
  if !im.stages.all StageRec.ok then some 0
  else match im.claims.find? fun w => !claimOk w with
    | some w => some (bits w 0 12)
    | none =>
      match im.routes.find? fun w => !(routeOf w).ok with
      | some w => some (routeOf w).src
      | none =>
        match im.pins.find? fun w => !pinOk w with
        | some w => some (0xA00 + pinLand w)
        | none =>
          if !(safetyMarked im.safety && (List.range 8).all t.safetyOk) then some 0
          else match im.rwi.find? fun e => !(inWindows e.1 && e.1 % 4 == 0) || rwiValueBad e.1 e.2 with
            | some e => some (if inWindows e.1 && e.1 % 4 == 0 then (rwiUnit e.1).getD 0 else 0)
            | none => none

/-- A route of kind 0x01 or 0x05 and the pair of its converter (R150). -/
def State.adcRouteOk (t : State) (r : Route) : Bool :=
  let tgt := bits r.par 4 2
  let il := t.on Reg.IL_CTRL.IL_EN (r.dst % 256 / 2)
  !(r.kind == 1 || r.kind == 5) || (if tgt = 3 then il else if tgt = 1 ∨ tgt = 2 then !il else true)

/-- The two converters of a pair with IL_EN = 1 have one image owner (R164). -/
def State.pairOk (t : State) (owner : Nat → Nat) (k : Nat) : Bool :=
  !t.on Reg.IL_CTRL.IL_EN k || owner (0x200 + 2 * k) == owner (0x200 + 2 * k + 1)

/-- The checks over several records or a whole stage. `t` has the fields of the image, RWI records included: what these leave of a stage's
structure and protection keeps R54 and R136 too (DESIGN CHOICE: R50 names no check of an RWI record on those fields). -/
def State.crossFail (t : State) (im : Image) : Bool :=
  let rs := im.routes.map routeOf
  let owner (id : Nat) : Nat := ((im.allClaims.find? fun c => c.1 == id).map (·.2)).getD 0
  let pin (land : Nat) : Option Nat := (im.pins.find? fun w => pinLand w == land).map pinFn
  let posRoute (r : Route) : Bool :=
    r.kind != 6
      || (((rs.filter fun q => q.kind == 6 && q.dst == r.dst && q.par == r.par).length == 1)
          && (match pin (r.src % 256) with
              | none => true
              | some fn => if r.par = 7 then fn == 0x21 else fn == 0x01 || fn == 0x20)
          && (r.par != 7 || (rs.filter fun q => q.src == r.src).length == 1))
  let nodeCount (n : Nat) : Nat := (rs.filter fun r => (r.kind == 3 || r.kind == 4 || r.kind == 7) && r.dst == 0xC00 + n).length
  let nodeOk (n : Nat) : Bool :=
    nodeCount n ≤ 32 && (!(t.stgAttr n 0 && t.stgKind n != 0) || rs.any fun r => r.kind == 7 && r.dst == 0xC00 + n)
  !(im.stages.all StageRec.ok && (List.range 8).all t.safetyOk && rs.all t.adcRouteOk && rs.all posRoute && (List.range 8).all nodeOk
    && (List.range 16).all (t.pairOk owner) && (List.range 8).all t.redOk && (List.range 8).all t.rowOk)

/-! ## Verification (R50) -/

/-- Steps 1 to 3: the header. The code of the first that fails, or 0. -/
def State.headerFail (s : State) (slot : Nat) : Nat :=
  let g := s.imgNum slot
  let len := s.imgLen slot
  if !(g 0 4 == 0x4C4E4841 && g 4 2 == 1 && g 6 2 == 0x40) then 1
  else if !(512 ≤ len && len ≤ 1048576 && len % 4 == 0 && g 0x14 4 < 4 && g 0x20 32 == 0) then 2
  else if g 0x1C 4 != 0x7140 then 3
  else 0

/-- The digest of a key entry. -/
def State.keyDigest (s : State) (i : Nat) : Nat := ofBe (s.bytes (keyRecord + 0x40 * i) 32)
def State.keyState (s : State) (i : Nat) : Nat := s.word (keyRecord + 0x40 * i + 0x20)
def State.minSvn (s : State) : Nat := s.num (keyRecord + 0x100) 2

/-- Steps 4 to 6: key, security version, signature. -/
def State.signFail (s : State) (slot : Nat) : Nat :=
  let len := s.imgLen slot
  let sig := slotBase slot + len - 128
  let key := s.bytes sig 64
  let k := s.imgNum slot 0x12 1
  let be (off : Nat) : Nat := ofBe (s.bytes (sig + off) 32)
  if !(k < 4 && s.keyState k == 1 && s.keyDigest k == sha256 key) then 4
  else if s.imgNum slot 0x10 2 < s.minSvn then 5
  else if !ecdsaOk (be 0) (be 32) (be 64) (be 96) (sha256 (s.bytes (slotBase slot) (len - 128))) then 6
  else 0

/-- Record size and capacity of a section type. -/
def sectShape (typ : Nat) : Option (Nat × Nat × Nat) :=
  match typ with
  | 1 => some (16, 8, 8)
  | 2 => some (4, 0, 4096)
  | 3 => some (8, 0, 2048)
  | 4 => some (4, 0, 64)
  | 5 => some (1280, 1, 1)
  | 6 => some (8, 0, 16384)
  | _ => none

/-- Step 7: the directory. -/
def State.dirOk (s : State) (slot : Nat) : Bool :=
  let n := s.imgSectCount slot
  let dir := s.imgDir slot
  let lo := 0x40 + 16 * n
  let hi := s.imgLen slot - 128
  let one (d : Sect) : Bool := match sectShape d.1 with
    | some (size, least, most) => d.2.2 % size == 0 && least ≤ d.2.2 / size && d.2.2 / size ≤ most && lo ≤ d.2.1 && d.2.1 + d.2.2 ≤ hi
    | none => false
  let apart (p q : Sect × Nat) : Bool :=
    p.2 == q.2 || (p.1.1 != q.1.1 && (p.1.2.1 + p.1.2.2 ≤ q.1.2.1 || q.1.2.1 + q.1.2.2 ≤ p.1.2.1))
  2 ≤ n && n ≤ 6 && dir.all one && (dir.zipIdx.all fun p => dir.zipIdx.all fun q => apart p q)
    && (dir.any fun d => d.1 == 1) && (dir.any fun d => d.1 == 5)
    && (List.range n).all fun k => s.imgNum slot (0x40 + 16 * k + 12) 4 == 0

/-- The first resource that receives a second claim (R59). -/
def claimedTwice : List Nat → List Nat → Option Nat
  | _, [] => none
  | seen, id :: t => if seen.contains id then some id else claimedTwice (id :: seen) t

/-- The verification of a slot: FAIL_CODE and FAIL_RES, both 0 where every step passes. -/
def State.verify (s : State) (slot : Nat) : Nat × Nat :=
  let h := s.headerFail slot
  if h ≠ 0 then (h, 0)
  else
    let g := s.signFail slot
    if g ≠ 0 then (g, 0)
    else if !s.dirOk slot then (7, 0)
    else
      let im := s.image slot
      match (s.setSections im).recordFail im with
      | some r => (8, r)
      | none =>
        let t := s.setImageFields im
        let im := im.inForce t
        if t.crossFail im then (8, 0)
        else match claimedTwice [] (im.allClaims.map (·.1)) with
          | some id => (9, id)
          | none =>
            let addrs := im.rwi.map (·.1)
            if addrs.all (fun a => !(rwiFields a).isEmpty) && (claimedTwice [] addrs).isNone then (0, 0) else (10, 0)

end Sys2Proof.Machine
end

