-- ==== Sys2Proof/Machine/Image.lean ====
section
/-! DEFINITION. Applying an image, run-time loads, the image lock, RWI writes, and the enables of stages: the commands of
spec/02_ahnulo_image.md (R51 to R53, R56, R59 to R67). -/

namespace Sys2Proof.Machine

/-- Every resource ID of R57. -/
def allResources : List Nat := (List.range 0xC00).filter resourceOk

/-! ## What a stage can run on (R67) -/

/-- The resources that the image binds to a stage. -/
def State.stageBound (s : State) (n : Nat) : List Nat := (s.img.bound.filter fun e => e.2 == n + 1).map (·.1)

/-- Show READY, DEGRADED, CLAIM_FAIL and FAIL_RES of a stage. DESIGN CHOICE: READY and DEGRADED read 0 while STATE is not LOADED; R67
defines them by the claims alone. -/
def State.showReady (s : State) (n : Nat) : State :=
  let bad := (s.stageBound n).filter fun id => s.claimState id == 3
  let degr : Bool := bad != [] && s.stgAttr n 1 && bad.all (· < 24) && (s.stgLegs n).any fun l => !bad.contains l
  let ready : Bool := s.rd Reg.IMG_STATUS.STATE == 2 && s.stgKind n != 0 && (bad == [] || degr)
  (((s.wr Reg.STG_STATE.READY n (b2n ready)).wr Reg.STG_STATE.DEGRADED n (b2n (ready && degr))).wr Reg.STG_STATE.CLAIM_FAIL n
    (b2n (bad != []))).wr Reg.STG_STATE.FAIL_RES n (bad.headD 0)

def State.showAllReady (s : State) : State := foldEach (fun n t => t.showReady n) (List.range 8) s

/-! ## The claim table (R52, R57 to R61) -/

/-- The claim table takes the bindings of the image in one step; unusable units stay unusable. -/
def State.bindClaims (s : State) (bound : SMap Nat) : State :=
  let t := foldEach (fun id t => if t.claimState id = 3 then t else t.setClaim id 0 0) allResources s
  let t := foldEach (fun (e : Nat × Nat) t => if t.claimState e.1 = 3 then t else t.setClaim e.1 1 e.2) bound t
  { t with img := { t.img with bound := bound } }

/-- Owners by resource: the first claim of each. -/
def boundOf (l : List (Nat × Nat)) : SMap Nat := foldEach (fun e m => SMap.set 0 m e.1 e.2) l []

/-- Every dynamic claim is released and its enable field cleared (R52). -/
def State.dropDynamic (s : State) : State :=
  let ids := allResources.filter fun id => s.claimState id == 2
  let hit (l : List Nat) : Bool := l.any ids.contains
  if ids = [] then s
  else
    let t := foldEach (fun j (t : State) =>
      if hit ((s.seq j).claims ++ (s.seq j).old) then (t.seqDisable j).setSeq j { (t.seqDisable j).seq j with claims := [], old := [] } else t) [0, 1, 2, 3] s
    let t := foldEach (fun a (t : State) =>
      if ids.contains (0x200 + a) then (t.wr2 Reg.ADC_INJ.EN a 0 0).wr2 Reg.ADC_INJ.EN a 1 0 else t) (List.range 32) t
    let t := foldEach (fun k (t : State) => if hit (s.pair k).claims then t.pairDisarm k else t) (List.range 16) t
    let t := foldEach (fun c (t : State) =>
      if ids.contains (0x400 + c) then (t.wr Reg.ISO_CTRL.EN c 0).wr Reg.ISO_STATUS.VALID c 0 else t) (List.range 8) t
    let t := foldEach (fun n (t : State) =>
      if (List.range 6).any (fun p => ids.contains (0x600 + p) && s.claimOwner (0x600 + p) == n + 1) then t.fcDisable n else t)
      (List.range 8) t
    let t := foldEach (fun r (t : State) =>
      if hit (s.rsv r).claims then (t.wr Reg.RS_CTRL.EN r 0).rsValid r else t) [0, 1] t
    let t := foldEach (fun e (t : State) => if hit (s.emu e).claims then t.emuDisable e else t) [0, 1, 2, 3] t
    (foldEach (fun id t => t.setClaim id 0 0) ids t).flag Reg.CLM_STATUS.DYN_DROPPED 0

/-! ## What a change of RWI fields does at once -/

/-- The polarity latches of every gate pad take INV_H and INV_L (R113). -/
def State.loadPolarity (s : State) (l : Nat) : State :=
  s.setPad l { s.pad l with polH := some (s.on Reg.LEG_PAD_CFG.INV_H l), polL := some (s.on Reg.LEG_PAD_CFG.INV_L l) }

/-- RWI fields have changed from what they were in `old`: a new OUTMODE awaits its tick edge (R95), a disabled comparator or TRIPIN
land is inactive (R118, R121), trip sources, chopper faults and the chain role show anew. -/
def State.rwiChanged (s old : State) : State :=
  let t := foldEach (fun l (t : State) =>
    let o := old.outmode l
    if t.outmode l = o then t else t.setLeg l { t.leg l with newMode := some (o, t.now) }) (List.range 24) s
  let t := foldEach (fun c (t : State) =>
    if old.on Reg.CMP_DAC.EN c && !t.on Reg.CMP_DAC.EN c then (t.setGlitch (srcCmp c) none).setCmp c false else t) (List.range 96) t
  let same (f : FD) (p : Nat) (t : State) : Bool := old.rd f p == t.rd f p
  let t := foldEach (fun p (t : State) =>
    if same Reg.TRIPIN_CFG.EN p t && same Reg.TRIPIN_CFG.POL p t then t else t.tripinLook p) (List.range 16) t
  let t := foldEach (fun n (t : State) => if t.stgKind n = 5 then t else
    (((t.wr Reg.STG_CHOP.RESP_T n 0).wr Reg.STG_CHOP.REASON n 0).wr Reg.STG_CHOP.CLR_DENIED n 0).wr Reg.STG_CHOP.CHOP_FAULT n 0) (List.range 8) t
  let t := t.showAllActive.showChop
  if t.rd Reg.CH_CFG.ROLE = old.rd Reg.CH_CFG.ROLE then t else t.roleChanged.refSwitch old

/-! ## Applying an image (R51, R52) -/

/-- The lock closes (R65). -/
def State.closeLock (s : State) : State := (s.wr Reg.IMG_STATUS.LOCK_OPEN 0 0).wr Reg.IMG_LOCK.OPEN 0 0

/-- IMG_SEQ shows the headers of both slots as they stand. -/
def State.showSeqs (s : State) : State :=
  foldEach (fun k t => t.wr Reg.IMG_SEQ.SEQ k (if t.headerFail k = 0 then t.imgNum k 0x0C 4 else 0)) [0, 1] s

/-- An image that passed verification is applied. -/
def State.applyImage (s : State) (slot : Nat) (fallback : Bool) : State :=
  let im := s.image slot
  let flags := s.imgNum slot 0x14 4
  let bound := boundOf (im.inForce (s.setImageFields im)).allClaims
  let t := (s.dropDynamic.bindClaims bound).setImageFields im
  let t := { t with
    routes := im.routes.map routeOf
    pulses := []
    pins := foldEach (fun w m => SMap.set 0 m (pinLand w) (pinFn w)) im.pins [] }
  let t := foldEach (fun l t => t.loadPolarity l) (List.range 24) t
  let t := ((((t.wr Reg.IMG_STATUS.STATE 0 2).wr Reg.IMG_STATUS.ACTIVE_SLOT 0 slot).wr Reg.IMG_STATUS.FALLBACK 0 (b2n fallback)).wr
    Reg.IMG_STATUS.CM_ALLOW 0 (flags % 2)).wr Reg.IMG_STATUS.BOOT_INDEP 0 (flags / 2 % 2)
  let t := (t.wr Reg.IMG_BUILD.BUILD_ID 0 (s.imgNum slot 0x18 4)).closeLock
  let t := (t.rwiChanged s).assertActive
  let t := foldEach (fun c (t : State) =>
    if t.isoOfRowan c && !t.on Reg.ISO_CTRL.EN c then t.isoStart c else t) (List.range 8) t
  t.showAllReady.showPwm

/-- A failed verification (R50). -/
def State.imgFailed (s : State) (slot : Nat) (code res : Nat) : State :=
  ((s.wr Reg.IMG_FAIL.FAIL_CODE 0 code).wr Reg.IMG_FAIL.FAIL_RES 0 res).wr Reg.IMG_FAIL.FAIL_SLOT 0 slot

/-- A load or a start of the image has ended (R434): slot, IMG_FAIL and IMG_BUILD. -/
def State.imgRecord (s : State) (slot : Nat) : State :=
  s.logEv 0x0005 slot (leBytes 4 (s.regWord Reg.IMG_FAIL.FAIL_CODE 0) ++ leBytes 4 (s.rd Reg.IMG_BUILD.BUILD_ID))

/-! ## Run-time loads (R52) -/

/-- LOAD is written with SLOT. -/
def State.loadWrite (s : State) (slot : Nat) : State :=
  let st := s.rd Reg.IMG_STATUS.STATE
  if st = 1 ∨ (List.range 8).any s.stgEnabled then s.flag Reg.IMG_CTRL.LOAD_ERR 0
  else
    let t := s.wr Reg.IMG_CTRL.SLOT 0 slot
    { ((t.wr Reg.IMG_STATUS.STATE 0 1).flag Reg.IMG_CTRL.LOAD 0).showAllReady with img := { t.img with slot := slot, prev := st } }

/-- R52: a write of LOAD = 1. -/
def execImgLoad (m : Master) (slot : Fin 2) (s : State) : Host.Outcome State Fault Refusal :=
  .next (s.winWrite m (Reg.IMG_CTRL.LOAD.addr 0 0) (·.loadWrite slot.val))

/-- The verification of a run-time load ends. -/
def State.loadEnd (s : State) : State :=
  let slot := s.img.slot
  let v := s.verify slot
  let t := (s.wr Reg.IMG_CTRL.LOAD 0 0).showSeqs
  let t := if v.1 = 0 then t.applyImage slot false
    else ((t.wr Reg.IMG_STATUS.STATE 0 s.img.prev).imgFailed slot v.1 v.2).showAllReady
  t.imgRecord slot

/-- R52: a run-time verification ends. -/
def execLoadDone (s : State) : Host.Outcome State Fault Refusal :=
  .next (s.onlyIf (s.present islALD && s.rd Reg.IMG_STATUS.STATE == 1) (·.loadEnd))

/-! ## The image lock (R63, R65) -/

/-- May the second key open the lock? -/
def State.mayUnlock (s : State) : Bool :=
  s.rd Reg.IMG_STATUS.STATE == 2 && s.on Reg.IMG_STATUS.CM_ALLOW
    && (List.range 8).all fun n => !(s.stgAttr n 0 && s.stgKind n != 0 && s.stgEnabled n)

def State.setKeyStep (s : State) (k : Option Nat) : State := { s with img := { s.img with key := k } }

/-- A write to IMG_LOCK with a key and CLOSE. DESIGN CHOICE for key writes while the lock is open, on which R63 is silent: a failed
sequence leaves it open, a completed one writes OPENER again. -/
def State.lockWrite (s : State) (m : Master) (key : Nat) (close : Bool) : State :=
  let first := s.img.key
  let t := s.setKeyStep (if key = 0xA5C3 then some (s.masterNo m) else none)
  let t :=
    if key = 0 ∨ key = 0xA5C3 then t
    else if key = 0x3C5A ∧ first = some (s.masterNo m) ∧ s.mayUnlock then
      ((t.flag Reg.IMG_STATUS.LOCK_OPEN 0).flag Reg.IMG_LOCK.OPEN 0).wr Reg.IMG_LOCK.OPENER 0 m.code
    else t.flag Reg.IMG_LOCK.UNLOCK_ERR 0
  t.onlyIf close (·.closeLock)

/-- R63: a write of KEY without CLOSE. -/
def execImgLockKey (m : Master) (key : BitVec 16) (s : State) : Host.Outcome State Fault Refusal :=
  .next (s.winWrite m (Reg.IMG_LOCK.KEY.addr 0 0) (·.lockWrite m key.toNat false))

/-- R63, R65: a write with CLOSE = 1, which acts on its key first. -/
def execImgLockClose (m : Master) (key : BitVec 16) (s : State) : Host.Outcome State Fault Refusal :=
  .next (s.winWrite m (Reg.IMG_LOCK.KEY.addr 0 0) (·.lockWrite m key.toNat true))

/-! ## RWI writes (R11, R64, R65) -/

/-- A stage whose own registers an address holds: STG_DESC and STG_LEGS, the safe-state tables, the redundant sources. -/
def rwiStage (a : Nat) : Option Nat :=
  let (b, off) := winOf a
  match b with
  | 1 => if 0x9000 ≤ off ∧ off < 0x9800 then some ((off - 0x9000) / 0x100) else none
  | 3 => if 0x9000 ≤ off ∧ off < 0x9100 then some ((off - 0x9000) / 0x20) else none
  | 16 => if 0x100 ≤ off ∧ off < 0x180 then some ((off - 0x100) / 0x10) else none
  | _ => none

/-- Does an RWI register belong to a unit claimed by an enabled stage, to a comparator or land routed to the trip node of one (R31, R64), or
to the protection or the sources of an enabled stage (R144, R183)? -/
def State.rwiHeld (s : State) (a : Nat) : Bool :=
  let unit : Bool := match rwiUnit a with
    | some id =>
      s.claimedByEnabled id || (id / 256 == 2 && bits a 0 16 ≥ 0x5000 && s.claimedByEnabled (id + 1))
        || s.routes.any fun r => (r.kind == 3 || r.kind == 4) && r.src == id && s.stgEnabled (r.dst % 256)
    | none => false
  unit || (winOf a).1 != 16 && match rwiStage a with
    | some n => s.stgEnabled n
    | none => false

/-- The image-bound claims of a stage after a write to its structure, where the result keeps R54 and R59: `t` has the new fields. -/
def State.rebound (s t : State) (n : Nat) : Option (SMap Nat) :=
  let claims (u : State) := stageClaims (u.stgKind n) (u.rd Reg.STG_DESC.TB n) (u.rd Reg.STG_DESC.LU n) (u.rd Reg.STG_LEGS.LEGS n)
  let old := claims s
  let new := claims t
  let rest := s.img.bound.filter fun e => !old.contains e.1
  let clash (id : Nat) : Bool :=
    rest.any (fun e => e.1 == id) || (!old.contains id && s.claimState id == 2 && s.claimOwner id != n + 1)
  if stageOk (t.stgKind n) (t.rd Reg.STG_DESC.TB n) (t.rd Reg.STG_DESC.LU n) (t.rd Reg.STG_DESC.ATTR n) (t.rd Reg.STG_LEGS.LEGS n)
      && !new.any clash then
    some (foldEach (fun id m => SMap.set 0 m id (n + 1)) new rest)
  else none

/-- Does the value keep the rules of the field's chapter (R65)? `t` has the new fields: R54, R59 and R183 for a stage's structure, R136 for
its protection, R183 for its sources, R150 and R164 for IL_EN. -/
def State.rwiRules (s t : State) (a v : Nat) : Bool :=
  let (b, off) := winOf a
  let stage : Bool := match rwiStage a with
    | none => true
    | some n =>
      if b = 16 then (s.rebound t n).isSome && t.redOk n else if b = 1 then t.safetyOk n else t.redOk n || decide (off < 0x9000)
  let pair : Bool := t.routes.all t.adcRouteOk && (List.range 16).all (t.pairOk fun id => SMap.get 0 t.img.bound id)
  !rwiValueBad a v && stage && (b != 2 || pair)

/-- A discarded RWI write. -/
def State.rwiDiscard (s : State) (m : Master) (a reason : Nat) : State :=
  (((s.flag Reg.CLM_STATUS.RWI_DISCARD 0).wr Reg.RWI_LAST.REASON 0 reason).wr Reg.RWI_LAST.MASTER 0 m.code).wr Reg.RWI_LAST.WORD 0
    ((a - 0x40000000) / 4)

/-- The claims of a resource follow a new binding. -/
def State.reclaim (s : State) (n : Nat) (bound : SMap Nat) : State :=
  let ids := (s.stageBound n ++ (bound.filter fun e => e.2 == n + 1).map (·.1))
  let t := { s with img := { s.img with bound := bound } }
  foldEach (fun id t =>
    if t.claimState id = 3 then t
    else if SMap.get 0 bound id = 0 then t.setClaim id 0 0 else t.setClaim id 1 (SMap.get 0 bound id)) ids t

/-- A stage whose descriptor changed takes the claims of its new binding; `s` is the state before the write. -/
def State.rwiClaims (t s : State) (a : Nat) : State :=
  match rwiStage a with
  | some n =>
    if (winOf a).1 = 16 then
      match s.rebound t n with
      | some b => t.reclaim n b
      | none => t
    else t
  | none => t

/-- An RWI write has changed INV_H or INV_L of a leg: the latch of that pad is loaded (R113). -/
def State.rwiPolarity (t old : State) (a : Nat) : State :=
  match rwiUnit a with
  | some l =>
    let p := t.pad l
    let h := t.on Reg.LEG_PAD_CFG.INV_H l
    let w := t.on Reg.LEG_PAD_CFG.INV_L l
    t.onlyIf (l < 24 && (rwiFields a).any fun e => e.1.off == 0x8114) (·.setPad l { p with
      polH := if h = old.on Reg.LEG_PAD_CFG.INV_H l then p.polH else some h
      polL := if w = old.on Reg.LEG_PAD_CFG.INV_L l then p.polL else some w })
  | none => t

/-- The RWI fields of a register are written. A write that changes none of them does not count (R11). -/
def State.rwiWrite (s : State) (m : Master) (a v : Nat) : State :=
  let fs := rwiFields a
  if fs.all fun e => s.rd e.1 e.2.1 e.2.2 == bits v e.1.lo e.1.w then s
  else if s.rd Reg.IMG_STATUS.STATE = 1 ∨ !s.on Reg.IMG_STATUS.LOCK_OPEN then s.rwiDiscard m a 0
  else if s.rwiHeld a then s.rwiDiscard m a 1
  else
    let t := s.setRwi a v
    if !s.rwiRules t a v then s.rwiDiscard m a 2
    else
      (((t.rwiClaims s a).rwiPolarity s a).rwiChanged s).showAllReady

/-! ## Enabling and disabling a stage (R56, R68, R128) -/

/-- Does the mode of the complex permit the enable of a stage? -/
def State.modePermits (s : State) (n : Nat) : Bool :=
  let mode := s.mode
  !s.stgAttr n 0
    || (if mode = cpxSplit ∨ mode = cpxJoining ∨ s.on Reg.CPX_CTRL.SPLIT then s.stgAttr n 2
        else if mode = cpxSingle then !s.stgAttr n 3
        else mode != cpxHalted)

/-- May the stage be enabled (R53, R56, R64, R401, R402, R405)? -/
def State.mayEnable (s : State) (n : Nat) : Bool :=
  s.rd Reg.IMG_STATUS.STATE == 2 && s.stgKind n != 0 && s.on Reg.STG_STATE.READY n && !s.stgTripped n && s.modePermits n
    && s.clk.tRun && s.rd Reg.PWR_STATUS.PWR_STATE != 3
    && !(s.stgAttr n 0 && (s.on Reg.IMG_STATUS.LOCK_OPEN || !s.on Reg.ISL_STAT.POWERED islCPX))

/-- The latches of the stage's usable legs release; each leg starts with both outputs off. -/
def State.releaseLeg (s : State) (l : Nat) : State :=
  if s.claimState l = 3 then s
  else (s.setPad l { s.pad l with ov := false, ovH := false, ovL := false }).restartLeg l (s.fineNow 0)

/-- EN = 1 is written to STG_CTRL. -/
def State.enableStage (s : State) (n : Nat) : State :=
  if s.stgEnabled n then s
  else if !s.mayEnable n then s.flag Reg.STG_CTRL.EN_DENIED n
  else
    let t := (s.flag Reg.STG_CTRL.EN n).wr Reg.STG_TRIP.SS n 0
    (foldEach (fun l t => t.releaseLeg l) (s.stgLegs n) t).setAsc n none

/-- R56: a write of EN = 1. -/
def execStageEnable (m : Master) (n : Fin 8) (s : State) : Host.Outcome State Fault Refusal :=
  .next (s.winWrite m (Reg.STG_CTRL.EN.addr n.val 0) (·.enableStage n.val))

/-- EN = 0 is written to STG_CTRL: the latches of an enabled stage take SS_OFF; its output stages keep working behind them. -/
def State.disableStage (s : State) (n : Nat) : State :=
  if s.stgEnabled n then ((s.latchStage n 0).wr Reg.STG_CTRL.EN n 0).stageOff n else s

/-- R56: a write of EN = 0. -/
def execStageDisable (m : Master) (n : Fin 8) (s : State) : Host.Outcome State Fault Refusal :=
  .next (s.winWrite m (Reg.STG_CTRL.EN.addr n.val 0) (·.disableStage n.val))

end Sys2Proof.Machine
end

