-- ==== Sys2Proof/Machine/Wear.lean ====
section
/-! DEFINITION. Physical units, the wear record, the verdicts, the spare map and the groups of the shutdown self-test
(spec/18_selftest_spares_wear.md, R413 to R430). -/

namespace Sys2Proof.Machine

/-! ## Units (R413 to R415) -/

/-- A cluster: its unit codes and its physical units. -/
abbrev Cluster := List Nat × List Nat

/-- The clusters with spares. -/
def clusters : List Cluster :=
  ((List.range 6).map fun c => (run (4 * c) 4, run (5 * c) 5))
    ++ ((List.range 4).map fun j => (run (24 + 8 * j) 8, run (30 + 9 * j) 9))
    ++ ((List.range 8).map fun j => (run (56 + 12 * j) 12, run (66 + 13 * j) 13))
    ++ ((List.range 2).map fun d => (run (152 + 4 * d) 4, run (170 + 5 * d) 5))
    ++ [(run 160 8, run 180 9), (run 168 3, run 189 4), ([171], [193, 194])]
    ++ ((List.range 4).map fun k => (run (172 + 2 * k) 2, run (195 + 3 * k) 3))

/-- The physical unit on which a logical unit stands at manufacture. -/
def madeOn (u : Nat) : Nat :=
  match clusters.find? fun c => c.1.contains u with
  | some (us, ps) => ps.getD (u - us.headD 0) 0x1FF
  | none => 0x1FF

/-- The map at manufacture. -/
def madeMap : List MapEnt := (List.range 188).map fun u => ⟨madeOn u, 0, false⟩

/-- The resource ID of a unit code, if it has one. -/
def unitRes (u : Nat) : Option Nat :=
  if u < 24 then some u else if u < 56 then some (0x200 + (u - 24)) else if u < 152 then some (0x300 + (u - 56))
  else if u < 160 then some (0x400 + (u - 152)) else if u < 168 then some (0x500 + (u - 160))
  else if 180 ≤ u ∧ u < 188 then some (0x100 + (u - 180)) else none

/-- The unit code of a resource, if it has one. -/
def resUnit (id : Nat) : Option Nat := (List.range 188).find? fun u => unitRes u == some id

/-- The sensor that reports the age of a physical unit: its own, or that of its comparator cluster, isolator die or chain direction
(R424). -/
def sensorOf (p : Nat) : Option Nat :=
  if p < 66 then some p else if p < 170 then some (66 + (p - 66) / 13) else if p < 180 then some (74 + (p - 170) / 5)
  else if p < 193 then some (p - 180 + 76) else if 195 ≤ p ∧ p < 207 then some (89 + (p - 195) / 3) else none

/-- Can the age of a unit retire it? -/
def ownSensor (p : Nat) : Bool := p < 66 || (180 ≤ p && p < 193)

/-! ## The wear record (R427) -/

def wearMagic : Nat := 0x52414557
def wearSeq (s : State) (k : Nat) : Nat := s.word (wearBase k + 4)

/-- Is a copy valid? -/
def State.wearOk (s : State) (k : Nat) : Bool :=
  s.word (wearBase k) == wearMagic && s.word (wearBase k + 0x3FFC) == crc32 (s.bytes (wearBase k) 0x3FFC)

/-- The copy in force. -/
def State.wearCopy (s : State) : Option Nat := s.st.copy

/-- The copy to use: the valid one with the higher WSEQ. -/
def State.findWear (s : State) : Option Nat :=
  if s.wearOk 0 ∧ (!s.wearOk 1 ∨ wearSeq s 1 ≤ wearSeq s 0) then some 0 else if s.wearOk 1 then some 1 else none

/-- A field of a physical unit in the copy in force: STATUS 0, CAUSE 1, AGE 2, FAILS 4, WSEQ 6. -/
def State.wearPu (s : State) (p off n : Nat) : Nat :=
  match s.wearCopy with
  | some k => s.num (wearBase k + 0x40 + 8 * p + off) n
  | none => 0

/-- The failed taps of a ladder (0 to 89) in the copy in force. -/
def State.wearTaps (s : State) (q : Nat) : List Nat :=
  match s.wearCopy with
  | some k => (s.bytes (wearBase k + 0xA00 + 8 * q) 8).filter (· ≠ 0xFF)
  | none => []

/-- The repair entries in the copy in force: array code and row. -/
def State.wearRows (s : State) : List (Nat × Nat) :=
  match s.wearCopy with
  | some k => (List.range 512).filterMap fun i =>
      let w := s.word (wearBase k + 0xD00 + 4 * i)
      if bitAt w 31 then some (bits w 0 8, bits w 8 16) else none
  | none => []

/-- A range of memory takes the content of another one. -/
def State.copyMem (s : State) (src dst n : Nat) : State :=
  let keep := s.mem.filter fun e => !(dst ≤ e.1 && e.1 < dst + n)
  let new := (s.mem.filter fun e => src ≤ e.1 && e.1 < src + n).map fun e => (e.1 - src + dst, e.2)
  { s with mem := foldEach (fun e m => SMap.set (0 : BitVec 8) m e.1 e.2) new keep }

/-- A range of memory reads 0. -/
def State.zeroMem (s : State) (a n : Nat) : State :=
  { s with mem := s.mem.filter (fun e => !(a ≤ e.1 && e.1 < a + n)), eccBad := s.eccBad.filter fun w => !(a ≤ w && w < a + n) }

/-- Enter a mark of a physical unit. -/
def State.putMark (s : State) (b p status cause : Nat) : State :=
  let a := b + 0x40 + 8 * p
  let s := (s.setByte a status).setByte (a + 1) cause
  let s := if status = 2 then s.setNum (a + 4) 2 (satAdd 0xFFFF (s.num (a + 4) 2)) else s
  s.setNum (a + 6) 2 (s.word (b + 4) % 65536)

/-- Enter failed taps of a ladder; with more than eight the ladder is unusable. -/
def State.putTaps (s : State) (b p : Nat) (taps : List Nat) : State :=
  let a := b + 0xA00 + 8 * (p - 207)
  let old := (s.bytes a 8).filter (· ≠ 0xFF)
  let all := (List.range 136).filter fun t => old.contains t || taps.contains t
  let s := s.setBytes a ((List.range 8).map fun i => all.getD i 0xFF)
  if 8 < all.length then s.putMark b p 2 1 else s

/-- Enter a failed row. -/
def State.putRow (s : State) (b : Nat) (e : Nat × Nat) : State :=
  let at' (i : Nat) := b + 0xD00 + 4 * i
  let w := e.1 % 256 + e.2 % 65536 * 256 + 2 ^ 31
  if (List.range 512).any fun i => s.word (at' i) == w then s
  else match (List.range 512).find? fun i => !bitAt (s.word (at' i)) 31 with
    | some i => s.setWord (at' i) w
    | none => s

/-- Apply one entry to the copy at `b`. -/
def State.putAdd (s : State) (b : Nat) (x : WearAdd) : State :=
  let t := foldEach (fun (e : Nat × Nat) t => t.putMark b e.1 2 e.2) x.marks s
  let t := foldEach (fun p t => if t.byte (b + 0x40 + 8 * p) = 0 then t.putMark b p 3 3 else t) x.aged t
  let t := foldEach (fun (e : Nat × List Nat) t => t.putTaps b e.1 e.2) x.taps t
  let t := foldEach (fun e t => t.putRow b e) x.rows t
  let t := foldEach (fun (e : Nat × Nat) t => t.setNum (b + 0x40 + 8 * e.1 + 2) 2 e.2) x.ages t
  let t := match x.rot with
    | some r => t.setWord (b + 8) r
    | none => t
  let t := if x.run then t.setNum (b + 0x0E) 2 (satAdd 0xFFFF (t.num (b + 0x0E) 2)) else t
  if x.part then t.setByte (b + 0x0D) (satAdd 0xFF (t.byte (b + 0x0D))) else t

/-- A blank record. -/
def State.blankWear (s : State) (b : Nat) : State :=
  ((s.zeroMem b 0x4000).setWord b wearMagic).setBytes (b + 0xA00) (List.replicate 720 0xFF)

/-- Close a record with WSEQ and CRC. -/
def State.sealWear (s : State) (b : Nat) : State := s.setWord (b + 0x3FFC) (crc32 (s.bytes b 0x3FFC))

/-- Alder writes the wear record: the copy that does not hold the higher valid WSEQ, with WSEQ raised by one; where the write fails, the
entry awaits the next one (R427, R428). -/
def State.wearWrite (s : State) (x : WearAdd) (ok : Bool) : State :=
  let q := s.st.pend ++ [x]
  if !ok then { s with st := { s.st with pend := q } }.flag Reg.ST_EVT.WEAR_ERR 0
  else
    let k := s.wearCopy
    let dst := wearBase (match k with | some 0 => 1 | _ => 0)
    let t := match k with
      | some c => (s.copyMem (wearBase c) dst 0x4000).setWord (dst + 4) (wearSeq s c + 1)
      | none => (s.blankWear dst).setWord (dst + 4) 1
    let t := (foldEach (fun x t => t.putAdd dst x) q t).sealWear dst
    { t with st := { t.st with pend := [], copy := some (match k with | some 0 => 1 | _ => 0) } }

/-! ## Verdicts (R425) -/

def verdictBase (k : Nat) : Nat := 0x4C000500 + 0x400 * k

/-- Does a word of a Clay area hold a double-bit error? -/
def State.clayBad (s : State) (a n : Nat) : Bool := s.eccBad.any fun w => a ≤ w && w < a + n

/-- Is a verdict record valid? -/
def State.verdictOk (s : State) (k : Nat) : Bool :=
  let b := verdictBase k
  !s.clayBad b 0x400 && s.word b != 0 && s.word (b + 0x3FC) == crc32 (s.bytes b 0x3FC)

def State.verdictSeq (s : State) (k : Nat) : Nat := s.word (verdictBase k)
def State.verdictDone (s : State) (k : Nat) : Bool := bitAt (s.word (verdictBase k + 4)) 31

/-- The last good verdict. -/
def State.lastGood (s : State) : Option Nat :=
  let good (k : Nat) : Bool := s.verdictOk k && s.verdictDone k
  if good 0 ∧ (!good 1 ∨ s.verdictSeq 1 ≤ s.verdictSeq 0) then some 0 else if good 1 then some 1 else none

/-- The record of an interrupted run that is newer than the last good verdict. -/
def State.partialRec (s : State) : Option Nat :=
  let k := match s.lastGood with | some 0 => 1 | _ => 0
  let newer : Bool := match s.lastGood with
    | some g => decide (s.verdictSeq g < s.verdictSeq k)
    | none => true
  if s.verdictOk k && !s.verdictDone k && newer then some k else none

/-- The verdict byte of a physical unit. -/
def State.verdictOf (s : State) (k p : Nat) : Nat := s.byte (verdictBase k + 0x20 + p) % 4

/-- The last verdict of a unit: that of an interrupted run where its group completed, else that of the last good record. -/
def State.lastVerdict (s : State) (part good : Option Nat) (p : Nat) : Nat :=
  let v := match part with | some k => s.verdictOf k p | none => 0
  if v ≠ 0 then v else match good with | some k => s.verdictOf k p | none => 0

/-- Write the CRC of a verdict record. -/
def State.sealVerdict (s : State) (k : Nat) : State := s.setWord (verdictBase k + 0x3FC) (crc32 (s.bytes (verdictBase k) 0x3FC))

/-! ## The spare map (R416, R417, R426) -/

def mapBase : Nat := 0x4C000100

/-- Does Clay hold a map with a valid CRC and no double-bit error? -/
def State.clayMapOk (s : State) : Bool :=
  !s.clayBad mapBase 0x400 && s.word mapBase == 0x50414D53 && s.word (mapBase + 0x3FC) == crc32 (s.bytes mapBase 0x3FC)

/-- The map that Clay holds. -/
def State.clayMap (s : State) : List MapEnt :=
  (List.range 188).map fun u =>
    let w := s.num (mapBase + 8 + 2 * u) 2
    ⟨bits w 0 9, bits w 12 2, bitAt w 14⟩

/-- The marks on physical units that a map is built with: STATUS and CAUSE. A ladder that failed fails its leg; a unit that failed in a
completed group of an interrupted run counts as marked. -/
def State.markOf (s : State) (part : Option Nat) (upTo p : Nat) : Nat × Nat :=
  let own (q : Nat) : Nat := if s.wearPu q 6 2 ≤ upTo then s.wearPu q 0 1 else 0
  let ladder : Bool := p < 30 && (List.range 3).any fun j => own (207 + 3 * p + j) == 2
  let late : Bool := upTo == 65536 && (match part with | some k => s.verdictOf k p == 2 | none => false)
  if own p = 2 then (2, s.wearPu p 1 1) else if ladder || late then (2, 1) else (own p, s.wearPu p 1 1)

/-- A replacement of one entry. -/
def putEnt (m : List MapEnt) (u : Nat) (e : MapEnt) : List MapEnt := m.zipIdx.map fun x => if x.2 = u then e else x.1

/-- The usable unused spare of a cluster. -/
def spareOf (mark : Nat → Nat × Nat) (ps : List Nat) (m : List MapEnt) : Option Nat :=
  ps.find? fun p => (mark p).1 == 0 && m.all fun e => e.pu != p

/-- One logical unit of a cluster: kept, moved to the spare, or left unusable; an aged unit without a spare stays in service. -/
def mapUnit (mark : Nat → Nat × Nat) (aged : Bool) (ps : List Nat) (m : List MapEnt) (u : Nat) : List MapEnt :=
  let e := m.getD u ⟨0x1FF, 2, false⟩
  let mk := mark e.pu
  if e.state = 2 ∨ mk.1 ≠ (if aged then 3 else 2) then m
  else if !aged && mk.2 == 4 then putEnt m u ⟨0x1FF, 2, true⟩
  else match spareOf mark ps m with
    | some p => putEnt m u ⟨p, 1, false⟩
    | none => if aged then putEnt m u { e with state := 3 } else putEnt m u ⟨0x1FF, 2, e.padf⟩

/-- One pass over every cluster: failed units first, then aged ones. -/
def mapPass (mark : Nat → Nat × Nat) (m : List MapEnt) : List MapEnt :=
  clusters.foldl (fun m c => c.1.foldl (mapUnit mark true c.2) (c.1.foldl (mapUnit mark false c.2) m)) m

/-- Insertion into a rising list without repeats. -/
def insOnce (x : Nat) (l : List Nat) : List Nat := if l.contains x then l else insNat x l

/-- The map built from the wear record: the promotions of every earlier start in their order, so that a promoted spare keeps its logical
unit. -/
def State.builtMap (s : State) (part : Option Nat) : List MapEnt :=
  let seqs := (List.range 297).foldl (fun l p => if s.wearPu p 0 1 = 0 then l else insOnce (s.wearPu p 6 2) l) []
  (seqs ++ [65536]).foldl (fun m w => mapPass (s.markOf part w) m) madeMap

/-- The failed taps that a map lists: ladder PU and tap, at most eight of a ladder. -/
def State.tapList (s : State) : List (Nat × Nat) :=
  (List.range 90).flatMap fun q => (s.wearTaps q).map fun t => (207 + q, t)

/-- Write the map to Clay. -/
def State.writeMap (s : State) (m : List MapEnt) : State :=
  let taps := s.tapList
  let seq := match s.wearCopy with | some k => wearSeq s k | none => 0
  let t := ((s.zeroMem mapBase 0x400).setWord mapBase 0x50414D53).setWord (mapBase + 4) (if 96 < taps.length then 0 else seq)
  let t := foldEach (fun (e : MapEnt × Nat) t =>
    t.setNum (mapBase + 8 + 2 * e.2) 2 (e.1.pu + e.1.state * 4096 + b2n e.1.padf * 16384)) m.zipIdx t
  let t := foldEach (fun (e : (Nat × Nat) × Nat) t => t.setWord (mapBase + 0x180 + 4 * e.2) (e.1.1 + e.1.2 * 65536 + 2 ^ 31))
    (taps.take 96).zipIdx t
  t.setWord (mapBase + 0x3FC) (crc32 (t.bytes mapBase 0x3FC))

/-! ## Rows of the memories (R422) -/

/-- The least number of spare rows of an array: two for each 32 KiB. -/
def leastRows (a : Nat) : Nat :=
  if a < 4 then 16 else if a < 8 then 2 else if a = 8 then 256 else if a < 17 then 4 else if a = 17 then 16 else if a = 18 then 6
  else if a = 19 then 4 else 2

/-- The rows of an array that no spare row replaces. -/
def State.unrepaired (s : State) (a : Nat) : List Nat :=
  ((s.wearRows.filter fun e => e.1 == a).map (·.2)).drop (max (leastRows a) (Config.spareRows a))

/-- The RAM blocks that unrepaired rows make unusable. -/
def State.badBlocks (s : State) : List Nat :=
  ((List.range 8).flatMap fun b => (s.unrepaired (9 + b)).map fun r => 0x900 + 16 * b + Config.rowBlock (9 + b) r % 16)
    ++ (s.unrepaired 17).map fun r => 0x800 + Config.rowBlock 17 r % 64

/-! ## Showing the outcome (R430) -/

/-- AGE of a unit as Alder last read it. -/
def State.showAge (s : State) (p age : Nat) : State :=
  let t := s.wr Reg.SPR_PU.AGE p (min age 1023)
  let u := t.rd Reg.SPR_PU.HOLDER p
  if u < 188 then t.wr Reg.SPR_MAP.AGE u (min age 1023) else t

/-- Show a unit code of the map. -/
def State.showUnit (s : State) (part : Option Nat) (m : List MapEnt) (u : Nat) : State :=
  let e := m.getD u ⟨0x1FF, 2, false⟩
  let ps := match clusters.find? fun c => c.1.contains u with | some c => c.2 | none => []
  let left := (spareOf (s.markOf part 65536) ps m).isSome
  let age := if e.pu < 297 then s.wearPu e.pu 2 2 else 0
  ((((s.wr Reg.SPR_MAP.PU u e.pu).wr Reg.SPR_MAP.STATE u e.state).wr Reg.SPR_MAP.PADF u (b2n e.padf)).wr
    Reg.SPR_MAP.SPARE_LEFT u (b2n left)).wr Reg.SPR_MAP.AGE u (min age 1023)

/-- Show a physical unit. -/
def State.showPu (s : State) (part good : Option Nat) (m : List MapEnt) (p : Nat) : State :=
  let holder := (m.zipIdx.find? fun e => e.1.pu == p).map (·.2)
  let mk := (s.markOf part 65536 p).1
  let status := if mk = 2 then 2 else if holder.isSome then 0 else if mk = 3 then 3 else if p < 207 then 1 else 0
  ((((s.wr Reg.SPR_PU.HOLDER p (holder.getD 0x1FF)).wr Reg.SPR_PU.STATUS p status).wr Reg.SPR_PU.LAST p (s.lastVerdict part good p)).wr
    Reg.SPR_PU.FAILS p (min 255 (s.wearPu p 4 2))).wr Reg.SPR_PU.AGE p (min 1023 (s.wearPu p 2 2))

/-- Show the figures of the last runs, the rotation and the memories. -/
def State.showRuns (s : State) : State :=
  let good := s.lastGood
  let last := match s.partialRec with | some k => some k | none => good
  let t := ((s.wr Reg.ST_STATUS.NO_VERDICT 0 (b2n good.isNone)).wr Reg.ST_STATUS.PARTIAL 0 (b2n s.partialRec.isSome))
  let t := match good with
    | some k => (t.wr Reg.ST_RUN.SEQ 0 (s.verdictSeq k)).wr Reg.ST_RUN.DUR_MS 0 (bits (s.word (verdictBase k + 0xC)) 0 10)
    | none => t
  let t := match last with
    | some k => (t.wr Reg.ST_GRP.DONE 0 (bits (s.word (verdictBase k + 4)) 16 10)).wr Reg.ST_GRP.PEAK_MW 0
        (bits (s.word (verdictBase k + 0xC)) 16 12)
    | none => t
  let t := match s.wearCopy with
    | some k => ((t.wr Reg.ST_ROT.ROT_PTR 0 (s.word (wearBase k + 8))).wr Reg.ST_ROT.PARTIALS 0 (s.byte (wearBase k + 0xD))).wr
        Reg.ST_ROT.RUNS 0 (s.num (wearBase k + 0xE) 2)
    | none => t
  let bad := (List.range 21).filter fun a => s.unrepaired a != []
  let used := ((List.range 21).map fun a =>
    (s.wearRows.filter fun e => e.1 == a).length - (s.unrepaired a).length).sum
  (((t.wr Reg.ST_MEM.ROWS 0 (min 255 used)).wr Reg.ST_MEM.UNREP 0 bad.length).wr Reg.ST_MEM.FIRST_UNREP 0 (bad.headD 0xFF)).wr
    Reg.ST_STATUS.MEM_UNREP 0 (b2n (bad != []))

/-- The map comes into force: what it shows, the claims that it makes unusable, the cores, the checkers, the lanes and the ladders. -/
def State.useMap (s : State) (part : Option Nat) (m : List MapEnt) : State :=
  let t := foldEach (fun u t => t.showUnit part m u) (List.range 188) s
  let good := s.lastGood
  let t := foldEach (fun p t => t.showPu part good m p) (List.range 297) t
  let st (u : Nat) : MapEnt := m.getD u ⟨0x1FF, 2, false⟩
  let dead := ((List.range 188).filter fun u => (st u).state == 2).filterMap unitRes ++ s.badBlocks ++ s.st.noPu
  let t := (foldEach (fun id t => t.setClaim id 3 0) dead t).showIsoDead
  let t := foldEach (fun c (t : State) => if (st (168 + c)).pu < 0x1FF then t.wr (phyReg c) 0 ((st (168 + c)).pu - 189) else t) [0, 1, 2] t
  let t := t.wr Reg.CPX_MAP.YEW_USED 0 (b2n ([0, 1, 2].any fun c => (st (168 + c)).pu == 192))
  let ret := ([0, 1, 2, 3].map fun p => b2n ((s.markOf part 65536 (189 + p)).1 == 2 ) * 2 ^ p).sum
  let t := t.wr Reg.CPX_MAP.RETIRED 0 ret
  let ok (p : Nat) : Nat := b2n ((s.markOf part 65536 p).1 != 2)
  let t := (((t.wr Reg.CPX_CHK.MAIN_OK 0 (ok 193)).wr Reg.CPX_CHK.SPARE_OK 0 (ok 194)).wr Reg.CPX_CHK.ACTIVE 0
    (b2n ((st 171).pu == 194))).wr Reg.CPX_STATUS.SPARE_CHK 0 (b2n ((st 171).pu == 194))
  let t := t.wr Reg.CPX_STATUS.UNCHK 0 (b2n ((st 171).state == 2))
  foldEach (fun l t => foldEach (fun j t =>
    let p := (st l).pu
    t.wr2 Reg.LEG_LAD.SPARE_TAPS l j (if p < 30 then min 8 (s.wearTaps (3 * p + j)).length else 0)) [0, 1, 2] t) (List.range 24) t

/-- Mark in ST_EVT what a build changed against the map that stood before. -/
def State.mapEvents (s : State) (old new : List MapEnt) : State :=
  let us := List.range 188
  let ent (m : List MapEnt) (u : Nat) := m.getD u ⟨0x1FF, 2, false⟩
  let prom := us.any fun u => (ent new u).state == 1 && (ent new u).pu != (ent old u).pu
  let lost := us.any fun u => (ent new u).state == 2 && (ent old u).state != 2
  let t := s.onlyIf prom fun t => (t.flag Reg.ST_EVT.PROMOTED 0).flag Reg.ST_EVT.RETIRED 0
  let t := t.onlyIf lost fun t => (t.flag Reg.ST_EVT.NO_SPARE 0).flag Reg.ST_EVT.RETIRED 0
  t.onlyIf (us.any fun u => (ent new u).state == 3) (·.flag Reg.ST_EVT.AGE_WARN 0)

/-- The inputs of a start are read (R428): a wear record is built where both copies are invalid, an interrupted run is counted. -/
def State.readWear (s : State) : State :=
  let t := { s with st := { s.st with copy := s.findWear } }.onlyIf (!(s.wearOk 0 && s.wearOk 1)) (·.flag Reg.ST_EVT.WEAR_ERR 0)
  let t : State :=
    if t.wearCopy.isSome then t
    else
      let v (c : Nat) : List Nat := match t.lastGood with
        | some k => (List.range 297).filter fun p => t.verdictOf k p == c
        | none => []
      let u := (t.blankWear (wearBase 0)).setWord (wearBase 0 + 4) (if t.clayMapOk then max 1 (t.word (mapBase + 4)) else 1)
      let u := foldEach (fun p u => u.putMark (wearBase 0) p 2 1) (v 2) u
      let u := (foldEach (fun p u => u.putMark (wearBase 0) p 3 1) (v 3) u).sealWear (wearBase 0)
      { u with st := { u.st with copy := some 0 } }
  if t.partialRec.isSome then t.flag Reg.ST_EVT.PARTIAL_RUN 0 else t

/-- BUILD_MAP (R416). -/
def State.buildMap (s : State) : State :=
  let t := s.readWear
  let seq := match t.wearCopy with | some k => wearSeq t k | none => 0
  let held : Bool := t.clayMapOk && t.word (mapBase + 4) == seq
  let old := if t.clayMapOk then t.clayMap else madeMap
  let part := t.partialRec
  let m := if held then mapPass (t.markOf part 65536) old else t.builtMap part
  let m := m.zipIdx.map fun e => match unitRes e.2 with
    | some id => if t.st.noPu.contains id then { e.1 with state := 2 } else e.1
    | none => e.1
  let t := (t.mapEvents old m).onlyIf (!held) (·.flag Reg.ST_STATUS.MAP_REBUILT 0)
  let count : Bool := part.isSome && !t.st.counted
  let t := t.onlyIf count fun u =>
    let u := u.wearWrite { WearAdd.init with part := true } true
    { u with st := { u.st with counted := true } }
  let t := (t.useMap part m).showRuns
  t.onlyIf (!held || count) (·.writeMap m)

/-! ## The shutdown self-test (R419 to R425) -/

/-- The map in force, as its registers show it. -/
def State.mapNow (s : State) : List MapEnt :=
  (List.range 188).map fun u => ⟨s.rd Reg.SPR_MAP.PU u, s.rd Reg.SPR_MAP.STATE u, s.on Reg.SPR_MAP.PADF u⟩

/-- A run starts: its verdict record, RUNNING and group 0. -/
def State.startRun (s : State) : State :=
  let good := s.lastGood
  let rec' := match good with | some 0 => 1 | _ => 0
  let seq := match good with | some k => s.verdictSeq k + 1 | none => 1
  let b := verdictBase rec'
  let rot := s.rd Reg.ST_ROT.ROT_PTR
  let t := (((s.zeroMem b 0x400).setWord b seq).setWord (b + 4) rot).setWord (b + 8) (s.rd Reg.CLY_CNT.CNT % 2 ^ 32)
  let t := { t.sealVerdict rec' with st := { s.st with rcd := rec', seq := seq, counted := false } }
  let t := ((t.flag Reg.ST_STATUS.RUNNING 0).wr Reg.ST_STATUS.GROUP 0 0).wr Reg.ST_STATUS.LOGIC_FAIL 0 0
  (t.wr Reg.ST_GRP.DONE 0 0).wr Reg.ST_GRP.PEAK_MW 0 0

/-- The physical units behind a partition of L2. -/
def State.partUnits (s : State) (part : Nat) : List Nat :=
  if part < 6 then (run (4 * part) 4).map fun l => s.rd Reg.SPR_MAP.PU l
  else if 7 ≤ part ∧ part < 16 then [180 + (part - 7)]
  else if 16 ≤ part ∧ part < 20 then [189 + (part - 16)]
  else if part = 20 ∨ part = 21 then [193 + (part - 20)]
  else []

/-- The unused spares that L1 tests: legs, converters, comparators, the loop unit, Yew, a checker. -/
def State.spareUnits (s : State) : List Nat :=
  (List.range 195).filter fun p => (p < 170 || 180 ≤ p) && s.rd Reg.SPR_PU.STATUS p == 1

/-- Does L1 test the units of a partition? -/
def State.partInL1 (s : State) (part : Nat) : Bool :=
  let us := s.partUnits part
  7 ≤ part && part < 22 && us != [] && us.all s.spareUnits.contains

/-- The six partitions of L2, in order from ROT_PTR. -/
def State.rotParts (s : State) : List Nat :=
  (((List.range 24).map fun k => (s.rd Reg.ST_ROT.ROT_PTR + k) % 24).filter fun p => !s.partInL1 p).take 6

/-- The physical units that a group judges. -/
def State.judged (s : State) (g : Nat) : List Nat :=
  match g with
  | 0 => run 66 104
  | 1 => run 30 36
  | 2 => run 170 10
  | 4 => run 207 90
  | 7 => s.spareUnits
  | 8 => s.rotParts.flatMap s.partUnits
  | _ => []

/-- The verdict byte of a unit in the running record; a failure of this run stands. -/
def State.putVerdict (s : State) (p v : Nat) : State :=
  let a := verdictBase s.st.rcd + 0x20 + p
  if s.byte a % 4 = 2 then s else s.setByte a v

/-- The arrays that a memory group clears. -/
def State.clearArrays (s : State) (g : Nat) : State :=
  if g = 5 then { s.zeroMem 0x20000000 0x400000 with tcm := [], dcache := [] }
  else if g = 6 then
    { (((s.zeroMem 0x48000000 0x80000).zeroMem 0x49000000 0x40000).zeroMem 0x4A000000 0x18000).zeroMem 0x4B000000 0x10000 with
      fctab := s.fctab.filter (fun e => e.1 < 0x10000), eccBad := s.eccBad.filter fun a => a < tblEcc 1 0 || 2 ^ 33 ≤ a }
  else s

/-- The units that rows left unrepaired make unusable: physical cores. -/
def State.rowCores (s : State) : List Nat :=
  (List.range 4).filter fun c => (s.unrepaired c != [] || s.unrepaired (4 + c) != []) && s.wearPu (189 + c) 0 1 != 2

/-- Ages of every physical unit from the readings of the sensors. -/
def agesOf (rd : List (Nat × Nat)) : List (Nat × Nat) :=
  (List.range 297).filterMap fun p => match sensorOf p with
    | some k => (rd.find? fun e => e.1 == k).map fun e => (p, e.2)
    | none => none

/-- The aged-out units among the readings. -/
def State.agedOut (s : State) (ages : List (Nat × Nat)) : List Nat :=
  let th := s.rd Reg.ST_CFG.AGE_TH
  if th = 0 then [] else (ages.filter fun e => ownSensor e.1 && decide (th ≤ e.2)).map (·.1)

/-- What a group enters in the wear record. -/
def State.groupAdd (s : State) (g : Nat) (r : StResult) : WearAdd :=
  let fails := if g = 5 ∨ g = 6 then [] else (s.judged g).filter r.fails.contains
  let pads := if g = 3 then (r.pads.filter (· < 24)).map (fun l => s.rd Reg.SPR_MAP.PU l) |>.filter (· < 30) else []
  let ages := if g = 9 then agesOf r.ages else []
  { marks := fails.map (fun p => (p, 1)) ++ pads.map fun p => (p, 4)
    aged := s.agedOut ages
    taps := if g = 4 then r.taps.filter fun e => 207 ≤ e.1 && e.1 < 297 else []
    rows := if g = 5 then r.rows.filter (fun e => e.1 ≤ 8) else if g = 6 then r.rows.filter (fun e => 9 ≤ e.1 && e.1 ≤ 20) else []
    rot := if g = 8 then some ((s.rotParts.getLastD 23 + 1) % 24) else none
    ages := ages, run := g == 9, part := false }

/-- A group ends: its verdicts, DONE, the CRC, its failures in the wear record (R425), then the next group. -/
def State.groupDone (s : State) (r : StResult) : State :=
  let g := s.rd Reg.ST_STATUS.GROUP
  let b := verdictBase s.st.rcd
  let x := s.groupAdd g r
  let t := foldEach (fun p t => t.putVerdict p (if r.fails.contains p then 2 else 1)) (s.judged g) s
  let t := foldEach (fun (e : Nat × Nat) t => t.putVerdict e.1 2) (x.marks.filter fun e => e.2 == 4) t
  let t := foldEach (fun (e : Nat × List Nat) t =>
    let a := b + 0x20 + e.1
    t.setByte a ((if 8 < e.2.length then 2 else t.byte a % 4) + min 63 e.2.length * 4)) x.taps t
  let t := foldEach (fun p t => t.putVerdict p 3) x.aged t
  let done := bits (s.word (b + 4)) 16 10
  let t := t.setWord (b + 4) (s.word (b + 4) % 65536 + withBit done g * 65536)
  let t := (t.setWord (b + 0xC) (min r.peak 4095 * 65536)).sealVerdict t.st.rcd
  let t := (t.wr Reg.ST_GRP.DONE 0 (withBit done g)).wr Reg.ST_GRP.PEAK_MW 0 (min r.peak 4095)
  let part := match x.rot with
    | some _ => s.rotParts.find? r.logic.contains
    | none => none
  let t := match part with
    | some p => (t.flag Reg.ST_STATUS.LOGIC_FAIL 0).wr Reg.ST_STATUS.LOGIC_PART 0 p
    | none => t
  let t : State := if g = 8 then
      { t with st := { t.st with noPu := t.st.noPu ++ (r.units.filter fun id =>
          ((id / 256 == 1 && s.rotParts.contains 6) || (id / 256 == 6 && s.rotParts.contains 22)) && resourceOk id
            && !t.st.noPu.contains id) } }
    else t
  let t := t.clearArrays g
  let t : State := if x = WearAdd.init then t else t.wearWrite x r.written
  let t : State := if (g = 5 ∨ g = 6) ∧ t.rowCores ≠ [] then
      t.wearWrite { WearAdd.init with marks := t.rowCores.map fun c => (189 + c, 5) } r.written
    else t
  let t := t.onlyIf (x.marks != [] || x.aged != []) (·.flag Reg.ST_EVT.RETIRED 0)
  if g < 9 then t.wr Reg.ST_STATUS.GROUP 0 (g + 1)
  else
    let t := (t.setWord (b + 0xC) (min r.peak 4095 * 65536 + min r.dur 1023)).setWord (b + 4)
      (t.word (b + 4) % 2 ^ 31 + 2 ^ 31)
    let t := (t.sealVerdict t.st.rcd).showRuns
    let t := foldEach (fun (e : Nat × Nat) t => t.showAge e.1 e.2) x.ages t
    (t.wr Reg.ST_STATUS.RUNNING 0 0).wr Reg.ST_STATUS.GROUP 0 15

/-! ## During operation (R418, R424) -/

/-- The physical unit that a retirement entry means. -/
def State.retiredPu (s : State) (e : Nat) : Option Nat :=
  if 0x1000 ≤ e then some (e - 0x1000)
  else match resUnit e with
    | some u => if s.rd Reg.SPR_MAP.PU u < 297 then some (s.rd Reg.SPR_MAP.PU u) else none
    | none => none

/-- R418: Alder enters the oldest run-time retirement in the wear record; `written` is false where the MRAM write fails. -/
def execWearEntry (written : Bool) (s : State) : Host.Outcome State Fault Refusal :=
  .next (
    match s.retireq with
    | [] => s
    | e :: rest =>
      if !s.present islALD then s
      else match s.retiredPu e with
        | none => { s with retireq := rest }
        | some p =>
          if !written then s.flag Reg.ST_EVT.WEAR_ERR 0
          else
            let t := { s with retireq := rest }.wearWrite { WearAdd.init with marks := [(p, 2)] } true
            let t := (t.flag Reg.ST_EVT.RT_REC 0).flag Reg.ST_EVT.RETIRED 0
            let t := (t.wr Reg.SPR_PU.STATUS p 2).wr Reg.SPR_PU.FAILS p (min 255 (t.wearPu p 4 2))
            t.logEv 0x0006 0 (leBytes 2 p ++ leBytes 2 2))

end Sys2Proof.Machine
end

