-- ==== Sys2Proof/Machine/Reset.lean ====
section
/-! DEFINITION. Islands and their faults, die links, ECC, the P, M and D resets and the start sequence: the commands of
spec/01_architecture.md (R22 to R33) and of spec/17_power_and_clay.md (R395 to R401), and the gate driver supply (R113). -/

namespace Sys2Proof.Machine

/-! ## Islands (R25) and rail sets (R395) -/

/-- The rail set of an island: its number, none for PCV. -/
def islRail (isl : Nat) : Option Nat :=
  if isl ≤ 8 then some 0 else if isl ≤ 0x0D ∨ isl = 0x12 then some 5 else if isl ≤ 0x11 then some 6
  else if isl ≤ 0x20 then some 2 else if isl = 0x21 then some 1 else if isl = 0x22 then some 7 else if isl = 0x23 then some 3
  else if isl = 0x24 then some 4 else if isl = 0x26 then some 8 else none

/-- The number of a rail set. -/
def RailSet.no : RailSet → Nat
  | .pwrC => 0 | .pwrA => 1 | .snsA => 2 | .snsI0 => 3 | .snsI1 => 4 | .cmpC => 5 | .comC => 6 | .safA => 7 | .kalP => 8

/-- The region of a rail set. -/
def railRegion (r : Nat) : Nat := if r < 2 then 0 else if r < 5 then 1 else if r = 5 then 2 else if r = 6 then 3 else if r = 7 then 4 else 5

/-- The islands that a fault of a rail set takes down: those of its region (R29), of its die alone for the rail of an isolator die, whose
loss R33 contains to that die's channels. -/
def railIslands (r : Nat) : List Nat :=
  (List.range 39).filter fun i => match islRail i with
    | some k => if r = 3 ∨ r = 4 then k == r else railRegion k == railRegion r
    | none => false

def State.railUp (s : State) (r : Nat) : Bool := SMap.get false s.rails r

/-- The power-good of each region (R395) and RAIL_OK of each island. -/
def State.showRails (s : State) : State :=
  let good (c : Nat) : Nat := b2n ((List.range 9).all fun r => railRegion r != c || s.railUp r)
  let t := s.wr Reg.PWR_STATUS.PG 0 ((List.range 6).map fun c => good c * 2 ^ c).sum
  foldEach (fun i (t : State) => t.wr Reg.ISL_STAT.RAIL_OK i (match islRail i with
    | some r => b2n (s.railUp r)
    | none => 1)) (List.range 39) t

/-- The resources whose units an island holds (R25, R57). -/
def islUnits (isl : Nat) : List Nat :=
  if isl < 6 then run (4 * isl) 4
  else if isl = islTBC then run 0x100 8
  else if isl = islCED then run 0x500 8
  else if isl = islFPC then run 0x600 6
  else if 0x13 ≤ isl ∧ isl ≤ 0x16 then run (0x200 + 8 * (isl - 0x13)) 8
  else if 0x17 ≤ isl ∧ isl ≤ 0x1E then run (0x300 + 12 * (isl - 0x17)) 12
  else if isl = islRXC then run 0xB00 2
  else if isl = islISF then run 0x400 8
  else if isl = 0x23 then run 0x400 4
  else if isl = 0x24 then run 0x404 4
  else []

/-- The stages that claim a unit of an island. -/
def State.stagesIn (s : State) (isl : Nat) : List Nat :=
  stagesWhere fun n => (islUnits isl).any fun id => s.stageOfClaim id == some n

/-- Does an island hold a unit claimed by an enabled stage, or a comparator routed to the trip node of one (R31)? -/
def State.islBusy (s : State) (isl : Nat) : Bool :=
  (s.stagesIn isl).any s.stgEnabled
    || s.routes.any fun r => r.kind == 3 && (islUnits isl).contains r.src && s.stgEnabled (r.dst % 256)

/-! ## The start of the processor complex and of Alder (R292, R308, R436) -/

/-- The complex starts at the release of a reset. -/
def State.cpxStart (s : State) : State :=
  let usable := (List.range 3).filter fun c => !bitAt (s.rd Reg.CPX_MAP.RETIRED) (s.rd (phyReg c))
  let mask := (usable.map fun c => 2 ^ c).sum
  let indep : Bool := s.pwr.bootsel || s.on Reg.IMG_STATUS.BOOT_INDEP
  let t := (s.setCpx { CpxS.init with
    pc := 4 * s.rd Reg.CPX_VEC.VEC 0, testAt := s.now + 500000, repAt := s.now + 1000 }).latchCfg
  let t := t.setCpx { t.cpx with syncAt := t.now + 500 * t.cpx.sync }
  if usable = [] then t.cpxHalt 1
  else if indep then t.toMode cpxSplit mask
  else if t.on Reg.CPX_STATUS.UNCHK then t.toMode cpxSingle (2 ^ usable.headD 0)
  else match usable.length with
    | 3 => t.toMode cpxVoted 7
    | 2 => t.toMode cpxPair mask
    | _ => t.toMode cpxSingle mask

/-- SEQ of a record of the event log, 0 where its CRC fails. -/
def State.logSeqAt (s : State) (i : Nat) : Nat :=
  let a := logBase + 0x40 * i
  if s.word (a + 0x3C) = crc32 (s.bytes a 0x3C) then s.word a else 0

/-- A binary search of the newest record of the ring: the last index up to which SEQ rises from that of record 0. -/
def State.logSearch (s : State) (first : Nat) : Nat → Nat → Nat → Nat
  | 0, lo, _ => lo
  | k + 1, lo, hi =>
    if hi ≤ lo + 1 then lo
    else
      let mid := (lo + hi) / 2
      let v := s.logSeqAt mid
      if v ≠ 0 ∧ first ≤ v then s.logSearch first k mid hi else s.logSearch first k lo mid

/-- Alder takes the log head from the Clay header, or finds it where the header disagrees with its record (R436). -/
def State.logHead (s : State) : State :=
  let i := s.word 0x4C000008 % 14336
  let q := s.word 0x4C00000C
  if !s.clayBad 0x4C000000 0x100 && q != 0 && s.logSeqAt i == q then (s.wr Reg.ALD_LOGIDX.HEAD 0 i).wr Reg.ALD_LOG.HEAD_SEQ 0 q
  else
    let first := s.logSeqAt 0
    let j := if first = 0 then 0 else s.logSearch first 14 0 14336
    (s.wr Reg.ALD_LOGIDX.HEAD 0 j).wr Reg.ALD_LOG.HEAD_SEQ 0 (s.logSeqAt j)

/-- The record of a start (R434). -/
def State.startRecord (s : State) (src : Nat) : State :=
  s.logEv 0x0009 src (leBytes 4 (s.regWord Reg.PWR_EVT.VLV_FALL 0) ++ leBytes 4 (s.regWord Reg.CLY_STAT.WAKE_CAUSE 0))

/-! ## What an island holds behind its registers -/

/-- The bus masters that an island sends for. -/
def islMasters (isl : Nat) : List Master :=
  if isl = islCPX then [.ash, .elm, .oak] else if isl = islALD then [.alder] else if isl = islHP0 then [.h0]
  else if isl = islHP0 + 1 then [.h1] else []

/-- The requests that a sending island has outstanding go on without it (R28): a write completes as it stood and no reply is delivered; a
read has no taker left. DEDUCED: these requests have reached their receiver, which only waits for its unit or its table. -/
def State.orphan (s : State) (isl : Nat) : State :=
  let mine (m : Option Master) : Bool := (islMasters isl).any fun k => m == some k
  { s with
    cedq := (s.cedq.filter fun e => !(mine e.m && e.rd)).map fun e => if mine e.m then { e with m := none } else e
    tblq := (s.tblq.filter fun e => !(mine e.m && !e.wr)).map fun e => if mine e.m then { e with m := none } else e }

/-- Does a reset of FPC leave a word with a double-bit error as it is? It fills the sine table afresh (R227). -/
def tblKept (a : Nat) : Bool := a < tblEcc 0 0 || tblEcc 0 4096 ≤ a

/-- The records of the units of an island take their initial values; an access that waits for it is discarded with a bus error (R28). -/
def State.clearUnits (s : State) (isl : Nat) : State :=
  let lo := (isl - 0x13)
  if isl < 6 then { s with legs := s.legs.filter fun e => e.1 / 4 != isl }
  else if isl = islTBC then { s with tbs := [] }
  else if isl = islCED then foldEach (fun e t => t.errTo e.m e.addr) s.cedq
    { s with lus := [], linkq := [], cedq := [], pulses := s.pulses.filter fun p => p.rt.kind != 2 }
  else if isl = islFPC then
    foldEach (fun e t => t.errTo e.m (tblPortAddr)) s.tblq { s with
      fcs := foldEach (fun n m => SMap.set FcS.init m n { FcS.init with hold := (s.fc n).hold, holdAt := (s.fc n).holdAt }) (List.range 8) []
      poss := foldEach (fun n m => SMap.set PosS.init m n { PosS.init with
        lvl := (s.pos n).lvl, raw := (s.pos n).raw, since := (s.pos n).since, hiAt := (s.pos n).hiAt }) (List.range 4) []
      rss := [], emus := [], tblq := [], fctab := s.fctab.filter (fun e => 0x10000 ≤ e.1), eccBad := s.eccBad.filter tblKept }
  else if isl = islCPX then { s with cpx := CpxS.init, dcache := [] }
  else if isl = islALD then { s with logq := [], logGap := true, replies := [], aldLoad := 0, aldHot := false, houseAt := none, aldScan := 0 }
  else if isl = islMON then { s with mons := [] }
  else if isl = islCAN then { s with cans := [] }
  else if isl = islCHN then { s with ch := ChS.init }
  else if isl = islHP0 then s.hpClear 0
  else if isl = islHP0 + 1 then s.hpClear 1
  else if isl = islCLK then { s with clk := ClkS.init }
  else if 0x13 ≤ isl ∧ isl ≤ 0x16 then
    { s with
      adcs := s.adcs.filter (fun e => e.1 / 8 != lo), seqs := SMap.drop lo s.seqs, pairs := s.pairs.filter fun e => e.1 / 4 != lo
      pulses := s.pulses.filter fun p => !((p.rt.kind == 1 || p.rt.kind == 5) && p.rt.dst % 256 / 8 == lo) }
  else if 0x17 ≤ isl ∧ isl ≤ 0x1E then { s with glitch := s.glitch.filter fun e => !(e.1 / 256 == 3 && e.1 % 256 / 12 == isl - 0x17) }
  else if isl = islRXC then foldEach (fun r (t : State) => t.setRsv r { t.rsv r with exc := 0 }) [0, 1] s
  else if isl = islISF then { s with isos := [] }
  else if isl = islRWN then { s with rows := [], rowg := RowG.init, rowrs := [], rowanAt := none, ains := [] }
  else s

/-- The dynamic claims whose enables lie in an island are released (R61). -/
def State.dropIsland (s : State) (isl : Nat) : State :=
  let free (t : State) (ids : List Nat) : State := foldEach (fun id t => if t.claimState id = 2 then t.setClaim id 0 0 else t) ids t
  let lo := isl - 0x13
  if 0x13 ≤ isl ∧ isl ≤ 0x16 then
    free s ((s.seq lo).claims ++ (s.seq lo).old ++ run (0x200 + 8 * lo) 8 ++ (run (4 * lo) 4).flatMap fun k => (s.pair k).claims)
  else if isl = islFPC then
    free s (run 0x600 6 ++ ([0, 1].flatMap fun r => (s.rsv r).claims) ++ [0, 1, 2, 3].flatMap fun e => (s.emu e).claims)
  else if isl = islISF then free s (run 0x400 8)
  else s

/-- What a reset of an island loads again: trims and offsets from Clay (R148, R176, R223), the enables of Rowan's channels (R179). -/
def State.reload (s : State) (isl : Nat) : State :=
  if 0x13 ≤ isl ∧ isl ≤ 0x16 then foldEach (fun a t => t.loadAdcTrims a) (run (8 * (isl - 0x13)) 8) s
  else if isl = islISF then
    (foldEach (fun c (t : State) => ((t.loadIsoTrims c).onlyIf (t.isoOfRowan c) (·.flag Reg.ISO_CTRL.EN c)).isoRestart c) (List.range 8) s).showIsoDead
  else if isl = islFPC then foldEach (fun n t => t.loadOffs n) (List.range 8) s
  else s

/-- The epochs that a reset of an island advances (R317). -/
def islEpochs (s : State) (isl : Nat) : List Nat :=
  if isl = islCPX then (if s.splitMode then [0, 1, 2] else [0])
  else if isl = islALD then [3] else if isl = islHP0 then [4] else if isl = islHP0 + 1 then [5] else if isl = islRWN then [6] else []

/-- Rowan's holds end and its armed codes read SS_OFF with STALE (R267). -/
def State.rowanGone (s : State) : State :=
  let t := s.resetFields fun f _ _ => f.blk == 1 && f.off == Reg.STG_ARMED.SB.off
  t.showLines.showAllActive.showChop

/-- An island enters D reset (R12, R28, R31). -/
def State.enterReset (s : State) (isl : Nat) : State :=
  let t := foldEach (fun e t => t.advanceEpoch e) (islEpochs s isl) s
  let t := t.dropIsland isl
  let t := t.resetFields fun f i j => f.cls == .pmd && islandAt (f.addr i j) == isl
  let t := ((t.clearUnits isl).orphan isl).onlyIf (isl == islRWN) (·.rowanGone)
  let t := ((t.wr Reg.ISL_STAT.IN_RESET isl 1).reload isl).onlyIf (decide (isl ≤ islTBC)) (·.showLadders)
  t.onlyIf (decide (0x17 ≤ isl) && decide (isl ≤ 0x1E)) (·.showAllActive)

/-- An island leaves D reset where nothing holds it; the complex and Alder start. -/
def State.leaveReset (s : State) (isl : Nat) : State :=
  let ok : Bool := s.on Reg.ISL_STAT.POWERED isl && s.on Reg.ISL_STAT.RAIL_OK isl && s.on Reg.ISL_STAT.CLK_OK isl
    && !s.on Reg.ISL_STAT.FAULT isl && (SMap.get none s.pwr.hold isl).isNone && (SMap.get none s.pwr.pup isl).isNone
    && !s.st.under.contains isl
  if !ok || !s.on Reg.ISL_STAT.IN_RESET isl then s
  else
    let t := s.wr Reg.ISL_STAT.IN_RESET isl 0
    if isl = islCPX then t.cpxStart
    else if isl = islISF then t.isoResetEnd
    else if isl = islALD then t.logHead.startRecord (0x80 + t.rd Reg.CLY_STAT.WAKE_CAUSE 0)
    else t

/-! ## Island faults (R31, R33) -/

/-- An island fault: every stage that claims a unit there trips, then the island is held in D reset until it is released. -/
def State.islandFault (s : State) (isl : Nat) : State :=
  let t := (s.tripStages (s.stagesIn isl)).enterReset isl
  (t.flag Reg.ISL_STAT.FAULT isl).flag Reg.PWR_EVT.ISL_FAULT 0

/-- An island loses its clock. -/
def State.clockLost (s : State) (isl : Nat) : State := (s.wr Reg.ISL_STAT.CLK_OK isl 0).islandFault isl

/-- R31: the clock monitor of an island finds its clock lost. -/
def execIslandClockLost (isl : Fin 37) (s : State) : Host.Outcome State Fault Refusal :=
  .next (s.onlyIf (s.on Reg.ISL_STAT.POWERED isl.val && s.on Reg.ISL_STAT.CLK_OK isl.val) (·.clockLost isl.val))

/-- The islands that stand still without CLK: every one that PLL-T, PLL-S or PLL-C clocks. -/
def loopIslands : List Nat := (List.range 39).filter fun i => !([0x10, 0x11, 0x12, islRWN, islPCV, islCLY].contains i)

/-! ## Die links (R23) -/

def Links.set (l : Links) (k : DieLink) (b : Bool) : Links :=
  match k with
  | .edge => { l with edge := b }
  | .ret => { l with ret := b }
  | .sample => { l with sample := b }
  | .control => { l with control := b }
  | .clockForward => { l with clockForward := b }
  | .isol0 => { l with isol0 := b }
  | .isol1 => { l with isol1 := b }

/-- The trip nodes at which a lost link is a source, class GENERAL (R123). -/
def State.linkTrips (s : State) (k : DieLink) : List Nat :=
  match k with
  | .edge => List.range 8
  | .sample => stagesWhere s.readsLink
  | .clockForward => stagesWhere s.claimsDieA
  | _ => []

/-- A die link is lost. -/
def State.dieLinkLost (s : State) (k : DieLink) : State :=
  let ns := s.linkTrips k
  let t : State := { s with links := s.links.set k true, linkq := if k = DieLink.sample then [] else s.linkq }
  let t := t.tripStages ns
  let t : State := match k with
    | .ret => foldEach (fun l t => t.showAdt l) (List.range 24) t
    | .isol0 => foldEach (fun c t => t.isoAbandon c) (run 0 4) t
    | .isol1 => foldEach (fun c t => t.isoAbandon c) (run 4 4) t
    | .clockForward => foldEach (fun i (t : State) => if t.on Reg.ISL_STAT.CLK_OK i then t.clockLost i else t) forwardIslands t
    | _ => t
  t.showAllActive

/-! ## Rail faults (R33) -/

/-- The die links whose heartbeats stop with a rail set: those that a powered-down end of the die drives. DESIGN CHOICE: R33 speaks of the
affected links and names none. -/
def railLinks (r : Nat) : List DieLink :=
  match r with
  | 0 => [.edge, .ret, .sample]
  | 1 => [.edge, .ret]
  | 2 => [.sample, .isol0, .isol1]
  | 3 => [.isol0]
  | 4 => [.isol1]
  | 5 => [.edge, .ret, .sample, .control, .clockForward]
  | _ => []

/-- A rail set falls (R31, R33): the stages with units in the region trip, and its islands are held in D reset. The safety region falls
to the fail-safe levels of R113; the keep-alive rail is no island fault. -/
def State.railFall (s : State) (r : Nat) : State :=
  let t := { s with rails := SMap.set false s.rails r false }.showRails.flag Reg.PWR_EVT.PG_FAIL 0
  if r = 8 then t
  else
    let isls := railIslands r
    let t := t.tripStages (stagesWhere fun n => isls.any fun i => (s.stagesIn i).contains n)
    let t := foldEach (fun i t => t.islandFault i) isls t
    let t := if r = 5 then foldEach (fun i (t : State) => if t.on Reg.ISL_STAT.CLK_OK i then t.clockLost i else t) loopIslands t else t
    foldEach (fun k t => t.dieLinkLost k) (railLinks r) t

/-- R33: the power-good of a rail set goes low. -/
def execRailFault (set : RailSet) (s : State) : Host.Outcome State Fault Refusal :=
  .next (s.onlyIf (s.railUp set.no) (·.railFall set.no))

/-- R395: the power-good of a rail set goes high. -/
def execPowerGood (set : RailSet) (s : State) : Host.Outcome State Fault Refusal :=
  .next { s with rails := SMap.set false s.rails set.no true }.showRails

/-! ## Die link commands (R23) -/

/-- R23: a missing heartbeat is detected. -/
def execDieLinkLoss (link : DieLink) (s : State) : Host.Outcome State Fault Refusal := .next (s.dieLinkLost link)

/-- R23: heartbeats resume; the islands that the clock forward held have their clock again: those that faulted await their release (R31). -/
def execDieLinkReturn (link : DieLink) (s : State) : Host.Outcome State Fault Refusal :=
  .next (
    let t : State := { s with links := s.links.set link false }
    let t : State := match link with
      | .ret => foldEach (fun l t => t.showAdt l) (List.range 24) t
      | .clockForward => if s.clk.tRun ∧ s.links.clockForward then foldEach (fun i t => t.clkIsland i) forwardIslands t else t
      | _ => t
    t.showAllActive)

/-! ## Crossings and ECC (R27, R33) -/

/-- R27: an access to an island that is present has no acknowledge within 10 µs: a bus error, the request is discarded, Alder logs it. -/
def execCrossingTimeout (m : Master) (isl : Fin 39) (addr : BitVec 32) (s : State) : Host.Outcome State Fault Refusal :=
  .next (
    let mine (a : Nat) : Bool := a == addr.toNat
    let t := { s with tblq := s.tblq.filter fun e => !(e.m == some m && mine (tblPortAddr)),
                      cedq := s.cedq.filter fun e => !(e.m == some m && mine e.addr) }
    (t.busErr m addr.toNat).onlyIf (s.reach isl.val) (·.logEv 0x0001 isl.val (leBytes 4 addr.toNat)))

/-- R33: a single-bit error met by a read is corrected and written back. -/
def execEccSingleBit (addr : BitVec 32) (s : State) : Host.Outcome State Fault Refusal :=
  .next (match memRangeOf addr.toNat with
    | some (_, _, isl) => s.onlyIf (s.present isl) (·.eccCount addr.toNat 0)
    | none => s.onlyIf (decide (addr.toNat = tblPortAddr) && s.present islFPC) (·.eccCount s.portEntry 0))

/-- A double-bit error in a word of TCM: the core's access ends in a bus error, and in a voted mode that core's copy alone is bad (R297, R311).
DESIGN CHOICE: no master reaches Yew's TCM, so during PROMOTING the address named with Alder, whose background work the fill is (R34,
R299), stands for the copy in Yew. -/
def State.tcmBad (s : State) (m : Master) (off : Nat) : State :=
  let a := 0x10000000 + off
  match coreOf m with
  | some c =>
    let k := tcmEcc c (off / 4 * 4)
    (({ s with eccBad := if s.eccBad.contains k then s.eccBad else s.eccBad ++ [k] }).eccMet (a / 4 * 4) islCPX).busErr m a
  | none =>
    if s.mode = cpxPromoting ∧ m = .alder then (s.eccMet (a / 4 * 4) islCPX).setCpx { s.cpx with yewBad := true } else s.busErr m a

/-- R33, R409: a double-bit error met by an access of a master; at the data register of the table port it stands in the entry that the port
names (R230). -/
def execEccDoubleBit (m : Master) (addr : BitVec 32) (s : State) : Host.Outcome State Fault Refusal :=
  .next (match memRangeOf addr.toNat with
    | some (base, _, isl) =>
      if !s.reach isl then s.busErr m addr.toNat
      else if base = 0x10000000 then s.tcmBad m (addr.toNat - 0x10000000)
      else s.eccMeet m addr.toNat isl
    | none =>
      if addr.toNat = tblPortAddr ∧ s.reach islFPC then
        { s with eccBad := if s.eccBad.contains s.portEntry then s.eccBad else s.eccBad ++ [s.portEntry] }.tblAccess m false 0
      else s.busErr m addr.toNat)

/-- R33: a run-time fault of a unit that a stage claims; of a loop unit it is a parity error, which stops the unit (R211, R212). -/
def execUnitRuntimeFault (id : Fin 4096) (s : State) : Host.Outcome State Fault Refusal :=
  .next (
    let k := id.val / 256
    s.onlyIf (resourceOk id.val && (k == 0 || (2 ≤ k && k ≤ 5)) && s.claimState id.val != 0 && s.claimState id.val != 3)
      (if k = 5 then (·.luStop (id.val % 256) Reg.LU_STAT.PARITY) else (·.unitFault id.val)))

/-! ## Gate driver supply (R113) -/

/-- R113: VGIO rises: every polarity latch is unloaded. -/
def execVgioRise (s : State) : Host.Outcome State Fault Refusal :=
  .next (if s.vgio then s else
    foldEach (fun l (t : State) => t.setPad l { t.pad l with polH := none, polL := none }) (List.range 24) { s with vgio := true })

/-- R113: VGIO falls away: the latches lose their values. -/
def execVgioFall (s : State) : Host.Outcome State Fault Refusal :=
  .next (foldEach (fun l (t : State) => t.setPad l { t.pad l with polH := none, polL := none }) (List.range 24) { s with vgio := false })

/-! ## P and M resets (R12, R32) -/

/-- The gate pads at a P or M reset: a tripped stage keeps its safe state, every other leg is held off. -/
def State.holdPads (s : State) : State :=
  let held := (stagesWhere s.stgTripped).flatMap fun n => (s.stgLegs n).map fun l => (l, s.rd Reg.STG_TRIP.SS n)
  foldEach (fun l (t : State) =>
    let code := ((held.find? fun e => e.1 == l).map (·.2)).getD 0
    let p := t.pad l
    t.setPad l { p with ov := true, ovH := ssOn code .hi && p.ovH, ovL := ssOn code .lo && p.ovL }) (List.range 24) s

/-- Is a field held in Clay? NEXT_PREF and the Clay fields of the power window (R406, R412). -/
def clayHeld (f : FD) : Bool := (f.blk == 11 && 0x1000 ≤ f.off) || (f.blk == 16 && f.off == 4 && f.lo == 4)

/-- The levels of the supplies show through a reset. -/
def supplyLevels : List FD :=
  [Reg.PWR_STATUS.VLV_OVR, Reg.PWR_STATUS.SRC, Reg.PWR_STATUS.HVA_AC, Reg.PWR_STATUS.HVA_OK, Reg.PWR_STATUS.VLV_OK]

/-- Everything behind the registers at a P or M reset, but for what the gate pads, Clay, MRAM, the supplies and the wear record hold. -/
def State.clearHidden (s : State) : State :=
  { s with
    resp := [], rhold := [], whold := [], caps := [], tbs := [], legs := [], adcs := [], seqs := [], pairs := [], isos := [], linkq := []
    ains := [], rowanAt := none, glitch := [], lus := [], cedq := [], fcs := [], fctab := s.fctab.filter (fun e => 0x10000 ≤ e.1)
    eccBad := s.eccBad.filter tblKept, tblq := [], poss := [], rss := []
    emus := [], routes := [], pulses := [], logGap := s.logGap || s.logq != [], logq := [], logLost := 0, rows := [], rowg := RowG.init
    rowrs := [], cpx := CpxS.init, img := ImgS.init, dcache := [], ch := ChS.init, chOut := [], pins := [], cans := [], clk := ClkS.init
    hps := [], replies := [], mons := [], aldLoad := 0, aldHot := false, houseAt := none, aldScan := 0
    pwr := { s.pwr with begun := false, wake := none, hold := [], pup := [] }, st := { s.st with under := [], made := [] } }

/-- An M reset (R32). -/
def State.mReset (s : State) : State :=
  let t := s.holdPads.clearHidden.resetFields fun f _ _ => f.cls == .pm || f.cls == .pmd
  let t := foldEach (fun f (t : State) => t.wr f 0 (s.rd f 0)) supplyLevels t
  t.showRails.showAllActive

/-- Volatile memories read 0 after a start from power: MRAM and Clay keep their contents. -/
def State.powerMem (s : State) : State :=
  let keeps (a : Nat) : Bool := a < 0x1000000 || (0x4C000000 ≤ a && a < 0x4C004000)
  { s with mem := s.mem.filter (fun e => keeps e.1), eccBad := s.eccBad.filter keeps, tcm := [], fctab := [], ecc := [], retireq := [] }

/-- A P reset: every field but those held in Clay. -/
def State.pReset (s : State) : State :=
  let t := s.holdPads.clearHidden.powerMem.resetFields fun f _ _ => !clayHeld f
  let t := { t with links := Links.init, rails := SMap.set false [] 8 true, logGap := false }
  let t := foldEach (fun f (t : State) => t.wr f 0 (s.rd f 0)) supplyLevels t
  t.showRails.showAllActive

/-- R32: a P reset. -/
def execPowerOnReset (s : State) : Host.Outcome State Fault Refusal := .next s.pReset

/-- R32: an M reset. -/
def execModuleReset (s : State) : Host.Outcome State Fault Refusal := .next s.mReset

/-! ## The start sequence (R51, R399) -/

/-- Record the cause of a start in Clay (R411). -/
def State.wakeCause (s : State) (c : Nat) : State := s.wr Reg.CLY_STAT.WAKE_CAUSE 0 c

/-- The slots in start order (R51). -/
def State.slotOrder (s : State) : List Nat :=
  let p := s.byte 0x4C000000 % 4
  if p = 1 then [0, 1]
  else if p = 2 then [1, 0]
  else
    let ok (k : Nat) : Bool := s.headerFail k == 0
    let q (k : Nat) : Nat := s.imgNum k 0x0C 4
    if ok 0 && ok 1 then (if q 0 < q 1 then [1, 0] else [0, 1]) else if ok 1 then [1, 0] else [0, 1]

/-- Verify the slots in order and apply the first that passes. -/
def State.chooseImage (s : State) (first : Bool) : List Nat → State
  | [] => s
  | k :: t =>
    let v := s.verify k
    if v.1 = 0 then (s.applyImage k (!first)).imgRecord k
    else ((s.imgFailed k v.1 v.2).imgRecord k).chooseImage false t

/-- The islands that are clocked once CLK runs on its oscillator: all but those that wait for PLL-T and PLL-C. -/
def oscIslands : List Nat := (List.range 39).filter fun i => !((pllIslands 0).contains i || (pllIslands 2).contains i)

/-- The rails have risen and the reset is released: power, clocks and D resets of the islands. -/
def State.railsRise (s : State) : State :=
  let t := { s with rails := foldEach (fun r m => SMap.set false m r true) (List.range 9) [] }.showRails
  let t := foldEach (fun i (t : State) => t.wr Reg.ISL_STAT.POWERED i 1) (List.range 39) t
  foldEach (fun i (t : State) => (t.wr Reg.ISL_STAT.CLK_OK i 1).wr Reg.ISL_STAT.IN_RESET i 0) oscIslands t

/-- Alder fills the band table from MRAM (R380). -/
def State.fillBands (s : State) (ws : List Nat) : State :=
  foldEach (fun i (t : State) =>
    let v := ws.getD i 0
    let t := foldEach (fun (f : FD) t => t.wr f i (bits v f.lo f.w))
      [Reg.CLK_BAND.VALID, Reg.CLK_BAND.USE, Reg.CLK_BAND.F_LO, Reg.CLK_BAND.F_HI, Reg.CLK_BAND.CODE] t
    t) (List.range 32) s

/-- The start sequence: `bands` and `trims` are the factory words that MRAM holds (R380, R399). -/
def State.start (s : State) (bootsel : Bool) (bands trims : List Nat) : State :=
  let t := s.railsRise
  let t := { t with pwr := { t.pwr with bootsel := bootsel, begun := true }, clk := { t.clk with wait := some t.now } }
  let t := t.fillBands bands
  let t := foldEach (fun k (t : State) => t.pllEn k true) [0, 1, 2] t
  let t := if t.pwr.cold then
      { (foldEach (fun (e : Nat × Nat) (t : State) => t.setWord (0x4C000D00 + 4 * e.2) e.1) (trims.take 160).zipIdx t) with
        pwr := { t.pwr with cold := false } }
    else t
  let t := t.logHead.buildMap
  let t := foldEach (fun i t => t.reload i) ([0x13, 0x14, 0x15, 0x16, islFPC] ++ if s.on Reg.ISL_STAT.IN_RESET islISF then [islISF] else []) t
  let order := t.slotOrder
  let t := (t.setByte 0x4C000000 (t.byte 0x4C000000 / 4 * 4)).wr Reg.IMG_CTRL.NEXT_PREF 0 0
  let t := t.showSeqs.chooseImage true order
  let t := t.showAllReady.cpxStart
  let t := t.setWord 0x4C000004 ((t.word 0x4C000004 + 1) % 2 ^ 32)
  let t := (t.onlyIf t.pwr.riseV (·.flag Reg.PWR_EVT.VLV_RISE 0)).onlyIf t.pwr.riseH (·.flag Reg.PWR_EVT.HVA_RISE 0)
  let t := { t with pwr := { t.pwr with riseV := false, riseH := false } }
  (t.startRecord (t.rd Reg.CLY_STAT.WAKE_CAUSE 0)).wr Reg.PWR_STATUS.PWR_STATE 0 2 |>.showPwm

/-- R399: the start sequence runs after a P or M reset. -/
def execStartSequence (bootsel : Bool) (bands trims : List (BitVec 32)) (s : State) : Host.Outcome State Fault Refusal :=
  .next (s.onlyIf (s.pwr.mode == 0 && !s.pwr.begun && s.rd Reg.PWR_STATUS.PWR_STATE == 1)
    (·.start bootsel (bands.map (·.toNat)) (trims.map (·.toNat))))

end Sys2Proof.Machine
end

