-- ==== Sys2Proof/Machine/Alder.lean ====
section
/-! DEFINITION. Alder: its busy state, the event log, housekeeping and management requests (spec/19_alder_and_monitors.md, R431 to R439). -/

namespace Sys2Proof.Machine

/-! ## The busy state (R432) -/

/-- Does a CRIT job run or wait: a start, a load, a shutdown, a retirement entry? -/
def State.aldCrit (s : State) : Bool :=
  s.rd Reg.IMG_STATUS.STATE == 1 || s.rd Reg.PWR_STATUS.PWR_STATE != 2 || s.retireq != []

def State.aldBusy (s : State) : Bool := s.aldHot || s.aldCrit

/-- ALD_STATUS shows the busy state and the running job. -/
def State.showBusy (s : State) : State :=
  (s.wr Reg.ALD_STATUS.BUSY 0 (b2n s.aldBusy)).wr Reg.ALD_STATUS.JOB 0 (b2n s.aldCrit)

/-- A HOUSE job that waits over 10 s is DEFERRED. -/
def State.houseWaits (s : State) : State :=
  match s.houseAt with
  | some t => s.onlyIf (decide (t + 5000000000 ≤ s.now)) (·.flag Reg.ALD_EVT.DEFERRED 0)
  | none => s

/-- A 1 ms window ends with a load in per mille. -/
def State.loadWindow (s : State) (load : Nat) : State :=
  let th := s.rd Reg.ALD_CFG.BUSY_PM
  let n := if th ≤ load then s.aldLoad + 1 else 0
  let hot : Bool := decide (2 ≤ n) || (s.aldHot && !(decide (load + 100 < th) && !s.aldCrit))
  { s.wr Reg.ALD_STATUS.LOAD 0 load with aldLoad := n, aldHot := hot }.houseWaits.showBusy

/-- R432: a 1 ms window ends. -/
def execLoadWindow (load : Fin 1001) (s : State) : Host.Outcome State Fault Refusal :=
  .next (s.onlyIf (s.present islALD) (·.loadWindow load.val))

/-! ## Housekeeping (R424, R431) -/

/-- Alder reads the aging sensors. -/
def State.readAges (s : State) (ages : List (Nat × Nat)) : State :=
  { foldEach (fun (e : Nat × Nat) t => t.showAge e.1 e.2) (agesOf ages) s with houseAt := none }

/-- R424: every 10 s; deferred while Alder is busy. -/
def execAgingRead (ages : List (Fin 93 × Fin 1024)) (s : State) : Host.Outcome State Fault Refusal :=
  .next (
    if !s.present islALD then s
    else if s.aldBusy then { s with houseAt := some (s.houseAt.getD s.now) }.houseWaits
    else s.readAges (ages.map fun e => (e.1.val, e.2.val)))

/-! ## The event log (R433 to R436) -/

/-- The first 28 bytes of a list, filled up with zeros. -/
def dataBytes (l : List Nat) : List Nat := (List.range 28).map fun i => l.getD i 0

/-- The 64 bytes of a record. -/
def logBytes (seq : Nat) (r : LogRec) : List Nat :=
  let b := leBytes 4 seq ++ leBytes 2 r.code ++ [r.src % 256, r.flags % 256] ++ leBytes 8 r.tFirst ++ leBytes 8 r.tLast
    ++ leBytes 4 r.count ++ leBytes 4 0 ++ dataBytes r.data
  b ++ leBytes 4 (crc32 b)

/-- SEQ of the next record: 0 is never used. -/
def nextSeq (q : Nat) : Nat := if (q + 1) % 2 ^ 32 = 0 then 1 else (q + 1) % 2 ^ 32

/-- A record is written into the ring; the head moves to it, in the registers and in the Clay header. -/
def State.putRecord (s : State) (r : LogRec) : State :=
  let q := s.rd Reg.ALD_LOG.HEAD_SEQ
  let seq := nextSeq q
  let idx := if q = 0 then 0 else (s.rd Reg.ALD_LOGIDX.HEAD + 1) % 14336
  let r := if s.logGap then { r with flags := r.flags ||| 2 } else r
  let t := { s.setBytes (logBase + 0x40 * idx) (logBytes seq r) with logGap := false }
  let t := (t.wr Reg.ALD_LOG.HEAD_SEQ 0 seq).wr Reg.ALD_LOGIDX.HEAD 0 idx
  (t.setWord 0x4C000008 idx).setWord 0x4C00000C seq

/-- The next record to write: first the one on lost events (R435), then the oldest pending one. -/
def State.writeNext (s : State) : State :=
  if 0 < s.logLost then
    let n := min s.logLost 0xFFFFFFFF
    { s with logLost := 0 }.putRecord ⟨0x000C, 0, 0, s.chainTime, s.chainTime, n, leBytes 4 n⟩
  else
    match s.logq with
    | r :: rest => (s.setLogq rest).putRecord r
    | [] => s

/-- Write the pending records, `n` at most. -/
def State.drainLog (s : State) : Nat → State
  | 0 => s
  | n + 1 => if s.logLost = 0 ∧ s.logq = [] then s else s.writeNext.drainLog n

/-- R435: Alder writes a pending record; `ok` is false where the MRAM write fails, which is retried. -/
def execLogWrite (ok : Bool) (s : State) : Host.Outcome State Fault Refusal :=
  .next (
    if !s.present islALD ∨ s.aldBusy ∨ (s.logLost = 0 ∧ s.logq = []) then s
    else if ok then s.writeNext else s.flag Reg.ALD_EVT.LOG_ERR 0)

/-- Captures that Alder has not copied and that newer ones have overwritten (R407, R434). -/
def State.capturesLost (s : State) : State :=
  let n := s.pwr.capTot - s.pwr.capDone
  if 64 < n then
    { s.logEv 0x0003 0 (leBytes 4 (n - 64)) with pwr := { s.pwr with capDone := s.pwr.capTot - 64 } }
  else s

/-- Alder copies the oldest capture record that it has not copied. -/
def State.copyCapture (s : State) : State :=
  let t := s.capturesLost
  let n := t.pwr.capTot - t.pwr.capDone
  let i := (t.rd Reg.CLY_STAT.CAP_WR + 64 - n) % 64
  let rec' := t.bytes (0x4C001000 + 16 * i) 16
  let t := { t with pwr := { t.pwr with capDone := t.pwr.capDone + 1 } }
  t.logEv 0x0002 (rec'.headD 0) rec'

/-- R407: Alder copies a capture record into the event log. -/
def execCaptureCopy (s : State) : Host.Outcome State Fault Refusal :=
  .next (s.onlyIf (s.present islALD && decide (s.pwr.capDone < s.pwr.capTot)) (·.copyCapture))

/-! ## Management requests (R437 to R439) -/

/-- The mailbox whose request Alder takes next: ascending, one of each in a pass. -/
def State.nextRequest (s : State) : Option Nat :=
  if !s.present islALD ∨ !s.present islMSG then none
  else
    let l := (List.range 64).filter fun n => s.mbState n == 2 && s.mbRx n == 3
    match l.find? (s.aldScan ≤ ·) with
    | some n => some n
    | none => l.head?

/-- Length and CRC of a request. -/
def requestOk (ws : List Nat) : Bool :=
  decide (8 ≤ ws.length) && ws.getD (ws.length - 1) 0 == crcWords (ws.take (ws.length - 1))

/-- STATUS of the format check: 0, 2 format, 3 unknown code. -/
def requestFormat (ws : List Nat) : Nat :=
  let code := ws.headD 0 % 256
  if !requestOk ws then 2
  else if code = 0 ∨ 6 < code then 3
  else if code = 3 ∧ ws.length < 12 then 2
  else 0

/-- A parameter word; what lies at the CRC or beyond is no parameter and reads 0. -/
def param (ws : List Nat) (k : Nat) : Nat := if k + 1 < ws.length then ws.getD k 0 else 0

/-- The words of a reply. -/
def replyWords (req status retry : Nat) (res : List Nat) : List Nat :=
  let ws := [req % 256 + status * 256 + bits req 16 16 * 65536, retry] ++ (List.range 5).map fun i => res.getD i 0
  ws ++ [crcWords ws]

/-- A reply goes to its mailbox, waits for it, or is undeliverable. -/
def State.sendReply (s : State) (mb src req : Nat) (ws : List Nat) : State :=
  if s.mbRx mb ≠ src then s.logEv 0x000D mb (leBytes 4 req)
  else if s.mbMayFill mb 3 then s.mbSend mb 3 ws
  else { s with replies := s.replies ++ [⟨mb, ws, src, 0, s.now, req⟩] }

/-- Alder takes the request of a mailbox and releases it. -/
def State.takeRequest (s : State) (n : Nat) : State := { s.mbEmpty n with aldScan := n + 1 }

/-- The reply BUSY: nothing is executed. -/
def State.replyBusy (s : State) (src : Nat) (ws : List Nat) : State :=
  let t := (s.next.flag Reg.ALD_EVT.BUSY_REPLY 0).bump Reg.ALD_CNT.BUSY_CNT 0
  t.sendReply (param ws 1 % 64) src (ws.headD 0) (replyWords (ws.headD 0) 1 ((Config.retryMs s.fresh).val + 1) [])

/-- Take the next request if it is one of the given kind, and answer it: `f` executes it, with its sender and words, and gives STATUS
and results. -/
def State.serve (s : State) (kind : List Nat → Bool) (f : State → Nat → List Nat → State × Nat × List Nat) : State :=
  match s.nextRequest with
  | none => s
  | some n =>
    let ws := s.mbWords n
    let src := s.rd Reg.MB_HDR.SENDER n
    if !kind ws then s
    else
      let t := s.takeRequest n
      if s.aldBusy then t.replyBusy src ws
      else
        let r := f t src ws
        r.1.sendReply (param ws 1 % 64) src (ws.headD 0) (replyWords (ws.headD 0) r.2.1 0 r.2.2)

/-- A well-formed request of a code. -/
def isRequest (code : Nat) (ws : List Nat) : Bool := requestFormat ws == 0 && ws.headD 0 % 256 == code

/-- R438: the request STATUS; the running job is the request. -/
def execMgStatus (s : State) : Host.Outcome State Fault Refusal :=
  .next (s.serve (isRequest 1) fun t _ _ =>
    let u := ((t.showBusy).wr Reg.ALD_STATUS.JOB 0 2)
    (t, 0, [u.regWord Reg.ALD_STATUS.LOAD 0, t.rd Reg.ALD_LOG.HEAD_SEQ, t.rd Reg.ALD_LOGIDX.HEAD, t.regWord Reg.IMG_STATUS.STATE 0,
      t.regWord Reg.PWR_STATUS.PWR_STATE 0]))

/-- The record of a LOG_MARK: the pending records go before it. -/
def State.logMark (s : State) (src : Nat) (ws : List Nat) : State :=
  let t := s.drainLog 65
  t.putRecord ⟨0x0080, src, 0, t.chainTime, t.chainTime, 1, (List.range 6).flatMap fun k => leBytes 4 (param ws (k + 2))⟩

/-- R438: the request LOG_MARK. -/
def execLogMark (s : State) : Host.Outcome State Fault Refusal :=
  .next (s.serve (isRequest 2) fun t src ws =>
    let u := t.logMark src ws
    (u, 0, [u.rd Reg.ALD_LOG.HEAD_SEQ]))

/-- The condition of R45: no image is loaded, or the lock is open. -/
def State.keysOpen (s : State) : Bool := s.rd Reg.IMG_STATUS.STATE == 0 || s.on Reg.IMG_STATUS.LOCK_OPEN

/-- A change of the key record by H0 or H1: sender, parameter and state decide (R439). -/
def State.keyChange (s : State) (src : Nat) (ws : List Nat) (fmt ok : Bool) (entry : Nat) (f : State → State) :
    State × Nat × List Nat :=
  if src ≠ 4 ∧ src ≠ 5 then (s, 5, [])
  else if !fmt then (s, 2, [])
  else if !s.keysOpen || !ok then (s, 4, [])
  else ((f s).logEv 0x000B entry (leBytes 4 (param ws 2) ++ leBytes 4 (param ws 3)), 0, [])

/-- R438: the request KEY_WRITE. -/
def execKeyWrite (s : State) : Host.Outcome State Fault Refusal :=
  .next (s.serve (isRequest 3) fun t src ws =>
    let e := param ws 2
    t.keyChange src ws (decide (e < 4)) (t.keyState e == 0) e fun u =>
      (u.setBytes (keyRecord + 0x40 * e) ((List.range 8).flatMap fun k => leBytes 4 (param ws (k + 3)))).setWord
        (keyRecord + 0x40 * e + 0x20) 1)

/-- R438: the request KEY_REVOKE. -/
def execKeyRevoke (s : State) : Host.Outcome State Fault Refusal :=
  .next (s.serve (isRequest 4) fun t src ws =>
    let e := param ws 2
    t.keyChange src ws (decide (e < 4)) (t.keyState e != 0) e fun u => u.setWord (keyRecord + 0x40 * e + 0x20) 3)

/-- R438: the request SVN_RAISE. -/
def execSvnRaise (s : State) : Host.Outcome State Fault Refusal :=
  .next (s.serve (isRequest 5) fun t src ws =>
    let v := param ws 2 % 65536
    t.keyChange src ws true (decide (t.minSvn < v)) 0 fun u => u.setNum (keyRecord + 0x100) 2 v)

/-- R438: the request RUN_HOUSE: the housekeeping jobs run, with the readings of the aging sensors. -/
def execRunHouse (ages : List (Fin 93 × Fin 1024)) (s : State) : Host.Outcome State Fault Refusal :=
  .next (s.serve (isRequest 6) fun t _ _ => (t.readAges (ages.map fun e => (e.1.val, e.2.val)), 0, []))

/-- R439: a request with a bad length, a CRC mismatch or an unknown code. -/
def execMalformedManagementRequest (s : State) : Host.Outcome State Fault Refusal :=
  .next (s.serve (fun ws => requestFormat ws != 0) fun t _ ws => (t, requestFormat ws, []))

/-- A waiting reply is tried again. -/
def State.retryReply (s : State) (r : Reply) : State :=
  if s.mbMayFill r.mb 3 then s.mbSend r.mb 3 r.words
  else if r.tries + 1 < 100 then { s with replies := s.replies ++ [{ r with tries := r.tries + 1, at0 := s.now }] }
  else (s.flag Reg.ALD_EVT.REPLY_LOST 0).logEv 0x000D r.mb (leBytes 4 r.req)

/-- R439: the oldest waiting reply whose 1 ms has passed is tried again. -/
def execReplyRetry (s : State) : Host.Outcome State Fault Refusal :=
  .next (
    match s.replies.find? fun r => r.at0 + 500000 ≤ s.now with
    | some r => s.onlyIf (s.present islALD && s.present islMSG) fun t => { t with replies := s.replies.filter (· ≠ r) }.retryReply r
    | none => s)

end Sys2Proof.Machine
end

