-- ==== Sys2Proof/Machine/Protection.lean ====
section
/-! DEFINITION. The meanings of the commands of spec/05_protection.md. -/

namespace Sys2Proof.Machine

/-- R118, R120: an input or a threshold crosses a switching point; `uv` is the voltage at the AIN land in microvolts. DESIGN CHOICE (R25): a
comparator whose cluster is in D reset or has no clock, power or rail asserts nothing, for its EN and threshold are at reset there. -/
def execComparatorCrossing (cmp : Fin 96) (uv : Nat) (s : State) : Host.Outcome State Fault Refusal :=
  .next (if s.present (islCmp cmp.val) then s.filtered (srcCmp cmp.val) (s.cmpLevel cmp.val uv) else s)

/-- R121: a TRIPIN land takes a logic level; a land with EN = 0 is inactive. The receivers have no clock. -/
def execTripinChange (land : Fin 16) (high : Bool) (s : State) : Host.Outcome State Fault Refusal :=
  .next ({ s with lands := SMap.set none s.lands land.val (some high) }.tripinLook land.val)

/-- R127: the ASC_DT delay of a stage expires, (k + 1) × 100 ns after the latches set, within ±15 %. -/
def execAscDtExpiry (stage : Fin 8) (s : State) : Host.Outcome State Fault Refusal :=
  .next (match s.ascOf stage.val with
    | some r => if s.ascDue r then s.ascOn stage.val r else s
    | none => s)

/-- R137: 20 µs (10,000 ticks) have passed without a refresh of Rowan; the armed codes hold. -/
def execArmedStale (s : State) : Host.Outcome State Fault Refusal :=
  .next (match s.rowanAt with
    | some t => if t + 10000 ≤ s.now then foldEach (fun n u => u.flag Reg.STG_ARMED.STALE n) (List.range 8) s else s
    | none => foldEach (fun n u => u.flag Reg.STG_ARMED.STALE n) (List.range 8) s)

end Sys2Proof.Machine
end

