-- ==== Sys2Proof/Machine/Rows.lean ====
section
/-! DEFINITION. The commands that are writes of one field of a block with translated fields: each has the effect of its operation, after
a commit that is in progress has ended (R18). -/

namespace Sys2Proof.Machine

/-! ## Timebases (R70 to R73) -/

/-- R70: a write of RUN = 1. -/
def execTbRun (m : Master) (n : Fin 8) (s : State) : Host.Outcome State Fault Refusal :=
  .next (s.winWrite m (Reg.TB_CTRL.RUN.addr n.val 0) (·.tbStart n.val))

/-- R71: a write of TBG_START. -/
def execTbgStart (m : Master) (mask : BitVec 8) (s : State) : Host.Outcome State Fault Refusal :=
  .next (s.winWrite m (Reg.TBG_START.START.addr 0 0) fun t => foldEach (fun n u => u.tbStart n) (bitList 8 mask.toNat) t)

/-- R72: a write of RUN = 0. -/
def execTbStop (m : Master) (n : Fin 8) (s : State) : Host.Outcome State Fault Refusal :=
  .next (s.winWrite m (Reg.TB_CTRL.RUN.addr n.val 0) (·.stopTb n.val))

/-- R73: a write of SWSYNC = 1. -/
def execSwsync (m : Master) (n : Fin 8) (s : State) : Host.Outcome State Fault Refusal :=
  .next (s.winWrite m (Reg.TB_CTRL.SWSYNC.addr n.val 0) (·.syncEvent n.val 1))

/-! ## Adaptive dead time (R109, R110) -/

/-- R110: a write of ADT_EN = 1. -/
def execAdtEnable (m : Master) (leg : Fin 24) (s : State) : Host.Outcome State Fault Refusal :=
  .next (s.winWrite m (Reg.LEG_OUT_CFG.ADT_EN.addr leg.val 0) fun t => t.adtEnable leg.val)

/-- R110: a write of 1 to ADT_FAIL. -/
def execAdtFailClear (m : Master) (leg : Fin 24) (s : State) : Host.Outcome State Fault Refusal :=
  .next (s.winWrite m (Reg.LEG_DT_STATUS.ADT_FAIL.addr leg.val 0) fun t => t.adtClear leg.val)

/-- R109: a write of LEG_ADT_TRIM sets the trims directly. -/
def execAdtTrimWrite (m : Master) (leg : Fin 24) (rise fall : BitVec 16) (s : State) : Host.Outcome State Fault Refusal :=
  .next (s.winWrite m (Reg.LEG_ADT_TRIM.TRIM_RISE.addr leg.val 0) fun t =>
    (t.wr Reg.LEG_ADT_TRIM.TRIM_RISE leg.val rise.toNat).wr Reg.LEG_ADT_TRIM.TRIM_FALL leg.val fall.toNat)

/-! ## Trips and the chopper (R123, R131, R139) -/

/-- R132: a write of SWTRIP. -/
def execSwtrip (m : Master) (stage : Fin 8) (on : Bool) (s : State) : Host.Outcome State Fault Refusal :=
  .next (s.winWrite m (Reg.STG_TRIP.SWTRIP.addr stage.val 0) fun t => t.setSwtrip stage.val on)

/-- R131, R132: a write of 1 to TRIP; `source` is a source of R123 that becomes active at the landing edge. -/
def execTripClear (m : Master) (stage : Fin 8) (source : Option (Fin 4096)) (s : State) : Host.Outcome State Fault Refusal :=
  .next (s.winWrite m (Reg.STG_TRIP.TRIP.addr stage.val 0) fun t =>
    match source with
    | some src => t.clearAgainst stage.val src.val
    | none => t.clearTrip stage.val)

/-- R139: a write of 1 to CHOP_FAULT. -/
def execChopFaultClear (m : Master) (stage : Fin 8) (s : State) : Host.Outcome State Fault Refusal :=
  .next (s.winWrite m (Reg.STG_CHOP.CHOP_FAULT.addr stage.val 0) fun t => t.clearChop stage.val)

/-! ## Converters, sequencers and pairs (R152 to R165) -/

/-- R151, R154: a write of SEQ_CTRL.EN = 1. -/
def execSeqEnable (m : Master) (j : Fin 4) (s : State) : Host.Outcome State Fault Refusal :=
  .next (s.winWrite m (Reg.SEQ_CTRL.EN.addr j.val 0) fun t => t.seqEnable j.val)

/-- R155: a write of SEQ_CTRL.EN = 0. -/
def execSeqDisable (m : Master) (j : Fin 4) (s : State) : Host.Outcome State Fault Refusal :=
  .next (s.winWrite m (Reg.SEQ_CTRL.EN.addr j.val 0) fun t => t.seqDisable j.val)

/-- R152: a write of SWSTART = 1. -/
def execSeqSwstart (m : Master) (j : Fin 4) (s : State) : Host.Outcome State Fault Refusal :=
  .next (s.winWrite m (Reg.SEQ_CTRL.SWSTART.addr j.val 0) fun t => t.seqStart j.val)

/-- R151: a write of ADC_INJ.EN = 1. -/
def execInjEnable (m : Master) (adc : Fin 32) (slot : Fin 2) (s : State) : Host.Outcome State Fault Refusal :=
  .next (s.winWrite m (Reg.ADC_INJ.EN.addr adc.val slot.val) fun t => t.injEnable adc.val slot.val)

/-- R156: a write of SWTRIG_J0 or SWTRIG_J1. -/
def execSwtrig (m : Master) (adc : Fin 32) (slot : Fin 2) (s : State) : Host.Outcome State Fault Refusal :=
  .next (s.winWrite m (Reg.ADC_CTRL.SWTRIG_J0.addr adc.val 0) fun t => t.injTrig adc.val slot.val)

/-- R162, R163: a write of CAL_START = 1. -/
def execCalStart (m : Master) (adc : Fin 32) (s : State) : Host.Outcome State Fault Refusal :=
  .next (s.winWrite m (Reg.ADC_CTRL.CAL_START.addr adc.val 0) fun t => t.calStart adc.val)

/-- R164: a write of IL_CTRL.ARM = 1. -/
def execIlArm (m : Master) (k : Fin 16) (s : State) : Host.Outcome State Fault Refusal :=
  .next (s.winWrite m (Reg.IL_CTRL.ARM.addr k.val 0) fun t => t.pairArm k.val)

/-- R164: a write of IL_CTRL.SWSTART = 1. -/
def execPairSwstart (m : Master) (k : Fin 16) (s : State) : Host.Outcome State Fault Refusal :=
  .next (s.winWrite m (Reg.IL_CTRL.SWSTART.addr k.val 0) fun t => t.burstStart k.val)

/-- R165: a write of IL_CTRL.PAIR_CAL = 1. -/
def execPairCal (m : Master) (k : Fin 16) (s : State) : Host.Outcome State Fault Refusal :=
  .next (s.winWrite m (Reg.IL_CTRL.PAIR_CAL.addr k.val 0) fun t => t.pairCal k.val)

/-! ## Isolated channels (R179, R180) -/

/-- R179: a write of ISO_CTRL.EN. -/
def execIsoEnable (m : Master) (ch : Fin 8) (on : Bool) (s : State) : Host.Outcome State Fault Refusal :=
  .next (s.winWrite m (Reg.ISO_CTRL.EN.addr ch.val 0) fun t => t.isoSetEn ch.val on)

/-- R180: a write of ISO_CTRL.CAL_START = 1. -/
def execIsoCalStart (m : Master) (ch : Fin 8) (s : State) : Host.Outcome State Fault Refusal :=
  .next (s.winWrite m (Reg.ISO_CTRL.CAL_START.addr ch.val 0) fun t => t.isoCalStart ch.val)

/-! ## Loop programs, banks and blocks (R196, R207, R209) -/

/-- R209: writing PEN = 1. -/
def execLpPen (m : Master) (u : Fin 8) (p : Fin 4) (s : State) : Host.Outcome State Fault Refusal :=
  .next (s.winWrite m (Reg.LP_CFG.PEN.addr u.val p.val) (·.lpEnable u.val p.val))

/-- R210: writing PEN = 0. -/
def execLpDisable (m : Master) (u : Fin 8) (p : Fin 4) (s : State) : Host.Outcome State Fault Refusal :=
  .next (s.winWrite m (Reg.LP_CFG.PEN.addr u.val p.val) (·.lpDisable u.val p.val))

/-- R207: writing SWAP_REQ = 1. -/
def execSwapReq (m : Master) (u : Fin 8) (s : State) : Host.Outcome State Fault Refusal :=
  .next (s.winWrite m (Reg.LU_CTRL.SWAP_REQ.addr u.val 0) (·.swapReq u.val))

/-- R196: writing BLK_CTRL.CLR = 1. -/
def execBlkClr (m : Master) (u : Fin 8) (b : Fin 16) (s : State) : Host.Outcome State Fault Refusal :=
  .next (s.winWrite m (Reg.BLK_CTRL.CLR.addr u.val b.val) (·.clrReq u.val b.val))

/-! ## Field channels (R217, R223, R231) -/

/-- R216: writing FC_CTRL.EN = 1. -/
def execFcEnable (m : Master) (n : Fin 8) (s : State) : Host.Outcome State Fault Refusal :=
  .next (s.winWrite m (Reg.FC_CTRL.EN.addr n.val 0) (·.fcEnable n.val))

/-- R217: writing FC_CTRL.EN = 0. -/
def execFcDisable (m : Master) (n : Fin 8) (s : State) : Host.Outcome State Fault Refusal :=
  .next (s.winWrite m (Reg.FC_CTRL.EN.addr n.val 0) (·.fcDisable n.val))

/-- R231: writing START = 1. -/
def execFcStart (m : Master) (n : Fin 8) (s : State) : Host.Outcome State Fault Refusal :=
  .next (s.winWrite m (Reg.FC_CTRL.START.addr n.val 0) (·.fcStart n.val))

/-- R231: writing STOP = 1. -/
def execFcStop (m : Master) (n : Fin 8) (s : State) : Host.Outcome State Fault Refusal :=
  .next (s.winWrite m (Reg.FC_CTRL.STOP.addr n.val 0) (·.fcStop n.val))

/-- R229: an access to FC_TBL_DATA. -/
def execFcTblData (m : Master) (wr : Bool) (data : BitVec 32) (s : State) : Host.Outcome State Fault Refusal :=
  .next (if s.reach islFPC then (s.commitEnd 5).tblAccess m wr data.toNat else s.busErr m (Reg.FC_TBL_DATA.DATA.addr 0 0))

/-- R223: writing OFFS_STORE = 1. -/
def execOffsStore (m : Master) (n : Fin 8) (s : State) : Host.Outcome State Fault Refusal :=
  .next (s.winWrite m (Reg.FC_CTRL.OFFS_STORE.addr n.val 0) (·.offsStore n.val))

/-! ## Position, resolvers and emulators (R249 to R262) -/

/-- R247: a write of COUNT. -/
def execPosCountWrite (m : Master) (n : Fin 4) (v : BitVec 24) (s : State) : Host.Outcome State Fault Refusal :=
  .next (s.winWrite m (Reg.POS_CNT.COUNT.addr n.val 0) (·.posLoad n.val v.toNat))

/-- R260: a write of POS_CTRL.EN. -/
def execPosEnable (m : Master) (n : Fin 4) (on : Bool) (s : State) : Host.Outcome State Fault Refusal :=
  .next (s.winWrite m (Reg.POS_CTRL.EN.addr n.val 0) fun t => if on then t.posEnable n.val else t.posDisable n.val)

/-- R254: a write of RS_CTRL.EN. -/
def execRsEnable (m : Master) (r : Fin 2) (on : Bool) (s : State) : Host.Outcome State Fault Refusal :=
  .next (s.winWrite m (Reg.RS_CTRL.EN.addr r.val 0) fun t => if on then t.rsEnable r.val else t.rsDisable r.val)

/-- R259: a write of 1 to POS_STAT.FAULT. -/
def execPosFaultClear (m : Master) (n : Fin 4) (s : State) : Host.Outcome State Fault Refusal :=
  .next (s.winWrite m (Reg.POS_STAT.FAULT.addr n.val 0) (·.posClear n.val))

/-- R259: a write of 1 to RS_STAT.FAULT. -/
def execRsFaultClear (m : Master) (r : Fin 2) (s : State) : Host.Outcome State Fault Refusal :=
  .next (s.winWrite m (Reg.RS_STAT.FAULT.addr r.val 0) (·.rsClear r.val))

/-- R262: a write of EMU_CTRL.EN. -/
def execEmuEnable (m : Master) (e : Fin 4) (on : Bool) (s : State) : Host.Outcome State Fault Refusal :=
  .next (s.winWrite m (Reg.EMU_CTRL.EN.addr e.val 0) fun t => if on then t.emuEnable e.val else t.emuDisable e.val)

/-! ## CAN (R365 to R373) -/

/-- R365: a write of RUN = 1. -/
def execCanRun (m : Master) (n : Fin 6) (s : State) : Host.Outcome State Fault Refusal :=
  .next (s.winWrite m (Reg.CAN_CTRL.RUN.addr n.val 0) (·.canRun n.val))

/-- R365: a write of RUN = 0. -/
def execCanStop (m : Master) (n : Fin 6) (idle : Bool) (s : State) : Host.Outcome State Fault Refusal :=
  .next (s.winWrite m (Reg.CAN_CTRL.RUN.addr n.val 0) (·.canStop n.val idle))

/-- R369, R371: a write of TXREQ bits; `cancel` are TXCAN bits of the same write, which apply. -/
def execTxreq (m : Master) (n : Fin 6) (w : Fin 2) (v cancel : BitVec 32) (s : State) : Host.Outcome State Fault Refusal :=
  .next (s.winWrite m (Reg.CAN_TXREQ.REQ.addr n.val w.val) fun t =>
    let t := foldEach (fun b u => u.canRequest n.val b) (canBufs w.val v.toNat) t
    foldEach (fun b u => u.canCancel n.val b) (canBufs w.val cancel.toNat) t)

/-- R371: a write of TXCAN bits. -/
def execTxcan (m : Master) (n : Fin 6) (w : Fin 2) (v : BitVec 32) (s : State) : Host.Outcome State Fault Refusal :=
  .next (s.winWrite m (Reg.CAN_TXCAN.CAN.addr n.val w.val) fun t => foldEach (fun b u => u.canCancel n.val b) (canBufs w.val v.toNat) t)

/-- R372: a write of RXFULL bits. -/
def execRxfullRelease (m : Master) (n : Fin 6) (w : Fin 2) (v : BitVec 32) (s : State) : Host.Outcome State Fault Refusal :=
  .next (s.winWrite m (Reg.CAN_RXFULL.FULL.addr n.val w.val) (·.canRelease n.val w.val v.toNat))

/-- R373: a write of REC_START = 1. -/
def execRecStart (m : Master) (n : Fin 6) (s : State) : Host.Outcome State Fault Refusal :=
  .next (s.winWrite m (Reg.CAN_CTRL.REC_START.addr n.val 0) fun t => t.onlyIf (t.canState n.val == 4) fun u => (u.setCanState n.val 5).wr Reg.CAN_CTRL.REC_START n.val 1)

/-! ## Clocks (R380 to R382) -/

/-- R378: a write of LOCAL_SEL; `e` is the phase error of the return. -/
def execLocalSel (m : Master) (v : Fin 4) (e : BitVec 16) (s : State) : Host.Outcome State Fault Refusal :=
  .next (s.winWrite m (Reg.CLK_REF.LOCAL_SEL.addr 0 0) (·.clkLocalSel v.val e.toInt))

/-- R381, R389: a write of EN. -/
def execPllEnable (m : Master) (k : Fin 3) (on : Bool) (s : State) : Host.Outcome State Fault Refusal :=
  .next (s.winWrite m (Reg.PLL_CTRL.EN.addr k.val 0) (·.pllEn k.val on))

/-- R381, R389: a write of RELOCK = 1. -/
def execRelock (m : Master) (k : Fin 3) (s : State) : Host.Outcome State Fault Refusal := .next (s.winWrite m (Reg.PLL_CTRL.RELOCK.addr k.val 0) (·.pllRelock k.val))

end Sys2Proof.Machine
end

