-- ==== Sys2Proof/Machine/BusA.lean ====
section
/-! DEFINITION. Register writes by access code (R11), and the registers of the windows of timebases and legs, protection, converters and
isolated sensing whose writes have rules of their own. `off` is the offset of the register's array, `i` and `j` the unit, `v` the word. -/

namespace Sys2Proof.Machine

/-! ## Access codes (R11) -/

/-- A field takes its bits of a word. -/
def State.put (s : State) (f : FD) (i j v : Nat) : State := s.wr2 f i j (bits v f.lo f.w)

/-- Bits of a field written 1 are cleared. -/
def State.w1c (s : State) (f : FD) (i j v : Nat) : State := s.wr2 f i j (s.rd f i j - (s.rd f i j &&& bits v f.lo f.w))

/-- A write to one field by its access code; a field whose write starts something is left to the register's own rule. -/
def State.plainField (s : State) (f : FD) (i j v : Nat) : State :=
  match f.acc with
  | .rw => s.put f i j v
  | .w1c => s.w1c f i j v
  | _ => s

/-- A write to a register whose fields have no rules but their access codes. -/
def State.plain (s : State) (fs : List FD) (i j v : Nat) : State := foldEach (fun f t => t.plainField f i j v) fs s

/-- Does a word carry another value for a field than the present one? -/
def State.differs (s : State) (f : FD) (i j v : Nat) : Bool := s.rd f i j != bits v f.lo f.w

/-- Does a word carry a 1 in a field? -/
def FD.ones (f : FD) (v : Nat) : Bool := bits v f.lo f.w != 0

/-- An enable is written: a change runs its operation, the present value nothing. -/
def State.putEn (s : State) (f : FD) (i j v : Nat) (on off : State → State) : State :=
  if !s.differs f i j v then s else if f.ones v then on s else off s

/-! ## Window 0: timebases and legs -/

/-- TB_CTRL (R70, R72, R73, R80). DESIGN CHOICE (R74): of a write with MODE = 3 the field MODE alone is discarded; its other fields land, and
with RUN = 1 it sets no MODE_DENIED. -/
def State.writeTbCtrl (s : State) (n v : Nat) : State :=
  let s := (((s.put Reg.TB_CTRL.UPD_HOLD n 0 v).put Reg.TB_CTRL.SYNC_SRC n 0 v).put Reg.TB_CTRL.SYNC_TB n 0 v).put Reg.TB_CTRL.UPD_EVERY n 0 v
  let s := s.onlyIf (bits v 24 2 != 3) (·.put Reg.TB_CTRL.RLD_AT n 0 v)
  let s := if !s.differs Reg.TB_CTRL.MODE n 0 v || bits v 4 2 == 3 then s
    else if s.on Reg.TB_CTRL.RUN n then s.flag Reg.TB_STATUS.MODE_DENIED n else s.put Reg.TB_CTRL.MODE n 0 v
  let s := s.onlyIf (Reg.TB_CTRL.SWSYNC.ones v) (·.syncEvent n 1)
  if Reg.TB_CTRL.RUN.ones v then s.tbStart n else s.stopTb n

/-- LEG_OUT_CFG (R101, R107, R110). -/
def State.writeOutCfg (s : State) (l v : Nat) : State :=
  let s := ((s.put Reg.LEG_OUT_CFG.MINP_MODE l 0 v).put Reg.LEG_OUT_CFG.DRV l 0 v).put Reg.LEG_OUT_CFG.POL_SRC l 0 v
  (s.putEn Reg.LEG_OUT_CFG.ADT_EN l 0 v (·.adtEnable l) fun t => (t.wr Reg.LEG_OUT_CFG.ADT_EN l 0).showAdt l).showPol l

/-- A write to window 0. What acts at the next tick edge (ACTQ, FORCE, ISIGN) keeps its old value in force until then (R79, R84, R116).
DESIGN CHOICE (R68, R79): FORCE moves the reference of a leg that no stage names, too. -/
def State.write0 (s : State) (fs : List FD) (off i j v : Nat) : State :=
  match off with
  | 0x6008 => s.writeTbCtrl i v
  | 0x7000 => foldEach (fun n t => t.tbStart n) (bitList 8 v) s
  | 0x8000 => s.writeCmp i .a v false
  | 0x8004 => s.writeCmp i .b v false
  | 0x8010 => (s.put Reg.LEG_TRG.EN i j v).writeTrg i j (bits v 0 25) (bits v 25 2) false
  | 0x8020 => (s.noteFields fs i).plain fs i j v
  | 0x8024 => (s.noteFields [Reg.LEG_CFG.FORCE] i).plain fs i j v
  | 0x8100 => s.writeDtr i (v % 2 ^ 19)
  | 0x8104 => s.writeDtf i (v % 2 ^ 19)
  | 0x8108 => s.writeMinp i (v % 2 ^ 17)
  | 0x810C => s.writeOutCfg i v
  | 0x8138 => (s.onlyIf (Reg.LEG_DT_STATUS.ADT_FAIL.ones v) (·.adtClear i)).plain fs i j v
  | 0x8140 => (s.noteFields fs i).plain fs i j v
  | 0xE000 => s.writePer i (v % 2 ^ 24)
  | _ => s.plain fs i j v

/-! ## Window 1: protection -/

/-- STG_TRIP (R123, R131, R132): a software source that the same write raises meets the clear as R132 says. -/
def State.writeStgTrip (s : State) (n v : Nat) : State :=
  let s := (s.w1c Reg.STG_TRIP.CLR_DENIED n 0 v).w1c Reg.STG_TRIP.RETRIP n 0 v
  let clear := Reg.STG_TRIP.TRIP.ones v
  let sw := Reg.STG_TRIP.SWTRIP.ones v
  if clear && sw && s.stgTripped n && !s.nodeActive n then (s.wr Reg.STG_TRIP.SWTRIP n 1).retripNode n srcSwtrip clsGeneral
  else (s.onlyIf clear (·.clearTrip n)).setSwtrip n sw

def State.write1 (s : State) (fs : List FD) (off i j v : Nat) : State :=
  match off with
  | 0x1000 => s.writeStgTrip i v
  | 0x1010 => (s.w1c Reg.STG_CHOP.CLR_DENIED i 0 v).onlyIf (Reg.STG_CHOP.CHOP_FAULT.ones v) (·.clearChop i)
  | _ => s.plain fs i j v

/-! ## Window 2: converters -/

/-- ADC_CTRL (R156, R162). -/
def State.writeAdcCtrl (s : State) (n v : Nat) : State :=
  let s := (s.put Reg.ADC_CTRL.CAL_STORE n 0 v).onlyIf (Reg.ADC_CTRL.SWTRIG_J0.ones v) (·.injTrig n 0)
  let s := s.onlyIf (Reg.ADC_CTRL.SWTRIG_J1.ones v) (·.injTrig n 1)
  s.onlyIf (Reg.ADC_CTRL.CAL_START.ones v) (·.calStart n)

/-- SEQ_CTRL (R151 to R155): the ring stays while EN reads 1 and the write does not clear it. -/
def State.writeSeqCtrl (s : State) (j v : Nat) : State :=
  let keep := s.on Reg.SEQ_CTRL.EN j && Reg.SEQ_CTRL.EN.ones v
  let s := (s.put Reg.SEQ_CTRL.CONT j 0 v).put Reg.SEQ_CTRL.LEN j 0 v
  let s := s.onlyIf (!keep) fun t => (t.put Reg.SEQ_CTRL.RING_BASE j 0 v).put Reg.SEQ_CTRL.RING_BLKS j 0 v
  let s := if Reg.SEQ_CTRL.EN.ones v then s.seqEnable j else s.onlyIf (s.on Reg.SEQ_CTRL.EN j) (·.seqDisable j)
  s.onlyIf (Reg.SEQ_CTRL.SWSTART.ones v) (·.seqStart j)

/-- SEQ_PTR: a pointer beyond the ring is discarded (R154). -/
def State.writeSeqPtr (s : State) (j v : Nat) : State :=
  if s.rd Reg.SEQ_CTRL.RING_BLKS j * 1024 ≤ bits v 16 16 then s
  else (s.put Reg.SEQ_PTR.RD_PTR j 0 v).setSeq j { s.seq j with full := false }

/-- IL_CTRL (R151, R164, R165); a write that would change ARM is refused with IL_EN = 0 (R166). -/
def State.writeIlCtrl (s : State) (k v : Nat) : State :=
  let s := (((s.put Reg.IL_CTRL.CONT k 0 v).put Reg.IL_CTRL.CAL_STORE k 0 v).put Reg.IL_CTRL.MUX k 0 v).put Reg.IL_CTRL.IL_BASE k 0 v
  let s := (s.put Reg.IL_CTRL.IL_BLKS k 0 v).putEn Reg.IL_CTRL.ARM k 0 v (·.pairArm k) fun t =>
    if t.on Reg.IL_CTRL.IL_EN k then t.pairDisarm k else t.pairErr k 0
  let s := s.onlyIf (Reg.IL_CTRL.SWSTART.ones v) (·.burstStart k)
  s.onlyIf (Reg.IL_CTRL.PAIR_CAL.ones v) (·.pairCal k)

def State.write2 (s : State) (fs : List FD) (off i j v : Nat) : State :=
  match off with
  | 0x4 => s.writeAdcCtrl i v
  | 0x10 =>
    (((s.put Reg.ADC_INJ.MUX i j v).put Reg.ADC_INJ.CEDAR i j v).put Reg.ADC_INJ.PREEMPT i j v).putEn Reg.ADC_INJ.EN i j v
      (·.injEnable i j) (·.injDisable i j)
  | 0x4000 => s.writeSeqCtrl i v
  | 0x4008 => s.writeSeqPtr i v
  | 0x5000 => s.writeIlCtrl i v
  | 0x8000 => s.onlyIf (12 ≤ bits v 0 8) (·.plain fs i j v)
  | 0xC010 => (s.put Reg.SEQ_OW_X.OW_TH i 0 v).onlyIf (bits v 16 8 != 0) (·.put Reg.SEQ_OW_X.OW_ACQ i 0 v)
  | 0xD000 => s.onlyIf (12 ≤ bits v 0 8) (·.plain fs i j v)
  | _ => s.plain fs i j v

/-! ## Window 3: isolated sensing -/

/-- ISO_CTRL (R179, R180). -/
def State.writeIsoCtrl (s : State) (c v : Nat) : State :=
  let s := ((s.put Reg.ISO_CTRL.CEDAR c 0 v).put Reg.ISO_CTRL.CAL_STORE c 0 v).putEn Reg.ISO_CTRL.EN c 0 v
    (·.isoSetEn c true) (·.isoSetEn c false)
  s.onlyIf (Reg.ISO_CTRL.CAL_START.ones v) (·.isoCalStart c)

def State.write3 (s : State) (fs : List FD) (off i j v : Nat) : State :=
  match off with
  | 0x4 => s.writeIsoCtrl i v
  | 0x8000 => (s.put Reg.ISO_CFG.ALIGN_TB i 0 v).onlyIf (bits v 0 3 < 5) (·.put Reg.ISO_CFG.DEC_SEL i 0 v)
  | _ => s.plain fs i j v

end Sys2Proof.Machine
end

