-- ==== Sys2Proof/Machine/BusB.lean ====
section
/-! DEFINITION. The registers of the windows of Cedar, field control and position whose writes have rules of their own, and bus writes to
Cedar table RAM (R188, R207 to R210, R226, R229, R232, R247, R254, R259, R260). -/

namespace Sys2Proof.Machine

/-! ## Cedar -/

/-- The programs of a unit that are enabled or validate. -/
def State.heldPrograms (s : State) (u : Nat) : List Nat := (List.range 4).filter (s.lpHeld u)

/-- A field of LP_CFG that stays while its program is held (R210). -/
def lpFixed : List FD := [Reg.LP_CFG.START_ADDR, Reg.LP_CFG.LEN, Reg.LP_CFG.TRIP_HALT, Reg.LP_CFG.START_SRC]

/-- A write to configuration that a held program uses is discarded where it would change it (R210). -/
def State.guarded (s : State) (fs : List FD) (u j v : Nat) (used : Bool) : State :=
  if used && fs.any fun f => f.acc == .rw && s.differs f u j v then s.flag Reg.LU_STAT.CFG_DENIED u else s.plain fs u j v

/-- LP_CFG (R209, R210): a write that would change a field of a held program other than PEN is discarded as a whole. -/
def State.writeLpCfg (s : State) (u p v : Nat) : State :=
  if s.lpHeld u p && lpFixed.any fun f => s.differs f u p v then s.flag Reg.LU_STAT.CFG_DENIED u
  else
  let s := s.plain lpFixed u p v
  if Reg.LP_CFG.PEN.ones v then s.lpEnable u p else s.onlyIf (s.lpHeld u p) (·.lpDisable u p)

/-- A coefficient: only the idle bank takes a write, and only without a pending swap (R207). -/
def State.writeCoef (s : State) (u k v : Nat) : State :=
  if k / 256 = s.rd Reg.LU_STAT.ACTIVE_BANK u ∨ s.on Reg.LU_STAT.SWAP_PEND u then s.flag Reg.LU_STAT.COEF_DENIED u
  else s.wr2 Reg.COEF.C u k v

/-- SAT_ANY is the OR of SAT of the unit's programs (R193). -/
def State.showSat (s : State) (u : Nat) : State :=
  s.wr Reg.LU_STAT.SAT_ANY u (b2n ((List.range 4).any fun p => s.on Reg.LP_STAT.SAT u p))

def State.write4 (s : State) (fs : List FD) (off i j v : Nat) : State :=
  match off with
  | 0x2000 => match s.spOwned i j with
    | some n => s.flag Reg.FC_STAT.SP_DENIED n
    | none => s.plain fs i j v
  | 0x3000 => (s.put Reg.LU_CTRL.SP_HOLD i 0 v).onlyIf (Reg.LU_CTRL.SWAP_REQ.ones v) (·.swapReq i)
  | 0x8000 => s.writeLpCfg i j v
  | 0x8004 => s.guarded fs i j v (s.lpHeld i j)
  | 0x8008 => (s.plain fs i j v).showSat i
  | 0x8080 => s.guarded fs i j v ((s.heldPrograms i).any fun p => (tablesOf (s.lpWords i p)).contains j)
  | 0x8100 => s.guarded fs i j v ((s.heldPrograms i).any fun p => (s.slotsRead i p).contains j)
  | 0x8210 => ((s.put Reg.BLK_CTRL.CI i j v).w1c Reg.BLK_CTRL.LIM i j v).onlyIf (Reg.BLK_CTRL.CLR.ones v) (·.clrReq i j)
  | 0xA000 => s.writeCoef i j v
  | _ => s.plain fs i j v

/-! ## Cedar table RAM (R188, R210) -/

/-- Is a byte of table RAM part of a code word of a held program? -/
def State.codeHeld (s : State) (a n : Nat) : Bool :=
  let u := (a - 0x48000000) / 0x10000
  (s.heldPrograms u).any fun p =>
    let lo := luBank u + 8 * s.lpAddr u p
    lo < a + n && a < lo + 8 * s.lpLen u p

/-- An access to table RAM takes place: code words of held programs stay, without a bus error (R210); a read that meets a double-bit error
ends in one (R33). -/
def State.cedLand (s : State) (e : CedWait) : State :=
  if e.rd then
    match e.m with
    | some m => if s.eccBad.contains e.addr then s.eccMeet m e.addr islCED else s.setResp m ⟨false, s.word e.addr⟩
    | none => s
  else if s.codeHeld e.addr e.n then (s.flag Reg.LU_STAT.CODE_DENIED ((e.addr - 0x48000000) / 0x10000)).ackTo e.m
  else ((s.setNum e.addr e.n e.data).eccWritten e.addr e.n).ackTo e.m

/-- Has the unit a cycle without a run? A pending program begins in the cycle after the END before it (R204). -/
def State.luIdle (s : State) (u : Nat) : Bool := (s.lu u).run.isNone && (s.lu u).queue.isEmpty

/-- A bus access to table RAM: it waits while its unit runs, and behind those that wait already (R188). -/
def State.cedAccess (s : State) (e : CedWait) : State :=
  let u := (e.addr - 0x48000000) / 0x10000
  if s.luIdle u && s.cedq.all fun w => (w.addr - 0x48000000) / 0x10000 != u then s.cedLand e else { s with cedq := s.cedq ++ [e] }

/-- The accesses that wait for a unit which is idle now take place, in their order. -/
def State.cedDrain (s : State) : State :=
  let ready (e : CedWait) : Bool := s.luIdle ((e.addr - 0x48000000) / 0x10000)
  foldEach (fun e t => t.cedLand e) (s.cedq.filter ready) { s with cedq := s.cedq.filter fun e => !ready e }

/-! ## Field control -/

/-- Expert registers of field control that take a write in every state (R232). -/
def fcFree : List Nat := [0x8004, 0x8008, 0x8034, 0x8048, 0x804C]

/-- FC_CTRL (R216, R217, R223, R231). -/
def State.writeFcCtrl (s : State) (n v : Nat) : State :=
  let s := (s.put Reg.FC_CTRL.DIR n 0 v).put Reg.FC_CTRL.SALIGN n 0 v
  let s := if Reg.FC_CTRL.EN.ones v then s.fcEnable n else s.fcDisable n
  let s := s.onlyIf (Reg.FC_CTRL.START.ones v) (·.fcStart n)
  let s := s.onlyIf (Reg.FC_CTRL.STOP.ones v) (·.fcStop n)
  s.onlyIf (Reg.FC_CTRL.OFFS_STORE.ones v) (·.offsStore n)

def State.write5 (s : State) (fs : List FD) (off i j v : Nat) : State :=
  if off = 0 then s.writeFcCtrl i v
  else if 0x8000 ≤ off ∧ off < 0xF000 then
    if !fcFree.contains off && 1 < s.fcState i then s.fcRefuse i 8
    else if off = 0x8034 ∧ !mapOk (bits v 16 4) (bits v 20 3) (bits v 0 15) then s.fcRefuse i 7
    else if off = 0x8048 ∧ !advOk (bits v 16 4) (bits v 0 10) then s.fcRefuse i 7
    else s.plain fs i j v
  else s.plain fs i j v

/-! ## Position -/

/-- A write to fields that only change while a channel is disabled (R260). -/
def State.whileOff (s : State) (fs : List FD) (i j v : Nat) (en : Bool) (err : FD) : State :=
  if en && fs.any fun f => s.differs f i j v then s.flag err i else s.plain fs i j v

/-- POS_CTRL (R242, R249, R260). -/
def State.writePosCtrl (s : State) (n v : Nat) : State :=
  let s := s.put Reg.POS_CTRL.ZRESET n 0 v
  let s := if bits v 1 2 = 3 then s else s.whileOff [Reg.POS_CTRL.MODE] n 0 v (s.posEn n) Reg.POS_STAT.CFG_ERR
  s.putEn Reg.POS_CTRL.EN n 0 v (·.posEnable n) (·.posDisable n)

/-- RS_EXC: a frequency outside its range is discarded (R254). -/
def State.writeRsExc (s : State) (r v : Nat) : State :=
  let s := s.put Reg.RS_EXC.AMP_CODE r 0 v
  if 17180 ≤ bits v 0 18 ∧ bits v 0 18 ≤ 171799 then s.put Reg.RS_EXC.FTW r 0 v else s.flag Reg.RS_STAT.CFG_ERR r

def State.write6 (s : State) (fs : List FD) (off i j v : Nat) : State :=
  let pos := s.posEn i
  let rs := s.on Reg.RS_CTRL.EN i
  let perr := Reg.POS_STAT.CFG_ERR
  let rerr := Reg.RS_STAT.CFG_ERR
  match off with
  | 0x0 => s.writePosCtrl i v
  | 0x4 => (s.plain (fs.filter fun f => f.lo != Reg.POS_STAT.FAULT.lo) i j v).onlyIf (Reg.POS_STAT.FAULT.ones v) (·.posClear i)
  | 0x10 => s.posLoad i (v % 2 ^ 24)
  | 0x400 => s.putEn Reg.RS_CTRL.EN i 0 v (·.rsEnable i) (·.rsDisable i)
  | 0x404 => (s.plain (fs.filter fun f => f.lo != Reg.RS_STAT.FAULT.lo) i j v).onlyIf (Reg.RS_STAT.FAULT.ones v) (·.rsClear i)
  | 0x8000 => s.whileOff fs i j v pos perr
  | 0x8004 =>
    (s.whileOff [Reg.POS_FLT.ZGATE, Reg.POS_FLT.REVDIR] i j v pos perr).onlyIf (bits v 0 8 != 0) (·.put Reg.POS_FLT.FILT_N i 0 v)
  | 0x8014 => s.whileOff fs i j v pos perr
  | 0x8020 => s.whileOff fs i j v pos perr
  | 0x8024 =>
    ((s.put Reg.POS_SSIT.JUMP i 0 v).put Reg.POS_SSIT.TM_US i 0 v).whileOff [Reg.POS_SSIT.REQ_TB] i j v pos perr
  | 0x8400 => s.writeRsExc i v
  | 0x8404 => (s.put Reg.RS_PH.EXC_PH i 0 v).whileOff [Reg.RS_PH.ELEC_MUL] i j v rs rerr
  | 0x8408 => s.whileOff fs i j v rs rerr
  | 0x8414 => (s.put Reg.RS_LIM.TRK_LIM i 0 v).onlyIf (bits v 16 8 != 0) (·.put Reg.RS_LIM.LOCK_N i 0 v)
  | 0x8800 =>
    (((s.put Reg.EMU_CTRL.SRC i 0 v).put Reg.EMU_CTRL.ZEN i 0 v).put Reg.EMU_CTRL.MINT i 0 v).putEn Reg.EMU_CTRL.EN i 0 v
      (·.emuEnable i) (·.emuDisable i)
  | _ => s.plain fs i j v

end Sys2Proof.Machine
end

