-- ==== Sys2Proof/Machine/Messaging.lean ====
section
/-! DEFINITION. The meanings of the mailbox, doorbell and semaphore commands of spec/13_messaging_and_hosts.md (R317 to R331). -/

namespace Sys2Proof.Machine

/-! ## Order of contention (R330) -/

/-- Does the first of two masters go first in one MSG cycle: the lower endpoint, and of the two hosts the port that PREC names? -/
def State.goesFirst (s : State) (a b : Master) : Bool :=
  let ea := s.masterNo a
  let eb := s.masterNo b
  if 4 ≤ ea ∧ 4 ≤ eb then (ea == 4 + s.rd Reg.SEM_CTRL.PREC) || ea == eb else ea ≤ eb

/-- Insert a master into a list in that order. -/
def State.insMaster (s : State) (m : Master) : List Master → List Master
  | [] => [m]
  | a :: t => if s.goesFirst m a then m :: a :: t else a :: s.insMaster m t

/-- The masters of one MSG cycle in their order. -/
def State.inOrder (s : State) : List Master → List Master
  | [] => []
  | a :: t => s.insMaster a (s.inOrder t)

/-- PREC flips where both ports contended in the cycle. -/
def State.flipPrec (s : State) (ms : List Master) : State :=
  if ms.contains .h0 && ms.contains .h1 then s.wr Reg.SEM_CTRL.PREC 0 (1 - s.rd Reg.SEM_CTRL.PREC) else s

/-! ## Mailboxes (R319 to R323) -/

/-- A word that a write puts into a mailbox: data word 0 to 15, or the header as 16 (USER and LEN). -/
def State.mbPut (s : State) (n w v : Nat) : State :=
  if w < 16 then s.wr2 Reg.MB_DATA.DATA n w v
  else (s.wr Reg.MB_HDR.USER n (v / 65536)).wr Reg.MB_HDR.LEN n (v % 32)

/-- A write of content to a mailbox by a master. -/
def State.mbWrite (s : State) (m : Master) (n w v : Nat) : State :=
  if !s.reach islMSG || !s.mbMayFill n (s.masterNo m) then s.busErr m (if w < 16 then Reg.MB_DATA.DATA.addr n w else Reg.MB_HDR.LEN.addr n 0)
  else (s.mbFill n (s.masterNo m) fun t => t.mbPut n w v).ack m

/-- R320, R323: a write of a data word, or of the header as word 16, to a mailbox; `rival` is a write of another endpoint to the same
mailbox in the same MSG cycle (R330). -/
def execMbWrite (m : Master) (n : Fin 64) (w : Fin 17) (v : BitVec 32) (rival : Option (Master × Fin 17 × BitVec 32)) (s : State) :
    Host.Outcome State Fault Refusal :=
  .next (match rival with
    | none => s.mbWrite m n.val w.val v.toNat
    | some (m', w', v') =>
      let t := if s.goesFirst m m' then (s.mbWrite m n.val w.val v.toNat).mbWrite m' n.val w'.val v'.toNat
        else (s.mbWrite m' n.val w'.val v'.toNat).mbWrite m n.val w.val v.toNat
      if s.mbState n.val = 0 then t.flipPrec [m, m'] else t)

/-- A write of MB_CTRL: ABORT goes before GO, REL needs a FULL mailbox and its receiver (R321 to R323). -/
def State.mbCtrl (s : State) (m : Master) (n : Nat) (go rel abort : Bool) : State :=
  let e := s.masterNo m
  let len := s.rd Reg.MB_HDR.LEN n
  let err := s.busErr m (Reg.MB_CTRL.GO.addr n 0)
  let mine : Bool := s.mbState n == 1 && s.rd Reg.MB_STAT.FILLER n == e
  if !s.reach islMSG then err
  else if abort then (if mine && !rel then (s.mbEmpty n).ack m else err)
  else if rel then (if !go && s.mbState n == 2 && s.mbRx n == e then (s.mbEmpty n).ack m else err)
  else if go then (if mine && decide (8 ≤ len) && decide (len ≤ 16) then (s.mbPost n e).ack m else err)
  else s.ack m

/-- R321: a write of GO = 1. -/
def execMbGo (m : Master) (n : Fin 64) (s : State) : Host.Outcome State Fault Refusal := .next (s.mbCtrl m n.val true false false)

/-- R322: a write of REL = 1. -/
def execMbRel (m : Master) (n : Fin 64) (s : State) : Host.Outcome State Fault Refusal := .next (s.mbCtrl m n.val false true false)

/-- R322: a write of ABORT = 1. -/
def execAbortFill (m : Master) (n : Fin 64) (s : State) : Host.Outcome State Fault Refusal :=
  .next (s.mbCtrl m n.val false false true)

/-- A write of MB_CFG (R319): only while EMPTY, only with RX from 0 to 5; RX of MB60 to MB63 is hardwired. -/
def State.mbCfg (s : State) (n rx : Nat) (notify : Bool) (db : Nat) : State :=
  if s.mbState n ≠ 0 ∨ 6 ≤ rx then s.flag Reg.MB_STAT.CFG_DENIED n
  else ((if n < 60 then s.wr Reg.MB_CFG.RX n rx else s).wr Reg.MB_CFG.NOTIFY n (b2n notify)).wr Reg.MB_CFG.DB n db

/-- R319: a write of MB_CFG. -/
def execMbCfgWrite (m : Master) (n : Fin 64) (rx : Fin 8) (notify : Bool) (db : Fin 32) (s : State) :
    Host.Outcome State Fault Refusal :=
  .next (s.winWrite m (Reg.MB_CFG.RX.addr n.val 0) (·.mbCfg n.val rx.val notify db.val))

/-! ## Doorbells (R325) -/

/-- R325: a write of DB_RING sets pending bits. -/
def execDbRing (m : Master) (e : Fin 6) (v : BitVec 32) (s : State) : Host.Outcome State Fault Refusal :=
  .next (s.winWrite m (Reg.DB_RING.RING.addr e.val 0) fun t => t.wr Reg.DB_PEND.PEND e.val (t.rd Reg.DB_PEND.PEND e.val ||| v.toNat))

/-- R325: a write of 1 to bits of DB_PEND clears them; a bit that `ring` sets in the same MSG cycle stays pending. -/
def execDbPendClear (m : Master) (e : Fin 6) (v ring : BitVec 32) (s : State) : Host.Outcome State Fault Refusal :=
  .next (s.winWrite m (Reg.DB_PEND.PEND.addr e.val 0) fun t =>
    t.wr Reg.DB_PEND.PEND e.val ((BitVec.ofNat 32 (t.rd Reg.DB_PEND.PEND e.val) &&& ~~~v) ||| ring).toNat)

/-! ## Semaphores (R328 to R331) -/

/-- One read of SEM_ACQ. -/
def State.semRead (s : State) (n : Nat) (m : Master) : State :=
  if s.reach islMSG then
    let r := s.semAcq n (s.masterNo m)
    r.1.setResp m ⟨false, r.2⟩
  else s.busErr m (Reg.SEM_ACQ.WORD.addr n 0)

/-- R328, R330, R331: reads of SEM_ACQ of one semaphore that reach MSG in one cycle. -/
def execSemAcq (n : Fin 64) (ms : List Master) (s : State) : Host.Outcome State Fault Refusal :=
  .next ((foldEach (fun m t => t.semRead n.val m) (s.inOrder ms) s).onlyIf (s.reach islMSG) (·.flipPrec ms))

/-- R329: a write of SEM_ACQ. -/
def execSemRelease (n : Fin 64) (m : Master) (s : State) : Host.Outcome State Fault Refusal :=
  .next (s.winWrite m (Reg.SEM_ACQ.WORD.addr n.val 0) fun t => t.semRelease n.val (t.masterNo m))

end Sys2Proof.Machine
end

