-- ==== Sys2Proof/Machine/Monitors.lean ====
section
/-! DEFINITION. The health monitors: the commands of spec/19_alder_and_monitors.md (R440 to R444). -/

namespace Sys2Proof.Machine

/-! ## Configuration (R440, R441, R443) -/

/-- A code of R441; 0x00 names no event. -/
def latencyCode (c : Nat) : Bool :=
  c ≤ 8 || (0x10 ≤ c && c ≤ 0x70) || (0x80 ≤ c && c ≤ 0xC2) || (0xC8 ≤ c && c ≤ 0xCF)

/-- A code of R443. -/
def levelCode (c : Nat) : Bool := c ≤ 0x4A || (0x50 ≤ c && c ≤ 0x52) || (0x58 ≤ c && c ≤ 0x61)

/-- A level source that is sampled by time. -/
def timedLevel (c : Nat) : Bool := (0x48 ≤ c && c ≤ 0x4A) || (0x50 ≤ c && c ≤ 0x52) || c == 0x61

/-- May the monitor run with what its fields hold? -/
def State.monOk (s : State) (n : Nat) : Bool :=
  let src := s.rd Reg.MON_CFG.SRC n
  let stop := s.rd Reg.MON_CFG.STOP_EV n
  s.rd Reg.MON_WID.WID n != 0 && match s.rd Reg.MON_CFG.MODE n with
    | 1 => latencyCode src && latencyCode stop && stop != 0
    | 2 => levelCode src && !(timedLevel src && s.rd Reg.MON_PER.PER n == 0)
    | _ => false

/-- The measurement open in a monitor starts at an instant, or there is none. -/
def State.setOpen (s : State) (n : Nat) (t : Option Nat) : State :=
  { s with mons := SMap.set none s.mons n t }.wr Reg.MON_STAT.OPEN n (b2n t.isSome)

/-- EN takes a value. -/
def State.monEn (s : State) (n : Nat) (en : Bool) : State :=
  if en = s.on Reg.MON_CFG.EN n then s
  else if !en then ((s.wr Reg.MON_CFG.EN n 0).wr Reg.MON_STAT.RUN n 0).setOpen n none
  else if s.monOk n then ((s.wr Reg.MON_CFG.EN n 1).wr Reg.MON_STAT.RUN n 1).setOpen n none
  else s.flag Reg.MON_STAT.CFG_ERR n

/-- A write of the word MON_CFG: while EN = 1, a change of SRC, STOP_EV or MODE is discarded. -/
def State.monCfg (s : State) (n v : Nat) : State :=
  let fixed : List FD := [Reg.MON_CFG.STOP_EV, Reg.MON_CFG.SRC, Reg.MON_CFG.MODE]
  let t := if s.on Reg.MON_CFG.EN n then
      s.onlyIf (fixed.any fun f => s.rd f n != bits v f.lo f.w) (·.flag Reg.MON_STAT.CFG_ERR n)
    else foldEach (fun (f : FD) (t : State) => t.wr f n (bits v f.lo f.w)) fixed s
  ((t.wr Reg.MON_CFG.IE n (bits v 4 1)).wr Reg.MON_CFG.FREEZE n (bits v 3 1)).monEn n (bitAt v 0)

/-- A write of MON_OFS, MON_WID or MON_PER. -/
def State.monSet (s : State) (f : FD) (n v : Nat) : State :=
  if s.on Reg.MON_CFG.EN n then s.flag Reg.MON_STAT.CFG_ERR n else s.wr f n v

/-- R440: a write of EN = 1. -/
def execMonEnable (m : Master) (n : Fin 16) (s : State) : Host.Outcome State Fault Refusal :=
  .next (s.winWrite m (Reg.MON_CFG.EN.addr n.val 0) (·.monEn n.val true))

/-! ## Values (R444) -/

/-- A count advances; a saturation sets SAT. -/
def State.monCount (s : State) (f : FD) (n j : Nat) : State :=
  if s.rd f n j = 0xFFFFFFFF then s.flag Reg.MON_STAT.SAT n else s.wr2 f n j (s.rd f n j + 1)

/-- A value reaches a monitor. -/
def State.monValue (s : State) (n : Nat) (x : Int) : State :=
  let v := sgn 32 (uns 32 x)
  if s.on Reg.MON_CFG.FREEZE n then s.bump Reg.MON_MISS.N n
  else
    let t := s.onlyIf (decide (v < s.rdI Reg.MON_MIN.VAL n)) (·.wrI Reg.MON_MIN.VAL n v)
    let t := t.onlyIf (decide (s.rdI Reg.MON_MAX.VAL n < v)) (·.wrI Reg.MON_MAX.VAL n v)
    let t := t.monCount Reg.MON_CNT.N n 0
    let k := (v - s.rdI Reg.MON_OFS.OFS n).fdiv (s.rd Reg.MON_WID.WID n)
    if k < 0 then (t.monCount Reg.MON_BIN.N n 0).flag Reg.MON_STAT.UNDER n
    else if 63 < k then (t.monCount Reg.MON_BIN.N n 63).flag Reg.MON_STAT.OVER n
    else t.monCount Reg.MON_BIN.N n k.toNat

/-- The value of a level that the module itself holds (R443). -/
def State.levelOf (s : State) (src : Nat) : Option Int :=
  if src = 0x50 then some (s.rd Reg.PWR_MEAS.VLV_CV)
  else if src = 0x51 then some (s.rd Reg.PWR_MEAS.HVA_V)
  else if src = 0x52 then some (s.rd Reg.PWR_IN.P_MW)
  else if 0x58 ≤ src ∧ src ≤ 0x5F then some (s.rdI Reg.LU_OUT.OUT (src - 0x58) 0)
  else if src = 0x60 then some (s.rd Reg.ALD_STATUS.LOAD)
  else if src = 0x61 then some s.logq.length
  else none

/-- R443, R444: the level of a monitor in MODE 2 is taken: a result word, an isolated code or a temperature is `x`. -/
def execMonSample (n : Fin 16) (x : Int) (s : State) : Host.Outcome State Fault Refusal :=
  .next (s.onlyIf (s.present islMON && s.on Reg.MON_CFG.EN n.val && s.rd Reg.MON_CFG.MODE n.val == 2) fun t =>
    t.monValue n.val ((t.levelOf (t.rd Reg.MON_CFG.SRC n.val)).getD x))

/-! ## Latencies (R441, R442) -/

/-- A latency ends: while PLL-S is on bypass it is discarded. -/
def State.monLatency (s : State) (n ns : Nat) : State :=
  if s.clk.sOn then s.monValue n (min ns 0x7FFFFFFF) else s.bump Reg.MON_MISS.N n

/-- Events of one MON cycle reach a monitor. -/
def State.monPair (s : State) (codes : List Nat) (at0 n : Nat) : State :=
  let src := s.rd Reg.MON_CFG.SRC n
  let stop := s.rd Reg.MON_CFG.STOP_EV n
  let opened := SMap.get none s.mons n
  let ends : Bool := codes.contains stop
  let t := if ends then (match opened with
      | some t0 => (s.monLatency n (at0 - t0)).setOpen n none
      | none => s)
    else s
  if src ≠ 0 ∧ codes.contains src then
    (t.onlyIf (!ends && opened.isSome) (·.flag Reg.MON_STAT.OVERLAP n)).setOpen n (some at0)
  else t

/-- The monitors in MODE 1. -/
def State.monEvents (s : State) (codes : List Nat) (at0 : Nat) : State :=
  foldEach (fun n (t : State) =>
    if t.on Reg.MON_CFG.EN n ∧ t.rd Reg.MON_CFG.MODE n = 1 then t.monPair codes at0 n else t) (List.range 16) s

/-- R442: latency events of one MON cycle, at an instant in ns. -/
def execMonEvent (codes : List (Fin 256)) (at0 : Nat) (s : State) : Host.Outcome State Fault Refusal :=
  .next (s.onlyIf (s.present islMON) (·.monEvents (codes.map (·.val)) at0))

/-- R441: a write of MON_SWEV, at an instant in ns. -/
def execMonSwev (m : Master) (ev : BitVec 8) (at0 : Nat) (s : State) : Host.Outcome State Fault Refusal :=
  .next (s.winWrite m (Reg.MON_SWEV.EV.addr 0 0) (·.monEvents ((bitList 8 ev.toNat).map (0xC8 + ·)) at0))

/-- CLR = 1 is written (R444). -/
def State.monClear (s : State) (n : Nat) : State :=
  let t := (((s.wr Reg.MON_MIN.VAL n 0x7FFFFFFF).wr Reg.MON_MAX.VAL n 0x80000000).wr Reg.MON_CNT.N n 0).wr Reg.MON_MISS.N n 0
  foldEach (fun b (t : State) => t.wr2 Reg.MON_BIN.N n b 0) (List.range 64) t

/-- R444: a write of CLR = 1. -/
def execMonClr (m : Master) (n : Fin 16) (s : State) : Host.Outcome State Fault Refusal :=
  .next (s.winWrite m (Reg.MON_CTRL.CLR.addr n.val 0) (·.monClear n.val))

end Sys2Proof.Machine
end

