-- ==== Sys2Proof/Machine/Power.lean ====
section
/-! DEFINITION. The supplies, hibernation, shutdown, island requests and the Clay domain: the commands of spec/17_power_and_clay.md
(R392 to R411), and the operation on HVA (R285). -/

namespace Sys2Proof.Machine

/-! ## Power states: 0 the module runs, 1 hibernation, 2 off with Clay held, 3 the discharge set alone, 4 nothing -/

def State.setMode (s : State) (m : Nat) : State := { s with pwr := { s.pwr with mode := m } }

/-- A start that acts as a P reset (R399), and its cause; after a Clay cold start the cause is 0 (R408). -/
def State.powerStart (s : State) (c : Nat) : State :=
  (s.pReset.setMode 0).wakeCause (if s.pwr.cold then 0 else c)

/-- A start that acts as an M reset. -/
def State.warmStart (s : State) (c : Nat) : State := s.mReset.wakeCause c

/-- Every rail but the keep-alive rail falls. -/
def State.powerOff (s : State) (m : Nat) : State := s.pReset.setMode m

/-- The input that carries the load (R393). `had`: a load was carried before. -/
def State.pickSource (s : State) (had : Bool) : State :=
  let v := s.on Reg.PWR_STATUS.VLV_OK
  let h := s.on Reg.PWR_STATUS.HVA_OK
  let src := if v && h then s.rd Reg.PWR_CTRL.PREF else if h then 1 else if v then 0 else s.rd Reg.PWR_STATUS.SRC
  (s.wr Reg.PWR_STATUS.SRC 0 src).onlyIf (had && src != s.rd Reg.PWR_STATUS.SRC) (·.flag Reg.PWR_EVT.SRC_CHG 0)

/-- Does an input carry the load? -/
def State.fed (s : State) : Bool := s.on Reg.PWR_STATUS.VLV_OK || s.on Reg.PWR_STATUS.HVA_OK

/-! ## The discharge set (R285, R394) -/

/-- The islands that stay powered: Rowan, the isolated channels, die P. -/
def keptIslands : List Nat := [islRWN, islISF, 0x23, 0x24, islPCV, islCLY]

/-- Only the discharge set stays powered. -/
def State.enterDischarge (s : State) : State :=
  let t : State := { s with
    rails := foldEach (fun r m => SMap.set false m r false) [0, 1, 2, 5, 6] s.rails
    links := { s.links with edge := true, ret := true, sample := true, control := true, clockForward := true }
    linkq := [] }
  let t := t.tripStages (List.range 8)
  let t := foldEach (fun i (t : State) => ((t.enterReset i).wr Reg.ISL_STAT.POWERED i 0).wr Reg.ISL_STAT.CLK_OK i 0)
    ((List.range 39).filter fun i => !keptIslands.contains i) t
  let t := ((t.showRails.wr Reg.ISL_STAT.RAIL_OK islISF 1).flag Reg.PWR_EVT.PG_FAIL 0).powerMem
  (t.rowStatus Reg.ROW_STATUS.HVA_ONLY 1).showAllActive.setMode 3

/-- The supply returns to the other rails: every island outside the discharge set starts as at an M reset, and the discharge set keeps
what it holds, with its image parameters until the image is applied. -/
def State.dischargeStart (s : State) : State :=
  let keep (f : FD) (i j : Nat) : Bool := f.acc == .rwi || [islRWN, islISF, islNone].contains (islandAt (f.addr i j))
  let t := s.clearHidden
  let t := { t with
    rows := s.rows, rowg := s.rowg, rowrs := s.rowrs, rowanAt := s.rowanAt, ains := s.ains, isos := s.isos, routes := s.routes
    links := { Links.init with isol0 := s.links.isol0, isol1 := s.links.isol1 } }
  let t := t.resetFields fun f i j => (f.cls == .pm || f.cls == .pmd) && !keep f i j
  let t := foldEach (fun f (t : State) => t.wr f 0 (s.rd f 0)) supplyLevels t
  let t := foldEach (fun i (t : State) =>
    ((t.wr Reg.ISL_STAT.POWERED i 1).wr Reg.ISL_STAT.IN_RESET i 0).wr Reg.ISL_STAT.CLK_OK i 1) keptIslands t
  ((t.rowStatus Reg.ROW_STATUS.HVA_ONLY 0).showRails.showAllActive.setMode 0).wakeCause 6

/-- R285, R33: V_HB falls below 40 V with VLV absent: the safety region falls. -/
def execSafetyRegionFall (s : State) : Host.Outcome State Fault Refusal :=
  .next (s.onlyIf (s.pwr.mode == 3) (·.powerOff 2))

/-! ## The Clay domain (R406 to R411) -/

/-- KAL.P rises first: Clay is initialised (R408). -/
def State.coldStart (s : State) : State :=
  if s.railUp 8 then s
  else
    let t := (s.zeroMem 0x4C000000 0x4000).resetFields fun f _ _ => clayHeld f
    { t with
      clyPhase := 0, rails := SMap.set false t.rails 8 true
      pwr := { t.pwr with capTot := 0, capDone := 0, cold := true, mode := if t.pwr.mode = 4 then 2 else t.pwr.mode } }

/-- R408: the Clay cold start. -/
def execClayColdStart (s : State) : Host.Outcome State Fault Refusal := .next s.coldStart

/-- R394: VLV below 3.0 V and V_HB below 40 V: Clay loses its supply. -/
def execClaySupplyLoss (s : State) : Host.Outcome State Fault Refusal :=
  .next (s.onlyIf (s.pwr.mode == 1 || s.pwr.mode == 2) fun t => { t.setMode 4 with rails := [] })

/-- R409: a scrub pass: words corrected, and words with a double-bit error besides those that stand. -/
def State.scrub (s : State) (sbe : Nat) (dbe : List Nat) : State :=
  let bad (k : Nat) : Bool := dbe.contains k || s.eccBad.contains (0x4C000000 + 4 * k)
  let t := foldEach (fun (_ : Nat) (t : State) => t.bump Reg.CLY_ECC.SBE_CNT 0) (List.range sbe) (s.flag Reg.CLY_STAT.SCRUB_BUSY 0)
  foldEach (fun k (t : State) =>
    let a := 0x4C000000 + 4 * k
    let t := { t with eccBad := if t.eccBad.contains a then t.eccBad else t.eccBad ++ [a] }
    (t.eccCount a 1).logEv 0x0004 islCLY (leBytes 4 a)) ((List.range 4096).filter bad) t

/-- R409: CLY_CNT reaches a multiple of 2^21. -/
def execScrubPass (sbe : Fin 4097) (dbe : List (Fin 4096)) (s : State) : Host.Outcome State Fault Refusal :=
  .next (s.onlyIf (s.pwr.mode != 4 && s.rd Reg.CLY_CNT.CNT % 2 ^ 21 == 0 && !s.on Reg.CLY_STAT.SCRUB_BUSY)
    fun t => { t.scrub sbe.val (dbe.map fun k => k.val) with pwr := { t.pwr with scrubLeft := 4096 } })

/-- R409: a scrub pass ends, once the Clay clock has read its 4,096 words. -/
def execScrubPassEnd (s : State) : Host.Outcome State Fault Refusal :=
  .next (s.onlyIf (s.pwr.scrubLeft == 0) (·.wr Reg.CLY_STAT.SCRUB_BUSY 0 0))

/-- R407: a write of CAP_CLR = 1. -/
def State.capClear (s : State) : State :=
  let t := ((s.zeroMem 0x4C001000 0x400).wr Reg.CLY_STAT.CAP_WR 0 0).wr Reg.CLY_STAT.CAP_CNT 0 0
  { t with pwr := { t.pwr with capDone := t.pwr.capTot } }

def execCapClr (m : Master) (s : State) : Host.Outcome State Fault Refusal := .next (s.winWrite m (Reg.CLY_CTRL.CAP_CLR.addr 0 0) (·.capClear))

/-! ## Wake events (R403, R411) -/

/-- A wake source fires: it starts the module from hibernation, and a shutdown latches the first one. -/
def State.wakeEvent (s : State) (c : Nat) : State :=
  if s.pwr.mode = 1 then s.powerStart c
  else if s.pwr.mode = 0 ∧ s.rd Reg.PWR_STATUS.PWR_STATE = 3 ∧ s.pwr.wake = none then { s with pwr := { s.pwr with wake := some c } }
  else s

/-- R411: the filtered WAKE level changes, or stands for another filter time. -/
def execWakePin (lvl : Bool) (s : State) : Host.Outcome State Fault Refusal :=
  .next (
    if s.pwr.mode = 4 then s
    else
      let t := s.wr Reg.CLY_STAT.WAKE_LVL 0 (b2n lvl)
      t.onlyIf (lvl && t.on Reg.CLY_WAKE_CFG.EN_PIN) (·.wakeEvent 1))

/-- R411: CLY_CNT equals WAKE_AT. -/
def execWakeAtMatch (s : State) : Host.Outcome State Fault Refusal :=
  .next (s.onlyIf (s.pwr.mode != 4 && s.on Reg.CLY_WAKE_CFG.EN_RTC && s.rd Reg.CLY_CNT.CNT == s.rd Reg.CLY_WAKE_AT.AT)
    (·.wakeEvent 2))

/-! ## Inputs (R392 to R394) -/

/-- An input has become present while the module does not run: supply return, wake, or an entry for the next start. -/
def State.supplyRise (s : State) (f : FD) (hva : Bool) : State :=
  match s.pwr.mode with
  | 1 => if hva then { s with pwr := { s.pwr with riseH := true } } else { s with pwr := { s.pwr with riseV := true } }
  | 2 => (s.powerStart 6).flag f 0
  | 3 => s.dischargeStart.flag f 0
  | 4 => (s.coldStart.powerStart 6).flag f 0
  | _ => s.flag f 0

/-- R392: VLV rises above 5.8 V; LV_LOST reads 0 again (R284). -/
def execVlvRise (s : State) : Host.Outcome State Fault Refusal :=
  .next (
    if s.on Reg.PWR_STATUS.VLV_OK then s
    else
      let t := (s.wr Reg.PWR_STATUS.VLV_OK 0 1).wr Reg.PWR_STATUS.VLV_OVR 0 0
      let t := t.rowStatus Reg.ROW_STATUS.LV_LOST 0
      (t.pickSource s.fed).supplyRise Reg.PWR_EVT.VLV_RISE false)

/-- R392, R411: V_HB rises above 110 V; `ac`: the input is AC. -/
def execHvaRise (ac : Bool) (s : State) : Host.Outcome State Fault Refusal :=
  .next (
    if s.on Reg.PWR_STATUS.HVA_OK then s
    else
      let t := (s.wr Reg.PWR_STATUS.HVA_OK 0 1).wr Reg.PWR_STATUS.HVA_AC 0 (b2n ac)
      let t := (t.pickSource s.fed).supplyRise Reg.PWR_EVT.HVA_RISE true
      t.onlyIf (s.pwr.mode ≤ 1 && s.on Reg.CLY_WAKE_CFG.EN_HVA) (·.wakeEvent 3))

/-- An input has become absent. -/
def State.supplyFall (s : State) (vhb : Nat) : State :=
  if s.fed then s.pickSource true
  else match s.pwr.mode with
    | 0 => if 40 ≤ vhb then s.enterDischarge else s.powerOff 2
    | 1 => s.setMode 2
    | _ => s

/-- R392, R394: VLV falls below 5.5 V, or rises above 62 V (`over`); `vhb` is V_HB in volts. -/
def execVlvFall (ovr : Bool) (vhb : BitVec 16) (s : State) : Host.Outcome State Fault Refusal :=
  .next (
    if !s.on Reg.PWR_STATUS.VLV_OK then s
    else
      let t := ((s.wr Reg.PWR_STATUS.VLV_OK 0 0).wr Reg.PWR_STATUS.VLV_OVR 0 (b2n ovr)).flag Reg.PWR_EVT.VLV_FALL 0
      { t with pwr := { t.pwr with vlvAt := t.now } }.supplyFall vhb.toNat)

/-- R392, R394: V_HB falls below 100 V, to `vhb` volts. -/
def execHvaFall (vhb : BitVec 16) (s : State) : Host.Outcome State Fault Refusal :=
  .next (
    if !s.on Reg.PWR_STATUS.HVA_OK then s
    else
      let t := ((s.wr Reg.PWR_STATUS.HVA_OK 0 0).wr Reg.PWR_STATUS.HVA_AC 0 0).flag Reg.PWR_EVT.HVA_FALL 0
      t.supplyFall vhb.toNat)

/-- PREF takes a value (R393). -/
def State.prefWrite (s : State) (v : Nat) : State := (s.wr Reg.PWR_CTRL.PREF 0 v).pickSource s.fed

/-- R393: a write of PREF. -/
def execPrefWrite (m : Master) (v : Bool) (s : State) : Host.Outcome State Fault Refusal :=
  .next (s.winWrite m (Reg.PWR_CTRL.PREF.addr 0 0) (·.prefWrite (b2n v)))

/-- R392: the measurement of 1 ms: VLV in 10 mV, V_HB in volts, the input power in mW. -/
def execInputMeasurement (vlv vhb : BitVec 16) (mw : Nat) (s : State) : Host.Outcome State Fault Refusal :=
  .next (s.onlyIf (s.present islPCV) fun t =>
    ((t.wr Reg.PWR_MEAS.VLV_CV 0 vlv.toNat).wr Reg.PWR_MEAS.HVA_V 0 vhb.toNat).wr Reg.PWR_IN.P_MW 0 (min mw 65535))

/-! ## nRESET and the shutdown (R399, R402, R403) -/

/-- R399, R411: a rising edge of nRESET. -/
def execNreset (s : State) : Host.Outcome State Fault Refusal :=
  .next (
    if s.pwr.mode = 0 then s.warmStart 4
    else if s.pwr.mode = 1 then s.powerStart 4
    else s)

/-- Alder copies the captures that it has not copied, and writes each to the log. -/
def State.copyAll (s : State) : Nat → State
  | 0 => s
  | n + 1 => if s.pwr.capDone < s.pwr.capTot then (s.copyCapture.drainLog 65).copyAll n else s

/-- The shutdown ends: the results are written, then the module starts again or hibernates. -/
def State.shutdownEnd (s : State) : State :=
  let t := s.onlyIf (s.st.pend != []) (·.wearWrite WearAdd.init true)
  let t := t.writeMap t.mapNow
  let t := if t.present islALD then (t.drainLog 65).copyAll 64 else t
  let late : Bool := t.on Reg.CLY_WAKE_CFG.EN_RTC && decide (t.rd Reg.CLY_WAKE_AT.AT ≤ t.rd Reg.CLY_CNT.CNT)
  let t := t.onlyIf late (·.flag Reg.CLY_STAT.RTC_LATE 0)
  match t.pwr.wake with
  | some c => t.powerStart c
  | none =>
    if late then t.powerStart 2
    else if t.on Reg.PWR_CTRL.SD_MODE then t.warmStart 5
    else t.powerOff 1

/-- The code of a refused shutdown (R402): 0 where it is accepted. -/
def State.shdnCode (s : State) : Nat :=
  if (List.range 8).any s.stgEnabled then 1
  else if (List.range 8).any fun n => s.rd Reg.ROW_DIS.DSTATE n == 1 || s.rd Reg.ROW_DIS.DSTATE n == 2 then 2
  else if s.rd Reg.PWR_STATUS.PWR_STATE = 3 then 3
  else if s.rd Reg.PWR_STATUS.PWR_STATE = 1 then 4
  else 0

/-- The islands that a group of the self-test holds in D reset: those of the units and arrays that it judges (R25, R419, R420). DESIGN CHOICE:
R420 names no islands. Group 3 tests pads, latches and the Root net, which no island holds, and group 9 reads sensors. -/
def State.testIslands (s : State) (g : Nat) : List Nat :=
  match g with
  | 0 => run 0x17 8
  | 1 => run 0x13 4
  | 2 => [0x23, 0x24]
  | 4 => run 0 6
  | 5 => [islCPX, islMEM]
  | 6 => [islCED, islMEM, islCAN, islCHN, islFPC]
  | 7 => s.spareUnits.map fun p =>
      if p < 30 then p / 5 else if p < 66 then 0x13 + (p - 30) / 9 else if p < 170 then 0x17 + (p - 66) / 13
      else if p < 189 then islCED else islCPX
  | 8 => s.rotParts.flatMap fun p =>
      if p < 6 then [p] else if p = 6 then [islTBC] else if p < 16 then [islCED] else if p < 22 then [islCPX]
      else if p = 22 then [islFPC, islRXC] else [islCAN, islCHN, islMSG]
  | _ => []

/-- The islands under test enter D reset (R420); one that is held already stays as it is. -/
def State.testHold (s : State) : State :=
  let isls := (List.range 39).filter fun i => (s.testIslands (s.rd Reg.ST_STATUS.GROUP)).contains i && s.present i
  let t := foldEach (fun i t => t.enterReset i) isls s
  { t with st := { t.st with under := isls, made := t.st.made ++ isls } }

/-- The islands of an ended group leave D reset. -/
def State.testFree (s : State) : State :=
  foldEach (fun i t => t.leaveReset i) s.st.under { s with st := { s.st with under := [] } }

/-- SHDN = 1 is written. -/
def State.shutdown (s : State) : State :=
  if s.shdnCode ≠ 0 then (s.flag Reg.PWR_EVT.SD_DENIED 0).wr Reg.PWR_EVT.SD_CODE 0 s.shdnCode
  else
    let t := (s.wr Reg.PWR_STATUS.PWR_STATE 0 3).flag Reg.PWR_CTRL.SHDN 0
    let t := { t with pwr := { t.pwr with wake := none } }
    if t.on Reg.PWR_CTRL.SKIP_ST then t.shutdownEnd else t.startRun.testHold

/-- R402: a write of SHDN = 1. -/
def execShdn (m : Master) (s : State) : Host.Outcome State Fault Refusal := .next (s.winWrite m (Reg.PWR_CTRL.SHDN.addr 0 0) (·.shutdown))

/-- The record of an ended self-test (R434). -/
def State.testRecord (s : State) : State :=
  s.logEv 0x000A 0 (leBytes 4 (s.regWord Reg.ST_STATUS.GROUP 0) ++ leBytes 4 (s.regWord Reg.ST_GRP.DONE 0)
    ++ leBytes 4 (s.regWord Reg.ST_RUN.SEQ 0))

/-- R419, R425: a group of the self-test ends; after the last one the shutdown ends. -/
def execSelftestGroupDone (r : StResult) (s : State) : Host.Outcome State Fault Refusal :=
  .next (s.onlyIf (s.on Reg.ST_STATUS.RUNNING) fun t =>
    let t := (t.groupDone r).testFree
    if t.on Reg.ST_STATUS.RUNNING then t.testHold else t.testRecord.shutdownEnd)

/-! ## Island requests (R404, R405) -/

/-- A refused request. -/
def State.denyIsland (s : State) (f : FD) (isl : Nat) : State := (s.flag f 0).wr Reg.PWR_EVT.DENY_ISL 0 isl

/-- RST_REQ = 1 is written. -/
def State.rstReq (s : State) (isl : Nat) : State :=
  if s.on Reg.ISL_CTRL.PD isl || !s.on Reg.ISL_STAT.POWERED isl then s
  else if s.islBusy isl || [islMSG, islCLK, islPCV, islCLY].contains isl || ((isl == islRWN || isl == islCPX) && s.safeEnabled) then
    s.denyIsland Reg.PWR_EVT.RST_DENIED isl
  else
    let t := (s.enterReset isl).wr Reg.ISL_CTRL.RST_REQ isl 1
    { t with pwr := { t.pwr with hold := SMap.set none t.pwr.hold isl (some (t.now + 500)) } }

/-- R404: a write of RST_REQ = 1. -/
def execRstReq (m : Master) (isl : Fin 39) (s : State) : Host.Outcome State Fault Refusal :=
  .next (s.winWrite m (Reg.ISL_CTRL.RST_REQ.addr isl.val 0) (·.rstReq isl.val))

/-- R404: the hold of 1 µs ends. -/
def execIslandResetRelease (isl : Fin 39) (s : State) : Host.Outcome State Fault Refusal :=
  .next (
    match SMap.get none s.pwr.hold isl.val with
    | some t =>
      if t ≤ s.now then
        ({ s with pwr := { s.pwr with hold := SMap.set none s.pwr.hold isl.val none } }.wr Reg.ISL_CTRL.RST_REQ isl.val 0).leaveReset isl.val
      else s
    | none => s)

/-- REL = 1 is written; `clk`: the clock of the island has returned. -/
def State.relIsland (s : State) (isl : Nat) (clk : Bool) : State :=
  if !s.on Reg.ISL_STAT.FAULT isl then s
  else
    let t := s.onlyIf clk (·.wr Reg.ISL_STAT.CLK_OK isl 1)
    if t.on Reg.ISL_STAT.CLK_OK isl && t.on Reg.ISL_STAT.RAIL_OK isl then (t.wr Reg.ISL_STAT.FAULT isl 0).leaveReset isl else t

/-- R404, R405: a write of REL = 1. -/
def execIslRel (m : Master) (isl : Fin 39) (clk : Bool) (s : State) : Host.Outcome State Fault Refusal :=
  .next (s.winWrite m (Reg.ISL_CTRL.REL.addr isl.val 0) (·.relIsland isl.val clk))

/-- PD = 1 is written; `wake`: a wake event of the island's endpoint comes in the same PCV cycle. -/
def State.powerDown (s : State) (isl : Nat) (wake : Bool) : State :=
  if s.on Reg.ISL_CTRL.PD isl then s.onlyIf wake (·.closeSwitch isl)
  else if !s.on Reg.ISL_STAT.PD_CAP isl || s.islBusy isl || (isl == islCPX && s.safeEnabled)
      || (isl == islALD && (s.rd Reg.IMG_STATUS.STATE == 1 || s.rd Reg.PWR_STATUS.PWR_STATE == 3)) then
    s.denyIsland Reg.PWR_EVT.PD_DENIED isl
  else if wake && (isl == islCPX || isl == islALD) then s
  else
    let t := ((s.enterReset isl).wr Reg.ISL_CTRL.PD isl 1).wr Reg.ISL_STAT.POWERED isl 0
    { t.wr Reg.ISL_CTRL.RST_REQ isl 0 with
      pwr := { t.pwr with hold := SMap.set none t.pwr.hold isl none, pup := SMap.set none t.pwr.pup isl none } }

/-- R404, R405: a write of PD = 1. -/
def execIslandPowerDown (m : Master) (isl : Fin 39) (wake : Bool) (s : State) : Host.Outcome State Fault Refusal :=
  .next (s.winWrite m (Reg.ISL_CTRL.PD.addr isl.val 0) (·.powerDown isl.val wake))

/-- R404: a write of PD = 0. -/
def execIslandPowerUp (m : Master) (isl : Fin 39) (s : State) : Host.Outcome State Fault Refusal :=
  .next (s.winWrite m (Reg.ISL_CTRL.PD.addr isl.val 0) (·.closeSwitch isl.val))

/-- R404: the supplies of a powered-up island are good. -/
def execIslandPowered (isl : Fin 39) (s : State) : Host.Outcome State Fault Refusal :=
  .next (
    match SMap.get none s.pwr.pup isl.val with
    | some _ =>
      ({ s with pwr := { s.pwr with pup := SMap.set none s.pwr.pup isl.val none } }.wr Reg.ISL_STAT.POWERED isl.val 1).leaveReset isl.val
    | none => s)

end Sys2Proof.Machine
end

