-- ==== Sys2Proof/Machine/BusC.lean ====
section
/-! DEFINITION. The registers of the windows of messaging, CAN, the chain, clocks, power, self-test, monitors, the processor complex and
the image whose writes have rules of their own. -/

namespace Sys2Proof.Machine

/-! ## Window 7: messaging (MB_DATA, MB_HDR and MB_CTRL answer for themselves) -/

def State.write7 (s : State) (m : Master) (fs : List FD) (off i j v : Nat) : State :=
  match off with
  | 0x54 => s.mbCfg i (bits v 16 3) (bitAt v 8) (bits v 0 5)
  | 0x2008 => s.wr Reg.DB_PEND.PEND i (s.rd Reg.DB_PEND.PEND i ||| v % 2 ^ 32)
  | 0x3000 => s.semRelease i (s.masterNo m)
  | _ => s.plain fs i j v

/-! ## Window 8: CAN -/

/-- Bit timing and modes of a controller change only in INIT (R365). -/
def State.canSet (s : State) (fs : List FD) (n v : Nat) : State :=
  if s.canState n ≠ 0 ∧ fs.any fun f => s.differs f n 0 v then s.canRefuse n 4 else s.plain fs n 0 v

/-- CAN_CTRL (R365, R373). -/
def State.writeCanCtrl (s : State) (n v : Nat) (idle : Bool) : State :=
  let s := s.canSet [Reg.CAN_CTRL.MODE, Reg.CAN_CTRL.FDOE, Reg.CAN_CTRL.PXHD, Reg.CAN_CTRL.TS_SHIFT] n v
  let s := if Reg.CAN_CTRL.RUN.ones v then s.canRun n else s.canStop n idle
  s.onlyIf (Reg.CAN_CTRL.REC_START.ones v && s.canState n == 4) fun t => (t.setCanState n 5).wr Reg.CAN_CTRL.REC_START n 1

def State.write8 (s : State) (env : BusEnv) (fs : List FD) (off i j v : Nat) : State :=
  match off with
  | 0xC => s.writeCanCtrl i v env.idle
  | 0x20 => foldEach (fun b t => t.canRequest i b) (canBufs j v) s
  | 0x28 => foldEach (fun b t => t.canCancel i b) (canBufs j v) s
  | 0x40 => s.canRelease i j v
  | _ => if 0x8000 ≤ off then s.canSet fs i v else s.plain fs i j v

/-! ## Window 9: the chain -/

/-- CH_CMD (R348, R358). -/
def State.writeChCmd (s : State) (v : Nat) : State :=
  let s := (s.put Reg.CH_CMD.KEEP 0 0 v).put Reg.CH_CMD.TARGET 0 0 v
  let s := s.onlyIf (Reg.CH_CMD.ENUM.ones v) (·.chEnumerate (Reg.CH_CMD.KEEP.ones v))
  let s := s.onlyIf (Reg.CH_CMD.RESET_ALL.ones v) (·.chResetAll)
  s.onlyIf (Reg.CH_CMD.RESET_ONE.ones v) (·.chResetOne (bits v 16 6))

/-- A staging register: it stays while a change is armed (R353). -/
def State.writeStaged (s : State) (fs : List FD) (i j v : Nat) : State :=
  if s.rd Reg.CH_MC_STAT.STATE = 1 then s.flag Reg.CH_EVT.MC_DENIED 0 else s.plain fs i j v

def State.write9 (s : State) (fs : List FD) (off i j v : Nat) : State :=
  match off with
  | 0x0 => ((s.put Reg.CH_CFG.ACCEPT 0 0 v).putEn Reg.CH_CFG.EN 0 0 v (·.chSetEn true) (·.chSetEn false)).refSwitch s
  | 0x8 => s.writeChCmd v
  | 0x20 => if Reg.CH_CSYNC.ARM.ones v then s.csyncArm (bits v 8 24) else s.plain fs i j v
  | 0x44 => s.onlyIf (Reg.CH_TX_CTRL.GO.ones v) (·.chGo)
  | 0x60 =>
    if Reg.CH_MC_CTRL.PREPARE.ones v then s.mcPrepare (bits v 16 16) else s.put Reg.CH_MC_CTRL.ID 0 0 v
  | 0x88 => s.writeStaged fs i j v
  | 0x90 => s.writeStaged fs i j v
  | 0x94 => s.writeStaged fs i j v
  | 0xD0 =>
    (s.onlyIf (20 ≤ bits v 0 16) (·.put Reg.CH_MC_TMO.LEAD_US 0 0 v)).onlyIf (bits v 16 16 != 0) (·.put Reg.CH_MC_TMO.ARM_TMO_US 0 0 v)
  | _ => s.plain fs i j v

/-! ## Window 10: clocks -/

/-- PLL_CTRL (R381, R385, R388, R389). -/
def State.writePllCtrl (s : State) (k v : Nat) : State :=
  let s := (s.put Reg.PLL_CTRL.STEP_TB k 0 v).onlyIf (k == 0) (·.put Reg.PLL_CTRL.RET_MODE k 0 v)
  let s := s.pllDither k (Reg.PLL_CTRL.DITH_EN.ones v)
  let s := s.pllEn k (Reg.PLL_CTRL.EN.ones v)
  s.onlyIf (Reg.PLL_CTRL.RELOCK.ones v) (·.pllRelock k)

def State.write10 (s : State) (env : BusEnv) (fs : List FD) (off i j v : Nat) : State :=
  match off with
  | 0x0 => s.onlyIf (s.differs Reg.CLK_REF.LOCAL_SEL 0 0 v) (·.clkLocalSel (bits v 4 2) env.phase.toInt)
  | 0x104 => s.writePllCtrl i v
  | 0x8000 => s.onlyIf (16 ≤ bits v 0 14 && bits v 0 14 ≤ 16000) (·.plain fs i j v)
  | 0x8100 => s.pllSeed i (bits v 16 16) (bits v 0 16)
  | 0x8200 => if bandOk v then s.plain fs i j v else s.clkRefuse 4
  | _ => s.plain fs i j v

/-! ## Window 11: power and Clay -/

/-- PWR_CTRL (R393, R402). -/
def State.writePwrCtrl (s : State) (v : Nat) : State :=
  let s := (s.put Reg.PWR_CTRL.SD_MODE 0 0 v).put Reg.PWR_CTRL.SKIP_ST 0 0 v
  let s := s.onlyIf (s.differs Reg.PWR_CTRL.PREF 0 0 v) (·.prefWrite (bits v 1 1))
  s.onlyIf (Reg.PWR_CTRL.SHDN.ones v) (·.shutdown)

/-- ISL_CTRL (R28, R404, R405). -/
def State.writeIslCtrl (s : State) (env : BusEnv) (isl v : Nat) : State :=
  let s := s.onlyIf (Reg.ISL_CTRL.RST_REQ.ones v) (·.rstReq isl)
  let s := s.onlyIf (Reg.ISL_CTRL.REL.ones v) (·.relIsland isl env.clk)
  s.putEn Reg.ISL_CTRL.PD isl 0 v (·.powerDown isl env.wake) (·.closeSwitch isl)

def State.write11 (s : State) (env : BusEnv) (fs : List FD) (off i j v : Nat) : State :=
  match off with
  | 0x8 => s.writePwrCtrl v
  | 0x100 => s.writeIslCtrl env i v
  | 0x1010 =>
    (s.plain (fs.filter fun f => f.lo != Reg.CLY_WAKE_CFG.PIN_FLT.lo) i j v).onlyIf (bits v 8 8 != 0)
      (·.put Reg.CLY_WAKE_CFG.PIN_FLT 0 0 v)
  | 0x1020 => s.onlyIf (Reg.CLY_CTRL.CAP_CLR.ones v) (·.capClear)
  | _ => s.plain fs i j v

/-! ## Window 13: monitors and Alder -/

def State.write13 (s : State) (env : BusEnv) (fs : List FD) (off i j v : Nat) : State :=
  match off with
  | 0x0 => s.monCfg i v
  | 0x4 => s.monSet Reg.MON_OFS.OFS i v
  | 0x8 => s.monSet Reg.MON_WID.WID i v
  | 0xC => s.monSet Reg.MON_PER.PER i v
  | 0x10 => s.onlyIf (Reg.MON_CTRL.CLR.ones v) (·.monClear i)
  | 0x4008 => s.onlyIf (200 ≤ bits v 0 10 && bits v 0 10 ≤ 1000) (·.plain fs i j v)
  | 0x4020 => s.monEvents ((bitList 8 (bits v 0 8)).map (0xC8 + ·)) env.at0
  | _ => s.plain fs i j v

/-! ## Window 14: the processor complex -/

/-- CPX_CTRL (R306, R307, R309, R310). -/
def State.writeCpxCtrl (s : State) (m : Master) (v : Nat) : State :=
  let s := s.onlyIf (Reg.CPX_CTRL.SPLIT.ones v) (·.splitWrite)
  let s := s.onlyIf (Reg.CPX_CTRL.JOIN_RDY.ones v) (·.joinRdyWrite m)
  let s := s.onlyIf (Reg.CPX_CTRL.JOIN.ones v) (·.joinWrite m)
  let s := foldEach (fun c t => t.crstWrite m c) (bitList 3 (bits v 16 3)) s
  s.onlyIf (s.differs Reg.CPX_CTRL.PAUSE 0 0 v) (·.pauseWrite m (Reg.CPX_CTRL.PAUSE.ones v))

/-- CPX_IRQ_PEND: an active level source stays (R314). -/
def State.writeIrqPend (s : State) (w v : Nat) : State := (s.w1c Reg.CPX_IRQ_PEND.PEND w 0 v).irqUpdate

def State.write14 (s : State) (m : Master) (fs : List FD) (off i j v : Nat) : State :=
  match off with
  | 0x4 => s.writeCpxCtrl m v
  | 0x100 => (s.plain fs i j v).irqUpdate
  | 0x200 => s.writeIrqPend i v
  | 0x210 => (s.plain fs i j v).irqUpdate
  | 0x8004 => if Reg.CPX_INJ.GO.ones v then s.injWrite (bits v 16 2) (bits v 0 5) else s.plain fs i j v
  | _ => s.plain fs i j v

/-! ## Window 16: the image -/

/-- IMG_CTRL (R51, R52): NEXT_PREF lies in Clay; a refused LOAD leaves SLOT. -/
def State.writeImgCtrl (s : State) (v : Nat) : State :=
  let s := ((s.w1c Reg.IMG_CTRL.LOAD_ERR 0 0 v).put Reg.IMG_CTRL.NEXT_PREF 0 0 v).setByte 0x4C000000 (bits v 4 2)
  if Reg.IMG_CTRL.LOAD.ones v then s.loadWrite (bits v 1 1) else s.put Reg.IMG_CTRL.SLOT 0 0 v

def State.write16 (s : State) (m : Master) (fs : List FD) (off i j v : Nat) : State :=
  match off with
  | 0x4 => s.writeImgCtrl v
  | 0x20 => (s.w1c Reg.IMG_LOCK.UNLOCK_ERR 0 0 v).lockWrite m (bits v 0 16) (bitAt v 16)
  | 0x30 => (s.plain fs i j v).onlyIf (Reg.CLM_STATUS.CONFLICT.ones v) (·.wr Reg.CLM_STATUS.CONFLICT_CNT 0 0)
  | 0x108 => (s.w1c Reg.STG_CTRL.EN_DENIED i 0 v).putEn Reg.STG_CTRL.EN i 0 v (·.enableStage i) (·.disableStage i)
  | _ => s.plain fs i j v

/-! ## BASIC_CTRL (R17) -/

/-- A write of BASIC_CTRL (R17, R18): one that carries COMMIT = 1 while BUSY = 1 has no effect; any other waits for a commit in progress. -/
def State.writeBasic (s : State) (b v : Nat) : State :=
  let go := Reg.BASIC_CTRL.COMMIT.ones v
  if go && s.on Reg.BASIC_CTRL.BUSY b then s
  else ((s.commitEnd b).w1c Reg.BASIC_CTRL.BERR b 0 v).onlyIf go (·.commitStart b)

end Sys2Proof.Machine
end

