-- ==== Sys2Proof/Machine/Bus.lean ====
section
/-! DEFINITION. Bus accesses of a master (R8 to R11, R41, R42): writes to registers and memories, reads of words, wide fields, and the
commands that are such accesses. -/

namespace Sys2Proof.Machine

def Size.bytes : Size → Nat
  | .b8 => 1
  | .b16 => 2
  | .b32 => 4

/-! ## Registers -/

/-- The effect of a write to a register on its fields other than RWI, by its window. -/
def State.regEffect (s : State) (m : Master) (env : BusEnv) (fs : List FD) (blk off i j v : Nat) : State :=
  match blk with
  | 0 => s.write0 fs off i j v
  | 1 => s.write1 fs off i j v
  | 2 => s.write2 fs off i j v
  | 3 => s.write3 fs off i j v
  | 4 => s.write4 fs off i j v
  | 5 => s.write5 fs off i j v
  | 6 => s.write6 fs off i j v
  | 7 => s.write7 m fs off i j v
  | 8 => s.write8 env fs off i j v
  | 9 => s.write9 fs off i j v
  | 10 => s.write10 env fs off i j v
  | 11 => s.write11 env fs off i j v
  | 13 => s.write13 env fs off i j v
  | 14 => s.write14 m fs off i j v
  | 16 => s.write16 m fs off i j v
  | _ => s.plain fs i j v

/-- The Expert fields that commits translate. -/
def translated : List FD :=
  [Reg.TB_PER.PER, Reg.TB_PHS.PHS, Reg.TB_PHS.PHS_DIR, Reg.LEG_TRG.TICK, Reg.LEG_TRG.DIR, Reg.LEG_CMPA.TICK, Reg.LEG_CMPA.FINE,
   Reg.LEG_CMPB.TICK, Reg.LEG_CMPB.FINE, Reg.LEG_DTR.TICK, Reg.LEG_DTR.FINE, Reg.LEG_DTF.TICK, Reg.LEG_DTF.FINE, Reg.LEG_MINP.TICK,
   Reg.LEG_MINP.FINE, Reg.LEG_ADT_CFG.MARGIN, Reg.CMP_DAC.CODE, Reg.CMP_DAC.HYST]
  ++ [Reg.ADC_ACQ_X.ACQ, Reg.SEQ_OW_X.OW_TH, Reg.SEQ_OW_X.OW_ACQ, Reg.IL_ACQ_X.ACQ, Reg.ISO_CFG.DEC_SEL, Reg.COEF.C,
   Reg.FC_TIME.ALIGN_T, Reg.FC_WAIT.RETRY_WAIT, Reg.FC_ACC_X.RAMP_ACC, Reg.FC_RSPD.RAMP_SPD, Reg.FC_OFFS.OFFS, Reg.POS_FLT.FILT_N,
   Reg.POS_SPDC.SPD_T, Reg.RS_EXC.FTW]
  ++ [Reg.CAN_NBT0.BRP, Reg.CAN_NBT0.TSEG1, Reg.CAN_NBT1.TSEG2, Reg.CAN_NBT1.SJW, Reg.CAN_DBT.BRP, Reg.CAN_DBT.TSEG1,
   Reg.CAN_DBT.TSEG2, Reg.CAN_DBT.SJW, Reg.CAN_TDC.TDCO, Reg.CAN_TDC.TDC_EN, Reg.CLK_TRK.TRK_SLEW, Reg.PLL_DITH.DEV]

/-- Is a field of a unit one that a commit translates? Of the coefficients, the five of each block (R215). -/
def isTranslated (f : FD) (j : Nat) : Bool :=
  translated.any (fun g => g.blk == f.blk && g.off == f.off && g.lo == f.lo)
    && (!(f.blk == 4 && f.off == 0xA000) || (decide (128 ≤ j % 256) && decide (j % 8 < 5)))

/-- EXPERT_OVR is set where a write has changed a translated field (R17, R18). -/
def State.noteExpert (s old : State) (fs : List FD) (i j : Nat) : State :=
  match fs.find? fun f => isTranslated f j && s.rd f i j != old.rd f i j with
  | some f => s.flag Reg.BASIC_CTRL.EXPERT_OVR f.blk
  | none => s

/-- Does the address name no register for want of a resource with its ID (R57)? -/
def claimGap (fs : List FD) (i : Nat) : Bool :=
  fs.any fun f => f.blk == 16 && f.off == Reg.CLAIM.STATE.off && !resourceOk i

/-- The register at an address (R9), where there is one. -/
def regOf (a : Nat) : Option (List FD × FD × Nat × Nat × Nat) :=
  match regAt a with
  | some (f :: t, i, j, k) => if claimGap (f :: t) i then none else some (f :: t, f, i, j, k)
  | _ => none

/-! ## Wide fields (R10) -/

def State.setWhold (s : State) (m : Master) (h : Hold) : State := { s with whold := SMap.set Hold.init s.whold (s.masterNo m) h }
def State.setRhold (s : State) (m : Master) (h : Hold) : State := { s with rhold := SMap.set Hold.init s.rhold (s.masterNo m) h }
def State.wholdOf (s : State) (m : Master) : Hold := SMap.get Hold.init s.whold (s.masterNo m)
def State.rholdOf (s : State) (m : Master) : Hold := SMap.get Hold.init s.rhold (s.masterNo m)

/-- A wide field takes a value as one step. -/
def State.setWide (s : State) (f : FD) (i j v : Nat) : State :=
  if f.blk = 4 then (if s.blkUsed i j then s.flag Reg.LU_STAT.BLK_DENIED i else s.wr2 f i j v)
  else if f.blk = 14 then (s.wr2 f i j v).showMtip i
  else s.wr2 f i j v

/-- A write of word k of a wide field: an upper word is held, the low word sets the field. DESIGN CHOICE: a low-word write of another wide
field leaves the write holding register as it is; R10 empties it after the write that uses it and names upper-word writes as what changes
it. -/
def State.wideStore (s : State) (m : Master) (f : FD) (i j k v : Nat) : State :=
  let a := f.addr i j
  if f.acc != .rw then s
  else if k ≠ 0 then s.setWhold m ⟨some a, v⟩
  else
    let h := s.wholdOf m
    let mine : Bool := h.fld == some a
    let up := if mine then h.up else s.rd f i j / 2 ^ 32
    (s.setWide f i j (v + up * 2 ^ 32)).onlyIf mine (·.setWhold m Hold.init)

/-! ## Writes -/

/-- An aligned 32-bit write inside the block windows. -/
def State.regStore (s : State) (m : Master) (env : BusEnv) (a v : Nat) : State :=
  let (b, off) := winOf a
  if b = 15 ∨ !s.reach (islandAt a) then s.busErr m a
  else if off = 0x7FF8 then s.ack m
  else if off = 0x7FFC then (s.writeBasic b v).ack m
  else match regOf a with
    | none => s.busErr m a
    | some (fs, f, i, j, k) =>
      let s := s.commitEnd b
      if 32 < f.w then (s.wideStore m f i j k v).ack m
      else if b = 7 ∧ f.off < 0x48 then s.mbWrite m i (if f.off = 0 then j else 16) v
      else if b = 7 ∧ f.off = 0x48 then s.mbCtrl m i (bitAt v 0) (bitAt v 1) (bitAt v 2)
      else if b = 5 ∧ f.off = 0xF004 then s.tblAccess m true v
      else
        let t := s.onlyIf (fs.any fun f => f.acc == .rwi) (·.rwiWrite m a v)
        ((t.regEffect m env fs b f.off i j v).noteExpert t fs i j).ack m

/-- A store of `n` bytes to CAN message RAM (R369, R372). -/
def State.canRamStore (s : State) (m : Master) (a n v : Nat) : State :=
  let c := (a - 0x4A000000) / 0x4000
  let b := (a - 0x4A000000) % 0x4000 / 0x100
  if s.canBit Reg.CAN_TXPEND.PEND c b then s.busErr m a
  else
    let old := s.canCtl c b
    (((s.setNum a n v).eccWritten a n).canDirChanged c b old).ack m

/-- A store to the TCM alias: the TCM of the issuing core, of every core while the cores are one master (R41, R295). -/
def State.aliasStore (s : State) (m : Master) (a n v : Nat) : State :=
  match coreOf m with
  | some c =>
    let cores := if s.splitMode then [c] else [0, 1, 2]
    (foldEach (fun c t => t.tcmStore c (a - 0x10000000) n v) cores s).ack m
  | none => s.busErr m a

/-- Does a core's store stay in its data cache (R312)? -/
def State.writesBack (s : State) (m : Master) (a : Nat) : Bool :=
  (coreOf m).isSome && s.mode == cpxSplit && s.cpx.wb && cacheable a

/-- An aligned store of `n` bytes to a memory range (R40, R41). -/
def State.memStore (s : State) (m : Master) (a n v : Nat) : State :=
  match memRangeOf a with
  | none => s.busErr m a
  | some (base, _, isl) =>
    if !s.reach isl then s.busErr m a
    else if base = 0x10000000 then s.aliasStore m a n v
    else if base = 0x48000000 then s.cedAccess ⟨some m, false, a, n, v⟩
    else if base = 0x4A000000 then s.canRamStore m a n v
    else if base = 0x4B000000 then ((s.setNum a n v).eccWritten a n).ack m
    else if base = 0x4C000000 then (if a < 0x4C002000 then s.busErr m a else ((s.setNum a n v).eccWritten a n).ack m)
    else if s.writesBack m a then (s.dStore ((coreOf m).getD 0) a n v).ack m
    else s.ramStore m a n v

/-- A bus write of a master. -/
def State.busStore (s : State) (m : Master) (env : BusEnv) (size : Size) (a v : Nat) : State :=
  let n := size.bytes
  if a % n ≠ 0 then s.busErr m a
  else if inWindows a then (if n = 4 then s.regStore m env a v else s.busErr m a)
  else s.memStore m a n v

/-! ## Reads of words -/

/-- A read of word k of a wide field: the low word captures the upper word; an upper word reads as captured while the read holding
register names the field. -/
def State.wideLoad (s : State) (m : Master) (f : FD) (i j k : Nat) : State :=
  let a := f.addr i j
  let v := s.rd f i j
  let h := s.rholdOf m
  if k = 0 then (s.setRhold m ⟨some a, v / 2 ^ 32⟩).setResp m ⟨false, v % 2 ^ 32⟩
  else s.setResp m ⟨false, if h.fld = some a then h.up else v / 2 ^ 32⟩

/-- Some registers show what they compute at the read. -/
def State.freshen (s : State) (b off i : Nat) : State :=
  if b = 13 ∧ off = Reg.ALD_STATUS.BUSY.off then s.showBusy
  else if b = 8 ∧ off = Reg.CAN_TSNOW.TSNOW.off then s.wr Reg.CAN_TSNOW.TSNOW i (s.canTs i s.chainTime)
  else s

/-- The word of a register as it reads: WO fields read 0. -/
def State.regWordOf (s : State) (fs : List FD) (i j : Nat) : Nat :=
  fs.foldl (fun x f => if f.acc == .wo then x else x + s.rd f i j * 2 ^ f.lo) 0

/-- A read of a register: a read of SEM_ACQ acquires (R328), FC_TBL_DATA reads its table (R229), CAN_STAT shows LEC 7 afterwards. -/
def State.regLoad (s : State) (m : Master) (a : Nat) : State :=
  let (b, off) := winOf a
  if !s.reach (islandAt a) then s.busErr m a
  else if off = 0x7FF8 then s.setResp m ⟨false, 0x100 + b⟩
  else match regOf a with
    | none => s.busErr m a
    | some (fs, f, i, j, k) =>
      if 32 < f.w then s.wideLoad m f i j k
      else if b = 7 ∧ f.off = Reg.SEM_ACQ.WORD.off then s.semRead i m
      else if b = 7 ∧ f.off = Reg.SEM_PEEK.WORD.off then s.setResp m ⟨false, s.semPeek i (s.masterNo m)⟩
      else if b = 5 ∧ f.off = 0xF004 then s.tblAccess m false 0
      else
        let s := s.freshen b f.off i
        (s.setResp m ⟨false, s.regWordOf fs i j⟩).onlyIf (b == 8 && f.off == Reg.CAN_STAT.LEC.off) (·.wr Reg.CAN_STAT.LEC i 7)

/-- The word that a core's TCM holds. -/
def State.tcmWord (s : State) (c off : Nat) : Nat := ofLe ((List.range 4).map fun k => s.tcmByte c (off + k))

/-- The word of memory as a master sees it: a core's dirty bytes cover memory. -/
def State.memWord (s : State) (m : Master) (a : Nat) : Nat :=
  ofLe ((List.range 4).map fun k => match (coreOf m).bind fun c => s.dirty c (a + k) with
    | some v => v.toNat
    | none => s.byte (a + k))

/-- A read of an aligned word of a memory range; a double-bit error ends in a bus error (R33). -/
def State.memLoad (s : State) (m : Master) (a : Nat) : State :=
  match memRangeOf a with
  | none => s.busErr m a
  | some (base, _, isl) =>
    if !s.reach isl then s.busErr m a
    else if base = 0x10000000 then
      match coreOf m with
      | some c =>
        if s.eccBad.contains (tcmEcc c (a - 0x10000000)) then (s.eccMet a isl).busErr m a else s.setResp m ⟨false, s.tcmWord c (a - 0x10000000)⟩
      | none => s.busErr m a
    else if base = 0x48000000 then s.cedAccess ⟨some m, true, a, 4, 0⟩
    else if s.eccBad.contains a then s.eccMeet m a isl
    else s.setResp m ⟨false, s.memWord m a⟩

/-- A read of a 32-bit word. -/
def State.busLoad (s : State) (m : Master) (a : Nat) : State :=
  if a % 4 ≠ 0 then s.busErr m a else if inWindows a then s.regLoad m a else s.memLoad m a

/-! ## The commands -/

/-- R8, R9, R11, R41, R42: a bus write of a master. -/
def execRegisterWrite (m : Master) (size : Size) (addr data : BitVec 32) (env : BusEnv) (s : State) : Host.Outcome State Fault Refusal :=
  .next (s.busStore m env size addr.toNat (data.toNat % 2 ^ (8 * size.bytes)))

/-- The word of a wide field that an address names. -/
def wideWord (a : Nat) : Option Nat :=
  if inWindows a && a % 4 == 0 then (regOf a).bind fun r => if 32 < r.2.1.w then some r.2.2.2.2 else none else none

/-- R10: a read of the low word of a wide field. -/
def execWideLowRead (m : Master) (addr : BitVec 32) (s : State) : Host.Outcome State Fault Refusal :=
  .next (if wideWord addr.toNat = some 0 then s.busLoad m addr.toNat else s)

/-- R10: a write of an upper word of a wide field. -/
def execWideUpperWrite (m : Master) (addr data : BitVec 32) (env : BusEnv) (s : State) : Host.Outcome State Fault Refusal :=
  .next (if (wideWord addr.toNat).any (· ≠ 0) then s.busStore m env .b32 addr.toNat data.toNat else s)

/-- R10: a write of the low word of a wide field. -/
def execWideLowWrite (m : Master) (addr data : BitVec 32) (env : BusEnv) (s : State) : Host.Outcome State Fault Refusal :=
  .next (if wideWord addr.toNat = some 0 then s.busStore m env .b32 addr.toNat data.toNat else s)

/-- R45: a write to an image slot or to the key record. -/
def execMemorySlotWrite (m : Master) (size : Size) (addr data : BitVec 32) (env : BusEnv) (s : State) : Host.Outcome State Fault Refusal :=
  .next (if keyRecord ≤ addr.toNat ∧ addr.toNat < 0x1000000 then
      s.busStore m env size addr.toNat (data.toNat % 2 ^ (8 * size.bytes))
    else s)

/-- R11, R64, R65: a write to a register that holds RWI fields. -/
def execRwiWrite (m : Master) (addr data : BitVec 32) (env : BusEnv) (s : State) : Host.Outcome State Fault Refusal :=
  .next (if (rwiFields addr.toNat).isEmpty then s else s.busStore m env .b32 addr.toNat data.toNat)

end Sys2Proof.Machine
end

