-- ==== Sys2Proof/Machine/ChainTime.lean ====
section
/-! DEFINITION. Chain time, what a mode change applies, and the chain reset (spec/14_obpex_chain.md, R350, R352, R356 to R358;
spec/16_clocks.md, R387). Errors and delays are in 1/64 tick. -/

namespace Sys2Proof.Machine

/-! ## The mode change at T (R356, R357) -/

/-- The staged writes in pair order: ordinary writes of their registers; no master's answer or holding register takes part. -/
def State.mcWrites (s : State) : State :=
  let env : BusEnv := ⟨0, false, false, false, 0⟩
  let t := foldEach (fun i t => t.busStore .ash env .b32 (t.rd Reg.CH_MC_ADDR.ADDR i) (t.rd Reg.CH_MC_VAL.VAL i))
    (bitList 8 (s.rd Reg.CH_MC_STG.STG_EN)) s
  { t with resp := s.resp, rhold := s.rhold, whold := s.whold }

/-- The module reports to address 0; the master's own report needs no frame. -/
def State.mcReport (s : State) (applied : Bool) : State :=
  let id := s.rd Reg.CH_MC_STAT.ID
  if s.chRole = 2 then s.onlyIf (applied && s.mcMine [id]) (·.mcApplied 0) else s.chSend (if applied then 0x15 else 0x16) 0 [id]

/-- Chain time is at or above T: the armed change applies or expires. -/
def State.mcApply (s : State) (step : Bool) : State :=
  if s.rd Reg.CH_MC_STAT.STATE ≠ 1 ∨ s.chainTime < s.ch.t then s
  else if s.on Reg.CH_MC_STAT.CMT then
    ((s.mcWrites.onlyIf (step || !s.on Reg.CH_STATUS.TLOCK) (·.flag Reg.CH_MC_STAT.LOCK_LOST 0)).mcState 2).mcReport true
  else (s.mcState 5).mcReport false

/-- R356: chain time reaches T. -/
def execMcApply (s : State) : Host.Outcome State Fault Refusal := .next (if s.chOn then s.mcApply false else s)

/-! ## MARK (R350) -/

/-- R350: every 2,048 ticks the master sends a MARK out of P1 and one out of P0. -/
def execMarkEmit (s : State) : Host.Outcome State Fault Refusal :=
  .next (
    let due : Bool := match s.ch.markAt with | some t => decide (t + 2048 ≤ s.now) | none => true
    if s.chOn ∧ s.chRole = 2 ∧ due then
      let t := (s.chEmit 0 (.mark s.chainTime 0 0 false)).chEmit 1 (.mark s.chainTime 0 0 true)
      { t with ch := { t.ch with markAt := some t.now } }
    else s)

/-- TLOCK is lost after three MARKs in a row that are missing or beyond ±2 ns. -/
def State.chMarkBad (s : State) : State :=
  let s := { s with ch := { s.ch with good := 0, bad := s.ch.bad + 1 } }
  if 3 ≤ s.ch.bad ∧ s.on Reg.CH_STATUS.TLOCK then (s.wr Reg.CH_STATUS.TLOCK 0 0).flag Reg.CH_EVT.TLOCK_LOST 0 else s

/-- TLOCK counts a MARK with its error: ±1 ns is 32 units, ±2 ns is 64. -/
def State.chMarkLock (s : State) (err : Int) : State :=
  if err.natAbs ≤ 32 then
    let s := { s with ch := { s.ch with good := s.ch.good + 1, bad := 0 } }
    s.onlyIf (decide (16 ≤ s.ch.good)) (·.wr Reg.CH_STATUS.TLOCK 0 1)
  else if err.natAbs ≤ 64 then { s with ch := { s.ch with good := 0, bad := 0 } }
  else s.chMarkBad

/-- An error above 64 ticks loads chain time at once; what the step passes is decided at its edge (R352, R357). -/
def State.chStep (s : State) (err : Int) : State :=
  let old := s.chainTime
  let new := ((old : Int) - roundAny (mkRat err 64)).toNat % 2 ^ 64
  let s := (s.wr Reg.CH_TIME.TIME 0 new).flag Reg.CH_EVT.TSTEP 0
  let s := if old ≤ new then s.mcApply true else s
  if !s.on Reg.CH_CSYNC.ARM then s
  else if new < old then s.flag Reg.CH_EVT.CSYNC_STEP 0
  else if s.rd Reg.CH_CSYNC_AT.AT ≤ new then (s.csyncRaise new).flag Reg.CH_EVT.CSYNC_STEP 0
  else s

/-- A smaller error steers PLL-T: −16 ppm for each ns, in 1/16 ppm, within ±TRK_SLEW; held while PLL-T coasts or returns (R387). -/
def State.chSteer (s : State) (err : Int) : State :=
  let lim : Int := s.rd Reg.CLK_TRK.TRK_SLEW
  if s.pllSt 0 = 4 ∨ s.pllSt 0 = 5 then s else s.wrI Reg.PLL_PHERR.FOFS 0 (clampI (-lim) lim (-8 * err))

/-- Use the estimate of a MARK; a copy that comes later is only forwarded. -/
def State.chUseMark (s : State) (k : ChMark) : State :=
  let s := { s with ch := { s.ch with mark := some { k with n := 3 } } }
  let s := s.chMarkLock k.err
  if 4096 < k.err.natAbs then s.chStep k.err else s.chSteer k.err

/-- Is a pending MARK due: both copies have arrived, or 1,024 ticks have passed since the first? -/
def State.chMarkDue (s : State) (k : ChMark) : Bool := k.n == 2 || (k.n == 1 && decide (k.at0 + 1024 ≤ s.now))

/-- The first copy of a MARK arrives. -/
def State.chNewMark (s : State) (k : ChMark) : State :=
  { s with ch := { s.ch with mark := some k, markIn := some s.now, gone := 0 } }.wr Reg.CH_STATUS.MASTER_LOST 0 0

/-- A member takes a copy into its estimate: the one with the lower H, the first one where H is equal. -/
def State.chTakeMark (s : State) (k : ChMark) : State :=
  match s.ch.mark with
  | some o =>
    if o.tm = k.tm then
      if o.n = 1 then
        let best := if k.h < o.h then k else o
        { s with ch := { s.ch with mark := some { best with at0 := o.at0, n := 2 } } }
      else s
    else (if s.chMarkDue o then s.chUseMark o else s).chNewMark k
  | none => s.chNewMark k

/-- R350: a copy of a MARK arrives at a port, `sub` 1/64 ticks after the tick edge; it leaves after `res` 1/64 ticks. The master takes its
own copies off the ring. -/
def execChMark (p : Fin 2) (time : BitVec 64) (corr : BitVec 32) (hops : BitVec 8) (dir first : Bool) (sub : Fin 64) (res : Nat) (s : State) :
    Host.Outcome State Fault Refusal :=
  .next (
    if !s.chOn || !s.chUp p.val || s.chRole == 2 then s
    else
      let d := s.rd Reg.CH_PORT.DELAY p.val
      let err : Int := ((64 * s.chainTime + sub.val : Nat) : Int) - ((64 * time.toNat + corr.toNat + d : Nat) : Int)
      let t := if s.chRole = 1 ∧ first then s.chTakeMark ⟨time.toNat, hops.toNat, err, s.now, 1⟩ else s
      t.chEmit p.val (.mark time.toNat ((corr.toNat + d + res) % 2 ^ 32) ((hops.toNat + 1) % 256) dir))

/-- R350: a member applies the estimate of a MARK. -/
def execMarkApply (s : State) : Host.Outcome State Fault Refusal :=
  .next (match s.ch.mark with
    | some k => if s.chOn && s.chRole == 1 && s.chMarkDue k then s.chUseMark k else s
    | none => s)

/-- R349, R350: a MARK that a member expects does not arrive. -/
def execMarkMissing (s : State) : Host.Outcome State Fault Refusal :=
  .next (
    let due : Bool := match s.ch.markIn with | some t => decide (t + 2048 < s.now) | none => true
    if s.chOn ∧ s.chRole = 1 ∧ due then
      let next := match s.ch.markIn with | some t => t + 2048 | none => s.now
      let t := { s with ch := { s.ch with markIn := some next, gone := s.ch.gone + 1 } }.chMarkBad
      t.onlyIf (decide (3 ≤ t.ch.gone)) (·.wr Reg.CH_STATUS.MASTER_LOST 0 1)
    else s)

/-! ## Chain reset (R358) -/

/-- R358: the M reset that a RESET frame or RESET_ALL asked for falls due. -/
def execChainResetApply (s : State) : Host.Outcome State Fault Refusal :=
  .next (match s.ch.rstAt with
    | some t => if s.present islCHN ∧ t ≤ s.now then s.mReset else s
    | none => s)

end Sys2Proof.Machine
end

