-- ==== Sys2Proof/Machine/Hosts.lean ====
section
/-! DEFINITION. The host ports H0 and H1 (R332 to R337): each command stands for one transaction, from the fall of CSN to its rise. -/

namespace Sys2Proof.Machine

def State.hp (s : State) (p : Nat) : HpS := SMap.get HpS.init s.hps p
def State.setHp (s : State) (p : Nat) (r : HpS) : State := { s with hps := SMap.set HpS.init s.hps p r }

/-- The bus master of a port. -/
def portMaster (p : Nat) : Master := if p = 0 then .h0 else .h1

/-- A port answers while its serial island and the message island are present. -/
def State.hpUp (s : State) (p : Nat) : Bool := s.present (islHP0 + p) && s.present islMSG

/-- The write buffer takes a content; FREE shows the room left (R333). -/
def State.setBuf (s : State) (p : Nat) (buf : List (Nat × Nat)) : State :=
  (s.setHp p { s.hp p with buf := buf }).wr Reg.HP_STAT.FREE p (64 - buf.length)

/-- The port returns words. -/
def State.hpOut (s : State) (p : Nat) (l : List Nat) : State := s.setHp p { s.hp p with out := l }

/-- A transaction other than RST begins: an RSTEN before it is spent, nothing is returned yet (R333). -/
def State.hpBegin (s : State) (p : Nat) : State := s.setHp p { s.hp p with rsten := false, out := [] }

/-- The status byte (R334). -/
def State.hpStatus (s : State) (p : Nat) : Nat :=
  s.rd Reg.HP_STAT.BERR p * 128 + s.rd Reg.HP_STAT.WOVF p * 64 + s.rd Reg.DB_WAKE.WAKE (4 + p) * 32
    + b2n (s.dbWord (4 + p) != 0) * 16 + s.rd Reg.HP_STAT.ABND p * 8 + s.rd Reg.HP_STAT.CMD_ERR p * 4

/-- The oldest buffered word issues to the bus (R335). -/
def State.hpIssue (s : State) (p : Nat) (env : BusEnv) : State :=
  match (s.hp p).buf with
  | [] => s
  | (a, v) :: rest => (s.setBuf p rest).busStore (portMaster p) env .b32 a v

/-- Buffered words issue in order. -/
def State.hpIssueN (s : State) (p : Nat) (env : BusEnv) : Nat → State
  | 0 => s
  | n + 1 => (s.hpIssue p env).hpIssueN p env n

/-- Every buffered word issues. -/
def State.hpDrain (s : State) (p : Nat) (env : BusEnv) : State := s.hpIssueN p env (s.hp p).buf.length

/-- A read access of a port. One that meets the sine fill has no acknowledge within 10 µs (R27, R227). DESIGN CHOICE: one that meets a run of
a loop unit (R188) finds its free cycle within the transaction, which is one command here; no run writes table RAM. -/
def State.hpLoad (s : State) (p a : Nat) : State :=
  let t := s.busLoad (portMaster p) a
  if s.tblq.length < t.tblq.length then
    ({ t with tblq := s.tblq }.busErr (portMaster p) a).logEv 0x0001 islFPC (leBytes 4 a)
  else if s.cedq.length < t.cedq.length then { t with cedq := s.cedq }.cedLand ⟨some (portMaster p), true, a, 4, 0⟩
  else t

/-- The read accesses of a transaction in rising address, and their words: 0 for one that ends in a bus error (R335). -/
def State.hpReads (s : State) (p a : Nat) : Nat → State × List Nat
  | 0 => (s, [])
  | n + 1 =>
    let t := s.hpLoad p (a % 2 ^ 32)
    let r := t.respOf (portMaster p)
    let (u, l) := t.hpReads p (a + 4) n
    (u, (if r.berr then 0 else r.data) :: l)

/-- A read of `n` words: after every earlier write of the port; the data, then the status byte (R333 to R335). -/
def State.hpRead (s : State) (p a n : Nat) (env : BusEnv) : State :=
  let (t, l) := ((s.hpBegin p).hpDrain p env).hpReads p a n
  t.hpOut p (l ++ [t.hpStatus p])

/-- Words to write enter the buffer as far as it has room (R333, R337). -/
def State.hpTake (s : State) (p a : Nat) (ws : List Nat) : State :=
  let free := 64 - (s.hp p).buf.length
  let new := ((ws.take free).zipIdx).map fun e => ((a + 4 * e.2) % 2 ^ 32, e.1)
  (s.setBuf p ((s.hp p).buf ++ new)).onlyIf (decide (free < ws.length)) (·.flag Reg.HP_STAT.WOVF p)

/-- RD: one word (R333). -/
def execHpRd (p : Fin 2) (addr : BitVec 32) (env : BusEnv) (s : State) : Host.Outcome State Fault Refusal :=
  .next (if s.hpUp p.val then s.hpRead p.val addr.toNat 1 env else s)

/-- RDN: N words; 0 or above 64 is refused, with START and no data (R333). -/
def execHpRdn (p : Fin 2) (addr : BitVec 32) (n : BitVec 8) (env : BusEnv) (s : State) : Host.Outcome State Fault Refusal :=
  .next (
    if !s.hpUp p.val then s
    else if n.toNat = 0 ∨ 64 < n.toNat then (s.hpBegin p.val).flag Reg.HP_STAT.CMD_ERR p.val
    else s.hpRead p.val addr.toNat n.toNat env)

/-- WR: data words enter the write buffer (R333). -/
def execHpWr (p : Fin 2) (addr : BitVec 32) (ws : List (BitVec 32)) (s : State) : Host.Outcome State Fault Refusal :=
  .next (if s.hpUp p.val then (s.hpBegin p.val).hpTake p.val addr.toNat (ws.map (·.toNat)) else s)

/-- RDSR: the status byte, FREE and the doorbell word (R333). -/
def execHpRdsr (p : Fin 2) (s : State) : Host.Outcome State Fault Refusal :=
  .next (if s.hpUp p.val then
      (s.hpBegin p.val).hpOut p.val [s.hpStatus p.val, s.rd Reg.HP_STAT.FREE p.val, s.dbWord (4 + p.val)]
    else s)

/-- RSTEN: the next transaction may be RST (R333). -/
def execHpRsten (p : Fin 2) (s : State) : Host.Outcome State Fault Refusal :=
  .next (if s.hpUp p.val then (s.hpBegin p.val).setHp p.val { (s.hpBegin p.val).hp p.val with rsten := true } else s)

/-- RST: a port reset after RSTEN (R336), else refused (R337). -/
def execHpRst (p : Fin 2) (s : State) : Host.Outcome State Fault Refusal :=
  .next (
    if !s.hpUp p.val then s
    else if (s.hp p.val).rsten then (s.hpClear p.val).advanceEpoch (4 + p.val)
    else (s.hpBegin p.val).flag Reg.HP_STAT.CMD_ERR p.val)

/-- R335: a buffered word issues to the bus. -/
def execHpWriteIssue (p : Fin 2) (env : BusEnv) (s : State) : Host.Outcome State Fault Refusal :=
  .next (if s.present islMSG then s.hpIssue p.val env else s)

/-- R337: CSN rises before START of a read of `reads` words, or within a data word of a WR after the words `ws`. -/
def execHpAbandon (p : Fin 2) (addr : BitVec 32) (reads : Option (BitVec 8)) (ws : List (BitVec 32)) (env : BusEnv) (s : State) :
    Host.Outcome State Fault Refusal :=
  .next (
    if !s.hpUp p.val then s
    else match reads with
      | some n =>
        if n.toNat = 0 ∨ 64 < n.toNat then (s.hpBegin p.val).flag Reg.HP_STAT.CMD_ERR p.val
        else ((s.hpRead p.val addr.toNat n.toNat env).hpOut p.val []).flag Reg.HP_STAT.ABND p.val
      | none => ((s.hpBegin p.val).hpTake p.val addr.toNat (ws.map (·.toNat))).flag Reg.HP_STAT.CMD_ERR p.val)

/-- R337: a transaction with an unknown command byte. -/
def execHpUnknownCommand (p : Fin 2) (s : State) : Host.Outcome State Fault Refusal :=
  .next (if s.hpUp p.val then (s.hpBegin p.val).flag Reg.HP_STAT.CMD_ERR p.val else s)

end Sys2Proof.Machine
end

