-- ==== Sys2Proof/Machine/Voter.lean ====
section
/-! DEFINITION. The commit voter (spec/12_processor_complex.md, R293 to R295, R300, R304): the items that the cores commit in one cycle. -/

namespace Sys2Proof.Machine

/-- The encoding of an item in CPX_LAST.KIND. -/
def Item.kind : Item → Nat
  | .reg .. => 0
  | .store .. => 1
  | .csr .. => 2
  | .load .. => 3
  | .refill .. => 3
  | .lookup .. => 6

/-- The encoding of an item in CPX_LAST.ITEM: the register index or CSR number, 0 for the other kinds. -/
def Item.number : Item → Nat
  | .reg i _ => i.val
  | .csr n _ => n.toNat
  | _ => 0

/-- Is it an uncached load, which a resumption issues again (R301)? -/
def Item.isLoad : Item → Bool
  | .load .. => true
  | _ => false

/-- Cache lookups are compared in PAIR only (R300). -/
def State.comparedItem (s : State) (x : Option Item) : Option Item :=
  match x with
  | some (.lookup ..) => if s.mode = cpxPair then x else none
  | _ => x

/-- CPX_LAST of a mismatch between items: a cycle in which only some cores commit is a mismatch of commit timing. -/
def State.lastOf (s : State) (core pc : Nat) (xs : List (Option Item)) : State :=
  let is := xs.filterMap id
  if is.length < xs.length then s.lastMismatch 4 core 0 pc
  else
    match is[Config.itemShown pc % is.length]? with
    | some x => s.lastMismatch x.kind core x.number pc
    | none => s

/-! ## The injected mismatch of CPX_INJ -/

/-- The logical core that CPX_INJ names: in PAIR 0 is the leading and 1 the trailing core. -/
def State.injCore (s : State) : Nat :=
  let c := s.rd Reg.CPX_INJ.CORE
  if s.mode = cpxPair then (coresOf s.act).getD c 3 else c

/-- Is this register-file write the one that GO waits for? -/
def State.injHits (s : State) (c : Nat) (x : Option Item) : Bool :=
  match x with
  | some (.reg ..) => s.on Reg.CPX_INJ.GO && s.injCore == c && bitAt s.act c
  | _ => false

/-- The item of a core, with the flipped bit where GO waits for it. -/
def State.injected (s : State) (c : Nat) (x : Option Item) : Option Item :=
  match x with
  | some (.reg i v) => if s.injHits c x then some (.reg i (v ^^^ (1 <<< s.rd Reg.CPX_INJ.BIT))) else x
  | _ => x

/-! ## Released items -/

/-- A read of one to four bytes; registers answer words only (R9). -/
def State.busLoadN (s : State) (m : Master) (size : Size) (a : Nat) : State :=
  let n := size.bytes
  if n = 4 then s.busLoad m a
  else if a % n ≠ 0 ∨ inWindows a then s.busErr m a
  else
    let t := s.memLoad m (a / 4 * 4)
    t.setResp m { t.respOf m with data := (t.respOf m).data / 2 ^ (8 * (a % 4)) % 2 ^ (8 * n) }

/-- A store with its byte mask: a whole word, a half word, or single bytes. -/
def State.busStoreMask (s : State) (m : Master) (env : BusEnv) (a v mask : Nat) : State :=
  let w := a / 4 * 4
  if mask = 15 then s.busStore m env .b32 w v
  else if mask = 3 then s.busStore m env .b16 w (v % 2 ^ 16)
  else if mask = 12 then s.busStore m env .b16 (w + 2) (v / 2 ^ 16 % 2 ^ 16)
  else foldEach (fun i t => t.busStore m env .b8 (w + i) (v / 2 ^ (8 * i) % 2 ^ 8)) (bitList 4 mask) s

/-- An item leaves the complex: a store or a load reaches the bus. -/
def State.busItem (s : State) (m : Master) (env : BusEnv) : Item → State
  | .store a v mask => s.busStoreMask m env a.toNat v.toNat mask.toNat
  | .load a size => s.busLoadN m size a.toNat
  | _ => s

/-- The checkpoint after a released item (R295). -/
def State.checkpoint (s : State) (pc : Nat) (x : Item) : State :=
  let c := s.cpx
  let c := match x with
    | .reg i v => if i.val = 0 then c else { c with regs := SMap.set 0 c.regs i.val v.toNat }
    | .csr n v => { c with csrs := SMap.set 0 c.csrs n.toNat v.toNat }
    | _ => c
  s.setCpx { c with pc := pc }

/-- An item is released once. -/
def State.releaseItem (s : State) (core pc : Nat) (env : BusEnv) (x : Option Item) : State :=
  match x with
  | some y => (s.checkpoint pc y).busItem (masterOfCore core) env y
  | none => s

/-! ## The vote (R294) -/

/-- The vote of the running cores over their items. -/
def State.vote (s : State) (pc : Nat) (env : BusEnv) (item : Nat → Option Item) : State :=
  let loads (xs : List (Option Item)) : Bool := xs.any fun x => match x with | some y => y.isLoad | none => false
  match coresOf s.act with
  | [a, b, c] =>
    let x := item a
    let y := item b
    let z := item c
    if x = y ∧ y = z then s.releaseItem a pc env x
    else if x = y then ((s.lastOf c pc [z, x]).outvote c).releaseItem a pc env x
    else if x = z then ((s.lastOf b pc [y, x]).outvote b).releaseItem a pc env x
    else if y = z then ((s.lastOf a pc [x, y]).outvote a).releaseItem b pc env y
    else (s.lastOf 3 pc [x, y, z]).disagree (loads [x, y, z])
  | [a, b] =>
    let x := item a
    let y := item b
    if x = y then s.releaseItem a pc env x
    else if s.mode = cpxPair then (s.lastOf 3 pc [x, y]).pairMismatch (loads [x, y])
    else (s.lastOf 3 pc [x, y]).disagree (loads [x, y])
  | [a] => s.releaseItem a pc env (item a)
  | _ => s

/-- Outside the voted modes each running core acts on its own; the state of Ash, or of the one core, is the one that goes on. -/
def State.unvoted (s : State) (pc : Nat) (env : BusEnv) (item : Nat → Option Item) : State :=
  match coresOf s.act with
  | [] => s
  | a :: rest =>
    foldEach (fun c t => match item c with | some y => t.busItem (masterOfCore c) env y | none => t) rest (s.releaseItem a pc env (item a))

/-- R293, R294: the items that Ash, Elm and Oak commit in one cycle, for the instruction at `pc`. -/
def execVoteItem (pc : BitVec 32) (a e o : Option Item) (env : BusEnv) (s : State) : Host.Outcome State Fault Refusal :=
  .next (
    if !s.present islCPX || s.on Reg.CPX_STATUS.PAUSED || s.mode == cpxTest || s.mode == cpxHalted then s
    else
      let own (c : Nat) : Option Item := s.comparedItem (match c with | 0 => a | 1 => e | _ => o)
      let hit : Bool := (coresOf s.act).any fun c => s.injHits c (own c)
      let item (c : Nat) : Option Item := s.injected c (own c)
      let t := s.onlyIf hit (·.wr Reg.CPX_INJ.GO 0 0)
      if s.mode ≤ cpxPair then t.vote pc.toNat env item else t.unvoted pc.toNat env item)

end Sys2Proof.Machine
end

