-- ==== Sys2Proof/Machine/Dispatch.lean ====
section
/-! DEFINITION. One arm for each command: the direct call of its meaning. -/

namespace Sys2Proof.Machine

def exec (i : Instr) (s : State) : Host.Outcome State Fault Refusal :=
  match i with
  | .registerWrite m size addr data env => Sys2Proof.Machine.execRegisterWrite m size addr data env s
  | .wideLowRead m addr => Sys2Proof.Machine.execWideLowRead m addr s
  | .wideUpperWrite m addr data env => Sys2Proof.Machine.execWideUpperWrite m addr data env s
  | .wideLowWrite m addr data env => Sys2Proof.Machine.execWideLowWrite m addr data env s
  | .basicCommit m blk => Sys2Proof.Machine.execBasicCommit m blk s
  | .basicCommitDone blk => Sys2Proof.Machine.execBasicCommitDone blk s
  | .memorySlotWrite m size addr data env => Sys2Proof.Machine.execMemorySlotWrite m size addr data env s
  | .dieLinkLoss link => Sys2Proof.Machine.execDieLinkLoss link s
  | .crossingTimeout m isl addr => Sys2Proof.Machine.execCrossingTimeout m isl addr s
  | .islandClockLost isl => Sys2Proof.Machine.execIslandClockLost isl s
  | .railFault set => Sys2Proof.Machine.execRailFault set s
  | .powerGood set => Sys2Proof.Machine.execPowerGood set s
  | .eccSingleBit addr => Sys2Proof.Machine.execEccSingleBit addr s
  | .eccDoubleBit m addr => Sys2Proof.Machine.execEccDoubleBit m addr s
  | .unitRuntimeFault id => Sys2Proof.Machine.execUnitRuntimeFault id s
  | .powerOnReset => Sys2Proof.Machine.execPowerOnReset s
  | .moduleReset => Sys2Proof.Machine.execModuleReset s
  | .startSequence bootsel bands trims => Sys2Proof.Machine.execStartSequence bootsel bands trims s
  | .imgLoad m slot => Sys2Proof.Machine.execImgLoad m slot s
  | .loadDone => Sys2Proof.Machine.execLoadDone s
  | .imgLockKey m key => Sys2Proof.Machine.execImgLockKey m key s
  | .imgLockClose m key => Sys2Proof.Machine.execImgLockClose m key s
  | .rwiWrite m addr data env => Sys2Proof.Machine.execRwiWrite m addr data env s
  | .stageEnable m n => Sys2Proof.Machine.execStageEnable m n s
  | .stageDisable m n => Sys2Proof.Machine.execStageDisable m n s
  | .tbRun m n => Sys2Proof.Machine.execTbRun m n s
  | .tbgStart m mask => Sys2Proof.Machine.execTbgStart m mask s
  | .tbStop m n => Sys2Proof.Machine.execTbStop m n s
  | .swsync m n => Sys2Proof.Machine.execSwsync m n s
  | .syncLoad n => Sys2Proof.Machine.execSyncLoad n s
  | .zro n => Sys2Proof.Machine.execZro n s
  | .prd n => Sys2Proof.Machine.execPrd n s
  | .compareMatch leg cmp fine => Sys2Proof.Machine.execCompareMatch leg cmp fine s
  | .triggerPulse leg k => Sys2Proof.Machine.execTriggerPulse leg k s
  | .shadowTransfer n => Sys2Proof.Machine.execShadowTransfer n s
  | .ladderCalUpdate leg lad up => Sys2Proof.Machine.execLadderCalUpdate leg lad up s
  | .ladderCalLimit leg lad => Sys2Proof.Machine.execLadderCalLimit leg lad s
  | .ladderLock leg lad => Sys2Proof.Machine.execLadderLock leg lad s
  | .outmodeApply leg => Sys2Proof.Machine.execOutmodeApply leg s
  | .deadtimeExpiry leg => Sys2Proof.Machine.execDeadtimeExpiry leg s
  | .heldEdgeExecute leg => Sys2Proof.Machine.execHeldEdgeExecute leg s
  | .swnAccept leg level fine => Sys2Proof.Machine.execSwnAccept leg level fine s
  | .swnWindowExpiry leg => Sys2Proof.Machine.execSwnWindowExpiry leg s
  | .adtEnable m leg => Sys2Proof.Machine.execAdtEnable m leg s
  | .adtFailClear m leg => Sys2Proof.Machine.execAdtFailClear m leg s
  | .adtTrimWrite m leg rise fall => Sys2Proof.Machine.execAdtTrimWrite m leg rise fall s
  | .padMismatch leg side => Sys2Proof.Machine.execPadMismatch leg side s
  | .comparatorCrossing cmp uv => Sys2Proof.Machine.execComparatorCrossing cmp uv s
  | .tripinChange land high => Sys2Proof.Machine.execTripinChange land high s
  | .ascDtExpiry stage => Sys2Proof.Machine.execAscDtExpiry stage s
  | .swtrip m stage on => Sys2Proof.Machine.execSwtrip m stage on s
  | .tripClear m stage source => Sys2Proof.Machine.execTripClear m stage source s
  | .armedStale => Sys2Proof.Machine.execArmedStale s
  | .chopFaultClear m stage => Sys2Proof.Machine.execChopFaultClear m stage s
  | .seqEnable m j => Sys2Proof.Machine.execSeqEnable m j s
  | .seqDisable m j => Sys2Proof.Machine.execSeqDisable m j s
  | .seqStart j => Sys2Proof.Machine.execSeqStart j s
  | .seqSwstart m j => Sys2Proof.Machine.execSeqSwstart m j s
  | .seqGroupIssue j => Sys2Proof.Machine.execSeqGroupIssue j s
  | .adcEoc adc => Sys2Proof.Machine.execAdcEoc adc s
  | .injEnable m adc slot => Sys2Proof.Machine.execInjEnable m adc slot s
  | .injTrigger adc slot => Sys2Proof.Machine.execInjTrigger adc slot s
  | .swtrig m adc slot => Sys2Proof.Machine.execSwtrig m adc slot s
  | .injSlotStart adc slot => Sys2Proof.Machine.execInjSlotStart adc slot s
  | .calStart m adc => Sys2Proof.Machine.execCalStart m adc s
  | .adcCalBegin adc => Sys2Proof.Machine.execAdcCalBegin adc s
  | .adcCalDone adc lo hi => Sys2Proof.Machine.execAdcCalDone adc lo hi s
  | .ilArm m k => Sys2Proof.Machine.execIlArm m k s
  | .pairBurstTrigger k => Sys2Proof.Machine.execPairBurstTrigger k s
  | .pairSwstart m k => Sys2Proof.Machine.execPairSwstart m k s
  | .pairBurstDone k => Sys2Proof.Machine.execPairBurstDone k s
  | .pairCal m k => Sys2Proof.Machine.execPairCal m k s
  | .pairCalBegin k => Sys2Proof.Machine.execPairCalBegin k s
  | .pairCalDone k eLo eHi oLo oHi ramp => Sys2Proof.Machine.execPairCalDone k eLo eHi oLo oHi ramp s
  | .isoOutput ch bits => Sys2Proof.Machine.execIsoOutput ch bits s
  | .isoOverload ch => Sys2Proof.Machine.execIsoOverload ch s
  | .isoEnable m ch on => Sys2Proof.Machine.execIsoEnable m ch on s
  | .isoCalStart m ch => Sys2Proof.Machine.execIsoCalStart m ch s
  | .isoCalDone ch short ref => Sys2Proof.Machine.execIsoCalDone ch short ref s
  | .sampleLinkWord => Sys2Proof.Machine.execSampleLinkWord s
  | .lpRouteStart u p => Sys2Proof.Machine.execLpRouteStart u p s
  | .lpRunStart u => Sys2Proof.Machine.execLpRunStart u s
  | .cedNop u => Sys2Proof.Machine.execCedNop u s
  | .cedEnd u => Sys2Proof.Machine.execCedEnd u s
  | .cedMov u => Sys2Proof.Machine.execCedMov u s
  | .cedLdi u => Sys2Proof.Machine.execCedLdi u s
  | .cedAdd u => Sys2Proof.Machine.execCedAdd u s
  | .cedSub u => Sys2Proof.Machine.execCedSub u s
  | .cedAddw u => Sys2Proof.Machine.execCedAddw u s
  | .cedMul u => Sys2Proof.Machine.execCedMul u s
  | .cedMac u => Sys2Proof.Machine.execCedMac u s
  | .cedMva u => Sys2Proof.Machine.execCedMva u s
  | .cedClra u => Sys2Proof.Machine.execCedClra u s
  | .cedNeg u => Sys2Proof.Machine.execCedNeg u s
  | .cedAbs u => Sys2Proof.Machine.execCedAbs u s
  | .cedMin u => Sys2Proof.Machine.execCedMin u s
  | .cedMax u => Sys2Proof.Machine.execCedMax u s
  | .cedCmp u => Sys2Proof.Machine.execCedCmp u s
  | .cedTst u => Sys2Proof.Machine.execCedTst u s
  | .cedSel u => Sys2Proof.Machine.execCedSel u s
  | .cedDiv u => Sys2Proof.Machine.execCedDiv u s
  | .cedMag u => Sys2Proof.Machine.execCedMag u s
  | .cedSincos u => Sys2Proof.Machine.execCedSincos u s
  | .cedClarke u => Sys2Proof.Machine.execCedClarke u s
  | .cedIclarke u => Sys2Proof.Machine.execCedIclarke u s
  | .cedPark u => Sys2Proof.Machine.execCedPark u s
  | .cedIpark u => Sys2Proof.Machine.execCedIpark u s
  | .cedPi u => Sys2Proof.Machine.execCedPi u s
  | .cedPr u => Sys2Proof.Machine.execCedPr u s
  | .cedSvm u => Sys2Proof.Machine.execCedSvm u s
  | .cedTlu u => Sys2Proof.Machine.execCedTlu u s
  | .cedWrl u => Sys2Proof.Machine.execCedWrl u s
  | .cedReq u => Sys2Proof.Machine.execCedReq u s
  | .cedOut u => Sys2Proof.Machine.execCedOut u s
  | .wrlCapture u => Sys2Proof.Machine.execWrlCapture u s
  | .reqPulse u => Sys2Proof.Machine.execReqPulse u s
  | .lpPen m u p => Sys2Proof.Machine.execLpPen m u p s
  | .lpValidationDone u => Sys2Proof.Machine.execLpValidationDone u s
  | .lpDisable m u p => Sys2Proof.Machine.execLpDisable m u p s
  | .swapReq m u => Sys2Proof.Machine.execSwapReq m u s
  | .blkClr m u b => Sys2Proof.Machine.execBlkClr m u b s
  | .fcEnable m n => Sys2Proof.Machine.execFcEnable m n s
  | .fcDisable m n => Sys2Proof.Machine.execFcDisable m n s
  | .fcStart m n => Sys2Proof.Machine.execFcStart m n s
  | .fcStop m n => Sys2Proof.Machine.execFcStop m n s
  | .probePulseEnd n => Sys2Proof.Machine.execProbePulseEnd n s
  | .alignExpiry n => Sys2Proof.Machine.execAlignExpiry n s
  | .rampStep n => Sys2Proof.Machine.execRampStep n s
  | .rampTimeout n => Sys2Proof.Machine.execRampTimeout n s
  | .retryWaitExpiry n => Sys2Proof.Machine.execRetryWaitExpiry n s
  | .sineFillDone => Sys2Proof.Machine.execSineFillDone s
  | .fcTblData m wr data => Sys2Proof.Machine.execFcTblData m wr data s
  | .offsStore m n => Sys2Proof.Machine.execOffsStore m n s
  | .posInputAccept n lv => Sys2Proof.Machine.execPosInputAccept n lv s
  | .posSpeedEstimate n => Sys2Proof.Machine.execPosSpeedEstimate n s
  | .hallTimeout n => Sys2Proof.Machine.execHallTimeout n s
  | .posCountWrite m n v => Sys2Proof.Machine.execPosCountWrite m n v s
  | .ssiFrameDone n raw => Sys2Proof.Machine.execSsiFrameDone n raw s
  | .resolverSamplePair r negPeak nvS nvC => Sys2Proof.Machine.execResolverSamplePair r negPeak nvS nvC s
  | .excFault r => Sys2Proof.Machine.execExcFault r s
  | .posEnable m n on => Sys2Proof.Machine.execPosEnable m n on s
  | .rsEnable m r on => Sys2Proof.Machine.execRsEnable m r on s
  | .posFaultClear m n => Sys2Proof.Machine.execPosFaultClear m n s
  | .rsFaultClear m r => Sys2Proof.Machine.execRsFaultClear m r s
  | .emuEnable m e on => Sys2Proof.Machine.execEmuEnable m e on s
  | .emuStep e => Sys2Proof.Machine.execEmuStep e s
  | .rowanRefresh => Sys2Proof.Machine.execRowanRefresh s
  | .tqPerm k => Sys2Proof.Machine.execTqPerm k s
  | .disch k => Sys2Proof.Machine.execDisch k s
  | .safeState k => Sys2Proof.Machine.execSafeState k s
  | .release k => Sys2Proof.Machine.execRelease k s
  | .rowanFault => Sys2Proof.Machine.execRowanFault s
  | .lvLost => Sys2Proof.Machine.execLvLost s
  | .cpxLost => Sys2Proof.Machine.execCpxLost s
  | .voteItem pc a e o env => Sys2Proof.Machine.execVoteItem pc a e o env s
  | .syncPoint sa se so => Sys2Proof.Machine.execSyncPoint sa se so s
  | .outvoteWindowExpiry core => Sys2Proof.Machine.execOutvoteWindowExpiry core s
  | .yewFillDone => Sys2Proof.Machine.execYewFillDone s
  | .pairTestDone pass => Sys2Proof.Machine.execPairTestDone pass s
  | .checkerTest r => Sys2Proof.Machine.execCheckerTest r s
  | .cpxReportSend => Sys2Proof.Machine.execCpxReportSend s
  | .cpxSplit m => Sys2Proof.Machine.execCpxSplit m s
  | .joinRdy m => Sys2Proof.Machine.execJoinRdy m s
  | .cpxJoin m => Sys2Proof.Machine.execCpxJoin m s
  | .joinFillDone => Sys2Proof.Machine.execJoinFillDone s
  | .crst m core => Sys2Proof.Machine.execCrst m core s
  | .cpxPause m => Sys2Proof.Machine.execCpxPause m s
  | .cpxResume m => Sys2Proof.Machine.execCpxResume m s
  | .cpxInjGo m core bit => Sys2Proof.Machine.execCpxInjGo m core bit s
  | .dcinv core addr => Sys2Proof.Machine.execDcinv core addr s
  | .dcflush core addr => Sys2Proof.Machine.execDcflush core addr s
  | .dcall core v => Sys2Proof.Machine.execDcall core v s
  | .mtimeCompare core => Sys2Proof.Machine.execMtimeCompare core s
  | .irqSource src => Sys2Proof.Machine.execIrqSource src s
  | .mbWrite m n w v rival => Sys2Proof.Machine.execMbWrite m n w v rival s
  | .mbGo m n => Sys2Proof.Machine.execMbGo m n s
  | .mbRel m n => Sys2Proof.Machine.execMbRel m n s
  | .abortFill m n => Sys2Proof.Machine.execAbortFill m n s
  | .mbCfgWrite m n rx notify db => Sys2Proof.Machine.execMbCfgWrite m n rx notify db s
  | .dbRing m e v => Sys2Proof.Machine.execDbRing m e v s
  | .dbPendClear m e v ring => Sys2Proof.Machine.execDbPendClear m e v ring s
  | .semAcq n ms => Sys2Proof.Machine.execSemAcq n ms s
  | .semRelease n m => Sys2Proof.Machine.execSemRelease n m s
  | .hpRd p addr env => Sys2Proof.Machine.execHpRd p addr env s
  | .hpRdn p addr n env => Sys2Proof.Machine.execHpRdn p addr n env s
  | .hpWr p addr ws => Sys2Proof.Machine.execHpWr p addr ws s
  | .hpRdsr p => Sys2Proof.Machine.execHpRdsr p s
  | .hpRsten p => Sys2Proof.Machine.execHpRsten p s
  | .hpRst p => Sys2Proof.Machine.execHpRst p s
  | .hpWriteIssue p env => Sys2Proof.Machine.execHpWriteIssue p env s
  | .hpAbandon p addr reads ws env => Sys2Proof.Machine.execHpAbandon p addr reads ws env s
  | .portTrained p delay eq => Sys2Proof.Machine.execPortTrained p delay eq s
  | .trainingRetry p => Sys2Proof.Machine.execTrainingRetry p s
  | .portDown p => Sys2Proof.Machine.execPortDown p s
  | .unwrapTimer p => Sys2Proof.Machine.execUnwrapTimer p s
  | .chUnwrap p => Sys2Proof.Machine.execChUnwrap p s
  | .laneFail p lane errs unlocked => Sys2Proof.Machine.execLaneFail p lane errs unlocked s
  | .chLsw p transmit lane => Sys2Proof.Machine.execChLsw p transmit lane s
  | .chDreq p sub far => Sys2Proof.Machine.execChDreq p sub far s
  | .chDrsp p sub turn => Sys2Proof.Machine.execChDrsp p sub turn s
  | .markEmit => Sys2Proof.Machine.execMarkEmit s
  | .chMark p time corr hops dir first sub res => Sys2Proof.Machine.execChMark p time corr hops dir first sub res s
  | .markApply => Sys2Proof.Machine.execMarkApply s
  | .chData p f first => Sys2Proof.Machine.execChData p f first s
  | .chTxGo m => Sys2Proof.Machine.execChTxGo m s
  | .txFrameSend => Sys2Proof.Machine.execTxFrameSend s
  | .chEnum m keep => Sys2Proof.Machine.execChEnum m keep s
  | .chToken p f first => Sys2Proof.Machine.execChToken p f first s
  | .enumRetry => Sys2Proof.Machine.execEnumRetry s
  | .censusEmit => Sys2Proof.Machine.execCensusEmit s
  | .chCensus p f first => Sys2Proof.Machine.execChCensus p f first s
  | .csyncArm m per => Sys2Proof.Machine.execCsyncArm m per s
  | .carrierSync => Sys2Proof.Machine.execCarrierSync s
  | .prepareWrite m id => Sys2Proof.Machine.execPrepareWrite m id s
  | .chPrepare p f first => Sys2Proof.Machine.execChPrepare p f first s
  | .chArmed p f first => Sys2Proof.Machine.execChArmed p f first s
  | .chRefused p f first => Sys2Proof.Machine.execChRefused p f first s
  | .chCommit p f first => Sys2Proof.Machine.execChCommit p f first s
  | .chAbort p f first => Sys2Proof.Machine.execChAbort p f first s
  | .chApplied p f first => Sys2Proof.Machine.execChApplied p f first s
  | .chExpired p f first => Sys2Proof.Machine.execChExpired p f first s
  | .mcArmTimeout => Sys2Proof.Machine.execMcArmTimeout s
  | .mcApply => Sys2Proof.Machine.execMcApply s
  | .mcResultTimeout => Sys2Proof.Machine.execMcResultTimeout s
  | .resetOne m target => Sys2Proof.Machine.execResetOne m target s
  | .resetAll m => Sys2Proof.Machine.execResetAll m s
  | .chReset p f first => Sys2Proof.Machine.execChReset p f first s
  | .chainResetApply => Sys2Proof.Machine.execChainResetApply s
  | .canRun m n => Sys2Proof.Machine.execCanRun m n s
  | .canStop m n idle => Sys2Proof.Machine.execCanStop m n idle s
  | .canSyncDone n => Sys2Proof.Machine.execCanSyncDone n s
  | .canTxSelect n start => Sys2Proof.Machine.execCanTxSelect n start s
  | .canTxDone n tdcv => Sys2Proof.Machine.execCanTxDone n tdcv s
  | .canFrameRx n id dlc fd brs esi data sof release => Sys2Proof.Machine.execCanFrameRx n id dlc fd brs esi data sof release s
  | .canBusError n kind exempt grave => Sys2Proof.Machine.execCanBusError n kind exempt grave s
  | .txreq m n w v cancel => Sys2Proof.Machine.execTxreq m n w v cancel s
  | .txcan m n w v => Sys2Proof.Machine.execTxcan m n w v s
  | .rxfullRelease m n w v => Sys2Proof.Machine.execRxfullRelease m n w v s
  | .recStart m n => Sys2Proof.Machine.execRecStart m n s
  | .canRecoveryDone n => Sys2Proof.Machine.execCanRecoveryDone n s
  | .refLost src e => Sys2Proof.Machine.execRefLost src e s
  | .refValid src e => Sys2Proof.Machine.execRefValid src e s
  | .localSel m v e => Sys2Proof.Machine.execLocalSel m v e s
  | .pllEnable m k on => Sys2Proof.Machine.execPllEnable m k on s
  | .relock m k => Sys2Proof.Machine.execRelock m k s
  | .bandTryTimeout k => Sys2Proof.Machine.execBandTryTimeout k s
  | .pllLock k => Sys2Proof.Machine.execPllLock k s
  | .pllUnlock k => Sys2Proof.Machine.execPllUnlock k s
  | .pllsReturn => Sys2Proof.Machine.execPllsReturn s
  | .slewDone e => Sys2Proof.Machine.execSlewDone e s
  | .tickStretch e => Sys2Proof.Machine.execTickStretch e s
  | .vlvRise => Sys2Proof.Machine.execVlvRise s
  | .vlvFall ovr vhb => Sys2Proof.Machine.execVlvFall ovr vhb s
  | .hvaRise ac => Sys2Proof.Machine.execHvaRise ac s
  | .hvaFall vhb => Sys2Proof.Machine.execHvaFall vhb s
  | .prefWrite m v => Sys2Proof.Machine.execPrefWrite m v s
  | .nreset => Sys2Proof.Machine.execNreset s
  | .shdn m => Sys2Proof.Machine.execShdn m s
  | .selftestGroupDone r => Sys2Proof.Machine.execSelftestGroupDone r s
  | .rstReq m isl => Sys2Proof.Machine.execRstReq m isl s
  | .islandResetRelease isl => Sys2Proof.Machine.execIslandResetRelease isl s
  | .islRel m isl clk => Sys2Proof.Machine.execIslRel m isl clk s
  | .islandPowerDown m isl wake => Sys2Proof.Machine.execIslandPowerDown m isl wake s
  | .islandPowerUp m isl => Sys2Proof.Machine.execIslandPowerUp m isl s
  | .islandPowered isl => Sys2Proof.Machine.execIslandPowered isl s
  | .capClr m => Sys2Proof.Machine.execCapClr m s
  | .captureCopy => Sys2Proof.Machine.execCaptureCopy s
  | .clayColdStart => Sys2Proof.Machine.execClayColdStart s
  | .scrubPass sbe dbe => Sys2Proof.Machine.execScrubPass sbe dbe s
  | .wakePin lvl => Sys2Proof.Machine.execWakePin lvl s
  | .wakeAtMatch => Sys2Proof.Machine.execWakeAtMatch s
  | .wearEntry written => Sys2Proof.Machine.execWearEntry written s
  | .agingRead ages => Sys2Proof.Machine.execAgingRead ages s
  | .loadWindow load => Sys2Proof.Machine.execLoadWindow load s
  | .logWrite ok => Sys2Proof.Machine.execLogWrite ok s
  | .mgStatus => Sys2Proof.Machine.execMgStatus s
  | .logMark => Sys2Proof.Machine.execLogMark s
  | .keyWrite => Sys2Proof.Machine.execKeyWrite s
  | .keyRevoke => Sys2Proof.Machine.execKeyRevoke s
  | .svnRaise => Sys2Proof.Machine.execSvnRaise s
  | .runHouse ages => Sys2Proof.Machine.execRunHouse ages s
  | .replyRetry => Sys2Proof.Machine.execReplyRetry s
  | .monEnable m n => Sys2Proof.Machine.execMonEnable m n s
  | .monEvent codes at0 => Sys2Proof.Machine.execMonEvent codes at0 s
  | .monSample n x => Sys2Proof.Machine.execMonSample n x s
  | .monClr m n => Sys2Proof.Machine.execMonClr m n s
  | .monSwev m ev at0 => Sys2Proof.Machine.execMonSwev m ev at0 s
  | .dieLinkReturn link => Sys2Proof.Machine.execDieLinkReturn link s
  | .vgioRise => Sys2Proof.Machine.execVgioRise s
  | .vgioFall => Sys2Proof.Machine.execVgioFall s
  | .safetyRegionFall => Sys2Proof.Machine.execSafetyRegionFall s
  | .claySupplyLoss => Sys2Proof.Machine.execClaySupplyLoss s
  | .adcSamplingInstant adc nv => Sys2Proof.Machine.execAdcSamplingInstant adc nv s
  | .isoOverloadEnd ch => Sys2Proof.Machine.execIsoOverloadEnd ch s
  | .alignPreHalfExpiry n => Sys2Proof.Machine.execAlignPreHalfExpiry n s
  | .dischargePwmEdge stage => Sys2Proof.Machine.execDischargePwmEdge stage s
  | .hpUnknownCommand p => Sys2Proof.Machine.execHpUnknownCommand p s
  | .malformedManagementRequest => Sys2Proof.Machine.execMalformedManagementRequest s
  | .markMissing => Sys2Proof.Machine.execMarkMissing s
  | .canArbitrationLost n => Sys2Proof.Machine.execCanArbitrationLost n s
  | .protocolExceptionEvent n => Sys2Proof.Machine.execProtocolExceptionEvent n s
  | .bandSelectionRetry k => Sys2Proof.Machine.execBandSelectionRetry k s
  | .crystalWaitExpiry => Sys2Proof.Machine.execCrystalWaitExpiry s
  | .scrubPassEnd => Sys2Proof.Machine.execScrubPassEnd s
  | .inputMeasurement vlv vhb mw => Sys2Proof.Machine.execInputMeasurement vlv vhb mw s

end Sys2Proof.Machine
end

