-- ==== Sys2Proof/Machine/Tick.lean ====
section
/-! DEFINITION. One tick of the 500 MHz timebase clock, for what happens at a tick whatever is commanded. -/

namespace Sys2Proof.Machine

/-- The Clay counter advances 32,768 counts in 500,000,000 ticks (R410), and the scrubber reads a word at each (R409). -/
def State.clayTick (s : State) : State :=
  let p := s.clyPhase + 32768
  if p < 500000000 then { s with clyPhase := p }
  else
    { s with clyPhase := p - 500000000, pwr := { s.pwr with scrubLeft := s.pwr.scrubLeft - 1 } }.wr Reg.CLY_CNT.CNT 0
      (s.rd Reg.CLY_CNT.CNT + 1)

/-- One tick: time moves on, running counters advance (R69), chain time counts from the first lock of PLL-T (R313, R382), FPC runs
a cycle every second tick (R216), the Clay counter runs, waiting writes to table RAM of idle units land (R188). Captures of the past edge are over (R84). -/
def State.tick (s : State) : State :=
  let s := foldEach (fun l t => t.padEdge l) (List.range 24) s
  let s := { s with now := s.now + 1, caps := [], chOut := [] }
  let s := s.clkTick
  let s := s.onlyIf s.clk.tRun fun t => t.wr Reg.CH_TIME.TIME 0 (t.rd Reg.CH_TIME.TIME + 1)
  let s := foldEach (fun r t => t.excTick r) [0, 1] s.adcEdge.filterEdge.carrierEdge
  let s := s.onlyIf (s.present islFPC) fun t => foldEach (fun n u => u.fcLand n) (List.range 8) t
  let s := s.onlyIf (s.present islFPC && s.now % 2 == 0) (·.fpcCycle)
  (s.onlyIf (s.present islCHN) (·.mcRepeat)).cedDrain.clayTick

end Sys2Proof.Machine
end

