-- ==== Sys2Proof/Safety.lean ====
section
/-! DEFINITION. What claims say of a state and of a step: the canonical form of what is held in sparse maps, the bounds of the queues,
and what no command touches. -/

namespace Sys2Proof.Machine

/-- The canonical form of a memory: addresses strictly rising, no entry equal to what an unlisted byte reads as. -/
def Memory.wf (m : List Host.Cell) : Bool := SMap.wf (fun _ => (0 : BitVec 8)) m

/-- Memory, tightly coupled memory and data caches are in their canonical form, and the register file has one entry for a field. -/
structure State.Canon (s : State) : Prop where
  regs : SMap.sorted s.regs = true
  mem : Memory.wf s.mem = true
  tcm : Memory.wf s.tcm = true
  dcache : SMap.wf (fun _ => none) s.dcache = true

/-- What holds of every command's step from one state to another: the canonical form is kept, the queue of waiting commands is as it
was, and no tick passes. -/
structure Keeps (s t : State) : Prop where
  canon : s.Canon → t.Canon
  pending : t.pending = s.pending
  now : t.now = s.now

/-- What holds of the step of a command that stores to no memory: every byte of memory and of the tightly coupled memories is as it was. -/
structure Quiet (s t : State) : Prop where
  mem : t.mem = s.mem
  tcm : t.tcm = s.tcm

/-- In the register file only the fields under the listed keys may differ: every other field reads as before. -/
def RegsBut (s t : State) (ks : List Nat) : Prop := ∀ (d k : Nat), k ∉ ks → SMap.get d t.regs k = SMap.get d s.regs k

/-- Nothing differs but the fields under the listed keys and the answers to the bus masters. -/
structure OnlyRegs (s t : State) (ks : List Nat) : Prop where
  regs : RegsBut s t ks
  rest : { t with regs := s.regs, resp := s.resp } = s

/-- The register at an address answers: its island is reached, and no commit of its window is in progress. -/
def State.ready (s : State) (a : Nat) : Bool := s.reach (islandAt a) && !s.on Reg.BASIC_CTRL.BUSY (winOf a).1

end Sys2Proof.Machine
end

