-- ==== Sys2Proof/Terms.lean ====
section
/-! DEFINITION. Words that the claims use: what a unit is about to do, what a command leaves of it, and which fields a reset scope takes. -/

namespace Sys2Proof.Machine

/-- Unit u is about to execute the word w of its running program p: it fetches w without a double-bit error, and COND lets it execute
(R190, R203, R211). -/
def State.cedAt (s : State) (u p w : Nat) : Bool :=
  let a := luBank u + 8 * (s.lpAddr u p + (s.lu u).pc)
  (s.lu u).run == some p && !s.eccBad.contains a && !s.eccBad.contains (a + 4) && s.num a 8 == w
    && (wCond w == 0 || (wCond w == 1 && (s.lu u).p) || (wCond w == 2 && !(s.lu u).p))

/-- What one executed instruction of Cedar leaves: its unit as `r` with the next word in turn, BAD and SAT of the program as before or
newly set, SAT_ANY, and nothing else but the registers under the listed keys. -/
structure CedDone (s t : State) (u p w : Nat) (b : Bool) (ks : List Nat) (r : LuS) : Prop where
  unit : t.lu u = { r with pc := (s.lu u).pc + 1 }
  sat : t.on Reg.LP_STAT.SAT u p = (s.on Reg.LP_STAT.SAT u p || b)
  satAny : t.on Reg.LU_STAT.SAT_ANY u = (s.on Reg.LU_STAT.SAT_ANY u || b)
  bad : t.on Reg.LP_STAT.BAD u p = (s.on Reg.LP_STAT.BAD u p || s.readsBad u w)
  others : ∀ v, v ≠ u → t.lu v = s.lu v
  regs : RegsBut s t ([Reg.LP_STAT.BAD.key u p, Reg.LP_STAT.SAT.key u p, Reg.LU_STAT.SAT_ANY.key u 0] ++ ks)
  rest : { t with regs := s.regs, lus := s.lus } = s

/-- Does a reset scope take the register field under a key? -/
def inScope (sel : FD → Nat → Nat → Bool) (k : Nat) : Bool :=
  match fieldOfKey k with
  | some (f, i, j) => sel f i j
  | none => false

/-- The fields that show a level and no stored value, and so stand as the level does after a reset: the supplies, the power-good of the
regions and islands, ACTIVE of the trip nodes. -/
def shownKeys : List Nat :=
  supplyLevels.map (fun f => f.key 0 0) ++ [Reg.PWR_STATUS.PG.key 0 0] ++ (List.range 39).map (fun i => Reg.ISL_STAT.RAIL_OK.key i 0)
    ++ (List.range 8).map (fun n => Reg.STG_TRIP.ACTIVE.key n 0)

/-- The copy of the wear record that the next write takes (R427). -/
def State.wearNext (s : State) : Nat := match s.wearCopy with | some 0 => 1 | _ => 0

/-- The index in the ring that the next record of the event log takes (R433). -/
def State.logSlot (s : State) : Nat := if s.rd Reg.ALD_LOG.HEAD_SEQ = 0 then 0 else (s.rd Reg.ALD_LOGIDX.HEAD + 1) % 14336

/-- The record of the event log that a pending record becomes: LOST_BEFORE marks the first one after a loss (R436). -/
def State.logRecord (s : State) (r : LogRec) : List Nat :=
  logBytes (nextSeq (s.rd Reg.ALD_LOG.HEAD_SEQ)) (if s.logGap then { r with flags := r.flags ||| 2 } else r)

/-- May the command store to memory, to a tightly coupled memory, or to a record in MRAM or Clay RAM? -/
def mayStore (i : Instr) : Bool :=
  match i with
  | .registerWrite _ _ _ _ _ | .wideLowRead _ _ | .wideUpperWrite _ _ _ _ | .wideLowWrite _ _ _ _ => true
  | .memorySlotWrite _ _ _ _ _ | .dieLinkLoss _ | .islandClockLost _ | .railFault _ => true
  | .eccDoubleBit _ _ | .unitRuntimeFault _ | .powerOnReset | .startSequence _ _ _ => true
  | .loadDone | .rwiWrite _ _ _ _ | .zro _ | .prd _ => true
  | .padMismatch _ _ | .comparatorCrossing _ _ | .tripinChange _ _ | .swtrip _ _ _ => true
  | .tripClear _ _ _ | .adcEoc _ | .adcCalDone _ _ _ | .pairCalDone _ _ _ _ _ _ => true
  | .isoCalDone _ _ _ | .cedNop _ | .cedEnd _ | .cedMov _ => true
  | .cedLdi _ | .cedAdd _ | .cedSub _ | .cedAddw _ => true
  | .cedMul _ | .cedMac _ | .cedMva _ | .cedClra _ => true
  | .cedNeg _ | .cedAbs _ | .cedMin _ | .cedMax _ => true
  | .cedCmp _ | .cedTst _ | .cedSel _ | .cedDiv _ => true
  | .cedMag _ | .cedSincos _ | .cedClarke _ | .cedIclarke _ => true
  | .cedPark _ | .cedIpark _ | .cedPi _ | .cedPr _ => true
  | .cedSvm _ | .cedTlu _ | .cedWrl _ | .cedReq _ => true
  | .cedOut _ | .lpValidationDone _ | .offsStore _ _ | .rowanRefresh => true
  | .tqPerm _ | .disch _ | .safeState _ | .release _ => true
  | .rowanFault | .lvLost | .cpxLost | .voteItem _ _ _ _ _ => true
  | .syncPoint _ _ _ | .joinRdy _ | .crst _ _ | .dcflush _ _ => true
  | .dcall _ _ | .hpRd _ _ _ | .hpRdn _ _ _ _ | .hpWriteIssue _ _ => true
  | .hpAbandon _ _ _ _ _ | .chMark _ _ _ _ _ _ _ _ | .markApply | .chData _ _ _ => true
  | .mcApply | .canTxDone _ _ | .canFrameRx _ _ _ _ _ _ _ _ _ | .vlvRise => true
  | .vlvFall _ _ | .hvaRise _ | .hvaFall _ | .nreset => true
  | .shdn _ | .selftestGroupDone _ | .capClr _ | .clayColdStart => true
  | .wakePin _ | .wakeAtMatch | .wearEntry _ | .logWrite _ => true
  | .logMark | .keyWrite | .keyRevoke | .svnRaise => true
  | .safetyRegionFall | .sampleLinkWord | .fcEnable _ _ | .fcStart _ _ => true
  | .alignExpiry _ | .rampStep _ | .rampTimeout _ | .retryWaitExpiry _ | .sineFillDone => true
  | _ => false

end Sys2Proof.Machine
end

