-- ==== Sys2Proof/Certificates/Slice0/Obligations.lean ====
section
/-! DEFINITION. The statements for the provers. Each is a conjunction of clauses; its docstring says what it states and which log
entries of the model's choices it rests on. -/

open Sys2Proof Sys2Proof.Machine

/-- A timebase starts, refuses to start, stops or refuses to stop (TB_RUN, TB_STOP, TBG_START). Where TB_CTRL answers and no
commit of the window is in progress: TB_RUN writes RUN = 1 and changes nothing else (so it has no effect where RUN = 1); TBG_START
does so for the timebases in its mask (shown for one); TB_STOP is refused with RUN_DENIED while an enabled stage uses the
timebase, else it writes RUN = 0. At the tick edge after it (State.startDue, State.tbEdge): a timebase with RUN = 1 that stands
still refuses a PER outside the range of its mode with RUN = 0 and PER_ERR, an UPD_EVERY outside 1 to 16 with RUN = 0 and CNT_ERR,
and otherwise (shown for a timebase that no leg is bound to) RUNNING reads 1, PER_ACT reads PER, the counter reads PHS or PER
where PHS lies above it, UPD_CNT reads 0; a timebase that runs with RUN = 0 stops. Each clause says what else is unchanged. It
rests on the model's choices of log entries 5, 10. -/
def Obligations.TimebaseStarts : Prop :=
  (∀ (m : Master) (n : Fin 8) (s : State), s.ready (Reg.TB_CTRL.RUN.addr n.val 0) = true → ∃ t, exec (.tbRun m n) s = .next t ∧ t.respOf m = ⟨false, 0⟩ ∧ t.rd Reg.TB_CTRL.RUN n.val = 1 ∧ OnlyRegs s t [Reg.TB_CTRL.RUN.key n.val 0]) ∧
  (∀ (n : Fin 8) (s : State), s.tbRunning n.val = false → s.on Reg.TB_CTRL.RUN n.val = true → perOk (s.rd Reg.TB_CTRL.MODE n.val) (s.rd Reg.TB_PER.PER n.val) = false → (s.startDue n.val).rd Reg.TB_CTRL.RUN n.val = 0 ∧ (s.startDue n.val).rd Reg.TB_STATUS.PER_ERR n.val = 1 ∧
      OnlyRegs s (s.startDue n.val) [Reg.TB_CTRL.RUN.key n.val 0, Reg.TB_STATUS.PER_ERR.key n.val 0]) ∧
  (∀ (n : Fin 8) (s : State), s.tbRunning n.val = false → s.on Reg.TB_CTRL.RUN n.val = true → perOk (s.rd Reg.TB_CTRL.MODE n.val) (s.rd Reg.TB_PER.PER n.val) = true → (s.rd Reg.TB_CTRL.UPD_EVERY n.val = 0 ∨ 16 < s.rd Reg.TB_CTRL.UPD_EVERY n.val) → (s.startDue n.val).rd Reg.TB_CTRL.RUN n.val = 0 ∧ (s.startDue n.val).rd Reg.TB_STATUS.CNT_ERR n.val = 1 ∧
      OnlyRegs s (s.startDue n.val) [Reg.TB_CTRL.RUN.key n.val 0, Reg.TB_STATUS.CNT_ERR.key n.val 0]) ∧
  (∀ (n : Fin 8) (s : State), s.tbRunning n.val = false → s.on Reg.TB_CTRL.RUN n.val = true → perOk (s.rd Reg.TB_CTRL.MODE n.val) (s.rd Reg.TB_PER.PER n.val) = true → (1 ≤ s.rd Reg.TB_CTRL.UPD_EVERY n.val) → (s.rd Reg.TB_CTRL.UPD_EVERY n.val ≤ 16) → s.legsOfTb n.val = [] → (∀ c : Fin 8, s.rd Reg.ISO_CTRL.EN c.val = 0) → (s.startDue n.val).rd Reg.TB_STATUS.RUNNING n.val = 1 ∧
      (s.startDue n.val).rd Reg.TB_PER_ACT.PER_ACT n.val = s.rd Reg.TB_PER.PER n.val % 2 ^ 24 ∧
      (s.startDue n.val).rd Reg.TB_CNT.CNT n.val = min (s.rd Reg.TB_PHS.PHS n.val) (s.rd Reg.TB_PER.PER n.val) % 2 ^ 24 ∧
      (s.startDue n.val).rd Reg.TB_STATUS.UPD_CNT n.val = 0 ∧ ((s.startDue n.val).tb n.val).n = s.rd Reg.TB_CTRL.UPD_EVERY n.val ∧
      OnlyRegs s { s.startDue n.val with tbs := s.tbs } [Reg.TB_STATUS.RUNNING.key n.val 0,
      Reg.TB_PER_ACT.PER_ACT.key n.val 0, Reg.TB_CNT.CNT.key n.val 0, Reg.TB_STATUS.DIR.key n.val 0, Reg.TB_STATUS.UPD_CNT.key n.val 0]) ∧
  (∀ (m : Master) (n : Fin 8) (s : State), s.ready (Reg.TB_CTRL.RUN.addr n.val 0) = true → s.on Reg.TB_CTRL.RUN n.val = true → s.tbUsed n.val = true → ∃ t, exec (.tbStop m n) s = .next t ∧ t.rd Reg.TB_STATUS.RUN_DENIED n.val = 1 ∧ OnlyRegs s t [Reg.TB_STATUS.RUN_DENIED.key n.val 0]) ∧
  (∀ (m : Master) (n : Fin 8) (s : State), s.ready (Reg.TB_CTRL.RUN.addr n.val 0) = true → s.on Reg.TB_CTRL.RUN n.val = true → s.tbUsed n.val = false → ∃ t, exec (.tbStop m n) s = .next t ∧ t.rd Reg.TB_CTRL.RUN n.val = 0 ∧ OnlyRegs s t [Reg.TB_CTRL.RUN.key n.val 0]) ∧
  (∀ (n : Fin 8) (s : State), s.tbRunning n.val = true → s.on Reg.TB_CTRL.RUN n.val = false → (s.tbEdge n.val).rd Reg.TB_STATUS.RUNNING n.val = 0 ∧ OnlyRegs s { s.tbEdge n.val with tbs := s.tbs } [Reg.TB_STATUS.RUNNING.key n.val 0]) ∧
  (∀ (m : Master) (n : Fin 8) (s : State), s.ready (Reg.TBG_START.START.addr 0 0) = true → exec (.tbgStart m (BitVec.ofNat 8 (2 ^ n.val))) s = .next ((s.wr Reg.TB_CTRL.RUN n.val 1).ack m))

/-- Syncs, loads, counter events, compare matches, trigger pulses and shadow transfers of a timebase. SWSYNC on a timebase with
RUN = 1 that takes its syncs from software notes the sync event for the next tick edge and changes nothing else. SYNC_LOAD at a
later tick loads PHS, or PER_ACT where PHS lies above it, and writes no register but the counter, its direction and SYNC_JUMP. ZRO
and PRD act once at the counter position of their event. COMPARE_MATCH applies the action of the event that wins its fine position
where that event belongs to its compare, and nothing where another event wins. TRIGGER_PULSE raises its pulse where the trigger
compare fires. SHADOW_TRANSFER that is due under UPD_HOLD = 1 transfers nothing: the count restarts and HOLD_SKIP is set. Where a
tick edge has work of its own (State.edgeWork), it is done first. It rests on the model's choices of log entries 1, 9, 10. -/
def Obligations.TimebaseEvents : Prop :=
  (∀ (m : Master) (n : Fin 8) (s : State), s.ready (Reg.TB_CTRL.SWSYNC.addr n.val 0) = true → s.on Reg.TB_CTRL.RUN n.val = true → s.rd Reg.TB_CTRL.SYNC_SRC n.val = 1 → ∃ t, exec (.swsync m n) s = .next t ∧ (t.tb n.val).syncAt = some s.now ∧ (∀ k, k ≠ n.val → t.tb k = s.tb k) ∧
      OnlyRegs s { t with tbs := s.tbs } []) ∧
  (∀ (n : Fin 8) (s : State) (x : Nat), (s.tb n.val).syncAt = some x → (x < s.now) → s.present islTBC = true → s.tbRunning n.val = true → ∃ t, exec (.syncLoad n) s = .next t ∧ t.rd Reg.TB_CNT.CNT n.val = min (s.rd Reg.TB_PHS.PHS n.val) (s.tbPer n.val) % 2 ^ 24 ∧ t.mem = s.mem ∧
      RegsBut s t [Reg.TB_CNT.CNT.key n.val 0, Reg.TB_STATUS.DIR.key n.val 0, Reg.TB_STATUS.SYNC_JUMP.key n.val 0]) ∧
  (∀ (n : Fin 8) (s : State), s.present islTBC = true → s.tbRunning n.val = true → s.tbTime n.val = zroTime (s.tbMode n.val) (s.tbPer n.val) → ((s.tb n.val).zroAt ≠ some s.now) → exec (.zro n) s = .next (s.zroEvent n.val)) ∧
  (∀ (n : Fin 8) (s : State), s.present islTBC = true → s.tbRunning n.val = true → s.tbTime n.val = prdTime (s.tbMode n.val) (s.tbPer n.val) → ((s.tb n.val).prdAt ≠ some s.now) → exec (.prd n) s = .next (s.prdEvent n.val)) ∧
  (∀ (l : Fin 24) (c : Cmp) (fine : Fin 128) (s : State) (n ev : Nat), s.tbOfLeg l.val = some n → s.tbRunning n = true → s.present (islLeg l.val) = true → (s.edgeWork n).winnerAt l.val n ((s.edgeWork n).tbTime n * 128 + fine.val) = some ev → ((c = .a ∧ (ev = 2 ∨ ev = 3) ∨ c = .b ∧ (ev = 4 ∨ ev = 5)) → exec (.compareMatch l c fine) s =
      .next (((s.edgeWork n).setLeg l.val { (s.edgeWork n).leg l.val with aq := act ((s.edgeWork n).action l.val ev) ((s.edgeWork n).leg l.val).aq }).followRef
      l.val fine.val)) ∧
      (¬(c = .a ∧ (ev = 2 ∨ ev = 3) ∨ c = .b ∧ (ev = 4 ∨ ev = 5)) → exec (.compareMatch l c fine) s = .next (s.edgeWork n))) ∧
  (∀ (l : Fin 24) (k : Fin 4) (s : State) (n : Nat), s.tbOfLeg l.val = some n → s.tbRunning n = true → s.present (islLeg l.val) = true → ((s.edgeWork n).trgFires l.val k.val n = true → exec (.triggerPulse l k) s = .next ((s.edgeWork n).raisePulse [1, 2] l.val k.val)) ∧
      ((s.edgeWork n).trgFires l.val k.val n = false → exec (.triggerPulse l k) s = .next (s.edgeWork n))) ∧
  (∀ (n : Fin 8) (s : State), s.present islTBC = true → s.xferDue n.val = true → (s.tb n.val).perPend = none → s.on Reg.TB_CTRL.UPD_HOLD n.val = true → ∃ t, exec (.shadowTransfer n) s = .next t ∧ t.rd Reg.TB_STATUS.UPD_CNT n.val = 0 ∧ t.rd Reg.TB_STATUS.HOLD_SKIP n.val = 1 ∧
      (t.tb n.val).rldAt = some s.now ∧ OnlyRegs s { t with tbs := s.tbs } [Reg.TB_STATUS.UPD_CNT.key n.val 0, Reg.TB_STATUS.HOLD_SKIP.key n.val 0]) ∧
  (∀ (n : Fin 8) (s : State), s.present islTBC = true → s.xferDue n.val = true → (s.tb n.val).perPend = none → s.on Reg.TB_CTRL.UPD_HOLD n.val = false → exec (.shadowTransfer n) s = .next (((s.setTb n.val { s.tb n.val with rldAt := some s.now }).wr Reg.TB_STATUS.UPD_CNT n.val 0).transfer n.val))

/-- The bias code of a ladder moves by one count, reports its limit, and locks (LADDER_CAL_UPDATE, LADDER_CAL_LIMIT, LADDER_LOCK).
With its island present, CAL_ERR 0, two idle ticks and 256 ticks since the last update, LADDER_CAL_UPDATE moves CAL_CODE by one
count inside 0 to 4095 and writes no other register; otherwise nothing changes. LADDER_CAL_LIMIT after 1,024 updates at a limit
sets CAL_ERR and LAD_ERR, shows the state of all ladders and hands event 0x0008 with the register word of the ladder to the log.
LADDER_LOCK with PLL-T locked sets LOCK, and can write no other register than LAD_LOCK, LAD_ERR and PWM_RDY; without PLL-T locked
it changes nothing. It rests on the model's choices of log entries 2, 11. -/
def Obligations.LadderCalibration : Prop :=
  (∀ (l : Fin 24) (j : Fin 3) (up : Bool) (s : State), s.present (islLeg l.val) = true → s.on Reg.LEG_LAD.CAL_ERR l.val j.val = false → s.ladIdle l.val j.val = true → ((s.leg l.val).ladAt.getD j.val 0 = 0 ∨ (s.leg l.val).ladAt.getD j.val 0 + 256 ≤ s.now) → ∃ t, exec (.ladderCalUpdate l j up) s = .next t ∧
      t.rd Reg.LEG_LAD.CAL_CODE l.val j.val = (if up then min (s.rd Reg.LEG_LAD.CAL_CODE l.val j.val + 1) (max 4095 (s.rd Reg.LEG_LAD.CAL_CODE l.val j.val))
      else s.rd Reg.LEG_LAD.CAL_CODE l.val j.val - 1) % 4096 ∧
      (∀ k, k ≠ l.val → t.leg k = s.leg k) ∧ OnlyRegs s { t with legs := s.legs } [Reg.LEG_LAD.CAL_CODE.key l.val j.val]) ∧
  (∀ (l : Fin 24) (j : Fin 3) (up : Bool) (s : State), (s.present (islLeg l.val) = false ∨ s.ladIdle l.val j.val = false ∨ s.on Reg.LEG_LAD.CAL_ERR l.val j.val = true) → exec (.ladderCalUpdate l j up) s = .next s) ∧
  (∀ (l : Fin 24) (j : Fin 3) (s : State), (1024 ≤ (s.leg l.val).ladCnt.getD j.val 0) → ∃ t, exec (.ladderCalLimit l j) s = .next t ∧ t.rd Reg.LEG_LAD.CAL_ERR l.val j.val = 1 ∧ t.rd Reg.TBG_STATUS.LAD_ERR = 1 ∧
      t = ((s.wr2 Reg.LEG_LAD.CAL_ERR l.val j.val 1).showLadders).logEv 0x0008 l.val
      (leBytes 4 (s.rd Reg.LEG_LAD.CAL_CODE l.val j.val * 256 + s.rd Reg.LEG_LAD.SPARE_TAPS l.val j.val * 16 + 2 + s.rd Reg.LEG_LAD.LOCK l.val j.val))) ∧
  (∀ (l : Fin 24) (j : Fin 3) (s : State), s.present (islLeg l.val) = true → s.on Reg.PLL_STAT.LOCK 0 = true → ∃ t, exec (.ladderLock l j) s = .next t ∧ t.rd Reg.LEG_LAD.LOCK l.val j.val = 1 ∧
      OnlyRegs s t [Reg.LEG_LAD.LOCK.key l.val j.val, Reg.TBG_STATUS.LAD_LOCK.key 0 0, Reg.TBG_STATUS.LAD_ERR.key 0 0, Reg.PWR_STATUS.PWM_RDY.key 0 0]) ∧
  (∀ (l : Fin 24) (j : Fin 3) (s : State), s.on Reg.PLL_STAT.LOCK 0 = false → exec (.ladderLock l j) s = .next s)

/-- A new OUTMODE, a dead time and a held edge act on the output stage of their leg alone (OUTMODE_APPLY, DEADTIME_EXPIRY,
HELD_EDGE_EXECUTE). A new OUTMODE restarts the output stage at a tick edge after the one that captured its write, and the leg then
acts by the register; OUTMODE 3 leaves both outputs off. At the capturing edge itself, and with no new mode, nothing changes. A
pending turn-on that has fallen due by the end of the tick turns its output on and is pending no more; one that has not leaves the
leg as it was. A held closing edge that has fallen due turns its output off, and outside OUTMODE 0 ends the pulse, the pending
turn-on and the hold. No register is written, no other leg is touched. It rests on the model's choices of log entries 2, 9, 10. -/
def Obligations.OutputStageEvents : Prop :=
  (∀ (l : Fin 24) (s : State) (o c : Nat), (s.leg l.val).newMode = some (o, c) → (c < s.now) → s.rd Reg.LEG_PAD_CFG.OUTMODE l.val = 3 → ∃ t, exec (.outmodeApply l) s = .next t ∧ (t.leg l.val).outH = false ∧ (t.leg l.val).outL = false ∧ (t.leg l.val).newMode = none ∧
      (t.leg l.val).pend = none ∧ (t.leg l.val).held = none ∧ (∀ k, k ≠ l.val → t.leg k = s.leg k) ∧ OnlyRegs s { t with legs := s.legs } []) ∧
  (∀ (l : Fin 24) (s : State) (o c : Nat), (s.leg l.val).newMode = some (o, c) → (c < s.now) → exec (.outmodeApply l) s = .next ((s.setLeg l.val { s.leg l.val with newMode := none }).restartLeg l.val (s.now * 128))) ∧
  (∀ (l : Fin 24) (s : State), (∀ o c, (s.leg l.val).newMode = some (o, c) → s.now ≤ c) → exec (.outmodeApply l) s = .next s) ∧
  (∀ (l : Fin 24) (s : State) (p : PendOn), (s.leg l.val).pend = some p → (p.due ≤ s.now * 128 + 127) → ∃ t, exec (.deadtimeExpiry l) s = .next t ∧ (t.leg l.val).out p.side = true ∧ (t.leg l.val).pend = none ∧
      (∀ k, k ≠ l.val → t.leg k = s.leg k) ∧ OnlyRegs s { t with legs := s.legs } []) ∧
  (∀ (l : Fin 24) (s : State), (∀ p, (s.leg l.val).pend = some p → s.now * 128 + 127 < p.due) → ∃ t, exec (.deadtimeExpiry l) s = .next t ∧ (∀ k, t.leg k = s.leg k) ∧ OnlyRegs s { t with legs := s.legs } []) ∧
  (∀ (l : Fin 24) (s : State) (h : Nat) (p : OutPulse), (s.leg l.val).held = some h → (s.leg l.val).pulse = some p → (h ≤ s.now * 128 + 127) → (s.outmode l.val ≠ 0) → ∃ t, exec (.heldEdgeExecute l) s = .next t ∧ (t.leg l.val).out p.side = false ∧ (t.leg l.val).held = none ∧ (t.leg l.val).pulse = none ∧
      (t.leg l.val).pend = none ∧ (∀ k, k ≠ l.val → t.leg k = s.leg k) ∧ OnlyRegs s { t with legs := s.legs } []) ∧
  (∀ (l : Fin 24) (s : State) (h : Nat) (p : OutPulse), (s.leg l.val).held = some h → (s.leg l.val).pulse = some p → (h ≤ s.now * 128 + 127 → exec (.heldEdgeExecute l) s = .next ((s.setLeg l.val ((s.leg l.val).turnOn h)).closeEdge l.val p.side h)) ∧
      (s.now * 128 + 127 < h → exec (.heldEdgeExecute l) s = .next s))

/-- Switch-node transitions and windows, and the controls of the adaptive dead-time loop (SWN_ACCEPT, SWN_WINDOW_EXPIRY,
ADT_ENABLE, ADT_FAIL_CLEAR, ADT_TRIM_WRITE). An accepted transition writes its level and timestamp; outside OUTMODE 0 it is not
classed and writes no other register, in OUTMODE 0 with no window open it sets SWN_UNEXP. The oldest window that is over closes:
with its transition seen, or while the return link is lost, it writes no register and the leg keeps its polarity and miss count;
else it counts a miss, and MISS_LIM consecutive misses of a running loop set ADT_FAIL and stop it. With no window over nothing
changes. ADT_EN = 1 is refused with CFG_ERR while STEP, MISS_LIM or SWN_WIN is 0, changes nothing where the loop is already
enabled, and else enables the loop with a miss count of 0. Clearing ADT_FAIL restarts an enabled loop with a miss count of 0. A
trim write writes both trims. It rests on the model's choices of log entries 2, 13. -/
def Obligations.SwitchNodeAndAdaptiveLoop : Prop :=
  (∀ (l : Fin 24) (lv : Bool) (fine : Fin 128) (s : State), s.present (islLeg l.val) = true → s.links.ret = false → (lv != s.on Reg.LEG_SWN_CFG.INV l.val) ≠ s.on Reg.LEG_DT_STATUS.SWN_LVL l.val → (s.outmode l.val ≠ 0) → ∃ t, exec (.swnAccept l lv fine) s = .next t ∧ t.rd Reg.LEG_DT_STATUS.SWN_LVL l.val = b2n (lv != s.on Reg.LEG_SWN_CFG.INV l.val) ∧
      t.rd Reg.LEG_SWN_TS.EDGE l.val = b2n (lv != s.on Reg.LEG_SWN_CFG.INV l.val) ∧ t.rd Reg.LEG_SWN_TS.FINE l.val = fine.val ∧
      OnlyRegs s t [Reg.LEG_DT_STATUS.SWN_LVL.key l.val 0, Reg.LEG_SWN_TS.EDGE.key l.val 0, Reg.LEG_SWN_TS.CNT.key l.val 0, Reg.LEG_SWN_TS.FINE.key l.val 0]) ∧
  (∀ (l : Fin 24) (lv : Bool) (fine : Fin 128) (s : State), s.present (islLeg l.val) = true → s.links.ret = false → (lv != s.on Reg.LEG_SWN_CFG.INV l.val) ≠ s.on Reg.LEG_DT_STATUS.SWN_LVL l.val → s.outmode l.val = 0 → (s.leg l.val).win = [] → ∃ t, exec (.swnAccept l lv fine) s = .next t ∧ t.rd Reg.LEG_DT_STATUS.SWN_LVL l.val = b2n (lv != s.on Reg.LEG_SWN_CFG.INV l.val) ∧
      t.rd Reg.LEG_DT_STATUS.SWN_UNEXP l.val = 1 ∧
      OnlyRegs s t [Reg.LEG_DT_STATUS.SWN_LVL.key l.val 0, Reg.LEG_SWN_TS.EDGE.key l.val 0, Reg.LEG_SWN_TS.CNT.key l.val 0, Reg.LEG_SWN_TS.FINE.key l.val 0,
      Reg.LEG_DT_STATUS.SWN_UNEXP.key l.val 0, Reg.LEG_DT_CNT.UNEXP_CNT.key l.val 0]) ∧
  (∀ (l : Fin 24) (s : State) (w : SwnWin), (s.leg l.val).win.find? (fun w => decide (w.on + s.rd Reg.LEG_ADT_LIM.SWN_WIN l.val * 128 ≤ s.now * 128)) = some w → (w.seen = true ∨ s.links.ret = true) → ∃ t, exec (.swnWindowExpiry l) s = .next t ∧ t.leg l.val = { s.leg l.val with win := (s.leg l.val).win.erase w } ∧ (∀ k, k ≠ l.val → t.leg k = s.leg k) ∧
      OnlyRegs s { t with legs := s.legs } []) ∧
  (∀ (l : Fin 24) (s : State) (w : SwnWin), (s.leg l.val).win.find? (fun w => decide (w.on + s.rd Reg.LEG_ADT_LIM.SWN_WIN l.val * 128 ≤ s.now * 128)) = some w → w.seen = false → s.links.ret = false → (s.adtRuns l.val = false ∨ (s.leg l.val).miss + 1 < s.rd Reg.LEG_ADT_LIM.MISS_LIM l.val) → ∃ t, exec (.swnWindowExpiry l) s = .next t ∧ t.leg l.val = { s.leg l.val with win := (s.leg l.val).win.erase w, cls := 0, miss := (s.leg l.val).miss + 1 } ∧
      (∀ k, k ≠ l.val → t.leg k = s.leg k) ∧ OnlyRegs s { t with legs := s.legs } [Reg.LEG_DT_STATUS.POL.key l.val 0]) ∧
  (∀ (l : Fin 24) (s : State) (w : SwnWin), (s.leg l.val).win.find? (fun w => decide (w.on + s.rd Reg.LEG_ADT_LIM.SWN_WIN l.val * 128 ≤ s.now * 128)) = some w → w.seen = false → s.adtRuns l.val = true → (s.rd Reg.LEG_ADT_LIM.MISS_LIM l.val ≤ (s.leg l.val).miss + 1) → ∃ t, exec (.swnWindowExpiry l) s = .next t ∧ t.rd Reg.LEG_DT_STATUS.ADT_FAIL l.val = 1 ∧ t.rd Reg.LEG_DT_STATUS.ADT_RUN l.val = 0 ∧
      (t.leg l.val).miss = (s.leg l.val).miss + 1 ∧ (t.leg l.val).cls = 0 ∧ (∀ k, k ≠ l.val → t.leg k = s.leg k) ∧
      OnlyRegs s { t with legs := s.legs } [Reg.LEG_DT_STATUS.POL.key l.val 0, Reg.LEG_DT_STATUS.ADT_FAIL.key l.val 0, Reg.LEG_DT_STATUS.ADT_RUN.key l.val 0]) ∧
  (∀ (l : Fin 24) (s : State), (s.leg l.val).win.find? (fun w => decide (w.on + s.rd Reg.LEG_ADT_LIM.SWN_WIN l.val * 128 ≤ s.now * 128)) = none → exec (.swnWindowExpiry l) s = .next s) ∧
  (∀ (m : Master) (l : Fin 24) (s : State), s.ready (Reg.LEG_OUT_CFG.ADT_EN.addr l.val 0) = true → s.on Reg.LEG_OUT_CFG.ADT_EN l.val = false → (s.rd Reg.LEG_ADT_CFG.STEP l.val = 0 ∨ s.rd Reg.LEG_ADT_LIM.MISS_LIM l.val = 0 ∨ s.rd Reg.LEG_ADT_LIM.SWN_WIN l.val = 0) → ∃ t, exec (.adtEnable m l) s = .next t ∧ t.rd Reg.LEG_DT_STATUS.CFG_ERR l.val = 1 ∧ OnlyRegs s t [Reg.LEG_DT_STATUS.CFG_ERR.key l.val 0]) ∧
  (∀ (m : Master) (l : Fin 24) (s : State), s.ready (Reg.LEG_OUT_CFG.ADT_EN.addr l.val 0) = true → s.on Reg.LEG_OUT_CFG.ADT_EN l.val = false → (s.rd Reg.LEG_ADT_CFG.STEP l.val ≠ 0) → (s.rd Reg.LEG_ADT_LIM.MISS_LIM l.val ≠ 0) → (s.rd Reg.LEG_ADT_LIM.SWN_WIN l.val ≠ 0) → ∃ t, exec (.adtEnable m l) s = .next t ∧ t.rd Reg.LEG_OUT_CFG.ADT_EN l.val = 1 ∧
      t.rd Reg.LEG_DT_STATUS.ADT_RUN l.val = b2n (!s.on Reg.LEG_DT_STATUS.ADT_FAIL l.val && !s.links.ret) ∧
      t.leg l.val = { s.leg l.val with miss := 0 } ∧
      OnlyRegs s { t with legs := s.legs } [Reg.LEG_OUT_CFG.ADT_EN.key l.val 0, Reg.LEG_DT_STATUS.ADT_RUN.key l.val 0]) ∧
  (∀ (m : Master) (l : Fin 24) (s : State), s.ready (Reg.LEG_DT_STATUS.ADT_FAIL.addr l.val 0) = true → s.on Reg.LEG_DT_STATUS.ADT_FAIL l.val = true → s.on Reg.LEG_OUT_CFG.ADT_EN l.val = true → ∃ t, exec (.adtFailClear m l) s = .next t ∧ t.rd Reg.LEG_DT_STATUS.ADT_FAIL l.val = 0 ∧ t.rd Reg.LEG_DT_STATUS.ADT_RUN l.val = b2n (!s.links.ret) ∧
      t.leg l.val = { s.leg l.val with miss := 0 } ∧
      OnlyRegs s { t with legs := s.legs } [Reg.LEG_DT_STATUS.ADT_FAIL.key l.val 0, Reg.LEG_DT_STATUS.ADT_RUN.key l.val 0]) ∧
  (∀ (m : Master) (l : Fin 24) (r f : BitVec 16) (s : State), s.ready (Reg.LEG_ADT_TRIM.TRIM_RISE.addr l.val 0) = true → ∃ t, exec (.adtTrimWrite m l r f) s = .next t ∧ t.rd Reg.LEG_ADT_TRIM.TRIM_RISE l.val = r.toNat ∧ t.rd Reg.LEG_ADT_TRIM.TRIM_FALL l.val = f.toNat ∧
      OnlyRegs s t [Reg.LEG_ADT_TRIM.TRIM_RISE.key l.val 0, Reg.LEG_ADT_TRIM.TRIM_FALL.key l.val 0])

/-- The first assertion of a trip node: latches, status, capture and enable (SWTRIP). Where STG_TRIP answers and no commit of the
window is in progress: setting SWTRIP of an untripped stage sets TRIP, gives CLASS 3 (GENERAL) and FIRST_SRC 0xE00, puts the armed
GENERAL safe state into SS, clears SEC_CLS and EN, shows ACTIVE, counts the trip, and writes the 16-byte capture record at CAP_WR
of the Clay ring and advances CAP_WR; every byte of memory outside that record reads as before. With the stage tripped already by
another source, the assertion only marks class 3 in SEC_CLS. Clearing SWTRIP with nothing else active clears ACTIVE and keeps the
trip. It rests on the model's choices of log entries 7, 12. -/
def Obligations.SoftwareTripActs : Prop :=
  (∀ (m : Master) (n : Fin 8) (s : State), s.ready (Reg.STG_TRIP.SWTRIP.addr n.val 0) = true → s.on Reg.STG_TRIP.SWTRIP n.val = false → s.stgTripped n.val = false → ∃ t, exec (.swtrip m n true) s = .next t ∧ t.rd Reg.STG_TRIP.SWTRIP n.val = 1 ∧ t.rd Reg.STG_TRIP.TRIP n.val = 1 ∧ t.rd Reg.STG_TRIP.CLASS n.val = 3 ∧
      t.rd Reg.STG_TRIP_SRC.FIRST_SRC n.val = 0xE00 ∧ t.rd Reg.STG_TRIP.SS n.val = s.rd Reg.STG_ARMED.ARM_GEN n.val % 4 ∧
      t.rd Reg.STG_TRIP.SEC_CLS n.val = 0 ∧ t.rd Reg.STG_CTRL.EN n.val = 0 ∧ t.rd Reg.STG_TRIP.ACTIVE n.val = 1 ∧
      t.rd Reg.CLY_STAT.CAP_WR 0 = (s.rd Reg.CLY_STAT.CAP_WR + 1) % 64 ∧
      (∀ a, (a < 0x4C001000 + 16 * s.rd Reg.CLY_STAT.CAP_WR ∨ 0x4C001000 + 16 * s.rd Reg.CLY_STAT.CAP_WR + 16 ≤ a) → t.byte a = s.byte a)) ∧
  (∀ (m : Master) (n : Fin 8) (s : State), s.ready (Reg.STG_TRIP.SWTRIP.addr n.val 0) = true → s.on Reg.STG_TRIP.SWTRIP n.val = false → s.stgTripped n.val = true → (s.rd Reg.STG_TRIP_SRC.FIRST_SRC n.val ≠ 0xE00) → ∃ t, exec (.swtrip m n true) s = .next t ∧ t.rd Reg.STG_TRIP.SEC_CLS n.val = withBit (s.rd Reg.STG_TRIP.SEC_CLS n.val) 3 % 16 ∧ t.rd Reg.STG_TRIP.ACTIVE n.val = 1 ∧
      OnlyRegs s t [Reg.STG_TRIP.SWTRIP.key n.val 0, Reg.STG_TRIP.SEC_CLS.key n.val 0, Reg.STG_TRIP.ACTIVE.key n.val 0]) ∧
  (∀ (m : Master) (n : Fin 8) (s : State), s.ready (Reg.STG_TRIP.SWTRIP.addr n.val 0) = true → (s.wr Reg.STG_TRIP.SWTRIP n.val 0).nodeActive n.val = false → ∃ t, exec (.swtrip m n false) s = .next t ∧ t.rd Reg.STG_TRIP.SWTRIP n.val = 0 ∧ t.rd Reg.STG_TRIP.ACTIVE n.val = 0 ∧
      OnlyRegs s t [Reg.STG_TRIP.SWTRIP.key n.val 0, Reg.STG_TRIP.ACTIVE.key n.val 0])

/-- Comparators, lands, pad mismatches, safe-state delays and clears (PAD_MISMATCH, COMPARATOR_CROSSING, TRIPIN_CHANGE,
ASC_DT_EXPIRY, TRIP_CLEAR, ARMED_STALE, CHOP_FAULT_CLEAR). A comparator that becomes inactive, or whose island is absent, writes
no register but its state and the ACTIVE fields; one that becomes active with no route set has SEEN set and trips nothing. Both
act at once with FILT = 0; with a filter, a crossing that differs from the filtered state only begins the time of the filter, and
one that agrees with it ends that time. A TRIPIN land with EN = 0 reads inactive whatever its level. A land that is found at the
level commanded more than 64 ticks after its last commanded edge, while its pad reads otherwise, is flagged and handled as a run-
time fault of the leg. The ASC_DT delay of a stage ends where it runs and 85 % of (k + 1) times 100 ns have passed, and not
before. A clear of a trip is refused with CLR_DENIED while a source is active and clears TRIP, CLASS and SEC_CLS otherwise,
keeping FIRST_SRC and the latches. The armed codes read stale 10,000 ticks after the last refresh of Rowan and not before. A
sticky chopper fault clears unless its stage is tripped (CLR_DENIED) or its REASON is 3. It rests on the model's choices of log
entries 2, 12. -/
def Obligations.ProtectionSources : Prop :=
  (∀ (c : Fin 96) (uv : Nat) (s : State), s.present (islCmp c.val) = true → s.rd Reg.CMP_DAC.FILT c.val = 0 → s.cmpLevel c.val uv = false → ∃ t, exec (.comparatorCrossing c uv) s = .next t ∧ t.rd Reg.CMP_STAT.STATE c.val = 0 ∧ t.rd Reg.CMP_DAC.STATE c.val = 0 ∧
      OnlyRegs s { t with glitch := s.glitch } (Reg.CMP_STAT.STATE.key c.val 0 :: Reg.CMP_DAC.STATE.key c.val 0 :: (List.range 8).map fun n => Reg.STG_TRIP.ACTIVE.key n 0)) ∧
  (∀ (c : Fin 96) (uv : Nat) (s : State), s.present (islCmp c.val) = false → exec (.comparatorCrossing c uv) s = .next s) ∧
  (∀ (c : Fin 96) (uv : Nat) (s : State), s.present (islCmp c.val) = true → s.rd Reg.CMP_DAC.FILT c.val = 0 → s.on Reg.CMP_STAT.STATE c.val = false → s.cmpLevel c.val uv = true → s.routes = [] → ∃ t, exec (.comparatorCrossing c uv) s = .next t ∧ t.rd Reg.CMP_STAT.STATE c.val = 1 ∧ t.rd Reg.CMP_STAT.SEEN c.val = 1 ∧
      OnlyRegs s { t with glitch := s.glitch } [Reg.CMP_STAT.STATE.key c.val 0, Reg.CMP_DAC.STATE.key c.val 0, Reg.CMP_STAT.SEEN.key c.val 0]) ∧
  (∀ (c : Fin 96) (uv : Nat) (s : State), s.present (islCmp c.val) = true → (s.rd Reg.CMP_DAC.FILT c.val ≠ 0) → (s.cmpLevel c.val uv = s.on Reg.CMP_STAT.STATE c.val → exec (.comparatorCrossing c uv) s = .next (s.setGlitch (srcCmp c.val) none)) ∧
      (s.cmpLevel c.val uv ≠ s.on Reg.CMP_STAT.STATE c.val → SMap.get none s.glitch (srcCmp c.val) = none →
      exec (.comparatorCrossing c uv) s = .next (s.setGlitch (srcCmp c.val) (some s.now)))) ∧
  (∀ (p : Fin 16) (hi : Bool) (s : State), s.on Reg.TRIPIN_CFG.EN p.val = false → exec (.tripinChange p hi) s = .next (({ s with lands := SMap.set none s.lands p.val (some hi) }.setGlitch (srcTripin p.val) none).setTripin p.val false)) ∧
  (∀ (p : Fin 16) (hi : Bool) (s : State), s.on Reg.TRIPIN_CFG.EN p.val = true → s.rd Reg.TRIPIN_CFG.FILT p.val = 0 → hi = s.on Reg.TRIPIN_CFG.POL p.val → s.on Reg.TRIPIN_STAT.LEVEL p.val = false → exec (.tripinChange p hi) s = .next ((((({ s with lands := SMap.set none s.lands p.val (some hi) }.setGlitch (srcTripin p.val) none).wr Reg.TRIPIN_STAT.LEVEL p.val 1).wr Reg.TRIPIN_CFG.LEVEL p.val 1).flag
      Reg.TRIPIN_STAT.SEEN p.val).routedRise (0x700 + p.val))) ∧
  (∀ (l : Fin 24) (sd : Side) (s : State), s.present islPAD = true → (match sd with | .hi => (s.pad l.val).cmdAtH | .lo => (s.pad l.val).cmdAtL) + 64 < s.now → s.gateOn l.val sd = (match sd with | .hi => (s.pad l.val).cmdH | .lo => (s.pad l.val).cmdL) → exec (.padMismatch l sd) s = .next ((s.flag Reg.LEG_DT_STATUS.PAD_MISMATCH l.val).unitFault l.val)) ∧
  (∀ (n : Fin 8) (s : State), (∀ r, s.ascOf n.val = some r → 85 * (r.dt + 1) ≤ 2 * (s.now - r.at0) → exec (.ascDtExpiry n) s = .next (s.ascOn n.val r)) ∧
      (∀ r, s.ascOf n.val = some r → ¬ 85 * (r.dt + 1) ≤ 2 * (s.now - r.at0) → exec (.ascDtExpiry n) s = .next s) ∧
      (s.ascOf n.val = none → exec (.ascDtExpiry n) s = .next s) ∧
      (∃ t, exec (.ascDtExpiry n) s = .next t ∧ t.regs = s.regs ∧ t.mem = s.mem ∧ t.legs = s.legs)) ∧
  (∀ (m : Master) (n : Fin 8) (s : State), s.ready (Reg.STG_TRIP.TRIP.addr n.val 0) = true → s.nodeActive n.val = true → s.stgTripped n.val = true → ∃ t, exec (.tripClear m n none) s = .next t ∧ t.rd Reg.STG_TRIP.CLR_DENIED n.val = 1 ∧ OnlyRegs s t [Reg.STG_TRIP.CLR_DENIED.key n.val 0]) ∧
  (∀ (m : Master) (n : Fin 8) (s : State), s.ready (Reg.STG_TRIP.TRIP.addr n.val 0) = true → s.nodeActive n.val = false → ∃ t, exec (.tripClear m n none) s = .next t ∧ t.rd Reg.STG_TRIP.TRIP n.val = 0 ∧ t.rd Reg.STG_TRIP.CLASS n.val = 0 ∧ t.rd Reg.STG_TRIP.SEC_CLS n.val = 0 ∧
      OnlyRegs s t [Reg.STG_TRIP.TRIP.key n.val 0, Reg.STG_TRIP.CLASS.key n.val 0, Reg.STG_TRIP.SEC_CLS.key n.val 0]) ∧
  (∀ (s : State) (x : Nat), s.rowanAt = some x → (s.now < x + 10000 → exec .armedStale s = .next s) ∧
      (x + 10000 ≤ s.now → ∃ t, exec .armedStale s = .next t ∧ (∀ n : Fin 8, t.rd Reg.STG_ARMED.STALE n.val = 1) ∧
      OnlyRegs s t ((List.range 8).map fun n => Reg.STG_ARMED.STALE.key n 0))) ∧
  (∀ (m : Master) (n : Fin 8) (s : State), s.ready (Reg.STG_CHOP.CHOP_FAULT.addr n.val 0) = true → s.on Reg.STG_CHOP.CHOP_FAULT n.val = true → (s.rd Reg.STG_CHOP.REASON n.val ≠ 3) → s.stgTripped n.val = true → ∃ t, exec (.chopFaultClear m n) s = .next t ∧ t.rd Reg.STG_CHOP.CLR_DENIED n.val = 1 ∧ OnlyRegs s t [Reg.STG_CHOP.CLR_DENIED.key n.val 0]) ∧
  (∀ (m : Master) (n : Fin 8) (s : State), s.ready (Reg.STG_CHOP.CHOP_FAULT.addr n.val 0) = true → s.on Reg.STG_CHOP.CHOP_FAULT n.val = true → (s.rd Reg.STG_CHOP.REASON n.val ≠ 3) → s.stgTripped n.val = false → ∃ t, exec (.chopFaultClear m n) s = .next t ∧ t.rd Reg.STG_CHOP.CHOP_FAULT n.val = 0 ∧ t.rd Reg.STG_CHOP.REASON n.val = 0 ∧
      OnlyRegs s t (Reg.STG_CHOP.CHOP_FAULT.key n.val 0 :: Reg.STG_CHOP.REASON.key n.val 0 :: (List.range 8).map fun k => Reg.STG_ARMED.CHOP_FAULT.key k 0))

/-- Sequencers are enabled, started, issue their groups and end their conversions (SEQ_ENABLE, SEQ_DISABLE, SEQ_START,
SEQ_SWSTART, SEQ_GROUP_ISSUE, ADC_SAMPLING_INSTANT, ADC_EOC of a sequence). An enable with no ring blocks or a ring past block 63
is refused with ERR_CODE 4; one whose resources are all free or its own sets EN and clears both ring pointers. While EN reads 1
the enable sets the pointers and claims nothing (the model's choice, log entry 38). A disable while results are awaited clears EN
and RUNNING, drops the groups still to issue and keeps the claims until the last result. A start with EN = 0, or while conversions
of a run that EN = 0 stopped still complete, is refused with ERR_CODE 6, one of length 0 or above 64 with ERR_CODE 1, one during a
run counts MISS; a start whose entries pass every check latches them and sets RUNNING. A group that may issue shows its first
entry in ENTRY and is taken off the groups to issue. The sampling instant notes the input voltage, its time with the SKEW_TRIM of
the converter and the chain time then, and writes no register. The end of a conversion whose result is discarded only frees its
converter; with no slot pending, the pull-down step of an open-wire check begins the pull-up step. It rests on the model's choices
of log entries 2, 3, 38. -/
def Obligations.SequencersRun : Prop :=
  (∀ (m : Master) (j : Fin 4) (s : State), s.ready (Reg.SEQ_CTRL.EN.addr j.val 0) = true → s.on Reg.SEQ_CTRL.EN j.val = false → (s.rd Reg.SEQ_CTRL.RING_BLKS j.val = 0 ∨ 64 < s.rd Reg.SEQ_CTRL.RING_BASE j.val + s.rd Reg.SEQ_CTRL.RING_BLKS j.val) → ∃ t, exec (.seqEnable m j) s = .next t ∧ t.rd Reg.SEQ_STATUS.ERR j.val = 1 ∧ t.rd Reg.SEQ_STATUS.ERR_CODE j.val = 4 ∧
      OnlyRegs s t [Reg.SEQ_STATUS.ERR.key j.val 0, Reg.SEQ_STATUS.ERR_CODE.key j.val 0]) ∧
  (∀ (m : Master) (j : Fin 4) (s : State), s.ready (Reg.SEQ_CTRL.EN.addr j.val 0) = true → s.on Reg.SEQ_CTRL.EN j.val = false → (1 ≤ s.rd Reg.SEQ_CTRL.RING_BLKS j.val) → (s.rd Reg.SEQ_CTRL.RING_BASE j.val + s.rd Reg.SEQ_CTRL.RING_BLKS j.val ≤ 64) → s.claimBlock (0x10 + j.val) (s.seqNeeds j.val) = none → ∃ t, exec (.seqEnable m j) s = .next t ∧ t.rd Reg.SEQ_CTRL.EN j.val = 1 ∧ t.rd Reg.SEQ_PTR.WR_PTR j.val = 0 ∧ t.rd Reg.SEQ_PTR.RD_PTR j.val = 0 ∧
      (t.seq j.val).claims = s.seqNeeds j.val ∧ (t.seq j.val).full = false ∧ t.mem = s.mem ∧ t.tcm = s.tcm) ∧
  (∀ (m : Master) (j : Fin 4) (s : State), s.ready (Reg.SEQ_CTRL.EN.addr j.val 0) = true → ((s.seq j.val).wait ≠ []) → ∃ t, exec (.seqDisable m j) s = .next t ∧ t.rd Reg.SEQ_CTRL.EN j.val = 0 ∧ t.rd Reg.SEQ_STATUS.RUNNING j.val = 0 ∧ (t.seq j.val).groups = [] ∧
      OnlyRegs s { t with seqs := s.seqs } [Reg.SEQ_CTRL.EN.key j.val 0, Reg.SEQ_STATUS.RUNNING.key j.val 0]) ∧
  (∀ (m : Master) (j : Fin 4) (s : State), s.ready (Reg.SEQ_CTRL.SWSTART.addr j.val 0) = true → ((s.on Reg.SEQ_CTRL.EN j.val = false ∨ s.seqOpen j.val = true ∧ s.on Reg.SEQ_STATUS.RUNNING j.val = false) → ∃ t, exec (.seqSwstart m j) s = .next t ∧ t.rd Reg.SEQ_STATUS.ERR j.val = 1 ∧
      t.rd Reg.SEQ_STATUS.ERR_CODE j.val = 6 ∧ OnlyRegs s t [Reg.SEQ_STATUS.ERR.key j.val 0, Reg.SEQ_STATUS.ERR_CODE.key j.val 0]) ∧
      (s.on Reg.SEQ_CTRL.EN j.val = true → (s.seqOpen j.val = false ∨ s.on Reg.SEQ_STATUS.RUNNING j.val = true) → (s.rd Reg.SEQ_CTRL.LEN j.val = 0 ∨ 64 < s.rd Reg.SEQ_CTRL.LEN j.val) →
      ∃ t, exec (.seqSwstart m j) s = .next t ∧ t.rd Reg.SEQ_STATUS.ERR j.val = 1 ∧ t.rd Reg.SEQ_STATUS.ERR_CODE j.val = 1 ∧
      OnlyRegs s t [Reg.SEQ_STATUS.ERR.key j.val 0, Reg.SEQ_STATUS.ERR_CODE.key j.val 0]) ∧
      (s.on Reg.SEQ_CTRL.EN j.val = true → 1 ≤ s.rd Reg.SEQ_CTRL.LEN j.val → s.rd Reg.SEQ_CTRL.LEN j.val ≤ 64 → s.on Reg.SEQ_STATUS.RUNNING j.val = true →
      ∃ t, exec (.seqSwstart m j) s = .next t ∧ t.rd Reg.SEQ_STATUS.MISS j.val = 1 ∧
      OnlyRegs s t [Reg.SEQ_STATUS.MISS.key j.val 0, Reg.SEQ_STATUS.MISS_CNT.key j.val 0])) ∧
  (∀ (m : Master) (j : Fin 4) (s : State) (ents : List SeqEnt), s.ready (Reg.SEQ_CTRL.SWSTART.addr j.val 0) = true → s.on Reg.SEQ_CTRL.EN j.val = true → (1 ≤ s.rd Reg.SEQ_CTRL.LEN j.val) → (s.rd Reg.SEQ_CTRL.LEN j.val ≤ 64) → s.on Reg.SEQ_STATUS.RUNNING j.val = false → s.seqOpen j.val = false → ents = (List.range (s.rd Reg.SEQ_CTRL.LEN j.val)).map (s.seqEnt j.val) → (groupsFrom 0 ents).any (fun g => hasDup (groupAdcs ents g)) = false → ents.any (fun e => s.claimOwner (0x200 + e.adc) ≠ 0x10 + j.val || s.paired e.adc || s.rsUses e.adc) = false → ents.any (fun e => e.ow && s.rd Reg.AIN_OW.CUR (ainOf e.adc e.mux) == 0) = false → ∃ t, exec (.seqSwstart m j) s = .next t ∧ t.rd Reg.SEQ_STATUS.RUNNING j.val = 1 ∧ (t.seq j.val).ents = ents ∧
      (t.seq j.val).groups = groupsFrom 0 ents ∧ (t.seq j.val).wait = (s.seq j.val).wait ∧ (∀ k, k ≠ j.val → t.seq k = s.seq k) ∧
      OnlyRegs s { t with seqs := s.seqs } [Reg.SEQ_STATUS.RUNNING.key j.val 0]) ∧
  (∀ (j : Fin 4) (s : State), (s.pulseAt (seqTarget j.val)).isSome = true → s.present (0x13 + j.val) = true → exec (.seqStart j) s = .next ((s.takePulse (seqTarget j.val)).seqStart j.val)) ∧
  (∀ (j : Fin 4) (s : State) (g : List Nat) (gs : List (List Nat)), s.present (0x13 + j.val) = true → (s.seq j.val).groups = g :: gs → s.on Reg.SEQ_STATUS.RUNNING j.val = true → s.groupReady (s.seq j.val).ents g = true → ∃ t, exec (.seqGroupIssue j) s = .next t ∧ t.rd Reg.SEQ_STATUS.ENTRY j.val = g.headD 0 % 2 ^ 6 ∧ (t.seq j.val).groups = gs ∧
      (t.seq j.val).wait = (s.seq j.val).wait ++ g ∧ t.mem = s.mem) ∧
  (∀ (a : Fin 32) (nv : Int) (s : State), s.present (islAdc a.val) = true → (s.adc a.val).phase = .acquiring → ((s.adc a.val).job.start2 + 2 * (s.adc a.val).job.acq ≤ 2 * s.now + 1) → ∃ t, exec (.adcSamplingInstant a nv) s = .next t ∧ t.adc a.val = { s.adc a.val with
      phase := .converting, nv := nv, smp2 := (s.adc a.val).job.start2 + 2 * (s.adc a.val).job.acq
      smpAt := (((s.adc a.val).job.start2 + 2 * (s.adc a.val).job.acq : Nat) : Int) * 64 + s.skew a.val
      smpTime := ((s.chainTime : Int) + ((((s.adc a.val).job.start2 + 2 * (s.adc a.val).job.acq : Nat) : Int) * 64 + s.skew a.val) / 128 - s.now).toNat } ∧
      (∀ k, k ≠ a.val → t.adc k = s.adc k) ∧ OnlyRegs s { t with adcs := s.adcs } []) ∧
  (∀ (a : Fin 32) (s : State), s.present (islAdc a.val) = true → (s.adc a.val).phase = .converting → ((s.adc a.val).smp2 + 42 ≤ 2 * s.now + 1) → (s.adc a.val).job.kind = 0 → (s.adc a.val).job.drop = true → ((s.seq (a.val / 8)).wait ≠ [] ∨ (s.seq (a.val / 8)).groups ≠ []) → ∃ t, exec (.adcEoc a) s = .next t ∧ t.rd Reg.ADC_STATUS.BUSY a.val = 0 ∧ (t.adc a.val).phase = .idle ∧ (∀ k, k ≠ a.val → t.adc k = s.adc k) ∧
      OnlyRegs s { t with adcs := s.adcs } [Reg.ADC_STATUS.BUSY.key a.val 0]) ∧
  (∀ (a : Fin 32) (s : State) (x : SeqEnt), s.present (islAdc a.val) = true → (s.adc a.val).phase = .converting → ((s.adc a.val).smp2 + 42 ≤ 2 * s.now + 1) → (s.adc a.val).job.kind = 0 → (s.adc a.val).job.drop = false → (s.adc a.val).job.step = 1 → s.slotFree a.val 0 = false → s.slotFree a.val 1 = false → ∃ t, exec (.adcEoc a) s = .next t ∧ (t.adc a.val).phase = .acquiring ∧ (t.adc a.val).job.step = 2 ∧
      (t.adc a.val).down = (s.correct a.val (rawCode (s.adc a.val).nv)).1 ∧ OnlyRegs s { t with adcs := s.adcs } [Reg.ADC_STATUS.BUSY.key a.val 0]) ∧
  (∀ (a : Fin 32) (s : State), s.present (islAdc a.val) = true → (s.adc a.val).phase = .converting → ((s.adc a.val).smp2 + 42 ≤ 2 * s.now + 1) → ((s.adc a.val).job.kind = 0 → exec (.adcEoc a) s = .next (s.eocSeq a.val (s.adc a.val))) ∧
      ((s.adc a.val).job.kind = 1 → exec (.adcEoc a) s = .next (s.eocInj a.val (s.adc a.val))) ∧
      ((s.adc a.val).job.kind = 2 → exec (.adcEoc a) s = .next (s.eocPair a.val (s.adc a.val))))

/-- Injected slots and the calibration of a converter (INJ_ENABLE, INJ_TRIGGER, SWTRIG, INJ_SLOT_START, ADC_EOC of a slot,
CAL_START, ADC_CAL_BEGIN, ADC_CAL_DONE). Enabling a slot sets EN where the converter's claim allows it, and is else refused as a
claim conflict. A trigger on a pending slot is a miss, on a disabled slot nothing; on an enabled idle slot it makes the slot
pending; of two routes that reach both slots in one tick, that of J0 acts first. A pending slot whose converter may start begins
its acquisition. The end of an injected conversion that is not sent to Cedar puts its result word in ADC_LAST and ADC_INJ_RES,
frees the converter and writes no other register. CAL_START is refused with CAL_ERR for a converter that an enabled stage claims,
and else requests a calibration, which begins, BUSY, once nothing runs and 18,432 ticks later ends with CAL_DONE: with CAL_ERR and
the old trims where the trims would leave their range, else with the new trims. It rests on the model's choices of log entries 2,
11, 38. -/
def Obligations.InjectedAndCalibration : Prop :=
  (∀ (m : Master) (a : Fin 32) (k : Fin 2) (s : State), s.ready (Reg.ADC_INJ.EN.addr a.val k.val) = true → s.claimBlock (s.injOwner a.val) [0x200 + a.val] = none → ∃ t, exec (.injEnable m a k) s = .next t ∧ t.rd Reg.ADC_INJ.EN a.val k.val = 1 ∧ t.mem = s.mem ∧
      OnlyRegs s t [Reg.ADC_INJ.EN.key a.val k.val, Reg.CLAIM.STATE.key (0x200 + a.val) 0, Reg.CLAIM.OWNER.key (0x200 + a.val) 0]) ∧
  (∀ (m : Master) (a : Fin 32) (k : Fin 2) (s : State), s.ready (Reg.ADC_INJ.EN.addr a.val k.val) = true → s.claimBlock (s.injOwner a.val) [0x200 + a.val] = some (0x200 + a.val) → ∃ t, exec (.injEnable m a k) s = .next t ∧ t.rd Reg.CLM_STATUS.CONFLICT = 1 ∧ t.rd Reg.CLM_LAST.RES_ID = 0x200 + a.val ∧
      OnlyRegs s t [Reg.CLM_STATUS.CONFLICT.key 0 0, Reg.CLM_STATUS.CONFLICT_CNT.key 0 0, Reg.CLM_LAST.RES_ID.key 0 0, Reg.CLM_LAST.REQUESTER.key 0 0, Reg.CLM_LAST.OWNER.key 0 0]) ∧
  (∀ (m : Master) (a : Fin 32) (k : Fin 2) (s : State), s.ready (Reg.ADC_CTRL.SWTRIG_J0.addr a.val 0) = true → (s.on (injPend k.val) a.val = true → ∃ t, exec (.swtrig m a k) s = .next t ∧ t.rd Reg.ADC_STATUS.TRIG_MISS a.val = 1 ∧
      OnlyRegs s t [Reg.ADC_STATUS.TRIG_MISS.key a.val 0, Reg.ADC_STATUS.MISS_CNT.key a.val 0]) ∧
      (s.on (injPend k.val) a.val = false → s.on Reg.ADC_INJ.EN a.val k.val = false → ∃ t, exec (.swtrig m a k) s = .next t ∧ OnlyRegs s t []) ∧
      (s.on (injPend k.val) a.val = false → s.on Reg.ADC_INJ.EN a.val k.val = true → s.paired a.val = false → s.rsUses a.val = false →
      s.rd Reg.ADC_STATUS.CAL_ST a.val = 0 → (s.adc a.val).phase = .idle →
      ∃ t, exec (.swtrig m a k) s = .next t ∧ t.rd (injPend k.val) a.val = 1 ∧ OnlyRegs s t [(injPend k.val).key a.val 0])) ∧
  (∀ (a : Fin 32) (k : Fin 2) (s : State), (s.pulseAt (injTarget a.val k.val)).isSome = true → s.present (islAdc a.val) = true → ((k.val = 0 ∨ s.pulseAt (injTarget a.val 0) ≠ s.pulseAt (injTarget a.val 1)) →
      exec (.injTrigger a k) s = .next ((s.takePulse (injTarget a.val k.val)).injTrig a.val k.val)) ∧
      ((k.val = 1 ∧ s.pulseAt (injTarget a.val 0) = s.pulseAt (injTarget a.val 1)) →
      exec (.injTrigger a k) s = .next ((((s.takePulse (injTarget a.val 0)).injTrig a.val 0).takePulse (injTarget a.val 1)).injTrig a.val 1))) ∧
  (∀ (a : Fin 32) (k : Fin 2) (s : State), s.present (islAdc a.val) = true → s.slotReady a.val k.val = true → ∃ t, exec (.injSlotStart a k) s = .next t ∧ t.rd (injPend k.val) a.val = 0 ∧ t.rd Reg.ADC_STATUS.BUSY a.val = 1 ∧ (t.adc a.val).phase = .acquiring ∧
      (t.adc a.val).job.kind = 1 ∧ (t.adc a.val).job.src = k.val ∧ OnlyRegs s { t with adcs := s.adcs } [(injPend k.val).key a.val 0, Reg.ADC_STATUS.BUSY.key a.val 0]) ∧
  (∀ (a : Fin 32) (s : State) (r : AdcS) (v : Nat) (clip : Bool), s.present (islAdc a.val) = true → s.adc a.val = r → r.phase = .converting → (r.smp2 + 42 ≤ 2 * s.now + 1) → r.job.kind = 1 → s.on Reg.ADC_INJ.CEDAR a.val r.job.src = false → s.correct a.val (rawCode r.nv) = (v, clip) → r.owNext = none → ∃ t, exec (.adcEoc a) s = .next t ∧ t.rd Reg.ADC_LAST.WORD a.val = resultWord false clip r.job.src 1 r.job.ain v % 4294967296 ∧
      t.rd Reg.ADC_INJ_RES.WORD a.val r.job.src = resultWord false clip r.job.src 1 r.job.ain v % 4294967296 ∧ t.rd Reg.ADC_STATUS.BUSY a.val = 0 ∧
      (t.adc a.val).phase = .idle ∧ OnlyRegs s { t with adcs := s.adcs } [Reg.ADC_STATUS.BUSY.key a.val 0, Reg.ADC_STATUS.CLIP.key a.val 0,
      Reg.ADC_LAST.WORD.key a.val 0, Reg.ADC_INJ_RES.WORD.key a.val r.job.src]) ∧
  (∀ (m : Master) (a : Fin 32) (s : State), s.ready (Reg.ADC_CTRL.CAL_START.addr a.val 0) = true → ((s.claimedByEnabled (0x200 + a.val) || s.paired a.val || s.rsUses a.val) = true → ∃ t, exec (.calStart m a) s = .next t ∧
      t.rd Reg.ADC_STATUS.CAL_ERR a.val = 1 ∧ OnlyRegs s t [Reg.ADC_STATUS.CAL_ERR.key a.val 0]) ∧
      ((s.claimedByEnabled (0x200 + a.val) || s.paired a.val || s.rsUses a.val) = false → s.rd Reg.ADC_STATUS.CAL_ST a.val = 0 →
      ∃ t, exec (.calStart m a) s = .next t ∧ t.rd Reg.ADC_STATUS.CAL_ST a.val = 1 ∧ (t.adc a.val).pre0 = s.on Reg.ADC_STATUS.J0_PEND a.val ∧
      OnlyRegs s { t with adcs := s.adcs } [Reg.ADC_STATUS.CAL_ST.key a.val 0, Reg.ADC_CTRL.CAL_START.key a.val 0])) ∧
  (∀ (a : Fin 32) (s : State), s.rd Reg.ADC_STATUS.CAL_ST a.val = 1 → s.adcIdle a.val = true → (s.adc a.val).pre0 = false → (s.adc a.val).pre1 = false → ∃ t, exec (.adcCalBegin a) s = .next t ∧ t.rd Reg.ADC_STATUS.CAL_ST a.val = 2 ∧ t.adc a.val = { s.adc a.val with calAt := s.now } ∧
      t.rd Reg.ADC_STATUS.BUSY a.val = 1 ∧ OnlyRegs s { t with adcs := s.adcs } [Reg.ADC_STATUS.CAL_ST.key a.val 0, Reg.ADC_STATUS.BUSY.key a.val 0]) ∧
  (∀ (a : Fin 32) (lo hi : Nat) (s : State), s.rd Reg.ADC_STATUS.CAL_ST a.val = 2 → ((s.adc a.val).calAt + 18432 ≤ s.now) → calTrims ((lo : Rat) / 256) ((hi : Rat) / 256) = none → ∃ t, exec (.adcCalDone a lo hi) s = .next t ∧ t.rd Reg.ADC_STATUS.CAL_DONE a.val = 1 ∧ t.rd Reg.ADC_STATUS.BUSY a.val = 0 ∧ t.rd Reg.ADC_STATUS.CAL_ERR a.val = 1 ∧ t.rd Reg.ADC_STATUS.CAL_ST a.val = 0 ∧
      OnlyRegs s t [Reg.ADC_STATUS.CAL_DONE.key a.val 0, Reg.ADC_STATUS.CAL_ERR.key a.val 0, Reg.ADC_STATUS.CAL_ST.key a.val 0, Reg.ADC_CTRL.CAL_START.key a.val 0, Reg.ADC_STATUS.INJ_HELD.key a.val 0, Reg.ADC_STATUS.BUSY.key a.val 0]) ∧
  (∀ (a : Fin 32) (lo hi : Nat) (s : State) (g o : Int), s.rd Reg.ADC_STATUS.CAL_ST a.val = 2 → ((s.adc a.val).calAt + 18432 ≤ s.now) → calTrims ((lo : Rat) / 256) ((hi : Rat) / 256) = some (g, o) → s.on Reg.ADC_CTRL.CAL_STORE a.val = false → ∃ t, exec (.adcCalDone a lo hi) s = .next t ∧ t.rd Reg.ADC_STATUS.CAL_DONE a.val = 1 ∧ t.rd Reg.ADC_STATUS.BUSY a.val = 0 ∧ t.rd Reg.ADC_TRIM.GAIN_TRIM a.val = uns 16 g % 2 ^ 16 ∧
      t.rd Reg.ADC_TRIM.OFS_TRIM a.val = uns 16 o % 2 ^ 16 ∧
      OnlyRegs s t [Reg.ADC_TRIM.GAIN_TRIM.key a.val 0, Reg.ADC_TRIM.OFS_TRIM.key a.val 0, Reg.ADC_STATUS.CAL_DONE.key a.val 0, Reg.ADC_STATUS.CAL_ST.key a.val 0,
      Reg.ADC_CTRL.CAL_START.key a.val 0, Reg.ADC_STATUS.INJ_HELD.key a.val 0, Reg.ADC_STATUS.BUSY.key a.val 0])

/-- Interleaved pairs are armed and run bursts (ARM, PAIR_BURST_TRIGGER, PAIR_SWSTART, PAIR_BURST_DONE, ADC_EOC of a pair). Each
of these commands completes. ARM with IL_EN = 0 is refused and sets ERR (its ERR_CODE 0 is the model's choice, log entry 38); an
armed pair is left as it is; without blocks or past block 63 it is refused with ERR_CODE 2; where its claims are free the pair
arms. A burst start during a burst or a calibration sets MISS, armed or not; on an idle pair that is not armed it writes nothing;
with a length of 0 or beyond its blocks it is refused with ERR_CODE 1; else it sets RUNNING and begins to acquire on both
converters. A route pulse that has arrived does the same and is used up. The last sample of a burst sets DONE, clears RUNNING and
notes CONT for the next tick. The end of a pair sample stores its result word at word i of the pair's blocks and to no other byte
of memory. It rests on the model's choices of log entries 2, 11, 38. -/
def Obligations.InterleavedPairs : Prop :=
  (∀ (m : Master) (k : Fin 16) (s : State), s.ready (Reg.IL_CTRL.ARM.addr k.val 0) = true → s.on Reg.IL_CTRL.ARM k.val = false → s.on Reg.IL_CTRL.IL_EN k.val = true → (s.rd Reg.IL_CTRL.IL_BLKS k.val = 0 ∨ 64 < s.rd Reg.IL_CTRL.IL_BASE k.val + s.rd Reg.IL_CTRL.IL_BLKS k.val) → ∃ t, exec (.ilArm m k) s = .next t ∧ t.rd Reg.IL_FLAGS.ERR k.val = 1 ∧ t.rd Reg.IL_FLAGS.ERR_CODE k.val = 2 ∧
      OnlyRegs s t [Reg.IL_FLAGS.ERR.key k.val 0, Reg.IL_FLAGS.ERR_CODE.key k.val 0]) ∧
  (∀ (m : Master) (k : Fin 16) (s : State), s.ready (Reg.IL_CTRL.ARM.addr k.val 0) = true → s.on Reg.IL_CTRL.IL_EN k.val = true → s.on Reg.IL_CTRL.ARM k.val = true → ∃ t, exec (.ilArm m k) s = .next t ∧ OnlyRegs s t []) ∧
  (∀ (m : Master) (k : Fin 16) (s : State), s.ready (Reg.IL_CTRL.ARM.addr k.val 0) = true → s.on Reg.IL_CTRL.IL_EN k.val = false → ∃ t, exec (.ilArm m k) s = .next t ∧ t.rd Reg.IL_FLAGS.ERR k.val = 1 ∧ t.rd Reg.IL_FLAGS.ERR_CODE k.val = 0 ∧
      OnlyRegs s t [Reg.IL_FLAGS.ERR.key k.val 0, Reg.IL_FLAGS.ERR_CODE.key k.val 0]) ∧
  (∀ (m : Master) (k : Fin 16) (s : State) (o : Nat), s.ready (Reg.IL_CTRL.ARM.addr k.val 0) = true → s.on Reg.IL_CTRL.ARM k.val = false → s.on Reg.IL_CTRL.IL_EN k.val = true → (1 ≤ s.rd Reg.IL_CTRL.IL_BLKS k.val) → (s.rd Reg.IL_CTRL.IL_BASE k.val + s.rd Reg.IL_CTRL.IL_BLKS k.val ≤ 64) → s.pairOwner k.val = some o → s.claimBlock o ([0x200 + 2 * k.val, 0x201 + 2 * k.val] ++ (List.range (s.rd Reg.IL_CTRL.IL_BLKS k.val)).map fun b => 0x800 + s.rd Reg.IL_CTRL.IL_BASE k.val + b) = none → ∃ t, exec (.ilArm m k) s = .next t ∧ t.rd Reg.IL_CTRL.ARM k.val = 1 ∧ t.mem = s.mem) ∧
  (∀ (m : Master) (k : Fin 16) (s : State), s.ready (Reg.IL_CTRL.SWSTART.addr k.val 0) = true → ((s.on Reg.IL_FLAGS.RUNNING k.val = true ∨ s.rd Reg.IL_FLAGS.CAL_ST k.val ≠ 0) → ∃ t, exec (.pairSwstart m k) s = .next t ∧
      t.rd Reg.IL_FLAGS.MISS k.val = 1 ∧ OnlyRegs s t [Reg.IL_FLAGS.MISS.key k.val 0]) ∧
      (s.on Reg.IL_FLAGS.RUNNING k.val = false → s.rd Reg.IL_FLAGS.CAL_ST k.val = 0 → s.on Reg.IL_CTRL.ARM k.val = false →
      ∃ t, exec (.pairSwstart m k) s = .next t ∧ OnlyRegs s t []) ∧
      (s.on Reg.IL_CTRL.ARM k.val = true → s.on Reg.IL_FLAGS.RUNNING k.val = false → s.rd Reg.IL_FLAGS.CAL_ST k.val = 0 →
      (s.rd Reg.IL_BURST.BURST k.val = 0 ∨ s.rd Reg.IL_CTRL.IL_BLKS k.val * 1024 < s.rd Reg.IL_BURST.BURST k.val) →
      ∃ t, exec (.pairSwstart m k) s = .next t ∧ t.rd Reg.IL_FLAGS.ERR k.val = 1 ∧ t.rd Reg.IL_FLAGS.ERR_CODE k.val = 1 ∧
      OnlyRegs s t [Reg.IL_FLAGS.ERR.key k.val 0, Reg.IL_FLAGS.ERR_CODE.key k.val 0])) ∧
  (∀ (m : Master) (k : Fin 16) (s : State), s.ready (Reg.IL_CTRL.SWSTART.addr k.val 0) = true → s.on Reg.IL_CTRL.ARM k.val = true → s.on Reg.IL_FLAGS.RUNNING k.val = false → s.rd Reg.IL_FLAGS.CAL_ST k.val = 0 → (2 ≤ s.rd Reg.IL_BURST.BURST k.val) → (s.rd Reg.IL_BURST.BURST k.val ≤ s.rd Reg.IL_CTRL.IL_BLKS k.val * 1024) → ∃ t, exec (.pairSwstart m k) s = .next t ∧ t.rd Reg.IL_FLAGS.RUNNING k.val = 1 ∧ t.rd Reg.IL_STATUS.COUNT k.val = 0 ∧
      (t.pair k.val).len = s.rd Reg.IL_BURST.BURST k.val ∧ (t.adc (2 * k.val)).phase = .acquiring ∧ (t.adc (2 * k.val + 1)).phase = .acquiring ∧
      OnlyRegs s { t with adcs := s.adcs, pairs := s.pairs } [Reg.IL_FLAGS.RUNNING.key k.val 0, Reg.IL_STATUS.COUNT.key k.val 0,
      Reg.ADC_STATUS.BUSY.key (2 * k.val) 0, Reg.ADC_STATUS.BUSY.key (2 * k.val + 1) 0]) ∧
  (∀ (k : Fin 16) (s : State), (s.pulseAt (pairTarget k.val)).isSome = true → s.present (0x13 + k.val / 4) = true → exec (.pairBurstTrigger k) s = .next ((s.takePulse (pairTarget k.val)).burstStart k.val)) ∧
  (∀ (k : Fin 16) (s : State), s.on Reg.IL_FLAGS.RUNNING k.val = true → ((s.pair k.val).len ≤ s.rd Reg.IL_STATUS.COUNT k.val) → ∃ t, exec (.pairBurstDone k) s = .next t ∧ t.rd Reg.IL_FLAGS.RUNNING k.val = 0 ∧ t.rd Reg.IL_FLAGS.DONE k.val = 1 ∧
      t.pair k.val = { s.pair k.val with again := s.on Reg.IL_CTRL.CONT k.val } ∧ (∀ n, n ≠ k.val → t.pair n = s.pair n) ∧
      OnlyRegs s { t with pairs := s.pairs } [Reg.IL_FLAGS.RUNNING.key k.val 0, Reg.IL_FLAGS.DONE.key k.val 0]) ∧
  (∀ (a : Fin 32) (s : State) (r : AdcS) (v : Nat) (clip : Bool), s.present (islAdc a.val) = true → s.adc a.val = r → r.phase = .converting → (r.smp2 + 42 ≤ 2 * s.now + 1) → r.job.kind = 2 → s.correct a.val (rawCode r.nv) = (v, clip) → ∃ t, exec (.adcEoc a) s = .next t ∧
      t.mem = (s.setWord (0x49000000 + s.rd Reg.IL_CTRL.IL_BASE (a.val / 2) * 0x1000 + 4 * r.job.src) (resultWord false clip (a.val % 2) 2 r.job.ain v)).mem ∧
      (∀ b, (b < 0x49000000 + s.rd Reg.IL_CTRL.IL_BASE (a.val / 2) * 0x1000 + 4 * r.job.src ∨
      0x49000000 + s.rd Reg.IL_CTRL.IL_BASE (a.val / 2) * 0x1000 + 4 * r.job.src + 4 ≤ b) → t.byte b = s.byte b))

/-- The calibration of an interleaved pair is requested, begins and ends (PAIR_CAL, PAIR_CAL_BEGIN, PAIR_CAL_DONE). Each of these
commands completes. PAIR_CAL is refused with PAIR_ERR while an enabled stage claims the pair; on an idle pair it waits with CAL_ST
1; while a calibration waits or runs it writes nothing. A waiting calibration begins when no burst runs: CAL_ST 2, both converters
BUSY, the odd converter's gain and offset saved and set to 0. At its end both converters are free, CAL_ST is 0 and DONE is set,
with the new trims where they are in their ranges, and else with the saved trims and PAIR_ERR. It rests on the model's choices of
log entries 2, 11. -/
def Obligations.PairCalibration : Prop :=
  (∀ (m : Master) (k : Fin 16) (s : State), s.ready (Reg.IL_CTRL.PAIR_CAL.addr k.val 0) = true → (s.claimedByEnabled (0x200 + 2 * k.val) = true → ∃ t, exec (.pairCal m k) s = .next t ∧ t.rd Reg.IL_FLAGS.PAIR_ERR k.val = 1 ∧
      OnlyRegs s t [Reg.IL_FLAGS.PAIR_ERR.key k.val 0]) ∧
      (s.claimedByEnabled (0x200 + 2 * k.val) = false → s.rd Reg.IL_FLAGS.CAL_ST k.val = 0 → ∃ t, exec (.pairCal m k) s = .next t ∧
      t.rd Reg.IL_FLAGS.CAL_ST k.val = 1 ∧ OnlyRegs s t [Reg.IL_FLAGS.CAL_ST.key k.val 0, Reg.IL_CTRL.PAIR_CAL.key k.val 0]) ∧
      (s.claimedByEnabled (0x200 + 2 * k.val) = false → s.rd Reg.IL_FLAGS.CAL_ST k.val ≠ 0 → ∃ t, exec (.pairCal m k) s = .next t ∧ OnlyRegs s t [])) ∧
  (∀ (k : Fin 16) (s : State), s.rd Reg.IL_FLAGS.CAL_ST k.val = 1 → s.rd Reg.IL_FLAGS.RUNNING k.val = 0 → ∃ t, exec (.pairCalBegin k) s = .next t ∧ t.rd Reg.IL_FLAGS.CAL_ST k.val = 2 ∧ t.rd Reg.ADC_TRIM.GAIN_TRIM (2 * k.val + 1) = 0 ∧
      t.rd Reg.ADC_TRIM.OFS_TRIM (2 * k.val + 1) = 0 ∧ t.rd Reg.ADC_STATUS.BUSY (2 * k.val) = 1 ∧ t.rd Reg.ADC_STATUS.BUSY (2 * k.val + 1) = 1 ∧
      (t.pair k.val).saved = (s.rd Reg.ADC_TRIM.GAIN_TRIM (2 * k.val + 1), s.rd Reg.ADC_TRIM.OFS_TRIM (2 * k.val + 1), s.rd Reg.ADC_SKEW.SKEW_TRIM (2 * k.val + 1)) ∧
      OnlyRegs s { t with pairs := s.pairs } [Reg.IL_FLAGS.CAL_ST.key k.val 0, Reg.ADC_TRIM.GAIN_TRIM.key (2 * k.val + 1) 0, Reg.ADC_TRIM.OFS_TRIM.key (2 * k.val + 1) 0, Reg.ADC_STATUS.BUSY.key (2 * k.val) 0, Reg.ADC_STATUS.BUSY.key (2 * k.val + 1) 0]) ∧
  (∀ (k : Fin 16) (eLo eHi oLo oHi : Nat) (ramp : List Int) (s : State) (g o w : Nat), s.rd Reg.IL_FLAGS.CAL_ST k.val = 2 → (s.pair k.val).saved = (g, o, w) → oHi = oLo → ∃ t, exec (.pairCalDone k eLo eHi oLo oHi ramp) s = .next t ∧ t.rd Reg.IL_FLAGS.PAIR_ERR k.val = 1 ∧ t.rd Reg.IL_FLAGS.DONE k.val = 1 ∧ t.rd Reg.IL_FLAGS.CAL_ST k.val = 0 ∧ t.rd Reg.ADC_STATUS.BUSY (2 * k.val) = 0 ∧ t.rd Reg.ADC_STATUS.BUSY (2 * k.val + 1) = 0 ∧
      t.rd Reg.ADC_TRIM.GAIN_TRIM (2 * k.val + 1) = g % 65536 ∧ t.rd Reg.ADC_TRIM.OFS_TRIM (2 * k.val + 1) = o % 65536 ∧ t.rd Reg.ADC_SKEW.SKEW_TRIM (2 * k.val + 1) = w % 256 ∧
      OnlyRegs s t [Reg.IL_FLAGS.PAIR_ERR.key k.val 0, Reg.IL_FLAGS.DONE.key k.val 0, Reg.IL_FLAGS.CAL_ST.key k.val 0, Reg.IL_CTRL.PAIR_CAL.key k.val 0,
      Reg.ADC_TRIM.GAIN_TRIM.key (2 * k.val + 1) 0, Reg.ADC_TRIM.OFS_TRIM.key (2 * k.val + 1) 0, Reg.ADC_SKEW.SKEW_TRIM.key (2 * k.val + 1) 0, Reg.ADC_STATUS.BUSY.key (2 * k.val) 0, Reg.ADC_STATUS.BUSY.key (2 * k.val + 1) 0]) ∧
  (∀ (k : Fin 16) (eLo eHi oLo oHi : Nat) (ramp : List Int) (s : State) (g f sk : Int), s.rd Reg.IL_FLAGS.CAL_ST k.val = 2 → pairTrims ((eLo : Rat) / 256) ((eHi : Rat) / 256) ((oLo : Rat) / 256) ((oHi : Rat) / 256) = some (g, f) → skewPasses 4 (max (-127) (s.rdI Reg.ADC_SKEW.SKEW_TRIM (2 * k.val + 1))) (ramp.take 4) = some sk → (-127 ≤ sk) → (sk ≤ 127) → s.on Reg.IL_CTRL.CAL_STORE k.val = false → ∃ t, exec (.pairCalDone k eLo eHi oLo oHi ramp) s = .next t ∧ t.rd Reg.IL_FLAGS.DONE k.val = 1 ∧ t.rd Reg.IL_FLAGS.CAL_ST k.val = 0 ∧ t.rd Reg.ADC_STATUS.BUSY (2 * k.val) = 0 ∧ t.rd Reg.ADC_STATUS.BUSY (2 * k.val + 1) = 0 ∧
      t.rd Reg.ADC_TRIM.GAIN_TRIM (2 * k.val + 1) = uns 16 g % 65536 ∧ t.rd Reg.ADC_TRIM.OFS_TRIM (2 * k.val + 1) = uns 16 f % 65536 ∧
      t.rd Reg.ADC_SKEW.SKEW_TRIM (2 * k.val + 1) = uns 8 sk % 256 ∧
      OnlyRegs s t [Reg.IL_FLAGS.DONE.key k.val 0, Reg.IL_FLAGS.CAL_ST.key k.val 0, Reg.IL_CTRL.PAIR_CAL.key k.val 0,
      Reg.ADC_TRIM.GAIN_TRIM.key (2 * k.val + 1) 0, Reg.ADC_TRIM.OFS_TRIM.key (2 * k.val + 1) 0, Reg.ADC_SKEW.SKEW_TRIM.key (2 * k.val + 1) 0, Reg.ADC_STATUS.BUSY.key (2 * k.val) 0, Reg.ADC_STATUS.BUSY.key (2 * k.val + 1) 0])

/-- Isolated channels give outputs, overload, are enabled and calibrated (ISO_OUTPUT, ISO_OVERLOAD, ISO_OVERLOAD_END, ISO_ENABLE,
ISO_CAL_START, ISO_CAL_DONE). An output of a channel that runs, enabled or under calibration, with as many modulator bits as its
decimation ratio and due, writes the result word of the sinc3 sum of the bits with its flags, VALID, REASON and SETTLE; a channel
that neither is enabled nor calibrates gives none. An overload starts and ends without writing a register. Enabling takes the
channel where its claim allows it and, but under a calibration, restarts its output count; disabling clears EN and VALID, but is
denied on a channel that the image gives to Rowan. CAL_START is refused with CAL_ERR where an enabled stage claims the channel and
else begins a calibration at ratio 256, which ends after 134 outputs: with CAL_DONE and the new trims, or with CAL_ERR alone and
the old trims where the new ones would leave their range; the channel then counts afresh at its own ratio. It rests on the model's
choices of log entries 2, 11. -/
def Obligations.IsolatedChannels : Prop :=
  (∀ (c : Fin 8) (bits : List Bool) (s : State), s.present islISF = true → s.isoRuns c.val = true → bits.length = 2 ^ (4 + (s.iso c.val).dec) → ((s.iso c.val).base + isoPeriod (s.iso c.val).dec ≤ s.now) → exec (.isoOutput c bits) s = .next (s.isoEmit c.val bits) ∧ (s.isoEmit c.val bits).mem = s.mem) ∧
  (∀ (c : Fin 8) (bits : List Bool) (s : State) (code : Int) (clamp : Bool), s.present islISF = true → s.isoRuns c.val = true → bits.length = 2 ^ (4 + (s.iso c.val).dec) → ((s.iso c.val).base + isoPeriod (s.iso c.val).dec ≤ s.now) → s.isoCode c.val (2 ^ (4 + (s.iso c.val).dec)) (sincSum (2 ^ (4 + (s.iso c.val).dec)) ((bits.reverse ++ (s.iso c.val).bits).take (3 * (2 ^ (4 + (s.iso c.val).dec))))) = (code, clamp) → ∃ t, exec (.isoOutput c bits) s = .next t ∧
      t.rd Reg.ISO_RESULT.WORD c.val = isoWord (s.isoReason c.val ≠ 0) (clamp || (s.iso c.val).ovl) (0 < (s.iso c.val).settle) c.val code % 4294967296 ∧
      t.rd Reg.ISO_STATUS.REASON c.val = s.isoReason c.val % 8 ∧ t.rd Reg.ISO_STATUS.VALID c.val = b2n (s.isoReason c.val == 0) ∧
      RegsBut s t [Reg.ISO_RESULT.WORD.key c.val 0, Reg.ISO_UV.UV.key c.val 0, Reg.ISO_STATUS.REASON.key c.val 0, Reg.ISO_STATUS.SETTLE.key c.val 0,
      Reg.ISO_STATUS.VALID.key c.val 0, Reg.ISO_STATUS.OVR.key c.val 0, Reg.ISO_STATUS.OVR_CNT.key c.val 0]) ∧
  (∀ (c : Fin 8) (bits : List Bool) (s : State), (s.isoRuns c.val = false ∨ bits.length ≠ 2 ^ (4 + (s.iso c.val).dec) ∨ s.present islISF = false) → exec (.isoOutput c bits) s = .next s) ∧
  (∀ (c : Fin 8) (s : State), (∃ t, exec (.isoOverload c) s = .next t ∧ t.iso c.val = { s.iso c.val with ovl := true } ∧ (∀ k, k ≠ c.val → t.iso k = s.iso k) ∧ OnlyRegs s { t with isos := s.isos } []) ∧
      (∃ t, exec (.isoOverloadEnd c) s = .next t ∧ t.iso c.val = { s.iso c.val with ovl := false } ∧ (∀ k, k ≠ c.val → t.iso k = s.iso k) ∧ OnlyRegs s { t with isos := s.isos } [])) ∧
  (∀ (m : Master) (c : Fin 8) (s : State) (o : Nat), s.ready (Reg.ISO_CTRL.EN.addr c.val 0) = true → s.on Reg.ISO_CTRL.EN c.val = false → (s.rd Reg.ISO_STATUS.CAL_ST c.val ≠ 1) → o = (if s.claimState (0x400 + c.val) = 0 then 0x2A else s.claimOwner (0x400 + c.val)) → s.claimBlock o [0x400 + c.val] = none → ∃ t, exec (.isoEnable m c true) s = .next t ∧ t.rd Reg.ISO_CTRL.EN c.val = 1 ∧ (t.iso c.val).settle = 3 ∧ (t.iso c.val).base = s.now ∧
      OnlyRegs s { t with isos := s.isos } [Reg.ISO_CTRL.EN.key c.val 0, Reg.CLAIM.STATE.key (0x400 + c.val) 0, Reg.CLAIM.OWNER.key (0x400 + c.val) 0]) ∧
  (∀ (m : Master) (c : Fin 8) (s : State), s.ready (Reg.ISO_CTRL.EN.addr c.val 0) = true → (s.isoOfRowan c.val = true → ∃ t, exec (.isoEnable m c false) s = .next t ∧ t.rd Reg.ISO_STATUS.EN_DENIED c.val = 1 ∧
      OnlyRegs s t [Reg.ISO_STATUS.EN_DENIED.key c.val 0]) ∧
      (s.isoOfRowan c.val = false → ∃ t, exec (.isoEnable m c false) s = .next t ∧ t.rd Reg.ISO_CTRL.EN c.val = 0 ∧ t.rd Reg.ISO_STATUS.VALID c.val = 0 ∧
      OnlyRegs s t [Reg.ISO_CTRL.EN.key c.val 0, Reg.ISO_STATUS.VALID.key c.val 0, Reg.CLAIM.STATE.key (0x400 + c.val) 0, Reg.CLAIM.OWNER.key (0x400 + c.val) 0])) ∧
  (∀ (m : Master) (c : Fin 8) (s : State), s.ready (Reg.ISO_CTRL.CAL_START.addr c.val 0) = true → ((s.claimedByEnabled (0x400 + c.val) || (s.claimState (0x400 + c.val) ≠ 0 && s.claimOwner (0x400 + c.val) == 0x28 && s.safeEnabled)) = true →
      ∃ t, exec (.isoCalStart m c) s = .next t ∧ t.rd Reg.ISO_STATUS.CAL_ERR c.val = 1 ∧ OnlyRegs s t [Reg.ISO_STATUS.CAL_ERR.key c.val 0]) ∧
      ((s.claimedByEnabled (0x400 + c.val) || (s.claimState (0x400 + c.val) ≠ 0 && s.claimOwner (0x400 + c.val) == 0x28 && s.safeEnabled)) = false →
      s.rd Reg.ISO_STATUS.CAL_ST c.val = 0 →
      ∃ t, exec (.isoCalStart m c) s = .next t ∧ t.rd Reg.ISO_STATUS.CAL_ST c.val = 1 ∧ t.iso c.val = { s.iso c.val with base := s.now, settle := 3, bits := [], dec := 4, own := (s.iso c.val).dec, calN := 0, calShort := 0, calRef := 0 } ∧
      OnlyRegs s { t with isos := s.isos } [Reg.ISO_STATUS.CAL_ST.key c.val 0, Reg.ISO_CTRL.CAL_START.key c.val 0])) ∧
  (∀ (c : Fin 8) (s : State), s.rd Reg.ISO_STATUS.CAL_ST c.val = 1 → (134 ≤ (s.iso c.val).calN) → isoTrims (((s.iso c.val).calShort : Rat) / 128) (((s.iso c.val).calRef : Rat) / 128) = none → ∃ t, exec (.isoCalDone c (s.iso c.val).calShort (s.iso c.val).calRef) s = .next t ∧ t.rd Reg.ISO_STATUS.CAL_ERR c.val = 1 ∧ t.rd Reg.ISO_STATUS.CAL_ST c.val = 0 ∧
      (t.iso c.val).dec = (s.iso c.val).own ∧ (t.iso c.val).settle = 3 ∧ (t.iso c.val).base = s.now ∧
      OnlyRegs s { t with isos := s.isos } [Reg.ISO_STATUS.CAL_ERR.key c.val 0, Reg.ISO_STATUS.CAL_ST.key c.val 0, Reg.ISO_CTRL.CAL_START.key c.val 0, Reg.ISO_STATUS.VALID.key c.val 0]) ∧
  (∀ (c : Fin 8) (s : State) (g o : Int), s.rd Reg.ISO_STATUS.CAL_ST c.val = 1 → (134 ≤ (s.iso c.val).calN) → isoTrims (((s.iso c.val).calShort : Rat) / 128) (((s.iso c.val).calRef : Rat) / 128) = some (g, o) → s.on Reg.ISO_CTRL.CAL_STORE c.val = false → ∃ t, exec (.isoCalDone c (s.iso c.val).calShort (s.iso c.val).calRef) s = .next t ∧ t.rd Reg.ISO_STATUS.CAL_DONE c.val = 1 ∧ t.rd Reg.ISO_STATUS.CAL_ST c.val = 0 ∧
      t.rd Reg.ISO_TRIM.GAIN_TRIM c.val = uns 16 g % 65536 ∧ t.rd Reg.ISO_TRIM.OFS_TRIM c.val = uns 16 o % 65536 ∧
      (t.iso c.val).dec = (s.iso c.val).own ∧
      OnlyRegs s { t with isos := s.isos } [Reg.ISO_STATUS.CAL_DONE.key c.val 0, Reg.ISO_STATUS.CAL_ST.key c.val 0, Reg.ISO_CTRL.CAL_START.key c.val 0,
      Reg.ISO_TRIM.GAIN_TRIM.key c.val 0, Reg.ISO_TRIM.OFS_TRIM.key c.val 0, Reg.ISO_STATUS.VALID.key c.val 0])

/-- Arithmetic instructions write their saturated result (ADD, SUB, MUL, MVA, NEG, ABS, MIN, MAX, DIV, MAG, ADDW, MOV, LDI, SEL).
An instruction that its unit is about to execute writes the result of its operation, saturated to 32 bits, to its data register,
marks SAT of its program and SAT_ANY where the value saturated and BAD where it reads a bad input, advances to the next word and
changes nothing else. The root and quotient are rounded as the rules say; ADDW, MOV, LDI and SEL set no SAT. It rests on the
model's choices of log entry 15. -/
def Obligations.CedarArithmetic : Prop :=
  (∀ (u : Fin 8) (p : Fin 4) (w : Nat) (x : Int) (s : State), s.cedAt u.val p.val w = true → wOp w = 0x04 → s.operand u.val (wSa w) + s.operand u.val (wSb w) = x → ∃ t, exec (.cedAdd u) s = .next t ∧ CedDone s t u.val p.val w (decide (satI 32 x ≠ x)) []
      { s.lu u.val with d := SMap.set 0 (s.lu u.val).d (wDst w % 64) (uns 32 (satI 32 x)) }) ∧
  (∀ (u : Fin 8) (p : Fin 4) (w : Nat) (x : Int) (s : State), s.cedAt u.val p.val w = true → wOp w = 0x05 → s.operand u.val (wSa w) - s.operand u.val (wSb w) = x → ∃ t, exec (.cedSub u) s = .next t ∧ CedDone s t u.val p.val w (decide (satI 32 x ≠ x)) []
      { s.lu u.val with d := SMap.set 0 (s.lu u.val).d (wDst w % 64) (uns 32 (satI 32 x)) }) ∧
  (∀ (u : Fin 8) (p : Fin 4) (w : Nat) (x : Int) (s : State), s.cedAt u.val p.val w = true → wOp w = 0x07 → divHalfAway (s.operand u.val (wSa w) * s.operand u.val (wSb w)) (if wAux w % 2 = 1 then 2 ^ 28 else 2 ^ 30) = x → ∃ t, exec (.cedMul u) s = .next t ∧ CedDone s t u.val p.val w (decide (satI 32 x ≠ x)) []
      { s.lu u.val with d := SMap.set 0 (s.lu u.val).d (wDst w % 64) (uns 32 (satI 32 x)) }) ∧
  (∀ (u : Fin 8) (p : Fin 4) (w : Nat) (x : Int) (s : State), s.cedAt u.val p.val w = true → wOp w = 0x09 → s.acc u.val (wAux w % 8) = x → ∃ t, exec (.cedMva u) s = .next t ∧ CedDone s t u.val p.val w (decide (satI 32 x ≠ x)) []
      { s.lu u.val with d := SMap.set 0 (s.lu u.val).d (wDst w % 64) (uns 32 (satI 32 x)) }) ∧
  (∀ (u : Fin 8) (p : Fin 4) (w : Nat) (x : Int) (s : State), s.cedAt u.val p.val w = true → wOp w = 0x0B → wAux w % 2 = 0 → -s.operand u.val (wSa w) = x → ∃ t, exec (.cedNeg u) s = .next t ∧ CedDone s t u.val p.val w (decide (satI 32 x ≠ x)) []
      { s.lu u.val with d := SMap.set 0 (s.lu u.val).d (wDst w % 64) (uns 32 (satI 32 x)) }) ∧
  (∀ (u : Fin 8) (p : Fin 4) (w : Nat) (x : Int) (s : State), s.cedAt u.val p.val w = true → wOp w = 0x0B → wAux w % 2 = 1 → (((s.operand u.val (wSa w)).natAbs : Nat) : Int) = x → ∃ t, exec (.cedAbs u) s = .next t ∧ CedDone s t u.val p.val w (decide (satI 32 x ≠ x)) []
      { s.lu u.val with d := SMap.set 0 (s.lu u.val).d (wDst w % 64) (uns 32 (satI 32 x)) }) ∧
  (∀ (u : Fin 8) (p : Fin 4) (w : Nat) (x : Int) (s : State), s.cedAt u.val p.val w = true → wOp w = 0x0C → wAux w % 2 = 0 → min (s.operand u.val (wSa w)) (s.operand u.val (wSb w)) = x → ∃ t, exec (.cedMin u) s = .next t ∧ CedDone s t u.val p.val w (decide (satI 32 x ≠ x)) []
      { s.lu u.val with d := SMap.set 0 (s.lu u.val).d (wDst w % 64) (uns 32 (satI 32 x)) }) ∧
  (∀ (u : Fin 8) (p : Fin 4) (w : Nat) (x : Int) (s : State), s.cedAt u.val p.val w = true → wOp w = 0x0C → wAux w % 2 = 1 → max (s.operand u.val (wSa w)) (s.operand u.val (wSb w)) = x → ∃ t, exec (.cedMax u) s = .next t ∧ CedDone s t u.val p.val w (decide (satI 32 x ≠ x)) []
      { s.lu u.val with d := SMap.set 0 (s.lu u.val).d (wDst w % 64) (uns 32 (satI 32 x)) }) ∧
  (∀ (u : Fin 8) (p : Fin 4) (w : Nat) (x : Int) (s : State), s.cedAt u.val p.val w = true → wOp w = 0x10 → divQ30 (s.operand u.val (wSa w)) (s.operand u.val (wSb w)) = x → ∃ t, exec (.cedDiv u) s = .next t ∧ CedDone s t u.val p.val w (decide (satI 32 x ≠ x)) []
      { s.lu u.val with d := SMap.set 0 (s.lu u.val).d (wDst w % 64) (uns 32 (satI 32 x)) }) ∧
  (∀ (u : Fin 8) (p : Fin 4) (w : Nat) (x : Int) (s : State), s.cedAt u.val p.val w = true → wOp w = 0x11 → ((roundSqrt ((s.operand u.val (wSa w)) * (s.operand u.val (wSa w)) + (s.operand u.val (wSb w)) * (s.operand u.val (wSb w))).toNat : Nat) : Int) = x → ∃ t, exec (.cedMag u) s = .next t ∧ CedDone s t u.val p.val w (decide (satI 32 x ≠ x)) []
      { s.lu u.val with d := SMap.set 0 (s.lu u.val).d (wDst w % 64) (uns 32 (satI 32 x)) }) ∧
  (∀ (u : Fin 8) (p : Fin 4) (w : Nat) (s : State), s.cedAt u.val p.val w = true → wOp w = 0x06 → ∃ t, exec (.cedAddw u) s = .next t ∧ CedDone s t u.val p.val w (false) []
      { s.lu u.val with d := SMap.set 0 (s.lu u.val).d (wDst w % 64) (uns 32 (s.operand u.val (wSa w) + s.operand u.val (wSb w))) }) ∧
  (∀ (u : Fin 8) (p : Fin 4) (w : Nat) (s : State), s.cedAt u.val p.val w = true → wOp w = 0x02 → ∃ t, exec (.cedMov u) s = .next t ∧ CedDone s t u.val p.val w (false) []
      { s.lu u.val with d := SMap.set 0 (s.lu u.val).d (wDst w % 64) (uns 32 (s.operand u.val (wSa w))) }) ∧
  (∀ (u : Fin 8) (p : Fin 4) (w : Nat) (s : State), s.cedAt u.val p.val w = true → wOp w = 0x03 → ∃ t, exec (.cedLdi u) s = .next t ∧ CedDone s t u.val p.val w (false) []
      { s.lu u.val with d := SMap.set 0 (s.lu u.val).d (wDst w % 64) (wImm w) }) ∧
  (∀ (u : Fin 8) (p : Fin 4) (w : Nat) (s : State), s.cedAt u.val p.val w = true → wOp w = 0x0F → ∃ t, exec (.cedSel u) s = .next t ∧ CedDone s t u.val p.val w (false) []
      { s.lu u.val with d := SMap.set 0 (s.lu u.val).d (wDst w % 64) (uns 32 (s.operand u.val (if (s.lu u.val).p then wSa w else wSb w))) })

/-- Accumulators, predicate, requests, outputs, NOP, END (MAC, CLRA, CMP, TST, REQ, OUT, NOP, END). MAC adds a product rounded to
30 fraction bits to its accumulator, saturated to 48 bits; CLRA clears an accumulator; CMP and TST write the predicate; REQ queues
a request line; OUT writes an output word of the unit; NOP only advances; END ends the run, clears RUNNING and hands its staged
writes to their capture. An instruction that the fetched word does not name, and one whose condition fails, changes nothing of the
unit but the next word. It rests on the model's choices of log entry 15. -/
def Obligations.CedarControlAndAccumulators : Prop :=
  (∀ (u : Fin 8) (p : Fin 4) (w : Nat) (x : Int) (s : State), s.cedAt u.val p.val w = true → wOp w = 0x08 → s.acc u.val (wAux w % 8) + divHalfAway (s.operand u.val (wSa w) * s.operand u.val (wSb w)) (if wAux w / 8 % 2 = 1 then 2 ^ 28 else 2 ^ 30) = x → ∃ t, exec (.cedMac u) s = .next t ∧ CedDone s t u.val p.val w (decide (satI 48 x ≠ x)) []
      { s.lu u.val with acc := SMap.set 0 (s.lu u.val).acc (wAux w % 8) (satI 48 x) }) ∧
  (∀ (u : Fin 8) (p : Fin 4) (w : Nat) (s : State), s.cedAt u.val p.val w = true → wOp w = 0x0A → ∃ t, exec (.cedClra u) s = .next t ∧ CedDone s t u.val p.val w (false) []
      { s.lu u.val with acc := SMap.set 0 (s.lu u.val).acc (wAux w % 8) 0 }) ∧
  (∀ (u : Fin 8) (p : Fin 4) (w : Nat) (s : State), s.cedAt u.val p.val w = true → wOp w = 0x0D → ∃ t, exec (.cedCmp u) s = .next t ∧ CedDone s t u.val p.val w (false) []
      { s.lu u.val with p := cmpOf (wAux w) (s.operand u.val (wSa w)) (s.operand u.val (wSb w)) }) ∧
  (∀ (u : Fin 8) (p : Fin 4) (w : Nat) (s : State), s.cedAt u.val p.val w = true → wOp w = 0x0E → ∃ t, exec (.cedTst u) s = .next t ∧ CedDone s t u.val p.val w (false) []
      { s.lu u.val with p := bitAt (s.lu u.val).bad (wSa w - 0x40) }) ∧
  (∀ (u : Fin 8) (p : Fin 4) (w : Nat) (s : State), s.cedAt u.val p.val w = true → wOp w = 0x21 → ∃ t, exec (.cedReq u) s = .next t ∧ CedDone s t u.val p.val w (false) []
      { s.lu u.val with reqs := (s.lu u.val).reqs ++ [wAux w % 4] }) ∧
  (∀ (u : Fin 8) (p : Fin 4) (w : Nat) (s : State), s.cedAt u.val p.val w = true → wOp w = 0x22 → ∃ t, exec (.cedOut u) s = .next t ∧ t.rd Reg.LU_OUT.OUT u.val (wDst w % 16) = uns 32 (s.operand u.val (wSa w)) ∧
      CedDone s t u.val p.val w (false) [Reg.LU_OUT.OUT.key u.val (wDst w % 16)]
      { s.lu u.val with outw := withBit (s.lu u.val).outw (wDst w % 16) }) ∧
  (∀ (u : Fin 8) (p : Fin 4) (w : Nat) (s : State), s.cedAt u.val p.val w = true → wOp w = 0x00 → ∃ t, exec (.cedNop u) s = .next t ∧ CedDone s t u.val p.val w (false) []
      (s.lu u.val)) ∧
  (∀ (u : Fin 8) (p : Fin 4) (w : Nat) (s : State), s.cedAt u.val p.val w = true → wOp w = 0x01 → s.on Reg.LU_STAT.SWAP_PEND u.val = false → ∃ t, exec (.cedEnd u) s = .next t ∧ t.rd Reg.LU_STAT.RUNNING u.val = 0 ∧ (t.lu u.val).run = none ∧ (t.lu u.val).staged = [] ∧
      (t.lu u.val).rel = (if (s.lu u.val).staged.isEmpty then (s.lu u.val).rel else (s.lu u.val).rel ++ [(s.lu u.val).staged]) ∧
      (∀ v, v ≠ u.val → t.lu v = s.lu v) ∧ RegsBut s t [Reg.LU_STAT.RUNNING.key u.val 0, Reg.LP_STAT.BAD.key u.val p.val] ∧ t.mem = s.mem) ∧
  (∀ (u : Fin 8) (p : Fin 4) (w : Nat) (s : State), s.cedAt u.val p.val w = true → (wOp w ≠ 0x04) → exec (.cedAdd u) s = .next s) ∧
  (∀ (u : Fin 8) (p : Nat) (s : State), (s.lu u.val).run = some p → s.eccBad = [] → wOp (s.num (luBank u.val + 8 * (s.lpAddr u.val p + (s.lu u.val).pc)) 8) = 0x04 → wCond (s.num (luBank u.val + 8 * (s.lpAddr u.val p + (s.lu u.val).pc)) 8) = 1 → (s.lu u.val).p = false → exec (.cedAdd u) s = .next (s.setLu u.val { s.lu u.val with pc := (s.lu u.val).pc + 1 }))

/-- Transforms (SINCOS, CLARKE, ICLARKE, PARK, IPARK, SVM). The transforms write two or three consecutive data registers with the
sine and cosine, the two-axis or three-phase values, the rotated values or the three duties that R194 defines, each rounded once
and saturated; SVM clamps a duty outside 0 to 1.0. SAT is marked where any of the values saturated or was clamped. It rests on the
model's choices of log entry 15. -/
def Obligations.CedarTransforms : Prop :=
  (∀ (u : Fin 8) (p : Fin 4) (w : Nat) (x y : Int) (s : State), s.cedAt u.val p.val w = true → wOp w = 0x12 → divHalfAway (sineAt (thetaOf (s.operand u.val (wSa w)))) 4096 = x → divHalfAway (cosineAt (thetaOf (s.operand u.val (wSa w)))) 4096 = y → ∃ t, exec (.cedSincos u) s = .next t ∧ CedDone s t u.val p.val w (decide (satI 32 x ≠ x) || decide (satI 32 y ≠ y)) []
      { s.lu u.val with d := SMap.set 0 (SMap.set 0 (s.lu u.val).d (wDst w % 64) (uns 32 (satI 32 x))) ((wDst w + 1) % 64) (uns 32 (satI 32 y)) }) ∧
  (∀ (u : Fin 8) (p : Fin 4) (w : Nat) (x y : Int) (s : State), s.cedAt u.val p.val w = true → wOp w = 0x13 → wAux w % 2 = 0 → s.operand u.val (wSa w) = x → roundSqrt3 0 (2 * (s.operand u.val (wSa w) + 2 * s.operand u.val (wSb w))) 3 = y → ∃ t, exec (.cedClarke u) s = .next t ∧ CedDone s t u.val p.val w (decide (satI 32 x ≠ x) || decide (satI 32 y ≠ y)) []
      { s.lu u.val with d := SMap.set 0 (SMap.set 0 (s.lu u.val).d (wDst w % 64) (uns 32 (satI 32 x))) ((wDst w + 1) % 64) (uns 32 (satI 32 y)) }) ∧
  (∀ (u : Fin 8) (p : Fin 4) (w : Nat) (x y : Int) (s : State), s.cedAt u.val p.val w = true → wOp w = 0x13 → wAux w % 2 = 1 → divHalfAway (2 * s.operand u.val (wSa w) - s.operand u.val (wSb w) - s.operand u.val (wSc w)) 3 = x → roundSqrt3 0 (2 * (s.operand u.val (wSb w) - s.operand u.val (wSc w))) 3 = y → ∃ t, exec (.cedClarke u) s = .next t ∧ CedDone s t u.val p.val w (decide (satI 32 x ≠ x) || decide (satI 32 y ≠ y)) []
      { s.lu u.val with d := SMap.set 0 (SMap.set 0 (s.lu u.val).d (wDst w % 64) (uns 32 (satI 32 x))) ((wDst w + 1) % 64) (uns 32 (satI 32 y)) }) ∧
  (∀ (u : Fin 8) (p : Fin 4) (w : Nat) (x y z : Int) (s : State), s.cedAt u.val p.val w = true → wOp w = 0x14 → s.operand u.val (wSa w) = x → roundSqrt3 (-s.operand u.val (wSa w)) (s.operand u.val (wSb w)) 1 = y → roundSqrt3 (-s.operand u.val (wSa w)) (-s.operand u.val (wSb w)) 1 = z → ∃ t, exec (.cedIclarke u) s = .next t ∧ CedDone s t u.val p.val w (decide (satI 32 x ≠ x) || decide (satI 32 y ≠ y) || decide (satI 32 z ≠ z)) []
      { s.lu u.val with d := SMap.set 0 (SMap.set 0 (SMap.set 0 (s.lu u.val).d (wDst w % 64) (uns 32 (satI 32 x))) ((wDst w + 1) % 64) (uns 32 (satI 32 y))) ((wDst w + 2) % 64) (uns 32 (satI 32 z)) }) ∧
  (∀ (u : Fin 8) (p : Fin 4) (w : Nat) (x y : Int) (s : State), s.cedAt u.val p.val w = true → wOp w = 0x15 → divHalfAway (s.operand u.val (wSa w) * cosineAt (thetaOf (s.operand u.val (wSc w))) + s.operand u.val (wSb w) * sineAt (thetaOf (s.operand u.val (wSc w)))) (2 ^ 42) = x → divHalfAway (s.operand u.val (wSb w) * cosineAt (thetaOf (s.operand u.val (wSc w))) - s.operand u.val (wSa w) * sineAt (thetaOf (s.operand u.val (wSc w)))) (2 ^ 42) = y → ∃ t, exec (.cedPark u) s = .next t ∧ CedDone s t u.val p.val w (decide (satI 32 x ≠ x) || decide (satI 32 y ≠ y)) []
      { s.lu u.val with d := SMap.set 0 (SMap.set 0 (s.lu u.val).d (wDst w % 64) (uns 32 (satI 32 x))) ((wDst w + 1) % 64) (uns 32 (satI 32 y)) }) ∧
  (∀ (u : Fin 8) (p : Fin 4) (w : Nat) (x y : Int) (s : State), s.cedAt u.val p.val w = true → wOp w = 0x16 → divHalfAway (s.operand u.val (wSa w) * cosineAt (thetaOf (s.operand u.val (wSc w))) - s.operand u.val (wSb w) * sineAt (thetaOf (s.operand u.val (wSc w)))) (2 ^ 42) = x → divHalfAway (s.operand u.val (wSa w) * sineAt (thetaOf (s.operand u.val (wSc w))) + s.operand u.val (wSb w) * cosineAt (thetaOf (s.operand u.val (wSc w)))) (2 ^ 42) = y → ∃ t, exec (.cedIpark u) s = .next t ∧ CedDone s t u.val p.val w (decide (satI 32 x ≠ x) || decide (satI 32 y ≠ y)) []
      { s.lu u.val with d := SMap.set 0 (SMap.set 0 (s.lu u.val).d (wDst w % 64) (uns 32 (satI 32 x))) ((wDst w + 1) % 64) (uns 32 (satI 32 y)) }) ∧
  (∀ (u : Fin 8) (p : Fin 4) (w : Nat) (x y z : Int) (s : State), s.cedAt u.val p.val w = true → wOp w = 0x19 → (svmDuties (s.operand u.val (wSa w)) (s.operand u.val (wSb w))).getD 0 0 = x → (svmDuties (s.operand u.val (wSa w)) (s.operand u.val (wSb w))).getD 1 0 = y → (svmDuties (s.operand u.val (wSa w)) (s.operand u.val (wSb w))).getD 2 0 = z → ∃ t, exec (.cedSvm u) s = .next t ∧ CedDone s t u.val p.val w (decide (clampI 0 (2 ^ 30) x ≠ x) || decide (clampI 0 (2 ^ 30) y ≠ y) || decide (clampI 0 (2 ^ 30) z ≠ z)) []
      { s.lu u.val with d := SMap.set 0 (SMap.set 0 (SMap.set 0 (s.lu u.val).d (wDst w % 64) ((clampI 0 (2 ^ 30) x).toNat)) ((wDst w + 1) % 64) ((clampI 0 (2 ^ 30) y).toNat)) ((wDst w + 2) % 64) ((clampI 0 (2 ^ 30) z).toNat) })

/-- Control blocks, tables and staged writes (PI, PR, TLU, WRL, WRL_CAPTURE, REQ_PULSE). PI and PR write the limited sum of the
proportional part and the integrator or resonator states, store the states as R195 gives them under conditional integration, mark
LIM where the output was limited and SAT where a value saturated. TLU interpolates between two table entries. WRL stages a write
of a leg, or is discarded with WRL_DISC while field control writes the duties. A capture lands the oldest complete set of staged
writes and drops it; a request pulse takes the oldest request and reaches the routes of kind 0x01. It rests on the model's choices
of log entry 15. -/
def Obligations.CedarBlocksTablesAndOutputs : Prop :=
  (∀ (u : Fin 8) (p : Fin 4) (w b : Nat) (s : State) (e xin inn y : Int) (lim : Bool), s.cedAt u.val p.val w = true → wOp w = 0x17 → b = wAux w % 16 → e = s.operand u.val (wSa w) → sat48At 28 (sgn 48 (s.rd Reg.BLK_S1.S1 u.val b) * 2 ^ 28 + s.coef u.val (128 + 8 * b + 1) * e) = (xin, inn) → s.blkLimit u.val b (divHalfAway (s.coef u.val (128 + 8 * b + 0) * e + xin) (2 ^ 28)) = (y, lim) → ∃ t, exec (.cedPi u) s = .next t ∧
      t.rd Reg.BLK_S1.S1 u.val b = uns 48 (if !s.on Reg.BLK_CTRL.CI u.val b then min (max inn (s.coef u.val (128 + 8 * b + 4) * 4)) (s.coef u.val (128 + 8 * b + 3) * 4)
      else if lim then sgn 48 (s.rd Reg.BLK_S1.S1 u.val b) else inn) ∧
      t.on Reg.BLK_CTRL.LIM u.val b = (s.on Reg.BLK_CTRL.LIM u.val b || lim) ∧
      CedDone s t u.val p.val w (decide (xin ≠ sgn 48 (s.rd Reg.BLK_S1.S1 u.val b) * 2 ^ 28 + s.coef u.val (128 + 8 * b + 1) * e) || decide (satI 32 y ≠ y))
      [Reg.BLK_S1.S1.key u.val b, Reg.BLK_CTRL.LIM.key u.val b]
      { s.lu u.val with d := SMap.set 0 (s.lu u.val).d (wDst w % 64) (uns 32 (satI 32 y)) }) ∧
  (∀ (u : Fin 8) (p : Fin 4) (w b : Nat) (s : State) (e x1 x2 y1 n1 y2 n2 y : Int) (lim : Bool), s.cedAt u.val p.val w = true → wOp w = 0x18 → b = wAux w % 16 → e = s.operand u.val (wSa w) → x1 = sgn 48 (s.rd Reg.BLK_S1.S1 u.val b) * 2 ^ 28 + s.coef u.val (128 + 8 * b + 1) * e - s.coef u.val (128 + 8 * b + 2) * sgn 48 (s.rd Reg.BLK_S2.S2 u.val b) → sat48At 28 x1 = (y1, n1) → x2 = sgn 48 (s.rd Reg.BLK_S2.S2 u.val b) * 2 ^ 56 + s.coef u.val (128 + 8 * b + 2) * y1 → sat48At 56 x2 = (y2, n2) → s.blkLimit u.val b (divHalfAway (s.coef u.val (128 + 8 * b + 0) * e + y1) (2 ^ 28)) = (y, lim) → s.on Reg.BLK_CTRL.CI u.val b = true → lim = true → ∃ t, exec (.cedPr u) s = .next t ∧ t.rd Reg.BLK_S1.S1 u.val b = s.rd Reg.BLK_S1.S1 u.val b ∧ t.rd Reg.BLK_S2.S2 u.val b = s.rd Reg.BLK_S2.S2 u.val b ∧
      CedDone s t u.val p.val w (decide (y1 ≠ x1 ∨ y2 ≠ x2) || decide (satI 32 y ≠ y)) [Reg.BLK_CTRL.LIM.key u.val b]
      { s.lu u.val with d := SMap.set 0 (s.lu u.val).d (wDst w % 64) (uns 32 (satI 32 y)) }) ∧
  (∀ (u : Fin 8) (p : Fin 4) (w b : Nat) (s : State) (e x1 x2 y1 n1 y2 n2 y : Int) (lim : Bool), s.cedAt u.val p.val w = true → wOp w = 0x18 → b = wAux w % 16 → e = s.operand u.val (wSa w) → x1 = sgn 48 (s.rd Reg.BLK_S1.S1 u.val b) * 2 ^ 28 + s.coef u.val (128 + 8 * b + 1) * e - s.coef u.val (128 + 8 * b + 2) * sgn 48 (s.rd Reg.BLK_S2.S2 u.val b) → sat48At 28 x1 = (y1, n1) → x2 = sgn 48 (s.rd Reg.BLK_S2.S2 u.val b) * 2 ^ 56 + s.coef u.val (128 + 8 * b + 2) * y1 → sat48At 56 x2 = (y2, n2) → s.blkLimit u.val b (divHalfAway (s.coef u.val (128 + 8 * b + 0) * e + y1) (2 ^ 28)) = (y, lim) → (s.on Reg.BLK_CTRL.CI u.val b = false ∨ lim = false) → ∃ t, exec (.cedPr u) s = .next t ∧ t.rd Reg.BLK_S1.S1 u.val b = uns 48 n1 ∧ t.rd Reg.BLK_S2.S2 u.val b = uns 48 n2 ∧
      t.on Reg.BLK_CTRL.LIM u.val b = (s.on Reg.BLK_CTRL.LIM u.val b || lim) ∧
      CedDone s t u.val p.val w (decide (y1 ≠ x1 ∨ y2 ≠ x2) || decide (satI 32 y ≠ y)) [Reg.BLK_S1.S1.key u.val b, Reg.BLK_S2.S2.key u.val b, Reg.BLK_CTRL.LIM.key u.val b]
      { s.lu u.val with d := SMap.set 0 (s.lu u.val).d (wDst w % 64) (uns 32 (satI 32 y)) }) ∧
  (∀ (u : Fin 8) (p : Fin 4) (w td i f den j : Nat) (s : State) (x : Int), s.cedAt u.val p.val w = true → wOp w = 0x1A → td = wAux w % 8 → s.tluPos u.val td (s.operand u.val (wSa w)) = (i, f, den, j) → s.eccBad = [] → divHalfAway (sgn 32 (s.word (s.tluAddr u.val td i)) * den + f * ((if f = 0 then sgn 32 (s.word (s.tluAddr u.val td i)) else sgn 32 (s.word (s.tluAddr u.val td j))) - sgn 32 (s.word (s.tluAddr u.val td i)))) den = x → ∃ t, exec (.cedTlu u) s = .next t ∧ CedDone s t u.val p.val w (decide (satI 32 x ≠ x)) []
      { s.lu u.val with d := SMap.set 0 (s.lu u.val).d (wDst w % 64) (uns 32 (satI 32 x)) }) ∧
  (∀ (u : Fin 8) (p : Fin 4) (w n : Nat) (s : State), s.cedAt u.val p.val w = true → wOp w = 0x20 → wAux w % 4 = 2 → s.stageOfLu u.val = some n → (s.stgLegs n).contains (wDst w % 32) = true → ∃ t, exec (.cedWrl u) s = .next t ∧ CedDone s t u.val p.val w false []
      { s.lu u.val with staged := (s.lu u.val).staged ++ [⟨wDst w % 32, 2, uns 32 (s.operand u.val (wSa w)) % 4⟩] }) ∧
  (∀ (u : Fin 8) (p : Fin 4) (w n : Nat) (k : Fin 8) (s : State) (x : Int), s.cedAt u.val p.val w = true → wOp w = 0x20 → (wAux w % 4 < 2) → s.stageOfLu u.val = some n → (n < 8) → s.tbOfLeg (wDst w % 32) = some k.val → s.fcDrives n = false → x = s.operand u.val (wSa w) → (s.stgLegs n).contains (wDst w % 32) = true → ∃ t, exec (.cedWrl u) s = .next t ∧ CedDone s t u.val p.val w (clampI 0 (2 ^ 30) x != x) []
      { s.lu u.val with staged := (s.lu u.val).staged ++ [⟨wDst w % 32, wAux w % 4, ((clampI 0 (2 ^ 30) x).toNat * s.span128 (wDst w % 32) * 2 + 2 ^ 30) / 2 ^ 31⟩] }) ∧
  (∀ (u : Fin 8) (ws : List StagedWr) (rest : List (List StagedWr)) (s : State), s.present islCED = true → (s.lu u.val).rel = ws :: rest → exec (.wrlCapture u) s = .next (foldEach (fun e t => t.landWrl u.val e) ws (s.setLu u.val { s.lu u.val with rel := rest }))) ∧
  (∀ (u : Fin 8) (l : Nat) (rest : List Nat) (s : State), (s.lu u.val).reqs = l :: rest → exec (.reqPulse u) s = .next ((s.setLu u.val { s.lu u.val with reqs := rest }).raisePulse [1] (0x500 + u.val) l))

/-- Programs are enabled, validated, started, run and disabled; banks swap, blocks clear and sample words arrive (LP_PEN,
LP_VALIDATION_DONE, LP_DISABLE, LP_ROUTE_START, LP_RUN_START, SWAP_REQ, BLK_CLR, SAMPLE_LINK_WORD). Writing PEN = 1 queues the
program for validation and shows VALIDATING. A failed validation sets LOAD_FAIL with the code of the first check that failed; a
passed one sets PEN and the cycles T and W. Writing PEN = 0 of an enabled program clears PEN and PENDING and its arm. A route of a
program that may start makes it pending, or counts MISS where it is pending already. A free unit begins its first pending program
with pc 0 and the samples latched. A swap request on a unit with enabled programs is pending. A clear of a block that no enabled
program uses clears its states at once. A word of the sample link leaves the queue and fills every slot that it matches. It rests
on the model's choices of log entries 14, 15. -/
def Obligations.CedarPrograms : Prop :=
  (∀ (m : Master) (u : Fin 8) (p : Fin 4) (s : State), s.ready (Reg.LP_CFG.PEN.addr u.val p.val) = true → s.lpHeld u.val p.val = false → ∃ t, exec (.lpPen m u p) s = .next t ∧ t.rd Reg.LP_STAT.VALIDATING u.val p.val = 1 ∧
      t.lu u.val = { s.lu u.val with vq := (s.lu u.val).vq ++ [p.val] } ∧ OnlyRegs s { t with lus := s.lus } [Reg.LP_STAT.VALIDATING.key u.val p.val]) ∧
  (∀ (m : Master) (u : Fin 8) (p : Fin 4) (s : State), s.ready (Reg.LP_CFG.PEN.addr u.val p.val) = true → s.lpHeld u.val p.val = true → ∃ t, exec (.lpPen m u p) s = .next t ∧ OnlyRegs s t []) ∧
  (∀ (u : Fin 8) (p : Fin 4) (rest : List Nat) (s : State) (code : Nat), s.present islCED = true → (s.lu u.val).vq = p.val :: rest → ((s.setLu u.val { s.lu u.val with vq := rest }).wr2 Reg.LP_STAT.VALIDATING u.val p.val 0).lpCheck u.val p.val = code → (code ≠ 0) → (code ≠ 9) → (code < 16) → ∃ t, exec (.lpValidationDone u) s = .next t ∧ t.rd Reg.LP_STAT.VALIDATING u.val p.val = 0 ∧ t.rd Reg.LP_STAT.LOAD_FAIL u.val p.val = 1 ∧
      t.rd Reg.LP_STAT.LOAD_ERR u.val p.val = code ∧ (t.lu u.val).vq = rest ∧
      OnlyRegs s { t with lus := s.lus } [Reg.LP_STAT.VALIDATING.key u.val p.val, Reg.LP_STAT.LOAD_FAIL.key u.val p.val, Reg.LP_STAT.LOAD_ERR.key u.val p.val]) ∧
  (∀ (u : Fin 8) (p : Fin 4) (rest : List Nat) (s : State), s.present islCED = true → (s.lu u.val).vq = p.val :: rest → ((s.setLu u.val { s.lu u.val with vq := rest }).wr2 Reg.LP_STAT.VALIDATING u.val p.val 0).lpCheck u.val p.val = 0 → exec (.lpValidationDone u) s = .next (((s.setLu u.val { s.lu u.val with vq := rest }).wr2 Reg.LP_STAT.VALIDATING u.val p.val 0).lpPass u.val p.val)) ∧
  (∀ (m : Master) (u : Fin 8) (p : Fin 4) (s : State), s.ready (Reg.LP_CFG.PEN.addr u.val p.val) = true → s.on Reg.LP_STAT.VALIDATING u.val p.val = false → s.on Reg.LP_CFG.PEN u.val p.val = true → blocksOf (s.lpWords u.val p.val) = [] → s.on Reg.LU_STAT.SWAP_PEND u.val = false → ∃ t, exec (.lpDisable m u p) s = .next t ∧ t.rd Reg.LP_CFG.PEN u.val p.val = 0 ∧ t.rd Reg.LP_STAT.PENDING u.val p.val = 0 ∧
      t.lu u.val = { s.lu u.val with queue := (s.lu u.val).queue.filter (· ≠ p.val), arms := withoutBit (s.lu u.val).arms p.val } ∧ t.mem = s.mem) ∧
  (∀ (u : Fin 8) (p : Fin 4) (s : State), (s.pulseAt (toProgram u.val p.val)).isSome = true → s.present islCED = true → (∀ q < p.val, s.pulseAt (toProgram u.val q) ≠ s.pulseAt (toProgram u.val p.val)) → exec (.lpRouteStart u p) s = .next ((s.takePulse (toProgram u.val p.val)).lpRoute u.val p.val)) ∧
  (∀ (u : Fin 8) (p : Fin 4) (s : State), (s.pulseAt (toProgram u.val p.val)).isSome = true → s.present islCED = true → (∀ q < p.val, s.pulseAt (toProgram u.val q) ≠ s.pulseAt (toProgram u.val p.val)) → s.mayStart u.val p.val = true → s.rd Reg.LP_CFG.START_SRC u.val p.val = 1 → ((s.lu u.val).queue.contains p.val = false → ∃ t, exec (.lpRouteStart u p) s = .next t ∧ t.rd Reg.LP_STAT.PENDING u.val p.val = 1 ∧
      t.lu u.val = { s.lu u.val with queue := (s.lu u.val).queue ++ [p.val], halt := withoutBit (s.lu u.val).halt p.val, clr := if bitAt (s.lu u.val).halt p.val && s.on Reg.LP_CFG.TRIP_HALT u.val p.val then withBit (s.lu u.val).clr p.val else (s.lu u.val).clr } ∧ RegsBut s t [Reg.LP_STAT.PENDING.key u.val p.val] ∧ t.mem = s.mem) ∧
      ((s.lu u.val).queue.contains p.val = true → ∃ t, exec (.lpRouteStart u p) s = .next t ∧ t.rd Reg.LP_STAT.MISS u.val p.val = 1 ∧
      t.rd Reg.LP_STAT.MISS_CNT u.val p.val = satAdd 255 (s.rd Reg.LP_STAT.MISS_CNT u.val p.val) % 256 ∧ t.lu u.val = s.lu u.val ∧
      RegsBut s t [Reg.LP_STAT.MISS.key u.val p.val, Reg.LP_STAT.MISS_CNT.key u.val p.val] ∧ t.mem = s.mem)) ∧
  (∀ (u : Fin 8) (p : Fin 4) (rest : List Nat) (s : State), s.present islCED = true → s.on Reg.LU_STAT.FAULT u.val = false → (s.lu u.val).run = none → (s.lu u.val).queue = p.val :: rest → s.on Reg.LU_STAT.SWAP_PEND u.val = false → blocksOf (s.lpWords u.val p.val) = [] → s.on Reg.LU_CTRL.SP_HOLD u.val = false → ∃ t, exec (.lpRunStart u) s = .next t ∧ t.rd Reg.LU_STAT.RUNNING u.val = 1 ∧ t.rd Reg.LU_STAT.PROG u.val = p.val ∧
      t.rd Reg.LP_STAT.PENDING u.val p.val = 0 ∧ (t.lu u.val).run = some p.val ∧ (t.lu u.val).pc = 0 ∧ (t.lu u.val).p = false ∧
      (t.lu u.val).queue = rest ∧ (t.lu u.val).staged = [] ∧ (t.lu u.val).d = (s.lu u.val).d ∧
      (t.lu u.val).inp = (List.range 16).map (fun k => s.rd Reg.SLOT_VAL.VAL u.val k) ∧
      (t.lu u.val).sp = (List.range 16).map (fun k => s.rd Reg.LU_SP.SP u.val k) ∧
      RegsBut s t [Reg.LU_STAT.RUNNING.key u.val 0, Reg.LU_STAT.PROG.key u.val 0, Reg.LP_STAT.PENDING.key u.val p.val] ∧ t.mem = s.mem) ∧
  (∀ (m : Master) (u : Fin 8) (s : State), s.ready (Reg.LU_CTRL.SWAP_REQ.addr u.val 0) = true → s.on Reg.LU_STAT.SWAP_PEND u.val = false → (s.lpEnabled u.val ≠ []) → ∃ t, exec (.swapReq m u) s = .next t ∧ t.rd Reg.LU_STAT.SWAP_PEND u.val = 1 ∧ t.rd Reg.LU_CTRL.SWAP_REQ u.val = 1 ∧
      OnlyRegs s t [Reg.LU_STAT.SWAP_PEND.key u.val 0, Reg.LU_CTRL.SWAP_REQ.key u.val 0]) ∧
  (∀ (m : Master) (u : Fin 8) (b : Fin 16) (s : State), s.ready (Reg.BLK_CTRL.CLR.addr u.val b.val) = true → (s.blkUsed u.val b.val = false → ∃ t, exec (.blkClr m u b) s = .next t ∧ t.rd Reg.BLK_S1.S1 u.val b.val = 0 ∧ t.rd Reg.BLK_S2.S2 u.val b.val = 0 ∧
      t.rd Reg.BLK_CTRL.CLR u.val b.val = 0 ∧ OnlyRegs s t [Reg.BLK_S1.S1.key u.val b.val, Reg.BLK_S2.S2.key u.val b.val, Reg.BLK_CTRL.CLR.key u.val b.val]) ∧
      (s.blkUsed u.val b.val = true → ∃ t, exec (.blkClr m u b) s = .next t ∧ t.rd Reg.BLK_CTRL.CLR u.val b.val = 1 ∧ OnlyRegs s t [Reg.BLK_CTRL.CLR.key u.val b.val])) ∧
  (∀ (w : LinkWord) (rest : List LinkWord) (s : State), s.linkq = w :: rest → s.present islCED = true → exec .sampleLinkWord s = .next (foldEach (fun u t =>
      match (t.fillUnit u w).stageOfLu u with
      | some n => foldEach (fun k r => r.fcFilled n k) (t.slotsFilled u w) (t.fillUnit u w)
      | none => t.fillUnit u w) (List.range 8) { s with linkq := rest })) ∧
  (∀ (s : State), s.linkq = [] → exec .sampleLinkWord s = .next s)

/-- Field channels are enabled, started, stopped, aligned, ramped and retried; the table port and the stored offset (FC_ENABLE,
FC_DISABLE, FC_START, FC_STOP, PROBE_PULSE_END, ALIGN_EXPIRY, ALIGN_PRE_HALF_EXPIRY, RAMP_STEP, RAMP_TIMEOUT, RETRY_WAIT_EXPIRY,
SINE_FILL_DONE, FC_TBL_DATA, OFFS_STORE). EN = 1 is refused with CFG_CODE 1 on a stage that is no motor or grid stage and with 3
for a source out of range, and waits until the sine table is ready. EN = 0 ends in STATE OFF. START in HELD on an enabled stage
that is not tripped runs the start decision with ATTEMPT 0, or is refused with the code of the first check that fails; elsewhere
it changes nothing. STOP holds the channel. A pulse ends when its time has passed and not before; the end of an alignment fixes
OFFS of a sensor source or begins the ramp; a ramp step moves the speed by RAMP_ACC toward its target; a ramp without handover
fails the attempt with code 1; a retry wait that ends starts again or gives up. The sine fill sets SINE_RDY and lets what waited
go on. The table port answers or writes the entry it points to, an advance entry with bits 7 to 0 zero, and answers a bus error
beyond the table. OFFS_STORE writes OFFS to its word of Clay. It rests on the model's choices of log entries 8, 16, 17. -/
def Obligations.FieldChannels : Prop :=
  (∀ (m : Master) (n : Fin 8) (s : State), s.ready (Reg.FC_CTRL.EN.addr n.val 0) = true → s.on Reg.FC_CTRL.EN n.val = false → s.on Reg.FC_TBL_STAT.SINE_RDY 0 = true → (s.stgKind n.val ≠ 1 → s.stgKind n.val ≠ 2 → ∃ t, exec (.fcEnable m n) s = .next t ∧ t.rd Reg.FC_STAT.CFG_ERR n.val = 1 ∧
      t.rd Reg.FC_STAT.CFG_CODE n.val = 1 ∧ OnlyRegs s t [Reg.FC_STAT.CFG_ERR.key n.val 0, Reg.FC_STAT.CFG_CODE.key n.val 0]) ∧
      (s.stgKind n.val = 1 ∨ s.stgKind n.val = 2 → s.srcOk n.val = false → ∃ t, exec (.fcEnable m n) s = .next t ∧ t.rd Reg.FC_STAT.CFG_ERR n.val = 1 ∧
      t.rd Reg.FC_STAT.CFG_CODE n.val = 3 ∧ OnlyRegs s t [Reg.FC_STAT.CFG_ERR.key n.val 0, Reg.FC_STAT.CFG_CODE.key n.val 0])) ∧
  (∀ (m : Master) (n : Fin 8) (s : State), s.ready (Reg.FC_CTRL.EN.addr n.val 0) = true → s.on Reg.FC_CTRL.EN n.val = false → s.on Reg.FC_TBL_STAT.SINE_RDY 0 = true → (s.stgKind n.val = 1 ∨ s.stgKind n.val = 2) → s.srcOk n.val = true → s.claimBlock (n.val + 1) (s.fcClaim n.val) = none → ∃ t, exec (.fcEnable m n) s = .next t ∧ t.rd Reg.FC_CTRL.EN n.val = 1 ∧ t.rd Reg.FC_STAT.STATE n.val = 1 ∧ t.mem = s.mem) ∧
  (∀ (m : Master) (n : Fin 8) (s : State), s.ready (Reg.FC_CTRL.EN.addr n.val 0) = true → s.on Reg.FC_CTRL.EN n.val = false → ∃ t, exec (.fcDisable m n) s = .next t ∧ (t.fc n.val) = { s.fc n.val with enWait := false } ∧ OnlyRegs s { t with fcs := s.fcs } []) ∧
  (∀ (m : Master) (n : Fin 8) (s : State), s.ready (Reg.FC_CTRL.EN.addr n.val 0) = true → s.on Reg.FC_CTRL.EN n.val = true → ∃ t, exec (.fcDisable m n) s = .next t ∧ t.rd Reg.FC_CTRL.EN n.val = 0 ∧ t.rd Reg.FC_STAT.STATE n.val = 0 ∧ t.mem = s.mem) ∧
  (∀ (m : Master) (n : Fin 8) (s : State), s.ready (Reg.FC_CTRL.START.addr n.val 0) = true → (s.fcState n.val ≠ 1 ∨ s.stgEnabled n.val = false ∨ s.stgTripped n.val = true → ∃ t, exec (.fcStart m n) s = .next t ∧ OnlyRegs s t []) ∧
      (s.fcState n.val = 1 → s.stgEnabled n.val = true → s.stgTripped n.val = false → s.startCheck n.val = 0 →
      exec (.fcStart m n) s = .next ((((s.wr Reg.FC_STAT.ATTEMPT n.val 0).setFc n.val { s.fc n.val with dir := s.on Reg.FC_CTRL.DIR n.val }).fcDecide n.val).ack m)) ∧
      (s.fcState n.val = 1 → s.stgEnabled n.val = true → s.stgTripped n.val = false → ∀ c < 16, c ≠ 0 → s.startCheck n.val = c →
      ∃ t, exec (.fcStart m n) s = .next t ∧ t.rd Reg.FC_STAT.CFG_ERR n.val = 1 ∧ t.rd Reg.FC_STAT.CFG_CODE n.val = c ∧
      OnlyRegs s t [Reg.FC_STAT.CFG_ERR.key n.val 0, Reg.FC_STAT.CFG_CODE.key n.val 0])) ∧
  (∀ (m : Master) (n : Fin 8) (s : State), s.ready (Reg.FC_CTRL.STOP.addr n.val 0) = true → (s.fcState n.val = 0 → ∃ t, exec (.fcStop m n) s = .next t ∧ OnlyRegs s t []) ∧
      (s.fcState n.val ≠ 0 → exec (.fcStop m n) s = .next ((s.fcEnterHold n.val).ack m))) ∧
  (∀ (n : Fin 8) (s : State), (s.fc n.val).pulse = true → ((s.fc n.val).pulseEnd ≤ s.now → exec (.probePulseEnd n) s = .next (s.setFc n.val { s.fc n.val with pulse := false })) ∧
      (s.now < (s.fc n.val).pulseEnd → exec (.probePulseEnd n) s = .next s)) ∧
  (∀ (n : Fin 8) (s : State), s.fcState n.val = 4 → ((s.fc n.val).since + s.rd Reg.FC_TIME.ALIGN_T n.val * 1024 ≤ s.now) → s.fcSensor n.val = false → exec (.alignExpiry n) s = .next ((s.setFc n.val { s.fc n.val with th := s.rd Reg.FC_ALIGN.ALIGN_ANG n.val * 2 ^ 24, w := 0, pre := false }).fcRamp n.val)) ∧
  (∀ (n : Fin 8) (s : State), s.fcState n.val = 4 → ((s.fc n.val).since + s.rd Reg.FC_TIME.ALIGN_T n.val * 1024 ≤ s.now) → s.fcSensor n.val = true → exec (.alignExpiry n) s = .next ((s.wr Reg.FC_OFFS.OFFS n.val (uns 24 ((s.rd Reg.FC_ALIGN.ALIGN_ANG n.val : Int) - s.sensorAng n.val))).fcRun n.val)) ∧
  (∀ (n : Fin 8) (s : State), s.fcState n.val = 4 → (s.fc n.val).pre = true → ((s.fc n.val).since + s.rd Reg.FC_TIME.ALIGN_T n.val * 512 ≤ s.now) → ∃ t, exec (.alignPreHalfExpiry n) s = .next t ∧ t.fc n.val = { s.fc n.val with pre := false } ∧ OnlyRegs s { t with fcs := s.fcs } []) ∧
  (∀ (n : Fin 8) (w : Int) (s : State), s.present islFPC = true → s.fcState n.val = 5 → ((s.fc n.val).since + 1024 ≤ s.now) → moveTo (s.fc n.val).w (s.fc n.val).wt (s.rd Reg.FC_ACC_X.RAMP_ACC n.val : Nat) = w → (w ≠ (s.fc n.val).wt) → ∃ t, exec (.rampStep n) s = .next t ∧ t.fc n.val = { s.fc n.val with w := w, since := (s.fc n.val).since + 1024 } ∧ OnlyRegs s { t with fcs := s.fcs } []) ∧
  (∀ (n : Fin 8) (s : State), s.present islFPC = true → s.fcState n.val = 5 → ((s.fc n.val).since + 1024 ≤ s.now) → moveTo (s.fc n.val).w (s.fc n.val).wt (s.rd Reg.FC_ACC_X.RAMP_ACC n.val : Nat) = (s.fc n.val).wt → (s.fcSrc n.val ≠ 4) → ∃ t, exec (.rampStep n) s = .next t ∧
      t.fc n.val = { s.fc n.val with w := (s.fc n.val).wt, since := (s.fc n.val).since + 1024, tmo := some ((s.fc n.val).tmo.getD s.now) } ∧
      OnlyRegs s { t with fcs := s.fcs } []) ∧
  (∀ (n : Fin 8) (t0 : Nat) (s : State), (s.fc n.val).tmo = some t0 → (s.fcState n.val = 5 ∨ s.fcState n.val = 6) → (t0 + s.rd Reg.FC_TIME.RAMP_TMO n.val * 1024 ≤ s.now) → exec (.rampTimeout n) s = .next (s.fcFail n.val 1)) ∧
  (∀ (n : Fin 8) (s : State), s.fcState n.val = 8 → ((s.fc n.val).since + s.rd Reg.FC_WAIT.RETRY_WAIT n.val * 1024 ≤ s.now) → (s.rd Reg.FC_CFG.START_RETRY n.val < s.rd Reg.FC_STAT.ATTEMPT n.val + 1 → exec (.retryWaitExpiry n) s =
      .next (((s.wr Reg.FC_STAT.ATTEMPT n.val (min (s.rd Reg.FC_STAT.ATTEMPT n.val + 1) 15)).fcHeld n.val 9).flag Reg.FC_STAT.START_FAIL n.val)) ∧
      (s.rd Reg.FC_STAT.ATTEMPT n.val + 1 ≤ s.rd Reg.FC_CFG.START_RETRY n.val → exec (.retryWaitExpiry n) s =
      .next ((s.wr Reg.FC_STAT.ATTEMPT n.val (min (s.rd Reg.FC_STAT.ATTEMPT n.val + 1) 15)).fcDecide n.val))) ∧
  (∀ (s : State), s.present islFPC = true → s.on Reg.FC_TBL_STAT.SINE_RDY 0 = false → s.tblq = [] → (∀ n < 8, (s.fc n).enWait = false) → ∃ t, exec .sineFillDone s = .next t ∧ t.rd Reg.FC_TBL_STAT.SINE_RDY 0 = 1 ∧ OnlyRegs s t [Reg.FC_TBL_STAT.SINE_RDY.key 0 0]) ∧
  (∀ (m : Master) (data : BitVec 32) (s : State), s.reach islFPC = true → s.on Reg.BASIC_CTRL.BUSY 5 = false → s.on Reg.FC_TBL_STAT.SINE_RDY 0 = true → (tblSize (s.rd Reg.FC_TBL_ADDR.TBL 0) ≤ s.rd Reg.FC_TBL_ADDR.IDX 0) → ∀ wr, exec (.fcTblData m wr data) s = .next (s.busErr m (Reg.FC_TBL_DATA.DATA.addr 0 0))) ∧
  (∀ (m : Master) (data : BitVec 32) (s : State), s.reach islFPC = true → s.on Reg.BASIC_CTRL.BUSY 5 = false → s.on Reg.FC_TBL_STAT.SINE_RDY 0 = true → (s.rd Reg.FC_TBL_ADDR.IDX 0 < tblSize (s.rd Reg.FC_TBL_ADDR.TBL 0)) → s.on Reg.FC_TBL_ADDR.AINC 0 = false → s.eccBad = [] → (∃ t, exec (.fcTblData m true data) s = .next t ∧ t.tbl (s.rd Reg.FC_TBL_ADDR.TBL 0) (s.rd Reg.FC_TBL_ADDR.IDX 0) = (if s.rd Reg.FC_TBL_ADDR.TBL 0 = 1 then data.toNat / 256 * 256 else data.toNat) ∧
      OnlyRegs s { t with fctab := s.fctab } []) ∧
      (∃ t, exec (.fcTblData m false data) s = .next t ∧ t.respOf m = ⟨false, s.tbl (s.rd Reg.FC_TBL_ADDR.TBL 0) (s.rd Reg.FC_TBL_ADDR.IDX 0)⟩ ∧ OnlyRegs s t [])) ∧
  (∀ (m : Master) (n : Fin 8) (s : State), s.ready (Reg.FC_CTRL.OFFS_STORE.addr n.val 0) = true → ∃ t, exec (.offsStore m n) s = .next t ∧ RegsBut s t [] ∧ t.mem = (s.setWord (0x4C000F80 + 4 * n.val) (s.rd Reg.FC_OFFS.OFFS n.val)).mem ∧
      (∀ a, a < 0x4C000F80 + 4 * n.val ∨ 0x4C000F80 + 4 * n.val + 4 ≤ a → t.byte a = s.byte a))

/-- Position channels, resolvers and emulators (POS_INPUT_ACCEPT, POS_SPEED_ESTIMATE, HALL_TIMEOUT, POS_COUNT_WRITE,
SSI_FRAME_DONE, RESOLVER_SAMPLE_PAIR, EXC_FAULT, POS_ENABLE, RS_ENABLE, POS_FAULT_CLEAR, RS_FAULT_CLEAR, EMU_ENABLE, EMU_STEP).
Inputs of a channel that is not enabled only show as levels. A first forward quadrature edge that has stood for FILT_N samples
counts one up. A speed estimate drops the old edges and filters the estimate; a Hall timeout zeroes the speed and keeps the time
of the last transition. A write of COUNT of a quadrature channel within its range sets COUNT and moves the index position with it,
and is refused with CFG_ERR elsewhere. A frame that is due is judged on the bits sampled, and one with other bits changes nothing;
a sample pair at an excitation peak, of converters whose clusters are there, runs the tracking loop of Rowan; an excitation fault
sets FAULT with reason 4. Enables with a wrong configuration are refused with CFG_ERR, disables of a sensor that an enabled field
channel names too; a fault is cleared, or denied while its cause stands. An emulator step moves its outputs one state and its
backlog one toward 0. It rests on the model's choices of log entries 2, 18. -/
def Obligations.PositionResolversAndEmulators : Prop :=
  (∀ (n : Fin 4) (lv : BitVec 7) (s : State), s.present islFPC = true → s.posEn n.val = false → ∃ t, exec (.posInputAccept n lv) s = .next t ∧ (t.pos n.val).raw = ((List.range 7).map fun b => if bitAt lv.toNat b && s.posRouted n.val b then 2 ^ b else 0).sum ∧
      OnlyRegs s { t with poss := s.poss } []) ∧
  (∀ (n : Fin 4) (lv : BitVec 7) (s : State), s.present islFPC = true → s.posEn n.val = true → s.posMode n.val = 0 → (s.pos n.val).lvl = 0 → ((List.range 7).map fun b => if bitAt lv.toNat b && s.posRouted n.val b then 2 ^ b else 0).sum = 1 → s.on Reg.POS_FLT.REVDIR n.val = false → s.on Reg.POS_FLT.ZGATE n.val = false → (s.rd Reg.POS_CNT.COUNT n.val + 1 < s.cpr n.val) → (s.rd Reg.POS_CNT.COUNT n.val + 1 < 16777216) → (s.rd Reg.POS_FLT.FILT_N n.val ≤ s.now / 2 - ((s.pos n.val).since.getD 0 none).getD (s.now / 2) + 1) → ∃ t, exec (.posInputAccept n lv) s = .next t ∧ t.rd Reg.POS_CNT.COUNT n.val = s.rd Reg.POS_CNT.COUNT n.val + 1) ∧
  (∀ (n : Fin 4) (es : List (Int × Nat)) (s : State), s.present islFPC = true → s.posEn n.val = true → s.posMode n.val = 0 → ((s.pos n.val).est + 128 ≤ s.now) → s.keptEdges n.val = es → ∃ t, exec (.posSpeedEstimate n) s = .next t ∧ t.pos n.val = { s.pos n.val with edges := es, wm := s.estimate n.val es, w := filterSpeed (s.pos n.val).w (s.estimate n.val es) (s.rd Reg.POS_SPDC.SPD_FLT n.val), est := s.now } ∧
      OnlyRegs s { t with poss := s.poss } []) ∧
  (∀ (n : Fin 4) (s : State), s.present islFPC = true → s.posEn n.val = true → s.posMode n.val = 1 → ((s.pos n.val).at0 + s.rd Reg.POS_SPDC.SPD_TMO n.val * 1024 ≤ s.now) → ∃ t, exec (.hallTimeout n) s = .next t ∧ (t.pos n.val).w = 0 ∧ (t.pos n.val).at0 = (s.pos n.val).at0 ∧ OnlyRegs s { t with poss := s.poss } []) ∧
  (∀ (m : Master) (n : Fin 4) (v : BitVec 24) (s : State), s.ready (Reg.POS_CNT.COUNT.addr n.val 0) = true → (s.posMode n.val ≠ 0 ∨ s.cpr n.val ≤ v.toNat → ∃ t, exec (.posCountWrite m n v) s = .next t ∧ t.rd Reg.POS_STAT.CFG_ERR n.val = 1 ∧ OnlyRegs s t [Reg.POS_STAT.CFG_ERR.key n.val 0]) ∧
      (s.posMode n.val = 0 → v.toNat < s.cpr n.val → ∃ t, exec (.posCountWrite m n v) s = .next t ∧ t.rd Reg.POS_CNT.COUNT n.val = v.toNat ∧
      t.rd Reg.POS_IDXPOS.IDX_POS n.val = (((s.rd Reg.POS_IDXPOS.IDX_POS n.val : Int) + v.toNat - s.rd Reg.POS_CNT.COUNT n.val) % s.cpr n.val).toNat % 16777216 ∧
      (t.pos n.val).refd = true ∧ (t.pos n.val).first = true ∧
      OnlyRegs s { t with poss := s.poss } [Reg.POS_CNT.COUNT.key n.val 0, Reg.POS_IDXPOS.IDX_POS.key n.val 0, Reg.POS_STAT.VALID.key n.val 0])) ∧
  (∀ (n : Fin 4) (s : State), s.present islFPC = true → (s.pos n.val).busy = true → ((s.pos n.val).reqAt + s.ssiLen n.val ≤ s.now) → exec (.ssiFrameDone n (BitVec.ofNat 32 (s.pos n.val).shift)) s = .next ((s.ssiFrame n.val (s.pos n.val).shift).showValid n.val) ∧ (∀ raw, raw ≠ BitVec.ofNat 32 (s.pos n.val).shift → exec (.ssiFrameDone n raw) s = .next s)) ∧
  (∀ (r : Fin 2) (negPeak : Bool) (nvS nvC : Int) (s : State) (sn cs : Int), s.excRuns r.val = true → s.excPeak r.val negPeak = true → s.present (islAdc (s.rd Reg.RS_ADC.SIN_ADC r.val)) = true → s.present (islAdc (s.rd Reg.RS_ADC.COS_ADC r.val)) = true → sn = (if negPeak then -1 else 1) * (((s.correct (s.rd Reg.RS_ADC.SIN_ADC r.val) (rawCode nvS)).1 : Int) - 32768) → cs = (if negPeak then -1 else 1) * (((s.correct (s.rd Reg.RS_ADC.COS_ADC r.val) (rawCode nvC)).1 : Int) - 32768) → ((s.rowTrack r.val sn cs).present islFPC = true → (s.rowTrack r.val sn cs).links.sample = false →
      exec (.resolverSamplePair r negPeak nvS nvC) s = .next ((((s.rowTrack r.val sn cs).rsTrack r.val sn cs).rsJudge r.val).rsShow r.val)) ∧
      ((s.rowTrack r.val sn cs).present islFPC = false → exec (.resolverSamplePair r negPeak nvS nvC) s = .next (s.rowTrack r.val sn cs))) ∧
  (∀ (r : Fin 2) (s : State), s.present islFPC = true → s.present islRXC = true → s.on Reg.RS_CTRL.EN r.val = true → ∃ t, exec (.excFault r) s = .next t ∧ t.rd Reg.RS_STAT.FAULT r.val = 1 ∧ t.rd Reg.RS_STAT.FAULT_RSN r.val = 4 ∧ t.rd Reg.RS_STAT.VALID r.val = 0 ∧
      OnlyRegs s t [Reg.RS_STAT.FAULT.key r.val 0, Reg.RS_STAT.FAULT_RSN.key r.val 0, Reg.RS_STAT.VALID.key r.val 0]) ∧
  (∀ (m : Master) (n : Fin 4) (s : State), s.ready (Reg.POS_CTRL.EN.addr n.val 0) = true → (s.posEn n.val = false → s.posCfgOk n.val = false → ∃ t, exec (.posEnable m n true) s = .next t ∧ t.rd Reg.POS_STAT.CFG_ERR n.val = 1 ∧ OnlyRegs s t [Reg.POS_STAT.CFG_ERR.key n.val 0]) ∧
      (s.posEn n.val = false → s.posCfgOk n.val = true → ∃ t, exec (.posEnable m n true) s = .next t ∧ t.rd Reg.POS_CTRL.EN n.val = 1 ∧ t.rd Reg.POS_STAT.IDX_SEEN n.val = 0 ∧
      OnlyRegs s { t with poss := s.poss } [Reg.POS_CTRL.EN.key n.val 0, Reg.POS_STAT.IDX_SEEN.key n.val 0, Reg.POS_STAT.VALID.key n.val 0]) ∧
      (s.posEn n.val = true → s.sensorUsed 1 n.val = true → ∃ t, exec (.posEnable m n false) s = .next t ∧ t.rd Reg.POS_STAT.CFG_ERR n.val = 1 ∧ OnlyRegs s t [Reg.POS_STAT.CFG_ERR.key n.val 0]) ∧
      (s.posEn n.val = true → s.sensorUsed 1 n.val = false → ∃ t, exec (.posEnable m n false) s = .next t ∧ t.rd Reg.POS_CTRL.EN n.val = 0 ∧ t.rd Reg.POS_STAT.VALID n.val = 0 ∧
      OnlyRegs s { t with poss := s.poss } [Reg.POS_CTRL.EN.key n.val 0, Reg.POS_STAT.VALID.key n.val 0])) ∧
  (∀ (m : Master) (r : Fin 2) (s : State), s.ready (Reg.RS_CTRL.EN.addr r.val 0) = true → s.on Reg.RS_CTRL.EN r.val = false → (s.rd Reg.RS_TRK.KP r.val = 0 ∨ s.rd Reg.RS_ADC.SIN_ADC r.val = s.rd Reg.RS_ADC.COS_ADC r.val → ∃ t, exec (.rsEnable m r true) s = .next t ∧
      t.rd Reg.RS_STAT.CFG_ERR r.val = 1 ∧ OnlyRegs s t [Reg.RS_STAT.CFG_ERR.key r.val 0]) ∧
      (∃ t, exec (.rsEnable m r false) s = .next t ∧ OnlyRegs s t [])) ∧
  (∀ (m : Master) (r : Fin 2) (s : State), s.ready (Reg.RS_CTRL.EN.addr r.val 0) = true → s.on Reg.RS_CTRL.EN r.val = false → (1 ≤ s.rd Reg.RS_PH.ELEC_MUL r.val) → (s.rd Reg.RS_PH.ELEC_MUL r.val ≤ 32) → (s.rd Reg.RS_TRK.KP r.val ≠ 0) → (s.rd Reg.RS_TRK.KI r.val ≠ 0) → (s.rd Reg.RS_ADC.SIN_ADC r.val ≠ s.rd Reg.RS_ADC.COS_ADC r.val) → s.paired (s.rd Reg.RS_ADC.SIN_ADC r.val) = false → s.paired (s.rd Reg.RS_ADC.COS_ADC r.val) = false → s.claimBlock (s.rsOwner r.val) [0xB00 + r.val, 0x200 + s.rd Reg.RS_ADC.SIN_ADC r.val, 0x200 + s.rd Reg.RS_ADC.COS_ADC r.val] = none → ∃ t, exec (.rsEnable m r true) s = .next t ∧ t.rd Reg.RS_CTRL.EN r.val = 1 ∧ t.rd Reg.RS_STAT.LOCK r.val = 0 ∧
      (t.rsv r.val).claims = [0xB00 + r.val, 0x200 + s.rd Reg.RS_ADC.SIN_ADC r.val, 0x200 + s.rd Reg.RS_ADC.COS_ADC r.val] ∧ t.mem = s.mem) ∧
  (∀ (m : Master) (r : Fin 2) (s : State), s.ready (Reg.RS_CTRL.EN.addr r.val 0) = true → s.on Reg.RS_CTRL.EN r.val = true → s.sensorUsed 2 r.val = true → ∃ t, exec (.rsEnable m r false) s = .next t ∧ t.rd Reg.RS_STAT.CFG_ERR r.val = 1 ∧ OnlyRegs s t [Reg.RS_STAT.CFG_ERR.key r.val 0]) ∧
  (∀ (m : Master) (n : Fin 4) (s : State), s.ready (Reg.POS_STAT.FAULT.addr n.val 0) = true → s.on Reg.POS_STAT.FAULT n.val = true → (s.posMode n.val = 2 ∧ (s.pos n.val).lastBad = true → ∃ t, exec (.posFaultClear m n) s = .next t ∧ t.rd Reg.POS_STAT.CLR_DENIED n.val = 1 ∧
      OnlyRegs s t [Reg.POS_STAT.CLR_DENIED.key n.val 0]) ∧
      (s.posMode n.val = 0 → s.rd Reg.POS_STAT.FAULT_RSN n.val = 1 → ∃ t, exec (.posFaultClear m n) s = .next t ∧ t.rd Reg.POS_STAT.FAULT n.val = 0 ∧
      t.rd Reg.POS_STAT.FAULT_RSN n.val = 0 ∧ t.rd Reg.POS_IDXPOS.CONSEC n.val = 0 ∧ t.rd Reg.POS_STAT.IDX_SEEN n.val = 0 ∧ (t.pos n.val).refd = false)) ∧
  (∀ (m : Master) (r : Fin 2) (s : State), s.ready (Reg.RS_STAT.FAULT.addr r.val 0) = true → s.on Reg.RS_STAT.FAULT r.val = true → ((s.rsv r.val).inWin = false ∨ (s.rsv r.val).lastTrk = false → ∃ t, exec (.rsFaultClear m r) s = .next t ∧ t.rd Reg.RS_STAT.CLR_DENIED r.val = 1 ∧
      OnlyRegs s t [Reg.RS_STAT.CLR_DENIED.key r.val 0]) ∧
      ((s.rsv r.val).inWin = true → (s.rsv r.val).lastTrk = true → ∃ t, exec (.rsFaultClear m r) s = .next t ∧ t.rd Reg.RS_STAT.FAULT r.val = 0 ∧
      t.rd Reg.RS_STAT.FAULT_RSN r.val = 0 ∧ OnlyRegs s t [Reg.RS_STAT.FAULT.key r.val 0, Reg.RS_STAT.FAULT_RSN.key r.val 0, Reg.RS_STAT.VALID.key r.val 0])) ∧
  (∀ (m : Master) (e : Fin 4) (s : State), s.ready (Reg.EMU_CTRL.EN.addr e.val 0) = true → s.on Reg.EMU_CTRL.EN e.val = false → (s.rd Reg.EMU_PQ.P e.val = 0 ∨ s.rd Reg.EMU_PQ.Q e.val < s.rd Reg.EMU_PQ.P e.val → ∃ t, exec (.emuEnable m e true) s = .next t ∧
      t.rd Reg.EMU_STAT.CFG_ERR e.val = 1 ∧ OnlyRegs s t [Reg.EMU_STAT.CFG_ERR.key e.val 0]) ∧
      (∃ t, exec (.emuEnable m e false) s = .next t ∧ OnlyRegs s t [])) ∧
  (∀ (m : Master) (e : Fin 4) (s : State), s.ready (Reg.EMU_CTRL.EN.addr e.val 0) = true → s.on Reg.EMU_CTRL.EN e.val = false → (1 ≤ s.rd Reg.EMU_PQ.P e.val) → (s.rd Reg.EMU_PQ.P e.val ≤ s.rd Reg.EMU_PQ.Q e.val) → (s.rd Reg.EMU_CTRL.SRC e.val ≤ 5) → (s.rd Reg.EMU_CTRL.MINT e.val ≠ 0) → hasDup (s.emuPins e.val) = false → s.claimBlock (0x20 + e.val) ((s.emuPins e.val).map (0xA00 + ·)) = none → ∃ t, exec (.emuEnable m e true) s = .next t ∧ t.rd Reg.EMU_CTRL.EN e.val = 1 ∧ t.rd Reg.EMU_STAT.RUN e.val = 1 ∧ t.rd Reg.EMU_STAT.BACKLOG e.val = 0 ∧ t.mem = s.mem) ∧
  (∀ (e : Fin 4) (s : State), s.present islFPC = true → s.on Reg.EMU_CTRL.EN e.val = true → (0 < s.rdI Reg.EMU_STAT.BACKLOG e.val) → (s.emu e.val).stepAt = none → ∃ t, exec (.emuStep e) s = .next t ∧ (t.emu e.val).ab = ((s.emu e.val).ab + 1) % 4 ∧ (t.emu e.val).stepAt = some s.now ∧
      t.rd Reg.EMU_STAT.BACKLOG e.val = uns Reg.EMU_STAT.BACKLOG.w (s.rdI Reg.EMU_STAT.BACKLOG e.val - 1) ∧
      OnlyRegs s { t with emus := s.emus } [Reg.EMU_STAT.BACKLOG.key e.val 0]) ∧
  (∀ (e : Fin 4) (s : State), s.rdI Reg.EMU_STAT.BACKLOG e.val = 0 → exec (.emuStep e) s = .next s)

/-- Rowan refreshes, takes requests, discharges and loses its supplies (ROWAN_REFRESH, TQ_PERM, DISCH, SAFE_STATE, RELEASE,
ROWAN_FAULT, LV_LOST, CPX_LOST, DISCHARGE_PWM_EDGE). A refresh runs where Rowan runs and an image has been applied, and nothing
runs where Rowan does not. With the control link up, a request of another length than eight words is taken out of its mailbox with
RESULT 3, one with a wrong CRC with RESULT 1. A torque permission within its form is kept with the refresh time and gives RESULT
0; a discharge request starts the discharge, a safe-state request takes a hold of cause 4 with its class, a release request marks
REL_PEND and tries the release. A Rowan fault raises every line and stops Rowan; a lost low-voltage supply sets LV_LOST and starts
the automatic discharges; lost reports of the complex set CPX_LOST and draw holds. An edge of the discharge modulation sets the
outputs of the leg method. It rests on the model's choices of log entries 17, 19. -/
def Obligations.RowanRequestsAndRefresh : Prop :=
  (∀ (s : State), s.rowanLoops = true → exec .rowanRefresh s = .next s.refresh) ∧
  (∀ (s : State), s.rowanRuns = false → exec .rowanRefresh s = .next s ∧ exec .rowanFault s = .next s ∧ exec .lvLost s = .next s ∧ exec .cpxLost s = .next s ∧
      (∀ k, exec (.tqPerm k) s = .next s ∧ exec (.disch k) s = .next s ∧ exec (.safeState k) s = .next s ∧ exec (.release k) s = .next s) ∧
      ∀ n, exec (.dischargePwmEdge n) s = .next s) ∧
  (∀ (k : Fin 4) (s : State) (w0 : Nat), s.rowanLoops = true → s.mbState (60 + k.val) = 2 → w0 = s.mbWord (60 + k.val) 0 → ((s.mbWords (60 + k.val)).length ≠ 8) → s.links.control = false → (w0 % 256 = 1 → exec (.tqPerm k) s = .next ((s.mbEmpty (60 + k.val)).reqResult k.val w0 3)) ∧
      (w0 % 256 = 2 → exec (.disch k) s = .next ((s.mbEmpty (60 + k.val)).reqResult k.val w0 3)) ∧
      (w0 % 256 = 3 → exec (.safeState k) s = .next ((s.mbEmpty (60 + k.val)).reqResult k.val w0 3)) ∧
      (w0 % 256 = 4 → exec (.release k) s = .next ((s.mbEmpty (60 + k.val)).reqResult k.val w0 3)) ∧
      ((s.mbEmpty (60 + k.val)).reqResult k.val w0 3).rd Reg.ROW_REQ.RESULT 0 = 3) ∧
  (∀ (k : Fin 4) (s : State) (w0 n : Nat), s.rowanLoops = true → s.mbState (60 + k.val) = 2 → w0 = s.mbWord (60 + k.val) 0 → n = bits w0 8 4 → (s.mbWords (60 + k.val)).length = 8 → crcWords ((s.mbWords (60 + k.val)).take 7) = (s.mbWords (60 + k.val)).getD 7 0 → s.rowg.seqs.getD k.val none = none → (n < 8) → (s.stgKind n ≠ 0) → s.links.control = false → (w0 % 256 = 1 → s.rd Reg.ROW_MECH.TQM_MODE n = 1 → sgn 32 ((s.mbWords (60 + k.val)).getD 1 0) ≤ sgn 32 ((s.mbWords (60 + k.val)).getD 2 0) →
      ∃ t, exec (.tqPerm k) s = .next t ∧ (t.row n).permit = some (sgn 32 ((s.mbWords (60 + k.val)).getD 1 0), sgn 32 ((s.mbWords (60 + k.val)).getD 2 0), s.now) ∧
      t.rd Reg.ROW_REQ.RESULT 0 = 0 ∧ t.rd Reg.MB_STAT.STATE (60 + k.val) = 0) ∧
      (w0 % 256 = 2 → s.rd Reg.ROW_MECH.DISCH_MODE n = 1 → exec (.disch k) s = .next (({ (s.mbEmpty (60 + k.val)).disStart n with
      rowg := { ((s.mbEmpty (60 + k.val)).disStart n).rowg with seqs := ((s.mbEmpty (60 + k.val)).disStart n).rowg.seqs.set k.val (some (w0 / 65536)) } }).reqResult k.val w0 0)) ∧
      (w0 % 256 = 3 → ∀ X, X = (s.mbEmpty (60 + k.val)).takeHold n 4 ((s.mbWords (60 + k.val)).getD 1 0 % 4) →
      exec (.safeState k) s = .next (({ X with rowg := { X.rowg with seqs := X.rowg.seqs.set k.val (some (w0 / 65536)) } }).reqResult k.val w0 0)) ∧
      (w0 % 256 = 4 → (s.row n).causes ≠ [] → ∀ X, X = ((s.mbEmpty (60 + k.val)).flag Reg.ROW_STG.REL_PEND n).tryRelease n →
      exec (.release k) s = .next (({ X with rowg := { X.rowg with seqs := X.rowg.seqs.set k.val (some (w0 / 65536)) } }).reqResult k.val w0 0)) ∧
      (w0 % 256 = 4 → (s.row n).causes = [] → exec (.release k) s = .next ((s.mbEmpty (60 + k.val)).reqResult k.val w0 5))) ∧
  (∀ (s : State), s.rowanRuns = true → exec .rowanFault s = .next (foldEach (fun n t => if t.linesOf n = [] then t else t.takeHold n 6 clsGeneral |>.rowCmd n clsGeneral) (List.range 8)
      ((foldEach (fun n t => if (t.row n).meth = 0 then t else t.disStop n) (List.range 8) s).rowStatus Reg.ROW_STATUS.ROW_FAULT 1).showLines)) ∧
  (∀ (s : State), s.rowanRuns = true → s.on Reg.PWR_STATUS.VLV_OK = false → (s.pwr.vlvAt + 500000 ≤ s.now) → s.rd Reg.ROW_STATUS.LV_LOST 0 = 0 → (∀ n < 8, s.on Reg.ROW_MECH.AUTO_DISCH n = false) → ∃ t, exec .lvLost s = .next t ∧ t.rd Reg.ROW_STATUS.LV_LOST 0 = 1 ∧ OnlyRegs s t [Reg.ROW_STATUS.LV_LOST.key 0 0, Reg.CPX_IRQ_PEND.PEND.key 1 0]) ∧
  (∀ (s : State), s.rowanRuns = true → (s.rowg.repAt + 5000 ≤ s.now) → s.safeEnabled = true → exec .cpxLost s = .next ((s.rowStatus Reg.ROW_STATUS.CPX_LOST 1).cpxHolds fun n => s.stgAttr n 0)) ∧
  (∀ (n : Fin 8) (s : State), s.rowanRuns = true → (s.row n.val).meth = 1 → (s.rd Reg.ROW_MECH.DIS_STG n.val < 8) → s.rd Reg.STG_TRIP.SS (s.rd Reg.ROW_MECH.DIS_STG n.val) = 3 → exec (.dischargePwmEdge n) s = .next (s.disEdge n.val ((s.now - (s.row n.val).dAt) / 25000) ((s.now - (s.row n.val).dAt) % 25000 * 4 / 5)))

/-- Mailboxes, doorbells and semaphores (MB_WRITE, MB_GO, MB_REL, ABORT_FILL, MB_CFG_WRITE, DB_RING, DB_PEND_CLEAR, SEM_ACQ,
SEM_RELEASE). The first write of content to an empty mailbox makes it FILLING for its writer; a write by another endpoint meets a
bus error and changes nothing. GO posts a message of 8 to 16 words of its filler, REL by the receiver and ABORT by the filler
empty the mailbox, each of them a bus error elsewhere. A write of MB_CFG is denied on a mailbox that is not empty or with a
receiver that does not exist. A ring sets pending bits and a clear takes them away but for those that a ring sets at the same
time. A free semaphore goes to the master that reads it, and its holder's write gives it back; another's write sets REL_DENIED. It
rests on the model's choices of log entry 22. -/
def Obligations.MailboxesDoorbellsAndSemaphores : Prop :=
  (∀ (m : Master) (n : Fin 64) (w : Fin 16) (v : BitVec 32) (s : State), s.reach islMSG = true → s.mbState n.val = 0 → (s.masterNo m < 8) → ∃ t, exec (.mbWrite m n w.castSucc v none) s = .next t ∧ t.rd Reg.MB_DATA.DATA n.val w.val = v.toNat ∧ t.rd Reg.MB_STAT.STATE n.val = 1 ∧
      t.rd Reg.MB_STAT.FILLER n.val = s.masterNo m ∧
      OnlyRegs s t [Reg.MB_DATA.DATA.key n.val w.val, Reg.MB_STAT.STATE.key n.val 0, Reg.MB_STAT.FILLER.key n.val 0]) ∧
  (∀ (m : Master) (n : Fin 64) (v : BitVec 32) (s : State), s.reach islMSG = true → s.mbState n.val = 1 → s.rd Reg.MB_STAT.FILLER n.val = s.masterNo m → ∃ t, exec (.mbWrite m n 16 v none) s = .next t ∧ t.rd Reg.MB_HDR.USER n.val = v.toNat / 65536 % 65536 ∧ t.rd Reg.MB_HDR.LEN n.val = v.toNat % 32 ∧
      OnlyRegs s t [Reg.MB_HDR.USER.key n.val 0, Reg.MB_HDR.LEN.key n.val 0]) ∧
  (∀ (m : Master) (n : Fin 64) (w : Fin 16) (v : BitVec 32) (s : State), (s.mbMayFill n.val (s.masterNo m) = false ∨ s.reach islMSG = false) → exec (.mbWrite m n w.castSucc v none) s = .next (s.busErr m (Reg.MB_DATA.DATA.addr n.val w.val))) ∧
  (∀ (m : Master) (n : Fin 64) (s : State), s.reach islMSG = true → s.mbState n.val = 1 → s.rd Reg.MB_STAT.FILLER n.val = s.masterNo m → (8 ≤ s.rd Reg.MB_HDR.LEN n.val) → (s.rd Reg.MB_HDR.LEN n.val ≤ 16) → exec (.mbGo m n) s = .next ((s.mbPost n.val (s.masterNo m)).ack m)) ∧
  (∀ (m : Master) (n : Fin 64) (s : State), s.reach islMSG = true → s.mbState n.val = 1 → s.rd Reg.MB_STAT.FILLER n.val = s.masterNo m → (8 ≤ s.rd Reg.MB_HDR.LEN n.val) → (s.rd Reg.MB_HDR.LEN n.val ≤ 16) → s.mbRx n.val = 6 → (s.masterNo m < 8) → ∃ t, exec (.mbGo m n) s = .next t ∧ t.rd Reg.MB_STAT.STATE n.val = 2 ∧ t.rd Reg.MB_STAT.FILLER n.val = 7 ∧ t.rd Reg.MB_HDR.SENDER n.val = s.masterNo m ∧ t.mem = s.mem) ∧
  (∀ (m : Master) (n : Fin 64) (s : State), s.reach islMSG = true → (s.mbState n.val ≠ 1 ∨ s.rd Reg.MB_STAT.FILLER n.val ≠ s.masterNo m → exec (.mbGo m n) s = .next (s.busErr m (Reg.MB_CTRL.GO.addr n.val 0)) ∧
      exec (.abortFill m n) s = .next (s.busErr m (Reg.MB_CTRL.GO.addr n.val 0))) ∧
      (s.mbState n.val ≠ 2 ∨ s.mbRx n.val ≠ s.masterNo m → exec (.mbRel m n) s = .next (s.busErr m (Reg.MB_CTRL.GO.addr n.val 0))) ∧
      (s.mbState n.val = 2 → s.mbRx n.val = s.masterNo m → exec (.mbRel m n) s = .next ((s.mbEmpty n.val).ack m)) ∧
      (s.mbState n.val = 1 → s.rd Reg.MB_STAT.FILLER n.val = s.masterNo m → exec (.abortFill m n) s = .next ((s.mbEmpty n.val).ack m)) ∧
      (s.mbEmpty n.val).rd Reg.MB_STAT.STATE n.val = 0) ∧
  (∀ (m : Master) (n : Fin 64) (rx : Fin 8) (notify : Bool) (db : Fin 32) (s : State), s.ready (Reg.MB_CFG.RX.addr n.val 0) = true → (s.mbState n.val ≠ 0 ∨ 6 ≤ rx.val → ∃ t, exec (.mbCfgWrite m n rx notify db) s = .next t ∧ t.rd Reg.MB_STAT.CFG_DENIED n.val = 1 ∧ OnlyRegs s t [Reg.MB_STAT.CFG_DENIED.key n.val 0]) ∧
      (s.mbState n.val = 0 → rx.val < 6 → ∃ t, exec (.mbCfgWrite m n rx notify db) s = .next t ∧ t.rd Reg.MB_CFG.NOTIFY n.val = b2n notify ∧ t.rd Reg.MB_CFG.DB n.val = db.val ∧
      (n.val < 60 → t.rd Reg.MB_CFG.RX n.val = rx.val) ∧ (60 ≤ n.val → t.rd Reg.MB_CFG.RX n.val = s.rd Reg.MB_CFG.RX n.val) ∧
      OnlyRegs s t [Reg.MB_CFG.RX.key n.val 0, Reg.MB_CFG.NOTIFY.key n.val 0, Reg.MB_CFG.DB.key n.val 0])) ∧
  (∀ (m : Master) (e : Fin 6) (v ring : BitVec 32) (s : State), s.ready (Reg.DB_RING.RING.addr e.val 0) = true → s.ready (Reg.DB_PEND.PEND.addr e.val 0) = true → (s.rd Reg.DB_PEND.PEND e.val < 4294967296) → (∃ t, exec (.dbRing m e v) s = .next t ∧ t.rd Reg.DB_PEND.PEND e.val = s.rd Reg.DB_PEND.PEND e.val ||| v.toNat ∧ OnlyRegs s t [Reg.DB_PEND.PEND.key e.val 0]) ∧
      (∃ t, exec (.dbPendClear m e v ring) s = .next t ∧ t.rd Reg.DB_PEND.PEND e.val = ((BitVec.ofNat 32 (s.rd Reg.DB_PEND.PEND e.val) &&& ~~~v) ||| ring).toNat ∧
      OnlyRegs s t [Reg.DB_PEND.PEND.key e.val 0])) ∧
  (∀ (n : Fin 64) (m : Master) (s : State), s.reach islMSG = true → s.semHolder n.val = 7 → (s.masterNo m < 6) → ∃ t, exec (.semAcq n [m]) s = .next t ∧ t.respOf m = ⟨false, semWord 1 (s.masterNo m)⟩ ∧ t.semHolder n.val = s.masterNo m ∧ OnlyRegs s t [Reg.SEM_PEEK.WORD.key n.val 0]) ∧
  (∀ (n : Fin 64) (m : Master) (s : State), s.reach islMSG = true → (s.semHolder n.val ≠ 7) → ∃ t, exec (.semAcq n [m]) s = .next t ∧ t.respOf m = ⟨false, s.semPeek n.val (s.masterNo m)⟩ ∧ OnlyRegs s t []) ∧
  (∀ (n : Fin 64) (m : Master) (s : State), s.ready (Reg.SEM_ACQ.WORD.addr n.val 0) = true → (s.semHolder n.val = s.masterNo m → ∃ t, exec (.semRelease n m) s = .next t ∧ t.semHolder n.val = 7 ∧ OnlyRegs s t [Reg.SEM_PEEK.WORD.key n.val 0]) ∧
      (s.semHolder n.val ≠ s.masterNo m → ∃ t, exec (.semRelease n m) s = .next t ∧ t.rd Reg.SEM_CTRL.REL_DENIED 0 = 1 ∧ OnlyRegs s t [Reg.SEM_CTRL.REL_DENIED.key 0 0]))

/-- Host ports read, write, report and reset (HP_RD, HP_RDN, HP_WR, HP_RDSR, HP_RSTEN, HP_RST, HP_WRITE_ISSUE, HP_ABANDON,
HP_UNKNOWN_COMMAND). A read of n words on a port that is up returns n words and the status byte; one of 0 or more than 64 words is
refused with CMD_ERR and returns nothing. A write of words that fit enters them at rising addresses and shows the room left in
FREE; words beyond the room are dropped with WOVF. RDSR returns the status byte, FREE and the doorbell word; RSTEN arms RST, which
resets the port and advances its epoch, and is refused with CMD_ERR without it. The oldest buffered word issues to the bus. An
abandoned read returns nothing and sets ABND, an abandoned write and an unknown command set CMD_ERR. It rests on the model's
choices of log entry 23. -/
def Obligations.HostPorts : Prop :=
  (∀ (p : Fin 2) (addr : BitVec 32) (env : BusEnv) (s : State), s.hpUp p.val = true → ∃ t, exec (.hpRd p addr env) s = .next t ∧ t = s.hpRead p.val addr.toNat 1 env ∧ (t.hp p.val).out.length = 2) ∧
  (∀ (p : Fin 2) (addr : BitVec 32) (n : BitVec 8) (env : BusEnv) (s : State), s.hpUp p.val = true → (1 ≤ n.toNat → n.toNat ≤ 64 → ∃ t, exec (.hpRdn p addr n env) s = .next t ∧ t = s.hpRead p.val addr.toNat n.toNat env ∧ (t.hp p.val).out.length = n.toNat + 1) ∧
      (n.toNat = 0 ∨ 64 < n.toNat → ∃ t, exec (.hpRdn p addr n env) s = .next t ∧ t.rd Reg.HP_STAT.CMD_ERR p.val = 1 ∧ (t.hp p.val).out = [] ∧
      OnlyRegs s { t with hps := s.hps } [Reg.HP_STAT.CMD_ERR.key p.val 0])) ∧
  (∀ (p : Fin 2) (addr : BitVec 32) (ws : List (BitVec 32)) (s : State), s.hpUp p.val = true → ((s.hp p.val).buf.length + ws.length ≤ 64) → ∃ t, exec (.hpWr p addr ws) s = .next t ∧
      (t.hp p.val).buf = (s.hp p.val).buf ++ ((ws.map (·.toNat)).zipIdx).map (fun e => ((addr.toNat + 4 * e.2) % 4294967296, e.1)) ∧
      t.rd Reg.HP_STAT.FREE p.val = 64 - ((s.hp p.val).buf.length + ws.length) ∧ OnlyRegs s { t with hps := s.hps } [Reg.HP_STAT.FREE.key p.val 0]) ∧
  (∀ (p : Fin 2) (addr : BitVec 32) (ws : List (BitVec 32)) (s : State), s.hpUp p.val = true → (64 < (s.hp p.val).buf.length + ws.length) → ((s.hp p.val).buf.length ≤ 64) → ∃ t, exec (.hpWr p addr ws) s = .next t ∧ t.rd Reg.HP_STAT.WOVF p.val = 1 ∧ t.rd Reg.HP_STAT.FREE p.val = 0 ∧ (t.hp p.val).buf.length = 64 ∧
      OnlyRegs s { t with hps := s.hps } [Reg.HP_STAT.FREE.key p.val 0, Reg.HP_STAT.WOVF.key p.val 0]) ∧
  (∀ (p : Fin 2) (s : State), s.hpUp p.val = true → (∃ t, exec (.hpRdsr p) s = .next t ∧ (t.hp p.val).out = [s.hpStatus p.val, s.rd Reg.HP_STAT.FREE p.val, s.dbWord (4 + p.val)] ∧ (t.hp p.val).rsten = false ∧ OnlyRegs s { t with hps := s.hps } []) ∧
      (∃ t, exec (.hpRsten p) s = .next t ∧ (t.hp p.val).rsten = true ∧ (t.hp p.val).out = [] ∧ OnlyRegs s { t with hps := s.hps } []) ∧
      (∃ t, exec (.hpUnknownCommand p) s = .next t ∧ t.rd Reg.HP_STAT.CMD_ERR p.val = 1 ∧ (t.hp p.val).out = [] ∧ OnlyRegs s { t with hps := s.hps } [Reg.HP_STAT.CMD_ERR.key p.val 0])) ∧
  (∀ (p : Fin 2) (s : State), s.hpUp p.val = true → ((s.hp p.val).rsten = true → exec (.hpRst p) s = .next ((s.hpClear p.val).advanceEpoch (4 + p.val))) ∧
      ((s.hp p.val).rsten = false → ∃ t, exec (.hpRst p) s = .next t ∧ t.rd Reg.HP_STAT.CMD_ERR p.val = 1 ∧ OnlyRegs s { t with hps := s.hps } [Reg.HP_STAT.CMD_ERR.key p.val 0])) ∧
  (∀ (p : Fin 2) (env : BusEnv) (a v : Nat) (rest : List (Nat × Nat)) (s : State), s.present islMSG = true → (s.hp p.val).buf = (a, v) :: rest → exec (.hpWriteIssue p env) s = .next ((s.setBuf p.val rest).busStore (portMaster p.val) env .b32 a v)) ∧
  (∀ (p : Fin 2) (env : BusEnv) (s : State), (s.hp p.val).buf = [] → exec (.hpWriteIssue p env) s = .next s) ∧
  (∀ (p : Fin 2) (addr : BitVec 32) (n : BitVec 8) (ws : List (BitVec 32)) (env : BusEnv) (s : State), s.hpUp p.val = true → (1 ≤ n.toNat) → (n.toNat ≤ 64) → (∃ t, exec (.hpAbandon p addr (some n) ws env) s = .next t ∧ t.rd Reg.HP_STAT.ABND p.val = 1 ∧ (t.hp p.val).out = []) ∧
      (∃ t, exec (.hpAbandon p addr none ws env) s = .next t ∧ t.rd Reg.HP_STAT.CMD_ERR p.val = 1 ∧ t = ((s.hpBegin p.val).hpTake p.val addr.toNat (ws.map (·.toNat))).flag Reg.HP_STAT.CMD_ERR p.val))

/-- The voter releases, outvotes and disagrees (VOTE_ITEM). When Ash, Elm and Oak commit the same register write, it enters the
checkpoint and nothing else changes. When one core writes another value, the value of the other two enters the checkpoint, and the
core is excluded, counted and named by CPX_LAST with the PC. When all three differ, the complex sets DISAGREE and enters the self-
test; when the two cores of a pair differ, it sets PAIR_MM and enters it. It rests on the model's choices of log entries 20, 21.
-/
def Obligations.CommitVoter : Prop :=
  (∀ (pc : BitVec 32) (i : Fin 64) (v : BitVec 32) (env : BusEnv) (s : State), s.present islCPX = true → s.on Reg.CPX_STATUS.PAUSED = false → s.mode = 0 → s.act = 7 → s.on Reg.CPX_INJ.GO = false → (i ≠ 0) → ∃ t, exec (.voteItem pc (some (.reg i v)) (some (.reg i v)) (some (.reg i v)) env) s = .next t ∧ SMap.get 0 t.cpx.regs i.val = v.toNat ∧ t.cpx.pc = pc.toNat ∧
      t = { s with cpx := { s.cpx with regs := SMap.set 0 s.cpx.regs i.val v.toNat, pc := pc.toNat } }) ∧
  (∀ (pc : BitVec 32) (c : Fin 3) (i : Fin 64) (v w : BitVec 32) (env : BusEnv) (s : State), s.present islCPX = true → s.on Reg.CPX_STATUS.PAUSED = false → s.mode = 0 → s.act = 7 → s.on Reg.CPX_INJ.GO = false → (i ≠ 0) → (v ≠ w) → ∃ t, exec (.voteItem pc (some (.reg i (if c = 0 then w else v))) (some (.reg i (if c = 1 then w else v))) (some (.reg i (if c = 2 then w else v))) env) s = .next t ∧
      SMap.get 0 t.cpx.regs i.val = v.toNat ∧ t.cpx.pc = pc.toNat ∧ bitAt t.cpx.excl c.val = true ∧ t.rd Reg.CPX_STATUS.ACT = 7 - 2 ^ c.val ∧
      t.rd Reg.CPX_STATUS.MODE = 0 ∧ t.rd Reg.CPX_EVT.OUTVOTE = 1 ∧ t.rd Reg.CPX_LAST.KIND = 0 ∧ t.rd Reg.CPX_LAST.CORE = c.val ∧
      t.rd Reg.CPX_LAST.ITEM = i.val ∧ t.rd Reg.CPX_LAST_PC.PC = pc.toNat ∧ t.rd (outvReg c.val) = satAdd 255 (s.rd (outvReg c.val)) % 256) ∧
  (∀ (pc : BitVec 32) (i : Fin 64) (u v w : BitVec 32) (env : BusEnv) (s : State), s.present islCPX = true → s.on Reg.CPX_STATUS.PAUSED = false → s.mode = 0 → s.act = 7 → s.on Reg.CPX_INJ.GO = false → (u ≠ v) → (u ≠ w) → (v ≠ w) → ∃ t, exec (.voteItem pc (some (.reg i u)) (some (.reg i v)) (some (.reg i w)) env) s = .next t ∧ t.rd Reg.CPX_STATUS.MODE = 3 ∧ t.rd Reg.CPX_STATUS.ACT = 0 ∧
      t.rd Reg.CPX_EVT.DISAGREE = 1 ∧ t.rd Reg.CPX_LAST.CORE = 3 ∧ t.rd Reg.CPX_LAST_PC.PC = pc.toNat) ∧
  (∀ (pc : BitVec 32) (i : Fin 64) (u v : BitVec 32) (x : Option Item) (env : BusEnv) (s : State), s.present islCPX = true → s.on Reg.CPX_STATUS.PAUSED = false → s.mode = 2 → s.act = 3 → s.on Reg.CPX_INJ.GO = false → (u ≠ v) → ∃ t, exec (.voteItem pc (some (.reg i u)) (some (.reg i v)) x env) s = .next t ∧ t.rd Reg.CPX_STATUS.MODE = 3 ∧ t.rd Reg.CPX_STATUS.ACT = 0 ∧
      t.rd Reg.CPX_EVT.PAIR_MM = 1 ∧ t.rd Reg.CPX_LAST.CORE = 3 ∧ t.rd Reg.CPX_LAST_PC.PC = pc.toNat)

/-- Sync points, self-tests and checker tests move the complex between its modes (SYNC_POINT, OUTVOTE_WINDOW_EXPIRY,
YEW_FILL_DONE, PAIR_TEST_DONE, CHECKER_TEST, CPX_REPORT_SEND, JOIN_FILL_DONE). At a sync point that the sync timer has made due,
the timer runs on. A sync point at which all three cores sign alike and no core is excluded only latches CPX_CFG, in VOTED with no
split requested. With SPLIT requested it splits. One differing signature sets LATENT, counts and names the core, and
resynchronises it while its count stays below RETIRE_K. After the fill of Yew its sync point returns the complex to VOTED with Yew
in the position. At the end of the self-test of a pair one passing core goes on in SINGLE, none halts the complex with HALT_RSN 1,
two without a fault go on in PAIR with TRANSIENT. A passed checker test that is due advances TEST_CNT; a fault of the main checker
moves comparison to a usable spare. A report that is due goes to Rowan with the mode's code. A window that has passed clears its
count. It rests on the model's choices of log entry 20. -/
def Obligations.ComplexModes : Prop :=
  (∀ (g : BitVec 32) (s : State), s.present islCPX = true → s.mode = 0 → s.act = 7 → s.cpx.excl = 0 → s.on Reg.CPX_CTRL.SPLIT = false → s.cpx.rst = 0 → (s.cpx.syncAt ≤ s.now) → exec (.syncPoint g g g) s = .next s.syncRearm.latchCfg) ∧
  (∀ (g : BitVec 32) (s : State), s.present islCPX = true → s.mode = 0 → s.act = 7 → s.cpx.excl = 0 → s.on Reg.CPX_CTRL.SPLIT = true → (s.cpx.syncAt ≤ s.now) → exec (.syncPoint g g g) s = .next (((((((s.syncRearm.setCpx { s.syncRearm.cpx with excl := 0, rst := 0 }).wr Reg.CPX_CTRL.CRST 0 0).cachesInvalid.wr Reg.CPX_CTRL.SPLIT 0 0).advanceEpoch 1).advanceEpoch 2).toMode 5 7).joinNow.rejoinReset).latchCfg) ∧
  (∀ (g d : BitVec 32) (s : State), s.present islCPX = true → s.mode = 0 → s.act = 7 → s.cpx.excl = 0 → s.on Reg.CPX_CTRL.SPLIT = false → s.cpx.rst = 0 → (s.cpx.cnt.getD 2 0 + 1 < s.cpx.kRet) → s.cpx.cnt.length = 3 → (g ≠ d) → (s.cpx.syncAt ≤ s.now) → ∃ t, exec (.syncPoint g g d) s = .next t ∧ t.rd Reg.CPX_STATUS.MODE = 0 ∧ t.rd Reg.CPX_STATUS.ACT = 7 ∧ t.rd Reg.CPX_EVT.LATENT = 1 ∧ t.rd Reg.CPX_EVT.RESYNC = 1 ∧
      t.rd Reg.CPX_LAST.KIND = 5 ∧ t.rd Reg.CPX_LAST.CORE = 2 ∧ t.rd Reg.CPX_OUTV.OAK = satAdd 255 (s.rd Reg.CPX_OUTV.OAK) % 256) ∧
  (∀ (core : Fin 3) (s : State), exec (.outvoteWindowExpiry core) s = .next (match s.cpx.first.getD core.val none with
      | some t => if t + s.cpx.msRet * 500000 ≤ s.now then { s with cpx := { s.cpx with cnt := s.cpx.cnt.set core.val 0, first := s.cpx.first.set core.val none } } else s
      | none => s)) ∧
  (∀ (s : State), s.present islCPX = true → (s.mode = 1 → exec .yewFillDone s = .next { s with cpx := { s.cpx with filled := true } }) ∧ (s.mode ≠ 1 → exec .yewFillDone s = .next s) ∧
      (s.mode = 6 → exec .joinFillDone s = .next { s with cpx := { s.cpx with filled := true } }) ∧ (s.mode ≠ 6 → exec .joinFillDone s = .next s) ∧
      (s.cpx.repAt ≤ s.now → exec .cpxReportSend s = .next (s.setCpx { s.cpx with repAt := nextDue s.cpx.repAt 1000 s.now }).sendReport) ∧ (s.now < s.cpx.repAt → exec .cpxReportSend s = .next s)) ∧
  (∀ (a b : Nat) (pass : BitVec 4) (s : State), s.present islCPX = true → s.mode = 3 → coresOf s.cpx.test = [a, b] → s.cpx.dis = false → s.cpx.chkWait = false → s.cpx.trans = [] → s.on Reg.CPX_CTRL.PAUSE = false → (bitAt pass.toNat a = true → bitAt pass.toNat b = false → ∃ t, exec (.pairTestDone pass) s = .next t ∧ t.rd Reg.CPX_STATUS.MODE = 4 ∧ t.rd Reg.CPX_STATUS.ACT = withBit 0 a % 8 ∧ t.rd Reg.CPX_EVT.RETIRE = 1 ∧
      (s.cpx.load = true → t.rd Reg.CPX_EVT.RELOAD = 1)) ∧
      (bitAt pass.toNat a = false → bitAt pass.toNat b = false → ∃ t, exec (.pairTestDone pass) s = .next t ∧ t.rd Reg.CPX_STATUS.MODE = 7 ∧ t.rd Reg.CPX_STATUS.ACT = 0 ∧ t.rd Reg.CPX_STATUS.HALT_RSN = 1 ∧ t.rd Reg.CPX_EVT.RETIRE = 1) ∧
      (bitAt pass.toNat a = true → bitAt pass.toNat b = true → ∃ t, exec (.pairTestDone pass) s = .next t ∧ t.rd Reg.CPX_STATUS.MODE = 2 ∧ t.rd Reg.CPX_STATUS.ACT = withBit (withBit 0 a) b % 8 ∧ t.rd Reg.CPX_EVT.TRANSIENT = 1 ∧
      t.cpx.trans = [s.now] ∧ (s.cpx.load = true → t.rd Reg.CPX_EVT.RELOAD = 1))) ∧
  (∀ (r : Fin 4) (s : State), s.present islCPX = true → (s.cpx.testAt ≤ s.now) → (r = 0 → ∃ t, exec (.checkerTest r) s = .next t ∧ t.rd Reg.CPX_CHK.TEST_CNT = satAdd 65535 (s.rd Reg.CPX_CHK.TEST_CNT) % 65536 ∧ t.cpx.testAt = nextDue s.cpx.testAt 500000 s.now ∧
      OnlyRegs s { t with cpx := s.cpx } [Reg.CPX_CHK.TEST_CNT.key 0 0]) ∧
      (r ≠ 0 → s.mode ≠ 3 → s.rd Reg.CPX_CHK.ACTIVE = 0 → s.rd Reg.CPX_CHK.SPARE_OK = 1 → ∃ t, exec (.checkerTest r) s = .next t ∧
      t.rd Reg.CPX_EVT.CHK_FAULT = 1 ∧ t.rd Reg.CPX_CHK.ACTIVE = 1 ∧ t.rd Reg.CPX_CHK.MAIN_OK = 0 ∧ t.rd Reg.CPX_STATUS.SPARE_CHK = 1 ∧ t.rd Reg.CPX_STATUS.MODE = s.rd Reg.CPX_STATUS.MODE) ∧
      (r ≠ 0 → s.mode = 3 → ∃ t, exec (.checkerTest r) s = .next t ∧ t.rd Reg.CPX_EVT.CHK_FAULT = 1 ∧ t.cpx.chkWait = true ∧ t.rd Reg.CPX_STATUS.MODE = 3))

/-- Split, join, core resets, pauses, injections, cache maintenance and interrupts of the complex (CPX_SPLIT, JOIN_RDY, CPX_JOIN,
CRST, CPX_PAUSE, CPX_RESUME, CPX_INJ_GO, DCINV, DCFLUSH, DCALL, MTIME_COMPARE, IRQ_SOURCE). Each control is accepted where its
rule allows it and sets its denied flag, alone, elsewhere. A split is accepted in VOTED with no core excluded and no enabled safe
stage that forbids it. JOIN_RDY of a core in SPLIT sets that core's bit. JOIN is accepted from Ash in SPLIT with both bits set and
all three positions running. A core reset in VOTED excludes the core; in SPLIT the named core restarts at its vector
(State.splitReset), and a core that names another is disregarded. A pause by Alder or a host sets PAUSED outside a self-test, and
the write of 0 ends it. An injection is accepted under the open lock in VOTED and PAIR. The cache CSRs drop or write back dirty
bytes of the issuing core. The compare sets the core's timer bit from the compare time on. Interrupt sources 54 to 63 do nothing.
It rests on the model's choices of log entry 20. -/
def Obligations.ComplexControls : Prop :=
  (∀ (m : Master) (s : State), s.ready (Reg.CPX_CTRL.SPLIT.addr 0 0) = true → (s.splitOk = true → ∃ t, exec (.cpxSplit m) s = .next t ∧ t.rd Reg.CPX_CTRL.SPLIT = 1 ∧ t.rd Reg.CPX_EVT.SPLIT_DENIED = s.rd Reg.CPX_EVT.SPLIT_DENIED ∧ t.mode = s.mode ∧ t.mem = s.mem) ∧
      (s.splitOk = false → ∃ t, exec (.cpxSplit m) s = .next t ∧ t.rd Reg.CPX_EVT.SPLIT_DENIED = 1 ∧ OnlyRegs s t [Reg.CPX_EVT.SPLIT_DENIED.key 0 0])) ∧
  (∀ (c : Fin 3) (s : State), s.ready (Reg.CPX_CTRL.JOIN_RDY.addr 0 0) = true → s.dcache = [] → (s.mode = 5 → ∃ t, exec (.joinRdy (masterOfCore c.val)) s = .next t ∧ t.rd Reg.CPX_STATUS.JRDY = withBit (s.rd Reg.CPX_STATUS.JRDY) c.val % 8 ∧ OnlyRegs s t [Reg.CPX_STATUS.JRDY.key 0 0]) ∧
      (s.mode ≠ 5 → ∃ t, exec (.joinRdy (masterOfCore c.val)) s = .next t ∧ OnlyRegs s t [])) ∧
  (∀ (m : Master) (s : State), s.ready (Reg.CPX_CTRL.JOIN.addr 0 0) = true → (s.mode = 5 → m = .ash → bitAt (s.rd Reg.CPX_STATUS.JRDY) 1 = true → bitAt (s.rd Reg.CPX_STATUS.JRDY) 2 = true → s.act = 7 →
      ∃ t, exec (.cpxJoin m) s = .next t ∧ t.rd Reg.CPX_CTRL.JOIN = 1 ∧ OnlyRegs s t [Reg.CPX_CTRL.JOIN.key 0 0]) ∧
      (s.mode ≠ 5 ∨ m ≠ .ash ∨ bitAt (s.rd Reg.CPX_STATUS.JRDY) 1 = false ∨ bitAt (s.rd Reg.CPX_STATUS.JRDY) 2 = false ∨ s.act ≠ 7 →
      ∃ t, exec (.cpxJoin m) s = .next t ∧ t.rd Reg.CPX_EVT.JOIN_DENIED = 1 ∧ OnlyRegs s t [Reg.CPX_EVT.JOIN_DENIED.key 0 0])) ∧
  (∀ (m : Master) (core : Fin 3) (s : State), s.ready (Reg.CPX_CTRL.CRST.addr 0 0) = true → (s.mode = 0 → ∃ t, exec (.crst m core) s = .next t ∧ bitAt t.cpx.excl core.val = true ∧ t.rd Reg.CPX_STATUS.ACT = withoutBit s.act core.val % 8 ∧
      t.rd Reg.CPX_CTRL.CRST = withBit (s.rd Reg.CPX_CTRL.CRST) core.val % 8 ∧ t.cpx.cnt = s.cpx.cnt ∧
      OnlyRegs s { t with cpx := s.cpx } [Reg.CPX_STATUS.ACT.key 0 0, Reg.CPX_CTRL.CRST.key 0 0]) ∧
      (s.mode = 5 → coreOf m = some core.val → exec (.crst m core) s = .next ((s.splitReset core.val).ack m)) ∧
      (s.mode = 5 → (∃ k, coreOf m = some k ∧ k ≠ core.val) → exec (.crst m core) s = .next (s.ack m)) ∧
      (s.mode ≠ 0 → s.mode ≠ 5 → ∃ t, exec (.crst m core) s = .next t ∧ t.rd Reg.CPX_EVT.CRST_DENIED = 1 ∧ OnlyRegs s t [Reg.CPX_EVT.CRST_DENIED.key 0 0])) ∧
  (∀ (m : Master) (s : State), s.ready (Reg.CPX_CTRL.PAUSE.addr 0 0) = true → (coreOf m = none → (∃ t, exec (.cpxPause m) s = .next t ∧ t.rd Reg.CPX_CTRL.PAUSE = 1 ∧ (s.mode ≠ 3 → t.rd Reg.CPX_STATUS.PAUSED = 1) ∧
      (s.mode = 3 → t.rd Reg.CPX_STATUS.PAUSED = s.rd Reg.CPX_STATUS.PAUSED) ∧ OnlyRegs s t [Reg.CPX_CTRL.PAUSE.key 0 0, Reg.CPX_STATUS.PAUSED.key 0 0]) ∧
      (∃ t, exec (.cpxResume m) s = .next t ∧ t.rd Reg.CPX_CTRL.PAUSE = 0 ∧ t.rd Reg.CPX_STATUS.PAUSED = 0 ∧ OnlyRegs s t [Reg.CPX_CTRL.PAUSE.key 0 0, Reg.CPX_STATUS.PAUSED.key 0 0])) ∧
      (coreOf m ≠ none → (∃ t, exec (.cpxPause m) s = .next t ∧ t.rd Reg.CPX_EVT.PAUSE_DENIED = 1 ∧ OnlyRegs s t [Reg.CPX_EVT.PAUSE_DENIED.key 0 0]) ∧
      (∃ t, exec (.cpxResume m) s = .next t ∧ t.rd Reg.CPX_EVT.PAUSE_DENIED = 1 ∧ OnlyRegs s t [Reg.CPX_EVT.PAUSE_DENIED.key 0 0]))) ∧
  (∀ (m : Master) (core : Fin 4) (bit : Fin 32) (s : State), s.ready (Reg.CPX_INJ.GO.addr 0 0) = true → (s.rd Reg.IMG_STATUS.LOCK_OPEN = 1 → s.mode = 0 ∨ s.mode = 2 → ∃ t, exec (.cpxInjGo m core bit) s = .next t ∧ t.rd Reg.CPX_INJ.GO = 1 ∧ t.rd Reg.CPX_INJ.CORE = core.val ∧ t.rd Reg.CPX_INJ.BIT = bit.val ∧
      OnlyRegs s t [Reg.CPX_INJ.CORE.key 0 0, Reg.CPX_INJ.BIT.key 0 0, Reg.CPX_INJ.GO.key 0 0]) ∧
      (s.rd Reg.IMG_STATUS.LOCK_OPEN ≠ 1 ∨ s.mode ≠ 0 ∧ s.mode ≠ 2 → ∃ t, exec (.cpxInjGo m core bit) s = .next t ∧ t.rd Reg.CPX_EVT.INJ_DENIED = 1 ∧ t.rd Reg.CPX_INJ.GO = s.rd Reg.CPX_INJ.GO ∧
      OnlyRegs s t [Reg.CPX_INJ.CORE.key 0 0, Reg.CPX_INJ.BIT.key 0 0, Reg.CPX_EVT.INJ_DENIED.key 0 0])) ∧
  (∀ (core : Fin 3) (addr v : BitVec 32) (s : State), (s.coreRuns core.val = true → exec (.dcinv core addr) s = .next (s.dDrop core.val (addr.toNat / 32 * 32) 32) ∧ exec (.dcflush core addr) s = .next (s.dFlush core.val (addr.toNat / 32 * 32) 32) ∧
      exec (.dcall core 1) s = .next (s.dDrop core.val 0 (2 ^ 32)) ∧ exec (.dcall core 2) s = .next (s.dFlush core.val 0 (2 ^ 32)) ∧ (v ≠ 1 → v ≠ 2 → exec (.dcall core v) s = .next s)) ∧
      (s.coreRuns core.val = false → exec (.dcinv core addr) s = .next s ∧ exec (.dcflush core addr) s = .next s ∧ exec (.dcall core v) s = .next s)) ∧
  (∀ (core : Fin 3) (s : State), s.present islCPX = true → ∃ t, exec (.mtimeCompare core) s = .next t ∧ OnlyRegs s { t with cpx := s.cpx } [] ∧
      (s.rd Reg.CPX_MTIMECMP.CMP core.val ≤ s.rd Reg.CH_TIME.TIME → bitAt t.cpx.mtip core.val = true)) ∧
  (∀ (src : Fin 64) (s : State), s.present islCPX = true → (54 ≤ src.val → exec (.irqSource src) s = .next s) ∧
      (src.val < 54 → (∀ i < 64, s.rd Reg.CPX_IRQ_CFG.PRIO i = 0) → ∃ t, exec (.irqSource src) s = .next t ∧ ∀ c : Fin 3, t.rd Reg.CPX_IRQ_TOP.VALID c.val = 0 ∧ bitAt t.cpx.meip c.val = false))

/-- Ports of the chain train, fail, wrap, spare a lane and measure their delay (PORT_TRAINED, TRAINING_RETRY, PORT_DOWN,
UNWRAP_TIMER, UNWRAP, LANE_FAIL, LSW, DREQ, DRSP). A port that trains while EN = 1 and PLL-C is locked comes UP and shows its link
delay. A port that goes down wraps and sets LINK_CHG. After 10 ms UP a wrapped port sends UNWRAP, and it unwraps once it has also
received one. A receive lane with fewer than 16 errors and its lock only counts them; a failed lane asks for the spare, or takes
the port down when the spare is used. The ordered set activates the spare in its direction and sets LANE_SPARED. A request for
delay goes out when due and a far request is answered; the answer updates DELAY within one unit of half the measured difference.
It rests on the model's choices of log entries 2, 24. -/
def Obligations.ChainPorts : Prop :=
  (∀ (p : Fin 2) (d : Nat) (eq : List (Fin 16 × Fin 16)) (s : State), s.chOn = true → s.chUp p.val = false → s.on Reg.PLL_STAT.LOCK 2 = true → ∃ t, exec (.portTrained p d eq) s = .next t ∧ t.rd Reg.CH_PORT.UP p.val = 1 ∧ t.rd Reg.CH_PORT.DELAY p.val = min d 65535 ∧ t.rd Reg.CH_EVT.LINK_CHG = 1 ∧ (t.chPort p.val).upAt = s.now) ∧
  (∀ (p : Fin 2) (d : Nat) (eq : List (Fin 16 × Fin 16)) (s : State), (s.chOn = false ∨ s.chUp p.val = true ∨ s.on Reg.PLL_STAT.LOCK 2 = false) → exec (.portTrained p d eq) s = .next s) ∧
  (∀ (p : Fin 2) (s : State), (s.chOn = true → s.chUp p.val = false → (s.chPort p.val).trainAt + 5000000 ≤ s.now → exec (.trainingRetry p) s = .next (s.setChPort p.val { s.chPort p.val with trainAt := s.now })) ∧
      (s.chOn = false ∨ s.chUp p.val = true ∨ s.now < (s.chPort p.val).trainAt + 5000000 → exec (.trainingRetry p) s = .next s)) ∧
  (∀ (p : Fin 2) (s : State), (s.chOn = true → s.chUp p.val = true → ∃ t, exec (.portDown p) s = .next t ∧ t.rd Reg.CH_PORT.UP p.val = 0 ∧ (s.chWrapped p.val = false → t.rd Reg.CH_PORT.WRAP p.val = 1) ∧ t.rd Reg.CH_EVT.LINK_CHG = 1 ∧
      (t.chPort p.val).trainAt = s.now ∧ t.mem = s.mem) ∧
      (s.chOn = false ∨ s.chUp p.val = false → exec (.portDown p) s = .next s)) ∧
  (∀ (p : Fin 2) (s : State), s.chOn = true → s.chUp p.val = true → s.chWrapped p.val = true → ((s.chPort p.val).sent = false → (s.chPort p.val).upAt + 5000000 ≤ s.now → ∃ t, exec (.unwrapTimer p) s = .next t ∧ t.chOut = s.chOut ++ [(p.val, ChSent.unwrap)] ∧ (t.chPort p.val).sent = true ∧
      ((s.chPort p.val).rcvd = true → t.rd Reg.CH_PORT.WRAP p.val = 0 ∧ t.rd Reg.CH_EVT.WRAP_CHG = 1) ∧ ((s.chPort p.val).rcvd = false → t.rd Reg.CH_PORT.WRAP p.val = 1)) ∧
      (∃ t, exec (.chUnwrap p) s = .next t ∧ (t.chPort p.val).rcvd = true ∧ ((s.chPort p.val).sent = true → t.rd Reg.CH_PORT.WRAP p.val = 0 ∧ t.rd Reg.CH_EVT.WRAP_CHG = 1) ∧
      ((s.chPort p.val).sent = false → t.rd Reg.CH_PORT.WRAP p.val = 1))) ∧
  (∀ (p : Fin 2) (lane : Fin 3) (errs : BitVec 16) (unlocked : Bool) (s : State), s.chOn = true → s.chUp p.val = true → s.chLaneUsed p.val lane.val = true → (errs.toNat < 16 → unlocked = false → ∃ t, exec (.laneFail p lane errs unlocked) s = .next t ∧
      t.rd Reg.CH_PORT_ERR.CODE_CNT p.val = min 65535 (s.rd Reg.CH_PORT_ERR.CODE_CNT p.val + errs.toNat) ∧ OnlyRegs s t [Reg.CH_PORT_ERR.CODE_CNT.key p.val 0]) ∧
      (16 ≤ errs.toNat ∨ unlocked = true → s.rd Reg.CH_PORT.SPARE_RX p.val = 0 → ∃ t, exec (.laneFail p lane errs unlocked) s = .next t ∧ (t.chPort p.val).lsw = some lane.val ∧ t.rd Reg.CH_PORT.UP p.val = 1) ∧
      (16 ≤ errs.toNat ∨ unlocked = true → s.rd Reg.CH_PORT.SPARE_RX p.val = 1 → ∃ t, exec (.laneFail p lane errs unlocked) s = .next t ∧ t.rd Reg.CH_PORT.UP p.val = 0 ∧ t.rd Reg.CH_EVT.LINK_CHG = 1)) ∧
  (∀ (p : Fin 2) (lane : Fin 2) (s : State), s.chOn = true → s.chUp p.val = true → (s.rd Reg.CH_PORT.SPARE_TX p.val = 0 → ∃ t, exec (.chLsw p true lane) s = .next t ∧ t.rd Reg.CH_PORT.SPARE_TX p.val = 1 ∧ t.rd Reg.CH_EVT.LANE_SPARED = 1 ∧ t.chOut = s.chOut ++ [(p.val, ChSent.lsw lane.val)]) ∧
      ((s.chPort p.val).lsw = some lane.val → ∃ t, exec (.chLsw p false lane) s = .next t ∧ t.rd Reg.CH_PORT.SPARE_RX p.val = 1 ∧ t.rd Reg.CH_EVT.LANE_SPARED = 1 ∧ (t.chPort p.val).spared = some lane.val) ∧
      ((s.chPort p.val).lsw ≠ some lane.val → exec (.chLsw p false lane) s = .next s)) ∧
  (∀ (p : Fin 2) (sub : Fin 64) (turn : Nat) (s : State), s.chOn = true → s.chUp p.val = true → (exec (.chDreq p sub (some turn)) s = .next { s with chOut := s.chOut ++ [(p.val, .drsp turn)] }) ∧
      ((s.chPort p.val).t1 = none → ∃ t, exec (.chDreq p sub none) s = .next t ∧ (t.chPort p.val).t1 = some (64 * s.now + sub.val) ∧ t.chOut = s.chOut ++ [(p.val, .dreq)] ∧ t.regs = s.regs) ∧
      (∀ t1, (s.chPort p.val).t1 = some t1 → s.now < t1 / 64 + 2048 → exec (.chDreq p sub none) s = .next s) ∧
      (∀ t1, (s.chPort p.val).t1 = some t1 → t1 + turn ≤ 64 * s.now + sub.val → 64 * s.now + sub.val - t1 - turn ≤ 131070 → ∃ t, exec (.chDrsp p sub turn) s = .next t ∧
      (t.rd Reg.CH_PORT.DELAY p.val = (64 * s.now + sub.val - t1 - turn) / 2 ∨ t.rd Reg.CH_PORT.DELAY p.val = (64 * s.now + sub.val - t1 - turn + 1) / 2) ∧ OnlyRegs s t [Reg.CH_PORT.DELAY.key p.val 0]) ∧
      ((s.chPort p.val).t1 = none → exec (.chDrsp p sub turn) s = .next s))

/-- Frames, data, addresses and censuses of the chain (DATA, CH_TX_GO, TX_FRAME_SEND, ENUM, TOKEN, ENUM_RETRY, CENSUS_EMIT,
CENSUS). A frame with an unknown type, a wrong length or a wrong CRC is dropped: CRC_DROP is set and CRC_CNT advances. A data
frame for this module with room in the RX area is stored there at WR_PTR, header first, and WR_PTR advances by its length and two;
without room RX_OVF is set and nothing is stored. A broadcast frame is taken at its first visit and forwarded. GO queues a legal
descriptor and sets TX_ERR for one with no length, beyond the area, for the module itself, or with a full queue; the oldest
descriptor leaves as a DATA frame. A token at a module without an address gives it the lowest number free; a token that returns
ends the enumeration. Each census notes this module's address. It rests on the model's choices of log entry 24. -/
def Obligations.ChainFrames : Prop :=
  (∀ (p : Fin 2) (f : ChFrame) (first : Bool) (s : State), s.chOn = true → s.chUp p.val = true → f.bad = true → ∃ t, (exec (.chData p f first) s = .next t ∧ exec (.chToken p f first) s = .next t ∧ exec (.chCensus p f first) s = .next t ∧ exec (.chPrepare p f first) s = .next t ∧ exec (.chCommit p f first) s = .next t) ∧
      t.rd Reg.CH_EVT.CRC_DROP = 1 ∧ t.rd Reg.CH_PORT_ERR.CRC_CNT p.val = satAdd 65535 (s.rd Reg.CH_PORT_ERR.CRC_CNT p.val) % 65536 ∧
      OnlyRegs s t [Reg.CH_EVT.CRC_DROP.key 0 0, Reg.CH_PORT_ERR.CRC_CNT.key p.val 0]) ∧
  (∀ (p : Fin 2) (f : ChFrame) (first : Bool) (s : State), s.chOn = true → s.chUp p.val = true → f.bad = false → f.typ = 1 → s.on Reg.CH_STATUS.ADDR_OK = true → f.dest = s.rd Reg.CH_STATUS.ADDR → (s.rd Reg.CH_STATUS.ADDR < 64) → (f.len + 2 ≤ (s.rd Reg.CH_RX_PTR.RD_PTR + 2 * 8192 - s.rd Reg.CH_RX_PTR.WR_PTR - 1) % 8192 → ∃ t, exec (.chData p f first) s = .next t ∧
      t = (s.chStore (s.rd Reg.CH_RX_PTR.WR_PTR) (f.w0.toNat :: f.w1.toNat :: f.words)).wr Reg.CH_RX_PTR.WR_PTR 0 ((s.rd Reg.CH_RX_PTR.WR_PTR + f.len + 2) % 8192) ∧
      t.rd Reg.CH_RX_PTR.WR_PTR = (s.rd Reg.CH_RX_PTR.WR_PTR + f.len + 2) % 8192 ∧ t.chOut = s.chOut) ∧
      ((s.rd Reg.CH_RX_PTR.RD_PTR + 2 * 8192 - s.rd Reg.CH_RX_PTR.WR_PTR - 1) % 8192 < f.len + 2 → ∃ t, exec (.chData p f first) s = .next t ∧ t.rd Reg.CH_EVT.RX_OVF = 1 ∧ OnlyRegs s t [Reg.CH_EVT.RX_OVF.key 0 0])) ∧
  (∀ (p : Fin 2) (f : ChFrame) (s : State), s.chOn = true → s.chUp p.val = true → f.bad = false → f.dest = 255 → (f.src ≠ s.rd Reg.CH_STATUS.ADDR) → (s.rd Reg.CH_STATUS.ADDR < 64) → (f.typ = 1 → exec (.chData p f true) s = .next ((s.chData f).chForward p.val f f.words)) ∧
      (f.typ = 1 → exec (.chData p f false) s = .next (s.chForward p.val f f.words)) ∧
      (f.typ = 0x20 → exec (.chToken p f true) s = .next ((s.chTokenVisit f.words).1.chForward p.val f (s.chTokenVisit f.words).2)) ∧
      (f.typ = 0x21 → s.on Reg.CH_STATUS.ADDR_OK = true → exec (.chCensus p f true) s = .next (s.chForward p.val f (two (withBit (ofTwo f.words 0) (s.rd Reg.CH_STATUS.ADDR)))))) ∧
  (∀ (m : Master) (s : State), s.ready (Reg.CH_TX_CTRL.GO.addr 0 0) = true → (s.on Reg.CH_STATUS.ADDR_OK = true → 1 ≤ s.rd Reg.CH_TX.LEN → s.rd Reg.CH_TX.LEN ≤ 64 → s.rd Reg.CH_TX.OFFSET + s.rd Reg.CH_TX.LEN ≤ 8192 → s.rd Reg.CH_TX.DEST ≤ 63 ∨ s.rd Reg.CH_TX.DEST = 255 →
      s.rd Reg.CH_TX.DEST ≠ s.rd Reg.CH_STATUS.ADDR → s.ch.queue.length < 16 → ∃ t, exec (.chTxGo m) s = .next t ∧
      t.ch.queue = s.ch.queue ++ [(s.rd Reg.CH_TX.DEST, s.rd Reg.CH_TX.LEN, s.rd Reg.CH_TX.OFFSET)] ∧ t.rd Reg.CH_TX_CTRL.QUSED = (s.ch.queue.length + 1) % 32 ∧ OnlyRegs s { t with ch := s.ch } [Reg.CH_TX_CTRL.QUSED.key 0 0]) ∧
      (s.on Reg.CH_STATUS.ADDR_OK = false ∨ s.rd Reg.CH_TX.LEN = 0 ∨ 64 < s.rd Reg.CH_TX.LEN ∨ 8192 < s.rd Reg.CH_TX.OFFSET + s.rd Reg.CH_TX.LEN ∨ (63 < s.rd Reg.CH_TX.DEST ∧ s.rd Reg.CH_TX.DEST ≠ 255) ∨
      s.rd Reg.CH_TX.DEST = s.rd Reg.CH_STATUS.ADDR ∨ 16 ≤ s.ch.queue.length → ∃ t, exec (.chTxGo m) s = .next t ∧ t.rd Reg.CH_EVT.TX_ERR = 1 ∧ OnlyRegs s t [Reg.CH_EVT.TX_ERR.key 0 0])) ∧
  (∀ (dest len off : Nat) (rest : List (Nat × Nat × Nat)) (s : State), s.ch.queue = (dest, len, off) :: rest → (s.chOn = true → (s.chRoute 0).isSome = true → ∃ t, exec .txFrameSend s = .next t ∧ t.ch.queue = rest ∧ t.rd Reg.CH_TX_CTRL.QUSED = rest.length % 32 ∧
      t = ({ s with ch := { s.ch with queue := rest } }.wr Reg.CH_TX_CTRL.QUSED 0 rest.length).chSend 0x01 dest ((List.range len).map fun k => s.word (chTxBase + 4 * (off + k)))) ∧
      (s.chOn = false ∨ s.chRoute 0 = none → exec .txFrameSend s = .next s)) ∧
  (∀ (m : Master) (keep : Bool) (s : State), s.ready (Reg.CH_CMD.ENUM.addr 0 0) = true → (s.rd Reg.CH_CFG.ROLE = 2 → s.rd Reg.CH_MC_RES.RESULT ≠ 1 → s.rd Reg.CH_MC_RES.RESULT ≠ 2 → ∃ t, exec (.chEnum m keep) s = .next t ∧ t.rd Reg.CH_STATUS.ADDR = 0 ∧ t.rd Reg.CH_STATUS.ADDR_OK = 1 ∧
      t.rd Reg.CH_CMD.ENUM = 1 ∧ t.rd Reg.CH_CMD.KEEP = b2n keep ∧ t.ch.tokAt = s.now) ∧
      (s.rd Reg.CH_CFG.ROLE < 2 ∨ s.rd Reg.CH_MC_RES.RESULT = 1 ∨ s.rd Reg.CH_MC_RES.RESULT = 2 → ∃ t, exec (.chEnum m keep) s = .next t ∧ t.rd Reg.CH_EVT.CMD_ERR = 1 ∧ OnlyRegs s t [Reg.CH_CMD.KEEP.key 0 0, Reg.CH_EVT.CMD_ERR.key 0 0])) ∧
  (∀ (s : State), (s.chOn = true → s.on Reg.CH_CMD.ENUM = true → s.ch.tokAt + 50000 ≤ s.now → exec .enumRetry s = .next ((s.wr Reg.CH_STATUS.ENUM_DONE 0 0).sendToken s.ch.keep)) ∧
      (s.chOn = false ∨ s.on Reg.CH_CMD.ENUM = false ∨ s.now < s.ch.tokAt + 50000 → exec .enumRetry s = .next s) ∧
      (s.chOn = true → s.chRole = 2 → s.ch.censAt = none → ∃ t, exec .censusEmit s = .next t ∧ t.ch.censAt = some s.now) ∧
      (s.chOn = true → s.chRole = 2 → ∀ t, s.ch.censAt = some t → s.now < t + 50000 → exec .censusEmit s = .next s) ∧
      (s.chOn = false ∨ s.chRole ≠ 2 → exec .censusEmit s = .next s)) ∧
  (∀ (w : List Nat) (s : State), s.rd Reg.CH_STATUS.ADDR_OK = 0 → (w.getD 0 0 ≤ 63 → (s.chTokenVisit w).1.rd Reg.CH_STATUS.ADDR = w.getD 0 0 ∧ (s.chTokenVisit w).1.rd Reg.CH_STATUS.ADDR_OK = 1 ∧
      (s.chTokenVisit w).2 = [nextFree (withBit (ofTwo w 2) (w.getD 0 0)), w.getD 1 0] ++ two (withBit (ofTwo w 2) (w.getD 0 0))) ∧
      (63 < w.getD 0 0 → (s.chTokenVisit w).1.rd Reg.CH_EVT.ENUM_OVF = 1 ∧ (s.chTokenVisit w).2 = w))

/-- The two-phase mode change, the carrier sync and the chain resets (CSYNC_ARM, CARRIER_SYNC, PREPARE_WRITE, PREPARE, ARMED,
REFUSED, COMMIT, ABORT, APPLIED, EXPIRED, MC_ARM_TIMEOUT, MC_APPLY, MC_RESULT_TIMEOUT, RESET_ONE, RESET_ALL, RESET,
CHAIN_RESET_APPLY). Arming the carrier sync holds it for a later time and refuses a time that is past with CSYNC_LATE. PREPARE on
the master is refused with CMD_ERR while another change runs. A legal PREPARE arms a module and it reports ARMED; an illegal one
leaves it refused with the number of the first check. A report of the master's own change enters its sets. COMMIT sets CMT of the
armed change, ABORT ends it. At its time an armed change with CMT applies and without it expires. All members armed and in time,
the master commits; else it aborts; missing reports end the change as partial. A chain reset falls due 5,000 ticks after its
frame, 10,000 after the master's own, and only the master may send one. It rests on the model's choices of log entries 24, 33. -/
def Obligations.ChainModeChange : Prop :=
  (∀ (m : Master) (per : BitVec 24) (s : State), s.ready (Reg.CH_CSYNC.ARM.addr 0 0) = true → (s.rd Reg.CH_TIME.TIME < s.rd Reg.CH_CSYNC_AT.AT → ∃ t, exec (.csyncArm m per) s = .next t ∧ t.rd Reg.CH_CSYNC.ARM = 1 ∧ t.rd Reg.CH_CSYNC.PER = per.toNat ∧ OnlyRegs s t [Reg.CH_CSYNC.PER.key 0 0, Reg.CH_CSYNC.ARM.key 0 0]) ∧
      (s.rd Reg.CH_CSYNC_AT.AT ≤ s.rd Reg.CH_TIME.TIME → ∃ t, exec (.csyncArm m per) s = .next t ∧ t.rd Reg.CH_CSYNC.ARM = 0 ∧ t.rd Reg.CH_EVT.CSYNC_LATE = 1 ∧
      OnlyRegs s t [Reg.CH_CSYNC.PER.key 0 0, Reg.CH_CSYNC.ARM.key 0 0, Reg.CH_EVT.CSYNC_LATE.key 0 0])) ∧
  (∀ (s : State), (s.present islCHN = true → s.on Reg.CH_CSYNC.ARM = true → s.chainTime = s.rd Reg.CH_CSYNC_AT.AT → exec .carrierSync s = .next (s.csyncRaise s.chainTime)) ∧
      (s.present islCHN = false ∨ s.on Reg.CH_CSYNC.ARM = false ∨ s.chainTime ≠ s.rd Reg.CH_CSYNC_AT.AT → exec .carrierSync s = .next s) ∧
      (s.rd Reg.CH_CSYNC.PER = 0 → (s.csyncRaise s.chainTime).rd Reg.CH_CSYNC.ARM = 0) ∧
      (s.rd Reg.CH_CSYNC.PER ≠ 0 → (s.csyncRaise s.chainTime).rd Reg.CH_CSYNC_AT.AT = (s.rd Reg.CH_CSYNC_AT.AT + s.rd Reg.CH_CSYNC.PER * ((s.chainTime - s.rd Reg.CH_CSYNC_AT.AT) / s.rd Reg.CH_CSYNC.PER + 1)) % 2 ^ 64)) ∧
  (∀ (m : Master) (id : BitVec 16) (s : State), s.ready (Reg.CH_MC_CTRL.PREPARE.addr 0 0) = true → (s.rd Reg.CH_CFG.ROLE < 2 ∨ s.rd Reg.CH_STATUS.ENUM_DONE = 0 ∨ s.rd Reg.CH_MC_RES.RESULT = 1 ∨ s.rd Reg.CH_MC_RES.RESULT = 2 → ∃ t, exec (.prepareWrite m id) s = .next t ∧
      t.rd Reg.CH_EVT.CMD_ERR = 1 ∧ OnlyRegs s t [Reg.CH_MC_CTRL.ID.key 0 0, Reg.CH_EVT.CMD_ERR.key 0 0]) ∧
      (s.rd Reg.CH_CFG.ROLE = 2 → s.rd Reg.CH_STATUS.ENUM_DONE = 1 → s.rd Reg.CH_MC_RES.RESULT = 0 → s.rd Reg.CH_CFG.ACCEPT = 0 → ∃ t, exec (.prepareWrite m id) s = .next t ∧
      t.rd Reg.CH_MC_RES.RESULT = 4 ∧ t.rd Reg.CH_EVT.MC_EVT = 1 ∧ t.rd Reg.CH_MC_MAP.APPLIED = 0 ∧ (s.rd Reg.CH_MC_STAT.STATE ≠ 1 → t.rd Reg.CH_MC_STAT.STATE = 3 ∧ t.rd Reg.CH_MC_STAT.REASON = 1 ∧ t.rd Reg.CH_MC_STAT.ID = id.toNat))) ∧
  (∀ (s : State) (id t : Nat), (s.mcCheck id t = 0 → (s.mcArm id t).2 = 0 ∧ (s.mcArm id t).1.rd Reg.CH_MC_STAT.STATE = 1 ∧ (s.mcArm id t).1.rd Reg.CH_MC_STAT.ID = id % 65536 ∧ (s.mcArm id t).1.rd Reg.CH_MC_STAT.REASON = 0 ∧
      (s.mcArm id t).1.rd Reg.CH_MC_STAT.CMT = 0 ∧ (s.mcArm id t).1.ch.t = t) ∧
      (s.mcCheck id t ≠ 0 → s.rd Reg.CH_MC_STAT.STATE = 1 → s.mcArm id t = (s, s.mcCheck id t)) ∧
      (s.mcCheck id t ≠ 0 → s.rd Reg.CH_MC_STAT.STATE ≠ 1 → (s.mcArm id t).2 = s.mcCheck id t ∧ (s.mcArm id t).1.rd Reg.CH_MC_STAT.STATE = 3 ∧ (s.mcArm id t).1.rd Reg.CH_MC_STAT.REASON = s.mcCheck id t)) ∧
  (∀ (p : Fin 2) (f : ChFrame) (first : Bool) (s : State), s.chOn = true → s.chUp p.val = true → f.bad = false → s.on Reg.CH_STATUS.ADDR_OK = true → f.dest = s.rd Reg.CH_STATUS.ADDR → (s.rd Reg.CH_STATUS.ADDR < 64) → (f.typ = 0x10 → (s.mcArm (f.words.getD 0 0 % 2 ^ 16) (ofTwo f.words 1)).2 = 0 → exec (.chPrepare p f first) s = .next ((s.mcArm (f.words.getD 0 0 % 2 ^ 16) (ofTwo f.words 1)).1.chSend 0x11 0 [f.words.getD 0 0 % 2 ^ 16])) ∧
      (f.typ = 0x10 → ∀ r, r ≠ 0 → (s.mcArm (f.words.getD 0 0 % 2 ^ 16) (ofTwo f.words 1)).2 = r → exec (.chPrepare p f first) s = .next ((s.mcArm (f.words.getD 0 0 % 2 ^ 16) (ofTwo f.words 1)).1.chSend 0x12 0 [f.words.getD 0 0 % 2 ^ 16, r])) ∧
      (f.typ = 0x11 → s.mcMine f.words = true → exec (.chArmed p f first) s = .next { s with ch := { s.ch with armed := withBit s.ch.armed (f.src % 64) } }) ∧
      (f.typ = 0x11 → s.mcMine f.words = false → exec (.chArmed p f first) s = .next s) ∧
      (f.typ = 0x12 → s.mcMine f.words = true → exec (.chRefused p f first) s = .next { s with ch := { s.ch with refused := withBit s.ch.refused (f.src % 64) } }) ∧
      (f.typ = 0x13 → s.rd Reg.CH_MC_STAT.STATE = 1 → s.rd Reg.CH_MC_STAT.ID = f.words.getD 0 0 → exec (.chCommit p f first) s = .next (s.wr Reg.CH_MC_STAT.CMT 0 1)) ∧
      (f.typ = 0x13 → s.rd Reg.CH_MC_STAT.STATE ≠ 1 → exec (.chCommit p f first) s = .next s) ∧
      (f.typ = 0x14 → s.rd Reg.CH_MC_STAT.STATE = 1 → s.rd Reg.CH_MC_STAT.ID = f.words.getD 0 0 → ∃ t, exec (.chAbort p f first) s = .next t ∧ t.rd Reg.CH_MC_STAT.STATE = 4 ∧ t.rd Reg.CH_EVT.MC_EVT = 1 ∧
      OnlyRegs s t [Reg.CH_MC_STAT.STATE.key 0 0, Reg.CH_EVT.MC_EVT.key 0 0]) ∧
      (f.typ = 0x15 → s.mcMine f.words = true → exec (.chApplied p f first) s = .next (s.mcApplied (f.src % 64))) ∧
      (f.typ = 0x16 → exec (.chExpired p f first) s = .next s) ∧
      (f.typ = 0x22 → s.rd Reg.CH_CFG.RST_EN = 1 → f.words.getD 0 0 = s.rd Reg.CH_STATUS.ADDR → exec (.chReset p f first) s = .next (s.chResetIn 5000)) ∧
      (f.typ = 0x22 → s.rd Reg.CH_CFG.RST_EN = 0 → exec (.chReset p f first) s = .next s)) ∧
  (∀ (s : State), s.present islCHN = true → (s.rd Reg.CH_MC_RES.RESULT = 1 → covers s.ch.armed s.ch.mS = true → s.ch.refused = 0 → s.chainTime + 500 * s.rd Reg.CH_MC_TMO.LEAD_US ≤ s.ch.mT → ∃ t, exec .mcArmTimeout s = .next t ∧
      t.rd Reg.CH_MC_RES.RESULT = 2 ∧ t.rd Reg.CH_EVT.MC_EVT = 1 ∧ t.rd Reg.CH_MC_STAT.STATE = s.rd Reg.CH_MC_STAT.STATE ∧
      t.ch.rep = [(s.now + 1000, 0x13, s.ch.mId), (s.now + 2000, 0x13, s.ch.mId)]) ∧
      (s.rd Reg.CH_MC_RES.RESULT = 1 → s.ch.mAt + 500 * s.rd Reg.CH_MC_TMO.ARM_TMO_US ≤ s.now → covers s.ch.armed s.ch.mS = false → ∃ t, exec .mcArmTimeout s = .next t ∧
      t.rd Reg.CH_MC_RES.RESULT = 4 ∧ t.rd Reg.CH_EVT.MC_EVT = 1 ∧ (s.rd Reg.CH_MC_STAT.STATE = 1 → s.rd Reg.CH_MC_STAT.ID = s.ch.mId → t.rd Reg.CH_MC_STAT.STATE = 4)) ∧
      (s.rd Reg.CH_MC_RES.RESULT ≠ 1 → exec .mcArmTimeout s = .next s) ∧
      (s.rd Reg.CH_MC_RES.RESULT = 2 → s.ch.mT + 50000 ≤ s.chainTime → ∃ t, exec .mcResultTimeout s = .next t ∧ t.rd Reg.CH_MC_RES.RESULT = 5 ∧ t.rd Reg.CH_EVT.MC_EVT = 1 ∧
      OnlyRegs s t [Reg.CH_MC_RES.RESULT.key 0 0, Reg.CH_EVT.MC_EVT.key 0 0]) ∧
      (s.rd Reg.CH_MC_RES.RESULT ≠ 2 ∨ s.chainTime < s.ch.mT + 50000 → exec .mcResultTimeout s = .next s)) ∧
  (∀ (s : State), s.chOn = true → (s.rd Reg.CH_MC_STAT.STATE ≠ 1 ∨ s.chainTime < s.ch.t → exec .mcApply s = .next s) ∧
      (s.rd Reg.CH_MC_STAT.STATE = 1 → s.ch.t ≤ s.chainTime → s.on Reg.CH_MC_STAT.CMT = true →
      exec .mcApply s = .next (((s.mcWrites.onlyIf (!s.on Reg.CH_STATUS.TLOCK) (·.flag Reg.CH_MC_STAT.LOCK_LOST 0)).mcState 2).mcReport true)) ∧
      (s.rd Reg.CH_MC_STAT.STATE = 1 → s.ch.t ≤ s.chainTime → s.on Reg.CH_MC_STAT.CMT = false → ∃ t, exec .mcApply s = .next t ∧ t.rd Reg.CH_MC_STAT.STATE = 5 ∧ t.rd Reg.CH_EVT.MC_EVT = 1)) ∧
  (∀ (m : Master) (target : Fin 64) (s : State), s.ready (Reg.CH_CMD.RESET_ONE.addr 0 0) = true → s.ready (Reg.CH_CMD.RESET_ALL.addr 0 0) = true → (s.rd Reg.CH_CFG.ROLE < 2 → (∃ t, exec (.resetOne m target) s = .next t ∧ t.rd Reg.CH_EVT.CMD_ERR = 1 ∧ OnlyRegs s t [Reg.CH_CMD.TARGET.key 0 0, Reg.CH_EVT.CMD_ERR.key 0 0]) ∧
      (∃ t, exec (.resetAll m) s = .next t ∧ t.rd Reg.CH_EVT.CMD_ERR = 1 ∧ OnlyRegs s t [Reg.CH_EVT.CMD_ERR.key 0 0])) ∧
      (s.rd Reg.CH_CFG.ROLE = 2 → (exec (.resetOne m target) s = .next (((s.wr Reg.CH_CMD.TARGET 0 target.val).chSend 0x22 target.val [target.val]).ack m)) ∧
      (s.ch.rstAt = none → ∃ t, exec (.resetAll m) s = .next t ∧ t.ch.rstAt = some (s.now + 10000)))) ∧
  (∀ (s : State), (∀ d, s.ch.rstAt = none → s.chResetIn d = { s with ch := { s.ch with rstAt := some (s.now + d) } }) ∧
      (∀ t, s.ch.rstAt = some t → s.present islCHN = true → t ≤ s.now → exec .chainResetApply s = .next s.mReset) ∧
      (∀ t, s.ch.rstAt = some t → s.now < t → exec .chainResetApply s = .next s) ∧
      (s.ch.rstAt = none → exec .chainResetApply s = .next s))

/-- MARKs carry chain time round the ring and a member follows it (MARK_EMIT, MARK, MARK_APPLY, MARK_MISSING). The master sends a
MARK with its chain time in both directions when one is due. A member takes a first copy into its estimate, with the error that
the time, the corrections and the link delay give, and forwards it with its correction and count advanced; the master takes its
own copies off the ring. Applying an estimate within 1 ns for the sixteenth time in a row sets TLOCK, and an error up to 64 ticks
steers PLL-T by -16 ppm per ns within TRK_SLEW. A third MARK in a row that does not come clears TLOCK with TLOCK_LOST and sets
MASTER_LOST. It rests on the model's choices of log entry 25. -/
def Obligations.ChainTime : Prop :=
  (∀ (s : State), s.chOn = true → (s.chRole = 2 → s.ch.markAt = none → ∃ t, exec .markEmit s = .next t ∧ t.ch.markAt = some s.now ∧ t.regs = s.regs ∧
      (s.chUp 0 = true → s.chUp 1 = true → s.chWrapped 0 = false → s.chWrapped 1 = false → t.chOut = s.chOut ++ [(1, .mark s.chainTime 0 0 false), (0, .mark s.chainTime 0 0 true)])) ∧
      (s.chRole = 2 → ∀ k, s.ch.markAt = some k → s.now < k + 2048 → exec .markEmit s = .next s) ∧
      (s.chRole ≠ 2 → exec .markEmit s = .next s)) ∧
  (∀ (p : Fin 2) (time : BitVec 64) (corr : BitVec 32) (hops : BitVec 8) (dir first : Bool) (sub : Fin 64) (res : Nat) (s : State), s.chOn = true → s.chUp p.val = true → (s.chRole = 2 → exec (.chMark p time corr hops dir first sub res) s = .next s) ∧
      (s.chRole = 1 → first = true → s.ch.mark = none → exec (.chMark p time corr hops dir first sub res) s =
      .next ((s.chNewMark ⟨time.toNat, hops.toNat, ((64 * s.chainTime + sub.val : Nat) : Int) - ((64 * time.toNat + corr.toNat + s.rd Reg.CH_PORT.DELAY p.val : Nat) : Int), s.now, 1⟩).chEmit p.val
      (.mark time.toNat ((corr.toNat + s.rd Reg.CH_PORT.DELAY p.val + res) % 2 ^ 32) ((hops.toNat + 1) % 256) dir))) ∧
      (s.chRole = 0 ∨ s.chRole = 1 ∧ first = false → exec (.chMark p time corr hops dir first sub res) s =
      .next (s.chEmit p.val (.mark time.toNat ((corr.toNat + s.rd Reg.CH_PORT.DELAY p.val + res) % 2 ^ 32) ((hops.toNat + 1) % 256) dir)))) ∧
  (∀ (k : ChMark) (s : State), s.chOn = true → s.chRole = 1 → s.ch.mark = some k → k.n = 2 → (k.err.natAbs ≤ 32) → s.rd Reg.PLL_STAT.STATE 0 = 2 → ∃ t, exec .markApply s = .next t ∧ (15 ≤ s.ch.good → t.rd Reg.CH_STATUS.TLOCK = 1) ∧
      t.rd Reg.PLL_PHERR.FOFS 0 = (clampI (-(s.rd Reg.CLK_TRK.TRK_SLEW : Int)) (s.rd Reg.CLK_TRK.TRK_SLEW) (-8 * k.err) % 65536).toNat ∧ t.ch.good = s.ch.good + 1 ∧ t.ch.bad = 0 ∧ t.rd Reg.CH_TIME.TIME = s.rd Reg.CH_TIME.TIME) ∧
  (∀ (s : State), s.chOn = true → (s.chRole = 1 → s.ch.markIn = none → s.ch.gone = 2 → s.ch.bad = 2 → s.rd Reg.CH_STATUS.TLOCK = 1 → ∃ t, exec .markMissing s = .next t ∧ t.rd Reg.CH_STATUS.MASTER_LOST = 1 ∧ t.rd Reg.CH_STATUS.TLOCK = 0 ∧
      t.rd Reg.CH_EVT.TLOCK_LOST = 1) ∧
      (s.chRole ≠ 1 → exec .markMissing s = .next s) ∧
      (∀ k, s.ch.markIn = some k → s.now ≤ k + 2048 → exec .markMissing s = .next s))

/-- CAN controllers start, stop, queue, select, cancel, release and recover (CAN_RUN, CAN_STOP, CAN_SYNC_DONE, TXREQ, TXCAN,
RXFULL_RELEASE, CAN_TX_SELECT, CAN_ARBITRATION_LOST, REC_START, CAN_RECOVERY_DONE). RUN in INIT is refused with the code of the
first check that fails; else the controller enters SYNC, or BUSOFF where TEC is still above 255. RUN = 0 on an idle bus returns to
INIT with RUN and REC_START clear and TEC kept. SYNC ends in the state of the counters. A legal request makes its buffer pending,
an illegal one sets TX_ERR; a cancel of a pending buffer whose frame has not begun takes it back with CANCELLED, one of a frame in
progress sets CANCEL_LATE. A write of RXFULL bits releases those buffers. A selection takes the one pending buffer, and the start
of frame begins it; losing arbitration leaves it pending. REC_START acts in BUSOFF only, and the recovery ends in ACTIVE with the
counters at 0. It rests on the model's choices of log entry 26. -/
def Obligations.CanControllers : Prop :=
  (∀ (m : Master) (n : Fin 6) (s : State), s.ready (Reg.CAN_CTRL.RUN.addr n.val 0) = true → s.canState n.val = 0 → (s.canRunCode n.val = 0 → s.rd Reg.CAN_STAT.TEC n.val ≤ 255 → ∃ t, exec (.canRun m n) s = .next t ∧ t.rd Reg.CAN_CTRL.RUN n.val = 1 ∧ t.rd Reg.CAN_STAT.STATE n.val = 1 ∧
      OnlyRegs s t [Reg.CAN_CTRL.RUN.key n.val 0, Reg.CAN_STAT.STATE.key n.val 0]) ∧
      (s.canRunCode n.val = 0 → 255 < s.rd Reg.CAN_STAT.TEC n.val → ∃ t, exec (.canRun m n) s = .next t ∧ t.rd Reg.CAN_CTRL.RUN n.val = 1 ∧ t.rd Reg.CAN_STAT.STATE n.val = 4 ∧ t.rd Reg.CAN_EVT.BUSOFF n.val = 1 ∧
      OnlyRegs s t [Reg.CAN_CTRL.RUN.key n.val 0, Reg.CAN_STAT.STATE.key n.val 0, Reg.CAN_EVT.BUSOFF.key n.val 0]) ∧
      (s.canRunCode n.val ≠ 0 → ∃ t, exec (.canRun m n) s = .next t ∧ t.rd Reg.CAN_EVT.CFG_ERR n.val = 1 ∧ t.rd Reg.CAN_EVT.CFG_CODE n.val = s.canRunCode n.val ∧
      OnlyRegs s t [Reg.CAN_EVT.CFG_CODE.key n.val 0, Reg.CAN_EVT.CFG_ERR.key n.val 0])) ∧
  (∀ (m : Master) (n : Fin 6) (idle : Bool) (s : State), s.ready (Reg.CAN_CTRL.RUN.addr n.val 0) = true → (s.canState n.val = 0 → exec (.canStop m n idle) s = .next (s.ack m)) ∧
      (s.canState n.val = 4 ∨ s.canState n.val = 5 ∨ (s.canState n.val ≠ 0 ∧ idle = true ∧ (s.can n.val).begun = false) → ∃ t, exec (.canStop m n idle) s = .next t ∧
      t.rd Reg.CAN_STAT.STATE n.val = 0 ∧ t.rd Reg.CAN_CTRL.RUN n.val = 0 ∧ t.rd Reg.CAN_CTRL.REC_START n.val = 0 ∧ t.rd Reg.CAN_STAT.TEC n.val = s.rd Reg.CAN_STAT.TEC n.val ∧
      (t.can n.val).sel = none ∧ t.mem = s.mem) ∧
      (s.canState n.val = 1 ∨ s.canState n.val = 2 ∨ s.canState n.val = 3 ∨ s.canState n.val = 6 → idle = false ∨ (s.can n.val).begun = true → ∃ t, exec (.canStop m n idle) s = .next t ∧
      t.rd Reg.CAN_STAT.STATE n.val = 6 ∧ t.rd Reg.CAN_CTRL.RUN n.val = 0 ∧ OnlyRegs s t [Reg.CAN_CTRL.RUN.key n.val 0, Reg.CAN_STAT.STATE.key n.val 0])) ∧
  (∀ (m : Master) (n : Fin 6) (s : State), (s.present islCAN = true → s.canState n.val = 1 → ∃ t, exec (.canSyncDone n) s = .next t ∧ t.rd Reg.CAN_STAT.STATE n.val = s.canErrState n.val ∧ OnlyRegs s t [Reg.CAN_STAT.STATE.key n.val 0]) ∧
      (s.canState n.val ≠ 1 → exec (.canSyncDone n) s = .next s) ∧
      (s.ready (Reg.CAN_CTRL.REC_START.addr n.val 0) = true → s.canState n.val = 4 → ∃ t, exec (.recStart m n) s = .next t ∧ t.rd Reg.CAN_STAT.STATE n.val = 5 ∧ t.rd Reg.CAN_CTRL.REC_START n.val = 1 ∧
      OnlyRegs s t [Reg.CAN_STAT.STATE.key n.val 0, Reg.CAN_CTRL.REC_START.key n.val 0]) ∧
      (s.ready (Reg.CAN_CTRL.REC_START.addr n.val 0) = true → s.canState n.val ≠ 4 → exec (.recStart m n) s = .next (s.ack m)) ∧
      (s.present islCAN = true → s.canState n.val = 5 → ∃ t, exec (.canRecoveryDone n) s = .next t ∧ t.rd Reg.CAN_STAT.STATE n.val = 2 ∧ t.rd Reg.CAN_STAT.TEC n.val = 0 ∧ t.rd Reg.CAN_STAT.REC n.val = 0 ∧
      t.rd Reg.CAN_CTRL.REC_START n.val = 0 ∧ t.rd Reg.CAN_STAT.BOFF_VALID n.val = s.rd Reg.CAN_STAT.BOFF_VALID n.val) ∧
      (s.canState n.val ≠ 5 → exec (.canRecoveryDone n) s = .next s)) ∧
  (∀ (m : Master) (n : Fin 6) (b : Fin 32) (w : Fin 2) (s : State), s.ready (Reg.CAN_TXREQ.REQ.addr n.val w.val) = true → (s.canDir n.val (32 * w.val + b.val) = 1 → bitAt (s.canCtl n.val (32 * w.val + b.val)) 4 = false → s.canBit Reg.CAN_TXPEND.PEND n.val (32 * w.val + b.val) = false →
      ∃ t, exec (.txreq m n w (BitVec.ofNat 32 (2 ^ b.val)) 0) s = .next t ∧ t.canBit Reg.CAN_TXPEND.PEND n.val (32 * w.val + b.val) = true ∧ OnlyRegs s t [Reg.CAN_TXPEND.PEND.key n.val w.val]) ∧
      (s.canDir n.val (32 * w.val + b.val) ≠ 1 ∨ s.canBit Reg.CAN_TXPEND.PEND n.val (32 * w.val + b.val) = true →
      ∃ t, exec (.txreq m n w (BitVec.ofNat 32 (2 ^ b.val)) 0) s = .next t ∧ t.rd Reg.CAN_EVT.TX_ERR n.val = 1 ∧ OnlyRegs s t [Reg.CAN_EVT.TX_ERR.key n.val 0])) ∧
  (∀ (m : Master) (n : Fin 6) (b : Fin 32) (w : Fin 2) (s : State), s.ready (Reg.CAN_TXCAN.CAN.addr n.val w.val) = true → s.canBit Reg.CAN_TXPEND.PEND n.val (32 * w.val + b.val) = true → (((s.can n.val).begun = false ∨ (s.can n.val).sel ≠ some (32 * w.val + b.val)) → ∃ t, exec (.txcan m n w (BitVec.ofNat 32 (2 ^ b.val))) s = .next t ∧
      t.canBit Reg.CAN_TXPEND.PEND n.val (32 * w.val + b.val) = false ∧ t.rd Reg.CAN_EVT.CANCELLED n.val = 1 ∧ t.mem = s.mem) ∧
      ((s.can n.val).begun = true → (s.can n.val).sel = some (32 * w.val + b.val) → ∃ t, exec (.txcan m n w (BitVec.ofNat 32 (2 ^ b.val))) s = .next t ∧
      t.rd Reg.CAN_EVT.CANCEL_LATE n.val = 1 ∧ OnlyRegs s t [Reg.CAN_EVT.CANCEL_LATE.key n.val 0])) ∧
  (∀ (m : Master) (n : Fin 6) (b : Fin 32) (w : Fin 2) (s : State), s.ready (Reg.CAN_RXFULL.FULL.addr n.val w.val) = true → ∃ t, exec (.rxfullRelease m n w (BitVec.ofNat 32 (2 ^ b.val))) s = .next t ∧ t.canBit Reg.CAN_RXFULL.FULL n.val (32 * w.val + b.val) = false ∧ OnlyRegs s t [Reg.CAN_RXFULL.FULL.key n.val w.val]) ∧
  (∀ (n : Fin 6) (b : Nat) (s : State), s.present islCAN = true → s.canState n.val = 2 → s.rd Reg.CAN_CTRL.MODE n.val = 0 → s.rd Reg.CAN_STAT.BOFF_VALID n.val = 0 → (s.can n.val).begun = false → (s.canPending n.val = [b] → ∃ t, exec (.canTxSelect n false) s = .next t ∧ (t.can n.val).sel = some b ∧ (t.can n.val).begun = false ∧ t.regs = s.regs) ∧
      ((s.can n.val).sel = some b → ∃ t, exec (.canTxSelect n true) s = .next t ∧ (t.can n.val).sel = some b ∧ (t.can n.val).begun = true ∧
      (t.can n.val).sof = s.rd Reg.CH_TIME.TIME / 2 ^ s.rd Reg.CAN_CTRL.TS_SHIFT n.val % 2 ^ 32 ∧ t.regs = s.regs) ∧
      ((s.can n.val).sel = none → exec (.canTxSelect n true) s = .next s)) ∧
  (∀ (n : Fin 6) (s : State), s.canOnBus n.val = true → (s.can n.val).begun = true → ∃ t, exec (.canArbitrationLost n) s = .next t ∧ (t.can n.val).begun = false ∧ (t.can n.val).sel = none ∧ t.regs = s.regs ∧ t.mem = s.mem)

/-- CAN frames sent, received and failed (CAN_TX_DONE, CAN_FRAME_RX, CAN_BUS_ERROR, PROTOCOL_EXCEPTION_EVENT). A completed frame
takes its buffer from TXPEND to TXDONE, sets TXF, stamps the buffer with the counter at its start of frame, clears LEC and takes
one from TEC. A received frame enters the lowest free matching buffer, which becomes full, and takes one from a REC of at most
127; with no match nothing is stored. A bus error shows its kind in LEC and adds 8 to the sender's TEC, or 1 to a receiver's REC;
a TEC above 255 leads to BUSOFF, with the buffer of the frame kept. A recessive res bit sets PXE and returns the controller to
SYNC, or is a form error with PXHD = 1. It rests on the model's choices of log entries 2, 26. -/
def Obligations.CanFrames : Prop :=
  (∀ (n : Fin 6) (tdcv : BitVec 7) (b : Fin 64) (s : State), s.present islCAN = true → s.canState n.val = 2 → s.rd Reg.CAN_CTRL.MODE n.val = 0 → (s.can n.val).begun = true → (s.can n.val).sel = some b.val → (s.rd Reg.CAN_STAT.TEC n.val ≤ 127) → (s.rd Reg.CAN_STAT.REC n.val ≤ 127) → ∃ t, exec (.canTxDone n tdcv) s = .next t ∧ t.canBit Reg.CAN_TXPEND.PEND n.val b.val = false ∧ t.canBit Reg.CAN_TXDONE.DONE n.val b.val = true ∧ t.rd Reg.CAN_EVT.TXF n.val = 1 ∧
      t.rd Reg.CAN_STAT.LEC n.val = 0 ∧ t.rd Reg.CAN_STAT.TEC n.val = s.rd Reg.CAN_STAT.TEC n.val - 1 ∧ (t.can n.val).begun = false ∧ t.rd Reg.CAN_STAT.STATE n.val = 2 ∧
      t.mem = (s.setWord (canBuf n.val b.val 0x0C) (s.can n.val).sof).mem) ∧
  (∀ (n : Fin 6) (id : BitVec 31) (dlc : Fin 16) (brs esi : Bool) (data : List (BitVec 8)) (sof : BitVec 64) (b : Fin 64) (s : State), s.present islCAN = true → s.canState n.val = 2 → s.rd Reg.CAN_CTRL.MODE n.val = 0 → (s.can n.val).begun = false → (s.rd Reg.CAN_STAT.REC n.val ≤ 127) → (s.rd Reg.CAN_STAT.TEC n.val ≤ 127) → ((List.range 64).filter (fun b => s.canMatch n.val b id.toNat false) = [] → ∃ t, exec (.canFrameRx n id dlc false brs esi data sof 0) s = .next t ∧ t.mem = s.mem ∧
      t.rd Reg.CAN_STAT.LEC n.val = 0 ∧ t.rd Reg.CAN_STAT.REC n.val = s.rd Reg.CAN_STAT.REC n.val - 1 ∧ t.rd Reg.CAN_EVT.RXF n.val = s.rd Reg.CAN_EVT.RXF n.val) ∧
      ((List.range 64).find? (fun b => s.canMatch n.val b id.toNat false && !s.canBit Reg.CAN_RXFULL.FULL n.val b) = some b.val → ∃ t, exec (.canFrameRx n id dlc false brs esi data sof 0) s = .next t ∧
      t.canBit Reg.CAN_RXFULL.FULL n.val b.val = true ∧ t.rd Reg.CAN_EVT.RXF n.val = 1 ∧ t.rd Reg.CAN_STAT.LEC n.val = 0 ∧ t.rd Reg.CAN_STAT.REC n.val = s.rd Reg.CAN_STAT.REC n.val - 1 ∧
      t.mem = (s.canStore n.val b.val id.toNat (dlc.val + b2n brs * 32 + b2n esi * 64) (s.canTs n.val sof.toNat) (data.map (·.toNat))).mem)) ∧
  (∀ (n : Fin 6) (kind : Fin 6) (exempt grave : Bool) (s : State), s.present islCAN = true → s.canState n.val = 2 → s.rd Reg.CAN_CTRL.MODE n.val = 0 → (s.rd Reg.CAN_STAT.REC n.val < 120) → (s.rd Reg.CAN_STAT.TEC n.val ≤ 255) → ((s.can n.val).begun = true → s.rd Reg.CAN_STAT.TEC n.val < 120 → ∃ t, exec (.canBusError n kind exempt grave) s = .next t ∧ t.rd Reg.CAN_STAT.LEC n.val = kind.val + 1 ∧
      t.rd Reg.CAN_STAT.TEC n.val = (if exempt then s.rd Reg.CAN_STAT.TEC n.val else s.rd Reg.CAN_STAT.TEC n.val + 8) ∧ t.rd Reg.CAN_STAT.STATE n.val = 2 ∧ (t.can n.val).begun = false) ∧
      ((s.can n.val).begun = true → ∀ b, b < 64 → (s.can n.val).sel = some b → exempt = false → 248 ≤ s.rd Reg.CAN_STAT.TEC n.val → ∃ t, exec (.canBusError n kind exempt grave) s = .next t ∧ t.rd Reg.CAN_STAT.STATE n.val = 4 ∧ t.rd Reg.CAN_EVT.BUSOFF n.val = 1 ∧
      t.rd Reg.CAN_STAT.BOFF_BUF n.val = b ∧ t.rd Reg.CAN_STAT.BOFF_VALID n.val = 1) ∧
      ((s.can n.val).begun = false → s.rd Reg.CAN_STAT.TEC n.val < 128 → ∃ t, exec (.canBusError n kind exempt grave) s = .next t ∧ t.rd Reg.CAN_STAT.LEC n.val = kind.val + 1 ∧
      t.rd Reg.CAN_STAT.REC n.val = s.rd Reg.CAN_STAT.REC n.val + (if grave then 8 else 1) ∧ t.rd Reg.CAN_STAT.TEC n.val = s.rd Reg.CAN_STAT.TEC n.val)) ∧
  (∀ (n : Fin 6) (s : State), s.present islCAN = true → s.canState n.val = 2 → (s.rd Reg.CAN_CTRL.PXHD n.val = 0 → ∃ t, exec (.protocolExceptionEvent n) s = .next t ∧ t.rd Reg.CAN_EVT.PXE n.val = 1 ∧ t.rd Reg.CAN_STAT.STATE n.val = 1 ∧ (t.can n.val).begun = false ∧
      t.rd Reg.CAN_STAT.TEC n.val = s.rd Reg.CAN_STAT.TEC n.val) ∧
      (s.rd Reg.CAN_CTRL.PXHD n.val = 1 → exec (.protocolExceptionEvent n) s = .next (s.canError n.val 2 false false)))

/-- References, band selection, lock and return of the loops (REF_LOST, REF_VALID, LOCAL_SEL, CRYSTAL_WAIT_EXPIRY, PLL_ENABLE,
RELOCK, BAND_TRY_TIMEOUT, BAND_SELECTION_RETRY, PLL_LOCK, PLL_UNLOCK, PLLS_RETURN, SLEW_DONE, TICK_STRETCH). A lost source clears
its valid bit and sets REF_LOST, and reaches the loops only when it is in use. A source that becomes valid sets its bit and
REF_BACK. LOCAL_SEL for a source that is not valid is refused with code 1. A stop or relock of PLL-T while a timebase runs, or of
PLL-C while the chain is enabled, is refused with code 3. An entry that does not lock gives way to the next one, and with none
left the loop stops with BAND_ERR. Lock shows STATE 3 and LOCK; PLL-T that loses it coasts with T_COAST and FOFS 0; PLL-S returns
its islands with S_RETURN after 1 ms. A slew ends within 0.5 ns with FOFS 0. The stretched tick sets T_STEP and shows the phase
error. It rests on the model's choices of log entries 7, 27. -/
def Obligations.ClockReferences : Prop :=
  (∀ (src : Fin 2) (e : BitVec 16) (s : State), s.present islCLK = true → (s.rd Reg.CLK_REF.LOCAL ≠ src.val + 1 → ∃ t, exec (.refLost src.castSucc e) s = .next t ∧ t.rd (refBit (src.val + 1)) = 0 ∧ t.rd Reg.CLK_EVT.REF_LOST = 1 ∧
      OnlyRegs s t [(refBit (src.val + 1)).key 0 0, Reg.CLK_EVT.REF_LOST.key 0 0]) ∧
      (s.rd Reg.CLK_REF.LOCAL = src.val + 1 → s.rd Reg.CLK_REF.LOCAL_SEL = 0 → s.rd (refBit (3 - (src.val + 1))) = 1 →
      exec (.refLost src.castSucc e) s = .next (((((s.wr (refBit (src.val + 1)) 0 0).flag Reg.CLK_EVT.REF_LOST 0).wr Reg.CLK_REF.LOCAL 0 (2 - src.val)).flag Reg.CLK_EVT.REF_BACK 0).localCycle e.toInt)) ∧
      (s.rd Reg.CLK_REF.LOCAL = src.val + 1 → s.rd (refBit (3 - (src.val + 1))) = 0 →
      exec (.refLost src.castSucc e) s = .next (foldEach (fun k t => t.pllLoss k) ((s.wr (refBit (src.val + 1)) 0 0).flag Reg.CLK_EVT.REF_LOST 0).localLoops (((s.wr (refBit (src.val + 1)) 0 0).flag Reg.CLK_EVT.REF_LOST 0).wr Reg.CLK_REF.LOCAL 0 0)))) ∧
  (∀ (src : Fin 2) (e : BitVec 16) (s : State), s.present islCLK = true → s.rd (refBit (src.val + 1)) = 0 → (s.rd Reg.CLK_REF.LOCAL ≠ src.val + 1) → (s.rd Reg.CLK_REF.LOCAL ≠ 0) → ∃ t, exec (.refValid src.castSucc e) s = .next t ∧ t.rd (refBit (src.val + 1)) = 1 ∧ t.rd Reg.CLK_EVT.REF_BACK = 1 ∧ OnlyRegs s t [(refBit (src.val + 1)).key 0 0, Reg.CLK_EVT.REF_BACK.key 0 0]) ∧
  (∀ (m : Master) (v : Fin 4) (e : BitVec 16) (s : State), s.ready (Reg.CLK_REF.LOCAL_SEL.addr 0 0) = true → (v = 1 ∨ v = 2 → s.rd (refBit v.val) = 0 → ∃ t, exec (.localSel m v e) s = .next t ∧ t.rd Reg.CLK_EVT.CFG_ERR = 1 ∧ t.rd Reg.CLK_REF.CFG_CODE = 1 ∧ OnlyRegs s t [Reg.CLK_REF.CFG_CODE.key 0 0, Reg.CLK_EVT.CFG_ERR.key 0 0]) ∧
      (v = 0 ∨ v = 3 ∨ (s.rd (refBit v.val) = 1 ∧ s.rd Reg.CLK_REF.LOCAL = v.val) → ∃ t, exec (.localSel m v e) s = .next t ∧ t.rd Reg.CLK_REF.LOCAL_SEL = v.val ∧ OnlyRegs s t [Reg.CLK_REF.LOCAL_SEL.key 0 0])) ∧
  (∀ (t : Nat) (s : State), s.clk.wait = some t → (s.present islCLK = true → t + 1000000 ≤ s.now → s.rd Reg.CLK_REF.LOCAL = 0 → s.rd Reg.CLK_REF.REFCLK_OK = 1 → exec .crystalWaitExpiry s = .next (({ s with clk := { s.clk with wait := none } } : State).localChosen 2 0)) ∧
      (s.present islCLK = true → t + 1000000 ≤ s.now → s.rd Reg.CLK_REF.LOCAL ≠ 0 ∨ s.rd Reg.CLK_REF.REFCLK_OK = 0 → exec .crystalWaitExpiry s = .next { s with clk := { s.clk with wait := none } }) ∧
      (s.present islCLK = false ∨ s.now < t + 1000000 → exec .crystalWaitExpiry s = .next s)) ∧
  (∀ (m : Master) (k : Fin 3) (s : State), s.ready (Reg.PLL_CTRL.EN.addr k.val 0) = true → s.ready (Reg.PLL_CTRL.RELOCK.addr k.val 0) = true → s.rd Reg.PLL_CTRL.EN k.val = 1 → (s.pllFree k.val = false → (∃ t, exec (.pllEnable m k false) s = .next t ∧ exec (.relock m k) s = .next t ∧ t.rd Reg.CLK_EVT.CFG_ERR = 1 ∧ t.rd Reg.CLK_REF.CFG_CODE = 3 ∧
      OnlyRegs s t [Reg.CLK_REF.CFG_CODE.key 0 0, Reg.CLK_EVT.CFG_ERR.key 0 0])) ∧
      (s.pllFree k.val = true → exec (.relock m k) s = .next (((s.pllQuit k.val).bandSelect k.val).ack m)) ∧
      (exec (.pllEnable m k true) s = .next (s.ack m)) ∧
      (k = 0 → s.pllFree 0 = true → ∃ t, exec (.pllEnable m k false) s = .next t ∧ t.rd Reg.PLL_CTRL.EN 0 = 0 ∧ t.rd Reg.PLL_STAT.STATE 0 = 0 ∧ t.rd Reg.PLL_STAT.LOCK 0 = 0 ∧
      OnlyRegs s { t with clk := s.clk } [Reg.PLL_CTRL.EN.key 0 0, Reg.PLL_STAT.STATE.key 0 0, Reg.PLL_STAT.LOCK.key 0 0])) ∧
  (∀ (k : Fin 3) (i code i0 : Nat) (rest : List (Nat × Nat)) (s : State), s.present islCLK = true → s.pllSt k.val = 2 → ((s.pll k.val).since + 210000 ≤ s.now) → ((s.pll k.val).cand = (i0, code) :: (i, code) :: rest → i < 32 → code < 64 → ∃ t, exec (.bandTryTimeout k) s = .next t ∧ t.rd Reg.PLL_STAT.ENTRY k.val = i ∧ t.rd Reg.PLL_STAT.BAND k.val = code ∧
      t.rd Reg.PLL_STAT.STATE k.val = 1 ∧ t.rd Reg.PLL_STAT.LOCK k.val = 0 ∧ (t.pll k.val).since = s.now) ∧
      ((s.pll k.val).cand = [(i0, code)] → ∃ t, exec (.bandTryTimeout k) s = .next t ∧ t.rd Reg.PLL_STAT.STATE k.val = 0 ∧ t.rd Reg.PLL_STAT.LOCK k.val = 0 ∧ t.rd Reg.CLK_EVT.BAND_ERR = 1 ∧ (t.pll k.val).errAt = some s.now) ∧
      ((s.pll k.val).cand = [] → exec (.bandTryTimeout k) s = .next s)) ∧
  (∀ (k : Fin 3) (t : Nat) (s : State), (s.pll k.val).errAt = some t → (s.present islCLK = true → s.present islALD = true → s.pllSt k.val = 0 → t + 50000000 ≤ s.now → exec (.bandSelectionRetry k) s = .next (s.pllRelock k.val)) ∧
      (s.now < t + 50000000 → exec (.bandSelectionRetry k) s = .next s)) ∧
  (∀ (s : State), s.present islCLK = true → (s.rd Reg.PLL_CTRL.EN 1 = 1 → s.pllRefOk 1 = true → s.pllSt 1 = 2 ∨ s.pllSt 1 = 6 → ∃ t, exec (.pllLock 1) s = .next t ∧ t.rd Reg.PLL_STAT.STATE 1 = 3 ∧ t.rd Reg.PLL_STAT.LOCK 1 = 1 ∧ (t.pll 1).lockAt = s.now ∧
      OnlyRegs s { t with clk := s.clk } [Reg.PLL_STAT.STATE.key 1 0, Reg.PLL_STAT.LOCK.key 1 0]) ∧
      (s.pllSt 0 = 3 → ∃ t, exec (.pllUnlock 0) s = .next t ∧ t.rd Reg.PLL_STAT.STATE 0 = 4 ∧ t.rd Reg.PLL_STAT.LOCK 0 = 0 ∧ t.rd Reg.CLK_EVT.T_COAST = 1 ∧ t.rd Reg.PLL_PHERR.FOFS 0 = 0 ∧
      OnlyRegs s { t with clk := s.clk } [Reg.PLL_STAT.STATE.key 0 0, Reg.PLL_STAT.LOCK.key 0 0, Reg.PLL_PHERR.FOFS.key 0 0, Reg.CLK_EVT.T_COAST.key 0 0]) ∧
      (s.pllSt 1 = 3 → s.clk.sOn = false → ∃ t, exec (.pllUnlock 1) s = .next t ∧ t.rd Reg.PLL_STAT.STATE 1 = 6 ∧ t.rd Reg.PLL_STAT.LOCK 1 = 0 ∧ OnlyRegs s t [Reg.PLL_STAT.STATE.key 1 0, Reg.PLL_STAT.LOCK.key 1 0]) ∧
      (s.pllSt 1 = 3 → s.clk.sOn = true → exec (.pllUnlock 1) s = .next (s.setPllSt 1 6).toBypass) ∧
      (s.pllSt 1 = 3 → s.clk.sOn = false → (s.pll 1).lockAt + 500000 ≤ s.now → ∃ t, exec .pllsReturn s = .next t ∧ t.clk.sOn = true ∧ t.rd Reg.CLK_EVT.S_RETURN = 1) ∧
      (s.pllSt 1 ≠ 3 ∨ s.clk.sOn = true ∨ s.now < (s.pll 1).lockAt + 500000 → exec .pllsReturn s = .next s)) ∧
  (∀ (e : BitVec 16) (s : State), s.present islCLK = true → s.pllSt 0 = 5 → (s.pll 0).closed = false → ((s.pll 0).step = false → e.toInt.natAbs ≤ 16 → ∃ t, exec (.slewDone e) s = .next t ∧ t.rd Reg.PLL_PHERR.FOFS 0 = 0 ∧ t.rd Reg.PLL_PHERR.PH_ERR 0 = e.toNat ∧ (t.pll 0).closed = true ∧
      OnlyRegs s { t with clk := s.clk } [Reg.PLL_PHERR.PH_ERR.key 0 0, Reg.PLL_PHERR.FOFS.key 0 0]) ∧
      ((s.pll 0).step = false → 16 < e.toInt.natAbs → ∃ t, exec (.slewDone e) s = .next t ∧ t.rd Reg.PLL_PHERR.PH_ERR 0 = e.toNat ∧ OnlyRegs s t [Reg.PLL_PHERR.PH_ERR.key 0 0]) ∧
      ((s.pll 0).step = true → s.tbRunning (s.rd Reg.PLL_CTRL.STEP_TB 0) = false → ∃ t, exec (.tickStretch e) s = .next t ∧ t.rd Reg.CLK_EVT.T_STEP = 1 ∧ t.rd Reg.PLL_PHERR.PH_ERR 0 = e.toNat ∧
      (t.pll 0).closed = true ∧ t.clk.stretch = some (s.now, stretchOf e.toInt) ∧ OnlyRegs s { t with clk := s.clk } [Reg.PLL_PHERR.PH_ERR.key 0 0, Reg.CLK_EVT.T_STEP.key 0 0]) ∧
      ((s.pll 0).step = false → exec (.tickStretch e) s = .next s))

/-- Supply events, the loaded input, starts and wakes, the shutdown request and Clay (VLV_RISE, VLV_FALL, HVA_RISE, HVA_FALL,
PREF_WRITE, NRESET, SHDN, SAFETY_REGION_FALL, CLAY_SUPPLY_LOSS, INPUT_MEASUREMENT, WAKE_PIN, WAKE_AT_MATCH, CLAY_COLD_START,
CAP_CLR). An input that becomes present shows its bit and its event, and the load goes to the only present input or, with both, to
the one PREF selects; while the module is off it starts with WAKE_CAUSE 6, in hibernation only the event is remembered. An input
that is lost shows its event; with the other present that one takes the load; with none the discharge set stays at V_HB of 40 V or
more and everything falls below. nRESET acts as an M reset while the module runs and as a P reset in hibernation, with WAKE_CAUSE
4. A shutdown is refused with the codes of R402 in their order. The wake pin and the alarm start a hibernating module with causes
1 and 2 and are latched in a shutdown. The Clay cold start zeroes the memory; CAP_CLR zeroes the capture area and its counters.
How a start after a Clay cold start records cause 0 and how a rise in hibernation is remembered are the model's choice (log entry
28). It rests on the model's choices of log entries 28, 29. -/
def Obligations.PowerInputs : Prop :=
  (∀ (s : State), s.on Reg.PWR_STATUS.VLV_OK = false → (s.pwr.mode = 0 → ∃ t, exec .vlvRise s = .next t ∧ t.rd Reg.PWR_STATUS.VLV_OK = 1 ∧ t.rd Reg.PWR_STATUS.VLV_OVR = 0 ∧ t.rd Reg.PWR_EVT.VLV_RISE = 1 ∧ t.rd Reg.ROW_STATUS.LV_LOST = 0 ∧
      (s.on Reg.PWR_STATUS.HVA_OK = false → t.rd Reg.PWR_STATUS.SRC = 0) ∧ (s.on Reg.PWR_STATUS.HVA_OK = true → s.rd Reg.PWR_CTRL.PREF < 2 → t.rd Reg.PWR_STATUS.SRC = s.rd Reg.PWR_CTRL.PREF) ∧
      OnlyRegs s t [Reg.PWR_STATUS.VLV_OK.key 0 0, Reg.PWR_STATUS.VLV_OVR.key 0 0, Reg.PWR_STATUS.SRC.key 0 0, Reg.PWR_EVT.SRC_CHG.key 0 0, Reg.PWR_EVT.VLV_RISE.key 0 0, Reg.ROW_STATUS.LV_LOST.key 0 0, Reg.CPX_IRQ_PEND.PEND.key 1 0]) ∧
      (s.pwr.mode = 1 → ∃ t, exec .vlvRise s = .next t ∧ t.rd Reg.PWR_STATUS.VLV_OK = 1 ∧ t.pwr = { s.pwr with riseV := true } ∧
      OnlyRegs s { t with pwr := s.pwr } [Reg.PWR_STATUS.VLV_OK.key 0 0, Reg.PWR_STATUS.VLV_OVR.key 0 0, Reg.PWR_STATUS.SRC.key 0 0, Reg.PWR_EVT.SRC_CHG.key 0 0, Reg.ROW_STATUS.LV_LOST.key 0 0, Reg.CPX_IRQ_PEND.PEND.key 1 0]) ∧
      (s.pwr.mode = 2 → exec .vlvRise s = .next ((((((s.wr Reg.PWR_STATUS.VLV_OK 0 1).wr Reg.PWR_STATUS.VLV_OVR 0 0).rowStatus Reg.ROW_STATUS.LV_LOST 0).pickSource s.fed).powerStart 6).flag Reg.PWR_EVT.VLV_RISE 0)) ∧
      (s.pwr.mode = 3 → exec .vlvRise s = .next ((((((s.wr Reg.PWR_STATUS.VLV_OK 0 1).wr Reg.PWR_STATUS.VLV_OVR 0 0).rowStatus Reg.ROW_STATUS.LV_LOST 0).pickSource s.fed).dischargeStart).flag Reg.PWR_EVT.VLV_RISE 0)) ∧
      (s.pwr.mode = 4 → exec .vlvRise s = .next ((((((s.wr Reg.PWR_STATUS.VLV_OK 0 1).wr Reg.PWR_STATUS.VLV_OVR 0 0).rowStatus Reg.ROW_STATUS.LV_LOST 0).pickSource s.fed).coldStart.powerStart 6).flag Reg.PWR_EVT.VLV_RISE 0))) ∧
  (∀ (ac : Bool) (s : State), s.on Reg.PWR_STATUS.HVA_OK = false → (s.pwr.mode = 0 → s.rd Reg.PWR_STATUS.PWR_STATE ≠ 3 → ∃ t, exec (.hvaRise ac) s = .next t ∧ t.rd Reg.PWR_STATUS.HVA_OK = 1 ∧ t.rd Reg.PWR_STATUS.HVA_AC = b2n ac ∧ t.rd Reg.PWR_EVT.HVA_RISE = 1 ∧
      (s.on Reg.PWR_STATUS.VLV_OK = false → t.rd Reg.PWR_STATUS.SRC = 1) ∧ (s.on Reg.PWR_STATUS.VLV_OK = true → s.rd Reg.PWR_CTRL.PREF < 2 → t.rd Reg.PWR_STATUS.SRC = s.rd Reg.PWR_CTRL.PREF) ∧
      OnlyRegs s t [Reg.PWR_STATUS.HVA_OK.key 0 0, Reg.PWR_STATUS.HVA_AC.key 0 0, Reg.PWR_STATUS.SRC.key 0 0, Reg.PWR_EVT.SRC_CHG.key 0 0, Reg.PWR_EVT.HVA_RISE.key 0 0]) ∧
      (s.pwr.mode = 0 → s.rd Reg.PWR_STATUS.PWR_STATE = 3 → s.pwr.wake = none → s.on Reg.CLY_WAKE_CFG.EN_HVA = true → ∃ t, exec (.hvaRise ac) s = .next t ∧ t.pwr = { s.pwr with wake := some 3 } ∧ t.rd Reg.PWR_EVT.HVA_RISE = 1 ∧
      OnlyRegs s { t with pwr := s.pwr } [Reg.PWR_STATUS.HVA_OK.key 0 0, Reg.PWR_STATUS.HVA_AC.key 0 0, Reg.PWR_STATUS.SRC.key 0 0, Reg.PWR_EVT.SRC_CHG.key 0 0, Reg.PWR_EVT.HVA_RISE.key 0 0]) ∧
      (s.pwr.mode = 1 → s.on Reg.CLY_WAKE_CFG.EN_HVA = false → ∃ t, exec (.hvaRise ac) s = .next t ∧ t.rd Reg.PWR_STATUS.HVA_OK = 1 ∧ t.pwr = { s.pwr with riseH := true } ∧
      OnlyRegs s { t with pwr := s.pwr } [Reg.PWR_STATUS.HVA_OK.key 0 0, Reg.PWR_STATUS.HVA_AC.key 0 0, Reg.PWR_STATUS.SRC.key 0 0, Reg.PWR_EVT.SRC_CHG.key 0 0]) ∧
      (s.pwr.mode = 1 → s.on Reg.CLY_WAKE_CFG.EN_HVA = true → exec (.hvaRise ac) s = .next (State.powerStart { ((s.wr Reg.PWR_STATUS.HVA_OK 0 1).wr Reg.PWR_STATUS.HVA_AC 0 (b2n ac)).pickSource s.fed with pwr := { s.pwr with riseH := true } } 3)) ∧
      (s.pwr.mode = 2 → exec (.hvaRise ac) s = .next (((((s.wr Reg.PWR_STATUS.HVA_OK 0 1).wr Reg.PWR_STATUS.HVA_AC 0 (b2n ac)).pickSource s.fed).powerStart 6).flag Reg.PWR_EVT.HVA_RISE 0)) ∧
      (s.pwr.mode = 3 → exec (.hvaRise ac) s = .next (((((s.wr Reg.PWR_STATUS.HVA_OK 0 1).wr Reg.PWR_STATUS.HVA_AC 0 (b2n ac)).pickSource s.fed).dischargeStart).flag Reg.PWR_EVT.HVA_RISE 0)) ∧
      (s.pwr.mode = 4 → exec (.hvaRise ac) s = .next (((((s.wr Reg.PWR_STATUS.HVA_OK 0 1).wr Reg.PWR_STATUS.HVA_AC 0 (b2n ac)).pickSource s.fed).coldStart.powerStart 6).flag Reg.PWR_EVT.HVA_RISE 0))) ∧
  (∀ (ovr : Bool) (vhb : BitVec 16) (s : State), s.on Reg.PWR_STATUS.VLV_OK = true → (s.on Reg.PWR_STATUS.HVA_OK = true → ∃ t, exec (.vlvFall ovr vhb) s = .next t ∧ t.rd Reg.PWR_STATUS.VLV_OK = 0 ∧ t.rd Reg.PWR_STATUS.VLV_OVR = b2n ovr ∧ t.rd Reg.PWR_EVT.VLV_FALL = 1 ∧ t.rd Reg.PWR_STATUS.SRC = 1 ∧
      (s.rd Reg.PWR_STATUS.SRC = 0 → t.rd Reg.PWR_EVT.SRC_CHG = 1) ∧ t.pwr.vlvAt = s.now ∧
      OnlyRegs s { t with pwr := s.pwr } [Reg.PWR_STATUS.VLV_OK.key 0 0, Reg.PWR_STATUS.VLV_OVR.key 0 0, Reg.PWR_STATUS.SRC.key 0 0, Reg.PWR_EVT.SRC_CHG.key 0 0, Reg.PWR_EVT.VLV_FALL.key 0 0]) ∧
      (s.on Reg.PWR_STATUS.HVA_OK = false → s.pwr.mode = 0 → 40 ≤ vhb.toNat → exec (.vlvFall ovr vhb) s = .next (State.enterDischarge { ((s.wr Reg.PWR_STATUS.VLV_OK 0 0).wr Reg.PWR_STATUS.VLV_OVR 0 (b2n ovr)).flag Reg.PWR_EVT.VLV_FALL 0 with pwr := { s.pwr with vlvAt := s.now } })) ∧
      (s.on Reg.PWR_STATUS.HVA_OK = false → s.pwr.mode = 0 → vhb.toNat < 40 → exec (.vlvFall ovr vhb) s = .next (State.powerOff { ((s.wr Reg.PWR_STATUS.VLV_OK 0 0).wr Reg.PWR_STATUS.VLV_OVR 0 (b2n ovr)).flag Reg.PWR_EVT.VLV_FALL 0 with pwr := { s.pwr with vlvAt := s.now } } 2)) ∧
      (s.on Reg.PWR_STATUS.HVA_OK = false → s.pwr.mode = 1 → exec (.vlvFall ovr vhb) s = .next (State.setMode { ((s.wr Reg.PWR_STATUS.VLV_OK 0 0).wr Reg.PWR_STATUS.VLV_OVR 0 (b2n ovr)).flag Reg.PWR_EVT.VLV_FALL 0 with pwr := { s.pwr with vlvAt := s.now } } 2))) ∧
  (∀ (vhb : BitVec 16) (s : State), s.on Reg.PWR_STATUS.HVA_OK = true → (s.on Reg.PWR_STATUS.VLV_OK = true → ∃ t, exec (.hvaFall vhb) s = .next t ∧ t.rd Reg.PWR_STATUS.HVA_OK = 0 ∧ t.rd Reg.PWR_STATUS.HVA_AC = 0 ∧ t.rd Reg.PWR_EVT.HVA_FALL = 1 ∧ t.rd Reg.PWR_STATUS.SRC = 0 ∧
      (s.rd Reg.PWR_STATUS.SRC = 1 → t.rd Reg.PWR_EVT.SRC_CHG = 1) ∧
      OnlyRegs s t [Reg.PWR_STATUS.HVA_OK.key 0 0, Reg.PWR_STATUS.HVA_AC.key 0 0, Reg.PWR_STATUS.SRC.key 0 0, Reg.PWR_EVT.SRC_CHG.key 0 0, Reg.PWR_EVT.HVA_FALL.key 0 0]) ∧
      (s.on Reg.PWR_STATUS.VLV_OK = false → s.pwr.mode = 0 → 40 ≤ vhb.toNat → exec (.hvaFall vhb) s = .next (State.enterDischarge (((s.wr Reg.PWR_STATUS.HVA_OK 0 0).wr Reg.PWR_STATUS.HVA_AC 0 0).flag Reg.PWR_EVT.HVA_FALL 0))) ∧
      (s.on Reg.PWR_STATUS.VLV_OK = false → s.pwr.mode = 0 → vhb.toNat < 40 → exec (.hvaFall vhb) s = .next (State.powerOff (((s.wr Reg.PWR_STATUS.HVA_OK 0 0).wr Reg.PWR_STATUS.HVA_AC 0 0).flag Reg.PWR_EVT.HVA_FALL 0) 2)) ∧
      (s.on Reg.PWR_STATUS.VLV_OK = false → s.pwr.mode = 1 → exec (.hvaFall vhb) s = .next (State.setMode (((s.wr Reg.PWR_STATUS.HVA_OK 0 0).wr Reg.PWR_STATUS.HVA_AC 0 0).flag Reg.PWR_EVT.HVA_FALL 0) 2))) ∧
  (∀ (m : Master) (v : Bool) (s : State), s.ready (Reg.PWR_CTRL.PREF.addr 0 0) = true → ∃ t, exec (.prefWrite m v) s = .next t ∧ t.rd Reg.PWR_CTRL.PREF = b2n v ∧ t.respOf m = ⟨false, 0⟩ ∧
      (s.on Reg.PWR_STATUS.VLV_OK = true → s.on Reg.PWR_STATUS.HVA_OK = true → t.rd Reg.PWR_STATUS.SRC = b2n v) ∧
      (s.on Reg.PWR_STATUS.VLV_OK = false → s.on Reg.PWR_STATUS.HVA_OK = true → t.rd Reg.PWR_STATUS.SRC = 1) ∧
      (s.on Reg.PWR_STATUS.VLV_OK = true → s.on Reg.PWR_STATUS.HVA_OK = false → t.rd Reg.PWR_STATUS.SRC = 0) ∧
      OnlyRegs s t [Reg.PWR_CTRL.PREF.key 0 0, Reg.PWR_STATUS.SRC.key 0 0, Reg.PWR_EVT.SRC_CHG.key 0 0]) ∧
  (∀ (s : State), (s.pwr.mode = 0 → ∃ t, exec .nreset s = .next t ∧ t = s.mReset.wakeCause 4 ∧ t.rd Reg.CLY_STAT.WAKE_CAUSE = 4 ∧ t.mem = s.mem) ∧
      (s.pwr.mode = 1 → s.pwr.cold = false → ∃ t, exec .nreset s = .next t ∧ t = (s.pReset.setMode 0).wakeCause 4 ∧ t.rd Reg.CLY_STAT.WAKE_CAUSE = 4 ∧ t.pwr.mode = 0) ∧
      (s.pwr.mode = 2 ∨ s.pwr.mode = 3 ∨ s.pwr.mode = 4 → exec .nreset s = .next s)) ∧
  (∀ (m : Master) (s : State), s.ready (Reg.PWR_CTRL.SHDN.addr 0 0) = true → (s.shdnCode ≠ 0 → ∃ t, exec (.shdn m) s = .next t ∧ t.rd Reg.PWR_EVT.SD_DENIED = 1 ∧ t.rd Reg.PWR_EVT.SD_CODE = s.shdnCode ∧ t.respOf m = ⟨false, 0⟩ ∧
      OnlyRegs s t [Reg.PWR_EVT.SD_DENIED.key 0 0, Reg.PWR_EVT.SD_CODE.key 0 0]) ∧
      ((∃ n < 8, s.stgEnabled n = true) → s.shdnCode = 1) ∧
      ((∀ n < 8, s.stgEnabled n = false) → (∃ n < 8, s.rd Reg.ROW_DIS.DSTATE n = 1 ∨ s.rd Reg.ROW_DIS.DSTATE n = 2) → s.shdnCode = 2) ∧
      ((∀ n < 8, s.stgEnabled n = false) → (∀ n < 8, s.rd Reg.ROW_DIS.DSTATE n ≠ 1 ∧ s.rd Reg.ROW_DIS.DSTATE n ≠ 2) →
      (s.rd Reg.PWR_STATUS.PWR_STATE = 3 → s.shdnCode = 3) ∧ (s.rd Reg.PWR_STATUS.PWR_STATE = 1 → s.shdnCode = 4) ∧ (s.rd Reg.PWR_STATUS.PWR_STATE = 2 → s.shdnCode = 0)) ∧
      (s.shdnCode = 0 → s.on Reg.PWR_CTRL.SKIP_ST = false →
      exec (.shdn m) s = .next (({ (s.wr Reg.PWR_STATUS.PWR_STATE 0 3).flag Reg.PWR_CTRL.SHDN 0 with pwr := { s.pwr with wake := none } } : State).startRun.testHold.ack m)) ∧
      (s.shdnCode = 0 → s.on Reg.PWR_CTRL.SKIP_ST = true →
      exec (.shdn m) s = .next (({ (s.wr Reg.PWR_STATUS.PWR_STATE 0 3).flag Reg.PWR_CTRL.SHDN 0 with pwr := { s.pwr with wake := none } } : State).shutdownEnd.ack m))) ∧
  (∀ (s : State), (s.pwr.mode = 3 → exec .safetyRegionFall s = .next (s.powerOff 2)) ∧
      (s.pwr.mode ≠ 3 → exec .safetyRegionFall s = .next s) ∧
      (s.pwr.mode = 1 ∨ s.pwr.mode = 2 → exec .claySupplyLoss s = .next { s with pwr := { s.pwr with mode := 4 }, rails := [] }) ∧
      (s.pwr.mode = 0 ∨ s.pwr.mode = 3 ∨ s.pwr.mode = 4 → exec .claySupplyLoss s = .next s) ∧
      (s.railUp 8 = true → exec .clayColdStart s = .next s) ∧
      (s.railUp 8 = false → ∃ t, exec .clayColdStart s = .next t ∧ (∀ x, 0x4C000000 ≤ x → x < 0x4C004000 → t.byte x = 0) ∧ (∀ x, x < 0x4C000000 ∨ 0x4C004000 ≤ x → t.byte x = s.byte x) ∧
      t.railUp 8 = true ∧ t.pwr.cold = true ∧ t.rd Reg.CLY_STAT.COLD = 1 ∧ t.rd Reg.CLY_STAT.WAKE_CAUSE = 0 ∧ t.rd Reg.CLY_CNT.CNT = 0)) ∧
  (∀ (vlv : BitVec 16) (vhb : BitVec 16) (mw : Nat) (s : State), s.present islPCV = true → ∃ t, exec (.inputMeasurement vlv vhb mw) s = .next t ∧ t.rd Reg.PWR_MEAS.VLV_CV = vlv.toNat ∧ t.rd Reg.PWR_MEAS.HVA_V = vhb.toNat ∧ t.rd Reg.PWR_IN.P_MW = min mw 65535 ∧
      OnlyRegs s t [Reg.PWR_MEAS.VLV_CV.key 0 0, Reg.PWR_MEAS.HVA_V.key 0 0, Reg.PWR_IN.P_MW.key 0 0]) ∧
  (∀ (lvl : Bool) (s : State), (s.pwr.mode ≠ 4 → lvl = false ∨ s.on Reg.CLY_WAKE_CFG.EN_PIN = false → ∃ t, exec (.wakePin lvl) s = .next t ∧ t.rd Reg.CLY_STAT.WAKE_LVL = b2n lvl ∧ OnlyRegs s t [Reg.CLY_STAT.WAKE_LVL.key 0 0]) ∧
      (s.pwr.mode = 1 → s.on Reg.CLY_WAKE_CFG.EN_PIN = true → exec (.wakePin true) s = .next ((s.wr Reg.CLY_STAT.WAKE_LVL 0 1).powerStart 1)) ∧
      (s.pwr.mode = 0 → s.rd Reg.PWR_STATUS.PWR_STATE = 3 → s.pwr.wake = none → s.on Reg.CLY_WAKE_CFG.EN_PIN = true →
      exec (.wakePin true) s = .next { s.wr Reg.CLY_STAT.WAKE_LVL 0 1 with pwr := { s.pwr with wake := some 1 } }) ∧
      (s.pwr.mode = 4 → exec (.wakePin lvl) s = .next s) ∧
      (s.pwr.mode = 1 → s.on Reg.CLY_WAKE_CFG.EN_RTC = true → s.rd Reg.CLY_CNT.CNT = s.rd Reg.CLY_WAKE_AT.AT → exec .wakeAtMatch s = .next (s.powerStart 2)) ∧
      (s.pwr.mode = 0 → s.rd Reg.PWR_STATUS.PWR_STATE = 3 → s.pwr.wake = none → s.on Reg.CLY_WAKE_CFG.EN_RTC = true → s.rd Reg.CLY_CNT.CNT = s.rd Reg.CLY_WAKE_AT.AT →
      exec .wakeAtMatch s = .next { s with pwr := { s.pwr with wake := some 2 } }) ∧
      (s.on Reg.CLY_WAKE_CFG.EN_RTC = false ∨ s.rd Reg.CLY_CNT.CNT ≠ s.rd Reg.CLY_WAKE_AT.AT → exec .wakeAtMatch s = .next s)) ∧
  (∀ (m : Master) (s : State), s.ready (Reg.CLY_CTRL.CAP_CLR.addr 0 0) = true → ∃ t, exec (.capClr m) s = .next t ∧ t.rd Reg.CLY_STAT.CAP_WR = 0 ∧ t.rd Reg.CLY_STAT.CAP_CNT = 0 ∧ t.pwr.capDone = s.pwr.capTot ∧ t.respOf m = ⟨false, 0⟩ ∧
      (∀ x, 0x4C001000 ≤ x → x < 0x4C001400 → t.byte x = 0) ∧ (∀ x, x < 0x4C001000 ∨ 0x4C001400 ≤ x → t.byte x = s.byte x) ∧ RegsBut s t [Reg.CLY_STAT.CAP_WR.key 0 0, Reg.CLY_STAT.CAP_CNT.key 0 0])

/-- Island resets, power-down and power-up, island faults, rails, die links and the gate driver supply (RST_REQ,
ISLAND_RESET_RELEASE, ISL_REL, ISLAND_POWER_DOWN, ISLAND_POWER_UP, ISLAND_POWERED, ISLAND_CLOCK_LOST, RAIL_FAULT, POWER_GOOD,
DIE_LINK_LOSS, DIE_LINK_RETURN, VGIO_RISE, VGIO_FALL). RST_REQ and PD are refused as R405 lists, with RST_DENIED or PD_DENIED and
the island number; an accepted RST_REQ holds the island in D reset for 500 ticks, and the release clears RST_REQ and IN_RESET
where nothing else holds the island. PD clears POWERED; PD = 0 starts the rise of the supplies, and good supplies set POWERED. REL
releases a faulted island once its clock and rail are back. A lost clock or rail first trips the stages with units in the islands,
then holds them in D reset with FAULT and ISL_FAULT set. A lost die link is seen by the trip nodes of R23's table. A rise or fall
of VGIO unloads every polarity latch. It rests on the model's choices of log entries 2, 30. -/
def Obligations.IslandRequests : Prop :=
  (∀ (m : Master) (isl : Fin 39) (s : State), s.ready (Reg.ISL_CTRL.RST_REQ.addr isl.val 0) = true → (s.on Reg.ISL_CTRL.PD isl.val = true ∨ s.on Reg.ISL_STAT.POWERED isl.val = false → exec (.rstReq m isl) s = .next (s.ack m)) ∧
      (s.on Reg.ISL_CTRL.PD isl.val = false → s.on Reg.ISL_STAT.POWERED isl.val = true →
      (s.islBusy isl.val = true ∨ isl.val ∈ [islMSG, islCLK, islPCV, islCLY] ∨ ((isl.val = islRWN ∨ isl.val = islCPX) ∧ s.safeEnabled = true) →
      ∃ t, exec (.rstReq m isl) s = .next t ∧ t.rd Reg.PWR_EVT.RST_DENIED = 1 ∧ t.rd Reg.PWR_EVT.DENY_ISL = isl.val ∧ t.respOf m = ⟨false, 0⟩ ∧
      OnlyRegs s t [Reg.PWR_EVT.RST_DENIED.key 0 0, Reg.PWR_EVT.DENY_ISL.key 0 0]) ∧
      (s.islBusy isl.val = false → isl.val ∉ [islMSG, islCLK, islPCV, islCLY] → ((isl.val = islRWN ∨ isl.val = islCPX) → s.safeEnabled = false) →
      ∃ t, exec (.rstReq m isl) s = .next t ∧ t.rd Reg.ISL_CTRL.RST_REQ isl.val = 1 ∧ SMap.get none t.pwr.hold isl.val = some (s.now + 500) ∧ t.respOf m = ⟨false, 0⟩ ∧
      t.regs = ((s.enterReset isl.val).wr Reg.ISL_CTRL.RST_REQ isl.val 1).regs ∧ t.mem = s.mem))) ∧
  (∀ (isl : Fin 39) (h : Nat) (s : State), SMap.get none s.pwr.hold isl.val = some h → (s.now < h → exec (.islandResetRelease isl) s = .next s) ∧
      (h ≤ s.now → exec (.islandResetRelease isl) s = .next ((({ s with pwr := { s.pwr with hold := SMap.set none s.pwr.hold isl.val none } } : State).wr Reg.ISL_CTRL.RST_REQ isl.val 0).leaveReset isl.val)) ∧
      (h ≤ s.now → isl.val ≠ islCPX → isl.val ≠ islALD → isl.val ≠ islISF → s.st.under.contains isl.val = false → s.on Reg.ISL_STAT.POWERED isl.val = true → s.on Reg.ISL_STAT.RAIL_OK isl.val = true → s.on Reg.ISL_STAT.CLK_OK isl.val = true →
      s.on Reg.ISL_STAT.FAULT isl.val = false → SMap.get none s.pwr.pup isl.val = none → s.on Reg.ISL_STAT.IN_RESET isl.val = true → ∃ t, exec (.islandResetRelease isl) s = .next t ∧ t.rd Reg.ISL_STAT.IN_RESET isl.val = 0 ∧
      t.rd Reg.ISL_CTRL.RST_REQ isl.val = 0 ∧ SMap.get none t.pwr.hold isl.val = none ∧ OnlyRegs s { t with pwr := s.pwr } [Reg.ISL_CTRL.RST_REQ.key isl.val 0, Reg.ISL_STAT.IN_RESET.key isl.val 0])) ∧
  (∀ (m : Master) (isl : Fin 39) (clk : Bool) (s : State), s.ready (Reg.ISL_CTRL.REL.addr isl.val 0) = true → (s.on Reg.ISL_STAT.FAULT isl.val = false → exec (.islRel m isl clk) s = .next (s.ack m)) ∧
      (s.on Reg.ISL_STAT.FAULT isl.val = true → (clk = true ∨ s.on Reg.ISL_STAT.CLK_OK isl.val = true) → s.on Reg.ISL_STAT.RAIL_OK isl.val = true →
      exec (.islRel m isl clk) s = .next ((((s.onlyIf clk (·.wr Reg.ISL_STAT.CLK_OK isl.val 1)).wr Reg.ISL_STAT.FAULT isl.val 0).leaveReset isl.val).ack m)) ∧
      (s.on Reg.ISL_STAT.FAULT isl.val = true → clk = false → s.on Reg.ISL_STAT.CLK_OK isl.val = false → exec (.islRel m isl clk) s = .next (s.ack m)) ∧
      (s.on Reg.ISL_STAT.FAULT isl.val = true → s.on Reg.ISL_STAT.RAIL_OK isl.val = false → ∃ t, exec (.islRel m isl clk) s = .next t ∧ t.on Reg.ISL_STAT.FAULT isl.val = true ∧ t.respOf m = ⟨false, 0⟩ ∧
      OnlyRegs s t [Reg.ISL_STAT.CLK_OK.key isl.val 0])) ∧
  (∀ (m : Master) (isl : Fin 39) (s : State), s.ready (Reg.ISL_CTRL.PD.addr isl.val 0) = true → (s.on Reg.ISL_CTRL.PD isl.val = false → (s.on Reg.ISL_STAT.PD_CAP isl.val = false ∨ s.islBusy isl.val = true ∨ (isl.val = islCPX ∧ s.safeEnabled = true) ∨
      (isl.val = islALD ∧ (s.rd Reg.IMG_STATUS.STATE = 1 ∨ s.rd Reg.PWR_STATUS.PWR_STATE = 3))) →
      ∀ w, ∃ t, exec (.islandPowerDown m isl w) s = .next t ∧ t.rd Reg.PWR_EVT.PD_DENIED = 1 ∧ t.rd Reg.PWR_EVT.DENY_ISL = isl.val ∧ t.respOf m = ⟨false, 0⟩ ∧
      OnlyRegs s t [Reg.PWR_EVT.PD_DENIED.key 0 0, Reg.PWR_EVT.DENY_ISL.key 0 0]) ∧
      (s.on Reg.ISL_CTRL.PD isl.val = false → s.on Reg.ISL_STAT.PD_CAP isl.val = true → s.islBusy isl.val = false → (isl.val = islCPX → s.safeEnabled = false) →
      (isl.val = islALD → s.rd Reg.IMG_STATUS.STATE ≠ 1 ∧ s.rd Reg.PWR_STATUS.PWR_STATE ≠ 3) → ∃ t, exec (.islandPowerDown m isl false) s = .next t ∧ t.rd Reg.ISL_STAT.POWERED isl.val = 0 ∧
      t.rd Reg.ISL_CTRL.PD isl.val = 1 ∧ SMap.get none t.pwr.pup isl.val = none ∧ t.mem = s.mem ∧ t.respOf m = ⟨false, 0⟩ ∧
      t.regs = ((((s.enterReset isl.val).wr Reg.ISL_CTRL.PD isl.val 1).wr Reg.ISL_STAT.POWERED isl.val 0).wr Reg.ISL_CTRL.RST_REQ isl.val 0).regs) ∧
      (s.on Reg.ISL_CTRL.PD isl.val = false → (isl.val = islCPX ∧ s.safeEnabled = false ∨ isl.val = islALD ∧ s.rd Reg.IMG_STATUS.STATE ≠ 1 ∧ s.rd Reg.PWR_STATUS.PWR_STATE ≠ 3) →
      s.on Reg.ISL_STAT.PD_CAP isl.val = true → s.islBusy isl.val = false → exec (.islandPowerDown m isl true) s = .next (s.ack m)) ∧
      (s.on Reg.ISL_CTRL.PD isl.val = true → exec (.islandPowerDown m isl false) s = .next (s.ack m) ∧
      ∃ t, exec (.islandPowerUp m isl) s = .next t ∧ t.rd Reg.ISL_CTRL.PD isl.val = 0 ∧ SMap.get none t.pwr.pup isl.val = some s.now ∧ t.respOf m = ⟨false, 0⟩ ∧
      OnlyRegs s { t with pwr := s.pwr } [Reg.ISL_CTRL.PD.key isl.val 0]) ∧
      (s.on Reg.ISL_CTRL.PD isl.val = false → exec (.islandPowerUp m isl) s = .next (s.ack m))) ∧
  (∀ (isl : Fin 39) (s : State), (SMap.get none s.pwr.pup isl.val = none → exec (.islandPowered isl) s = .next s) ∧
      (∀ h, SMap.get none s.pwr.pup isl.val = some h → exec (.islandPowered isl) s =
      .next ((({ s with pwr := { s.pwr with pup := SMap.set none s.pwr.pup isl.val none } } : State).wr Reg.ISL_STAT.POWERED isl.val 1).leaveReset isl.val))) ∧
  (∀ (isl : Fin 37) (s : State), (s.on Reg.ISL_STAT.POWERED isl.val = false ∨ s.on Reg.ISL_STAT.CLK_OK isl.val = false → exec (.islandClockLost isl) s = .next s) ∧
      (s.on Reg.ISL_STAT.POWERED isl.val = true → s.on Reg.ISL_STAT.CLK_OK isl.val = true → ∃ t, exec (.islandClockLost isl) s = .next t ∧
      t.rd Reg.ISL_STAT.FAULT isl.val = 1 ∧ t.rd Reg.PWR_EVT.ISL_FAULT = 1 ∧
      t = ((((s.wr Reg.ISL_STAT.CLK_OK isl.val 0).tripStages ((s.wr Reg.ISL_STAT.CLK_OK isl.val 0).stagesIn isl.val)).enterReset isl.val).flag Reg.ISL_STAT.FAULT isl.val).flag Reg.PWR_EVT.ISL_FAULT 0)) ∧
  (∀ (s : State), exec (.dieLinkLoss .edge) s = .next (({ s with links := { s.links with edge := true } } : State).tripStages (List.range 8)).showAllActive ∧
      exec (.dieLinkLoss .ret) s = .next (foldEach (fun l t => t.showAdt l) (List.range 24) ({ s with links := { s.links with ret := true } } : State)).showAllActive ∧
      exec (.dieLinkLoss .sample) s = .next (({ s with links := { s.links with sample := true }, linkq := [] } : State).tripStages (stagesWhere s.readsLink)).showAllActive ∧
      exec (.dieLinkLoss .control) s = .next ({ s with links := { s.links with control := true } } : State).showAllActive ∧
      exec (.dieLinkLoss .isol0) s = .next (foldEach (fun c t => t.isoAbandon c) (run 0 4) ({ s with links := { s.links with isol0 := true } } : State)).showAllActive ∧
      exec (.dieLinkLoss .isol1) s = .next (foldEach (fun c t => t.isoAbandon c) (run 4 4) ({ s with links := { s.links with isol1 := true } } : State)).showAllActive ∧
      exec (.dieLinkLoss .clockForward) s = .next (foldEach (fun i (t : State) => if t.on Reg.ISL_STAT.CLK_OK i then t.clockLost i else t) forwardIslands
      (({ s with links := { s.links with clockForward := true } } : State).tripStages (stagesWhere s.claimsDieA))).showAllActive ∧
      exec (.dieLinkReturn .edge) s = .next ({ s with links := { s.links with edge := false } } : State).showAllActive ∧
      exec (.dieLinkReturn .ret) s = .next (foldEach (fun l t => t.showAdt l) (List.range 24) ({ s with links := { s.links with ret := false } } : State)).showAllActive ∧
      exec (.dieLinkReturn .sample) s = .next ({ s with links := { s.links with sample := false } } : State).showAllActive ∧
      exec (.dieLinkReturn .control) s = .next ({ s with links := { s.links with control := false } } : State).showAllActive ∧
      (s.clk.tRun = true → s.links.clockForward = true → exec (.dieLinkReturn .clockForward) s = .next (foldEach (fun i (t : State) => t.clkIsland i) forwardIslands
      ({ s with links := { s.links with clockForward := false } } : State)).showAllActive)) ∧
  (∀ (s : State), (s.vgio = true → exec .vgioRise s = .next s) ∧
      (s.vgio = false → ∃ t, exec .vgioRise s = .next t ∧ t.vgio = true ∧ (∀ l < 24, (t.pad l).polH = none ∧ (t.pad l).polL = none) ∧ t.regs = s.regs ∧ t.mem = s.mem) ∧
      (∃ t, exec .vgioFall s = .next t ∧ t.vgio = false ∧ (∀ l < 24, (t.pad l).polH = none ∧ (t.pad l).polL = none) ∧ t.regs = s.regs ∧ t.mem = s.mem)) ∧
  (∀ (set : RailSet) (s : State), (∃ t, exec (.powerGood set) s = .next t ∧ t.railUp set.no = true ∧ (∀ i < 39, islRail i = some set.no → t.rd Reg.ISL_STAT.RAIL_OK i = 1) ∧ t.mem = s.mem) ∧
      (s.railUp set.no = false → exec (.railFault set) s = .next s) ∧
      (s.railUp 8 = true → exec (.railFault .kalP) s = .next (({ s with rails := SMap.set false s.rails 8 false } : State).showRails.flag Reg.PWR_EVT.PG_FAIL 0)) ∧
      (s.railUp set.no = true → set ≠ .kalP → set ≠ .cmpC → exec (.railFault set) s = .next (foldEach (fun k t => t.dieLinkLost k) (railLinks set.no) (foldEach (fun i t => t.islandFault i) (railIslands set.no)
      ((({ s with rails := SMap.set false s.rails set.no false } : State).showRails.flag Reg.PWR_EVT.PG_FAIL 0).tripStages
      (stagesWhere fun n => (railIslands set.no).any fun i => (s.stagesIn i).contains n))))) ∧
      (s.railUp 5 = true → exec (.railFault .cmpC) s = .next (foldEach (fun k t => t.dieLinkLost k) (railLinks 5) (foldEach (fun i (t : State) => if t.on Reg.ISL_STAT.CLK_OK i then t.clockLost i else t) loopIslands
      (foldEach (fun i t => t.islandFault i) (railIslands 5) ((({ s with rails := SMap.set false s.rails 5 false } : State).showRails.flag Reg.PWR_EVT.PG_FAIL 0).tripStages
      (stagesWhere fun n => (railIslands 5).any fun i => (s.stagesIn i).contains n)))))))

/-- The P and M resets, the start sequence, ECC errors, unit faults, crossing timeouts, the Clay scrubber and capture copies
(POWER_ON_RESET, MODULE_RESET, START_SEQUENCE, ECC_SINGLE_BIT, ECC_DOUBLE_BIT, UNIT_RUNTIME_FAULT, CROSSING_TIMEOUT, SCRUB_PASS,
SCRUB_PASS_END, CAPTURE_COPY). An M reset restores exactly the fields of the classes that name M, keeps memory, and leaves every
override latch set; a P reset restores every field that Clay does not hold and keeps MRAM and Clay. Fields that show a level
(supplies, rails, active trip sources) follow the level. The start sequence runs once after a reset and ends with PWR_STATE =
ACTIVE. A corrected ECC error only counts; a double-bit error ends the access in a bus error, is counted and logged, and trips the
stage of a loop unit's table RAM; in TCM it is met in the core's own copy, at the table port in the entry that the port names. A
unit fault trips the claiming stage and records the unit for retirement. A crossing timeout ends in a bus error and is logged with
the island. That volatile memory reads 0 after a P reset, that a memory other than Clay counts its errors in a counter without a
register, and how the start is one event are the model's choices (log entry 30). It rests on the model's choices of log entries 6,
30. -/
def Obligations.ResetsAndErrors : Prop :=
  (∀ (f : FD) (i j : Nat) (s : State), (f.key i j ∉ shownKeys) → (∃ t, exec .moduleReset s = .next t ∧ t.rd f i j = (if inScope (fun f _ _ => f.cls == .pm || f.cls == .pmd) (f.key i j) then f.rst i j else s.rd f i j) ∧
      t.mem = s.mem ∧ t.tcm = s.tcm ∧ t.links = s.links ∧ t.tbs = [] ∧ t.seqs = [] ∧ t.lus = [] ∧ t.fcs = [] ∧ t.rows = [] ∧ t.cans = [] ∧ (∀ l < 24, (t.pad l).ov = true)) ∧
      (∃ t, exec .powerOnReset s = .next t ∧ t.rd f i j = (if inScope (fun f _ _ => !clayHeld f) (f.key i j) then f.rst i j else s.rd f i j) ∧
      (∀ x, x < 0x1000000 ∨ 0x4C000000 ≤ x ∧ x < 0x4C004000 → t.byte x = s.byte x) ∧ (∀ x, 0x1000000 ≤ x → x < 0x4C000000 ∨ 0x4C004000 ≤ x → t.byte x = 0) ∧
      t.links = Links.init ∧ t.tbs = [] ∧ t.tcm = [] ∧ (∀ l < 24, (t.pad l).ov = true))) ∧
  (∀ (bootsel : Bool) (bands : List (BitVec 32)) (trims : List (BitVec 32)) (s : State), (s.pwr.mode = 0 → s.pwr.begun = false → s.rd Reg.PWR_STATUS.PWR_STATE = 1 → ∃ t, exec (.startSequence bootsel bands trims) s = .next t ∧
      t = s.start bootsel (bands.map (·.toNat)) (trims.map (·.toNat)) ∧ t.rd Reg.PWR_STATUS.PWR_STATE = 2) ∧
      (s.pwr.mode ≠ 0 ∨ s.pwr.begun = true ∨ s.rd Reg.PWR_STATUS.PWR_STATE ≠ 1 → exec (.startSequence bootsel bands trims) s = .next s)) ∧
  (∀ (addr : BitVec 32) (lo n isl : Nat) (s : State), memRangeOf addr.toNat = some (lo, n, isl) → (s.present isl = false → exec (.eccSingleBit addr) s = .next s) ∧
      (s.present isl = true → memNo addr.toNat = some 7 → s.rd Reg.CLY_ECC.SBE_CNT < 2 ^ Reg.CLY_ECC.SBE_CNT.w - 1 → ∃ t, exec (.eccSingleBit addr) s = .next t ∧
      t.rd Reg.CLY_ECC.SBE_CNT = s.rd Reg.CLY_ECC.SBE_CNT + 1 ∧ OnlyRegs s t [Reg.CLY_ECC.SBE_CNT.key 0 0]) ∧
      (∀ k, s.present isl = true → memNo addr.toNat = some k → k ≠ 7 → ∃ t, exec (.eccSingleBit addr) s = .next t ∧ SMap.get 0 t.ecc (2 * k) = SMap.get 0 s.ecc (2 * k) + 1 ∧ { t with ecc := s.ecc } = s)) ∧
  (∀ (m : Master) (addr : BitVec 32) (s : State), (memRangeOf addr.toNat = none → ¬ (addr.toNat = tblPortAddr ∧ s.reach islFPC = true) → exec (.eccDoubleBit m addr) s = .next (s.busErr m addr.toNat)) ∧
      (memRangeOf addr.toNat = none → addr.toNat = tblPortAddr → s.reach islFPC = true → exec (.eccDoubleBit m addr) s =
      .next (({ s with eccBad := if s.eccBad.contains s.portEntry then s.eccBad else s.eccBad ++ [s.portEntry] } : State).tblAccess m false 0)) ∧
      (∀ lo n isl, memRangeOf addr.toNat = some (lo, n, isl) → s.reach isl = false → exec (.eccDoubleBit m addr) s = .next (s.busErr m addr.toNat)) ∧
      (∀ lo n isl, memRangeOf addr.toNat = some (lo, n, isl) → s.reach isl = true → lo ≠ 0x10000000 → isl ≠ islCED → ∃ t, exec (.eccDoubleBit m addr) s = .next t ∧
      t.respOf m = ⟨true, 0⟩ ∧ t.eccBad.contains (addr.toNat / 4 * 4) = true ∧ t.mem = s.mem ∧
      t = ((({ s with eccBad := if s.eccBad.contains (addr.toNat / 4 * 4) then s.eccBad else s.eccBad ++ [addr.toNat / 4 * 4] } : State).eccCount (addr.toNat / 4 * 4) 1).logEv 0x0004 isl (leBytes 4 (addr.toNat / 4 * 4))).busErr m addr.toNat) ∧
      (∀ n isl, memRangeOf addr.toNat = some (0x10000000, n, isl) → s.reach isl = true → exec (.eccDoubleBit m addr) s = .next (s.tcmBad m (addr.toNat - 0x10000000))) ∧
      (∀ lo n k, memRangeOf addr.toNat = some (lo, n, islCED) → s.reach islCED = true → lo ≠ 0x10000000 → s.stageOfLu ((addr.toNat / 4 * 4 - 0x48000000) / 0x10000) = some k →
      exec (.eccDoubleBit m addr) s = .next ((((({ s with eccBad := if s.eccBad.contains (addr.toNat / 4 * 4) then s.eccBad else s.eccBad ++ [addr.toNat / 4 * 4] } : State).eccCount (addr.toNat / 4 * 4) 1).logEv 0x0004 islCED (leBytes 4 (addr.toNat / 4 * 4))).busErr m addr.toNat).tripStages [k]))) ∧
  (∀ (id : Fin 4096) (s : State), resourceOk id.val = true → ((id.val / 256 = 0 ∨ 2 ≤ id.val / 256 ∧ id.val / 256 ≤ 5)) → (∀ n, s.claimState id.val = 1 ∨ s.claimState id.val = 2 → id.val / 256 ≠ 5 → s.stageOfClaim id.val = some n → ∃ t, exec (.unitRuntimeFault id) s = .next t ∧ t.retireq.contains id.val = true ∧ t.regs = (s.nodeRise n srcDieLink clsGeneral).regs) ∧
      (s.claimState id.val = 1 ∨ s.claimState id.val = 2 → id.val / 256 ≠ 5 → s.stageOfClaim id.val = none → ∃ t, exec (.unitRuntimeFault id) s = .next t ∧ t.retireq.contains id.val = true ∧ { t with retireq := s.retireq } = s) ∧
      (s.claimState id.val = 1 ∨ s.claimState id.val = 2 → id.val / 256 = 5 → exec (.unitRuntimeFault id) s = .next (s.luStop (id.val % 256) Reg.LU_STAT.PARITY)) ∧
      (s.claimState id.val = 0 ∨ s.claimState id.val = 3 → exec (.unitRuntimeFault id) s = .next s)) ∧
  (∀ (m : Master) (isl : Fin 39) (addr : BitVec 32) (s : State), ∃ t, exec (.crossingTimeout m isl addr) s = .next t ∧ t.respOf m = ⟨true, 0⟩ ∧ t.mem = s.mem ∧
      (s.reach isl.val = false → m.port = none → t.regs = s.regs)) ∧
  (∀ (sbe : Fin 4097) (s : State), (s.pwr.mode ≠ 4) → s.rd Reg.CLY_CNT.CNT % 2 ^ 21 = 0 → s.on Reg.CLY_STAT.SCRUB_BUSY = false → (∀ dbe, exec (.scrubPass sbe dbe) s = .next { s.scrub sbe.val (dbe.map (·.val)) with pwr := { s.pwr with scrubLeft := 4096 } }) ∧
      (s.eccBad = [] → s.rd Reg.CLY_ECC.SBE_CNT ≤ 2 ^ Reg.CLY_ECC.SBE_CNT.w - 1 → ∃ t, exec (.scrubPass sbe []) s = .next t ∧ t.rd Reg.CLY_STAT.SCRUB_BUSY = 1 ∧
      t.rd Reg.CLY_ECC.SBE_CNT = min (s.rd Reg.CLY_ECC.SBE_CNT + sbe.val) (2 ^ Reg.CLY_ECC.SBE_CNT.w - 1) ∧ t.mem = s.mem) ∧
      (s.pwr.scrubLeft = 0 → ∃ t, exec .scrubPassEnd s = .next t ∧ t.rd Reg.CLY_STAT.SCRUB_BUSY = 0 ∧ OnlyRegs s t [Reg.CLY_STAT.SCRUB_BUSY.key 0 0]) ∧
      (s.pwr.scrubLeft ≠ 0 → exec .scrubPassEnd s = .next s)) ∧
  (∀ (s : State), (s.present islALD = false ∨ s.pwr.capTot ≤ s.pwr.capDone → exec .captureCopy s = .next s) ∧
      (s.present islALD = true → s.pwr.capDone < s.pwr.capTot → s.pwr.capTot - s.pwr.capDone ≤ 64 → exec .captureCopy s =
      .next (({ s with pwr := { s.pwr with capDone := s.pwr.capDone + 1 } } : State).logEv 0x0002
      ((s.bytes (0x4C001000 + 16 * ((s.rd Reg.CLY_STAT.CAP_WR + 64 - (s.pwr.capTot - s.pwr.capDone)) % 64)) 16).headD 0)
      (s.bytes (0x4C001000 + 16 * ((s.rd Reg.CLY_STAT.CAP_WR + 64 - (s.pwr.capTot - s.pwr.capDone)) % 64)) 16))))

/-- Run-time loads, the image lock, RWI writes and stage enables (IMG_LOAD, LOAD_DONE, IMG_LOCK_KEY, IMG_LOCK_CLOSE, RWI_WRITE,
STAGE_ENABLE, STAGE_DISABLE). A load is refused with LOAD_ERR while a stage is enabled or a load runs; else STATE reads LOADING
until the verification ends. A failed verification returns STATE to what it was and records the step, the resource and the slot.
The two keys from one master open the lock where the conditions of R63 hold; a key of 0 only breaks the sequence; every other key
sets UNLOCK_ERR; CLOSE acts after the key. An RWI write is discarded with reason 0 while the lock is closed or a load runs, with
reason 1 for a unit of an enabled stage, and a write that changes nothing does not count. A stage enable is refused with EN_DENIED
unless every condition holds; else it releases the latches of the usable legs and clears SS. A disable sets SS_OFF and leaves TRIP
at 0. That OPENER stands after the lock closes is the model's reading (log entry 31). It rests on the model's choices of log entry
31. -/
def Obligations.ImageLockAndStages : Prop :=
  (∀ (m : Master) (slot : Fin 2) (s : State), s.ready (Reg.IMG_CTRL.LOAD.addr 0 0) = true → (s.rd Reg.IMG_STATUS.STATE = 1 ∨ (∃ n < 8, s.stgEnabled n = true) → ∃ t, exec (.imgLoad m slot) s = .next t ∧ t.rd Reg.IMG_CTRL.LOAD_ERR = 1 ∧ t.respOf m = ⟨false, 0⟩ ∧
      OnlyRegs s t [Reg.IMG_CTRL.LOAD_ERR.key 0 0]) ∧
      (s.rd Reg.IMG_STATUS.STATE ≠ 1 → (∀ n < 8, s.stgEnabled n = false) → ∃ t, exec (.imgLoad m slot) s = .next t ∧ t.rd Reg.IMG_STATUS.STATE = 1 ∧ t.rd Reg.IMG_CTRL.LOAD = 1 ∧
      t.rd Reg.IMG_CTRL.SLOT = slot.val ∧ t.img = { s.img with slot := slot.val, prev := s.rd Reg.IMG_STATUS.STATE } ∧ t.respOf m = ⟨false, 0⟩ ∧ t.mem = s.mem)) ∧
  (∀ (s : State), s.present islALD = true → s.rd Reg.IMG_STATUS.STATE = 1 → ((s.verify s.img.slot).1 = 0 → exec .loadDone s = .next ((((s.wr Reg.IMG_CTRL.LOAD 0 0).showSeqs).applyImage s.img.slot false).imgRecord s.img.slot)) ∧
      ((s.verify s.img.slot).1 ≠ 0 → (s.verify s.img.slot).1 < 256 → s.img.prev < 4 → ∃ t, exec .loadDone s = .next t ∧ t.rd Reg.IMG_STATUS.STATE = s.img.prev ∧ t.rd Reg.IMG_CTRL.LOAD = 0 ∧
      t.rd Reg.IMG_FAIL.FAIL_CODE = (s.verify s.img.slot).1 ∧ t.rd Reg.IMG_FAIL.FAIL_RES = (s.verify s.img.slot).2 % 4096 ∧ t.rd Reg.IMG_FAIL.FAIL_SLOT = s.img.slot % 2 ∧ t.mem = s.mem)) ∧
  (∀ (m : Master) (key : BitVec 16) (s : State), s.ready (Reg.IMG_LOCK.KEY.addr 0 0) = true → (key = 0xA5C3 → ∃ t, exec (.imgLockKey m key) s = .next t ∧ t.img = { s.img with key := some (s.masterNo m) } ∧ t.regs = s.regs) ∧
      (key = 0 → ∃ t, exec (.imgLockKey m key) s = .next t ∧ t.img = { s.img with key := none } ∧ t.regs = s.regs) ∧
      (key = 0x3C5A → s.img.key = some (s.masterNo m) → s.mayUnlock = true → ∃ t, exec (.imgLockKey m key) s = .next t ∧ t.rd Reg.IMG_STATUS.LOCK_OPEN = 1 ∧ t.rd Reg.IMG_LOCK.OPEN = 1 ∧
      t.rd Reg.IMG_LOCK.OPENER = m.code ∧ t.img = { s.img with key := none } ∧ RegsBut s t [Reg.IMG_STATUS.LOCK_OPEN.key 0 0, Reg.IMG_LOCK.OPEN.key 0 0, Reg.IMG_LOCK.OPENER.key 0 0]) ∧
      (key ≠ 0xA5C3 → key ≠ 0 → (key ≠ 0x3C5A ∨ s.img.key ≠ some (s.masterNo m) ∨ s.mayUnlock = false) → ∃ t, exec (.imgLockKey m key) s = .next t ∧ t.rd Reg.IMG_LOCK.UNLOCK_ERR = 1 ∧
      RegsBut s t [Reg.IMG_LOCK.UNLOCK_ERR.key 0 0]) ∧
      (∃ t, exec (.imgLockClose m key) s = .next t ∧ t.rd Reg.IMG_STATUS.LOCK_OPEN = 0 ∧ t.rd Reg.IMG_LOCK.OPEN = 0 ∧
      (key = 0x3C5A → s.img.key = some (s.masterNo m) → s.mayUnlock = true → t.rd Reg.IMG_LOCK.OPENER = m.code))) ∧
  (∀ (m : Master) (addr data : BitVec 32) (env : BusEnv) (fs : List FD) (f : FD) (i j k : Nat) (s : State), regOf addr.toNat = some (fs, f, i, j, k) → fs.any (fun f => f.acc == .rwi) = true → (f.w ≤ 32) → addr.toNat % 4 = 0 → inWindows addr.toNat = true → ((winOf addr.toNat).1 ≠ 15) → ((winOf addr.toNat).1 ≠ 7) → ((winOf addr.toNat).2 ≠ 0x7FF8 ∧ (winOf addr.toNat).2 ≠ 0x7FFC ∧ f.off ≠ 0xF004) → (rwiFields addr.toNat).isEmpty = false → s.ready addr.toNat = true → ∃ u, exec (.rwiWrite m addr data env) s = .next (((u.regEffect m env fs (winOf addr.toNat).1 f.off i j data.toNat).noteExpert u fs i j).ack m) ∧
      (((rwiFields addr.toNat).all fun e => s.rd e.1 e.2.1 e.2.2 == bits data.toNat e.1.lo e.1.w) = true → u = s) ∧
      (((rwiFields addr.toNat).all fun e => s.rd e.1 e.2.1 e.2.2 == bits data.toNat e.1.lo e.1.w) = false →
      (s.rd Reg.IMG_STATUS.STATE = 1 ∨ s.on Reg.IMG_STATUS.LOCK_OPEN = false → u.rd Reg.CLM_STATUS.RWI_DISCARD = 1 ∧ u.rd Reg.RWI_LAST.REASON = 0 ∧ u.rd Reg.RWI_LAST.MASTER = m.code ∧
      u.rd Reg.RWI_LAST.WORD = (addr.toNat - 0x40000000) / 4 % 2 ^ 20 ∧
      OnlyRegs s u [Reg.CLM_STATUS.RWI_DISCARD.key 0 0, Reg.RWI_LAST.REASON.key 0 0, Reg.RWI_LAST.MASTER.key 0 0, Reg.RWI_LAST.WORD.key 0 0]) ∧
      (s.rd Reg.IMG_STATUS.STATE ≠ 1 → s.on Reg.IMG_STATUS.LOCK_OPEN = true → s.rwiHeld addr.toNat = true → u.rd Reg.CLM_STATUS.RWI_DISCARD = 1 ∧ u.rd Reg.RWI_LAST.REASON = 1 ∧ u.rd Reg.RWI_LAST.MASTER = m.code ∧
      OnlyRegs s u [Reg.CLM_STATUS.RWI_DISCARD.key 0 0, Reg.RWI_LAST.REASON.key 0 0, Reg.RWI_LAST.MASTER.key 0 0, Reg.RWI_LAST.WORD.key 0 0]) ∧
      (s.rd Reg.IMG_STATUS.STATE ≠ 1 → s.on Reg.IMG_STATUS.LOCK_OPEN = true → s.rwiHeld addr.toNat = false → s.rwiRules (s.setRwi addr.toNat data.toNat) addr.toNat data.toNat = true →
      u = (((((s.setRwi addr.toNat data.toNat).rwiClaims s addr.toNat).rwiPolarity s addr.toNat).rwiChanged s).showAllReady)))) ∧
  (∀ (m : Master) (n : Fin 8) (s : State), s.ready (Reg.STG_CTRL.EN.addr n.val 0) = true → (s.stgEnabled n.val = true → exec (.stageEnable m n) s = .next (s.ack m)) ∧
      (s.stgEnabled n.val = false → (s.rd Reg.IMG_STATUS.STATE ≠ 2 ∨ s.stgKind n.val = 0 ∨ s.on Reg.STG_STATE.READY n.val = false ∨ s.stgTripped n.val = true ∨ s.modePermits n.val = false ∨ s.clk.tRun = false ∨
      s.rd Reg.PWR_STATUS.PWR_STATE = 3 ∨ s.stgAttr n.val 0 = true ∧ (s.on Reg.IMG_STATUS.LOCK_OPEN = true ∨ s.on Reg.ISL_STAT.POWERED islCPX = false)) →
      ∃ t, exec (.stageEnable m n) s = .next t ∧ t.rd Reg.STG_CTRL.EN_DENIED n.val = 1 ∧ t.respOf m = ⟨false, 0⟩ ∧ OnlyRegs s t [Reg.STG_CTRL.EN_DENIED.key n.val 0]) ∧
      (s.stgEnabled n.val = false → s.mayEnable n.val = true → ∃ t, exec (.stageEnable m n) s = .next t ∧ t.rd Reg.STG_CTRL.EN n.val = 1 ∧ t.rd Reg.STG_TRIP.SS n.val = 0 ∧
      (∀ l ∈ s.stgLegs n.val, s.claimState l ≠ 3 → (t.pad l).ov = false ∧ (t.pad l).ovH = false ∧ (t.pad l).ovL = false) ∧ t.mem = s.mem ∧ t.respOf m = ⟨false, 0⟩ ∧
      t.rd Reg.STG_TRIP.TRIP n.val = s.rd Reg.STG_TRIP.TRIP n.val ∧ (∀ k < 8, k ≠ n.val → t.rd Reg.STG_CTRL.EN k = s.rd Reg.STG_CTRL.EN k)) ∧
      (s.stgEnabled n.val = false → exec (.stageDisable m n) s = .next (s.ack m)) ∧
      (s.stgEnabled n.val = true → ∃ t, exec (.stageDisable m n) s = .next t ∧ t = ((((s.latchStage n.val 0).wr Reg.STG_CTRL.EN n.val 0).stageOff n.val).ack m) ∧ t.rd Reg.STG_CTRL.EN n.val = 0 ∧ t.rd Reg.STG_TRIP.SS n.val = 0 ∧
      t.rd Reg.STG_TRIP.TRIP n.val = s.rd Reg.STG_TRIP.TRIP n.val ∧ t.mem = s.mem))

/-- An access outside the address map, or one that R8 or R9 forbids, ends in a bus error and changes nothing (REGISTER_WRITE and
reads). For every master, size, address and data: a write to an address that is misaligned for its size, to a block window with 8
or 16 bits, to an offset that names no register, or outside every range answers a next state in which the issuing master has the
bus error and no other master's answer differs; nothing else differs but, for a host port, the BERR flag and the address that its
HP_STAT reports to the host. The same holds for a read of a word. -/
def Obligations.ForbiddenAccesses : Prop :=
  (∀ (m : Master) (size : Size) (addr : BitVec 32) (data : BitVec 32) (env : BusEnv) (s : State), (addr.toNat % size.bytes ≠ 0 ∨ (inWindows addr.toNat = true ∧ size ≠ .b32) ∨ (inWindows addr.toNat = false ∧ memRangeOf addr.toNat = none) ∨ (inWindows addr.toNat = true ∧ regOf addr.toNat = none ∧ (winOf addr.toNat).2 ≠ 0x7FF8 ∧ (winOf addr.toNat).2 ≠ 0x7FFC)) → ∃ t, exec (.registerWrite m size addr data env) s = .next t ∧ t.respOf m = ⟨true, 0⟩ ∧ (∀ m', s.masterNo m' ≠ s.masterNo m → t.respOf m' = s.respOf m') ∧
      (m.port = none → t.regs = s.regs) ∧ (∀ p, m.port = some p → RegsBut s t [Reg.HP_STAT.BERR.key p 0, Reg.HP_BERR_ADDR.ADDR.key p 0]) ∧ { t with regs := s.regs, resp := s.resp } = s) ∧
  (∀ (m : Master) (addr : BitVec 32) (s : State), (addr.toNat % 4 ≠ 0 ∨ (inWindows addr.toNat = false ∧ memRangeOf addr.toNat = none) ∨ (inWindows addr.toNat = true ∧ regOf addr.toNat = none ∧ (winOf addr.toNat).2 ≠ 0x7FF8)) → (s.busLoad m addr.toNat).respOf m = ⟨true, 0⟩ ∧ (∀ m', s.masterNo m' ≠ s.masterNo m → (s.busLoad m addr.toNat).respOf m' = s.respOf m') ∧
      (m.port = none → (s.busLoad m addr.toNat).regs = s.regs) ∧ (∀ p, m.port = some p → RegsBut s (s.busLoad m addr.toNat) [Reg.HP_STAT.BERR.key p 0, Reg.HP_BERR_ADDR.ADDR.key p 0]) ∧
      { s.busLoad m addr.toNat with regs := s.regs, resp := s.resp } = s)

/-- Fields wider than 32 bits: the read and write holding registers of each master (WIDE_LOW_READ, WIDE_UPPER_WRITE,
WIDE_LOW_WRITE). A read of the low word answers it and captures the upper word under the field's name; a read of an upper word
answers the captured one while the holding register names the field, else the present one, and captures nothing. A write of an
upper word is only held. A write of the low word sets the whole field in one step: with the upper word held for it, after which
the holding register is empty, or, where none is held for this field, with its present upper word. -/
def Obligations.WideFields : Prop :=
  ∀ (m : Master) (addr : BitVec 32) (data : BitVec 32) (env : BusEnv) (fs : List FD) (f : FD) (i j k : Nat) (s : State), regOf addr.toNat = some (fs, f, i, j, k) → (32 < f.w) → addr.toNat % 4 = 0 → inWindows addr.toNat = true → ((winOf addr.toNat).1 ≠ 15) → ((winOf addr.toNat).2 ≠ 0x7FF8 ∧ (winOf addr.toNat).2 ≠ 0x7FFC) → s.ready addr.toNat = true → (f.blk = 4 → s.blkUsed i j = false) → (f.key i j ≠ Reg.CPX_STATUS.MODE.key 0 0) → (k = 0 → ∃ t, exec (.wideLowRead m addr) s = .next t ∧ t.respOf m = ⟨false, s.rd f i j % 2 ^ 32⟩ ∧ t.rholdOf m = ⟨some (f.addr i j), s.rd f i j / 2 ^ 32⟩ ∧ t.regs = s.regs ∧ t.mem = s.mem) ∧
        (k ≠ 0 → (s.rholdOf m).fld = some (f.addr i j) → s.busLoad m addr.toNat = s.setResp m ⟨false, (s.rholdOf m).up⟩) ∧
        (k ≠ 0 → (s.rholdOf m).fld ≠ some (f.addr i j) → s.busLoad m addr.toNat = s.setResp m ⟨false, s.rd f i j / 2 ^ 32⟩) ∧
        (k ≠ 0 → f.acc = .rw → ∃ t, exec (.wideUpperWrite m addr data env) s = .next t ∧ t.wholdOf m = ⟨some (f.addr i j), data.toNat⟩ ∧ t.regs = s.regs ∧ t.mem = s.mem) ∧
        (k = 0 → f.acc = .rw → (s.wholdOf m).fld = some (f.addr i j) → ∃ t, exec (.wideLowWrite m addr data env) s = .next t ∧
        t.rd f i j = (data.toNat + (s.wholdOf m).up * 2 ^ 32) % 2 ^ f.w ∧ t.wholdOf m = Hold.init ∧ RegsBut s t [f.key i j]) ∧
        (k = 0 → f.acc = .rw → (s.wholdOf m).fld ≠ some (f.addr i j) → ∃ t, exec (.wideLowWrite m addr data env) s = .next t ∧
        t.rd f i j = (data.toNat + s.rd f i j / 2 ^ 32 * 2 ^ 32) % 2 ^ f.w ∧ RegsBut s t [f.key i j])

/-- Register and memory writes and commits (REGISTER_WRITE, MEMORY_SLOT_WRITE, BASIC_COMMIT, BASIC_COMMIT_DONE). A write of a
register whose island answers acts on its fields by their access codes and completes; in a window without rules of its own an RW
field takes its value and a W1C bit clears. A write of system SRAM or of a free image slot stores the bytes of its size and no
other byte; a write of the active slot, of a slot being loaded, or of the key record ends in a bus error. COMMIT sets BUSY, and a
second COMMIT while BUSY has no effect. A commit that ends refused changes no Expert field and records the word in ERR_WORD with
BERR set; one that succeeds clears BERR and EXPERT_OVR. The Rowan window takes no commit. It rests on the model's choices of log
entries 32, 33, 37. -/
def Obligations.BusWritesAndCommits : Prop :=
  (∀ (m : Master) (addr : BitVec 32) (data : BitVec 32) (env : BusEnv) (fs : List FD) (f : FD) (i j k : Nat) (s : State), regOf addr.toNat = some (fs, f, i, j, k) → fs.any (fun f => f.acc == .rwi) = false → (f.w ≤ 32) → addr.toNat % 4 = 0 → inWindows addr.toNat = true → ((winOf addr.toNat).1 ≠ 15) → ((winOf addr.toNat).1 ≠ 7) → ((winOf addr.toNat).2 ≠ 0x7FF8 ∧ (winOf addr.toNat).2 ≠ 0x7FFC ∧ f.off ≠ 0xF004) → s.ready addr.toNat = true → exec (.registerWrite m .b32 addr data env) s = .next (((s.regEffect m env fs (winOf addr.toNat).1 f.off i j data.toNat).noteExpert s fs i j).ack m)) ∧
  (∀ (m : Master) (size : Size) (addr : BitVec 32) (data : BitVec 32) (env : BusEnv) (s : State), addr.toNat % size.bytes = 0 → s.reach islMEM = true → s.writesBack m addr.toNat = false → (0x20000000 ≤ addr.toNat → addr.toNat < 0x20400000 → ∃ t, exec (.registerWrite m size addr data env) s = .next t ∧ t.respOf m = ⟨false, 0⟩ ∧
      (∀ k < size.bytes, t.byte (addr.toNat + k) = data.toNat / 256 ^ k % 256) ∧ (∀ x, x < addr.toNat ∨ addr.toNat + size.bytes ≤ x → t.byte x = s.byte x) ∧ t.regs = s.regs) ∧
      (0x00E00000 ≤ addr.toNat → addr.toNat < 0x01000000 → s.mramLocked addr.toNat = false → ∃ t, exec (.memorySlotWrite m size addr data env) s = .next t ∧ t.respOf m = ⟨false, 0⟩ ∧
      (∀ k < size.bytes, t.byte (addr.toNat + k) = data.toNat / 256 ^ k % 256) ∧ (∀ x, x < addr.toNat ∨ addr.toNat + size.bytes ≤ x → t.byte x = s.byte x) ∧ t.regs = s.regs) ∧
      (0x00E00000 ≤ addr.toNat → addr.toNat < 0x01000000 → (s.rd Reg.IMG_STATUS.STATE = 2 ∧ (addr.toNat - 0x00E00000) / 0x100000 = s.rd Reg.IMG_STATUS.ACTIVE_SLOT ∨ s.rd Reg.IMG_STATUS.STATE = 1 ∧ (addr.toNat - 0x00E00000) / 0x100000 = s.img.slot) →
      exec (.memorySlotWrite m size addr data env) s = .next (s.busErr m addr.toNat)) ∧
      (keyRecord ≤ addr.toNat → addr.toNat < 0x00E00000 → exec (.memorySlotWrite m size addr data env) s = .next (s.busErr m addr.toNat))) ∧
  (∀ (m : Master) (blk : Fin 17) (s : State), (blk = 15 → exec (.basicCommit m blk) s = .next (s.busErr m 0x400F7FFC)) ∧
      (blk ≠ 15 → s.reach (islandAt (Reg.BASIC_CTRL.COMMIT.addr blk.val 0)) = true → s.on Reg.BASIC_CTRL.BUSY blk.val = true → exec (.basicCommit m blk) s = .next (s.ack m)) ∧
      (blk ≠ 15 → s.reach (islandAt (Reg.BASIC_CTRL.COMMIT.addr blk.val 0)) = true → s.on Reg.BASIC_CTRL.BUSY blk.val = false → ∃ t, exec (.basicCommit m blk) s = .next t ∧ t.rd Reg.BASIC_CTRL.BUSY blk.val = 1 ∧
      t.rd Reg.BASIC_CTRL.COMMIT blk.val = 1 ∧ t.respOf m = ⟨false, 0⟩ ∧ OnlyRegs s t [Reg.BASIC_CTRL.BUSY.key blk.val 0, Reg.BASIC_CTRL.COMMIT.key blk.val 0]) ∧
      (s.on Reg.BASIC_CTRL.BUSY blk.val = false → exec (.basicCommitDone blk) s = .next s) ∧
      (∀ w, s.on Reg.BASIC_CTRL.BUSY blk.val = true → s.commitBad blk.val = some w → ∃ t, exec (.basicCommitDone blk) s = .next t ∧ t.rd Reg.BASIC_CTRL.BERR blk.val = 1 ∧ t.rd Reg.BASIC_CTRL.ERR_WORD blk.val = w % 8192 ∧
      t.rd Reg.BASIC_CTRL.BUSY blk.val = 0 ∧ t.rd Reg.BASIC_CTRL.COMMIT blk.val = 0 ∧
      OnlyRegs s t [Reg.BASIC_CTRL.BERR.key blk.val 0, Reg.BASIC_CTRL.ERR_WORD.key blk.val 0, Reg.BASIC_CTRL.BUSY.key blk.val 0, Reg.BASIC_CTRL.COMMIT.key blk.val 0]) ∧
      (s.on Reg.BASIC_CTRL.BUSY blk.val = true → s.commitBad blk.val = none → ∃ t, exec (.basicCommitDone blk) s = .next t ∧ t.rd Reg.BASIC_CTRL.BERR blk.val = 0 ∧ t.rd Reg.BASIC_CTRL.EXPERT_OVR blk.val = 0 ∧
      t.rd Reg.BASIC_CTRL.BUSY blk.val = 0 ∧ t.rd Reg.BASIC_CTRL.COMMIT blk.val = 0 ∧
      (blk.val ∈ [7, 9, 11, 12, 13, 14, 16] → OnlyRegs s t [Reg.BASIC_CTRL.BERR.key blk.val 0, Reg.BASIC_CTRL.EXPERT_OVR.key blk.val 0, Reg.BASIC_CTRL.BUSY.key blk.val 0, Reg.BASIC_CTRL.COMMIT.key blk.val 0]) ∧
      (blk.val = 6 → ∀ r < 2, t.rd Reg.RS_EXC.FTW r = ftwOf (s.rd Reg.RS_EXC_B.EXC_MHZ r) % 2 ^ 18)))

/-- Alder's load and the event log (LOAD_WINDOW, LOG_WRITE). The end of a window shows LOAD, and Alder is busy from the second
window in a row at or above BUSY_PM until one below BUSY_PM - 100. A pending record is written whole into the next slot of the
ring, the head follows in the registers and in the Clay header, and no other byte changes; lost events are recorded first; a write
that fails sets LOG_ERR and keeps the record. It rests on the model's choices of log entry 35. -/
def Obligations.AlderLoadAndLog : Prop :=
  (∀ (load : Fin 1001) (s : State), s.present islALD = true → ∃ t, exec (.loadWindow load) s = .next t ∧ t.rd Reg.ALD_STATUS.LOAD = load.val ∧ t.aldLoad = (if s.rd Reg.ALD_CFG.BUSY_PM ≤ load.val then s.aldLoad + 1 else 0) ∧
      (2 ≤ t.aldLoad → t.aldHot = true) ∧ (t.aldLoad < 2 → s.aldHot = true → (s.rd Reg.ALD_CFG.BUSY_PM ≤ load.val + 100 ∨ s.aldCrit = true) → t.aldHot = true) ∧
      (t.aldLoad < 2 → s.aldHot = true → load.val + 100 < s.rd Reg.ALD_CFG.BUSY_PM → s.aldCrit = false → t.aldHot = false) ∧ (t.aldLoad < 2 → s.aldHot = false → t.aldHot = false) ∧
      t.on Reg.ALD_STATUS.BUSY = t.aldBusy ∧ t.aldBusy = (t.aldHot || s.aldCrit) ∧ t.mem = s.mem ∧
      RegsBut s t [Reg.ALD_STATUS.LOAD.key 0 0, Reg.ALD_STATUS.BUSY.key 0 0, Reg.ALD_STATUS.JOB.key 0 0, Reg.ALD_EVT.DEFERRED.key 0 0]) ∧
  (∀ (s : State), s.present islALD = true → (s.aldBusy = true → ∀ ok, exec (.logWrite ok) s = .next s) ∧
      (s.logLost = 0 → s.logq = [] → ∀ ok, exec (.logWrite ok) s = .next s) ∧
      (s.aldBusy = false → (s.logLost ≠ 0 ∨ s.logq ≠ []) → ∃ t, exec (.logWrite false) s = .next t ∧ t.rd Reg.ALD_EVT.LOG_ERR = 1 ∧ t.logq = s.logq ∧ OnlyRegs s t [Reg.ALD_EVT.LOG_ERR.key 0 0]) ∧
      (∀ r l, s.aldBusy = false → s.logLost = 0 → s.logq = r :: l → ∃ t, exec (.logWrite true) s = .next t ∧ t.logq = l ∧ t.rd Reg.ALD_STATUS.QUEUE = l.length % 128 ∧
      t.rd Reg.ALD_LOG.HEAD_SEQ = nextSeq (s.rd Reg.ALD_LOG.HEAD_SEQ) ∧ t.rd Reg.ALD_LOGIDX.HEAD = s.logSlot ∧
      (∀ k < 64, t.byte (logBase + 0x40 * s.logSlot + k) = (s.logRecord r).getD k 0 % 256) ∧
      (∀ k < 4, t.byte (0x4C000008 + k) = s.logSlot / 256 ^ k % 256 ∧ t.byte (0x4C00000C + k) = nextSeq (s.rd Reg.ALD_LOG.HEAD_SEQ) / 256 ^ k % 256) ∧
      (∀ x, (x < logBase + 0x40 * s.logSlot ∨ logBase + 0x40 * s.logSlot + 64 ≤ x) → (x < 0x4C000008 ∨ 0x4C000010 ≤ x) → t.byte x = s.byte x) ∧
      RegsBut s t [Reg.ALD_STATUS.QUEUE.key 0 0, Reg.ALD_LOG.HEAD_SEQ.key 0 0, Reg.ALD_LOGIDX.HEAD.key 0 0]) ∧
      (s.aldBusy = false → 0 < s.logLost → ∃ t, exec (.logWrite true) s = .next t ∧ t.logq = s.logq ∧ t.logLost = 0 ∧
      t.rd Reg.ALD_LOG.HEAD_SEQ = nextSeq (s.rd Reg.ALD_LOG.HEAD_SEQ) ∧ t.rd Reg.ALD_LOGIDX.HEAD = s.logSlot ∧
      (∀ k < 64, t.byte (logBase + 0x40 * s.logSlot + k) = (s.logRecord ⟨0x000C, 0, 0, s.chainTime, s.chainTime, min s.logLost 0xFFFFFFFF, leBytes 4 (min s.logLost 0xFFFFFFFF)⟩).getD k 0 % 256) ∧
      (∀ x, (x < logBase + 0x40 * s.logSlot ∨ logBase + 0x40 * s.logSlot + 64 ≤ x) → (x < 0x4C000008 ∨ 0x4C000010 ≤ x) → t.byte x = s.byte x) ∧
      RegsBut s t [Reg.ALD_LOG.HEAD_SEQ.key 0 0, Reg.ALD_LOGIDX.HEAD.key 0 0]))

/-- The self-test groups, run-time retirement and the aging sensors (SELFTEST_GROUP_DONE, WEAR_ENTRY, AGING_READ). A group that
ends before the last one sets its bit in DONE, shows its peak power and starts the next group, whose islands enter D reset as
those of the ended group leave it; the end of the last one ends the shutdown. A run-time retirement is entered in the copy of the
wear record that is not in force, which comes into force, and shown in SPR_PU; a write that fails keeps the entry and sets
WEAR_ERR. A reading of the aging sensors is shown for every unit its sensor covers; a busy Alder reads none. It rests on the
model's choices of log entries 2, 34. -/
def Obligations.SelfTestAndWear : Prop :=
  (∀ (r : StResult) (s : State), (s.on Reg.ST_STATUS.RUNNING = false → exec (.selftestGroupDone r) s = .next s) ∧
      (s.on Reg.ST_STATUS.RUNNING = true → s.rd Reg.ST_STATUS.GROUP < 9 → ∃ t, exec (.selftestGroupDone r) s = .next t.testFree.testHold ∧ t = s.groupDone r ∧ t.rd Reg.ST_STATUS.GROUP = s.rd Reg.ST_STATUS.GROUP + 1 ∧
      t.rd Reg.ST_GRP.DONE = withBit (bits (s.word (verdictBase s.st.rcd + 4)) 16 10) (s.rd Reg.ST_STATUS.GROUP) % 2 ^ 10 ∧ t.rd Reg.ST_GRP.PEAK_MW = min r.peak 4095 ∧
      RegsBut s t [Reg.ST_GRP.DONE.key 0 0, Reg.ST_GRP.PEAK_MW.key 0 0, Reg.ST_STATUS.LOGIC_FAIL.key 0 0, Reg.ST_STATUS.LOGIC_PART.key 0 0, Reg.ST_EVT.WEAR_ERR.key 0 0,
      Reg.ST_EVT.RETIRED.key 0 0, Reg.ST_STATUS.GROUP.key 0 0]) ∧
      (s.on Reg.ST_STATUS.RUNNING = true → 9 ≤ s.rd Reg.ST_STATUS.GROUP → exec (.selftestGroupDone r) s = .next (s.groupDone r).testFree.testRecord.shutdownEnd)) ∧
  (∀ (e p : Nat) (l : List Nat) (s : State), s.retireq = e :: l → s.present islALD = true → s.retiredPu e = some p → (p < 297) → s.st.pend = [] → (∃ t, exec (.wearEntry true) s = .next t ∧ t.retireq = l ∧ t.rd Reg.ST_EVT.RT_REC = 1 ∧ t.rd Reg.ST_EVT.RETIRED = 1 ∧ t.rd Reg.SPR_PU.STATUS p = 2 ∧
      t.st.copy = some s.wearNext ∧ t.byte (wearBase s.wearNext + 0x40 + 8 * p) = 2 ∧ t.byte (wearBase s.wearNext + 0x40 + 8 * p + 1) = 2 ∧
      (∀ x, x < wearBase s.wearNext ∨ wearBase s.wearNext + 0x4000 ≤ x → t.byte x = s.byte x) ∧
      RegsBut s t [Reg.ST_EVT.RT_REC.key 0 0, Reg.ST_EVT.RETIRED.key 0 0, Reg.SPR_PU.STATUS.key p 0, Reg.SPR_PU.FAILS.key p 0, Reg.ALD_STATUS.QUEUE.key 0 0, Reg.ALD_CNT.LOST_CNT.key 0 0,
      Reg.ALD_EVT.EV_LOST.key 0 0]) ∧
      (∃ t, exec (.wearEntry false) s = .next t ∧ t.retireq = s.retireq ∧ t.rd Reg.ST_EVT.WEAR_ERR = 1 ∧ OnlyRegs s t [Reg.ST_EVT.WEAR_ERR.key 0 0])) ∧
  (∀ (ages : List (Fin 93 × Fin 1024)) (s : State), s.present islALD = true → (s.aldBusy = true → ∃ t, exec (.agingRead ages) s = .next t ∧ t.houseAt = some (s.houseAt.getD s.now) ∧ RegsBut s t [Reg.ALD_EVT.DEFERRED.key 0 0] ∧
      (∀ h, s.houseAt = some h → h + 5000000000 ≤ s.now → t.rd Reg.ALD_EVT.DEFERRED = 1) ∧ t.mem = s.mem) ∧
      (s.aldBusy = false → ∃ t, exec (.agingRead ages) s = .next t ∧ t.houseAt = none ∧ t.mem = s.mem ∧ RegsBut s t ((List.range 297).map (fun p => Reg.SPR_PU.AGE.key p 0) ++ (List.range 188).map (fun u => Reg.SPR_MAP.AGE.key u 0)) ∧
      ∀ k a, ages = [(k, a)] → ∀ p < 297, sensorOf p = some k.val → t.rd Reg.SPR_PU.AGE p = a.val))

/-- Management requests to Alder and their replies (MG_STATUS, LOG_MARK, RUN_HOUSE, MALFORMED_MANAGEMENT_REQUEST, REPLY_RETRY).
Alder takes a request out of its mailbox and releases it. While it is busy every request is answered STATUS 1 with a retry hint
from 1 to 1,000, BUSY_REPLY and BUSY_CNT, and not executed; else STATUS, LOG_MARK and RUN_HOUSE are executed and answered with
their results, and a request of bad length, CRC or code is answered STATUS 2 or 3. A reply goes to its mailbox where Alder may
fill it, waits where it may not, and is recorded as undeliverable where the mailbox is not the sender's; the hundredth retry drops
it. It rests on the model's choices of log entries 7, 35. -/
def Obligations.ManagementRequests : Prop :=
  (∀ (i : Instr) (c : Nat) (ages : List (Fin 93 × Fin 1024)) (s : State), ((i, c) ∈ [(Instr.mgStatus, 1), (.logMark, 2), (.keyWrite, 3), (.keyRevoke, 4), (.svnRaise, 5), (.runHouse ages, 6), (.malformedManagementRequest, 0)]) → (s.nextRequest = none → exec i s = .next s) ∧
      (∀ n, s.nextRequest = some n → (if c = 0 then requestFormat (s.mbWords n) ≠ 0 else isRequest c (s.mbWords n) = true) ∨ exec i s = .next s) ∧
      (∀ n, s.nextRequest = some n → (if c = 0 then requestFormat (s.mbWords n) ≠ 0 else isRequest c (s.mbWords n) = true) → s.aldBusy = true →
      ∃ r, 1 ≤ r ∧ r ≤ 1000 ∧ exec i s = .next ((((s.takeRequest n).next.flag Reg.ALD_EVT.BUSY_REPLY 0).bump Reg.ALD_CNT.BUSY_CNT 0).sendReply (param (s.mbWords n) 1 % 64)
      (s.rd Reg.MB_HDR.SENDER n) ((s.mbWords n).headD 0) (replyWords ((s.mbWords n).headD 0) 1 r [])))) ∧
  (∀ (n : Nat) (ages : List (Fin 93 × Fin 1024)) (s : State), s.nextRequest = some n → s.aldBusy = false → (isRequest 1 (s.mbWords n) = true → exec .mgStatus s = .next ((s.takeRequest n).sendReply (param (s.mbWords n) 1 % 64) (s.rd Reg.MB_HDR.SENDER n) ((s.mbWords n).headD 0)
      (replyWords ((s.mbWords n).headD 0) 0 0 [(((s.takeRequest n).showBusy).wr Reg.ALD_STATUS.JOB 0 2).regWord Reg.ALD_STATUS.LOAD 0, (s.takeRequest n).rd Reg.ALD_LOG.HEAD_SEQ,
      (s.takeRequest n).rd Reg.ALD_LOGIDX.HEAD, (s.takeRequest n).regWord Reg.IMG_STATUS.STATE 0, (s.takeRequest n).regWord Reg.PWR_STATUS.PWR_STATE 0]))) ∧
      (isRequest 2 (s.mbWords n) = true → ∃ t, t = (s.takeRequest n).logMark (s.rd Reg.MB_HDR.SENDER n) (s.mbWords n) ∧
      exec .logMark s = .next (t.sendReply (param (s.mbWords n) 1 % 64) (s.rd Reg.MB_HDR.SENDER n) ((s.mbWords n).headD 0) (replyWords ((s.mbWords n).headD 0) 0 0 [t.rd Reg.ALD_LOG.HEAD_SEQ])) ∧
      ∀ k < 24, t.byte (logBase + 0x40 * t.rd Reg.ALD_LOGIDX.HEAD + 0x20 + k) = param (s.mbWords n) (k / 4 + 2) / 256 ^ (k % 4) % 256) ∧
      (isRequest 6 (s.mbWords n) = true → exec (.runHouse ages) s = .next (((s.takeRequest n).readAges (ages.map fun e => (e.1.val, e.2.val))).sendReply (param (s.mbWords n) 1 % 64)
      (s.rd Reg.MB_HDR.SENDER n) ((s.mbWords n).headD 0) (replyWords ((s.mbWords n).headD 0) 0 0 []))) ∧
      (requestFormat (s.mbWords n) ≠ 0 → exec .malformedManagementRequest s = .next ((s.takeRequest n).sendReply (param (s.mbWords n) 1 % 64) (s.rd Reg.MB_HDR.SENDER n)
      ((s.mbWords n).headD 0) (replyWords ((s.mbWords n).headD 0) (requestFormat (s.mbWords n)) 0 []))) ∧
      ((s.mbWords n).length < 8 → requestFormat (s.mbWords n) = 2) ∧
      (requestOk (s.mbWords n) = true → ((s.mbWords n).headD 0 % 256 = 0 ∨ 6 < (s.mbWords n).headD 0 % 256) → requestFormat (s.mbWords n) = 3)) ∧
  (∀ (mb src req : Nat) (ws : List Nat) (s : State), (s.mbRx mb ≠ src → s.sendReply mb src req ws = s.logEv 0x000D mb (leBytes 4 req)) ∧
      (s.mbRx mb = src → s.mbMayFill mb 3 = true → s.sendReply mb src req ws = s.mbSend mb 3 ws) ∧
      (s.mbRx mb = src → s.mbMayFill mb 3 = false → s.sendReply mb src req ws = { s with replies := s.replies ++ [⟨mb, ws, src, 0, s.now, req⟩] })) ∧
  (∀ (r : Reply) (s : State), s.replies.find? (fun r => r.at0 + 500000 ≤ s.now) = some r → s.present islALD = true → s.present islMSG = true → (s.mbMayFill r.mb 3 = true → exec .replyRetry s = .next (({ s with replies := s.replies.filter (· ≠ r) } : State).mbSend r.mb 3 r.words)) ∧
      (s.mbMayFill r.mb 3 = false → r.tries < 99 → exec .replyRetry s = .next { s with replies := s.replies.filter (· ≠ r) ++ [{ r with tries := r.tries + 1, at0 := s.now }] }) ∧
      (s.mbMayFill r.mb 3 = false → 99 ≤ r.tries → ∃ t, exec .replyRetry s = .next t ∧ t.replies = s.replies.filter (· ≠ r) ∧ t.rd Reg.ALD_EVT.REPLY_LOST = 1 ∧ t.mem = s.mem ∧
      RegsBut s t [Reg.ALD_EVT.REPLY_LOST.key 0 0, Reg.ALD_STATUS.QUEUE.key 0 0, Reg.ALD_CNT.LOST_CNT.key 0 0, Reg.ALD_EVT.EV_LOST.key 0 0]))

/-- Changes of the key record by management request (KEY_WRITE, KEY_REVOKE, SVN_RAISE). A request of another sender than H0 and H1
is refused with STATUS 5; an entry above 3 with STATUS 2; a written (KEY_WRITE) or unwritten (KEY_REVOKE) entry, a version not
above MIN_SVN, or a state in which an image is loaded and the lock is closed with STATUS 4: nothing but the request's mailbox
changes then. Else the entry, its state or MIN_SVN is written, and no other byte of memory. It rests on the model's choices of log
entry 35. -/
def Obligations.KeyRecordRequests : Prop :=
  ∀ (n : Nat) (s : State), s.nextRequest = some n → s.aldBusy = false → (isRequest 3 (s.mbWords n) = true → ∃ t st, exec .keyWrite s = .next (t.sendReply (param (s.mbWords n) 1 % 64) (s.rd Reg.MB_HDR.SENDER n) ((s.mbWords n).headD 0) (replyWords ((s.mbWords n).headD 0) st 0 [])) ∧
        (s.rd Reg.MB_HDR.SENDER n ≠ 4 → s.rd Reg.MB_HDR.SENDER n ≠ 5 → st = 5 ∧ t = s.takeRequest n) ∧
        (s.rd Reg.MB_HDR.SENDER n = 4 ∨ s.rd Reg.MB_HDR.SENDER n = 5 → 4 ≤ param (s.mbWords n) 2 → st = 2 ∧ t = s.takeRequest n) ∧
        (s.rd Reg.MB_HDR.SENDER n = 4 ∨ s.rd Reg.MB_HDR.SENDER n = 5 → param (s.mbWords n) 2 < 4 → (s.keysOpen = false ∨ s.keyState (param (s.mbWords n) 2) ≠ 0) → st = 4 ∧ t = s.takeRequest n) ∧
        (s.rd Reg.MB_HDR.SENDER n = 4 ∨ s.rd Reg.MB_HDR.SENDER n = 5 → param (s.mbWords n) 2 < 4 → s.keysOpen = true → s.keyState (param (s.mbWords n) 2) = 0 → st = 0 ∧ t.keyState (param (s.mbWords n) 2) = 1 ∧
        (∀ k < 32, t.byte (keyRecord + 0x40 * param (s.mbWords n) 2 + k) = param (s.mbWords n) (k / 4 + 3) / 256 ^ (k % 4) % 256) ∧
        (∀ x, x < keyRecord + 0x40 * param (s.mbWords n) 2 ∨ keyRecord + 0x40 * param (s.mbWords n) 2 + 0x24 ≤ x → t.byte x = s.byte x))) ∧
        (isRequest 4 (s.mbWords n) = true → ∃ t st, exec .keyRevoke s = .next (t.sendReply (param (s.mbWords n) 1 % 64) (s.rd Reg.MB_HDR.SENDER n) ((s.mbWords n).headD 0) (replyWords ((s.mbWords n).headD 0) st 0 [])) ∧
        (s.rd Reg.MB_HDR.SENDER n ≠ 4 → s.rd Reg.MB_HDR.SENDER n ≠ 5 → st = 5 ∧ t = s.takeRequest n) ∧
        (s.rd Reg.MB_HDR.SENDER n = 4 ∨ s.rd Reg.MB_HDR.SENDER n = 5 → param (s.mbWords n) 2 < 4 → (s.keysOpen = false ∨ s.keyState (param (s.mbWords n) 2) = 0) → st = 4 ∧ t = s.takeRequest n) ∧
        (s.rd Reg.MB_HDR.SENDER n = 4 ∨ s.rd Reg.MB_HDR.SENDER n = 5 → param (s.mbWords n) 2 < 4 → s.keysOpen = true → s.keyState (param (s.mbWords n) 2) ≠ 0 → st = 0 ∧ t.keyState (param (s.mbWords n) 2) = 3 ∧
        (∀ x, x < keyRecord + 0x40 * param (s.mbWords n) 2 + 0x20 ∨ keyRecord + 0x40 * param (s.mbWords n) 2 + 0x24 ≤ x → t.byte x = s.byte x))) ∧
        (isRequest 5 (s.mbWords n) = true → ∃ t st, exec .svnRaise s = .next (t.sendReply (param (s.mbWords n) 1 % 64) (s.rd Reg.MB_HDR.SENDER n) ((s.mbWords n).headD 0) (replyWords ((s.mbWords n).headD 0) st 0 [])) ∧
        (s.rd Reg.MB_HDR.SENDER n ≠ 4 → s.rd Reg.MB_HDR.SENDER n ≠ 5 → st = 5 ∧ t = s.takeRequest n) ∧
        (s.rd Reg.MB_HDR.SENDER n = 4 ∨ s.rd Reg.MB_HDR.SENDER n = 5 → (s.keysOpen = false ∨ param (s.mbWords n) 2 % 65536 ≤ s.minSvn) → st = 4 ∧ t = s.takeRequest n) ∧
        (s.rd Reg.MB_HDR.SENDER n = 4 ∨ s.rd Reg.MB_HDR.SENDER n = 5 → s.keysOpen = true → s.minSvn < param (s.mbWords n) 2 % 65536 → st = 0 ∧ t.minSvn = param (s.mbWords n) 2 % 65536 ∧
        (∀ x, x < keyRecord + 0x100 ∨ keyRecord + 0x102 ≤ x → t.byte x = s.byte x)))

/-- Enabling, sampling and clearing a health monitor (MON_ENABLE, MON_SAMPLE, MON_CLR). EN = 1 starts a monitor whose fields name
a measurement, and sets CFG_ERR otherwise. A level taken by a running monitor updates MIN, MAX and CNT and advances one bin of 64,
the outer ones with UNDER or OVER; a frozen monitor advances MISS alone. CLR = 1 resets the captured fields. It rests on the
model's choices of log entries 2, 36. -/
def Obligations.MonitorControls : Prop :=
  (∀ (m : Master) (n : Fin 16) (s : State), s.ready (Reg.MON_CFG.EN.addr n.val 0) = true → (s.on Reg.MON_CFG.EN n.val = true → exec (.monEnable m n) s = .next (s.ack m)) ∧
      (s.on Reg.MON_CFG.EN n.val = false → s.monOk n.val = true → ∃ t, exec (.monEnable m n) s = .next t ∧ t.respOf m = ⟨false, 0⟩ ∧ t.rd Reg.MON_CFG.EN n.val = 1 ∧ t.rd Reg.MON_STAT.RUN n.val = 1 ∧
      t.rd Reg.MON_STAT.OPEN n.val = 0 ∧ t.mem = s.mem ∧ RegsBut s t [Reg.MON_CFG.EN.key n.val 0, Reg.MON_STAT.RUN.key n.val 0, Reg.MON_STAT.OPEN.key n.val 0]) ∧
      (s.on Reg.MON_CFG.EN n.val = false → s.monOk n.val = false → ∃ t, exec (.monEnable m n) s = .next t ∧ t.respOf m = ⟨false, 0⟩ ∧ t.rd Reg.MON_STAT.CFG_ERR n.val = 1 ∧
      OnlyRegs s t [Reg.MON_STAT.CFG_ERR.key n.val 0]) ∧
      (s.rd Reg.MON_WID.WID n.val = 0 → s.monOk n.val = false)) ∧
  (∀ (n : Fin 16) (x : Int) (s : State), s.present islMON = true → s.on Reg.MON_CFG.EN n.val = true → s.rd Reg.MON_CFG.MODE n.val = 2 → (s.on Reg.MON_CFG.FREEZE n.val = true → ∃ t, exec (.monSample n x) s = .next t ∧ t.rd Reg.MON_MISS.N n.val = satAdd 0xFFFFFFFF (s.rd Reg.MON_MISS.N n.val) % 2 ^ 32 ∧ OnlyRegs s t [Reg.MON_MISS.N.key n.val 0]) ∧
      (s.on Reg.MON_CFG.FREEZE n.val = false → ∀ v k, v = sgn 32 (uns 32 ((s.levelOf (s.rd Reg.MON_CFG.SRC n.val)).getD x)) → k = (v - s.rdI Reg.MON_OFS.OFS n.val).fdiv (s.rd Reg.MON_WID.WID n.val) →
      s.rd Reg.MON_CNT.N n.val < 0xFFFFFFFF → ∃ t, exec (.monSample n x) s = .next t ∧ t.rd Reg.MON_CNT.N n.val = s.rd Reg.MON_CNT.N n.val + 1 ∧
      (v < s.rdI Reg.MON_MIN.VAL n.val → t.rdI Reg.MON_MIN.VAL n.val = v) ∧ (s.rdI Reg.MON_MIN.VAL n.val ≤ v → t.rd Reg.MON_MIN.VAL n.val = s.rd Reg.MON_MIN.VAL n.val) ∧
      (s.rdI Reg.MON_MAX.VAL n.val < v → t.rdI Reg.MON_MAX.VAL n.val = v) ∧ (v ≤ s.rdI Reg.MON_MAX.VAL n.val → t.rd Reg.MON_MAX.VAL n.val = s.rd Reg.MON_MAX.VAL n.val) ∧
      (∀ b < 64, s.rd Reg.MON_BIN.N n.val b < 0xFFFFFFFF → t.rd Reg.MON_BIN.N n.val b = s.rd Reg.MON_BIN.N n.val b + (if (k < 0 ∧ b = 0) ∨ (63 < k ∧ b = 63) ∨ k = b then 1 else 0)) ∧
      (k < 0 → t.on Reg.MON_STAT.UNDER n.val = true) ∧ (63 < k → t.on Reg.MON_STAT.OVER n.val = true) ∧ t.mem = s.mem ∧
      RegsBut s t ([Reg.MON_MIN.VAL.key n.val 0, Reg.MON_MAX.VAL.key n.val 0, Reg.MON_CNT.N.key n.val 0, Reg.MON_STAT.UNDER.key n.val 0, Reg.MON_STAT.OVER.key n.val 0, Reg.MON_STAT.SAT.key n.val 0] ++
      (List.range 64).map (fun b => Reg.MON_BIN.N.key n.val b)))) ∧
  (∀ (m : Master) (n : Fin 16) (s : State), s.ready (Reg.MON_CTRL.CLR.addr n.val 0) = true → ∃ t, exec (.monClr m n) s = .next t ∧ t.respOf m = ⟨false, 0⟩ ∧ t.rd Reg.MON_MIN.VAL n.val = 0x7FFFFFFF ∧ t.rd Reg.MON_MAX.VAL n.val = 0x80000000 ∧ t.rd Reg.MON_CNT.N n.val = 0 ∧
      t.rd Reg.MON_MISS.N n.val = 0 ∧ (∀ b < 64, t.rd Reg.MON_BIN.N n.val b = 0) ∧
      OnlyRegs s t ([Reg.MON_MIN.VAL.key n.val 0, Reg.MON_MAX.VAL.key n.val 0, Reg.MON_CNT.N.key n.val 0, Reg.MON_MISS.N.key n.val 0] ++ (List.range 64).map (fun b => Reg.MON_BIN.N.key n.val b)))

/-- Latency measurements of the health monitors (MON_EVENT, MON_SWEV). With one monitor enabled, an event that is its start opens
a measurement at its instant, with OVERLAP where one was open; its stop takes the latency of the open measurement and closes it;
every other event leaves it as it was. A write of MON_SWEV gives the events 0xC8 to 0xCF of its bits. It rests on the model's
choices of log entries 2, 36. -/
def Obligations.MonitorLatencies : Prop :=
  (∀ (codes : List (Fin 256)) (at0 : Nat) (n : Nat) (s : State), s.present islMON = true → (n < 16) → s.on Reg.MON_CFG.EN n = true → s.rd Reg.MON_CFG.MODE n = 1 → (∀ k < 16, k ≠ n → s.on Reg.MON_CFG.EN k = false) → (s.rd Reg.MON_CFG.SRC n ∉ codes.map (·.val) → s.rd Reg.MON_CFG.STOP_EV n ∉ codes.map (·.val) → exec (.monEvent codes at0) s = .next s) ∧
      (s.rd Reg.MON_CFG.SRC n ≠ 0 → s.rd Reg.MON_CFG.SRC n ∈ codes.map (·.val) → s.rd Reg.MON_CFG.STOP_EV n ∉ codes.map (·.val) → ∃ t, exec (.monEvent codes at0) s = .next t ∧
      SMap.get none t.mons n = some at0 ∧ t.rd Reg.MON_STAT.OPEN n = 1 ∧ (SMap.get none s.mons n ≠ none → t.rd Reg.MON_STAT.OVERLAP n = 1) ∧
      RegsBut s t [Reg.MON_STAT.OPEN.key n 0, Reg.MON_STAT.OVERLAP.key n 0]) ∧
      (∀ t0, SMap.get none s.mons n = some t0 → s.rd Reg.MON_CFG.SRC n ∉ codes.map (·.val) → s.rd Reg.MON_CFG.STOP_EV n ∈ codes.map (·.val) →
      exec (.monEvent codes at0) s = .next ((s.monLatency n (at0 - t0)).setOpen n none)) ∧
      (∀ t0, s.clk.sOn = false → ∃ t, (s.monLatency n (at0 - t0)) = t ∧ t.rd Reg.MON_MISS.N n = satAdd 0xFFFFFFFF (s.rd Reg.MON_MISS.N n) % 2 ^ 32 ∧ OnlyRegs s t [Reg.MON_MISS.N.key n 0])) ∧
  (∀ (m : Master) (ev : BitVec 8) (codes : List (Fin 256)) (at0 : Nat) (s t : State), s.ready (Reg.MON_SWEV.EV.addr 0 0) = true → s.present islMON = true → codes.map (·.val) = (bitList 8 ev.toNat).map (0xC8 + ·) → exec (.monEvent codes at0) s = .next t → exec (.monSwev m ev at0) s = .next (t.ack m))

/-- A step takes the command at the front of the queue, and a tick passes where none waits. For every command c, queue rest and
state s, the step of s with c in front of rest is exec of c on s with the queue rest; the step of s with an empty queue answers
the state one tick later, with time one greater and the queue still empty (the model's choice). It rests on the model's choices of
log entry 1. -/
def Obligations.StepRunsTheFront : Prop :=
  (∀ (c : Instr) (rest : List Instr) (s : State), step { s with pending := c :: rest } = exec c { s with pending := rest }) ∧
  (∀ (s : State), s.pending = [] → step s = .next s.tick ∧ s.tick.now = s.now + 1 ∧ s.tick.pending = [])

/-- The state at reset: every register at its reset value, no byte of memory listed, no command waiting. Every field of every
register reads its reset value, a byte of memory reads 0 (the model's choice), no command waits, no island is powered (every one
is held in reset, so that no register answers a bus master before a start). It rests on the model's choices of log entries 4, 5,
6. -/
def Obligations.ResetLeaves : Prop :=
  ∀ (f : FD) (i j : Nat), State.reset.rd f i j = f.rst i j ∧ (∀ a, State.reset.byte a = 0) ∧ State.reset.pending = [] ∧ State.reset.now = 0 ∧ State.reset.chainTime = 0 ∧
        (∀ isl < 39, State.reset.on Reg.ISL_STAT.IN_RESET isl = true ∧ State.reset.on Reg.ISL_STAT.POWERED isl = false)

/-- The canonical form holds at reset. The state right after reset is in canonical form: what the sparse maps list is in rising
order with no entry equal to what an unlisted one reads as. It rests on the model's choices of log entries 5, 6. -/
def Obligations.CanonAtReset : Prop :=
  State.reset.Canon

/-- Every step keeps memory, tightly coupled memories, data caches and the register file in canonical form. From every state in
canonical form a step, whichever command it runs or whether it idles, answers a state in canonical form. It rests on the model's
choices of log entry 1. -/
def Obligations.EveryStepKeepsCanon : Prop :=
  ∀ (s t : State), (s.Canon) → step s = .next t → t.Canon

/-- No command faults and none is refused. For every command and every state exec answers a next state. A command whose conditions
do not hold answers the state unchanged, or the bus error its rule gives. It rests on the model's choices of log entry 3. -/
def Obligations.EveryCommandCompletes : Prop :=
  ∀ (c : Instr) (s : State), ∃ t, exec c s = .next t

/-- No command touches the queue of the commands that wait, or lets a tick pass. Whatever a command does, the commands that wait
and the count of ticks are after it as they were before, and the canonical form is kept. It rests on the model's choices of log
entry 1. -/
def Obligations.CommandsKeepQueueAndTime : Prop :=
  ∀ (c : Instr) (s t : State), exec c s = .next t → Keeps s t

/-- A command that stores to no memory leaves every byte as it was. For the commands that `mayStore` does not name, every byte of
memory and of the tightly coupled memories reads after the command as before it. It rests on the model's choices of log entry 37.
-/
def Obligations.CommandsThatStoreNothing : Prop :=
  ∀ (c : Instr) (s t : State), mayStore c = false → exec c s = .next t → (∀ a, t.byte a = s.byte a) ∧ (∀ core off, t.tcmByte core off = s.tcmByte core off)

/-- Two commands that wait run one after the other, first in first out. From a state whose queue is c, d, rest, a step runs c, and
the step after it runs d on what c left, with the queue rest. It rests on the model's choices of log entry 1. -/
def Obligations.WaitingCommandsRunInOrder : Prop :=
  ∀ (c d : Instr) (rest : List Instr) (s t : State), exec c { s with pending := d :: rest } = .next t → step { s with pending := c :: d :: rest } = .next t ∧ step t = exec d { t with pending := rest }
end

