-- ==== Sys2Proof/Laws/SMap.lean ====
section
/-! SUPPORT. What reading, writing and filtering a sparse map do, and that they keep its canonical form. -/

namespace Sys2Proof.Machine

variable {α : Type}

/-- Every key of the map lies above a bound. -/
def SMap.above (n : Nat) (m : SMap α) : Prop := ∀ e ∈ m, n < e.1

theorem SMap.sorted_cons {a : Nat × α} {m : SMap α} : SMap.sorted (a :: m) = true ↔ SMap.above a.1 m ∧ SMap.sorted m = true := by
  induction m generalizing a with
  | nil => simp [SMap.sorted, SMap.above]
  | cons b t ih =>
    simp only [SMap.sorted, Bool.and_eq_true, decide_eq_true_eq]
    constructor
    · rintro ⟨hab, hs⟩
      refine ⟨fun e he => ?_, hs⟩
      rcases List.mem_cons.1 he with rfl | he
      · exact hab
      · exact Nat.lt_trans hab ((ih.1 hs).1 e he)
    · rintro ⟨ha, hs⟩
      exact ⟨ha b (by simp), hs⟩

theorem SMap.sorted_filter (p : Nat × α → Bool) {m : SMap α} (h : SMap.sorted m = true) : SMap.sorted (m.filter p) = true := by
  induction m with
  | nil => rfl
  | cons a t ih =>
    have h' := SMap.sorted_cons.1 h
    by_cases hp : p a = true
    · rw [List.filter_cons_of_pos hp]
      exact SMap.sorted_cons.2 ⟨fun e he => h'.1 e (List.mem_filter.1 he).1, ih h'.2⟩
    · rw [List.filter_cons_of_neg hp]; exact ih h'.2

theorem SMap.mem_ins {k : Nat} {v : α} {m : SMap α} {e : Nat × α} : e ∈ SMap.ins k v m ↔ e = (k, v) ∨ e ∈ m := by
  induction m with
  | nil => simp [SMap.ins]
  | cons a t ih =>
    obtain ⟨k', v'⟩ := a
    by_cases hk : k < k'
    · simp [SMap.ins, hk]
    · simp only [SMap.ins, hk, if_false, List.mem_cons, ih]
      constructor
      · rintro (h | h | h) <;> simp [h]
      · rintro (h | h | h) <;> simp [h]

theorem SMap.sorted_ins {k : Nat} {v : α} {m : SMap α} (hk : ∀ e ∈ m, e.1 ≠ k) (h : SMap.sorted m = true) :
    SMap.sorted (SMap.ins k v m) = true := by
  induction m with
  | nil => rfl
  | cons a t ih =>
    obtain ⟨k', v'⟩ := a
    have h' := SMap.sorted_cons.1 h
    by_cases hlt : k < k'
    · simp only [SMap.ins, hlt, if_true]
      refine SMap.sorted_cons.2 ⟨fun e he => ?_, h⟩
      rcases List.mem_cons.1 he with rfl | he
      · exact hlt
      · exact Nat.lt_trans hlt (h'.1 e he)
    · simp only [SMap.ins, hlt, if_false]
      have hne : k' ≠ k := hk (k', v') (by simp)
      refine SMap.sorted_cons.2 ⟨fun e he => ?_, ih (fun e he => hk e (by simp [he])) h'.2⟩
      rcases SMap.mem_ins.1 he with rfl | he
      · exact Nat.lt_of_le_of_ne (Nat.le_of_not_lt hlt) hne
      · exact h'.1 e he

theorem SMap.mem_drop {k : Nat} {m : SMap α} {e : Nat × α} : e ∈ SMap.drop k m ↔ e ∈ m ∧ e.1 ≠ k := by
  simp [SMap.drop]

theorem SMap.sorted_drop (k : Nat) {m : SMap α} (h : SMap.sorted m = true) : SMap.sorted (SMap.drop k m) = true :=
  SMap.sorted_filter _ h

theorem SMap.sorted_set [DecidableEq α] (d : α) (k : Nat) (v : α) {m : SMap α} (h : SMap.sorted m = true) :
    SMap.sorted (SMap.set d m k v) = true := by
  unfold SMap.set
  split
  · exact SMap.sorted_drop k h
  · exact SMap.sorted_ins (fun e he => (SMap.mem_drop.1 he).2) (SMap.sorted_drop k h)

theorem SMap.wf_iff [DecidableEq α] {d : Nat → α} {m : SMap α} :
    SMap.wf d m = true ↔ SMap.sorted m = true ∧ ∀ e ∈ m, e.2 ≠ d e.1 := by
  simp [SMap.wf]

/-- Setting a key keeps the canonical form. -/
theorem SMap.wf_set [DecidableEq α] {d : Nat → α} (k : Nat) (v : α) {m : SMap α} (h : SMap.wf d m = true) :
    SMap.wf d (SMap.set (d k) m k v) = true := by
  rw [SMap.wf_iff] at h ⊢
  refine ⟨SMap.sorted_set _ k v h.1, fun e he => ?_⟩
  unfold SMap.set at he
  split at he
  · exact h.2 e (SMap.mem_drop.1 he).1
  · next hv =>
    rcases SMap.mem_ins.1 he with rfl | he
    · exact hv
    · exact h.2 e (SMap.mem_drop.1 he).1

/-- Dropping entries keeps the canonical form. -/
theorem SMap.wf_filter [DecidableEq α] {d : Nat → α} (p : Nat × α → Bool) {m : SMap α} (h : SMap.wf d m = true) :
    SMap.wf d (m.filter p) = true := by
  rw [SMap.wf_iff] at h ⊢
  exact ⟨SMap.sorted_filter p h.1, fun e he => h.2 e (List.mem_filter.1 he).1⟩

theorem SMap.get_drop_same (d : α) (k : Nat) (m : SMap α) : SMap.get d (SMap.drop k m) k = d := by
  induction m with
  | nil => rfl
  | cons a t ih =>
    obtain ⟨k', v'⟩ := a
    by_cases h : k' = k
    · simpa [SMap.drop, h] using ih
    · have : SMap.drop k ((k', v') :: t) = (k', v') :: SMap.drop k t := by simp [SMap.drop, h]
      rw [this]; simpa [SMap.get, h] using ih

theorem SMap.get_drop_ne (d : α) {k x : Nat} (hx : x ≠ k) (m : SMap α) : SMap.get d (SMap.drop k m) x = SMap.get d m x := by
  induction m with
  | nil => rfl
  | cons a t ih =>
    obtain ⟨k', v'⟩ := a
    by_cases h : k' = k
    · have : SMap.drop k ((k', v') :: t) = SMap.drop k t := by simp [SMap.drop, h]
      rw [this, ih, SMap.get, if_neg (by omega)]
    · have : SMap.drop k ((k', v') :: t) = (k', v') :: SMap.drop k t := by simp [SMap.drop, h]
      rw [this, SMap.get, SMap.get, ih]

theorem SMap.get_ins_same (d : α) (k : Nat) (v : α) {m : SMap α} (h : ∀ e ∈ m, e.1 ≠ k) : SMap.get d (SMap.ins k v m) k = v := by
  induction m with
  | nil => simp [SMap.ins, SMap.get]
  | cons a t ih =>
    obtain ⟨k', v'⟩ := a
    by_cases hlt : k < k'
    · simp [SMap.ins, hlt, SMap.get]
    · simp only [SMap.ins, hlt, if_false, SMap.get, if_neg (h (k', v') (by simp))]
      exact ih fun e he => h e (by simp [he])

theorem SMap.get_ins_ne (d : α) {k x : Nat} (hx : x ≠ k) (v : α) (m : SMap α) : SMap.get d (SMap.ins k v m) x = SMap.get d m x := by
  induction m with
  | nil => simp [SMap.ins, SMap.get, Ne.symm hx]
  | cons a t ih =>
    obtain ⟨k', v'⟩ := a
    by_cases hlt : k < k'
    · simp [SMap.ins, hlt, SMap.get, Ne.symm hx]
    · simp [SMap.ins, hlt, SMap.get, ih]

/-- The value just set is the one read. -/
theorem SMap.get_set_same [DecidableEq α] (d : α) (m : SMap α) (k : Nat) (v : α) : SMap.get d (SMap.set d m k v) k = v := by
  unfold SMap.set
  split
  · next h => rw [SMap.get_drop_same, h]
  · exact SMap.get_ins_same d k v fun e he => (SMap.mem_drop.1 he).2

/-- Every other key reads as before, whatever default it is read with. -/
theorem SMap.get_set_ne [DecidableEq α] (d d' : α) (m : SMap α) {k x : Nat} (v : α) (hx : x ≠ k) :
    SMap.get d' (SMap.set d m k v) x = SMap.get d' m x := by
  unfold SMap.set
  split
  · exact SMap.get_drop_ne d' hx m
  · rw [SMap.get_ins_ne d' hx, SMap.get_drop_ne d' hx]

end Sys2Proof.Machine
end

