-- ==== Sys2Proof/Laws/State.lean ====
section
/-! SUPPORT. One lemma per field per update: what a register write, a bus answer and a write of a unit record leave alone, and what is read
back. -/

namespace Sys2Proof.Machine

/-! ## Register fields -/

/-- The value just written reads back, cut to the width of the field. -/
@[simp] theorem State.rd_wr2_same (s : State) (f : FD) (i j v : Nat) : (s.wr2 f i j v).rd f i j = v % 2 ^ f.w :=
  SMap.get_set_same _ _ _ _

/-- A field under another key reads as before. -/
theorem State.rd_wr2_ne (s : State) {f g : FD} {i j a b : Nat} (v : Nat) (h : g.key a b ≠ f.key i j) : (s.wr2 f i j v).rd g a b = s.rd g a b :=
  SMap.get_set_ne _ _ _ _ h

theorem State.wr_eq (s : State) (f : FD) (i v : Nat) : s.wr f i v = s.wr2 f i 0 v := rfl
theorem State.flag_eq (s : State) (f : FD) (i : Nat) : s.flag f i = s.wr2 f i 0 1 := rfl
theorem State.flag2_eq (s : State) (f : FD) (i j : Nat) : s.flag2 f i j = s.wr2 f i j 1 := rfl
theorem State.wrI_eq (s : State) (f : FD) (i : Nat) (v : Int) : s.wrI f i v = s.wr2 f i 0 (uns f.w v) := rfl
theorem State.bump_eq (s : State) (f : FD) (i : Nat) : s.bump f i = s.wr2 f i 0 (satAdd (2 ^ f.w - 1) (s.rd f i)) := rfl
theorem State.on_eq (s : State) (f : FD) (i j : Nat) : s.on f i j = (s.rd f i j == 1) := rfl
@[simp] theorem State.onlyIf_true (s : State) (f : State → State) : s.onlyIf true f = f s := rfl
@[simp] theorem State.onlyIf_false (s : State) (f : State → State) : s.onlyIf false f = s := rfl

/-- Every register but those of a list of keys reads as before, whatever its reset value. -/
theorem RegsBut.refl (s : State) (ks : List Nat) : RegsBut s s ks := fun _ _ _ => rfl

theorem RegsBut.of_eq {s t u : State} {ks : List Nat} (h : RegsBut s t ks) (e : u.regs = t.regs) : RegsBut s u ks :=
  fun d k hk => by rw [e]; exact h d k hk

theorem RegsBut.wr2 {s t : State} {ks : List Nat} (h : RegsBut s t ks) {f : FD} {i j v : Nat} (hk : f.key i j ∈ ks) :
    RegsBut s (t.wr2 f i j v) ks := fun d k hn =>
  (SMap.get_set_ne _ d _ _ (fun e : k = f.key i j => hn (by rw [e]; exact hk))).trans (h d k hn)

theorem OnlyRegs.refl (s : State) (ks : List Nat) : OnlyRegs s s ks := ⟨RegsBut.refl s ks, rfl⟩

theorem OnlyRegs.wr2 {s t : State} {ks : List Nat} (h : OnlyRegs s t ks) {f : FD} {i j v : Nat} (hk : f.key i j ∈ ks) :
    OnlyRegs s (t.wr2 f i j v) ks := ⟨h.regs.wr2 hk, h.rest⟩

theorem OnlyRegs.setResp {s t : State} {ks : List Nat} (h : OnlyRegs s t ks) {m : Master} {r : Resp} : OnlyRegs s (t.setResp m r) ks :=
  ⟨h.regs.of_eq rfl, h.rest⟩

/-- The next state of a meaning that always answers one. -/
theorem exists_next {u : State} {P : State → Prop} (h : P u) :
    ∃ t, (Host.Outcome.next u : Host.Outcome State Fault Refusal) = .next t ∧ P t := ⟨u, rfl, h⟩

/-! ## A register write leaves every other field of the state alone -/

@[simp] theorem State.now_wr2 (s : State) (f : FD) (i j v : Nat) : (s.wr2 f i j v).now = s.now := rfl
@[simp] theorem State.mem_wr2 (s : State) (f : FD) (i j v : Nat) : (s.wr2 f i j v).mem = s.mem := rfl
@[simp] theorem State.tcm_wr2 (s : State) (f : FD) (i j v : Nat) : (s.wr2 f i j v).tcm = s.tcm := rfl
@[simp] theorem State.eccBad_wr2 (s : State) (f : FD) (i j v : Nat) : (s.wr2 f i j v).eccBad = s.eccBad := rfl
@[simp] theorem State.resp_wr2 (s : State) (f : FD) (i j v : Nat) : (s.wr2 f i j v).resp = s.resp := rfl
@[simp] theorem State.rhold_wr2 (s : State) (f : FD) (i j v : Nat) : (s.wr2 f i j v).rhold = s.rhold := rfl
@[simp] theorem State.whold_wr2 (s : State) (f : FD) (i j v : Nat) : (s.wr2 f i j v).whold = s.whold := rfl
@[simp] theorem State.caps_wr2 (s : State) (f : FD) (i j v : Nat) : (s.wr2 f i j v).caps = s.caps := rfl
@[simp] theorem State.tbs_wr2 (s : State) (f : FD) (i j v : Nat) : (s.wr2 f i j v).tbs = s.tbs := rfl
@[simp] theorem State.legs_wr2 (s : State) (f : FD) (i j v : Nat) : (s.wr2 f i j v).legs = s.legs := rfl
@[simp] theorem State.pads_wr2 (s : State) (f : FD) (i j v : Nat) : (s.wr2 f i j v).pads = s.pads := rfl
@[simp] theorem State.adcs_wr2 (s : State) (f : FD) (i j v : Nat) : (s.wr2 f i j v).adcs = s.adcs := rfl
@[simp] theorem State.seqs_wr2 (s : State) (f : FD) (i j v : Nat) : (s.wr2 f i j v).seqs = s.seqs := rfl
@[simp] theorem State.pairs_wr2 (s : State) (f : FD) (i j v : Nat) : (s.wr2 f i j v).pairs = s.pairs := rfl
@[simp] theorem State.isos_wr2 (s : State) (f : FD) (i j v : Nat) : (s.wr2 f i j v).isos = s.isos := rfl
@[simp] theorem State.linkq_wr2 (s : State) (f : FD) (i j v : Nat) : (s.wr2 f i j v).linkq = s.linkq := rfl
@[simp] theorem State.ains_wr2 (s : State) (f : FD) (i j v : Nat) : (s.wr2 f i j v).ains = s.ains := rfl
@[simp] theorem State.asc_wr2 (s : State) (f : FD) (i j v : Nat) : (s.wr2 f i j v).asc = s.asc := rfl
@[simp] theorem State.lands_wr2 (s : State) (f : FD) (i j v : Nat) : (s.wr2 f i j v).lands = s.lands := rfl
@[simp] theorem State.glitch_wr2 (s : State) (f : FD) (i j v : Nat) : (s.wr2 f i j v).glitch = s.glitch := rfl
@[simp] theorem State.rowanAt_wr2 (s : State) (f : FD) (i j v : Nat) : (s.wr2 f i j v).rowanAt = s.rowanAt := rfl
@[simp] theorem State.retireq_wr2 (s : State) (f : FD) (i j v : Nat) : (s.wr2 f i j v).retireq = s.retireq := rfl
@[simp] theorem State.clyPhase_wr2 (s : State) (f : FD) (i j v : Nat) : (s.wr2 f i j v).clyPhase = s.clyPhase := rfl
@[simp] theorem State.vgio_wr2 (s : State) (f : FD) (i j v : Nat) : (s.wr2 f i j v).vgio = s.vgio := rfl
@[simp] theorem State.links_wr2 (s : State) (f : FD) (i j v : Nat) : (s.wr2 f i j v).links = s.links := rfl
@[simp] theorem State.rails_wr2 (s : State) (f : FD) (i j v : Nat) : (s.wr2 f i j v).rails = s.rails := rfl
@[simp] theorem State.lus_wr2 (s : State) (f : FD) (i j v : Nat) : (s.wr2 f i j v).lus = s.lus := rfl
@[simp] theorem State.fcs_wr2 (s : State) (f : FD) (i j v : Nat) : (s.wr2 f i j v).fcs = s.fcs := rfl
@[simp] theorem State.fctab_wr2 (s : State) (f : FD) (i j v : Nat) : (s.wr2 f i j v).fctab = s.fctab := rfl
@[simp] theorem State.tblq_wr2 (s : State) (f : FD) (i j v : Nat) : (s.wr2 f i j v).tblq = s.tblq := rfl
@[simp] theorem State.poss_wr2 (s : State) (f : FD) (i j v : Nat) : (s.wr2 f i j v).poss = s.poss := rfl
@[simp] theorem State.rss_wr2 (s : State) (f : FD) (i j v : Nat) : (s.wr2 f i j v).rss = s.rss := rfl
@[simp] theorem State.emus_wr2 (s : State) (f : FD) (i j v : Nat) : (s.wr2 f i j v).emus = s.emus := rfl
@[simp] theorem State.routes_wr2 (s : State) (f : FD) (i j v : Nat) : (s.wr2 f i j v).routes = s.routes := rfl
@[simp] theorem State.pulses_wr2 (s : State) (f : FD) (i j v : Nat) : (s.wr2 f i j v).pulses = s.pulses := rfl
@[simp] theorem State.logq_wr2 (s : State) (f : FD) (i j v : Nat) : (s.wr2 f i j v).logq = s.logq := rfl
@[simp] theorem State.logLost_wr2 (s : State) (f : FD) (i j v : Nat) : (s.wr2 f i j v).logLost = s.logLost := rfl
@[simp] theorem State.logGap_wr2 (s : State) (f : FD) (i j v : Nat) : (s.wr2 f i j v).logGap = s.logGap := rfl
@[simp] theorem State.fresh_wr2 (s : State) (f : FD) (i j v : Nat) : (s.wr2 f i j v).fresh = s.fresh := rfl
@[simp] theorem State.rows_wr2 (s : State) (f : FD) (i j v : Nat) : (s.wr2 f i j v).rows = s.rows := rfl
@[simp] theorem State.rowg_wr2 (s : State) (f : FD) (i j v : Nat) : (s.wr2 f i j v).rowg = s.rowg := rfl
@[simp] theorem State.rowrs_wr2 (s : State) (f : FD) (i j v : Nat) : (s.wr2 f i j v).rowrs = s.rowrs := rfl
@[simp] theorem State.pwr_wr2 (s : State) (f : FD) (i j v : Nat) : (s.wr2 f i j v).pwr = s.pwr := rfl
@[simp] theorem State.cpx_wr2 (s : State) (f : FD) (i j v : Nat) : (s.wr2 f i j v).cpx = s.cpx := rfl
@[simp] theorem State.img_wr2 (s : State) (f : FD) (i j v : Nat) : (s.wr2 f i j v).img = s.img := rfl
@[simp] theorem State.dcache_wr2 (s : State) (f : FD) (i j v : Nat) : (s.wr2 f i j v).dcache = s.dcache := rfl
@[simp] theorem State.ch_wr2 (s : State) (f : FD) (i j v : Nat) : (s.wr2 f i j v).ch = s.ch := rfl
@[simp] theorem State.chOut_wr2 (s : State) (f : FD) (i j v : Nat) : (s.wr2 f i j v).chOut = s.chOut := rfl
@[simp] theorem State.pins_wr2 (s : State) (f : FD) (i j v : Nat) : (s.wr2 f i j v).pins = s.pins := rfl
@[simp] theorem State.cans_wr2 (s : State) (f : FD) (i j v : Nat) : (s.wr2 f i j v).cans = s.cans := rfl
@[simp] theorem State.clk_wr2 (s : State) (f : FD) (i j v : Nat) : (s.wr2 f i j v).clk = s.clk := rfl
@[simp] theorem State.st_wr2 (s : State) (f : FD) (i j v : Nat) : (s.wr2 f i j v).st = s.st := rfl
@[simp] theorem State.hps_wr2 (s : State) (f : FD) (i j v : Nat) : (s.wr2 f i j v).hps = s.hps := rfl
@[simp] theorem State.replies_wr2 (s : State) (f : FD) (i j v : Nat) : (s.wr2 f i j v).replies = s.replies := rfl
@[simp] theorem State.mons_wr2 (s : State) (f : FD) (i j v : Nat) : (s.wr2 f i j v).mons = s.mons := rfl
@[simp] theorem State.aldLoad_wr2 (s : State) (f : FD) (i j v : Nat) : (s.wr2 f i j v).aldLoad = s.aldLoad := rfl
@[simp] theorem State.ecc_wr2 (s : State) (f : FD) (i j v : Nat) : (s.wr2 f i j v).ecc = s.ecc := rfl
@[simp] theorem State.aldHot_wr2 (s : State) (f : FD) (i j v : Nat) : (s.wr2 f i j v).aldHot = s.aldHot := rfl
@[simp] theorem State.houseAt_wr2 (s : State) (f : FD) (i j v : Nat) : (s.wr2 f i j v).houseAt = s.houseAt := rfl
@[simp] theorem State.aldScan_wr2 (s : State) (f : FD) (i j v : Nat) : (s.wr2 f i j v).aldScan = s.aldScan := rfl
@[simp] theorem State.cedq_wr2 (s : State) (f : FD) (i j v : Nat) : (s.wr2 f i j v).cedq = s.cedq := rfl
@[simp] theorem State.pending_wr2 (s : State) (f : FD) (i j v : Nat) : (s.wr2 f i j v).pending = s.pending := rfl

/-! ## Unit records -/

@[simp] theorem State.tb_setTb_same (s : State) (n : Nat) (r : TbS) : (s.setTb n r).tb n = r := SMap.get_set_same _ _ _ _
@[simp] theorem State.regs_setTb (s : State) (n : Nat) (r : TbS) : (s.setTb n r).regs = s.regs := rfl
@[simp] theorem State.mem_setTb (s : State) (n : Nat) (r : TbS) : (s.setTb n r).mem = s.mem := rfl
@[simp] theorem State.rd_setTb (s : State) (n : Nat) (r : TbS) (f : FD) (i j : Nat) : (s.setTb n r).rd f i j = s.rd f i j := rfl
theorem State.tb_setTb_ne (s : State) {n k : Nat} (r : TbS) (h : k ≠ n) : (s.setTb n r).tb k = s.tb k := SMap.get_set_ne _ _ _ _ h
@[simp] theorem State.tb_wr2 (s : State) (f : FD) (i j v n : Nat) : (s.wr2 f i j v).tb n = s.tb n := rfl
@[simp] theorem State.leg_setLeg_same (s : State) (n : Nat) (r : LegS) : (s.setLeg n r).leg n = r := SMap.get_set_same _ _ _ _
@[simp] theorem State.regs_setLeg (s : State) (n : Nat) (r : LegS) : (s.setLeg n r).regs = s.regs := rfl
@[simp] theorem State.mem_setLeg (s : State) (n : Nat) (r : LegS) : (s.setLeg n r).mem = s.mem := rfl
@[simp] theorem State.rd_setLeg (s : State) (n : Nat) (r : LegS) (f : FD) (i j : Nat) : (s.setLeg n r).rd f i j = s.rd f i j := rfl
theorem State.leg_setLeg_ne (s : State) {n k : Nat} (r : LegS) (h : k ≠ n) : (s.setLeg n r).leg k = s.leg k := SMap.get_set_ne _ _ _ _ h
@[simp] theorem State.leg_wr2 (s : State) (f : FD) (i j v n : Nat) : (s.wr2 f i j v).leg n = s.leg n := rfl
@[simp] theorem State.pad_setPad_same (s : State) (n : Nat) (r : PadS) : (s.setPad n r).pad n = r := SMap.get_set_same _ _ _ _
@[simp] theorem State.regs_setPad (s : State) (n : Nat) (r : PadS) : (s.setPad n r).regs = s.regs := rfl
@[simp] theorem State.mem_setPad (s : State) (n : Nat) (r : PadS) : (s.setPad n r).mem = s.mem := rfl
@[simp] theorem State.rd_setPad (s : State) (n : Nat) (r : PadS) (f : FD) (i j : Nat) : (s.setPad n r).rd f i j = s.rd f i j := rfl
theorem State.pad_setPad_ne (s : State) {n k : Nat} (r : PadS) (h : k ≠ n) : (s.setPad n r).pad k = s.pad k := SMap.get_set_ne _ _ _ _ h
@[simp] theorem State.pad_wr2 (s : State) (f : FD) (i j v n : Nat) : (s.wr2 f i j v).pad n = s.pad n := rfl
@[simp] theorem State.adc_setAdc_same (s : State) (n : Nat) (r : AdcS) : (s.setAdc n r).adc n = r := SMap.get_set_same _ _ _ _
@[simp] theorem State.regs_setAdc (s : State) (n : Nat) (r : AdcS) : (s.setAdc n r).regs = s.regs := rfl
@[simp] theorem State.mem_setAdc (s : State) (n : Nat) (r : AdcS) : (s.setAdc n r).mem = s.mem := rfl
@[simp] theorem State.rd_setAdc (s : State) (n : Nat) (r : AdcS) (f : FD) (i j : Nat) : (s.setAdc n r).rd f i j = s.rd f i j := rfl
theorem State.adc_setAdc_ne (s : State) {n k : Nat} (r : AdcS) (h : k ≠ n) : (s.setAdc n r).adc k = s.adc k := SMap.get_set_ne _ _ _ _ h
@[simp] theorem State.adc_wr2 (s : State) (f : FD) (i j v n : Nat) : (s.wr2 f i j v).adc n = s.adc n := rfl
@[simp] theorem State.seq_setSeq_same (s : State) (n : Nat) (r : SeqS) : (s.setSeq n r).seq n = r := SMap.get_set_same _ _ _ _
@[simp] theorem State.regs_setSeq (s : State) (n : Nat) (r : SeqS) : (s.setSeq n r).regs = s.regs := rfl
@[simp] theorem State.mem_setSeq (s : State) (n : Nat) (r : SeqS) : (s.setSeq n r).mem = s.mem := rfl
@[simp] theorem State.rd_setSeq (s : State) (n : Nat) (r : SeqS) (f : FD) (i j : Nat) : (s.setSeq n r).rd f i j = s.rd f i j := rfl
theorem State.seq_setSeq_ne (s : State) {n k : Nat} (r : SeqS) (h : k ≠ n) : (s.setSeq n r).seq k = s.seq k := SMap.get_set_ne _ _ _ _ h
@[simp] theorem State.seq_wr2 (s : State) (f : FD) (i j v n : Nat) : (s.wr2 f i j v).seq n = s.seq n := rfl
@[simp] theorem State.pair_setPair_same (s : State) (n : Nat) (r : PairS) : (s.setPair n r).pair n = r := SMap.get_set_same _ _ _ _
@[simp] theorem State.regs_setPair (s : State) (n : Nat) (r : PairS) : (s.setPair n r).regs = s.regs := rfl
@[simp] theorem State.mem_setPair (s : State) (n : Nat) (r : PairS) : (s.setPair n r).mem = s.mem := rfl
@[simp] theorem State.rd_setPair (s : State) (n : Nat) (r : PairS) (f : FD) (i j : Nat) : (s.setPair n r).rd f i j = s.rd f i j := rfl
theorem State.pair_setPair_ne (s : State) {n k : Nat} (r : PairS) (h : k ≠ n) : (s.setPair n r).pair k = s.pair k := SMap.get_set_ne _ _ _ _ h
@[simp] theorem State.pair_wr2 (s : State) (f : FD) (i j v n : Nat) : (s.wr2 f i j v).pair n = s.pair n := rfl
@[simp] theorem State.iso_setIso_same (s : State) (n : Nat) (r : IsoS) : (s.setIso n r).iso n = r := SMap.get_set_same _ _ _ _
@[simp] theorem State.regs_setIso (s : State) (n : Nat) (r : IsoS) : (s.setIso n r).regs = s.regs := rfl
@[simp] theorem State.mem_setIso (s : State) (n : Nat) (r : IsoS) : (s.setIso n r).mem = s.mem := rfl
@[simp] theorem State.rd_setIso (s : State) (n : Nat) (r : IsoS) (f : FD) (i j : Nat) : (s.setIso n r).rd f i j = s.rd f i j := rfl
theorem State.iso_setIso_ne (s : State) {n k : Nat} (r : IsoS) (h : k ≠ n) : (s.setIso n r).iso k = s.iso k := SMap.get_set_ne _ _ _ _ h
@[simp] theorem State.iso_wr2 (s : State) (f : FD) (i j v n : Nat) : (s.wr2 f i j v).iso n = s.iso n := rfl
@[simp] theorem State.lu_setLu_same (s : State) (n : Nat) (r : LuS) : (s.setLu n r).lu n = r := SMap.get_set_same _ _ _ _
@[simp] theorem State.regs_setLu (s : State) (n : Nat) (r : LuS) : (s.setLu n r).regs = s.regs := rfl
@[simp] theorem State.mem_setLu (s : State) (n : Nat) (r : LuS) : (s.setLu n r).mem = s.mem := rfl
@[simp] theorem State.rd_setLu (s : State) (n : Nat) (r : LuS) (f : FD) (i j : Nat) : (s.setLu n r).rd f i j = s.rd f i j := rfl
theorem State.lu_setLu_ne (s : State) {n k : Nat} (r : LuS) (h : k ≠ n) : (s.setLu n r).lu k = s.lu k := SMap.get_set_ne _ _ _ _ h
@[simp] theorem State.lu_wr2 (s : State) (f : FD) (i j v n : Nat) : (s.wr2 f i j v).lu n = s.lu n := rfl
@[simp] theorem State.fc_setFc_same (s : State) (n : Nat) (r : FcS) : (s.setFc n r).fc n = r := SMap.get_set_same _ _ _ _
@[simp] theorem State.regs_setFc (s : State) (n : Nat) (r : FcS) : (s.setFc n r).regs = s.regs := rfl
@[simp] theorem State.mem_setFc (s : State) (n : Nat) (r : FcS) : (s.setFc n r).mem = s.mem := rfl
@[simp] theorem State.rd_setFc (s : State) (n : Nat) (r : FcS) (f : FD) (i j : Nat) : (s.setFc n r).rd f i j = s.rd f i j := rfl
theorem State.fc_setFc_ne (s : State) {n k : Nat} (r : FcS) (h : k ≠ n) : (s.setFc n r).fc k = s.fc k := SMap.get_set_ne _ _ _ _ h
@[simp] theorem State.fc_wr2 (s : State) (f : FD) (i j v n : Nat) : (s.wr2 f i j v).fc n = s.fc n := rfl
@[simp] theorem State.pos_setPos_same (s : State) (n : Nat) (r : PosS) : (s.setPos n r).pos n = r := SMap.get_set_same _ _ _ _
@[simp] theorem State.regs_setPos (s : State) (n : Nat) (r : PosS) : (s.setPos n r).regs = s.regs := rfl
@[simp] theorem State.mem_setPos (s : State) (n : Nat) (r : PosS) : (s.setPos n r).mem = s.mem := rfl
@[simp] theorem State.rd_setPos (s : State) (n : Nat) (r : PosS) (f : FD) (i j : Nat) : (s.setPos n r).rd f i j = s.rd f i j := rfl
theorem State.pos_setPos_ne (s : State) {n k : Nat} (r : PosS) (h : k ≠ n) : (s.setPos n r).pos k = s.pos k := SMap.get_set_ne _ _ _ _ h
@[simp] theorem State.pos_wr2 (s : State) (f : FD) (i j v n : Nat) : (s.wr2 f i j v).pos n = s.pos n := rfl
@[simp] theorem State.rsv_setRsv_same (s : State) (n : Nat) (r : RsS) : (s.setRsv n r).rsv n = r := SMap.get_set_same _ _ _ _
@[simp] theorem State.regs_setRsv (s : State) (n : Nat) (r : RsS) : (s.setRsv n r).regs = s.regs := rfl
@[simp] theorem State.mem_setRsv (s : State) (n : Nat) (r : RsS) : (s.setRsv n r).mem = s.mem := rfl
@[simp] theorem State.rd_setRsv (s : State) (n : Nat) (r : RsS) (f : FD) (i j : Nat) : (s.setRsv n r).rd f i j = s.rd f i j := rfl
theorem State.rsv_setRsv_ne (s : State) {n k : Nat} (r : RsS) (h : k ≠ n) : (s.setRsv n r).rsv k = s.rsv k := SMap.get_set_ne _ _ _ _ h
@[simp] theorem State.rsv_wr2 (s : State) (f : FD) (i j v n : Nat) : (s.wr2 f i j v).rsv n = s.rsv n := rfl
@[simp] theorem State.emu_setEmu_same (s : State) (n : Nat) (r : EmuS) : (s.setEmu n r).emu n = r := SMap.get_set_same _ _ _ _
@[simp] theorem State.regs_setEmu (s : State) (n : Nat) (r : EmuS) : (s.setEmu n r).regs = s.regs := rfl
@[simp] theorem State.mem_setEmu (s : State) (n : Nat) (r : EmuS) : (s.setEmu n r).mem = s.mem := rfl
@[simp] theorem State.rd_setEmu (s : State) (n : Nat) (r : EmuS) (f : FD) (i j : Nat) : (s.setEmu n r).rd f i j = s.rd f i j := rfl
theorem State.emu_setEmu_ne (s : State) {n k : Nat} (r : EmuS) (h : k ≠ n) : (s.setEmu n r).emu k = s.emu k := SMap.get_set_ne _ _ _ _ h
@[simp] theorem State.emu_wr2 (s : State) (f : FD) (i j v n : Nat) : (s.wr2 f i j v).emu n = s.emu n := rfl
@[simp] theorem State.ascOf_setAsc_same (s : State) (n : Nat) (r : Option AscRun) : (s.setAsc n r).ascOf n = r := SMap.get_set_same _ _ _ _
@[simp] theorem State.regs_setAsc (s : State) (n : Nat) (r : Option AscRun) : (s.setAsc n r).regs = s.regs := rfl
@[simp] theorem State.mem_setAsc (s : State) (n : Nat) (r : Option AscRun) : (s.setAsc n r).mem = s.mem := rfl
@[simp] theorem State.rd_setAsc (s : State) (n : Nat) (r : Option AscRun) (f : FD) (i j : Nat) : (s.setAsc n r).rd f i j = s.rd f i j := rfl
theorem State.ascOf_setAsc_ne (s : State) {n k : Nat} (r : Option AscRun) (h : k ≠ n) : (s.setAsc n r).ascOf k = s.ascOf k := SMap.get_set_ne _ _ _ _ h
@[simp] theorem State.ascOf_wr2 (s : State) (f : FD) (i j v n : Nat) : (s.wr2 f i j v).ascOf n = s.ascOf n := rfl
@[simp] theorem State.src_setSrc_same (s : State) (n : Nat) (r : SrcS) : (s.setSrc n r).src n = r := SMap.get_set_same _ _ _ _
@[simp] theorem State.regs_setSrc (s : State) (n : Nat) (r : SrcS) : (s.setSrc n r).regs = s.regs := rfl
@[simp] theorem State.mem_setSrc (s : State) (n : Nat) (r : SrcS) : (s.setSrc n r).mem = s.mem := rfl
@[simp] theorem State.rd_setSrc (s : State) (n : Nat) (r : SrcS) (f : FD) (i j : Nat) : (s.setSrc n r).rd f i j = s.rd f i j := rfl
theorem State.src_setSrc_ne (s : State) {n k : Nat} (r : SrcS) (h : k ≠ n) : (s.setSrc n r).src k = s.src k := SMap.get_set_ne _ _ _ _ h
@[simp] theorem State.src_wr2 (s : State) (f : FD) (i j v n : Nat) : (s.wr2 f i j v).src n = s.src n := rfl
@[simp] theorem State.row_setRow_same (s : State) (n : Nat) (r : RowS) : (s.setRow n r).row n = r := SMap.get_set_same _ _ _ _
@[simp] theorem State.regs_setRow (s : State) (n : Nat) (r : RowS) : (s.setRow n r).regs = s.regs := rfl
@[simp] theorem State.mem_setRow (s : State) (n : Nat) (r : RowS) : (s.setRow n r).mem = s.mem := rfl
@[simp] theorem State.rd_setRow (s : State) (n : Nat) (r : RowS) (f : FD) (i j : Nat) : (s.setRow n r).rd f i j = s.rd f i j := rfl
theorem State.row_setRow_ne (s : State) {n k : Nat} (r : RowS) (h : k ≠ n) : (s.setRow n r).row k = s.row k := SMap.get_set_ne _ _ _ _ h
@[simp] theorem State.row_wr2 (s : State) (f : FD) (i j v n : Nat) : (s.wr2 f i j v).row n = s.row n := rfl
@[simp] theorem State.rowRs_setRowRs_same (s : State) (n : Nat) (r : RowRs) : (s.setRowRs n r).rowRs n = r := SMap.get_set_same _ _ _ _
@[simp] theorem State.regs_setRowRs (s : State) (n : Nat) (r : RowRs) : (s.setRowRs n r).regs = s.regs := rfl
@[simp] theorem State.mem_setRowRs (s : State) (n : Nat) (r : RowRs) : (s.setRowRs n r).mem = s.mem := rfl
@[simp] theorem State.rd_setRowRs (s : State) (n : Nat) (r : RowRs) (f : FD) (i j : Nat) : (s.setRowRs n r).rd f i j = s.rd f i j := rfl
theorem State.rowRs_setRowRs_ne (s : State) {n k : Nat} (r : RowRs) (h : k ≠ n) : (s.setRowRs n r).rowRs k = s.rowRs k := SMap.get_set_ne _ _ _ _ h
@[simp] theorem State.rowRs_wr2 (s : State) (f : FD) (i j v n : Nat) : (s.wr2 f i j v).rowRs n = s.rowRs n := rfl

/-! ## Bus answers -/

@[simp] theorem State.regs_setResp (s : State) (m : Master) (r : Resp) : (s.setResp m r).regs = s.regs := rfl
@[simp] theorem State.mem_setResp (s : State) (m : Master) (r : Resp) : (s.setResp m r).mem = s.mem := rfl
@[simp] theorem State.rd_setResp (s : State) (m : Master) (r : Resp) (f : FD) (i j : Nat) : (s.setResp m r).rd f i j = s.rd f i j := rfl
@[simp] theorem State.respOf_setResp (s : State) (m : Master) (r : Resp) : (s.setResp m r).respOf m = r := SMap.get_set_same _ _ _ _
theorem State.ack_eq (s : State) (m : Master) : s.ack m = s.setResp m ⟨false, 0⟩ := rfl

/-- A write that reaches its register has its effect and completes (R27). -/
theorem State.busWrite_reach {s : State} {m : Master} {a : Nat} {f : State → State} (h : s.reach (islandAt a) = true) :
    s.busWrite m a f = (f s).ack m := by simp [State.busWrite, h]

/-- A write that does not reach its register ends in a bus error (R27, R42). -/
theorem State.busWrite_lost {s : State} {m : Master} {a : Nat} {f : State → State} (h : s.reach (islandAt a) = false) :
    s.busWrite m a f = s.busErr m a := by simp [State.busWrite, h]

/-- A write of a register that answers, with no commit of its window in progress. -/
theorem State.winWrite_ready {s : State} {m : Master} {a : Nat} {f : State → State} (h : s.ready a = true) : s.winWrite m a f = (f s).ack m := by
  simp only [State.ready, Bool.and_eq_true, Bool.not_eq_true'] at h
  simp [State.winWrite, State.busWrite, State.commitEnd, h.1, h.2]

theorem State.ready_reach {s : State} {a : Nat} (h : s.ready a = true) : s.reach (islandAt a) = true := by
  simp only [State.ready, Bool.and_eq_true] at h
  exact h.1

/-! ## Bytes -/

@[simp] theorem State.byte_setByte_same (s : State) (a v : Nat) : (s.setByte a v).byte a = v % 256 := by
  simp [State.byte, State.setByte, SMap.get_set_same, BitVec.toNat_ofNat]

theorem State.byte_setByte_ne (s : State) {a b : Nat} (v : Nat) (h : b ≠ a) : (s.setByte a v).byte b = s.byte b := by
  simp [State.byte, State.setByte, SMap.get_set_ne _ _ _ _ h]

/-- Bytes outside a range that is written read as before. -/
theorem State.byte_setBytes_ne (l : List Nat) (s : State) {a b : Nat} (h : b < a ∨ a + l.length ≤ b) : (s.setBytes a l).byte b = s.byte b := by
  induction l generalizing s a with
  | nil => rfl
  | cons x t ih =>
    simp only [State.setBytes, List.length_cons] at h ⊢
    rw [ih _ (by omega), State.byte_setByte_ne _ _ (by omega)]

end Sys2Proof.Machine
end

