-- ==== Sys2Proof/Laws/Cedar.lean ====
section
/-! SUPPORT. What one executed instruction of Cedar does, composed from the writes it makes (R190 to R193). -/

namespace Sys2Proof.Machine

/-- The state in which an instruction's own effect begins: the next word in turn, and BAD of the program where an operand is bad. -/
def State.cedGo (s : State) (u p w : Nat) : State :=
  (s.setLu u { s.lu u with pc := (s.lu u).pc + 1 }).onlyIf ((s.setLu u { s.lu u with pc := (s.lu u).pc + 1 }).readsBad u w)
    (·.flag2 Reg.LP_STAT.BAD u p)

theorem State.cedAt_run {s : State} {u p w : Nat} (h : s.cedAt u p w = true) : (s.lu u).run = some p := by
  simp only [State.cedAt, Bool.and_eq_true, beq_iff_eq] at h; exact h.1.1.1.1

/-- A unit that is about to execute w runs the instruction that w names. -/
theorem State.cedRun_at {s : State} {u p w : Nat} (h : s.cedAt u p w = true) {i : Nat → Bool} (hi : i w = true)
    (f : Nat → State → State) : s.cedRun u i f = f w (s.cedGo u p w) := by
  have hr := State.cedAt_run h
  simp only [State.cedAt, Bool.and_eq_true, beq_iff_eq, Bool.not_eq_true'] at h
  obtain ⟨⟨⟨⟨-, h2⟩, h3⟩, h4⟩, h5⟩ := h
  unfold State.cedRun
  split
  · rename_i q; rw [hr] at q; cases q
  · rename_i q hq
    rw [hr] at hq; cases hq
    simp only [List.find?, h2, h3, h4, hi, Bool.not_true, Bool.false_eq_true, if_false]
    rw [if_pos]
    · rfl
    · simpa [Bool.or_eq_true] using h5

/-- Another instruction's command leaves everything alone. -/
theorem State.cedRun_not {s : State} {u p w : Nat} (h : s.cedAt u p w = true) {i : Nat → Bool} (hi : i w = false)
    (f : Nat → State → State) : s.cedRun u i f = s := by
  have hr := State.cedAt_run h
  simp only [State.cedAt, Bool.and_eq_true, beq_iff_eq, Bool.not_eq_true'] at h
  obtain ⟨⟨⟨⟨-, h2⟩, h3⟩, h4⟩, -⟩ := h
  unfold State.cedRun
  simp only [List.find?, hr, h2, h3, h4, hi, Bool.not_false, if_true]

theorem LuS.eta (r : LuS) : { r with pc := r.pc } = r := rfl

theorem State.cedGo_done {s : State} {u p w : Nat} : CedDone s (s.cedGo u p w) u p w false [] (s.lu u) := by
  have hb : (s.setLu u { s.lu u with pc := (s.lu u).pc + 1 }).readsBad u w = s.readsBad u w := by
    simp [State.readsBad]
  unfold State.cedGo
  rw [hb]
  have k1 : Reg.LP_STAT.SAT.key u p ≠ Reg.LP_STAT.BAD.key u p := by
    simp only [FD.key, FD.addr, Reg.LP_STAT.SAT, Reg.LP_STAT.BAD]; omega
  have k2 : Reg.LU_STAT.SAT_ANY.key u 0 ≠ Reg.LP_STAT.BAD.key u p := by
    simp only [FD.key, FD.addr, Reg.LU_STAT.SAT_ANY, Reg.LP_STAT.BAD]; omega
  cases h : s.readsBad u w
  · refine ⟨?_, ?_, ?_, ?_, ?_, ?_, rfl⟩
    · simp
    · simp [State.on]
    · simp [State.on]
    · simp [State.on, h]
    · intro v hv; simp [State.lu_setLu_ne _ _ hv]
    · exact fun _ _ _ => rfl
  · refine ⟨?_, ?_, ?_, ?_, ?_, ?_, rfl⟩
    · simp [State.flag2_eq]
    · simp [State.on, State.flag2_eq, State.rd_wr2_ne _ _ k1]
    · simp [State.on, State.flag2_eq, State.rd_wr2_ne _ _ k2]
    · simp [State.on, State.flag2_eq, h, Reg.LP_STAT.BAD]
    · intro v hv; simp [State.flag2_eq, State.lu_setLu_ne _ _ hv]
    · exact RegsBut.wr2 (fun _ _ _ => rfl) (by simp)

/-- A write of the unit alone. -/
theorem CedDone.setLu {s t : State} {u p w : Nat} {b : Bool} {ks : List Nat} {r r' : LuS} (h : CedDone s t u p w b ks r) :
    CedDone s (t.setLu u { r' with pc := (s.lu u).pc + 1 }) u p w b ks r' :=
  ⟨by simp, h.sat, h.satAny, h.bad, fun v hv => by rw [State.lu_setLu_ne _ _ hv]; exact h.others v hv, h.regs, h.rest⟩

/-- Another register of the unit. -/
theorem CedDone.wr2 {s t : State} {u p w : Nat} {b : Bool} {ks : List Nat} {r : LuS} (h : CedDone s t u p w b ks r) {f : FD} {i j v : Nat}
    (hk : f.key i j ∈ ks) (h1 : Reg.LP_STAT.BAD.key u p ≠ f.key i j) (h2 : Reg.LP_STAT.SAT.key u p ≠ f.key i j)
    (h3 : Reg.LU_STAT.SAT_ANY.key u 0 ≠ f.key i j) : CedDone s (t.wr2 f i j v) u p w b ks r :=
  ⟨h.unit, by rw [State.on, State.rd_wr2_ne _ _ h2]; exact h.sat, by rw [State.on, State.rd_wr2_ne _ _ h3]; exact h.satAny,
    by rw [State.on, State.rd_wr2_ne _ _ h1]; exact h.bad, h.others, RegsBut.wr2 h.regs (by simp [hk]), h.rest⟩

theorem CedDone.more {s t : State} {u p w : Nat} {b : Bool} {ks : List Nat} {r : LuS} (h : CedDone s t u p w b ks r) {ks' : List Nat}
    (hk : ∀ k ∈ ks, k ∈ ks') : CedDone s t u p w b ks' r :=
  ⟨h.unit, h.sat, h.satAny, h.bad, h.others, fun d k hx => h.regs d k (by
    simp only [List.mem_append, not_or] at hx ⊢; exact ⟨hx.1, fun q => hx.2 (hk _ q)⟩), h.rest⟩

theorem CedDone.markSat {s t : State} {u p w : Nat} {b : Bool} {ks : List Nat} {r : LuS} (h : CedDone s t u p w b ks r)
    (hr : r.run = some p) : CedDone s (t.markSat u) u p w true ks r := by
  have e : t.markSat u = (t.flag2 Reg.LP_STAT.SAT u p).flag Reg.LU_STAT.SAT_ANY u := by
    unfold State.markSat; rw [show (t.lu u).run = some p by rw [h.unit]; exact hr]
  rw [e]
  have k1 : Reg.LP_STAT.SAT.key u p ≠ Reg.LU_STAT.SAT_ANY.key u 0 := by
    simp only [FD.key, FD.addr, Reg.LP_STAT.SAT, Reg.LU_STAT.SAT_ANY]; omega
  have k2 : Reg.LP_STAT.BAD.key u p ≠ Reg.LP_STAT.SAT.key u p := by
    simp only [FD.key, FD.addr, Reg.LP_STAT.SAT, Reg.LP_STAT.BAD]; omega
  have k3 : Reg.LP_STAT.BAD.key u p ≠ Reg.LU_STAT.SAT_ANY.key u 0 := by
    simp only [FD.key, FD.addr, Reg.LP_STAT.BAD, Reg.LU_STAT.SAT_ANY]; omega
  refine ⟨?_, ?_, ?_, ?_, h.others, ?_, h.rest⟩
  · simpa [State.flag2_eq, State.flag_eq] using h.unit
  · simp only [State.on, State.flag2_eq, State.flag_eq, State.rd_wr2_ne _ _ k1, State.rd_wr2_same, Bool.or_true]; rfl
  · simp [State.on, State.flag2_eq, State.flag_eq, Reg.LU_STAT.SAT_ANY]
  · simp only [State.on, State.flag2_eq, State.flag_eq, State.rd_wr2_ne _ _ k3, State.rd_wr2_ne _ _ k2]; exact h.bad
  · exact RegsBut.wr2 (RegsBut.wr2 h.regs (by simp)) (by simp)

theorem CedDone.onlySat {s t : State} {u p w : Nat} {b c : Bool} {ks : List Nat} {r : LuS} (h : CedDone s t u p w b ks r)
    (hr : r.run = some p) : CedDone s (t.onlyIf c (·.markSat u)) u p w (b || c) ks r := by
  cases c
  · simpa using h
  · simpa using h.markSat hr

theorem CedDone.putD {s t : State} {u p w : Nat} {b : Bool} {ks : List Nat} {r : LuS} (h : CedDone s t u p w b ks r) {k v : Nat} :
    CedDone s (t.putD u k v) u p w b ks { r with d := SMap.set 0 r.d (k % 64) (v % 2 ^ 32) } := by
  unfold State.putD; rw [h.unit]
  exact h.setLu (r' := { r with d := SMap.set 0 r.d (k % 64) (v % 2 ^ 32) })

theorem uns_mod (w : Nat) (x : Int) : uns w x % 2 ^ w = uns w x := by
  unfold uns
  have h0 : (0 : Int) < 2 ^ w := by positivity
  have h1 := Int.emod_lt_of_pos x h0
  have h2 := Int.emod_nonneg x (ne_of_gt h0)
  apply Nat.mod_eq_of_lt
  have e : (((x % 2 ^ w).toNat : Nat) : Int) = x % 2 ^ w := Int.toNat_of_nonneg h2
  have : (((x % 2 ^ w).toNat : Nat) : Int) < ((2 ^ w : Nat) : Int) := by rw [e]; push_cast; exact h1
  exact_mod_cast this

theorem CedDone.putSat {s t : State} {u p w : Nat} {b : Bool} {ks : List Nat} {r : LuS} (h : CedDone s t u p w b ks r)
    (hr : r.run = some p) {k : Nat} {x : Int} :
    CedDone s (t.putSat u k x) u p w (b || decide (satI 32 x ≠ x)) ks { r with d := SMap.set 0 r.d (k % 64) (uns 32 (satI 32 x)) } := by
  have := (h.putD (k := k) (v := uns 32 (satI 32 x))).onlySat (c := decide (satI 32 x ≠ x)) hr
  rw [uns_mod] at this
  exact this

theorem CedDone.putDuty {s t : State} {u p w : Nat} {b : Bool} {ks : List Nat} {r : LuS} (h : CedDone s t u p w b ks r)
    (hr : r.run = some p) {k : Nat} {x : Int} :
    CedDone s (t.putDuty u k x) u p w (b || decide (clampI 0 (2 ^ 30) x ≠ x)) ks
      { r with d := SMap.set 0 r.d (k % 64) (clampI 0 (2 ^ 30) x).toNat } := by
  have := (h.putD (k := k) (v := (clampI 0 (2 ^ 30) x).toNat)).onlySat (c := decide (clampI 0 (2 ^ 30) x ≠ x)) hr
  have e : (clampI 0 (2 ^ 30) x).toNat % 2 ^ 32 = (clampI 0 (2 ^ 30) x).toNat := by
    unfold clampI; split
    · rfl
    · split
      · rfl
      · apply Nat.mod_eq_of_lt; omega
  rw [e] at this
  exact this

theorem CedDone.putAcc {s t : State} {u p w : Nat} {b : Bool} {ks : List Nat} {r : LuS} (h : CedDone s t u p w b ks r)
    (hr : r.run = some p) {k : Nat} {x : Int} :
    CedDone s (t.putAcc u k x) u p w (b || decide (satI 48 x ≠ x)) ks { r with acc := SMap.set 0 r.acc k (satI 48 x) } := by
  refine CedDone.onlySat ?_ hr
  rw [h.unit]; exact h.setLu (r' := { r with acc := SMap.set 0 r.acc k (satI 48 x) })

theorem CedDone.putP {s t : State} {u p w : Nat} {b c : Bool} {ks : List Nat} {r : LuS} (h : CedDone s t u p w b ks r) :
    CedDone s (t.putP u c) u p w b ks { r with p := c } := by
  unfold State.putP; rw [h.unit]; exact h.setLu (r' := { r with p := c })

/-- The instruction reads its operands, its accumulators and its blocks as they were. -/
theorem State.cedGo_rd (s : State) (u p w : Nat) {f : FD} {i j : Nat} (h : f.key i j ≠ Reg.LP_STAT.BAD.key u p) :
    (s.cedGo u p w).rd f i j = s.rd f i j := by
  unfold State.cedGo State.onlyIf
  split
  · show (State.wr2 _ _ _ _ _).rd f i j = _
    rw [State.rd_wr2_ne _ _ h]; simp
  · simp

theorem State.cedGo_coef (s : State) (u p w k : Nat) : (s.cedGo u p w).coef u k = s.coef u k := by
  have h1 : Reg.LU_STAT.ACTIVE_BANK.key u 0 ≠ Reg.LP_STAT.BAD.key u p := by
    simp only [FD.key, FD.addr, Reg.LU_STAT.ACTIVE_BANK, Reg.LP_STAT.BAD]; omega
  have h2 : ∀ n, Reg.COEF.C.key u n ≠ Reg.LP_STAT.BAD.key u p := fun n => by
    simp only [FD.key, FD.addr, Reg.COEF.C, Reg.LP_STAT.BAD]; omega
  unfold State.coef
  rw [State.cedGo_rd _ _ _ _ h1, State.cedGo_rd _ _ _ _ (h2 _)]

theorem State.cedGo_lu (s : State) (u p w : Nat) : (s.cedGo u p w).lu u = { s.lu u with pc := (s.lu u).pc + 1 } := cedGo_done.unit

theorem State.cedGo_operand (s : State) (u p w c : Nat) : (s.cedGo u p w).operand u c = s.operand u c := by
  unfold State.operand
  simp only [State.cedGo_lu, State.cedGo_coef]

theorem State.cedGo_acc (s : State) (u p w k : Nat) : (s.cedGo u p w).acc u k = s.acc u k := by
  unfold State.acc; rw [State.cedGo_lu]

end Sys2Proof.Machine
end

