-- ==== Sys2Proof/Laws/Keeps.lean ====
section
/-! SUPPORT. The shared steps of the proofs that a definition keeps what `Keeps` names: what composes, and what each primitive write does. -/

namespace Sys2Proof.Machine

theorem Keeps.refl (s : State) : Keeps s s := ⟨id, rfl, rfl⟩

theorem Keeps.trans {s t u : State} (h : Keeps s t) (k : Keeps t u) : Keeps s u :=
  ⟨fun c => k.canon (h.canon c), k.pending.trans h.pending, k.now.trans h.now⟩

/-- A fact about a named intermediate state. -/
theorem keeps_cut {s0 : State} (x : State) {P : Prop} (h : Keeps s0 x) (k : Keeps s0 x → P) : P := k h

theorem keeps_ite {s0 a b : State} {c : Prop} [Decidable c] (ha : Keeps s0 a) (hb : Keeps s0 b) : Keeps s0 (if c then a else b) := by
  split <;> assumption

theorem keeps_fst {α : Type} {s0 s : State} {p : State × α} {v : α} (e : p = (s, v)) (h : Keeps s0 p.1) : Keeps s0 s := by
  subst e; exact h

theorem id_keeps {s0 s : State} (h : Keeps s0 s) : Keeps s0 (id s) := h

/-- The outcome of a meaning is its next state. -/
theorem keeps_next {s t u : State} (h : (Host.Outcome.next u : Host.Outcome State Fault Refusal) = .next t) (k : Keeps s u) : Keeps s t := by
  injection h with h; exact h ▸ k

/-- A record update that leaves the memories and the register file alone. -/
theorem keeps_mk {s0 s : State} (h : Keeps s0 s)
      {x_eccBad x_resp x_rhold x_whold x_caps x_tbs x_legs x_pads x_adcs x_seqs x_pairs x_isos x_linkq x_ains x_asc x_lands x_glitch x_rowanAt x_retireq x_clyPhase x_vgio x_links x_rails x_lus x_fcs x_fctab x_tblq x_poss x_rss x_emus x_routes x_pulses x_logq x_logLost x_logGap x_fresh x_rows x_rowg x_rowrs x_pwr x_cpx x_img x_ch x_chOut x_pins x_cans x_clk x_st x_hps x_replies x_mons x_aldLoad x_ecc x_aldHot x_houseAt x_aldScan x_cedq}
  : Keeps s0 (State.mk s.now s.regs s.mem s.tcm x_eccBad x_resp x_rhold x_whold x_caps x_tbs x_legs x_pads x_adcs x_seqs x_pairs x_isos x_linkq x_ains x_asc x_lands x_glitch x_rowanAt x_retireq x_clyPhase x_vgio x_links x_rails x_lus x_fcs x_fctab x_tblq x_poss x_rss x_emus x_routes x_pulses x_logq x_logLost x_logGap x_fresh x_rows x_rowg x_rowrs x_pwr x_cpx x_img s.dcache x_ch x_chOut x_pins x_cans x_clk x_st x_hps x_replies x_mons x_aldLoad x_ecc x_aldHot x_houseAt x_aldScan x_cedq s.pending) :=
  ⟨fun c => ⟨(h.canon c).regs, (h.canon c).mem, (h.canon c).tcm, (h.canon c).dcache⟩, h.pending, h.now⟩

/-- A record update that may change the memories and the register file, in canonical form. -/
theorem keeps_mk_canon {s0 s : State} (h : Keeps s0 s)
    {x_regs x_mem x_tcm x_dcache x_eccBad x_resp x_rhold x_whold x_caps x_tbs x_legs x_pads x_adcs x_seqs x_pairs x_isos x_linkq x_ains x_asc x_lands x_glitch x_rowanAt x_retireq x_clyPhase x_vgio x_links x_rails x_lus x_fcs x_fctab x_tblq x_poss x_rss x_emus x_routes x_pulses x_logq x_logLost x_logGap x_fresh x_rows x_rowg x_rowrs x_pwr x_cpx x_img x_ch x_chOut x_pins x_cans x_clk x_st x_hps x_replies x_mons x_aldLoad x_ecc x_aldHot x_houseAt x_aldScan x_cedq}
    (hr : SMap.sorted s.regs = true → SMap.sorted x_regs = true) (hm : Memory.wf s.mem = true → Memory.wf x_mem = true)
    (ht : Memory.wf s.tcm = true → Memory.wf x_tcm = true)
    (hd : SMap.wf (fun _ => none) s.dcache = true → SMap.wf (fun _ => none) x_dcache = true) :
    Keeps s0 (State.mk s.now x_regs x_mem x_tcm x_eccBad x_resp x_rhold x_whold x_caps x_tbs x_legs x_pads x_adcs x_seqs x_pairs x_isos x_linkq x_ains x_asc x_lands x_glitch x_rowanAt x_retireq x_clyPhase x_vgio x_links x_rails x_lus x_fcs x_fctab x_tblq x_poss x_rss x_emus x_routes x_pulses x_logq x_logLost x_logGap x_fresh x_rows x_rowg x_rowrs x_pwr x_cpx x_img x_dcache x_ch x_chOut x_pins x_cans x_clk x_st x_hps x_replies x_mons x_aldLoad x_ecc x_aldHot x_houseAt x_aldScan x_cedq s.pending) :=
  ⟨fun c => ⟨hr (h.canon c).regs, hm (h.canon c).mem, ht (h.canon c).tcm, hd (h.canon c).dcache⟩, h.pending, h.now⟩

theorem foldEach_keeps {α : Type} {s0 : State} {f : α → State → State} (hf : ∀ a t, Keeps s0 t → Keeps s0 (f a t)) (l : List α) {s : State}
    (h : Keeps s0 s) : Keeps s0 (foldEach f l s) := by
  induction l generalizing s with
  | nil => exact h
  | cons a t ih => exact ih (hf a s h)

theorem State.onlyIf_keeps {s0 s : State} {c : Bool} {f : State → State} (h : Keeps s0 s) (hf : ∀ t, Keeps s0 t → Keeps s0 (f t)) :
    Keeps s0 (s.onlyIf c f) := by
  unfold State.onlyIf; split
  · exact hf _ h
  · exact h

theorem Memory.wf_set {m : List Host.Cell} (k : Nat) (v : BitVec 8) (h : Memory.wf m = true) : Memory.wf (SMap.set (0 : BitVec 8) m k v) = true :=
  SMap.wf_set (d := fun _ => (0 : BitVec 8)) k v h

theorem Memory.wf_filter {m : List Host.Cell} (p : Host.Cell → Bool) (h : Memory.wf m = true) : Memory.wf (m.filter p) = true :=
  SMap.wf_filter p h

theorem Memory.wf_nil : Memory.wf [] = true := rfl

/-- Writing a list of entries one after the other keeps the canonical form. -/
theorem Memory.wf_sets (l : List Host.Cell) {m : List Host.Cell} (h : Memory.wf m = true) :
    Memory.wf (foldEach (fun e m => SMap.set (0 : BitVec 8) m e.1 e.2) l m) = true := by
  induction l generalizing m with
  | nil => exact h
  | cons a t ih => exact ih (Memory.wf_set a.1 a.2 h)

theorem State.wr2_keeps {s0 s : State} (h : Keeps s0 s) {f : FD} {i j v : Nat} : Keeps s0 (s.wr2 f i j v) :=
  keeps_mk_canon h (fun c => SMap.sorted_set _ _ _ c) id id id

theorem State.resetFields_keeps {s0 s : State} (h : Keeps s0 s) {sel : FD → Nat → Nat → Bool} : Keeps s0 (s.resetFields sel) :=
  keeps_mk_canon h (fun c => SMap.sorted_filter _ c) id id id

theorem State.setByte_keeps {s0 s : State} (h : Keeps s0 s) {a v : Nat} : Keeps s0 (s.setByte a v) :=
  keeps_mk_canon h id (Memory.wf_set _ _) id id

theorem State.setBytes_keeps {s0 s : State} (h : Keeps s0 s) {a : Nat} {l : List Nat} : Keeps s0 (s.setBytes a l) := by
  induction l generalizing s a with
  | nil => exact h
  | cons b t ih => exact ih (State.setByte_keeps h)

theorem State.setTcmByte_keeps {s0 s : State} (h : Keeps s0 s) {core off v : Nat} : Keeps s0 (s.setTcmByte core off v) :=
  keeps_mk_canon h id id (Memory.wf_set _ _) id

theorem State.tcmCopy_keeps {s0 s : State} (h : Keeps s0 s) {src dst : Nat} : Keeps s0 (s.tcmCopy src dst) := by
  unfold State.tcmCopy
  split
  · exact h
  · exact keeps_mk_canon h id id (fun c => Memory.wf_sets _ (Memory.wf_filter _ c)) id

theorem State.dDrop_keeps {s0 s : State} (h : Keeps s0 s) {core a n : Nat} : Keeps s0 (s.dDrop core a n) :=
  keeps_mk_canon h id id id (fun c => SMap.wf_filter _ c)

theorem State.cachesInvalid_keeps {s0 s : State} (h : Keeps s0 s) : Keeps s0 s.cachesInvalid :=
  keeps_mk_canon h id id id (fun _ => rfl)

theorem State.dFill_keeps {s0 s : State} (h : Keeps s0 s) {core a : Nat} : Keeps s0 (s.dFill core a) :=
  foldEach_keeps (fun _ _ k => keeps_ite (keeps_mk_canon k id id id (fun c => SMap.wf_set (d := fun _ => none) _ _ c)) k) _ h

theorem State.dStore_keeps {s0 s : State} (h : Keeps s0 s) {core a n v : Nat} : Keeps s0 (s.dStore core a n v) :=
  foldEach_keeps (fun _ _ k => keeps_mk_canon k id id id (fun c => SMap.wf_set (d := fun _ => none) _ _ c)) _ (State.dFill_keeps h)

end Sys2Proof.Machine
end

