-- ==== Sys2Proof/Laws/KeepsOpsA.lean ====
section
/-! SUPPORT. Every shared operation keeps what `Keeps` names: part 1 of 4, in the order in which the operations build on one another. -/

namespace Sys2Proof.Machine

theorem State.setEmu_keeps {s0 : State} {s : State} {a1 : ℕ} {a2 : EmuS} (h : Keeps s0 s) :
    Keeps s0 (State.setEmu s a1 a2) := by
  unfold State.setEmu
  repeat' first
    | with_reducible assumption
    | fail_if_no_progress with_reducible apply keeps_mk (s := _)

theorem State.setResp_keeps {s0 : State} {s : State} {a1 : Master} {a2 : Resp} (h : Keeps s0 s) :
    Keeps s0 (State.setResp s a1 a2) := by
  unfold State.setResp
  repeat' first
    | with_reducible assumption
    | fail_if_no_progress with_reducible apply keeps_mk (s := _)

theorem State.wr_keeps {s0 : State} {s : State} {a1 : FD} {a2 : ℕ} {a3 : ℕ} (h : Keeps s0 s) :
    Keeps s0 (State.wr s a1 a2 a3) := by
  unfold State.wr
  repeat' first
    | with_reducible assumption
    | with_reducible apply State.wr2_keeps

theorem State.flag_keeps {s0 : State} {s : State} {a1 : FD} {a2 : ℕ} (h : Keeps s0 s) :
    Keeps s0 (State.flag s a1 a2) := by
  unfold State.flag
  repeat' first
    | with_reducible assumption
    | with_reducible apply State.wr_keeps

theorem State.busErr_keeps {s0 : State} {s : State} {a1 : Master} {a2 : ℕ} (h : Keeps s0 s) :
    Keeps s0 (State.busErr s a1 a2) := by
  unfold State.busErr
  repeat' first
    | with_reducible assumption
    | intro x; try clear_value x
    | with_reducible apply State.setResp_keeps
    | with_reducible apply State.wr_keeps
    | with_reducible apply State.flag_keeps
    | lift_lets -underBinder; intro x; refine keeps_cut (s0 := s0) x ?_ ?_; (on_goal 2 => clear_value x); (on_goal 1 => subst x)
    | fail_if_no_progress beta_reduce
    | split

theorem State.errTo_keeps {s0 : State} {s : State} {a1 : Option Master} {a2 : ℕ} (h : Keeps s0 s) :
    Keeps s0 (State.errTo s a1 a2) := by
  unfold State.errTo
  repeat' first
    | with_reducible assumption
    | with_reducible apply State.busErr_keeps
    | fail_if_no_progress beta_reduce
    | split

theorem State.setPair_keeps {s0 : State} {s : State} {a1 : ℕ} {a2 : PairS} (h : Keeps s0 s) :
    Keeps s0 (State.setPair s a1 a2) := by
  unfold State.setPair
  repeat' first
    | with_reducible assumption
    | fail_if_no_progress with_reducible apply keeps_mk (s := _)

theorem State.setSeq_keeps {s0 : State} {s : State} {a1 : ℕ} {a2 : SeqS} (h : Keeps s0 s) :
    Keeps s0 (State.setSeq s a1 a2) := by
  unfold State.setSeq
  repeat' first
    | with_reducible assumption
    | fail_if_no_progress with_reducible apply keeps_mk (s := _)

theorem State.bump_keeps {s0 : State} {s : State} {a1 : FD} {a2 : ℕ} (h : Keeps s0 s) :
    Keeps s0 (State.bump s a1 a2) := by
  unfold State.bump
  repeat' first
    | with_reducible assumption
    | with_reducible apply State.wr_keeps

theorem State.claimRefused_keeps {s0 : State} {s : State} {a1 : ℕ} {a2 : ℕ} (h : Keeps s0 s) :
    Keeps s0 (State.claimRefused s a1 a2) := by
  unfold State.claimRefused
  repeat' first
    | with_reducible assumption
    | with_reducible apply State.wr_keeps
    | with_reducible apply State.bump_keeps
    | with_reducible apply State.flag_keeps

theorem State.claimPin_keeps {s0 : State} {s : State} {a1 : ℕ} {a2 : ℕ} (h : Keeps s0 s) :
    Keeps s0 (State.claimPin s a1 a2) := by
  unfold State.claimPin
  repeat' first
    | with_reducible assumption
    | with_reducible apply keeps_ite
    | fail_if_no_progress with_reducible apply keeps_mk (s := _)

theorem State.setClaim_keeps {s0 : State} {s : State} {a1 : ℕ} {a2 : ℕ} {a3 : ℕ} (h : Keeps s0 s) :
    Keeps s0 (State.setClaim s a1 a2 a3) := by
  unfold State.setClaim
  repeat' first
    | with_reducible assumption
    | with_reducible apply State.wr_keeps
    | with_reducible apply State.claimPin_keeps

theorem State.claimAll_keeps {s0 : State} {s : State} {a1 : ℕ} {a2 : List ℕ} {a3 : State → State} {a4 : State → State} (h : Keeps s0 s) (h3 : ∀ t, Keeps s0 t → Keeps s0 (a3 t)) (h4 : ∀ t, Keeps s0 t → Keeps s0 (a4 t)) :
    Keeps s0 (State.claimAll s a1 a2 a3 a4) := by
  unfold State.claimAll
  repeat' first
    | with_reducible assumption
    | with_reducible refine h3 _ ?_
    | with_reducible refine h4 _ ?_
    | with_reducible apply State.claimRefused_keeps
    | with_reducible apply State.setClaim_keeps
    | with_reducible refine foldEach_keeps (fun a t k => ?_) _ ?_
    | with_reducible apply keeps_ite
    | fail_if_no_progress beta_reduce
    | split

theorem State.setAsc_keeps {s0 : State} {s : State} {a1 : ℕ} {a2 : Option AscRun} (h : Keeps s0 s) :
    Keeps s0 (State.setAsc s a1 a2) := by
  unfold State.setAsc
  repeat' first
    | with_reducible assumption
    | fail_if_no_progress with_reducible apply keeps_mk (s := _)

theorem State.setLogq_keeps {s0 : State} {s : State} {a1 : List LogRec} (h : Keeps s0 s) :
    Keeps s0 (State.setLogq s a1) := by
  unfold State.setLogq
  repeat' first
    | with_reducible assumption
    | with_reducible apply State.wr_keeps
    | fail_if_no_progress with_reducible apply keeps_mk (s := _)

theorem State.logEv_keeps {s0 : State} {s : State} {a1 : ℕ} {a2 : ℕ} {a3 : List ℕ} (h : Keeps s0 s) :
    Keeps s0 (State.logEv s a1 a2 a3) := by
  unfold State.logEv
  repeat' first
    | with_reducible assumption
    | with_reducible apply State.setLogq_keeps
    | with_reducible apply State.flag_keeps
    | with_reducible apply State.bump_keeps
    | with_reducible apply keeps_ite
    | fail_if_no_progress with_reducible apply keeps_mk (s := _)
    | fail_if_no_progress beta_reduce
    | split

theorem State.eccWritten_keeps {s0 : State} {s : State} {a1 : ℕ} {a2 : ℕ} (h : Keeps s0 s) :
    Keeps s0 (State.eccWritten s a1 a2) := by
  unfold State.eccWritten
  repeat' first
    | with_reducible assumption
    | with_reducible apply keeps_ite
    | fail_if_no_progress with_reducible apply keeps_mk (s := _)

theorem State.setSrc_keeps {s0 : State} {s : State} {a1 : ℕ} {a2 : SrcS} (h : Keeps s0 s) :
    Keeps s0 (State.setSrc s a1 a2) := by
  unfold State.setSrc
  repeat' first
    | with_reducible assumption
    | fail_if_no_progress with_reducible apply keeps_mk (s := _)

theorem State.srcWord_keeps {s0 : State} {s : State} {a1 : ℕ} {a2 : ℤ} {a3 : Bool} (h : Keeps s0 s) :
    Keeps s0 (State.srcWord s a1 a2 a3) := by
  unfold State.srcWord
  repeat' first
    | with_reducible assumption
    | with_reducible apply State.setSrc_keeps

theorem State.capture_keeps {s0 : State} {s : State} {a1 : List ℕ} (h : Keeps s0 s) :
    Keeps s0 (State.capture s a1) := by
  unfold State.capture
  repeat' first
    | with_reducible assumption
    | with_reducible apply State.eccWritten_keeps
    | with_reducible apply State.setBytes_keeps
    | with_reducible apply State.bump_keeps
    | with_reducible apply State.wr_keeps
    | with_reducible refine foldEach_keeps (fun a t k => ?_) _ ?_
    | fail_if_no_progress with_reducible apply keeps_mk (s := _)

theorem State.setTb_keeps {s0 : State} {s : State} {a1 : ℕ} {a2 : TbS} (h : Keeps s0 s) :
    Keeps s0 (State.setTb s a1 a2) := by
  unfold State.setTb
  repeat' first
    | with_reducible assumption
    | fail_if_no_progress with_reducible apply keeps_mk (s := _)

theorem State.setLeg_keeps {s0 : State} {s : State} {a1 : ℕ} {a2 : LegS} (h : Keeps s0 s) :
    Keeps s0 (State.setLeg s a1 a2) := by
  unfold State.setLeg
  repeat' first
    | with_reducible assumption
    | fail_if_no_progress with_reducible apply keeps_mk (s := _)

theorem State.ack_keeps {s0 : State} {s : State} {a1 : Master} (h : Keeps s0 s) :
    Keeps s0 (State.ack s a1) := by
  unfold State.ack
  repeat' first
    | with_reducible assumption
    | with_reducible apply State.setResp_keeps

theorem State.ackTo_keeps {s0 : State} {s : State} {a1 : Option Master} (h : Keeps s0 s) :
    Keeps s0 (State.ackTo s a1) := by
  unfold State.ackTo
  repeat' first
    | with_reducible assumption
    | with_reducible apply State.ack_keeps
    | fail_if_no_progress beta_reduce
    | split

theorem State.setAdc_keeps {s0 : State} {s : State} {a1 : ℕ} {a2 : AdcS} (h : Keeps s0 s) :
    Keeps s0 (State.setAdc s a1 a2) := by
  unfold State.setAdc
  repeat' first
    | with_reducible assumption
    | fail_if_no_progress with_reducible apply keeps_mk (s := _)

theorem State.raisePulse_keeps {s0 : State} {s : State} {a1 : List ℕ} {a2 : ℕ} {a3 : ℕ} (h : Keeps s0 s) :
    Keeps s0 (State.raisePulse s a1 a2 a3) := by
  unfold State.raisePulse
  repeat' first
    | with_reducible assumption
    | fail_if_no_progress with_reducible apply keeps_mk (s := _)

theorem State.closeSwitch_keeps {s0 : State} {s : State} {a1 : ℕ} (h : Keeps s0 s) :
    Keeps s0 (State.closeSwitch s a1) := by
  unfold State.closeSwitch
  repeat' first
    | with_reducible assumption
    | with_reducible apply State.wr_keeps
    | with_reducible apply keeps_ite
    | fail_if_no_progress with_reducible apply keeps_mk (s := _)

theorem State.setRsv_keeps {s0 : State} {s : State} {a1 : ℕ} {a2 : RsS} (h : Keeps s0 s) :
    Keeps s0 (State.setRsv s a1 a2) := by
  unfold State.setRsv
  repeat' first
    | with_reducible assumption
    | fail_if_no_progress with_reducible apply keeps_mk (s := _)

theorem State.eccCount_keeps {s0 : State} {s : State} {a1 : ℕ} {a2 : ℕ} (h : Keeps s0 s) :
    Keeps s0 (State.eccCount s a1 a2) := by
  unfold State.eccCount
  repeat' first
    | with_reducible assumption
    | with_reducible apply State.bump_keeps
    | with_reducible apply State.wr_keeps
    | with_reducible apply State.flag_keeps
    | with_reducible apply keeps_ite
    | fail_if_no_progress with_reducible apply keeps_mk (s := _)
    | fail_if_no_progress beta_reduce
    | split

theorem State.flag2_keeps {s0 : State} {s : State} {a1 : FD} {a2 : ℕ} {a3 : ℕ} (h : Keeps s0 s) :
    Keeps s0 (State.flag2 s a1 a2 a3) := by
  unfold State.flag2
  repeat' first
    | with_reducible assumption
    | with_reducible apply State.wr2_keeps

theorem State.wrI_keeps {s0 : State} {s : State} {a1 : FD} {a2 : ℕ} {a3 : ℤ} (h : Keeps s0 s) :
    Keeps s0 (State.wrI s a1 a2 a3) := by
  unfold State.wrI
  repeat' first
    | with_reducible assumption
    | with_reducible apply State.wr_keeps

theorem State.setPad_keeps {s0 : State} {s : State} {a1 : ℕ} {a2 : PadS} (h : Keeps s0 s) :
    Keeps s0 (State.setPad s a1 a2) := by
  unfold State.setPad
  repeat' first
    | with_reducible assumption
    | fail_if_no_progress with_reducible apply keeps_mk (s := _)

theorem State.showPwm_keeps {s0 : State} {s : State} (h : Keeps s0 s) :
    Keeps s0 (State.showPwm s) := by
  unfold State.showPwm
  repeat' first
    | with_reducible assumption
    | with_reducible apply State.wr_keeps
    | with_reducible apply keeps_ite

theorem State.releaseClaims_keeps {s0 : State} {s : State} {a1 : ℕ} {a2 : List ℕ} (h : Keeps s0 s) :
    Keeps s0 (State.releaseClaims s a1 a2) := by
  unfold State.releaseClaims
  repeat' first
    | with_reducible assumption
    | with_reducible apply State.setClaim_keeps
    | with_reducible refine foldEach_keeps (fun a t k => ?_) _ ?_
    | with_reducible apply keeps_ite

theorem State.setRowRs_keeps {s0 : State} {s : State} {a1 : ℕ} {a2 : RowRs} (h : Keeps s0 s) :
    Keeps s0 (State.setRowRs s a1 a2) := by
  unfold State.setRowRs
  repeat' first
    | with_reducible assumption
    | fail_if_no_progress with_reducible apply keeps_mk (s := _)

theorem State.setLu_keeps {s0 : State} {s : State} {a1 : ℕ} {a2 : LuS} (h : Keeps s0 s) :
    Keeps s0 (State.setLu s a1 a2) := by
  unfold State.setLu
  repeat' first
    | with_reducible assumption
    | fail_if_no_progress with_reducible apply keeps_mk (s := _)

theorem State.setIso_keeps {s0 : State} {s : State} {a1 : ℕ} {a2 : IsoS} (h : Keeps s0 s) :
    Keeps s0 (State.setIso s a1 a2) := by
  unfold State.setIso
  repeat' first
    | with_reducible assumption
    | fail_if_no_progress with_reducible apply keeps_mk (s := _)

theorem State.setRow_keeps {s0 : State} {s : State} {a1 : ℕ} {a2 : RowS} (h : Keeps s0 s) :
    Keeps s0 (State.setRow s a1 a2) := by
  unfold State.setRow
  repeat' first
    | with_reducible assumption
    | fail_if_no_progress with_reducible apply keeps_mk (s := _)

theorem State.setNum_keeps {s0 : State} {s : State} {a1 : ℕ} {a2 : ℕ} {a3 : ℕ} (h : Keeps s0 s) :
    Keeps s0 (State.setNum s a1 a2 a3) := by
  unfold State.setNum
  repeat' first
    | with_reducible assumption
    | with_reducible apply State.setBytes_keeps

theorem State.next_keeps {s0 : State} {s : State} (h : Keeps s0 s) :
    Keeps s0 (State.next s) := by
  unfold State.next
  repeat' first
    | with_reducible assumption
    | fail_if_no_progress with_reducible apply keeps_mk (s := _)

theorem State.hpClear_keeps {s0 : State} {s : State} {a1 : ℕ} (h : Keeps s0 s) :
    Keeps s0 (State.hpClear s a1) := by
  unfold State.hpClear
  repeat' first
    | with_reducible assumption
    | with_reducible apply State.wr_keeps
    | fail_if_no_progress with_reducible apply keeps_mk (s := _)

theorem State.setFc_keeps {s0 : State} {s : State} {a1 : ℕ} {a2 : FcS} (h : Keeps s0 s) :
    Keeps s0 (State.setFc s a1 a2) := by
  unfold State.setFc
  repeat' first
    | with_reducible assumption
    | fail_if_no_progress with_reducible apply keeps_mk (s := _)

theorem State.irqEv_keeps {s0 : State} {s : State} {a1 : ℕ} (h : Keeps s0 s) :
    Keeps s0 (State.irqEv s a1) := by
  unfold State.irqEv
  repeat' first
    | with_reducible assumption
    | with_reducible apply State.wr_keeps

theorem State.busWrite_keeps {s0 : State} {s : State} {a1 : Master} {a2 : ℕ} {a3 : State → State} (h : Keeps s0 s) (h3 : ∀ t, Keeps s0 t → Keeps s0 (a3 t)) :
    Keeps s0 (State.busWrite s a1 a2 a3) := by
  unfold State.busWrite
  repeat' first
    | with_reducible assumption
    | with_reducible refine h3 _ ?_
    | with_reducible apply State.ack_keeps
    | with_reducible apply State.busErr_keeps
    | with_reducible apply keeps_ite

theorem State.setWord_keeps {s0 : State} {s : State} {a1 : ℕ} {a2 : ℕ} (h : Keeps s0 s) :
    Keeps s0 (State.setWord s a1 a2) := by
  unfold State.setWord
  repeat' first
    | with_reducible assumption
    | with_reducible apply State.eccWritten_keeps
    | with_reducible apply State.setNum_keeps

theorem State.takePulse_keeps {s0 : State} {s : State} {a1 : Route → Bool} (h : Keeps s0 s) :
    Keeps s0 (State.takePulse s a1) := by
  unfold State.takePulse
  repeat' first
    | with_reducible assumption
    | fail_if_no_progress with_reducible apply keeps_mk (s := _)
    | fail_if_no_progress beta_reduce
    | split

theorem State.setPos_keeps {s0 : State} {s : State} {a1 : ℕ} {a2 : PosS} (h : Keeps s0 s) :
    Keeps s0 (State.setPos s a1 a2) := by
  unfold State.setPos
  repeat' first
    | with_reducible assumption
    | fail_if_no_progress with_reducible apply keeps_mk (s := _)

theorem State.eccMet_keeps {s0 : State} {s : State} {a1 : ℕ} {a2 : ℕ} (h : Keeps s0 s) :
    Keeps s0 (State.eccMet s a1 a2) := by
  unfold State.eccMet
  repeat' first
    | with_reducible assumption
    | with_reducible apply State.logEv_keeps
    | with_reducible apply State.eccCount_keeps

theorem State.noteCap_keeps {s0 : State} {s : State} {a1 : FD} {a2 : ℕ} {a3 : ℕ} {a4 : ℕ} {a5 : Bool} (h : Keeps s0 s) :
    Keeps s0 (State.noteCap s a1 a2 a3 a4 a5) := by
  unfold State.noteCap
  repeat' first
    | with_reducible assumption
    | with_reducible apply keeps_ite
    | fail_if_no_progress with_reducible apply keeps_mk (s := _)

theorem State.noteFields_keeps {s0 : State} {s : State} {a1 : List FD} {a2 : ℕ} (h : Keeps s0 s) :
    Keeps s0 (State.noteFields s a1 a2) := by
  unfold State.noteFields
  repeat' first
    | with_reducible assumption
    | with_reducible apply State.noteCap_keeps
    | with_reducible refine foldEach_keeps (fun a t k => ?_) _ ?_

theorem State.minpAct_keeps {s0 : State} {s : State} {a1 : ℕ} (h : Keeps s0 s) :
    Keeps s0 (State.minpAct s a1) := by
  unfold State.minpAct
  repeat' first
    | with_reducible assumption
    | with_reducible apply State.bump_keeps
    | with_reducible apply State.flag_keeps

theorem State.dropPulse_keeps {s0 : State} {s : State} {a1 : ℕ} (h : Keeps s0 s) :
    Keeps s0 (State.dropPulse s a1) := by
  unfold State.dropPulse
  repeat' first
    | with_reducible assumption
    | with_reducible apply State.minpAct_keeps
    | with_reducible apply State.setLeg_keeps

theorem State.openWindow_keeps {s0 : State} {s : State} {a1 : ℕ} {a2 : Side} {a3 : ℕ} (h : Keeps s0 s) :
    Keeps s0 (State.openWindow s a1 a2 a3) := by
  unfold State.openWindow
  repeat' first
    | with_reducible assumption
    | with_reducible apply State.setLeg_keeps
    | with_reducible apply keeps_ite
    | lift_lets -underBinder; intro x; try clear_value x
    | fail_if_no_progress beta_reduce
    | split

theorem State.fixDt_keeps {s0 : State} {s : State} {a1 : ℕ} {a2 : Side} (h : Keeps s0 s) :
    Keeps s0 (State.fixDt s a1 a2) := by
  unfold State.fixDt
  repeat' first
    | with_reducible assumption
    | with_reducible refine State.onlyIf_keeps ?_ (fun x_ k => ?_)
    | with_reducible apply State.wr_keeps
    | with_reducible apply State.flag_keeps
    | fail_if_no_progress beta_reduce
    | split

theorem State.openPulse_keeps {s0 : State} {s : State} {a1 : ℕ} {a2 : Side} {a3 : ℕ} (h : Keeps s0 s) :
    Keeps s0 (State.openPulse s a1 a2 a3) := by
  unfold State.openPulse
  repeat' first
    | with_reducible assumption
    | with_reducible apply State.fixDt_keeps
    | with_reducible refine State.onlyIf_keeps ?_ (fun x_ k => ?_)
    | with_reducible apply State.setLeg_keeps
    | with_reducible apply State.flag_keeps
    | with_reducible apply keeps_ite

theorem State.closeEdge_keeps {s0 : State} {s : State} {a1 : ℕ} {a2 : Side} {a3 : ℕ} (h : Keeps s0 s) :
    Keeps s0 (State.closeEdge s a1 a2 a3) := by
  unfold State.closeEdge
  repeat' first
    | with_reducible assumption
    | with_reducible apply State.dropPulse_keeps
    | with_reducible apply State.setLeg_keeps
    | with_reducible apply State.openWindow_keeps
    | with_reducible apply State.openPulse_keeps
    | with_reducible apply keeps_ite

theorem State.settle_keeps {s0 : State} {s : State} {a1 : ℕ} {a2 : ℕ} (h : Keeps s0 s) :
    Keeps s0 (State.settle s a1 a2) := by
  unfold State.settle
  repeat' first
    | with_reducible assumption
    | intro x; try clear_value x
    | with_reducible apply State.setLeg_keeps
    | with_reducible apply State.closeEdge_keeps
    | with_reducible apply keeps_ite
    | lift_lets -underBinder; intro x; refine keeps_cut (s0 := s0) x ?_ ?_; (on_goal 2 => clear_value x); (on_goal 1 => subst x)
    | fail_if_no_progress beta_reduce
    | split

theorem State.cancelPulse_keeps {s0 : State} {s : State} {a1 : ℕ} {a2 : Side} {a3 : ℕ} (h : Keeps s0 s) :
    Keeps s0 (State.cancelPulse s a1 a2 a3) := by
  unfold State.cancelPulse
  repeat' first
    | with_reducible assumption
    | with_reducible apply State.setLeg_keeps
    | with_reducible apply State.openPulse_keeps
    | with_reducible apply keeps_ite

theorem State.endPulse_keeps {s0 : State} {s : State} {a1 : ℕ} {a2 : OutPulse} {a3 : ℕ} (h : Keeps s0 s) :
    Keeps s0 (State.endPulse s a1 a2 a3) := by
  unfold State.endPulse
  repeat' first
    | with_reducible assumption
    | with_reducible apply State.closeEdge_keeps
    | with_reducible apply State.minpAct_keeps
    | with_reducible apply State.setLeg_keeps
    | with_reducible apply State.cancelPulse_keeps
    | with_reducible refine State.onlyIf_keeps ?_ (fun x_ k => ?_)
    | with_reducible apply State.bump_keeps
    | with_reducible apply keeps_ite

theorem State.refEdge_keeps {s0 : State} {s : State} {a1 : ℕ} {a2 : Bool} {a3 : ℕ} (h : Keeps s0 s) :
    Keeps s0 (State.refEdge s a1 a2 a3) := by
  unfold State.refEdge
  repeat' first
    | with_reducible assumption
    | with_reducible apply State.settle_keeps
    | with_reducible apply State.setLeg_keeps
    | with_reducible apply State.flag_keeps
    | with_reducible apply State.endPulse_keeps
    | with_reducible apply State.dropPulse_keeps
    | with_reducible apply State.openPulse_keeps
    | with_reducible apply keeps_ite
    | fail_if_no_progress beta_reduce
    | split

theorem State.showPol_keeps {s0 : State} {s : State} {a1 : ℕ} (h : Keeps s0 s) :
    Keeps s0 (State.showPol s a1) := by
  unfold State.showPol
  repeat' first
    | with_reducible assumption
    | with_reducible apply State.wr_keeps

theorem State.cancelStage_keeps {s0 : State} {s : State} {a1 : ℕ} (h : Keeps s0 s) :
    Keeps s0 (State.cancelStage s a1) := by
  unfold State.cancelStage
  repeat' first
    | with_reducible assumption
    | with_reducible apply State.setLeg_keeps
    | with_reducible apply keeps_ite

theorem State.restartLeg_keeps {s0 : State} {s : State} {a1 : ℕ} {a2 : ℕ} (h : Keeps s0 s) :
    Keeps s0 (State.restartLeg s a1 a2) := by
  unfold State.restartLeg
  repeat' first
    | with_reducible assumption
    | intro x; refine keeps_cut (s0 := s0) x ?_ ?_; (on_goal 2 => clear_value x); (on_goal 1 => subst x)
    | intro x; try clear_value x
    | with_reducible apply State.setLeg_keeps
    | with_reducible apply State.openPulse_keeps
    | lift_lets -underBinder; intro x; try clear_value x
    | fail_if_no_progress beta_reduce
    | split

theorem State.shadowWrite_keeps {s0 : State} {s : State} {a1 : ℕ} {a2 : FD} {a3 : ℕ} {a4 : ℕ} {a5 : Bool} {a6 : State → State} (h : Keeps s0 s) (h6 : ∀ t, Keeps s0 t → Keeps s0 (a6 t)) :
    Keeps s0 (State.shadowWrite s a1 a2 a3 a4 a5 a6) := by
  unfold State.shadowWrite
  repeat' first
    | with_reducible assumption
    | intro x; try clear_value x
    | with_reducible refine h6 _ ?_
    | with_reducible apply State.flag_keeps
    | with_reducible apply State.noteCap_keeps
    | with_reducible refine State.onlyIf_keeps ?_ (fun x_ k => ?_)
    | with_reducible apply keeps_ite
    | lift_lets -underBinder; intro x; refine keeps_cut (s0 := s0) x ?_ ?_; (on_goal 2 => clear_value x); (on_goal 1 => subst x)
    | fail_if_no_progress beta_reduce
    | split

theorem State.setTrgAct_keeps {s0 : State} {s : State} {a1 : ℕ} {a2 : ℕ} {a3 : ℕ} {a4 : ℕ} (h : Keeps s0 s) :
    Keeps s0 (State.setTrgAct s a1 a2 a3 a4) := by
  unfold State.setTrgAct
  repeat' first
    | with_reducible assumption
    | with_reducible apply State.setLeg_keeps

theorem State.immTrg_keeps {s0 : State} {s : State} {a1 : ℕ} {a2 : ℕ} {a3 : ℕ} {a4 : ℕ} (h : Keeps s0 s) :
    Keeps s0 (State.immTrg s a1 a2 a3 a4) := by
  unfold State.immTrg
  repeat' first
    | with_reducible assumption
    | intro x; refine keeps_cut (s0 := s0) x ?_ ?_; (on_goal 2 => clear_value x); (on_goal 1 => subst x)
    | intro x; try clear_value x
    | with_reducible apply State.setTrgAct_keeps
    | with_reducible apply State.setLeg_keeps
    | with_reducible refine State.onlyIf_keeps ?_ (fun x_ k => ?_)
    | with_reducible apply State.flag_keeps
    | lift_lets -underBinder; intro x; try clear_value x
    | fail_if_no_progress beta_reduce
    | split

theorem State.writeTrg_keeps {s0 : State} {s : State} {a1 : ℕ} {a2 : ℕ} {a3 : ℕ} {a4 : ℕ} {a5 : Bool} (h : Keeps s0 s) :
    Keeps s0 (State.writeTrg s a1 a2 a3 a4 a5) := by
  unfold State.writeTrg
  repeat' first
    | with_reducible assumption
    | with_reducible refine State.shadowWrite_keeps ?_ (fun x_ k => ?_)
    | with_reducible apply State.wr2_keeps
    | with_reducible apply State.flag_keeps
    | with_reducible apply State.immTrg_keeps
    | with_reducible apply keeps_ite

theorem State.followRef_keeps {s0 : State} {s : State} {a1 : ℕ} {a2 : ℕ} (h : Keeps s0 s) :
    Keeps s0 (State.followRef s a1 a2) := by
  unfold State.followRef
  repeat' first
    | with_reducible assumption
    | with_reducible apply State.refEdge_keeps
    | with_reducible apply State.wr_keeps
    | with_reducible apply keeps_ite

theorem State.takeEvent_keeps {s0 : State} {s : State} {a1 : ℕ} {a2 : ℕ} {a3 : ℕ} {a4 : ℕ → Bool} (h : Keeps s0 s) :
    Keeps s0 (State.takeEvent s a1 a2 a3 a4) := by
  unfold State.takeEvent
  repeat' first
    | with_reducible assumption
    | with_reducible apply State.setLeg_keeps
    | with_reducible apply State.followRef_keeps
    | with_reducible apply keeps_ite
    | fail_if_no_progress beta_reduce
    | split

theorem State.setCmpAct_keeps {s0 : State} {s : State} {a1 : ℕ} {a2 : Cmp} {a3 : ℕ} (h : Keeps s0 s) :
    Keeps s0 (State.setCmpAct s a1 a2 a3) := by
  unfold State.setCmpAct
  repeat' first
    | with_reducible assumption
    | with_reducible apply State.wr_keeps
    | fail_if_no_progress beta_reduce
    | split

theorem State.immCmp_keeps {s0 : State} {s : State} {a1 : ℕ} {a2 : Cmp} {a3 : ℕ} (h : Keeps s0 s) :
    Keeps s0 (State.immCmp s a1 a2 a3) := by
  unfold State.immCmp
  repeat' first
    | with_reducible assumption
    | intro x; refine keeps_cut (s0 := s0) x ?_ ?_; (on_goal 2 => clear_value x); (on_goal 1 => subst x)
    | intro x; try clear_value x
    | with_reducible apply State.noteFields_keeps
    | with_reducible apply State.setCmpAct_keeps
    | with_reducible refine State.onlyIf_keeps ?_ (fun x_ k => ?_)
    | with_reducible apply State.flag_keeps
    | lift_lets -underBinder; intro x; refine keeps_cut (s0 := s0) x ?_ ?_; (on_goal 2 => clear_value x); (on_goal 1 => subst x)
    | fail_if_no_progress beta_reduce
    | split

theorem State.writeCmp_keeps {s0 : State} {s : State} {a1 : ℕ} {a2 : Cmp} {a3 : ℕ} {a4 : Bool} (h : Keeps s0 s) :
    Keeps s0 (State.writeCmp s a1 a2 a3 a4) := by
  unfold State.writeCmp
  repeat' first
    | with_reducible assumption
    | with_reducible refine State.shadowWrite_keeps ?_ (fun x_ k => ?_)
    | with_reducible apply State.wr_keeps
    | with_reducible apply State.immCmp_keeps
    | with_reducible apply State.flag_keeps
    | with_reducible apply keeps_ite
    | fail_if_no_progress beta_reduce
    | split

theorem State.tbStart_keeps {s0 : State} {s : State} {a1 : ℕ} (h : Keeps s0 s) :
    Keeps s0 (State.tbStart s a1) := by
  unfold State.tbStart
  repeat' first
    | with_reducible assumption
    | with_reducible apply State.wr_keeps

theorem State.loadCnt_keeps {s0 : State} {s : State} {a1 : ℕ} {a2 : ℕ} {a3 : Bool} (h : Keeps s0 s) :
    Keeps s0 (State.loadCnt s a1 a2 a3) := by
  unfold State.loadCnt
  repeat' first
    | with_reducible assumption
    | with_reducible apply State.wr_keeps

theorem State.takePer_keeps {s0 : State} {s : State} {a1 : ℕ} {a2 : ℕ} (h : Keeps s0 s) :
    Keeps s0 (State.takePer s a1 a2) := by
  unfold State.takePer
  repeat' first
    | with_reducible assumption
    | with_reducible apply State.wr_keeps
    | with_reducible apply State.loadCnt_keeps
    | with_reducible apply State.flag_keeps
    | with_reducible apply keeps_ite

theorem State.xferDt_keeps {s0 : State} {s : State} {a1 : ℕ} (h : Keeps s0 s) :
    Keeps s0 (State.xferDt s a1) := by
  unfold State.xferDt
  repeat' first
    | with_reducible assumption
    | with_reducible apply State.setLeg_keeps
    | with_reducible refine State.onlyIf_keeps ?_ (fun x_ k => ?_)
    | with_reducible apply State.flag_keeps

theorem State.xferTrg_keeps {s0 : State} {s : State} {a1 : ℕ} (h : Keeps s0 s) :
    Keeps s0 (State.xferTrg s a1) := by
  unfold State.xferTrg
  repeat' first
    | with_reducible assumption
    | with_reducible apply State.setTrgAct_keeps
    | with_reducible apply State.flag_keeps
    | with_reducible apply State.wr_keeps
    | with_reducible refine foldEach_keeps (fun a t k => ?_) _ ?_
    | with_reducible apply keeps_ite

theorem State.xferCmp_keeps {s0 : State} {s : State} {a1 : ℕ} {a2 : Cmp} {a3 : FD} {a4 : FD} (h : Keeps s0 s) :
    Keeps s0 (State.xferCmp s a1 a2 a3 a4) := by
  unfold State.xferCmp
  repeat' first
    | with_reducible assumption
    | with_reducible apply State.setCmpAct_keeps
    | with_reducible apply State.flag_keeps
    | with_reducible apply State.wr_keeps
    | with_reducible apply keeps_ite

theorem State.xferLeg_keeps {s0 : State} {s : State} {a1 : ℕ} (h : Keeps s0 s) :
    Keeps s0 (State.xferLeg s a1) := by
  unfold State.xferLeg
  repeat' first
    | with_reducible assumption
    | with_reducible apply State.xferDt_keeps
    | with_reducible apply State.xferTrg_keeps
    | with_reducible apply State.xferCmp_keeps

theorem State.transfer_keeps {s0 : State} {s : State} {a1 : ℕ} (h : Keeps s0 s) :
    Keeps s0 (State.transfer s a1) := by
  unfold State.transfer
  repeat' first
    | with_reducible assumption
    | with_reducible apply State.takePer_keeps
    | with_reducible apply State.setTb_keeps
    | with_reducible apply State.xferLeg_keeps
    | with_reducible refine State.onlyIf_keeps ?_ (fun x_ k => ?_)
    | with_reducible apply State.flag_keeps
    | with_reducible refine foldEach_keeps (fun a t k => ?_) _ ?_
    | with_reducible apply keeps_ite

theorem State.writeDtr_keeps {s0 : State} {s : State} {a1 : ℕ} {a2 : ℕ} (h : Keeps s0 s) :
    Keeps s0 (State.writeDtr s a1 a2) := by
  unfold State.writeDtr
  repeat' first
    | with_reducible assumption
    | with_reducible refine State.shadowWrite_keeps ?_ (fun x_ k => ?_)
    | with_reducible apply State.wr_keeps

theorem State.writeDtf_keeps {s0 : State} {s : State} {a1 : ℕ} {a2 : ℕ} (h : Keeps s0 s) :
    Keeps s0 (State.writeDtf s a1 a2) := by
  unfold State.writeDtf
  repeat' first
    | with_reducible assumption
    | with_reducible refine State.shadowWrite_keeps ?_ (fun x_ k => ?_)
    | with_reducible apply State.wr_keeps

theorem State.advance_keeps {s0 : State} {s : State} {a1 : ℕ} (h : Keeps s0 s) :
    Keeps s0 (State.advance s a1) := by
  unfold State.advance
  repeat' first
    | with_reducible assumption
    | with_reducible apply State.loadCnt_keeps
    | with_reducible apply keeps_ite
    | fail_if_no_progress beta_reduce
    | split

theorem State.goImmediate_keeps {s0 : State} {s : State} {a1 : ℕ} (h : Keeps s0 s) :
    Keeps s0 (State.goImmediate s a1) := by
  unfold State.goImmediate
  repeat' first
    | with_reducible assumption
    | with_reducible refine State.onlyIf_keeps ?_ (fun x_ k => ?_)
    | with_reducible apply State.wr_keeps
    | with_reducible apply State.setCmpAct_keeps
    | with_reducible apply State.setTrgAct_keeps
    | with_reducible refine foldEach_keeps (fun a t k => ?_) _ ?_

theorem State.legEdge_keeps {s0 : State} {s : State} {a1 : ℕ} (h : Keeps s0 s) :
    Keeps s0 (State.legEdge s a1) := by
  unfold State.legEdge
  repeat' first
    | with_reducible assumption
    | with_reducible apply State.showPol_keeps
    | with_reducible apply State.followRef_keeps
    | with_reducible apply State.goImmediate_keeps

theorem State.syncEvent_keeps {s0 : State} {s : State} {a1 : ℕ} {a2 : ℕ} (h : Keeps s0 s) :
    Keeps s0 (State.syncEvent s a1 a2) := by
  unfold State.syncEvent
  repeat' first
    | with_reducible assumption
    | with_reducible apply State.setTb_keeps
    | with_reducible apply keeps_ite

theorem State.writePer_keeps {s0 : State} {s : State} {a1 : ℕ} {a2 : ℕ} (h : Keeps s0 s) :
    Keeps s0 (State.writePer s a1 a2) := by
  unfold State.writePer
  repeat' first
    | with_reducible assumption
    | with_reducible apply State.wr_keeps
    | with_reducible apply State.noteCap_keeps

theorem State.loadSync_keeps {s0 : State} {s : State} {a1 : ℕ} (h : Keeps s0 s) :
    Keeps s0 (State.loadSync s a1) := by
  unfold State.loadSync
  repeat' first
    | with_reducible assumption
    | with_reducible apply State.loadCnt_keeps
    | with_reducible apply State.setTb_keeps
    | with_reducible refine State.onlyIf_keeps ?_ (fun x_ k => ?_)
    | with_reducible apply State.flag_keeps

theorem State.edgeWork_keeps {s0 : State} {s : State} {a1 : ℕ} (h : Keeps s0 s) :
    Keeps s0 (State.edgeWork s a1) := by
  unfold State.edgeWork
  repeat' first
    | with_reducible assumption
    | with_reducible apply State.takePer_keeps
    | with_reducible apply State.setTb_keeps
    | with_reducible apply State.wr_keeps
    | with_reducible apply State.flag_keeps
    | with_reducible apply State.transfer_keeps
    | with_reducible apply keeps_ite
    | fail_if_no_progress beta_reduce
    | split

theorem State.writeMinp_keeps {s0 : State} {s : State} {a1 : ℕ} {a2 : ℕ} (h : Keeps s0 s) :
    Keeps s0 (State.writeMinp s a1 a2) := by
  unfold State.writeMinp
  repeat' first
    | with_reducible assumption
    | with_reducible refine State.shadowWrite_keeps ?_ (fun x_ k => ?_)
    | with_reducible apply State.wr_keeps

theorem State.stopTb_keeps {s0 : State} {s : State} {a1 : ℕ} (h : Keeps s0 s) :
    Keeps s0 (State.stopTb s a1) := by
  unfold State.stopTb
  repeat' first
    | with_reducible assumption
    | with_reducible apply State.flag_keeps
    | with_reducible apply State.wr_keeps
    | with_reducible apply keeps_ite

theorem State.startTb_keeps {s0 : State} {s : State} {a1 : ℕ} (h : Keeps s0 s) :
    Keeps s0 (State.startTb s a1) := by
  unfold State.startTb
  repeat' first
    | with_reducible assumption
    | with_reducible apply State.flag_keeps
    | with_reducible apply State.wr_keeps
    | with_reducible apply State.xferLeg_keeps
    | with_reducible apply State.loadCnt_keeps
    | with_reducible apply State.setTb_keeps
    | with_reducible apply State.setLeg_keeps
    | with_reducible apply State.restartLeg_keeps
    | with_reducible apply State.followRef_keeps
    | with_reducible refine foldEach_keeps (fun a t k => ?_) _ ?_
    | with_reducible apply keeps_ite

theorem State.tbEdge_keeps {s0 : State} {s : State} {a1 : ℕ} (h : Keeps s0 s) :
    Keeps s0 (State.tbEdge s a1) := by
  unfold State.tbEdge
  repeat' first
    | with_reducible assumption
    | with_reducible apply State.setTb_keeps
    | with_reducible apply State.advance_keeps
    | with_reducible apply State.wr_keeps
    | with_reducible apply keeps_ite

theorem State.fcHoldOff_keeps {s0 : State} {s : State} {a1 : ℕ} (h : Keeps s0 s) :
    Keeps s0 (State.fcHoldOff s a1) := by
  unfold State.fcHoldOff
  repeat' first
    | with_reducible assumption
    | with_reducible refine State.onlyIf_keeps ?_ (fun x_ k => ?_)
    | with_reducible apply State.setFc_keeps

theorem State.sendRefs_keeps {s0 : State} {s : State} {a1 : ℕ} {a2 : ℤ} {a3 : ℤ} (h : Keeps s0 s) :
    Keeps s0 (State.sendRefs s a1 a2 a3) := by
  unfold State.sendRefs
  repeat' first
    | with_reducible assumption
    | with_reducible apply State.setFc_keeps
    | with_reducible apply keeps_ite

theorem State.fcEnterHold_keeps {s0 : State} {s : State} {a1 : ℕ} (h : Keeps s0 s) :
    Keeps s0 (State.fcEnterHold s a1) := by
  unfold State.fcEnterHold
  repeat' first
    | with_reducible assumption
    | with_reducible apply State.fcHoldOff_keeps
    | with_reducible apply State.setFc_keeps
    | with_reducible apply State.sendRefs_keeps
    | with_reducible apply State.wr_keeps

theorem State.fcAbort_keeps {s0 : State} {s : State} {a1 : ℕ} (h : Keeps s0 s) :
    Keeps s0 (State.fcAbort s a1) := by
  unfold State.fcAbort
  repeat' first
    | with_reducible assumption
    | with_reducible apply State.flag_keeps
    | with_reducible apply State.fcEnterHold_keeps
    | with_reducible apply keeps_ite

theorem State.stageOff_keeps {s0 : State} {s : State} {a1 : ℕ} (h : Keeps s0 s) :
    Keeps s0 (State.stageOff s a1) := by
  unfold State.stageOff
  repeat' first
    | with_reducible assumption
    | with_reducible apply State.setLu_keeps
    | with_reducible apply State.fcAbort_keeps
    | with_reducible apply keeps_ite

theorem State.cancelLegs_keeps {s0 : State} {s : State} {a1 : ℕ} (h : Keeps s0 s) :
    Keeps s0 (State.cancelLegs s a1) := by
  unfold State.cancelLegs
  repeat' first
    | with_reducible assumption
    | with_reducible apply State.cancelStage_keeps
    | with_reducible refine foldEach_keeps (fun a t k => ?_) _ ?_

theorem State.latchLeg_keeps {s0 : State} {s : State} {a1 : ℕ} {a2 : ℕ} (h : Keeps s0 s) :
    Keeps s0 (State.latchLeg s a1 a2) := by
  unfold State.latchLeg
  repeat' first
    | with_reducible assumption
    | with_reducible apply State.setPad_keeps

theorem State.latchStage_keeps {s0 : State} {s : State} {a1 : ℕ} {a2 : ℕ} (h : Keeps s0 s) :
    Keeps s0 (State.latchStage s a1 a2) := by
  unfold State.latchStage
  repeat' first
    | with_reducible assumption
    | with_reducible apply State.latchLeg_keeps
    | with_reducible apply State.wr_keeps
    | with_reducible apply State.setAsc_keeps
    | with_reducible refine foldEach_keeps (fun a t k => ?_) _ ?_

theorem State.tripFirst_keeps {s0 : State} {s : State} {a1 : ℕ} {a2 : ℕ} {a3 : ℕ} {a4 : ℕ} {a5 : Bool} (h : Keeps s0 s) :
    Keeps s0 (State.tripFirst s a1 a2 a3 a4 a5) := by
  unfold State.tripFirst
  repeat' first
    | with_reducible assumption
    | with_reducible apply State.cancelLegs_keeps
    | with_reducible apply State.latchStage_keeps
    | with_reducible apply State.bump_keeps
    | with_reducible apply State.wr_keeps
    | with_reducible apply State.flag_keeps
    | with_reducible apply State.capture_keeps
    | with_reducible apply State.next_keeps
    | with_reducible apply State.stageOff_keeps

theorem State.showActive_keeps {s0 : State} {s : State} {a1 : ℕ} (h : Keeps s0 s) :
    Keeps s0 (State.showActive s a1) := by
  unfold State.showActive
  repeat' first
    | with_reducible assumption
    | with_reducible apply State.wr_keeps

theorem State.nodeRise_keeps {s0 : State} {s : State} {a1 : ℕ} {a2 : ℕ} {a3 : ℕ} {a4 : optParam (Option ℕ) none} (h : Keeps s0 s) :
    Keeps s0 (State.nodeRise s a1 a2 a3 a4) := by
  unfold State.nodeRise
  repeat' first
    | with_reducible assumption
    | with_reducible apply State.wr_keeps
    | with_reducible apply State.tripFirst_keeps
    | with_reducible apply State.showActive_keeps
    | with_reducible apply keeps_ite

theorem State.routedRise_keeps {s0 : State} {s : State} {a1 : ℕ} (h : Keeps s0 s) :
    Keeps s0 (State.routedRise s a1) := by
  unfold State.routedRise
  repeat' first
    | with_reducible assumption
    | with_reducible apply State.nodeRise_keeps
    | with_reducible refine foldEach_keeps (fun a t k => ?_) _ ?_

theorem State.showAllActive_keeps {s0 : State} {s : State} (h : Keeps s0 s) :
    Keeps s0 (State.showAllActive s) := by
  unfold State.showAllActive
  repeat' first
    | with_reducible assumption
    | with_reducible apply State.showActive_keeps
    | with_reducible refine foldEach_keeps (fun a t k => ?_) _ ?_

theorem State.setCmp_keeps {s0 : State} {s : State} {a1 : ℕ} {a2 : Bool} (h : Keeps s0 s) :
    Keeps s0 (State.setCmp s a1 a2) := by
  unfold State.setCmp
  repeat' first
    | with_reducible assumption
    | with_reducible apply State.wr_keeps
    | with_reducible apply State.raisePulse_keeps
    | with_reducible apply State.routedRise_keeps
    | with_reducible apply State.flag_keeps
    | with_reducible apply State.showAllActive_keeps
    | with_reducible apply keeps_ite

theorem State.setTripin_keeps {s0 : State} {s : State} {a1 : ℕ} {a2 : Bool} (h : Keeps s0 s) :
    Keeps s0 (State.setTripin s a1 a2) := by
  unfold State.setTripin
  repeat' first
    | with_reducible assumption
    | with_reducible apply State.wr_keeps
    | with_reducible apply State.routedRise_keeps
    | with_reducible apply State.flag_keeps
    | with_reducible apply State.showAllActive_keeps
    | with_reducible apply keeps_ite

theorem State.setSrcLevel_keeps {s0 : State} {s : State} {a1 : ℕ} {a2 : Bool} (h : Keeps s0 s) :
    Keeps s0 (State.setSrcLevel s a1 a2) := by
  unfold State.setSrcLevel
  repeat' first
    | with_reducible assumption
    | with_reducible apply State.setCmp_keeps
    | with_reducible apply State.setTripin_keeps
    | with_reducible apply keeps_ite

theorem State.setGlitch_keeps {s0 : State} {s : State} {a1 : ℕ} {a2 : Option ℕ} (h : Keeps s0 s) :
    Keeps s0 (State.setGlitch s a1 a2) := by
  unfold State.setGlitch
  repeat' first
    | with_reducible assumption
    | fail_if_no_progress with_reducible apply keeps_mk (s := _)

theorem State.filterEdge_keeps {s0 : State} {s : State} (h : Keeps s0 s) :
    Keeps s0 (State.filterEdge s) := by
  unfold State.filterEdge
  repeat' first
    | with_reducible assumption
    | with_reducible apply State.setSrcLevel_keeps
    | with_reducible apply State.setGlitch_keeps
    | with_reducible refine foldEach_keeps (fun a t k => ?_) _ ?_
    | with_reducible apply keeps_ite
    | fail_if_no_progress beta_reduce
    | split

theorem State.ascOn_keeps {s0 : State} {s : State} {a1 : ℕ} {a2 : AscRun} (h : Keeps s0 s) :
    Keeps s0 (State.ascOn s a1 a2) := by
  unfold State.ascOn
  repeat' first
    | with_reducible assumption
    | with_reducible apply State.setAsc_keeps
    | with_reducible apply State.setPad_keeps
    | with_reducible refine foldEach_keeps (fun a t k => ?_) _ ?_

theorem State.retripNode_keeps {s0 : State} {s : State} {a1 : ℕ} {a2 : ℕ} {a3 : ℕ} (h : Keeps s0 s) :
    Keeps s0 (State.retripNode s a1 a2 a3) := by
  unfold State.retripNode
  repeat' first
    | with_reducible assumption
    | with_reducible apply State.showActive_keeps
    | with_reducible apply State.flag_keeps
    | with_reducible apply State.tripFirst_keeps

theorem State.showSource_keeps {s0 : State} {s : State} {a1 : ℕ} {a2 : ℕ} (h : Keeps s0 s) :
    Keeps s0 (State.showSource s a1 a2) := by
  unfold State.showSource
  repeat' first
    | with_reducible assumption
    | with_reducible apply State.raisePulse_keeps
    | with_reducible apply State.flag_keeps
    | with_reducible apply State.wr_keeps
    | with_reducible refine State.onlyIf_keeps ?_ (fun x_ k => ?_)
    | lift_lets -underBinder; intro x; try clear_value x
    | fail_if_no_progress beta_reduce
    | split

theorem State.clearTrip_keeps {s0 : State} {s : State} {a1 : ℕ} (h : Keeps s0 s) :
    Keeps s0 (State.clearTrip s a1) := by
  unfold State.clearTrip
  repeat' first
    | with_reducible assumption
    | with_reducible refine State.onlyIf_keeps ?_ (fun x_ k => ?_)
    | with_reducible apply State.flag_keeps
    | with_reducible apply State.wr_keeps
    | with_reducible apply keeps_ite

theorem State.clearAgainst_keeps {s0 : State} {s : State} {a1 : ℕ} {a2 : ℕ} (h : Keeps s0 s) :
    Keeps s0 (State.clearAgainst s a1 a2) := by
  unfold State.clearAgainst
  repeat' first
    | with_reducible assumption
    | with_reducible apply State.retripNode_keeps
    | with_reducible apply State.showSource_keeps
    | with_reducible apply State.nodeRise_keeps
    | with_reducible apply State.clearTrip_keeps
    | with_reducible refine foldEach_keeps (fun a t k => ?_) _ ?_
    | with_reducible apply keeps_ite
    | fail_if_no_progress beta_reduce
    | split

theorem State.filtered_keeps {s0 : State} {s : State} {a1 : ℕ} {a2 : Bool} (h : Keeps s0 s) :
    Keeps s0 (State.filtered s a1 a2) := by
  unfold State.filtered
  repeat' first
    | with_reducible assumption
    | with_reducible apply State.setGlitch_keeps
    | with_reducible apply State.setSrcLevel_keeps
    | with_reducible apply keeps_ite

theorem State.tripinLook_keeps {s0 : State} {s : State} {a1 : ℕ} (h : Keeps s0 s) :
    Keeps s0 (State.tripinLook s a1) := by
  unfold State.tripinLook
  repeat' first
    | with_reducible assumption
    | with_reducible apply State.filtered_keeps
    | with_reducible apply State.setTripin_keeps
    | with_reducible apply State.setGlitch_keeps
    | with_reducible apply keeps_ite

theorem State.assertActive_keeps {s0 : State} {s : State} (h : Keeps s0 s) :
    Keeps s0 (State.assertActive s) := by
  unfold State.assertActive
  repeat' first
    | with_reducible assumption
    | with_reducible apply State.nodeRise_keeps
    | with_reducible refine foldEach_keeps (fun a t k => ?_) _ ?_
    | with_reducible apply keeps_ite

theorem State.unitFault_keeps {s0 : State} {s : State} {a1 : ℕ} (h : Keeps s0 s) :
    Keeps s0 (State.unitFault s a1) := by
  unfold State.unitFault
  repeat' first
    | with_reducible assumption
    | with_reducible apply State.nodeRise_keeps
    | with_reducible apply keeps_ite
    | fail_if_no_progress with_reducible apply keeps_mk (s := _)
    | fail_if_no_progress beta_reduce
    | split

theorem State.tripStages_keeps {s0 : State} {s : State} {a1 : List ℕ} (h : Keeps s0 s) :
    Keeps s0 (State.tripStages s a1) := by
  unfold State.tripStages
  repeat' first
    | with_reducible assumption
    | with_reducible apply State.nodeRise_keeps
    | with_reducible refine foldEach_keeps (fun a t k => ?_) _ ?_

theorem State.eccMeet_keeps {s0 : State} {s : State} {a1 : Master} {a2 : ℕ} {a3 : ℕ} (h : Keeps s0 s) :
    Keeps s0 (State.eccMeet s a1 a2 a3) := by
  unfold State.eccMeet
  repeat' first
    | with_reducible assumption
    | with_reducible apply State.busErr_keeps
    | with_reducible apply State.eccMet_keeps
    | with_reducible apply State.tripStages_keeps
    | with_reducible apply keeps_ite
    | fail_if_no_progress with_reducible apply keeps_mk (s := _)
    | fail_if_no_progress beta_reduce
    | split

theorem State.showChop_keeps {s0 : State} {s : State} (h : Keeps s0 s) :
    Keeps s0 (State.showChop s) := by
  unfold State.showChop
  repeat' first
    | with_reducible assumption
    | with_reducible apply State.wr_keeps
    | with_reducible refine foldEach_keeps (fun a t k => ?_) _ ?_

theorem State.clearChop_keeps {s0 : State} {s : State} {a1 : ℕ} (h : Keeps s0 s) :
    Keeps s0 (State.clearChop s a1) := by
  unfold State.clearChop
  repeat' first
    | with_reducible assumption
    | with_reducible apply State.flag_keeps
    | with_reducible apply State.showChop_keeps
    | with_reducible apply State.wr_keeps
    | with_reducible apply keeps_ite

theorem State.showLadders_keeps {s0 : State} {s : State} (h : Keeps s0 s) :
    Keeps s0 (State.showLadders s) := by
  unfold State.showLadders
  repeat' first
    | with_reducible assumption
    | with_reducible apply State.wr_keeps

theorem State.setSwtrip_keeps {s0 : State} {s : State} {a1 : ℕ} {a2 : Bool} (h : Keeps s0 s) :
    Keeps s0 (State.setSwtrip s a1 a2) := by
  unfold State.setSwtrip
  repeat' first
    | with_reducible assumption
    | with_reducible apply State.wr_keeps
    | with_reducible apply State.nodeRise_keeps
    | with_reducible apply State.showActive_keeps
    | with_reducible apply keeps_ite

theorem State.seqRelease_keeps {s0 : State} {s : State} {a1 : ℕ} (h : Keeps s0 s) :
    Keeps s0 (State.seqRelease s a1) := by
  unfold State.seqRelease
  repeat' first
    | with_reducible assumption
    | with_reducible apply State.setSeq_keeps
    | with_reducible apply State.releaseClaims_keeps

theorem State.seqRunEnd_keeps {s0 : State} {s : State} {a1 : ℕ} (h : Keeps s0 s) :
    Keeps s0 (State.seqRunEnd s a1) := by
  unfold State.seqRunEnd
  repeat' first
    | with_reducible assumption
    | with_reducible apply State.setSeq_keeps
    | with_reducible apply State.flag_keeps
    | with_reducible apply State.wr_keeps
    | with_reducible apply State.seqRelease_keeps
    | with_reducible apply keeps_ite

theorem State.seqDisable_keeps {s0 : State} {s : State} {a1 : ℕ} (h : Keeps s0 s) :
    Keeps s0 (State.seqDisable s a1) := by
  unfold State.seqDisable
  repeat' first
    | with_reducible assumption
    | with_reducible apply State.seqRunEnd_keeps
    | with_reducible apply State.setSeq_keeps
    | with_reducible apply State.wr_keeps

theorem State.injDisable_keeps {s0 : State} {s : State} {a1 : ℕ} {a2 : ℕ} (h : Keeps s0 s) :
    Keeps s0 (State.injDisable s a1 a2) := by
  unfold State.injDisable
  repeat' first
    | with_reducible assumption
    | with_reducible apply State.wr2_keeps
    | with_reducible apply State.releaseClaims_keeps
    | with_reducible apply keeps_ite

theorem State.pairErr_keeps {s0 : State} {s : State} {a1 : ℕ} {a2 : ℕ} (h : Keeps s0 s) :
    Keeps s0 (State.pairErr s a1 a2) := by
  unfold State.pairErr
  repeat' first
    | with_reducible assumption
    | with_reducible apply State.wr_keeps
    | with_reducible apply State.flag_keeps

theorem State.acquire_keeps {s0 : State} {s : State} {a1 : ℕ} {a2 : ConvJob} (h : Keeps s0 s) :
    Keeps s0 (State.acquire s a1 a2) := by
  unfold State.acquire
  repeat' first
    | with_reducible assumption
    | with_reducible apply State.flag_keeps
    | with_reducible apply State.setAdc_keeps

theorem State.pairSample_keeps {s0 : State} {s : State} {a1 : ℕ} {a2 : ℕ} {a3 : ℕ} (h : Keeps s0 s) :
    Keeps s0 (State.pairSample s a1 a2 a3) := by
  unfold State.pairSample
  repeat' first
    | with_reducible assumption
    | with_reducible apply State.acquire_keeps
    | with_reducible apply keeps_ite

theorem State.burstStart_keeps {s0 : State} {s : State} {a1 : ℕ} (h : Keeps s0 s) :
    Keeps s0 (State.burstStart s a1) := by
  unfold State.burstStart
  repeat' first
    | with_reducible assumption
    | with_reducible apply State.flag_keeps
    | with_reducible apply State.pairErr_keeps
    | with_reducible apply State.setPair_keeps
    | with_reducible apply State.wr_keeps
    | with_reducible apply State.pairSample_keeps
    | with_reducible apply keeps_ite

theorem State.pairDisarm_keeps {s0 : State} {s : State} {a1 : ℕ} (h : Keeps s0 s) :
    Keeps s0 (State.pairDisarm s a1) := by
  unfold State.pairDisarm
  repeat' first
    | with_reducible assumption
    | with_reducible apply State.wr_keeps
    | with_reducible apply State.setPair_keeps
    | with_reducible apply State.releaseClaims_keeps
    | with_reducible refine foldEach_keeps (fun a t k => ?_) _ ?_

theorem State.seqErr_keeps {s0 : State} {s : State} {a1 : ℕ} {a2 : ℕ} (h : Keeps s0 s) :
    Keeps s0 (State.seqErr s a1 a2) := by
  unfold State.seqErr
  repeat' first
    | with_reducible assumption
    | with_reducible apply State.wr_keeps
    | with_reducible apply State.flag_keeps

theorem State.seqStart_keeps {s0 : State} {s : State} {a1 : ℕ} (h : Keeps s0 s) :
    Keeps s0 (State.seqStart s a1) := by
  unfold State.seqStart
  repeat' first
    | with_reducible assumption
    | with_reducible apply State.seqErr_keeps
    | with_reducible apply State.bump_keeps
    | with_reducible apply State.flag_keeps
    | with_reducible apply State.setSeq_keeps
    | with_reducible apply keeps_ite

theorem State.issueEntry_keeps {s0 : State} {s : State} {a1 : ℕ} {a2 : ℕ} {a3 : ℕ} (h : Keeps s0 s) :
    Keeps s0 (State.issueEntry s a1 a2 a3) := by
  unfold State.issueEntry
  repeat' first
    | with_reducible assumption
    | with_reducible apply State.acquire_keeps
    | with_reducible apply keeps_ite
    | fail_if_no_progress beta_reduce
    | split

theorem State.trigMiss_keeps {s0 : State} {s : State} {a1 : ℕ} (h : Keeps s0 s) :
    Keeps s0 (State.trigMiss s a1) := by
  unfold State.trigMiss
  repeat' first
    | with_reducible assumption
    | with_reducible apply State.bump_keeps
    | with_reducible apply State.flag_keeps

theorem State.startSlot_keeps {s0 : State} {s : State} {a1 : ℕ} {a2 : ℕ} (h : Keeps s0 s) :
    Keeps s0 (State.startSlot s a1 a2) := by
  unfold State.startSlot
  repeat' first
    | with_reducible assumption
    | with_reducible apply State.setAdc_keeps
    | with_reducible apply State.acquire_keeps
    | with_reducible apply State.wr_keeps

theorem State.release_keeps {s0 : State} {s : State} {a1 : ℕ} (h : Keeps s0 s) :
    Keeps s0 (State.release s a1) := by
  unfold State.release
  repeat' first
    | with_reducible assumption
    | with_reducible apply State.wr_keeps
    | with_reducible apply State.setAdc_keeps

theorem State.preempt_keeps {s0 : State} {s : State} {a1 : ℕ} {a2 : ℕ} (h : Keeps s0 s) :
    Keeps s0 (State.preempt s a1 a2) := by
  unfold State.preempt
  repeat' first
    | with_reducible assumption
    | with_reducible refine State.onlyIf_keeps ?_ (fun x_ k => ?_)
    | with_reducible apply State.setAdc_keeps
    | with_reducible apply State.release_keeps
    | with_reducible apply State.seqRunEnd_keeps
    | with_reducible apply State.setSeq_keeps
    | with_reducible refine foldEach_keeps (fun a t k => ?_) _ ?_
    | with_reducible apply keeps_ite

theorem State.injTrig_keeps {s0 : State} {s : State} {a1 : ℕ} {a2 : ℕ} (h : Keeps s0 s) :
    Keeps s0 (State.injTrig s a1 a2) := by
  unfold State.injTrig
  repeat' first
    | with_reducible assumption
    | with_reducible apply State.trigMiss_keeps
    | with_reducible apply State.flag_keeps
    | with_reducible apply State.startSlot_keeps
    | with_reducible apply State.preempt_keeps
    | with_reducible apply keeps_ite

theorem State.injRoute_keeps {s0 : State} {s : State} {a1 : ℕ} {a2 : ℕ} (h : Keeps s0 s) :
    Keeps s0 (State.injRoute s a1 a2) := by
  unfold State.injRoute
  repeat' first
    | with_reducible assumption
    | with_reducible apply State.injTrig_keeps
    | with_reducible apply State.takePulse_keeps

theorem State.ringWrite_keeps {s0 : State} {s : State} {a1 : ℕ} {a2 : ℕ} (h : Keeps s0 s) :
    Keeps s0 (State.ringWrite s a1 a2) := by
  unfold State.ringWrite
  repeat' first
    | with_reducible assumption
    | with_reducible apply State.setWord_keeps
    | with_reducible apply State.wr_keeps
    | with_reducible apply State.setSeq_keeps
    | with_reducible refine State.onlyIf_keeps ?_ (fun x_ k => ?_)
    | with_reducible apply State.flag_keeps
    | with_reducible apply keeps_ite

theorem State.ringFlush_keeps {s0 : State} {s : State} {a1 : ℕ} (h : Keeps s0 s) :
    Keeps s0 (State.ringFlush s a1) := by
  unfold State.ringFlush
  repeat' first
    | with_reducible assumption
    | with_reducible apply State.ringWrite_keeps
    | with_reducible apply State.setSeq_keeps
    | with_reducible refine foldEach_keeps (fun a t k => ?_) _ ?_

theorem State.calEnd_keeps {s0 : State} {s : State} {a1 : ℕ} (h : Keeps s0 s) :
    Keeps s0 (State.calEnd s a1) := by
  unfold State.calEnd
  repeat' first
    | with_reducible assumption
    | with_reducible apply State.wr_keeps

theorem State.storeAdcTrims_keeps {s0 : State} {s : State} {a1 : ℕ} (h : Keeps s0 s) :
    Keeps s0 (State.storeAdcTrims s a1) := by
  unfold State.storeAdcTrims
  repeat' first
    | with_reducible assumption
    | with_reducible apply State.setWord_keeps

theorem State.pairArm_keeps {s0 : State} {s : State} {a1 : ℕ} (h : Keeps s0 s) :
    Keeps s0 (State.pairArm s a1) := by
  unfold State.pairArm
  repeat' first
    | with_reducible assumption
    | with_reducible apply State.pairErr_keeps
    | with_reducible refine State.claimAll_keeps ?_ (fun x_ k => ?_) (fun x_ k => ?_)
    | with_reducible apply State.flag_keeps
    | with_reducible apply State.setPair_keeps
    | with_reducible apply State.claimRefused_keeps
    | with_reducible apply keeps_ite
    | fail_if_no_progress beta_reduce
    | split

theorem State.sendLink_keeps {s0 : State} {s : State} {a1 : LinkWord} (h : Keeps s0 s) :
    Keeps s0 (State.sendLink s a1) := by
  unfold State.sendLink
  repeat' first
    | with_reducible assumption
    | with_reducible apply keeps_ite
    | fail_if_no_progress with_reducible apply keeps_mk (s := _)

theorem State.keepAin_keeps {s0 : State} {s : State} {a1 : ℕ} {a2 : ℕ} (h : Keeps s0 s) :
    Keeps s0 (State.keepAin s a1 a2) := by
  unfold State.keepAin
  repeat' first
    | with_reducible assumption
    | with_reducible apply State.srcWord_keeps

theorem State.eocPair_keeps {s0 : State} {s : State} {a1 : ℕ} {a2 : AdcS} (h : Keeps s0 s) :
    Keeps s0 (State.eocPair s a1 a2) := by
  unfold State.eocPair
  repeat' first
    | with_reducible assumption
    | with_reducible refine State.onlyIf_keeps ?_ (fun x_ k => ?_)
    | with_reducible apply State.release_keeps
    | with_reducible apply State.flag_keeps
    | with_reducible apply State.setWord_keeps
    | with_reducible apply State.keepAin_keeps
    | with_reducible apply State.wr_keeps
    | with_reducible apply State.pairSample_keeps

theorem State.ringClear_keeps {s0 : State} {s : State} {a1 : ℕ} (h : Keeps s0 s) :
    Keeps s0 (State.ringClear s a1) := by
  unfold State.ringClear
  repeat' first
    | with_reducible assumption
    | with_reducible apply State.wr_keeps
    | with_reducible apply State.setSeq_keeps

theorem State.seqEnable_keeps {s0 : State} {s : State} {a1 : ℕ} (h : Keeps s0 s) :
    Keeps s0 (State.seqEnable s a1) := by
  unfold State.seqEnable
  repeat' first
    | with_reducible assumption
    | with_reducible apply State.ringClear_keeps
    | with_reducible apply State.seqErr_keeps
    | with_reducible refine State.claimAll_keeps ?_ (fun x_ k => ?_) (fun x_ k => ?_)
    | with_reducible apply State.flag_keeps
    | with_reducible apply State.setSeq_keeps
    | with_reducible apply keeps_ite

theorem State.calStart_keeps {s0 : State} {s : State} {a1 : ℕ} (h : Keeps s0 s) :
    Keeps s0 (State.calStart s a1) := by
  unfold State.calStart
  repeat' first
    | with_reducible assumption
    | with_reducible apply State.flag_keeps
    | with_reducible apply State.wr_keeps
    | with_reducible apply State.setAdc_keeps
    | with_reducible apply keeps_ite

theorem State.issueGroup_keeps {s0 : State} {s : State} {a1 : ℕ} (h : Keeps s0 s) :
    Keeps s0 (State.issueGroup s a1) := by
  unfold State.issueGroup
  repeat' first
    | with_reducible assumption
    | with_reducible apply State.setSeq_keeps
    | with_reducible apply State.wr_keeps
    | with_reducible apply State.issueEntry_keeps
    | with_reducible refine foldEach_keeps (fun a t k => ?_) _ ?_
    | with_reducible apply keeps_ite
    | lift_lets -underBinder; intro x; try clear_value x
    | fail_if_no_progress beta_reduce
    | split

theorem State.seqResult_keeps {s0 : State} {s : State} {a1 : ℕ} {a2 : ConvJob} {a3 : ℕ} {a4 : ℕ} {a5 : ℕ} (h : Keeps s0 s) :
    Keeps s0 (State.seqResult s a1 a2 a3 a4 a5) := by
  unfold State.seqResult
  repeat' first
    | with_reducible assumption
    | intro x; refine keeps_cut (s0 := s0) x ?_ ?_; (on_goal 2 => clear_value x); (on_goal 1 => subst x)
    | intro x; try clear_value x
    | with_reducible apply State.keepAin_keeps
    | with_reducible apply State.wr_keeps
    | with_reducible apply State.sendLink_keeps
    | with_reducible apply State.seqRunEnd_keeps
    | with_reducible apply State.setSeq_keeps
    | with_reducible apply keeps_ite
    | lift_lets -underBinder; intro x; try clear_value x
    | fail_if_no_progress beta_reduce
    | split

theorem State.injEnable_keeps {s0 : State} {s : State} {a1 : ℕ} {a2 : ℕ} (h : Keeps s0 s) :
    Keeps s0 (State.injEnable s a1 a2) := by
  unfold State.injEnable
  repeat' first
    | with_reducible assumption
    | with_reducible refine State.claimAll_keeps ?_ (fun x_ k => ?_) (fun x_ k => ?_)
    | with_reducible apply State.wr2_keeps
    | with_reducible apply id_keeps

theorem State.owSecond_keeps {s0 : State} {s : State} {a1 : ℕ} {a2 : ConvJob} (h : Keeps s0 s) :
    Keeps s0 (State.owSecond s a1 a2) := by
  unfold State.owSecond
  repeat' first
    | with_reducible assumption
    | with_reducible apply State.acquire_keeps
    | with_reducible apply State.setAdc_keeps

theorem State.eocInj_keeps {s0 : State} {s : State} {a1 : ℕ} {a2 : AdcS} (h : Keeps s0 s) :
    Keeps s0 (State.eocInj s a1 a2) := by
  unfold State.eocInj
  repeat' first
    | with_reducible assumption
    | intro x; refine keeps_cut (s0 := s0) x ?_ ?_; (on_goal 2 => clear_value x); (on_goal 1 => subst x)
    | intro x; try clear_value x
    | with_reducible refine State.onlyIf_keeps ?_ (fun x_ k => ?_)
    | with_reducible apply State.release_keeps
    | with_reducible apply State.flag_keeps
    | with_reducible apply State.wr2_keeps
    | with_reducible apply State.wr_keeps
    | with_reducible apply State.sendLink_keeps
    | with_reducible apply State.keepAin_keeps
    | with_reducible apply State.owSecond_keeps
    | with_reducible apply keeps_ite
    | lift_lets -underBinder; intro x; try clear_value x
    | fail_if_no_progress beta_reduce
    | split

theorem State.pairCal_keeps {s0 : State} {s : State} {a1 : ℕ} (h : Keeps s0 s) :
    Keeps s0 (State.pairCal s a1) := by
  unfold State.pairCal
  repeat' first
    | with_reducible assumption
    | with_reducible apply State.flag_keeps
    | with_reducible apply State.wr_keeps
    | with_reducible apply keeps_ite

theorem State.owBetween_keeps {s0 : State} {s : State} {a1 : ℕ} {a2 : ConvJob} (h : Keeps s0 s) :
    Keeps s0 (State.owBetween s a1 a2) := by
  unfold State.owBetween
  repeat' first
    | with_reducible assumption
    | with_reducible apply State.preempt_keeps
    | with_reducible apply State.release_keeps
    | with_reducible apply State.setAdc_keeps
    | with_reducible apply State.owSecond_keeps
    | with_reducible apply keeps_ite

theorem State.eocSeq_keeps {s0 : State} {s : State} {a1 : ℕ} {a2 : AdcS} (h : Keeps s0 s) :
    Keeps s0 (State.eocSeq s a1 a2) := by
  unfold State.eocSeq
  repeat' first
    | with_reducible assumption
    | with_reducible apply State.seqRunEnd_keeps
    | with_reducible apply State.release_keeps
    | with_reducible apply State.owBetween_keeps
    | with_reducible apply State.setAdc_keeps
    | with_reducible refine State.onlyIf_keeps ?_ (fun x_ k => ?_)
    | with_reducible apply State.flag_keeps
    | with_reducible apply State.seqResult_keeps
    | with_reducible apply keeps_ite

theorem State.adcEdge_keeps {s0 : State} {s : State} (h : Keeps s0 s) :
    Keeps s0 (State.adcEdge s) := by
  unfold State.adcEdge
  repeat' first
    | with_reducible assumption
    | with_reducible refine State.onlyIf_keeps ?_ (fun x_ k => ?_)
    | with_reducible apply State.ringFlush_keeps
    | with_reducible apply State.seqStart_keeps
    | with_reducible apply State.setSeq_keeps
    | with_reducible apply State.burstStart_keeps
    | with_reducible apply State.setPair_keeps
    | with_reducible refine foldEach_keeps (fun a t k => ?_) _ ?_

theorem State.loadAdcTrims_keeps {s0 : State} {s : State} {a1 : ℕ} (h : Keeps s0 s) :
    Keeps s0 (State.loadAdcTrims s a1) := by
  unfold State.loadAdcTrims
  repeat' first
    | with_reducible assumption
    | with_reducible apply State.wr_keeps

theorem State.tcmStore_keeps {s0 : State} {s : State} {a1 : ℕ} {a2 : ℕ} {a3 : ℕ} {a4 : ℕ} (h : Keeps s0 s) :
    Keeps s0 (State.tcmStore s a1 a2 a3 a4) := by
  unfold State.tcmStore
  repeat' first
    | with_reducible assumption
    | with_reducible apply State.setTcmByte_keeps
    | with_reducible refine foldEach_keeps (fun a t k => ?_) _ ?_
    | with_reducible apply keeps_ite
    | fail_if_no_progress with_reducible apply keeps_mk (s := _)

theorem State.ramStore_keeps {s0 : State} {s : State} {a1 : Master} {a2 : ℕ} {a3 : ℕ} {a4 : ℕ} (h : Keeps s0 s) :
    Keeps s0 (State.ramStore s a1 a2 a3 a4) := by
  unfold State.ramStore
  repeat' first
    | with_reducible assumption
    | with_reducible apply State.busErr_keeps
    | with_reducible apply State.ack_keeps
    | with_reducible apply State.eccWritten_keeps
    | with_reducible apply State.setNum_keeps
    | with_reducible apply keeps_ite

theorem State.dFlush_keeps {s0 : State} {s : State} {a1 : ℕ} {a2 : ℕ} {a3 : ℕ} (h : Keeps s0 s) :
    Keeps s0 (State.dFlush s a1 a2 a3) := by
  unfold State.dFlush
  repeat' first
    | with_reducible assumption
    | with_reducible apply State.ramStore_keeps
    | with_reducible apply State.dDrop_keeps
    | with_reducible refine foldEach_keeps (fun a t k => ?_) _ ?_
    | fail_if_no_progress beta_reduce
    | split

theorem State.setRwi_keeps {s0 : State} {s : State} {a1 : ℕ} {a2 : ℕ} (h : Keeps s0 s) :
    Keeps s0 (State.setRwi s a1 a2) := by
  unfold State.setRwi
  repeat' first
    | with_reducible assumption
    | with_reducible apply State.wr2_keeps
    | with_reducible refine foldEach_keeps (fun a t k => ?_) _ ?_

theorem State.setStage_keeps {s0 : State} {s : State} {a1 : StageRec} {a2 : ℕ} (h : Keeps s0 s) :
    Keeps s0 (State.setStage s a1 a2) := by
  unfold State.setStage
  repeat' first
    | with_reducible assumption
    | with_reducible apply State.wr_keeps

theorem State.clearRwi_keeps {s0 : State} {s : State} (h : Keeps s0 s) :
    Keeps s0 (State.clearRwi s) := by
  unfold State.clearRwi
  repeat' first
    | with_reducible assumption
    | with_reducible apply State.resetFields_keeps

theorem State.setSafety_keeps {s0 : State} {s : State} {a1 : List ℕ} {a2 : ℕ} (h : Keeps s0 s) :
    Keeps s0 (State.setSafety s a1 a2) := by
  unfold State.setSafety
  repeat' first
    | with_reducible assumption
    | with_reducible apply State.wr2_keeps
    | with_reducible apply State.wr_keeps
    | with_reducible refine foldEach_keeps (fun a t k => ?_) _ ?_

theorem State.setSections_keeps {s0 : State} {s : State} {a1 : Image} (h : Keeps s0 s) :
    Keeps s0 (State.setSections s a1) := by
  unfold State.setSections
  repeat' first
    | with_reducible assumption
    | with_reducible apply State.setStage_keeps
    | with_reducible apply State.clearRwi_keeps
    | with_reducible apply State.setSafety_keeps
    | with_reducible refine foldEach_keeps (fun a t k => ?_) _ ?_

theorem State.setImageFields_keeps {s0 : State} {s : State} {a1 : Image} (h : Keeps s0 s) :
    Keeps s0 (State.setImageFields s a1) := by
  unfold State.setImageFields
  repeat' first
    | with_reducible assumption
    | with_reducible apply State.setRwi_keeps
    | with_reducible apply State.setSections_keeps
    | with_reducible refine foldEach_keeps (fun a t k => ?_) _ ?_

theorem State.isoCalStep_keeps {s0 : State} {s : State} {a1 : ℕ} {a2 : ℤ} (h : Keeps s0 s) :
    Keeps s0 (State.isoCalStep s a1 a2) := by
  unfold State.isoCalStep
  repeat' first
    | with_reducible assumption
    | with_reducible apply State.setIso_keeps

theorem State.isoEmit_keeps {s0 : State} {s : State} {a1 : ℕ} {a2 : List Bool} (h : Keeps s0 s) :
    Keeps s0 (State.isoEmit s a1 a2) := by
  unfold State.isoEmit
  repeat' first
    | with_reducible assumption
    | with_reducible apply State.setIso_keeps
    | with_reducible refine State.onlyIf_keeps ?_ (fun x_ k => ?_)
    | with_reducible apply State.isoCalStep_keeps
    | with_reducible apply State.wrI_keeps
    | with_reducible apply State.srcWord_keeps
    | with_reducible apply State.wr_keeps
    | with_reducible apply State.bump_keeps
    | with_reducible apply State.flag_keeps
    | with_reducible apply State.sendLink_keeps
    | with_reducible apply keeps_ite

theorem State.storeIsoTrims_keeps {s0 : State} {s : State} {a1 : ℕ} (h : Keeps s0 s) :
    Keeps s0 (State.storeIsoTrims s a1) := by
  unfold State.storeIsoTrims
  repeat' first
    | with_reducible assumption
    | with_reducible apply State.setWord_keeps

theorem State.isoCount_keeps {s0 : State} {s : State} {a1 : ℕ} {a2 : ℕ} (h : Keeps s0 s) :
    Keeps s0 (State.isoCount s a1 a2) := by
  unfold State.isoCount
  repeat' first
    | with_reducible assumption
    | with_reducible apply State.setIso_keeps

theorem State.isoCalEnd_keeps {s0 : State} {s : State} {a1 : ℕ} (h : Keeps s0 s) :
    Keeps s0 (State.isoCalEnd s a1) := by
  unfold State.isoCalEnd
  repeat' first
    | with_reducible assumption
    | with_reducible apply State.isoCount_keeps
    | with_reducible apply State.wr_keeps
    | with_reducible refine State.onlyIf_keeps ?_ (fun x_ k => ?_)

theorem State.isoAbandon_keeps {s0 : State} {s : State} {a1 : ℕ} (h : Keeps s0 s) :
    Keeps s0 (State.isoAbandon s a1) := by
  unfold State.isoAbandon
  repeat' first
    | with_reducible assumption
    | with_reducible apply State.wr_keeps
    | with_reducible apply State.flag_keeps
    | with_reducible apply State.isoCalEnd_keeps
    | with_reducible apply keeps_ite

theorem State.loadIsoTrims_keeps {s0 : State} {s : State} {a1 : ℕ} (h : Keeps s0 s) :
    Keeps s0 (State.loadIsoTrims s a1) := by
  unfold State.loadIsoTrims
  repeat' first
    | with_reducible assumption
    | with_reducible apply State.wr_keeps

theorem State.isoRestart_keeps {s0 : State} {s : State} {a1 : ℕ} (h : Keeps s0 s) :
    Keeps s0 (State.isoRestart s a1) := by
  unfold State.isoRestart
  repeat' first
    | with_reducible assumption
    | with_reducible apply State.isoCount_keeps

theorem State.isoResetEnd_keeps {s0 : State} {s : State} (h : Keeps s0 s) :
    Keeps s0 (State.isoResetEnd s) := by
  unfold State.isoResetEnd
  repeat' first
    | with_reducible assumption
    | with_reducible apply State.isoRestart_keeps
    | with_reducible refine foldEach_keeps (fun a t k => ?_) _ ?_

theorem State.isoAlign_keeps {s0 : State} {s : State} {a1 : ℕ} (h : Keeps s0 s) :
    Keeps s0 (State.isoAlign s a1) := by
  unfold State.isoAlign
  repeat' first
    | with_reducible assumption
    | with_reducible apply State.isoCount_keeps
    | with_reducible refine foldEach_keeps (fun a t k => ?_) _ ?_
    | with_reducible apply keeps_ite

theorem State.isoStart_keeps {s0 : State} {s : State} {a1 : ℕ} (h : Keeps s0 s) :
    Keeps s0 (State.isoStart s a1) := by
  unfold State.isoStart
  repeat' first
    | with_reducible assumption
    | with_reducible apply State.flag_keeps
    | with_reducible apply State.isoRestart_keeps
    | with_reducible apply keeps_ite

theorem State.showIsoDead_keeps {s0 : State} {s : State} (h : Keeps s0 s) :
    Keeps s0 (State.showIsoDead s) := by
  unfold State.showIsoDead
  repeat' first
    | with_reducible assumption
    | with_reducible refine State.onlyIf_keeps ?_ (fun x_ k => ?_)
    | with_reducible apply State.wr_keeps
    | with_reducible refine foldEach_keeps (fun a t k => ?_) _ ?_

end Sys2Proof.Machine
end

