-- ==== Sys2Proof/Laws/KeepsOpsB.lean ====
section
/-! SUPPORT. Every shared operation keeps what `Keeps` names: part 2 of 4, in the order in which the operations build on one another. -/

namespace Sys2Proof.Machine

theorem State.isoSetEn_keeps {s0 : State} {s : State} {a1 : ℕ} {a2 : Bool} (h : Keeps s0 s) :
    Keeps s0 (State.isoSetEn s a1 a2) := by
  unfold State.isoSetEn
  repeat' first
    | with_reducible assumption
    | with_reducible refine State.claimAll_keeps ?_ (fun x_ k => ?_) (fun x_ k => ?_)
    | with_reducible apply State.isoStart_keeps
    | with_reducible apply State.flag_keeps
    | with_reducible apply State.releaseClaims_keeps
    | with_reducible apply State.wr_keeps
    | with_reducible apply keeps_ite

theorem State.isoCalStart_keeps {s0 : State} {s : State} {a1 : ℕ} (h : Keeps s0 s) :
    Keeps s0 (State.isoCalStart s a1) := by
  unfold State.isoCalStart
  repeat' first
    | with_reducible assumption
    | with_reducible apply State.flag_keeps
    | with_reducible apply State.isoCount_keeps
    | with_reducible apply State.wr_keeps
    | with_reducible apply State.setIso_keeps
    | with_reducible apply keeps_ite

theorem State.markSat_keeps {s0 : State} {s : State} {a1 : ℕ} (h : Keeps s0 s) :
    Keeps s0 (State.markSat s a1) := by
  unfold State.markSat
  repeat' first
    | with_reducible assumption
    | with_reducible apply State.flag_keeps
    | with_reducible apply State.flag2_keeps
    | fail_if_no_progress beta_reduce
    | split

theorem State.putAcc_keeps {s0 : State} {s : State} {a1 : ℕ} {a2 : ℕ} {a3 : ℤ} (h : Keeps s0 s) :
    Keeps s0 (State.putAcc s a1 a2 a3) := by
  unfold State.putAcc
  repeat' first
    | with_reducible assumption
    | with_reducible refine State.onlyIf_keeps ?_ (fun x_ k => ?_)
    | with_reducible apply State.setLu_keeps
    | with_reducible apply State.markSat_keeps

theorem State.luStop_keeps {s0 : State} {s : State} {a1 : ℕ} {a2 : FD} (h : Keeps s0 s) :
    Keeps s0 (State.luStop s a1 a2) := by
  unfold State.luStop
  repeat' first
    | with_reducible assumption
    | with_reducible apply State.setLu_keeps
    | with_reducible apply State.wr2_keeps
    | with_reducible apply State.unitFault_keeps
    | with_reducible apply State.flag_keeps
    | with_reducible apply State.wr_keeps
    | with_reducible refine foldEach_keeps (fun a t k => ?_) _ ?_

theorem State.luEcc_keeps {s0 : State} {s : State} {a1 : ℕ} {a2 : ℕ} (h : Keeps s0 s) :
    Keeps s0 (State.luEcc s a1 a2) := by
  unfold State.luEcc
  repeat' first
    | with_reducible assumption
    | with_reducible apply State.luStop_keeps
    | with_reducible apply State.eccMet_keeps

theorem State.cedRun_keeps {s0 : State} {s : State} {a1 : ℕ} {a2 : ℕ → Bool} {a3 : ℕ → State → State} (h : Keeps s0 s) (h3 : ∀ p0 t, Keeps s0 t → Keeps s0 (a3 p0 t)) :
    Keeps s0 (State.cedRun s a1 a2 a3) := by
  unfold State.cedRun
  repeat' first
    | with_reducible assumption
    | with_reducible refine h3 _ _ ?_
    | with_reducible apply State.luEcc_keeps
    | with_reducible apply State.setLu_keeps
    | with_reducible refine State.onlyIf_keeps ?_ (fun x_ k => ?_)
    | with_reducible apply State.flag2_keeps
    | with_reducible apply keeps_ite
    | lift_lets -underBinder; intro x; try clear_value x
    | fail_if_no_progress beta_reduce
    | split

theorem State.putD_keeps {s0 : State} {s : State} {a1 : ℕ} {a2 : ℕ} {a3 : ℕ} (h : Keeps s0 s) :
    Keeps s0 (State.putD s a1 a2 a3) := by
  unfold State.putD
  repeat' first
    | with_reducible assumption
    | with_reducible apply State.setLu_keeps

theorem State.putSat_keeps {s0 : State} {s : State} {a1 : ℕ} {a2 : ℕ} {a3 : ℤ} (h : Keeps s0 s) :
    Keeps s0 (State.putSat s a1 a2 a3) := by
  unfold State.putSat
  repeat' first
    | with_reducible assumption
    | with_reducible refine State.onlyIf_keeps ?_ (fun x_ k => ?_)
    | with_reducible apply State.putD_keeps
    | with_reducible apply State.markSat_keeps

theorem State.cedSat2_keeps {s0 : State} {s : State} {a1 : ℕ} {a2 : ℕ} {a3 : ℕ → ℤ → ℤ → ℤ} (h : Keeps s0 s) :
    Keeps s0 (State.cedSat2 s a1 a2 a3) := by
  unfold State.cedSat2
  repeat' first
    | with_reducible assumption
    | with_reducible refine State.cedRun_keeps ?_ (fun x_ x_ k => ?_)
    | with_reducible apply State.putSat_keeps

theorem State.fillSlot_keeps {s0 : State} {s : State} {a1 : ℕ} {a2 : ℕ} {a3 : LinkWord} (h : Keeps s0 s) :
    Keeps s0 (State.fillSlot s a1 a2 a3) := by
  unfold State.fillSlot
  repeat' first
    | with_reducible assumption
    | with_reducible refine State.onlyIf_keeps ?_ (fun x_ k => ?_)
    | with_reducible apply State.flag2_keeps
    | with_reducible apply State.wr2_keeps
    | with_reducible refine foldEach_keeps (fun a t k => ?_) _ ?_

theorem State.lpMiss_keeps {s0 : State} {s : State} {a1 : ℕ} {a2 : ℕ} (h : Keeps s0 s) :
    Keeps s0 (State.lpMiss s a1 a2) := by
  unfold State.lpMiss
  repeat' first
    | with_reducible assumption
    | with_reducible apply State.wr2_keeps
    | with_reducible apply State.flag2_keeps

theorem State.lpArrive_keeps {s0 : State} {s : State} {a1 : ℕ} {a2 : ℕ} (h : Keeps s0 s) :
    Keeps s0 (State.lpArrive s a1 a2) := by
  unfold State.lpArrive
  repeat' first
    | with_reducible assumption
    | with_reducible apply State.lpMiss_keeps
    | with_reducible apply State.flag2_keeps
    | with_reducible apply State.setLu_keeps
    | with_reducible apply keeps_ite

theorem State.clearFresh_keeps {s0 : State} {s : State} {a1 : ℕ} {a2 : ℕ} (h : Keeps s0 s) :
    Keeps s0 (State.clearFresh s a1 a2) := by
  unfold State.clearFresh
  repeat' first
    | with_reducible assumption
    | with_reducible apply State.wr2_keeps
    | with_reducible refine foldEach_keeps (fun a t k => ?_) _ ?_

theorem State.lpRoute_keeps {s0 : State} {s : State} {a1 : ℕ} {a2 : ℕ} (h : Keeps s0 s) :
    Keeps s0 (State.lpRoute s a1 a2) := by
  unfold State.lpRoute
  repeat' first
    | with_reducible assumption
    | with_reducible apply State.lpArrive_keeps
    | with_reducible apply State.lpMiss_keeps
    | with_reducible apply State.clearFresh_keeps
    | with_reducible apply State.setLu_keeps
    | with_reducible apply keeps_ite
    | fail_if_no_progress beta_reduce
    | split

theorem State.clearBlk_keeps {s0 : State} {s : State} {a1 : ℕ} {a2 : ℕ} (h : Keeps s0 s) :
    Keeps s0 (State.clearBlk s a1 a2) := by
  unfold State.clearBlk
  repeat' first
    | with_reducible assumption
    | with_reducible apply State.wr2_keeps

theorem State.clearDue_keeps {s0 : State} {s : State} {a1 : ℕ} {a2 : ℕ} (h : Keeps s0 s) :
    Keeps s0 (State.clearDue s a1 a2) := by
  unfold State.clearDue
  repeat' first
    | with_reducible assumption
    | with_reducible apply State.clearBlk_keeps
    | with_reducible apply State.setLu_keeps
    | with_reducible refine foldEach_keeps (fun a t k => ?_) _ ?_
    | with_reducible apply keeps_ite

theorem State.blkEnd_keeps {s0 : State} {s : State} {a1 : ℕ} {a2 : ℕ} {a3 : ℕ} {a4 : ℤ} {a5 : Bool} {a6 : Bool} (h : Keeps s0 s) :
    Keeps s0 (State.blkEnd s a1 a2 a3 a4 a5 a6) := by
  unfold State.blkEnd
  repeat' first
    | with_reducible assumption
    | with_reducible apply State.putSat_keeps
    | with_reducible refine State.onlyIf_keeps ?_ (fun x_ k => ?_)
    | with_reducible apply State.flag2_keeps
    | with_reducible apply State.markSat_keeps

theorem State.blkPI_keeps {s0 : State} {s : State} {a1 : ℕ} {a2 : ℕ} {a3 : ℕ} {a4 : ℤ} (h : Keeps s0 s) :
    Keeps s0 (State.blkPI s a1 a2 a3 a4) := by
  unfold State.blkPI
  repeat' first
    | with_reducible assumption
    | with_reducible apply State.blkEnd_keeps
    | with_reducible apply State.wr2_keeps

theorem State.latchRun_keeps {s0 : State} {s : State} {a1 : ℕ} {a2 : ℕ} (h : Keeps s0 s) :
    Keeps s0 (State.latchRun s a1 a2) := by
  unfold State.latchRun
  repeat' first
    | with_reducible assumption
    | with_reducible apply State.setLu_keeps

theorem State.swapBank_keeps {s0 : State} {s : State} {a1 : ℕ} (h : Keeps s0 s) :
    Keeps s0 (State.swapBank s a1) := by
  unfold State.swapBank
  repeat' first
    | with_reducible assumption
    | with_reducible apply State.wr_keeps
    | with_reducible apply keeps_ite

theorem State.lpBegin_keeps {s0 : State} {s : State} {a1 : ℕ} (h : Keeps s0 s) :
    Keeps s0 (State.lpBegin s a1) := by
  unfold State.lpBegin
  repeat' first
    | with_reducible assumption
    | with_reducible apply State.wr2_keeps
    | with_reducible apply State.setLu_keeps
    | with_reducible apply State.flag_keeps
    | with_reducible apply State.wr_keeps
    | with_reducible apply State.latchRun_keeps
    | with_reducible apply State.clearDue_keeps
    | with_reducible apply State.swapBank_keeps
    | fail_if_no_progress beta_reduce
    | split

theorem State.bounds_keeps {s0 : State} {s : State} {a1 : ℕ} (h : Keeps s0 s) :
    Keeps s0 (State.bounds s a1) := by
  unfold State.bounds
  repeat' first
    | with_reducible assumption
    | with_reducible apply State.wr2_keeps
    | with_reducible refine foldEach_keeps (fun a t k => ?_) _ ?_

theorem State.lpPass_keeps {s0 : State} {s : State} {a1 : ℕ} {a2 : ℕ} (h : Keeps s0 s) :
    Keeps s0 (State.lpPass s a1 a2) := by
  unfold State.lpPass
  repeat' first
    | with_reducible assumption
    | with_reducible apply State.setLu_keeps
    | with_reducible apply State.wr2_keeps
    | with_reducible apply State.flag2_keeps
    | with_reducible apply State.bounds_keeps
    | with_reducible refine foldEach_keeps (fun a t k => ?_) _ ?_

theorem State.blkPR_keeps {s0 : State} {s : State} {a1 : ℕ} {a2 : ℕ} {a3 : ℕ} {a4 : ℤ} (h : Keeps s0 s) :
    Keeps s0 (State.blkPR s a1 a2 a3 a4) := by
  unfold State.blkPR
  repeat' first
    | with_reducible assumption
    | with_reducible apply State.wr2_keeps
    | with_reducible apply State.blkEnd_keeps
    | with_reducible apply keeps_ite

theorem State.landWrl_keeps {s0 : State} {s : State} {a1 : ℕ} {a2 : StagedWr} (h : Keeps s0 s) :
    Keeps s0 (State.landWrl s a1 a2) := by
  unfold State.landWrl
  repeat' first
    | with_reducible assumption
    | with_reducible apply State.writeCmp_keeps
    | with_reducible apply State.wr_keeps
    | with_reducible apply State.noteFields_keeps
    | with_reducible apply keeps_ite
    | fail_if_no_progress beta_reduce
    | split

theorem State.stageWrl_keeps {s0 : State} {s : State} {a1 : ℕ} {a2 : ℕ} {a3 : ℕ} {a4 : ℤ} (h : Keeps s0 s) :
    Keeps s0 (State.stageWrl s a1 a2 a3 a4) := by
  unfold State.stageWrl
  repeat' first
    | with_reducible assumption
    | intro x; try clear_value x
    | with_reducible refine State.onlyIf_keeps ?_ (fun x_ k => ?_)
    | with_reducible apply State.markSat_keeps
    | with_reducible apply State.flag_keeps
    | with_reducible apply State.setLu_keeps
    | with_reducible apply keeps_ite
    | lift_lets -underBinder; intro x; refine keeps_cut (s0 := s0) x ?_ ?_; (on_goal 2 => clear_value x); (on_goal 1 => subst x)
    | fail_if_no_progress beta_reduce
    | split

theorem State.captureWrl_keeps {s0 : State} {s : State} {a1 : ℕ} (h : Keeps s0 s) :
    Keeps s0 (State.captureWrl s a1) := by
  unfold State.captureWrl
  repeat' first
    | with_reducible assumption
    | with_reducible apply State.landWrl_keeps
    | with_reducible apply State.setLu_keeps
    | with_reducible refine foldEach_keeps (fun a t k => ?_) _ ?_
    | with_reducible apply keeps_ite
    | lift_lets -underBinder; intro x; try clear_value x
    | fail_if_no_progress beta_reduce
    | split

theorem State.lpRefuse_keeps {s0 : State} {s : State} {a1 : ℕ} {a2 : ℕ} {a3 : ℕ} (h : Keeps s0 s) :
    Keeps s0 (State.lpRefuse s a1 a2 a3) := by
  unfold State.lpRefuse
  repeat' first
    | with_reducible assumption
    | with_reducible apply State.wr2_keeps
    | with_reducible apply State.flag2_keeps
    | with_reducible apply State.luEcc_keeps
    | with_reducible apply keeps_ite

theorem State.lpValidated_keeps {s0 : State} {s : State} {a1 : ℕ} (h : Keeps s0 s) :
    Keeps s0 (State.lpValidated s a1) := by
  unfold State.lpValidated
  repeat' first
    | with_reducible assumption
    | with_reducible apply State.wr2_keeps
    | with_reducible apply State.setLu_keeps
    | with_reducible apply State.lpPass_keeps
    | with_reducible apply State.lpRefuse_keeps
    | with_reducible apply keeps_ite
    | fail_if_no_progress beta_reduce
    | split

theorem State.lpSet_keeps {s0 : State} {s : State} {a1 : ℕ} {a2 : ℕ} (h : Keeps s0 s) :
    Keeps s0 (State.lpSet s a1 a2) := by
  unfold State.lpSet
  repeat' first
    | with_reducible assumption
    | with_reducible apply State.lpArrive_keeps
    | with_reducible apply State.setLu_keeps
    | with_reducible apply State.clearFresh_keeps

theorem State.putP_keeps {s0 : State} {s : State} {a1 : ℕ} {a2 : Bool} (h : Keeps s0 s) :
    Keeps s0 (State.putP s a1 a2) := by
  unfold State.putP
  repeat' first
    | with_reducible assumption
    | with_reducible apply State.setLu_keeps

theorem State.swapIdle_keeps {s0 : State} {s : State} {a1 : ℕ} (h : Keeps s0 s) :
    Keeps s0 (State.swapIdle s a1) := by
  unfold State.swapIdle
  repeat' first
    | with_reducible assumption
    | with_reducible apply State.swapBank_keeps
    | with_reducible apply keeps_ite

theorem State.lpEnd_keeps {s0 : State} {s : State} {a1 : ℕ} (h : Keeps s0 s) :
    Keeps s0 (State.lpEnd s a1) := by
  unfold State.lpEnd
  repeat' first
    | with_reducible assumption
    | with_reducible apply State.setLu_keeps
    | with_reducible apply State.swapIdle_keeps
    | with_reducible apply State.wr_keeps

theorem State.fillUnit_keeps {s0 : State} {s : State} {a1 : ℕ} {a2 : LinkWord} (h : Keeps s0 s) :
    Keeps s0 (State.fillUnit s a1 a2) := by
  unfold State.fillUnit
  repeat' first
    | with_reducible assumption
    | with_reducible apply State.fillSlot_keeps
    | with_reducible apply State.lpSet_keeps
    | with_reducible refine foldEach_keeps (fun a t k => ?_) _ ?_

theorem State.putDuty_keeps {s0 : State} {s : State} {a1 : ℕ} {a2 : ℕ} {a3 : ℤ} (h : Keeps s0 s) :
    Keeps s0 (State.putDuty s a1 a2 a3) := by
  unfold State.putDuty
  repeat' first
    | with_reducible assumption
    | with_reducible refine State.onlyIf_keeps ?_ (fun x_ k => ?_)
    | with_reducible apply State.putD_keeps
    | with_reducible apply State.markSat_keeps

theorem State.swapReq_keeps {s0 : State} {s : State} {a1 : ℕ} (h : Keeps s0 s) :
    Keeps s0 (State.swapReq s a1) := by
  unfold State.swapReq
  repeat' first
    | with_reducible assumption
    | with_reducible apply State.swapIdle_keeps
    | with_reducible apply State.flag_keeps
    | with_reducible apply keeps_ite

theorem State.lpEnable_keeps {s0 : State} {s : State} {a1 : ℕ} {a2 : ℕ} (h : Keeps s0 s) :
    Keeps s0 (State.lpEnable s a1 a2) := by
  unfold State.lpEnable
  repeat' first
    | with_reducible assumption
    | with_reducible apply State.flag2_keeps
    | with_reducible apply State.setLu_keeps
    | with_reducible apply keeps_ite

theorem State.lpDisable_keeps {s0 : State} {s : State} {a1 : ℕ} {a2 : ℕ} (h : Keeps s0 s) :
    Keeps s0 (State.lpDisable s a1 a2) := by
  unfold State.lpDisable
  repeat' first
    | with_reducible assumption
    | with_reducible apply State.wr2_keeps
    | with_reducible apply State.setLu_keeps
    | with_reducible apply State.swapIdle_keeps
    | with_reducible apply State.bounds_keeps
    | with_reducible refine foldEach_keeps (fun a t k => ?_) _ ?_
    | with_reducible apply keeps_ite

theorem State.clrReq_keeps {s0 : State} {s : State} {a1 : ℕ} {a2 : ℕ} (h : Keeps s0 s) :
    Keeps s0 (State.clrReq s a1 a2) := by
  unfold State.clrReq
  repeat' first
    | with_reducible assumption
    | with_reducible apply State.flag2_keeps
    | with_reducible apply State.clearBlk_keeps
    | with_reducible apply keeps_ite

theorem State.tblMet_keeps {s0 : State} {s : State} {a1 : ℕ} (h : Keeps s0 s) :
    Keeps s0 (State.tblMet s a1) := by
  unfold State.tblMet
  repeat' first
    | with_reducible assumption
    | with_reducible apply State.logEv_keeps
    | with_reducible apply State.eccCount_keeps

theorem State.fcTblFault_keeps {s0 : State} {s : State} {a1 : ℕ} {a2 : ℕ} (h : Keeps s0 s) :
    Keeps s0 (State.fcTblFault s a1 a2) := by
  unfold State.fcTblFault
  repeat' first
    | with_reducible assumption
    | with_reducible apply State.flag_keeps
    | with_reducible apply State.fcAbort_keeps
    | with_reducible apply State.nodeRise_keeps
    | with_reducible apply State.tblMet_keeps

theorem State.tblLookup_keeps {s0 : State} {s : State} {a1 : ℕ} {a2 : List ℕ} {a3 : State → State} (h : Keeps s0 s) (h3 : ∀ t, Keeps s0 t → Keeps s0 (a3 t)) :
    Keeps s0 (State.tblLookup s a1 a2 a3) := by
  unfold State.tblLookup
  repeat' first
    | with_reducible assumption
    | with_reducible refine h3 _ ?_
    | with_reducible apply State.fcTblFault_keeps
    | fail_if_no_progress beta_reduce
    | split

theorem State.fcDeliver_keeps {s0 : State} {s : State} {a1 : ℕ} (h : Keeps s0 s) :
    Keeps s0 (State.fcDeliver s a1) := by
  unfold State.fcDeliver
  repeat' first
    | with_reducible assumption
    | with_reducible apply State.wr_keeps
    | with_reducible apply State.setFc_keeps
    | with_reducible refine State.tblLookup_keeps ?_ (fun x_ k => ?_)
    | with_reducible apply State.wrI_keeps
    | with_reducible apply keeps_ite

theorem State.fcRefuse_keeps {s0 : State} {s : State} {a1 : ℕ} {a2 : ℕ} (h : Keeps s0 s) :
    Keeps s0 (State.fcRefuse s a1 a2) := by
  unfold State.fcRefuse
  repeat' first
    | with_reducible assumption
    | with_reducible apply State.wr_keeps
    | with_reducible apply State.flag_keeps

theorem State.tblNext_keeps {s0 : State} {s : State} (h : Keeps s0 s) :
    Keeps s0 (State.tblNext s) := by
  unfold State.tblNext
  repeat' first
    | with_reducible assumption
    | with_reducible apply State.wr_keeps
    | with_reducible apply keeps_ite

theorem State.showProbe_keeps {s0 : State} {s : State} {a1 : ℕ} {a2 : ℤ} {a3 : ℤ} (h : Keeps s0 s) :
    Keeps s0 (State.showProbe s a1 a2 a3) := by
  unfold State.showProbe
  repeat' first
    | with_reducible assumption
    | with_reducible apply State.wr_keeps

theorem State.writeRefs_keeps {s0 : State} {s : State} {a1 : ℕ} (h : Keeps s0 s) :
    Keeps s0 (State.writeRefs s a1) := by
  unfold State.writeRefs
  repeat' first
    | with_reducible assumption
    | with_reducible refine State.tblLookup_keeps ?_ (fun x_ k => ?_)
    | with_reducible apply State.sendRefs_keeps

theorem State.fcAlign_keeps {s0 : State} {s : State} {a1 : ℕ} (h : Keeps s0 s) :
    Keeps s0 (State.fcAlign s a1) := by
  unfold State.fcAlign
  repeat' first
    | with_reducible assumption
    | with_reducible apply State.writeRefs_keeps
    | with_reducible apply State.wr_keeps
    | with_reducible apply State.setFc_keeps

theorem State.fcHeld_keeps {s0 : State} {s : State} {a1 : ℕ} {a2 : ℕ} (h : Keeps s0 s) :
    Keeps s0 (State.fcHeld s a1 a2) := by
  unfold State.fcHeld
  repeat' first
    | with_reducible assumption
    | with_reducible apply State.writeRefs_keeps
    | with_reducible apply State.wr_keeps
    | with_reducible apply State.fcHoldOff_keeps
    | with_reducible apply State.setFc_keeps

theorem State.fcFail_keeps {s0 : State} {s : State} {a1 : ℕ} {a2 : ℕ} (h : Keeps s0 s) :
    Keeps s0 (State.fcFail s a1 a2) := by
  unfold State.fcFail
  repeat' first
    | with_reducible assumption
    | with_reducible apply State.fcHeld_keeps
    | with_reducible apply State.wr_keeps

theorem State.readDir_keeps {s0 : State} {s : State} {a1 : ℕ} (h : Keeps s0 s) :
    Keeps s0 (State.readDir s a1) := by
  unfold State.readDir
  repeat' first
    | with_reducible assumption
    | with_reducible apply State.setFc_keeps

theorem State.fcRamp_keeps {s0 : State} {s : State} {a1 : ℕ} (h : Keeps s0 s) :
    Keeps s0 (State.fcRamp s a1) := by
  unfold State.fcRamp
  repeat' first
    | with_reducible assumption
    | with_reducible apply State.readDir_keeps
    | with_reducible apply State.writeRefs_keeps
    | with_reducible apply State.wr_keeps
    | with_reducible apply State.setFc_keeps

theorem State.fcCatch_keeps {s0 : State} {s : State} {a1 : ℕ} (h : Keeps s0 s) :
    Keeps s0 (State.fcCatch s a1) := by
  unfold State.fcCatch
  repeat' first
    | with_reducible assumption
    | with_reducible apply State.wr_keeps
    | with_reducible apply State.wrI_keeps
    | with_reducible apply State.flag_keeps
    | with_reducible apply State.fcHeld_keeps
    | with_reducible apply State.setFc_keeps
    | with_reducible apply State.writeRefs_keeps
    | with_reducible apply State.fcRamp_keeps
    | with_reducible apply keeps_ite

theorem State.fcTaken_keeps {s0 : State} {s : State} {a1 : ℕ} {a2 : ℤ} {a3 : ℤ} (h : Keeps s0 s) :
    Keeps s0 (State.fcTaken s a1 a2 a3) := by
  unfold State.fcTaken
  repeat' first
    | with_reducible assumption
    | with_reducible apply State.showProbe_keeps
    | with_reducible apply State.setFc_keeps
    | with_reducible apply State.fcAlign_keeps
    | with_reducible apply State.fcFail_keeps
    | with_reducible apply State.fcCatch_keeps
    | with_reducible apply keeps_ite

theorem State.fcFilled_keeps {s0 : State} {s : State} {a1 : ℕ} {a2 : ℕ} (h : Keeps s0 s) :
    Keeps s0 (State.fcFilled s a1 a2) := by
  unfold State.fcFilled
  repeat' first
    | with_reducible assumption
    | intro x; refine keeps_cut (s0 := s0) x ?_ ?_; (on_goal 2 => clear_value x); (on_goal 1 => subst x)
    | intro x; try clear_value x
    | with_reducible apply State.setFc_keeps
    | with_reducible apply State.fcTaken_keeps
    | with_reducible apply keeps_ite
    | lift_lets -underBinder; intro x; try clear_value x
    | fail_if_no_progress beta_reduce
    | split

theorem State.fcStop_keeps {s0 : State} {s : State} {a1 : ℕ} (h : Keeps s0 s) :
    Keeps s0 (State.fcStop s a1) := by
  unfold State.fcStop
  repeat' first
    | with_reducible assumption
    | with_reducible apply State.fcEnterHold_keeps
    | with_reducible apply keeps_ite

theorem State.offsStore_keeps {s0 : State} {s : State} {a1 : ℕ} (h : Keeps s0 s) :
    Keeps s0 (State.offsStore s a1) := by
  unfold State.offsStore
  repeat' first
    | with_reducible assumption
    | with_reducible apply State.setWord_keeps

theorem State.fcRun_keeps {s0 : State} {s : State} {a1 : ℕ} (h : Keeps s0 s) :
    Keeps s0 (State.fcRun s a1) := by
  unfold State.fcRun
  repeat' first
    | with_reducible assumption
    | with_reducible apply State.writeRefs_keeps
    | with_reducible apply State.wr_keeps
    | with_reducible apply State.setFc_keeps

theorem State.fcHandover_keeps {s0 : State} {s : State} {a1 : ℕ} (h : Keeps s0 s) :
    Keeps s0 (State.fcHandover s a1) := by
  unfold State.fcHandover
  repeat' first
    | with_reducible assumption
    | with_reducible apply State.flag_keeps
    | with_reducible apply State.setFc_keeps
    | with_reducible apply State.fcRun_keeps
    | with_reducible refine State.onlyIf_keeps ?_ (fun x_ k => ?_)
    | with_reducible apply State.wr_keeps

theorem State.fcCatchSensor_keeps {s0 : State} {s : State} {a1 : ℕ} (h : Keeps s0 s) :
    Keeps s0 (State.fcCatchSensor s a1) := by
  unfold State.fcCatchSensor
  repeat' first
    | with_reducible assumption
    | with_reducible apply State.setFc_keeps
    | with_reducible apply State.wr_keeps
    | with_reducible apply State.fcRun_keeps

theorem State.landRefs_keeps {s0 : State} {s : State} {a1 : ℕ} {a2 : ℤ} {a3 : ℤ} (h : Keeps s0 s) :
    Keeps s0 (State.landRefs s a1 a2 a3) := by
  unfold State.landRefs
  repeat' first
    | with_reducible assumption
    | with_reducible apply State.wrI_keeps
    | with_reducible apply State.wr2_keeps
    | with_reducible apply keeps_ite

theorem State.fcObserve_keeps {s0 : State} {s : State} {a1 : ℕ} (h : Keeps s0 s) :
    Keeps s0 (State.fcObserve s a1) := by
  unfold State.fcObserve
  repeat' first
    | with_reducible assumption
    | with_reducible apply State.wr_keeps
    | with_reducible apply State.setFc_keeps
    | with_reducible apply State.setLu_keeps
    | with_reducible refine State.onlyIf_keeps ?_ (fun x_ k => ?_)
    | with_reducible apply State.flag_keeps
    | with_reducible apply keeps_ite

theorem State.fcReleaseHold_keeps {s0 : State} {s : State} {a1 : ℕ} (h : Keeps s0 s) :
    Keeps s0 (State.fcReleaseHold s a1) := by
  unfold State.fcReleaseHold
  repeat' first
    | with_reducible assumption
    | with_reducible apply State.setFc_keeps
    | with_reducible apply State.restartLeg_keeps
    | with_reducible apply State.flag2_keeps
    | with_reducible refine foldEach_keeps (fun a t k => ?_) _ ?_
    | with_reducible apply keeps_ite

theorem State.fcAgree_keeps {s0 : State} {s : State} {a1 : ℕ} (h : Keeps s0 s) :
    Keeps s0 (State.fcAgree s a1) := by
  unfold State.fcAgree
  repeat' first
    | with_reducible assumption
    | with_reducible apply State.setFc_keeps
    | with_reducible apply State.fcHandover_keeps
    | with_reducible apply keeps_ite

theorem State.startPulse_keeps {s0 : State} {s : State} {a1 : ℕ} {a2 : ℕ} {a3 : ℕ} (h : Keeps s0 s) :
    Keeps s0 (State.startPulse s a1 a2 a3) := by
  unfold State.startPulse
  repeat' first
    | with_reducible assumption
    | with_reducible apply State.setFc_keeps

theorem State.fcPulse_keeps {s0 : State} {s : State} {a1 : ℕ} (h : Keeps s0 s) :
    Keeps s0 (State.fcPulse s a1) := by
  unfold State.fcPulse
  repeat' first
    | with_reducible assumption
    | with_reducible apply State.fcFail_keeps
    | with_reducible apply State.startPulse_keeps
    | with_reducible apply keeps_ite

theorem State.fcTorque_keeps {s0 : State} {s : State} {a1 : ℕ} (h : Keeps s0 s) :
    Keeps s0 (State.fcTorque s a1) := by
  unfold State.fcTorque
  repeat' first
    | with_reducible assumption
    | with_reducible apply State.setFc_keeps

theorem State.driveLegs_keeps {s0 : State} {s : State} {a1 : ℕ} (h : Keeps s0 s) :
    Keeps s0 (State.driveLegs s a1) := by
  unfold State.driveLegs
  repeat' first
    | with_reducible assumption
    | with_reducible refine State.tblLookup_keeps ?_ (fun x_ k => ?_)
    | with_reducible apply State.setFc_keeps

theorem State.fcBoundary_keeps {s0 : State} {s : State} {a1 : ℕ} (h : Keeps s0 s) :
    Keeps s0 (State.fcBoundary s a1) := by
  unfold State.fcBoundary
  repeat' first
    | with_reducible assumption
    | with_reducible apply State.setFc_keeps
    | with_reducible apply State.fcObserve_keeps
    | with_reducible refine State.onlyIf_keeps ?_ (fun x_ k => ?_)
    | with_reducible apply State.fcReleaseHold_keeps
    | with_reducible apply State.writeRefs_keeps
    | with_reducible apply State.fcAgree_keeps
    | with_reducible apply State.fcPulse_keeps
    | with_reducible apply State.fcTorque_keeps
    | with_reducible apply State.driveLegs_keeps
    | with_reducible apply keeps_ite

theorem State.fcBoundaries_keeps {s0 : State} {s : State} {a1 : ℕ} (h : Keeps s0 s) :
    Keeps s0 (State.fcBoundaries s a1) := by
  unfold State.fcBoundaries
  repeat' first
    | with_reducible assumption
    | with_reducible refine State.onlyIf_keeps ?_ (fun x_ k => ?_)
    | with_reducible apply State.fcBoundary_keeps
    | with_reducible refine foldEach_keeps (fun a t k => ?_) _ ?_
    | with_reducible apply keeps_ite

theorem State.fcProbe_keeps {s0 : State} {s : State} {a1 : ℕ} (h : Keeps s0 s) :
    Keeps s0 (State.fcProbe s a1) := by
  unfold State.fcProbe
  repeat' first
    | with_reducible assumption
    | with_reducible apply State.fcHeld_keeps
    | with_reducible apply State.setFc_keeps

theorem State.fcDecide_keeps {s0 : State} {s : State} {a1 : ℕ} (h : Keeps s0 s) :
    Keeps s0 (State.fcDecide s a1) := by
  unfold State.fcDecide
  repeat' first
    | with_reducible assumption
    | with_reducible apply State.fcAlign_keeps
    | with_reducible apply State.fcCatchSensor_keeps
    | with_reducible apply State.fcProbe_keeps
    | with_reducible apply keeps_ite

theorem State.setTbl_keeps {s0 : State} {s : State} {a1 : ℕ} {a2 : ℕ} {a3 : ℕ} (h : Keeps s0 s) :
    Keeps s0 (State.setTbl s a1 a2 a3) := by
  unfold State.setTbl
  repeat' first
    | with_reducible assumption
    | with_reducible apply keeps_ite
    | fail_if_no_progress with_reducible apply keeps_mk (s := _)

theorem State.tblPort_keeps {s0 : State} {s : State} {a1 : Option Master} {a2 : Bool} {a3 : ℕ} (h : Keeps s0 s) :
    Keeps s0 (State.tblPort s a1 a2 a3) := by
  unfold State.tblPort
  repeat' first
    | with_reducible assumption
    | with_reducible apply State.errTo_keeps
    | with_reducible apply State.ackTo_keeps
    | with_reducible apply State.tblNext_keeps
    | with_reducible apply State.setTbl_keeps
    | with_reducible apply State.flag_keeps
    | with_reducible apply State.tblMet_keeps
    | with_reducible apply State.setResp_keeps
    | with_reducible apply keeps_ite
    | fail_if_no_progress beta_reduce
    | split

theorem State.tblAccess_keeps {s0 : State} {s : State} {a1 : Master} {a2 : Bool} {a3 : ℕ} (h : Keeps s0 s) :
    Keeps s0 (State.tblAccess s a1 a2 a3) := by
  unfold State.tblAccess
  repeat' first
    | with_reducible assumption
    | with_reducible apply State.tblPort_keeps
    | with_reducible apply keeps_ite
    | fail_if_no_progress with_reducible apply keeps_mk (s := _)

theorem State.fcCycle_keeps {s0 : State} {s : State} {a1 : ℕ} (h : Keeps s0 s) :
    Keeps s0 (State.fcCycle s a1) := by
  unfold State.fcCycle
  repeat' first
    | with_reducible assumption
    | with_reducible refine State.onlyIf_keeps ?_ (fun x_ k => ?_)
    | with_reducible apply State.setFc_keeps
    | with_reducible apply State.wr_keeps
    | with_reducible apply State.fcRamp_keeps
    | with_reducible apply State.fcDeliver_keeps

theorem State.fcDisable_keeps {s0 : State} {s : State} {a1 : ℕ} (h : Keeps s0 s) :
    Keeps s0 (State.fcDisable s a1) := by
  unfold State.fcDisable
  repeat' first
    | with_reducible assumption
    | with_reducible apply State.setFc_keeps
    | with_reducible apply State.wr_keeps
    | with_reducible apply State.releaseClaims_keeps
    | with_reducible apply keeps_ite

theorem State.fcStart_keeps {s0 : State} {s : State} {a1 : ℕ} (h : Keeps s0 s) :
    Keeps s0 (State.fcStart s a1) := by
  unfold State.fcStart
  repeat' first
    | with_reducible assumption
    | with_reducible apply State.fcDecide_keeps
    | with_reducible apply State.readDir_keeps
    | with_reducible apply State.wr_keeps
    | with_reducible apply State.fcRefuse_keeps
    | with_reducible apply keeps_ite

theorem State.loadOffs_keeps {s0 : State} {s : State} {a1 : ℕ} (h : Keeps s0 s) :
    Keeps s0 (State.loadOffs s a1) := by
  unfold State.loadOffs
  repeat' first
    | with_reducible assumption
    | with_reducible apply State.wr_keeps

theorem State.fcEnable_keeps {s0 : State} {s : State} {a1 : ℕ} (h : Keeps s0 s) :
    Keeps s0 (State.fcEnable s a1) := by
  unfold State.fcEnable
  repeat' first
    | with_reducible assumption
    | with_reducible apply State.setFc_keeps
    | with_reducible apply State.fcRefuse_keeps
    | with_reducible refine State.claimAll_keeps ?_ (fun x_ k => ?_) (fun x_ k => ?_)
    | with_reducible apply State.fcHeld_keeps
    | with_reducible apply State.flag_keeps
    | with_reducible apply keeps_ite

theorem State.fcLand_keeps {s0 : State} {s : State} {a1 : ℕ} (h : Keeps s0 s) :
    Keeps s0 (State.fcLand s a1) := by
  unfold State.fcLand
  repeat' first
    | with_reducible assumption
    | with_reducible apply State.setFc_keeps
    | with_reducible apply State.landRefs_keeps
    | with_reducible refine State.onlyIf_keeps ?_ (fun x_ k => ?_)
    | with_reducible apply State.writeCmp_keeps
    | with_reducible refine foldEach_keeps (fun a t k => ?_) _ ?_
    | with_reducible apply keeps_ite

theorem State.posFault_keeps {s0 : State} {s : State} {a1 : ℕ} {a2 : ℕ} (h : Keeps s0 s) :
    Keeps s0 (State.posFault s a1 a2) := by
  unfold State.posFault
  repeat' first
    | with_reducible assumption
    | with_reducible apply State.wr_keeps
    | with_reducible apply State.flag_keeps

theorem State.emuCount_keeps {s0 : State} {s : State} {a1 : ℕ} {a2 : ℤ} (h : Keeps s0 s) :
    Keeps s0 (State.emuCount s a1 a2) := by
  unfold State.emuCount
  repeat' first
    | with_reducible assumption
    | with_reducible apply State.setEmu_keeps
    | with_reducible refine State.onlyIf_keeps ?_ (fun x_ k => ?_)
    | with_reducible apply State.wrI_keeps
    | with_reducible apply State.flag_keeps

theorem State.emuFeed_keeps {s0 : State} {s : State} {a1 : ℕ} {a2 : ℤ} (h : Keeps s0 s) :
    Keeps s0 (State.emuFeed s a1 a2) := by
  unfold State.emuFeed
  repeat' first
    | with_reducible assumption
    | with_reducible apply State.emuCount_keeps
    | with_reducible refine foldEach_keeps (fun a t k => ?_) _ ?_
    | with_reducible apply keeps_ite

theorem State.posStep_keeps {s0 : State} {s : State} {a1 : ℕ} {a2 : ℤ} (h : Keeps s0 s) :
    Keeps s0 (State.posStep s a1 a2) := by
  unfold State.posStep
  repeat' first
    | with_reducible assumption
    | with_reducible apply State.setPos_keeps
    | with_reducible apply State.emuFeed_keeps
    | with_reducible apply State.wr_keeps

theorem State.emuIndex_keeps {s0 : State} {s : State} {a1 : ℕ} (h : Keeps s0 s) :
    Keeps s0 (State.emuIndex s a1) := by
  unfold State.emuIndex
  repeat' first
    | with_reducible assumption
    | with_reducible apply State.setEmu_keeps
    | with_reducible refine foldEach_keeps (fun a t k => ?_) _ ?_
    | with_reducible apply keeps_ite

theorem State.posReference_keeps {s0 : State} {s : State} {a1 : ℕ} (h : Keeps s0 s) :
    Keeps s0 (State.posReference s a1) := by
  unfold State.posReference
  repeat' first
    | with_reducible assumption
    | with_reducible apply State.setPos_keeps
    | with_reducible apply State.wr_keeps
    | with_reducible apply State.flag_keeps
    | with_reducible apply keeps_ite

theorem State.posCorrect_keeps {s0 : State} {s : State} {a1 : ℕ} {a2 : ℤ} (h : Keeps s0 s) :
    Keeps s0 (State.posCorrect s a1 a2) := by
  unfold State.posCorrect
  repeat' first
    | with_reducible assumption
    | with_reducible apply State.wr_keeps

theorem State.posCheck_keeps {s0 : State} {s : State} {a1 : ℕ} (h : Keeps s0 s) :
    Keeps s0 (State.posCheck s a1) := by
  unfold State.posCheck
  repeat' first
    | with_reducible assumption
    | with_reducible apply State.wr_keeps
    | with_reducible apply State.bump_keeps
    | with_reducible apply State.flag_keeps
    | with_reducible apply State.posCorrect_keeps
    | with_reducible refine State.onlyIf_keeps ?_ (fun x_ k => ?_)
    | with_reducible apply State.posFault_keeps
    | with_reducible apply keeps_ite
    | fail_if_no_progress beta_reduce
    | split

theorem State.posIndex_keeps {s0 : State} {s : State} {a1 : ℕ} (h : Keeps s0 s) :
    Keeps s0 (State.posIndex s a1) := by
  unfold State.posIndex
  repeat' first
    | with_reducible assumption
    | with_reducible apply State.emuIndex_keeps
    | with_reducible apply State.posReference_keeps
    | with_reducible apply State.posCheck_keeps
    | with_reducible apply keeps_ite

theorem State.posAbz_keeps {s0 : State} {s : State} {a1 : ℕ} {a2 : ℕ} {a3 : ℕ} (h : Keeps s0 s) :
    Keeps s0 (State.posAbz s a1 a2 a3) := by
  unfold State.posAbz
  repeat' first
    | with_reducible assumption
    | with_reducible refine State.onlyIf_keeps ?_ (fun x_ k => ?_)
    | with_reducible apply State.flag_keeps
    | with_reducible apply State.posFault_keeps
    | with_reducible apply State.posStep_keeps
    | with_reducible apply State.posIndex_keeps
    | with_reducible apply keeps_ite

theorem State.showValid_keeps {s0 : State} {s : State} {a1 : ℕ} (h : Keeps s0 s) :
    Keeps s0 (State.showValid s a1) := by
  unfold State.showValid
  repeat' first
    | with_reducible assumption
    | with_reducible apply State.wr_keeps

theorem State.hallCount_keeps {s0 : State} {s : State} {a1 : ℕ} {a2 : ℕ} {a3 : ℕ} (h : Keeps s0 s) :
    Keeps s0 (State.hallCount s a1 a2 a3) := by
  unfold State.hallCount
  repeat' first
    | with_reducible assumption
    | with_reducible apply State.wr_keeps

theorem State.posHall_keeps {s0 : State} {s : State} {a1 : ℕ} {a2 : ℕ} {a3 : ℕ} (h : Keeps s0 s) :
    Keeps s0 (State.posHall s a1 a2 a3) := by
  unfold State.posHall
  repeat' first
    | with_reducible assumption
    | with_reducible apply State.hallCount_keeps
    | with_reducible apply State.posFault_keeps
    | with_reducible apply State.flag_keeps
    | with_reducible apply State.emuFeed_keeps
    | with_reducible apply State.setPos_keeps
    | with_reducible refine State.onlyIf_keeps ?_ (fun x_ k => ?_)
    | with_reducible apply keeps_ite

theorem State.posTake_keeps {s0 : State} {s : State} {a1 : ℕ} {a2 : ℕ} {a3 : ℕ} (h : Keeps s0 s) :
    Keeps s0 (State.posTake s a1 a2 a3) := by
  unfold State.posTake
  repeat' first
    | with_reducible assumption
    | with_reducible apply State.showValid_keeps
    | with_reducible apply State.posAbz_keeps
    | with_reducible apply State.posHall_keeps
    | with_reducible apply keeps_ite
    | fail_if_no_progress beta_reduce
    | split

theorem State.posSample_keeps {s0 : State} {s : State} {a1 : ℕ} (h : Keeps s0 s) :
    Keeps s0 (State.posSample s a1) := by
  unfold State.posSample
  repeat' first
    | with_reducible assumption
    | with_reducible apply State.posTake_keeps
    | with_reducible apply State.setPos_keeps
    | with_reducible apply keeps_ite

theorem State.ssiCycle_keeps {s0 : State} {s : State} {a1 : ℕ} (h : Keeps s0 s) :
    Keeps s0 (State.ssiCycle s a1) := by
  unfold State.ssiCycle
  repeat' first
    | with_reducible assumption
    | with_reducible apply State.setPos_keeps
    | with_reducible apply keeps_ite

theorem State.posCycle_keeps {s0 : State} {s : State} {a1 : ℕ} (h : Keeps s0 s) :
    Keeps s0 (State.posCycle s a1) := by
  unfold State.posCycle
  repeat' first
    | with_reducible assumption
    | with_reducible apply State.posSample_keeps
    | with_reducible apply State.ssiCycle_keeps
    | with_reducible apply State.setPos_keeps
    | with_reducible apply State.wrI_keeps
    | with_reducible apply State.wr_keeps
    | with_reducible apply keeps_ite

theorem State.rsShow_keeps {s0 : State} {s : State} {a1 : ℕ} (h : Keeps s0 s) :
    Keeps s0 (State.rsShow s a1) := by
  unfold State.rsShow
  repeat' first
    | with_reducible assumption
    | with_reducible apply State.wrI_keeps
    | with_reducible apply State.wr_keeps

theorem State.rsValid_keeps {s0 : State} {s : State} {a1 : ℕ} (h : Keeps s0 s) :
    Keeps s0 (State.rsValid s a1) := by
  unfold State.rsValid
  repeat' first
    | with_reducible assumption
    | with_reducible apply State.wr_keeps

theorem State.rsEnable_keeps {s0 : State} {s : State} {a1 : ℕ} (h : Keeps s0 s) :
    Keeps s0 (State.rsEnable s a1) := by
  unfold State.rsEnable
  repeat' first
    | with_reducible assumption
    | with_reducible apply State.flag_keeps
    | with_reducible refine State.claimAll_keeps ?_ (fun x_ k => ?_) (fun x_ k => ?_)
    | with_reducible apply State.rsValid_keeps
    | with_reducible apply State.wr_keeps
    | with_reducible apply State.setRsv_keeps
    | with_reducible apply id_keeps
    | with_reducible apply keeps_ite

theorem State.rsFault_keeps {s0 : State} {s : State} {a1 : ℕ} {a2 : ℕ} (h : Keeps s0 s) :
    Keeps s0 (State.rsFault s a1 a2) := by
  unfold State.rsFault
  repeat' first
    | with_reducible assumption
    | with_reducible apply State.wr_keeps
    | with_reducible apply State.flag_keeps

theorem State.rowTrack_keeps {s0 : State} {s : State} {a1 : ℕ} {a2 : ℤ} {a3 : ℤ} (h : Keeps s0 s) :
    Keeps s0 (State.rowTrack s a1 a2 a3) := by
  unfold State.rowTrack
  repeat' first
    | with_reducible assumption
    | with_reducible apply State.setRowRs_keeps

theorem State.rsJudge_keeps {s0 : State} {s : State} {a1 : ℕ} (h : Keeps s0 s) :
    Keeps s0 (State.rsJudge s a1) := by
  unfold State.rsJudge
  repeat' first
    | with_reducible assumption
    | with_reducible apply State.flag_keeps
    | with_reducible apply State.rsFault_keeps
    | with_reducible apply State.wr_keeps
    | with_reducible refine State.onlyIf_keeps ?_ (fun x_ k => ?_)
    | with_reducible apply State.rsValid_keeps
    | with_reducible apply keeps_ite

theorem State.rsTrack_keeps {s0 : State} {s : State} {a1 : ℕ} {a2 : ℤ} {a3 : ℤ} (h : Keeps s0 s) :
    Keeps s0 (State.rsTrack s a1 a2 a3) := by
  unfold State.rsTrack
  repeat' first
    | with_reducible assumption
    | with_reducible apply State.wr_keeps
    | with_reducible apply State.setRsv_keeps

theorem State.rsCycle_keeps {s0 : State} {s : State} {a1 : ℕ} (h : Keeps s0 s) :
    Keeps s0 (State.rsCycle s a1) := by
  unfold State.rsCycle
  repeat' first
    | with_reducible assumption
    | with_reducible apply State.rsShow_keeps
    | with_reducible apply State.setRsv_keeps
    | with_reducible apply keeps_ite

theorem State.emuCycle_keeps {s0 : State} {s : State} {a1 : ℕ} (h : Keeps s0 s) :
    Keeps s0 (State.emuCycle s a1) := by
  unfold State.emuCycle
  repeat' first
    | with_reducible assumption
    | with_reducible apply State.setEmu_keeps
    | with_reducible apply State.emuCount_keeps
    | with_reducible apply keeps_ite
    | fail_if_no_progress beta_reduce
    | split

theorem State.fpcCycle_keeps {s0 : State} {s : State} (h : Keeps s0 s) :
    Keeps s0 (State.fpcCycle s) := by
  unfold State.fpcCycle
  repeat' first
    | with_reducible assumption
    | with_reducible apply State.rsCycle_keeps
    | with_reducible apply State.posCycle_keeps
    | with_reducible apply State.emuCycle_keeps
    | with_reducible apply State.fcCycle_keeps
    | with_reducible refine foldEach_keeps (fun a t k => ?_) _ ?_

theorem State.rsClear_keeps {s0 : State} {s : State} {a1 : ℕ} (h : Keeps s0 s) :
    Keeps s0 (State.rsClear s a1) := by
  unfold State.rsClear
  repeat' first
    | with_reducible assumption
    | with_reducible apply State.flag_keeps
    | with_reducible apply State.rsValid_keeps
    | with_reducible apply State.wr_keeps
    | with_reducible apply keeps_ite

theorem State.posRaw_keeps {s0 : State} {s : State} {a1 : ℕ} {a2 : ℕ} (h : Keeps s0 s) :
    Keeps s0 (State.posRaw s a1 a2) := by
  unfold State.posRaw
  repeat' first
    | with_reducible assumption
    | with_reducible apply State.setPos_keeps

theorem State.ssiGood_keeps {s0 : State} {s : State} {a1 : ℕ} {a2 : ℕ} {a3 : ℕ} {a4 : ℕ} (h : Keeps s0 s) :
    Keeps s0 (State.ssiGood s a1 a2 a3 a4) := by
  unfold State.ssiGood
  repeat' first
    | with_reducible assumption
    | with_reducible apply State.setPos_keeps
    | with_reducible apply State.wr_keeps

theorem State.ssiRequest_keeps {s0 : State} {s : State} {a1 : ℕ} (h : Keeps s0 s) :
    Keeps s0 (State.ssiRequest s a1) := by
  unfold State.ssiRequest
  repeat' first
    | with_reducible assumption
    | with_reducible apply State.flag_keeps
    | with_reducible apply State.setPos_keeps
    | with_reducible apply keeps_ite

theorem State.ssiRequests_keeps {s0 : State} {s : State} {a1 : ℕ} (h : Keeps s0 s) :
    Keeps s0 (State.ssiRequests s a1) := by
  unfold State.ssiRequests
  repeat' first
    | with_reducible assumption
    | with_reducible refine State.onlyIf_keeps ?_ (fun x_ k => ?_)
    | with_reducible apply State.ssiRequest_keeps
    | with_reducible refine foldEach_keeps (fun a t k => ?_) _ ?_
    | with_reducible apply keeps_ite

theorem State.ssiBad_keeps {s0 : State} {s : State} {a1 : ℕ} (h : Keeps s0 s) :
    Keeps s0 (State.ssiBad s a1) := by
  unfold State.ssiBad
  repeat' first
    | with_reducible assumption
    | with_reducible refine State.onlyIf_keeps ?_ (fun x_ k => ?_)
    | with_reducible apply State.flag_keeps
    | with_reducible apply State.setPos_keeps
    | with_reducible apply State.posFault_keeps

theorem State.ssiFrame_keeps {s0 : State} {s : State} {a1 : ℕ} {a2 : ℕ} (h : Keeps s0 s) :
    Keeps s0 (State.ssiFrame s a1 a2) := by
  unfold State.ssiFrame
  repeat' first
    | with_reducible assumption
    | with_reducible apply State.setPos_keeps
    | with_reducible apply State.ssiBad_keeps
    | with_reducible apply State.ssiGood_keeps
    | with_reducible apply keeps_ite

theorem State.posEnable_keeps {s0 : State} {s : State} {a1 : ℕ} (h : Keeps s0 s) :
    Keeps s0 (State.posEnable s a1) := by
  unfold State.posEnable
  repeat' first
    | with_reducible assumption
    | with_reducible apply State.flag_keeps
    | with_reducible apply State.setPos_keeps
    | with_reducible apply State.showValid_keeps
    | with_reducible apply State.wr_keeps
    | with_reducible apply keeps_ite

theorem State.emuDisable_keeps {s0 : State} {s : State} {a1 : ℕ} (h : Keeps s0 s) :
    Keeps s0 (State.emuDisable s a1) := by
  unfold State.emuDisable
  repeat' first
    | with_reducible assumption
    | with_reducible apply State.releaseClaims_keeps
    | with_reducible apply State.wr_keeps
    | with_reducible apply State.setEmu_keeps
    | with_reducible apply keeps_ite

theorem State.emuEnable_keeps {s0 : State} {s : State} {a1 : ℕ} (h : Keeps s0 s) :
    Keeps s0 (State.emuEnable s a1) := by
  unfold State.emuEnable
  repeat' first
    | with_reducible assumption
    | with_reducible apply State.flag_keeps
    | with_reducible refine State.claimAll_keeps ?_ (fun x_ k => ?_) (fun x_ k => ?_)
    | with_reducible apply State.wr_keeps
    | with_reducible apply State.setEmu_keeps
    | with_reducible apply id_keeps
    | with_reducible apply keeps_ite

theorem State.posDisable_keeps {s0 : State} {s : State} {a1 : ℕ} (h : Keeps s0 s) :
    Keeps s0 (State.posDisable s a1) := by
  unfold State.posDisable
  repeat' first
    | with_reducible assumption
    | with_reducible apply State.flag_keeps
    | with_reducible apply State.showValid_keeps
    | with_reducible apply State.setPos_keeps
    | with_reducible apply State.wr_keeps
    | with_reducible apply keeps_ite

theorem State.posLoad_keeps {s0 : State} {s : State} {a1 : ℕ} {a2 : ℕ} (h : Keeps s0 s) :
    Keeps s0 (State.posLoad s a1 a2) := by
  unfold State.posLoad
  repeat' first
    | with_reducible assumption
    | with_reducible apply State.flag_keeps
    | with_reducible apply State.setPos_keeps
    | with_reducible apply State.showValid_keeps
    | with_reducible apply State.wr_keeps
    | with_reducible apply keeps_ite

theorem State.excTick_keeps {s0 : State} {s : State} {a1 : ℕ} (h : Keeps s0 s) :
    Keeps s0 (State.excTick s a1) := by
  unfold State.excTick
  repeat' first
    | with_reducible assumption
    | with_reducible apply State.setRsv_keeps
    | with_reducible apply keeps_ite

theorem State.posClear_keeps {s0 : State} {s : State} {a1 : ℕ} (h : Keeps s0 s) :
    Keeps s0 (State.posClear s a1) := by
  unfold State.posClear
  repeat' first
    | with_reducible assumption
    | with_reducible apply State.flag_keeps
    | with_reducible apply State.wr_keeps
    | with_reducible apply State.setPos_keeps
    | with_reducible apply State.showValid_keeps
    | with_reducible apply keeps_ite

theorem State.rsDisable_keeps {s0 : State} {s : State} {a1 : ℕ} (h : Keeps s0 s) :
    Keeps s0 (State.rsDisable s a1) := by
  unfold State.rsDisable
  repeat' first
    | with_reducible assumption
    | with_reducible apply State.flag_keeps
    | with_reducible apply State.rsValid_keeps
    | with_reducible apply State.wr_keeps
    | with_reducible apply State.releaseClaims_keeps
    | with_reducible apply keeps_ite

theorem State.mbShow_keeps {s0 : State} {s : State} {a1 : ℕ} (h : Keeps s0 s) :
    Keeps s0 (State.mbShow s a1) := by
  unfold State.mbShow
  repeat' first
    | with_reducible assumption
    | with_reducible apply State.wr_keeps

theorem State.mbEmpty_keeps {s0 : State} {s : State} {a1 : ℕ} (h : Keeps s0 s) :
    Keeps s0 (State.mbEmpty s a1) := by
  unfold State.mbEmpty
  repeat' first
    | with_reducible assumption
    | with_reducible apply State.wr2_keeps
    | with_reducible apply State.wr_keeps
    | with_reducible apply State.mbShow_keeps
    | with_reducible refine foldEach_keeps (fun a t k => ?_) _ ?_

theorem State.mbNotify_keeps {s0 : State} {s : State} {a1 : ℕ} (h : Keeps s0 s) :
    Keeps s0 (State.mbNotify s a1) := by
  unfold State.mbNotify
  repeat' first
    | with_reducible assumption
    | with_reducible apply State.wr_keeps
    | with_reducible apply State.flag_keeps
    | with_reducible apply State.closeSwitch_keeps
    | with_reducible apply keeps_ite

theorem State.mbPost_keeps {s0 : State} {s : State} {a1 : ℕ} {a2 : ℕ} (h : Keeps s0 s) :
    Keeps s0 (State.mbPost s a1 a2) := by
  unfold State.mbPost
  repeat' first
    | with_reducible assumption
    | with_reducible apply State.wr2_keeps
    | with_reducible apply State.wr_keeps
    | with_reducible apply State.mbNotify_keeps
    | with_reducible apply State.mbShow_keeps
    | with_reducible refine foldEach_keeps (fun a t k => ?_) _ ?_
    | with_reducible apply keeps_ite

theorem State.setSem_keeps {s0 : State} {s : State} {a1 : ℕ} {a2 : ℕ} (h : Keeps s0 s) :
    Keeps s0 (State.setSem s a1 a2) := by
  unfold State.setSem
  repeat' first
    | with_reducible assumption
    | with_reducible apply State.wr_keeps

theorem State.semAcq_keeps {s0 : State} {s : State} {a1 : ℕ} {a2 : ℕ} (h : Keeps s0 s) :
    Keeps s0 (State.semAcq s a1 a2).1 := by
  unfold State.semAcq
  repeat' first
    | with_reducible assumption
    | with_reducible apply State.setSem_keeps
    | with_reducible apply keeps_ite
    | fail_if_no_progress beta_reduce
    | split

theorem State.mbSend_keeps {s0 : State} {s : State} {a1 : ℕ} {a2 : ℕ} {a3 : List ℕ} (h : Keeps s0 s) :
    Keeps s0 (State.mbSend s a1 a2 a3) := by
  unfold State.mbSend
  repeat' first
    | with_reducible assumption
    | with_reducible apply State.wr2_keeps
    | with_reducible apply State.mbPost_keeps
    | with_reducible apply State.wr_keeps
    | with_reducible refine foldEach_keeps (fun a t k => ?_) _ ?_

theorem State.semRelease_keeps {s0 : State} {s : State} {a1 : ℕ} {a2 : ℕ} (h : Keeps s0 s) :
    Keeps s0 (State.semRelease s a1 a2) := by
  unfold State.semRelease
  repeat' first
    | with_reducible assumption
    | with_reducible apply State.setSem_keeps
    | with_reducible apply State.flag_keeps
    | with_reducible apply keeps_ite

theorem State.advanceEpoch_keeps {s0 : State} {s : State} {a1 : ℕ} (h : Keeps s0 s) :
    Keeps s0 (State.advanceEpoch s a1) := by
  unfold State.advanceEpoch
  repeat' first
    | with_reducible assumption
    | with_reducible apply State.wr_keeps
    | with_reducible apply State.flag_keeps
    | with_reducible apply State.setSem_keeps
    | with_reducible apply State.mbEmpty_keeps
    | with_reducible apply State.mbShow_keeps
    | with_reducible refine foldEach_keeps (fun a t k => ?_) _ ?_
    | with_reducible apply keeps_ite

theorem State.mbFill_keeps {s0 : State} {s : State} {a1 : ℕ} {a2 : ℕ} {a3 : State → State} (h : Keeps s0 s) (h3 : ∀ t, Keeps s0 t → Keeps s0 (a3 t)) :
    Keeps s0 (State.mbFill s a1 a2 a3) := by
  unfold State.mbFill
  repeat' first
    | with_reducible assumption
    | with_reducible refine h3 _ ?_
    | with_reducible apply State.wr_keeps
    | with_reducible apply keeps_ite

theorem State.srcRefresh_keeps {s0 : State} {s : State} (h : Keeps s0 s) :
    Keeps s0 (State.srcRefresh s) := by
  unfold State.srcRefresh
  repeat' first
    | with_reducible assumption
    | with_reducible apply State.setSrc_keeps
    | with_reducible refine foldEach_keeps (fun a t k => ?_) _ ?_

theorem State.keepLink_keeps {s0 : State} {s : State} {a1 : ℕ} (h : Keeps s0 s) :
    Keeps s0 (State.keepLink s a1) := by
  unfold State.keepLink
  repeat' first
    | with_reducible assumption
    | with_reducible apply State.setRow_keeps

theorem State.takeCfg_keeps {s0 : State} {s : State} {a1 : ℕ} (h : Keeps s0 s) :
    Keeps s0 (State.takeCfg s a1) := by
  unfold State.takeCfg
  repeat' first
    | with_reducible assumption
    | with_reducible apply State.setRow_keeps

theorem State.showLost_keeps {s0 : State} {s : State} {a1 : ℕ} (h : Keeps s0 s) :
    Keeps s0 (State.showLost s a1) := by
  unfold State.showLost
  repeat' first
    | with_reducible assumption
    | with_reducible apply State.wr_keeps

theorem State.count_keeps {s0 : State} {s : State} {a1 : ℕ} {a2 : ℕ} {a3 : Bool} (h : Keeps s0 s) :
    Keeps s0 (State.count s a1 a2 a3) := by
  unfold State.count
  repeat' first
    | with_reducible assumption
    | with_reducible apply State.setRow_keeps

theorem State.pauseCheck_keeps {s0 : State} {s : State} {a1 : ℕ} {a2 : ℕ} (h : Keeps s0 s) :
    Keeps s0 (State.pauseCheck s a1 a2) := by
  unfold State.pauseCheck
  repeat' first
    | with_reducible assumption
    | with_reducible apply State.setRow_keeps

theorem State.runCheck_keeps {s0 : State} {s : State} {a1 : ℕ} {a2 : ℕ} {a3 : Option Bool} (h : Keeps s0 s) :
    Keeps s0 (State.runCheck s a1 a2 a3) := by
  unfold State.runCheck
  repeat' first
    | with_reducible assumption
    | with_reducible apply State.count_keeps
    | with_reducible apply State.pauseCheck_keeps
    | fail_if_no_progress beta_reduce
    | split

theorem State.rowFlag_keeps {s0 : State} {s : State} {a1 : FD} {a2 : ℕ} {a3 : Bool} (h : Keeps s0 s) :
    Keeps s0 (State.rowFlag s a1 a2 a3) := by
  unfold State.rowFlag
  repeat' first
    | with_reducible assumption
    | with_reducible apply State.wr_keeps

theorem State.wantHold_keeps {s0 : State} {s : State} {a1 : ℕ} {a2 : ℕ} (h : Keeps s0 s) :
    Keeps s0 (State.wantHold s a1 a2) := by
  unfold State.wantHold
  repeat' first
    | with_reducible assumption
    | with_reducible apply State.setRow_keeps

theorem State.measure_keeps {s0 : State} {s : State} {a1 : ℕ} (h : Keeps s0 s) :
    Keeps s0 (State.measure s a1) := by
  unfold State.measure
  repeat' first
    | with_reducible assumption
    | with_reducible apply State.runCheck_keeps
    | with_reducible apply State.rowFlag_keeps
    | with_reducible refine State.onlyIf_keeps ?_ (fun x_ k => ?_)
    | with_reducible apply State.wantHold_keeps
    | with_reducible apply State.setRow_keeps
    | with_reducible refine foldEach_keeps (fun a t k => ?_) _ ?_

theorem State.position_keeps {s0 : State} {s : State} {a1 : ℕ} (h : Keeps s0 s) :
    Keeps s0 (State.position s a1) := by
  unfold State.position
  repeat' first
    | with_reducible assumption
    | with_reducible refine State.onlyIf_keeps ?_ (fun x_ k => ?_)
    | with_reducible apply State.rowFlag_keeps
    | with_reducible apply State.wantHold_keeps

theorem State.speed_keeps {s0 : State} {s : State} {a1 : ℕ} (h : Keeps s0 s) :
    Keeps s0 (State.speed s a1) := by
  unfold State.speed
  repeat' first
    | with_reducible assumption
    | with_reducible apply State.wr_keeps
    | with_reducible apply State.wrI_keeps
    | with_reducible apply keeps_ite
    | fail_if_no_progress beta_reduce
    | split

theorem State.chopFault_keeps {s0 : State} {s : State} {a1 : ℕ} {a2 : ℕ} (h : Keeps s0 s) :
    Keeps s0 (State.chopFault s a1 a2) := by
  unfold State.chopFault
  repeat' first
    | with_reducible assumption
    | with_reducible apply State.setRow_keeps
    | with_reducible apply State.wantHold_keeps
    | with_reducible apply State.wr_keeps
    | with_reducible apply State.flag_keeps

theorem State.judgeOn_keeps {s0 : State} {s : State} {a1 : ℕ} (h : Keeps s0 s) :
    Keeps s0 (State.judgeOn s a1) := by
  unfold State.judgeOn
  repeat' first
    | with_reducible assumption
    | with_reducible apply State.setRow_keeps
    | with_reducible apply State.wr_keeps
    | with_reducible apply State.chopFault_keeps
    | with_reducible apply keeps_ite

theorem State.judgeOff_keeps {s0 : State} {s : State} {a1 : ℕ} (h : Keeps s0 s) :
    Keeps s0 (State.judgeOff s a1) := by
  unfold State.judgeOff
  repeat' first
    | with_reducible assumption
    | with_reducible apply State.setRow_keeps
    | with_reducible apply State.chopFault_keeps
    | with_reducible apply keeps_ite

theorem State.chopper_keeps {s0 : State} {s : State} {a1 : ℕ} (h : Keeps s0 s) :
    Keeps s0 (State.chopper s a1) := by
  unfold State.chopper
  repeat' first
    | with_reducible assumption
    | with_reducible apply State.judgeOn_keeps
    | with_reducible apply State.judgeOff_keeps
    | with_reducible apply State.wr_keeps
    | with_reducible apply State.flag_keeps
    | with_reducible apply keeps_ite

theorem State.angleCheck_keeps {s0 : State} {s : State} {a1 : ℕ} {a2 : ℕ} (h : Keeps s0 s) :
    Keeps s0 (State.angleCheck s a1 a2) := by
  unfold State.angleCheck
  repeat' first
    | with_reducible assumption
    | with_reducible apply State.count_keeps
    | with_reducible refine State.onlyIf_keeps ?_ (fun x_ k => ?_)
    | with_reducible apply State.rowFlag_keeps
    | with_reducible apply State.wantHold_keeps
    | fail_if_no_progress beta_reduce
    | split

theorem State.monitor_keeps {s0 : State} {s : State} {a1 : ℕ} (h : Keeps s0 s) :
    Keeps s0 (State.monitor s a1) := by
  unfold State.monitor
  repeat' first
    | with_reducible assumption
    | intro x; try clear_value x
    | with_reducible apply State.wr_keeps
    | with_reducible apply State.wrI_keeps
    | with_reducible apply State.rowFlag_keeps
    | with_reducible apply State.setRow_keeps
    | with_reducible apply State.count_keeps
    | with_reducible apply State.next_keeps
    | with_reducible refine State.onlyIf_keeps ?_ (fun x_ k => ?_)
    | with_reducible apply State.wantHold_keeps
    | with_reducible apply State.angleCheck_keeps
    | with_reducible apply keeps_ite
    | lift_lets -underBinder; intro x; refine keeps_cut (s0 := s0) x ?_ ?_; (on_goal 2 => clear_value x); (on_goal 1 => subst x)
    | fail_if_no_progress beta_reduce
    | split

theorem State.stageChecks_keeps {s0 : State} {s : State} {a1 : ℕ} (h : Keeps s0 s) :
    Keeps s0 (State.stageChecks s a1) := by
  unfold State.stageChecks
  repeat' first
    | with_reducible assumption
    | with_reducible apply State.showLost_keeps
    | with_reducible apply State.measure_keeps
    | with_reducible apply State.position_keeps
    | with_reducible refine State.onlyIf_keeps ?_ (fun x_ k => ?_)
    | with_reducible apply State.speed_keeps
    | with_reducible apply State.chopper_keeps
    | with_reducible apply State.monitor_keeps
    | with_reducible apply keeps_ite

theorem State.armStage_keeps {s0 : State} {s : State} {a1 : ℕ} (h : Keeps s0 s) :
    Keeps s0 (State.armStage s a1) := by
  unfold State.armStage
  repeat' first
    | with_reducible assumption
    | with_reducible apply State.wr_keeps
    | with_reducible apply State.next_keeps
    | with_reducible apply keeps_ite

theorem State.rowStatus_keeps {s0 : State} {s : State} {a1 : FD} {a2 : ℕ} (h : Keeps s0 s) :
    Keeps s0 (State.rowStatus s a1 a2) := by
  unfold State.rowStatus
  repeat' first
    | with_reducible assumption
    | with_reducible apply State.irqEv_keeps
    | with_reducible apply State.wr_keeps
    | with_reducible apply keeps_ite

theorem State.showHold_keeps {s0 : State} {s : State} {a1 : ℕ} (h : Keeps s0 s) :
    Keeps s0 (State.showHold s a1) := by
  unfold State.showHold
  repeat' first
    | with_reducible assumption
    | with_reducible apply State.wr_keeps

theorem State.showLines_keeps {s0 : State} {s : State} (h : Keeps s0 s) :
    Keeps s0 (State.showLines s) := by
  unfold State.showLines
  repeat' first
    | with_reducible assumption
    | with_reducible apply State.showActive_keeps
    | with_reducible apply State.wr_keeps
    | with_reducible refine foldEach_keeps (fun a t k => ?_) _ ?_

theorem State.rowNode_keeps {s0 : State} {s : State} {a1 : ℕ} {a2 : ℕ} {a3 : ℕ} {a4 : Option ℕ} (h : Keeps s0 s) :
    Keeps s0 (State.rowNode s a1 a2 a3 a4) := by
  unfold State.rowNode
  repeat' first
    | with_reducible assumption
    | with_reducible apply State.latchStage_keeps
    | with_reducible apply State.wr_keeps
    | with_reducible apply State.nodeRise_keeps
    | with_reducible apply keeps_ite

theorem State.rowCmd_keeps {s0 : State} {s : State} {a1 : ℕ} {a2 : ℕ} {a3 : optParam (Option ℕ) none} (h : Keeps s0 s) :
    Keeps s0 (State.rowCmd s a1 a2 a3) := by
  unfold State.rowCmd
  repeat' first
    | with_reducible assumption
    | with_reducible apply State.showLines_keeps
    | with_reducible apply State.rowNode_keeps
    | with_reducible refine foldEach_keeps (fun a t k => ?_) _ ?_

theorem State.takeHold_keeps {s0 : State} {s : State} {a1 : ℕ} {a2 : ℕ} {a3 : ℕ} (h : Keeps s0 s) :
    Keeps s0 (State.takeHold s a1 a2 a3) := by
  unfold State.takeHold
  repeat' first
    | with_reducible assumption
    | with_reducible apply State.showHold_keeps
    | with_reducible apply State.setRow_keeps
    | with_reducible apply State.rowCmd_keeps
    | with_reducible apply keeps_ite

theorem State.cpxHolds_keeps {s0 : State} {s : State} {a1 : ℕ → Bool} (h : Keeps s0 s) :
    Keeps s0 (State.cpxHolds s a1) := by
  unfold State.cpxHolds
  repeat' first
    | with_reducible assumption
    | with_reducible apply State.rowStatus_keeps
    | with_reducible apply State.takeHold_keeps
    | with_reducible refine foldEach_keeps (fun a t k => ?_) _ ?_

theorem State.cpxRespond_keeps {s0 : State} {s : State} (h : Keeps s0 s) :
    Keeps s0 (State.cpxRespond s) := by
  unfold State.cpxRespond
  repeat' first
    | with_reducible assumption
    | with_reducible apply State.rowStatus_keeps
    | with_reducible apply State.cpxHolds_keeps
    | with_reducible apply keeps_ite
    | fail_if_no_progress with_reducible apply keeps_mk (s := _)

theorem State.carryOut_keeps {s0 : State} {s : State} {a1 : ℕ} (h : Keeps s0 s) :
    Keeps s0 (State.carryOut s a1) := by
  unfold State.carryOut
  repeat' first
    | with_reducible assumption
    | with_reducible apply State.setRow_keeps
    | with_reducible apply State.rowCmd_keeps
    | with_reducible apply State.takeHold_keeps
    | with_reducible refine foldEach_keeps (fun a t k => ?_) _ ?_
    | with_reducible apply keeps_ite

theorem State.latchesOff_keeps {s0 : State} {s : State} {a1 : ℕ} (h : Keeps s0 s) :
    Keeps s0 (State.latchesOff s a1) := by
  unfold State.latchesOff
  repeat' first
    | with_reducible assumption
    | with_reducible apply State.setPad_keeps
    | with_reducible refine foldEach_keeps (fun a t k => ?_) _ ?_

theorem State.disStop_keeps {s0 : State} {s : State} {a1 : ℕ} (h : Keeps s0 s) :
    Keeps s0 (State.disStop s a1) := by
  unfold State.disStop
  repeat' first
    | with_reducible assumption
    | with_reducible apply State.latchesOff_keeps
    | with_reducible apply State.setRow_keeps
    | with_reducible apply keeps_ite

theorem State.tryRelease_keeps {s0 : State} {s : State} {a1 : ℕ} (h : Keeps s0 s) :
    Keeps s0 (State.tryRelease s a1) := by
  unfold State.tryRelease
  repeat' first
    | with_reducible assumption
    | with_reducible apply State.wr_keeps
    | with_reducible apply State.disStop_keeps
    | with_reducible apply State.showHold_keeps
    | with_reducible apply State.setRow_keeps
    | with_reducible apply State.showLines_keeps
    | with_reducible refine foldEach_keeps (fun a t k => ?_) _ ?_
    | with_reducible apply keeps_ite

theorem State.ovNoBrake_keeps {s0 : State} {s : State} {a1 : ℕ} (h : Keeps s0 s) :
    Keeps s0 (State.ovNoBrake s a1) := by
  unfold State.ovNoBrake
  repeat' first
    | with_reducible assumption
    | with_reducible apply State.rowCmd_keeps
    | with_reducible apply keeps_ite

theorem State.reqResult_keeps {s0 : State} {s : State} {a1 : ℕ} {a2 : ℕ} {a3 : ℕ} (h : Keeps s0 s) :
    Keeps s0 (State.reqResult s a1 a2 a3) := by
  unfold State.reqResult
  repeat' first
    | with_reducible assumption
    | with_reducible apply State.wr_keeps
    | with_reducible apply State.irqEv_keeps

theorem State.legMethod_keeps {s0 : State} {s : State} {a1 : ℕ} (h : Keeps s0 s) :
    Keeps s0 (State.legMethod s a1) := by
  unfold State.legMethod
  repeat' first
    | with_reducible assumption
    | with_reducible apply State.rowCmd_keeps
    | with_reducible apply State.setRow_keeps

theorem State.windStep_keeps {s0 : State} {s : State} {a1 : ℕ} (h : Keeps s0 s) :
    Keeps s0 (State.windStep s a1) := by
  unfold State.windStep
  repeat' first
    | with_reducible assumption
    | with_reducible apply State.setRow_keeps
    | with_reducible apply State.rowCmd_keeps
    | with_reducible refine State.onlyIf_keeps ?_ (fun x_ k => ?_)
    | with_reducible apply State.wr_keeps
    | with_reducible apply State.disStop_keeps
    | with_reducible apply keeps_ite
    | fail_if_no_progress beta_reduce
    | split

theorem State.disStart_keeps {s0 : State} {s : State} {a1 : ℕ} (h : Keeps s0 s) :
    Keeps s0 (State.disStart s a1) := by
  unfold State.disStart
  repeat' first
    | with_reducible assumption
    | with_reducible apply State.setRow_keeps
    | with_reducible apply State.takeHold_keeps
    | with_reducible apply State.wr_keeps
    | with_reducible apply State.legMethod_keeps
    | with_reducible apply State.windStep_keeps
    | with_reducible apply keeps_ite

theorem State.reqRun_keeps {s0 : State} {s : State} {a1 : ℕ} {a2 : ℕ} {a3 : ℕ} {a4 : ℕ} (h : Keeps s0 s) :
    Keeps s0 (State.reqRun s a1 a2 a3 a4).1 := by
  unfold State.reqRun
  repeat' first
    | with_reducible assumption
    | intro x; try clear_value x
    | with_reducible apply State.setRow_keeps
    | with_reducible apply State.disStart_keeps
    | with_reducible apply State.takeHold_keeps
    | with_reducible apply State.tryRelease_keeps
    | with_reducible apply State.flag_keeps
    | with_reducible apply keeps_ite
    | lift_lets -underBinder; intro x; try clear_value x
    | fail_if_no_progress beta_reduce
    | split

theorem State.request_keeps {s0 : State} {s : State} {a1 : ℕ} (h : Keeps s0 s) :
    Keeps s0 (State.request s a1) := by
  unfold State.request
  repeat' first
    | with_reducible assumption
    | with_reducible apply State.mbEmpty_keeps
    | with_reducible apply State.reqResult_keeps
    | with_reducible apply State.reqRun_keeps
    | with_reducible apply keeps_ite
    | fail_if_no_progress with_reducible apply keeps_mk (s := _)

theorem State.abortOc_keeps {s0 : State} {s : State} {a1 : ℕ} (h : Keeps s0 s) :
    Keeps s0 (State.abortOc s a1) := by
  unfold State.abortOc
  repeat' first
    | with_reducible assumption
    | with_reducible apply State.rowCmd_keeps
    | with_reducible apply State.flag_keeps
    | with_reducible apply State.disStop_keeps
    | with_reducible apply State.legMethod_keeps
    | with_reducible refine State.onlyIf_keeps ?_ (fun x_ k => ?_)
    | with_reducible apply State.wr_keeps
    | with_reducible apply keeps_ite

theorem State.disMethod_keeps {s0 : State} {s : State} {a1 : ℕ} (h : Keeps s0 s) :
    Keeps s0 (State.disMethod s a1) := by
  unfold State.disMethod
  repeat' first
    | with_reducible assumption
    | with_reducible apply State.wr_keeps
    | with_reducible apply State.rowCmd_keeps
    | with_reducible apply State.disStop_keeps
    | with_reducible apply State.abortOc_keeps
    | with_reducible apply State.windStep_keeps
    | with_reducible apply keeps_ite

theorem State.disRefresh_keeps {s0 : State} {s : State} {a1 : ℕ} (h : Keeps s0 s) :
    Keeps s0 (State.disRefresh s a1) := by
  unfold State.disRefresh
  repeat' first
    | with_reducible assumption
    | with_reducible apply State.wr_keeps
    | with_reducible refine State.onlyIf_keeps ?_ (fun x_ k => ?_)
    | with_reducible apply State.flag_keeps
    | with_reducible apply State.disMethod_keeps
    | with_reducible apply keeps_ite
    | fail_if_no_progress beta_reduce
    | split

theorem State.refresh_keeps {s0 : State} {s : State} (h : Keeps s0 s) :
    Keeps s0 (State.refresh s) := by
  unfold State.refresh
  repeat' first
    | with_reducible assumption
    | with_reducible apply State.srcRefresh_keeps
    | with_reducible apply State.keepLink_keeps
    | with_reducible apply State.takeCfg_keeps
    | with_reducible apply State.showChop_keeps
    | with_reducible apply State.stageChecks_keeps
    | with_reducible apply State.armStage_keeps
    | with_reducible apply State.cpxRespond_keeps
    | with_reducible apply State.carryOut_keeps
    | with_reducible apply State.tryRelease_keeps
    | with_reducible apply State.ovNoBrake_keeps
    | with_reducible apply State.request_keeps
    | with_reducible apply State.disRefresh_keeps
    | with_reducible apply State.showPwm_keeps
    | with_reducible apply State.rowStatus_keeps
    | with_reducible refine foldEach_keeps (fun a t k => ?_) _ ?_
    | fail_if_no_progress with_reducible apply keeps_mk (s := _)

theorem State.cpxReport_keeps {s0 : State} {s : State} {a1 : ℕ} (h : Keeps s0 s) :
    Keeps s0 (State.cpxReport s a1) := by
  unfold State.cpxReport
  repeat' first
    | with_reducible assumption
    | with_reducible apply State.rowStatus_keeps
    | with_reducible apply keeps_ite
    | fail_if_no_progress with_reducible apply keeps_mk (s := _)

theorem State.disEdge_keeps {s0 : State} {s : State} {a1 : ℕ} {a2 : ℕ} {a3 : ℕ} (h : Keeps s0 s) :
    Keeps s0 (State.disEdge s a1 a2 a3) := by
  unfold State.disEdge
  repeat' first
    | with_reducible assumption
    | with_reducible apply State.setRow_keeps
    | with_reducible apply State.next_keeps
    | with_reducible apply State.setPad_keeps
    | with_reducible refine foldEach_keeps (fun a t k => ?_) _ ?_
    | with_reducible apply keeps_ite

theorem State.requestOf_keeps {s0 : State} {s : State} {a1 : ℕ} {a2 : ℕ} (h : Keeps s0 s) :
    Keeps s0 (State.requestOf s a1 a2) := by
  unfold State.requestOf
  repeat' first
    | with_reducible assumption
    | with_reducible apply State.request_keeps
    | with_reducible apply keeps_ite

theorem State.windLeg_keeps {s0 : State} {s : State} {a1 : ℕ} {a2 : ℕ} {a3 : ℕ} {a4 : ℕ} {a5 : ℕ} (h : Keeps s0 s) :
    Keeps s0 (State.windLeg s a1 a2 a3 a4 a5) := by
  unfold State.windLeg
  repeat' first
    | with_reducible assumption
    | with_reducible apply State.setPad_keeps

theorem State.setCan_keeps {s0 : State} {s : State} {a1 : ℕ} {a2 : CanS} (h : Keeps s0 s) :
    Keeps s0 (State.setCan s a1 a2) := by
  unfold State.setCan
  repeat' first
    | with_reducible assumption
    | fail_if_no_progress with_reducible apply keeps_mk (s := _)

theorem State.canSelect_keeps {s0 : State} {s : State} {a1 : ℕ} (h : Keeps s0 s) :
    Keeps s0 (State.canSelect s a1) := by
  unfold State.canSelect
  repeat' first
    | with_reducible assumption
    | with_reducible apply State.wr_keeps
    | with_reducible apply State.setCan_keeps
    | with_reducible apply keeps_ite

theorem State.canIdle_keeps {s0 : State} {s : State} {a1 : ℕ} (h : Keeps s0 s) :
    Keeps s0 (State.canIdle s a1) := by
  unfold State.canIdle
  repeat' first
    | with_reducible assumption
    | with_reducible apply State.setCan_keeps

theorem State.setCanState_keeps {s0 : State} {s : State} {a1 : ℕ} {a2 : ℕ} (h : Keeps s0 s) :
    Keeps s0 (State.setCanState s a1 a2) := by
  unfold State.setCanState
  repeat' first
    | with_reducible assumption
    | with_reducible apply State.wr_keeps

theorem State.canInit_keeps {s0 : State} {s : State} {a1 : ℕ} (h : Keeps s0 s) :
    Keeps s0 (State.canInit s a1) := by
  unfold State.canInit
  repeat' first
    | with_reducible assumption
    | with_reducible apply State.canIdle_keeps
    | with_reducible apply State.wr_keeps
    | with_reducible apply State.setCanState_keeps

theorem State.canStop_keeps {s0 : State} {s : State} {a1 : ℕ} {a2 : Bool} (h : Keeps s0 s) :
    Keeps s0 (State.canStop s a1 a2) := by
  unfold State.canStop
  repeat' first
    | with_reducible assumption
    | with_reducible apply State.canInit_keeps
    | with_reducible apply State.setCanState_keeps
    | with_reducible apply State.wr_keeps
    | with_reducible apply keeps_ite

end Sys2Proof.Machine
end

