-- ==== Sys2Proof/Laws/KeepsOpsC.lean ====
section
/-! SUPPORT. Every shared operation keeps what `Keeps` names: part 3 of 4, in the order in which the operations build on one another. -/

namespace Sys2Proof.Machine

theorem State.canRefuse_keeps {s0 : State} {s : State} {a1 : ℕ} {a2 : ℕ} (h : Keeps s0 s) :
    Keeps s0 (State.canRefuse s a1 a2) := by
  unfold State.canRefuse
  repeat' first
    | with_reducible assumption
    | with_reducible apply State.flag_keeps
    | with_reducible apply State.wr_keeps

theorem State.setCanBit_keeps {s0 : State} {s : State} {a1 : FD} {a2 : ℕ} {a3 : ℕ} {a4 : Bool} (h : Keeps s0 s) :
    Keeps s0 (State.setCanBit s a1 a2 a3 a4) := by
  unfold State.setCanBit
  repeat' first
    | with_reducible assumption
    | with_reducible apply State.wr2_keeps

theorem State.canCancel_keeps {s0 : State} {s : State} {a1 : ℕ} {a2 : ℕ} (h : Keeps s0 s) :
    Keeps s0 (State.canCancel s a1 a2) := by
  unfold State.canCancel
  repeat' first
    | with_reducible assumption
    | with_reducible apply State.flag_keeps
    | with_reducible apply State.setCanBit_keeps
    | with_reducible refine State.onlyIf_keeps ?_ (fun x_ k => ?_)
    | with_reducible apply State.canIdle_keeps
    | with_reducible apply State.wr_keeps
    | with_reducible apply keeps_ite

theorem State.canStore_keeps {s0 : State} {s : State} {a1 : ℕ} {a2 : ℕ} {a3 : ℕ} {a4 : ℕ} {a5 : ℕ} {a6 : List ℕ} (h : Keeps s0 s) :
    Keeps s0 (State.canStore s a1 a2 a3 a4 a5 a6) := by
  unfold State.canStore
  repeat' first
    | with_reducible assumption
    | with_reducible apply State.setBytes_keeps
    | with_reducible apply State.setWord_keeps
    | with_reducible apply State.flag_keeps
    | with_reducible apply State.setCanBit_keeps

theorem State.canBusOff_keeps {s0 : State} {s : State} {a1 : ℕ} (h : Keeps s0 s) :
    Keeps s0 (State.canBusOff s a1) := by
  unfold State.canBusOff
  repeat' first
    | with_reducible assumption
    | with_reducible apply State.wr_keeps
    | with_reducible apply State.canIdle_keeps
    | with_reducible apply State.flag_keeps
    | with_reducible apply State.setCanState_keeps
    | fail_if_no_progress beta_reduce
    | split

theorem State.canCount_keeps {s0 : State} {s : State} {a1 : ℕ} {a2 : ℕ} {a3 : ℕ} (h : Keeps s0 s) :
    Keeps s0 (State.canCount s a1 a2 a3) := by
  unfold State.canCount
  repeat' first
    | with_reducible assumption
    | with_reducible apply State.wr_keeps
    | with_reducible apply State.canBusOff_keeps
    | with_reducible apply State.setCanState_keeps
    | with_reducible refine State.onlyIf_keeps ?_ (fun x_ k => ?_)
    | with_reducible apply State.flag_keeps
    | with_reducible apply keeps_ite
    | fail_if_no_progress beta_reduce
    | split

theorem State.canReceive_keeps {s0 : State} {s : State} {a1 : ℕ} {a2 : ℕ} {a3 : ℕ} {a4 : ℕ} {a5 : List ℕ} (h : Keeps s0 s) :
    Keeps s0 (State.canReceive s a1 a2 a3 a4 a5) := by
  unfold State.canReceive
  repeat' first
    | with_reducible assumption
    | with_reducible apply State.canStore_keeps
    | with_reducible apply State.flag_keeps
    | with_reducible apply keeps_ite
    | lift_lets -underBinder; intro x; try clear_value x
    | fail_if_no_progress beta_reduce
    | split

theorem State.canFrameEnd_keeps {s0 : State} {s : State} {a1 : ℕ} {a2 : Bool} (h : Keeps s0 s) :
    Keeps s0 (State.canFrameEnd s a1 a2) := by
  unfold State.canFrameEnd
  repeat' first
    | with_reducible assumption
    | with_reducible apply State.canIdle_keeps
    | with_reducible refine State.onlyIf_keeps ?_ (fun x_ k => ?_)
    | with_reducible apply State.canInit_keeps

theorem State.canRequest_keeps {s0 : State} {s : State} {a1 : ℕ} {a2 : ℕ} (h : Keeps s0 s) :
    Keeps s0 (State.canRequest s a1 a2) := by
  unfold State.canRequest
  repeat' first
    | with_reducible assumption
    | with_reducible apply State.flag_keeps
    | with_reducible apply State.setCanBit_keeps
    | with_reducible apply keeps_ite

theorem State.canError_keeps {s0 : State} {s : State} {a1 : ℕ} {a2 : ℕ} {a3 : Bool} {a4 : Bool} (h : Keeps s0 s) :
    Keeps s0 (State.canError s a1 a2 a3 a4) := by
  unfold State.canError
  repeat' first
    | with_reducible assumption
    | with_reducible apply State.wr_keeps
    | with_reducible refine State.onlyIf_keeps ?_ (fun x_ k => ?_)
    | with_reducible apply State.setCanState_keeps
    | with_reducible apply State.canIdle_keeps
    | with_reducible apply State.canInit_keeps
    | with_reducible apply State.canFrameEnd_keeps
    | with_reducible apply State.canCount_keeps
    | with_reducible apply keeps_ite

theorem State.canDirChanged_keeps {s0 : State} {s : State} {a1 : ℕ} {a2 : ℕ} {a3 : ℕ} (h : Keeps s0 s) :
    Keeps s0 (State.canDirChanged s a1 a2 a3) := by
  unfold State.canDirChanged
  repeat' first
    | with_reducible assumption
    | with_reducible refine State.onlyIf_keeps ?_ (fun x_ k => ?_)
    | with_reducible apply State.setCanBit_keeps

theorem State.canRelease_keeps {s0 : State} {s : State} {a1 : ℕ} {a2 : ℕ} {a3 : ℕ} (h : Keeps s0 s) :
    Keeps s0 (State.canRelease s a1 a2 a3) := by
  unfold State.canRelease
  repeat' first
    | with_reducible assumption
    | with_reducible apply State.setCanBit_keeps
    | with_reducible refine foldEach_keeps (fun a t k => ?_) _ ?_

theorem State.canClockStop_keeps {s0 : State} {s : State} (h : Keeps s0 s) :
    Keeps s0 (State.canClockStop s) := by
  unfold State.canClockStop
  repeat' first
    | with_reducible assumption
    | with_reducible refine State.onlyIf_keeps ?_ (fun x_ k => ?_)
    | with_reducible apply State.flag_keeps
    | with_reducible apply State.canInit_keeps
    | with_reducible refine foldEach_keeps (fun a t k => ?_) _ ?_

theorem State.canRun_keeps {s0 : State} {s : State} {a1 : ℕ} (h : Keeps s0 s) :
    Keeps s0 (State.canRun s a1) := by
  unfold State.canRun
  repeat' first
    | with_reducible assumption
    | with_reducible apply State.wr_keeps
    | with_reducible apply State.flag_keeps
    | with_reducible apply State.setCanState_keeps
    | with_reducible apply State.canRefuse_keeps
    | with_reducible apply keeps_ite
    | fail_if_no_progress beta_reduce
    | split

theorem State.commitLu_keeps {s0 : State} {s : State} {a1 : ℕ} (h : Keeps s0 s) :
    Keeps s0 (State.commitLu s a1) := by
  unfold State.commitLu
  repeat' first
    | with_reducible assumption
    | with_reducible apply State.wr2_keeps
    | with_reducible apply State.swapReq_keeps
    | with_reducible refine foldEach_keeps (fun a t k => ?_) _ ?_
    | with_reducible apply keeps_ite

theorem State.commitDo4_keeps {s0 : State} {s : State} (h : Keeps s0 s) :
    Keeps s0 (State.commitDo4 s) := by
  unfold State.commitDo4
  repeat' first
    | with_reducible assumption
    | with_reducible apply State.commitLu_keeps
    | with_reducible refine foldEach_keeps (fun a t k => ?_) _ ?_

theorem State.commitDo6_keeps {s0 : State} {s : State} (h : Keeps s0 s) :
    Keeps s0 (State.commitDo6 s) := by
  unfold State.commitDo6
  repeat' first
    | with_reducible assumption
    | with_reducible apply State.wr_keeps
    | with_reducible refine foldEach_keeps (fun a t k => ?_) _ ?_

theorem State.commitTb_keeps {s0 : State} {s : State} {a1 : ℕ} (h : Keeps s0 s) :
    Keeps s0 (State.commitTb s a1) := by
  unfold State.commitTb
  repeat' first
    | with_reducible assumption
    | intro x; refine keeps_cut (s0 := s0) x ?_ ?_; (on_goal 2 => clear_value x); (on_goal 1 => subst x)
    | intro x; try clear_value x
    | with_reducible apply State.writePer_keeps
    | with_reducible apply State.wr_keeps
    | with_reducible apply keeps_ite
    | lift_lets -underBinder; intro x; try clear_value x
    | fail_if_no_progress beta_reduce
    | split

theorem State.commitDt_keeps {s0 : State} {s : State} {a1 : ℕ} (h : Keeps s0 s) :
    Keeps s0 (State.commitDt s a1) := by
  unfold State.commitDt
  repeat' first
    | with_reducible assumption
    | with_reducible apply State.wr_keeps
    | with_reducible apply State.writeMinp_keeps
    | with_reducible apply State.writeDtf_keeps
    | with_reducible apply State.writeDtr_keeps

theorem State.commitLeg_keeps {s0 : State} {s : State} {a1 : ℕ} (h : Keeps s0 s) :
    Keeps s0 (State.commitLeg s a1) := by
  unfold State.commitLeg
  repeat' first
    | with_reducible assumption
    | with_reducible apply State.writeCmp_keeps
    | with_reducible apply State.writeTrg_keeps
    | with_reducible refine foldEach_keeps (fun a t k => ?_) _ ?_
    | fail_if_no_progress beta_reduce
    | split

theorem State.commitDo0_keeps {s0 : State} {s : State} (h : Keeps s0 s) :
    Keeps s0 (State.commitDo0 s) := by
  unfold State.commitDo0
  repeat' first
    | with_reducible assumption
    | with_reducible apply State.commitTb_keeps
    | with_reducible apply State.commitDt_keeps
    | with_reducible apply State.commitLeg_keeps
    | with_reducible refine foldEach_keeps (fun a t k => ?_) _ ?_

theorem State.commitDo1_keeps {s0 : State} {s : State} (h : Keeps s0 s) :
    Keeps s0 (State.commitDo1 s) := by
  unfold State.commitDo1
  repeat' first
    | with_reducible assumption
    | with_reducible apply State.wr_keeps
    | with_reducible refine foldEach_keeps (fun a t k => ?_) _ ?_

theorem State.commitDo2_keeps {s0 : State} {s : State} (h : Keeps s0 s) :
    Keeps s0 (State.commitDo2 s) := by
  unfold State.commitDo2
  repeat' first
    | with_reducible assumption
    | with_reducible apply State.wr_keeps
    | with_reducible refine foldEach_keeps (fun a t k => ?_) _ ?_

theorem State.commitDo3_keeps {s0 : State} {s : State} (h : Keeps s0 s) :
    Keeps s0 (State.commitDo3 s) := by
  unfold State.commitDo3
  repeat' first
    | with_reducible assumption
    | with_reducible apply State.wr_keeps
    | with_reducible refine foldEach_keeps (fun a t k => ?_) _ ?_
    | fail_if_no_progress beta_reduce
    | split

theorem State.commitFc_keeps {s0 : State} {s : State} {a1 : ℕ} (h : Keeps s0 s) :
    Keeps s0 (State.commitFc s a1) := by
  unfold State.commitFc
  repeat' first
    | with_reducible assumption
    | with_reducible apply State.wr_keeps
    | with_reducible apply keeps_ite

theorem State.commitDo5_keeps {s0 : State} {s : State} (h : Keeps s0 s) :
    Keeps s0 (State.commitDo5 s) := by
  unfold State.commitDo5
  repeat' first
    | with_reducible assumption
    | with_reducible apply State.commitFc_keeps
    | with_reducible refine foldEach_keeps (fun a t k => ?_) _ ?_

theorem State.commitCan_keeps {s0 : State} {s : State} {a1 : ℕ} (h : Keeps s0 s) :
    Keeps s0 (State.commitCan s a1) := by
  unfold State.commitCan
  repeat' first
    | with_reducible assumption
    | intro x; try clear_value x
    | with_reducible apply State.wr_keeps
    | with_reducible apply keeps_ite
    | lift_lets -underBinder; intro x; refine keeps_cut (s0 := s0) x ?_ ?_; (on_goal 2 => clear_value x); (on_goal 1 => subst x)
    | fail_if_no_progress beta_reduce
    | split

theorem State.commitDo8_keeps {s0 : State} {s : State} (h : Keeps s0 s) :
    Keeps s0 (State.commitDo8 s) := by
  unfold State.commitDo8
  repeat' first
    | with_reducible assumption
    | with_reducible apply State.commitCan_keeps
    | with_reducible refine foldEach_keeps (fun a t k => ?_) _ ?_

theorem State.commitDo10_keeps {s0 : State} {s : State} (h : Keeps s0 s) :
    Keeps s0 (State.commitDo10 s) := by
  unfold State.commitDo10
  repeat' first
    | with_reducible assumption
    | with_reducible apply State.wr_keeps
    | with_reducible refine foldEach_keeps (fun a t k => ?_) _ ?_

theorem State.commitDo_keeps {s0 : State} {s : State} {a1 : ℕ} (h : Keeps s0 s) :
    Keeps s0 (State.commitDo s a1) := by
  unfold State.commitDo
  repeat' first
    | with_reducible assumption
    | with_reducible apply State.commitDo0_keeps
    | with_reducible apply State.commitDo1_keeps
    | with_reducible apply State.commitDo2_keeps
    | with_reducible apply State.commitDo3_keeps
    | with_reducible apply State.commitDo4_keeps
    | with_reducible apply State.commitDo5_keeps
    | with_reducible apply State.commitDo6_keeps
    | with_reducible apply State.commitDo8_keeps
    | with_reducible apply State.commitDo10_keeps
    | fail_if_no_progress beta_reduce
    | split

theorem State.commitEnd_keeps {s0 : State} {s : State} {a1 : ℕ} (h : Keeps s0 s) :
    Keeps s0 (State.commitEnd s a1) := by
  unfold State.commitEnd
  repeat' first
    | with_reducible assumption
    | with_reducible apply State.wr_keeps
    | with_reducible apply State.flag_keeps
    | with_reducible apply State.commitDo_keeps
    | with_reducible apply keeps_ite
    | fail_if_no_progress beta_reduce
    | split

theorem State.commitStart_keeps {s0 : State} {s : State} {a1 : ℕ} (h : Keeps s0 s) :
    Keeps s0 (State.commitStart s a1) := by
  unfold State.commitStart
  repeat' first
    | with_reducible assumption
    | with_reducible apply State.flag_keeps
    | with_reducible apply keeps_ite

theorem State.winWrite_keeps {s0 : State} {s : State} {a1 : Master} {a2 : ℕ} {a3 : State → State} (h : Keeps s0 s) (h3 : ∀ t, Keeps s0 t → Keeps s0 (a3 t)) :
    Keeps s0 (State.winWrite s a1 a2 a3) := by
  unfold State.winWrite
  repeat' first
    | with_reducible assumption
    | with_reducible refine h3 _ ?_
    | with_reducible refine State.busWrite_keeps ?_ (fun x_ k => ?_)
    | with_reducible apply State.commitEnd_keeps

theorem State.pauseWrite_keeps {s0 : State} {s : State} {a1 : Master} {a2 : Bool} (h : Keeps s0 s) :
    Keeps s0 (State.pauseWrite s a1 a2) := by
  unfold State.pauseWrite
  repeat' first
    | with_reducible assumption
    | with_reducible apply State.flag_keeps
    | with_reducible apply State.wr_keeps
    | with_reducible apply keeps_ite

theorem State.setCpx_keeps {s0 : State} {s : State} {a1 : CpxS} (h : Keeps s0 s) :
    Keeps s0 (State.setCpx s a1) := by
  unfold State.setCpx
  repeat' first
    | with_reducible assumption
    | fail_if_no_progress with_reducible apply keeps_mk (s := _)

theorem State.cpxLog_keeps {s0 : State} {s : State} {a1 : ℕ} (h : Keeps s0 s) :
    Keeps s0 (State.cpxLog s a1) := by
  unfold State.cpxLog
  repeat' first
    | with_reducible assumption
    | with_reducible apply State.logEv_keeps

theorem State.lastMismatch_keeps {s0 : State} {s : State} {a1 : ℕ} {a2 : ℕ} {a3 : ℕ} {a4 : ℕ} (h : Keeps s0 s) :
    Keeps s0 (State.lastMismatch s a1 a2 a3 a4) := by
  unfold State.lastMismatch
  repeat' first
    | with_reducible assumption
    | with_reducible apply State.wr_keeps

theorem State.countOut_keeps {s0 : State} {s : State} {a1 : ℕ} (h : Keeps s0 s) :
    Keeps s0 (State.countOut s a1) := by
  unfold State.countOut
  repeat' first
    | with_reducible assumption
    | with_reducible apply State.bump_keeps
    | with_reducible apply State.setCpx_keeps

theorem State.latent_keeps {s0 : State} {s : State} {a1 : ℕ} (h : Keeps s0 s) :
    Keeps s0 (State.latent s a1) := by
  unfold State.latent
  repeat' first
    | with_reducible assumption
    | with_reducible apply State.wr_keeps
    | with_reducible apply State.setCpx_keeps
    | with_reducible apply State.cpxLog_keeps
    | with_reducible apply State.lastMismatch_keeps
    | with_reducible apply State.countOut_keeps
    | with_reducible apply State.flag_keeps

theorem State.sendReport_keeps {s0 : State} {s : State} (h : Keeps s0 s) :
    Keeps s0 (State.sendReport s) := by
  unfold State.sendReport
  repeat' first
    | with_reducible assumption
    | with_reducible apply State.cpxReport_keeps
    | fail_if_no_progress beta_reduce
    | split

theorem State.toMode_keeps {s0 : State} {s : State} {a1 : ℕ} {a2 : ℕ} (h : Keeps s0 s) :
    Keeps s0 (State.toMode s a1 a2) := by
  unfold State.toMode
  repeat' first
    | with_reducible assumption
    | with_reducible apply State.sendReport_keeps
    | with_reducible apply State.wr_keeps

theorem State.enterTest_keeps {s0 : State} {s : State} {a1 : Bool} {a2 : Bool} (h : Keeps s0 s) :
    Keeps s0 (State.enterTest s a1 a2) := by
  unfold State.enterTest
  repeat' first
    | with_reducible assumption
    | with_reducible apply State.toMode_keeps
    | with_reducible apply State.setCpx_keeps

theorem State.disagree_keeps {s0 : State} {s : State} {a1 : Bool} (h : Keeps s0 s) :
    Keeps s0 (State.disagree s a1) := by
  unfold State.disagree
  repeat' first
    | with_reducible assumption
    | with_reducible apply State.enterTest_keeps
    | with_reducible apply State.cpxLog_keeps
    | with_reducible apply State.flag_keeps

theorem State.pairMismatch_keeps {s0 : State} {s : State} {a1 : Bool} (h : Keeps s0 s) :
    Keeps s0 (State.pairMismatch s a1) := by
  unfold State.pairMismatch
  repeat' first
    | with_reducible assumption
    | with_reducible apply State.enterTest_keeps
    | with_reducible apply State.cpxLog_keeps
    | with_reducible apply State.flag_keeps

theorem State.signatures_keeps {s0 : State} {s : State} {a1 : ℕ → ℕ} (h : Keeps s0 s) :
    Keeps s0 (State.signatures s a1) := by
  unfold State.signatures
  repeat' first
    | with_reducible assumption
    | intro x; try clear_value x
    | with_reducible apply State.latent_keeps
    | with_reducible apply State.disagree_keeps
    | with_reducible apply State.lastMismatch_keeps
    | with_reducible apply State.pairMismatch_keeps
    | with_reducible apply keeps_ite
    | lift_lets -underBinder; intro x; try clear_value x
    | fail_if_no_progress beta_reduce
    | split

theorem State.clearCount_keeps {s0 : State} {s : State} {a1 : ℕ} (h : Keeps s0 s) :
    Keeps s0 (State.clearCount s a1) := by
  unfold State.clearCount
  repeat' first
    | with_reducible assumption
    | with_reducible apply State.setCpx_keeps

theorem State.retirePhys_keeps {s0 : State} {s : State} {a1 : ℕ} (h : Keeps s0 s) :
    Keeps s0 (State.retirePhys s a1) := by
  unfold State.retirePhys
  repeat' first
    | with_reducible assumption
    | with_reducible apply State.flag_keeps
    | with_reducible apply State.wr_keeps
    | fail_if_no_progress with_reducible apply keeps_mk (s := _)

theorem State.splitReset_keeps {s0 : State} {s : State} {a1 : ℕ} (h : Keeps s0 s) :
    Keeps s0 (State.splitReset s a1) := by
  unfold State.splitReset
  repeat' first
    | with_reducible assumption
    | with_reducible apply State.advanceEpoch_keeps
    | with_reducible apply State.dFlush_keeps
    | with_reducible refine State.onlyIf_keeps ?_ (fun x_ k => ?_)
    | with_reducible apply State.setCpx_keeps

theorem State.injWrite_keeps {s0 : State} {s : State} {a1 : ℕ} {a2 : ℕ} (h : Keeps s0 s) :
    Keeps s0 (State.injWrite s a1 a2) := by
  unfold State.injWrite
  repeat' first
    | with_reducible assumption
    | with_reducible apply State.wr_keeps
    | with_reducible apply State.flag_keeps
    | with_reducible apply keeps_ite

theorem State.splitWrite_keeps {s0 : State} {s : State} (h : Keeps s0 s) :
    Keeps s0 (State.splitWrite s) := by
  unfold State.splitWrite
  repeat' first
    | with_reducible assumption
    | with_reducible apply State.sendReport_keeps
    | with_reducible apply State.flag_keeps
    | with_reducible apply keeps_ite

theorem State.joinRdyWrite_keeps {s0 : State} {s : State} {a1 : Master} (h : Keeps s0 s) :
    Keeps s0 (State.joinRdyWrite s a1) := by
  unfold State.joinRdyWrite
  repeat' first
    | with_reducible assumption
    | with_reducible apply State.wr_keeps
    | with_reducible apply State.dFlush_keeps
    | with_reducible apply keeps_ite
    | fail_if_no_progress beta_reduce
    | split

theorem State.moveChecker_keeps {s0 : State} {s : State} (h : Keeps s0 s) :
    Keeps s0 (State.moveChecker s) := by
  unfold State.moveChecker
  repeat' first
    | with_reducible assumption
    | intro x; refine keeps_cut (s0 := s0) x ?_ ?_; (on_goal 2 => clear_value x); (on_goal 1 => subst x)
    | intro x; try clear_value x
    | with_reducible apply State.flag_keeps
    | with_reducible apply State.wr_keeps
    | with_reducible apply State.toMode_keeps
    | with_reducible apply State.setCpx_keeps
    | with_reducible apply State.sendReport_keeps
    | with_reducible apply keeps_ite
    | fail_if_no_progress with_reducible apply keeps_mk (s := _)
    | lift_lets -underBinder; intro x; refine keeps_cut (s0 := s0) x ?_ ?_; (on_goal 2 => clear_value x); (on_goal 1 => subst x)
    | fail_if_no_progress beta_reduce
    | split

theorem State.checkerFault_keeps {s0 : State} {s : State} (h : Keeps s0 s) :
    Keeps s0 (State.checkerFault s) := by
  unfold State.checkerFault
  repeat' first
    | with_reducible assumption
    | with_reducible apply State.cpxLog_keeps
    | with_reducible apply State.flag_keeps
    | with_reducible apply State.setCpx_keeps
    | with_reducible apply State.moveChecker_keeps
    | with_reducible apply keeps_ite

theorem State.cpxHalt_keeps {s0 : State} {s : State} {a1 : ℕ} (h : Keeps s0 s) :
    Keeps s0 (State.cpxHalt s a1) := by
  unfold State.cpxHalt
  repeat' first
    | with_reducible assumption
    | with_reducible apply State.toMode_keeps
    | with_reducible apply State.wr_keeps

theorem State.outvote_keeps {s0 : State} {s : State} {a1 : ℕ} (h : Keeps s0 s) :
    Keeps s0 (State.outvote s a1) := by
  unfold State.outvote
  repeat' first
    | with_reducible assumption
    | with_reducible apply State.wr_keeps
    | with_reducible apply State.setCpx_keeps
    | with_reducible apply State.cpxLog_keeps
    | with_reducible apply State.countOut_keeps
    | with_reducible apply State.flag_keeps

theorem State.showTop_keeps {s0 : State} {s : State} {a1 : ℕ} (h : Keeps s0 s) :
    Keeps s0 (State.showTop s a1) := by
  unfold State.showTop
  repeat' first
    | with_reducible assumption
    | with_reducible apply State.setCpx_keeps
    | with_reducible apply State.wr_keeps
    | with_reducible apply keeps_ite
    | fail_if_no_progress beta_reduce
    | split

theorem State.crstWrite_keeps {s0 : State} {s : State} {a1 : Master} {a2 : ℕ} (h : Keeps s0 s) :
    Keeps s0 (State.crstWrite s a1 a2) := by
  unfold State.crstWrite
  repeat' first
    | with_reducible assumption
    | with_reducible apply State.wr_keeps
    | with_reducible apply State.setCpx_keeps
    | with_reducible apply State.splitReset_keeps
    | with_reducible apply State.flag_keeps
    | with_reducible apply keeps_ite
    | fail_if_no_progress beta_reduce
    | split

theorem State.showMtip_keeps {s0 : State} {s : State} {a1 : ℕ} (h : Keeps s0 s) :
    Keeps s0 (State.showMtip s a1) := by
  unfold State.showMtip
  repeat' first
    | with_reducible assumption
    | with_reducible apply State.setCpx_keeps

theorem State.promoteDone_keeps {s0 : State} {s : State} (h : Keeps s0 s) :
    Keeps s0 (State.promoteDone s) := by
  unfold State.promoteDone
  repeat' first
    | with_reducible assumption
    | with_reducible apply State.toMode_keeps
    | with_reducible apply State.cpxLog_keeps
    | with_reducible apply State.retirePhys_keeps
    | with_reducible apply State.clearCount_keeps
    | with_reducible apply State.tcmCopy_keeps
    | with_reducible apply State.flag_keeps
    | with_reducible apply State.wr_keeps
    | with_reducible apply keeps_ite

theorem State.promote_keeps {s0 : State} {s : State} {a1 : ℕ} {a2 : ℕ} (h : Keeps s0 s) :
    Keeps s0 (State.promote s a1 a2) := by
  unfold State.promote
  repeat' first
    | with_reducible assumption
    | with_reducible apply State.toMode_keeps
    | with_reducible apply State.setCpx_keeps

theorem State.retireCore_keeps {s0 : State} {s : State} {a1 : ℕ} (h : Keeps s0 s) :
    Keeps s0 (State.retireCore s a1) := by
  unfold State.retireCore
  repeat' first
    | with_reducible assumption
    | with_reducible apply State.cpxLog_keeps
    | with_reducible apply State.retirePhys_keeps

theorem State.retireAtSync_keeps {s0 : State} {s : State} {a1 : ℕ} (h : Keeps s0 s) :
    Keeps s0 (State.retireAtSync s a1) := by
  unfold State.retireAtSync
  repeat' first
    | with_reducible assumption
    | with_reducible apply State.setCpx_keeps
    | with_reducible apply State.retireCore_keeps
    | with_reducible apply State.promote_keeps
    | with_reducible apply State.toMode_keeps
    | with_reducible apply keeps_ite

theorem State.irqUpdate_keeps {s0 : State} {s : State} (h : Keeps s0 s) :
    Keeps s0 (State.irqUpdate s) := by
  unfold State.irqUpdate
  repeat' first
    | with_reducible assumption
    | with_reducible apply State.wr_keeps
    | with_reducible apply State.showTop_keeps
    | with_reducible refine foldEach_keeps (fun a t k => ?_) _ ?_

theorem State.joinWrite_keeps {s0 : State} {s : State} {a1 : Master} (h : Keeps s0 s) :
    Keeps s0 (State.joinWrite s a1) := by
  unfold State.joinWrite
  repeat' first
    | with_reducible assumption
    | with_reducible apply State.flag_keeps
    | with_reducible apply keeps_ite

theorem State.resync_keeps {s0 : State} {s : State} {a1 : ℕ} (h : Keeps s0 s) :
    Keeps s0 (State.resync s a1) := by
  unfold State.resync
  repeat' first
    | with_reducible assumption
    | with_reducible apply State.setTcmByte_keeps
    | with_reducible apply State.wr_keeps
    | with_reducible apply State.flag_keeps
    | with_reducible apply State.setCpx_keeps
    | with_reducible refine foldEach_keeps (fun a t k => ?_) _ ?_
    | fail_if_no_progress with_reducible apply keeps_mk (s := _)

theorem State.rejoinReset_keeps {s0 : State} {s : State} (h : Keeps s0 s) :
    Keeps s0 (State.rejoinReset s) := by
  unfold State.rejoinReset
  repeat' first
    | with_reducible assumption
    | with_reducible apply State.resync_keeps
    | with_reducible refine foldEach_keeps (fun a t k => ?_) _ ?_
    | with_reducible apply keeps_ite

theorem State.syncRearm_keeps {s0 : State} {s : State} (h : Keeps s0 s) :
    Keeps s0 (State.syncRearm s) := by
  unfold State.syncRearm
  repeat' first
    | with_reducible assumption
    | with_reducible apply State.setCpx_keeps

theorem State.latchCfg_keeps {s0 : State} {s : State} (h : Keeps s0 s) :
    Keeps s0 (State.latchCfg s) := by
  unfold State.latchCfg
  repeat' first
    | with_reducible assumption
    | with_reducible apply State.setCpx_keeps
    | with_reducible refine State.onlyIf_keeps ?_ (fun x_ k => ?_)
    | with_reducible apply State.flag_keeps

theorem State.joinNow_keeps {s0 : State} {s : State} (h : Keeps s0 s) :
    Keeps s0 (State.joinNow s) := by
  unfold State.joinNow
  repeat' first
    | with_reducible assumption
    | with_reducible apply State.toMode_keeps
    | with_reducible apply State.setCpx_keeps
    | with_reducible apply State.tcmCopy_keeps
    | with_reducible apply State.dFlush_keeps
    | with_reducible apply State.wr_keeps
    | with_reducible apply State.cachesInvalid_keeps
    | with_reducible apply keeps_ite

theorem State.splitNow_keeps {s0 : State} {s : State} (h : Keeps s0 s) :
    Keeps s0 (State.splitNow s) := by
  unfold State.splitNow
  repeat' first
    | with_reducible assumption
    | with_reducible apply State.wr_keeps
    | with_reducible apply State.setCpx_keeps
    | with_reducible apply State.toMode_keeps
    | with_reducible apply State.advanceEpoch_keeps
    | with_reducible apply State.cachesInvalid_keeps
    | with_reducible apply keeps_ite

theorem State.rejoinCores_keeps {s0 : State} {s : State} (h : Keeps s0 s) :
    Keeps s0 (State.rejoinCores s) := by
  unfold State.rejoinCores
  repeat' first
    | with_reducible assumption
    | with_reducible apply State.retireAtSync_keeps
    | with_reducible apply State.resync_keeps
    | with_reducible refine foldEach_keeps (fun a t k => ?_) _ ?_
    | with_reducible apply keeps_ite

theorem State.syncSteps_keeps {s0 : State} {s : State} (h : Keeps s0 s) :
    Keeps s0 (State.syncSteps s) := by
  unfold State.syncSteps
  repeat' first
    | with_reducible assumption
    | with_reducible apply State.latchCfg_keeps
    | with_reducible apply State.rejoinReset_keeps
    | with_reducible apply State.joinNow_keeps
    | with_reducible apply State.splitNow_keeps
    | with_reducible apply State.rejoinCores_keeps
    | with_reducible apply State.promoteDone_keeps

theorem State.resumeWith_keeps {s0 : State} {s : State} {a1 : List ℕ} {a2 : Bool} (h : Keeps s0 s) :
    Keeps s0 (State.resumeWith s a1 a2) := by
  unfold State.resumeWith
  repeat' first
    | with_reducible assumption
    | with_reducible apply State.cpxHalt_keeps
    | with_reducible apply State.toMode_keeps
    | with_reducible apply State.promote_keeps
    | with_reducible apply keeps_ite
    | lift_lets -underBinder; intro x; try clear_value x
    | fail_if_no_progress beta_reduce
    | split

theorem State.testDone_keeps {s0 : State} {s : State} {a1 : ℕ} (h : Keeps s0 s) :
    Keeps s0 (State.testDone s a1) := by
  unfold State.testDone
  repeat' first
    | with_reducible assumption
    | with_reducible apply State.retireCore_keeps
    | with_reducible apply State.cpxLog_keeps
    | with_reducible apply State.retirePhys_keeps
    | with_reducible apply State.setCpx_keeps
    | with_reducible apply State.cpxHalt_keeps
    | with_reducible apply State.flag_keeps
    | with_reducible apply State.resumeWith_keeps
    | with_reducible refine foldEach_keeps (fun a t k => ?_) _ ?_
    | with_reducible apply keeps_ite

theorem State.adtApply_keeps {s0 : State} {s : State} {a1 : State} {a2 : ℕ} {a3 : Option ℕ} {a4 : ℕ} {a5 : FD} (h : Keeps s0 s) :
    Keeps s0 (State.adtApply s a1 a2 a3 a4 a5) := by
  unfold State.adtApply
  repeat' first
    | with_reducible assumption
    | with_reducible refine State.onlyIf_keeps ?_ (fun x_ k => ?_)
    | with_reducible apply State.wrI_keeps
    | with_reducible apply State.noteFields_keeps
    | with_reducible apply State.flag_keeps
    | fail_if_no_progress beta_reduce
    | split

theorem State.adtUpdate_keeps {s0 : State} {s : State} {a1 : ℕ} (h : Keeps s0 s) :
    Keeps s0 (State.adtUpdate s a1) := by
  unfold State.adtUpdate
  repeat' first
    | with_reducible assumption
    | with_reducible apply State.setLeg_keeps
    | with_reducible apply State.adtApply_keeps
    | with_reducible apply keeps_ite

theorem State.showAdt_keeps {s0 : State} {s : State} {a1 : ℕ} (h : Keeps s0 s) :
    Keeps s0 (State.showAdt s a1) := by
  unfold State.showAdt
  repeat' first
    | with_reducible assumption
    | with_reducible apply State.wr_keeps

theorem State.swnMiss_keeps {s0 : State} {s : State} {a1 : ℕ} (h : Keeps s0 s) :
    Keeps s0 (State.swnMiss s a1) := by
  unfold State.swnMiss
  repeat' first
    | with_reducible assumption
    | with_reducible apply State.showPol_keeps
    | with_reducible apply State.setLeg_keeps
    | with_reducible apply State.showAdt_keeps
    | with_reducible apply State.flag_keeps
    | with_reducible apply keeps_ite

theorem State.natural_keeps {s0 : State} {s : State} {a1 : ℕ} {a2 : ℕ} {a3 : SwnWin} {a4 : Bool} {a5 : ℕ} (h : Keeps s0 s) :
    Keeps s0 (State.natural s a1 a2 a3 a4 a5) := by
  unfold State.natural
  repeat' first
    | with_reducible assumption
    | with_reducible apply State.setLeg_keeps
    | with_reducible apply State.wr_keeps
    | with_reducible apply State.showPol_keeps
    | with_reducible apply keeps_ite

theorem State.classSwn_keeps {s0 : State} {s : State} {a1 : ℕ} {a2 : Bool} {a3 : ℕ} (h : Keeps s0 s) :
    Keeps s0 (State.classSwn s a1 a2 a3) := by
  unfold State.classSwn
  repeat' first
    | with_reducible assumption
    | with_reducible apply State.natural_keeps
    | with_reducible apply State.setLeg_keeps
    | with_reducible apply State.bump_keeps
    | with_reducible apply State.flag_keeps
    | with_reducible apply keeps_ite
    | fail_if_no_progress beta_reduce
    | split

theorem State.adtClear_keeps {s0 : State} {s : State} {a1 : ℕ} (h : Keeps s0 s) :
    Keeps s0 (State.adtClear s a1) := by
  unfold State.adtClear
  repeat' first
    | with_reducible assumption
    | with_reducible apply State.wr_keeps
    | with_reducible apply State.showAdt_keeps
    | with_reducible apply State.setLeg_keeps
    | with_reducible apply keeps_ite

theorem State.padEdge_keeps {s0 : State} {s : State} {a1 : ℕ} (h : Keeps s0 s) :
    Keeps s0 (State.padEdge s a1) := by
  unfold State.padEdge
  repeat' first
    | with_reducible assumption
    | with_reducible apply State.setPad_keeps

theorem State.adtEnable_keeps {s0 : State} {s : State} {a1 : ℕ} (h : Keeps s0 s) :
    Keeps s0 (State.adtEnable s a1) := by
  unfold State.adtEnable
  repeat' first
    | with_reducible assumption
    | with_reducible apply State.flag_keeps
    | with_reducible apply State.showAdt_keeps
    | with_reducible apply State.setLeg_keeps
    | with_reducible apply keeps_ite

theorem State.boundary_keeps {s0 : State} {s : State} {a1 : ℕ} (h : Keeps s0 s) :
    Keeps s0 (State.boundary s a1) := by
  unfold State.boundary
  repeat' first
    | with_reducible assumption
    | with_reducible apply State.fcBoundaries_keeps
    | with_reducible apply State.adtUpdate_keeps
    | with_reducible refine foldEach_keeps (fun a t k => ?_) _ ?_

theorem State.startDue_keeps {s0 : State} {s : State} {a1 : ℕ} (h : Keeps s0 s) :
    Keeps s0 (State.startDue s a1) := by
  unfold State.startDue
  repeat' first
    | with_reducible assumption
    | with_reducible apply State.startTb_keeps
    | with_reducible refine State.onlyIf_keeps ?_ (fun x_ k => ?_)
    | with_reducible apply State.isoAlign_keeps
    | with_reducible apply keeps_ite

theorem State.carrierEdge_keeps {s0 : State} {s : State} (h : Keeps s0 s) :
    Keeps s0 (State.carrierEdge s) := by
  unfold State.carrierEdge
  repeat' first
    | with_reducible assumption
    | with_reducible refine State.onlyIf_keeps ?_ (fun x_ k => ?_)
    | with_reducible apply State.startDue_keeps
    | with_reducible apply State.tbEdge_keeps
    | with_reducible apply State.legEdge_keeps
    | with_reducible refine foldEach_keeps (fun a t k => ?_) _ ?_

theorem State.syncOuts_keeps {s0 : State} {s : State} {a1 : ℕ} (h : Keeps s0 s) :
    Keeps s0 (State.syncOuts s a1) := by
  unfold State.syncOuts
  repeat' first
    | with_reducible assumption
    | with_reducible refine State.onlyIf_keeps ?_ (fun x_ k => ?_)
    | with_reducible apply State.syncEvent_keeps
    | with_reducible refine foldEach_keeps (fun a t k => ?_) _ ?_

theorem State.zroEvent_keeps {s0 : State} {s : State} {a1 : ℕ} (h : Keeps s0 s) :
    Keeps s0 (State.zroEvent s a1) := by
  unfold State.zroEvent
  repeat' first
    | with_reducible assumption
    | with_reducible apply State.setTb_keeps
    | with_reducible apply State.edgeWork_keeps
    | with_reducible apply State.takeEvent_keeps
    | with_reducible apply State.irqEv_keeps
    | with_reducible apply State.ssiRequests_keeps
    | with_reducible apply State.raisePulse_keeps
    | with_reducible apply State.syncOuts_keeps
    | with_reducible refine State.onlyIf_keeps ?_ (fun x_ k => ?_)
    | with_reducible apply State.boundary_keeps
    | with_reducible refine foldEach_keeps (fun a t k => ?_) _ ?_

theorem State.prdEvent_keeps {s0 : State} {s : State} {a1 : ℕ} (h : Keeps s0 s) :
    Keeps s0 (State.prdEvent s a1) := by
  unfold State.prdEvent
  repeat' first
    | with_reducible assumption
    | with_reducible apply State.setTb_keeps
    | with_reducible apply State.edgeWork_keeps
    | with_reducible apply State.takeEvent_keeps
    | with_reducible apply State.raisePulse_keeps
    | with_reducible refine State.onlyIf_keeps ?_ (fun x_ k => ?_)
    | with_reducible apply State.boundary_keeps
    | with_reducible refine foldEach_keeps (fun a t k => ?_) _ ?_

theorem State.chEmit_keeps {s0 : State} {s : State} {a1 : ℕ} {a2 : ChSent} (h : Keeps s0 s) :
    Keeps s0 (State.chEmit s a1 a2) := by
  unfold State.chEmit
  repeat' first
    | with_reducible assumption
    | fail_if_no_progress with_reducible apply keeps_mk (s := _)
    | fail_if_no_progress beta_reduce
    | split

theorem State.chForward_keeps {s0 : State} {s : State} {a1 : ℕ} {a2 : ChFrame} {a3 : List ℕ} (h : Keeps s0 s) :
    Keeps s0 (State.chForward s a1 a2 a3) := by
  unfold State.chForward
  repeat' first
    | with_reducible assumption
    | with_reducible apply State.chEmit_keeps
    | with_reducible apply keeps_ite

theorem State.chFrame_keeps {s0 : State} {s : State} {a1 : ℕ} {a2 : ChFrame} {a3 : Bool} {a4 : ℕ} {a5 : State → List ℕ → State × List ℕ} {a6 : State → List ℕ → State} (h : Keeps s0 s) (h5 : ∀ t q0, Keeps s0 t → Keeps s0 (a5 t q0).1) (h6 : ∀ t q0, Keeps s0 t → Keeps s0 (a6 t q0)) :
    Keeps s0 (State.chFrame s a1 a2 a3 a4 a5 a6) := by
  unfold State.chFrame
  repeat' first
    | with_reducible assumption
    | with_reducible refine h5 _ _ ?_
    | with_reducible refine h6 _ _ ?_
    | with_reducible apply State.bump_keeps
    | with_reducible apply State.flag_keeps
    | with_reducible apply State.chForward_keeps
    | with_reducible apply keeps_ite

theorem keepPay_keeps {s0 : State} {a0 : State → List ℕ → State} {s : State} {a2 : List ℕ} (h : Keeps s0 s) (h0 : ∀ t q0, Keeps s0 t → Keeps s0 (a0 t q0)) :
    Keeps s0 (keepPay a0 s a2).1 := by
  unfold keepPay
  repeat' first
    | with_reducible assumption
    | with_reducible refine h0 _ _ ?_

theorem State.mcCommit_keeps {s0 : State} {s : State} {a1 : List ℕ} (h : Keeps s0 s) :
    Keeps s0 (State.mcCommit s a1) := by
  unfold State.mcCommit
  repeat' first
    | with_reducible assumption
    | with_reducible refine State.onlyIf_keeps ?_ (fun x_ k => ?_)
    | with_reducible apply State.wr_keeps

theorem State.chResetIn_keeps {s0 : State} {s : State} {a1 : ℕ} (h : Keeps s0 s) :
    Keeps s0 (State.chResetIn s a1) := by
  unfold State.chResetIn
  repeat' first
    | with_reducible assumption
    | fail_if_no_progress with_reducible apply keeps_mk (s := _)

theorem State.setChPort_keeps {s0 : State} {s : State} {a1 : ℕ} {a2 : ChPort} (h : Keeps s0 s) :
    Keeps s0 (State.setChPort s a1 a2) := by
  unfold State.setChPort
  repeat' first
    | with_reducible assumption
    | with_reducible apply keeps_ite
    | fail_if_no_progress with_reducible apply keeps_mk (s := _)

theorem State.setWrap_keeps {s0 : State} {s : State} {a1 : ℕ} {a2 : Bool} (h : Keeps s0 s) :
    Keeps s0 (State.setWrap s a1 a2) := by
  unfold State.setWrap
  repeat' first
    | with_reducible assumption
    | with_reducible apply State.flag_keeps
    | with_reducible apply State.wr_keeps

theorem State.chUnwrapIf_keeps {s0 : State} {s : State} {a1 : ℕ} (h : Keeps s0 s) :
    Keeps s0 (State.chUnwrapIf s a1) := by
  unfold State.chUnwrapIf
  repeat' first
    | with_reducible assumption
    | with_reducible refine State.onlyIf_keeps ?_ (fun x_ k => ?_)
    | with_reducible apply State.setWrap_keeps

theorem State.chNewRing_keeps {s0 : State} {s : State} (h : Keeps s0 s) :
    Keeps s0 (State.chNewRing s) := by
  unfold State.chNewRing
  repeat' first
    | with_reducible assumption
    | fail_if_no_progress with_reducible apply keeps_mk (s := _)

theorem State.setUp_keeps {s0 : State} {s : State} {a1 : ℕ} {a2 : Bool} (h : Keeps s0 s) :
    Keeps s0 (State.setUp s a1 a2) := by
  unfold State.setUp
  repeat' first
    | with_reducible assumption
    | with_reducible apply State.flag_keeps
    | with_reducible apply State.wr_keeps

theorem State.chPortDown_keeps {s0 : State} {s : State} {a1 : ℕ} (h : Keeps s0 s) :
    Keeps s0 (State.chPortDown s a1) := by
  unfold State.chPortDown
  repeat' first
    | with_reducible assumption
    | with_reducible refine State.onlyIf_keeps ?_ (fun x_ k => ?_)
    | with_reducible apply State.setUp_keeps
    | with_reducible apply State.setWrap_keeps
    | with_reducible apply State.setChPort_keeps
    | with_reducible apply keeps_ite

theorem State.csyncArm_keeps {s0 : State} {s : State} {a1 : ℕ} (h : Keeps s0 s) :
    Keeps s0 (State.csyncArm s a1) := by
  unfold State.csyncArm
  repeat' first
    | with_reducible assumption
    | with_reducible apply State.wr_keeps
    | with_reducible apply State.flag_keeps
    | with_reducible apply keeps_ite

theorem State.chSend_keeps {s0 : State} {s : State} {a1 : ℕ} {a2 : ℕ} {a3 : List ℕ} (h : Keeps s0 s) :
    Keeps s0 (State.chSend s a1 a2 a3) := by
  unfold State.chSend
  repeat' first
    | with_reducible assumption
    | with_reducible apply State.chEmit_keeps
    | fail_if_no_progress with_reducible apply keeps_mk (s := _)

theorem State.chResetOne_keeps {s0 : State} {s : State} {a1 : ℕ} (h : Keeps s0 s) :
    Keeps s0 (State.chResetOne s a1) := by
  unfold State.chResetOne
  repeat' first
    | with_reducible assumption
    | with_reducible apply State.wr_keeps
    | with_reducible apply State.chSend_keeps
    | with_reducible apply State.flag_keeps
    | with_reducible apply keeps_ite

theorem State.chTokenVisit_keeps {s0 : State} {s : State} {a1 : List ℕ} (h : Keeps s0 s) :
    Keeps s0 (State.chTokenVisit s a1).1 := by
  unfold State.chTokenVisit
  repeat' first
    | with_reducible assumption
    | intro x; refine keeps_cut (s0 := s0) x ?_ ?_; (on_goal 2 => clear_value x); (on_goal 1 => subst x)
    | intro x; try clear_value x
    | with_reducible apply State.wr_keeps
    | with_reducible apply State.flag_keeps
    | with_reducible apply keeps_ite
    | lift_lets -underBinder; intro x; try clear_value x
    | fail_if_no_progress beta_reduce
    | split

theorem State.sendCensus_keeps {s0 : State} {s : State} (h : Keeps s0 s) :
    Keeps s0 (State.sendCensus s) := by
  unfold State.sendCensus
  repeat' first
    | with_reducible assumption
    | with_reducible apply State.chSend_keeps
    | fail_if_no_progress with_reducible apply keeps_mk (s := _)

theorem State.retireLane_keeps {s0 : State} {s : State} {a1 : ℕ} {a2 : ℕ} {a3 : ℕ} (h : Keeps s0 s) :
    Keeps s0 (State.retireLane s a1 a2 a3) := by
  unfold State.retireLane
  repeat' first
    | with_reducible assumption
    | with_reducible apply State.flag_keeps
    | fail_if_no_progress with_reducible apply keeps_mk (s := _)

theorem State.chShowLock_keeps {s0 : State} {s : State} (h : Keeps s0 s) :
    Keeps s0 (State.chShowLock s) := by
  unfold State.chShowLock
  repeat' first
    | with_reducible assumption
    | with_reducible refine State.onlyIf_keeps ?_ (fun x_ k => ?_)
    | with_reducible apply State.wr_keeps

theorem State.chCensusHome_keeps {s0 : State} {s : State} {a1 : ℕ} (h : Keeps s0 s) :
    Keeps s0 (State.chCensusHome s a1) := by
  unfold State.chCensusHome
  repeat' first
    | with_reducible assumption
    | with_reducible apply State.wr_keeps
    | with_reducible refine State.onlyIf_keeps ?_ (fun x_ k => ?_)
    | with_reducible apply State.flag_keeps
    | with_reducible refine foldEach_keeps (fun a t k => ?_) _ ?_
    | with_reducible apply keeps_ite
    | fail_if_no_progress with_reducible apply keeps_mk (s := _)

theorem State.carrierSync_keeps {s0 : State} {s : State} (h : Keeps s0 s) :
    Keeps s0 (State.carrierSync s) := by
  unfold State.carrierSync
  repeat' first
    | with_reducible assumption
    | with_reducible refine State.onlyIf_keeps ?_ (fun x_ k => ?_)
    | with_reducible apply State.syncEvent_keeps
    | with_reducible refine foldEach_keeps (fun a t k => ?_) _ ?_

theorem State.csyncRaise_keeps {s0 : State} {s : State} {a1 : ℕ} (h : Keeps s0 s) :
    Keeps s0 (State.csyncRaise s a1) := by
  unfold State.csyncRaise
  repeat' first
    | with_reducible assumption
    | with_reducible apply State.carrierSync_keeps
    | with_reducible apply State.wr_keeps
    | with_reducible apply keeps_ite

theorem State.mcState_keeps {s0 : State} {s : State} {a1 : ℕ} (h : Keeps s0 s) :
    Keeps s0 (State.mcState s a1) := by
  unfold State.mcState
  repeat' first
    | with_reducible assumption
    | with_reducible apply State.flag_keeps
    | with_reducible apply State.wr_keeps
    | with_reducible apply keeps_ite

theorem State.mcArm_keeps {s0 : State} {s : State} {a1 : ℕ} {a2 : ℕ} (h : Keeps s0 s) :
    Keeps s0 (State.mcArm s a1 a2).1 := by
  unfold State.mcArm
  repeat' first
    | with_reducible assumption
    | intro x; refine keeps_cut (s0 := s0) x ?_ ?_; (on_goal 2 => clear_value x); (on_goal 1 => subst x)
    | intro x; try clear_value x
    | with_reducible apply State.wr_keeps
    | with_reducible apply State.mcState_keeps
    | with_reducible apply keeps_ite
    | fail_if_no_progress with_reducible apply keeps_mk (s := _)
    | lift_lets -underBinder; intro x; try clear_value x
    | fail_if_no_progress beta_reduce
    | split

theorem State.mcResult_keeps {s0 : State} {s : State} {a1 : ℕ} (h : Keeps s0 s) :
    Keeps s0 (State.mcResult s a1) := by
  unfold State.mcResult
  repeat' first
    | with_reducible assumption
    | with_reducible apply State.flag_keeps
    | with_reducible apply State.wr_keeps
    | with_reducible apply keeps_ite

theorem State.mcPrepare_keeps {s0 : State} {s : State} {a1 : ℕ} (h : Keeps s0 s) :
    Keeps s0 (State.mcPrepare s a1) := by
  unfold State.mcPrepare
  repeat' first
    | with_reducible assumption
    | intro x; refine keeps_cut (s0 := s0) x ?_ ?_; (on_goal 2 => clear_value x); (on_goal 1 => subst x)
    | intro x; try clear_value x
    | with_reducible apply State.wr_keeps
    | with_reducible apply State.flag_keeps
    | with_reducible apply State.mcArm_keeps
    | with_reducible apply State.chSend_keeps
    | with_reducible apply State.mcResult_keeps
    | with_reducible apply keeps_ite
    | fail_if_no_progress with_reducible apply keeps_mk (s := _)
    | with_reducible refine keeps_fst ‹_ = (_, _)› ?_
    | lift_lets -underBinder; intro x; try clear_value x
    | fail_if_no_progress beta_reduce
    | split

theorem State.sendToken_keeps {s0 : State} {s : State} {a1 : Bool} (h : Keeps s0 s) :
    Keeps s0 (State.sendToken s a1) := by
  unfold State.sendToken
  repeat' first
    | with_reducible assumption
    | with_reducible apply State.chSend_keeps
    | with_reducible apply keeps_ite
    | fail_if_no_progress with_reducible apply keeps_mk (s := _)

theorem State.chEnumerate_keeps {s0 : State} {s : State} {a1 : Bool} (h : Keeps s0 s) :
    Keeps s0 (State.chEnumerate s a1) := by
  unfold State.chEnumerate
  repeat' first
    | with_reducible assumption
    | with_reducible apply State.wr_keeps
    | with_reducible apply State.flag_keeps
    | with_reducible apply State.sendToken_keeps
    | with_reducible apply keeps_ite

theorem State.chStore_keeps {s0 : State} {s : State} {a1 : ℕ} {a2 : List ℕ} (h : Keeps s0 s) :
    Keeps s0 (State.chStore s a1 a2) := by
  induction a2 generalizing s a1 with
  | nil => exact h
  | cons w t ih => exact ih (State.setWord_keeps h)

theorem State.chData_keeps {s0 : State} {s : State} {a1 : ChFrame} (h : Keeps s0 s) :
    Keeps s0 (State.chData s a1) := by
  unfold State.chData
  repeat' first
    | with_reducible assumption
    | with_reducible apply State.flag_keeps
    | with_reducible apply State.wr_keeps
    | with_reducible apply State.chStore_keeps
    | with_reducible apply keeps_ite

theorem State.chSetEn_keeps {s0 : State} {s : State} {a1 : Bool} (h : Keeps s0 s) :
    Keeps s0 (State.chSetEn s a1) := by
  unfold State.chSetEn
  repeat' first
    | with_reducible assumption
    | with_reducible apply State.wr_keeps
    | with_reducible apply State.setChPort_keeps
    | with_reducible apply State.chPortDown_keeps
    | with_reducible apply State.chShowLock_keeps
    | with_reducible refine foldEach_keeps (fun a t k => ?_) _ ?_
    | with_reducible apply keeps_ite

theorem State.chGo_keeps {s0 : State} {s : State} (h : Keeps s0 s) :
    Keeps s0 (State.chGo s) := by
  unfold State.chGo
  repeat' first
    | with_reducible assumption
    | with_reducible apply State.flag_keeps
    | with_reducible apply State.wr_keeps
    | with_reducible apply keeps_ite
    | fail_if_no_progress with_reducible apply keeps_mk (s := _)

theorem State.mcApplied_keeps {s0 : State} {s : State} {a1 : ℕ} (h : Keeps s0 s) :
    Keeps s0 (State.mcApplied s a1) := by
  unfold State.mcApplied
  repeat' first
    | with_reducible assumption
    | with_reducible refine State.onlyIf_keeps ?_ (fun x_ k => ?_)
    | with_reducible apply State.wr_keeps
    | with_reducible apply State.mcResult_keeps

theorem State.chResetAll_keeps {s0 : State} {s : State} (h : Keeps s0 s) :
    Keeps s0 (State.chResetAll s) := by
  unfold State.chResetAll
  repeat' first
    | with_reducible assumption
    | with_reducible apply State.chResetIn_keeps
    | with_reducible apply State.chSend_keeps
    | with_reducible apply State.flag_keeps
    | with_reducible apply keeps_ite

theorem State.mcThrice_keeps {s0 : State} {s : State} {a1 : ℕ} (h : Keeps s0 s) :
    Keeps s0 (State.mcThrice s a1) := by
  unfold State.mcThrice
  repeat' first
    | with_reducible assumption
    | with_reducible apply State.chSend_keeps
    | fail_if_no_progress with_reducible apply keeps_mk (s := _)

theorem State.mcRepeat_keeps {s0 : State} {s : State} (h : Keeps s0 s) :
    Keeps s0 (State.mcRepeat s) := by
  unfold State.mcRepeat
  repeat' first
    | with_reducible assumption
    | with_reducible apply State.chSend_keeps
    | with_reducible refine foldEach_keeps (fun a t k => ?_) _ ?_
    | with_reducible apply keeps_ite
    | fail_if_no_progress with_reducible apply keeps_mk (s := _)

theorem State.toBypass_keeps {s0 : State} {s : State} (h : Keeps s0 s) :
    Keeps s0 (State.toBypass s) := by
  unfold State.toBypass
  repeat' first
    | with_reducible assumption
    | with_reducible apply State.canClockStop_keeps
    | with_reducible apply State.flag_keeps
    | with_reducible apply keeps_ite
    | fail_if_no_progress with_reducible apply keeps_mk (s := _)

theorem State.pllcDown_keeps {s0 : State} {s : State} (h : Keeps s0 s) :
    Keeps s0 (State.pllcDown s) := by
  unfold State.pllcDown
  repeat' first
    | with_reducible assumption
    | with_reducible apply State.chPortDown_keeps
    | with_reducible refine State.onlyIf_keeps ?_ (fun x_ k => ?_)
    | with_reducible apply State.flag_keeps
    | with_reducible refine foldEach_keeps (fun a t k => ?_) _ ?_

theorem State.pllQuit_keeps {s0 : State} {s : State} {a1 : ℕ} (h : Keeps s0 s) :
    Keeps s0 (State.pllQuit s a1) := by
  unfold State.pllQuit
  repeat' first
    | with_reducible assumption
    | with_reducible apply State.toBypass_keeps
    | with_reducible apply State.pllcDown_keeps
    | fail_if_no_progress beta_reduce
    | split

theorem State.setPllSt_keeps {s0 : State} {s : State} {a1 : ℕ} {a2 : ℕ} (h : Keeps s0 s) :
    Keeps s0 (State.setPllSt s a1 a2) := by
  unfold State.setPllSt
  repeat' first
    | with_reducible assumption
    | with_reducible apply State.wr_keeps

theorem State.setPll_keeps {s0 : State} {s : State} {a1 : ℕ} {a2 : PllS} (h : Keeps s0 s) :
    Keeps s0 (State.setPll s a1 a2) := by
  unfold State.setPll
  repeat' first
    | with_reducible assumption
    | fail_if_no_progress with_reducible apply keeps_mk (s := _)

theorem State.bandErr_keeps {s0 : State} {s : State} {a1 : ℕ} (h : Keeps s0 s) :
    Keeps s0 (State.bandErr s a1) := by
  unfold State.bandErr
  repeat' first
    | with_reducible assumption
    | with_reducible apply State.flag_keeps
    | with_reducible apply State.setPllSt_keeps
    | with_reducible apply State.setPll_keeps
    | with_reducible refine State.onlyIf_keeps ?_ (fun x_ k => ?_)
    | with_reducible apply State.logEv_keeps

theorem State.bandTry_keeps {s0 : State} {s : State} {a1 : ℕ} {a2 : List (ℕ × ℕ)} (h : Keeps s0 s) :
    Keeps s0 (State.bandTry s a1 a2) := by
  unfold State.bandTry
  repeat' first
    | with_reducible assumption
    | with_reducible apply State.bandErr_keeps
    | with_reducible apply State.wr_keeps
    | with_reducible apply State.setPll_keeps
    | with_reducible apply State.setPllSt_keeps
    | fail_if_no_progress beta_reduce
    | split

theorem State.bandSelect_keeps {s0 : State} {s : State} {a1 : ℕ} (h : Keeps s0 s) :
    Keeps s0 (State.bandSelect s a1) := by
  unfold State.bandSelect
  repeat' first
    | with_reducible assumption
    | with_reducible apply State.bandTry_keeps
    | with_reducible apply State.setPll_keeps
    | with_reducible apply State.setPllSt_keeps
    | with_reducible apply keeps_ite

theorem State.clkRefuse_keeps {s0 : State} {s : State} {a1 : ℕ} (h : Keeps s0 s) :
    Keeps s0 (State.clkRefuse s a1) := by
  unfold State.clkRefuse
  repeat' first
    | with_reducible assumption
    | with_reducible apply State.flag_keeps
    | with_reducible apply State.wr_keeps

theorem State.pllEn_keeps {s0 : State} {s : State} {a1 : ℕ} {a2 : Bool} (h : Keeps s0 s) :
    Keeps s0 (State.pllEn s a1 a2) := by
  unfold State.pllEn
  repeat' first
    | with_reducible assumption
    | with_reducible apply State.bandSelect_keeps
    | with_reducible refine State.onlyIf_keeps ?_ (fun x_ k => ?_)
    | with_reducible apply State.wr_keeps
    | with_reducible apply State.clkRefuse_keeps
    | with_reducible apply State.setPllSt_keeps
    | with_reducible apply State.pllQuit_keeps
    | with_reducible apply State.setPll_keeps
    | with_reducible apply keeps_ite
    | fail_if_no_progress with_reducible apply keeps_mk (s := _)

theorem State.pllLoss_keeps {s0 : State} {s : State} {a1 : ℕ} (h : Keeps s0 s) :
    Keeps s0 (State.pllLoss s a1) := by
  unfold State.pllLoss
  repeat' first
    | with_reducible assumption
    | with_reducible apply State.wr_keeps
    | with_reducible apply State.setPllSt_keeps
    | with_reducible refine State.onlyIf_keeps ?_ (fun x_ k => ?_)
    | with_reducible apply State.setPll_keeps
    | with_reducible apply State.flag_keeps
    | with_reducible apply State.toBypass_keeps
    | with_reducible apply State.pllcDown_keeps
    | with_reducible apply keeps_ite
    | lift_lets -underBinder; intro x; try clear_value x
    | fail_if_no_progress beta_reduce
    | split

theorem State.clkTick_keeps {s0 : State} {s : State} (h : Keeps s0 s) :
    Keeps s0 (State.clkTick s) := by
  unfold State.clkTick
  repeat' first
    | with_reducible assumption
    | with_reducible apply State.setPllSt_keeps
    | with_reducible apply State.setPll_keeps
    | with_reducible refine foldEach_keeps (fun a t k => ?_) _ ?_
    | with_reducible apply keeps_ite

theorem State.pllBack_keeps {s0 : State} {s : State} {a1 : ℕ} {a2 : ℤ} (h : Keeps s0 s) :
    Keeps s0 (State.pllBack s a1 a2) := by
  unfold State.pllBack
  repeat' first
    | with_reducible assumption
    | with_reducible apply State.wrI_keeps
    | with_reducible apply State.setPllSt_keeps
    | with_reducible apply State.setPll_keeps
    | with_reducible apply keeps_ite

theorem State.localCycle_keeps {s0 : State} {s : State} {a1 : ℤ} (h : Keeps s0 s) :
    Keeps s0 (State.localCycle s a1) := by
  unfold State.localCycle
  repeat' first
    | with_reducible assumption
    | with_reducible apply State.pllBack_keeps
    | with_reducible apply State.pllLoss_keeps
    | with_reducible refine foldEach_keeps (fun a t k => ?_) _ ?_

theorem State.localChosen_keeps {s0 : State} {s : State} {a1 : ℕ} {a2 : ℤ} (h : Keeps s0 s) :
    Keeps s0 (State.localChosen s a1 a2) := by
  unfold State.localChosen
  repeat' first
    | with_reducible assumption
    | with_reducible apply State.wr_keeps
    | with_reducible apply State.bandSelect_keeps
    | with_reducible apply State.pllBack_keeps
    | with_reducible refine foldEach_keeps (fun a t k => ?_) _ ?_
    | with_reducible apply keeps_ite

theorem State.localValid_keeps {s0 : State} {s : State} {a1 : ℕ} {a2 : ℤ} (h : Keeps s0 s) :
    Keeps s0 (State.localValid s a1 a2) := by
  unfold State.localValid
  repeat' first
    | with_reducible assumption
    | with_reducible refine State.onlyIf_keeps ?_ (fun x_ k => ?_)
    | with_reducible apply State.flag_keeps
    | with_reducible apply State.wr_keeps
    | with_reducible apply State.localChosen_keeps
    | with_reducible apply State.pllBack_keeps
    | with_reducible refine foldEach_keeps (fun a t k => ?_) _ ?_
    | with_reducible apply keeps_ite
    | fail_if_no_progress with_reducible apply keeps_mk (s := _)

theorem State.localLost_keeps {s0 : State} {s : State} {a1 : ℕ} {a2 : ℤ} (h : Keeps s0 s) :
    Keeps s0 (State.localLost s a1 a2) := by
  unfold State.localLost
  repeat' first
    | with_reducible assumption
    | with_reducible apply State.flag_keeps
    | with_reducible apply State.wr_keeps
    | with_reducible apply State.localCycle_keeps
    | with_reducible apply State.pllLoss_keeps
    | with_reducible refine foldEach_keeps (fun a t k => ?_) _ ?_
    | with_reducible apply keeps_ite

theorem State.clkLocalSel_keeps {s0 : State} {s : State} {a1 : ℕ} {a2 : ℤ} (h : Keeps s0 s) :
    Keeps s0 (State.clkLocalSel s a1 a2) := by
  unfold State.clkLocalSel
  repeat' first
    | with_reducible assumption
    | with_reducible apply State.clkRefuse_keeps
    | with_reducible apply State.wr_keeps
    | with_reducible apply State.localChosen_keeps
    | with_reducible apply State.localCycle_keeps
    | with_reducible apply keeps_ite

theorem State.clkIsland_keeps {s0 : State} {s : State} {a1 : ℕ} (h : Keeps s0 s) :
    Keeps s0 (State.clkIsland s a1) := by
  unfold State.clkIsland
  repeat' first
    | with_reducible assumption
    | with_reducible apply State.wr_keeps
    | with_reducible refine State.onlyIf_keeps ?_ (fun x_ k => ?_)
    | with_reducible apply State.isoResetEnd_keeps
    | with_reducible apply keeps_ite

theorem State.clkRun_keeps {s0 : State} {s : State} {a1 : ℕ} (h : Keeps s0 s) :
    Keeps s0 (State.clkRun s a1) := by
  unfold State.clkRun
  repeat' first
    | with_reducible assumption
    | with_reducible apply State.clkIsland_keeps
    | with_reducible refine foldEach_keeps (fun a t k => ?_) _ ?_
    | with_reducible apply keeps_ite

theorem State.pllDither_keeps {s0 : State} {s : State} {a1 : ℕ} {a2 : Bool} (h : Keeps s0 s) :
    Keeps s0 (State.pllDither s a1 a2) := by
  unfold State.pllDither
  repeat' first
    | with_reducible assumption
    | with_reducible apply State.wr_keeps
    | with_reducible apply State.clkRefuse_keeps
    | with_reducible apply State.setPll_keeps
    | with_reducible apply keeps_ite

theorem State.pllRelock_keeps {s0 : State} {s : State} {a1 : ℕ} (h : Keeps s0 s) :
    Keeps s0 (State.pllRelock s a1) := by
  unfold State.pllRelock
  repeat' first
    | with_reducible assumption
    | with_reducible apply State.clkRefuse_keeps
    | with_reducible apply State.bandSelect_keeps
    | with_reducible apply State.pllQuit_keeps
    | with_reducible apply keeps_ite

theorem State.roleChanged_keeps {s0 : State} {s : State} (h : Keeps s0 s) :
    Keeps s0 (State.roleChanged s) := by
  unfold State.roleChanged
  repeat' first
    | with_reducible assumption
    | with_reducible apply State.chShowLock_keeps
    | with_reducible refine State.onlyIf_keeps ?_ (fun x_ k => ?_)
    | with_reducible apply State.wr_keeps

theorem State.pllSeed_keeps {s0 : State} {s : State} {a1 : ℕ} {a2 : ℕ} {a3 : ℕ} (h : Keeps s0 s) :
    Keeps s0 (State.pllSeed s a1 a2 a3) := by
  unfold State.pllSeed
  repeat' first
    | with_reducible assumption
    | with_reducible apply State.clkRefuse_keeps
    | with_reducible apply State.wr_keeps
    | with_reducible apply keeps_ite

theorem State.refSwitch_keeps {s0 : State} {s : State} {a1 : State} (h : Keeps s0 s) :
    Keeps s0 (State.refSwitch s a1) := by
  unfold State.refSwitch
  repeat' first
    | with_reducible assumption
    | with_reducible refine State.onlyIf_keeps ?_ (fun x_ k => ?_)
    | with_reducible apply State.pllLoss_keeps

theorem State.setKeyStep_keeps {s0 : State} {s : State} {a1 : Option ℕ} (h : Keeps s0 s) :
    Keeps s0 (State.setKeyStep s a1) := by
  unfold State.setKeyStep
  repeat' first
    | with_reducible assumption
    | fail_if_no_progress with_reducible apply keeps_mk (s := _)

theorem State.showReady_keeps {s0 : State} {s : State} {a1 : ℕ} (h : Keeps s0 s) :
    Keeps s0 (State.showReady s a1) := by
  unfold State.showReady
  repeat' first
    | with_reducible assumption
    | with_reducible apply State.wr_keeps

theorem State.showAllReady_keeps {s0 : State} {s : State} (h : Keeps s0 s) :
    Keeps s0 (State.showAllReady s) := by
  unfold State.showAllReady
  repeat' first
    | with_reducible assumption
    | with_reducible apply State.showReady_keeps
    | with_reducible refine foldEach_keeps (fun a t k => ?_) _ ?_

theorem State.loadWrite_keeps {s0 : State} {s : State} {a1 : ℕ} (h : Keeps s0 s) :
    Keeps s0 (State.loadWrite s a1) := by
  unfold State.loadWrite
  repeat' first
    | with_reducible assumption
    | with_reducible apply State.flag_keeps
    | with_reducible apply State.wr_keeps
    | with_reducible apply State.showAllReady_keeps
    | with_reducible apply keeps_ite
    | fail_if_no_progress with_reducible apply keeps_mk (s := _)

theorem State.closeLock_keeps {s0 : State} {s : State} (h : Keeps s0 s) :
    Keeps s0 (State.closeLock s) := by
  unfold State.closeLock
  repeat' first
    | with_reducible assumption
    | with_reducible apply State.wr_keeps

theorem State.disableStage_keeps {s0 : State} {s : State} {a1 : ℕ} (h : Keeps s0 s) :
    Keeps s0 (State.disableStage s a1) := by
  unfold State.disableStage
  repeat' first
    | with_reducible assumption
    | with_reducible apply State.stageOff_keeps
    | with_reducible apply State.wr_keeps
    | with_reducible apply State.latchStage_keeps
    | with_reducible apply keeps_ite

theorem State.imgFailed_keeps {s0 : State} {s : State} {a1 : ℕ} {a2 : ℕ} {a3 : ℕ} (h : Keeps s0 s) :
    Keeps s0 (State.imgFailed s a1 a2 a3) := by
  unfold State.imgFailed
  repeat' first
    | with_reducible assumption
    | with_reducible apply State.wr_keeps

theorem State.loadPolarity_keeps {s0 : State} {s : State} {a1 : ℕ} (h : Keeps s0 s) :
    Keeps s0 (State.loadPolarity s a1) := by
  unfold State.loadPolarity
  repeat' first
    | with_reducible assumption
    | with_reducible apply State.setPad_keeps

theorem State.showSeqs_keeps {s0 : State} {s : State} (h : Keeps s0 s) :
    Keeps s0 (State.showSeqs s) := by
  unfold State.showSeqs
  repeat' first
    | with_reducible assumption
    | with_reducible apply State.wr_keeps
    | with_reducible refine foldEach_keeps (fun a t k => ?_) _ ?_

theorem State.bindClaims_keeps {s0 : State} {s : State} {a1 : SMap ℕ} (h : Keeps s0 s) :
    Keeps s0 (State.bindClaims s a1) := by
  unfold State.bindClaims
  repeat' first
    | with_reducible assumption
    | with_reducible apply State.setClaim_keeps
    | with_reducible refine foldEach_keeps (fun a t k => ?_) _ ?_
    | with_reducible apply keeps_ite
    | fail_if_no_progress with_reducible apply keeps_mk (s := _)

theorem State.dropDynamic_keeps {s0 : State} {s : State} (h : Keeps s0 s) :
    Keeps s0 (State.dropDynamic s) := by
  unfold State.dropDynamic
  repeat' first
    | with_reducible assumption
    | with_reducible apply State.setSeq_keeps
    | with_reducible apply State.seqDisable_keeps
    | with_reducible apply State.wr2_keeps
    | with_reducible apply State.pairDisarm_keeps
    | with_reducible apply State.wr_keeps
    | with_reducible apply State.fcDisable_keeps
    | with_reducible apply State.rsValid_keeps
    | with_reducible apply State.emuDisable_keeps
    | with_reducible apply State.flag_keeps
    | with_reducible apply State.setClaim_keeps
    | with_reducible refine foldEach_keeps (fun a t k => ?_) _ ?_
    | with_reducible apply keeps_ite

theorem State.rwiChanged_keeps {s0 : State} {s : State} {a1 : State} (h : Keeps s0 s) :
    Keeps s0 (State.rwiChanged s a1) := by
  unfold State.rwiChanged
  repeat' first
    | with_reducible assumption
    | with_reducible apply State.setLeg_keeps
    | with_reducible apply State.setCmp_keeps
    | with_reducible apply State.setGlitch_keeps
    | with_reducible apply State.tripinLook_keeps
    | with_reducible apply State.wr_keeps
    | with_reducible apply State.showChop_keeps
    | with_reducible apply State.showAllActive_keeps
    | with_reducible apply State.refSwitch_keeps
    | with_reducible apply State.roleChanged_keeps
    | with_reducible refine foldEach_keeps (fun a t k => ?_) _ ?_
    | with_reducible apply keeps_ite

theorem State.applyImage_keeps {s0 : State} {s : State} {a1 : ℕ} {a2 : Bool} (h : Keeps s0 s) :
    Keeps s0 (State.applyImage s a1 a2) := by
  unfold State.applyImage
  repeat' first
    | with_reducible assumption
    | with_reducible apply State.setImageFields_keeps
    | with_reducible apply State.bindClaims_keeps
    | with_reducible apply State.dropDynamic_keeps
    | with_reducible apply State.loadPolarity_keeps
    | with_reducible apply State.wr_keeps
    | with_reducible apply State.closeLock_keeps
    | with_reducible apply State.assertActive_keeps
    | with_reducible apply State.rwiChanged_keeps
    | with_reducible apply State.isoStart_keeps
    | with_reducible apply State.showPwm_keeps
    | with_reducible apply State.showAllReady_keeps
    | with_reducible refine foldEach_keeps (fun a t k => ?_) _ ?_
    | with_reducible apply keeps_ite
    | fail_if_no_progress with_reducible apply keeps_mk (s := _)

theorem State.imgRecord_keeps {s0 : State} {s : State} {a1 : ℕ} (h : Keeps s0 s) :
    Keeps s0 (State.imgRecord s a1) := by
  unfold State.imgRecord
  repeat' first
    | with_reducible assumption
    | with_reducible apply State.logEv_keeps

theorem State.loadEnd_keeps {s0 : State} {s : State} (h : Keeps s0 s) :
    Keeps s0 (State.loadEnd s) := by
  unfold State.loadEnd
  repeat' first
    | with_reducible assumption
    | with_reducible apply State.showSeqs_keeps
    | with_reducible apply State.wr_keeps
    | with_reducible apply State.applyImage_keeps
    | with_reducible apply State.showAllReady_keeps
    | with_reducible apply State.imgFailed_keeps
    | with_reducible apply State.imgRecord_keeps
    | with_reducible apply keeps_ite

theorem State.lockWrite_keeps {s0 : State} {s : State} {a1 : Master} {a2 : ℕ} {a3 : Bool} (h : Keeps s0 s) :
    Keeps s0 (State.lockWrite s a1 a2 a3) := by
  unfold State.lockWrite
  repeat' first
    | with_reducible assumption
    | with_reducible apply State.setKeyStep_keeps
    | with_reducible apply State.wr_keeps
    | with_reducible apply State.flag_keeps
    | with_reducible refine State.onlyIf_keeps ?_ (fun x_ k => ?_)
    | with_reducible apply State.closeLock_keeps
    | with_reducible apply keeps_ite

theorem State.rwiDiscard_keeps {s0 : State} {s : State} {a1 : Master} {a2 : ℕ} {a3 : ℕ} (h : Keeps s0 s) :
    Keeps s0 (State.rwiDiscard s a1 a2 a3) := by
  unfold State.rwiDiscard
  repeat' first
    | with_reducible assumption
    | with_reducible apply State.wr_keeps
    | with_reducible apply State.flag_keeps

theorem State.rwiPolarity_keeps {s0 : State} {s : State} {a1 : State} {a2 : ℕ} (h : Keeps s0 s) :
    Keeps s0 (State.rwiPolarity s a1 a2) := by
  unfold State.rwiPolarity
  repeat' first
    | with_reducible assumption
    | with_reducible refine State.onlyIf_keeps ?_ (fun x_ k => ?_)
    | with_reducible apply State.setPad_keeps
    | with_reducible apply keeps_ite
    | fail_if_no_progress beta_reduce
    | split

theorem State.reclaim_keeps {s0 : State} {s : State} {a1 : ℕ} {a2 : SMap ℕ} (h : Keeps s0 s) :
    Keeps s0 (State.reclaim s a1 a2) := by
  unfold State.reclaim
  repeat' first
    | with_reducible assumption
    | with_reducible apply State.setClaim_keeps
    | with_reducible refine foldEach_keeps (fun a t k => ?_) _ ?_
    | with_reducible apply keeps_ite
    | fail_if_no_progress with_reducible apply keeps_mk (s := _)

theorem State.rwiClaims_keeps {s0 : State} {s : State} {a1 : State} {a2 : ℕ} (h : Keeps s0 s) :
    Keeps s0 (State.rwiClaims s a1 a2) := by
  unfold State.rwiClaims
  repeat' first
    | with_reducible assumption
    | with_reducible apply State.reclaim_keeps
    | with_reducible apply keeps_ite
    | fail_if_no_progress beta_reduce
    | split

theorem State.rwiWrite_keeps {s0 : State} {s : State} {a1 : Master} {a2 : ℕ} {a3 : ℕ} (h : Keeps s0 s) :
    Keeps s0 (State.rwiWrite s a1 a2 a3) := by
  unfold State.rwiWrite
  repeat' first
    | with_reducible assumption
    | with_reducible apply State.rwiDiscard_keeps
    | with_reducible apply State.setRwi_keeps
    | with_reducible apply State.showAllReady_keeps
    | with_reducible apply State.rwiChanged_keeps
    | with_reducible apply State.rwiPolarity_keeps
    | with_reducible apply State.rwiClaims_keeps
    | with_reducible apply keeps_ite

theorem State.releaseLeg_keeps {s0 : State} {s : State} {a1 : ℕ} (h : Keeps s0 s) :
    Keeps s0 (State.releaseLeg s a1) := by
  unfold State.releaseLeg
  repeat' first
    | with_reducible assumption
    | with_reducible apply State.restartLeg_keeps
    | with_reducible apply State.setPad_keeps
    | with_reducible apply keeps_ite

theorem State.enableStage_keeps {s0 : State} {s : State} {a1 : ℕ} (h : Keeps s0 s) :
    Keeps s0 (State.enableStage s a1) := by
  unfold State.enableStage
  repeat' first
    | with_reducible assumption
    | with_reducible apply State.flag_keeps
    | with_reducible apply State.wr_keeps
    | with_reducible apply State.setAsc_keeps
    | with_reducible apply State.releaseLeg_keeps
    | with_reducible refine foldEach_keeps (fun a t k => ?_) _ ?_
    | with_reducible apply keeps_ite

theorem State.putVerdict_keeps {s0 : State} {s : State} {a1 : ℕ} {a2 : ℕ} (h : Keeps s0 s) :
    Keeps s0 (State.putVerdict s a1 a2) := by
  unfold State.putVerdict
  repeat' first
    | with_reducible assumption
    | with_reducible apply State.setByte_keeps
    | with_reducible apply keeps_ite

theorem State.sealVerdict_keeps {s0 : State} {s : State} {a1 : ℕ} (h : Keeps s0 s) :
    Keeps s0 (State.sealVerdict s a1) := by
  unfold State.sealVerdict
  repeat' first
    | with_reducible assumption
    | with_reducible apply State.setWord_keeps

theorem State.zeroMem_keeps {s0 : State} {s : State} {a1 : ℕ} {a2 : ℕ} (h : Keeps s0 s) :
    Keeps s0 (State.zeroMem s a1 a2) := by
  exact keeps_mk_canon h id (Memory.wf_filter _) id id

theorem State.clearArrays_keeps {s0 : State} {s : State} {a1 : ℕ} (h : Keeps s0 s) :
    Keeps s0 (State.clearArrays s a1) := by
  unfold State.clearArrays
  split
  · exact keeps_mk_canon (State.zeroMem_keeps h) id id (fun _ => rfl) (fun _ => rfl)
  · split
    · exact keeps_mk (State.zeroMem_keeps (State.zeroMem_keeps (State.zeroMem_keeps (State.zeroMem_keeps h))))
    · exact h

theorem State.copyMem_keeps {s0 : State} {s : State} {a1 : ℕ} {a2 : ℕ} {a3 : ℕ} (h : Keeps s0 s) :
    Keeps s0 (State.copyMem s a1 a2 a3) := by
  exact keeps_mk_canon h id (fun c => Memory.wf_sets _ (Memory.wf_filter _ c)) id id

theorem State.blankWear_keeps {s0 : State} {s : State} {a1 : ℕ} (h : Keeps s0 s) :
    Keeps s0 (State.blankWear s a1) := by
  unfold State.blankWear
  repeat' first
    | with_reducible assumption
    | with_reducible apply State.setBytes_keeps
    | with_reducible apply State.setWord_keeps
    | with_reducible apply State.zeroMem_keeps

theorem State.sealWear_keeps {s0 : State} {s : State} {a1 : ℕ} (h : Keeps s0 s) :
    Keeps s0 (State.sealWear s a1) := by
  unfold State.sealWear
  repeat' first
    | with_reducible assumption
    | with_reducible apply State.setWord_keeps

theorem State.putMark_keeps {s0 : State} {s : State} {a1 : ℕ} {a2 : ℕ} {a3 : ℕ} {a4 : ℕ} (h : Keeps s0 s) :
    Keeps s0 (State.putMark s a1 a2 a3 a4) := by
  unfold State.putMark
  repeat' first
    | with_reducible assumption
    | with_reducible apply State.setByte_keeps
    | with_reducible apply State.setNum_keeps
    | with_reducible apply keeps_ite

theorem State.putTaps_keeps {s0 : State} {s : State} {a1 : ℕ} {a2 : ℕ} {a3 : List ℕ} (h : Keeps s0 s) :
    Keeps s0 (State.putTaps s a1 a2 a3) := by
  unfold State.putTaps
  repeat' first
    | with_reducible assumption
    | with_reducible apply State.setBytes_keeps
    | with_reducible apply State.putMark_keeps
    | with_reducible apply keeps_ite

theorem State.putRow_keeps {s0 : State} {s : State} {a1 : ℕ} {a2 : ℕ × ℕ} (h : Keeps s0 s) :
    Keeps s0 (State.putRow s a1 a2) := by
  unfold State.putRow
  repeat' first
    | with_reducible assumption
    | with_reducible apply State.setWord_keeps
    | with_reducible apply keeps_ite
    | fail_if_no_progress beta_reduce
    | split

theorem State.putAdd_keeps {s0 : State} {s : State} {a1 : ℕ} {a2 : WearAdd} (h : Keeps s0 s) :
    Keeps s0 (State.putAdd s a1 a2) := by
  unfold State.putAdd
  repeat' first
    | with_reducible assumption
    | with_reducible apply State.putMark_keeps
    | with_reducible apply State.putTaps_keeps
    | with_reducible apply State.putRow_keeps
    | with_reducible apply State.setNum_keeps
    | with_reducible apply State.setWord_keeps
    | with_reducible apply State.setByte_keeps
    | with_reducible refine foldEach_keeps (fun a t k => ?_) _ ?_
    | with_reducible apply keeps_ite
    | fail_if_no_progress beta_reduce
    | split

theorem State.wearWrite_keeps {s0 : State} {s : State} {a1 : WearAdd} {a2 : Bool} (h : Keeps s0 s) :
    Keeps s0 (State.wearWrite s a1 a2) := by
  unfold State.wearWrite
  repeat' first
    | with_reducible assumption
    | with_reducible apply State.flag_keeps
    | with_reducible apply State.setWord_keeps
    | with_reducible apply State.copyMem_keeps
    | with_reducible apply State.blankWear_keeps
    | with_reducible apply State.sealWear_keeps
    | with_reducible apply State.putAdd_keeps
    | with_reducible refine foldEach_keeps (fun a t k => ?_) _ ?_
    | with_reducible apply keeps_ite
    | fail_if_no_progress with_reducible apply keeps_mk (s := _)
    | fail_if_no_progress beta_reduce
    | split

theorem State.showRuns_keeps {s0 : State} {s : State} (h : Keeps s0 s) :
    Keeps s0 (State.showRuns s) := by
  unfold State.showRuns
  repeat' first
    | with_reducible assumption
    | with_reducible apply State.wr_keeps
    | fail_if_no_progress beta_reduce
    | split

theorem State.showAge_keeps {s0 : State} {s : State} {a1 : ℕ} {a2 : ℕ} (h : Keeps s0 s) :
    Keeps s0 (State.showAge s a1 a2) := by
  unfold State.showAge
  repeat' first
    | with_reducible assumption
    | with_reducible apply State.wr_keeps
    | with_reducible apply keeps_ite

end Sys2Proof.Machine
end

