-- ==== Sys2Proof/Laws/KeepsOpsD.lean ====
section
/-! SUPPORT. Every shared operation keeps what `Keeps` names: part 4 of 4, in the order in which the operations build on one another. -/

namespace Sys2Proof.Machine

theorem State.groupDone_keeps {s0 : State} {s : State} {a1 : StResult} (h : Keeps s0 s) :
    Keeps s0 (State.groupDone s a1) := by
  unfold State.groupDone
  repeat' first
    | with_reducible assumption
    | with_reducible apply State.putVerdict_keeps
    | with_reducible apply State.setByte_keeps
    | with_reducible apply State.setWord_keeps
    | with_reducible apply State.sealVerdict_keeps
    | with_reducible apply State.wr_keeps
    | with_reducible apply State.flag_keeps
    | with_reducible apply State.clearArrays_keeps
    | with_reducible apply State.wearWrite_keeps
    | with_reducible refine State.onlyIf_keeps ?_ (fun x_ k => ?_)
    | with_reducible apply State.showRuns_keeps
    | with_reducible apply State.showAge_keeps
    | with_reducible refine foldEach_keeps (fun a t k => ?_) _ ?_
    | with_reducible apply keeps_ite
    | fail_if_no_progress with_reducible apply keeps_mk (s := _)
    | fail_if_no_progress beta_reduce
    | split

theorem State.showUnit_keeps {s0 : State} {s : State} {a1 : Option ℕ} {a2 : List MapEnt} {a3 : ℕ} (h : Keeps s0 s) :
    Keeps s0 (State.showUnit s a1 a2 a3) := by
  unfold State.showUnit
  repeat' first
    | with_reducible assumption
    | with_reducible apply State.wr_keeps

theorem State.showPu_keeps {s0 : State} {s : State} {a1 : Option ℕ} {a2 : Option ℕ} {a3 : List MapEnt} {a4 : ℕ} (h : Keeps s0 s) :
    Keeps s0 (State.showPu s a1 a2 a3 a4) := by
  unfold State.showPu
  repeat' first
    | with_reducible assumption
    | with_reducible apply State.wr_keeps

theorem State.useMap_keeps {s0 : State} {s : State} {a1 : Option ℕ} {a2 : List MapEnt} (h : Keeps s0 s) :
    Keeps s0 (State.useMap s a1 a2) := by
  unfold State.useMap
  repeat' first
    | with_reducible assumption
    | with_reducible apply State.showUnit_keeps
    | with_reducible apply State.showPu_keeps
    | with_reducible apply State.showIsoDead_keeps
    | with_reducible apply State.setClaim_keeps
    | with_reducible apply State.wr_keeps
    | with_reducible apply State.wr2_keeps
    | with_reducible refine foldEach_keeps (fun a t k => ?_) _ ?_
    | with_reducible apply keeps_ite

theorem State.startRun_keeps {s0 : State} {s : State} (h : Keeps s0 s) :
    Keeps s0 (State.startRun s) := by
  unfold State.startRun
  repeat' first
    | with_reducible assumption
    | with_reducible apply State.setWord_keeps
    | with_reducible apply State.zeroMem_keeps
    | with_reducible apply State.sealVerdict_keeps
    | with_reducible apply State.wr_keeps
    | with_reducible apply State.flag_keeps
    | fail_if_no_progress with_reducible apply keeps_mk (s := _)

theorem State.writeMap_keeps {s0 : State} {s : State} {a1 : List MapEnt} (h : Keeps s0 s) :
    Keeps s0 (State.writeMap s a1) := by
  unfold State.writeMap
  repeat' first
    | with_reducible assumption
    | with_reducible apply State.setWord_keeps
    | with_reducible apply State.zeroMem_keeps
    | with_reducible apply State.setNum_keeps
    | with_reducible refine foldEach_keeps (fun a t k => ?_) _ ?_

theorem State.mapEvents_keeps {s0 : State} {s : State} {a1 : List MapEnt} {a2 : List MapEnt} (h : Keeps s0 s) :
    Keeps s0 (State.mapEvents s a1 a2) := by
  unfold State.mapEvents
  repeat' first
    | with_reducible assumption
    | with_reducible refine State.onlyIf_keeps ?_ (fun x_ k => ?_)
    | with_reducible apply State.flag_keeps

theorem State.readWear_keeps {s0 : State} {s : State} (h : Keeps s0 s) :
    Keeps s0 (State.readWear s) := by
  unfold State.readWear
  repeat' first
    | with_reducible assumption
    | with_reducible refine State.onlyIf_keeps ?_ (fun x_ k => ?_)
    | with_reducible apply State.flag_keeps
    | with_reducible apply State.setWord_keeps
    | with_reducible apply State.blankWear_keeps
    | with_reducible apply State.putMark_keeps
    | with_reducible apply State.sealWear_keeps
    | with_reducible refine foldEach_keeps (fun a t k => ?_) _ ?_
    | with_reducible apply keeps_ite
    | fail_if_no_progress with_reducible apply keeps_mk (s := _)

theorem State.buildMap_keeps {s0 : State} {s : State} (h : Keeps s0 s) :
    Keeps s0 (State.buildMap s) := by
  unfold State.buildMap
  repeat' first
    | with_reducible assumption
    | with_reducible apply State.readWear_keeps
    | with_reducible refine State.onlyIf_keeps ?_ (fun x_ k => ?_)
    | with_reducible apply State.mapEvents_keeps
    | with_reducible apply State.flag_keeps
    | with_reducible apply State.wearWrite_keeps
    | with_reducible apply State.showRuns_keeps
    | with_reducible apply State.useMap_keeps
    | with_reducible apply State.writeMap_keeps
    | with_reducible apply keeps_ite
    | fail_if_no_progress with_reducible apply keeps_mk (s := _)

theorem State.dropIsland_keeps {s0 : State} {s : State} {a1 : ℕ} (h : Keeps s0 s) :
    Keeps s0 (State.dropIsland s a1) := by
  unfold State.dropIsland
  repeat' first
    | with_reducible assumption
    | with_reducible apply State.setClaim_keeps
    | with_reducible refine foldEach_keeps (fun a t k => ?_) _ ?_
    | with_reducible apply keeps_ite

theorem State.orphan_keeps {s0 : State} {s : State} {a1 : ℕ} (h : Keeps s0 s) :
    Keeps s0 (State.orphan s a1) := by
  unfold State.orphan
  repeat' first
    | with_reducible assumption
    | with_reducible apply keeps_ite
    | fail_if_no_progress with_reducible apply keeps_mk (s := _)

theorem State.clearUnits_keeps {s0 : State} {s : State} {a1 : ℕ} (h : Keeps s0 s) :
    Keeps s0 (State.clearUnits s a1) := by
  unfold State.clearUnits
  repeat' first
      | with_reducible assumption
      | with_reducible refine keeps_ite ?_ ?_
      | with_reducible refine foldEach_keeps (fun a t k => ?_) _ ?_
      | with_reducible apply State.hpClear_keeps
      | with_reducible apply State.errTo_keeps
      | with_reducible apply State.setRsv_keeps
      | fail_if_no_progress with_reducible apply keeps_mk (s := _)
      | exact keeps_mk_canon h id id id (fun _ => rfl)

theorem State.rowanGone_keeps {s0 : State} {s : State} (h : Keeps s0 s) :
    Keeps s0 (State.rowanGone s) := by
  unfold State.rowanGone
  repeat' first
    | with_reducible assumption
    | with_reducible apply State.resetFields_keeps
    | with_reducible apply State.showChop_keeps
    | with_reducible apply State.showAllActive_keeps
    | with_reducible apply State.showLines_keeps

theorem State.reload_keeps {s0 : State} {s : State} {a1 : ℕ} (h : Keeps s0 s) :
    Keeps s0 (State.reload s a1) := by
  unfold State.reload
  repeat' first
    | with_reducible assumption
    | with_reducible apply State.loadAdcTrims_keeps
    | with_reducible apply State.showIsoDead_keeps
    | with_reducible apply State.isoRestart_keeps
    | with_reducible refine State.onlyIf_keeps ?_ (fun x_ k => ?_)
    | with_reducible apply State.loadIsoTrims_keeps
    | with_reducible apply State.flag_keeps
    | with_reducible apply State.loadOffs_keeps
    | with_reducible refine foldEach_keeps (fun a t k => ?_) _ ?_
    | with_reducible apply keeps_ite

theorem State.enterReset_keeps {s0 : State} {s : State} {a1 : ℕ} (h : Keeps s0 s) :
    Keeps s0 (State.enterReset s a1) := by
  unfold State.enterReset
  repeat' first
    | with_reducible assumption
    | with_reducible apply State.advanceEpoch_keeps
    | with_reducible apply State.dropIsland_keeps
    | with_reducible apply State.resetFields_keeps
    | with_reducible refine State.onlyIf_keeps ?_ (fun x_ k => ?_)
    | with_reducible apply State.orphan_keeps
    | with_reducible apply State.clearUnits_keeps
    | with_reducible apply State.rowanGone_keeps
    | with_reducible apply State.reload_keeps
    | with_reducible apply State.wr_keeps
    | with_reducible apply State.showLadders_keeps
    | with_reducible apply State.showAllActive_keeps
    | with_reducible refine foldEach_keeps (fun a t k => ?_) _ ?_

theorem State.showRails_keeps {s0 : State} {s : State} (h : Keeps s0 s) :
    Keeps s0 (State.showRails s) := by
  unfold State.showRails
  repeat' first
    | with_reducible assumption
    | with_reducible apply State.wr_keeps
    | with_reducible refine foldEach_keeps (fun a t k => ?_) _ ?_

theorem State.islandFault_keeps {s0 : State} {s : State} {a1 : ℕ} (h : Keeps s0 s) :
    Keeps s0 (State.islandFault s a1) := by
  unfold State.islandFault
  repeat' first
    | with_reducible assumption
    | with_reducible apply State.enterReset_keeps
    | with_reducible apply State.tripStages_keeps
    | with_reducible apply State.flag_keeps

theorem State.clockLost_keeps {s0 : State} {s : State} {a1 : ℕ} (h : Keeps s0 s) :
    Keeps s0 (State.clockLost s a1) := by
  unfold State.clockLost
  repeat' first
    | with_reducible assumption
    | with_reducible apply State.islandFault_keeps
    | with_reducible apply State.wr_keeps

theorem State.dieLinkLost_keeps {s0 : State} {s : State} {a1 : DieLink} (h : Keeps s0 s) :
    Keeps s0 (State.dieLinkLost s a1) := by
  unfold State.dieLinkLost
  repeat' first
    | with_reducible assumption
    | with_reducible apply State.tripStages_keeps
    | with_reducible apply State.showAdt_keeps
    | with_reducible apply State.isoAbandon_keeps
    | with_reducible apply State.clockLost_keeps
    | with_reducible apply State.showAllActive_keeps
    | with_reducible refine foldEach_keeps (fun a t k => ?_) _ ?_
    | with_reducible apply keeps_ite
    | fail_if_no_progress with_reducible apply keeps_mk (s := _)
    | fail_if_no_progress beta_reduce
    | split

theorem State.railFall_keeps {s0 : State} {s : State} {a1 : ℕ} (h : Keeps s0 s) :
    Keeps s0 (State.railFall s a1) := by
  unfold State.railFall
  repeat' first
    | with_reducible assumption
    | with_reducible apply State.flag_keeps
    | with_reducible apply State.showRails_keeps
    | with_reducible apply State.tripStages_keeps
    | with_reducible apply State.islandFault_keeps
    | with_reducible apply State.clockLost_keeps
    | with_reducible apply State.dieLinkLost_keeps
    | with_reducible refine foldEach_keeps (fun a t k => ?_) _ ?_
    | with_reducible apply keeps_ite
    | fail_if_no_progress with_reducible apply keeps_mk (s := _)

theorem State.powerMem_keeps {s0 : State} {s : State} (h : Keeps s0 s) :
    Keeps s0 (State.powerMem s) := by
  exact keeps_mk_canon h id (Memory.wf_filter _) (fun _ => rfl) id

theorem State.railsRise_keeps {s0 : State} {s : State} (h : Keeps s0 s) :
    Keeps s0 (State.railsRise s) := by
  unfold State.railsRise
  repeat' first
    | with_reducible assumption
    | with_reducible apply State.showRails_keeps
    | with_reducible apply State.wr_keeps
    | with_reducible refine foldEach_keeps (fun a t k => ?_) _ ?_
    | fail_if_no_progress with_reducible apply keeps_mk (s := _)

theorem State.fillBands_keeps {s0 : State} {s : State} {a1 : List ℕ} (h : Keeps s0 s) :
    Keeps s0 (State.fillBands s a1) := by
  unfold State.fillBands
  repeat' first
    | with_reducible assumption
    | with_reducible apply State.wr_keeps
    | with_reducible refine foldEach_keeps (fun a t k => ?_) _ ?_

theorem State.logHead_keeps {s0 : State} {s : State} (h : Keeps s0 s) :
    Keeps s0 (State.logHead s) := by
  unfold State.logHead
  repeat' first
    | with_reducible assumption
    | with_reducible apply State.wr_keeps
    | with_reducible apply keeps_ite

theorem State.chooseImage_keeps {s0 : State} {s : State} {a1 : Bool} {a2 : List ℕ} (h : Keeps s0 s) :
    Keeps s0 (State.chooseImage s a1 a2) := by
  induction a2 generalizing s a1 with
  | nil => exact h
  | cons k t ih =>
    unfold State.chooseImage
    dsimp only
    split
    · exact State.imgRecord_keeps (State.applyImage_keeps h)
    · exact ih (State.imgRecord_keeps (State.imgFailed_keeps h))

theorem State.cpxStart_keeps {s0 : State} {s : State} (h : Keeps s0 s) :
    Keeps s0 (State.cpxStart s) := by
  unfold State.cpxStart
  repeat' first
    | with_reducible assumption
    | with_reducible apply State.latchCfg_keeps
    | with_reducible apply State.setCpx_keeps
    | with_reducible apply State.cpxHalt_keeps
    | with_reducible apply State.toMode_keeps
    | with_reducible apply keeps_ite
    | fail_if_no_progress beta_reduce
    | split

theorem State.startRecord_keeps {s0 : State} {s : State} {a1 : ℕ} (h : Keeps s0 s) :
    Keeps s0 (State.startRecord s a1) := by
  unfold State.startRecord
  repeat' first
    | with_reducible assumption
    | with_reducible apply State.logEv_keeps

theorem State.start_keeps {s0 : State} {s : State} {a1 : Bool} {a2 : List ℕ} {a3 : List ℕ} (h : Keeps s0 s) :
    Keeps s0 (State.start s a1 a2 a3) := by
  unfold State.start
  repeat' first
    | with_reducible assumption
    | with_reducible apply State.railsRise_keeps
    | with_reducible apply State.fillBands_keeps
    | with_reducible apply State.pllEn_keeps
    | with_reducible apply State.setWord_keeps
    | with_reducible apply State.buildMap_keeps
    | with_reducible apply State.logHead_keeps
    | with_reducible apply State.reload_keeps
    | with_reducible apply State.wr_keeps
    | with_reducible apply State.setByte_keeps
    | with_reducible apply State.chooseImage_keeps
    | with_reducible apply State.showSeqs_keeps
    | with_reducible apply State.cpxStart_keeps
    | with_reducible apply State.showAllReady_keeps
    | with_reducible refine State.onlyIf_keeps ?_ (fun x_ k => ?_)
    | with_reducible apply State.flag_keeps
    | with_reducible apply State.showPwm_keeps
    | with_reducible apply State.startRecord_keeps
    | with_reducible refine foldEach_keeps (fun a t k => ?_) _ ?_
    | with_reducible apply keeps_ite
    | fail_if_no_progress with_reducible apply keeps_mk (s := _)

theorem State.tcmBad_keeps {s0 : State} {s : State} {a1 : Master} {a2 : ℕ} (h : Keeps s0 s) :
    Keeps s0 (State.tcmBad s a1 a2) := by
  unfold State.tcmBad
  repeat' first
    | with_reducible assumption
    | with_reducible apply State.busErr_keeps
    | with_reducible apply State.eccMet_keeps
    | with_reducible apply State.setCpx_keeps
    | with_reducible apply keeps_ite
    | fail_if_no_progress with_reducible apply keeps_mk (s := _)
    | lift_lets -underBinder; intro x; try clear_value x
    | fail_if_no_progress beta_reduce
    | split

theorem State.clearHidden_keeps {s0 : State} {s : State} (h : Keeps s0 s) :
    Keeps s0 (State.clearHidden s) := by
  exact keeps_mk_canon h id id id (fun _ => rfl)

theorem State.holdPads_keeps {s0 : State} {s : State} (h : Keeps s0 s) :
    Keeps s0 (State.holdPads s) := by
  unfold State.holdPads
  repeat' first
    | with_reducible assumption
    | with_reducible apply State.setPad_keeps
    | with_reducible refine foldEach_keeps (fun a t k => ?_) _ ?_

theorem State.pReset_keeps {s0 : State} {s : State} (h : Keeps s0 s) :
    Keeps s0 (State.pReset s) := by
  unfold State.pReset
  repeat' first
    | with_reducible assumption
    | with_reducible apply State.resetFields_keeps
    | with_reducible apply State.powerMem_keeps
    | with_reducible apply State.clearHidden_keeps
    | with_reducible apply State.holdPads_keeps
    | with_reducible apply State.wr_keeps
    | with_reducible apply State.showAllActive_keeps
    | with_reducible apply State.showRails_keeps
    | with_reducible refine foldEach_keeps (fun a t k => ?_) _ ?_
    | fail_if_no_progress with_reducible apply keeps_mk (s := _)

theorem State.wakeCause_keeps {s0 : State} {s : State} {a1 : ℕ} (h : Keeps s0 s) :
    Keeps s0 (State.wakeCause s a1) := by
  unfold State.wakeCause
  repeat' first
    | with_reducible assumption
    | with_reducible apply State.wr_keeps

theorem State.leaveReset_keeps {s0 : State} {s : State} {a1 : ℕ} (h : Keeps s0 s) :
    Keeps s0 (State.leaveReset s a1) := by
  unfold State.leaveReset
  repeat' first
    | with_reducible assumption
    | with_reducible apply State.wr_keeps
    | with_reducible apply State.cpxStart_keeps
    | with_reducible apply State.isoResetEnd_keeps
    | with_reducible apply State.startRecord_keeps
    | with_reducible apply State.logHead_keeps
    | with_reducible apply keeps_ite

theorem State.mReset_keeps {s0 : State} {s : State} (h : Keeps s0 s) :
    Keeps s0 (State.mReset s) := by
  unfold State.mReset
  repeat' first
    | with_reducible assumption
    | with_reducible apply State.resetFields_keeps
    | with_reducible apply State.clearHidden_keeps
    | with_reducible apply State.holdPads_keeps
    | with_reducible apply State.wr_keeps
    | with_reducible apply State.showAllActive_keeps
    | with_reducible apply State.showRails_keeps
    | with_reducible refine foldEach_keeps (fun a t k => ?_) _ ?_

theorem State.capturesLost_keeps {s0 : State} {s : State} (h : Keeps s0 s) :
    Keeps s0 (State.capturesLost s) := by
  unfold State.capturesLost
  repeat' first
    | with_reducible assumption
    | with_reducible apply State.logEv_keeps
    | with_reducible apply keeps_ite
    | fail_if_no_progress with_reducible apply keeps_mk (s := _)

theorem State.copyCapture_keeps {s0 : State} {s : State} (h : Keeps s0 s) :
    Keeps s0 (State.copyCapture s) := by
  unfold State.copyCapture
  repeat' first
    | with_reducible assumption
    | with_reducible apply State.capturesLost_keeps
    | with_reducible apply State.logEv_keeps
    | fail_if_no_progress with_reducible apply keeps_mk (s := _)

theorem State.keyChange_keeps {s0 : State} {s : State} {a1 : ℕ} {a2 : List ℕ} {a3 : Bool} {a4 : Bool} {a5 : ℕ} {a6 : State → State} (h : Keeps s0 s) (h6 : ∀ t, Keeps s0 t → Keeps s0 (a6 t)) :
    Keeps s0 (State.keyChange s a1 a2 a3 a4 a5 a6).1 := by
  unfold State.keyChange
  repeat' first
    | with_reducible assumption
    | with_reducible refine h6 _ ?_
    | with_reducible apply State.logEv_keeps
    | with_reducible apply keeps_ite
    | fail_if_no_progress beta_reduce
    | split

theorem State.putRecord_keeps {s0 : State} {s : State} {a1 : LogRec} (h : Keeps s0 s) :
    Keeps s0 (State.putRecord s a1) := by
  unfold State.putRecord
  repeat' first
    | with_reducible assumption
    | with_reducible apply State.setBytes_keeps
    | with_reducible apply State.wr_keeps
    | with_reducible apply State.setWord_keeps
    | with_reducible apply keeps_ite
    | fail_if_no_progress with_reducible apply keeps_mk (s := _)

theorem State.writeNext_keeps {s0 : State} {s : State} (h : Keeps s0 s) :
    Keeps s0 (State.writeNext s) := by
  unfold State.writeNext
  repeat' first
    | with_reducible assumption
    | with_reducible apply State.putRecord_keeps
    | with_reducible apply State.setLogq_keeps
    | with_reducible apply keeps_ite
    | fail_if_no_progress with_reducible apply keeps_mk (s := _)
    | fail_if_no_progress beta_reduce
    | split

theorem State.takeRequest_keeps {s0 : State} {s : State} {a1 : ℕ} (h : Keeps s0 s) :
    Keeps s0 (State.takeRequest s a1) := by
  unfold State.takeRequest
  repeat' first
    | with_reducible assumption
    | with_reducible apply State.mbEmpty_keeps
    | fail_if_no_progress with_reducible apply keeps_mk (s := _)

theorem State.sendReply_keeps {s0 : State} {s : State} {a1 : ℕ} {a2 : ℕ} {a3 : ℕ} {a4 : List ℕ} (h : Keeps s0 s) :
    Keeps s0 (State.sendReply s a1 a2 a3 a4) := by
  unfold State.sendReply
  repeat' first
    | with_reducible assumption
    | with_reducible apply State.logEv_keeps
    | with_reducible apply State.mbSend_keeps
    | with_reducible apply keeps_ite
    | fail_if_no_progress with_reducible apply keeps_mk (s := _)

theorem State.replyBusy_keeps {s0 : State} {s : State} {a1 : ℕ} {a2 : List ℕ} (h : Keeps s0 s) :
    Keeps s0 (State.replyBusy s a1 a2) := by
  unfold State.replyBusy
  repeat' first
    | with_reducible assumption
    | with_reducible apply State.bump_keeps
    | with_reducible apply State.flag_keeps
    | with_reducible apply State.next_keeps
    | with_reducible apply State.sendReply_keeps

theorem State.serve_keeps {s0 : State} {s : State} {a1 : List ℕ → Bool} {a2 : State → ℕ → List ℕ → State × ℕ × List ℕ} (h : Keeps s0 s) (h2 : ∀ t q0 q1, Keeps s0 t → Keeps s0 (a2 t q0 q1).1) :
    Keeps s0 (State.serve s a1 a2) := by
  unfold State.serve
  repeat' first
    | with_reducible assumption
    | with_reducible refine h2 _ _ _ ?_
    | with_reducible apply State.takeRequest_keeps
    | with_reducible apply State.replyBusy_keeps
    | with_reducible apply State.sendReply_keeps
    | with_reducible apply keeps_ite
    | fail_if_no_progress beta_reduce
    | split

theorem State.retryReply_keeps {s0 : State} {s : State} {a1 : Reply} (h : Keeps s0 s) :
    Keeps s0 (State.retryReply s a1) := by
  unfold State.retryReply
  repeat' first
    | with_reducible assumption
    | with_reducible apply State.mbSend_keeps
    | with_reducible apply State.logEv_keeps
    | with_reducible apply State.flag_keeps
    | with_reducible apply keeps_ite
    | fail_if_no_progress with_reducible apply keeps_mk (s := _)

theorem State.showBusy_keeps {s0 : State} {s : State} (h : Keeps s0 s) :
    Keeps s0 (State.showBusy s) := by
  unfold State.showBusy
  repeat' first
    | with_reducible assumption
    | with_reducible apply State.wr_keeps

theorem State.houseWaits_keeps {s0 : State} {s : State} (h : Keeps s0 s) :
    Keeps s0 (State.houseWaits s) := by
  unfold State.houseWaits
  repeat' first
    | with_reducible assumption
    | with_reducible refine State.onlyIf_keeps ?_ (fun x_ k => ?_)
    | with_reducible apply State.flag_keeps
    | fail_if_no_progress beta_reduce
    | split

theorem State.loadWindow_keeps {s0 : State} {s : State} {a1 : ℕ} (h : Keeps s0 s) :
    Keeps s0 (State.loadWindow s a1) := by
  unfold State.loadWindow
  repeat' first
    | with_reducible assumption
    | with_reducible apply State.showBusy_keeps
    | with_reducible apply State.houseWaits_keeps
    | with_reducible apply State.wr_keeps
    | with_reducible apply keeps_ite
    | fail_if_no_progress with_reducible apply keeps_mk (s := _)

theorem State.readAges_keeps {s0 : State} {s : State} {a1 : List (ℕ × ℕ)} (h : Keeps s0 s) :
    Keeps s0 (State.readAges s a1) := by
  unfold State.readAges
  repeat' first
    | with_reducible assumption
    | with_reducible apply State.showAge_keeps
    | with_reducible refine foldEach_keeps (fun a t k => ?_) _ ?_
    | fail_if_no_progress with_reducible apply keeps_mk (s := _)

theorem State.drainLog_keeps {s0 : State} {s : State} {a1 : ℕ} (h : Keeps s0 s) :
    Keeps s0 (State.drainLog s a1) := by
  induction a1 generalizing s with
  | zero => exact h
  | succ n ih =>
    unfold State.drainLog
    split
    · exact h
    · exact ih (State.writeNext_keeps h)

theorem State.logMark_keeps {s0 : State} {s : State} {a1 : ℕ} {a2 : List ℕ} (h : Keeps s0 s) :
    Keeps s0 (State.logMark s a1 a2) := by
  unfold State.logMark
  repeat' first
    | with_reducible assumption
    | with_reducible apply State.drainLog_keeps
    | with_reducible apply State.putRecord_keeps

theorem State.put_keeps {s0 : State} {s : State} {a1 : FD} {a2 : ℕ} {a3 : ℕ} {a4 : ℕ} (h : Keeps s0 s) :
    Keeps s0 (State.put s a1 a2 a3 a4) := by
  unfold State.put
  repeat' first
    | with_reducible assumption
    | with_reducible apply State.wr2_keeps

theorem State.writeAdcCtrl_keeps {s0 : State} {s : State} {a1 : ℕ} {a2 : ℕ} (h : Keeps s0 s) :
    Keeps s0 (State.writeAdcCtrl s a1 a2) := by
  unfold State.writeAdcCtrl
  repeat' first
    | with_reducible assumption
    | with_reducible refine State.onlyIf_keeps ?_ (fun x_ k => ?_)
    | with_reducible apply State.put_keeps
    | with_reducible apply State.injTrig_keeps
    | with_reducible apply State.calStart_keeps

theorem State.putEn_keeps {s0 : State} {s : State} {a1 : FD} {a2 : ℕ} {a3 : ℕ} {a4 : ℕ} {a5 : State → State} {a6 : State → State} (h : Keeps s0 s) (h5 : ∀ t, Keeps s0 t → Keeps s0 (a5 t)) (h6 : ∀ t, Keeps s0 t → Keeps s0 (a6 t)) :
    Keeps s0 (State.putEn s a1 a2 a3 a4 a5 a6) := by
  unfold State.putEn
  repeat' first
    | with_reducible assumption
    | with_reducible refine h5 _ ?_
    | with_reducible refine h6 _ ?_
    | with_reducible apply keeps_ite

theorem State.writeSeqCtrl_keeps {s0 : State} {s : State} {a1 : ℕ} {a2 : ℕ} (h : Keeps s0 s) :
    Keeps s0 (State.writeSeqCtrl s a1 a2) := by
  unfold State.writeSeqCtrl
  repeat' first
    | with_reducible assumption
    | with_reducible apply State.put_keeps
    | with_reducible refine State.onlyIf_keeps ?_ (fun x_ k => ?_)
    | with_reducible apply State.seqEnable_keeps
    | with_reducible apply State.seqDisable_keeps
    | with_reducible apply State.seqStart_keeps
    | with_reducible apply keeps_ite

theorem State.writeSeqPtr_keeps {s0 : State} {s : State} {a1 : ℕ} {a2 : ℕ} (h : Keeps s0 s) :
    Keeps s0 (State.writeSeqPtr s a1 a2) := by
  unfold State.writeSeqPtr
  repeat' first
    | with_reducible assumption
    | with_reducible apply State.setSeq_keeps
    | with_reducible apply State.put_keeps
    | with_reducible apply keeps_ite

theorem State.writeIlCtrl_keeps {s0 : State} {s : State} {a1 : ℕ} {a2 : ℕ} (h : Keeps s0 s) :
    Keeps s0 (State.writeIlCtrl s a1 a2) := by
  unfold State.writeIlCtrl
  repeat' first
    | with_reducible assumption
    | with_reducible apply State.put_keeps
    | with_reducible refine State.putEn_keeps ?_ (fun x_ k => ?_) (fun x_ k => ?_)
    | with_reducible apply State.pairArm_keeps
    | with_reducible apply State.pairDisarm_keeps
    | with_reducible apply State.pairErr_keeps
    | with_reducible refine State.onlyIf_keeps ?_ (fun x_ k => ?_)
    | with_reducible apply State.burstStart_keeps
    | with_reducible apply State.pairCal_keeps
    | with_reducible apply keeps_ite

theorem State.w1c_keeps {s0 : State} {s : State} {a1 : FD} {a2 : ℕ} {a3 : ℕ} {a4 : ℕ} (h : Keeps s0 s) :
    Keeps s0 (State.w1c s a1 a2 a3 a4) := by
  unfold State.w1c
  repeat' first
    | with_reducible assumption
    | with_reducible apply State.wr2_keeps

theorem State.plainField_keeps {s0 : State} {s : State} {a1 : FD} {a2 : ℕ} {a3 : ℕ} {a4 : ℕ} (h : Keeps s0 s) :
    Keeps s0 (State.plainField s a1 a2 a3 a4) := by
  unfold State.plainField
  repeat' first
    | with_reducible assumption
    | with_reducible apply State.put_keeps
    | with_reducible apply State.w1c_keeps
    | fail_if_no_progress beta_reduce
    | split

theorem State.plain_keeps {s0 : State} {s : State} {a1 : List FD} {a2 : ℕ} {a3 : ℕ} {a4 : ℕ} (h : Keeps s0 s) :
    Keeps s0 (State.plain s a1 a2 a3 a4) := by
  unfold State.plain
  repeat' first
    | with_reducible assumption
    | with_reducible apply State.plainField_keeps
    | with_reducible refine foldEach_keeps (fun a t k => ?_) _ ?_

theorem State.write2_keeps {s0 : State} {s : State} {a1 : List FD} {a2 : ℕ} {a3 : ℕ} {a4 : ℕ} {a5 : ℕ} (h : Keeps s0 s) :
    Keeps s0 (State.write2 s a1 a2 a3 a4 a5) := by
  unfold State.write2
  repeat' first
    | with_reducible assumption
    | with_reducible apply State.writeAdcCtrl_keeps
    | with_reducible refine State.putEn_keeps ?_ (fun x_ k => ?_) (fun x_ k => ?_)
    | with_reducible apply State.put_keeps
    | with_reducible apply State.injEnable_keeps
    | with_reducible apply State.injDisable_keeps
    | with_reducible apply State.writeSeqCtrl_keeps
    | with_reducible apply State.writeSeqPtr_keeps
    | with_reducible apply State.writeIlCtrl_keeps
    | with_reducible refine State.onlyIf_keeps ?_ (fun x_ k => ?_)
    | with_reducible apply State.plain_keeps
    | fail_if_no_progress beta_reduce
    | split

theorem State.writeStgTrip_keeps {s0 : State} {s : State} {a1 : ℕ} {a2 : ℕ} (h : Keeps s0 s) :
    Keeps s0 (State.writeStgTrip s a1 a2) := by
  unfold State.writeStgTrip
  repeat' first
    | with_reducible assumption
    | with_reducible apply State.w1c_keeps
    | with_reducible apply State.retripNode_keeps
    | with_reducible apply State.wr_keeps
    | with_reducible apply State.setSwtrip_keeps
    | with_reducible refine State.onlyIf_keeps ?_ (fun x_ k => ?_)
    | with_reducible apply State.clearTrip_keeps
    | with_reducible apply keeps_ite

theorem State.writeTbCtrl_keeps {s0 : State} {s : State} {a1 : ℕ} {a2 : ℕ} (h : Keeps s0 s) :
    Keeps s0 (State.writeTbCtrl s a1 a2) := by
  unfold State.writeTbCtrl
  repeat' first
    | with_reducible assumption
    | with_reducible apply State.put_keeps
    | with_reducible refine State.onlyIf_keeps ?_ (fun x_ k => ?_)
    | with_reducible apply State.flag_keeps
    | with_reducible apply State.syncEvent_keeps
    | with_reducible apply State.tbStart_keeps
    | with_reducible apply State.stopTb_keeps
    | with_reducible apply keeps_ite

theorem State.writeOutCfg_keeps {s0 : State} {s : State} {a1 : ℕ} {a2 : ℕ} (h : Keeps s0 s) :
    Keeps s0 (State.writeOutCfg s a1 a2) := by
  unfold State.writeOutCfg
  repeat' first
    | with_reducible assumption
    | with_reducible apply State.put_keeps
    | with_reducible apply State.showPol_keeps
    | with_reducible refine State.putEn_keeps ?_ (fun x_ k => ?_) (fun x_ k => ?_)
    | with_reducible apply State.adtEnable_keeps
    | with_reducible apply State.showAdt_keeps
    | with_reducible apply State.wr_keeps

theorem State.write0_keeps {s0 : State} {s : State} {a1 : List FD} {a2 : ℕ} {a3 : ℕ} {a4 : ℕ} {a5 : ℕ} (h : Keeps s0 s) :
    Keeps s0 (State.write0 s a1 a2 a3 a4 a5) := by
  unfold State.write0
  repeat' first
    | with_reducible assumption
    | with_reducible apply State.writeTbCtrl_keeps
    | with_reducible apply State.tbStart_keeps
    | with_reducible apply State.writeCmp_keeps
    | with_reducible apply State.writeTrg_keeps
    | with_reducible apply State.put_keeps
    | with_reducible apply State.plain_keeps
    | with_reducible apply State.noteFields_keeps
    | with_reducible apply State.writeDtr_keeps
    | with_reducible apply State.writeDtf_keeps
    | with_reducible apply State.writeMinp_keeps
    | with_reducible apply State.writeOutCfg_keeps
    | with_reducible refine State.onlyIf_keeps ?_ (fun x_ k => ?_)
    | with_reducible apply State.adtClear_keeps
    | with_reducible apply State.writePer_keeps
    | with_reducible refine foldEach_keeps (fun a t k => ?_) _ ?_
    | fail_if_no_progress beta_reduce
    | split

theorem State.writeIsoCtrl_keeps {s0 : State} {s : State} {a1 : ℕ} {a2 : ℕ} (h : Keeps s0 s) :
    Keeps s0 (State.writeIsoCtrl s a1 a2) := by
  unfold State.writeIsoCtrl
  repeat' first
    | with_reducible assumption
    | with_reducible refine State.putEn_keeps ?_ (fun x_ k => ?_) (fun x_ k => ?_)
    | with_reducible apply State.put_keeps
    | with_reducible apply State.isoSetEn_keeps
    | with_reducible refine State.onlyIf_keeps ?_ (fun x_ k => ?_)
    | with_reducible apply State.isoCalStart_keeps

theorem State.write3_keeps {s0 : State} {s : State} {a1 : List FD} {a2 : ℕ} {a3 : ℕ} {a4 : ℕ} {a5 : ℕ} (h : Keeps s0 s) :
    Keeps s0 (State.write3 s a1 a2 a3 a4 a5) := by
  unfold State.write3
  repeat' first
    | with_reducible assumption
    | with_reducible apply State.writeIsoCtrl_keeps
    | with_reducible refine State.onlyIf_keeps ?_ (fun x_ k => ?_)
    | with_reducible apply State.put_keeps
    | with_reducible apply State.plain_keeps
    | fail_if_no_progress beta_reduce
    | split

theorem State.write1_keeps {s0 : State} {s : State} {a1 : List FD} {a2 : ℕ} {a3 : ℕ} {a4 : ℕ} {a5 : ℕ} (h : Keeps s0 s) :
    Keeps s0 (State.write1 s a1 a2 a3 a4 a5) := by
  unfold State.write1
  repeat' first
    | with_reducible assumption
    | with_reducible apply State.writeStgTrip_keeps
    | with_reducible refine State.onlyIf_keeps ?_ (fun x_ k => ?_)
    | with_reducible apply State.w1c_keeps
    | with_reducible apply State.clearChop_keeps
    | with_reducible apply State.plain_keeps
    | fail_if_no_progress beta_reduce
    | split

theorem State.whileOff_keeps {s0 : State} {s : State} {a1 : List FD} {a2 : ℕ} {a3 : ℕ} {a4 : ℕ} {a5 : Bool} {a6 : FD} (h : Keeps s0 s) :
    Keeps s0 (State.whileOff s a1 a2 a3 a4 a5 a6) := by
  unfold State.whileOff
  repeat' first
    | with_reducible assumption
    | with_reducible apply State.flag_keeps
    | with_reducible apply State.plain_keeps
    | with_reducible apply keeps_ite

theorem State.writePosCtrl_keeps {s0 : State} {s : State} {a1 : ℕ} {a2 : ℕ} (h : Keeps s0 s) :
    Keeps s0 (State.writePosCtrl s a1 a2) := by
  unfold State.writePosCtrl
  repeat' first
    | with_reducible assumption
    | with_reducible apply State.put_keeps
    | with_reducible apply State.whileOff_keeps
    | with_reducible refine State.putEn_keeps ?_ (fun x_ k => ?_) (fun x_ k => ?_)
    | with_reducible apply State.posEnable_keeps
    | with_reducible apply State.posDisable_keeps
    | with_reducible apply keeps_ite

theorem State.writeRsExc_keeps {s0 : State} {s : State} {a1 : ℕ} {a2 : ℕ} (h : Keeps s0 s) :
    Keeps s0 (State.writeRsExc s a1 a2) := by
  unfold State.writeRsExc
  repeat' first
    | with_reducible assumption
    | with_reducible apply State.put_keeps
    | with_reducible apply State.flag_keeps
    | with_reducible apply keeps_ite

theorem State.cedLand_keeps {s0 : State} {s : State} {a1 : CedWait} (h : Keeps s0 s) :
    Keeps s0 (State.cedLand s a1) := by
  unfold State.cedLand
  repeat' first
    | with_reducible assumption
    | with_reducible apply State.eccMeet_keeps
    | with_reducible apply State.setResp_keeps
    | with_reducible apply State.ackTo_keeps
    | with_reducible apply State.flag_keeps
    | with_reducible apply State.eccWritten_keeps
    | with_reducible apply State.setNum_keeps
    | with_reducible apply keeps_ite
    | fail_if_no_progress beta_reduce
    | split

theorem State.writeFcCtrl_keeps {s0 : State} {s : State} {a1 : ℕ} {a2 : ℕ} (h : Keeps s0 s) :
    Keeps s0 (State.writeFcCtrl s a1 a2) := by
  unfold State.writeFcCtrl
  repeat' first
    | with_reducible assumption
    | with_reducible apply State.put_keeps
    | with_reducible apply State.fcEnable_keeps
    | with_reducible apply State.fcDisable_keeps
    | with_reducible refine State.onlyIf_keeps ?_ (fun x_ k => ?_)
    | with_reducible apply State.fcStart_keeps
    | with_reducible apply State.fcStop_keeps
    | with_reducible apply State.offsStore_keeps
    | with_reducible apply keeps_ite

theorem State.write5_keeps {s0 : State} {s : State} {a1 : List FD} {a2 : ℕ} {a3 : ℕ} {a4 : ℕ} {a5 : ℕ} (h : Keeps s0 s) :
    Keeps s0 (State.write5 s a1 a2 a3 a4 a5) := by
  unfold State.write5
  repeat' first
    | with_reducible assumption
    | with_reducible apply State.writeFcCtrl_keeps
    | with_reducible apply State.fcRefuse_keeps
    | with_reducible apply State.plain_keeps
    | with_reducible apply keeps_ite

theorem State.writeCoef_keeps {s0 : State} {s : State} {a1 : ℕ} {a2 : ℕ} {a3 : ℕ} (h : Keeps s0 s) :
    Keeps s0 (State.writeCoef s a1 a2 a3) := by
  unfold State.writeCoef
  repeat' first
    | with_reducible assumption
    | with_reducible apply State.flag_keeps
    | with_reducible apply State.wr2_keeps
    | with_reducible apply keeps_ite

theorem State.writeLpCfg_keeps {s0 : State} {s : State} {a1 : ℕ} {a2 : ℕ} {a3 : ℕ} (h : Keeps s0 s) :
    Keeps s0 (State.writeLpCfg s a1 a2 a3) := by
  unfold State.writeLpCfg
  repeat' first
    | with_reducible assumption
    | with_reducible apply State.flag_keeps
    | with_reducible apply State.plain_keeps
    | with_reducible apply State.lpEnable_keeps
    | with_reducible refine State.onlyIf_keeps ?_ (fun x_ k => ?_)
    | with_reducible apply State.lpDisable_keeps
    | with_reducible apply keeps_ite

theorem State.cedAccess_keeps {s0 : State} {s : State} {a1 : CedWait} (h : Keeps s0 s) :
    Keeps s0 (State.cedAccess s a1) := by
  unfold State.cedAccess
  repeat' first
    | with_reducible assumption
    | with_reducible apply State.cedLand_keeps
    | with_reducible apply keeps_ite
    | fail_if_no_progress with_reducible apply keeps_mk (s := _)

theorem State.showSat_keeps {s0 : State} {s : State} {a1 : ℕ} (h : Keeps s0 s) :
    Keeps s0 (State.showSat s a1) := by
  unfold State.showSat
  repeat' first
    | with_reducible assumption
    | with_reducible apply State.wr_keeps

theorem State.guarded_keeps {s0 : State} {s : State} {a1 : List FD} {a2 : ℕ} {a3 : ℕ} {a4 : ℕ} {a5 : Bool} (h : Keeps s0 s) :
    Keeps s0 (State.guarded s a1 a2 a3 a4 a5) := by
  unfold State.guarded
  repeat' first
    | with_reducible assumption
    | with_reducible apply State.flag_keeps
    | with_reducible apply State.plain_keeps
    | with_reducible apply keeps_ite

theorem State.write4_keeps {s0 : State} {s : State} {a1 : List FD} {a2 : ℕ} {a3 : ℕ} {a4 : ℕ} {a5 : ℕ} (h : Keeps s0 s) :
    Keeps s0 (State.write4 s a1 a2 a3 a4 a5) := by
  unfold State.write4
  repeat' first
    | with_reducible assumption
    | with_reducible apply State.flag_keeps
    | with_reducible apply State.plain_keeps
    | with_reducible refine State.onlyIf_keeps ?_ (fun x_ k => ?_)
    | with_reducible apply State.put_keeps
    | with_reducible apply State.swapReq_keeps
    | with_reducible apply State.writeLpCfg_keeps
    | with_reducible apply State.guarded_keeps
    | with_reducible apply State.showSat_keeps
    | with_reducible apply State.w1c_keeps
    | with_reducible apply State.clrReq_keeps
    | with_reducible apply State.writeCoef_keeps
    | fail_if_no_progress beta_reduce
    | split

theorem State.write6_keeps {s0 : State} {s : State} {a1 : List FD} {a2 : ℕ} {a3 : ℕ} {a4 : ℕ} {a5 : ℕ} (h : Keeps s0 s) :
    Keeps s0 (State.write6 s a1 a2 a3 a4 a5) := by
  unfold State.write6
  repeat' first
    | with_reducible assumption
    | intro x; try clear_value x
    | with_reducible apply State.writePosCtrl_keeps
    | with_reducible refine State.onlyIf_keeps ?_ (fun x_ k => ?_)
    | with_reducible apply State.plain_keeps
    | with_reducible apply State.posClear_keeps
    | with_reducible apply State.posLoad_keeps
    | with_reducible refine State.putEn_keeps ?_ (fun x_ k => ?_) (fun x_ k => ?_)
    | with_reducible apply State.rsEnable_keeps
    | with_reducible apply State.rsDisable_keeps
    | with_reducible apply State.rsClear_keeps
    | with_reducible apply State.whileOff_keeps
    | with_reducible apply State.put_keeps
    | with_reducible apply State.writeRsExc_keeps
    | with_reducible apply State.emuEnable_keeps
    | with_reducible apply State.emuDisable_keeps
    | lift_lets -underBinder; intro x; try clear_value x
    | fail_if_no_progress beta_reduce
    | split

theorem State.cedDrain_keeps {s0 : State} {s : State} (h : Keeps s0 s) :
    Keeps s0 (State.cedDrain s) := by
  unfold State.cedDrain
  repeat' first
    | with_reducible assumption
    | with_reducible apply State.cedLand_keeps
    | with_reducible refine foldEach_keeps (fun a t k => ?_) _ ?_
    | fail_if_no_progress with_reducible apply keeps_mk (s := _)

theorem State.mbCtrl_keeps {s0 : State} {s : State} {a1 : Master} {a2 : ℕ} {a3 : Bool} {a4 : Bool} {a5 : Bool} (h : Keeps s0 s) :
    Keeps s0 (State.mbCtrl s a1 a2 a3 a4 a5) := by
  unfold State.mbCtrl
  repeat' first
    | with_reducible assumption
    | with_reducible apply State.busErr_keeps
    | with_reducible apply State.ack_keeps
    | with_reducible apply State.mbEmpty_keeps
    | with_reducible apply State.mbPost_keeps
    | with_reducible apply keeps_ite

theorem State.mbPut_keeps {s0 : State} {s : State} {a1 : ℕ} {a2 : ℕ} {a3 : ℕ} (h : Keeps s0 s) :
    Keeps s0 (State.mbPut s a1 a2 a3) := by
  unfold State.mbPut
  repeat' first
    | with_reducible assumption
    | with_reducible apply State.wr2_keeps
    | with_reducible apply State.wr_keeps
    | with_reducible apply keeps_ite

theorem State.mbWrite_keeps {s0 : State} {s : State} {a1 : Master} {a2 : ℕ} {a3 : ℕ} {a4 : ℕ} (h : Keeps s0 s) :
    Keeps s0 (State.mbWrite s a1 a2 a3 a4) := by
  unfold State.mbWrite
  repeat' first
    | with_reducible assumption
    | with_reducible apply State.busErr_keeps
    | with_reducible apply State.ack_keeps
    | with_reducible refine State.mbFill_keeps ?_ (fun x_ k => ?_)
    | with_reducible apply State.mbPut_keeps
    | with_reducible apply keeps_ite

theorem State.flipPrec_keeps {s0 : State} {s : State} {a1 : List Master} (h : Keeps s0 s) :
    Keeps s0 (State.flipPrec s a1) := by
  unfold State.flipPrec
  repeat' first
    | with_reducible assumption
    | with_reducible apply State.wr_keeps
    | with_reducible apply keeps_ite

theorem State.semRead_keeps {s0 : State} {s : State} {a1 : ℕ} {a2 : Master} (h : Keeps s0 s) :
    Keeps s0 (State.semRead s a1 a2) := by
  unfold State.semRead
  repeat' first
    | with_reducible assumption
    | with_reducible apply State.semAcq_keeps
    | with_reducible apply State.setResp_keeps
    | with_reducible apply State.busErr_keeps
    | with_reducible apply keeps_ite

theorem State.mbCfg_keeps {s0 : State} {s : State} {a1 : ℕ} {a2 : ℕ} {a3 : Bool} {a4 : ℕ} (h : Keeps s0 s) :
    Keeps s0 (State.mbCfg s a1 a2 a3 a4) := by
  unfold State.mbCfg
  repeat' first
    | with_reducible assumption
    | with_reducible apply State.flag_keeps
    | with_reducible apply State.wr_keeps
    | with_reducible apply keeps_ite

theorem State.denyIsland_keeps {s0 : State} {s : State} {a1 : FD} {a2 : ℕ} (h : Keeps s0 s) :
    Keeps s0 (State.denyIsland s a1 a2) := by
  unfold State.denyIsland
  repeat' first
    | with_reducible assumption
    | with_reducible apply State.wr_keeps
    | with_reducible apply State.flag_keeps

theorem State.rstReq_keeps {s0 : State} {s : State} {a1 : ℕ} (h : Keeps s0 s) :
    Keeps s0 (State.rstReq s a1) := by
  unfold State.rstReq
  repeat' first
    | with_reducible assumption
    | with_reducible apply State.denyIsland_keeps
    | with_reducible apply State.wr_keeps
    | with_reducible apply State.enterReset_keeps
    | with_reducible apply keeps_ite
    | fail_if_no_progress with_reducible apply keeps_mk (s := _)

theorem State.testFree_keeps {s0 : State} {s : State} (h : Keeps s0 s) :
    Keeps s0 (State.testFree s) := by
  unfold State.testFree
  repeat' first
    | with_reducible assumption
    | with_reducible apply State.leaveReset_keeps
    | with_reducible refine foldEach_keeps (fun a t k => ?_) _ ?_
    | fail_if_no_progress with_reducible apply keeps_mk (s := _)

theorem State.testHold_keeps {s0 : State} {s : State} (h : Keeps s0 s) :
    Keeps s0 (State.testHold s) := by
  unfold State.testHold
  repeat' first
    | with_reducible assumption
    | with_reducible apply State.enterReset_keeps
    | with_reducible refine foldEach_keeps (fun a t k => ?_) _ ?_
    | fail_if_no_progress with_reducible apply keeps_mk (s := _)

theorem State.setMode_keeps {s0 : State} {s : State} {a1 : ℕ} (h : Keeps s0 s) :
    Keeps s0 (State.setMode s a1) := by
  unfold State.setMode
  repeat' first
    | with_reducible assumption
    | fail_if_no_progress with_reducible apply keeps_mk (s := _)

theorem State.powerStart_keeps {s0 : State} {s : State} {a1 : ℕ} (h : Keeps s0 s) :
    Keeps s0 (State.powerStart s a1) := by
  unfold State.powerStart
  repeat' first
    | with_reducible assumption
    | with_reducible apply State.wakeCause_keeps
    | with_reducible apply State.setMode_keeps
    | with_reducible apply State.pReset_keeps

theorem State.wakeEvent_keeps {s0 : State} {s : State} {a1 : ℕ} (h : Keeps s0 s) :
    Keeps s0 (State.wakeEvent s a1) := by
  unfold State.wakeEvent
  repeat' first
    | with_reducible assumption
    | with_reducible apply State.powerStart_keeps
    | with_reducible apply keeps_ite
    | fail_if_no_progress with_reducible apply keeps_mk (s := _)

theorem State.warmStart_keeps {s0 : State} {s : State} {a1 : ℕ} (h : Keeps s0 s) :
    Keeps s0 (State.warmStart s a1) := by
  unfold State.warmStart
  repeat' first
    | with_reducible assumption
    | with_reducible apply State.wakeCause_keeps
    | with_reducible apply State.mReset_keeps

theorem State.copyAll_keeps {s0 : State} {s : State} {a1 : ℕ} (h : Keeps s0 s) :
    Keeps s0 (State.copyAll s a1) := by
  induction a1 generalizing s with
  | zero => exact h
  | succ n ih =>
    unfold State.copyAll
    split
    · exact ih (State.drainLog_keeps (State.copyCapture_keeps h))
    · exact h

theorem State.powerOff_keeps {s0 : State} {s : State} {a1 : ℕ} (h : Keeps s0 s) :
    Keeps s0 (State.powerOff s a1) := by
  unfold State.powerOff
  repeat' first
    | with_reducible assumption
    | with_reducible apply State.setMode_keeps
    | with_reducible apply State.pReset_keeps

theorem State.shutdownEnd_keeps {s0 : State} {s : State} (h : Keeps s0 s) :
    Keeps s0 (State.shutdownEnd s) := by
  unfold State.shutdownEnd
  repeat' first
    | with_reducible assumption
    | intro x; refine keeps_cut (s0 := s0) x ?_ ?_; (on_goal 2 => clear_value x); (on_goal 1 => subst x)
    | intro x; try clear_value x
    | with_reducible refine State.onlyIf_keeps ?_ (fun x_ k => ?_)
    | with_reducible apply State.wearWrite_keeps
    | with_reducible apply State.writeMap_keeps
    | with_reducible apply State.copyAll_keeps
    | with_reducible apply State.drainLog_keeps
    | with_reducible apply State.flag_keeps
    | with_reducible apply State.powerStart_keeps
    | with_reducible apply State.warmStart_keeps
    | with_reducible apply State.powerOff_keeps
    | with_reducible apply keeps_ite
    | lift_lets -underBinder; intro x; refine keeps_cut (s0 := s0) x ?_ ?_; (on_goal 2 => clear_value x); (on_goal 1 => subst x)
    | fail_if_no_progress beta_reduce
    | split

theorem State.scrub_keeps {s0 : State} {s : State} {a1 : ℕ} {a2 : List ℕ} (h : Keeps s0 s) :
    Keeps s0 (State.scrub s a1 a2) := by
  unfold State.scrub
  repeat' first
    | with_reducible assumption
    | with_reducible apply State.bump_keeps
    | with_reducible apply State.flag_keeps
    | with_reducible apply State.logEv_keeps
    | with_reducible apply State.eccCount_keeps
    | with_reducible refine foldEach_keeps (fun a t k => ?_) _ ?_
    | with_reducible apply keeps_ite
    | fail_if_no_progress with_reducible apply keeps_mk (s := _)

theorem State.pickSource_keeps {s0 : State} {s : State} {a1 : Bool} (h : Keeps s0 s) :
    Keeps s0 (State.pickSource s a1) := by
  unfold State.pickSource
  repeat' first
    | with_reducible assumption
    | with_reducible refine State.onlyIf_keeps ?_ (fun x_ k => ?_)
    | with_reducible apply State.wr_keeps
    | with_reducible apply State.flag_keeps

theorem State.enterDischarge_keeps {s0 : State} {s : State} (h : Keeps s0 s) :
    Keeps s0 (State.enterDischarge s) := by
  unfold State.enterDischarge
  repeat' first
    | with_reducible assumption
    | with_reducible apply State.tripStages_keeps
    | with_reducible apply State.wr_keeps
    | with_reducible apply State.enterReset_keeps
    | with_reducible apply State.powerMem_keeps
    | with_reducible apply State.flag_keeps
    | with_reducible apply State.showRails_keeps
    | with_reducible apply State.setMode_keeps
    | with_reducible apply State.showAllActive_keeps
    | with_reducible apply State.rowStatus_keeps
    | with_reducible refine foldEach_keeps (fun a t k => ?_) _ ?_
    | fail_if_no_progress with_reducible apply keeps_mk (s := _)

theorem State.supplyFall_keeps {s0 : State} {s : State} {a1 : ℕ} (h : Keeps s0 s) :
    Keeps s0 (State.supplyFall s a1) := by
  unfold State.supplyFall
  repeat' first
    | with_reducible assumption
    | with_reducible apply State.pickSource_keeps
    | with_reducible apply State.enterDischarge_keeps
    | with_reducible apply State.powerOff_keeps
    | with_reducible apply State.setMode_keeps
    | with_reducible apply keeps_ite
    | fail_if_no_progress beta_reduce
    | split

theorem State.relIsland_keeps {s0 : State} {s : State} {a1 : ℕ} {a2 : Bool} (h : Keeps s0 s) :
    Keeps s0 (State.relIsland s a1 a2) := by
  unfold State.relIsland
  repeat' first
    | with_reducible assumption
    | with_reducible refine State.onlyIf_keeps ?_ (fun x_ k => ?_)
    | with_reducible apply State.wr_keeps
    | with_reducible apply State.leaveReset_keeps
    | with_reducible apply keeps_ite

theorem State.powerDown_keeps {s0 : State} {s : State} {a1 : ℕ} {a2 : Bool} (h : Keeps s0 s) :
    Keeps s0 (State.powerDown s a1 a2) := by
  unfold State.powerDown
  repeat' first
    | with_reducible assumption
    | with_reducible refine State.onlyIf_keeps ?_ (fun x_ k => ?_)
    | with_reducible apply State.closeSwitch_keeps
    | with_reducible apply State.denyIsland_keeps
    | with_reducible apply State.wr_keeps
    | with_reducible apply State.enterReset_keeps
    | with_reducible apply keeps_ite
    | fail_if_no_progress with_reducible apply keeps_mk (s := _)

theorem State.dischargeStart_keeps {s0 : State} {s : State} (h : Keeps s0 s) :
    Keeps s0 (State.dischargeStart s) := by
  unfold State.dischargeStart
  repeat' first
    | with_reducible assumption
    | with_reducible apply State.clearHidden_keeps
    | with_reducible apply State.resetFields_keeps
    | with_reducible apply State.wr_keeps
    | with_reducible apply State.wakeCause_keeps
    | with_reducible apply State.setMode_keeps
    | with_reducible apply State.showAllActive_keeps
    | with_reducible apply State.showRails_keeps
    | with_reducible apply State.rowStatus_keeps
    | with_reducible refine foldEach_keeps (fun a t k => ?_) _ ?_
    | fail_if_no_progress with_reducible apply keeps_mk (s := _)

theorem State.testRecord_keeps {s0 : State} {s : State} (h : Keeps s0 s) :
    Keeps s0 (State.testRecord s) := by
  unfold State.testRecord
  repeat' first
    | with_reducible assumption
    | with_reducible apply State.logEv_keeps

theorem State.coldStart_keeps {s0 : State} {s : State} (h : Keeps s0 s) :
    Keeps s0 (State.coldStart s) := by
  unfold State.coldStart
  repeat' first
    | with_reducible assumption
    | with_reducible apply State.resetFields_keeps
    | with_reducible apply State.zeroMem_keeps
    | with_reducible apply keeps_ite
    | fail_if_no_progress with_reducible apply keeps_mk (s := _)

theorem State.supplyRise_keeps {s0 : State} {s : State} {a1 : FD} {a2 : Bool} (h : Keeps s0 s) :
    Keeps s0 (State.supplyRise s a1 a2) := by
  unfold State.supplyRise
  repeat' first
    | with_reducible assumption
    | with_reducible apply State.flag_keeps
    | with_reducible apply State.powerStart_keeps
    | with_reducible apply State.dischargeStart_keeps
    | with_reducible apply State.coldStart_keeps
    | with_reducible apply keeps_ite
    | fail_if_no_progress with_reducible apply keeps_mk (s := _)
    | fail_if_no_progress beta_reduce
    | split

theorem State.capClear_keeps {s0 : State} {s : State} (h : Keeps s0 s) :
    Keeps s0 (State.capClear s) := by
  unfold State.capClear
  repeat' first
    | with_reducible assumption
    | with_reducible apply State.wr_keeps
    | with_reducible apply State.zeroMem_keeps
    | fail_if_no_progress with_reducible apply keeps_mk (s := _)

theorem State.shutdown_keeps {s0 : State} {s : State} (h : Keeps s0 s) :
    Keeps s0 (State.shutdown s) := by
  unfold State.shutdown
  repeat' first
    | with_reducible assumption
    | with_reducible apply State.wr_keeps
    | with_reducible apply State.flag_keeps
    | with_reducible apply State.shutdownEnd_keeps
    | with_reducible apply State.testHold_keeps
    | with_reducible apply State.startRun_keeps
    | with_reducible apply keeps_ite
    | fail_if_no_progress with_reducible apply keeps_mk (s := _)

theorem State.prefWrite_keeps {s0 : State} {s : State} {a1 : ℕ} (h : Keeps s0 s) :
    Keeps s0 (State.prefWrite s a1) := by
  unfold State.prefWrite
  repeat' first
    | with_reducible assumption
    | with_reducible apply State.pickSource_keeps
    | with_reducible apply State.wr_keeps

theorem State.monCount_keeps {s0 : State} {s : State} {a1 : FD} {a2 : ℕ} {a3 : ℕ} (h : Keeps s0 s) :
    Keeps s0 (State.monCount s a1 a2 a3) := by
  unfold State.monCount
  repeat' first
    | with_reducible assumption
    | with_reducible apply State.flag_keeps
    | with_reducible apply State.wr2_keeps
    | with_reducible apply keeps_ite

theorem State.monValue_keeps {s0 : State} {s : State} {a1 : ℕ} {a2 : ℤ} (h : Keeps s0 s) :
    Keeps s0 (State.monValue s a1 a2) := by
  unfold State.monValue
  repeat' first
    | with_reducible assumption
    | with_reducible apply State.bump_keeps
    | with_reducible refine State.onlyIf_keeps ?_ (fun x_ k => ?_)
    | with_reducible apply State.wrI_keeps
    | with_reducible apply State.monCount_keeps
    | with_reducible apply State.flag_keeps
    | with_reducible apply keeps_ite

theorem State.setOpen_keeps {s0 : State} {s : State} {a1 : ℕ} {a2 : Option ℕ} (h : Keeps s0 s) :
    Keeps s0 (State.setOpen s a1 a2) := by
  unfold State.setOpen
  repeat' first
    | with_reducible assumption
    | with_reducible apply State.wr_keeps
    | fail_if_no_progress with_reducible apply keeps_mk (s := _)

theorem State.monLatency_keeps {s0 : State} {s : State} {a1 : ℕ} {a2 : ℕ} (h : Keeps s0 s) :
    Keeps s0 (State.monLatency s a1 a2) := by
  unfold State.monLatency
  repeat' first
    | with_reducible assumption
    | with_reducible apply State.monValue_keeps
    | with_reducible apply State.bump_keeps
    | with_reducible apply keeps_ite

theorem State.monPair_keeps {s0 : State} {s : State} {a1 : List ℕ} {a2 : ℕ} {a3 : ℕ} (h : Keeps s0 s) :
    Keeps s0 (State.monPair s a1 a2 a3) := by
  unfold State.monPair
  repeat' first
    | with_reducible assumption
    | with_reducible apply State.setOpen_keeps
    | with_reducible apply State.monLatency_keeps
    | with_reducible refine State.onlyIf_keeps ?_ (fun x_ k => ?_)
    | with_reducible apply State.flag_keeps
    | with_reducible apply keeps_ite
    | fail_if_no_progress beta_reduce
    | split

theorem State.monEvents_keeps {s0 : State} {s : State} {a1 : List ℕ} {a2 : ℕ} (h : Keeps s0 s) :
    Keeps s0 (State.monEvents s a1 a2) := by
  unfold State.monEvents
  repeat' first
    | with_reducible assumption
    | with_reducible apply State.monPair_keeps
    | with_reducible refine foldEach_keeps (fun a t k => ?_) _ ?_
    | with_reducible apply keeps_ite

theorem State.monEn_keeps {s0 : State} {s : State} {a1 : ℕ} {a2 : Bool} (h : Keeps s0 s) :
    Keeps s0 (State.monEn s a1 a2) := by
  unfold State.monEn
  repeat' first
    | with_reducible assumption
    | with_reducible apply State.setOpen_keeps
    | with_reducible apply State.wr_keeps
    | with_reducible apply State.flag_keeps
    | with_reducible apply keeps_ite

theorem State.monClear_keeps {s0 : State} {s : State} {a1 : ℕ} (h : Keeps s0 s) :
    Keeps s0 (State.monClear s a1) := by
  unfold State.monClear
  repeat' first
    | with_reducible assumption
    | with_reducible apply State.wr_keeps
    | with_reducible apply State.wr2_keeps
    | with_reducible refine foldEach_keeps (fun a t k => ?_) _ ?_

theorem State.monCfg_keeps {s0 : State} {s : State} {a1 : ℕ} {a2 : ℕ} (h : Keeps s0 s) :
    Keeps s0 (State.monCfg s a1 a2) := by
  unfold State.monCfg
  repeat' first
    | with_reducible assumption
    | with_reducible refine State.onlyIf_keeps ?_ (fun x_ k => ?_)
    | with_reducible apply State.flag_keeps
    | with_reducible apply State.wr_keeps
    | with_reducible apply State.monEn_keeps
    | with_reducible refine foldEach_keeps (fun a t k => ?_) _ ?_
    | with_reducible apply keeps_ite

theorem State.monSet_keeps {s0 : State} {s : State} {a1 : FD} {a2 : ℕ} {a3 : ℕ} (h : Keeps s0 s) :
    Keeps s0 (State.monSet s a1 a2 a3) := by
  unfold State.monSet
  repeat' first
    | with_reducible assumption
    | with_reducible apply State.flag_keeps
    | with_reducible apply State.wr_keeps
    | with_reducible apply keeps_ite

theorem State.writeChCmd_keeps {s0 : State} {s : State} {a1 : ℕ} (h : Keeps s0 s) :
    Keeps s0 (State.writeChCmd s a1) := by
  unfold State.writeChCmd
  repeat' first
    | with_reducible assumption
    | with_reducible apply State.put_keeps
    | with_reducible refine State.onlyIf_keeps ?_ (fun x_ k => ?_)
    | with_reducible apply State.chEnumerate_keeps
    | with_reducible apply State.chResetAll_keeps
    | with_reducible apply State.chResetOne_keeps

theorem State.writeStaged_keeps {s0 : State} {s : State} {a1 : List FD} {a2 : ℕ} {a3 : ℕ} {a4 : ℕ} (h : Keeps s0 s) :
    Keeps s0 (State.writeStaged s a1 a2 a3 a4) := by
  unfold State.writeStaged
  repeat' first
    | with_reducible assumption
    | with_reducible apply State.flag_keeps
    | with_reducible apply State.plain_keeps
    | with_reducible apply keeps_ite

theorem State.write9_keeps {s0 : State} {s : State} {a1 : List FD} {a2 : ℕ} {a3 : ℕ} {a4 : ℕ} {a5 : ℕ} (h : Keeps s0 s) :
    Keeps s0 (State.write9 s a1 a2 a3 a4 a5) := by
  unfold State.write9
  repeat' first
    | with_reducible assumption
    | with_reducible apply State.refSwitch_keeps
    | with_reducible refine State.putEn_keeps ?_ (fun x_ k => ?_) (fun x_ k => ?_)
    | with_reducible apply State.put_keeps
    | with_reducible apply State.chSetEn_keeps
    | with_reducible apply State.writeChCmd_keeps
    | with_reducible apply State.csyncArm_keeps
    | with_reducible apply State.plain_keeps
    | with_reducible refine State.onlyIf_keeps ?_ (fun x_ k => ?_)
    | with_reducible apply State.chGo_keeps
    | with_reducible apply State.mcPrepare_keeps
    | with_reducible apply State.writeStaged_keeps
    | with_reducible apply keeps_ite
    | fail_if_no_progress beta_reduce
    | split

theorem State.write7_keeps {s0 : State} {s : State} {a1 : Master} {a2 : List FD} {a3 : ℕ} {a4 : ℕ} {a5 : ℕ} {a6 : ℕ} (h : Keeps s0 s) :
    Keeps s0 (State.write7 s a1 a2 a3 a4 a5 a6) := by
  unfold State.write7
  repeat' first
    | with_reducible assumption
    | with_reducible apply State.mbCfg_keeps
    | with_reducible apply State.wr_keeps
    | with_reducible apply State.semRelease_keeps
    | with_reducible apply State.plain_keeps
    | fail_if_no_progress beta_reduce
    | split

theorem State.writePwrCtrl_keeps {s0 : State} {s : State} {a1 : ℕ} (h : Keeps s0 s) :
    Keeps s0 (State.writePwrCtrl s a1) := by
  unfold State.writePwrCtrl
  repeat' first
    | with_reducible assumption
    | with_reducible apply State.put_keeps
    | with_reducible refine State.onlyIf_keeps ?_ (fun x_ k => ?_)
    | with_reducible apply State.prefWrite_keeps
    | with_reducible apply State.shutdown_keeps

theorem State.writeIslCtrl_keeps {s0 : State} {s : State} {a1 : BusEnv} {a2 : ℕ} {a3 : ℕ} (h : Keeps s0 s) :
    Keeps s0 (State.writeIslCtrl s a1 a2 a3) := by
  unfold State.writeIslCtrl
  repeat' first
    | with_reducible assumption
    | with_reducible refine State.onlyIf_keeps ?_ (fun x_ k => ?_)
    | with_reducible apply State.rstReq_keeps
    | with_reducible apply State.relIsland_keeps
    | with_reducible refine State.putEn_keeps ?_ (fun x_ k => ?_) (fun x_ k => ?_)
    | with_reducible apply State.powerDown_keeps
    | with_reducible apply State.closeSwitch_keeps

theorem State.write11_keeps {s0 : State} {s : State} {a1 : BusEnv} {a2 : List FD} {a3 : ℕ} {a4 : ℕ} {a5 : ℕ} {a6 : ℕ} (h : Keeps s0 s) :
    Keeps s0 (State.write11 s a1 a2 a3 a4 a5 a6) := by
  unfold State.write11
  repeat' first
    | with_reducible assumption
    | with_reducible apply State.writePwrCtrl_keeps
    | with_reducible apply State.writeIslCtrl_keeps
    | with_reducible refine State.onlyIf_keeps ?_ (fun x_ k => ?_)
    | with_reducible apply State.plain_keeps
    | with_reducible apply State.put_keeps
    | with_reducible apply State.capClear_keeps
    | fail_if_no_progress beta_reduce
    | split

theorem State.canSet_keeps {s0 : State} {s : State} {a1 : List FD} {a2 : ℕ} {a3 : ℕ} (h : Keeps s0 s) :
    Keeps s0 (State.canSet s a1 a2 a3) := by
  unfold State.canSet
  repeat' first
    | with_reducible assumption
    | with_reducible apply State.canRefuse_keeps
    | with_reducible apply State.plain_keeps
    | with_reducible apply keeps_ite

theorem State.writeBasic_keeps {s0 : State} {s : State} {a1 : ℕ} {a2 : ℕ} (h : Keeps s0 s) :
    Keeps s0 (State.writeBasic s a1 a2) := by
  unfold State.writeBasic
  repeat' first
    | with_reducible assumption
    | with_reducible refine State.onlyIf_keeps ?_ (fun x_ k => ?_)
    | with_reducible apply State.w1c_keeps
    | with_reducible apply State.commitEnd_keeps
    | with_reducible apply State.commitStart_keeps
    | with_reducible apply keeps_ite

theorem State.writePllCtrl_keeps {s0 : State} {s : State} {a1 : ℕ} {a2 : ℕ} (h : Keeps s0 s) :
    Keeps s0 (State.writePllCtrl s a1 a2) := by
  unfold State.writePllCtrl
  repeat' first
    | with_reducible assumption
    | with_reducible refine State.onlyIf_keeps ?_ (fun x_ k => ?_)
    | with_reducible apply State.put_keeps
    | with_reducible apply State.pllDither_keeps
    | with_reducible apply State.pllEn_keeps
    | with_reducible apply State.pllRelock_keeps

theorem State.writeCanCtrl_keeps {s0 : State} {s : State} {a1 : ℕ} {a2 : ℕ} {a3 : Bool} (h : Keeps s0 s) :
    Keeps s0 (State.writeCanCtrl s a1 a2 a3) := by
  unfold State.writeCanCtrl
  repeat' first
    | with_reducible assumption
    | with_reducible apply State.canSet_keeps
    | with_reducible apply State.canRun_keeps
    | with_reducible apply State.canStop_keeps
    | with_reducible refine State.onlyIf_keeps ?_ (fun x_ k => ?_)
    | with_reducible apply State.wr_keeps
    | with_reducible apply State.setCanState_keeps
    | with_reducible apply keeps_ite

theorem State.writeCpxCtrl_keeps {s0 : State} {s : State} {a1 : Master} {a2 : ℕ} (h : Keeps s0 s) :
    Keeps s0 (State.writeCpxCtrl s a1 a2) := by
  unfold State.writeCpxCtrl
  repeat' first
    | with_reducible assumption
    | with_reducible refine State.onlyIf_keeps ?_ (fun x_ k => ?_)
    | with_reducible apply State.splitWrite_keeps
    | with_reducible apply State.joinRdyWrite_keeps
    | with_reducible apply State.joinWrite_keeps
    | with_reducible apply State.crstWrite_keeps
    | with_reducible apply State.pauseWrite_keeps
    | with_reducible refine foldEach_keeps (fun a t k => ?_) _ ?_

theorem State.writeIrqPend_keeps {s0 : State} {s : State} {a1 : ℕ} {a2 : ℕ} (h : Keeps s0 s) :
    Keeps s0 (State.writeIrqPend s a1 a2) := by
  unfold State.writeIrqPend
  repeat' first
    | with_reducible assumption
    | with_reducible apply State.irqUpdate_keeps
    | with_reducible apply State.w1c_keeps

theorem State.write14_keeps {s0 : State} {s : State} {a1 : Master} {a2 : List FD} {a3 : ℕ} {a4 : ℕ} {a5 : ℕ} {a6 : ℕ} (h : Keeps s0 s) :
    Keeps s0 (State.write14 s a1 a2 a3 a4 a5 a6) := by
  unfold State.write14
  repeat' first
    | with_reducible assumption
    | with_reducible apply State.writeCpxCtrl_keeps
    | with_reducible apply State.irqUpdate_keeps
    | with_reducible apply State.plain_keeps
    | with_reducible apply State.writeIrqPend_keeps
    | with_reducible apply State.injWrite_keeps
    | with_reducible apply keeps_ite
    | fail_if_no_progress beta_reduce
    | split

theorem State.write13_keeps {s0 : State} {s : State} {a1 : BusEnv} {a2 : List FD} {a3 : ℕ} {a4 : ℕ} {a5 : ℕ} {a6 : ℕ} (h : Keeps s0 s) :
    Keeps s0 (State.write13 s a1 a2 a3 a4 a5 a6) := by
  unfold State.write13
  repeat' first
    | with_reducible assumption
    | with_reducible apply State.monCfg_keeps
    | with_reducible apply State.monSet_keeps
    | with_reducible refine State.onlyIf_keeps ?_ (fun x_ k => ?_)
    | with_reducible apply State.monClear_keeps
    | with_reducible apply State.plain_keeps
    | with_reducible apply State.monEvents_keeps
    | fail_if_no_progress beta_reduce
    | split

theorem State.writeImgCtrl_keeps {s0 : State} {s : State} {a1 : ℕ} (h : Keeps s0 s) :
    Keeps s0 (State.writeImgCtrl s a1) := by
  unfold State.writeImgCtrl
  repeat' first
    | with_reducible assumption
    | with_reducible apply State.setByte_keeps
    | with_reducible apply State.put_keeps
    | with_reducible apply State.w1c_keeps
    | with_reducible apply State.loadWrite_keeps
    | with_reducible apply keeps_ite

theorem State.write16_keeps {s0 : State} {s : State} {a1 : Master} {a2 : List FD} {a3 : ℕ} {a4 : ℕ} {a5 : ℕ} {a6 : ℕ} (h : Keeps s0 s) :
    Keeps s0 (State.write16 s a1 a2 a3 a4 a5 a6) := by
  unfold State.write16
  repeat' first
    | with_reducible assumption
    | with_reducible apply State.writeImgCtrl_keeps
    | with_reducible apply State.lockWrite_keeps
    | with_reducible apply State.w1c_keeps
    | with_reducible refine State.onlyIf_keeps ?_ (fun x_ k => ?_)
    | with_reducible apply State.plain_keeps
    | with_reducible apply State.wr_keeps
    | with_reducible refine State.putEn_keeps ?_ (fun x_ k => ?_) (fun x_ k => ?_)
    | with_reducible apply State.enableStage_keeps
    | with_reducible apply State.disableStage_keeps
    | fail_if_no_progress beta_reduce
    | split

theorem State.write10_keeps {s0 : State} {s : State} {a1 : BusEnv} {a2 : List FD} {a3 : ℕ} {a4 : ℕ} {a5 : ℕ} {a6 : ℕ} (h : Keeps s0 s) :
    Keeps s0 (State.write10 s a1 a2 a3 a4 a5 a6) := by
  unfold State.write10
  repeat' first
    | with_reducible assumption
    | with_reducible refine State.onlyIf_keeps ?_ (fun x_ k => ?_)
    | with_reducible apply State.clkLocalSel_keeps
    | with_reducible apply State.writePllCtrl_keeps
    | with_reducible apply State.plain_keeps
    | with_reducible apply State.pllSeed_keeps
    | with_reducible apply State.clkRefuse_keeps
    | with_reducible apply keeps_ite
    | fail_if_no_progress beta_reduce
    | split

theorem State.write8_keeps {s0 : State} {s : State} {a1 : BusEnv} {a2 : List FD} {a3 : ℕ} {a4 : ℕ} {a5 : ℕ} {a6 : ℕ} (h : Keeps s0 s) :
    Keeps s0 (State.write8 s a1 a2 a3 a4 a5 a6) := by
  unfold State.write8
  repeat' first
    | with_reducible assumption
    | with_reducible apply State.writeCanCtrl_keeps
    | with_reducible apply State.canRequest_keeps
    | with_reducible apply State.canCancel_keeps
    | with_reducible apply State.canRelease_keeps
    | with_reducible apply State.canSet_keeps
    | with_reducible apply State.plain_keeps
    | with_reducible refine foldEach_keeps (fun a t k => ?_) _ ?_
    | with_reducible apply keeps_ite
    | fail_if_no_progress beta_reduce
    | split

theorem State.setRhold_keeps {s0 : State} {s : State} {a1 : Master} {a2 : Hold} (h : Keeps s0 s) :
    Keeps s0 (State.setRhold s a1 a2) := by
  unfold State.setRhold
  repeat' first
    | with_reducible assumption
    | fail_if_no_progress with_reducible apply keeps_mk (s := _)

theorem State.wideLoad_keeps {s0 : State} {s : State} {a1 : Master} {a2 : FD} {a3 : ℕ} {a4 : ℕ} {a5 : ℕ} (h : Keeps s0 s) :
    Keeps s0 (State.wideLoad s a1 a2 a3 a4 a5) := by
  unfold State.wideLoad
  repeat' first
    | with_reducible assumption
    | with_reducible apply State.setResp_keeps
    | with_reducible apply State.setRhold_keeps
    | with_reducible apply keeps_ite

theorem State.noteExpert_keeps {s0 : State} {s : State} {a1 : State} {a2 : List FD} {a3 : ℕ} {a4 : ℕ} (h : Keeps s0 s) :
    Keeps s0 (State.noteExpert s a1 a2 a3 a4) := by
  unfold State.noteExpert
  repeat' first
    | with_reducible assumption
    | with_reducible apply State.flag_keeps
    | fail_if_no_progress beta_reduce
    | split

theorem State.canRamStore_keeps {s0 : State} {s : State} {a1 : Master} {a2 : ℕ} {a3 : ℕ} {a4 : ℕ} (h : Keeps s0 s) :
    Keeps s0 (State.canRamStore s a1 a2 a3 a4) := by
  unfold State.canRamStore
  repeat' first
    | with_reducible assumption
    | with_reducible apply State.busErr_keeps
    | with_reducible apply State.ack_keeps
    | with_reducible apply State.canDirChanged_keeps
    | with_reducible apply State.eccWritten_keeps
    | with_reducible apply State.setNum_keeps
    | with_reducible apply keeps_ite

theorem State.aliasStore_keeps {s0 : State} {s : State} {a1 : Master} {a2 : ℕ} {a3 : ℕ} {a4 : ℕ} (h : Keeps s0 s) :
    Keeps s0 (State.aliasStore s a1 a2 a3 a4) := by
  unfold State.aliasStore
  repeat' first
    | with_reducible assumption
    | with_reducible apply State.ack_keeps
    | with_reducible apply State.tcmStore_keeps
    | with_reducible apply State.busErr_keeps
    | with_reducible refine foldEach_keeps (fun a t k => ?_) _ ?_
    | with_reducible apply keeps_ite
    | fail_if_no_progress beta_reduce
    | split

theorem State.setWhold_keeps {s0 : State} {s : State} {a1 : Master} {a2 : Hold} (h : Keeps s0 s) :
    Keeps s0 (State.setWhold s a1 a2) := by
  unfold State.setWhold
  repeat' first
    | with_reducible assumption
    | fail_if_no_progress with_reducible apply keeps_mk (s := _)

theorem State.setWide_keeps {s0 : State} {s : State} {a1 : FD} {a2 : ℕ} {a3 : ℕ} {a4 : ℕ} (h : Keeps s0 s) :
    Keeps s0 (State.setWide s a1 a2 a3 a4) := by
  unfold State.setWide
  repeat' first
    | with_reducible assumption
    | with_reducible apply State.flag_keeps
    | with_reducible apply State.wr2_keeps
    | with_reducible apply State.showMtip_keeps
    | with_reducible apply keeps_ite

theorem State.wideStore_keeps {s0 : State} {s : State} {a1 : Master} {a2 : FD} {a3 : ℕ} {a4 : ℕ} {a5 : ℕ} {a6 : ℕ} (h : Keeps s0 s) :
    Keeps s0 (State.wideStore s a1 a2 a3 a4 a5 a6) := by
  unfold State.wideStore
  repeat' first
    | with_reducible assumption
    | with_reducible apply State.setWhold_keeps
    | with_reducible refine State.onlyIf_keeps ?_ (fun x_ k => ?_)
    | with_reducible apply State.setWide_keeps
    | with_reducible apply keeps_ite

theorem State.regEffect_keeps {s0 : State} {s : State} {a1 : Master} {a2 : BusEnv} {a3 : List FD} {a4 : ℕ} {a5 : ℕ} {a6 : ℕ} {a7 : ℕ} {a8 : ℕ} (h : Keeps s0 s) :
    Keeps s0 (State.regEffect s a1 a2 a3 a4 a5 a6 a7 a8) := by
  unfold State.regEffect
  repeat' first
    | with_reducible assumption
    | with_reducible apply State.write0_keeps
    | with_reducible apply State.write1_keeps
    | with_reducible apply State.write2_keeps
    | with_reducible apply State.write3_keeps
    | with_reducible apply State.write4_keeps
    | with_reducible apply State.write5_keeps
    | with_reducible apply State.write6_keeps
    | with_reducible apply State.write7_keeps
    | with_reducible apply State.write8_keeps
    | with_reducible apply State.write9_keeps
    | with_reducible apply State.write10_keeps
    | with_reducible apply State.write11_keeps
    | with_reducible apply State.write13_keeps
    | with_reducible apply State.write14_keeps
    | with_reducible apply State.write16_keeps
    | with_reducible apply State.plain_keeps
    | fail_if_no_progress beta_reduce
    | split

theorem State.regStore_keeps {s0 : State} {s : State} {a1 : Master} {a2 : BusEnv} {a3 : ℕ} {a4 : ℕ} (h : Keeps s0 s) :
    Keeps s0 (State.regStore s a1 a2 a3 a4) := by
  unfold State.regStore
  generalize winOf a3 = w
  rcases w with ⟨b, off⟩
  repeat' first
    | with_reducible assumption
    | with_reducible apply State.busErr_keeps
    | with_reducible apply State.ack_keeps
    | with_reducible apply State.writeBasic_keeps
    | with_reducible apply State.commitEnd_keeps
    | with_reducible apply State.wideStore_keeps
    | with_reducible apply State.mbWrite_keeps
    | with_reducible apply State.mbCtrl_keeps
    | with_reducible apply State.tblAccess_keeps
    | with_reducible refine State.onlyIf_keeps ?_ (fun x_ k => ?_)
    | with_reducible apply State.rwiWrite_keeps
    | with_reducible apply State.noteExpert_keeps
    | with_reducible apply State.regEffect_keeps
    | with_reducible apply keeps_ite
    | fail_if_no_progress beta_reduce
    | split

theorem State.memStore_keeps {s0 : State} {s : State} {a1 : Master} {a2 : ℕ} {a3 : ℕ} {a4 : ℕ} (h : Keeps s0 s) :
    Keeps s0 (State.memStore s a1 a2 a3 a4) := by
  unfold State.memStore
  repeat' first
    | with_reducible assumption
    | with_reducible apply State.busErr_keeps
    | with_reducible apply State.aliasStore_keeps
    | with_reducible apply State.cedAccess_keeps
    | with_reducible apply State.canRamStore_keeps
    | with_reducible apply State.ack_keeps
    | with_reducible apply State.eccWritten_keeps
    | with_reducible apply State.setNum_keeps
    | with_reducible apply State.dStore_keeps
    | with_reducible apply State.ramStore_keeps
    | with_reducible apply keeps_ite
    | fail_if_no_progress beta_reduce
    | split

theorem State.busStore_keeps {s0 : State} {s : State} {a1 : Master} {a2 : BusEnv} {a3 : Size} {a4 : ℕ} {a5 : ℕ} (h : Keeps s0 s) :
    Keeps s0 (State.busStore s a1 a2 a3 a4 a5) := by
  unfold State.busStore
  repeat' first
    | with_reducible assumption
    | with_reducible apply State.busErr_keeps
    | with_reducible apply State.regStore_keeps
    | with_reducible apply State.memStore_keeps
    | with_reducible apply keeps_ite

theorem State.freshen_keeps {s0 : State} {s : State} {a1 : ℕ} {a2 : ℕ} {a3 : ℕ} (h : Keeps s0 s) :
    Keeps s0 (State.freshen s a1 a2 a3) := by
  unfold State.freshen
  repeat' first
    | with_reducible assumption
    | with_reducible apply State.showBusy_keeps
    | with_reducible apply State.wr_keeps
    | with_reducible apply keeps_ite

theorem State.regLoad_keeps {s0 : State} {s : State} {a1 : Master} {a2 : ℕ} (h : Keeps s0 s) :
    Keeps s0 (State.regLoad s a1 a2) := by
  unfold State.regLoad
  generalize winOf a2 = w
  rcases w with ⟨b, off⟩
  repeat' first
    | with_reducible assumption
    | with_reducible apply State.busErr_keeps
    | with_reducible apply State.setResp_keeps
    | with_reducible apply State.wideLoad_keeps
    | with_reducible apply State.semRead_keeps
    | with_reducible apply State.tblAccess_keeps
    | with_reducible apply State.freshen_keeps
    | with_reducible refine State.onlyIf_keeps ?_ (fun x_ k => ?_)
    | with_reducible apply State.wr_keeps
    | with_reducible apply keeps_ite
    | fail_if_no_progress beta_reduce
    | split

theorem State.memLoad_keeps {s0 : State} {s : State} {a1 : Master} {a2 : ℕ} (h : Keeps s0 s) :
    Keeps s0 (State.memLoad s a1 a2) := by
  unfold State.memLoad
  repeat' first
    | with_reducible assumption
    | with_reducible apply State.busErr_keeps
    | with_reducible apply State.eccMet_keeps
    | with_reducible apply State.setResp_keeps
    | with_reducible apply State.cedAccess_keeps
    | with_reducible apply State.eccMeet_keeps
    | with_reducible apply keeps_ite
    | fail_if_no_progress beta_reduce
    | split

theorem State.busLoad_keeps {s0 : State} {s : State} {a1 : Master} {a2 : ℕ} (h : Keeps s0 s) :
    Keeps s0 (State.busLoad s a1 a2) := by
  unfold State.busLoad
  repeat' first
    | with_reducible assumption
    | with_reducible apply State.busErr_keeps
    | with_reducible apply State.regLoad_keeps
    | with_reducible apply State.memLoad_keeps
    | with_reducible apply keeps_ite

theorem State.chMarkBad_keeps {s0 : State} {s : State} (h : Keeps s0 s) :
    Keeps s0 (State.chMarkBad s) := by
  unfold State.chMarkBad
  repeat' first
    | with_reducible assumption
    | with_reducible apply State.flag_keeps
    | with_reducible apply State.wr_keeps
    | with_reducible apply keeps_ite
    | fail_if_no_progress with_reducible apply keeps_mk (s := _)

theorem State.chMarkLock_keeps {s0 : State} {s : State} {a1 : ℤ} (h : Keeps s0 s) :
    Keeps s0 (State.chMarkLock s a1) := by
  unfold State.chMarkLock
  repeat' first
    | with_reducible assumption
    | with_reducible refine State.onlyIf_keeps ?_ (fun x_ k => ?_)
    | with_reducible apply State.wr_keeps
    | with_reducible apply State.chMarkBad_keeps
    | with_reducible apply keeps_ite
    | fail_if_no_progress with_reducible apply keeps_mk (s := _)

theorem State.mcReport_keeps {s0 : State} {s : State} {a1 : Bool} (h : Keeps s0 s) :
    Keeps s0 (State.mcReport s a1) := by
  unfold State.mcReport
  repeat' first
    | with_reducible assumption
    | with_reducible refine State.onlyIf_keeps ?_ (fun x_ k => ?_)
    | with_reducible apply State.mcApplied_keeps
    | with_reducible apply State.chSend_keeps
    | with_reducible apply keeps_ite

theorem State.mcWrites_keeps {s0 : State} {s : State} (h : Keeps s0 s) :
    Keeps s0 (State.mcWrites s) := by
  unfold State.mcWrites
  repeat' first
    | with_reducible assumption
    | with_reducible apply State.busStore_keeps
    | with_reducible refine foldEach_keeps (fun a t k => ?_) _ ?_
    | fail_if_no_progress with_reducible apply keeps_mk (s := _)

theorem State.mcApply_keeps {s0 : State} {s : State} {a1 : Bool} (h : Keeps s0 s) :
    Keeps s0 (State.mcApply s a1) := by
  unfold State.mcApply
  repeat' first
    | with_reducible assumption
    | with_reducible apply State.mcReport_keeps
    | with_reducible apply State.mcState_keeps
    | with_reducible refine State.onlyIf_keeps ?_ (fun x_ k => ?_)
    | with_reducible apply State.mcWrites_keeps
    | with_reducible apply State.flag_keeps
    | with_reducible apply keeps_ite

theorem State.chStep_keeps {s0 : State} {s : State} {a1 : ℤ} (h : Keeps s0 s) :
    Keeps s0 (State.chStep s a1) := by
  unfold State.chStep
  repeat' first
    | with_reducible assumption
    | with_reducible apply State.flag_keeps
    | with_reducible apply State.wr_keeps
    | with_reducible apply State.mcApply_keeps
    | with_reducible apply State.csyncRaise_keeps
    | with_reducible apply keeps_ite

theorem State.chSteer_keeps {s0 : State} {s : State} {a1 : ℤ} (h : Keeps s0 s) :
    Keeps s0 (State.chSteer s a1) := by
  unfold State.chSteer
  repeat' first
    | with_reducible assumption
    | with_reducible apply State.wrI_keeps
    | with_reducible apply keeps_ite

theorem State.chUseMark_keeps {s0 : State} {s : State} {a1 : ChMark} (h : Keeps s0 s) :
    Keeps s0 (State.chUseMark s a1) := by
  unfold State.chUseMark
  repeat' first
    | with_reducible assumption
    | with_reducible apply State.chMarkLock_keeps
    | with_reducible apply State.chStep_keeps
    | with_reducible apply State.chSteer_keeps
    | with_reducible apply keeps_ite
    | fail_if_no_progress with_reducible apply keeps_mk (s := _)

theorem State.chNewMark_keeps {s0 : State} {s : State} {a1 : ChMark} (h : Keeps s0 s) :
    Keeps s0 (State.chNewMark s a1) := by
  unfold State.chNewMark
  repeat' first
    | with_reducible assumption
    | with_reducible apply State.wr_keeps
    | fail_if_no_progress with_reducible apply keeps_mk (s := _)

theorem State.chTakeMark_keeps {s0 : State} {s : State} {a1 : ChMark} (h : Keeps s0 s) :
    Keeps s0 (State.chTakeMark s a1) := by
  unfold State.chTakeMark
  repeat' first
    | with_reducible assumption
    | with_reducible apply State.chNewMark_keeps
    | with_reducible apply State.chUseMark_keeps
    | with_reducible apply keeps_ite
    | fail_if_no_progress with_reducible apply keeps_mk (s := _)
    | fail_if_no_progress beta_reduce
    | split

theorem State.setHp_keeps {s0 : State} {s : State} {a1 : ℕ} {a2 : HpS} (h : Keeps s0 s) :
    Keeps s0 (State.setHp s a1 a2) := by
  unfold State.setHp
  repeat' first
    | with_reducible assumption
    | fail_if_no_progress with_reducible apply keeps_mk (s := _)

theorem State.hpOut_keeps {s0 : State} {s : State} {a1 : ℕ} {a2 : List ℕ} (h : Keeps s0 s) :
    Keeps s0 (State.hpOut s a1 a2) := by
  unfold State.hpOut
  repeat' first
    | with_reducible assumption
    | with_reducible apply State.setHp_keeps

theorem State.hpBegin_keeps {s0 : State} {s : State} {a1 : ℕ} (h : Keeps s0 s) :
    Keeps s0 (State.hpBegin s a1) := by
  unfold State.hpBegin
  repeat' first
    | with_reducible assumption
    | with_reducible apply State.setHp_keeps

theorem State.hpLoad_keeps {s0 : State} {s : State} {a1 : ℕ} {a2 : ℕ} (h : Keeps s0 s) :
    Keeps s0 (State.hpLoad s a1 a2) := by
  unfold State.hpLoad
  repeat' first
    | with_reducible assumption
    | with_reducible apply State.busLoad_keeps
    | with_reducible apply State.logEv_keeps
    | with_reducible apply State.busErr_keeps
    | with_reducible apply State.cedLand_keeps
    | with_reducible apply keeps_ite
    | fail_if_no_progress with_reducible apply keeps_mk (s := _)

theorem State.hpReads_keeps {s0 : State} {s : State} {a1 : ℕ} {a2 : ℕ} {a3 : ℕ} (h : Keeps s0 s) :
    Keeps s0 (State.hpReads s a1 a2 a3).1 := by
  induction a3 generalizing s a2 with
  | zero => exact h
  | succ n ih => exact ih (State.hpLoad_keeps h)

theorem State.setBuf_keeps {s0 : State} {s : State} {a1 : ℕ} {a2 : List (ℕ × ℕ)} (h : Keeps s0 s) :
    Keeps s0 (State.setBuf s a1 a2) := by
  unfold State.setBuf
  repeat' first
    | with_reducible assumption
    | with_reducible apply State.wr_keeps
    | with_reducible apply State.setHp_keeps

theorem State.hpIssue_keeps {s0 : State} {s : State} {a1 : ℕ} {a2 : BusEnv} (h : Keeps s0 s) :
    Keeps s0 (State.hpIssue s a1 a2) := by
  unfold State.hpIssue
  repeat' first
    | with_reducible assumption
    | with_reducible apply State.busStore_keeps
    | with_reducible apply State.setBuf_keeps
    | fail_if_no_progress beta_reduce
    | split

theorem State.hpIssueN_keeps {s0 : State} {s : State} {a1 : ℕ} {a2 : BusEnv} {a3 : ℕ} (h : Keeps s0 s) :
    Keeps s0 (State.hpIssueN s a1 a2 a3) := by
  induction a3 generalizing s with
  | zero => exact h
  | succ n ih => exact ih (State.hpIssue_keeps h)

theorem State.hpDrain_keeps {s0 : State} {s : State} {a1 : ℕ} {a2 : BusEnv} (h : Keeps s0 s) :
    Keeps s0 (State.hpDrain s a1 a2) := by
  unfold State.hpDrain
  repeat' first
    | with_reducible assumption
    | with_reducible apply State.hpIssueN_keeps

theorem State.hpRead_keeps {s0 : State} {s : State} {a1 : ℕ} {a2 : ℕ} {a3 : ℕ} {a4 : BusEnv} (h : Keeps s0 s) :
    Keeps s0 (State.hpRead s a1 a2 a3 a4) := by
  unfold State.hpRead
  repeat' first
    | with_reducible assumption
    | with_reducible apply State.hpReads_keeps
    | with_reducible apply State.hpDrain_keeps
    | with_reducible apply State.hpBegin_keeps
    | with_reducible apply State.hpOut_keeps

theorem State.hpTake_keeps {s0 : State} {s : State} {a1 : ℕ} {a2 : ℕ} {a3 : List ℕ} (h : Keeps s0 s) :
    Keeps s0 (State.hpTake s a1 a2 a3) := by
  unfold State.hpTake
  repeat' first
    | with_reducible assumption
    | with_reducible refine State.onlyIf_keeps ?_ (fun x_ k => ?_)
    | with_reducible apply State.setBuf_keeps
    | with_reducible apply State.flag_keeps

theorem State.checkpoint_keeps {s0 : State} {s : State} {a1 : ℕ} {a2 : Item} (h : Keeps s0 s) :
    Keeps s0 (State.checkpoint s a1 a2) := by
  unfold State.checkpoint
  repeat' first
    | with_reducible assumption
    | with_reducible apply State.setCpx_keeps

theorem State.busLoadN_keeps {s0 : State} {s : State} {a1 : Master} {a2 : Size} {a3 : ℕ} (h : Keeps s0 s) :
    Keeps s0 (State.busLoadN s a1 a2 a3) := by
  unfold State.busLoadN
  repeat' first
    | with_reducible assumption
    | with_reducible apply State.busLoad_keeps
    | with_reducible apply State.busErr_keeps
    | with_reducible apply State.memLoad_keeps
    | with_reducible apply State.setResp_keeps
    | with_reducible apply keeps_ite

theorem State.busStoreMask_keeps {s0 : State} {s : State} {a1 : Master} {a2 : BusEnv} {a3 : ℕ} {a4 : ℕ} {a5 : ℕ} (h : Keeps s0 s) :
    Keeps s0 (State.busStoreMask s a1 a2 a3 a4 a5) := by
  unfold State.busStoreMask
  repeat' first
    | with_reducible assumption
    | with_reducible apply State.busStore_keeps
    | with_reducible refine foldEach_keeps (fun a t k => ?_) _ ?_
    | with_reducible apply keeps_ite

theorem State.busItem_keeps {s0 : State} {s : State} {a1 : Master} {a2 : BusEnv} {a3 : Item} (h : Keeps s0 s) :
    Keeps s0 (State.busItem s a1 a2 a3) := by
  unfold State.busItem
  repeat' first
    | with_reducible assumption
    | with_reducible apply State.busStoreMask_keeps
    | with_reducible apply State.busLoadN_keeps
    | fail_if_no_progress beta_reduce
    | split

theorem State.releaseItem_keeps {s0 : State} {s : State} {a1 : ℕ} {a2 : ℕ} {a3 : BusEnv} {a4 : Option Item} (h : Keeps s0 s) :
    Keeps s0 (State.releaseItem s a1 a2 a3 a4) := by
  unfold State.releaseItem
  repeat' first
    | with_reducible assumption
    | with_reducible apply State.busItem_keeps
    | with_reducible apply State.checkpoint_keeps
    | fail_if_no_progress beta_reduce
    | split

theorem State.lastOf_keeps {s0 : State} {s : State} {a1 : ℕ} {a2 : ℕ} {a3 : List (Option Item)} (h : Keeps s0 s) :
    Keeps s0 (State.lastOf s a1 a2 a3) := by
  unfold State.lastOf
  repeat' first
    | with_reducible assumption
    | with_reducible apply State.lastMismatch_keeps
    | with_reducible apply id_keeps
    | with_reducible apply keeps_ite
    | fail_if_no_progress beta_reduce
    | split

theorem State.vote_keeps {s0 : State} {s : State} {a1 : ℕ} {a2 : BusEnv} {a3 : ℕ → Option Item} (h : Keeps s0 s) :
    Keeps s0 (State.vote s a1 a2 a3) := by
  unfold State.vote
  repeat' first
    | with_reducible assumption
    | with_reducible apply State.releaseItem_keeps
    | with_reducible apply State.outvote_keeps
    | with_reducible apply State.lastOf_keeps
    | with_reducible apply State.disagree_keeps
    | with_reducible apply State.pairMismatch_keeps
    | with_reducible apply keeps_ite
    | lift_lets -underBinder; intro x; try clear_value x
    | fail_if_no_progress beta_reduce
    | split

theorem State.unvoted_keeps {s0 : State} {s : State} {a1 : ℕ} {a2 : BusEnv} {a3 : ℕ → Option Item} (h : Keeps s0 s) :
    Keeps s0 (State.unvoted s a1 a2 a3) := by
  unfold State.unvoted
  repeat' first
    | with_reducible assumption
    | with_reducible apply State.busItem_keeps
    | with_reducible apply State.releaseItem_keeps
    | with_reducible refine foldEach_keeps (fun a t k => ?_) _ ?_
    | fail_if_no_progress beta_reduce
    | split

theorem State.clayTick_keeps {s0 : State} {s : State} (h : Keeps s0 s) :
    Keeps s0 (State.clayTick s) := by
  unfold State.clayTick
  repeat' first
    | with_reducible assumption
    | with_reducible apply State.wr_keeps
    | with_reducible apply keeps_ite
    | fail_if_no_progress with_reducible apply keeps_mk (s := _)

end Sys2Proof.Machine
end

