-- ==== Sys2Proof/Laws/KeepsExec.lean ====
section
/-! SUPPORT. Every command keeps what `Keeps` names: one lemma for each meaning. -/

namespace Sys2Proof.Machine

theorem execPairBurstDone_keeps {a0 : Fin 16} {s : State} {t : State} (h : execPairBurstDone a0 s = .next t) : Keeps s t := by
  unfold execPairBurstDone at h; refine keeps_next h ?_; have h0 := Keeps.refl s
  repeat' first
    | with_reducible assumption
    | with_reducible apply State.flag_keeps
    | with_reducible apply State.wr_keeps
    | with_reducible apply State.setPair_keeps
    | with_reducible apply keeps_ite

theorem execPairCalDone_keeps {a0 : Fin 16} {a1 : ℕ} {a2 : ℕ} {a3 : ℕ} {a4 : ℕ} {a5 : List ℤ} {s : State} {t : State} (h : execPairCalDone a0 a1 a2 a3 a4 a5 s = .next t) : Keeps s t := by
  unfold execPairCalDone at h; refine keeps_next h ?_; have h0 := Keeps.refl s
  repeat' first
    | with_reducible assumption
    | with_reducible apply State.wrI_keeps
    | with_reducible apply State.storeAdcTrims_keeps
    | with_reducible apply State.flag_keeps
    | with_reducible apply State.wr_keeps
    | with_reducible apply keeps_ite
    | fail_if_no_progress beta_reduce
    | split

theorem execAdcCalBegin_keeps {a0 : Fin 32} {s : State} {t : State} (h : execAdcCalBegin a0 s = .next t) : Keeps s t := by
  unfold execAdcCalBegin at h; refine keeps_next h ?_; have h0 := Keeps.refl s
  repeat' first
    | with_reducible assumption
    | with_reducible apply State.flag_keeps
    | with_reducible apply State.wr_keeps
    | with_reducible apply State.setAdc_keeps
    | with_reducible apply keeps_ite

theorem execAdcSamplingInstant_keeps {a0 : Fin 32} {a1 : ℤ} {s : State} {t : State} (h : execAdcSamplingInstant a0 a1 s = .next t) : Keeps s t := by
  unfold execAdcSamplingInstant at h; refine keeps_next h ?_; have h0 := Keeps.refl s
  repeat' first
    | with_reducible assumption
    | with_reducible apply State.setAdc_keeps
    | with_reducible apply keeps_ite

theorem execInjSlotStart_keeps {a0 : Fin 32} {a1 : Fin 2} {s : State} {t : State} (h : execInjSlotStart a0 a1 s = .next t) : Keeps s t := by
  unfold execInjSlotStart at h; refine keeps_next h ?_; have h0 := Keeps.refl s
  repeat' first
    | with_reducible assumption
    | with_reducible apply State.startSlot_keeps
    | with_reducible apply keeps_ite

theorem execAdcEoc_keeps {a0 : Fin 32} {s : State} {t : State} (h : execAdcEoc a0 s = .next t) : Keeps s t := by
  unfold execAdcEoc at h; refine keeps_next h ?_; have h0 := Keeps.refl s
  repeat' first
    | with_reducible assumption
    | with_reducible apply State.eocSeq_keeps
    | with_reducible apply State.eocInj_keeps
    | with_reducible apply State.eocPair_keeps
    | with_reducible apply keeps_ite
    | fail_if_no_progress beta_reduce
    | split

theorem execPairBurstTrigger_keeps {a0 : Fin 16} {s : State} {t : State} (h : execPairBurstTrigger a0 s = .next t) : Keeps s t := by
  unfold execPairBurstTrigger at h; refine keeps_next h ?_; have h0 := Keeps.refl s
  repeat' first
    | with_reducible assumption
    | with_reducible apply State.burstStart_keeps
    | with_reducible apply State.takePulse_keeps
    | with_reducible apply keeps_ite

theorem execPairCalBegin_keeps {a0 : Fin 16} {s : State} {t : State} (h : execPairCalBegin a0 s = .next t) : Keeps s t := by
  unfold execPairCalBegin at h; refine keeps_next h ?_; have h0 := Keeps.refl s
  repeat' first
    | with_reducible assumption
    | with_reducible apply State.setPair_keeps
    | with_reducible apply State.wr_keeps
    | with_reducible apply State.flag_keeps
    | with_reducible apply keeps_ite

theorem execSeqGroupIssue_keeps {a0 : Fin 4} {s : State} {t : State} (h : execSeqGroupIssue a0 s = .next t) : Keeps s t := by
  unfold execSeqGroupIssue at h; refine keeps_next h ?_; have h0 := Keeps.refl s
  repeat' first
    | with_reducible assumption
    | with_reducible apply State.issueGroup_keeps
    | with_reducible apply keeps_ite

theorem execInjTrigger_keeps {a0 : Fin 32} {a1 : Fin 2} {s : State} {t : State} (h : execInjTrigger a0 a1 s = .next t) : Keeps s t := by
  unfold execInjTrigger at h; refine keeps_next h ?_; have h0 := Keeps.refl s
  repeat' first
    | with_reducible assumption
    | with_reducible apply State.injRoute_keeps
    | with_reducible refine State.onlyIf_keeps ?_ (fun x_ k => ?_)
    | with_reducible apply keeps_ite

theorem execSeqStart_keeps {a0 : Fin 4} {s : State} {t : State} (h : execSeqStart a0 s = .next t) : Keeps s t := by
  unfold execSeqStart at h; refine keeps_next h ?_; have h0 := Keeps.refl s
  repeat' first
    | with_reducible assumption
    | with_reducible apply State.seqStart_keeps
    | with_reducible apply State.takePulse_keeps
    | with_reducible apply keeps_ite

theorem execAdcCalDone_keeps {a0 : Fin 32} {a1 : ℕ} {a2 : ℕ} {s : State} {t : State} (h : execAdcCalDone a0 a1 a2 s = .next t) : Keeps s t := by
  unfold execAdcCalDone at h; refine keeps_next h ?_; have h0 := Keeps.refl s
  repeat' first
    | with_reducible assumption
    | with_reducible apply State.wrI_keeps
    | with_reducible apply State.storeAdcTrims_keeps
    | with_reducible apply State.flag_keeps
    | with_reducible apply State.calEnd_keeps
    | with_reducible apply keeps_ite
    | fail_if_no_progress beta_reduce
    | split

theorem execIsoCalDone_keeps {a0 : Fin 8} {a1 a2 : Int} {s : State} {t : State} (h : execIsoCalDone a0 a1 a2 s = .next t) : Keeps s t := by
  unfold execIsoCalDone at h; refine keeps_next h ?_; have h0 := Keeps.refl s
  repeat' first
    | with_reducible assumption
    | with_reducible apply State.wrI_keeps
    | with_reducible apply State.storeIsoTrims_keeps
    | with_reducible apply State.flag_keeps
    | with_reducible apply State.isoCalEnd_keeps
    | with_reducible apply keeps_ite
    | fail_if_no_progress beta_reduce
    | split

theorem execIsoOutput_keeps {a0 : Fin 8} {a1 : List Bool} {s : State} {t : State} (h : execIsoOutput a0 a1 s = .next t) : Keeps s t := by
  unfold execIsoOutput at h; refine keeps_next h ?_; have h0 := Keeps.refl s
  repeat' first
    | with_reducible assumption
    | with_reducible apply State.isoEmit_keeps
    | with_reducible apply keeps_ite

theorem execIsoOverload_keeps {a0 : Fin 8} {s : State} {t : State} (h : execIsoOverload a0 s = .next t) : Keeps s t := by
  unfold execIsoOverload at h; refine keeps_next h ?_; have h0 := Keeps.refl s
  repeat' first
    | with_reducible assumption
    | with_reducible apply State.setIso_keeps

theorem execIsoOverloadEnd_keeps {a0 : Fin 8} {s : State} {t : State} (h : execIsoOverloadEnd a0 s = .next t) : Keeps s t := by
  unfold execIsoOverloadEnd at h; refine keeps_next h ?_; have h0 := Keeps.refl s
  repeat' first
    | with_reducible assumption
    | with_reducible apply State.setIso_keeps

theorem execCedLdi_keeps {a0 : Fin 8} {s : State} {t : State} (h : execCedLdi a0 s = .next t) : Keeps s t := by
  unfold execCedLdi at h; refine keeps_next h ?_; have h0 := Keeps.refl s
  repeat' first
    | with_reducible assumption
    | with_reducible refine State.cedRun_keeps ?_ (fun x_ x_ k => ?_)
    | with_reducible apply State.putD_keeps

theorem execCedMin_keeps {a0 : Fin 8} {s : State} {t : State} (h : execCedMin a0 s = .next t) : Keeps s t := by
  unfold execCedMin at h; refine keeps_next h ?_; have h0 := Keeps.refl s
  repeat' first
    | with_reducible assumption
    | with_reducible refine State.cedRun_keeps ?_ (fun x_ x_ k => ?_)
    | with_reducible apply State.putSat_keeps

theorem execCedSub_keeps {a0 : Fin 8} {s : State} {t : State} (h : execCedSub a0 s = .next t) : Keeps s t := by
  unfold execCedSub at h; refine keeps_next h ?_; have h0 := Keeps.refl s
  repeat' first
    | with_reducible assumption
    | with_reducible apply State.cedSat2_keeps

theorem execCedMag_keeps {a0 : Fin 8} {s : State} {t : State} (h : execCedMag a0 s = .next t) : Keeps s t := by
  unfold execCedMag at h; refine keeps_next h ?_; have h0 := Keeps.refl s
  repeat' first
    | with_reducible assumption
    | with_reducible apply State.cedSat2_keeps

theorem execLpRouteStart_keeps {a0 : Fin 8} {a1 : Fin 4} {s : State} {t : State} (h : execLpRouteStart a0 a1 s = .next t) : Keeps s t := by
  unfold execLpRouteStart at h; refine keeps_next h ?_; have h0 := Keeps.refl s
  repeat' first
    | with_reducible assumption
    | with_reducible refine State.onlyIf_keeps ?_ (fun x_ k => ?_)
    | with_reducible apply State.takePulse_keeps
    | with_reducible apply State.lpRoute_keeps
    | with_reducible refine foldEach_keeps (fun a t k => ?_) _ ?_
    | fail_if_no_progress beta_reduce
    | split

theorem execCedAddw_keeps {a0 : Fin 8} {s : State} {t : State} (h : execCedAddw a0 s = .next t) : Keeps s t := by
  unfold execCedAddw at h; refine keeps_next h ?_; have h0 := Keeps.refl s
  repeat' first
    | with_reducible assumption
    | with_reducible refine State.cedRun_keeps ?_ (fun x_ x_ k => ?_)
    | with_reducible apply State.putD_keeps

theorem execReqPulse_keeps {a0 : Fin 8} {s : State} {t : State} (h : execReqPulse a0 s = .next t) : Keeps s t := by
  unfold execReqPulse at h; refine keeps_next h ?_; have h0 := Keeps.refl s
  repeat' first
    | with_reducible assumption
    | with_reducible apply State.raisePulse_keeps
    | with_reducible apply State.setLu_keeps
    | fail_if_no_progress beta_reduce
    | split

theorem execCedTlu_keeps {a0 : Fin 8} {s : State} {t : State} (h : execCedTlu a0 s = .next t) : Keeps s t := by
  unfold execCedTlu at h; refine keeps_next h ?_; have h0 := Keeps.refl s
  repeat' first
    | with_reducible assumption
    | with_reducible refine State.cedRun_keeps ?_ (fun x_ x_ k => ?_)
    | with_reducible apply State.luEcc_keeps
    | with_reducible apply State.putSat_keeps
    | with_reducible apply keeps_ite
    | lift_lets -underBinder; intro x; try clear_value x
    | fail_if_no_progress beta_reduce
    | split

theorem execCedReq_keeps {a0 : Fin 8} {s : State} {t : State} (h : execCedReq a0 s = .next t) : Keeps s t := by
  unfold execCedReq at h; refine keeps_next h ?_; have h0 := Keeps.refl s
  repeat' first
    | with_reducible assumption
    | with_reducible refine State.cedRun_keeps ?_ (fun x_ x_ k => ?_)
    | with_reducible apply State.setLu_keeps

theorem execCedAbs_keeps {a0 : Fin 8} {s : State} {t : State} (h : execCedAbs a0 s = .next t) : Keeps s t := by
  unfold execCedAbs at h; refine keeps_next h ?_; have h0 := Keeps.refl s
  repeat' first
    | with_reducible assumption
    | with_reducible refine State.cedRun_keeps ?_ (fun x_ x_ k => ?_)
    | with_reducible apply State.putSat_keeps

theorem execCedDiv_keeps {a0 : Fin 8} {s : State} {t : State} (h : execCedDiv a0 s = .next t) : Keeps s t := by
  unfold execCedDiv at h; refine keeps_next h ?_; have h0 := Keeps.refl s
  repeat' first
    | with_reducible assumption
    | with_reducible apply State.cedSat2_keeps

theorem execCedIclarke_keeps {a0 : Fin 8} {s : State} {t : State} (h : execCedIclarke a0 s = .next t) : Keeps s t := by
  unfold execCedIclarke at h; refine keeps_next h ?_; have h0 := Keeps.refl s
  repeat' first
    | with_reducible assumption
    | with_reducible refine State.cedRun_keeps ?_ (fun x_ x_ k => ?_)
    | with_reducible apply State.putSat_keeps

theorem execCedOut_keeps {a0 : Fin 8} {s : State} {t : State} (h : execCedOut a0 s = .next t) : Keeps s t := by
  unfold execCedOut at h; refine keeps_next h ?_; have h0 := Keeps.refl s
  repeat' first
    | with_reducible assumption
    | with_reducible refine State.cedRun_keeps ?_ (fun x_ x_ k => ?_)
    | with_reducible apply State.setLu_keeps
    | with_reducible apply State.wr2_keeps

theorem execCedIpark_keeps {a0 : Fin 8} {s : State} {t : State} (h : execCedIpark a0 s = .next t) : Keeps s t := by
  unfold execCedIpark at h; refine keeps_next h ?_; have h0 := Keeps.refl s
  repeat' first
    | with_reducible assumption
    | with_reducible refine State.cedRun_keeps ?_ (fun x_ x_ k => ?_)
    | with_reducible apply State.putSat_keeps

theorem execCedClarke_keeps {a0 : Fin 8} {s : State} {t : State} (h : execCedClarke a0 s = .next t) : Keeps s t := by
  unfold execCedClarke at h; refine keeps_next h ?_; have h0 := Keeps.refl s
  repeat' first
    | with_reducible assumption
    | with_reducible refine State.cedRun_keeps ?_ (fun x_ x_ k => ?_)
    | with_reducible apply State.putSat_keeps
    | with_reducible apply keeps_ite

theorem execCedMov_keeps {a0 : Fin 8} {s : State} {t : State} (h : execCedMov a0 s = .next t) : Keeps s t := by
  unfold execCedMov at h; refine keeps_next h ?_; have h0 := Keeps.refl s
  repeat' first
    | with_reducible assumption
    | with_reducible refine State.cedRun_keeps ?_ (fun x_ x_ k => ?_)
    | with_reducible apply State.putD_keeps

theorem execCedAdd_keeps {a0 : Fin 8} {s : State} {t : State} (h : execCedAdd a0 s = .next t) : Keeps s t := by
  unfold execCedAdd at h; refine keeps_next h ?_; have h0 := Keeps.refl s
  repeat' first
    | with_reducible assumption
    | with_reducible apply State.cedSat2_keeps

theorem execCedMva_keeps {a0 : Fin 8} {s : State} {t : State} (h : execCedMva a0 s = .next t) : Keeps s t := by
  unfold execCedMva at h; refine keeps_next h ?_; have h0 := Keeps.refl s
  repeat' first
    | with_reducible assumption
    | with_reducible refine State.cedRun_keeps ?_ (fun x_ x_ k => ?_)
    | with_reducible apply State.putSat_keeps

theorem execCedNeg_keeps {a0 : Fin 8} {s : State} {t : State} (h : execCedNeg a0 s = .next t) : Keeps s t := by
  unfold execCedNeg at h; refine keeps_next h ?_; have h0 := Keeps.refl s
  repeat' first
    | with_reducible assumption
    | with_reducible refine State.cedRun_keeps ?_ (fun x_ x_ k => ?_)
    | with_reducible apply State.putSat_keeps

theorem execCedPi_keeps {a0 : Fin 8} {s : State} {t : State} (h : execCedPi a0 s = .next t) : Keeps s t := by
  unfold execCedPi at h; refine keeps_next h ?_; have h0 := Keeps.refl s
  repeat' first
    | with_reducible assumption
    | with_reducible refine State.cedRun_keeps ?_ (fun x_ x_ k => ?_)
    | with_reducible apply State.blkPI_keeps

theorem execCedCmp_keeps {a0 : Fin 8} {s : State} {t : State} (h : execCedCmp a0 s = .next t) : Keeps s t := by
  unfold execCedCmp at h; refine keeps_next h ?_; have h0 := Keeps.refl s
  repeat' first
    | with_reducible assumption
    | with_reducible refine State.cedRun_keeps ?_ (fun x_ x_ k => ?_)
    | with_reducible apply State.putP_keeps

theorem execCedWrl_keeps {a0 : Fin 8} {s : State} {t : State} (h : execCedWrl a0 s = .next t) : Keeps s t := by
  unfold execCedWrl at h; refine keeps_next h ?_; have h0 := Keeps.refl s
  repeat' first
    | with_reducible assumption
    | with_reducible refine State.cedRun_keeps ?_ (fun x_ x_ k => ?_)
    | with_reducible apply State.stageWrl_keeps

theorem execLpRunStart_keeps {a0 : Fin 8} {s : State} {t : State} (h : execLpRunStart a0 s = .next t) : Keeps s t := by
  unfold execLpRunStart at h; refine keeps_next h ?_; have h0 := Keeps.refl s
  repeat' first
    | with_reducible assumption
    | with_reducible refine State.onlyIf_keeps ?_ (fun x_ k => ?_)
    | with_reducible apply State.lpBegin_keeps

theorem execCedNop_keeps {a0 : Fin 8} {s : State} {t : State} (h : execCedNop a0 s = .next t) : Keeps s t := by
  unfold execCedNop at h; refine keeps_next h ?_; have h0 := Keeps.refl s
  repeat' first
    | with_reducible assumption
    | with_reducible refine State.cedRun_keeps ?_ (fun x_ x_ k => ?_)

theorem execCedTst_keeps {a0 : Fin 8} {s : State} {t : State} (h : execCedTst a0 s = .next t) : Keeps s t := by
  unfold execCedTst at h; refine keeps_next h ?_; have h0 := Keeps.refl s
  repeat' first
    | with_reducible assumption
    | with_reducible refine State.cedRun_keeps ?_ (fun x_ x_ k => ?_)
    | with_reducible apply State.putP_keeps

theorem execCedPark_keeps {a0 : Fin 8} {s : State} {t : State} (h : execCedPark a0 s = .next t) : Keeps s t := by
  unfold execCedPark at h; refine keeps_next h ?_; have h0 := Keeps.refl s
  repeat' first
    | with_reducible assumption
    | with_reducible refine State.cedRun_keeps ?_ (fun x_ x_ k => ?_)
    | with_reducible apply State.putSat_keeps

theorem execCedMax_keeps {a0 : Fin 8} {s : State} {t : State} (h : execCedMax a0 s = .next t) : Keeps s t := by
  unfold execCedMax at h; refine keeps_next h ?_; have h0 := Keeps.refl s
  repeat' first
    | with_reducible assumption
    | with_reducible refine State.cedRun_keeps ?_ (fun x_ x_ k => ?_)
    | with_reducible apply State.putSat_keeps

theorem execCedPr_keeps {a0 : Fin 8} {s : State} {t : State} (h : execCedPr a0 s = .next t) : Keeps s t := by
  unfold execCedPr at h; refine keeps_next h ?_; have h0 := Keeps.refl s
  repeat' first
    | with_reducible assumption
    | with_reducible refine State.cedRun_keeps ?_ (fun x_ x_ k => ?_)
    | with_reducible apply State.blkPR_keeps

theorem execCedMul_keeps {a0 : Fin 8} {s : State} {t : State} (h : execCedMul a0 s = .next t) : Keeps s t := by
  unfold execCedMul at h; refine keeps_next h ?_; have h0 := Keeps.refl s
  repeat' first
    | with_reducible assumption
    | with_reducible apply State.cedSat2_keeps

theorem execCedSvm_keeps {a0 : Fin 8} {s : State} {t : State} (h : execCedSvm a0 s = .next t) : Keeps s t := by
  unfold execCedSvm at h; refine keeps_next h ?_; have h0 := Keeps.refl s
  repeat' first
    | with_reducible assumption
    | with_reducible refine State.cedRun_keeps ?_ (fun x_ x_ k => ?_)
    | with_reducible apply State.putDuty_keeps

theorem execLpValidationDone_keeps {a0 : Fin 8} {s : State} {t : State} (h : execLpValidationDone a0 s = .next t) : Keeps s t := by
  unfold execLpValidationDone at h; refine keeps_next h ?_; have h0 := Keeps.refl s
  repeat' first
    | with_reducible assumption
    | with_reducible refine State.onlyIf_keeps ?_ (fun x_ k => ?_)
    | with_reducible apply State.lpValidated_keeps

theorem execCedSincos_keeps {a0 : Fin 8} {s : State} {t : State} (h : execCedSincos a0 s = .next t) : Keeps s t := by
  unfold execCedSincos at h; refine keeps_next h ?_; have h0 := Keeps.refl s
  repeat' first
    | with_reducible assumption
    | with_reducible refine State.cedRun_keeps ?_ (fun x_ x_ k => ?_)
    | with_reducible apply State.putSat_keeps

theorem execCedSel_keeps {a0 : Fin 8} {s : State} {t : State} (h : execCedSel a0 s = .next t) : Keeps s t := by
  unfold execCedSel at h; refine keeps_next h ?_; have h0 := Keeps.refl s
  repeat' first
    | with_reducible assumption
    | with_reducible refine State.cedRun_keeps ?_ (fun x_ x_ k => ?_)
    | with_reducible apply State.putD_keeps

theorem execWrlCapture_keeps {a0 : Fin 8} {s : State} {t : State} (h : execWrlCapture a0 s = .next t) : Keeps s t := by
  unfold execWrlCapture at h; refine keeps_next h ?_; have h0 := Keeps.refl s
  repeat' first
    | with_reducible assumption
    | with_reducible refine State.onlyIf_keeps ?_ (fun x_ k => ?_)
    | with_reducible apply State.captureWrl_keeps

theorem execCedClra_keeps {a0 : Fin 8} {s : State} {t : State} (h : execCedClra a0 s = .next t) : Keeps s t := by
  unfold execCedClra at h; refine keeps_next h ?_; have h0 := Keeps.refl s
  repeat' first
    | with_reducible assumption
    | with_reducible refine State.cedRun_keeps ?_ (fun x_ x_ k => ?_)
    | with_reducible apply State.putAcc_keeps

theorem execCedEnd_keeps {a0 : Fin 8} {s : State} {t : State} (h : execCedEnd a0 s = .next t) : Keeps s t := by
  unfold execCedEnd at h; refine keeps_next h ?_; have h0 := Keeps.refl s
  repeat' first
    | with_reducible assumption
    | with_reducible refine State.cedRun_keeps ?_ (fun x_ x_ k => ?_)
    | with_reducible apply State.lpEnd_keeps

theorem execCedMac_keeps {a0 : Fin 8} {s : State} {t : State} (h : execCedMac a0 s = .next t) : Keeps s t := by
  unfold execCedMac at h; refine keeps_next h ?_; have h0 := Keeps.refl s
  repeat' first
    | with_reducible assumption
    | with_reducible refine State.cedRun_keeps ?_ (fun x_ x_ k => ?_)
    | with_reducible apply State.putAcc_keeps

theorem execAlignPreHalfExpiry_keeps {a0 : Fin 8} {s : State} {t : State} (h : execAlignPreHalfExpiry a0 s = .next t) : Keeps s t := by
  unfold execAlignPreHalfExpiry at h; refine keeps_next h ?_; have h0 := Keeps.refl s
  repeat' first
    | with_reducible assumption
    | with_reducible apply State.setFc_keeps
    | with_reducible apply keeps_ite

theorem execSampleLinkWord_keeps {s : State} {t : State} (h : execSampleLinkWord s = .next t) : Keeps s t := by
  unfold execSampleLinkWord at h; refine keeps_next h ?_; have h0 := Keeps.refl s
  repeat' first
    | with_reducible assumption
    | intro x; refine keeps_cut (s0 := s) x ?_ ?_; (on_goal 2 => clear_value x); (on_goal 1 => subst x)
    | intro x; try clear_value x
    | with_reducible apply State.fillUnit_keeps
    | with_reducible apply State.fcFilled_keeps
    | with_reducible refine foldEach_keeps (fun a t k => ?_) _ ?_
    | with_reducible apply keeps_ite
    | fail_if_no_progress with_reducible apply keeps_mk (s := _)
    | lift_lets -underBinder; intro x; try clear_value x
    | fail_if_no_progress beta_reduce
    | split

theorem execRampStep_keeps {a0 : Fin 8} {s : State} {t : State} (h : execRampStep a0 s = .next t) : Keeps s t := by
  unfold execRampStep at h; refine keeps_next h ?_; have h0 := Keeps.refl s
  repeat' first
    | with_reducible assumption
    | with_reducible apply State.setFc_keeps
    | with_reducible apply State.fcRun_keeps
    | with_reducible apply keeps_ite

theorem execAlignExpiry_keeps {a0 : Fin 8} {s : State} {t : State} (h : execAlignExpiry a0 s = .next t) : Keeps s t := by
  unfold execAlignExpiry at h; refine keeps_next h ?_; have h0 := Keeps.refl s
  repeat' first
    | with_reducible assumption
    | with_reducible apply State.fcRun_keeps
    | with_reducible apply State.wr_keeps
    | with_reducible apply State.fcRamp_keeps
    | with_reducible apply State.setFc_keeps
    | with_reducible apply keeps_ite

theorem execRetryWaitExpiry_keeps {a0 : Fin 8} {s : State} {t : State} (h : execRetryWaitExpiry a0 s = .next t) : Keeps s t := by
  unfold execRetryWaitExpiry at h; refine keeps_next h ?_; have h0 := Keeps.refl s
  repeat' first
    | with_reducible assumption
    | with_reducible apply State.wr_keeps
    | with_reducible apply State.flag_keeps
    | with_reducible apply State.fcHeld_keeps
    | with_reducible apply State.fcDecide_keeps
    | with_reducible apply keeps_ite

theorem execProbePulseEnd_keeps {a0 : Fin 8} {s : State} {t : State} (h : execProbePulseEnd a0 s = .next t) : Keeps s t := by
  unfold execProbePulseEnd at h; refine keeps_next h ?_; have h0 := Keeps.refl s
  repeat' first
    | with_reducible assumption
    | with_reducible apply State.setFc_keeps
    | with_reducible apply keeps_ite

theorem execSineFillDone_keeps {s : State} {t : State} (h : execSineFillDone s = .next t) : Keeps s t := by
  unfold execSineFillDone at h; refine keeps_next h ?_; have h0 := Keeps.refl s
  repeat' first
    | with_reducible assumption
    | with_reducible apply State.flag_keeps
    | with_reducible apply State.tblPort_keeps
    | with_reducible apply State.fcEnable_keeps
    | with_reducible apply State.setFc_keeps
    | with_reducible refine foldEach_keeps (fun a t k => ?_) _ ?_
    | with_reducible apply keeps_ite
    | fail_if_no_progress with_reducible apply keeps_mk (s := _)

theorem execRampTimeout_keeps {a0 : Fin 8} {s : State} {t : State} (h : execRampTimeout a0 s = .next t) : Keeps s t := by
  unfold execRampTimeout at h; refine keeps_next h ?_; have h0 := Keeps.refl s
  repeat' first
    | with_reducible assumption
    | with_reducible apply State.fcFail_keeps
    | with_reducible apply keeps_ite
    | lift_lets -underBinder; intro x; try clear_value x
    | fail_if_no_progress beta_reduce
    | split

theorem execExcFault_keeps {a0 : Fin 2} {s : State} {t : State} (h : execExcFault a0 s = .next t) : Keeps s t := by
  unfold execExcFault at h; refine keeps_next h ?_; have h0 := Keeps.refl s
  repeat' first
    | with_reducible assumption
    | with_reducible apply State.rsValid_keeps
    | with_reducible apply State.rsFault_keeps
    | with_reducible apply keeps_ite

theorem execResolverSamplePair_keeps {a0 : Fin 2} {a1 : Bool} {a2 : ℤ} {a3 : ℤ} {s : State} {t : State} (h : execResolverSamplePair a0 a1 a2 a3 s = .next t) : Keeps s t := by
  unfold execResolverSamplePair at h; refine keeps_next h ?_; have h0 := Keeps.refl s
  repeat' first
    | with_reducible assumption
    | with_reducible apply State.rowTrack_keeps
    | with_reducible apply State.rsShow_keeps
    | with_reducible apply State.rsJudge_keeps
    | with_reducible apply State.rsTrack_keeps
    | with_reducible apply keeps_ite

theorem execHallTimeout_keeps {a0 : Fin 4} {s : State} {t : State} (h : execHallTimeout a0 s = .next t) : Keeps s t := by
  unfold execHallTimeout at h; refine keeps_next h ?_; have h0 := Keeps.refl s
  repeat' first
    | with_reducible assumption
    | with_reducible apply State.setPos_keeps
    | with_reducible apply keeps_ite

theorem execSsiFrameDone_keeps {a0 : Fin 4} {a1 : BitVec 32} {s : State} {t : State} (h : execSsiFrameDone a0 a1 s = .next t) : Keeps s t := by
  unfold execSsiFrameDone at h; refine keeps_next h ?_; have h0 := Keeps.refl s
  repeat' first
    | with_reducible assumption
    | with_reducible apply State.showValid_keeps
    | with_reducible apply State.ssiFrame_keeps
    | with_reducible apply keeps_ite

theorem execEmuStep_keeps {a0 : Fin 4} {s : State} {t : State} (h : execEmuStep a0 s = .next t) : Keeps s t := by
  unfold execEmuStep at h; refine keeps_next h ?_; have h0 := Keeps.refl s
  repeat' first
    | with_reducible assumption
    | with_reducible apply State.wrI_keeps
    | with_reducible apply State.setEmu_keeps
    | with_reducible apply keeps_ite

theorem execPosSpeedEstimate_keeps {a0 : Fin 4} {s : State} {t : State} (h : execPosSpeedEstimate a0 s = .next t) : Keeps s t := by
  unfold execPosSpeedEstimate at h; refine keeps_next h ?_; have h0 := Keeps.refl s
  repeat' first
    | with_reducible assumption
    | with_reducible apply State.setPos_keeps
    | with_reducible apply keeps_ite

theorem execPosInputAccept_keeps {a0 : Fin 4} {a1 : BitVec 7} {s : State} {t : State} (h : execPosInputAccept a0 a1 s = .next t) : Keeps s t := by
  unfold execPosInputAccept at h; refine keeps_next h ?_; have h0 := Keeps.refl s
  repeat' first
    | with_reducible assumption
    | with_reducible apply State.posSample_keeps
    | with_reducible apply State.posRaw_keeps
    | with_reducible apply keeps_ite

theorem execRowanFault_keeps {s : State} {t : State} (h : execRowanFault s = .next t) : Keeps s t := by
  unfold execRowanFault at h; refine keeps_next h ?_; have h0 := Keeps.refl s
  repeat' first
    | with_reducible assumption
    | with_reducible apply State.disStop_keeps
    | with_reducible apply State.rowStatus_keeps
    | with_reducible apply State.rowCmd_keeps
    | with_reducible apply State.takeHold_keeps
    | with_reducible apply State.showLines_keeps
    | with_reducible refine foldEach_keeps (fun a t k => ?_) _ ?_
    | with_reducible apply keeps_ite

theorem execDisch_keeps {a0 : Fin 4} {s : State} {t : State} (h : execDisch a0 s = .next t) : Keeps s t := by
  unfold execDisch at h; refine keeps_next h ?_; have h0 := Keeps.refl s
  repeat' first
    | with_reducible assumption
    | with_reducible apply State.requestOf_keeps

theorem execLvLost_keeps {s : State} {t : State} (h : execLvLost s = .next t) : Keeps s t := by
  unfold execLvLost at h; refine keeps_next h ?_; have h0 := Keeps.refl s
  repeat' first
    | with_reducible assumption
    | with_reducible apply State.rowStatus_keeps
    | with_reducible apply State.disStart_keeps
    | with_reducible refine foldEach_keeps (fun a t k => ?_) _ ?_
    | with_reducible apply keeps_ite

theorem execSafeState_keeps {a0 : Fin 4} {s : State} {t : State} (h : execSafeState a0 s = .next t) : Keeps s t := by
  unfold execSafeState at h; refine keeps_next h ?_; have h0 := Keeps.refl s
  repeat' first
    | with_reducible assumption
    | with_reducible apply State.requestOf_keeps

theorem execCpxLost_keeps {s : State} {t : State} (h : execCpxLost s = .next t) : Keeps s t := by
  unfold execCpxLost at h; refine keeps_next h ?_; have h0 := Keeps.refl s
  repeat' first
    | with_reducible assumption
    | with_reducible apply State.cpxHolds_keeps
    | with_reducible apply State.rowStatus_keeps
    | with_reducible apply keeps_ite

theorem execDischargePwmEdge_keeps {a0 : Fin 8} {s : State} {t : State} (h : execDischargePwmEdge a0 s = .next t) : Keeps s t := by
  unfold execDischargePwmEdge at h; refine keeps_next h ?_; have h0 := Keeps.refl s
  repeat' first
    | with_reducible assumption
    | with_reducible apply State.disEdge_keeps
    | with_reducible apply State.windLeg_keeps
    | with_reducible refine foldEach_keeps (fun a t k => ?_) _ ?_
    | with_reducible apply keeps_ite
    | fail_if_no_progress beta_reduce
    | split

theorem execTqPerm_keeps {a0 : Fin 4} {s : State} {t : State} (h : execTqPerm a0 s = .next t) : Keeps s t := by
  unfold execTqPerm at h; refine keeps_next h ?_; have h0 := Keeps.refl s
  repeat' first
    | with_reducible assumption
    | with_reducible apply State.requestOf_keeps

theorem execRowanRefresh_keeps {s : State} {t : State} (h : execRowanRefresh s = .next t) : Keeps s t := by
  unfold execRowanRefresh at h; refine keeps_next h ?_; have h0 := Keeps.refl s
  repeat' first
    | with_reducible assumption
    | with_reducible apply State.refresh_keeps
    | with_reducible apply keeps_ite

theorem execRelease_keeps {a0 : Fin 4} {s : State} {t : State} (h : execRelease a0 s = .next t) : Keeps s t := by
  unfold execRelease at h; refine keeps_next h ?_; have h0 := Keeps.refl s
  repeat' first
    | with_reducible assumption
    | with_reducible apply State.requestOf_keeps

theorem execCanRecoveryDone_keeps {a0 : Fin 6} {s : State} {t : State} (h : execCanRecoveryDone a0 s = .next t) : Keeps s t := by
  unfold execCanRecoveryDone at h; refine keeps_next h ?_; have h0 := Keeps.refl s
  repeat' first
    | with_reducible assumption
    | with_reducible apply State.wr_keeps
    | with_reducible apply State.setCanState_keeps
    | with_reducible apply keeps_ite

theorem execCanTxDone_keeps {a0 : Fin 6} {a1 : BitVec 7} {s : State} {t : State} (h : execCanTxDone a0 a1 s = .next t) : Keeps s t := by
  unfold execCanTxDone at h; refine keeps_next h ?_; have h0 := Keeps.refl s
  repeat' first
    | with_reducible assumption
    | with_reducible refine State.onlyIf_keeps ?_ (fun x_ k => ?_)
    | with_reducible apply State.wr_keeps
    | with_reducible apply State.setCanBit_keeps
    | with_reducible apply State.flag_keeps
    | with_reducible apply State.setWord_keeps
    | with_reducible apply State.canCount_keeps
    | with_reducible apply State.canReceive_keeps
    | with_reducible apply State.canFrameEnd_keeps
    | with_reducible apply keeps_ite
    | lift_lets -underBinder; intro x; try clear_value x
    | fail_if_no_progress beta_reduce
    | split

theorem execCanSyncDone_keeps {a0 : Fin 6} {s : State} {t : State} (h : execCanSyncDone a0 s = .next t) : Keeps s t := by
  unfold execCanSyncDone at h; refine keeps_next h ?_; have h0 := Keeps.refl s
  repeat' first
    | with_reducible assumption
    | with_reducible apply State.setCanState_keeps
    | with_reducible apply keeps_ite

theorem execCanFrameRx_keeps {a0 : Fin 6} {a1 : BitVec 31} {a2 : Fin 16} {a3 : Bool} {a4 : Bool} {a5 : Bool} {a6 : List (BitVec 8)} {a7 : BitVec 64} {a8 : BitVec 64} {s : State} {t : State} (h : execCanFrameRx a0 a1 a2 a3 a4 a5 a6 a7 a8 s = .next t) : Keeps s t := by
  unfold execCanFrameRx at h; refine keeps_next h ?_; have h0 := Keeps.refl s
  repeat' first
    | with_reducible assumption
    | with_reducible apply State.setCanBit_keeps
    | with_reducible apply State.canReceive_keeps
    | with_reducible apply State.wr_keeps
    | with_reducible apply State.canCount_keeps
    | with_reducible apply State.next_keeps
    | with_reducible apply State.canFrameEnd_keeps
    | with_reducible refine foldEach_keeps (fun a t k => ?_) _ ?_
    | with_reducible apply keeps_ite

theorem execCanArbitrationLost_keeps {a0 : Fin 6} {s : State} {t : State} (h : execCanArbitrationLost a0 s = .next t) : Keeps s t := by
  unfold execCanArbitrationLost at h; refine keeps_next h ?_; have h0 := Keeps.refl s
  repeat' first
    | with_reducible assumption
    | with_reducible apply State.canIdle_keeps
    | with_reducible apply keeps_ite

theorem execCanBusError_keeps {a0 : Fin 6} {a1 : Fin 6} {a2 : Bool} {a3 : Bool} {s : State} {t : State} (h : execCanBusError a0 a1 a2 a3 s = .next t) : Keeps s t := by
  unfold execCanBusError at h; refine keeps_next h ?_; have h0 := Keeps.refl s
  repeat' first
    | with_reducible assumption
    | with_reducible refine State.onlyIf_keeps ?_ (fun x_ k => ?_)
    | with_reducible apply State.canError_keeps

theorem execCanTxSelect_keeps {a0 : Fin 6} {a1 : Bool} {s : State} {t : State} (h : execCanTxSelect a0 a1 s = .next t) : Keeps s t := by
  unfold execCanTxSelect at h; refine keeps_next h ?_; have h0 := Keeps.refl s
  repeat' first
    | with_reducible assumption
    | with_reducible apply State.setCan_keeps
    | with_reducible apply State.canSelect_keeps
    | with_reducible apply keeps_ite

theorem execProtocolExceptionEvent_keeps {a0 : Fin 6} {s : State} {t : State} (h : execProtocolExceptionEvent a0 s = .next t) : Keeps s t := by
  unfold execProtocolExceptionEvent at h; refine keeps_next h ?_; have h0 := Keeps.refl s
  repeat' first
    | with_reducible assumption
    | with_reducible apply State.canError_keeps
    | with_reducible refine State.onlyIf_keeps ?_ (fun x_ k => ?_)
    | with_reducible apply State.setCanState_keeps
    | with_reducible apply State.canIdle_keeps
    | with_reducible apply State.flag_keeps
    | with_reducible apply State.canInit_keeps
    | with_reducible apply keeps_ite

theorem execBasicCommitDone_keeps {a0 : Fin 17} {s : State} {t : State} (h : execBasicCommitDone a0 s = .next t) : Keeps s t := by
  unfold execBasicCommitDone at h; refine keeps_next h ?_; have h0 := Keeps.refl s
  repeat' first
    | with_reducible assumption
    | with_reducible apply State.commitEnd_keeps

theorem execBasicCommit_keeps {a0 : Master} {a1 : Fin 17} {s : State} {t : State} (h : execBasicCommit a0 a1 s = .next t) : Keeps s t := by
  unfold execBasicCommit at h; refine keeps_next h ?_; have h0 := Keeps.refl s
  repeat' first
    | with_reducible assumption
    | with_reducible apply State.busErr_keeps
    | with_reducible refine State.busWrite_keeps ?_ (fun x_ k => ?_)
    | with_reducible apply State.commitStart_keeps
    | with_reducible apply keeps_ite

theorem execOutvoteWindowExpiry_keeps {a0 : Fin 3} {s : State} {t : State} (h : execOutvoteWindowExpiry a0 s = .next t) : Keeps s t := by
  unfold execOutvoteWindowExpiry at h; refine keeps_next h ?_; have h0 := Keeps.refl s
  repeat' first
    | with_reducible assumption
    | with_reducible apply State.clearCount_keeps
    | with_reducible apply keeps_ite
    | fail_if_no_progress beta_reduce
    | split

theorem execCpxInjGo_keeps {a0 : Master} {a1 : Fin 4} {a2 : Fin 32} {s : State} {t : State} (h : execCpxInjGo a0 a1 a2 s = .next t) : Keeps s t := by
  unfold execCpxInjGo at h; refine keeps_next h ?_; have h0 := Keeps.refl s
  repeat' first
    | with_reducible assumption
    | with_reducible refine State.winWrite_keeps ?_ (fun x_ k => ?_)
    | with_reducible apply State.injWrite_keeps

theorem execDcflush_keeps {a0 : Fin 3} {a1 : BitVec 32} {s : State} {t : State} (h : execDcflush a0 a1 s = .next t) : Keeps s t := by
  unfold execDcflush at h; refine keeps_next h ?_; have h0 := Keeps.refl s
  repeat' first
    | with_reducible assumption
    | with_reducible apply State.dFlush_keeps
    | with_reducible apply keeps_ite

theorem execJoinRdy_keeps {a0 : Master} {s : State} {t : State} (h : execJoinRdy a0 s = .next t) : Keeps s t := by
  unfold execJoinRdy at h; refine keeps_next h ?_; have h0 := Keeps.refl s
  repeat' first
    | with_reducible assumption
    | with_reducible refine State.winWrite_keeps ?_ (fun x_ k => ?_)
    | with_reducible apply State.joinRdyWrite_keeps

theorem execCpxResume_keeps {a0 : Master} {s : State} {t : State} (h : execCpxResume a0 s = .next t) : Keeps s t := by
  unfold execCpxResume at h; refine keeps_next h ?_; have h0 := Keeps.refl s
  repeat' first
    | with_reducible assumption
    | with_reducible refine State.winWrite_keeps ?_ (fun x_ k => ?_)
    | with_reducible apply State.pauseWrite_keeps

theorem execDcinv_keeps {a0 : Fin 3} {a1 : BitVec 32} {s : State} {t : State} (h : execDcinv a0 a1 s = .next t) : Keeps s t := by
  unfold execDcinv at h; refine keeps_next h ?_; have h0 := Keeps.refl s
  repeat' first
    | with_reducible assumption
    | with_reducible apply State.dDrop_keeps
    | with_reducible apply keeps_ite

theorem execCpxReportSend_keeps {s : State} {t : State} (h : execCpxReportSend s = .next t) : Keeps s t := by
  unfold execCpxReportSend at h; refine keeps_next h ?_; have h0 := Keeps.refl s
  repeat' first
    | with_reducible assumption
    | with_reducible apply State.sendReport_keeps
    | with_reducible apply State.setCpx_keeps
    | with_reducible apply keeps_ite

theorem execDcall_keeps {a0 : Fin 3} {a1 : BitVec 32} {s : State} {t : State} (h : execDcall a0 a1 s = .next t) : Keeps s t := by
  unfold execDcall at h; refine keeps_next h ?_; have h0 := Keeps.refl s
  repeat' first
    | with_reducible assumption
    | with_reducible apply State.dDrop_keeps
    | with_reducible apply State.dFlush_keeps
    | with_reducible apply keeps_ite

theorem execCpxPause_keeps {a0 : Master} {s : State} {t : State} (h : execCpxPause a0 s = .next t) : Keeps s t := by
  unfold execCpxPause at h; refine keeps_next h ?_; have h0 := Keeps.refl s
  repeat' first
    | with_reducible assumption
    | with_reducible refine State.winWrite_keeps ?_ (fun x_ k => ?_)
    | with_reducible apply State.pauseWrite_keeps

theorem execIrqSource_keeps {a0 : Fin 64} {s : State} {t : State} (h : execIrqSource a0 s = .next t) : Keeps s t := by
  unfold execIrqSource at h; refine keeps_next h ?_; have h0 := Keeps.refl s
  repeat' first
    | with_reducible assumption
    | with_reducible apply State.irqUpdate_keeps
    | with_reducible apply keeps_ite

theorem execCpxSplit_keeps {a0 : Master} {s : State} {t : State} (h : execCpxSplit a0 s = .next t) : Keeps s t := by
  unfold execCpxSplit at h; refine keeps_next h ?_; have h0 := Keeps.refl s
  repeat' first
    | with_reducible assumption
    | with_reducible refine State.winWrite_keeps ?_ (fun x_ k => ?_)
    | with_reducible apply State.splitWrite_keeps

theorem execCrst_keeps {a0 : Master} {a1 : Fin 3} {s : State} {t : State} (h : execCrst a0 a1 s = .next t) : Keeps s t := by
  unfold execCrst at h; refine keeps_next h ?_; have h0 := Keeps.refl s
  repeat' first
    | with_reducible assumption
    | with_reducible refine State.winWrite_keeps ?_ (fun x_ k => ?_)
    | with_reducible apply State.crstWrite_keeps

theorem execSyncPoint_keeps {a0 : BitVec 32} {a1 : BitVec 32} {a2 : BitVec 32} {s : State} {t : State} (h : execSyncPoint a0 a1 a2 s = .next t) : Keeps s t := by
  unfold execSyncPoint at h; refine keeps_next h ?_; have h0 := Keeps.refl s
  repeat' first
    | with_reducible assumption
    | with_reducible apply State.syncRearm_keeps
    | with_reducible apply State.signatures_keeps
    | with_reducible apply State.syncSteps_keeps
    | with_reducible apply keeps_ite

theorem execPairTestDone_keeps {a0 : BitVec 4} {s : State} {t : State} (h : execPairTestDone a0 s = .next t) : Keeps s t := by
  unfold execPairTestDone at h; refine keeps_next h ?_; have h0 := Keeps.refl s
  repeat' first
    | with_reducible assumption
    | with_reducible apply State.testDone_keeps
    | with_reducible apply State.setCpx_keeps
    | with_reducible refine State.onlyIf_keeps ?_ (fun x_ k => ?_)
    | with_reducible apply State.flag_keeps
    | with_reducible apply State.moveChecker_keeps
    | with_reducible apply keeps_ite

theorem execYewFillDone_keeps {s : State} {t : State} (h : execYewFillDone s = .next t) : Keeps s t := by
  unfold execYewFillDone at h; refine keeps_next h ?_; have h0 := Keeps.refl s
  repeat' first
    | with_reducible assumption
    | with_reducible apply State.setCpx_keeps
    | with_reducible apply keeps_ite

theorem execCheckerTest_keeps {a0 : Fin 4} {s : State} {t : State} (h : execCheckerTest a0 s = .next t) : Keeps s t := by
  unfold execCheckerTest at h; refine keeps_next h ?_; have h0 := Keeps.refl s
  repeat' first
    | with_reducible assumption
    | with_reducible apply State.setCpx_keeps
    | with_reducible apply State.bump_keeps
    | with_reducible apply State.checkerFault_keeps
    | with_reducible apply State.flag_keeps
    | with_reducible apply keeps_ite
    | fail_if_no_progress beta_reduce
    | split

theorem execJoinFillDone_keeps {s : State} {t : State} (h : execJoinFillDone s = .next t) : Keeps s t := by
  unfold execJoinFillDone at h; refine keeps_next h ?_; have h0 := Keeps.refl s
  repeat' first
    | with_reducible assumption
    | with_reducible apply State.setCpx_keeps
    | with_reducible apply keeps_ite

theorem execCpxJoin_keeps {a0 : Master} {s : State} {t : State} (h : execCpxJoin a0 s = .next t) : Keeps s t := by
  unfold execCpxJoin at h; refine keeps_next h ?_; have h0 := Keeps.refl s
  repeat' first
    | with_reducible assumption
    | with_reducible refine State.winWrite_keeps ?_ (fun x_ k => ?_)
    | with_reducible apply State.joinWrite_keeps

theorem execMtimeCompare_keeps {a0 : Fin 3} {s : State} {t : State} (h : execMtimeCompare a0 s = .next t) : Keeps s t := by
  unfold execMtimeCompare at h; refine keeps_next h ?_; have h0 := Keeps.refl s
  repeat' first
    | with_reducible assumption
    | with_reducible apply State.showMtip_keeps
    | with_reducible apply keeps_ite

theorem execLadderLock_keeps {a0 : Fin 24} {a1 : Fin 3} {s : State} {t : State} (h : execLadderLock a0 a1 s = .next t) : Keeps s t := by
  unfold execLadderLock at h; refine keeps_next h ?_; have h0 := Keeps.refl s
  repeat' first
    | with_reducible assumption
    | with_reducible apply State.showPwm_keeps
    | with_reducible apply State.showLadders_keeps
    | with_reducible apply State.wr2_keeps
    | with_reducible apply keeps_ite

theorem execOutmodeApply_keeps {a0 : Fin 24} {s : State} {t : State} (h : execOutmodeApply a0 s = .next t) : Keeps s t := by
  unfold execOutmodeApply at h; refine keeps_next h ?_; have h0 := Keeps.refl s
  repeat' first
    | with_reducible assumption
    | with_reducible apply State.restartLeg_keeps
    | with_reducible apply State.setLeg_keeps
    | with_reducible apply keeps_ite
    | fail_if_no_progress beta_reduce
    | split

theorem execSwnAccept_keeps {a0 : Fin 24} {a1 : Bool} {a2 : Fin 128} {s : State} {t : State} (h : execSwnAccept a0 a1 a2 s = .next t) : Keeps s t := by
  unfold execSwnAccept at h; refine keeps_next h ?_; have h0 := Keeps.refl s
  repeat' first
    | with_reducible assumption
    | with_reducible apply State.wr_keeps
    | with_reducible apply State.classSwn_keeps
    | with_reducible apply keeps_ite

theorem execDeadtimeExpiry_keeps {a0 : Fin 24} {s : State} {t : State} (h : execDeadtimeExpiry a0 s = .next t) : Keeps s t := by
  unfold execDeadtimeExpiry at h; refine keeps_next h ?_; have h0 := Keeps.refl s
  repeat' first
    | with_reducible assumption
    | with_reducible apply State.setLeg_keeps

theorem execHeldEdgeExecute_keeps {a0 : Fin 24} {s : State} {t : State} (h : execHeldEdgeExecute a0 s = .next t) : Keeps s t := by
  unfold execHeldEdgeExecute at h; refine keeps_next h ?_; have h0 := Keeps.refl s
  repeat' first
    | with_reducible assumption
    | with_reducible apply State.closeEdge_keeps
    | with_reducible apply State.setLeg_keeps
    | with_reducible apply keeps_ite
    | lift_lets -underBinder; intro x; try clear_value x
    | fail_if_no_progress beta_reduce
    | split

theorem execLadderCalUpdate_keeps {a0 : Fin 24} {a1 : Fin 3} {a2 : Bool} {s : State} {t : State} (h : execLadderCalUpdate a0 a1 a2 s = .next t) : Keeps s t := by
  unfold execLadderCalUpdate at h; refine keeps_next h ?_; have h0 := Keeps.refl s
  repeat' first
    | with_reducible assumption
    | with_reducible apply State.setLeg_keeps
    | with_reducible apply State.wr2_keeps
    | with_reducible apply keeps_ite

theorem execCompareMatch_keeps {a0 : Fin 24} {a1 : Cmp} {a2 : Fin 128} {s : State} {t : State} (h : execCompareMatch a0 a1 a2 s = .next t) : Keeps s t := by
  unfold execCompareMatch at h; refine keeps_next h ?_; have h0 := Keeps.refl s
  repeat' first
    | with_reducible assumption
    | with_reducible apply State.takeEvent_keeps
    | with_reducible apply State.edgeWork_keeps
    | with_reducible apply keeps_ite
    | fail_if_no_progress beta_reduce
    | split

theorem execLadderCalLimit_keeps {a0 : Fin 24} {a1 : Fin 3} {s : State} {t : State} (h : execLadderCalLimit a0 a1 s = .next t) : Keeps s t := by
  unfold execLadderCalLimit at h; refine keeps_next h ?_; have h0 := Keeps.refl s
  repeat' first
    | with_reducible assumption
    | with_reducible apply State.showLadders_keeps
    | with_reducible apply State.wr2_keeps
    | with_reducible apply State.logEv_keeps
    | with_reducible apply keeps_ite

theorem execTriggerPulse_keeps {a0 : Fin 24} {a1 : Fin 4} {s : State} {t : State} (h : execTriggerPulse a0 a1 s = .next t) : Keeps s t := by
  unfold execTriggerPulse at h; refine keeps_next h ?_; have h0 := Keeps.refl s
  repeat' first
    | with_reducible assumption
    | with_reducible apply State.edgeWork_keeps
    | with_reducible apply State.raisePulse_keeps
    | with_reducible apply keeps_ite
    | fail_if_no_progress beta_reduce
    | split

theorem execPadMismatch_keeps {a0 : Fin 24} {a1 : Side} {s : State} {t : State} (h : execPadMismatch a0 a1 s = .next t) : Keeps s t := by
  unfold execPadMismatch at h; refine keeps_next h ?_; have h0 := Keeps.refl s
  repeat' first
    | with_reducible assumption
    | with_reducible apply State.unitFault_keeps
    | with_reducible apply State.flag_keeps
    | with_reducible apply keeps_ite

theorem execSwnWindowExpiry_keeps {a0 : Fin 24} {s : State} {t : State} (h : execSwnWindowExpiry a0 s = .next t) : Keeps s t := by
  unfold execSwnWindowExpiry at h; refine keeps_next h ?_; have h0 := Keeps.refl s
  repeat' first
    | with_reducible assumption
    | intro x; try clear_value x
    | with_reducible apply State.setLeg_keeps
    | with_reducible apply State.swnMiss_keeps
    | with_reducible apply keeps_ite
    | lift_lets -underBinder; intro x; try clear_value x
    | fail_if_no_progress beta_reduce
    | split

theorem execSyncLoad_keeps {a0 : Fin 8} {s : State} {t : State} (h : execSyncLoad a0 s = .next t) : Keeps s t := by
  unfold execSyncLoad at h; refine keeps_next h ?_; have h0 := Keeps.refl s
  repeat' first
    | with_reducible assumption
    | with_reducible apply State.isoAlign_keeps
    | with_reducible apply State.loadSync_keeps
    | with_reducible apply keeps_ite
    | fail_if_no_progress beta_reduce
    | split

theorem execZro_keeps {a0 : Fin 8} {s : State} {t : State} (h : execZro a0 s = .next t) : Keeps s t := by
  unfold execZro at h; refine keeps_next h ?_; have h0 := Keeps.refl s
  repeat' first
    | with_reducible assumption
    | with_reducible apply State.zroEvent_keeps
    | with_reducible apply keeps_ite

theorem execPrd_keeps {a0 : Fin 8} {s : State} {t : State} (h : execPrd a0 s = .next t) : Keeps s t := by
  unfold execPrd at h; refine keeps_next h ?_; have h0 := Keeps.refl s
  repeat' first
    | with_reducible assumption
    | with_reducible apply State.prdEvent_keeps
    | with_reducible apply keeps_ite

theorem execShadowTransfer_keeps {a0 : Fin 8} {s : State} {t : State} (h : execShadowTransfer a0 s = .next t) : Keeps s t := by
  unfold execShadowTransfer at h; refine keeps_next h ?_; have h0 := Keeps.refl s
  repeat' first
    | with_reducible assumption
    | with_reducible apply State.edgeWork_keeps
    | with_reducible apply keeps_ite

theorem execChCommit_keeps {a0 : Fin 2} {a1 : ChFrame} {a2 : Bool} {s : State} {t : State} (h : execChCommit a0 a1 a2 s = .next t) : Keeps s t := by
  unfold execChCommit at h; refine keeps_next h ?_; have h0 := Keeps.refl s
  repeat' first
    | with_reducible assumption
    | with_reducible refine State.chFrame_keeps ?_ (fun x_ x_ k => ?_) (fun x_ x_ k => ?_)
    | with_reducible refine keepPay_keeps ?_ (fun x_ x_ k => ?_)
    | with_reducible apply State.mcCommit_keeps

theorem execChReset_keeps {a0 : Fin 2} {a1 : ChFrame} {a2 : Bool} {s : State} {t : State} (h : execChReset a0 a1 a2 s = .next t) : Keeps s t := by
  unfold execChReset at h; refine keeps_next h ?_; have h0 := Keeps.refl s
  repeat' first
    | with_reducible assumption
    | with_reducible refine State.chFrame_keeps ?_ (fun x_ x_ k => ?_) (fun x_ x_ k => ?_)
    | with_reducible refine keepPay_keeps ?_ (fun x_ x_ k => ?_)
    | with_reducible refine State.onlyIf_keeps ?_ (fun x_ k => ?_)
    | with_reducible apply State.chResetIn_keeps

theorem execUnwrapTimer_keeps {a0 : Fin 2} {s : State} {t : State} (h : execUnwrapTimer a0 s = .next t) : Keeps s t := by
  unfold execUnwrapTimer at h; refine keeps_next h ?_; have h0 := Keeps.refl s
  repeat' first
    | with_reducible assumption
    | with_reducible apply State.setChPort_keeps
    | with_reducible apply State.chUnwrapIf_keeps
    | with_reducible apply keeps_ite
    | fail_if_no_progress with_reducible apply keeps_mk (s := _)

theorem execChDrsp_keeps {a0 : Fin 2} {a1 : Fin 64} {a2 : ℕ} {s : State} {t : State} (h : execChDrsp a0 a1 a2 s = .next t) : Keeps s t := by
  unfold execChDrsp at h; refine keeps_next h ?_; have h0 := Keeps.refl s
  repeat' first
    | with_reducible assumption
    | with_reducible apply State.wr_keeps
    | with_reducible apply keeps_ite
    | fail_if_no_progress beta_reduce
    | split

theorem execPortDown_keeps {a0 : Fin 2} {s : State} {t : State} (h : execPortDown a0 s = .next t) : Keeps s t := by
  unfold execPortDown at h; refine keeps_next h ?_; have h0 := Keeps.refl s
  repeat' first
    | with_reducible assumption
    | with_reducible refine State.onlyIf_keeps ?_ (fun x_ k => ?_)
    | with_reducible apply State.chPortDown_keeps

theorem execTrainingRetry_keeps {a0 : Fin 2} {s : State} {t : State} (h : execTrainingRetry a0 s = .next t) : Keeps s t := by
  unfold execTrainingRetry at h; refine keeps_next h ?_; have h0 := Keeps.refl s
  repeat' first
    | with_reducible assumption
    | with_reducible apply State.setChPort_keeps
    | with_reducible apply keeps_ite

theorem execCsyncArm_keeps {a0 : Master} {a1 : BitVec 24} {s : State} {t : State} (h : execCsyncArm a0 a1 s = .next t) : Keeps s t := by
  unfold execCsyncArm at h; refine keeps_next h ?_; have h0 := Keeps.refl s
  repeat' first
    | with_reducible assumption
    | with_reducible refine State.winWrite_keeps ?_ (fun x_ k => ?_)
    | with_reducible apply State.csyncArm_keeps

theorem execTxFrameSend_keeps {s : State} {t : State} (h : execTxFrameSend s = .next t) : Keeps s t := by
  unfold execTxFrameSend at h; refine keeps_next h ?_; have h0 := Keeps.refl s
  repeat' first
    | with_reducible assumption
    | with_reducible apply State.chSend_keeps
    | with_reducible apply State.wr_keeps
    | with_reducible apply keeps_ite
    | fail_if_no_progress with_reducible apply keeps_mk (s := _)
    | fail_if_no_progress beta_reduce
    | split

theorem execChToken_keeps {a0 : Fin 2} {a1 : ChFrame} {a2 : Bool} {s : State} {t : State} (h : execChToken a0 a1 a2 s = .next t) : Keeps s t := by
  unfold execChToken at h; refine keeps_next h ?_; have h0 := Keeps.refl s
  repeat' first
    | with_reducible assumption
    | with_reducible refine State.chFrame_keeps ?_ (fun x_ x_ k => ?_) (fun x_ x_ k => ?_)
    | with_reducible apply State.chTokenVisit_keeps
    | with_reducible apply State.sendCensus_keeps
    | with_reducible apply State.wr_keeps
    | with_reducible apply State.flag_keeps
    | with_reducible apply State.chNewRing_keeps
    | with_reducible apply keeps_ite

theorem execChUnwrap_keeps {a0 : Fin 2} {s : State} {t : State} (h : execChUnwrap a0 s = .next t) : Keeps s t := by
  unfold execChUnwrap at h; refine keeps_next h ?_; have h0 := Keeps.refl s
  repeat' first
    | with_reducible assumption
    | with_reducible apply State.chUnwrapIf_keeps
    | with_reducible apply State.setChPort_keeps
    | with_reducible apply keeps_ite

theorem execChLsw_keeps {a0 : Fin 2} {a1 : Bool} {a2 : Fin 2} {s : State} {t : State} (h : execChLsw a0 a1 a2 s = .next t) : Keeps s t := by
  unfold execChLsw at h; refine keeps_next h ?_; have h0 := Keeps.refl s
  repeat' first
    | with_reducible assumption
    | with_reducible apply State.retireLane_keeps
    | with_reducible apply State.flag_keeps
    | with_reducible apply State.setChPort_keeps
    | with_reducible apply keeps_ite
    | fail_if_no_progress with_reducible apply keeps_mk (s := _)

theorem execCensusEmit_keeps {s : State} {t : State} (h : execCensusEmit s = .next t) : Keeps s t := by
  unfold execCensusEmit at h; refine keeps_next h ?_; have h0 := Keeps.refl s
  repeat' first
    | with_reducible assumption
    | with_reducible apply State.sendCensus_keeps
    | with_reducible apply keeps_ite

theorem execChRefused_keeps {a0 : Fin 2} {a1 : ChFrame} {a2 : Bool} {s : State} {t : State} (h : execChRefused a0 a1 a2 s = .next t) : Keeps s t := by
  unfold execChRefused at h; refine keeps_next h ?_; have h0 := Keeps.refl s
  repeat' first
    | with_reducible assumption
    | with_reducible refine State.chFrame_keeps ?_ (fun x_ x_ k => ?_) (fun x_ x_ k => ?_)
    | with_reducible refine keepPay_keeps ?_ (fun x_ x_ k => ?_)
    | with_reducible apply keeps_ite
    | fail_if_no_progress with_reducible apply keeps_mk (s := _)

theorem execChCensus_keeps {a0 : Fin 2} {a1 : ChFrame} {a2 : Bool} {s : State} {t : State} (h : execChCensus a0 a1 a2 s = .next t) : Keeps s t := by
  unfold execChCensus at h; refine keeps_next h ?_; have h0 := Keeps.refl s
  repeat' first
    | with_reducible assumption
    | with_reducible refine State.chFrame_keeps ?_ (fun x_ x_ k => ?_) (fun x_ x_ k => ?_)
    | with_reducible refine State.onlyIf_keeps ?_ (fun x_ k => ?_)
    | with_reducible apply State.chCensusHome_keeps

theorem execPrepareWrite_keeps {a0 : Master} {a1 : BitVec 16} {s : State} {t : State} (h : execPrepareWrite a0 a1 s = .next t) : Keeps s t := by
  unfold execPrepareWrite at h; refine keeps_next h ?_; have h0 := Keeps.refl s
  repeat' first
    | with_reducible assumption
    | with_reducible refine State.winWrite_keeps ?_ (fun x_ k => ?_)
    | with_reducible apply State.mcPrepare_keeps

theorem execChEnum_keeps {a0 : Master} {a1 : Bool} {s : State} {t : State} (h : execChEnum a0 a1 s = .next t) : Keeps s t := by
  unfold execChEnum at h; refine keeps_next h ?_; have h0 := Keeps.refl s
  repeat' first
    | with_reducible assumption
    | with_reducible refine State.winWrite_keeps ?_ (fun x_ k => ?_)
    | with_reducible apply State.chEnumerate_keeps

theorem execCarrierSync_keeps {s : State} {t : State} (h : execCarrierSync s = .next t) : Keeps s t := by
  unfold execCarrierSync at h; refine keeps_next h ?_; have h0 := Keeps.refl s
  repeat' first
    | with_reducible assumption
    | with_reducible apply State.csyncRaise_keeps
    | with_reducible apply keeps_ite

theorem execLaneFail_keeps {a0 : Fin 2} {a1 : Fin 3} {a2 : BitVec 16} {a3 : Bool} {s : State} {t : State} (h : execLaneFail a0 a1 a2 a3 s = .next t) : Keeps s t := by
  unfold execLaneFail at h; refine keeps_next h ?_; have h0 := Keeps.refl s
  repeat' first
    | with_reducible assumption
    | with_reducible apply State.wr_keeps
    | with_reducible apply State.chPortDown_keeps
    | with_reducible apply State.setChPort_keeps
    | with_reducible apply keeps_ite

theorem execChDreq_keeps {a0 : Fin 2} {a1 : Fin 64} {a2 : Option ℕ} {s : State} {t : State} (h : execChDreq a0 a1 a2 s = .next t) : Keeps s t := by
  unfold execChDreq at h; refine keeps_next h ?_; have h0 := Keeps.refl s
  repeat' first
    | with_reducible assumption
    | with_reducible apply State.setChPort_keeps
    | with_reducible apply keeps_ite
    | fail_if_no_progress with_reducible apply keeps_mk (s := _)
    | fail_if_no_progress beta_reduce
    | split

theorem execChTxGo_keeps {a0 : Master} {s : State} {t : State} (h : execChTxGo a0 s = .next t) : Keeps s t := by
  unfold execChTxGo at h; refine keeps_next h ?_; have h0 := Keeps.refl s
  repeat' first
    | with_reducible assumption
    | with_reducible refine State.winWrite_keeps ?_ (fun x_ k => ?_)
    | with_reducible apply State.chGo_keeps

theorem execPortTrained_keeps {a0 : Fin 2} {a1 : ℕ} {a2 : List (Fin 16 × Fin 16)} {s : State} {t : State} (h : execPortTrained a0 a1 a2 s = .next t) : Keeps s t := by
  unfold execPortTrained at h; refine keeps_next h ?_; have h0 := Keeps.refl s
  repeat' first
    | with_reducible assumption
    | with_reducible apply State.wr_keeps
    | with_reducible apply State.setUp_keeps
    | with_reducible apply State.wr2_keeps
    | with_reducible apply State.setChPort_keeps
    | with_reducible refine foldEach_keeps (fun a t k => ?_) _ ?_
    | with_reducible apply keeps_ite

theorem execChAbort_keeps {a0 : Fin 2} {a1 : ChFrame} {a2 : Bool} {s : State} {t : State} (h : execChAbort a0 a1 a2 s = .next t) : Keeps s t := by
  unfold execChAbort at h; refine keeps_next h ?_; have h0 := Keeps.refl s
  repeat' first
    | with_reducible assumption
    | with_reducible refine State.chFrame_keeps ?_ (fun x_ x_ k => ?_) (fun x_ x_ k => ?_)
    | with_reducible refine keepPay_keeps ?_ (fun x_ x_ k => ?_)
    | with_reducible refine State.onlyIf_keeps ?_ (fun x_ k => ?_)
    | with_reducible apply State.mcState_keeps

theorem execMcArmTimeout_keeps {s : State} {t : State} (h : execMcArmTimeout s = .next t) : Keeps s t := by
  unfold execMcArmTimeout at h; refine keeps_next h ?_; have h0 := Keeps.refl s
  repeat' first
    | with_reducible assumption
    | with_reducible apply State.mcThrice_keeps
    | with_reducible apply State.mcResult_keeps
    | with_reducible refine State.onlyIf_keeps ?_ (fun x_ k => ?_)
    | with_reducible apply State.mcState_keeps
    | with_reducible apply keeps_ite

theorem execResetOne_keeps {a0 : Master} {a1 : Fin 64} {s : State} {t : State} (h : execResetOne a0 a1 s = .next t) : Keeps s t := by
  unfold execResetOne at h; refine keeps_next h ?_; have h0 := Keeps.refl s
  repeat' first
    | with_reducible assumption
    | with_reducible refine State.winWrite_keeps ?_ (fun x_ k => ?_)
    | with_reducible apply State.chResetOne_keeps

theorem execChPrepare_keeps {a0 : Fin 2} {a1 : ChFrame} {a2 : Bool} {s : State} {t : State} (h : execChPrepare a0 a1 a2 s = .next t) : Keeps s t := by
  unfold execChPrepare at h; refine keeps_next h ?_; have h0 := Keeps.refl s
  repeat' first
    | with_reducible assumption
    | with_reducible refine State.chFrame_keeps ?_ (fun x_ x_ k => ?_) (fun x_ x_ k => ?_)
    | with_reducible refine keepPay_keeps ?_ (fun x_ x_ k => ?_)
    | with_reducible apply State.mcArm_keeps
    | with_reducible apply State.chSend_keeps
    | with_reducible refine keeps_fst ‹_ = (_, _)› ?_
    | lift_lets -underBinder; intro x; try clear_value x
    | fail_if_no_progress beta_reduce
    | split

theorem execChApplied_keeps {a0 : Fin 2} {a1 : ChFrame} {a2 : Bool} {s : State} {t : State} (h : execChApplied a0 a1 a2 s = .next t) : Keeps s t := by
  unfold execChApplied at h; refine keeps_next h ?_; have h0 := Keeps.refl s
  repeat' first
    | with_reducible assumption
    | with_reducible refine State.chFrame_keeps ?_ (fun x_ x_ k => ?_) (fun x_ x_ k => ?_)
    | with_reducible refine keepPay_keeps ?_ (fun x_ x_ k => ?_)
    | with_reducible apply State.mcApplied_keeps
    | with_reducible apply keeps_ite

theorem execResetAll_keeps {a0 : Master} {s : State} {t : State} (h : execResetAll a0 s = .next t) : Keeps s t := by
  unfold execResetAll at h; refine keeps_next h ?_; have h0 := Keeps.refl s
  repeat' first
    | with_reducible assumption
    | with_reducible refine State.winWrite_keeps ?_ (fun x_ k => ?_)
    | with_reducible apply State.chResetAll_keeps

theorem execEnumRetry_keeps {s : State} {t : State} (h : execEnumRetry s = .next t) : Keeps s t := by
  unfold execEnumRetry at h; refine keeps_next h ?_; have h0 := Keeps.refl s
  repeat' first
    | with_reducible assumption
    | with_reducible apply State.sendToken_keeps
    | with_reducible apply State.wr_keeps
    | with_reducible apply keeps_ite

theorem execChData_keeps {a0 : Fin 2} {a1 : ChFrame} {a2 : Bool} {s : State} {t : State} (h : execChData a0 a1 a2 s = .next t) : Keeps s t := by
  unfold execChData at h; refine keeps_next h ?_; have h0 := Keeps.refl s
  repeat' first
    | with_reducible assumption
    | with_reducible refine State.chFrame_keeps ?_ (fun x_ x_ k => ?_) (fun x_ x_ k => ?_)
    | with_reducible refine keepPay_keeps ?_ (fun x_ x_ k => ?_)
    | with_reducible apply State.chData_keeps

theorem execChArmed_keeps {a0 : Fin 2} {a1 : ChFrame} {a2 : Bool} {s : State} {t : State} (h : execChArmed a0 a1 a2 s = .next t) : Keeps s t := by
  unfold execChArmed at h; refine keeps_next h ?_; have h0 := Keeps.refl s
  repeat' first
    | with_reducible assumption
    | with_reducible refine State.chFrame_keeps ?_ (fun x_ x_ k => ?_) (fun x_ x_ k => ?_)
    | with_reducible refine keepPay_keeps ?_ (fun x_ x_ k => ?_)
    | with_reducible apply keeps_ite
    | fail_if_no_progress with_reducible apply keeps_mk (s := _)

theorem execChExpired_keeps {a0 : Fin 2} {a1 : ChFrame} {a2 : Bool} {s : State} {t : State} (h : execChExpired a0 a1 a2 s = .next t) : Keeps s t := by
  unfold execChExpired at h; refine keeps_next h ?_; have h0 := Keeps.refl s
  repeat' first
    | with_reducible assumption
    | with_reducible refine State.chFrame_keeps ?_ (fun x_ x_ k => ?_) (fun x_ x_ k => ?_)
    | with_reducible refine keepPay_keeps ?_ (fun x_ x_ k => ?_)

theorem execMcResultTimeout_keeps {s : State} {t : State} (h : execMcResultTimeout s = .next t) : Keeps s t := by
  unfold execMcResultTimeout at h; refine keeps_next h ?_; have h0 := Keeps.refl s
  repeat' first
    | with_reducible assumption
    | with_reducible refine State.onlyIf_keeps ?_ (fun x_ k => ?_)
    | with_reducible apply State.mcResult_keeps

theorem execPllUnlock_keeps {a0 : Fin 3} {s : State} {t : State} (h : execPllUnlock a0 s = .next t) : Keeps s t := by
  unfold execPllUnlock at h; refine keeps_next h ?_; have h0 := Keeps.refl s
  repeat' first
    | with_reducible assumption
    | with_reducible refine State.onlyIf_keeps ?_ (fun x_ k => ?_)
    | with_reducible apply State.pllLoss_keeps

theorem execPllsReturn_keeps {s : State} {t : State} (h : execPllsReturn s = .next t) : Keeps s t := by
  unfold execPllsReturn at h; refine keeps_next h ?_; have h0 := Keeps.refl s
  repeat' first
    | with_reducible assumption
    | with_reducible apply State.flag_keeps
    | with_reducible apply keeps_ite
    | fail_if_no_progress with_reducible apply keeps_mk (s := _)

theorem execTickStretch_keeps {a0 : BitVec 16} {s : State} {t : State} (h : execTickStretch a0 s = .next t) : Keeps s t := by
  unfold execTickStretch at h; refine keeps_next h ?_; have h0 := Keeps.refl s
  repeat' first
    | with_reducible assumption
    | with_reducible apply State.flag_keeps
    | with_reducible apply State.wrI_keeps
    | with_reducible apply State.setPll_keeps
    | with_reducible apply keeps_ite
    | fail_if_no_progress with_reducible apply keeps_mk (s := _)

theorem execPllLock_keeps {a0 : Fin 3} {s : State} {t : State} (h : execPllLock a0 s = .next t) : Keeps s t := by
  unfold execPllLock at h; refine keeps_next h ?_; have h0 := Keeps.refl s
  repeat' first
    | with_reducible assumption
    | intro x; refine keeps_cut (s0 := s) x ?_ ?_; (on_goal 2 => clear_value x); (on_goal 1 => subst x)
    | intro x; try clear_value x
    | with_reducible apply State.setPll_keeps
    | with_reducible apply State.setPllSt_keeps
    | with_reducible refine State.onlyIf_keeps ?_ (fun x_ k => ?_)
    | with_reducible apply State.flag_keeps
    | with_reducible apply State.clkRun_keeps
    | with_reducible apply State.showPwm_keeps
    | with_reducible apply keeps_ite
    | fail_if_no_progress with_reducible apply keeps_mk (s := _)
    | lift_lets -underBinder; intro x; refine keeps_cut (s0 := s) x ?_ ?_; (on_goal 2 => clear_value x); (on_goal 1 => subst x)
    | fail_if_no_progress beta_reduce
    | split

theorem execRefLost_keeps {a0 : Fin 3} {a1 : BitVec 16} {s : State} {t : State} (h : execRefLost a0 a1 s = .next t) : Keeps s t := by
  unfold execRefLost at h; refine keeps_next h ?_; have h0 := Keeps.refl s
  repeat' first
    | with_reducible assumption
    | with_reducible apply State.localLost_keeps
    | with_reducible refine State.onlyIf_keeps ?_ (fun x_ k => ?_)
    | with_reducible apply State.flag_keeps
    | with_reducible apply State.wr_keeps
    | with_reducible apply State.pllLoss_keeps
    | with_reducible apply keeps_ite

theorem execCrystalWaitExpiry_keeps {s : State} {t : State} (h : execCrystalWaitExpiry s = .next t) : Keeps s t := by
  unfold execCrystalWaitExpiry at h; refine keeps_next h ?_; have h0 := Keeps.refl s
  repeat' first
    | with_reducible assumption
    | with_reducible refine State.onlyIf_keeps ?_ (fun x_ k => ?_)
    | with_reducible apply State.localChosen_keeps
    | with_reducible apply keeps_ite
    | fail_if_no_progress with_reducible apply keeps_mk (s := _)
    | fail_if_no_progress beta_reduce
    | split

theorem execBandSelectionRetry_keeps {a0 : Fin 3} {s : State} {t : State} (h : execBandSelectionRetry a0 s = .next t) : Keeps s t := by
  unfold execBandSelectionRetry at h; refine keeps_next h ?_; have h0 := Keeps.refl s
  repeat' first
    | with_reducible assumption
    | with_reducible apply State.pllRelock_keeps
    | with_reducible apply keeps_ite
    | fail_if_no_progress beta_reduce
    | split

theorem execBandTryTimeout_keeps {a0 : Fin 3} {s : State} {t : State} (h : execBandTryTimeout a0 s = .next t) : Keeps s t := by
  unfold execBandTryTimeout at h; refine keeps_next h ?_; have h0 := Keeps.refl s
  repeat' first
    | with_reducible assumption
    | with_reducible apply State.bandTry_keeps
    | with_reducible apply keeps_ite

theorem execSlewDone_keeps {a0 : BitVec 16} {s : State} {t : State} (h : execSlewDone a0 s = .next t) : Keeps s t := by
  unfold execSlewDone at h; refine keeps_next h ?_; have h0 := Keeps.refl s
  repeat' first
    | with_reducible assumption
    | with_reducible apply State.wrI_keeps
    | with_reducible apply State.setPll_keeps
    | with_reducible apply State.wr_keeps
    | with_reducible apply keeps_ite

theorem execRefValid_keeps {a0 : Fin 3} {a1 : BitVec 16} {s : State} {t : State} (h : execRefValid a0 a1 s = .next t) : Keeps s t := by
  unfold execRefValid at h; refine keeps_next h ?_; have h0 := Keeps.refl s
  repeat' first
    | with_reducible assumption
    | with_reducible apply State.localValid_keeps
    | with_reducible refine State.onlyIf_keeps ?_ (fun x_ k => ?_)
    | with_reducible apply State.flag_keeps
    | with_reducible apply State.wr_keeps
    | with_reducible apply State.bandSelect_keeps
    | with_reducible apply State.pllBack_keeps
    | with_reducible apply keeps_ite
    | fail_if_no_progress beta_reduce
    | split

theorem execStageDisable_keeps {a0 : Master} {a1 : Fin 8} {s : State} {t : State} (h : execStageDisable a0 a1 s = .next t) : Keeps s t := by
  unfold execStageDisable at h; refine keeps_next h ?_; have h0 := Keeps.refl s
  repeat' first
    | with_reducible assumption
    | with_reducible refine State.winWrite_keeps ?_ (fun x_ k => ?_)
    | with_reducible apply State.disableStage_keeps

theorem execLoadDone_keeps {s : State} {t : State} (h : execLoadDone s = .next t) : Keeps s t := by
  unfold execLoadDone at h; refine keeps_next h ?_; have h0 := Keeps.refl s
  repeat' first
    | with_reducible assumption
    | with_reducible refine State.onlyIf_keeps ?_ (fun x_ k => ?_)
    | with_reducible apply State.loadEnd_keeps

theorem execImgLoad_keeps {a0 : Master} {a1 : Fin 2} {s : State} {t : State} (h : execImgLoad a0 a1 s = .next t) : Keeps s t := by
  unfold execImgLoad at h; refine keeps_next h ?_; have h0 := Keeps.refl s
  repeat' first
    | with_reducible assumption
    | with_reducible refine State.winWrite_keeps ?_ (fun x_ k => ?_)
    | with_reducible apply State.loadWrite_keeps

theorem execImgLockClose_keeps {a0 : Master} {a1 : BitVec 16} {s : State} {t : State} (h : execImgLockClose a0 a1 s = .next t) : Keeps s t := by
  unfold execImgLockClose at h; refine keeps_next h ?_; have h0 := Keeps.refl s
  repeat' first
    | with_reducible assumption
    | with_reducible refine State.winWrite_keeps ?_ (fun x_ k => ?_)
    | with_reducible apply State.lockWrite_keeps

theorem execStageEnable_keeps {a0 : Master} {a1 : Fin 8} {s : State} {t : State} (h : execStageEnable a0 a1 s = .next t) : Keeps s t := by
  unfold execStageEnable at h; refine keeps_next h ?_; have h0 := Keeps.refl s
  repeat' first
    | with_reducible assumption
    | with_reducible refine State.winWrite_keeps ?_ (fun x_ k => ?_)
    | with_reducible apply State.enableStage_keeps

theorem execImgLockKey_keeps {a0 : Master} {a1 : BitVec 16} {s : State} {t : State} (h : execImgLockKey a0 a1 s = .next t) : Keeps s t := by
  unfold execImgLockKey at h; refine keeps_next h ?_; have h0 := Keeps.refl s
  repeat' first
    | with_reducible assumption
    | with_reducible refine State.winWrite_keeps ?_ (fun x_ k => ?_)
    | with_reducible apply State.lockWrite_keeps

theorem execWearEntry_keeps {a0 : Bool} {s : State} {t : State} (h : execWearEntry a0 s = .next t) : Keeps s t := by
  unfold execWearEntry at h; refine keeps_next h ?_; have h0 := Keeps.refl s
  repeat' first
    | with_reducible assumption
    | with_reducible apply State.flag_keeps
    | with_reducible apply State.wearWrite_keeps
    | with_reducible apply State.wr_keeps
    | with_reducible apply State.logEv_keeps
    | with_reducible apply keeps_ite
    | fail_if_no_progress with_reducible apply keeps_mk (s := _)
    | fail_if_no_progress beta_reduce
    | split

theorem execPowerGood_keeps {a0 : RailSet} {s : State} {t : State} (h : execPowerGood a0 s = .next t) : Keeps s t := by
  unfold execPowerGood at h; refine keeps_next h ?_; have h0 := Keeps.refl s
  repeat' first
    | with_reducible assumption
    | with_reducible apply State.showRails_keeps
    | fail_if_no_progress with_reducible apply keeps_mk (s := _)

theorem execRailFault_keeps {a0 : RailSet} {s : State} {t : State} (h : execRailFault a0 s = .next t) : Keeps s t := by
  unfold execRailFault at h; refine keeps_next h ?_; have h0 := Keeps.refl s
  repeat' first
    | with_reducible assumption
    | with_reducible refine State.onlyIf_keeps ?_ (fun x_ k => ?_)
    | with_reducible apply State.railFall_keeps

theorem execEccDoubleBit_keeps {a0 : Master} {a1 : BitVec 32} {s : State} {t : State} (h : execEccDoubleBit a0 a1 s = .next t) : Keeps s t := by
  unfold execEccDoubleBit at h; refine keeps_next h ?_; have h0 := Keeps.refl s
  repeat' first
    | with_reducible assumption
    | with_reducible apply State.busErr_keeps
    | with_reducible apply State.tcmBad_keeps
    | with_reducible apply State.eccMeet_keeps
    | with_reducible apply State.tblAccess_keeps
    | with_reducible apply keeps_ite
    | fail_if_no_progress with_reducible apply keeps_mk (s := _)
    | fail_if_no_progress beta_reduce
    | split

theorem execIslandClockLost_keeps {a0 : Fin 37} {s : State} {t : State} (h : execIslandClockLost a0 s = .next t) : Keeps s t := by
  unfold execIslandClockLost at h; refine keeps_next h ?_; have h0 := Keeps.refl s
  repeat' first
    | with_reducible assumption
    | with_reducible refine State.onlyIf_keeps ?_ (fun x_ k => ?_)
    | with_reducible apply State.clockLost_keeps

theorem execCrossingTimeout_keeps {a0 : Master} {a1 : Fin 39} {a2 : BitVec 32} {s : State} {t : State} (h : execCrossingTimeout a0 a1 a2 s = .next t) : Keeps s t := by
  unfold execCrossingTimeout at h; refine keeps_next h ?_; have h0 := Keeps.refl s
  repeat' first
    | with_reducible assumption
    | with_reducible refine State.onlyIf_keeps ?_ (fun x_ k => ?_)
    | with_reducible apply State.busErr_keeps
    | with_reducible apply State.logEv_keeps
    | fail_if_no_progress with_reducible apply keeps_mk (s := _)

theorem execDieLinkReturn_keeps {a0 : DieLink} {s : State} {t : State} (h : execDieLinkReturn a0 s = .next t) : Keeps s t := by
  unfold execDieLinkReturn at h; refine keeps_next h ?_; have h0 := Keeps.refl s
  repeat' first
    | with_reducible assumption
    | with_reducible apply State.showAdt_keeps
    | with_reducible apply State.clkIsland_keeps
    | with_reducible apply State.showAllActive_keeps
    | with_reducible refine foldEach_keeps (fun a t k => ?_) _ ?_
    | with_reducible apply keeps_ite
    | fail_if_no_progress with_reducible apply keeps_mk (s := _)
    | fail_if_no_progress beta_reduce
    | split

theorem execEccSingleBit_keeps {a0 : BitVec 32} {s : State} {t : State} (h : execEccSingleBit a0 s = .next t) : Keeps s t := by
  unfold execEccSingleBit at h; refine keeps_next h ?_; have h0 := Keeps.refl s
  repeat' first
    | with_reducible assumption
    | with_reducible refine State.onlyIf_keeps ?_ (fun x_ k => ?_)
    | with_reducible apply State.eccCount_keeps
    | fail_if_no_progress beta_reduce
    | split

theorem execUnitRuntimeFault_keeps {a0 : Fin 4096} {s : State} {t : State} (h : execUnitRuntimeFault a0 s = .next t) : Keeps s t := by
  unfold execUnitRuntimeFault at h; refine keeps_next h ?_; have h0 := Keeps.refl s
  repeat' first
    | with_reducible assumption
    | with_reducible refine State.onlyIf_keeps ?_ (fun x_ k => ?_)
    | with_reducible apply State.luStop_keeps
    | with_reducible apply State.unitFault_keeps
    | with_reducible apply keeps_ite
    | fail_if_no_progress beta_reduce
    | split

theorem execDieLinkLoss_keeps {a0 : DieLink} {s : State} {t : State} (h : execDieLinkLoss a0 s = .next t) : Keeps s t := by
  unfold execDieLinkLoss at h; refine keeps_next h ?_; have h0 := Keeps.refl s
  repeat' first
    | with_reducible assumption
    | with_reducible apply State.dieLinkLost_keeps

theorem execVgioFall_keeps {s : State} {t : State} (h : execVgioFall s = .next t) : Keeps s t := by
  unfold execVgioFall at h; refine keeps_next h ?_; have h0 := Keeps.refl s
  repeat' first
    | with_reducible assumption
    | with_reducible apply State.setPad_keeps
    | with_reducible refine foldEach_keeps (fun a t k => ?_) _ ?_
    | fail_if_no_progress with_reducible apply keeps_mk (s := _)

theorem execModuleReset_keeps {s : State} {t : State} (h : execModuleReset s = .next t) : Keeps s t := by
  unfold execModuleReset at h; refine keeps_next h ?_; have h0 := Keeps.refl s
  repeat' first
    | with_reducible assumption
    | with_reducible apply State.mReset_keeps

theorem execStartSequence_keeps {a0 : Bool} {a1 : List (BitVec 32)} {a2 : List (BitVec 32)} {s : State} {t : State} (h : execStartSequence a0 a1 a2 s = .next t) : Keeps s t := by
  unfold execStartSequence at h; refine keeps_next h ?_; have h0 := Keeps.refl s
  repeat' first
    | with_reducible assumption
    | with_reducible refine State.onlyIf_keeps ?_ (fun x_ k => ?_)
    | with_reducible apply State.start_keeps

theorem execPowerOnReset_keeps {s : State} {t : State} (h : execPowerOnReset s = .next t) : Keeps s t := by
  unfold execPowerOnReset at h; refine keeps_next h ?_; have h0 := Keeps.refl s
  repeat' first
    | with_reducible assumption
    | with_reducible apply State.pReset_keeps

theorem execVgioRise_keeps {s : State} {t : State} (h : execVgioRise s = .next t) : Keeps s t := by
  unfold execVgioRise at h; refine keeps_next h ?_; have h0 := Keeps.refl s
  repeat' first
    | with_reducible assumption
    | with_reducible apply State.setPad_keeps
    | with_reducible refine foldEach_keeps (fun a t k => ?_) _ ?_
    | with_reducible apply keeps_ite
    | fail_if_no_progress with_reducible apply keeps_mk (s := _)

theorem execMalformedManagementRequest_keeps {s : State} {t : State} (h : execMalformedManagementRequest s = .next t) : Keeps s t := by
  unfold execMalformedManagementRequest at h; refine keeps_next h ?_; have h0 := Keeps.refl s
  repeat' first
    | with_reducible assumption
    | with_reducible refine State.serve_keeps ?_ (fun x_ x_ x_ k => ?_)

theorem execReplyRetry_keeps {s : State} {t : State} (h : execReplyRetry s = .next t) : Keeps s t := by
  unfold execReplyRetry at h; refine keeps_next h ?_; have h0 := Keeps.refl s
  repeat' first
    | with_reducible assumption
    | with_reducible refine State.onlyIf_keeps ?_ (fun x_ k => ?_)
    | with_reducible apply State.retryReply_keeps
    | fail_if_no_progress with_reducible apply keeps_mk (s := _)
    | fail_if_no_progress beta_reduce
    | split

theorem execRunHouse_keeps {a0 : List (Fin 93 × Fin 1024)} {s : State} {t : State} (h : execRunHouse a0 s = .next t) : Keeps s t := by
  unfold execRunHouse at h; refine keeps_next h ?_; have h0 := Keeps.refl s
  repeat' first
    | with_reducible assumption
    | with_reducible refine State.serve_keeps ?_ (fun x_ x_ x_ k => ?_)
    | with_reducible apply State.readAges_keeps

theorem execKeyRevoke_keeps {s : State} {t : State} (h : execKeyRevoke s = .next t) : Keeps s t := by
  unfold execKeyRevoke at h; refine keeps_next h ?_; have h0 := Keeps.refl s
  repeat' first
    | with_reducible assumption
    | with_reducible refine State.serve_keeps ?_ (fun x_ x_ x_ k => ?_)
    | with_reducible refine State.keyChange_keeps ?_ (fun x_ k => ?_)
    | with_reducible apply State.setWord_keeps

theorem execAgingRead_keeps {a0 : List (Fin 93 × Fin 1024)} {s : State} {t : State} (h : execAgingRead a0 s = .next t) : Keeps s t := by
  unfold execAgingRead at h; refine keeps_next h ?_; have h0 := Keeps.refl s
  repeat' first
    | with_reducible assumption
    | with_reducible apply State.houseWaits_keeps
    | with_reducible apply State.readAges_keeps
    | with_reducible apply keeps_ite
    | fail_if_no_progress with_reducible apply keeps_mk (s := _)

theorem execKeyWrite_keeps {s : State} {t : State} (h : execKeyWrite s = .next t) : Keeps s t := by
  unfold execKeyWrite at h; refine keeps_next h ?_; have h0 := Keeps.refl s
  repeat' first
    | with_reducible assumption
    | with_reducible refine State.serve_keeps ?_ (fun x_ x_ x_ k => ?_)
    | with_reducible refine State.keyChange_keeps ?_ (fun x_ k => ?_)
    | with_reducible apply State.setWord_keeps
    | with_reducible apply State.setBytes_keeps

theorem execSvnRaise_keeps {s : State} {t : State} (h : execSvnRaise s = .next t) : Keeps s t := by
  unfold execSvnRaise at h; refine keeps_next h ?_; have h0 := Keeps.refl s
  repeat' first
    | with_reducible assumption
    | with_reducible refine State.serve_keeps ?_ (fun x_ x_ x_ k => ?_)
    | with_reducible refine State.keyChange_keeps ?_ (fun x_ k => ?_)
    | with_reducible apply State.setNum_keeps

theorem execCaptureCopy_keeps {s : State} {t : State} (h : execCaptureCopy s = .next t) : Keeps s t := by
  unfold execCaptureCopy at h; refine keeps_next h ?_; have h0 := Keeps.refl s
  repeat' first
    | with_reducible assumption
    | with_reducible refine State.onlyIf_keeps ?_ (fun x_ k => ?_)
    | with_reducible apply State.copyCapture_keeps

theorem execLogWrite_keeps {a0 : Bool} {s : State} {t : State} (h : execLogWrite a0 s = .next t) : Keeps s t := by
  unfold execLogWrite at h; refine keeps_next h ?_; have h0 := Keeps.refl s
  repeat' first
    | with_reducible assumption
    | with_reducible apply State.writeNext_keeps
    | with_reducible apply State.flag_keeps
    | with_reducible apply keeps_ite

theorem execLogMark_keeps {s : State} {t : State} (h : execLogMark s = .next t) : Keeps s t := by
  unfold execLogMark at h; refine keeps_next h ?_; have h0 := Keeps.refl s
  repeat' first
    | with_reducible assumption
    | with_reducible refine State.serve_keeps ?_ (fun x_ x_ x_ k => ?_)
    | with_reducible apply State.logMark_keeps

theorem execLoadWindow_keeps {a0 : Fin 1001} {s : State} {t : State} (h : execLoadWindow a0 s = .next t) : Keeps s t := by
  unfold execLoadWindow at h; refine keeps_next h ?_; have h0 := Keeps.refl s
  repeat' first
    | with_reducible assumption
    | with_reducible refine State.onlyIf_keeps ?_ (fun x_ k => ?_)
    | with_reducible apply State.loadWindow_keeps

theorem execMgStatus_keeps {s : State} {t : State} (h : execMgStatus s = .next t) : Keeps s t := by
  unfold execMgStatus at h; refine keeps_next h ?_; have h0 := Keeps.refl s
  repeat' first
    | with_reducible assumption
    | with_reducible refine State.serve_keeps ?_ (fun x_ x_ x_ k => ?_)

theorem execArmedStale_keeps {s : State} {t : State} (h : execArmedStale s = .next t) : Keeps s t := by
  unfold execArmedStale at h; refine keeps_next h ?_; have h0 := Keeps.refl s
  repeat' first
    | with_reducible assumption
    | with_reducible apply State.flag_keeps
    | with_reducible refine foldEach_keeps (fun a t k => ?_) _ ?_
    | with_reducible apply keeps_ite
    | fail_if_no_progress beta_reduce
    | split

theorem execAscDtExpiry_keeps {a0 : Fin 8} {s : State} {t : State} (h : execAscDtExpiry a0 s = .next t) : Keeps s t := by
  unfold execAscDtExpiry at h; refine keeps_next h ?_; have h0 := Keeps.refl s
  repeat' first
    | with_reducible assumption
    | with_reducible apply State.ascOn_keeps
    | with_reducible apply keeps_ite
    | fail_if_no_progress beta_reduce
    | split

theorem execTripinChange_keeps {a0 : Fin 16} {a1 : Bool} {s : State} {t : State} (h : execTripinChange a0 a1 s = .next t) : Keeps s t := by
  unfold execTripinChange at h; refine keeps_next h ?_; have h0 := Keeps.refl s
  repeat' first
    | with_reducible assumption
    | with_reducible apply State.tripinLook_keeps
    | fail_if_no_progress with_reducible apply keeps_mk (s := _)

theorem execComparatorCrossing_keeps {a0 : Fin 96} {a1 : ℕ} {s : State} {t : State} (h : execComparatorCrossing a0 a1 s = .next t) : Keeps s t := by
  unfold execComparatorCrossing at h; refine keeps_next h ?_; have h0 := Keeps.refl s
  repeat' first
    | with_reducible assumption
    | with_reducible apply State.filtered_keeps
    | with_reducible apply keeps_ite

theorem execEmuEnable_keeps {a0 : Master} {a1 : Fin 4} {a2 : Bool} {s : State} {t : State} (h : execEmuEnable a0 a1 a2 s = .next t) : Keeps s t := by
  unfold execEmuEnable at h; refine keeps_next h ?_; have h0 := Keeps.refl s
  repeat' first
    | with_reducible assumption
    | with_reducible refine State.winWrite_keeps ?_ (fun x_ k => ?_)
    | with_reducible apply State.emuEnable_keeps
    | with_reducible apply State.emuDisable_keeps
    | with_reducible apply keeps_ite

theorem execSwsync_keeps {a0 : Master} {a1 : Fin 8} {s : State} {t : State} (h : execSwsync a0 a1 s = .next t) : Keeps s t := by
  unfold execSwsync at h; refine keeps_next h ?_; have h0 := Keeps.refl s
  repeat' first
    | with_reducible assumption
    | with_reducible refine State.winWrite_keeps ?_ (fun x_ k => ?_)
    | with_reducible apply State.syncEvent_keeps

theorem execIsoCalStart_keeps {a0 : Master} {a1 : Fin 8} {s : State} {t : State} (h : execIsoCalStart a0 a1 s = .next t) : Keeps s t := by
  unfold execIsoCalStart at h; refine keeps_next h ?_; have h0 := Keeps.refl s
  repeat' first
    | with_reducible assumption
    | with_reducible refine State.winWrite_keeps ?_ (fun x_ k => ?_)
    | with_reducible apply State.isoCalStart_keeps

theorem execFcDisable_keeps {a0 : Master} {a1 : Fin 8} {s : State} {t : State} (h : execFcDisable a0 a1 s = .next t) : Keeps s t := by
  unfold execFcDisable at h; refine keeps_next h ?_; have h0 := Keeps.refl s
  repeat' first
    | with_reducible assumption
    | with_reducible refine State.winWrite_keeps ?_ (fun x_ k => ?_)
    | with_reducible apply State.fcDisable_keeps

theorem execCanStop_keeps {a0 : Master} {a1 : Fin 6} {a2 : Bool} {s : State} {t : State} (h : execCanStop a0 a1 a2 s = .next t) : Keeps s t := by
  unfold execCanStop at h; refine keeps_next h ?_; have h0 := Keeps.refl s
  repeat' first
    | with_reducible assumption
    | with_reducible refine State.winWrite_keeps ?_ (fun x_ k => ?_)
    | with_reducible apply State.canStop_keeps

theorem execTbgStart_keeps {a0 : Master} {a1 : BitVec 8} {s : State} {t : State} (h : execTbgStart a0 a1 s = .next t) : Keeps s t := by
  unfold execTbgStart at h; refine keeps_next h ?_; have h0 := Keeps.refl s
  repeat' first
    | with_reducible assumption
    | with_reducible refine State.winWrite_keeps ?_ (fun x_ k => ?_)
    | with_reducible apply State.tbStart_keeps
    | with_reducible refine foldEach_keeps (fun a t k => ?_) _ ?_

theorem execBlkClr_keeps {a0 : Master} {a1 : Fin 8} {a2 : Fin 16} {s : State} {t : State} (h : execBlkClr a0 a1 a2 s = .next t) : Keeps s t := by
  unfold execBlkClr at h; refine keeps_next h ?_; have h0 := Keeps.refl s
  repeat' first
    | with_reducible assumption
    | with_reducible refine State.winWrite_keeps ?_ (fun x_ k => ?_)
    | with_reducible apply State.clrReq_keeps

theorem execAdtTrimWrite_keeps {a0 : Master} {a1 : Fin 24} {a2 : BitVec 16} {a3 : BitVec 16} {s : State} {t : State} (h : execAdtTrimWrite a0 a1 a2 a3 s = .next t) : Keeps s t := by
  unfold execAdtTrimWrite at h; refine keeps_next h ?_; have h0 := Keeps.refl s
  repeat' first
    | with_reducible assumption
    | with_reducible refine State.winWrite_keeps ?_ (fun x_ k => ?_)
    | with_reducible apply State.wr_keeps

theorem execPosCountWrite_keeps {a0 : Master} {a1 : Fin 4} {a2 : BitVec 24} {s : State} {t : State} (h : execPosCountWrite a0 a1 a2 s = .next t) : Keeps s t := by
  unfold execPosCountWrite at h; refine keeps_next h ?_; have h0 := Keeps.refl s
  repeat' first
    | with_reducible assumption
    | with_reducible refine State.winWrite_keeps ?_ (fun x_ k => ?_)
    | with_reducible apply State.posLoad_keeps

theorem execPairSwstart_keeps {a0 : Master} {a1 : Fin 16} {s : State} {t : State} (h : execPairSwstart a0 a1 s = .next t) : Keeps s t := by
  unfold execPairSwstart at h; refine keeps_next h ?_; have h0 := Keeps.refl s
  repeat' first
    | with_reducible assumption
    | with_reducible refine State.winWrite_keeps ?_ (fun x_ k => ?_)
    | with_reducible apply State.burstStart_keeps

theorem execLocalSel_keeps {a0 : Master} {a1 : Fin 4} {a2 : BitVec 16} {s : State} {t : State} (h : execLocalSel a0 a1 a2 s = .next t) : Keeps s t := by
  unfold execLocalSel at h; refine keeps_next h ?_; have h0 := Keeps.refl s
  repeat' first
    | with_reducible assumption
    | with_reducible refine State.winWrite_keeps ?_ (fun x_ k => ?_)
    | with_reducible apply State.clkLocalSel_keeps

theorem execSeqEnable_keeps {a0 : Master} {a1 : Fin 4} {s : State} {t : State} (h : execSeqEnable a0 a1 s = .next t) : Keeps s t := by
  unfold execSeqEnable at h; refine keeps_next h ?_; have h0 := Keeps.refl s
  repeat' first
    | with_reducible assumption
    | with_reducible refine State.winWrite_keeps ?_ (fun x_ k => ?_)
    | with_reducible apply State.seqEnable_keeps

theorem execSwapReq_keeps {a0 : Master} {a1 : Fin 8} {s : State} {t : State} (h : execSwapReq a0 a1 s = .next t) : Keeps s t := by
  unfold execSwapReq at h; refine keeps_next h ?_; have h0 := Keeps.refl s
  repeat' first
    | with_reducible assumption
    | with_reducible refine State.winWrite_keeps ?_ (fun x_ k => ?_)
    | with_reducible apply State.swapReq_keeps

theorem execLpPen_keeps {a0 : Master} {a1 : Fin 8} {a2 : Fin 4} {s : State} {t : State} (h : execLpPen a0 a1 a2 s = .next t) : Keeps s t := by
  unfold execLpPen at h; refine keeps_next h ?_; have h0 := Keeps.refl s
  repeat' first
    | with_reducible assumption
    | with_reducible refine State.winWrite_keeps ?_ (fun x_ k => ?_)
    | with_reducible apply State.lpEnable_keeps

theorem execLpDisable_keeps {a0 : Master} {a1 : Fin 8} {a2 : Fin 4} {s : State} {t : State} (h : execLpDisable a0 a1 a2 s = .next t) : Keeps s t := by
  unfold execLpDisable at h; refine keeps_next h ?_; have h0 := Keeps.refl s
  repeat' first
    | with_reducible assumption
    | with_reducible refine State.winWrite_keeps ?_ (fun x_ k => ?_)
    | with_reducible apply State.lpDisable_keeps

theorem execRecStart_keeps {a0 : Master} {a1 : Fin 6} {s : State} {t : State} (h : execRecStart a0 a1 s = .next t) : Keeps s t := by
  unfold execRecStart at h; refine keeps_next h ?_; have h0 := Keeps.refl s
  repeat' first
    | with_reducible assumption
    | with_reducible refine State.winWrite_keeps ?_ (fun x_ k => ?_)
    | with_reducible refine State.onlyIf_keeps ?_ (fun x_ k => ?_)
    | with_reducible apply State.wr_keeps
    | with_reducible apply State.setCanState_keeps

theorem execSwtrip_keeps {a0 : Master} {a1 : Fin 8} {a2 : Bool} {s : State} {t : State} (h : execSwtrip a0 a1 a2 s = .next t) : Keeps s t := by
  unfold execSwtrip at h; refine keeps_next h ?_; have h0 := Keeps.refl s
  repeat' first
    | with_reducible assumption
    | with_reducible refine State.winWrite_keeps ?_ (fun x_ k => ?_)
    | with_reducible apply State.setSwtrip_keeps

theorem execPosFaultClear_keeps {a0 : Master} {a1 : Fin 4} {s : State} {t : State} (h : execPosFaultClear a0 a1 s = .next t) : Keeps s t := by
  unfold execPosFaultClear at h; refine keeps_next h ?_; have h0 := Keeps.refl s
  repeat' first
    | with_reducible assumption
    | with_reducible refine State.winWrite_keeps ?_ (fun x_ k => ?_)
    | with_reducible apply State.posClear_keeps

theorem execIsoEnable_keeps {a0 : Master} {a1 : Fin 8} {a2 : Bool} {s : State} {t : State} (h : execIsoEnable a0 a1 a2 s = .next t) : Keeps s t := by
  unfold execIsoEnable at h; refine keeps_next h ?_; have h0 := Keeps.refl s
  repeat' first
    | with_reducible assumption
    | with_reducible refine State.winWrite_keeps ?_ (fun x_ k => ?_)
    | with_reducible apply State.isoSetEn_keeps

theorem execSwtrig_keeps {a0 : Master} {a1 : Fin 32} {a2 : Fin 2} {s : State} {t : State} (h : execSwtrig a0 a1 a2 s = .next t) : Keeps s t := by
  unfold execSwtrig at h; refine keeps_next h ?_; have h0 := Keeps.refl s
  repeat' first
    | with_reducible assumption
    | with_reducible refine State.winWrite_keeps ?_ (fun x_ k => ?_)
    | with_reducible apply State.injTrig_keeps

theorem execRxfullRelease_keeps {a0 : Master} {a1 : Fin 6} {a2 : Fin 2} {a3 : BitVec 32} {s : State} {t : State} (h : execRxfullRelease a0 a1 a2 a3 s = .next t) : Keeps s t := by
  unfold execRxfullRelease at h; refine keeps_next h ?_; have h0 := Keeps.refl s
  repeat' first
    | with_reducible assumption
    | with_reducible refine State.winWrite_keeps ?_ (fun x_ k => ?_)
    | with_reducible apply State.canRelease_keeps

theorem execRelock_keeps {a0 : Master} {a1 : Fin 3} {s : State} {t : State} (h : execRelock a0 a1 s = .next t) : Keeps s t := by
  unfold execRelock at h; refine keeps_next h ?_; have h0 := Keeps.refl s
  repeat' first
    | with_reducible assumption
    | with_reducible refine State.winWrite_keeps ?_ (fun x_ k => ?_)
    | with_reducible apply State.pllRelock_keeps

theorem execFcTblData_keeps {a0 : Master} {a1 : Bool} {a2 : BitVec 32} {s : State} {t : State} (h : execFcTblData a0 a1 a2 s = .next t) : Keeps s t := by
  unfold execFcTblData at h; refine keeps_next h ?_; have h0 := Keeps.refl s
  repeat' first
    | with_reducible assumption
    | with_reducible apply State.tblAccess_keeps
    | with_reducible apply State.commitEnd_keeps
    | with_reducible apply State.busErr_keeps
    | with_reducible apply keeps_ite

theorem execSeqDisable_keeps {a0 : Master} {a1 : Fin 4} {s : State} {t : State} (h : execSeqDisable a0 a1 s = .next t) : Keeps s t := by
  unfold execSeqDisable at h; refine keeps_next h ?_; have h0 := Keeps.refl s
  repeat' first
    | with_reducible assumption
    | with_reducible refine State.winWrite_keeps ?_ (fun x_ k => ?_)
    | with_reducible apply State.seqDisable_keeps

theorem execFcStop_keeps {a0 : Master} {a1 : Fin 8} {s : State} {t : State} (h : execFcStop a0 a1 s = .next t) : Keeps s t := by
  unfold execFcStop at h; refine keeps_next h ?_; have h0 := Keeps.refl s
  repeat' first
    | with_reducible assumption
    | with_reducible refine State.winWrite_keeps ?_ (fun x_ k => ?_)
    | with_reducible apply State.fcStop_keeps

theorem execPairCal_keeps {a0 : Master} {a1 : Fin 16} {s : State} {t : State} (h : execPairCal a0 a1 s = .next t) : Keeps s t := by
  unfold execPairCal at h; refine keeps_next h ?_; have h0 := Keeps.refl s
  repeat' first
    | with_reducible assumption
    | with_reducible refine State.winWrite_keeps ?_ (fun x_ k => ?_)
    | with_reducible apply State.pairCal_keeps

theorem execTbStop_keeps {a0 : Master} {a1 : Fin 8} {s : State} {t : State} (h : execTbStop a0 a1 s = .next t) : Keeps s t := by
  unfold execTbStop at h; refine keeps_next h ?_; have h0 := Keeps.refl s
  repeat' first
    | with_reducible assumption
    | with_reducible refine State.winWrite_keeps ?_ (fun x_ k => ?_)
    | with_reducible apply State.stopTb_keeps

theorem execPosEnable_keeps {a0 : Master} {a1 : Fin 4} {a2 : Bool} {s : State} {t : State} (h : execPosEnable a0 a1 a2 s = .next t) : Keeps s t := by
  unfold execPosEnable at h; refine keeps_next h ?_; have h0 := Keeps.refl s
  repeat' first
    | with_reducible assumption
    | with_reducible refine State.winWrite_keeps ?_ (fun x_ k => ?_)
    | with_reducible apply State.posEnable_keeps
    | with_reducible apply State.posDisable_keeps
    | with_reducible apply keeps_ite

theorem execOffsStore_keeps {a0 : Master} {a1 : Fin 8} {s : State} {t : State} (h : execOffsStore a0 a1 s = .next t) : Keeps s t := by
  unfold execOffsStore at h; refine keeps_next h ?_; have h0 := Keeps.refl s
  repeat' first
    | with_reducible assumption
    | with_reducible refine State.winWrite_keeps ?_ (fun x_ k => ?_)
    | with_reducible apply State.offsStore_keeps

theorem execRsEnable_keeps {a0 : Master} {a1 : Fin 2} {a2 : Bool} {s : State} {t : State} (h : execRsEnable a0 a1 a2 s = .next t) : Keeps s t := by
  unfold execRsEnable at h; refine keeps_next h ?_; have h0 := Keeps.refl s
  repeat' first
    | with_reducible assumption
    | with_reducible refine State.winWrite_keeps ?_ (fun x_ k => ?_)
    | with_reducible apply State.rsEnable_keeps
    | with_reducible apply State.rsDisable_keeps
    | with_reducible apply keeps_ite

theorem execTripClear_keeps {a0 : Master} {a1 : Fin 8} {a2 : Option (Fin 4096)} {s : State} {t : State} (h : execTripClear a0 a1 a2 s = .next t) : Keeps s t := by
  unfold execTripClear at h; refine keeps_next h ?_; have h0 := Keeps.refl s
  repeat' first
    | with_reducible assumption
    | with_reducible refine State.winWrite_keeps ?_ (fun x_ k => ?_)
    | with_reducible apply State.clearAgainst_keeps
    | with_reducible apply State.clearTrip_keeps
    | fail_if_no_progress beta_reduce
    | split

theorem execCalStart_keeps {a0 : Master} {a1 : Fin 32} {s : State} {t : State} (h : execCalStart a0 a1 s = .next t) : Keeps s t := by
  unfold execCalStart at h; refine keeps_next h ?_; have h0 := Keeps.refl s
  repeat' first
    | with_reducible assumption
    | with_reducible refine State.winWrite_keeps ?_ (fun x_ k => ?_)
    | with_reducible apply State.calStart_keeps

theorem execInjEnable_keeps {a0 : Master} {a1 : Fin 32} {a2 : Fin 2} {s : State} {t : State} (h : execInjEnable a0 a1 a2 s = .next t) : Keeps s t := by
  unfold execInjEnable at h; refine keeps_next h ?_; have h0 := Keeps.refl s
  repeat' first
    | with_reducible assumption
    | with_reducible refine State.winWrite_keeps ?_ (fun x_ k => ?_)
    | with_reducible apply State.injEnable_keeps

theorem execTbRun_keeps {a0 : Master} {a1 : Fin 8} {s : State} {t : State} (h : execTbRun a0 a1 s = .next t) : Keeps s t := by
  unfold execTbRun at h; refine keeps_next h ?_; have h0 := Keeps.refl s
  repeat' first
    | with_reducible assumption
    | with_reducible refine State.winWrite_keeps ?_ (fun x_ k => ?_)
    | with_reducible apply State.tbStart_keeps

theorem execCanRun_keeps {a0 : Master} {a1 : Fin 6} {s : State} {t : State} (h : execCanRun a0 a1 s = .next t) : Keeps s t := by
  unfold execCanRun at h; refine keeps_next h ?_; have h0 := Keeps.refl s
  repeat' first
    | with_reducible assumption
    | with_reducible refine State.winWrite_keeps ?_ (fun x_ k => ?_)
    | with_reducible apply State.canRun_keeps

theorem execChopFaultClear_keeps {a0 : Master} {a1 : Fin 8} {s : State} {t : State} (h : execChopFaultClear a0 a1 s = .next t) : Keeps s t := by
  unfold execChopFaultClear at h; refine keeps_next h ?_; have h0 := Keeps.refl s
  repeat' first
    | with_reducible assumption
    | with_reducible refine State.winWrite_keeps ?_ (fun x_ k => ?_)
    | with_reducible apply State.clearChop_keeps

theorem execSeqSwstart_keeps {a0 : Master} {a1 : Fin 4} {s : State} {t : State} (h : execSeqSwstart a0 a1 s = .next t) : Keeps s t := by
  unfold execSeqSwstart at h; refine keeps_next h ?_; have h0 := Keeps.refl s
  repeat' first
    | with_reducible assumption
    | with_reducible refine State.winWrite_keeps ?_ (fun x_ k => ?_)
    | with_reducible apply State.seqStart_keeps

theorem execFcStart_keeps {a0 : Master} {a1 : Fin 8} {s : State} {t : State} (h : execFcStart a0 a1 s = .next t) : Keeps s t := by
  unfold execFcStart at h; refine keeps_next h ?_; have h0 := Keeps.refl s
  repeat' first
    | with_reducible assumption
    | with_reducible refine State.winWrite_keeps ?_ (fun x_ k => ?_)
    | with_reducible apply State.fcStart_keeps

theorem execAdtFailClear_keeps {a0 : Master} {a1 : Fin 24} {s : State} {t : State} (h : execAdtFailClear a0 a1 s = .next t) : Keeps s t := by
  unfold execAdtFailClear at h; refine keeps_next h ?_; have h0 := Keeps.refl s
  repeat' first
    | with_reducible assumption
    | with_reducible refine State.winWrite_keeps ?_ (fun x_ k => ?_)
    | with_reducible apply State.adtClear_keeps

theorem execPllEnable_keeps {a0 : Master} {a1 : Fin 3} {a2 : Bool} {s : State} {t : State} (h : execPllEnable a0 a1 a2 s = .next t) : Keeps s t := by
  unfold execPllEnable at h; refine keeps_next h ?_; have h0 := Keeps.refl s
  repeat' first
    | with_reducible assumption
    | with_reducible refine State.winWrite_keeps ?_ (fun x_ k => ?_)
    | with_reducible apply State.pllEn_keeps

theorem execAdtEnable_keeps {a0 : Master} {a1 : Fin 24} {s : State} {t : State} (h : execAdtEnable a0 a1 s = .next t) : Keeps s t := by
  unfold execAdtEnable at h; refine keeps_next h ?_; have h0 := Keeps.refl s
  repeat' first
    | with_reducible assumption
    | with_reducible refine State.winWrite_keeps ?_ (fun x_ k => ?_)
    | with_reducible apply State.adtEnable_keeps

theorem execIlArm_keeps {a0 : Master} {a1 : Fin 16} {s : State} {t : State} (h : execIlArm a0 a1 s = .next t) : Keeps s t := by
  unfold execIlArm at h; refine keeps_next h ?_; have h0 := Keeps.refl s
  repeat' first
    | with_reducible assumption
    | with_reducible refine State.winWrite_keeps ?_ (fun x_ k => ?_)
    | with_reducible apply State.pairArm_keeps

theorem execFcEnable_keeps {a0 : Master} {a1 : Fin 8} {s : State} {t : State} (h : execFcEnable a0 a1 s = .next t) : Keeps s t := by
  unfold execFcEnable at h; refine keeps_next h ?_; have h0 := Keeps.refl s
  repeat' first
    | with_reducible assumption
    | with_reducible refine State.winWrite_keeps ?_ (fun x_ k => ?_)
    | with_reducible apply State.fcEnable_keeps

theorem execRsFaultClear_keeps {a0 : Master} {a1 : Fin 2} {s : State} {t : State} (h : execRsFaultClear a0 a1 s = .next t) : Keeps s t := by
  unfold execRsFaultClear at h; refine keeps_next h ?_; have h0 := Keeps.refl s
  repeat' first
    | with_reducible assumption
    | with_reducible refine State.winWrite_keeps ?_ (fun x_ k => ?_)
    | with_reducible apply State.rsClear_keeps

theorem execTxreq_keeps {a0 : Master} {a1 : Fin 6} {a2 : Fin 2} {a3 : BitVec 32} {a4 : BitVec 32} {s : State} {t : State} (h : execTxreq a0 a1 a2 a3 a4 s = .next t) : Keeps s t := by
  unfold execTxreq at h; refine keeps_next h ?_; have h0 := Keeps.refl s
  repeat' first
    | with_reducible assumption
    | with_reducible refine State.winWrite_keeps ?_ (fun x_ k => ?_)
    | with_reducible apply State.canRequest_keeps
    | with_reducible apply State.canCancel_keeps
    | with_reducible refine foldEach_keeps (fun a t k => ?_) _ ?_

theorem execTxcan_keeps {a0 : Master} {a1 : Fin 6} {a2 : Fin 2} {a3 : BitVec 32} {s : State} {t : State} (h : execTxcan a0 a1 a2 a3 s = .next t) : Keeps s t := by
  unfold execTxcan at h; refine keeps_next h ?_; have h0 := Keeps.refl s
  repeat' first
    | with_reducible assumption
    | with_reducible refine State.winWrite_keeps ?_ (fun x_ k => ?_)
    | with_reducible apply State.canCancel_keeps
    | with_reducible refine foldEach_keeps (fun a t k => ?_) _ ?_

theorem execMbGo_keeps {a0 : Master} {a1 : Fin 64} {s : State} {t : State} (h : execMbGo a0 a1 s = .next t) : Keeps s t := by
  unfold execMbGo at h; refine keeps_next h ?_; have h0 := Keeps.refl s
  repeat' first
    | with_reducible assumption
    | with_reducible apply State.mbCtrl_keeps

theorem execSemRelease_keeps {a0 : Fin 64} {a1 : Master} {s : State} {t : State} (h : execSemRelease a0 a1 s = .next t) : Keeps s t := by
  unfold execSemRelease at h; refine keeps_next h ?_; have h0 := Keeps.refl s
  repeat' first
    | with_reducible assumption
    | with_reducible refine State.winWrite_keeps ?_ (fun x_ k => ?_)
    | with_reducible apply State.semRelease_keeps

theorem execAbortFill_keeps {a0 : Master} {a1 : Fin 64} {s : State} {t : State} (h : execAbortFill a0 a1 s = .next t) : Keeps s t := by
  unfold execAbortFill at h; refine keeps_next h ?_; have h0 := Keeps.refl s
  repeat' first
    | with_reducible assumption
    | with_reducible apply State.mbCtrl_keeps

theorem execMbWrite_keeps {a0 : Master} {a1 : Fin 64} {a2 : Fin 17} {a3 : BitVec 32} {a4 : Option (Master × Fin 17 × BitVec 32)} {s : State} {t : State} (h : execMbWrite a0 a1 a2 a3 a4 s = .next t) : Keeps s t := by
  unfold execMbWrite at h; refine keeps_next h ?_; have h0 := Keeps.refl s
  repeat' first
    | with_reducible assumption
    | with_reducible apply State.mbWrite_keeps
    | with_reducible apply State.flipPrec_keeps
    | with_reducible apply keeps_ite
    | fail_if_no_progress beta_reduce
    | split

theorem execDbRing_keeps {a0 : Master} {a1 : Fin 6} {a2 : BitVec 32} {s : State} {t : State} (h : execDbRing a0 a1 a2 s = .next t) : Keeps s t := by
  unfold execDbRing at h; refine keeps_next h ?_; have h0 := Keeps.refl s
  repeat' first
    | with_reducible assumption
    | with_reducible refine State.winWrite_keeps ?_ (fun x_ k => ?_)
    | with_reducible apply State.wr_keeps

theorem execMbCfgWrite_keeps {a0 : Master} {a1 : Fin 64} {a2 : Fin 8} {a3 : Bool} {a4 : Fin 32} {s : State} {t : State} (h : execMbCfgWrite a0 a1 a2 a3 a4 s = .next t) : Keeps s t := by
  unfold execMbCfgWrite at h; refine keeps_next h ?_; have h0 := Keeps.refl s
  repeat' first
    | with_reducible assumption
    | with_reducible refine State.winWrite_keeps ?_ (fun x_ k => ?_)
    | with_reducible apply State.mbCfg_keeps

theorem execSemAcq_keeps {a0 : Fin 64} {a1 : List Master} {s : State} {t : State} (h : execSemAcq a0 a1 s = .next t) : Keeps s t := by
  unfold execSemAcq at h; refine keeps_next h ?_; have h0 := Keeps.refl s
  repeat' first
    | with_reducible assumption
    | with_reducible refine State.onlyIf_keeps ?_ (fun x_ k => ?_)
    | with_reducible apply State.semRead_keeps
    | with_reducible apply State.flipPrec_keeps
    | with_reducible refine foldEach_keeps (fun a t k => ?_) _ ?_

theorem execMbRel_keeps {a0 : Master} {a1 : Fin 64} {s : State} {t : State} (h : execMbRel a0 a1 s = .next t) : Keeps s t := by
  unfold execMbRel at h; refine keeps_next h ?_; have h0 := Keeps.refl s
  repeat' first
    | with_reducible assumption
    | with_reducible apply State.mbCtrl_keeps

theorem execDbPendClear_keeps {a0 : Master} {a1 : Fin 6} {a2 : BitVec 32} {a3 : BitVec 32} {s : State} {t : State} (h : execDbPendClear a0 a1 a2 a3 s = .next t) : Keeps s t := by
  unfold execDbPendClear at h; refine keeps_next h ?_; have h0 := Keeps.refl s
  repeat' first
    | with_reducible assumption
    | with_reducible refine State.winWrite_keeps ?_ (fun x_ k => ?_)
    | with_reducible apply State.wr_keeps

theorem execWakePin_keeps {a0 : Bool} {s : State} {t : State} (h : execWakePin a0 s = .next t) : Keeps s t := by
  unfold execWakePin at h; refine keeps_next h ?_; have h0 := Keeps.refl s
  repeat' first
    | with_reducible assumption
    | with_reducible apply State.wr_keeps
    | with_reducible refine State.onlyIf_keeps ?_ (fun x_ k => ?_)
    | with_reducible apply State.wakeEvent_keeps
    | with_reducible apply keeps_ite

theorem execWakeAtMatch_keeps {s : State} {t : State} (h : execWakeAtMatch s = .next t) : Keeps s t := by
  unfold execWakeAtMatch at h; refine keeps_next h ?_; have h0 := Keeps.refl s
  repeat' first
    | with_reducible assumption
    | with_reducible refine State.onlyIf_keeps ?_ (fun x_ k => ?_)
    | with_reducible apply State.wakeEvent_keeps

theorem execRstReq_keeps {a0 : Master} {a1 : Fin 39} {s : State} {t : State} (h : execRstReq a0 a1 s = .next t) : Keeps s t := by
  unfold execRstReq at h; refine keeps_next h ?_; have h0 := Keeps.refl s
  repeat' first
    | with_reducible assumption
    | with_reducible refine State.winWrite_keeps ?_ (fun x_ k => ?_)
    | with_reducible apply State.rstReq_keeps

theorem execNreset_keeps {s : State} {t : State} (h : execNreset s = .next t) : Keeps s t := by
  unfold execNreset at h; refine keeps_next h ?_; have h0 := Keeps.refl s
  repeat' first
    | with_reducible assumption
    | with_reducible apply State.warmStart_keeps
    | with_reducible apply State.powerStart_keeps
    | with_reducible apply keeps_ite

theorem execIslandResetRelease_keeps {a0 : Fin 39} {s : State} {t : State} (h : execIslandResetRelease a0 s = .next t) : Keeps s t := by
  unfold execIslandResetRelease at h; refine keeps_next h ?_; have h0 := Keeps.refl s
  repeat' first
    | with_reducible assumption
    | with_reducible apply State.leaveReset_keeps
    | with_reducible apply State.wr_keeps
    | with_reducible apply keeps_ite
    | fail_if_no_progress with_reducible apply keeps_mk (s := _)
    | fail_if_no_progress beta_reduce
    | split

theorem execClaySupplyLoss_keeps {s : State} {t : State} (h : execClaySupplyLoss s = .next t) : Keeps s t := by
  unfold execClaySupplyLoss at h; refine keeps_next h ?_; have h0 := Keeps.refl s
  repeat' first
    | with_reducible assumption
    | with_reducible refine State.onlyIf_keeps ?_ (fun x_ k => ?_)
    | with_reducible apply State.setMode_keeps
    | fail_if_no_progress with_reducible apply keeps_mk (s := _)

theorem execScrubPass_keeps {a0 : Fin 4097} {a1 : List (Fin 4096)} {s : State} {t : State} (h : execScrubPass a0 a1 s = .next t) : Keeps s t := by
  unfold execScrubPass at h; refine keeps_next h ?_; have h0 := Keeps.refl s
  repeat' first
    | with_reducible assumption
    | with_reducible refine State.onlyIf_keeps ?_ (fun x_ k => ?_)
    | with_reducible apply State.scrub_keeps
    | fail_if_no_progress with_reducible apply keeps_mk (s := _)

theorem execVlvFall_keeps {a0 : Bool} {a1 : BitVec 16} {s : State} {t : State} (h : execVlvFall a0 a1 s = .next t) : Keeps s t := by
  unfold execVlvFall at h; refine keeps_next h ?_; have h0 := Keeps.refl s
  repeat' first
    | with_reducible assumption
    | with_reducible apply State.flag_keeps
    | with_reducible apply State.wr_keeps
    | with_reducible apply State.supplyFall_keeps
    | with_reducible apply keeps_ite
    | fail_if_no_progress with_reducible apply keeps_mk (s := _)

theorem execSafetyRegionFall_keeps {s : State} {t : State} (h : execSafetyRegionFall s = .next t) : Keeps s t := by
  unfold execSafetyRegionFall at h; refine keeps_next h ?_; have h0 := Keeps.refl s
  repeat' first
    | with_reducible assumption
    | with_reducible refine State.onlyIf_keeps ?_ (fun x_ k => ?_)
    | with_reducible apply State.powerOff_keeps

theorem execIslRel_keeps {a0 : Master} {a1 : Fin 39} {a2 : Bool} {s : State} {t : State} (h : execIslRel a0 a1 a2 s = .next t) : Keeps s t := by
  unfold execIslRel at h; refine keeps_next h ?_; have h0 := Keeps.refl s
  repeat' first
    | with_reducible assumption
    | with_reducible refine State.winWrite_keeps ?_ (fun x_ k => ?_)
    | with_reducible apply State.relIsland_keeps

theorem execScrubPassEnd_keeps {s : State} {t : State} (h : execScrubPassEnd s = .next t) : Keeps s t := by
  unfold execScrubPassEnd at h; refine keeps_next h ?_; have h0 := Keeps.refl s
  repeat' first
    | with_reducible assumption
    | with_reducible refine State.onlyIf_keeps ?_ (fun x_ k => ?_)
    | with_reducible apply State.wr_keeps

theorem execIslandPowerUp_keeps {a0 : Master} {a1 : Fin 39} {s : State} {t : State} (h : execIslandPowerUp a0 a1 s = .next t) : Keeps s t := by
  unfold execIslandPowerUp at h; refine keeps_next h ?_; have h0 := Keeps.refl s
  repeat' first
    | with_reducible assumption
    | with_reducible refine State.winWrite_keeps ?_ (fun x_ k => ?_)
    | with_reducible apply State.closeSwitch_keeps

theorem execVlvRise_keeps {s : State} {t : State} (h : execVlvRise s = .next t) : Keeps s t := by
  unfold execVlvRise at h; refine keeps_next h ?_; have h0 := Keeps.refl s
  repeat' first
    | with_reducible assumption
    | with_reducible apply State.wr_keeps
    | with_reducible apply State.rowStatus_keeps
    | with_reducible apply State.supplyRise_keeps
    | with_reducible apply State.pickSource_keeps
    | with_reducible apply keeps_ite

theorem execIslandPowered_keeps {a0 : Fin 39} {s : State} {t : State} (h : execIslandPowered a0 s = .next t) : Keeps s t := by
  unfold execIslandPowered at h; refine keeps_next h ?_; have h0 := Keeps.refl s
  repeat' first
    | with_reducible assumption
    | with_reducible apply State.leaveReset_keeps
    | with_reducible apply State.wr_keeps
    | fail_if_no_progress with_reducible apply keeps_mk (s := _)
    | fail_if_no_progress beta_reduce
    | split

theorem execInputMeasurement_keeps {a0 : BitVec 16} {a1 : BitVec 16} {a2 : ℕ} {s : State} {t : State} (h : execInputMeasurement a0 a1 a2 s = .next t) : Keeps s t := by
  unfold execInputMeasurement at h; refine keeps_next h ?_; have h0 := Keeps.refl s
  repeat' first
    | with_reducible assumption
    | with_reducible refine State.onlyIf_keeps ?_ (fun x_ k => ?_)
    | with_reducible apply State.wr_keeps

theorem execHvaRise_keeps {a0 : Bool} {s : State} {t : State} (h : execHvaRise a0 s = .next t) : Keeps s t := by
  unfold execHvaRise at h; refine keeps_next h ?_; have h0 := Keeps.refl s
  repeat' first
    | with_reducible assumption
    | with_reducible apply State.wr_keeps
    | with_reducible apply State.supplyRise_keeps
    | with_reducible apply State.pickSource_keeps
    | with_reducible refine State.onlyIf_keeps ?_ (fun x_ k => ?_)
    | with_reducible apply State.wakeEvent_keeps
    | with_reducible apply keeps_ite

theorem execShdn_keeps {a0 : Master} {s : State} {t : State} (h : execShdn a0 s = .next t) : Keeps s t := by
  unfold execShdn at h; refine keeps_next h ?_; have h0 := Keeps.refl s
  repeat' first
    | with_reducible assumption
    | with_reducible refine State.winWrite_keeps ?_ (fun x_ k => ?_)
    | with_reducible apply State.shutdown_keeps

theorem execSelftestGroupDone_keeps {a0 : StResult} {s : State} {t : State} (h : execSelftestGroupDone a0 s = .next t) : Keeps s t := by
  unfold execSelftestGroupDone at h; refine keeps_next h ?_; have h0 := Keeps.refl s
  repeat' first
    | with_reducible assumption
    | with_reducible refine State.onlyIf_keeps ?_ (fun x_ k => ?_)
    | with_reducible apply State.testFree_keeps
    | with_reducible apply State.groupDone_keeps
    | with_reducible apply State.testHold_keeps
    | with_reducible apply State.shutdownEnd_keeps
    | with_reducible apply State.testRecord_keeps
    | with_reducible apply keeps_ite

theorem execCapClr_keeps {a0 : Master} {s : State} {t : State} (h : execCapClr a0 s = .next t) : Keeps s t := by
  unfold execCapClr at h; refine keeps_next h ?_; have h0 := Keeps.refl s
  repeat' first
    | with_reducible assumption
    | with_reducible refine State.winWrite_keeps ?_ (fun x_ k => ?_)
    | with_reducible apply State.capClear_keeps

theorem execPrefWrite_keeps {a0 : Master} {a1 : Bool} {s : State} {t : State} (h : execPrefWrite a0 a1 s = .next t) : Keeps s t := by
  unfold execPrefWrite at h; refine keeps_next h ?_; have h0 := Keeps.refl s
  repeat' first
    | with_reducible assumption
    | with_reducible refine State.winWrite_keeps ?_ (fun x_ k => ?_)
    | with_reducible apply State.prefWrite_keeps

theorem execIslandPowerDown_keeps {a0 : Master} {a1 : Fin 39} {a2 : Bool} {s : State} {t : State} (h : execIslandPowerDown a0 a1 a2 s = .next t) : Keeps s t := by
  unfold execIslandPowerDown at h; refine keeps_next h ?_; have h0 := Keeps.refl s
  repeat' first
    | with_reducible assumption
    | with_reducible refine State.winWrite_keeps ?_ (fun x_ k => ?_)
    | with_reducible apply State.powerDown_keeps

theorem execClayColdStart_keeps {s : State} {t : State} (h : execClayColdStart s = .next t) : Keeps s t := by
  unfold execClayColdStart at h; refine keeps_next h ?_; have h0 := Keeps.refl s
  repeat' first
    | with_reducible assumption
    | with_reducible apply State.coldStart_keeps

theorem execHvaFall_keeps {a0 : BitVec 16} {s : State} {t : State} (h : execHvaFall a0 s = .next t) : Keeps s t := by
  unfold execHvaFall at h; refine keeps_next h ?_; have h0 := Keeps.refl s
  repeat' first
    | with_reducible assumption
    | with_reducible apply State.flag_keeps
    | with_reducible apply State.wr_keeps
    | with_reducible apply State.supplyFall_keeps
    | with_reducible apply keeps_ite

theorem execMonSample_keeps {a0 : Fin 16} {a1 : ℤ} {s : State} {t : State} (h : execMonSample a0 a1 s = .next t) : Keeps s t := by
  unfold execMonSample at h; refine keeps_next h ?_; have h0 := Keeps.refl s
  repeat' first
    | with_reducible assumption
    | with_reducible refine State.onlyIf_keeps ?_ (fun x_ k => ?_)
    | with_reducible apply State.monValue_keeps

theorem execMonEvent_keeps {a0 : List (Fin 256)} {a1 : ℕ} {s : State} {t : State} (h : execMonEvent a0 a1 s = .next t) : Keeps s t := by
  unfold execMonEvent at h; refine keeps_next h ?_; have h0 := Keeps.refl s
  repeat' first
    | with_reducible assumption
    | with_reducible refine State.onlyIf_keeps ?_ (fun x_ k => ?_)
    | with_reducible apply State.monEvents_keeps

theorem execMonEnable_keeps {a0 : Master} {a1 : Fin 16} {s : State} {t : State} (h : execMonEnable a0 a1 s = .next t) : Keeps s t := by
  unfold execMonEnable at h; refine keeps_next h ?_; have h0 := Keeps.refl s
  repeat' first
    | with_reducible assumption
    | with_reducible refine State.winWrite_keeps ?_ (fun x_ k => ?_)
    | with_reducible apply State.monEn_keeps

theorem execMonSwev_keeps {a0 : Master} {a1 : BitVec 8} {a2 : ℕ} {s : State} {t : State} (h : execMonSwev a0 a1 a2 s = .next t) : Keeps s t := by
  unfold execMonSwev at h; refine keeps_next h ?_; have h0 := Keeps.refl s
  repeat' first
    | with_reducible assumption
    | with_reducible refine State.winWrite_keeps ?_ (fun x_ k => ?_)
    | with_reducible apply State.monEvents_keeps

theorem execMonClr_keeps {a0 : Master} {a1 : Fin 16} {s : State} {t : State} (h : execMonClr a0 a1 s = .next t) : Keeps s t := by
  unfold execMonClr at h; refine keeps_next h ?_; have h0 := Keeps.refl s
  repeat' first
    | with_reducible assumption
    | with_reducible refine State.winWrite_keeps ?_ (fun x_ k => ?_)
    | with_reducible apply State.monClear_keeps

theorem execRwiWrite_keeps {a0 : Master} {a1 : BitVec 32} {a2 : BitVec 32} {a3 : BusEnv} {s : State} {t : State} (h : execRwiWrite a0 a1 a2 a3 s = .next t) : Keeps s t := by
  unfold execRwiWrite at h; refine keeps_next h ?_; have h0 := Keeps.refl s
  repeat' first
    | with_reducible assumption
    | with_reducible apply State.busStore_keeps
    | with_reducible apply keeps_ite

theorem execWideLowWrite_keeps {a0 : Master} {a1 : BitVec 32} {a2 : BitVec 32} {a3 : BusEnv} {s : State} {t : State} (h : execWideLowWrite a0 a1 a2 a3 s = .next t) : Keeps s t := by
  unfold execWideLowWrite at h; refine keeps_next h ?_; have h0 := Keeps.refl s
  repeat' first
    | with_reducible assumption
    | with_reducible apply State.busStore_keeps
    | with_reducible apply keeps_ite

theorem execMemorySlotWrite_keeps {a0 : Master} {a1 : Size} {a2 : BitVec 32} {a3 : BitVec 32} {a4 : BusEnv} {s : State} {t : State} (h : execMemorySlotWrite a0 a1 a2 a3 a4 s = .next t) : Keeps s t := by
  unfold execMemorySlotWrite at h; refine keeps_next h ?_; have h0 := Keeps.refl s
  repeat' first
    | with_reducible assumption
    | with_reducible apply State.busStore_keeps
    | with_reducible apply keeps_ite

theorem execRegisterWrite_keeps {a0 : Master} {a1 : Size} {a2 : BitVec 32} {a3 : BitVec 32} {a4 : BusEnv} {s : State} {t : State} (h : execRegisterWrite a0 a1 a2 a3 a4 s = .next t) : Keeps s t := by
  unfold execRegisterWrite at h; refine keeps_next h ?_; have h0 := Keeps.refl s
  repeat' first
    | with_reducible assumption
    | with_reducible apply State.busStore_keeps

theorem execWideLowRead_keeps {a0 : Master} {a1 : BitVec 32} {s : State} {t : State} (h : execWideLowRead a0 a1 s = .next t) : Keeps s t := by
  unfold execWideLowRead at h; refine keeps_next h ?_; have h0 := Keeps.refl s
  repeat' first
    | with_reducible assumption
    | with_reducible apply State.busLoad_keeps
    | with_reducible apply keeps_ite

theorem execWideUpperWrite_keeps {a0 : Master} {a1 : BitVec 32} {a2 : BitVec 32} {a3 : BusEnv} {s : State} {t : State} (h : execWideUpperWrite a0 a1 a2 a3 s = .next t) : Keeps s t := by
  unfold execWideUpperWrite at h; refine keeps_next h ?_; have h0 := Keeps.refl s
  repeat' first
    | with_reducible assumption
    | with_reducible apply State.busStore_keeps
    | with_reducible apply keeps_ite

theorem execMarkApply_keeps {s : State} {t : State} (h : execMarkApply s = .next t) : Keeps s t := by
  unfold execMarkApply at h; refine keeps_next h ?_; have h0 := Keeps.refl s
  repeat' first
    | with_reducible assumption
    | with_reducible apply State.chUseMark_keeps
    | with_reducible apply keeps_ite
    | fail_if_no_progress beta_reduce
    | split

theorem execMarkMissing_keeps {s : State} {t : State} (h : execMarkMissing s = .next t) : Keeps s t := by
  unfold execMarkMissing at h; refine keeps_next h ?_; have h0 := Keeps.refl s
  repeat' first
    | with_reducible assumption
    | with_reducible apply State.chMarkBad_keeps
    | with_reducible refine State.onlyIf_keeps ?_ (fun x_ k => ?_)
    | with_reducible apply State.wr_keeps
    | with_reducible apply keeps_ite
    | fail_if_no_progress with_reducible apply keeps_mk (s := _)

theorem execChainResetApply_keeps {s : State} {t : State} (h : execChainResetApply s = .next t) : Keeps s t := by
  unfold execChainResetApply at h; refine keeps_next h ?_; have h0 := Keeps.refl s
  repeat' first
    | with_reducible assumption
    | with_reducible apply State.mReset_keeps
    | with_reducible apply keeps_ite
    | fail_if_no_progress beta_reduce
    | split

theorem execChMark_keeps {a0 : Fin 2} {a1 : BitVec 64} {a2 : BitVec 32} {a3 : BitVec 8} {a4 : Bool} {a5 : Bool} {a6 : Fin 64} {a7 : ℕ} {s : State} {t : State} (h : execChMark a0 a1 a2 a3 a4 a5 a6 a7 s = .next t) : Keeps s t := by
  unfold execChMark at h; refine keeps_next h ?_; have h0 := Keeps.refl s
  repeat' first
    | with_reducible assumption
    | with_reducible apply State.chTakeMark_keeps
    | with_reducible apply State.chEmit_keeps
    | with_reducible apply keeps_ite

theorem execMarkEmit_keeps {s : State} {t : State} (h : execMarkEmit s = .next t) : Keeps s t := by
  unfold execMarkEmit at h; refine keeps_next h ?_; have h0 := Keeps.refl s
  repeat' first
    | with_reducible assumption
    | with_reducible apply State.chEmit_keeps
    | with_reducible apply keeps_ite
    | fail_if_no_progress with_reducible apply keeps_mk (s := _)

theorem execMcApply_keeps {s : State} {t : State} (h : execMcApply s = .next t) : Keeps s t := by
  unfold execMcApply at h; refine keeps_next h ?_; have h0 := Keeps.refl s
  repeat' first
    | with_reducible assumption
    | with_reducible apply State.mcApply_keeps
    | with_reducible apply keeps_ite

theorem execHpUnknownCommand_keeps {a0 : Fin 2} {s : State} {t : State} (h : execHpUnknownCommand a0 s = .next t) : Keeps s t := by
  unfold execHpUnknownCommand at h; refine keeps_next h ?_; have h0 := Keeps.refl s
  repeat' first
    | with_reducible assumption
    | with_reducible apply State.flag_keeps
    | with_reducible apply State.hpBegin_keeps
    | with_reducible apply keeps_ite

theorem execHpRd_keeps {a0 : Fin 2} {a1 : BitVec 32} {a2 : BusEnv} {s : State} {t : State} (h : execHpRd a0 a1 a2 s = .next t) : Keeps s t := by
  unfold execHpRd at h; refine keeps_next h ?_; have h0 := Keeps.refl s
  repeat' first
    | with_reducible assumption
    | with_reducible apply State.hpRead_keeps
    | with_reducible apply keeps_ite

theorem execHpRst_keeps {a0 : Fin 2} {s : State} {t : State} (h : execHpRst a0 s = .next t) : Keeps s t := by
  unfold execHpRst at h; refine keeps_next h ?_; have h0 := Keeps.refl s
  repeat' first
    | with_reducible assumption
    | with_reducible apply State.advanceEpoch_keeps
    | with_reducible apply State.hpClear_keeps
    | with_reducible apply State.flag_keeps
    | with_reducible apply State.hpBegin_keeps
    | with_reducible apply keeps_ite

theorem execHpAbandon_keeps {a0 : Fin 2} {a1 : BitVec 32} {a2 : Option (BitVec 8)} {a3 : List (BitVec 32)} {a4 : BusEnv} {s : State} {t : State} (h : execHpAbandon a0 a1 a2 a3 a4 s = .next t) : Keeps s t := by
  unfold execHpAbandon at h; refine keeps_next h ?_; have h0 := Keeps.refl s
  repeat' first
    | with_reducible assumption
    | with_reducible apply State.flag_keeps
    | with_reducible apply State.hpBegin_keeps
    | with_reducible apply State.hpOut_keeps
    | with_reducible apply State.hpRead_keeps
    | with_reducible apply State.hpTake_keeps
    | with_reducible apply keeps_ite
    | fail_if_no_progress beta_reduce
    | split

theorem execHpWriteIssue_keeps {a0 : Fin 2} {a1 : BusEnv} {s : State} {t : State} (h : execHpWriteIssue a0 a1 s = .next t) : Keeps s t := by
  unfold execHpWriteIssue at h; refine keeps_next h ?_; have h0 := Keeps.refl s
  repeat' first
    | with_reducible assumption
    | with_reducible apply State.hpIssue_keeps
    | with_reducible apply keeps_ite

theorem execHpRsten_keeps {a0 : Fin 2} {s : State} {t : State} (h : execHpRsten a0 s = .next t) : Keeps s t := by
  unfold execHpRsten at h; refine keeps_next h ?_; have h0 := Keeps.refl s
  repeat' first
    | with_reducible assumption
    | with_reducible apply State.setHp_keeps
    | with_reducible apply State.hpBegin_keeps
    | with_reducible apply keeps_ite

theorem execHpWr_keeps {a0 : Fin 2} {a1 : BitVec 32} {a2 : List (BitVec 32)} {s : State} {t : State} (h : execHpWr a0 a1 a2 s = .next t) : Keeps s t := by
  unfold execHpWr at h; refine keeps_next h ?_; have h0 := Keeps.refl s
  repeat' first
    | with_reducible assumption
    | with_reducible apply State.hpTake_keeps
    | with_reducible apply State.hpBegin_keeps
    | with_reducible apply keeps_ite

theorem execHpRdn_keeps {a0 : Fin 2} {a1 : BitVec 32} {a2 : BitVec 8} {a3 : BusEnv} {s : State} {t : State} (h : execHpRdn a0 a1 a2 a3 s = .next t) : Keeps s t := by
  unfold execHpRdn at h; refine keeps_next h ?_; have h0 := Keeps.refl s
  repeat' first
    | with_reducible assumption
    | with_reducible apply State.flag_keeps
    | with_reducible apply State.hpBegin_keeps
    | with_reducible apply State.hpRead_keeps
    | with_reducible apply keeps_ite

theorem execHpRdsr_keeps {a0 : Fin 2} {s : State} {t : State} (h : execHpRdsr a0 s = .next t) : Keeps s t := by
  unfold execHpRdsr at h; refine keeps_next h ?_; have h0 := Keeps.refl s
  repeat' first
    | with_reducible assumption
    | with_reducible apply State.hpOut_keeps
    | with_reducible apply State.hpBegin_keeps
    | with_reducible apply keeps_ite

theorem execVoteItem_keeps {a0 : BitVec 32} {a1 : Option Item} {a2 : Option Item} {a3 : Option Item} {a4 : BusEnv} {s : State} {t : State} (h : execVoteItem a0 a1 a2 a3 a4 s = .next t) : Keeps s t := by
  unfold execVoteItem at h; refine keeps_next h ?_; have h0 := Keeps.refl s
  repeat' first
    | with_reducible assumption
    | with_reducible refine State.onlyIf_keeps ?_ (fun x_ k => ?_)
    | with_reducible apply State.wr_keeps
    | with_reducible apply State.vote_keeps
    | with_reducible apply State.unvoted_keeps
    | with_reducible apply keeps_ite

end Sys2Proof.Machine
end

