-- ==== Sys2Proof/WellFormed.lean ====
section
/-! DEFINITION. Which commands are well formed: the limits that the types of their operands do not already hold. A command that is not
well formed names no access, frame or measurement that the module can meet. -/

namespace Sys2Proof

open Sys2Proof.Machine

/-- Bytes of an access size. -/
def accessBytes (size : Size) : Nat :=
  match size with
  | .b8 => 1
  | .b16 => 2
  | .b32 => 4

/-- Payload bytes of a data length code; a classic frame carries 8 at most (R361). -/
def payloadBytes (dlc : Nat) (fd : Bool) : Nat :=
  if dlc ≤ 8 then dlc else if fd then [12, 16, 20, 24, 32, 48, 64].getD (dlc - 9) 64 else 8

/-- Does each key stand once? -/
def keysOnce (l : List Nat) : Bool := decide l.Nodup

/-- Do the operands carry limits beyond those of their types? -/
def Instr.limited (i : Instr) : Bool :=
  match i with
  | .registerWrite .. | .wideLowRead .. | .wideUpperWrite .. | .wideLowWrite .. | .memorySlotWrite .. | .rwiWrite .. => true
  | .semAcq .. | .hpWr .. | .canFrameRx .. | .scrubPass .. | .agingRead .. | .runHouse .. | .monEvent .. => true
  | _ => false

/-- A command is well formed: an access is aligned for its size (R8), a contention names each master once, a write of a host port brings
words, a frame carries the bytes of its data length code, and a list of readings names each sensor, address or event once. -/
def Instr.wellFormed (i : Instr) : Bool :=
  match i with
  | .registerWrite _ size addr _ _ => addr.toNat % accessBytes size == 0
  | .memorySlotWrite _ size addr _ _ => addr.toNat % accessBytes size == 0
  | .wideLowRead _ addr => addr.toNat % 4 == 0
  | .wideUpperWrite _ addr _ _ => addr.toNat % 4 == 0
  | .wideLowWrite _ addr _ _ => addr.toNat % 4 == 0
  | .rwiWrite _ addr _ _ => addr.toNat % 4 == 0
  | .semAcq _ ms => !ms.isEmpty && decide ms.Nodup
  | .hpWr _ _ ws => !ws.isEmpty
  | .canFrameRx _ _ dlc fd _ _ data _ _ => data.length == payloadBytes dlc.val fd
  | .scrubPass _ dbe => keysOnce (dbe.map (·.val))
  | .agingRead ages => keysOnce (ages.map (·.1.val))
  | .runHouse ages => keysOnce (ages.map (·.1.val))
  | .monEvent codes _ => keysOnce (codes.map (·.val))
  | _ => true

end Sys2Proof
end

