-- ==== Sys2Proof/Laws/PerInstr.lean ====
section
/-! SUPPORT. The family F, for every constructor: a command whose operands carry no limits beyond their types is well formed. -/

namespace Sys2Proof.Laws

open Sys2Proof.Machine

/-- A command whose operands carry no limit beyond their types is well formed. -/
def F.Statement (i : Instr) : Prop := i.limited = false → i.wellFormed = true

theorem F.registerWrite (m : Master) (size : Size) (addr : BitVec 32) (data : BitVec 32) (env : BusEnv) : F.Statement (.registerWrite m size addr data env) := fun h => Bool.noConfusion h
theorem F.wideLowRead (m : Master) (addr : BitVec 32) : F.Statement (.wideLowRead m addr) := fun h => Bool.noConfusion h
theorem F.wideUpperWrite (m : Master) (addr : BitVec 32) (data : BitVec 32) (env : BusEnv) : F.Statement (.wideUpperWrite m addr data env) := fun h => Bool.noConfusion h
theorem F.wideLowWrite (m : Master) (addr : BitVec 32) (data : BitVec 32) (env : BusEnv) : F.Statement (.wideLowWrite m addr data env) := fun h => Bool.noConfusion h
theorem F.basicCommit (m : Master) (blk : Fin 17) : F.Statement (.basicCommit m blk) := fun _ => rfl
theorem F.basicCommitDone (blk : Fin 17) : F.Statement (.basicCommitDone blk) := fun _ => rfl
theorem F.memorySlotWrite (m : Master) (size : Size) (addr : BitVec 32) (data : BitVec 32) (env : BusEnv) : F.Statement (.memorySlotWrite m size addr data env) := fun h => Bool.noConfusion h
theorem F.dieLinkLoss (link : DieLink) : F.Statement (.dieLinkLoss link) := fun _ => rfl
theorem F.crossingTimeout (m : Master) (isl : Fin 39) (addr : BitVec 32) : F.Statement (.crossingTimeout m isl addr) := fun _ => rfl
theorem F.islandClockLost (isl : Fin 37) : F.Statement (.islandClockLost isl) := fun _ => rfl
theorem F.railFault (set : RailSet) : F.Statement (.railFault set) := fun _ => rfl
theorem F.powerGood (set : RailSet) : F.Statement (.powerGood set) := fun _ => rfl
theorem F.eccSingleBit (addr : BitVec 32) : F.Statement (.eccSingleBit addr) := fun _ => rfl
theorem F.eccDoubleBit (m : Master) (addr : BitVec 32) : F.Statement (.eccDoubleBit m addr) := fun _ => rfl
theorem F.unitRuntimeFault (id : Fin 4096) : F.Statement (.unitRuntimeFault id) := fun _ => rfl
theorem F.powerOnReset : F.Statement .powerOnReset := fun _ => rfl
theorem F.moduleReset : F.Statement .moduleReset := fun _ => rfl
theorem F.startSequence (bootsel : Bool) (bands : List (BitVec 32)) (trims : List (BitVec 32)) : F.Statement (.startSequence bootsel bands trims) := fun _ => rfl
theorem F.imgLoad (m : Master) (slot : Fin 2) : F.Statement (.imgLoad m slot) := fun _ => rfl
theorem F.loadDone : F.Statement .loadDone := fun _ => rfl
theorem F.imgLockKey (m : Master) (key : BitVec 16) : F.Statement (.imgLockKey m key) := fun _ => rfl
theorem F.imgLockClose (m : Master) (key : BitVec 16) : F.Statement (.imgLockClose m key) := fun _ => rfl
theorem F.rwiWrite (m : Master) (addr : BitVec 32) (data : BitVec 32) (env : BusEnv) : F.Statement (.rwiWrite m addr data env) := fun h => Bool.noConfusion h
theorem F.stageEnable (m : Master) (n : Fin 8) : F.Statement (.stageEnable m n) := fun _ => rfl
theorem F.stageDisable (m : Master) (n : Fin 8) : F.Statement (.stageDisable m n) := fun _ => rfl
theorem F.tbRun (m : Master) (n : Fin 8) : F.Statement (.tbRun m n) := fun _ => rfl
theorem F.tbgStart (m : Master) (mask : BitVec 8) : F.Statement (.tbgStart m mask) := fun _ => rfl
theorem F.tbStop (m : Master) (n : Fin 8) : F.Statement (.tbStop m n) := fun _ => rfl
theorem F.swsync (m : Master) (n : Fin 8) : F.Statement (.swsync m n) := fun _ => rfl
theorem F.syncLoad (n : Fin 8) : F.Statement (.syncLoad n) := fun _ => rfl
theorem F.zro (n : Fin 8) : F.Statement (.zro n) := fun _ => rfl
theorem F.prd (n : Fin 8) : F.Statement (.prd n) := fun _ => rfl
theorem F.compareMatch (leg : Fin 24) (cmp : Cmp) (fine : Fin 128) : F.Statement (.compareMatch leg cmp fine) := fun _ => rfl
theorem F.triggerPulse (leg : Fin 24) (k : Fin 4) : F.Statement (.triggerPulse leg k) := fun _ => rfl
theorem F.shadowTransfer (n : Fin 8) : F.Statement (.shadowTransfer n) := fun _ => rfl
theorem F.ladderCalUpdate (leg : Fin 24) (lad : Fin 3) (up : Bool) : F.Statement (.ladderCalUpdate leg lad up) := fun _ => rfl
theorem F.ladderCalLimit (leg : Fin 24) (lad : Fin 3) : F.Statement (.ladderCalLimit leg lad) := fun _ => rfl
theorem F.ladderLock (leg : Fin 24) (lad : Fin 3) : F.Statement (.ladderLock leg lad) := fun _ => rfl
theorem F.outmodeApply (leg : Fin 24) : F.Statement (.outmodeApply leg) := fun _ => rfl
theorem F.deadtimeExpiry (leg : Fin 24) : F.Statement (.deadtimeExpiry leg) := fun _ => rfl
theorem F.heldEdgeExecute (leg : Fin 24) : F.Statement (.heldEdgeExecute leg) := fun _ => rfl
theorem F.swnAccept (leg : Fin 24) (level : Bool) (fine : Fin 128) : F.Statement (.swnAccept leg level fine) := fun _ => rfl
theorem F.swnWindowExpiry (leg : Fin 24) : F.Statement (.swnWindowExpiry leg) := fun _ => rfl
theorem F.adtEnable (m : Master) (leg : Fin 24) : F.Statement (.adtEnable m leg) := fun _ => rfl
theorem F.adtFailClear (m : Master) (leg : Fin 24) : F.Statement (.adtFailClear m leg) := fun _ => rfl
theorem F.adtTrimWrite (m : Master) (leg : Fin 24) (rise : BitVec 16) (fall : BitVec 16) : F.Statement (.adtTrimWrite m leg rise fall) := fun _ => rfl
theorem F.padMismatch (leg : Fin 24) (side : Side) : F.Statement (.padMismatch leg side) := fun _ => rfl
theorem F.comparatorCrossing (cmp : Fin 96) (uv : Nat) : F.Statement (.comparatorCrossing cmp uv) := fun _ => rfl
theorem F.tripinChange (land : Fin 16) (high : Bool) : F.Statement (.tripinChange land high) := fun _ => rfl
theorem F.ascDtExpiry (stage : Fin 8) : F.Statement (.ascDtExpiry stage) := fun _ => rfl
theorem F.swtrip (m : Master) (stage : Fin 8) (on : Bool) : F.Statement (.swtrip m stage on) := fun _ => rfl
theorem F.tripClear (m : Master) (stage : Fin 8) (source : Option (Fin 4096)) : F.Statement (.tripClear m stage source) := fun _ => rfl
theorem F.armedStale : F.Statement .armedStale := fun _ => rfl
theorem F.chopFaultClear (m : Master) (stage : Fin 8) : F.Statement (.chopFaultClear m stage) := fun _ => rfl
theorem F.seqEnable (m : Master) (j : Fin 4) : F.Statement (.seqEnable m j) := fun _ => rfl
theorem F.seqDisable (m : Master) (j : Fin 4) : F.Statement (.seqDisable m j) := fun _ => rfl
theorem F.seqStart (j : Fin 4) : F.Statement (.seqStart j) := fun _ => rfl
theorem F.seqSwstart (m : Master) (j : Fin 4) : F.Statement (.seqSwstart m j) := fun _ => rfl
theorem F.seqGroupIssue (j : Fin 4) : F.Statement (.seqGroupIssue j) := fun _ => rfl
theorem F.adcEoc (adc : Fin 32) : F.Statement (.adcEoc adc) := fun _ => rfl
theorem F.injEnable (m : Master) (adc : Fin 32) (slot : Fin 2) : F.Statement (.injEnable m adc slot) := fun _ => rfl
theorem F.injTrigger (adc : Fin 32) (slot : Fin 2) : F.Statement (.injTrigger adc slot) := fun _ => rfl
theorem F.swtrig (m : Master) (adc : Fin 32) (slot : Fin 2) : F.Statement (.swtrig m adc slot) := fun _ => rfl
theorem F.injSlotStart (adc : Fin 32) (slot : Fin 2) : F.Statement (.injSlotStart adc slot) := fun _ => rfl
theorem F.calStart (m : Master) (adc : Fin 32) : F.Statement (.calStart m adc) := fun _ => rfl
theorem F.adcCalBegin (adc : Fin 32) : F.Statement (.adcCalBegin adc) := fun _ => rfl
theorem F.adcCalDone (adc : Fin 32) (lo : Nat) (hi : Nat) : F.Statement (.adcCalDone adc lo hi) := fun _ => rfl
theorem F.ilArm (m : Master) (k : Fin 16) : F.Statement (.ilArm m k) := fun _ => rfl
theorem F.pairBurstTrigger (k : Fin 16) : F.Statement (.pairBurstTrigger k) := fun _ => rfl
theorem F.pairSwstart (m : Master) (k : Fin 16) : F.Statement (.pairSwstart m k) := fun _ => rfl
theorem F.pairBurstDone (k : Fin 16) : F.Statement (.pairBurstDone k) := fun _ => rfl
theorem F.pairCal (m : Master) (k : Fin 16) : F.Statement (.pairCal m k) := fun _ => rfl
theorem F.pairCalBegin (k : Fin 16) : F.Statement (.pairCalBegin k) := fun _ => rfl
theorem F.pairCalDone (k : Fin 16) (eLo : Nat) (eHi : Nat) (oLo : Nat) (oHi : Nat) (ramp : List Int) : F.Statement (.pairCalDone k eLo eHi oLo oHi ramp) := fun _ => rfl
theorem F.isoOutput (ch : Fin 8) (bits : List Bool) : F.Statement (.isoOutput ch bits) := fun _ => rfl
theorem F.isoOverload (ch : Fin 8) : F.Statement (.isoOverload ch) := fun _ => rfl
theorem F.isoEnable (m : Master) (ch : Fin 8) (on : Bool) : F.Statement (.isoEnable m ch on) := fun _ => rfl
theorem F.isoCalStart (m : Master) (ch : Fin 8) : F.Statement (.isoCalStart m ch) := fun _ => rfl
theorem F.isoCalDone (ch : Fin 8) (short : Int) (ref : Int) : F.Statement (.isoCalDone ch short ref) := fun _ => rfl
theorem F.sampleLinkWord : F.Statement .sampleLinkWord := fun _ => rfl
theorem F.lpRouteStart (u : Fin 8) (p : Fin 4) : F.Statement (.lpRouteStart u p) := fun _ => rfl
theorem F.lpRunStart (u : Fin 8) : F.Statement (.lpRunStart u) := fun _ => rfl
theorem F.cedNop (u : Fin 8) : F.Statement (.cedNop u) := fun _ => rfl
theorem F.cedEnd (u : Fin 8) : F.Statement (.cedEnd u) := fun _ => rfl
theorem F.cedMov (u : Fin 8) : F.Statement (.cedMov u) := fun _ => rfl
theorem F.cedLdi (u : Fin 8) : F.Statement (.cedLdi u) := fun _ => rfl
theorem F.cedAdd (u : Fin 8) : F.Statement (.cedAdd u) := fun _ => rfl
theorem F.cedSub (u : Fin 8) : F.Statement (.cedSub u) := fun _ => rfl
theorem F.cedAddw (u : Fin 8) : F.Statement (.cedAddw u) := fun _ => rfl
theorem F.cedMul (u : Fin 8) : F.Statement (.cedMul u) := fun _ => rfl
theorem F.cedMac (u : Fin 8) : F.Statement (.cedMac u) := fun _ => rfl
theorem F.cedMva (u : Fin 8) : F.Statement (.cedMva u) := fun _ => rfl
theorem F.cedClra (u : Fin 8) : F.Statement (.cedClra u) := fun _ => rfl
theorem F.cedNeg (u : Fin 8) : F.Statement (.cedNeg u) := fun _ => rfl
theorem F.cedAbs (u : Fin 8) : F.Statement (.cedAbs u) := fun _ => rfl
theorem F.cedMin (u : Fin 8) : F.Statement (.cedMin u) := fun _ => rfl
theorem F.cedMax (u : Fin 8) : F.Statement (.cedMax u) := fun _ => rfl
theorem F.cedCmp (u : Fin 8) : F.Statement (.cedCmp u) := fun _ => rfl
theorem F.cedTst (u : Fin 8) : F.Statement (.cedTst u) := fun _ => rfl
theorem F.cedSel (u : Fin 8) : F.Statement (.cedSel u) := fun _ => rfl
theorem F.cedDiv (u : Fin 8) : F.Statement (.cedDiv u) := fun _ => rfl
theorem F.cedMag (u : Fin 8) : F.Statement (.cedMag u) := fun _ => rfl
theorem F.cedSincos (u : Fin 8) : F.Statement (.cedSincos u) := fun _ => rfl
theorem F.cedClarke (u : Fin 8) : F.Statement (.cedClarke u) := fun _ => rfl
theorem F.cedIclarke (u : Fin 8) : F.Statement (.cedIclarke u) := fun _ => rfl
theorem F.cedPark (u : Fin 8) : F.Statement (.cedPark u) := fun _ => rfl
theorem F.cedIpark (u : Fin 8) : F.Statement (.cedIpark u) := fun _ => rfl
theorem F.cedPi (u : Fin 8) : F.Statement (.cedPi u) := fun _ => rfl
theorem F.cedPr (u : Fin 8) : F.Statement (.cedPr u) := fun _ => rfl
theorem F.cedSvm (u : Fin 8) : F.Statement (.cedSvm u) := fun _ => rfl
theorem F.cedTlu (u : Fin 8) : F.Statement (.cedTlu u) := fun _ => rfl
theorem F.cedWrl (u : Fin 8) : F.Statement (.cedWrl u) := fun _ => rfl
theorem F.cedReq (u : Fin 8) : F.Statement (.cedReq u) := fun _ => rfl
theorem F.cedOut (u : Fin 8) : F.Statement (.cedOut u) := fun _ => rfl
theorem F.wrlCapture (u : Fin 8) : F.Statement (.wrlCapture u) := fun _ => rfl
theorem F.reqPulse (u : Fin 8) : F.Statement (.reqPulse u) := fun _ => rfl
theorem F.lpPen (m : Master) (u : Fin 8) (p : Fin 4) : F.Statement (.lpPen m u p) := fun _ => rfl
theorem F.lpValidationDone (u : Fin 8) : F.Statement (.lpValidationDone u) := fun _ => rfl
theorem F.lpDisable (m : Master) (u : Fin 8) (p : Fin 4) : F.Statement (.lpDisable m u p) := fun _ => rfl
theorem F.swapReq (m : Master) (u : Fin 8) : F.Statement (.swapReq m u) := fun _ => rfl
theorem F.blkClr (m : Master) (u : Fin 8) (b : Fin 16) : F.Statement (.blkClr m u b) := fun _ => rfl
theorem F.fcEnable (m : Master) (n : Fin 8) : F.Statement (.fcEnable m n) := fun _ => rfl
theorem F.fcDisable (m : Master) (n : Fin 8) : F.Statement (.fcDisable m n) := fun _ => rfl
theorem F.fcStart (m : Master) (n : Fin 8) : F.Statement (.fcStart m n) := fun _ => rfl
theorem F.fcStop (m : Master) (n : Fin 8) : F.Statement (.fcStop m n) := fun _ => rfl
theorem F.probePulseEnd (n : Fin 8) : F.Statement (.probePulseEnd n) := fun _ => rfl
theorem F.alignExpiry (n : Fin 8) : F.Statement (.alignExpiry n) := fun _ => rfl
theorem F.rampStep (n : Fin 8) : F.Statement (.rampStep n) := fun _ => rfl
theorem F.rampTimeout (n : Fin 8) : F.Statement (.rampTimeout n) := fun _ => rfl
theorem F.retryWaitExpiry (n : Fin 8) : F.Statement (.retryWaitExpiry n) := fun _ => rfl
theorem F.sineFillDone : F.Statement .sineFillDone := fun _ => rfl
theorem F.fcTblData (m : Master) (wr : Bool) (data : BitVec 32) : F.Statement (.fcTblData m wr data) := fun _ => rfl
theorem F.offsStore (m : Master) (n : Fin 8) : F.Statement (.offsStore m n) := fun _ => rfl
theorem F.posInputAccept (n : Fin 4) (lv : BitVec 7) : F.Statement (.posInputAccept n lv) := fun _ => rfl
theorem F.posSpeedEstimate (n : Fin 4) : F.Statement (.posSpeedEstimate n) := fun _ => rfl
theorem F.hallTimeout (n : Fin 4) : F.Statement (.hallTimeout n) := fun _ => rfl
theorem F.posCountWrite (m : Master) (n : Fin 4) (v : BitVec 24) : F.Statement (.posCountWrite m n v) := fun _ => rfl
theorem F.ssiFrameDone (n : Fin 4) (raw : BitVec 32) : F.Statement (.ssiFrameDone n raw) := fun _ => rfl
theorem F.resolverSamplePair (r : Fin 2) (negPeak : Bool) (nvS : Int) (nvC : Int) : F.Statement (.resolverSamplePair r negPeak nvS nvC) := fun _ => rfl
theorem F.excFault (r : Fin 2) : F.Statement (.excFault r) := fun _ => rfl
theorem F.posEnable (m : Master) (n : Fin 4) (on : Bool) : F.Statement (.posEnable m n on) := fun _ => rfl
theorem F.rsEnable (m : Master) (r : Fin 2) (on : Bool) : F.Statement (.rsEnable m r on) := fun _ => rfl
theorem F.posFaultClear (m : Master) (n : Fin 4) : F.Statement (.posFaultClear m n) := fun _ => rfl
theorem F.rsFaultClear (m : Master) (r : Fin 2) : F.Statement (.rsFaultClear m r) := fun _ => rfl
theorem F.emuEnable (m : Master) (e : Fin 4) (on : Bool) : F.Statement (.emuEnable m e on) := fun _ => rfl
theorem F.emuStep (e : Fin 4) : F.Statement (.emuStep e) := fun _ => rfl
theorem F.rowanRefresh : F.Statement .rowanRefresh := fun _ => rfl
theorem F.tqPerm (k : Fin 4) : F.Statement (.tqPerm k) := fun _ => rfl
theorem F.disch (k : Fin 4) : F.Statement (.disch k) := fun _ => rfl
theorem F.safeState (k : Fin 4) : F.Statement (.safeState k) := fun _ => rfl
theorem F.release (k : Fin 4) : F.Statement (.release k) := fun _ => rfl
theorem F.rowanFault : F.Statement .rowanFault := fun _ => rfl
theorem F.lvLost : F.Statement .lvLost := fun _ => rfl
theorem F.cpxLost : F.Statement .cpxLost := fun _ => rfl
theorem F.voteItem (pc : BitVec 32) (a : Option Item) (e : Option Item) (o : Option Item) (env : BusEnv) : F.Statement (.voteItem pc a e o env) := fun _ => rfl
theorem F.syncPoint (sa : BitVec 32) (se : BitVec 32) (so : BitVec 32) : F.Statement (.syncPoint sa se so) := fun _ => rfl
theorem F.outvoteWindowExpiry (core : Fin 3) : F.Statement (.outvoteWindowExpiry core) := fun _ => rfl
theorem F.yewFillDone : F.Statement .yewFillDone := fun _ => rfl
theorem F.pairTestDone (pass : BitVec 4) : F.Statement (.pairTestDone pass) := fun _ => rfl
theorem F.checkerTest (r : Fin 4) : F.Statement (.checkerTest r) := fun _ => rfl
theorem F.cpxReportSend : F.Statement .cpxReportSend := fun _ => rfl
theorem F.cpxSplit (m : Master) : F.Statement (.cpxSplit m) := fun _ => rfl
theorem F.joinRdy (m : Master) : F.Statement (.joinRdy m) := fun _ => rfl
theorem F.cpxJoin (m : Master) : F.Statement (.cpxJoin m) := fun _ => rfl
theorem F.joinFillDone : F.Statement .joinFillDone := fun _ => rfl
theorem F.crst (m : Master) (core : Fin 3) : F.Statement (.crst m core) := fun _ => rfl
theorem F.cpxPause (m : Master) : F.Statement (.cpxPause m) := fun _ => rfl
theorem F.cpxResume (m : Master) : F.Statement (.cpxResume m) := fun _ => rfl
theorem F.cpxInjGo (m : Master) (core : Fin 4) (bit : Fin 32) : F.Statement (.cpxInjGo m core bit) := fun _ => rfl
theorem F.dcinv (core : Fin 3) (addr : BitVec 32) : F.Statement (.dcinv core addr) := fun _ => rfl
theorem F.dcflush (core : Fin 3) (addr : BitVec 32) : F.Statement (.dcflush core addr) := fun _ => rfl
theorem F.dcall (core : Fin 3) (v : BitVec 32) : F.Statement (.dcall core v) := fun _ => rfl
theorem F.mtimeCompare (core : Fin 3) : F.Statement (.mtimeCompare core) := fun _ => rfl
theorem F.irqSource (src : Fin 64) : F.Statement (.irqSource src) := fun _ => rfl
theorem F.mbWrite (m : Master) (n : Fin 64) (w : Fin 17) (v : BitVec 32) (rival : Option (Master × Fin 17 × BitVec 32)) : F.Statement (.mbWrite m n w v rival) := fun _ => rfl
theorem F.mbGo (m : Master) (n : Fin 64) : F.Statement (.mbGo m n) := fun _ => rfl
theorem F.mbRel (m : Master) (n : Fin 64) : F.Statement (.mbRel m n) := fun _ => rfl
theorem F.abortFill (m : Master) (n : Fin 64) : F.Statement (.abortFill m n) := fun _ => rfl
theorem F.mbCfgWrite (m : Master) (n : Fin 64) (rx : Fin 8) (notify : Bool) (db : Fin 32) : F.Statement (.mbCfgWrite m n rx notify db) := fun _ => rfl
theorem F.dbRing (m : Master) (e : Fin 6) (v : BitVec 32) : F.Statement (.dbRing m e v) := fun _ => rfl
theorem F.dbPendClear (m : Master) (e : Fin 6) (v : BitVec 32) (ring : BitVec 32) : F.Statement (.dbPendClear m e v ring) := fun _ => rfl
theorem F.semAcq (n : Fin 64) (ms : List Master) : F.Statement (.semAcq n ms) := fun h => Bool.noConfusion h
theorem F.semRelease (n : Fin 64) (m : Master) : F.Statement (.semRelease n m) := fun _ => rfl
theorem F.hpRd (p : Fin 2) (addr : BitVec 32) (env : BusEnv) : F.Statement (.hpRd p addr env) := fun _ => rfl
theorem F.hpRdn (p : Fin 2) (addr : BitVec 32) (n : BitVec 8) (env : BusEnv) : F.Statement (.hpRdn p addr n env) := fun _ => rfl
theorem F.hpWr (p : Fin 2) (addr : BitVec 32) (ws : List (BitVec 32)) : F.Statement (.hpWr p addr ws) := fun h => Bool.noConfusion h
theorem F.hpRdsr (p : Fin 2) : F.Statement (.hpRdsr p) := fun _ => rfl
theorem F.hpRsten (p : Fin 2) : F.Statement (.hpRsten p) := fun _ => rfl
theorem F.hpRst (p : Fin 2) : F.Statement (.hpRst p) := fun _ => rfl
theorem F.hpWriteIssue (p : Fin 2) (env : BusEnv) : F.Statement (.hpWriteIssue p env) := fun _ => rfl
theorem F.hpAbandon (p : Fin 2) (addr : BitVec 32) (reads : Option (BitVec 8)) (ws : List (BitVec 32)) (env : BusEnv) : F.Statement (.hpAbandon p addr reads ws env) := fun _ => rfl
theorem F.portTrained (p : Fin 2) (delay : Nat) (eq : List (Fin 16 × Fin 16)) : F.Statement (.portTrained p delay eq) := fun _ => rfl
theorem F.trainingRetry (p : Fin 2) : F.Statement (.trainingRetry p) := fun _ => rfl
theorem F.portDown (p : Fin 2) : F.Statement (.portDown p) := fun _ => rfl
theorem F.unwrapTimer (p : Fin 2) : F.Statement (.unwrapTimer p) := fun _ => rfl
theorem F.chUnwrap (p : Fin 2) : F.Statement (.chUnwrap p) := fun _ => rfl
theorem F.laneFail (p : Fin 2) (lane : Fin 3) (errs : BitVec 16) (unlocked : Bool) : F.Statement (.laneFail p lane errs unlocked) := fun _ => rfl
theorem F.chLsw (p : Fin 2) (transmit : Bool) (lane : Fin 2) : F.Statement (.chLsw p transmit lane) := fun _ => rfl
theorem F.chDreq (p : Fin 2) (sub : Fin 64) (far : Option Nat) : F.Statement (.chDreq p sub far) := fun _ => rfl
theorem F.chDrsp (p : Fin 2) (sub : Fin 64) (turn : Nat) : F.Statement (.chDrsp p sub turn) := fun _ => rfl
theorem F.markEmit : F.Statement .markEmit := fun _ => rfl
theorem F.chMark (p : Fin 2) (time : BitVec 64) (corr : BitVec 32) (hops : BitVec 8) (dir : Bool) (first : Bool) (sub : Fin 64) (res : Nat) : F.Statement (.chMark p time corr hops dir first sub res) := fun _ => rfl
theorem F.markApply : F.Statement .markApply := fun _ => rfl
theorem F.chData (p : Fin 2) (f : ChFrame) (first : Bool) : F.Statement (.chData p f first) := fun _ => rfl
theorem F.chTxGo (m : Master) : F.Statement (.chTxGo m) := fun _ => rfl
theorem F.txFrameSend : F.Statement .txFrameSend := fun _ => rfl
theorem F.chEnum (m : Master) (keep : Bool) : F.Statement (.chEnum m keep) := fun _ => rfl
theorem F.chToken (p : Fin 2) (f : ChFrame) (first : Bool) : F.Statement (.chToken p f first) := fun _ => rfl
theorem F.enumRetry : F.Statement .enumRetry := fun _ => rfl
theorem F.censusEmit : F.Statement .censusEmit := fun _ => rfl
theorem F.chCensus (p : Fin 2) (f : ChFrame) (first : Bool) : F.Statement (.chCensus p f first) := fun _ => rfl
theorem F.csyncArm (m : Master) (per : BitVec 24) : F.Statement (.csyncArm m per) := fun _ => rfl
theorem F.carrierSync : F.Statement .carrierSync := fun _ => rfl
theorem F.prepareWrite (m : Master) (id : BitVec 16) : F.Statement (.prepareWrite m id) := fun _ => rfl
theorem F.chPrepare (p : Fin 2) (f : ChFrame) (first : Bool) : F.Statement (.chPrepare p f first) := fun _ => rfl
theorem F.chArmed (p : Fin 2) (f : ChFrame) (first : Bool) : F.Statement (.chArmed p f first) := fun _ => rfl
theorem F.chRefused (p : Fin 2) (f : ChFrame) (first : Bool) : F.Statement (.chRefused p f first) := fun _ => rfl
theorem F.chCommit (p : Fin 2) (f : ChFrame) (first : Bool) : F.Statement (.chCommit p f first) := fun _ => rfl
theorem F.chAbort (p : Fin 2) (f : ChFrame) (first : Bool) : F.Statement (.chAbort p f first) := fun _ => rfl
theorem F.chApplied (p : Fin 2) (f : ChFrame) (first : Bool) : F.Statement (.chApplied p f first) := fun _ => rfl
theorem F.chExpired (p : Fin 2) (f : ChFrame) (first : Bool) : F.Statement (.chExpired p f first) := fun _ => rfl
theorem F.mcArmTimeout : F.Statement .mcArmTimeout := fun _ => rfl
theorem F.mcApply : F.Statement .mcApply := fun _ => rfl
theorem F.mcResultTimeout : F.Statement .mcResultTimeout := fun _ => rfl
theorem F.resetOne (m : Master) (target : Fin 64) : F.Statement (.resetOne m target) := fun _ => rfl
theorem F.resetAll (m : Master) : F.Statement (.resetAll m) := fun _ => rfl
theorem F.chReset (p : Fin 2) (f : ChFrame) (first : Bool) : F.Statement (.chReset p f first) := fun _ => rfl
theorem F.chainResetApply : F.Statement .chainResetApply := fun _ => rfl
theorem F.canRun (m : Master) (n : Fin 6) : F.Statement (.canRun m n) := fun _ => rfl
theorem F.canStop (m : Master) (n : Fin 6) (idle : Bool) : F.Statement (.canStop m n idle) := fun _ => rfl
theorem F.canSyncDone (n : Fin 6) : F.Statement (.canSyncDone n) := fun _ => rfl
theorem F.canTxSelect (n : Fin 6) (start : Bool) : F.Statement (.canTxSelect n start) := fun _ => rfl
theorem F.canTxDone (n : Fin 6) (tdcv : BitVec 7) : F.Statement (.canTxDone n tdcv) := fun _ => rfl
theorem F.canFrameRx (n : Fin 6) (id : BitVec 31) (dlc : Fin 16) (fd : Bool) (brs : Bool) (esi : Bool) (data : List (BitVec 8)) (sof : BitVec 64) (release : BitVec 64) : F.Statement (.canFrameRx n id dlc fd brs esi data sof release) := fun h => Bool.noConfusion h
theorem F.canBusError (n : Fin 6) (kind : Fin 6) (exempt : Bool) (grave : Bool) : F.Statement (.canBusError n kind exempt grave) := fun _ => rfl
theorem F.txreq (m : Master) (n : Fin 6) (w : Fin 2) (v : BitVec 32) (cancel : BitVec 32) : F.Statement (.txreq m n w v cancel) := fun _ => rfl
theorem F.txcan (m : Master) (n : Fin 6) (w : Fin 2) (v : BitVec 32) : F.Statement (.txcan m n w v) := fun _ => rfl
theorem F.rxfullRelease (m : Master) (n : Fin 6) (w : Fin 2) (v : BitVec 32) : F.Statement (.rxfullRelease m n w v) := fun _ => rfl
theorem F.recStart (m : Master) (n : Fin 6) : F.Statement (.recStart m n) := fun _ => rfl
theorem F.canRecoveryDone (n : Fin 6) : F.Statement (.canRecoveryDone n) := fun _ => rfl
theorem F.refLost (src : Fin 3) (e : BitVec 16) : F.Statement (.refLost src e) := fun _ => rfl
theorem F.refValid (src : Fin 3) (e : BitVec 16) : F.Statement (.refValid src e) := fun _ => rfl
theorem F.localSel (m : Master) (v : Fin 4) (e : BitVec 16) : F.Statement (.localSel m v e) := fun _ => rfl
theorem F.pllEnable (m : Master) (k : Fin 3) (on : Bool) : F.Statement (.pllEnable m k on) := fun _ => rfl
theorem F.relock (m : Master) (k : Fin 3) : F.Statement (.relock m k) := fun _ => rfl
theorem F.bandTryTimeout (k : Fin 3) : F.Statement (.bandTryTimeout k) := fun _ => rfl
theorem F.pllLock (k : Fin 3) : F.Statement (.pllLock k) := fun _ => rfl
theorem F.pllUnlock (k : Fin 3) : F.Statement (.pllUnlock k) := fun _ => rfl
theorem F.pllsReturn : F.Statement .pllsReturn := fun _ => rfl
theorem F.slewDone (e : BitVec 16) : F.Statement (.slewDone e) := fun _ => rfl
theorem F.tickStretch (e : BitVec 16) : F.Statement (.tickStretch e) := fun _ => rfl
theorem F.vlvRise : F.Statement .vlvRise := fun _ => rfl
theorem F.vlvFall (ovr : Bool) (vhb : BitVec 16) : F.Statement (.vlvFall ovr vhb) := fun _ => rfl
theorem F.hvaRise (ac : Bool) : F.Statement (.hvaRise ac) := fun _ => rfl
theorem F.hvaFall (vhb : BitVec 16) : F.Statement (.hvaFall vhb) := fun _ => rfl
theorem F.prefWrite (m : Master) (v : Bool) : F.Statement (.prefWrite m v) := fun _ => rfl
theorem F.nreset : F.Statement .nreset := fun _ => rfl
theorem F.shdn (m : Master) : F.Statement (.shdn m) := fun _ => rfl
theorem F.selftestGroupDone (r : StResult) : F.Statement (.selftestGroupDone r) := fun _ => rfl
theorem F.rstReq (m : Master) (isl : Fin 39) : F.Statement (.rstReq m isl) := fun _ => rfl
theorem F.islandResetRelease (isl : Fin 39) : F.Statement (.islandResetRelease isl) := fun _ => rfl
theorem F.islRel (m : Master) (isl : Fin 39) (clk : Bool) : F.Statement (.islRel m isl clk) := fun _ => rfl
theorem F.islandPowerDown (m : Master) (isl : Fin 39) (wake : Bool) : F.Statement (.islandPowerDown m isl wake) := fun _ => rfl
theorem F.islandPowerUp (m : Master) (isl : Fin 39) : F.Statement (.islandPowerUp m isl) := fun _ => rfl
theorem F.islandPowered (isl : Fin 39) : F.Statement (.islandPowered isl) := fun _ => rfl
theorem F.capClr (m : Master) : F.Statement (.capClr m) := fun _ => rfl
theorem F.captureCopy : F.Statement .captureCopy := fun _ => rfl
theorem F.clayColdStart : F.Statement .clayColdStart := fun _ => rfl
theorem F.scrubPass (sbe : Fin 4097) (dbe : List (Fin 4096)) : F.Statement (.scrubPass sbe dbe) := fun h => Bool.noConfusion h
theorem F.wakePin (lvl : Bool) : F.Statement (.wakePin lvl) := fun _ => rfl
theorem F.wakeAtMatch : F.Statement .wakeAtMatch := fun _ => rfl
theorem F.wearEntry (written : Bool) : F.Statement (.wearEntry written) := fun _ => rfl
theorem F.agingRead (ages : List (Fin 93 × Fin 1024)) : F.Statement (.agingRead ages) := fun h => Bool.noConfusion h
theorem F.loadWindow (load : Fin 1001) : F.Statement (.loadWindow load) := fun _ => rfl
theorem F.logWrite (ok : Bool) : F.Statement (.logWrite ok) := fun _ => rfl
theorem F.mgStatus : F.Statement .mgStatus := fun _ => rfl
theorem F.logMark : F.Statement .logMark := fun _ => rfl
theorem F.keyWrite : F.Statement .keyWrite := fun _ => rfl
theorem F.keyRevoke : F.Statement .keyRevoke := fun _ => rfl
theorem F.svnRaise : F.Statement .svnRaise := fun _ => rfl
theorem F.runHouse (ages : List (Fin 93 × Fin 1024)) : F.Statement (.runHouse ages) := fun h => Bool.noConfusion h
theorem F.replyRetry : F.Statement .replyRetry := fun _ => rfl
theorem F.monEnable (m : Master) (n : Fin 16) : F.Statement (.monEnable m n) := fun _ => rfl
theorem F.monEvent (codes : List (Fin 256)) (at0 : Nat) : F.Statement (.monEvent codes at0) := fun h => Bool.noConfusion h
theorem F.monSample (n : Fin 16) (x : Int) : F.Statement (.monSample n x) := fun _ => rfl
theorem F.monClr (m : Master) (n : Fin 16) : F.Statement (.monClr m n) := fun _ => rfl
theorem F.monSwev (m : Master) (ev : BitVec 8) (at0 : Nat) : F.Statement (.monSwev m ev at0) := fun _ => rfl
theorem F.dieLinkReturn (link : DieLink) : F.Statement (.dieLinkReturn link) := fun _ => rfl
theorem F.vgioRise : F.Statement .vgioRise := fun _ => rfl
theorem F.vgioFall : F.Statement .vgioFall := fun _ => rfl
theorem F.safetyRegionFall : F.Statement .safetyRegionFall := fun _ => rfl
theorem F.claySupplyLoss : F.Statement .claySupplyLoss := fun _ => rfl
theorem F.adcSamplingInstant (adc : Fin 32) (nv : Int) : F.Statement (.adcSamplingInstant adc nv) := fun _ => rfl
theorem F.isoOverloadEnd (ch : Fin 8) : F.Statement (.isoOverloadEnd ch) := fun _ => rfl
theorem F.alignPreHalfExpiry (n : Fin 8) : F.Statement (.alignPreHalfExpiry n) := fun _ => rfl
theorem F.dischargePwmEdge (stage : Fin 8) : F.Statement (.dischargePwmEdge stage) := fun _ => rfl
theorem F.hpUnknownCommand (p : Fin 2) : F.Statement (.hpUnknownCommand p) := fun _ => rfl
theorem F.malformedManagementRequest : F.Statement .malformedManagementRequest := fun _ => rfl
theorem F.markMissing : F.Statement .markMissing := fun _ => rfl
theorem F.canArbitrationLost (n : Fin 6) : F.Statement (.canArbitrationLost n) := fun _ => rfl
theorem F.protocolExceptionEvent (n : Fin 6) : F.Statement (.protocolExceptionEvent n) := fun _ => rfl
theorem F.bandSelectionRetry (k : Fin 3) : F.Statement (.bandSelectionRetry k) := fun _ => rfl
theorem F.crystalWaitExpiry : F.Statement .crystalWaitExpiry := fun _ => rfl
theorem F.scrubPassEnd : F.Statement .scrubPassEnd := fun _ => rfl
theorem F.inputMeasurement (vlv : BitVec 16) (vhb : BitVec 16) (mw : Nat) : F.Statement (.inputMeasurement vlv vhb mw) := fun _ => rfl

end Sys2Proof.Laws
end

