-- ==== Sys2Proof/Laws/Quiet.lean ====
section
/-! SUPPORT. The shared steps of the proofs that a definition stores to no memory. -/

namespace Sys2Proof.Machine

theorem Quiet.refl (s : State) : Quiet s s := ⟨rfl, rfl⟩

theorem Quiet.trans {s t u : State} (h : Quiet s t) (k : Quiet t u) : Quiet s u := ⟨k.mem.trans h.mem, k.tcm.trans h.tcm⟩

/-- A fact about a named intermediate state. -/
theorem quiet_cut {s0 : State} (x : State) {P : Prop} (h : Quiet s0 x) (k : Quiet s0 x → P) : P := k h

theorem quiet_ite {s0 a b : State} {c : Prop} [Decidable c] (ha : Quiet s0 a) (hb : Quiet s0 b) : Quiet s0 (if c then a else b) := by
  split <;> assumption

theorem quiet_fst {α : Type} {s0 s : State} {p : State × α} {v : α} (e : p = (s, v)) (h : Quiet s0 p.1) : Quiet s0 s := by
  subst e; exact h

theorem id_quiet {s0 s : State} (h : Quiet s0 s) : Quiet s0 (id s) := h

/-- The outcome of a meaning is its next state. -/
theorem quiet_next {s t u : State} (h : (Host.Outcome.next u : Host.Outcome State Fault Refusal) = .next t) (k : Quiet s u) : Quiet s t := by
  injection h with h; exact h ▸ k

/-- A record update that leaves the memories alone. -/
theorem quiet_mk {s0 s : State} (h : Quiet s0 s)
    {x_now x_regs x_eccBad x_resp x_rhold x_whold x_caps x_tbs x_legs x_pads x_adcs x_seqs x_pairs x_isos x_linkq x_ains x_asc x_lands x_glitch x_rowanAt x_retireq x_clyPhase x_vgio x_links x_rails x_lus x_fcs x_fctab x_tblq x_poss x_rss x_emus x_routes x_pulses x_logq x_logLost x_logGap x_fresh x_rows x_rowg x_rowrs x_pwr x_cpx x_img x_dcache x_ch x_chOut x_pins x_cans x_clk x_st x_hps x_replies x_mons x_aldLoad x_ecc x_aldHot x_houseAt x_aldScan x_cedq x_pending}
    : Quiet s0 (State.mk x_now x_regs s.mem s.tcm x_eccBad x_resp x_rhold x_whold x_caps x_tbs x_legs x_pads x_adcs x_seqs x_pairs x_isos x_linkq x_ains x_asc x_lands x_glitch x_rowanAt x_retireq x_clyPhase x_vgio x_links x_rails x_lus x_fcs x_fctab x_tblq x_poss x_rss x_emus x_routes x_pulses x_logq x_logLost x_logGap x_fresh x_rows x_rowg x_rowrs x_pwr x_cpx x_img x_dcache x_ch x_chOut x_pins x_cans x_clk x_st x_hps x_replies x_mons x_aldLoad x_ecc x_aldHot x_houseAt x_aldScan x_cedq x_pending) :=
  ⟨h.mem, h.tcm⟩

theorem foldEach_quiet {α : Type} {s0 : State} {f : α → State → State} (hf : ∀ a t, Quiet s0 t → Quiet s0 (f a t)) (l : List α) {s : State}
    (h : Quiet s0 s) : Quiet s0 (foldEach f l s) := by
  induction l generalizing s with
  | nil => exact h
  | cons a t ih => exact ih (hf a s h)

theorem State.onlyIf_quiet {s0 s : State} {c : Bool} {f : State → State} (h : Quiet s0 s) (hf : ∀ t, Quiet s0 t → Quiet s0 (f t)) :
    Quiet s0 (s.onlyIf c f) := by
  unfold State.onlyIf; split
  · exact hf _ h
  · exact h

end Sys2Proof.Machine
end

