-- ==== Sys2Proof/Laws/QuietOpsA.lean ====
section
/-! SUPPORT. Shared operations that store to no memory: part 1 of 4, in the order in which the operations build on one another. -/

namespace Sys2Proof.Machine

theorem State.setEmu_quiet {s0 : State} {s : State} {a1 : ℕ} {a2 : EmuS} (h : Quiet s0 s) :
    Quiet s0 (State.setEmu s a1 a2) := by
  unfold State.setEmu
  repeat' first
    | with_reducible assumption
    | fail_if_no_progress with_reducible apply quiet_mk (s := _)

theorem State.setResp_quiet {s0 : State} {s : State} {a1 : Master} {a2 : Resp} (h : Quiet s0 s) :
    Quiet s0 (State.setResp s a1 a2) := by
  unfold State.setResp
  repeat' first
    | with_reducible assumption
    | fail_if_no_progress with_reducible apply quiet_mk (s := _)

theorem State.wr2_quiet {s0 : State} {s : State} {a1 : FD} {a2 : ℕ} {a3 : ℕ} {a4 : ℕ} (h : Quiet s0 s) :
    Quiet s0 (State.wr2 s a1 a2 a3 a4) := by
  unfold State.wr2
  repeat' first
    | with_reducible assumption
    | fail_if_no_progress with_reducible apply quiet_mk (s := _)

theorem State.wr_quiet {s0 : State} {s : State} {a1 : FD} {a2 : ℕ} {a3 : ℕ} (h : Quiet s0 s) :
    Quiet s0 (State.wr s a1 a2 a3) := by
  unfold State.wr
  repeat' first
    | with_reducible assumption
    | with_reducible apply State.wr2_quiet

theorem State.flag_quiet {s0 : State} {s : State} {a1 : FD} {a2 : ℕ} (h : Quiet s0 s) :
    Quiet s0 (State.flag s a1 a2) := by
  unfold State.flag
  repeat' first
    | with_reducible assumption
    | with_reducible apply State.wr_quiet

theorem State.busErr_quiet {s0 : State} {s : State} {a1 : Master} {a2 : ℕ} (h : Quiet s0 s) :
    Quiet s0 (State.busErr s a1 a2) := by
  unfold State.busErr
  repeat' first
    | with_reducible assumption
    | intro x; try clear_value x
    | with_reducible apply State.setResp_quiet
    | with_reducible apply State.wr_quiet
    | with_reducible apply State.flag_quiet
    | lift_lets -underBinder; intro x; refine quiet_cut (s0 := s0) x ?_ ?_; (on_goal 2 => clear_value x); (on_goal 1 => subst x)
    | fail_if_no_progress beta_reduce
    | split

theorem State.errTo_quiet {s0 : State} {s : State} {a1 : Option Master} {a2 : ℕ} (h : Quiet s0 s) :
    Quiet s0 (State.errTo s a1 a2) := by
  unfold State.errTo
  repeat' first
    | with_reducible assumption
    | with_reducible apply State.busErr_quiet
    | fail_if_no_progress beta_reduce
    | split

theorem State.setPair_quiet {s0 : State} {s : State} {a1 : ℕ} {a2 : PairS} (h : Quiet s0 s) :
    Quiet s0 (State.setPair s a1 a2) := by
  unfold State.setPair
  repeat' first
    | with_reducible assumption
    | fail_if_no_progress with_reducible apply quiet_mk (s := _)

theorem State.setSeq_quiet {s0 : State} {s : State} {a1 : ℕ} {a2 : SeqS} (h : Quiet s0 s) :
    Quiet s0 (State.setSeq s a1 a2) := by
  unfold State.setSeq
  repeat' first
    | with_reducible assumption
    | fail_if_no_progress with_reducible apply quiet_mk (s := _)

theorem State.bump_quiet {s0 : State} {s : State} {a1 : FD} {a2 : ℕ} (h : Quiet s0 s) :
    Quiet s0 (State.bump s a1 a2) := by
  unfold State.bump
  repeat' first
    | with_reducible assumption
    | with_reducible apply State.wr_quiet

theorem State.claimRefused_quiet {s0 : State} {s : State} {a1 : ℕ} {a2 : ℕ} (h : Quiet s0 s) :
    Quiet s0 (State.claimRefused s a1 a2) := by
  unfold State.claimRefused
  repeat' first
    | with_reducible assumption
    | with_reducible apply State.wr_quiet
    | with_reducible apply State.bump_quiet
    | with_reducible apply State.flag_quiet

theorem State.claimPin_quiet {s0 : State} {s : State} {a1 : ℕ} {a2 : ℕ} (h : Quiet s0 s) :
    Quiet s0 (State.claimPin s a1 a2) := by
  unfold State.claimPin
  repeat' first
    | with_reducible assumption
    | with_reducible apply quiet_ite
    | fail_if_no_progress with_reducible apply quiet_mk (s := _)

theorem State.setClaim_quiet {s0 : State} {s : State} {a1 : ℕ} {a2 : ℕ} {a3 : ℕ} (h : Quiet s0 s) :
    Quiet s0 (State.setClaim s a1 a2 a3) := by
  unfold State.setClaim
  repeat' first
    | with_reducible assumption
    | with_reducible apply State.wr_quiet
    | with_reducible apply State.claimPin_quiet

theorem State.claimAll_quiet {s0 : State} {s : State} {a1 : ℕ} {a2 : List ℕ} {a3 : State → State} {a4 : State → State} (h : Quiet s0 s) (h3 : ∀ t, Quiet s0 t → Quiet s0 (a3 t)) (h4 : ∀ t, Quiet s0 t → Quiet s0 (a4 t)) :
    Quiet s0 (State.claimAll s a1 a2 a3 a4) := by
  unfold State.claimAll
  repeat' first
    | with_reducible assumption
    | with_reducible refine h3 _ ?_
    | with_reducible refine h4 _ ?_
    | with_reducible apply State.claimRefused_quiet
    | with_reducible apply State.setClaim_quiet
    | with_reducible refine foldEach_quiet (fun a t k => ?_) _ ?_
    | with_reducible apply quiet_ite
    | fail_if_no_progress beta_reduce
    | split

theorem State.setAsc_quiet {s0 : State} {s : State} {a1 : ℕ} {a2 : Option AscRun} (h : Quiet s0 s) :
    Quiet s0 (State.setAsc s a1 a2) := by
  unfold State.setAsc
  repeat' first
    | with_reducible assumption
    | fail_if_no_progress with_reducible apply quiet_mk (s := _)

theorem State.setLogq_quiet {s0 : State} {s : State} {a1 : List LogRec} (h : Quiet s0 s) :
    Quiet s0 (State.setLogq s a1) := by
  unfold State.setLogq
  repeat' first
    | with_reducible assumption
    | with_reducible apply State.wr_quiet
    | fail_if_no_progress with_reducible apply quiet_mk (s := _)

theorem State.logEv_quiet {s0 : State} {s : State} {a1 : ℕ} {a2 : ℕ} {a3 : List ℕ} (h : Quiet s0 s) :
    Quiet s0 (State.logEv s a1 a2 a3) := by
  unfold State.logEv
  repeat' first
    | with_reducible assumption
    | with_reducible apply State.setLogq_quiet
    | with_reducible apply State.flag_quiet
    | with_reducible apply State.bump_quiet
    | with_reducible apply quiet_ite
    | fail_if_no_progress with_reducible apply quiet_mk (s := _)
    | fail_if_no_progress beta_reduce
    | split

theorem State.resetFields_quiet {s0 : State} {s : State} {a1 : FD → ℕ → ℕ → Bool} (h : Quiet s0 s) :
    Quiet s0 (State.resetFields s a1) := by
  unfold State.resetFields
  repeat' first
    | with_reducible assumption
    | fail_if_no_progress with_reducible apply quiet_mk (s := _)

theorem State.eccWritten_quiet {s0 : State} {s : State} {a1 : ℕ} {a2 : ℕ} (h : Quiet s0 s) :
    Quiet s0 (State.eccWritten s a1 a2) := by
  unfold State.eccWritten
  repeat' first
    | with_reducible assumption
    | with_reducible apply quiet_ite
    | fail_if_no_progress with_reducible apply quiet_mk (s := _)

theorem State.setSrc_quiet {s0 : State} {s : State} {a1 : ℕ} {a2 : SrcS} (h : Quiet s0 s) :
    Quiet s0 (State.setSrc s a1 a2) := by
  unfold State.setSrc
  repeat' first
    | with_reducible assumption
    | fail_if_no_progress with_reducible apply quiet_mk (s := _)

theorem State.srcWord_quiet {s0 : State} {s : State} {a1 : ℕ} {a2 : ℤ} {a3 : Bool} (h : Quiet s0 s) :
    Quiet s0 (State.srcWord s a1 a2 a3) := by
  unfold State.srcWord
  repeat' first
    | with_reducible assumption
    | with_reducible apply State.setSrc_quiet

theorem State.setTb_quiet {s0 : State} {s : State} {a1 : ℕ} {a2 : TbS} (h : Quiet s0 s) :
    Quiet s0 (State.setTb s a1 a2) := by
  unfold State.setTb
  repeat' first
    | with_reducible assumption
    | fail_if_no_progress with_reducible apply quiet_mk (s := _)

theorem State.setLeg_quiet {s0 : State} {s : State} {a1 : ℕ} {a2 : LegS} (h : Quiet s0 s) :
    Quiet s0 (State.setLeg s a1 a2) := by
  unfold State.setLeg
  repeat' first
    | with_reducible assumption
    | fail_if_no_progress with_reducible apply quiet_mk (s := _)

theorem State.ack_quiet {s0 : State} {s : State} {a1 : Master} (h : Quiet s0 s) :
    Quiet s0 (State.ack s a1) := by
  unfold State.ack
  repeat' first
    | with_reducible assumption
    | with_reducible apply State.setResp_quiet

theorem State.ackTo_quiet {s0 : State} {s : State} {a1 : Option Master} (h : Quiet s0 s) :
    Quiet s0 (State.ackTo s a1) := by
  unfold State.ackTo
  repeat' first
    | with_reducible assumption
    | with_reducible apply State.ack_quiet
    | fail_if_no_progress beta_reduce
    | split

theorem State.setAdc_quiet {s0 : State} {s : State} {a1 : ℕ} {a2 : AdcS} (h : Quiet s0 s) :
    Quiet s0 (State.setAdc s a1 a2) := by
  unfold State.setAdc
  repeat' first
    | with_reducible assumption
    | fail_if_no_progress with_reducible apply quiet_mk (s := _)

theorem State.raisePulse_quiet {s0 : State} {s : State} {a1 : List ℕ} {a2 : ℕ} {a3 : ℕ} (h : Quiet s0 s) :
    Quiet s0 (State.raisePulse s a1 a2 a3) := by
  unfold State.raisePulse
  repeat' first
    | with_reducible assumption
    | fail_if_no_progress with_reducible apply quiet_mk (s := _)

theorem State.closeSwitch_quiet {s0 : State} {s : State} {a1 : ℕ} (h : Quiet s0 s) :
    Quiet s0 (State.closeSwitch s a1) := by
  unfold State.closeSwitch
  repeat' first
    | with_reducible assumption
    | with_reducible apply State.wr_quiet
    | with_reducible apply quiet_ite
    | fail_if_no_progress with_reducible apply quiet_mk (s := _)

theorem State.setRsv_quiet {s0 : State} {s : State} {a1 : ℕ} {a2 : RsS} (h : Quiet s0 s) :
    Quiet s0 (State.setRsv s a1 a2) := by
  unfold State.setRsv
  repeat' first
    | with_reducible assumption
    | fail_if_no_progress with_reducible apply quiet_mk (s := _)

theorem State.eccCount_quiet {s0 : State} {s : State} {a1 : ℕ} {a2 : ℕ} (h : Quiet s0 s) :
    Quiet s0 (State.eccCount s a1 a2) := by
  unfold State.eccCount
  repeat' first
    | with_reducible assumption
    | with_reducible apply State.bump_quiet
    | with_reducible apply State.wr_quiet
    | with_reducible apply State.flag_quiet
    | with_reducible apply quiet_ite
    | fail_if_no_progress with_reducible apply quiet_mk (s := _)
    | fail_if_no_progress beta_reduce
    | split

theorem State.flag2_quiet {s0 : State} {s : State} {a1 : FD} {a2 : ℕ} {a3 : ℕ} (h : Quiet s0 s) :
    Quiet s0 (State.flag2 s a1 a2 a3) := by
  unfold State.flag2
  repeat' first
    | with_reducible assumption
    | with_reducible apply State.wr2_quiet

theorem State.wrI_quiet {s0 : State} {s : State} {a1 : FD} {a2 : ℕ} {a3 : ℤ} (h : Quiet s0 s) :
    Quiet s0 (State.wrI s a1 a2 a3) := by
  unfold State.wrI
  repeat' first
    | with_reducible assumption
    | with_reducible apply State.wr_quiet

theorem State.setPad_quiet {s0 : State} {s : State} {a1 : ℕ} {a2 : PadS} (h : Quiet s0 s) :
    Quiet s0 (State.setPad s a1 a2) := by
  unfold State.setPad
  repeat' first
    | with_reducible assumption
    | fail_if_no_progress with_reducible apply quiet_mk (s := _)

theorem State.showPwm_quiet {s0 : State} {s : State} (h : Quiet s0 s) :
    Quiet s0 (State.showPwm s) := by
  unfold State.showPwm
  repeat' first
    | with_reducible assumption
    | with_reducible apply State.wr_quiet
    | with_reducible apply quiet_ite

theorem State.releaseClaims_quiet {s0 : State} {s : State} {a1 : ℕ} {a2 : List ℕ} (h : Quiet s0 s) :
    Quiet s0 (State.releaseClaims s a1 a2) := by
  unfold State.releaseClaims
  repeat' first
    | with_reducible assumption
    | with_reducible apply State.setClaim_quiet
    | with_reducible refine foldEach_quiet (fun a t k => ?_) _ ?_
    | with_reducible apply quiet_ite

theorem State.setRowRs_quiet {s0 : State} {s : State} {a1 : ℕ} {a2 : RowRs} (h : Quiet s0 s) :
    Quiet s0 (State.setRowRs s a1 a2) := by
  unfold State.setRowRs
  repeat' first
    | with_reducible assumption
    | fail_if_no_progress with_reducible apply quiet_mk (s := _)

theorem State.setLu_quiet {s0 : State} {s : State} {a1 : ℕ} {a2 : LuS} (h : Quiet s0 s) :
    Quiet s0 (State.setLu s a1 a2) := by
  unfold State.setLu
  repeat' first
    | with_reducible assumption
    | fail_if_no_progress with_reducible apply quiet_mk (s := _)

theorem State.setIso_quiet {s0 : State} {s : State} {a1 : ℕ} {a2 : IsoS} (h : Quiet s0 s) :
    Quiet s0 (State.setIso s a1 a2) := by
  unfold State.setIso
  repeat' first
    | with_reducible assumption
    | fail_if_no_progress with_reducible apply quiet_mk (s := _)

theorem State.setRow_quiet {s0 : State} {s : State} {a1 : ℕ} {a2 : RowS} (h : Quiet s0 s) :
    Quiet s0 (State.setRow s a1 a2) := by
  unfold State.setRow
  repeat' first
    | with_reducible assumption
    | fail_if_no_progress with_reducible apply quiet_mk (s := _)

theorem State.next_quiet {s0 : State} {s : State} (h : Quiet s0 s) :
    Quiet s0 (State.next s) := by
  unfold State.next
  repeat' first
    | with_reducible assumption
    | fail_if_no_progress with_reducible apply quiet_mk (s := _)

theorem State.hpClear_quiet {s0 : State} {s : State} {a1 : ℕ} (h : Quiet s0 s) :
    Quiet s0 (State.hpClear s a1) := by
  unfold State.hpClear
  repeat' first
    | with_reducible assumption
    | with_reducible apply State.wr_quiet
    | fail_if_no_progress with_reducible apply quiet_mk (s := _)

theorem State.setFc_quiet {s0 : State} {s : State} {a1 : ℕ} {a2 : FcS} (h : Quiet s0 s) :
    Quiet s0 (State.setFc s a1 a2) := by
  unfold State.setFc
  repeat' first
    | with_reducible assumption
    | fail_if_no_progress with_reducible apply quiet_mk (s := _)

theorem State.irqEv_quiet {s0 : State} {s : State} {a1 : ℕ} (h : Quiet s0 s) :
    Quiet s0 (State.irqEv s a1) := by
  unfold State.irqEv
  repeat' first
    | with_reducible assumption
    | with_reducible apply State.wr_quiet

theorem State.busWrite_quiet {s0 : State} {s : State} {a1 : Master} {a2 : ℕ} {a3 : State → State} (h : Quiet s0 s) (h3 : ∀ t, Quiet s0 t → Quiet s0 (a3 t)) :
    Quiet s0 (State.busWrite s a1 a2 a3) := by
  unfold State.busWrite
  repeat' first
    | with_reducible assumption
    | with_reducible refine h3 _ ?_
    | with_reducible apply State.ack_quiet
    | with_reducible apply State.busErr_quiet
    | with_reducible apply quiet_ite

theorem State.takePulse_quiet {s0 : State} {s : State} {a1 : Route → Bool} (h : Quiet s0 s) :
    Quiet s0 (State.takePulse s a1) := by
  unfold State.takePulse
  repeat' first
    | with_reducible assumption
    | fail_if_no_progress with_reducible apply quiet_mk (s := _)
    | fail_if_no_progress beta_reduce
    | split

theorem State.setPos_quiet {s0 : State} {s : State} {a1 : ℕ} {a2 : PosS} (h : Quiet s0 s) :
    Quiet s0 (State.setPos s a1 a2) := by
  unfold State.setPos
  repeat' first
    | with_reducible assumption
    | fail_if_no_progress with_reducible apply quiet_mk (s := _)

theorem State.eccMet_quiet {s0 : State} {s : State} {a1 : ℕ} {a2 : ℕ} (h : Quiet s0 s) :
    Quiet s0 (State.eccMet s a1 a2) := by
  unfold State.eccMet
  repeat' first
    | with_reducible assumption
    | with_reducible apply State.logEv_quiet
    | with_reducible apply State.eccCount_quiet

theorem State.noteCap_quiet {s0 : State} {s : State} {a1 : FD} {a2 : ℕ} {a3 : ℕ} {a4 : ℕ} {a5 : Bool} (h : Quiet s0 s) :
    Quiet s0 (State.noteCap s a1 a2 a3 a4 a5) := by
  unfold State.noteCap
  repeat' first
    | with_reducible assumption
    | with_reducible apply quiet_ite
    | fail_if_no_progress with_reducible apply quiet_mk (s := _)

theorem State.noteFields_quiet {s0 : State} {s : State} {a1 : List FD} {a2 : ℕ} (h : Quiet s0 s) :
    Quiet s0 (State.noteFields s a1 a2) := by
  unfold State.noteFields
  repeat' first
    | with_reducible assumption
    | with_reducible apply State.noteCap_quiet
    | with_reducible refine foldEach_quiet (fun a t k => ?_) _ ?_

theorem State.minpAct_quiet {s0 : State} {s : State} {a1 : ℕ} (h : Quiet s0 s) :
    Quiet s0 (State.minpAct s a1) := by
  unfold State.minpAct
  repeat' first
    | with_reducible assumption
    | with_reducible apply State.bump_quiet
    | with_reducible apply State.flag_quiet

theorem State.dropPulse_quiet {s0 : State} {s : State} {a1 : ℕ} (h : Quiet s0 s) :
    Quiet s0 (State.dropPulse s a1) := by
  unfold State.dropPulse
  repeat' first
    | with_reducible assumption
    | with_reducible apply State.minpAct_quiet
    | with_reducible apply State.setLeg_quiet

theorem State.openWindow_quiet {s0 : State} {s : State} {a1 : ℕ} {a2 : Side} {a3 : ℕ} (h : Quiet s0 s) :
    Quiet s0 (State.openWindow s a1 a2 a3) := by
  unfold State.openWindow
  repeat' first
    | with_reducible assumption
    | with_reducible apply State.setLeg_quiet
    | with_reducible apply quiet_ite
    | lift_lets -underBinder; intro x; try clear_value x
    | fail_if_no_progress beta_reduce
    | split

theorem State.fixDt_quiet {s0 : State} {s : State} {a1 : ℕ} {a2 : Side} (h : Quiet s0 s) :
    Quiet s0 (State.fixDt s a1 a2) := by
  unfold State.fixDt
  repeat' first
    | with_reducible assumption
    | with_reducible refine State.onlyIf_quiet ?_ (fun x_ k => ?_)
    | with_reducible apply State.wr_quiet
    | with_reducible apply State.flag_quiet
    | fail_if_no_progress beta_reduce
    | split

theorem State.openPulse_quiet {s0 : State} {s : State} {a1 : ℕ} {a2 : Side} {a3 : ℕ} (h : Quiet s0 s) :
    Quiet s0 (State.openPulse s a1 a2 a3) := by
  unfold State.openPulse
  repeat' first
    | with_reducible assumption
    | with_reducible apply State.fixDt_quiet
    | with_reducible refine State.onlyIf_quiet ?_ (fun x_ k => ?_)
    | with_reducible apply State.setLeg_quiet
    | with_reducible apply State.flag_quiet
    | with_reducible apply quiet_ite

theorem State.closeEdge_quiet {s0 : State} {s : State} {a1 : ℕ} {a2 : Side} {a3 : ℕ} (h : Quiet s0 s) :
    Quiet s0 (State.closeEdge s a1 a2 a3) := by
  unfold State.closeEdge
  repeat' first
    | with_reducible assumption
    | with_reducible apply State.dropPulse_quiet
    | with_reducible apply State.setLeg_quiet
    | with_reducible apply State.openWindow_quiet
    | with_reducible apply State.openPulse_quiet
    | with_reducible apply quiet_ite

theorem State.settle_quiet {s0 : State} {s : State} {a1 : ℕ} {a2 : ℕ} (h : Quiet s0 s) :
    Quiet s0 (State.settle s a1 a2) := by
  unfold State.settle
  repeat' first
    | with_reducible assumption
    | intro x; try clear_value x
    | with_reducible apply State.setLeg_quiet
    | with_reducible apply State.closeEdge_quiet
    | with_reducible apply quiet_ite
    | lift_lets -underBinder; intro x; refine quiet_cut (s0 := s0) x ?_ ?_; (on_goal 2 => clear_value x); (on_goal 1 => subst x)
    | fail_if_no_progress beta_reduce
    | split

theorem State.cancelPulse_quiet {s0 : State} {s : State} {a1 : ℕ} {a2 : Side} {a3 : ℕ} (h : Quiet s0 s) :
    Quiet s0 (State.cancelPulse s a1 a2 a3) := by
  unfold State.cancelPulse
  repeat' first
    | with_reducible assumption
    | with_reducible apply State.setLeg_quiet
    | with_reducible apply State.openPulse_quiet
    | with_reducible apply quiet_ite

theorem State.endPulse_quiet {s0 : State} {s : State} {a1 : ℕ} {a2 : OutPulse} {a3 : ℕ} (h : Quiet s0 s) :
    Quiet s0 (State.endPulse s a1 a2 a3) := by
  unfold State.endPulse
  repeat' first
    | with_reducible assumption
    | with_reducible apply State.closeEdge_quiet
    | with_reducible apply State.minpAct_quiet
    | with_reducible apply State.setLeg_quiet
    | with_reducible apply State.cancelPulse_quiet
    | with_reducible refine State.onlyIf_quiet ?_ (fun x_ k => ?_)
    | with_reducible apply State.bump_quiet
    | with_reducible apply quiet_ite

theorem State.refEdge_quiet {s0 : State} {s : State} {a1 : ℕ} {a2 : Bool} {a3 : ℕ} (h : Quiet s0 s) :
    Quiet s0 (State.refEdge s a1 a2 a3) := by
  unfold State.refEdge
  repeat' first
    | with_reducible assumption
    | with_reducible apply State.settle_quiet
    | with_reducible apply State.setLeg_quiet
    | with_reducible apply State.flag_quiet
    | with_reducible apply State.endPulse_quiet
    | with_reducible apply State.dropPulse_quiet
    | with_reducible apply State.openPulse_quiet
    | with_reducible apply quiet_ite
    | fail_if_no_progress beta_reduce
    | split

theorem State.showPol_quiet {s0 : State} {s : State} {a1 : ℕ} (h : Quiet s0 s) :
    Quiet s0 (State.showPol s a1) := by
  unfold State.showPol
  repeat' first
    | with_reducible assumption
    | with_reducible apply State.wr_quiet

theorem State.cancelStage_quiet {s0 : State} {s : State} {a1 : ℕ} (h : Quiet s0 s) :
    Quiet s0 (State.cancelStage s a1) := by
  unfold State.cancelStage
  repeat' first
    | with_reducible assumption
    | with_reducible apply State.setLeg_quiet
    | with_reducible apply quiet_ite

theorem State.restartLeg_quiet {s0 : State} {s : State} {a1 : ℕ} {a2 : ℕ} (h : Quiet s0 s) :
    Quiet s0 (State.restartLeg s a1 a2) := by
  unfold State.restartLeg
  repeat' first
    | with_reducible assumption
    | intro x; refine quiet_cut (s0 := s0) x ?_ ?_; (on_goal 2 => clear_value x); (on_goal 1 => subst x)
    | intro x; try clear_value x
    | with_reducible apply State.setLeg_quiet
    | with_reducible apply State.openPulse_quiet
    | lift_lets -underBinder; intro x; try clear_value x
    | fail_if_no_progress beta_reduce
    | split

theorem State.shadowWrite_quiet {s0 : State} {s : State} {a1 : ℕ} {a2 : FD} {a3 : ℕ} {a4 : ℕ} {a5 : Bool} {a6 : State → State} (h : Quiet s0 s) (h6 : ∀ t, Quiet s0 t → Quiet s0 (a6 t)) :
    Quiet s0 (State.shadowWrite s a1 a2 a3 a4 a5 a6) := by
  unfold State.shadowWrite
  repeat' first
    | with_reducible assumption
    | intro x; try clear_value x
    | with_reducible refine h6 _ ?_
    | with_reducible apply State.flag_quiet
    | with_reducible apply State.noteCap_quiet
    | with_reducible refine State.onlyIf_quiet ?_ (fun x_ k => ?_)
    | with_reducible apply quiet_ite
    | lift_lets -underBinder; intro x; refine quiet_cut (s0 := s0) x ?_ ?_; (on_goal 2 => clear_value x); (on_goal 1 => subst x)
    | fail_if_no_progress beta_reduce
    | split

theorem State.setTrgAct_quiet {s0 : State} {s : State} {a1 : ℕ} {a2 : ℕ} {a3 : ℕ} {a4 : ℕ} (h : Quiet s0 s) :
    Quiet s0 (State.setTrgAct s a1 a2 a3 a4) := by
  unfold State.setTrgAct
  repeat' first
    | with_reducible assumption
    | with_reducible apply State.setLeg_quiet

theorem State.immTrg_quiet {s0 : State} {s : State} {a1 : ℕ} {a2 : ℕ} {a3 : ℕ} {a4 : ℕ} (h : Quiet s0 s) :
    Quiet s0 (State.immTrg s a1 a2 a3 a4) := by
  unfold State.immTrg
  repeat' first
    | with_reducible assumption
    | intro x; refine quiet_cut (s0 := s0) x ?_ ?_; (on_goal 2 => clear_value x); (on_goal 1 => subst x)
    | intro x; try clear_value x
    | with_reducible apply State.setTrgAct_quiet
    | with_reducible apply State.setLeg_quiet
    | with_reducible refine State.onlyIf_quiet ?_ (fun x_ k => ?_)
    | with_reducible apply State.flag_quiet
    | lift_lets -underBinder; intro x; try clear_value x
    | fail_if_no_progress beta_reduce
    | split

theorem State.writeTrg_quiet {s0 : State} {s : State} {a1 : ℕ} {a2 : ℕ} {a3 : ℕ} {a4 : ℕ} {a5 : Bool} (h : Quiet s0 s) :
    Quiet s0 (State.writeTrg s a1 a2 a3 a4 a5) := by
  unfold State.writeTrg
  repeat' first
    | with_reducible assumption
    | with_reducible refine State.shadowWrite_quiet ?_ (fun x_ k => ?_)
    | with_reducible apply State.wr2_quiet
    | with_reducible apply State.flag_quiet
    | with_reducible apply State.immTrg_quiet
    | with_reducible apply quiet_ite

theorem State.followRef_quiet {s0 : State} {s : State} {a1 : ℕ} {a2 : ℕ} (h : Quiet s0 s) :
    Quiet s0 (State.followRef s a1 a2) := by
  unfold State.followRef
  repeat' first
    | with_reducible assumption
    | with_reducible apply State.refEdge_quiet
    | with_reducible apply State.wr_quiet
    | with_reducible apply quiet_ite

theorem State.takeEvent_quiet {s0 : State} {s : State} {a1 : ℕ} {a2 : ℕ} {a3 : ℕ} {a4 : ℕ → Bool} (h : Quiet s0 s) :
    Quiet s0 (State.takeEvent s a1 a2 a3 a4) := by
  unfold State.takeEvent
  repeat' first
    | with_reducible assumption
    | with_reducible apply State.setLeg_quiet
    | with_reducible apply State.followRef_quiet
    | with_reducible apply quiet_ite
    | fail_if_no_progress beta_reduce
    | split

theorem State.setCmpAct_quiet {s0 : State} {s : State} {a1 : ℕ} {a2 : Cmp} {a3 : ℕ} (h : Quiet s0 s) :
    Quiet s0 (State.setCmpAct s a1 a2 a3) := by
  unfold State.setCmpAct
  repeat' first
    | with_reducible assumption
    | with_reducible apply State.wr_quiet
    | fail_if_no_progress beta_reduce
    | split

theorem State.immCmp_quiet {s0 : State} {s : State} {a1 : ℕ} {a2 : Cmp} {a3 : ℕ} (h : Quiet s0 s) :
    Quiet s0 (State.immCmp s a1 a2 a3) := by
  unfold State.immCmp
  repeat' first
    | with_reducible assumption
    | intro x; refine quiet_cut (s0 := s0) x ?_ ?_; (on_goal 2 => clear_value x); (on_goal 1 => subst x)
    | intro x; try clear_value x
    | with_reducible apply State.noteFields_quiet
    | with_reducible apply State.setCmpAct_quiet
    | with_reducible refine State.onlyIf_quiet ?_ (fun x_ k => ?_)
    | with_reducible apply State.flag_quiet
    | lift_lets -underBinder; intro x; refine quiet_cut (s0 := s0) x ?_ ?_; (on_goal 2 => clear_value x); (on_goal 1 => subst x)
    | fail_if_no_progress beta_reduce
    | split

theorem State.writeCmp_quiet {s0 : State} {s : State} {a1 : ℕ} {a2 : Cmp} {a3 : ℕ} {a4 : Bool} (h : Quiet s0 s) :
    Quiet s0 (State.writeCmp s a1 a2 a3 a4) := by
  unfold State.writeCmp
  repeat' first
    | with_reducible assumption
    | with_reducible refine State.shadowWrite_quiet ?_ (fun x_ k => ?_)
    | with_reducible apply State.wr_quiet
    | with_reducible apply State.immCmp_quiet
    | with_reducible apply State.flag_quiet
    | with_reducible apply quiet_ite
    | fail_if_no_progress beta_reduce
    | split

theorem State.tbStart_quiet {s0 : State} {s : State} {a1 : ℕ} (h : Quiet s0 s) :
    Quiet s0 (State.tbStart s a1) := by
  unfold State.tbStart
  repeat' first
    | with_reducible assumption
    | with_reducible apply State.wr_quiet

theorem State.loadCnt_quiet {s0 : State} {s : State} {a1 : ℕ} {a2 : ℕ} {a3 : Bool} (h : Quiet s0 s) :
    Quiet s0 (State.loadCnt s a1 a2 a3) := by
  unfold State.loadCnt
  repeat' first
    | with_reducible assumption
    | with_reducible apply State.wr_quiet

theorem State.takePer_quiet {s0 : State} {s : State} {a1 : ℕ} {a2 : ℕ} (h : Quiet s0 s) :
    Quiet s0 (State.takePer s a1 a2) := by
  unfold State.takePer
  repeat' first
    | with_reducible assumption
    | with_reducible apply State.wr_quiet
    | with_reducible apply State.loadCnt_quiet
    | with_reducible apply State.flag_quiet
    | with_reducible apply quiet_ite

theorem State.xferDt_quiet {s0 : State} {s : State} {a1 : ℕ} (h : Quiet s0 s) :
    Quiet s0 (State.xferDt s a1) := by
  unfold State.xferDt
  repeat' first
    | with_reducible assumption
    | with_reducible apply State.setLeg_quiet
    | with_reducible refine State.onlyIf_quiet ?_ (fun x_ k => ?_)
    | with_reducible apply State.flag_quiet

theorem State.xferTrg_quiet {s0 : State} {s : State} {a1 : ℕ} (h : Quiet s0 s) :
    Quiet s0 (State.xferTrg s a1) := by
  unfold State.xferTrg
  repeat' first
    | with_reducible assumption
    | with_reducible apply State.setTrgAct_quiet
    | with_reducible apply State.flag_quiet
    | with_reducible apply State.wr_quiet
    | with_reducible refine foldEach_quiet (fun a t k => ?_) _ ?_
    | with_reducible apply quiet_ite

theorem State.xferCmp_quiet {s0 : State} {s : State} {a1 : ℕ} {a2 : Cmp} {a3 : FD} {a4 : FD} (h : Quiet s0 s) :
    Quiet s0 (State.xferCmp s a1 a2 a3 a4) := by
  unfold State.xferCmp
  repeat' first
    | with_reducible assumption
    | with_reducible apply State.setCmpAct_quiet
    | with_reducible apply State.flag_quiet
    | with_reducible apply State.wr_quiet
    | with_reducible apply quiet_ite

theorem State.xferLeg_quiet {s0 : State} {s : State} {a1 : ℕ} (h : Quiet s0 s) :
    Quiet s0 (State.xferLeg s a1) := by
  unfold State.xferLeg
  repeat' first
    | with_reducible assumption
    | with_reducible apply State.xferDt_quiet
    | with_reducible apply State.xferTrg_quiet
    | with_reducible apply State.xferCmp_quiet

theorem State.transfer_quiet {s0 : State} {s : State} {a1 : ℕ} (h : Quiet s0 s) :
    Quiet s0 (State.transfer s a1) := by
  unfold State.transfer
  repeat' first
    | with_reducible assumption
    | with_reducible apply State.takePer_quiet
    | with_reducible apply State.setTb_quiet
    | with_reducible apply State.xferLeg_quiet
    | with_reducible refine State.onlyIf_quiet ?_ (fun x_ k => ?_)
    | with_reducible apply State.flag_quiet
    | with_reducible refine foldEach_quiet (fun a t k => ?_) _ ?_
    | with_reducible apply quiet_ite

theorem State.writeDtr_quiet {s0 : State} {s : State} {a1 : ℕ} {a2 : ℕ} (h : Quiet s0 s) :
    Quiet s0 (State.writeDtr s a1 a2) := by
  unfold State.writeDtr
  repeat' first
    | with_reducible assumption
    | with_reducible refine State.shadowWrite_quiet ?_ (fun x_ k => ?_)
    | with_reducible apply State.wr_quiet

theorem State.writeDtf_quiet {s0 : State} {s : State} {a1 : ℕ} {a2 : ℕ} (h : Quiet s0 s) :
    Quiet s0 (State.writeDtf s a1 a2) := by
  unfold State.writeDtf
  repeat' first
    | with_reducible assumption
    | with_reducible refine State.shadowWrite_quiet ?_ (fun x_ k => ?_)
    | with_reducible apply State.wr_quiet

theorem State.advance_quiet {s0 : State} {s : State} {a1 : ℕ} (h : Quiet s0 s) :
    Quiet s0 (State.advance s a1) := by
  unfold State.advance
  repeat' first
    | with_reducible assumption
    | with_reducible apply State.loadCnt_quiet
    | with_reducible apply quiet_ite
    | fail_if_no_progress beta_reduce
    | split

theorem State.goImmediate_quiet {s0 : State} {s : State} {a1 : ℕ} (h : Quiet s0 s) :
    Quiet s0 (State.goImmediate s a1) := by
  unfold State.goImmediate
  repeat' first
    | with_reducible assumption
    | with_reducible refine State.onlyIf_quiet ?_ (fun x_ k => ?_)
    | with_reducible apply State.wr_quiet
    | with_reducible apply State.setCmpAct_quiet
    | with_reducible apply State.setTrgAct_quiet
    | with_reducible refine foldEach_quiet (fun a t k => ?_) _ ?_

theorem State.legEdge_quiet {s0 : State} {s : State} {a1 : ℕ} (h : Quiet s0 s) :
    Quiet s0 (State.legEdge s a1) := by
  unfold State.legEdge
  repeat' first
    | with_reducible assumption
    | with_reducible apply State.showPol_quiet
    | with_reducible apply State.followRef_quiet
    | with_reducible apply State.goImmediate_quiet

theorem State.syncEvent_quiet {s0 : State} {s : State} {a1 : ℕ} {a2 : ℕ} (h : Quiet s0 s) :
    Quiet s0 (State.syncEvent s a1 a2) := by
  unfold State.syncEvent
  repeat' first
    | with_reducible assumption
    | with_reducible apply State.setTb_quiet
    | with_reducible apply quiet_ite

theorem State.writePer_quiet {s0 : State} {s : State} {a1 : ℕ} {a2 : ℕ} (h : Quiet s0 s) :
    Quiet s0 (State.writePer s a1 a2) := by
  unfold State.writePer
  repeat' first
    | with_reducible assumption
    | with_reducible apply State.wr_quiet
    | with_reducible apply State.noteCap_quiet

theorem State.loadSync_quiet {s0 : State} {s : State} {a1 : ℕ} (h : Quiet s0 s) :
    Quiet s0 (State.loadSync s a1) := by
  unfold State.loadSync
  repeat' first
    | with_reducible assumption
    | with_reducible apply State.loadCnt_quiet
    | with_reducible apply State.setTb_quiet
    | with_reducible refine State.onlyIf_quiet ?_ (fun x_ k => ?_)
    | with_reducible apply State.flag_quiet

theorem State.edgeWork_quiet {s0 : State} {s : State} {a1 : ℕ} (h : Quiet s0 s) :
    Quiet s0 (State.edgeWork s a1) := by
  unfold State.edgeWork
  repeat' first
    | with_reducible assumption
    | with_reducible apply State.takePer_quiet
    | with_reducible apply State.setTb_quiet
    | with_reducible apply State.wr_quiet
    | with_reducible apply State.flag_quiet
    | with_reducible apply State.transfer_quiet
    | with_reducible apply quiet_ite
    | fail_if_no_progress beta_reduce
    | split

theorem State.writeMinp_quiet {s0 : State} {s : State} {a1 : ℕ} {a2 : ℕ} (h : Quiet s0 s) :
    Quiet s0 (State.writeMinp s a1 a2) := by
  unfold State.writeMinp
  repeat' first
    | with_reducible assumption
    | with_reducible refine State.shadowWrite_quiet ?_ (fun x_ k => ?_)
    | with_reducible apply State.wr_quiet

theorem State.stopTb_quiet {s0 : State} {s : State} {a1 : ℕ} (h : Quiet s0 s) :
    Quiet s0 (State.stopTb s a1) := by
  unfold State.stopTb
  repeat' first
    | with_reducible assumption
    | with_reducible apply State.flag_quiet
    | with_reducible apply State.wr_quiet
    | with_reducible apply quiet_ite

theorem State.startTb_quiet {s0 : State} {s : State} {a1 : ℕ} (h : Quiet s0 s) :
    Quiet s0 (State.startTb s a1) := by
  unfold State.startTb
  repeat' first
    | with_reducible assumption
    | with_reducible apply State.flag_quiet
    | with_reducible apply State.wr_quiet
    | with_reducible apply State.xferLeg_quiet
    | with_reducible apply State.loadCnt_quiet
    | with_reducible apply State.setTb_quiet
    | with_reducible apply State.setLeg_quiet
    | with_reducible apply State.restartLeg_quiet
    | with_reducible apply State.followRef_quiet
    | with_reducible refine foldEach_quiet (fun a t k => ?_) _ ?_
    | with_reducible apply quiet_ite

theorem State.tbEdge_quiet {s0 : State} {s : State} {a1 : ℕ} (h : Quiet s0 s) :
    Quiet s0 (State.tbEdge s a1) := by
  unfold State.tbEdge
  repeat' first
    | with_reducible assumption
    | with_reducible apply State.setTb_quiet
    | with_reducible apply State.advance_quiet
    | with_reducible apply State.wr_quiet
    | with_reducible apply quiet_ite

theorem State.fcHoldOff_quiet {s0 : State} {s : State} {a1 : ℕ} (h : Quiet s0 s) :
    Quiet s0 (State.fcHoldOff s a1) := by
  unfold State.fcHoldOff
  repeat' first
    | with_reducible assumption
    | with_reducible refine State.onlyIf_quiet ?_ (fun x_ k => ?_)
    | with_reducible apply State.setFc_quiet

theorem State.sendRefs_quiet {s0 : State} {s : State} {a1 : ℕ} {a2 : ℤ} {a3 : ℤ} (h : Quiet s0 s) :
    Quiet s0 (State.sendRefs s a1 a2 a3) := by
  unfold State.sendRefs
  repeat' first
    | with_reducible assumption
    | with_reducible apply State.setFc_quiet
    | with_reducible apply quiet_ite

theorem State.fcEnterHold_quiet {s0 : State} {s : State} {a1 : ℕ} (h : Quiet s0 s) :
    Quiet s0 (State.fcEnterHold s a1) := by
  unfold State.fcEnterHold
  repeat' first
    | with_reducible assumption
    | with_reducible apply State.fcHoldOff_quiet
    | with_reducible apply State.setFc_quiet
    | with_reducible apply State.sendRefs_quiet
    | with_reducible apply State.wr_quiet

theorem State.fcAbort_quiet {s0 : State} {s : State} {a1 : ℕ} (h : Quiet s0 s) :
    Quiet s0 (State.fcAbort s a1) := by
  unfold State.fcAbort
  repeat' first
    | with_reducible assumption
    | with_reducible apply State.flag_quiet
    | with_reducible apply State.fcEnterHold_quiet
    | with_reducible apply quiet_ite

theorem State.stageOff_quiet {s0 : State} {s : State} {a1 : ℕ} (h : Quiet s0 s) :
    Quiet s0 (State.stageOff s a1) := by
  unfold State.stageOff
  repeat' first
    | with_reducible assumption
    | with_reducible apply State.setLu_quiet
    | with_reducible apply State.fcAbort_quiet
    | with_reducible apply quiet_ite

theorem State.cancelLegs_quiet {s0 : State} {s : State} {a1 : ℕ} (h : Quiet s0 s) :
    Quiet s0 (State.cancelLegs s a1) := by
  unfold State.cancelLegs
  repeat' first
    | with_reducible assumption
    | with_reducible apply State.cancelStage_quiet
    | with_reducible refine foldEach_quiet (fun a t k => ?_) _ ?_

theorem State.latchLeg_quiet {s0 : State} {s : State} {a1 : ℕ} {a2 : ℕ} (h : Quiet s0 s) :
    Quiet s0 (State.latchLeg s a1 a2) := by
  unfold State.latchLeg
  repeat' first
    | with_reducible assumption
    | with_reducible apply State.setPad_quiet

theorem State.latchStage_quiet {s0 : State} {s : State} {a1 : ℕ} {a2 : ℕ} (h : Quiet s0 s) :
    Quiet s0 (State.latchStage s a1 a2) := by
  unfold State.latchStage
  repeat' first
    | with_reducible assumption
    | with_reducible apply State.latchLeg_quiet
    | with_reducible apply State.wr_quiet
    | with_reducible apply State.setAsc_quiet
    | with_reducible refine foldEach_quiet (fun a t k => ?_) _ ?_

theorem State.showActive_quiet {s0 : State} {s : State} {a1 : ℕ} (h : Quiet s0 s) :
    Quiet s0 (State.showActive s a1) := by
  unfold State.showActive
  repeat' first
    | with_reducible assumption
    | with_reducible apply State.wr_quiet

theorem State.showAllActive_quiet {s0 : State} {s : State} (h : Quiet s0 s) :
    Quiet s0 (State.showAllActive s) := by
  unfold State.showAllActive
  repeat' first
    | with_reducible assumption
    | with_reducible apply State.showActive_quiet
    | with_reducible refine foldEach_quiet (fun a t k => ?_) _ ?_

theorem State.setGlitch_quiet {s0 : State} {s : State} {a1 : ℕ} {a2 : Option ℕ} (h : Quiet s0 s) :
    Quiet s0 (State.setGlitch s a1 a2) := by
  unfold State.setGlitch
  repeat' first
    | with_reducible assumption
    | fail_if_no_progress with_reducible apply quiet_mk (s := _)

theorem State.ascOn_quiet {s0 : State} {s : State} {a1 : ℕ} {a2 : AscRun} (h : Quiet s0 s) :
    Quiet s0 (State.ascOn s a1 a2) := by
  unfold State.ascOn
  repeat' first
    | with_reducible assumption
    | with_reducible apply State.setAsc_quiet
    | with_reducible apply State.setPad_quiet
    | with_reducible refine foldEach_quiet (fun a t k => ?_) _ ?_

theorem State.showSource_quiet {s0 : State} {s : State} {a1 : ℕ} {a2 : ℕ} (h : Quiet s0 s) :
    Quiet s0 (State.showSource s a1 a2) := by
  unfold State.showSource
  repeat' first
    | with_reducible assumption
    | with_reducible apply State.raisePulse_quiet
    | with_reducible apply State.flag_quiet
    | with_reducible apply State.wr_quiet
    | with_reducible refine State.onlyIf_quiet ?_ (fun x_ k => ?_)
    | lift_lets -underBinder; intro x; try clear_value x
    | fail_if_no_progress beta_reduce
    | split

theorem State.clearTrip_quiet {s0 : State} {s : State} {a1 : ℕ} (h : Quiet s0 s) :
    Quiet s0 (State.clearTrip s a1) := by
  unfold State.clearTrip
  repeat' first
    | with_reducible assumption
    | with_reducible refine State.onlyIf_quiet ?_ (fun x_ k => ?_)
    | with_reducible apply State.flag_quiet
    | with_reducible apply State.wr_quiet
    | with_reducible apply quiet_ite

theorem State.showChop_quiet {s0 : State} {s : State} (h : Quiet s0 s) :
    Quiet s0 (State.showChop s) := by
  unfold State.showChop
  repeat' first
    | with_reducible assumption
    | with_reducible apply State.wr_quiet
    | with_reducible refine foldEach_quiet (fun a t k => ?_) _ ?_

theorem State.clearChop_quiet {s0 : State} {s : State} {a1 : ℕ} (h : Quiet s0 s) :
    Quiet s0 (State.clearChop s a1) := by
  unfold State.clearChop
  repeat' first
    | with_reducible assumption
    | with_reducible apply State.flag_quiet
    | with_reducible apply State.showChop_quiet
    | with_reducible apply State.wr_quiet
    | with_reducible apply quiet_ite

theorem State.showLadders_quiet {s0 : State} {s : State} (h : Quiet s0 s) :
    Quiet s0 (State.showLadders s) := by
  unfold State.showLadders
  repeat' first
    | with_reducible assumption
    | with_reducible apply State.wr_quiet

theorem State.seqRelease_quiet {s0 : State} {s : State} {a1 : ℕ} (h : Quiet s0 s) :
    Quiet s0 (State.seqRelease s a1) := by
  unfold State.seqRelease
  repeat' first
    | with_reducible assumption
    | with_reducible apply State.setSeq_quiet
    | with_reducible apply State.releaseClaims_quiet

theorem State.seqRunEnd_quiet {s0 : State} {s : State} {a1 : ℕ} (h : Quiet s0 s) :
    Quiet s0 (State.seqRunEnd s a1) := by
  unfold State.seqRunEnd
  repeat' first
    | with_reducible assumption
    | with_reducible apply State.setSeq_quiet
    | with_reducible apply State.flag_quiet
    | with_reducible apply State.wr_quiet
    | with_reducible apply State.seqRelease_quiet
    | with_reducible apply quiet_ite

theorem State.seqDisable_quiet {s0 : State} {s : State} {a1 : ℕ} (h : Quiet s0 s) :
    Quiet s0 (State.seqDisable s a1) := by
  unfold State.seqDisable
  repeat' first
    | with_reducible assumption
    | with_reducible apply State.seqRunEnd_quiet
    | with_reducible apply State.setSeq_quiet
    | with_reducible apply State.wr_quiet

theorem State.injDisable_quiet {s0 : State} {s : State} {a1 : ℕ} {a2 : ℕ} (h : Quiet s0 s) :
    Quiet s0 (State.injDisable s a1 a2) := by
  unfold State.injDisable
  repeat' first
    | with_reducible assumption
    | with_reducible apply State.wr2_quiet
    | with_reducible apply State.releaseClaims_quiet
    | with_reducible apply quiet_ite

theorem State.pairErr_quiet {s0 : State} {s : State} {a1 : ℕ} {a2 : ℕ} (h : Quiet s0 s) :
    Quiet s0 (State.pairErr s a1 a2) := by
  unfold State.pairErr
  repeat' first
    | with_reducible assumption
    | with_reducible apply State.wr_quiet
    | with_reducible apply State.flag_quiet

theorem State.acquire_quiet {s0 : State} {s : State} {a1 : ℕ} {a2 : ConvJob} (h : Quiet s0 s) :
    Quiet s0 (State.acquire s a1 a2) := by
  unfold State.acquire
  repeat' first
    | with_reducible assumption
    | with_reducible apply State.flag_quiet
    | with_reducible apply State.setAdc_quiet

theorem State.pairSample_quiet {s0 : State} {s : State} {a1 : ℕ} {a2 : ℕ} {a3 : ℕ} (h : Quiet s0 s) :
    Quiet s0 (State.pairSample s a1 a2 a3) := by
  unfold State.pairSample
  repeat' first
    | with_reducible assumption
    | with_reducible apply State.acquire_quiet
    | with_reducible apply quiet_ite

theorem State.burstStart_quiet {s0 : State} {s : State} {a1 : ℕ} (h : Quiet s0 s) :
    Quiet s0 (State.burstStart s a1) := by
  unfold State.burstStart
  repeat' first
    | with_reducible assumption
    | with_reducible apply State.flag_quiet
    | with_reducible apply State.pairErr_quiet
    | with_reducible apply State.setPair_quiet
    | with_reducible apply State.wr_quiet
    | with_reducible apply State.pairSample_quiet
    | with_reducible apply quiet_ite

theorem State.pairDisarm_quiet {s0 : State} {s : State} {a1 : ℕ} (h : Quiet s0 s) :
    Quiet s0 (State.pairDisarm s a1) := by
  unfold State.pairDisarm
  repeat' first
    | with_reducible assumption
    | with_reducible apply State.wr_quiet
    | with_reducible apply State.setPair_quiet
    | with_reducible apply State.releaseClaims_quiet
    | with_reducible refine foldEach_quiet (fun a t k => ?_) _ ?_

theorem State.seqErr_quiet {s0 : State} {s : State} {a1 : ℕ} {a2 : ℕ} (h : Quiet s0 s) :
    Quiet s0 (State.seqErr s a1 a2) := by
  unfold State.seqErr
  repeat' first
    | with_reducible assumption
    | with_reducible apply State.wr_quiet
    | with_reducible apply State.flag_quiet

theorem State.seqStart_quiet {s0 : State} {s : State} {a1 : ℕ} (h : Quiet s0 s) :
    Quiet s0 (State.seqStart s a1) := by
  unfold State.seqStart
  repeat' first
    | with_reducible assumption
    | with_reducible apply State.seqErr_quiet
    | with_reducible apply State.bump_quiet
    | with_reducible apply State.flag_quiet
    | with_reducible apply State.setSeq_quiet
    | with_reducible apply quiet_ite

theorem State.issueEntry_quiet {s0 : State} {s : State} {a1 : ℕ} {a2 : ℕ} {a3 : ℕ} (h : Quiet s0 s) :
    Quiet s0 (State.issueEntry s a1 a2 a3) := by
  unfold State.issueEntry
  repeat' first
    | with_reducible assumption
    | with_reducible apply State.acquire_quiet
    | with_reducible apply quiet_ite
    | fail_if_no_progress beta_reduce
    | split

theorem State.trigMiss_quiet {s0 : State} {s : State} {a1 : ℕ} (h : Quiet s0 s) :
    Quiet s0 (State.trigMiss s a1) := by
  unfold State.trigMiss
  repeat' first
    | with_reducible assumption
    | with_reducible apply State.bump_quiet
    | with_reducible apply State.flag_quiet

theorem State.startSlot_quiet {s0 : State} {s : State} {a1 : ℕ} {a2 : ℕ} (h : Quiet s0 s) :
    Quiet s0 (State.startSlot s a1 a2) := by
  unfold State.startSlot
  repeat' first
    | with_reducible assumption
    | with_reducible apply State.setAdc_quiet
    | with_reducible apply State.acquire_quiet
    | with_reducible apply State.wr_quiet

theorem State.release_quiet {s0 : State} {s : State} {a1 : ℕ} (h : Quiet s0 s) :
    Quiet s0 (State.release s a1) := by
  unfold State.release
  repeat' first
    | with_reducible assumption
    | with_reducible apply State.wr_quiet
    | with_reducible apply State.setAdc_quiet

theorem State.preempt_quiet {s0 : State} {s : State} {a1 : ℕ} {a2 : ℕ} (h : Quiet s0 s) :
    Quiet s0 (State.preempt s a1 a2) := by
  unfold State.preempt
  repeat' first
    | with_reducible assumption
    | with_reducible refine State.onlyIf_quiet ?_ (fun x_ k => ?_)
    | with_reducible apply State.setAdc_quiet
    | with_reducible apply State.release_quiet
    | with_reducible apply State.seqRunEnd_quiet
    | with_reducible apply State.setSeq_quiet
    | with_reducible refine foldEach_quiet (fun a t k => ?_) _ ?_
    | with_reducible apply quiet_ite

theorem State.injTrig_quiet {s0 : State} {s : State} {a1 : ℕ} {a2 : ℕ} (h : Quiet s0 s) :
    Quiet s0 (State.injTrig s a1 a2) := by
  unfold State.injTrig
  repeat' first
    | with_reducible assumption
    | with_reducible apply State.trigMiss_quiet
    | with_reducible apply State.flag_quiet
    | with_reducible apply State.startSlot_quiet
    | with_reducible apply State.preempt_quiet
    | with_reducible apply quiet_ite

theorem State.injRoute_quiet {s0 : State} {s : State} {a1 : ℕ} {a2 : ℕ} (h : Quiet s0 s) :
    Quiet s0 (State.injRoute s a1 a2) := by
  unfold State.injRoute
  repeat' first
    | with_reducible assumption
    | with_reducible apply State.injTrig_quiet
    | with_reducible apply State.takePulse_quiet

theorem State.calEnd_quiet {s0 : State} {s : State} {a1 : ℕ} (h : Quiet s0 s) :
    Quiet s0 (State.calEnd s a1) := by
  unfold State.calEnd
  repeat' first
    | with_reducible assumption
    | with_reducible apply State.wr_quiet

theorem State.pairArm_quiet {s0 : State} {s : State} {a1 : ℕ} (h : Quiet s0 s) :
    Quiet s0 (State.pairArm s a1) := by
  unfold State.pairArm
  repeat' first
    | with_reducible assumption
    | with_reducible apply State.pairErr_quiet
    | with_reducible refine State.claimAll_quiet ?_ (fun x_ k => ?_) (fun x_ k => ?_)
    | with_reducible apply State.flag_quiet
    | with_reducible apply State.setPair_quiet
    | with_reducible apply State.claimRefused_quiet
    | with_reducible apply quiet_ite
    | fail_if_no_progress beta_reduce
    | split

theorem State.sendLink_quiet {s0 : State} {s : State} {a1 : LinkWord} (h : Quiet s0 s) :
    Quiet s0 (State.sendLink s a1) := by
  unfold State.sendLink
  repeat' first
    | with_reducible assumption
    | with_reducible apply quiet_ite
    | fail_if_no_progress with_reducible apply quiet_mk (s := _)

theorem State.keepAin_quiet {s0 : State} {s : State} {a1 : ℕ} {a2 : ℕ} (h : Quiet s0 s) :
    Quiet s0 (State.keepAin s a1 a2) := by
  unfold State.keepAin
  repeat' first
    | with_reducible assumption
    | with_reducible apply State.srcWord_quiet

theorem State.ringClear_quiet {s0 : State} {s : State} {a1 : ℕ} (h : Quiet s0 s) :
    Quiet s0 (State.ringClear s a1) := by
  unfold State.ringClear
  repeat' first
    | with_reducible assumption
    | with_reducible apply State.wr_quiet
    | with_reducible apply State.setSeq_quiet

theorem State.seqEnable_quiet {s0 : State} {s : State} {a1 : ℕ} (h : Quiet s0 s) :
    Quiet s0 (State.seqEnable s a1) := by
  unfold State.seqEnable
  repeat' first
    | with_reducible assumption
    | with_reducible apply State.ringClear_quiet
    | with_reducible apply State.seqErr_quiet
    | with_reducible refine State.claimAll_quiet ?_ (fun x_ k => ?_) (fun x_ k => ?_)
    | with_reducible apply State.flag_quiet
    | with_reducible apply State.setSeq_quiet
    | with_reducible apply quiet_ite

theorem State.calStart_quiet {s0 : State} {s : State} {a1 : ℕ} (h : Quiet s0 s) :
    Quiet s0 (State.calStart s a1) := by
  unfold State.calStart
  repeat' first
    | with_reducible assumption
    | with_reducible apply State.flag_quiet
    | with_reducible apply State.wr_quiet
    | with_reducible apply State.setAdc_quiet
    | with_reducible apply quiet_ite

theorem State.issueGroup_quiet {s0 : State} {s : State} {a1 : ℕ} (h : Quiet s0 s) :
    Quiet s0 (State.issueGroup s a1) := by
  unfold State.issueGroup
  repeat' first
    | with_reducible assumption
    | with_reducible apply State.setSeq_quiet
    | with_reducible apply State.wr_quiet
    | with_reducible apply State.issueEntry_quiet
    | with_reducible refine foldEach_quiet (fun a t k => ?_) _ ?_
    | with_reducible apply quiet_ite
    | lift_lets -underBinder; intro x; try clear_value x
    | fail_if_no_progress beta_reduce
    | split

theorem State.seqResult_quiet {s0 : State} {s : State} {a1 : ℕ} {a2 : ConvJob} {a3 : ℕ} {a4 : ℕ} {a5 : ℕ} (h : Quiet s0 s) :
    Quiet s0 (State.seqResult s a1 a2 a3 a4 a5) := by
  unfold State.seqResult
  repeat' first
    | with_reducible assumption
    | intro x; refine quiet_cut (s0 := s0) x ?_ ?_; (on_goal 2 => clear_value x); (on_goal 1 => subst x)
    | intro x; try clear_value x
    | with_reducible apply State.keepAin_quiet
    | with_reducible apply State.wr_quiet
    | with_reducible apply State.sendLink_quiet
    | with_reducible apply State.seqRunEnd_quiet
    | with_reducible apply State.setSeq_quiet
    | with_reducible apply quiet_ite
    | lift_lets -underBinder; intro x; try clear_value x
    | fail_if_no_progress beta_reduce
    | split

theorem State.injEnable_quiet {s0 : State} {s : State} {a1 : ℕ} {a2 : ℕ} (h : Quiet s0 s) :
    Quiet s0 (State.injEnable s a1 a2) := by
  unfold State.injEnable
  repeat' first
    | with_reducible assumption
    | with_reducible refine State.claimAll_quiet ?_ (fun x_ k => ?_) (fun x_ k => ?_)
    | with_reducible apply State.wr2_quiet
    | with_reducible apply id_quiet

theorem State.owSecond_quiet {s0 : State} {s : State} {a1 : ℕ} {a2 : ConvJob} (h : Quiet s0 s) :
    Quiet s0 (State.owSecond s a1 a2) := by
  unfold State.owSecond
  repeat' first
    | with_reducible assumption
    | with_reducible apply State.acquire_quiet
    | with_reducible apply State.setAdc_quiet

theorem State.eocInj_quiet {s0 : State} {s : State} {a1 : ℕ} {a2 : AdcS} (h : Quiet s0 s) :
    Quiet s0 (State.eocInj s a1 a2) := by
  unfold State.eocInj
  repeat' first
    | with_reducible assumption
    | intro x; refine quiet_cut (s0 := s0) x ?_ ?_; (on_goal 2 => clear_value x); (on_goal 1 => subst x)
    | intro x; try clear_value x
    | with_reducible refine State.onlyIf_quiet ?_ (fun x_ k => ?_)
    | with_reducible apply State.release_quiet
    | with_reducible apply State.flag_quiet
    | with_reducible apply State.wr2_quiet
    | with_reducible apply State.wr_quiet
    | with_reducible apply State.sendLink_quiet
    | with_reducible apply State.keepAin_quiet
    | with_reducible apply State.owSecond_quiet
    | with_reducible apply quiet_ite
    | lift_lets -underBinder; intro x; try clear_value x
    | fail_if_no_progress beta_reduce
    | split

theorem State.pairCal_quiet {s0 : State} {s : State} {a1 : ℕ} (h : Quiet s0 s) :
    Quiet s0 (State.pairCal s a1) := by
  unfold State.pairCal
  repeat' first
    | with_reducible assumption
    | with_reducible apply State.flag_quiet
    | with_reducible apply State.wr_quiet
    | with_reducible apply quiet_ite

theorem State.owBetween_quiet {s0 : State} {s : State} {a1 : ℕ} {a2 : ConvJob} (h : Quiet s0 s) :
    Quiet s0 (State.owBetween s a1 a2) := by
  unfold State.owBetween
  repeat' first
    | with_reducible assumption
    | with_reducible apply State.preempt_quiet
    | with_reducible apply State.release_quiet
    | with_reducible apply State.setAdc_quiet
    | with_reducible apply State.owSecond_quiet
    | with_reducible apply quiet_ite

theorem State.eocSeq_quiet {s0 : State} {s : State} {a1 : ℕ} {a2 : AdcS} (h : Quiet s0 s) :
    Quiet s0 (State.eocSeq s a1 a2) := by
  unfold State.eocSeq
  repeat' first
    | with_reducible assumption
    | with_reducible apply State.seqRunEnd_quiet
    | with_reducible apply State.release_quiet
    | with_reducible apply State.owBetween_quiet
    | with_reducible apply State.setAdc_quiet
    | with_reducible refine State.onlyIf_quiet ?_ (fun x_ k => ?_)
    | with_reducible apply State.flag_quiet
    | with_reducible apply State.seqResult_quiet
    | with_reducible apply quiet_ite

theorem State.loadAdcTrims_quiet {s0 : State} {s : State} {a1 : ℕ} (h : Quiet s0 s) :
    Quiet s0 (State.loadAdcTrims s a1) := by
  unfold State.loadAdcTrims
  repeat' first
    | with_reducible assumption
    | with_reducible apply State.wr_quiet

theorem State.dDrop_quiet {s0 : State} {s : State} {a1 : ℕ} {a2 : ℕ} {a3 : ℕ} (h : Quiet s0 s) :
    Quiet s0 (State.dDrop s a1 a2 a3) := by
  unfold State.dDrop
  repeat' first
    | with_reducible assumption
    | fail_if_no_progress with_reducible apply quiet_mk (s := _)

end Sys2Proof.Machine
end

