-- ==== Sys2Proof/Laws/QuietOpsB.lean ====
section
/-! SUPPORT. Shared operations that store to no memory: part 2 of 4, in the order in which the operations build on one another. -/

namespace Sys2Proof.Machine

theorem State.dFill_quiet {s0 : State} {s : State} {a1 : ℕ} {a2 : ℕ} (h : Quiet s0 s) :
    Quiet s0 (State.dFill s a1 a2) := by
  unfold State.dFill
  repeat' first
    | with_reducible assumption
    | with_reducible refine foldEach_quiet (fun a t k => ?_) _ ?_
    | with_reducible apply quiet_ite
    | fail_if_no_progress with_reducible apply quiet_mk (s := _)

theorem State.dStore_quiet {s0 : State} {s : State} {a1 : ℕ} {a2 : ℕ} {a3 : ℕ} {a4 : ℕ} (h : Quiet s0 s) :
    Quiet s0 (State.dStore s a1 a2 a3 a4) := by
  unfold State.dStore
  repeat' first
    | with_reducible assumption
    | with_reducible apply State.dFill_quiet
    | with_reducible refine foldEach_quiet (fun a t k => ?_) _ ?_
    | fail_if_no_progress with_reducible apply quiet_mk (s := _)

theorem State.setRwi_quiet {s0 : State} {s : State} {a1 : ℕ} {a2 : ℕ} (h : Quiet s0 s) :
    Quiet s0 (State.setRwi s a1 a2) := by
  unfold State.setRwi
  repeat' first
    | with_reducible assumption
    | with_reducible apply State.wr2_quiet
    | with_reducible refine foldEach_quiet (fun a t k => ?_) _ ?_

theorem State.setStage_quiet {s0 : State} {s : State} {a1 : StageRec} {a2 : ℕ} (h : Quiet s0 s) :
    Quiet s0 (State.setStage s a1 a2) := by
  unfold State.setStage
  repeat' first
    | with_reducible assumption
    | with_reducible apply State.wr_quiet

theorem State.clearRwi_quiet {s0 : State} {s : State} (h : Quiet s0 s) :
    Quiet s0 (State.clearRwi s) := by
  unfold State.clearRwi
  repeat' first
    | with_reducible assumption
    | with_reducible apply State.resetFields_quiet

theorem State.setSafety_quiet {s0 : State} {s : State} {a1 : List ℕ} {a2 : ℕ} (h : Quiet s0 s) :
    Quiet s0 (State.setSafety s a1 a2) := by
  unfold State.setSafety
  repeat' first
    | with_reducible assumption
    | with_reducible apply State.wr2_quiet
    | with_reducible apply State.wr_quiet
    | with_reducible refine foldEach_quiet (fun a t k => ?_) _ ?_

theorem State.setSections_quiet {s0 : State} {s : State} {a1 : Image} (h : Quiet s0 s) :
    Quiet s0 (State.setSections s a1) := by
  unfold State.setSections
  repeat' first
    | with_reducible assumption
    | with_reducible apply State.setStage_quiet
    | with_reducible apply State.clearRwi_quiet
    | with_reducible apply State.setSafety_quiet
    | with_reducible refine foldEach_quiet (fun a t k => ?_) _ ?_

theorem State.setImageFields_quiet {s0 : State} {s : State} {a1 : Image} (h : Quiet s0 s) :
    Quiet s0 (State.setImageFields s a1) := by
  unfold State.setImageFields
  repeat' first
    | with_reducible assumption
    | with_reducible apply State.setRwi_quiet
    | with_reducible apply State.setSections_quiet
    | with_reducible refine foldEach_quiet (fun a t k => ?_) _ ?_

theorem State.isoCalStep_quiet {s0 : State} {s : State} {a1 : ℕ} {a2 : ℤ} (h : Quiet s0 s) :
    Quiet s0 (State.isoCalStep s a1 a2) := by
  unfold State.isoCalStep
  repeat' first
    | with_reducible assumption
    | with_reducible apply State.setIso_quiet

theorem State.isoEmit_quiet {s0 : State} {s : State} {a1 : ℕ} {a2 : List Bool} (h : Quiet s0 s) :
    Quiet s0 (State.isoEmit s a1 a2) := by
  unfold State.isoEmit
  repeat' first
    | with_reducible assumption
    | with_reducible apply State.setIso_quiet
    | with_reducible refine State.onlyIf_quiet ?_ (fun x_ k => ?_)
    | with_reducible apply State.isoCalStep_quiet
    | with_reducible apply State.wrI_quiet
    | with_reducible apply State.srcWord_quiet
    | with_reducible apply State.wr_quiet
    | with_reducible apply State.bump_quiet
    | with_reducible apply State.flag_quiet
    | with_reducible apply State.sendLink_quiet
    | with_reducible apply quiet_ite

theorem State.isoCount_quiet {s0 : State} {s : State} {a1 : ℕ} {a2 : ℕ} (h : Quiet s0 s) :
    Quiet s0 (State.isoCount s a1 a2) := by
  unfold State.isoCount
  repeat' first
    | with_reducible assumption
    | with_reducible apply State.setIso_quiet

theorem State.isoCalEnd_quiet {s0 : State} {s : State} {a1 : ℕ} (h : Quiet s0 s) :
    Quiet s0 (State.isoCalEnd s a1) := by
  unfold State.isoCalEnd
  repeat' first
    | with_reducible assumption
    | with_reducible apply State.isoCount_quiet
    | with_reducible apply State.wr_quiet
    | with_reducible refine State.onlyIf_quiet ?_ (fun x_ k => ?_)

theorem State.isoAbandon_quiet {s0 : State} {s : State} {a1 : ℕ} (h : Quiet s0 s) :
    Quiet s0 (State.isoAbandon s a1) := by
  unfold State.isoAbandon
  repeat' first
    | with_reducible assumption
    | with_reducible apply State.wr_quiet
    | with_reducible apply State.flag_quiet
    | with_reducible apply State.isoCalEnd_quiet
    | with_reducible apply quiet_ite

theorem State.loadIsoTrims_quiet {s0 : State} {s : State} {a1 : ℕ} (h : Quiet s0 s) :
    Quiet s0 (State.loadIsoTrims s a1) := by
  unfold State.loadIsoTrims
  repeat' first
    | with_reducible assumption
    | with_reducible apply State.wr_quiet

theorem State.isoRestart_quiet {s0 : State} {s : State} {a1 : ℕ} (h : Quiet s0 s) :
    Quiet s0 (State.isoRestart s a1) := by
  unfold State.isoRestart
  repeat' first
    | with_reducible assumption
    | with_reducible apply State.isoCount_quiet

theorem State.isoResetEnd_quiet {s0 : State} {s : State} (h : Quiet s0 s) :
    Quiet s0 (State.isoResetEnd s) := by
  unfold State.isoResetEnd
  repeat' first
    | with_reducible assumption
    | with_reducible apply State.isoRestart_quiet
    | with_reducible refine foldEach_quiet (fun a t k => ?_) _ ?_

theorem State.isoAlign_quiet {s0 : State} {s : State} {a1 : ℕ} (h : Quiet s0 s) :
    Quiet s0 (State.isoAlign s a1) := by
  unfold State.isoAlign
  repeat' first
    | with_reducible assumption
    | with_reducible apply State.isoCount_quiet
    | with_reducible refine foldEach_quiet (fun a t k => ?_) _ ?_
    | with_reducible apply quiet_ite

theorem State.isoStart_quiet {s0 : State} {s : State} {a1 : ℕ} (h : Quiet s0 s) :
    Quiet s0 (State.isoStart s a1) := by
  unfold State.isoStart
  repeat' first
    | with_reducible assumption
    | with_reducible apply State.flag_quiet
    | with_reducible apply State.isoRestart_quiet
    | with_reducible apply quiet_ite

theorem State.showIsoDead_quiet {s0 : State} {s : State} (h : Quiet s0 s) :
    Quiet s0 (State.showIsoDead s) := by
  unfold State.showIsoDead
  repeat' first
    | with_reducible assumption
    | with_reducible refine State.onlyIf_quiet ?_ (fun x_ k => ?_)
    | with_reducible apply State.wr_quiet
    | with_reducible refine foldEach_quiet (fun a t k => ?_) _ ?_

theorem State.isoSetEn_quiet {s0 : State} {s : State} {a1 : ℕ} {a2 : Bool} (h : Quiet s0 s) :
    Quiet s0 (State.isoSetEn s a1 a2) := by
  unfold State.isoSetEn
  repeat' first
    | with_reducible assumption
    | with_reducible refine State.claimAll_quiet ?_ (fun x_ k => ?_) (fun x_ k => ?_)
    | with_reducible apply State.isoStart_quiet
    | with_reducible apply State.flag_quiet
    | with_reducible apply State.releaseClaims_quiet
    | with_reducible apply State.wr_quiet
    | with_reducible apply quiet_ite

theorem State.isoCalStart_quiet {s0 : State} {s : State} {a1 : ℕ} (h : Quiet s0 s) :
    Quiet s0 (State.isoCalStart s a1) := by
  unfold State.isoCalStart
  repeat' first
    | with_reducible assumption
    | with_reducible apply State.flag_quiet
    | with_reducible apply State.isoCount_quiet
    | with_reducible apply State.wr_quiet
    | with_reducible apply State.setIso_quiet
    | with_reducible apply quiet_ite

theorem State.markSat_quiet {s0 : State} {s : State} {a1 : ℕ} (h : Quiet s0 s) :
    Quiet s0 (State.markSat s a1) := by
  unfold State.markSat
  repeat' first
    | with_reducible assumption
    | with_reducible apply State.flag_quiet
    | with_reducible apply State.flag2_quiet
    | fail_if_no_progress beta_reduce
    | split

theorem State.putAcc_quiet {s0 : State} {s : State} {a1 : ℕ} {a2 : ℕ} {a3 : ℤ} (h : Quiet s0 s) :
    Quiet s0 (State.putAcc s a1 a2 a3) := by
  unfold State.putAcc
  repeat' first
    | with_reducible assumption
    | with_reducible refine State.onlyIf_quiet ?_ (fun x_ k => ?_)
    | with_reducible apply State.setLu_quiet
    | with_reducible apply State.markSat_quiet

theorem State.putD_quiet {s0 : State} {s : State} {a1 : ℕ} {a2 : ℕ} {a3 : ℕ} (h : Quiet s0 s) :
    Quiet s0 (State.putD s a1 a2 a3) := by
  unfold State.putD
  repeat' first
    | with_reducible assumption
    | with_reducible apply State.setLu_quiet

theorem State.putSat_quiet {s0 : State} {s : State} {a1 : ℕ} {a2 : ℕ} {a3 : ℤ} (h : Quiet s0 s) :
    Quiet s0 (State.putSat s a1 a2 a3) := by
  unfold State.putSat
  repeat' first
    | with_reducible assumption
    | with_reducible refine State.onlyIf_quiet ?_ (fun x_ k => ?_)
    | with_reducible apply State.putD_quiet
    | with_reducible apply State.markSat_quiet

theorem State.fillSlot_quiet {s0 : State} {s : State} {a1 : ℕ} {a2 : ℕ} {a3 : LinkWord} (h : Quiet s0 s) :
    Quiet s0 (State.fillSlot s a1 a2 a3) := by
  unfold State.fillSlot
  repeat' first
    | with_reducible assumption
    | with_reducible refine State.onlyIf_quiet ?_ (fun x_ k => ?_)
    | with_reducible apply State.flag2_quiet
    | with_reducible apply State.wr2_quiet
    | with_reducible refine foldEach_quiet (fun a t k => ?_) _ ?_

theorem State.lpMiss_quiet {s0 : State} {s : State} {a1 : ℕ} {a2 : ℕ} (h : Quiet s0 s) :
    Quiet s0 (State.lpMiss s a1 a2) := by
  unfold State.lpMiss
  repeat' first
    | with_reducible assumption
    | with_reducible apply State.wr2_quiet
    | with_reducible apply State.flag2_quiet

theorem State.lpArrive_quiet {s0 : State} {s : State} {a1 : ℕ} {a2 : ℕ} (h : Quiet s0 s) :
    Quiet s0 (State.lpArrive s a1 a2) := by
  unfold State.lpArrive
  repeat' first
    | with_reducible assumption
    | with_reducible apply State.lpMiss_quiet
    | with_reducible apply State.flag2_quiet
    | with_reducible apply State.setLu_quiet
    | with_reducible apply quiet_ite

theorem State.clearFresh_quiet {s0 : State} {s : State} {a1 : ℕ} {a2 : ℕ} (h : Quiet s0 s) :
    Quiet s0 (State.clearFresh s a1 a2) := by
  unfold State.clearFresh
  repeat' first
    | with_reducible assumption
    | with_reducible apply State.wr2_quiet
    | with_reducible refine foldEach_quiet (fun a t k => ?_) _ ?_

theorem State.lpRoute_quiet {s0 : State} {s : State} {a1 : ℕ} {a2 : ℕ} (h : Quiet s0 s) :
    Quiet s0 (State.lpRoute s a1 a2) := by
  unfold State.lpRoute
  repeat' first
    | with_reducible assumption
    | with_reducible apply State.lpArrive_quiet
    | with_reducible apply State.lpMiss_quiet
    | with_reducible apply State.clearFresh_quiet
    | with_reducible apply State.setLu_quiet
    | with_reducible apply quiet_ite
    | fail_if_no_progress beta_reduce
    | split

theorem State.clearBlk_quiet {s0 : State} {s : State} {a1 : ℕ} {a2 : ℕ} (h : Quiet s0 s) :
    Quiet s0 (State.clearBlk s a1 a2) := by
  unfold State.clearBlk
  repeat' first
    | with_reducible assumption
    | with_reducible apply State.wr2_quiet

theorem State.clearDue_quiet {s0 : State} {s : State} {a1 : ℕ} {a2 : ℕ} (h : Quiet s0 s) :
    Quiet s0 (State.clearDue s a1 a2) := by
  unfold State.clearDue
  repeat' first
    | with_reducible assumption
    | with_reducible apply State.clearBlk_quiet
    | with_reducible apply State.setLu_quiet
    | with_reducible refine foldEach_quiet (fun a t k => ?_) _ ?_
    | with_reducible apply quiet_ite

theorem State.blkEnd_quiet {s0 : State} {s : State} {a1 : ℕ} {a2 : ℕ} {a3 : ℕ} {a4 : ℤ} {a5 : Bool} {a6 : Bool} (h : Quiet s0 s) :
    Quiet s0 (State.blkEnd s a1 a2 a3 a4 a5 a6) := by
  unfold State.blkEnd
  repeat' first
    | with_reducible assumption
    | with_reducible apply State.putSat_quiet
    | with_reducible refine State.onlyIf_quiet ?_ (fun x_ k => ?_)
    | with_reducible apply State.flag2_quiet
    | with_reducible apply State.markSat_quiet

theorem State.blkPI_quiet {s0 : State} {s : State} {a1 : ℕ} {a2 : ℕ} {a3 : ℕ} {a4 : ℤ} (h : Quiet s0 s) :
    Quiet s0 (State.blkPI s a1 a2 a3 a4) := by
  unfold State.blkPI
  repeat' first
    | with_reducible assumption
    | with_reducible apply State.blkEnd_quiet
    | with_reducible apply State.wr2_quiet

theorem State.latchRun_quiet {s0 : State} {s : State} {a1 : ℕ} {a2 : ℕ} (h : Quiet s0 s) :
    Quiet s0 (State.latchRun s a1 a2) := by
  unfold State.latchRun
  repeat' first
    | with_reducible assumption
    | with_reducible apply State.setLu_quiet

theorem State.swapBank_quiet {s0 : State} {s : State} {a1 : ℕ} (h : Quiet s0 s) :
    Quiet s0 (State.swapBank s a1) := by
  unfold State.swapBank
  repeat' first
    | with_reducible assumption
    | with_reducible apply State.wr_quiet
    | with_reducible apply quiet_ite

theorem State.lpBegin_quiet {s0 : State} {s : State} {a1 : ℕ} (h : Quiet s0 s) :
    Quiet s0 (State.lpBegin s a1) := by
  unfold State.lpBegin
  repeat' first
    | with_reducible assumption
    | with_reducible apply State.wr2_quiet
    | with_reducible apply State.setLu_quiet
    | with_reducible apply State.flag_quiet
    | with_reducible apply State.wr_quiet
    | with_reducible apply State.latchRun_quiet
    | with_reducible apply State.clearDue_quiet
    | with_reducible apply State.swapBank_quiet
    | fail_if_no_progress beta_reduce
    | split

theorem State.bounds_quiet {s0 : State} {s : State} {a1 : ℕ} (h : Quiet s0 s) :
    Quiet s0 (State.bounds s a1) := by
  unfold State.bounds
  repeat' first
    | with_reducible assumption
    | with_reducible apply State.wr2_quiet
    | with_reducible refine foldEach_quiet (fun a t k => ?_) _ ?_

theorem State.lpPass_quiet {s0 : State} {s : State} {a1 : ℕ} {a2 : ℕ} (h : Quiet s0 s) :
    Quiet s0 (State.lpPass s a1 a2) := by
  unfold State.lpPass
  repeat' first
    | with_reducible assumption
    | with_reducible apply State.setLu_quiet
    | with_reducible apply State.wr2_quiet
    | with_reducible apply State.flag2_quiet
    | with_reducible apply State.bounds_quiet
    | with_reducible refine foldEach_quiet (fun a t k => ?_) _ ?_

theorem State.blkPR_quiet {s0 : State} {s : State} {a1 : ℕ} {a2 : ℕ} {a3 : ℕ} {a4 : ℤ} (h : Quiet s0 s) :
    Quiet s0 (State.blkPR s a1 a2 a3 a4) := by
  unfold State.blkPR
  repeat' first
    | with_reducible assumption
    | with_reducible apply State.wr2_quiet
    | with_reducible apply State.blkEnd_quiet
    | with_reducible apply quiet_ite

theorem State.landWrl_quiet {s0 : State} {s : State} {a1 : ℕ} {a2 : StagedWr} (h : Quiet s0 s) :
    Quiet s0 (State.landWrl s a1 a2) := by
  unfold State.landWrl
  repeat' first
    | with_reducible assumption
    | with_reducible apply State.writeCmp_quiet
    | with_reducible apply State.wr_quiet
    | with_reducible apply State.noteFields_quiet
    | with_reducible apply quiet_ite
    | fail_if_no_progress beta_reduce
    | split

theorem State.stageWrl_quiet {s0 : State} {s : State} {a1 : ℕ} {a2 : ℕ} {a3 : ℕ} {a4 : ℤ} (h : Quiet s0 s) :
    Quiet s0 (State.stageWrl s a1 a2 a3 a4) := by
  unfold State.stageWrl
  repeat' first
    | with_reducible assumption
    | intro x; try clear_value x
    | with_reducible refine State.onlyIf_quiet ?_ (fun x_ k => ?_)
    | with_reducible apply State.markSat_quiet
    | with_reducible apply State.flag_quiet
    | with_reducible apply State.setLu_quiet
    | with_reducible apply quiet_ite
    | lift_lets -underBinder; intro x; refine quiet_cut (s0 := s0) x ?_ ?_; (on_goal 2 => clear_value x); (on_goal 1 => subst x)
    | fail_if_no_progress beta_reduce
    | split

theorem State.captureWrl_quiet {s0 : State} {s : State} {a1 : ℕ} (h : Quiet s0 s) :
    Quiet s0 (State.captureWrl s a1) := by
  unfold State.captureWrl
  repeat' first
    | with_reducible assumption
    | with_reducible apply State.landWrl_quiet
    | with_reducible apply State.setLu_quiet
    | with_reducible refine foldEach_quiet (fun a t k => ?_) _ ?_
    | with_reducible apply quiet_ite
    | lift_lets -underBinder; intro x; try clear_value x
    | fail_if_no_progress beta_reduce
    | split

theorem State.lpSet_quiet {s0 : State} {s : State} {a1 : ℕ} {a2 : ℕ} (h : Quiet s0 s) :
    Quiet s0 (State.lpSet s a1 a2) := by
  unfold State.lpSet
  repeat' first
    | with_reducible assumption
    | with_reducible apply State.lpArrive_quiet
    | with_reducible apply State.setLu_quiet
    | with_reducible apply State.clearFresh_quiet

theorem State.putP_quiet {s0 : State} {s : State} {a1 : ℕ} {a2 : Bool} (h : Quiet s0 s) :
    Quiet s0 (State.putP s a1 a2) := by
  unfold State.putP
  repeat' first
    | with_reducible assumption
    | with_reducible apply State.setLu_quiet

theorem State.swapIdle_quiet {s0 : State} {s : State} {a1 : ℕ} (h : Quiet s0 s) :
    Quiet s0 (State.swapIdle s a1) := by
  unfold State.swapIdle
  repeat' first
    | with_reducible assumption
    | with_reducible apply State.swapBank_quiet
    | with_reducible apply quiet_ite

theorem State.lpEnd_quiet {s0 : State} {s : State} {a1 : ℕ} (h : Quiet s0 s) :
    Quiet s0 (State.lpEnd s a1) := by
  unfold State.lpEnd
  repeat' first
    | with_reducible assumption
    | with_reducible apply State.setLu_quiet
    | with_reducible apply State.swapIdle_quiet
    | with_reducible apply State.wr_quiet

theorem State.fillUnit_quiet {s0 : State} {s : State} {a1 : ℕ} {a2 : LinkWord} (h : Quiet s0 s) :
    Quiet s0 (State.fillUnit s a1 a2) := by
  unfold State.fillUnit
  repeat' first
    | with_reducible assumption
    | with_reducible apply State.fillSlot_quiet
    | with_reducible apply State.lpSet_quiet
    | with_reducible refine foldEach_quiet (fun a t k => ?_) _ ?_

theorem State.putDuty_quiet {s0 : State} {s : State} {a1 : ℕ} {a2 : ℕ} {a3 : ℤ} (h : Quiet s0 s) :
    Quiet s0 (State.putDuty s a1 a2 a3) := by
  unfold State.putDuty
  repeat' first
    | with_reducible assumption
    | with_reducible refine State.onlyIf_quiet ?_ (fun x_ k => ?_)
    | with_reducible apply State.putD_quiet
    | with_reducible apply State.markSat_quiet

theorem State.swapReq_quiet {s0 : State} {s : State} {a1 : ℕ} (h : Quiet s0 s) :
    Quiet s0 (State.swapReq s a1) := by
  unfold State.swapReq
  repeat' first
    | with_reducible assumption
    | with_reducible apply State.swapIdle_quiet
    | with_reducible apply State.flag_quiet
    | with_reducible apply quiet_ite

theorem State.lpEnable_quiet {s0 : State} {s : State} {a1 : ℕ} {a2 : ℕ} (h : Quiet s0 s) :
    Quiet s0 (State.lpEnable s a1 a2) := by
  unfold State.lpEnable
  repeat' first
    | with_reducible assumption
    | with_reducible apply State.flag2_quiet
    | with_reducible apply State.setLu_quiet
    | with_reducible apply quiet_ite

theorem State.lpDisable_quiet {s0 : State} {s : State} {a1 : ℕ} {a2 : ℕ} (h : Quiet s0 s) :
    Quiet s0 (State.lpDisable s a1 a2) := by
  unfold State.lpDisable
  repeat' first
    | with_reducible assumption
    | with_reducible apply State.wr2_quiet
    | with_reducible apply State.setLu_quiet
    | with_reducible apply State.swapIdle_quiet
    | with_reducible apply State.bounds_quiet
    | with_reducible refine foldEach_quiet (fun a t k => ?_) _ ?_
    | with_reducible apply quiet_ite

theorem State.clrReq_quiet {s0 : State} {s : State} {a1 : ℕ} {a2 : ℕ} (h : Quiet s0 s) :
    Quiet s0 (State.clrReq s a1 a2) := by
  unfold State.clrReq
  repeat' first
    | with_reducible assumption
    | with_reducible apply State.flag2_quiet
    | with_reducible apply State.clearBlk_quiet
    | with_reducible apply quiet_ite

theorem State.tblMet_quiet {s0 : State} {s : State} {a1 : ℕ} (h : Quiet s0 s) :
    Quiet s0 (State.tblMet s a1) := by
  unfold State.tblMet
  repeat' first
    | with_reducible assumption
    | with_reducible apply State.logEv_quiet
    | with_reducible apply State.eccCount_quiet

theorem State.fcRefuse_quiet {s0 : State} {s : State} {a1 : ℕ} {a2 : ℕ} (h : Quiet s0 s) :
    Quiet s0 (State.fcRefuse s a1 a2) := by
  unfold State.fcRefuse
  repeat' first
    | with_reducible assumption
    | with_reducible apply State.wr_quiet
    | with_reducible apply State.flag_quiet

theorem State.tblNext_quiet {s0 : State} {s : State} (h : Quiet s0 s) :
    Quiet s0 (State.tblNext s) := by
  unfold State.tblNext
  repeat' first
    | with_reducible assumption
    | with_reducible apply State.wr_quiet
    | with_reducible apply quiet_ite

theorem State.showProbe_quiet {s0 : State} {s : State} {a1 : ℕ} {a2 : ℤ} {a3 : ℤ} (h : Quiet s0 s) :
    Quiet s0 (State.showProbe s a1 a2 a3) := by
  unfold State.showProbe
  repeat' first
    | with_reducible assumption
    | with_reducible apply State.wr_quiet

theorem State.readDir_quiet {s0 : State} {s : State} {a1 : ℕ} (h : Quiet s0 s) :
    Quiet s0 (State.readDir s a1) := by
  unfold State.readDir
  repeat' first
    | with_reducible assumption
    | with_reducible apply State.setFc_quiet

theorem State.fcStop_quiet {s0 : State} {s : State} {a1 : ℕ} (h : Quiet s0 s) :
    Quiet s0 (State.fcStop s a1) := by
  unfold State.fcStop
  repeat' first
    | with_reducible assumption
    | with_reducible apply State.fcEnterHold_quiet
    | with_reducible apply quiet_ite

theorem State.landRefs_quiet {s0 : State} {s : State} {a1 : ℕ} {a2 : ℤ} {a3 : ℤ} (h : Quiet s0 s) :
    Quiet s0 (State.landRefs s a1 a2 a3) := by
  unfold State.landRefs
  repeat' first
    | with_reducible assumption
    | with_reducible apply State.wrI_quiet
    | with_reducible apply State.wr2_quiet
    | with_reducible apply quiet_ite

theorem State.fcObserve_quiet {s0 : State} {s : State} {a1 : ℕ} (h : Quiet s0 s) :
    Quiet s0 (State.fcObserve s a1) := by
  unfold State.fcObserve
  repeat' first
    | with_reducible assumption
    | with_reducible apply State.wr_quiet
    | with_reducible apply State.setFc_quiet
    | with_reducible apply State.setLu_quiet
    | with_reducible refine State.onlyIf_quiet ?_ (fun x_ k => ?_)
    | with_reducible apply State.flag_quiet
    | with_reducible apply quiet_ite

theorem State.fcReleaseHold_quiet {s0 : State} {s : State} {a1 : ℕ} (h : Quiet s0 s) :
    Quiet s0 (State.fcReleaseHold s a1) := by
  unfold State.fcReleaseHold
  repeat' first
    | with_reducible assumption
    | with_reducible apply State.setFc_quiet
    | with_reducible apply State.restartLeg_quiet
    | with_reducible apply State.flag2_quiet
    | with_reducible refine foldEach_quiet (fun a t k => ?_) _ ?_
    | with_reducible apply quiet_ite

theorem State.startPulse_quiet {s0 : State} {s : State} {a1 : ℕ} {a2 : ℕ} {a3 : ℕ} (h : Quiet s0 s) :
    Quiet s0 (State.startPulse s a1 a2 a3) := by
  unfold State.startPulse
  repeat' first
    | with_reducible assumption
    | with_reducible apply State.setFc_quiet

theorem State.fcTorque_quiet {s0 : State} {s : State} {a1 : ℕ} (h : Quiet s0 s) :
    Quiet s0 (State.fcTorque s a1) := by
  unfold State.fcTorque
  repeat' first
    | with_reducible assumption
    | with_reducible apply State.setFc_quiet

theorem State.setTbl_quiet {s0 : State} {s : State} {a1 : ℕ} {a2 : ℕ} {a3 : ℕ} (h : Quiet s0 s) :
    Quiet s0 (State.setTbl s a1 a2 a3) := by
  unfold State.setTbl
  repeat' first
    | with_reducible assumption
    | with_reducible apply quiet_ite
    | fail_if_no_progress with_reducible apply quiet_mk (s := _)

theorem State.tblPort_quiet {s0 : State} {s : State} {a1 : Option Master} {a2 : Bool} {a3 : ℕ} (h : Quiet s0 s) :
    Quiet s0 (State.tblPort s a1 a2 a3) := by
  unfold State.tblPort
  repeat' first
    | with_reducible assumption
    | with_reducible apply State.errTo_quiet
    | with_reducible apply State.ackTo_quiet
    | with_reducible apply State.tblNext_quiet
    | with_reducible apply State.setTbl_quiet
    | with_reducible apply State.flag_quiet
    | with_reducible apply State.tblMet_quiet
    | with_reducible apply State.setResp_quiet
    | with_reducible apply quiet_ite
    | fail_if_no_progress beta_reduce
    | split

theorem State.tblAccess_quiet {s0 : State} {s : State} {a1 : Master} {a2 : Bool} {a3 : ℕ} (h : Quiet s0 s) :
    Quiet s0 (State.tblAccess s a1 a2 a3) := by
  unfold State.tblAccess
  repeat' first
    | with_reducible assumption
    | with_reducible apply State.tblPort_quiet
    | with_reducible apply quiet_ite
    | fail_if_no_progress with_reducible apply quiet_mk (s := _)

theorem State.fcDisable_quiet {s0 : State} {s : State} {a1 : ℕ} (h : Quiet s0 s) :
    Quiet s0 (State.fcDisable s a1) := by
  unfold State.fcDisable
  repeat' first
    | with_reducible assumption
    | with_reducible apply State.setFc_quiet
    | with_reducible apply State.wr_quiet
    | with_reducible apply State.releaseClaims_quiet
    | with_reducible apply quiet_ite

theorem State.loadOffs_quiet {s0 : State} {s : State} {a1 : ℕ} (h : Quiet s0 s) :
    Quiet s0 (State.loadOffs s a1) := by
  unfold State.loadOffs
  repeat' first
    | with_reducible assumption
    | with_reducible apply State.wr_quiet

theorem State.fcLand_quiet {s0 : State} {s : State} {a1 : ℕ} (h : Quiet s0 s) :
    Quiet s0 (State.fcLand s a1) := by
  unfold State.fcLand
  repeat' first
    | with_reducible assumption
    | with_reducible apply State.setFc_quiet
    | with_reducible apply State.landRefs_quiet
    | with_reducible refine State.onlyIf_quiet ?_ (fun x_ k => ?_)
    | with_reducible apply State.writeCmp_quiet
    | with_reducible refine foldEach_quiet (fun a t k => ?_) _ ?_
    | with_reducible apply quiet_ite

theorem State.posFault_quiet {s0 : State} {s : State} {a1 : ℕ} {a2 : ℕ} (h : Quiet s0 s) :
    Quiet s0 (State.posFault s a1 a2) := by
  unfold State.posFault
  repeat' first
    | with_reducible assumption
    | with_reducible apply State.wr_quiet
    | with_reducible apply State.flag_quiet

theorem State.emuCount_quiet {s0 : State} {s : State} {a1 : ℕ} {a2 : ℤ} (h : Quiet s0 s) :
    Quiet s0 (State.emuCount s a1 a2) := by
  unfold State.emuCount
  repeat' first
    | with_reducible assumption
    | with_reducible apply State.setEmu_quiet
    | with_reducible refine State.onlyIf_quiet ?_ (fun x_ k => ?_)
    | with_reducible apply State.wrI_quiet
    | with_reducible apply State.flag_quiet

theorem State.emuFeed_quiet {s0 : State} {s : State} {a1 : ℕ} {a2 : ℤ} (h : Quiet s0 s) :
    Quiet s0 (State.emuFeed s a1 a2) := by
  unfold State.emuFeed
  repeat' first
    | with_reducible assumption
    | with_reducible apply State.emuCount_quiet
    | with_reducible refine foldEach_quiet (fun a t k => ?_) _ ?_
    | with_reducible apply quiet_ite

theorem State.posStep_quiet {s0 : State} {s : State} {a1 : ℕ} {a2 : ℤ} (h : Quiet s0 s) :
    Quiet s0 (State.posStep s a1 a2) := by
  unfold State.posStep
  repeat' first
    | with_reducible assumption
    | with_reducible apply State.setPos_quiet
    | with_reducible apply State.emuFeed_quiet
    | with_reducible apply State.wr_quiet

theorem State.emuIndex_quiet {s0 : State} {s : State} {a1 : ℕ} (h : Quiet s0 s) :
    Quiet s0 (State.emuIndex s a1) := by
  unfold State.emuIndex
  repeat' first
    | with_reducible assumption
    | with_reducible apply State.setEmu_quiet
    | with_reducible refine foldEach_quiet (fun a t k => ?_) _ ?_
    | with_reducible apply quiet_ite

theorem State.posReference_quiet {s0 : State} {s : State} {a1 : ℕ} (h : Quiet s0 s) :
    Quiet s0 (State.posReference s a1) := by
  unfold State.posReference
  repeat' first
    | with_reducible assumption
    | with_reducible apply State.setPos_quiet
    | with_reducible apply State.wr_quiet
    | with_reducible apply State.flag_quiet
    | with_reducible apply quiet_ite

theorem State.posCorrect_quiet {s0 : State} {s : State} {a1 : ℕ} {a2 : ℤ} (h : Quiet s0 s) :
    Quiet s0 (State.posCorrect s a1 a2) := by
  unfold State.posCorrect
  repeat' first
    | with_reducible assumption
    | with_reducible apply State.wr_quiet

theorem State.posCheck_quiet {s0 : State} {s : State} {a1 : ℕ} (h : Quiet s0 s) :
    Quiet s0 (State.posCheck s a1) := by
  unfold State.posCheck
  repeat' first
    | with_reducible assumption
    | with_reducible apply State.wr_quiet
    | with_reducible apply State.bump_quiet
    | with_reducible apply State.flag_quiet
    | with_reducible apply State.posCorrect_quiet
    | with_reducible refine State.onlyIf_quiet ?_ (fun x_ k => ?_)
    | with_reducible apply State.posFault_quiet
    | with_reducible apply quiet_ite
    | fail_if_no_progress beta_reduce
    | split

theorem State.posIndex_quiet {s0 : State} {s : State} {a1 : ℕ} (h : Quiet s0 s) :
    Quiet s0 (State.posIndex s a1) := by
  unfold State.posIndex
  repeat' first
    | with_reducible assumption
    | with_reducible apply State.emuIndex_quiet
    | with_reducible apply State.posReference_quiet
    | with_reducible apply State.posCheck_quiet
    | with_reducible apply quiet_ite

theorem State.posAbz_quiet {s0 : State} {s : State} {a1 : ℕ} {a2 : ℕ} {a3 : ℕ} (h : Quiet s0 s) :
    Quiet s0 (State.posAbz s a1 a2 a3) := by
  unfold State.posAbz
  repeat' first
    | with_reducible assumption
    | with_reducible refine State.onlyIf_quiet ?_ (fun x_ k => ?_)
    | with_reducible apply State.flag_quiet
    | with_reducible apply State.posFault_quiet
    | with_reducible apply State.posStep_quiet
    | with_reducible apply State.posIndex_quiet
    | with_reducible apply quiet_ite

theorem State.showValid_quiet {s0 : State} {s : State} {a1 : ℕ} (h : Quiet s0 s) :
    Quiet s0 (State.showValid s a1) := by
  unfold State.showValid
  repeat' first
    | with_reducible assumption
    | with_reducible apply State.wr_quiet

theorem State.hallCount_quiet {s0 : State} {s : State} {a1 : ℕ} {a2 : ℕ} {a3 : ℕ} (h : Quiet s0 s) :
    Quiet s0 (State.hallCount s a1 a2 a3) := by
  unfold State.hallCount
  repeat' first
    | with_reducible assumption
    | with_reducible apply State.wr_quiet

theorem State.posHall_quiet {s0 : State} {s : State} {a1 : ℕ} {a2 : ℕ} {a3 : ℕ} (h : Quiet s0 s) :
    Quiet s0 (State.posHall s a1 a2 a3) := by
  unfold State.posHall
  repeat' first
    | with_reducible assumption
    | with_reducible apply State.hallCount_quiet
    | with_reducible apply State.posFault_quiet
    | with_reducible apply State.flag_quiet
    | with_reducible apply State.emuFeed_quiet
    | with_reducible apply State.setPos_quiet
    | with_reducible refine State.onlyIf_quiet ?_ (fun x_ k => ?_)
    | with_reducible apply quiet_ite

theorem State.posTake_quiet {s0 : State} {s : State} {a1 : ℕ} {a2 : ℕ} {a3 : ℕ} (h : Quiet s0 s) :
    Quiet s0 (State.posTake s a1 a2 a3) := by
  unfold State.posTake
  repeat' first
    | with_reducible assumption
    | with_reducible apply State.showValid_quiet
    | with_reducible apply State.posAbz_quiet
    | with_reducible apply State.posHall_quiet
    | with_reducible apply quiet_ite
    | fail_if_no_progress beta_reduce
    | split

theorem State.posSample_quiet {s0 : State} {s : State} {a1 : ℕ} (h : Quiet s0 s) :
    Quiet s0 (State.posSample s a1) := by
  unfold State.posSample
  repeat' first
    | with_reducible assumption
    | with_reducible apply State.posTake_quiet
    | with_reducible apply State.setPos_quiet
    | with_reducible apply quiet_ite

theorem State.ssiCycle_quiet {s0 : State} {s : State} {a1 : ℕ} (h : Quiet s0 s) :
    Quiet s0 (State.ssiCycle s a1) := by
  unfold State.ssiCycle
  repeat' first
    | with_reducible assumption
    | with_reducible apply State.setPos_quiet
    | with_reducible apply quiet_ite

theorem State.posCycle_quiet {s0 : State} {s : State} {a1 : ℕ} (h : Quiet s0 s) :
    Quiet s0 (State.posCycle s a1) := by
  unfold State.posCycle
  repeat' first
    | with_reducible assumption
    | with_reducible apply State.posSample_quiet
    | with_reducible apply State.ssiCycle_quiet
    | with_reducible apply State.setPos_quiet
    | with_reducible apply State.wrI_quiet
    | with_reducible apply State.wr_quiet
    | with_reducible apply quiet_ite

theorem State.rsShow_quiet {s0 : State} {s : State} {a1 : ℕ} (h : Quiet s0 s) :
    Quiet s0 (State.rsShow s a1) := by
  unfold State.rsShow
  repeat' first
    | with_reducible assumption
    | with_reducible apply State.wrI_quiet
    | with_reducible apply State.wr_quiet

theorem State.rsValid_quiet {s0 : State} {s : State} {a1 : ℕ} (h : Quiet s0 s) :
    Quiet s0 (State.rsValid s a1) := by
  unfold State.rsValid
  repeat' first
    | with_reducible assumption
    | with_reducible apply State.wr_quiet

theorem State.rsEnable_quiet {s0 : State} {s : State} {a1 : ℕ} (h : Quiet s0 s) :
    Quiet s0 (State.rsEnable s a1) := by
  unfold State.rsEnable
  repeat' first
    | with_reducible assumption
    | with_reducible apply State.flag_quiet
    | with_reducible refine State.claimAll_quiet ?_ (fun x_ k => ?_) (fun x_ k => ?_)
    | with_reducible apply State.rsValid_quiet
    | with_reducible apply State.wr_quiet
    | with_reducible apply State.setRsv_quiet
    | with_reducible apply id_quiet
    | with_reducible apply quiet_ite

theorem State.rsFault_quiet {s0 : State} {s : State} {a1 : ℕ} {a2 : ℕ} (h : Quiet s0 s) :
    Quiet s0 (State.rsFault s a1 a2) := by
  unfold State.rsFault
  repeat' first
    | with_reducible assumption
    | with_reducible apply State.wr_quiet
    | with_reducible apply State.flag_quiet

theorem State.rowTrack_quiet {s0 : State} {s : State} {a1 : ℕ} {a2 : ℤ} {a3 : ℤ} (h : Quiet s0 s) :
    Quiet s0 (State.rowTrack s a1 a2 a3) := by
  unfold State.rowTrack
  repeat' first
    | with_reducible assumption
    | with_reducible apply State.setRowRs_quiet

theorem State.rsJudge_quiet {s0 : State} {s : State} {a1 : ℕ} (h : Quiet s0 s) :
    Quiet s0 (State.rsJudge s a1) := by
  unfold State.rsJudge
  repeat' first
    | with_reducible assumption
    | with_reducible apply State.flag_quiet
    | with_reducible apply State.rsFault_quiet
    | with_reducible apply State.wr_quiet
    | with_reducible refine State.onlyIf_quiet ?_ (fun x_ k => ?_)
    | with_reducible apply State.rsValid_quiet
    | with_reducible apply quiet_ite

theorem State.rsTrack_quiet {s0 : State} {s : State} {a1 : ℕ} {a2 : ℤ} {a3 : ℤ} (h : Quiet s0 s) :
    Quiet s0 (State.rsTrack s a1 a2 a3) := by
  unfold State.rsTrack
  repeat' first
    | with_reducible assumption
    | with_reducible apply State.wr_quiet
    | with_reducible apply State.setRsv_quiet

theorem State.rsCycle_quiet {s0 : State} {s : State} {a1 : ℕ} (h : Quiet s0 s) :
    Quiet s0 (State.rsCycle s a1) := by
  unfold State.rsCycle
  repeat' first
    | with_reducible assumption
    | with_reducible apply State.rsShow_quiet
    | with_reducible apply State.setRsv_quiet
    | with_reducible apply quiet_ite

theorem State.emuCycle_quiet {s0 : State} {s : State} {a1 : ℕ} (h : Quiet s0 s) :
    Quiet s0 (State.emuCycle s a1) := by
  unfold State.emuCycle
  repeat' first
    | with_reducible assumption
    | with_reducible apply State.setEmu_quiet
    | with_reducible apply State.emuCount_quiet
    | with_reducible apply quiet_ite
    | fail_if_no_progress beta_reduce
    | split

theorem State.rsClear_quiet {s0 : State} {s : State} {a1 : ℕ} (h : Quiet s0 s) :
    Quiet s0 (State.rsClear s a1) := by
  unfold State.rsClear
  repeat' first
    | with_reducible assumption
    | with_reducible apply State.flag_quiet
    | with_reducible apply State.rsValid_quiet
    | with_reducible apply State.wr_quiet
    | with_reducible apply quiet_ite

theorem State.posRaw_quiet {s0 : State} {s : State} {a1 : ℕ} {a2 : ℕ} (h : Quiet s0 s) :
    Quiet s0 (State.posRaw s a1 a2) := by
  unfold State.posRaw
  repeat' first
    | with_reducible assumption
    | with_reducible apply State.setPos_quiet

theorem State.ssiGood_quiet {s0 : State} {s : State} {a1 : ℕ} {a2 : ℕ} {a3 : ℕ} {a4 : ℕ} (h : Quiet s0 s) :
    Quiet s0 (State.ssiGood s a1 a2 a3 a4) := by
  unfold State.ssiGood
  repeat' first
    | with_reducible assumption
    | with_reducible apply State.setPos_quiet
    | with_reducible apply State.wr_quiet

theorem State.ssiRequest_quiet {s0 : State} {s : State} {a1 : ℕ} (h : Quiet s0 s) :
    Quiet s0 (State.ssiRequest s a1) := by
  unfold State.ssiRequest
  repeat' first
    | with_reducible assumption
    | with_reducible apply State.flag_quiet
    | with_reducible apply State.setPos_quiet
    | with_reducible apply quiet_ite

theorem State.ssiRequests_quiet {s0 : State} {s : State} {a1 : ℕ} (h : Quiet s0 s) :
    Quiet s0 (State.ssiRequests s a1) := by
  unfold State.ssiRequests
  repeat' first
    | with_reducible assumption
    | with_reducible refine State.onlyIf_quiet ?_ (fun x_ k => ?_)
    | with_reducible apply State.ssiRequest_quiet
    | with_reducible refine foldEach_quiet (fun a t k => ?_) _ ?_
    | with_reducible apply quiet_ite

theorem State.ssiBad_quiet {s0 : State} {s : State} {a1 : ℕ} (h : Quiet s0 s) :
    Quiet s0 (State.ssiBad s a1) := by
  unfold State.ssiBad
  repeat' first
    | with_reducible assumption
    | with_reducible refine State.onlyIf_quiet ?_ (fun x_ k => ?_)
    | with_reducible apply State.flag_quiet
    | with_reducible apply State.setPos_quiet
    | with_reducible apply State.posFault_quiet

theorem State.ssiFrame_quiet {s0 : State} {s : State} {a1 : ℕ} {a2 : ℕ} (h : Quiet s0 s) :
    Quiet s0 (State.ssiFrame s a1 a2) := by
  unfold State.ssiFrame
  repeat' first
    | with_reducible assumption
    | with_reducible apply State.setPos_quiet
    | with_reducible apply State.ssiBad_quiet
    | with_reducible apply State.ssiGood_quiet
    | with_reducible apply quiet_ite

theorem State.posEnable_quiet {s0 : State} {s : State} {a1 : ℕ} (h : Quiet s0 s) :
    Quiet s0 (State.posEnable s a1) := by
  unfold State.posEnable
  repeat' first
    | with_reducible assumption
    | with_reducible apply State.flag_quiet
    | with_reducible apply State.setPos_quiet
    | with_reducible apply State.showValid_quiet
    | with_reducible apply State.wr_quiet
    | with_reducible apply quiet_ite

theorem State.emuDisable_quiet {s0 : State} {s : State} {a1 : ℕ} (h : Quiet s0 s) :
    Quiet s0 (State.emuDisable s a1) := by
  unfold State.emuDisable
  repeat' first
    | with_reducible assumption
    | with_reducible apply State.releaseClaims_quiet
    | with_reducible apply State.wr_quiet
    | with_reducible apply State.setEmu_quiet
    | with_reducible apply quiet_ite

theorem State.emuEnable_quiet {s0 : State} {s : State} {a1 : ℕ} (h : Quiet s0 s) :
    Quiet s0 (State.emuEnable s a1) := by
  unfold State.emuEnable
  repeat' first
    | with_reducible assumption
    | with_reducible apply State.flag_quiet
    | with_reducible refine State.claimAll_quiet ?_ (fun x_ k => ?_) (fun x_ k => ?_)
    | with_reducible apply State.wr_quiet
    | with_reducible apply State.setEmu_quiet
    | with_reducible apply id_quiet
    | with_reducible apply quiet_ite

theorem State.posDisable_quiet {s0 : State} {s : State} {a1 : ℕ} (h : Quiet s0 s) :
    Quiet s0 (State.posDisable s a1) := by
  unfold State.posDisable
  repeat' first
    | with_reducible assumption
    | with_reducible apply State.flag_quiet
    | with_reducible apply State.showValid_quiet
    | with_reducible apply State.setPos_quiet
    | with_reducible apply State.wr_quiet
    | with_reducible apply quiet_ite

theorem State.posLoad_quiet {s0 : State} {s : State} {a1 : ℕ} {a2 : ℕ} (h : Quiet s0 s) :
    Quiet s0 (State.posLoad s a1 a2) := by
  unfold State.posLoad
  repeat' first
    | with_reducible assumption
    | with_reducible apply State.flag_quiet
    | with_reducible apply State.setPos_quiet
    | with_reducible apply State.showValid_quiet
    | with_reducible apply State.wr_quiet
    | with_reducible apply quiet_ite

theorem State.excTick_quiet {s0 : State} {s : State} {a1 : ℕ} (h : Quiet s0 s) :
    Quiet s0 (State.excTick s a1) := by
  unfold State.excTick
  repeat' first
    | with_reducible assumption
    | with_reducible apply State.setRsv_quiet
    | with_reducible apply quiet_ite

theorem State.posClear_quiet {s0 : State} {s : State} {a1 : ℕ} (h : Quiet s0 s) :
    Quiet s0 (State.posClear s a1) := by
  unfold State.posClear
  repeat' first
    | with_reducible assumption
    | with_reducible apply State.flag_quiet
    | with_reducible apply State.wr_quiet
    | with_reducible apply State.setPos_quiet
    | with_reducible apply State.showValid_quiet
    | with_reducible apply quiet_ite

theorem State.rsDisable_quiet {s0 : State} {s : State} {a1 : ℕ} (h : Quiet s0 s) :
    Quiet s0 (State.rsDisable s a1) := by
  unfold State.rsDisable
  repeat' first
    | with_reducible assumption
    | with_reducible apply State.flag_quiet
    | with_reducible apply State.rsValid_quiet
    | with_reducible apply State.wr_quiet
    | with_reducible apply State.releaseClaims_quiet
    | with_reducible apply quiet_ite

theorem State.mbShow_quiet {s0 : State} {s : State} {a1 : ℕ} (h : Quiet s0 s) :
    Quiet s0 (State.mbShow s a1) := by
  unfold State.mbShow
  repeat' first
    | with_reducible assumption
    | with_reducible apply State.wr_quiet

theorem State.mbEmpty_quiet {s0 : State} {s : State} {a1 : ℕ} (h : Quiet s0 s) :
    Quiet s0 (State.mbEmpty s a1) := by
  unfold State.mbEmpty
  repeat' first
    | with_reducible assumption
    | with_reducible apply State.wr2_quiet
    | with_reducible apply State.wr_quiet
    | with_reducible apply State.mbShow_quiet
    | with_reducible refine foldEach_quiet (fun a t k => ?_) _ ?_

theorem State.mbNotify_quiet {s0 : State} {s : State} {a1 : ℕ} (h : Quiet s0 s) :
    Quiet s0 (State.mbNotify s a1) := by
  unfold State.mbNotify
  repeat' first
    | with_reducible assumption
    | with_reducible apply State.wr_quiet
    | with_reducible apply State.flag_quiet
    | with_reducible apply State.closeSwitch_quiet
    | with_reducible apply quiet_ite

theorem State.mbPost_quiet {s0 : State} {s : State} {a1 : ℕ} {a2 : ℕ} (h : Quiet s0 s) :
    Quiet s0 (State.mbPost s a1 a2) := by
  unfold State.mbPost
  repeat' first
    | with_reducible assumption
    | with_reducible apply State.wr2_quiet
    | with_reducible apply State.wr_quiet
    | with_reducible apply State.mbNotify_quiet
    | with_reducible apply State.mbShow_quiet
    | with_reducible refine foldEach_quiet (fun a t k => ?_) _ ?_
    | with_reducible apply quiet_ite

theorem State.setSem_quiet {s0 : State} {s : State} {a1 : ℕ} {a2 : ℕ} (h : Quiet s0 s) :
    Quiet s0 (State.setSem s a1 a2) := by
  unfold State.setSem
  repeat' first
    | with_reducible assumption
    | with_reducible apply State.wr_quiet

theorem State.semAcq_quiet {s0 : State} {s : State} {a1 : ℕ} {a2 : ℕ} (h : Quiet s0 s) :
    Quiet s0 (State.semAcq s a1 a2).1 := by
  unfold State.semAcq
  repeat' first
    | with_reducible assumption
    | with_reducible apply State.setSem_quiet
    | with_reducible apply quiet_ite
    | fail_if_no_progress beta_reduce
    | split

theorem State.mbSend_quiet {s0 : State} {s : State} {a1 : ℕ} {a2 : ℕ} {a3 : List ℕ} (h : Quiet s0 s) :
    Quiet s0 (State.mbSend s a1 a2 a3) := by
  unfold State.mbSend
  repeat' first
    | with_reducible assumption
    | with_reducible apply State.wr2_quiet
    | with_reducible apply State.mbPost_quiet
    | with_reducible apply State.wr_quiet
    | with_reducible refine foldEach_quiet (fun a t k => ?_) _ ?_

theorem State.semRelease_quiet {s0 : State} {s : State} {a1 : ℕ} {a2 : ℕ} (h : Quiet s0 s) :
    Quiet s0 (State.semRelease s a1 a2) := by
  unfold State.semRelease
  repeat' first
    | with_reducible assumption
    | with_reducible apply State.setSem_quiet
    | with_reducible apply State.flag_quiet
    | with_reducible apply quiet_ite

theorem State.advanceEpoch_quiet {s0 : State} {s : State} {a1 : ℕ} (h : Quiet s0 s) :
    Quiet s0 (State.advanceEpoch s a1) := by
  unfold State.advanceEpoch
  repeat' first
    | with_reducible assumption
    | with_reducible apply State.wr_quiet
    | with_reducible apply State.flag_quiet
    | with_reducible apply State.setSem_quiet
    | with_reducible apply State.mbEmpty_quiet
    | with_reducible apply State.mbShow_quiet
    | with_reducible refine foldEach_quiet (fun a t k => ?_) _ ?_
    | with_reducible apply quiet_ite

theorem State.mbFill_quiet {s0 : State} {s : State} {a1 : ℕ} {a2 : ℕ} {a3 : State → State} (h : Quiet s0 s) (h3 : ∀ t, Quiet s0 t → Quiet s0 (a3 t)) :
    Quiet s0 (State.mbFill s a1 a2 a3) := by
  unfold State.mbFill
  repeat' first
    | with_reducible assumption
    | with_reducible refine h3 _ ?_
    | with_reducible apply State.wr_quiet
    | with_reducible apply quiet_ite

theorem State.srcRefresh_quiet {s0 : State} {s : State} (h : Quiet s0 s) :
    Quiet s0 (State.srcRefresh s) := by
  unfold State.srcRefresh
  repeat' first
    | with_reducible assumption
    | with_reducible apply State.setSrc_quiet
    | with_reducible refine foldEach_quiet (fun a t k => ?_) _ ?_

theorem State.keepLink_quiet {s0 : State} {s : State} {a1 : ℕ} (h : Quiet s0 s) :
    Quiet s0 (State.keepLink s a1) := by
  unfold State.keepLink
  repeat' first
    | with_reducible assumption
    | with_reducible apply State.setRow_quiet

theorem State.takeCfg_quiet {s0 : State} {s : State} {a1 : ℕ} (h : Quiet s0 s) :
    Quiet s0 (State.takeCfg s a1) := by
  unfold State.takeCfg
  repeat' first
    | with_reducible assumption
    | with_reducible apply State.setRow_quiet

theorem State.showLost_quiet {s0 : State} {s : State} {a1 : ℕ} (h : Quiet s0 s) :
    Quiet s0 (State.showLost s a1) := by
  unfold State.showLost
  repeat' first
    | with_reducible assumption
    | with_reducible apply State.wr_quiet

theorem State.count_quiet {s0 : State} {s : State} {a1 : ℕ} {a2 : ℕ} {a3 : Bool} (h : Quiet s0 s) :
    Quiet s0 (State.count s a1 a2 a3) := by
  unfold State.count
  repeat' first
    | with_reducible assumption
    | with_reducible apply State.setRow_quiet

theorem State.pauseCheck_quiet {s0 : State} {s : State} {a1 : ℕ} {a2 : ℕ} (h : Quiet s0 s) :
    Quiet s0 (State.pauseCheck s a1 a2) := by
  unfold State.pauseCheck
  repeat' first
    | with_reducible assumption
    | with_reducible apply State.setRow_quiet

theorem State.runCheck_quiet {s0 : State} {s : State} {a1 : ℕ} {a2 : ℕ} {a3 : Option Bool} (h : Quiet s0 s) :
    Quiet s0 (State.runCheck s a1 a2 a3) := by
  unfold State.runCheck
  repeat' first
    | with_reducible assumption
    | with_reducible apply State.count_quiet
    | with_reducible apply State.pauseCheck_quiet
    | fail_if_no_progress beta_reduce
    | split

theorem State.rowFlag_quiet {s0 : State} {s : State} {a1 : FD} {a2 : ℕ} {a3 : Bool} (h : Quiet s0 s) :
    Quiet s0 (State.rowFlag s a1 a2 a3) := by
  unfold State.rowFlag
  repeat' first
    | with_reducible assumption
    | with_reducible apply State.wr_quiet

theorem State.wantHold_quiet {s0 : State} {s : State} {a1 : ℕ} {a2 : ℕ} (h : Quiet s0 s) :
    Quiet s0 (State.wantHold s a1 a2) := by
  unfold State.wantHold
  repeat' first
    | with_reducible assumption
    | with_reducible apply State.setRow_quiet

theorem State.measure_quiet {s0 : State} {s : State} {a1 : ℕ} (h : Quiet s0 s) :
    Quiet s0 (State.measure s a1) := by
  unfold State.measure
  repeat' first
    | with_reducible assumption
    | with_reducible apply State.runCheck_quiet
    | with_reducible apply State.rowFlag_quiet
    | with_reducible refine State.onlyIf_quiet ?_ (fun x_ k => ?_)
    | with_reducible apply State.wantHold_quiet
    | with_reducible apply State.setRow_quiet
    | with_reducible refine foldEach_quiet (fun a t k => ?_) _ ?_

theorem State.position_quiet {s0 : State} {s : State} {a1 : ℕ} (h : Quiet s0 s) :
    Quiet s0 (State.position s a1) := by
  unfold State.position
  repeat' first
    | with_reducible assumption
    | with_reducible refine State.onlyIf_quiet ?_ (fun x_ k => ?_)
    | with_reducible apply State.rowFlag_quiet
    | with_reducible apply State.wantHold_quiet

theorem State.speed_quiet {s0 : State} {s : State} {a1 : ℕ} (h : Quiet s0 s) :
    Quiet s0 (State.speed s a1) := by
  unfold State.speed
  repeat' first
    | with_reducible assumption
    | with_reducible apply State.wr_quiet
    | with_reducible apply State.wrI_quiet
    | with_reducible apply quiet_ite
    | fail_if_no_progress beta_reduce
    | split

theorem State.chopFault_quiet {s0 : State} {s : State} {a1 : ℕ} {a2 : ℕ} (h : Quiet s0 s) :
    Quiet s0 (State.chopFault s a1 a2) := by
  unfold State.chopFault
  repeat' first
    | with_reducible assumption
    | with_reducible apply State.setRow_quiet
    | with_reducible apply State.wantHold_quiet
    | with_reducible apply State.wr_quiet
    | with_reducible apply State.flag_quiet

theorem State.judgeOn_quiet {s0 : State} {s : State} {a1 : ℕ} (h : Quiet s0 s) :
    Quiet s0 (State.judgeOn s a1) := by
  unfold State.judgeOn
  repeat' first
    | with_reducible assumption
    | with_reducible apply State.setRow_quiet
    | with_reducible apply State.wr_quiet
    | with_reducible apply State.chopFault_quiet
    | with_reducible apply quiet_ite

theorem State.judgeOff_quiet {s0 : State} {s : State} {a1 : ℕ} (h : Quiet s0 s) :
    Quiet s0 (State.judgeOff s a1) := by
  unfold State.judgeOff
  repeat' first
    | with_reducible assumption
    | with_reducible apply State.setRow_quiet
    | with_reducible apply State.chopFault_quiet
    | with_reducible apply quiet_ite

theorem State.chopper_quiet {s0 : State} {s : State} {a1 : ℕ} (h : Quiet s0 s) :
    Quiet s0 (State.chopper s a1) := by
  unfold State.chopper
  repeat' first
    | with_reducible assumption
    | with_reducible apply State.judgeOn_quiet
    | with_reducible apply State.judgeOff_quiet
    | with_reducible apply State.wr_quiet
    | with_reducible apply State.flag_quiet
    | with_reducible apply quiet_ite

theorem State.angleCheck_quiet {s0 : State} {s : State} {a1 : ℕ} {a2 : ℕ} (h : Quiet s0 s) :
    Quiet s0 (State.angleCheck s a1 a2) := by
  unfold State.angleCheck
  repeat' first
    | with_reducible assumption
    | with_reducible apply State.count_quiet
    | with_reducible refine State.onlyIf_quiet ?_ (fun x_ k => ?_)
    | with_reducible apply State.rowFlag_quiet
    | with_reducible apply State.wantHold_quiet
    | fail_if_no_progress beta_reduce
    | split

theorem State.monitor_quiet {s0 : State} {s : State} {a1 : ℕ} (h : Quiet s0 s) :
    Quiet s0 (State.monitor s a1) := by
  unfold State.monitor
  repeat' first
    | with_reducible assumption
    | intro x; try clear_value x
    | with_reducible apply State.wr_quiet
    | with_reducible apply State.wrI_quiet
    | with_reducible apply State.rowFlag_quiet
    | with_reducible apply State.setRow_quiet
    | with_reducible apply State.count_quiet
    | with_reducible apply State.next_quiet
    | with_reducible refine State.onlyIf_quiet ?_ (fun x_ k => ?_)
    | with_reducible apply State.wantHold_quiet
    | with_reducible apply State.angleCheck_quiet
    | with_reducible apply quiet_ite
    | lift_lets -underBinder; intro x; refine quiet_cut (s0 := s0) x ?_ ?_; (on_goal 2 => clear_value x); (on_goal 1 => subst x)
    | fail_if_no_progress beta_reduce
    | split

theorem State.stageChecks_quiet {s0 : State} {s : State} {a1 : ℕ} (h : Quiet s0 s) :
    Quiet s0 (State.stageChecks s a1) := by
  unfold State.stageChecks
  repeat' first
    | with_reducible assumption
    | with_reducible apply State.showLost_quiet
    | with_reducible apply State.measure_quiet
    | with_reducible apply State.position_quiet
    | with_reducible refine State.onlyIf_quiet ?_ (fun x_ k => ?_)
    | with_reducible apply State.speed_quiet
    | with_reducible apply State.chopper_quiet
    | with_reducible apply State.monitor_quiet
    | with_reducible apply quiet_ite

theorem State.armStage_quiet {s0 : State} {s : State} {a1 : ℕ} (h : Quiet s0 s) :
    Quiet s0 (State.armStage s a1) := by
  unfold State.armStage
  repeat' first
    | with_reducible assumption
    | with_reducible apply State.wr_quiet
    | with_reducible apply State.next_quiet
    | with_reducible apply quiet_ite

theorem State.rowStatus_quiet {s0 : State} {s : State} {a1 : FD} {a2 : ℕ} (h : Quiet s0 s) :
    Quiet s0 (State.rowStatus s a1 a2) := by
  unfold State.rowStatus
  repeat' first
    | with_reducible assumption
    | with_reducible apply State.irqEv_quiet
    | with_reducible apply State.wr_quiet
    | with_reducible apply quiet_ite

theorem State.showHold_quiet {s0 : State} {s : State} {a1 : ℕ} (h : Quiet s0 s) :
    Quiet s0 (State.showHold s a1) := by
  unfold State.showHold
  repeat' first
    | with_reducible assumption
    | with_reducible apply State.wr_quiet

theorem State.showLines_quiet {s0 : State} {s : State} (h : Quiet s0 s) :
    Quiet s0 (State.showLines s) := by
  unfold State.showLines
  repeat' first
    | with_reducible assumption
    | with_reducible apply State.showActive_quiet
    | with_reducible apply State.wr_quiet
    | with_reducible refine foldEach_quiet (fun a t k => ?_) _ ?_

theorem State.latchesOff_quiet {s0 : State} {s : State} {a1 : ℕ} (h : Quiet s0 s) :
    Quiet s0 (State.latchesOff s a1) := by
  unfold State.latchesOff
  repeat' first
    | with_reducible assumption
    | with_reducible apply State.setPad_quiet
    | with_reducible refine foldEach_quiet (fun a t k => ?_) _ ?_

end Sys2Proof.Machine
end

