-- ==== Sys2Proof/Laws/QuietOpsC.lean ====
section
/-! SUPPORT. Shared operations that store to no memory: part 3 of 4, in the order in which the operations build on one another. -/

namespace Sys2Proof.Machine

theorem State.disStop_quiet {s0 : State} {s : State} {a1 : ℕ} (h : Quiet s0 s) :
    Quiet s0 (State.disStop s a1) := by
  unfold State.disStop
  repeat' first
    | with_reducible assumption
    | with_reducible apply State.latchesOff_quiet
    | with_reducible apply State.setRow_quiet
    | with_reducible apply quiet_ite

theorem State.tryRelease_quiet {s0 : State} {s : State} {a1 : ℕ} (h : Quiet s0 s) :
    Quiet s0 (State.tryRelease s a1) := by
  unfold State.tryRelease
  repeat' first
    | with_reducible assumption
    | with_reducible apply State.wr_quiet
    | with_reducible apply State.disStop_quiet
    | with_reducible apply State.showHold_quiet
    | with_reducible apply State.setRow_quiet
    | with_reducible apply State.showLines_quiet
    | with_reducible refine foldEach_quiet (fun a t k => ?_) _ ?_
    | with_reducible apply quiet_ite

theorem State.reqResult_quiet {s0 : State} {s : State} {a1 : ℕ} {a2 : ℕ} {a3 : ℕ} (h : Quiet s0 s) :
    Quiet s0 (State.reqResult s a1 a2 a3) := by
  unfold State.reqResult
  repeat' first
    | with_reducible assumption
    | with_reducible apply State.wr_quiet
    | with_reducible apply State.irqEv_quiet

theorem State.cpxReport_quiet {s0 : State} {s : State} {a1 : ℕ} (h : Quiet s0 s) :
    Quiet s0 (State.cpxReport s a1) := by
  unfold State.cpxReport
  repeat' first
    | with_reducible assumption
    | with_reducible apply State.rowStatus_quiet
    | with_reducible apply quiet_ite
    | fail_if_no_progress with_reducible apply quiet_mk (s := _)

theorem State.disEdge_quiet {s0 : State} {s : State} {a1 : ℕ} {a2 : ℕ} {a3 : ℕ} (h : Quiet s0 s) :
    Quiet s0 (State.disEdge s a1 a2 a3) := by
  unfold State.disEdge
  repeat' first
    | with_reducible assumption
    | with_reducible apply State.setRow_quiet
    | with_reducible apply State.next_quiet
    | with_reducible apply State.setPad_quiet
    | with_reducible refine foldEach_quiet (fun a t k => ?_) _ ?_
    | with_reducible apply quiet_ite

theorem State.windLeg_quiet {s0 : State} {s : State} {a1 : ℕ} {a2 : ℕ} {a3 : ℕ} {a4 : ℕ} {a5 : ℕ} (h : Quiet s0 s) :
    Quiet s0 (State.windLeg s a1 a2 a3 a4 a5) := by
  unfold State.windLeg
  repeat' first
    | with_reducible assumption
    | with_reducible apply State.setPad_quiet

theorem State.setCan_quiet {s0 : State} {s : State} {a1 : ℕ} {a2 : CanS} (h : Quiet s0 s) :
    Quiet s0 (State.setCan s a1 a2) := by
  unfold State.setCan
  repeat' first
    | with_reducible assumption
    | fail_if_no_progress with_reducible apply quiet_mk (s := _)

theorem State.canSelect_quiet {s0 : State} {s : State} {a1 : ℕ} (h : Quiet s0 s) :
    Quiet s0 (State.canSelect s a1) := by
  unfold State.canSelect
  repeat' first
    | with_reducible assumption
    | with_reducible apply State.wr_quiet
    | with_reducible apply State.setCan_quiet
    | with_reducible apply quiet_ite

theorem State.canIdle_quiet {s0 : State} {s : State} {a1 : ℕ} (h : Quiet s0 s) :
    Quiet s0 (State.canIdle s a1) := by
  unfold State.canIdle
  repeat' first
    | with_reducible assumption
    | with_reducible apply State.setCan_quiet

theorem State.setCanState_quiet {s0 : State} {s : State} {a1 : ℕ} {a2 : ℕ} (h : Quiet s0 s) :
    Quiet s0 (State.setCanState s a1 a2) := by
  unfold State.setCanState
  repeat' first
    | with_reducible assumption
    | with_reducible apply State.wr_quiet

theorem State.canInit_quiet {s0 : State} {s : State} {a1 : ℕ} (h : Quiet s0 s) :
    Quiet s0 (State.canInit s a1) := by
  unfold State.canInit
  repeat' first
    | with_reducible assumption
    | with_reducible apply State.canIdle_quiet
    | with_reducible apply State.wr_quiet
    | with_reducible apply State.setCanState_quiet

theorem State.canStop_quiet {s0 : State} {s : State} {a1 : ℕ} {a2 : Bool} (h : Quiet s0 s) :
    Quiet s0 (State.canStop s a1 a2) := by
  unfold State.canStop
  repeat' first
    | with_reducible assumption
    | with_reducible apply State.canInit_quiet
    | with_reducible apply State.setCanState_quiet
    | with_reducible apply State.wr_quiet
    | with_reducible apply quiet_ite

theorem State.canRefuse_quiet {s0 : State} {s : State} {a1 : ℕ} {a2 : ℕ} (h : Quiet s0 s) :
    Quiet s0 (State.canRefuse s a1 a2) := by
  unfold State.canRefuse
  repeat' first
    | with_reducible assumption
    | with_reducible apply State.flag_quiet
    | with_reducible apply State.wr_quiet

theorem State.setCanBit_quiet {s0 : State} {s : State} {a1 : FD} {a2 : ℕ} {a3 : ℕ} {a4 : Bool} (h : Quiet s0 s) :
    Quiet s0 (State.setCanBit s a1 a2 a3 a4) := by
  unfold State.setCanBit
  repeat' first
    | with_reducible assumption
    | with_reducible apply State.wr2_quiet

theorem State.canCancel_quiet {s0 : State} {s : State} {a1 : ℕ} {a2 : ℕ} (h : Quiet s0 s) :
    Quiet s0 (State.canCancel s a1 a2) := by
  unfold State.canCancel
  repeat' first
    | with_reducible assumption
    | with_reducible apply State.flag_quiet
    | with_reducible apply State.setCanBit_quiet
    | with_reducible refine State.onlyIf_quiet ?_ (fun x_ k => ?_)
    | with_reducible apply State.canIdle_quiet
    | with_reducible apply State.wr_quiet
    | with_reducible apply quiet_ite

theorem State.canBusOff_quiet {s0 : State} {s : State} {a1 : ℕ} (h : Quiet s0 s) :
    Quiet s0 (State.canBusOff s a1) := by
  unfold State.canBusOff
  repeat' first
    | with_reducible assumption
    | with_reducible apply State.wr_quiet
    | with_reducible apply State.canIdle_quiet
    | with_reducible apply State.flag_quiet
    | with_reducible apply State.setCanState_quiet
    | fail_if_no_progress beta_reduce
    | split

theorem State.canCount_quiet {s0 : State} {s : State} {a1 : ℕ} {a2 : ℕ} {a3 : ℕ} (h : Quiet s0 s) :
    Quiet s0 (State.canCount s a1 a2 a3) := by
  unfold State.canCount
  repeat' first
    | with_reducible assumption
    | with_reducible apply State.wr_quiet
    | with_reducible apply State.canBusOff_quiet
    | with_reducible apply State.setCanState_quiet
    | with_reducible refine State.onlyIf_quiet ?_ (fun x_ k => ?_)
    | with_reducible apply State.flag_quiet
    | with_reducible apply quiet_ite
    | fail_if_no_progress beta_reduce
    | split

theorem State.canFrameEnd_quiet {s0 : State} {s : State} {a1 : ℕ} {a2 : Bool} (h : Quiet s0 s) :
    Quiet s0 (State.canFrameEnd s a1 a2) := by
  unfold State.canFrameEnd
  repeat' first
    | with_reducible assumption
    | with_reducible apply State.canIdle_quiet
    | with_reducible refine State.onlyIf_quiet ?_ (fun x_ k => ?_)
    | with_reducible apply State.canInit_quiet

theorem State.canRequest_quiet {s0 : State} {s : State} {a1 : ℕ} {a2 : ℕ} (h : Quiet s0 s) :
    Quiet s0 (State.canRequest s a1 a2) := by
  unfold State.canRequest
  repeat' first
    | with_reducible assumption
    | with_reducible apply State.flag_quiet
    | with_reducible apply State.setCanBit_quiet
    | with_reducible apply quiet_ite

theorem State.canError_quiet {s0 : State} {s : State} {a1 : ℕ} {a2 : ℕ} {a3 : Bool} {a4 : Bool} (h : Quiet s0 s) :
    Quiet s0 (State.canError s a1 a2 a3 a4) := by
  unfold State.canError
  repeat' first
    | with_reducible assumption
    | with_reducible apply State.wr_quiet
    | with_reducible refine State.onlyIf_quiet ?_ (fun x_ k => ?_)
    | with_reducible apply State.setCanState_quiet
    | with_reducible apply State.canIdle_quiet
    | with_reducible apply State.canInit_quiet
    | with_reducible apply State.canFrameEnd_quiet
    | with_reducible apply State.canCount_quiet
    | with_reducible apply quiet_ite

theorem State.canDirChanged_quiet {s0 : State} {s : State} {a1 : ℕ} {a2 : ℕ} {a3 : ℕ} (h : Quiet s0 s) :
    Quiet s0 (State.canDirChanged s a1 a2 a3) := by
  unfold State.canDirChanged
  repeat' first
    | with_reducible assumption
    | with_reducible refine State.onlyIf_quiet ?_ (fun x_ k => ?_)
    | with_reducible apply State.setCanBit_quiet

theorem State.canRelease_quiet {s0 : State} {s : State} {a1 : ℕ} {a2 : ℕ} {a3 : ℕ} (h : Quiet s0 s) :
    Quiet s0 (State.canRelease s a1 a2 a3) := by
  unfold State.canRelease
  repeat' first
    | with_reducible assumption
    | with_reducible apply State.setCanBit_quiet
    | with_reducible refine foldEach_quiet (fun a t k => ?_) _ ?_

theorem State.canClockStop_quiet {s0 : State} {s : State} (h : Quiet s0 s) :
    Quiet s0 (State.canClockStop s) := by
  unfold State.canClockStop
  repeat' first
    | with_reducible assumption
    | with_reducible refine State.onlyIf_quiet ?_ (fun x_ k => ?_)
    | with_reducible apply State.flag_quiet
    | with_reducible apply State.canInit_quiet
    | with_reducible refine foldEach_quiet (fun a t k => ?_) _ ?_

theorem State.canRun_quiet {s0 : State} {s : State} {a1 : ℕ} (h : Quiet s0 s) :
    Quiet s0 (State.canRun s a1) := by
  unfold State.canRun
  repeat' first
    | with_reducible assumption
    | with_reducible apply State.wr_quiet
    | with_reducible apply State.flag_quiet
    | with_reducible apply State.setCanState_quiet
    | with_reducible apply State.canRefuse_quiet
    | with_reducible apply quiet_ite
    | fail_if_no_progress beta_reduce
    | split

theorem State.commitLu_quiet {s0 : State} {s : State} {a1 : ℕ} (h : Quiet s0 s) :
    Quiet s0 (State.commitLu s a1) := by
  unfold State.commitLu
  repeat' first
    | with_reducible assumption
    | with_reducible apply State.wr2_quiet
    | with_reducible apply State.swapReq_quiet
    | with_reducible refine foldEach_quiet (fun a t k => ?_) _ ?_
    | with_reducible apply quiet_ite

theorem State.commitDo4_quiet {s0 : State} {s : State} (h : Quiet s0 s) :
    Quiet s0 (State.commitDo4 s) := by
  unfold State.commitDo4
  repeat' first
    | with_reducible assumption
    | with_reducible apply State.commitLu_quiet
    | with_reducible refine foldEach_quiet (fun a t k => ?_) _ ?_

theorem State.commitDo6_quiet {s0 : State} {s : State} (h : Quiet s0 s) :
    Quiet s0 (State.commitDo6 s) := by
  unfold State.commitDo6
  repeat' first
    | with_reducible assumption
    | with_reducible apply State.wr_quiet
    | with_reducible refine foldEach_quiet (fun a t k => ?_) _ ?_

theorem State.commitTb_quiet {s0 : State} {s : State} {a1 : ℕ} (h : Quiet s0 s) :
    Quiet s0 (State.commitTb s a1) := by
  unfold State.commitTb
  repeat' first
    | with_reducible assumption
    | intro x; refine quiet_cut (s0 := s0) x ?_ ?_; (on_goal 2 => clear_value x); (on_goal 1 => subst x)
    | intro x; try clear_value x
    | with_reducible apply State.writePer_quiet
    | with_reducible apply State.wr_quiet
    | with_reducible apply quiet_ite
    | lift_lets -underBinder; intro x; try clear_value x
    | fail_if_no_progress beta_reduce
    | split

theorem State.commitDt_quiet {s0 : State} {s : State} {a1 : ℕ} (h : Quiet s0 s) :
    Quiet s0 (State.commitDt s a1) := by
  unfold State.commitDt
  repeat' first
    | with_reducible assumption
    | with_reducible apply State.wr_quiet
    | with_reducible apply State.writeMinp_quiet
    | with_reducible apply State.writeDtf_quiet
    | with_reducible apply State.writeDtr_quiet

theorem State.commitLeg_quiet {s0 : State} {s : State} {a1 : ℕ} (h : Quiet s0 s) :
    Quiet s0 (State.commitLeg s a1) := by
  unfold State.commitLeg
  repeat' first
    | with_reducible assumption
    | with_reducible apply State.writeCmp_quiet
    | with_reducible apply State.writeTrg_quiet
    | with_reducible refine foldEach_quiet (fun a t k => ?_) _ ?_
    | fail_if_no_progress beta_reduce
    | split

theorem State.commitDo0_quiet {s0 : State} {s : State} (h : Quiet s0 s) :
    Quiet s0 (State.commitDo0 s) := by
  unfold State.commitDo0
  repeat' first
    | with_reducible assumption
    | with_reducible apply State.commitTb_quiet
    | with_reducible apply State.commitDt_quiet
    | with_reducible apply State.commitLeg_quiet
    | with_reducible refine foldEach_quiet (fun a t k => ?_) _ ?_

theorem State.commitDo1_quiet {s0 : State} {s : State} (h : Quiet s0 s) :
    Quiet s0 (State.commitDo1 s) := by
  unfold State.commitDo1
  repeat' first
    | with_reducible assumption
    | with_reducible apply State.wr_quiet
    | with_reducible refine foldEach_quiet (fun a t k => ?_) _ ?_

theorem State.commitDo2_quiet {s0 : State} {s : State} (h : Quiet s0 s) :
    Quiet s0 (State.commitDo2 s) := by
  unfold State.commitDo2
  repeat' first
    | with_reducible assumption
    | with_reducible apply State.wr_quiet
    | with_reducible refine foldEach_quiet (fun a t k => ?_) _ ?_

theorem State.commitDo3_quiet {s0 : State} {s : State} (h : Quiet s0 s) :
    Quiet s0 (State.commitDo3 s) := by
  unfold State.commitDo3
  repeat' first
    | with_reducible assumption
    | with_reducible apply State.wr_quiet
    | with_reducible refine foldEach_quiet (fun a t k => ?_) _ ?_
    | fail_if_no_progress beta_reduce
    | split

theorem State.commitFc_quiet {s0 : State} {s : State} {a1 : ℕ} (h : Quiet s0 s) :
    Quiet s0 (State.commitFc s a1) := by
  unfold State.commitFc
  repeat' first
    | with_reducible assumption
    | with_reducible apply State.wr_quiet
    | with_reducible apply quiet_ite

theorem State.commitDo5_quiet {s0 : State} {s : State} (h : Quiet s0 s) :
    Quiet s0 (State.commitDo5 s) := by
  unfold State.commitDo5
  repeat' first
    | with_reducible assumption
    | with_reducible apply State.commitFc_quiet
    | with_reducible refine foldEach_quiet (fun a t k => ?_) _ ?_

theorem State.commitCan_quiet {s0 : State} {s : State} {a1 : ℕ} (h : Quiet s0 s) :
    Quiet s0 (State.commitCan s a1) := by
  unfold State.commitCan
  repeat' first
    | with_reducible assumption
    | intro x; try clear_value x
    | with_reducible apply State.wr_quiet
    | with_reducible apply quiet_ite
    | lift_lets -underBinder; intro x; refine quiet_cut (s0 := s0) x ?_ ?_; (on_goal 2 => clear_value x); (on_goal 1 => subst x)
    | fail_if_no_progress beta_reduce
    | split

theorem State.commitDo8_quiet {s0 : State} {s : State} (h : Quiet s0 s) :
    Quiet s0 (State.commitDo8 s) := by
  unfold State.commitDo8
  repeat' first
    | with_reducible assumption
    | with_reducible apply State.commitCan_quiet
    | with_reducible refine foldEach_quiet (fun a t k => ?_) _ ?_

theorem State.commitDo10_quiet {s0 : State} {s : State} (h : Quiet s0 s) :
    Quiet s0 (State.commitDo10 s) := by
  unfold State.commitDo10
  repeat' first
    | with_reducible assumption
    | with_reducible apply State.wr_quiet
    | with_reducible refine foldEach_quiet (fun a t k => ?_) _ ?_

theorem State.commitDo_quiet {s0 : State} {s : State} {a1 : ℕ} (h : Quiet s0 s) :
    Quiet s0 (State.commitDo s a1) := by
  unfold State.commitDo
  repeat' first
    | with_reducible assumption
    | with_reducible apply State.commitDo0_quiet
    | with_reducible apply State.commitDo1_quiet
    | with_reducible apply State.commitDo2_quiet
    | with_reducible apply State.commitDo3_quiet
    | with_reducible apply State.commitDo4_quiet
    | with_reducible apply State.commitDo5_quiet
    | with_reducible apply State.commitDo6_quiet
    | with_reducible apply State.commitDo8_quiet
    | with_reducible apply State.commitDo10_quiet
    | fail_if_no_progress beta_reduce
    | split

theorem State.commitEnd_quiet {s0 : State} {s : State} {a1 : ℕ} (h : Quiet s0 s) :
    Quiet s0 (State.commitEnd s a1) := by
  unfold State.commitEnd
  repeat' first
    | with_reducible assumption
    | with_reducible apply State.wr_quiet
    | with_reducible apply State.flag_quiet
    | with_reducible apply State.commitDo_quiet
    | with_reducible apply quiet_ite
    | fail_if_no_progress beta_reduce
    | split

theorem State.commitStart_quiet {s0 : State} {s : State} {a1 : ℕ} (h : Quiet s0 s) :
    Quiet s0 (State.commitStart s a1) := by
  unfold State.commitStart
  repeat' first
    | with_reducible assumption
    | with_reducible apply State.flag_quiet
    | with_reducible apply quiet_ite

theorem State.winWrite_quiet {s0 : State} {s : State} {a1 : Master} {a2 : ℕ} {a3 : State → State} (h : Quiet s0 s) (h3 : ∀ t, Quiet s0 t → Quiet s0 (a3 t)) :
    Quiet s0 (State.winWrite s a1 a2 a3) := by
  unfold State.winWrite
  repeat' first
    | with_reducible assumption
    | with_reducible refine h3 _ ?_
    | with_reducible refine State.busWrite_quiet ?_ (fun x_ k => ?_)
    | with_reducible apply State.commitEnd_quiet

theorem State.pauseWrite_quiet {s0 : State} {s : State} {a1 : Master} {a2 : Bool} (h : Quiet s0 s) :
    Quiet s0 (State.pauseWrite s a1 a2) := by
  unfold State.pauseWrite
  repeat' first
    | with_reducible assumption
    | with_reducible apply State.flag_quiet
    | with_reducible apply State.wr_quiet
    | with_reducible apply quiet_ite

theorem State.setCpx_quiet {s0 : State} {s : State} {a1 : CpxS} (h : Quiet s0 s) :
    Quiet s0 (State.setCpx s a1) := by
  unfold State.setCpx
  repeat' first
    | with_reducible assumption
    | fail_if_no_progress with_reducible apply quiet_mk (s := _)

theorem State.cpxLog_quiet {s0 : State} {s : State} {a1 : ℕ} (h : Quiet s0 s) :
    Quiet s0 (State.cpxLog s a1) := by
  unfold State.cpxLog
  repeat' first
    | with_reducible assumption
    | with_reducible apply State.logEv_quiet

theorem State.lastMismatch_quiet {s0 : State} {s : State} {a1 : ℕ} {a2 : ℕ} {a3 : ℕ} {a4 : ℕ} (h : Quiet s0 s) :
    Quiet s0 (State.lastMismatch s a1 a2 a3 a4) := by
  unfold State.lastMismatch
  repeat' first
    | with_reducible assumption
    | with_reducible apply State.wr_quiet

theorem State.countOut_quiet {s0 : State} {s : State} {a1 : ℕ} (h : Quiet s0 s) :
    Quiet s0 (State.countOut s a1) := by
  unfold State.countOut
  repeat' first
    | with_reducible assumption
    | with_reducible apply State.bump_quiet
    | with_reducible apply State.setCpx_quiet

theorem State.latent_quiet {s0 : State} {s : State} {a1 : ℕ} (h : Quiet s0 s) :
    Quiet s0 (State.latent s a1) := by
  unfold State.latent
  repeat' first
    | with_reducible assumption
    | with_reducible apply State.wr_quiet
    | with_reducible apply State.setCpx_quiet
    | with_reducible apply State.cpxLog_quiet
    | with_reducible apply State.lastMismatch_quiet
    | with_reducible apply State.countOut_quiet
    | with_reducible apply State.flag_quiet

theorem State.sendReport_quiet {s0 : State} {s : State} (h : Quiet s0 s) :
    Quiet s0 (State.sendReport s) := by
  unfold State.sendReport
  repeat' first
    | with_reducible assumption
    | with_reducible apply State.cpxReport_quiet
    | fail_if_no_progress beta_reduce
    | split

theorem State.toMode_quiet {s0 : State} {s : State} {a1 : ℕ} {a2 : ℕ} (h : Quiet s0 s) :
    Quiet s0 (State.toMode s a1 a2) := by
  unfold State.toMode
  repeat' first
    | with_reducible assumption
    | with_reducible apply State.sendReport_quiet
    | with_reducible apply State.wr_quiet

theorem State.enterTest_quiet {s0 : State} {s : State} {a1 : Bool} {a2 : Bool} (h : Quiet s0 s) :
    Quiet s0 (State.enterTest s a1 a2) := by
  unfold State.enterTest
  repeat' first
    | with_reducible assumption
    | with_reducible apply State.toMode_quiet
    | with_reducible apply State.setCpx_quiet

theorem State.disagree_quiet {s0 : State} {s : State} {a1 : Bool} (h : Quiet s0 s) :
    Quiet s0 (State.disagree s a1) := by
  unfold State.disagree
  repeat' first
    | with_reducible assumption
    | with_reducible apply State.enterTest_quiet
    | with_reducible apply State.cpxLog_quiet
    | with_reducible apply State.flag_quiet

theorem State.pairMismatch_quiet {s0 : State} {s : State} {a1 : Bool} (h : Quiet s0 s) :
    Quiet s0 (State.pairMismatch s a1) := by
  unfold State.pairMismatch
  repeat' first
    | with_reducible assumption
    | with_reducible apply State.enterTest_quiet
    | with_reducible apply State.cpxLog_quiet
    | with_reducible apply State.flag_quiet

theorem State.signatures_quiet {s0 : State} {s : State} {a1 : ℕ → ℕ} (h : Quiet s0 s) :
    Quiet s0 (State.signatures s a1) := by
  unfold State.signatures
  repeat' first
    | with_reducible assumption
    | intro x; try clear_value x
    | with_reducible apply State.latent_quiet
    | with_reducible apply State.disagree_quiet
    | with_reducible apply State.lastMismatch_quiet
    | with_reducible apply State.pairMismatch_quiet
    | with_reducible apply quiet_ite
    | lift_lets -underBinder; intro x; try clear_value x
    | fail_if_no_progress beta_reduce
    | split

theorem State.clearCount_quiet {s0 : State} {s : State} {a1 : ℕ} (h : Quiet s0 s) :
    Quiet s0 (State.clearCount s a1) := by
  unfold State.clearCount
  repeat' first
    | with_reducible assumption
    | with_reducible apply State.setCpx_quiet

theorem State.retirePhys_quiet {s0 : State} {s : State} {a1 : ℕ} (h : Quiet s0 s) :
    Quiet s0 (State.retirePhys s a1) := by
  unfold State.retirePhys
  repeat' first
    | with_reducible assumption
    | with_reducible apply State.flag_quiet
    | with_reducible apply State.wr_quiet
    | fail_if_no_progress with_reducible apply quiet_mk (s := _)

theorem State.injWrite_quiet {s0 : State} {s : State} {a1 : ℕ} {a2 : ℕ} (h : Quiet s0 s) :
    Quiet s0 (State.injWrite s a1 a2) := by
  unfold State.injWrite
  repeat' first
    | with_reducible assumption
    | with_reducible apply State.wr_quiet
    | with_reducible apply State.flag_quiet
    | with_reducible apply quiet_ite

theorem State.splitWrite_quiet {s0 : State} {s : State} (h : Quiet s0 s) :
    Quiet s0 (State.splitWrite s) := by
  unfold State.splitWrite
  repeat' first
    | with_reducible assumption
    | with_reducible apply State.sendReport_quiet
    | with_reducible apply State.flag_quiet
    | with_reducible apply quiet_ite

theorem State.moveChecker_quiet {s0 : State} {s : State} (h : Quiet s0 s) :
    Quiet s0 (State.moveChecker s) := by
  unfold State.moveChecker
  repeat' first
    | with_reducible assumption
    | intro x; refine quiet_cut (s0 := s0) x ?_ ?_; (on_goal 2 => clear_value x); (on_goal 1 => subst x)
    | intro x; try clear_value x
    | with_reducible apply State.flag_quiet
    | with_reducible apply State.wr_quiet
    | with_reducible apply State.toMode_quiet
    | with_reducible apply State.setCpx_quiet
    | with_reducible apply State.sendReport_quiet
    | with_reducible apply quiet_ite
    | fail_if_no_progress with_reducible apply quiet_mk (s := _)
    | lift_lets -underBinder; intro x; refine quiet_cut (s0 := s0) x ?_ ?_; (on_goal 2 => clear_value x); (on_goal 1 => subst x)
    | fail_if_no_progress beta_reduce
    | split

theorem State.checkerFault_quiet {s0 : State} {s : State} (h : Quiet s0 s) :
    Quiet s0 (State.checkerFault s) := by
  unfold State.checkerFault
  repeat' first
    | with_reducible assumption
    | with_reducible apply State.cpxLog_quiet
    | with_reducible apply State.flag_quiet
    | with_reducible apply State.setCpx_quiet
    | with_reducible apply State.moveChecker_quiet
    | with_reducible apply quiet_ite

theorem State.cpxHalt_quiet {s0 : State} {s : State} {a1 : ℕ} (h : Quiet s0 s) :
    Quiet s0 (State.cpxHalt s a1) := by
  unfold State.cpxHalt
  repeat' first
    | with_reducible assumption
    | with_reducible apply State.toMode_quiet
    | with_reducible apply State.wr_quiet

theorem State.outvote_quiet {s0 : State} {s : State} {a1 : ℕ} (h : Quiet s0 s) :
    Quiet s0 (State.outvote s a1) := by
  unfold State.outvote
  repeat' first
    | with_reducible assumption
    | with_reducible apply State.wr_quiet
    | with_reducible apply State.setCpx_quiet
    | with_reducible apply State.cpxLog_quiet
    | with_reducible apply State.countOut_quiet
    | with_reducible apply State.flag_quiet

theorem State.showTop_quiet {s0 : State} {s : State} {a1 : ℕ} (h : Quiet s0 s) :
    Quiet s0 (State.showTop s a1) := by
  unfold State.showTop
  repeat' first
    | with_reducible assumption
    | with_reducible apply State.setCpx_quiet
    | with_reducible apply State.wr_quiet
    | with_reducible apply quiet_ite
    | fail_if_no_progress beta_reduce
    | split

theorem State.showMtip_quiet {s0 : State} {s : State} {a1 : ℕ} (h : Quiet s0 s) :
    Quiet s0 (State.showMtip s a1) := by
  unfold State.showMtip
  repeat' first
    | with_reducible assumption
    | with_reducible apply State.setCpx_quiet

theorem State.promote_quiet {s0 : State} {s : State} {a1 : ℕ} {a2 : ℕ} (h : Quiet s0 s) :
    Quiet s0 (State.promote s a1 a2) := by
  unfold State.promote
  repeat' first
    | with_reducible assumption
    | with_reducible apply State.toMode_quiet
    | with_reducible apply State.setCpx_quiet

theorem State.retireCore_quiet {s0 : State} {s : State} {a1 : ℕ} (h : Quiet s0 s) :
    Quiet s0 (State.retireCore s a1) := by
  unfold State.retireCore
  repeat' first
    | with_reducible assumption
    | with_reducible apply State.cpxLog_quiet
    | with_reducible apply State.retirePhys_quiet

theorem State.retireAtSync_quiet {s0 : State} {s : State} {a1 : ℕ} (h : Quiet s0 s) :
    Quiet s0 (State.retireAtSync s a1) := by
  unfold State.retireAtSync
  repeat' first
    | with_reducible assumption
    | with_reducible apply State.setCpx_quiet
    | with_reducible apply State.retireCore_quiet
    | with_reducible apply State.promote_quiet
    | with_reducible apply State.toMode_quiet
    | with_reducible apply quiet_ite

theorem State.irqUpdate_quiet {s0 : State} {s : State} (h : Quiet s0 s) :
    Quiet s0 (State.irqUpdate s) := by
  unfold State.irqUpdate
  repeat' first
    | with_reducible assumption
    | with_reducible apply State.wr_quiet
    | with_reducible apply State.showTop_quiet
    | with_reducible refine foldEach_quiet (fun a t k => ?_) _ ?_

theorem State.joinWrite_quiet {s0 : State} {s : State} {a1 : Master} (h : Quiet s0 s) :
    Quiet s0 (State.joinWrite s a1) := by
  unfold State.joinWrite
  repeat' first
    | with_reducible assumption
    | with_reducible apply State.flag_quiet
    | with_reducible apply quiet_ite

theorem State.syncRearm_quiet {s0 : State} {s : State} (h : Quiet s0 s) :
    Quiet s0 (State.syncRearm s) := by
  unfold State.syncRearm
  repeat' first
    | with_reducible assumption
    | with_reducible apply State.setCpx_quiet

theorem State.latchCfg_quiet {s0 : State} {s : State} (h : Quiet s0 s) :
    Quiet s0 (State.latchCfg s) := by
  unfold State.latchCfg
  repeat' first
    | with_reducible assumption
    | with_reducible apply State.setCpx_quiet
    | with_reducible refine State.onlyIf_quiet ?_ (fun x_ k => ?_)
    | with_reducible apply State.flag_quiet

theorem State.cachesInvalid_quiet {s0 : State} {s : State} (h : Quiet s0 s) :
    Quiet s0 (State.cachesInvalid s) := by
  unfold State.cachesInvalid
  repeat' first
    | with_reducible assumption
    | fail_if_no_progress with_reducible apply quiet_mk (s := _)

theorem State.splitNow_quiet {s0 : State} {s : State} (h : Quiet s0 s) :
    Quiet s0 (State.splitNow s) := by
  unfold State.splitNow
  repeat' first
    | with_reducible assumption
    | with_reducible apply State.wr_quiet
    | with_reducible apply State.setCpx_quiet
    | with_reducible apply State.toMode_quiet
    | with_reducible apply State.advanceEpoch_quiet
    | with_reducible apply State.cachesInvalid_quiet
    | with_reducible apply quiet_ite

theorem State.resumeWith_quiet {s0 : State} {s : State} {a1 : List ℕ} {a2 : Bool} (h : Quiet s0 s) :
    Quiet s0 (State.resumeWith s a1 a2) := by
  unfold State.resumeWith
  repeat' first
    | with_reducible assumption
    | with_reducible apply State.cpxHalt_quiet
    | with_reducible apply State.toMode_quiet
    | with_reducible apply State.promote_quiet
    | with_reducible apply quiet_ite
    | lift_lets -underBinder; intro x; try clear_value x
    | fail_if_no_progress beta_reduce
    | split

theorem State.testDone_quiet {s0 : State} {s : State} {a1 : ℕ} (h : Quiet s0 s) :
    Quiet s0 (State.testDone s a1) := by
  unfold State.testDone
  repeat' first
    | with_reducible assumption
    | with_reducible apply State.retireCore_quiet
    | with_reducible apply State.cpxLog_quiet
    | with_reducible apply State.retirePhys_quiet
    | with_reducible apply State.setCpx_quiet
    | with_reducible apply State.cpxHalt_quiet
    | with_reducible apply State.flag_quiet
    | with_reducible apply State.resumeWith_quiet
    | with_reducible refine foldEach_quiet (fun a t k => ?_) _ ?_
    | with_reducible apply quiet_ite

theorem State.adtApply_quiet {s0 : State} {s : State} {a1 : State} {a2 : ℕ} {a3 : Option ℕ} {a4 : ℕ} {a5 : FD} (h : Quiet s0 s) :
    Quiet s0 (State.adtApply s a1 a2 a3 a4 a5) := by
  unfold State.adtApply
  repeat' first
    | with_reducible assumption
    | with_reducible refine State.onlyIf_quiet ?_ (fun x_ k => ?_)
    | with_reducible apply State.wrI_quiet
    | with_reducible apply State.noteFields_quiet
    | with_reducible apply State.flag_quiet
    | fail_if_no_progress beta_reduce
    | split

theorem State.adtUpdate_quiet {s0 : State} {s : State} {a1 : ℕ} (h : Quiet s0 s) :
    Quiet s0 (State.adtUpdate s a1) := by
  unfold State.adtUpdate
  repeat' first
    | with_reducible assumption
    | with_reducible apply State.setLeg_quiet
    | with_reducible apply State.adtApply_quiet
    | with_reducible apply quiet_ite

theorem State.showAdt_quiet {s0 : State} {s : State} {a1 : ℕ} (h : Quiet s0 s) :
    Quiet s0 (State.showAdt s a1) := by
  unfold State.showAdt
  repeat' first
    | with_reducible assumption
    | with_reducible apply State.wr_quiet

theorem State.swnMiss_quiet {s0 : State} {s : State} {a1 : ℕ} (h : Quiet s0 s) :
    Quiet s0 (State.swnMiss s a1) := by
  unfold State.swnMiss
  repeat' first
    | with_reducible assumption
    | with_reducible apply State.showPol_quiet
    | with_reducible apply State.setLeg_quiet
    | with_reducible apply State.showAdt_quiet
    | with_reducible apply State.flag_quiet
    | with_reducible apply quiet_ite

theorem State.natural_quiet {s0 : State} {s : State} {a1 : ℕ} {a2 : ℕ} {a3 : SwnWin} {a4 : Bool} {a5 : ℕ} (h : Quiet s0 s) :
    Quiet s0 (State.natural s a1 a2 a3 a4 a5) := by
  unfold State.natural
  repeat' first
    | with_reducible assumption
    | with_reducible apply State.setLeg_quiet
    | with_reducible apply State.wr_quiet
    | with_reducible apply State.showPol_quiet
    | with_reducible apply quiet_ite

theorem State.classSwn_quiet {s0 : State} {s : State} {a1 : ℕ} {a2 : Bool} {a3 : ℕ} (h : Quiet s0 s) :
    Quiet s0 (State.classSwn s a1 a2 a3) := by
  unfold State.classSwn
  repeat' first
    | with_reducible assumption
    | with_reducible apply State.natural_quiet
    | with_reducible apply State.setLeg_quiet
    | with_reducible apply State.bump_quiet
    | with_reducible apply State.flag_quiet
    | with_reducible apply quiet_ite
    | fail_if_no_progress beta_reduce
    | split

theorem State.adtClear_quiet {s0 : State} {s : State} {a1 : ℕ} (h : Quiet s0 s) :
    Quiet s0 (State.adtClear s a1) := by
  unfold State.adtClear
  repeat' first
    | with_reducible assumption
    | with_reducible apply State.wr_quiet
    | with_reducible apply State.showAdt_quiet
    | with_reducible apply State.setLeg_quiet
    | with_reducible apply quiet_ite

theorem State.padEdge_quiet {s0 : State} {s : State} {a1 : ℕ} (h : Quiet s0 s) :
    Quiet s0 (State.padEdge s a1) := by
  unfold State.padEdge
  repeat' first
    | with_reducible assumption
    | with_reducible apply State.setPad_quiet

theorem State.adtEnable_quiet {s0 : State} {s : State} {a1 : ℕ} (h : Quiet s0 s) :
    Quiet s0 (State.adtEnable s a1) := by
  unfold State.adtEnable
  repeat' first
    | with_reducible assumption
    | with_reducible apply State.flag_quiet
    | with_reducible apply State.showAdt_quiet
    | with_reducible apply State.setLeg_quiet
    | with_reducible apply quiet_ite

theorem State.startDue_quiet {s0 : State} {s : State} {a1 : ℕ} (h : Quiet s0 s) :
    Quiet s0 (State.startDue s a1) := by
  unfold State.startDue
  repeat' first
    | with_reducible assumption
    | with_reducible apply State.startTb_quiet
    | with_reducible refine State.onlyIf_quiet ?_ (fun x_ k => ?_)
    | with_reducible apply State.isoAlign_quiet
    | with_reducible apply quiet_ite

theorem State.carrierEdge_quiet {s0 : State} {s : State} (h : Quiet s0 s) :
    Quiet s0 (State.carrierEdge s) := by
  unfold State.carrierEdge
  repeat' first
    | with_reducible assumption
    | with_reducible refine State.onlyIf_quiet ?_ (fun x_ k => ?_)
    | with_reducible apply State.startDue_quiet
    | with_reducible apply State.tbEdge_quiet
    | with_reducible apply State.legEdge_quiet
    | with_reducible refine foldEach_quiet (fun a t k => ?_) _ ?_

theorem State.syncOuts_quiet {s0 : State} {s : State} {a1 : ℕ} (h : Quiet s0 s) :
    Quiet s0 (State.syncOuts s a1) := by
  unfold State.syncOuts
  repeat' first
    | with_reducible assumption
    | with_reducible refine State.onlyIf_quiet ?_ (fun x_ k => ?_)
    | with_reducible apply State.syncEvent_quiet
    | with_reducible refine foldEach_quiet (fun a t k => ?_) _ ?_

theorem State.chEmit_quiet {s0 : State} {s : State} {a1 : ℕ} {a2 : ChSent} (h : Quiet s0 s) :
    Quiet s0 (State.chEmit s a1 a2) := by
  unfold State.chEmit
  repeat' first
    | with_reducible assumption
    | fail_if_no_progress with_reducible apply quiet_mk (s := _)
    | fail_if_no_progress beta_reduce
    | split

theorem State.chForward_quiet {s0 : State} {s : State} {a1 : ℕ} {a2 : ChFrame} {a3 : List ℕ} (h : Quiet s0 s) :
    Quiet s0 (State.chForward s a1 a2 a3) := by
  unfold State.chForward
  repeat' first
    | with_reducible assumption
    | with_reducible apply State.chEmit_quiet
    | with_reducible apply quiet_ite

theorem State.chFrame_quiet {s0 : State} {s : State} {a1 : ℕ} {a2 : ChFrame} {a3 : Bool} {a4 : ℕ} {a5 : State → List ℕ → State × List ℕ} {a6 : State → List ℕ → State} (h : Quiet s0 s) (h5 : ∀ t q0, Quiet s0 t → Quiet s0 (a5 t q0).1) (h6 : ∀ t q0, Quiet s0 t → Quiet s0 (a6 t q0)) :
    Quiet s0 (State.chFrame s a1 a2 a3 a4 a5 a6) := by
  unfold State.chFrame
  repeat' first
    | with_reducible assumption
    | with_reducible refine h5 _ _ ?_
    | with_reducible refine h6 _ _ ?_
    | with_reducible apply State.bump_quiet
    | with_reducible apply State.flag_quiet
    | with_reducible apply State.chForward_quiet
    | with_reducible apply quiet_ite

theorem keepPay_quiet {s0 : State} {a0 : State → List ℕ → State} {s : State} {a2 : List ℕ} (h : Quiet s0 s) (h0 : ∀ t q0, Quiet s0 t → Quiet s0 (a0 t q0)) :
    Quiet s0 (keepPay a0 s a2).1 := by
  unfold keepPay
  repeat' first
    | with_reducible assumption
    | with_reducible refine h0 _ _ ?_

theorem State.mcCommit_quiet {s0 : State} {s : State} {a1 : List ℕ} (h : Quiet s0 s) :
    Quiet s0 (State.mcCommit s a1) := by
  unfold State.mcCommit
  repeat' first
    | with_reducible assumption
    | with_reducible refine State.onlyIf_quiet ?_ (fun x_ k => ?_)
    | with_reducible apply State.wr_quiet

theorem State.chResetIn_quiet {s0 : State} {s : State} {a1 : ℕ} (h : Quiet s0 s) :
    Quiet s0 (State.chResetIn s a1) := by
  unfold State.chResetIn
  repeat' first
    | with_reducible assumption
    | fail_if_no_progress with_reducible apply quiet_mk (s := _)

theorem State.setChPort_quiet {s0 : State} {s : State} {a1 : ℕ} {a2 : ChPort} (h : Quiet s0 s) :
    Quiet s0 (State.setChPort s a1 a2) := by
  unfold State.setChPort
  repeat' first
    | with_reducible assumption
    | with_reducible apply quiet_ite
    | fail_if_no_progress with_reducible apply quiet_mk (s := _)

theorem State.setWrap_quiet {s0 : State} {s : State} {a1 : ℕ} {a2 : Bool} (h : Quiet s0 s) :
    Quiet s0 (State.setWrap s a1 a2) := by
  unfold State.setWrap
  repeat' first
    | with_reducible assumption
    | with_reducible apply State.flag_quiet
    | with_reducible apply State.wr_quiet

theorem State.chUnwrapIf_quiet {s0 : State} {s : State} {a1 : ℕ} (h : Quiet s0 s) :
    Quiet s0 (State.chUnwrapIf s a1) := by
  unfold State.chUnwrapIf
  repeat' first
    | with_reducible assumption
    | with_reducible refine State.onlyIf_quiet ?_ (fun x_ k => ?_)
    | with_reducible apply State.setWrap_quiet

theorem State.chNewRing_quiet {s0 : State} {s : State} (h : Quiet s0 s) :
    Quiet s0 (State.chNewRing s) := by
  unfold State.chNewRing
  repeat' first
    | with_reducible assumption
    | fail_if_no_progress with_reducible apply quiet_mk (s := _)

theorem State.setUp_quiet {s0 : State} {s : State} {a1 : ℕ} {a2 : Bool} (h : Quiet s0 s) :
    Quiet s0 (State.setUp s a1 a2) := by
  unfold State.setUp
  repeat' first
    | with_reducible assumption
    | with_reducible apply State.flag_quiet
    | with_reducible apply State.wr_quiet

theorem State.chPortDown_quiet {s0 : State} {s : State} {a1 : ℕ} (h : Quiet s0 s) :
    Quiet s0 (State.chPortDown s a1) := by
  unfold State.chPortDown
  repeat' first
    | with_reducible assumption
    | with_reducible refine State.onlyIf_quiet ?_ (fun x_ k => ?_)
    | with_reducible apply State.setUp_quiet
    | with_reducible apply State.setWrap_quiet
    | with_reducible apply State.setChPort_quiet
    | with_reducible apply quiet_ite

theorem State.csyncArm_quiet {s0 : State} {s : State} {a1 : ℕ} (h : Quiet s0 s) :
    Quiet s0 (State.csyncArm s a1) := by
  unfold State.csyncArm
  repeat' first
    | with_reducible assumption
    | with_reducible apply State.wr_quiet
    | with_reducible apply State.flag_quiet
    | with_reducible apply quiet_ite

theorem State.chSend_quiet {s0 : State} {s : State} {a1 : ℕ} {a2 : ℕ} {a3 : List ℕ} (h : Quiet s0 s) :
    Quiet s0 (State.chSend s a1 a2 a3) := by
  unfold State.chSend
  repeat' first
    | with_reducible assumption
    | with_reducible apply State.chEmit_quiet
    | fail_if_no_progress with_reducible apply quiet_mk (s := _)

theorem State.chResetOne_quiet {s0 : State} {s : State} {a1 : ℕ} (h : Quiet s0 s) :
    Quiet s0 (State.chResetOne s a1) := by
  unfold State.chResetOne
  repeat' first
    | with_reducible assumption
    | with_reducible apply State.wr_quiet
    | with_reducible apply State.chSend_quiet
    | with_reducible apply State.flag_quiet
    | with_reducible apply quiet_ite

theorem State.chTokenVisit_quiet {s0 : State} {s : State} {a1 : List ℕ} (h : Quiet s0 s) :
    Quiet s0 (State.chTokenVisit s a1).1 := by
  unfold State.chTokenVisit
  repeat' first
    | with_reducible assumption
    | intro x; refine quiet_cut (s0 := s0) x ?_ ?_; (on_goal 2 => clear_value x); (on_goal 1 => subst x)
    | intro x; try clear_value x
    | with_reducible apply State.wr_quiet
    | with_reducible apply State.flag_quiet
    | with_reducible apply quiet_ite
    | lift_lets -underBinder; intro x; try clear_value x
    | fail_if_no_progress beta_reduce
    | split

theorem State.sendCensus_quiet {s0 : State} {s : State} (h : Quiet s0 s) :
    Quiet s0 (State.sendCensus s) := by
  unfold State.sendCensus
  repeat' first
    | with_reducible assumption
    | with_reducible apply State.chSend_quiet
    | fail_if_no_progress with_reducible apply quiet_mk (s := _)

theorem State.retireLane_quiet {s0 : State} {s : State} {a1 : ℕ} {a2 : ℕ} {a3 : ℕ} (h : Quiet s0 s) :
    Quiet s0 (State.retireLane s a1 a2 a3) := by
  unfold State.retireLane
  repeat' first
    | with_reducible assumption
    | with_reducible apply State.flag_quiet
    | fail_if_no_progress with_reducible apply quiet_mk (s := _)

theorem State.chShowLock_quiet {s0 : State} {s : State} (h : Quiet s0 s) :
    Quiet s0 (State.chShowLock s) := by
  unfold State.chShowLock
  repeat' first
    | with_reducible assumption
    | with_reducible refine State.onlyIf_quiet ?_ (fun x_ k => ?_)
    | with_reducible apply State.wr_quiet

theorem State.chCensusHome_quiet {s0 : State} {s : State} {a1 : ℕ} (h : Quiet s0 s) :
    Quiet s0 (State.chCensusHome s a1) := by
  unfold State.chCensusHome
  repeat' first
    | with_reducible assumption
    | with_reducible apply State.wr_quiet
    | with_reducible refine State.onlyIf_quiet ?_ (fun x_ k => ?_)
    | with_reducible apply State.flag_quiet
    | with_reducible refine foldEach_quiet (fun a t k => ?_) _ ?_
    | with_reducible apply quiet_ite
    | fail_if_no_progress with_reducible apply quiet_mk (s := _)

theorem State.carrierSync_quiet {s0 : State} {s : State} (h : Quiet s0 s) :
    Quiet s0 (State.carrierSync s) := by
  unfold State.carrierSync
  repeat' first
    | with_reducible assumption
    | with_reducible refine State.onlyIf_quiet ?_ (fun x_ k => ?_)
    | with_reducible apply State.syncEvent_quiet
    | with_reducible refine foldEach_quiet (fun a t k => ?_) _ ?_

theorem State.csyncRaise_quiet {s0 : State} {s : State} {a1 : ℕ} (h : Quiet s0 s) :
    Quiet s0 (State.csyncRaise s a1) := by
  unfold State.csyncRaise
  repeat' first
    | with_reducible assumption
    | with_reducible apply State.carrierSync_quiet
    | with_reducible apply State.wr_quiet
    | with_reducible apply quiet_ite

theorem State.mcState_quiet {s0 : State} {s : State} {a1 : ℕ} (h : Quiet s0 s) :
    Quiet s0 (State.mcState s a1) := by
  unfold State.mcState
  repeat' first
    | with_reducible assumption
    | with_reducible apply State.flag_quiet
    | with_reducible apply State.wr_quiet
    | with_reducible apply quiet_ite

theorem State.mcArm_quiet {s0 : State} {s : State} {a1 : ℕ} {a2 : ℕ} (h : Quiet s0 s) :
    Quiet s0 (State.mcArm s a1 a2).1 := by
  unfold State.mcArm
  repeat' first
    | with_reducible assumption
    | intro x; refine quiet_cut (s0 := s0) x ?_ ?_; (on_goal 2 => clear_value x); (on_goal 1 => subst x)
    | intro x; try clear_value x
    | with_reducible apply State.wr_quiet
    | with_reducible apply State.mcState_quiet
    | with_reducible apply quiet_ite
    | fail_if_no_progress with_reducible apply quiet_mk (s := _)
    | lift_lets -underBinder; intro x; try clear_value x
    | fail_if_no_progress beta_reduce
    | split

theorem State.mcResult_quiet {s0 : State} {s : State} {a1 : ℕ} (h : Quiet s0 s) :
    Quiet s0 (State.mcResult s a1) := by
  unfold State.mcResult
  repeat' first
    | with_reducible assumption
    | with_reducible apply State.flag_quiet
    | with_reducible apply State.wr_quiet
    | with_reducible apply quiet_ite

theorem State.mcPrepare_quiet {s0 : State} {s : State} {a1 : ℕ} (h : Quiet s0 s) :
    Quiet s0 (State.mcPrepare s a1) := by
  unfold State.mcPrepare
  repeat' first
    | with_reducible assumption
    | intro x; refine quiet_cut (s0 := s0) x ?_ ?_; (on_goal 2 => clear_value x); (on_goal 1 => subst x)
    | intro x; try clear_value x
    | with_reducible apply State.wr_quiet
    | with_reducible apply State.flag_quiet
    | with_reducible apply State.mcArm_quiet
    | with_reducible apply State.chSend_quiet
    | with_reducible apply State.mcResult_quiet
    | with_reducible apply quiet_ite
    | fail_if_no_progress with_reducible apply quiet_mk (s := _)
    | with_reducible refine quiet_fst ‹_ = (_, _)› ?_
    | lift_lets -underBinder; intro x; try clear_value x
    | fail_if_no_progress beta_reduce
    | split

theorem State.sendToken_quiet {s0 : State} {s : State} {a1 : Bool} (h : Quiet s0 s) :
    Quiet s0 (State.sendToken s a1) := by
  unfold State.sendToken
  repeat' first
    | with_reducible assumption
    | with_reducible apply State.chSend_quiet
    | with_reducible apply quiet_ite
    | fail_if_no_progress with_reducible apply quiet_mk (s := _)

theorem State.chEnumerate_quiet {s0 : State} {s : State} {a1 : Bool} (h : Quiet s0 s) :
    Quiet s0 (State.chEnumerate s a1) := by
  unfold State.chEnumerate
  repeat' first
    | with_reducible assumption
    | with_reducible apply State.wr_quiet
    | with_reducible apply State.flag_quiet
    | with_reducible apply State.sendToken_quiet
    | with_reducible apply quiet_ite

theorem State.chSetEn_quiet {s0 : State} {s : State} {a1 : Bool} (h : Quiet s0 s) :
    Quiet s0 (State.chSetEn s a1) := by
  unfold State.chSetEn
  repeat' first
    | with_reducible assumption
    | with_reducible apply State.wr_quiet
    | with_reducible apply State.setChPort_quiet
    | with_reducible apply State.chPortDown_quiet
    | with_reducible apply State.chShowLock_quiet
    | with_reducible refine foldEach_quiet (fun a t k => ?_) _ ?_
    | with_reducible apply quiet_ite

theorem State.chGo_quiet {s0 : State} {s : State} (h : Quiet s0 s) :
    Quiet s0 (State.chGo s) := by
  unfold State.chGo
  repeat' first
    | with_reducible assumption
    | with_reducible apply State.flag_quiet
    | with_reducible apply State.wr_quiet
    | with_reducible apply quiet_ite
    | fail_if_no_progress with_reducible apply quiet_mk (s := _)

theorem State.mcApplied_quiet {s0 : State} {s : State} {a1 : ℕ} (h : Quiet s0 s) :
    Quiet s0 (State.mcApplied s a1) := by
  unfold State.mcApplied
  repeat' first
    | with_reducible assumption
    | with_reducible refine State.onlyIf_quiet ?_ (fun x_ k => ?_)
    | with_reducible apply State.wr_quiet
    | with_reducible apply State.mcResult_quiet

theorem State.chResetAll_quiet {s0 : State} {s : State} (h : Quiet s0 s) :
    Quiet s0 (State.chResetAll s) := by
  unfold State.chResetAll
  repeat' first
    | with_reducible assumption
    | with_reducible apply State.chResetIn_quiet
    | with_reducible apply State.chSend_quiet
    | with_reducible apply State.flag_quiet
    | with_reducible apply quiet_ite

theorem State.mcThrice_quiet {s0 : State} {s : State} {a1 : ℕ} (h : Quiet s0 s) :
    Quiet s0 (State.mcThrice s a1) := by
  unfold State.mcThrice
  repeat' first
    | with_reducible assumption
    | with_reducible apply State.chSend_quiet
    | fail_if_no_progress with_reducible apply quiet_mk (s := _)

theorem State.mcRepeat_quiet {s0 : State} {s : State} (h : Quiet s0 s) :
    Quiet s0 (State.mcRepeat s) := by
  unfold State.mcRepeat
  repeat' first
    | with_reducible assumption
    | with_reducible apply State.chSend_quiet
    | with_reducible refine foldEach_quiet (fun a t k => ?_) _ ?_
    | with_reducible apply quiet_ite
    | fail_if_no_progress with_reducible apply quiet_mk (s := _)

theorem State.toBypass_quiet {s0 : State} {s : State} (h : Quiet s0 s) :
    Quiet s0 (State.toBypass s) := by
  unfold State.toBypass
  repeat' first
    | with_reducible assumption
    | with_reducible apply State.canClockStop_quiet
    | with_reducible apply State.flag_quiet
    | with_reducible apply quiet_ite
    | fail_if_no_progress with_reducible apply quiet_mk (s := _)

theorem State.pllcDown_quiet {s0 : State} {s : State} (h : Quiet s0 s) :
    Quiet s0 (State.pllcDown s) := by
  unfold State.pllcDown
  repeat' first
    | with_reducible assumption
    | with_reducible apply State.chPortDown_quiet
    | with_reducible refine State.onlyIf_quiet ?_ (fun x_ k => ?_)
    | with_reducible apply State.flag_quiet
    | with_reducible refine foldEach_quiet (fun a t k => ?_) _ ?_

theorem State.pllQuit_quiet {s0 : State} {s : State} {a1 : ℕ} (h : Quiet s0 s) :
    Quiet s0 (State.pllQuit s a1) := by
  unfold State.pllQuit
  repeat' first
    | with_reducible assumption
    | with_reducible apply State.toBypass_quiet
    | with_reducible apply State.pllcDown_quiet
    | fail_if_no_progress beta_reduce
    | split

theorem State.setPllSt_quiet {s0 : State} {s : State} {a1 : ℕ} {a2 : ℕ} (h : Quiet s0 s) :
    Quiet s0 (State.setPllSt s a1 a2) := by
  unfold State.setPllSt
  repeat' first
    | with_reducible assumption
    | with_reducible apply State.wr_quiet

theorem State.setPll_quiet {s0 : State} {s : State} {a1 : ℕ} {a2 : PllS} (h : Quiet s0 s) :
    Quiet s0 (State.setPll s a1 a2) := by
  unfold State.setPll
  repeat' first
    | with_reducible assumption
    | fail_if_no_progress with_reducible apply quiet_mk (s := _)

theorem State.bandErr_quiet {s0 : State} {s : State} {a1 : ℕ} (h : Quiet s0 s) :
    Quiet s0 (State.bandErr s a1) := by
  unfold State.bandErr
  repeat' first
    | with_reducible assumption
    | with_reducible apply State.flag_quiet
    | with_reducible apply State.setPllSt_quiet
    | with_reducible apply State.setPll_quiet
    | with_reducible refine State.onlyIf_quiet ?_ (fun x_ k => ?_)
    | with_reducible apply State.logEv_quiet

theorem State.bandTry_quiet {s0 : State} {s : State} {a1 : ℕ} {a2 : List (ℕ × ℕ)} (h : Quiet s0 s) :
    Quiet s0 (State.bandTry s a1 a2) := by
  unfold State.bandTry
  repeat' first
    | with_reducible assumption
    | with_reducible apply State.bandErr_quiet
    | with_reducible apply State.wr_quiet
    | with_reducible apply State.setPll_quiet
    | with_reducible apply State.setPllSt_quiet
    | fail_if_no_progress beta_reduce
    | split

theorem State.bandSelect_quiet {s0 : State} {s : State} {a1 : ℕ} (h : Quiet s0 s) :
    Quiet s0 (State.bandSelect s a1) := by
  unfold State.bandSelect
  repeat' first
    | with_reducible assumption
    | with_reducible apply State.bandTry_quiet
    | with_reducible apply State.setPll_quiet
    | with_reducible apply State.setPllSt_quiet
    | with_reducible apply quiet_ite

theorem State.clkRefuse_quiet {s0 : State} {s : State} {a1 : ℕ} (h : Quiet s0 s) :
    Quiet s0 (State.clkRefuse s a1) := by
  unfold State.clkRefuse
  repeat' first
    | with_reducible assumption
    | with_reducible apply State.flag_quiet
    | with_reducible apply State.wr_quiet

theorem State.pllEn_quiet {s0 : State} {s : State} {a1 : ℕ} {a2 : Bool} (h : Quiet s0 s) :
    Quiet s0 (State.pllEn s a1 a2) := by
  unfold State.pllEn
  repeat' first
    | with_reducible assumption
    | with_reducible apply State.bandSelect_quiet
    | with_reducible refine State.onlyIf_quiet ?_ (fun x_ k => ?_)
    | with_reducible apply State.wr_quiet
    | with_reducible apply State.clkRefuse_quiet
    | with_reducible apply State.setPllSt_quiet
    | with_reducible apply State.pllQuit_quiet
    | with_reducible apply State.setPll_quiet
    | with_reducible apply quiet_ite
    | fail_if_no_progress with_reducible apply quiet_mk (s := _)

theorem State.pllLoss_quiet {s0 : State} {s : State} {a1 : ℕ} (h : Quiet s0 s) :
    Quiet s0 (State.pllLoss s a1) := by
  unfold State.pllLoss
  repeat' first
    | with_reducible assumption
    | with_reducible apply State.wr_quiet
    | with_reducible apply State.setPllSt_quiet
    | with_reducible refine State.onlyIf_quiet ?_ (fun x_ k => ?_)
    | with_reducible apply State.setPll_quiet
    | with_reducible apply State.flag_quiet
    | with_reducible apply State.toBypass_quiet
    | with_reducible apply State.pllcDown_quiet
    | with_reducible apply quiet_ite
    | lift_lets -underBinder; intro x; try clear_value x
    | fail_if_no_progress beta_reduce
    | split

theorem State.clkTick_quiet {s0 : State} {s : State} (h : Quiet s0 s) :
    Quiet s0 (State.clkTick s) := by
  unfold State.clkTick
  repeat' first
    | with_reducible assumption
    | with_reducible apply State.setPllSt_quiet
    | with_reducible apply State.setPll_quiet
    | with_reducible refine foldEach_quiet (fun a t k => ?_) _ ?_
    | with_reducible apply quiet_ite

theorem State.pllBack_quiet {s0 : State} {s : State} {a1 : ℕ} {a2 : ℤ} (h : Quiet s0 s) :
    Quiet s0 (State.pllBack s a1 a2) := by
  unfold State.pllBack
  repeat' first
    | with_reducible assumption
    | with_reducible apply State.wrI_quiet
    | with_reducible apply State.setPllSt_quiet
    | with_reducible apply State.setPll_quiet
    | with_reducible apply quiet_ite

theorem State.localCycle_quiet {s0 : State} {s : State} {a1 : ℤ} (h : Quiet s0 s) :
    Quiet s0 (State.localCycle s a1) := by
  unfold State.localCycle
  repeat' first
    | with_reducible assumption
    | with_reducible apply State.pllBack_quiet
    | with_reducible apply State.pllLoss_quiet
    | with_reducible refine foldEach_quiet (fun a t k => ?_) _ ?_

theorem State.localChosen_quiet {s0 : State} {s : State} {a1 : ℕ} {a2 : ℤ} (h : Quiet s0 s) :
    Quiet s0 (State.localChosen s a1 a2) := by
  unfold State.localChosen
  repeat' first
    | with_reducible assumption
    | with_reducible apply State.wr_quiet
    | with_reducible apply State.bandSelect_quiet
    | with_reducible apply State.pllBack_quiet
    | with_reducible refine foldEach_quiet (fun a t k => ?_) _ ?_
    | with_reducible apply quiet_ite

theorem State.localValid_quiet {s0 : State} {s : State} {a1 : ℕ} {a2 : ℤ} (h : Quiet s0 s) :
    Quiet s0 (State.localValid s a1 a2) := by
  unfold State.localValid
  repeat' first
    | with_reducible assumption
    | with_reducible refine State.onlyIf_quiet ?_ (fun x_ k => ?_)
    | with_reducible apply State.flag_quiet
    | with_reducible apply State.wr_quiet
    | with_reducible apply State.localChosen_quiet
    | with_reducible apply State.pllBack_quiet
    | with_reducible refine foldEach_quiet (fun a t k => ?_) _ ?_
    | with_reducible apply quiet_ite
    | fail_if_no_progress with_reducible apply quiet_mk (s := _)

theorem State.localLost_quiet {s0 : State} {s : State} {a1 : ℕ} {a2 : ℤ} (h : Quiet s0 s) :
    Quiet s0 (State.localLost s a1 a2) := by
  unfold State.localLost
  repeat' first
    | with_reducible assumption
    | with_reducible apply State.flag_quiet
    | with_reducible apply State.wr_quiet
    | with_reducible apply State.localCycle_quiet
    | with_reducible apply State.pllLoss_quiet
    | with_reducible refine foldEach_quiet (fun a t k => ?_) _ ?_
    | with_reducible apply quiet_ite

theorem State.clkLocalSel_quiet {s0 : State} {s : State} {a1 : ℕ} {a2 : ℤ} (h : Quiet s0 s) :
    Quiet s0 (State.clkLocalSel s a1 a2) := by
  unfold State.clkLocalSel
  repeat' first
    | with_reducible assumption
    | with_reducible apply State.clkRefuse_quiet
    | with_reducible apply State.wr_quiet
    | with_reducible apply State.localChosen_quiet
    | with_reducible apply State.localCycle_quiet
    | with_reducible apply quiet_ite

theorem State.clkIsland_quiet {s0 : State} {s : State} {a1 : ℕ} (h : Quiet s0 s) :
    Quiet s0 (State.clkIsland s a1) := by
  unfold State.clkIsland
  repeat' first
    | with_reducible assumption
    | with_reducible apply State.wr_quiet
    | with_reducible refine State.onlyIf_quiet ?_ (fun x_ k => ?_)
    | with_reducible apply State.isoResetEnd_quiet
    | with_reducible apply quiet_ite

theorem State.clkRun_quiet {s0 : State} {s : State} {a1 : ℕ} (h : Quiet s0 s) :
    Quiet s0 (State.clkRun s a1) := by
  unfold State.clkRun
  repeat' first
    | with_reducible assumption
    | with_reducible apply State.clkIsland_quiet
    | with_reducible refine foldEach_quiet (fun a t k => ?_) _ ?_
    | with_reducible apply quiet_ite

theorem State.pllDither_quiet {s0 : State} {s : State} {a1 : ℕ} {a2 : Bool} (h : Quiet s0 s) :
    Quiet s0 (State.pllDither s a1 a2) := by
  unfold State.pllDither
  repeat' first
    | with_reducible assumption
    | with_reducible apply State.wr_quiet
    | with_reducible apply State.clkRefuse_quiet
    | with_reducible apply State.setPll_quiet
    | with_reducible apply quiet_ite

theorem State.pllRelock_quiet {s0 : State} {s : State} {a1 : ℕ} (h : Quiet s0 s) :
    Quiet s0 (State.pllRelock s a1) := by
  unfold State.pllRelock
  repeat' first
    | with_reducible assumption
    | with_reducible apply State.clkRefuse_quiet
    | with_reducible apply State.bandSelect_quiet
    | with_reducible apply State.pllQuit_quiet
    | with_reducible apply quiet_ite

end Sys2Proof.Machine
end

