-- ==== Sys2Proof/Laws/QuietOpsD.lean ====
section
/-! SUPPORT. Shared operations that store to no memory: part 4 of 4, in the order in which the operations build on one another. -/

namespace Sys2Proof.Machine

theorem State.roleChanged_quiet {s0 : State} {s : State} (h : Quiet s0 s) :
    Quiet s0 (State.roleChanged s) := by
  unfold State.roleChanged
  repeat' first
    | with_reducible assumption
    | with_reducible apply State.chShowLock_quiet
    | with_reducible refine State.onlyIf_quiet ?_ (fun x_ k => ?_)
    | with_reducible apply State.wr_quiet

theorem State.pllSeed_quiet {s0 : State} {s : State} {a1 : ℕ} {a2 : ℕ} {a3 : ℕ} (h : Quiet s0 s) :
    Quiet s0 (State.pllSeed s a1 a2 a3) := by
  unfold State.pllSeed
  repeat' first
    | with_reducible assumption
    | with_reducible apply State.clkRefuse_quiet
    | with_reducible apply State.wr_quiet
    | with_reducible apply quiet_ite

theorem State.refSwitch_quiet {s0 : State} {s : State} {a1 : State} (h : Quiet s0 s) :
    Quiet s0 (State.refSwitch s a1) := by
  unfold State.refSwitch
  repeat' first
    | with_reducible assumption
    | with_reducible refine State.onlyIf_quiet ?_ (fun x_ k => ?_)
    | with_reducible apply State.pllLoss_quiet

theorem State.setKeyStep_quiet {s0 : State} {s : State} {a1 : Option ℕ} (h : Quiet s0 s) :
    Quiet s0 (State.setKeyStep s a1) := by
  unfold State.setKeyStep
  repeat' first
    | with_reducible assumption
    | fail_if_no_progress with_reducible apply quiet_mk (s := _)

theorem State.showReady_quiet {s0 : State} {s : State} {a1 : ℕ} (h : Quiet s0 s) :
    Quiet s0 (State.showReady s a1) := by
  unfold State.showReady
  repeat' first
    | with_reducible assumption
    | with_reducible apply State.wr_quiet

theorem State.showAllReady_quiet {s0 : State} {s : State} (h : Quiet s0 s) :
    Quiet s0 (State.showAllReady s) := by
  unfold State.showAllReady
  repeat' first
    | with_reducible assumption
    | with_reducible apply State.showReady_quiet
    | with_reducible refine foldEach_quiet (fun a t k => ?_) _ ?_

theorem State.loadWrite_quiet {s0 : State} {s : State} {a1 : ℕ} (h : Quiet s0 s) :
    Quiet s0 (State.loadWrite s a1) := by
  unfold State.loadWrite
  repeat' first
    | with_reducible assumption
    | with_reducible apply State.flag_quiet
    | with_reducible apply State.wr_quiet
    | with_reducible apply State.showAllReady_quiet
    | with_reducible apply quiet_ite
    | fail_if_no_progress with_reducible apply quiet_mk (s := _)

theorem State.closeLock_quiet {s0 : State} {s : State} (h : Quiet s0 s) :
    Quiet s0 (State.closeLock s) := by
  unfold State.closeLock
  repeat' first
    | with_reducible assumption
    | with_reducible apply State.wr_quiet

theorem State.disableStage_quiet {s0 : State} {s : State} {a1 : ℕ} (h : Quiet s0 s) :
    Quiet s0 (State.disableStage s a1) := by
  unfold State.disableStage
  repeat' first
    | with_reducible assumption
    | with_reducible apply State.stageOff_quiet
    | with_reducible apply State.wr_quiet
    | with_reducible apply State.latchStage_quiet
    | with_reducible apply quiet_ite

theorem State.imgFailed_quiet {s0 : State} {s : State} {a1 : ℕ} {a2 : ℕ} {a3 : ℕ} (h : Quiet s0 s) :
    Quiet s0 (State.imgFailed s a1 a2 a3) := by
  unfold State.imgFailed
  repeat' first
    | with_reducible assumption
    | with_reducible apply State.wr_quiet

theorem State.loadPolarity_quiet {s0 : State} {s : State} {a1 : ℕ} (h : Quiet s0 s) :
    Quiet s0 (State.loadPolarity s a1) := by
  unfold State.loadPolarity
  repeat' first
    | with_reducible assumption
    | with_reducible apply State.setPad_quiet

theorem State.showSeqs_quiet {s0 : State} {s : State} (h : Quiet s0 s) :
    Quiet s0 (State.showSeqs s) := by
  unfold State.showSeqs
  repeat' first
    | with_reducible assumption
    | with_reducible apply State.wr_quiet
    | with_reducible refine foldEach_quiet (fun a t k => ?_) _ ?_

theorem State.bindClaims_quiet {s0 : State} {s : State} {a1 : SMap ℕ} (h : Quiet s0 s) :
    Quiet s0 (State.bindClaims s a1) := by
  unfold State.bindClaims
  repeat' first
    | with_reducible assumption
    | with_reducible apply State.setClaim_quiet
    | with_reducible refine foldEach_quiet (fun a t k => ?_) _ ?_
    | with_reducible apply quiet_ite
    | fail_if_no_progress with_reducible apply quiet_mk (s := _)

theorem State.dropDynamic_quiet {s0 : State} {s : State} (h : Quiet s0 s) :
    Quiet s0 (State.dropDynamic s) := by
  unfold State.dropDynamic
  repeat' first
    | with_reducible assumption
    | with_reducible apply State.setSeq_quiet
    | with_reducible apply State.seqDisable_quiet
    | with_reducible apply State.wr2_quiet
    | with_reducible apply State.pairDisarm_quiet
    | with_reducible apply State.wr_quiet
    | with_reducible apply State.fcDisable_quiet
    | with_reducible apply State.rsValid_quiet
    | with_reducible apply State.emuDisable_quiet
    | with_reducible apply State.flag_quiet
    | with_reducible apply State.setClaim_quiet
    | with_reducible refine foldEach_quiet (fun a t k => ?_) _ ?_
    | with_reducible apply quiet_ite

theorem State.imgRecord_quiet {s0 : State} {s : State} {a1 : ℕ} (h : Quiet s0 s) :
    Quiet s0 (State.imgRecord s a1) := by
  unfold State.imgRecord
  repeat' first
    | with_reducible assumption
    | with_reducible apply State.logEv_quiet

theorem State.lockWrite_quiet {s0 : State} {s : State} {a1 : Master} {a2 : ℕ} {a3 : Bool} (h : Quiet s0 s) :
    Quiet s0 (State.lockWrite s a1 a2 a3) := by
  unfold State.lockWrite
  repeat' first
    | with_reducible assumption
    | with_reducible apply State.setKeyStep_quiet
    | with_reducible apply State.wr_quiet
    | with_reducible apply State.flag_quiet
    | with_reducible refine State.onlyIf_quiet ?_ (fun x_ k => ?_)
    | with_reducible apply State.closeLock_quiet
    | with_reducible apply quiet_ite

theorem State.rwiDiscard_quiet {s0 : State} {s : State} {a1 : Master} {a2 : ℕ} {a3 : ℕ} (h : Quiet s0 s) :
    Quiet s0 (State.rwiDiscard s a1 a2 a3) := by
  unfold State.rwiDiscard
  repeat' first
    | with_reducible assumption
    | with_reducible apply State.wr_quiet
    | with_reducible apply State.flag_quiet

theorem State.rwiPolarity_quiet {s0 : State} {s : State} {a1 : State} {a2 : ℕ} (h : Quiet s0 s) :
    Quiet s0 (State.rwiPolarity s a1 a2) := by
  unfold State.rwiPolarity
  repeat' first
    | with_reducible assumption
    | with_reducible refine State.onlyIf_quiet ?_ (fun x_ k => ?_)
    | with_reducible apply State.setPad_quiet
    | with_reducible apply quiet_ite
    | fail_if_no_progress beta_reduce
    | split

theorem State.reclaim_quiet {s0 : State} {s : State} {a1 : ℕ} {a2 : SMap ℕ} (h : Quiet s0 s) :
    Quiet s0 (State.reclaim s a1 a2) := by
  unfold State.reclaim
  repeat' first
    | with_reducible assumption
    | with_reducible apply State.setClaim_quiet
    | with_reducible refine foldEach_quiet (fun a t k => ?_) _ ?_
    | with_reducible apply quiet_ite
    | fail_if_no_progress with_reducible apply quiet_mk (s := _)

theorem State.rwiClaims_quiet {s0 : State} {s : State} {a1 : State} {a2 : ℕ} (h : Quiet s0 s) :
    Quiet s0 (State.rwiClaims s a1 a2) := by
  unfold State.rwiClaims
  repeat' first
    | with_reducible assumption
    | with_reducible apply State.reclaim_quiet
    | with_reducible apply quiet_ite
    | fail_if_no_progress beta_reduce
    | split

theorem State.releaseLeg_quiet {s0 : State} {s : State} {a1 : ℕ} (h : Quiet s0 s) :
    Quiet s0 (State.releaseLeg s a1) := by
  unfold State.releaseLeg
  repeat' first
    | with_reducible assumption
    | with_reducible apply State.restartLeg_quiet
    | with_reducible apply State.setPad_quiet
    | with_reducible apply quiet_ite

theorem State.enableStage_quiet {s0 : State} {s : State} {a1 : ℕ} (h : Quiet s0 s) :
    Quiet s0 (State.enableStage s a1) := by
  unfold State.enableStage
  repeat' first
    | with_reducible assumption
    | with_reducible apply State.flag_quiet
    | with_reducible apply State.wr_quiet
    | with_reducible apply State.setAsc_quiet
    | with_reducible apply State.releaseLeg_quiet
    | with_reducible refine foldEach_quiet (fun a t k => ?_) _ ?_
    | with_reducible apply quiet_ite

theorem State.showRuns_quiet {s0 : State} {s : State} (h : Quiet s0 s) :
    Quiet s0 (State.showRuns s) := by
  unfold State.showRuns
  repeat' first
    | with_reducible assumption
    | with_reducible apply State.wr_quiet
    | fail_if_no_progress beta_reduce
    | split

theorem State.showAge_quiet {s0 : State} {s : State} {a1 : ℕ} {a2 : ℕ} (h : Quiet s0 s) :
    Quiet s0 (State.showAge s a1 a2) := by
  unfold State.showAge
  repeat' first
    | with_reducible assumption
    | with_reducible apply State.wr_quiet
    | with_reducible apply quiet_ite

theorem State.showUnit_quiet {s0 : State} {s : State} {a1 : Option ℕ} {a2 : List MapEnt} {a3 : ℕ} (h : Quiet s0 s) :
    Quiet s0 (State.showUnit s a1 a2 a3) := by
  unfold State.showUnit
  repeat' first
    | with_reducible assumption
    | with_reducible apply State.wr_quiet

theorem State.showPu_quiet {s0 : State} {s : State} {a1 : Option ℕ} {a2 : Option ℕ} {a3 : List MapEnt} {a4 : ℕ} (h : Quiet s0 s) :
    Quiet s0 (State.showPu s a1 a2 a3 a4) := by
  unfold State.showPu
  repeat' first
    | with_reducible assumption
    | with_reducible apply State.wr_quiet

theorem State.useMap_quiet {s0 : State} {s : State} {a1 : Option ℕ} {a2 : List MapEnt} (h : Quiet s0 s) :
    Quiet s0 (State.useMap s a1 a2) := by
  unfold State.useMap
  repeat' first
    | with_reducible assumption
    | with_reducible apply State.showUnit_quiet
    | with_reducible apply State.showPu_quiet
    | with_reducible apply State.showIsoDead_quiet
    | with_reducible apply State.setClaim_quiet
    | with_reducible apply State.wr_quiet
    | with_reducible apply State.wr2_quiet
    | with_reducible refine foldEach_quiet (fun a t k => ?_) _ ?_
    | with_reducible apply quiet_ite

theorem State.mapEvents_quiet {s0 : State} {s : State} {a1 : List MapEnt} {a2 : List MapEnt} (h : Quiet s0 s) :
    Quiet s0 (State.mapEvents s a1 a2) := by
  unfold State.mapEvents
  repeat' first
    | with_reducible assumption
    | with_reducible refine State.onlyIf_quiet ?_ (fun x_ k => ?_)
    | with_reducible apply State.flag_quiet

theorem State.dropIsland_quiet {s0 : State} {s : State} {a1 : ℕ} (h : Quiet s0 s) :
    Quiet s0 (State.dropIsland s a1) := by
  unfold State.dropIsland
  repeat' first
    | with_reducible assumption
    | with_reducible apply State.setClaim_quiet
    | with_reducible refine foldEach_quiet (fun a t k => ?_) _ ?_
    | with_reducible apply quiet_ite

theorem State.orphan_quiet {s0 : State} {s : State} {a1 : ℕ} (h : Quiet s0 s) :
    Quiet s0 (State.orphan s a1) := by
  unfold State.orphan
  repeat' first
    | with_reducible assumption
    | with_reducible apply quiet_ite
    | fail_if_no_progress with_reducible apply quiet_mk (s := _)

theorem State.clearUnits_quiet {s0 : State} {s : State} {a1 : ℕ} (h : Quiet s0 s) :
    Quiet s0 (State.clearUnits s a1) := by
  unfold State.clearUnits
  repeat' first
    | with_reducible assumption
    | with_reducible apply State.errTo_quiet
    | with_reducible apply State.hpClear_quiet
    | with_reducible apply State.setRsv_quiet
    | with_reducible refine foldEach_quiet (fun a t k => ?_) _ ?_
    | with_reducible apply quiet_ite
    | fail_if_no_progress with_reducible apply quiet_mk (s := _)

theorem State.rowanGone_quiet {s0 : State} {s : State} (h : Quiet s0 s) :
    Quiet s0 (State.rowanGone s) := by
  unfold State.rowanGone
  repeat' first
    | with_reducible assumption
    | with_reducible apply State.resetFields_quiet
    | with_reducible apply State.showChop_quiet
    | with_reducible apply State.showAllActive_quiet
    | with_reducible apply State.showLines_quiet

theorem State.reload_quiet {s0 : State} {s : State} {a1 : ℕ} (h : Quiet s0 s) :
    Quiet s0 (State.reload s a1) := by
  unfold State.reload
  repeat' first
    | with_reducible assumption
    | with_reducible apply State.loadAdcTrims_quiet
    | with_reducible apply State.showIsoDead_quiet
    | with_reducible apply State.isoRestart_quiet
    | with_reducible refine State.onlyIf_quiet ?_ (fun x_ k => ?_)
    | with_reducible apply State.loadIsoTrims_quiet
    | with_reducible apply State.flag_quiet
    | with_reducible apply State.loadOffs_quiet
    | with_reducible refine foldEach_quiet (fun a t k => ?_) _ ?_
    | with_reducible apply quiet_ite

theorem State.enterReset_quiet {s0 : State} {s : State} {a1 : ℕ} (h : Quiet s0 s) :
    Quiet s0 (State.enterReset s a1) := by
  unfold State.enterReset
  repeat' first
    | with_reducible assumption
    | with_reducible apply State.advanceEpoch_quiet
    | with_reducible apply State.dropIsland_quiet
    | with_reducible apply State.resetFields_quiet
    | with_reducible refine State.onlyIf_quiet ?_ (fun x_ k => ?_)
    | with_reducible apply State.orphan_quiet
    | with_reducible apply State.clearUnits_quiet
    | with_reducible apply State.rowanGone_quiet
    | with_reducible apply State.reload_quiet
    | with_reducible apply State.wr_quiet
    | with_reducible apply State.showLadders_quiet
    | with_reducible apply State.showAllActive_quiet
    | with_reducible refine foldEach_quiet (fun a t k => ?_) _ ?_

theorem State.showRails_quiet {s0 : State} {s : State} (h : Quiet s0 s) :
    Quiet s0 (State.showRails s) := by
  unfold State.showRails
  repeat' first
    | with_reducible assumption
    | with_reducible apply State.wr_quiet
    | with_reducible refine foldEach_quiet (fun a t k => ?_) _ ?_

theorem State.railsRise_quiet {s0 : State} {s : State} (h : Quiet s0 s) :
    Quiet s0 (State.railsRise s) := by
  unfold State.railsRise
  repeat' first
    | with_reducible assumption
    | with_reducible apply State.showRails_quiet
    | with_reducible apply State.wr_quiet
    | with_reducible refine foldEach_quiet (fun a t k => ?_) _ ?_
    | fail_if_no_progress with_reducible apply quiet_mk (s := _)

theorem State.fillBands_quiet {s0 : State} {s : State} {a1 : List ℕ} (h : Quiet s0 s) :
    Quiet s0 (State.fillBands s a1) := by
  unfold State.fillBands
  repeat' first
    | with_reducible assumption
    | with_reducible apply State.wr_quiet
    | with_reducible refine foldEach_quiet (fun a t k => ?_) _ ?_

theorem State.logHead_quiet {s0 : State} {s : State} (h : Quiet s0 s) :
    Quiet s0 (State.logHead s) := by
  unfold State.logHead
  repeat' first
    | with_reducible assumption
    | with_reducible apply State.wr_quiet
    | with_reducible apply quiet_ite

theorem State.cpxStart_quiet {s0 : State} {s : State} (h : Quiet s0 s) :
    Quiet s0 (State.cpxStart s) := by
  unfold State.cpxStart
  repeat' first
    | with_reducible assumption
    | with_reducible apply State.latchCfg_quiet
    | with_reducible apply State.setCpx_quiet
    | with_reducible apply State.cpxHalt_quiet
    | with_reducible apply State.toMode_quiet
    | with_reducible apply quiet_ite
    | fail_if_no_progress beta_reduce
    | split

theorem State.startRecord_quiet {s0 : State} {s : State} {a1 : ℕ} (h : Quiet s0 s) :
    Quiet s0 (State.startRecord s a1) := by
  unfold State.startRecord
  repeat' first
    | with_reducible assumption
    | with_reducible apply State.logEv_quiet

theorem State.tcmBad_quiet {s0 : State} {s : State} {a1 : Master} {a2 : ℕ} (h : Quiet s0 s) :
    Quiet s0 (State.tcmBad s a1 a2) := by
  unfold State.tcmBad
  repeat' first
    | with_reducible assumption
    | with_reducible apply State.busErr_quiet
    | with_reducible apply State.eccMet_quiet
    | with_reducible apply State.setCpx_quiet
    | with_reducible apply quiet_ite
    | fail_if_no_progress with_reducible apply quiet_mk (s := _)
    | lift_lets -underBinder; intro x; try clear_value x
    | fail_if_no_progress beta_reduce
    | split

theorem State.clearHidden_quiet {s0 : State} {s : State} (h : Quiet s0 s) :
    Quiet s0 (State.clearHidden s) := by
  unfold State.clearHidden
  repeat' first
    | with_reducible assumption
    | fail_if_no_progress with_reducible apply quiet_mk (s := _)

theorem State.holdPads_quiet {s0 : State} {s : State} (h : Quiet s0 s) :
    Quiet s0 (State.holdPads s) := by
  unfold State.holdPads
  repeat' first
    | with_reducible assumption
    | with_reducible apply State.setPad_quiet
    | with_reducible refine foldEach_quiet (fun a t k => ?_) _ ?_

theorem State.wakeCause_quiet {s0 : State} {s : State} {a1 : ℕ} (h : Quiet s0 s) :
    Quiet s0 (State.wakeCause s a1) := by
  unfold State.wakeCause
  repeat' first
    | with_reducible assumption
    | with_reducible apply State.wr_quiet

theorem State.leaveReset_quiet {s0 : State} {s : State} {a1 : ℕ} (h : Quiet s0 s) :
    Quiet s0 (State.leaveReset s a1) := by
  unfold State.leaveReset
  repeat' first
    | with_reducible assumption
    | with_reducible apply State.wr_quiet
    | with_reducible apply State.cpxStart_quiet
    | with_reducible apply State.isoResetEnd_quiet
    | with_reducible apply State.startRecord_quiet
    | with_reducible apply State.logHead_quiet
    | with_reducible apply quiet_ite

theorem State.mReset_quiet {s0 : State} {s : State} (h : Quiet s0 s) :
    Quiet s0 (State.mReset s) := by
  unfold State.mReset
  repeat' first
    | with_reducible assumption
    | with_reducible apply State.resetFields_quiet
    | with_reducible apply State.clearHidden_quiet
    | with_reducible apply State.holdPads_quiet
    | with_reducible apply State.wr_quiet
    | with_reducible apply State.showAllActive_quiet
    | with_reducible apply State.showRails_quiet
    | with_reducible refine foldEach_quiet (fun a t k => ?_) _ ?_

theorem State.capturesLost_quiet {s0 : State} {s : State} (h : Quiet s0 s) :
    Quiet s0 (State.capturesLost s) := by
  unfold State.capturesLost
  repeat' first
    | with_reducible assumption
    | with_reducible apply State.logEv_quiet
    | with_reducible apply quiet_ite
    | fail_if_no_progress with_reducible apply quiet_mk (s := _)

theorem State.copyCapture_quiet {s0 : State} {s : State} (h : Quiet s0 s) :
    Quiet s0 (State.copyCapture s) := by
  unfold State.copyCapture
  repeat' first
    | with_reducible assumption
    | with_reducible apply State.capturesLost_quiet
    | with_reducible apply State.logEv_quiet
    | fail_if_no_progress with_reducible apply quiet_mk (s := _)

theorem State.keyChange_quiet {s0 : State} {s : State} {a1 : ℕ} {a2 : List ℕ} {a3 : Bool} {a4 : Bool} {a5 : ℕ} {a6 : State → State} (h : Quiet s0 s) (h6 : ∀ t, Quiet s0 t → Quiet s0 (a6 t)) :
    Quiet s0 (State.keyChange s a1 a2 a3 a4 a5 a6).1 := by
  unfold State.keyChange
  repeat' first
    | with_reducible assumption
    | with_reducible refine h6 _ ?_
    | with_reducible apply State.logEv_quiet
    | with_reducible apply quiet_ite
    | fail_if_no_progress beta_reduce
    | split

theorem State.takeRequest_quiet {s0 : State} {s : State} {a1 : ℕ} (h : Quiet s0 s) :
    Quiet s0 (State.takeRequest s a1) := by
  unfold State.takeRequest
  repeat' first
    | with_reducible assumption
    | with_reducible apply State.mbEmpty_quiet
    | fail_if_no_progress with_reducible apply quiet_mk (s := _)

theorem State.sendReply_quiet {s0 : State} {s : State} {a1 : ℕ} {a2 : ℕ} {a3 : ℕ} {a4 : List ℕ} (h : Quiet s0 s) :
    Quiet s0 (State.sendReply s a1 a2 a3 a4) := by
  unfold State.sendReply
  repeat' first
    | with_reducible assumption
    | with_reducible apply State.logEv_quiet
    | with_reducible apply State.mbSend_quiet
    | with_reducible apply quiet_ite
    | fail_if_no_progress with_reducible apply quiet_mk (s := _)

theorem State.replyBusy_quiet {s0 : State} {s : State} {a1 : ℕ} {a2 : List ℕ} (h : Quiet s0 s) :
    Quiet s0 (State.replyBusy s a1 a2) := by
  unfold State.replyBusy
  repeat' first
    | with_reducible assumption
    | with_reducible apply State.bump_quiet
    | with_reducible apply State.flag_quiet
    | with_reducible apply State.next_quiet
    | with_reducible apply State.sendReply_quiet

theorem State.serve_quiet {s0 : State} {s : State} {a1 : List ℕ → Bool} {a2 : State → ℕ → List ℕ → State × ℕ × List ℕ} (h : Quiet s0 s) (h2 : ∀ t q0 q1, Quiet s0 t → Quiet s0 (a2 t q0 q1).1) :
    Quiet s0 (State.serve s a1 a2) := by
  unfold State.serve
  repeat' first
    | with_reducible assumption
    | with_reducible refine h2 _ _ _ ?_
    | with_reducible apply State.takeRequest_quiet
    | with_reducible apply State.replyBusy_quiet
    | with_reducible apply State.sendReply_quiet
    | with_reducible apply quiet_ite
    | fail_if_no_progress beta_reduce
    | split

theorem State.retryReply_quiet {s0 : State} {s : State} {a1 : Reply} (h : Quiet s0 s) :
    Quiet s0 (State.retryReply s a1) := by
  unfold State.retryReply
  repeat' first
    | with_reducible assumption
    | with_reducible apply State.mbSend_quiet
    | with_reducible apply State.logEv_quiet
    | with_reducible apply State.flag_quiet
    | with_reducible apply quiet_ite
    | fail_if_no_progress with_reducible apply quiet_mk (s := _)

theorem State.showBusy_quiet {s0 : State} {s : State} (h : Quiet s0 s) :
    Quiet s0 (State.showBusy s) := by
  unfold State.showBusy
  repeat' first
    | with_reducible assumption
    | with_reducible apply State.wr_quiet

theorem State.houseWaits_quiet {s0 : State} {s : State} (h : Quiet s0 s) :
    Quiet s0 (State.houseWaits s) := by
  unfold State.houseWaits
  repeat' first
    | with_reducible assumption
    | with_reducible refine State.onlyIf_quiet ?_ (fun x_ k => ?_)
    | with_reducible apply State.flag_quiet
    | fail_if_no_progress beta_reduce
    | split

theorem State.loadWindow_quiet {s0 : State} {s : State} {a1 : ℕ} (h : Quiet s0 s) :
    Quiet s0 (State.loadWindow s a1) := by
  unfold State.loadWindow
  repeat' first
    | with_reducible assumption
    | with_reducible apply State.showBusy_quiet
    | with_reducible apply State.houseWaits_quiet
    | with_reducible apply State.wr_quiet
    | with_reducible apply quiet_ite
    | fail_if_no_progress with_reducible apply quiet_mk (s := _)

theorem State.readAges_quiet {s0 : State} {s : State} {a1 : List (ℕ × ℕ)} (h : Quiet s0 s) :
    Quiet s0 (State.readAges s a1) := by
  unfold State.readAges
  repeat' first
    | with_reducible assumption
    | with_reducible apply State.showAge_quiet
    | with_reducible refine foldEach_quiet (fun a t k => ?_) _ ?_
    | fail_if_no_progress with_reducible apply quiet_mk (s := _)

theorem State.put_quiet {s0 : State} {s : State} {a1 : FD} {a2 : ℕ} {a3 : ℕ} {a4 : ℕ} (h : Quiet s0 s) :
    Quiet s0 (State.put s a1 a2 a3 a4) := by
  unfold State.put
  repeat' first
    | with_reducible assumption
    | with_reducible apply State.wr2_quiet

theorem State.writeAdcCtrl_quiet {s0 : State} {s : State} {a1 : ℕ} {a2 : ℕ} (h : Quiet s0 s) :
    Quiet s0 (State.writeAdcCtrl s a1 a2) := by
  unfold State.writeAdcCtrl
  repeat' first
    | with_reducible assumption
    | with_reducible refine State.onlyIf_quiet ?_ (fun x_ k => ?_)
    | with_reducible apply State.put_quiet
    | with_reducible apply State.injTrig_quiet
    | with_reducible apply State.calStart_quiet

theorem State.putEn_quiet {s0 : State} {s : State} {a1 : FD} {a2 : ℕ} {a3 : ℕ} {a4 : ℕ} {a5 : State → State} {a6 : State → State} (h : Quiet s0 s) (h5 : ∀ t, Quiet s0 t → Quiet s0 (a5 t)) (h6 : ∀ t, Quiet s0 t → Quiet s0 (a6 t)) :
    Quiet s0 (State.putEn s a1 a2 a3 a4 a5 a6) := by
  unfold State.putEn
  repeat' first
    | with_reducible assumption
    | with_reducible refine h5 _ ?_
    | with_reducible refine h6 _ ?_
    | with_reducible apply quiet_ite

theorem State.writeSeqCtrl_quiet {s0 : State} {s : State} {a1 : ℕ} {a2 : ℕ} (h : Quiet s0 s) :
    Quiet s0 (State.writeSeqCtrl s a1 a2) := by
  unfold State.writeSeqCtrl
  repeat' first
    | with_reducible assumption
    | with_reducible apply State.put_quiet
    | with_reducible refine State.onlyIf_quiet ?_ (fun x_ k => ?_)
    | with_reducible apply State.seqEnable_quiet
    | with_reducible apply State.seqDisable_quiet
    | with_reducible apply State.seqStart_quiet
    | with_reducible apply quiet_ite

theorem State.writeSeqPtr_quiet {s0 : State} {s : State} {a1 : ℕ} {a2 : ℕ} (h : Quiet s0 s) :
    Quiet s0 (State.writeSeqPtr s a1 a2) := by
  unfold State.writeSeqPtr
  repeat' first
    | with_reducible assumption
    | with_reducible apply State.setSeq_quiet
    | with_reducible apply State.put_quiet
    | with_reducible apply quiet_ite

theorem State.writeIlCtrl_quiet {s0 : State} {s : State} {a1 : ℕ} {a2 : ℕ} (h : Quiet s0 s) :
    Quiet s0 (State.writeIlCtrl s a1 a2) := by
  unfold State.writeIlCtrl
  repeat' first
    | with_reducible assumption
    | with_reducible apply State.put_quiet
    | with_reducible refine State.putEn_quiet ?_ (fun x_ k => ?_) (fun x_ k => ?_)
    | with_reducible apply State.pairArm_quiet
    | with_reducible apply State.pairDisarm_quiet
    | with_reducible apply State.pairErr_quiet
    | with_reducible refine State.onlyIf_quiet ?_ (fun x_ k => ?_)
    | with_reducible apply State.burstStart_quiet
    | with_reducible apply State.pairCal_quiet
    | with_reducible apply quiet_ite

theorem State.w1c_quiet {s0 : State} {s : State} {a1 : FD} {a2 : ℕ} {a3 : ℕ} {a4 : ℕ} (h : Quiet s0 s) :
    Quiet s0 (State.w1c s a1 a2 a3 a4) := by
  unfold State.w1c
  repeat' first
    | with_reducible assumption
    | with_reducible apply State.wr2_quiet

theorem State.plainField_quiet {s0 : State} {s : State} {a1 : FD} {a2 : ℕ} {a3 : ℕ} {a4 : ℕ} (h : Quiet s0 s) :
    Quiet s0 (State.plainField s a1 a2 a3 a4) := by
  unfold State.plainField
  repeat' first
    | with_reducible assumption
    | with_reducible apply State.put_quiet
    | with_reducible apply State.w1c_quiet
    | fail_if_no_progress beta_reduce
    | split

theorem State.plain_quiet {s0 : State} {s : State} {a1 : List FD} {a2 : ℕ} {a3 : ℕ} {a4 : ℕ} (h : Quiet s0 s) :
    Quiet s0 (State.plain s a1 a2 a3 a4) := by
  unfold State.plain
  repeat' first
    | with_reducible assumption
    | with_reducible apply State.plainField_quiet
    | with_reducible refine foldEach_quiet (fun a t k => ?_) _ ?_

theorem State.write2_quiet {s0 : State} {s : State} {a1 : List FD} {a2 : ℕ} {a3 : ℕ} {a4 : ℕ} {a5 : ℕ} (h : Quiet s0 s) :
    Quiet s0 (State.write2 s a1 a2 a3 a4 a5) := by
  unfold State.write2
  repeat' first
    | with_reducible assumption
    | with_reducible apply State.writeAdcCtrl_quiet
    | with_reducible refine State.putEn_quiet ?_ (fun x_ k => ?_) (fun x_ k => ?_)
    | with_reducible apply State.put_quiet
    | with_reducible apply State.injEnable_quiet
    | with_reducible apply State.injDisable_quiet
    | with_reducible apply State.writeSeqCtrl_quiet
    | with_reducible apply State.writeSeqPtr_quiet
    | with_reducible apply State.writeIlCtrl_quiet
    | with_reducible refine State.onlyIf_quiet ?_ (fun x_ k => ?_)
    | with_reducible apply State.plain_quiet
    | fail_if_no_progress beta_reduce
    | split

theorem State.writeTbCtrl_quiet {s0 : State} {s : State} {a1 : ℕ} {a2 : ℕ} (h : Quiet s0 s) :
    Quiet s0 (State.writeTbCtrl s a1 a2) := by
  unfold State.writeTbCtrl
  repeat' first
    | with_reducible assumption
    | with_reducible apply State.put_quiet
    | with_reducible refine State.onlyIf_quiet ?_ (fun x_ k => ?_)
    | with_reducible apply State.flag_quiet
    | with_reducible apply State.syncEvent_quiet
    | with_reducible apply State.tbStart_quiet
    | with_reducible apply State.stopTb_quiet
    | with_reducible apply quiet_ite

theorem State.writeOutCfg_quiet {s0 : State} {s : State} {a1 : ℕ} {a2 : ℕ} (h : Quiet s0 s) :
    Quiet s0 (State.writeOutCfg s a1 a2) := by
  unfold State.writeOutCfg
  repeat' first
    | with_reducible assumption
    | with_reducible apply State.put_quiet
    | with_reducible apply State.showPol_quiet
    | with_reducible refine State.putEn_quiet ?_ (fun x_ k => ?_) (fun x_ k => ?_)
    | with_reducible apply State.adtEnable_quiet
    | with_reducible apply State.showAdt_quiet
    | with_reducible apply State.wr_quiet

theorem State.write0_quiet {s0 : State} {s : State} {a1 : List FD} {a2 : ℕ} {a3 : ℕ} {a4 : ℕ} {a5 : ℕ} (h : Quiet s0 s) :
    Quiet s0 (State.write0 s a1 a2 a3 a4 a5) := by
  unfold State.write0
  repeat' first
    | with_reducible assumption
    | with_reducible apply State.writeTbCtrl_quiet
    | with_reducible apply State.tbStart_quiet
    | with_reducible apply State.writeCmp_quiet
    | with_reducible apply State.writeTrg_quiet
    | with_reducible apply State.put_quiet
    | with_reducible apply State.plain_quiet
    | with_reducible apply State.noteFields_quiet
    | with_reducible apply State.writeDtr_quiet
    | with_reducible apply State.writeDtf_quiet
    | with_reducible apply State.writeMinp_quiet
    | with_reducible apply State.writeOutCfg_quiet
    | with_reducible refine State.onlyIf_quiet ?_ (fun x_ k => ?_)
    | with_reducible apply State.adtClear_quiet
    | with_reducible apply State.writePer_quiet
    | with_reducible refine foldEach_quiet (fun a t k => ?_) _ ?_
    | fail_if_no_progress beta_reduce
    | split

theorem State.writeIsoCtrl_quiet {s0 : State} {s : State} {a1 : ℕ} {a2 : ℕ} (h : Quiet s0 s) :
    Quiet s0 (State.writeIsoCtrl s a1 a2) := by
  unfold State.writeIsoCtrl
  repeat' first
    | with_reducible assumption
    | with_reducible refine State.putEn_quiet ?_ (fun x_ k => ?_) (fun x_ k => ?_)
    | with_reducible apply State.put_quiet
    | with_reducible apply State.isoSetEn_quiet
    | with_reducible refine State.onlyIf_quiet ?_ (fun x_ k => ?_)
    | with_reducible apply State.isoCalStart_quiet

theorem State.write3_quiet {s0 : State} {s : State} {a1 : List FD} {a2 : ℕ} {a3 : ℕ} {a4 : ℕ} {a5 : ℕ} (h : Quiet s0 s) :
    Quiet s0 (State.write3 s a1 a2 a3 a4 a5) := by
  unfold State.write3
  repeat' first
    | with_reducible assumption
    | with_reducible apply State.writeIsoCtrl_quiet
    | with_reducible refine State.onlyIf_quiet ?_ (fun x_ k => ?_)
    | with_reducible apply State.put_quiet
    | with_reducible apply State.plain_quiet
    | fail_if_no_progress beta_reduce
    | split

theorem State.whileOff_quiet {s0 : State} {s : State} {a1 : List FD} {a2 : ℕ} {a3 : ℕ} {a4 : ℕ} {a5 : Bool} {a6 : FD} (h : Quiet s0 s) :
    Quiet s0 (State.whileOff s a1 a2 a3 a4 a5 a6) := by
  unfold State.whileOff
  repeat' first
    | with_reducible assumption
    | with_reducible apply State.flag_quiet
    | with_reducible apply State.plain_quiet
    | with_reducible apply quiet_ite

theorem State.writePosCtrl_quiet {s0 : State} {s : State} {a1 : ℕ} {a2 : ℕ} (h : Quiet s0 s) :
    Quiet s0 (State.writePosCtrl s a1 a2) := by
  unfold State.writePosCtrl
  repeat' first
    | with_reducible assumption
    | with_reducible apply State.put_quiet
    | with_reducible apply State.whileOff_quiet
    | with_reducible refine State.putEn_quiet ?_ (fun x_ k => ?_) (fun x_ k => ?_)
    | with_reducible apply State.posEnable_quiet
    | with_reducible apply State.posDisable_quiet
    | with_reducible apply quiet_ite

theorem State.writeRsExc_quiet {s0 : State} {s : State} {a1 : ℕ} {a2 : ℕ} (h : Quiet s0 s) :
    Quiet s0 (State.writeRsExc s a1 a2) := by
  unfold State.writeRsExc
  repeat' first
    | with_reducible assumption
    | with_reducible apply State.put_quiet
    | with_reducible apply State.flag_quiet
    | with_reducible apply quiet_ite

theorem State.writeCoef_quiet {s0 : State} {s : State} {a1 : ℕ} {a2 : ℕ} {a3 : ℕ} (h : Quiet s0 s) :
    Quiet s0 (State.writeCoef s a1 a2 a3) := by
  unfold State.writeCoef
  repeat' first
    | with_reducible assumption
    | with_reducible apply State.flag_quiet
    | with_reducible apply State.wr2_quiet
    | with_reducible apply quiet_ite

theorem State.writeLpCfg_quiet {s0 : State} {s : State} {a1 : ℕ} {a2 : ℕ} {a3 : ℕ} (h : Quiet s0 s) :
    Quiet s0 (State.writeLpCfg s a1 a2 a3) := by
  unfold State.writeLpCfg
  repeat' first
    | with_reducible assumption
    | with_reducible apply State.flag_quiet
    | with_reducible apply State.plain_quiet
    | with_reducible apply State.lpEnable_quiet
    | with_reducible refine State.onlyIf_quiet ?_ (fun x_ k => ?_)
    | with_reducible apply State.lpDisable_quiet
    | with_reducible apply quiet_ite

theorem State.showSat_quiet {s0 : State} {s : State} {a1 : ℕ} (h : Quiet s0 s) :
    Quiet s0 (State.showSat s a1) := by
  unfold State.showSat
  repeat' first
    | with_reducible assumption
    | with_reducible apply State.wr_quiet

theorem State.guarded_quiet {s0 : State} {s : State} {a1 : List FD} {a2 : ℕ} {a3 : ℕ} {a4 : ℕ} {a5 : Bool} (h : Quiet s0 s) :
    Quiet s0 (State.guarded s a1 a2 a3 a4 a5) := by
  unfold State.guarded
  repeat' first
    | with_reducible assumption
    | with_reducible apply State.flag_quiet
    | with_reducible apply State.plain_quiet
    | with_reducible apply quiet_ite

theorem State.write4_quiet {s0 : State} {s : State} {a1 : List FD} {a2 : ℕ} {a3 : ℕ} {a4 : ℕ} {a5 : ℕ} (h : Quiet s0 s) :
    Quiet s0 (State.write4 s a1 a2 a3 a4 a5) := by
  unfold State.write4
  repeat' first
    | with_reducible assumption
    | with_reducible apply State.flag_quiet
    | with_reducible apply State.plain_quiet
    | with_reducible refine State.onlyIf_quiet ?_ (fun x_ k => ?_)
    | with_reducible apply State.put_quiet
    | with_reducible apply State.swapReq_quiet
    | with_reducible apply State.writeLpCfg_quiet
    | with_reducible apply State.guarded_quiet
    | with_reducible apply State.showSat_quiet
    | with_reducible apply State.w1c_quiet
    | with_reducible apply State.clrReq_quiet
    | with_reducible apply State.writeCoef_quiet
    | fail_if_no_progress beta_reduce
    | split

theorem State.write6_quiet {s0 : State} {s : State} {a1 : List FD} {a2 : ℕ} {a3 : ℕ} {a4 : ℕ} {a5 : ℕ} (h : Quiet s0 s) :
    Quiet s0 (State.write6 s a1 a2 a3 a4 a5) := by
  unfold State.write6
  repeat' first
    | with_reducible assumption
    | intro x; try clear_value x
    | with_reducible apply State.writePosCtrl_quiet
    | with_reducible refine State.onlyIf_quiet ?_ (fun x_ k => ?_)
    | with_reducible apply State.plain_quiet
    | with_reducible apply State.posClear_quiet
    | with_reducible apply State.posLoad_quiet
    | with_reducible refine State.putEn_quiet ?_ (fun x_ k => ?_) (fun x_ k => ?_)
    | with_reducible apply State.rsEnable_quiet
    | with_reducible apply State.rsDisable_quiet
    | with_reducible apply State.rsClear_quiet
    | with_reducible apply State.whileOff_quiet
    | with_reducible apply State.put_quiet
    | with_reducible apply State.writeRsExc_quiet
    | with_reducible apply State.emuEnable_quiet
    | with_reducible apply State.emuDisable_quiet
    | lift_lets -underBinder; intro x; try clear_value x
    | fail_if_no_progress beta_reduce
    | split

theorem State.mbCtrl_quiet {s0 : State} {s : State} {a1 : Master} {a2 : ℕ} {a3 : Bool} {a4 : Bool} {a5 : Bool} (h : Quiet s0 s) :
    Quiet s0 (State.mbCtrl s a1 a2 a3 a4 a5) := by
  unfold State.mbCtrl
  repeat' first
    | with_reducible assumption
    | with_reducible apply State.busErr_quiet
    | with_reducible apply State.ack_quiet
    | with_reducible apply State.mbEmpty_quiet
    | with_reducible apply State.mbPost_quiet
    | with_reducible apply quiet_ite

theorem State.mbPut_quiet {s0 : State} {s : State} {a1 : ℕ} {a2 : ℕ} {a3 : ℕ} (h : Quiet s0 s) :
    Quiet s0 (State.mbPut s a1 a2 a3) := by
  unfold State.mbPut
  repeat' first
    | with_reducible assumption
    | with_reducible apply State.wr2_quiet
    | with_reducible apply State.wr_quiet
    | with_reducible apply quiet_ite

theorem State.mbWrite_quiet {s0 : State} {s : State} {a1 : Master} {a2 : ℕ} {a3 : ℕ} {a4 : ℕ} (h : Quiet s0 s) :
    Quiet s0 (State.mbWrite s a1 a2 a3 a4) := by
  unfold State.mbWrite
  repeat' first
    | with_reducible assumption
    | with_reducible apply State.busErr_quiet
    | with_reducible apply State.ack_quiet
    | with_reducible refine State.mbFill_quiet ?_ (fun x_ k => ?_)
    | with_reducible apply State.mbPut_quiet
    | with_reducible apply quiet_ite

theorem State.flipPrec_quiet {s0 : State} {s : State} {a1 : List Master} (h : Quiet s0 s) :
    Quiet s0 (State.flipPrec s a1) := by
  unfold State.flipPrec
  repeat' first
    | with_reducible assumption
    | with_reducible apply State.wr_quiet
    | with_reducible apply quiet_ite

theorem State.semRead_quiet {s0 : State} {s : State} {a1 : ℕ} {a2 : Master} (h : Quiet s0 s) :
    Quiet s0 (State.semRead s a1 a2) := by
  unfold State.semRead
  repeat' first
    | with_reducible assumption
    | with_reducible apply State.semAcq_quiet
    | with_reducible apply State.setResp_quiet
    | with_reducible apply State.busErr_quiet
    | with_reducible apply quiet_ite

theorem State.mbCfg_quiet {s0 : State} {s : State} {a1 : ℕ} {a2 : ℕ} {a3 : Bool} {a4 : ℕ} (h : Quiet s0 s) :
    Quiet s0 (State.mbCfg s a1 a2 a3 a4) := by
  unfold State.mbCfg
  repeat' first
    | with_reducible assumption
    | with_reducible apply State.flag_quiet
    | with_reducible apply State.wr_quiet
    | with_reducible apply quiet_ite

theorem State.denyIsland_quiet {s0 : State} {s : State} {a1 : FD} {a2 : ℕ} (h : Quiet s0 s) :
    Quiet s0 (State.denyIsland s a1 a2) := by
  unfold State.denyIsland
  repeat' first
    | with_reducible assumption
    | with_reducible apply State.wr_quiet
    | with_reducible apply State.flag_quiet

theorem State.rstReq_quiet {s0 : State} {s : State} {a1 : ℕ} (h : Quiet s0 s) :
    Quiet s0 (State.rstReq s a1) := by
  unfold State.rstReq
  repeat' first
    | with_reducible assumption
    | with_reducible apply State.denyIsland_quiet
    | with_reducible apply State.wr_quiet
    | with_reducible apply State.enterReset_quiet
    | with_reducible apply quiet_ite
    | fail_if_no_progress with_reducible apply quiet_mk (s := _)

theorem State.testFree_quiet {s0 : State} {s : State} (h : Quiet s0 s) :
    Quiet s0 (State.testFree s) := by
  unfold State.testFree
  repeat' first
    | with_reducible assumption
    | with_reducible apply State.leaveReset_quiet
    | with_reducible refine foldEach_quiet (fun a t k => ?_) _ ?_
    | fail_if_no_progress with_reducible apply quiet_mk (s := _)

theorem State.testHold_quiet {s0 : State} {s : State} (h : Quiet s0 s) :
    Quiet s0 (State.testHold s) := by
  unfold State.testHold
  repeat' first
    | with_reducible assumption
    | with_reducible apply State.enterReset_quiet
    | with_reducible refine foldEach_quiet (fun a t k => ?_) _ ?_
    | fail_if_no_progress with_reducible apply quiet_mk (s := _)

theorem State.setMode_quiet {s0 : State} {s : State} {a1 : ℕ} (h : Quiet s0 s) :
    Quiet s0 (State.setMode s a1) := by
  unfold State.setMode
  repeat' first
    | with_reducible assumption
    | fail_if_no_progress with_reducible apply quiet_mk (s := _)

theorem State.warmStart_quiet {s0 : State} {s : State} {a1 : ℕ} (h : Quiet s0 s) :
    Quiet s0 (State.warmStart s a1) := by
  unfold State.warmStart
  repeat' first
    | with_reducible assumption
    | with_reducible apply State.wakeCause_quiet
    | with_reducible apply State.mReset_quiet

theorem State.scrub_quiet {s0 : State} {s : State} {a1 : ℕ} {a2 : List ℕ} (h : Quiet s0 s) :
    Quiet s0 (State.scrub s a1 a2) := by
  unfold State.scrub
  repeat' first
    | with_reducible assumption
    | with_reducible apply State.bump_quiet
    | with_reducible apply State.flag_quiet
    | with_reducible apply State.logEv_quiet
    | with_reducible apply State.eccCount_quiet
    | with_reducible refine foldEach_quiet (fun a t k => ?_) _ ?_
    | with_reducible apply quiet_ite
    | fail_if_no_progress with_reducible apply quiet_mk (s := _)

theorem State.pickSource_quiet {s0 : State} {s : State} {a1 : Bool} (h : Quiet s0 s) :
    Quiet s0 (State.pickSource s a1) := by
  unfold State.pickSource
  repeat' first
    | with_reducible assumption
    | with_reducible refine State.onlyIf_quiet ?_ (fun x_ k => ?_)
    | with_reducible apply State.wr_quiet
    | with_reducible apply State.flag_quiet

theorem State.relIsland_quiet {s0 : State} {s : State} {a1 : ℕ} {a2 : Bool} (h : Quiet s0 s) :
    Quiet s0 (State.relIsland s a1 a2) := by
  unfold State.relIsland
  repeat' first
    | with_reducible assumption
    | with_reducible refine State.onlyIf_quiet ?_ (fun x_ k => ?_)
    | with_reducible apply State.wr_quiet
    | with_reducible apply State.leaveReset_quiet
    | with_reducible apply quiet_ite

theorem State.powerDown_quiet {s0 : State} {s : State} {a1 : ℕ} {a2 : Bool} (h : Quiet s0 s) :
    Quiet s0 (State.powerDown s a1 a2) := by
  unfold State.powerDown
  repeat' first
    | with_reducible assumption
    | with_reducible refine State.onlyIf_quiet ?_ (fun x_ k => ?_)
    | with_reducible apply State.closeSwitch_quiet
    | with_reducible apply State.denyIsland_quiet
    | with_reducible apply State.wr_quiet
    | with_reducible apply State.enterReset_quiet
    | with_reducible apply quiet_ite
    | fail_if_no_progress with_reducible apply quiet_mk (s := _)

theorem State.dischargeStart_quiet {s0 : State} {s : State} (h : Quiet s0 s) :
    Quiet s0 (State.dischargeStart s) := by
  unfold State.dischargeStart
  repeat' first
    | with_reducible assumption
    | with_reducible apply State.clearHidden_quiet
    | with_reducible apply State.resetFields_quiet
    | with_reducible apply State.wr_quiet
    | with_reducible apply State.wakeCause_quiet
    | with_reducible apply State.setMode_quiet
    | with_reducible apply State.showAllActive_quiet
    | with_reducible apply State.showRails_quiet
    | with_reducible apply State.rowStatus_quiet
    | with_reducible refine foldEach_quiet (fun a t k => ?_) _ ?_
    | fail_if_no_progress with_reducible apply quiet_mk (s := _)

theorem State.testRecord_quiet {s0 : State} {s : State} (h : Quiet s0 s) :
    Quiet s0 (State.testRecord s) := by
  unfold State.testRecord
  repeat' first
    | with_reducible assumption
    | with_reducible apply State.logEv_quiet

theorem State.prefWrite_quiet {s0 : State} {s : State} {a1 : ℕ} (h : Quiet s0 s) :
    Quiet s0 (State.prefWrite s a1) := by
  unfold State.prefWrite
  repeat' first
    | with_reducible assumption
    | with_reducible apply State.pickSource_quiet
    | with_reducible apply State.wr_quiet

theorem State.monCount_quiet {s0 : State} {s : State} {a1 : FD} {a2 : ℕ} {a3 : ℕ} (h : Quiet s0 s) :
    Quiet s0 (State.monCount s a1 a2 a3) := by
  unfold State.monCount
  repeat' first
    | with_reducible assumption
    | with_reducible apply State.flag_quiet
    | with_reducible apply State.wr2_quiet
    | with_reducible apply quiet_ite

theorem State.monValue_quiet {s0 : State} {s : State} {a1 : ℕ} {a2 : ℤ} (h : Quiet s0 s) :
    Quiet s0 (State.monValue s a1 a2) := by
  unfold State.monValue
  repeat' first
    | with_reducible assumption
    | with_reducible apply State.bump_quiet
    | with_reducible refine State.onlyIf_quiet ?_ (fun x_ k => ?_)
    | with_reducible apply State.wrI_quiet
    | with_reducible apply State.monCount_quiet
    | with_reducible apply State.flag_quiet
    | with_reducible apply quiet_ite

theorem State.setOpen_quiet {s0 : State} {s : State} {a1 : ℕ} {a2 : Option ℕ} (h : Quiet s0 s) :
    Quiet s0 (State.setOpen s a1 a2) := by
  unfold State.setOpen
  repeat' first
    | with_reducible assumption
    | with_reducible apply State.wr_quiet
    | fail_if_no_progress with_reducible apply quiet_mk (s := _)

theorem State.monLatency_quiet {s0 : State} {s : State} {a1 : ℕ} {a2 : ℕ} (h : Quiet s0 s) :
    Quiet s0 (State.monLatency s a1 a2) := by
  unfold State.monLatency
  repeat' first
    | with_reducible assumption
    | with_reducible apply State.monValue_quiet
    | with_reducible apply State.bump_quiet
    | with_reducible apply quiet_ite

theorem State.monPair_quiet {s0 : State} {s : State} {a1 : List ℕ} {a2 : ℕ} {a3 : ℕ} (h : Quiet s0 s) :
    Quiet s0 (State.monPair s a1 a2 a3) := by
  unfold State.monPair
  repeat' first
    | with_reducible assumption
    | with_reducible apply State.setOpen_quiet
    | with_reducible apply State.monLatency_quiet
    | with_reducible refine State.onlyIf_quiet ?_ (fun x_ k => ?_)
    | with_reducible apply State.flag_quiet
    | with_reducible apply quiet_ite
    | fail_if_no_progress beta_reduce
    | split

theorem State.monEvents_quiet {s0 : State} {s : State} {a1 : List ℕ} {a2 : ℕ} (h : Quiet s0 s) :
    Quiet s0 (State.monEvents s a1 a2) := by
  unfold State.monEvents
  repeat' first
    | with_reducible assumption
    | with_reducible apply State.monPair_quiet
    | with_reducible refine foldEach_quiet (fun a t k => ?_) _ ?_
    | with_reducible apply quiet_ite

theorem State.monEn_quiet {s0 : State} {s : State} {a1 : ℕ} {a2 : Bool} (h : Quiet s0 s) :
    Quiet s0 (State.monEn s a1 a2) := by
  unfold State.monEn
  repeat' first
    | with_reducible assumption
    | with_reducible apply State.setOpen_quiet
    | with_reducible apply State.wr_quiet
    | with_reducible apply State.flag_quiet
    | with_reducible apply quiet_ite

theorem State.monClear_quiet {s0 : State} {s : State} {a1 : ℕ} (h : Quiet s0 s) :
    Quiet s0 (State.monClear s a1) := by
  unfold State.monClear
  repeat' first
    | with_reducible assumption
    | with_reducible apply State.wr_quiet
    | with_reducible apply State.wr2_quiet
    | with_reducible refine foldEach_quiet (fun a t k => ?_) _ ?_

theorem State.monCfg_quiet {s0 : State} {s : State} {a1 : ℕ} {a2 : ℕ} (h : Quiet s0 s) :
    Quiet s0 (State.monCfg s a1 a2) := by
  unfold State.monCfg
  repeat' first
    | with_reducible assumption
    | with_reducible refine State.onlyIf_quiet ?_ (fun x_ k => ?_)
    | with_reducible apply State.flag_quiet
    | with_reducible apply State.wr_quiet
    | with_reducible apply State.monEn_quiet
    | with_reducible refine foldEach_quiet (fun a t k => ?_) _ ?_
    | with_reducible apply quiet_ite

theorem State.monSet_quiet {s0 : State} {s : State} {a1 : FD} {a2 : ℕ} {a3 : ℕ} (h : Quiet s0 s) :
    Quiet s0 (State.monSet s a1 a2 a3) := by
  unfold State.monSet
  repeat' first
    | with_reducible assumption
    | with_reducible apply State.flag_quiet
    | with_reducible apply State.wr_quiet
    | with_reducible apply quiet_ite

theorem State.writeChCmd_quiet {s0 : State} {s : State} {a1 : ℕ} (h : Quiet s0 s) :
    Quiet s0 (State.writeChCmd s a1) := by
  unfold State.writeChCmd
  repeat' first
    | with_reducible assumption
    | with_reducible apply State.put_quiet
    | with_reducible refine State.onlyIf_quiet ?_ (fun x_ k => ?_)
    | with_reducible apply State.chEnumerate_quiet
    | with_reducible apply State.chResetAll_quiet
    | with_reducible apply State.chResetOne_quiet

theorem State.writeStaged_quiet {s0 : State} {s : State} {a1 : List FD} {a2 : ℕ} {a3 : ℕ} {a4 : ℕ} (h : Quiet s0 s) :
    Quiet s0 (State.writeStaged s a1 a2 a3 a4) := by
  unfold State.writeStaged
  repeat' first
    | with_reducible assumption
    | with_reducible apply State.flag_quiet
    | with_reducible apply State.plain_quiet
    | with_reducible apply quiet_ite

theorem State.write9_quiet {s0 : State} {s : State} {a1 : List FD} {a2 : ℕ} {a3 : ℕ} {a4 : ℕ} {a5 : ℕ} (h : Quiet s0 s) :
    Quiet s0 (State.write9 s a1 a2 a3 a4 a5) := by
  unfold State.write9
  repeat' first
    | with_reducible assumption
    | with_reducible apply State.refSwitch_quiet
    | with_reducible refine State.putEn_quiet ?_ (fun x_ k => ?_) (fun x_ k => ?_)
    | with_reducible apply State.put_quiet
    | with_reducible apply State.chSetEn_quiet
    | with_reducible apply State.writeChCmd_quiet
    | with_reducible apply State.csyncArm_quiet
    | with_reducible apply State.plain_quiet
    | with_reducible refine State.onlyIf_quiet ?_ (fun x_ k => ?_)
    | with_reducible apply State.chGo_quiet
    | with_reducible apply State.mcPrepare_quiet
    | with_reducible apply State.writeStaged_quiet
    | with_reducible apply quiet_ite
    | fail_if_no_progress beta_reduce
    | split

theorem State.write7_quiet {s0 : State} {s : State} {a1 : Master} {a2 : List FD} {a3 : ℕ} {a4 : ℕ} {a5 : ℕ} {a6 : ℕ} (h : Quiet s0 s) :
    Quiet s0 (State.write7 s a1 a2 a3 a4 a5 a6) := by
  unfold State.write7
  repeat' first
    | with_reducible assumption
    | with_reducible apply State.mbCfg_quiet
    | with_reducible apply State.wr_quiet
    | with_reducible apply State.semRelease_quiet
    | with_reducible apply State.plain_quiet
    | fail_if_no_progress beta_reduce
    | split

theorem State.writeIslCtrl_quiet {s0 : State} {s : State} {a1 : BusEnv} {a2 : ℕ} {a3 : ℕ} (h : Quiet s0 s) :
    Quiet s0 (State.writeIslCtrl s a1 a2 a3) := by
  unfold State.writeIslCtrl
  repeat' first
    | with_reducible assumption
    | with_reducible refine State.onlyIf_quiet ?_ (fun x_ k => ?_)
    | with_reducible apply State.rstReq_quiet
    | with_reducible apply State.relIsland_quiet
    | with_reducible refine State.putEn_quiet ?_ (fun x_ k => ?_) (fun x_ k => ?_)
    | with_reducible apply State.powerDown_quiet
    | with_reducible apply State.closeSwitch_quiet

theorem State.canSet_quiet {s0 : State} {s : State} {a1 : List FD} {a2 : ℕ} {a3 : ℕ} (h : Quiet s0 s) :
    Quiet s0 (State.canSet s a1 a2 a3) := by
  unfold State.canSet
  repeat' first
    | with_reducible assumption
    | with_reducible apply State.canRefuse_quiet
    | with_reducible apply State.plain_quiet
    | with_reducible apply quiet_ite

theorem State.writeBasic_quiet {s0 : State} {s : State} {a1 : ℕ} {a2 : ℕ} (h : Quiet s0 s) :
    Quiet s0 (State.writeBasic s a1 a2) := by
  unfold State.writeBasic
  repeat' first
    | with_reducible assumption
    | with_reducible refine State.onlyIf_quiet ?_ (fun x_ k => ?_)
    | with_reducible apply State.w1c_quiet
    | with_reducible apply State.commitEnd_quiet
    | with_reducible apply State.commitStart_quiet
    | with_reducible apply quiet_ite

theorem State.writePllCtrl_quiet {s0 : State} {s : State} {a1 : ℕ} {a2 : ℕ} (h : Quiet s0 s) :
    Quiet s0 (State.writePllCtrl s a1 a2) := by
  unfold State.writePllCtrl
  repeat' first
    | with_reducible assumption
    | with_reducible refine State.onlyIf_quiet ?_ (fun x_ k => ?_)
    | with_reducible apply State.put_quiet
    | with_reducible apply State.pllDither_quiet
    | with_reducible apply State.pllEn_quiet
    | with_reducible apply State.pllRelock_quiet

theorem State.writeCanCtrl_quiet {s0 : State} {s : State} {a1 : ℕ} {a2 : ℕ} {a3 : Bool} (h : Quiet s0 s) :
    Quiet s0 (State.writeCanCtrl s a1 a2 a3) := by
  unfold State.writeCanCtrl
  repeat' first
    | with_reducible assumption
    | with_reducible apply State.canSet_quiet
    | with_reducible apply State.canRun_quiet
    | with_reducible apply State.canStop_quiet
    | with_reducible refine State.onlyIf_quiet ?_ (fun x_ k => ?_)
    | with_reducible apply State.wr_quiet
    | with_reducible apply State.setCanState_quiet
    | with_reducible apply quiet_ite

theorem State.writeIrqPend_quiet {s0 : State} {s : State} {a1 : ℕ} {a2 : ℕ} (h : Quiet s0 s) :
    Quiet s0 (State.writeIrqPend s a1 a2) := by
  unfold State.writeIrqPend
  repeat' first
    | with_reducible assumption
    | with_reducible apply State.irqUpdate_quiet
    | with_reducible apply State.w1c_quiet

theorem State.write13_quiet {s0 : State} {s : State} {a1 : BusEnv} {a2 : List FD} {a3 : ℕ} {a4 : ℕ} {a5 : ℕ} {a6 : ℕ} (h : Quiet s0 s) :
    Quiet s0 (State.write13 s a1 a2 a3 a4 a5 a6) := by
  unfold State.write13
  repeat' first
    | with_reducible assumption
    | with_reducible apply State.monCfg_quiet
    | with_reducible apply State.monSet_quiet
    | with_reducible refine State.onlyIf_quiet ?_ (fun x_ k => ?_)
    | with_reducible apply State.monClear_quiet
    | with_reducible apply State.plain_quiet
    | with_reducible apply State.monEvents_quiet
    | fail_if_no_progress beta_reduce
    | split

theorem State.write10_quiet {s0 : State} {s : State} {a1 : BusEnv} {a2 : List FD} {a3 : ℕ} {a4 : ℕ} {a5 : ℕ} {a6 : ℕ} (h : Quiet s0 s) :
    Quiet s0 (State.write10 s a1 a2 a3 a4 a5 a6) := by
  unfold State.write10
  repeat' first
    | with_reducible assumption
    | with_reducible refine State.onlyIf_quiet ?_ (fun x_ k => ?_)
    | with_reducible apply State.clkLocalSel_quiet
    | with_reducible apply State.writePllCtrl_quiet
    | with_reducible apply State.plain_quiet
    | with_reducible apply State.pllSeed_quiet
    | with_reducible apply State.clkRefuse_quiet
    | with_reducible apply quiet_ite
    | fail_if_no_progress beta_reduce
    | split

theorem State.write8_quiet {s0 : State} {s : State} {a1 : BusEnv} {a2 : List FD} {a3 : ℕ} {a4 : ℕ} {a5 : ℕ} {a6 : ℕ} (h : Quiet s0 s) :
    Quiet s0 (State.write8 s a1 a2 a3 a4 a5 a6) := by
  unfold State.write8
  repeat' first
    | with_reducible assumption
    | with_reducible apply State.writeCanCtrl_quiet
    | with_reducible apply State.canRequest_quiet
    | with_reducible apply State.canCancel_quiet
    | with_reducible apply State.canRelease_quiet
    | with_reducible apply State.canSet_quiet
    | with_reducible apply State.plain_quiet
    | with_reducible refine foldEach_quiet (fun a t k => ?_) _ ?_
    | with_reducible apply quiet_ite
    | fail_if_no_progress beta_reduce
    | split

theorem State.setRhold_quiet {s0 : State} {s : State} {a1 : Master} {a2 : Hold} (h : Quiet s0 s) :
    Quiet s0 (State.setRhold s a1 a2) := by
  unfold State.setRhold
  repeat' first
    | with_reducible assumption
    | fail_if_no_progress with_reducible apply quiet_mk (s := _)

theorem State.wideLoad_quiet {s0 : State} {s : State} {a1 : Master} {a2 : FD} {a3 : ℕ} {a4 : ℕ} {a5 : ℕ} (h : Quiet s0 s) :
    Quiet s0 (State.wideLoad s a1 a2 a3 a4 a5) := by
  unfold State.wideLoad
  repeat' first
    | with_reducible assumption
    | with_reducible apply State.setResp_quiet
    | with_reducible apply State.setRhold_quiet
    | with_reducible apply quiet_ite

theorem State.noteExpert_quiet {s0 : State} {s : State} {a1 : State} {a2 : List FD} {a3 : ℕ} {a4 : ℕ} (h : Quiet s0 s) :
    Quiet s0 (State.noteExpert s a1 a2 a3 a4) := by
  unfold State.noteExpert
  repeat' first
    | with_reducible assumption
    | with_reducible apply State.flag_quiet
    | fail_if_no_progress beta_reduce
    | split

theorem State.setWhold_quiet {s0 : State} {s : State} {a1 : Master} {a2 : Hold} (h : Quiet s0 s) :
    Quiet s0 (State.setWhold s a1 a2) := by
  unfold State.setWhold
  repeat' first
    | with_reducible assumption
    | fail_if_no_progress with_reducible apply quiet_mk (s := _)

theorem State.setWide_quiet {s0 : State} {s : State} {a1 : FD} {a2 : ℕ} {a3 : ℕ} {a4 : ℕ} (h : Quiet s0 s) :
    Quiet s0 (State.setWide s a1 a2 a3 a4) := by
  unfold State.setWide
  repeat' first
    | with_reducible assumption
    | with_reducible apply State.flag_quiet
    | with_reducible apply State.wr2_quiet
    | with_reducible apply State.showMtip_quiet
    | with_reducible apply quiet_ite

theorem State.wideStore_quiet {s0 : State} {s : State} {a1 : Master} {a2 : FD} {a3 : ℕ} {a4 : ℕ} {a5 : ℕ} {a6 : ℕ} (h : Quiet s0 s) :
    Quiet s0 (State.wideStore s a1 a2 a3 a4 a5 a6) := by
  unfold State.wideStore
  repeat' first
    | with_reducible assumption
    | with_reducible apply State.setWhold_quiet
    | with_reducible refine State.onlyIf_quiet ?_ (fun x_ k => ?_)
    | with_reducible apply State.setWide_quiet
    | with_reducible apply quiet_ite

theorem State.freshen_quiet {s0 : State} {s : State} {a1 : ℕ} {a2 : ℕ} {a3 : ℕ} (h : Quiet s0 s) :
    Quiet s0 (State.freshen s a1 a2 a3) := by
  unfold State.freshen
  repeat' first
    | with_reducible assumption
    | with_reducible apply State.showBusy_quiet
    | with_reducible apply State.wr_quiet
    | with_reducible apply quiet_ite

theorem State.regLoad_quiet {s0 : State} {s : State} {a1 : Master} {a2 : ℕ} (h : Quiet s0 s) :
    Quiet s0 (State.regLoad s a1 a2) := by
  unfold State.regLoad
  generalize winOf a2 = w
  rcases w with ⟨b, off⟩
  repeat' first
    | with_reducible assumption
    | with_reducible apply State.busErr_quiet
    | with_reducible apply State.setResp_quiet
    | with_reducible apply State.wideLoad_quiet
    | with_reducible apply State.semRead_quiet
    | with_reducible apply State.tblAccess_quiet
    | with_reducible apply State.freshen_quiet
    | with_reducible refine State.onlyIf_quiet ?_ (fun x_ k => ?_)
    | with_reducible apply State.wr_quiet
    | with_reducible apply quiet_ite
    | fail_if_no_progress beta_reduce
    | split

theorem State.chMarkBad_quiet {s0 : State} {s : State} (h : Quiet s0 s) :
    Quiet s0 (State.chMarkBad s) := by
  unfold State.chMarkBad
  repeat' first
    | with_reducible assumption
    | with_reducible apply State.flag_quiet
    | with_reducible apply State.wr_quiet
    | with_reducible apply quiet_ite
    | fail_if_no_progress with_reducible apply quiet_mk (s := _)

theorem State.chMarkLock_quiet {s0 : State} {s : State} {a1 : ℤ} (h : Quiet s0 s) :
    Quiet s0 (State.chMarkLock s a1) := by
  unfold State.chMarkLock
  repeat' first
    | with_reducible assumption
    | with_reducible refine State.onlyIf_quiet ?_ (fun x_ k => ?_)
    | with_reducible apply State.wr_quiet
    | with_reducible apply State.chMarkBad_quiet
    | with_reducible apply quiet_ite
    | fail_if_no_progress with_reducible apply quiet_mk (s := _)

theorem State.mcReport_quiet {s0 : State} {s : State} {a1 : Bool} (h : Quiet s0 s) :
    Quiet s0 (State.mcReport s a1) := by
  unfold State.mcReport
  repeat' first
    | with_reducible assumption
    | with_reducible refine State.onlyIf_quiet ?_ (fun x_ k => ?_)
    | with_reducible apply State.mcApplied_quiet
    | with_reducible apply State.chSend_quiet
    | with_reducible apply quiet_ite

theorem State.chSteer_quiet {s0 : State} {s : State} {a1 : ℤ} (h : Quiet s0 s) :
    Quiet s0 (State.chSteer s a1) := by
  unfold State.chSteer
  repeat' first
    | with_reducible assumption
    | with_reducible apply State.wrI_quiet
    | with_reducible apply quiet_ite

theorem State.chNewMark_quiet {s0 : State} {s : State} {a1 : ChMark} (h : Quiet s0 s) :
    Quiet s0 (State.chNewMark s a1) := by
  unfold State.chNewMark
  repeat' first
    | with_reducible assumption
    | with_reducible apply State.wr_quiet
    | fail_if_no_progress with_reducible apply quiet_mk (s := _)

theorem State.setHp_quiet {s0 : State} {s : State} {a1 : ℕ} {a2 : HpS} (h : Quiet s0 s) :
    Quiet s0 (State.setHp s a1 a2) := by
  unfold State.setHp
  repeat' first
    | with_reducible assumption
    | fail_if_no_progress with_reducible apply quiet_mk (s := _)

theorem State.hpOut_quiet {s0 : State} {s : State} {a1 : ℕ} {a2 : List ℕ} (h : Quiet s0 s) :
    Quiet s0 (State.hpOut s a1 a2) := by
  unfold State.hpOut
  repeat' first
    | with_reducible assumption
    | with_reducible apply State.setHp_quiet

theorem State.hpBegin_quiet {s0 : State} {s : State} {a1 : ℕ} (h : Quiet s0 s) :
    Quiet s0 (State.hpBegin s a1) := by
  unfold State.hpBegin
  repeat' first
    | with_reducible assumption
    | with_reducible apply State.setHp_quiet

theorem State.setBuf_quiet {s0 : State} {s : State} {a1 : ℕ} {a2 : List (ℕ × ℕ)} (h : Quiet s0 s) :
    Quiet s0 (State.setBuf s a1 a2) := by
  unfold State.setBuf
  repeat' first
    | with_reducible assumption
    | with_reducible apply State.wr_quiet
    | with_reducible apply State.setHp_quiet

theorem State.hpTake_quiet {s0 : State} {s : State} {a1 : ℕ} {a2 : ℕ} {a3 : List ℕ} (h : Quiet s0 s) :
    Quiet s0 (State.hpTake s a1 a2 a3) := by
  unfold State.hpTake
  repeat' first
    | with_reducible assumption
    | with_reducible refine State.onlyIf_quiet ?_ (fun x_ k => ?_)
    | with_reducible apply State.setBuf_quiet
    | with_reducible apply State.flag_quiet

theorem State.checkpoint_quiet {s0 : State} {s : State} {a1 : ℕ} {a2 : Item} (h : Quiet s0 s) :
    Quiet s0 (State.checkpoint s a1 a2) := by
  unfold State.checkpoint
  repeat' first
    | with_reducible assumption
    | with_reducible apply State.setCpx_quiet

theorem State.lastOf_quiet {s0 : State} {s : State} {a1 : ℕ} {a2 : ℕ} {a3 : List (Option Item)} (h : Quiet s0 s) :
    Quiet s0 (State.lastOf s a1 a2 a3) := by
  unfold State.lastOf
  repeat' first
    | with_reducible assumption
    | with_reducible apply State.lastMismatch_quiet
    | with_reducible apply id_quiet
    | with_reducible apply quiet_ite
    | fail_if_no_progress beta_reduce
    | split

theorem State.clayTick_quiet {s0 : State} {s : State} (h : Quiet s0 s) :
    Quiet s0 (State.clayTick s) := by
  unfold State.clayTick
  repeat' first
    | with_reducible assumption
    | with_reducible apply State.wr_quiet
    | with_reducible apply quiet_ite
    | fail_if_no_progress with_reducible apply quiet_mk (s := _)

end Sys2Proof.Machine
end

