-- ==== Sys2Proof/Laws/QuietExec.lean ====
section
/-! SUPPORT. The commands that store to no memory: one lemma for each meaning. -/

namespace Sys2Proof.Machine

theorem execPairBurstDone_quiet {a0 : Fin 16} {s : State} {t : State} (h : execPairBurstDone a0 s = .next t) : Quiet s t := by
  unfold execPairBurstDone at h; refine quiet_next h ?_; have h0 := Quiet.refl s
  repeat' first
    | with_reducible assumption
    | with_reducible apply State.flag_quiet
    | with_reducible apply State.wr_quiet
    | with_reducible apply State.setPair_quiet
    | with_reducible apply quiet_ite

theorem execAdcCalBegin_quiet {a0 : Fin 32} {s : State} {t : State} (h : execAdcCalBegin a0 s = .next t) : Quiet s t := by
  unfold execAdcCalBegin at h; refine quiet_next h ?_; have h0 := Quiet.refl s
  repeat' first
    | with_reducible assumption
    | with_reducible apply State.flag_quiet
    | with_reducible apply State.wr_quiet
    | with_reducible apply State.setAdc_quiet
    | with_reducible apply quiet_ite

theorem execAdcSamplingInstant_quiet {a0 : Fin 32} {a1 : ℤ} {s : State} {t : State} (h : execAdcSamplingInstant a0 a1 s = .next t) : Quiet s t := by
  unfold execAdcSamplingInstant at h; refine quiet_next h ?_; have h0 := Quiet.refl s
  repeat' first
    | with_reducible assumption
    | with_reducible apply State.setAdc_quiet
    | with_reducible apply quiet_ite

theorem execInjSlotStart_quiet {a0 : Fin 32} {a1 : Fin 2} {s : State} {t : State} (h : execInjSlotStart a0 a1 s = .next t) : Quiet s t := by
  unfold execInjSlotStart at h; refine quiet_next h ?_; have h0 := Quiet.refl s
  repeat' first
    | with_reducible assumption
    | with_reducible apply State.startSlot_quiet
    | with_reducible apply quiet_ite

theorem execPairBurstTrigger_quiet {a0 : Fin 16} {s : State} {t : State} (h : execPairBurstTrigger a0 s = .next t) : Quiet s t := by
  unfold execPairBurstTrigger at h; refine quiet_next h ?_; have h0 := Quiet.refl s
  repeat' first
    | with_reducible assumption
    | with_reducible apply State.burstStart_quiet
    | with_reducible apply State.takePulse_quiet
    | with_reducible apply quiet_ite

theorem execPairCalBegin_quiet {a0 : Fin 16} {s : State} {t : State} (h : execPairCalBegin a0 s = .next t) : Quiet s t := by
  unfold execPairCalBegin at h; refine quiet_next h ?_; have h0 := Quiet.refl s
  repeat' first
    | with_reducible assumption
    | with_reducible apply State.setPair_quiet
    | with_reducible apply State.wr_quiet
    | with_reducible apply State.flag_quiet
    | with_reducible apply quiet_ite

theorem execSeqGroupIssue_quiet {a0 : Fin 4} {s : State} {t : State} (h : execSeqGroupIssue a0 s = .next t) : Quiet s t := by
  unfold execSeqGroupIssue at h; refine quiet_next h ?_; have h0 := Quiet.refl s
  repeat' first
    | with_reducible assumption
    | with_reducible apply State.issueGroup_quiet
    | with_reducible apply quiet_ite

theorem execInjTrigger_quiet {a0 : Fin 32} {a1 : Fin 2} {s : State} {t : State} (h : execInjTrigger a0 a1 s = .next t) : Quiet s t := by
  unfold execInjTrigger at h; refine quiet_next h ?_; have h0 := Quiet.refl s
  repeat' first
    | with_reducible assumption
    | with_reducible apply State.injRoute_quiet
    | with_reducible refine State.onlyIf_quiet ?_ (fun x_ k => ?_)
    | with_reducible apply quiet_ite

theorem execSeqStart_quiet {a0 : Fin 4} {s : State} {t : State} (h : execSeqStart a0 s = .next t) : Quiet s t := by
  unfold execSeqStart at h; refine quiet_next h ?_; have h0 := Quiet.refl s
  repeat' first
    | with_reducible assumption
    | with_reducible apply State.seqStart_quiet
    | with_reducible apply State.takePulse_quiet
    | with_reducible apply quiet_ite

theorem execIsoOutput_quiet {a0 : Fin 8} {a1 : List Bool} {s : State} {t : State} (h : execIsoOutput a0 a1 s = .next t) : Quiet s t := by
  unfold execIsoOutput at h; refine quiet_next h ?_; have h0 := Quiet.refl s
  repeat' first
    | with_reducible assumption
    | with_reducible apply State.isoEmit_quiet
    | with_reducible apply quiet_ite

theorem execIsoOverload_quiet {a0 : Fin 8} {s : State} {t : State} (h : execIsoOverload a0 s = .next t) : Quiet s t := by
  unfold execIsoOverload at h; refine quiet_next h ?_; have h0 := Quiet.refl s
  repeat' first
    | with_reducible assumption
    | with_reducible apply State.setIso_quiet

theorem execIsoOverloadEnd_quiet {a0 : Fin 8} {s : State} {t : State} (h : execIsoOverloadEnd a0 s = .next t) : Quiet s t := by
  unfold execIsoOverloadEnd at h; refine quiet_next h ?_; have h0 := Quiet.refl s
  repeat' first
    | with_reducible assumption
    | with_reducible apply State.setIso_quiet

theorem execLpRouteStart_quiet {a0 : Fin 8} {a1 : Fin 4} {s : State} {t : State} (h : execLpRouteStart a0 a1 s = .next t) : Quiet s t := by
  unfold execLpRouteStart at h; refine quiet_next h ?_; have h0 := Quiet.refl s
  repeat' first
    | with_reducible assumption
    | with_reducible refine State.onlyIf_quiet ?_ (fun x_ k => ?_)
    | with_reducible apply State.takePulse_quiet
    | with_reducible apply State.lpRoute_quiet
    | with_reducible refine foldEach_quiet (fun a t k => ?_) _ ?_
    | fail_if_no_progress beta_reduce
    | split

theorem execReqPulse_quiet {a0 : Fin 8} {s : State} {t : State} (h : execReqPulse a0 s = .next t) : Quiet s t := by
  unfold execReqPulse at h; refine quiet_next h ?_; have h0 := Quiet.refl s
  repeat' first
    | with_reducible assumption
    | with_reducible apply State.raisePulse_quiet
    | with_reducible apply State.setLu_quiet
    | fail_if_no_progress beta_reduce
    | split

theorem execLpRunStart_quiet {a0 : Fin 8} {s : State} {t : State} (h : execLpRunStart a0 s = .next t) : Quiet s t := by
  unfold execLpRunStart at h; refine quiet_next h ?_; have h0 := Quiet.refl s
  repeat' first
    | with_reducible assumption
    | with_reducible refine State.onlyIf_quiet ?_ (fun x_ k => ?_)
    | with_reducible apply State.lpBegin_quiet

theorem execWrlCapture_quiet {a0 : Fin 8} {s : State} {t : State} (h : execWrlCapture a0 s = .next t) : Quiet s t := by
  unfold execWrlCapture at h; refine quiet_next h ?_; have h0 := Quiet.refl s
  repeat' first
    | with_reducible assumption
    | with_reducible refine State.onlyIf_quiet ?_ (fun x_ k => ?_)
    | with_reducible apply State.captureWrl_quiet

theorem execAlignPreHalfExpiry_quiet {a0 : Fin 8} {s : State} {t : State} (h : execAlignPreHalfExpiry a0 s = .next t) : Quiet s t := by
  unfold execAlignPreHalfExpiry at h; refine quiet_next h ?_; have h0 := Quiet.refl s
  repeat' first
    | with_reducible assumption
    | with_reducible apply State.setFc_quiet
    | with_reducible apply quiet_ite

theorem execProbePulseEnd_quiet {a0 : Fin 8} {s : State} {t : State} (h : execProbePulseEnd a0 s = .next t) : Quiet s t := by
  unfold execProbePulseEnd at h; refine quiet_next h ?_; have h0 := Quiet.refl s
  repeat' first
    | with_reducible assumption
    | with_reducible apply State.setFc_quiet
    | with_reducible apply quiet_ite

theorem execExcFault_quiet {a0 : Fin 2} {s : State} {t : State} (h : execExcFault a0 s = .next t) : Quiet s t := by
  unfold execExcFault at h; refine quiet_next h ?_; have h0 := Quiet.refl s
  repeat' first
    | with_reducible assumption
    | with_reducible apply State.rsValid_quiet
    | with_reducible apply State.rsFault_quiet
    | with_reducible apply quiet_ite

theorem execResolverSamplePair_quiet {a0 : Fin 2} {a1 : Bool} {a2 : ℤ} {a3 : ℤ} {s : State} {t : State} (h : execResolverSamplePair a0 a1 a2 a3 s = .next t) : Quiet s t := by
  unfold execResolverSamplePair at h; refine quiet_next h ?_; have h0 := Quiet.refl s
  repeat' first
    | with_reducible assumption
    | with_reducible apply State.rowTrack_quiet
    | with_reducible apply State.rsShow_quiet
    | with_reducible apply State.rsJudge_quiet
    | with_reducible apply State.rsTrack_quiet
    | with_reducible apply quiet_ite

theorem execHallTimeout_quiet {a0 : Fin 4} {s : State} {t : State} (h : execHallTimeout a0 s = .next t) : Quiet s t := by
  unfold execHallTimeout at h; refine quiet_next h ?_; have h0 := Quiet.refl s
  repeat' first
    | with_reducible assumption
    | with_reducible apply State.setPos_quiet
    | with_reducible apply quiet_ite

theorem execSsiFrameDone_quiet {a0 : Fin 4} {a1 : BitVec 32} {s : State} {t : State} (h : execSsiFrameDone a0 a1 s = .next t) : Quiet s t := by
  unfold execSsiFrameDone at h; refine quiet_next h ?_; have h0 := Quiet.refl s
  repeat' first
    | with_reducible assumption
    | with_reducible apply State.showValid_quiet
    | with_reducible apply State.ssiFrame_quiet
    | with_reducible apply quiet_ite

theorem execEmuStep_quiet {a0 : Fin 4} {s : State} {t : State} (h : execEmuStep a0 s = .next t) : Quiet s t := by
  unfold execEmuStep at h; refine quiet_next h ?_; have h0 := Quiet.refl s
  repeat' first
    | with_reducible assumption
    | with_reducible apply State.wrI_quiet
    | with_reducible apply State.setEmu_quiet
    | with_reducible apply quiet_ite

theorem execPosSpeedEstimate_quiet {a0 : Fin 4} {s : State} {t : State} (h : execPosSpeedEstimate a0 s = .next t) : Quiet s t := by
  unfold execPosSpeedEstimate at h; refine quiet_next h ?_; have h0 := Quiet.refl s
  repeat' first
    | with_reducible assumption
    | with_reducible apply State.setPos_quiet
    | with_reducible apply quiet_ite

theorem execPosInputAccept_quiet {a0 : Fin 4} {a1 : BitVec 7} {s : State} {t : State} (h : execPosInputAccept a0 a1 s = .next t) : Quiet s t := by
  unfold execPosInputAccept at h; refine quiet_next h ?_; have h0 := Quiet.refl s
  repeat' first
    | with_reducible assumption
    | with_reducible apply State.posSample_quiet
    | with_reducible apply State.posRaw_quiet
    | with_reducible apply quiet_ite

theorem execDischargePwmEdge_quiet {a0 : Fin 8} {s : State} {t : State} (h : execDischargePwmEdge a0 s = .next t) : Quiet s t := by
  unfold execDischargePwmEdge at h; refine quiet_next h ?_; have h0 := Quiet.refl s
  repeat' first
    | with_reducible assumption
    | with_reducible apply State.disEdge_quiet
    | with_reducible apply State.windLeg_quiet
    | with_reducible refine foldEach_quiet (fun a t k => ?_) _ ?_
    | with_reducible apply quiet_ite
    | fail_if_no_progress beta_reduce
    | split

theorem execCanRecoveryDone_quiet {a0 : Fin 6} {s : State} {t : State} (h : execCanRecoveryDone a0 s = .next t) : Quiet s t := by
  unfold execCanRecoveryDone at h; refine quiet_next h ?_; have h0 := Quiet.refl s
  repeat' first
    | with_reducible assumption
    | with_reducible apply State.wr_quiet
    | with_reducible apply State.setCanState_quiet
    | with_reducible apply quiet_ite

theorem execCanSyncDone_quiet {a0 : Fin 6} {s : State} {t : State} (h : execCanSyncDone a0 s = .next t) : Quiet s t := by
  unfold execCanSyncDone at h; refine quiet_next h ?_; have h0 := Quiet.refl s
  repeat' first
    | with_reducible assumption
    | with_reducible apply State.setCanState_quiet
    | with_reducible apply quiet_ite

theorem execCanArbitrationLost_quiet {a0 : Fin 6} {s : State} {t : State} (h : execCanArbitrationLost a0 s = .next t) : Quiet s t := by
  unfold execCanArbitrationLost at h; refine quiet_next h ?_; have h0 := Quiet.refl s
  repeat' first
    | with_reducible assumption
    | with_reducible apply State.canIdle_quiet
    | with_reducible apply quiet_ite

theorem execCanBusError_quiet {a0 : Fin 6} {a1 : Fin 6} {a2 : Bool} {a3 : Bool} {s : State} {t : State} (h : execCanBusError a0 a1 a2 a3 s = .next t) : Quiet s t := by
  unfold execCanBusError at h; refine quiet_next h ?_; have h0 := Quiet.refl s
  repeat' first
    | with_reducible assumption
    | with_reducible refine State.onlyIf_quiet ?_ (fun x_ k => ?_)
    | with_reducible apply State.canError_quiet

theorem execCanTxSelect_quiet {a0 : Fin 6} {a1 : Bool} {s : State} {t : State} (h : execCanTxSelect a0 a1 s = .next t) : Quiet s t := by
  unfold execCanTxSelect at h; refine quiet_next h ?_; have h0 := Quiet.refl s
  repeat' first
    | with_reducible assumption
    | with_reducible apply State.setCan_quiet
    | with_reducible apply State.canSelect_quiet
    | with_reducible apply quiet_ite

theorem execProtocolExceptionEvent_quiet {a0 : Fin 6} {s : State} {t : State} (h : execProtocolExceptionEvent a0 s = .next t) : Quiet s t := by
  unfold execProtocolExceptionEvent at h; refine quiet_next h ?_; have h0 := Quiet.refl s
  repeat' first
    | with_reducible assumption
    | with_reducible apply State.canError_quiet
    | with_reducible refine State.onlyIf_quiet ?_ (fun x_ k => ?_)
    | with_reducible apply State.setCanState_quiet
    | with_reducible apply State.canIdle_quiet
    | with_reducible apply State.flag_quiet
    | with_reducible apply State.canInit_quiet
    | with_reducible apply quiet_ite

theorem execBasicCommitDone_quiet {a0 : Fin 17} {s : State} {t : State} (h : execBasicCommitDone a0 s = .next t) : Quiet s t := by
  unfold execBasicCommitDone at h; refine quiet_next h ?_; have h0 := Quiet.refl s
  repeat' first
    | with_reducible assumption
    | with_reducible apply State.commitEnd_quiet

theorem execBasicCommit_quiet {a0 : Master} {a1 : Fin 17} {s : State} {t : State} (h : execBasicCommit a0 a1 s = .next t) : Quiet s t := by
  unfold execBasicCommit at h; refine quiet_next h ?_; have h0 := Quiet.refl s
  repeat' first
    | with_reducible assumption
    | with_reducible apply State.busErr_quiet
    | with_reducible refine State.busWrite_quiet ?_ (fun x_ k => ?_)
    | with_reducible apply State.commitStart_quiet
    | with_reducible apply quiet_ite

theorem execOutvoteWindowExpiry_quiet {a0 : Fin 3} {s : State} {t : State} (h : execOutvoteWindowExpiry a0 s = .next t) : Quiet s t := by
  unfold execOutvoteWindowExpiry at h; refine quiet_next h ?_; have h0 := Quiet.refl s
  repeat' first
    | with_reducible assumption
    | with_reducible apply State.clearCount_quiet
    | with_reducible apply quiet_ite
    | fail_if_no_progress beta_reduce
    | split

theorem execCpxInjGo_quiet {a0 : Master} {a1 : Fin 4} {a2 : Fin 32} {s : State} {t : State} (h : execCpxInjGo a0 a1 a2 s = .next t) : Quiet s t := by
  unfold execCpxInjGo at h; refine quiet_next h ?_; have h0 := Quiet.refl s
  repeat' first
    | with_reducible assumption
    | with_reducible refine State.winWrite_quiet ?_ (fun x_ k => ?_)
    | with_reducible apply State.injWrite_quiet

theorem execCpxResume_quiet {a0 : Master} {s : State} {t : State} (h : execCpxResume a0 s = .next t) : Quiet s t := by
  unfold execCpxResume at h; refine quiet_next h ?_; have h0 := Quiet.refl s
  repeat' first
    | with_reducible assumption
    | with_reducible refine State.winWrite_quiet ?_ (fun x_ k => ?_)
    | with_reducible apply State.pauseWrite_quiet

theorem execDcinv_quiet {a0 : Fin 3} {a1 : BitVec 32} {s : State} {t : State} (h : execDcinv a0 a1 s = .next t) : Quiet s t := by
  unfold execDcinv at h; refine quiet_next h ?_; have h0 := Quiet.refl s
  repeat' first
    | with_reducible assumption
    | with_reducible apply State.dDrop_quiet
    | with_reducible apply quiet_ite

theorem execCpxReportSend_quiet {s : State} {t : State} (h : execCpxReportSend s = .next t) : Quiet s t := by
  unfold execCpxReportSend at h; refine quiet_next h ?_; have h0 := Quiet.refl s
  repeat' first
    | with_reducible assumption
    | with_reducible apply State.sendReport_quiet
    | with_reducible apply State.setCpx_quiet
    | with_reducible apply quiet_ite

theorem execCpxPause_quiet {a0 : Master} {s : State} {t : State} (h : execCpxPause a0 s = .next t) : Quiet s t := by
  unfold execCpxPause at h; refine quiet_next h ?_; have h0 := Quiet.refl s
  repeat' first
    | with_reducible assumption
    | with_reducible refine State.winWrite_quiet ?_ (fun x_ k => ?_)
    | with_reducible apply State.pauseWrite_quiet

theorem execIrqSource_quiet {a0 : Fin 64} {s : State} {t : State} (h : execIrqSource a0 s = .next t) : Quiet s t := by
  unfold execIrqSource at h; refine quiet_next h ?_; have h0 := Quiet.refl s
  repeat' first
    | with_reducible assumption
    | with_reducible apply State.irqUpdate_quiet
    | with_reducible apply quiet_ite

theorem execCpxSplit_quiet {a0 : Master} {s : State} {t : State} (h : execCpxSplit a0 s = .next t) : Quiet s t := by
  unfold execCpxSplit at h; refine quiet_next h ?_; have h0 := Quiet.refl s
  repeat' first
    | with_reducible assumption
    | with_reducible refine State.winWrite_quiet ?_ (fun x_ k => ?_)
    | with_reducible apply State.splitWrite_quiet

theorem execPairTestDone_quiet {a0 : BitVec 4} {s : State} {t : State} (h : execPairTestDone a0 s = .next t) : Quiet s t := by
  unfold execPairTestDone at h; refine quiet_next h ?_; have h0 := Quiet.refl s
  repeat' first
    | with_reducible assumption
    | with_reducible apply State.testDone_quiet
    | with_reducible apply State.setCpx_quiet
    | with_reducible refine State.onlyIf_quiet ?_ (fun x_ k => ?_)
    | with_reducible apply State.flag_quiet
    | with_reducible apply State.moveChecker_quiet
    | with_reducible apply quiet_ite

theorem execYewFillDone_quiet {s : State} {t : State} (h : execYewFillDone s = .next t) : Quiet s t := by
  unfold execYewFillDone at h; refine quiet_next h ?_; have h0 := Quiet.refl s
  repeat' first
    | with_reducible assumption
    | with_reducible apply State.setCpx_quiet
    | with_reducible apply quiet_ite

theorem execCheckerTest_quiet {a0 : Fin 4} {s : State} {t : State} (h : execCheckerTest a0 s = .next t) : Quiet s t := by
  unfold execCheckerTest at h; refine quiet_next h ?_; have h0 := Quiet.refl s
  repeat' first
    | with_reducible assumption
    | with_reducible apply State.setCpx_quiet
    | with_reducible apply State.bump_quiet
    | with_reducible apply State.checkerFault_quiet
    | with_reducible apply State.flag_quiet
    | with_reducible apply quiet_ite
    | fail_if_no_progress beta_reduce
    | split

theorem execJoinFillDone_quiet {s : State} {t : State} (h : execJoinFillDone s = .next t) : Quiet s t := by
  unfold execJoinFillDone at h; refine quiet_next h ?_; have h0 := Quiet.refl s
  repeat' first
    | with_reducible assumption
    | with_reducible apply State.setCpx_quiet
    | with_reducible apply quiet_ite

theorem execCpxJoin_quiet {a0 : Master} {s : State} {t : State} (h : execCpxJoin a0 s = .next t) : Quiet s t := by
  unfold execCpxJoin at h; refine quiet_next h ?_; have h0 := Quiet.refl s
  repeat' first
    | with_reducible assumption
    | with_reducible refine State.winWrite_quiet ?_ (fun x_ k => ?_)
    | with_reducible apply State.joinWrite_quiet

theorem execMtimeCompare_quiet {a0 : Fin 3} {s : State} {t : State} (h : execMtimeCompare a0 s = .next t) : Quiet s t := by
  unfold execMtimeCompare at h; refine quiet_next h ?_; have h0 := Quiet.refl s
  repeat' first
    | with_reducible assumption
    | with_reducible apply State.showMtip_quiet
    | with_reducible apply quiet_ite

theorem execLadderLock_quiet {a0 : Fin 24} {a1 : Fin 3} {s : State} {t : State} (h : execLadderLock a0 a1 s = .next t) : Quiet s t := by
  unfold execLadderLock at h; refine quiet_next h ?_; have h0 := Quiet.refl s
  repeat' first
    | with_reducible assumption
    | with_reducible apply State.showPwm_quiet
    | with_reducible apply State.showLadders_quiet
    | with_reducible apply State.wr2_quiet
    | with_reducible apply quiet_ite

theorem execOutmodeApply_quiet {a0 : Fin 24} {s : State} {t : State} (h : execOutmodeApply a0 s = .next t) : Quiet s t := by
  unfold execOutmodeApply at h; refine quiet_next h ?_; have h0 := Quiet.refl s
  repeat' first
    | with_reducible assumption
    | with_reducible apply State.restartLeg_quiet
    | with_reducible apply State.setLeg_quiet
    | with_reducible apply quiet_ite
    | fail_if_no_progress beta_reduce
    | split

theorem execSwnAccept_quiet {a0 : Fin 24} {a1 : Bool} {a2 : Fin 128} {s : State} {t : State} (h : execSwnAccept a0 a1 a2 s = .next t) : Quiet s t := by
  unfold execSwnAccept at h; refine quiet_next h ?_; have h0 := Quiet.refl s
  repeat' first
    | with_reducible assumption
    | with_reducible apply State.wr_quiet
    | with_reducible apply State.classSwn_quiet
    | with_reducible apply quiet_ite

theorem execDeadtimeExpiry_quiet {a0 : Fin 24} {s : State} {t : State} (h : execDeadtimeExpiry a0 s = .next t) : Quiet s t := by
  unfold execDeadtimeExpiry at h; refine quiet_next h ?_; have h0 := Quiet.refl s
  repeat' first
    | with_reducible assumption
    | with_reducible apply State.setLeg_quiet

theorem execHeldEdgeExecute_quiet {a0 : Fin 24} {s : State} {t : State} (h : execHeldEdgeExecute a0 s = .next t) : Quiet s t := by
  unfold execHeldEdgeExecute at h; refine quiet_next h ?_; have h0 := Quiet.refl s
  repeat' first
    | with_reducible assumption
    | with_reducible apply State.closeEdge_quiet
    | with_reducible apply State.setLeg_quiet
    | with_reducible apply quiet_ite
    | lift_lets -underBinder; intro x; try clear_value x
    | fail_if_no_progress beta_reduce
    | split

theorem execLadderCalUpdate_quiet {a0 : Fin 24} {a1 : Fin 3} {a2 : Bool} {s : State} {t : State} (h : execLadderCalUpdate a0 a1 a2 s = .next t) : Quiet s t := by
  unfold execLadderCalUpdate at h; refine quiet_next h ?_; have h0 := Quiet.refl s
  repeat' first
    | with_reducible assumption
    | with_reducible apply State.setLeg_quiet
    | with_reducible apply State.wr2_quiet
    | with_reducible apply quiet_ite

theorem execCompareMatch_quiet {a0 : Fin 24} {a1 : Cmp} {a2 : Fin 128} {s : State} {t : State} (h : execCompareMatch a0 a1 a2 s = .next t) : Quiet s t := by
  unfold execCompareMatch at h; refine quiet_next h ?_; have h0 := Quiet.refl s
  repeat' first
    | with_reducible assumption
    | with_reducible apply State.takeEvent_quiet
    | with_reducible apply State.edgeWork_quiet
    | with_reducible apply quiet_ite
    | fail_if_no_progress beta_reduce
    | split

theorem execLadderCalLimit_quiet {a0 : Fin 24} {a1 : Fin 3} {s : State} {t : State} (h : execLadderCalLimit a0 a1 s = .next t) : Quiet s t := by
  unfold execLadderCalLimit at h; refine quiet_next h ?_; have h0 := Quiet.refl s
  repeat' first
    | with_reducible assumption
    | with_reducible apply State.showLadders_quiet
    | with_reducible apply State.wr2_quiet
    | with_reducible apply State.logEv_quiet
    | with_reducible apply quiet_ite

theorem execTriggerPulse_quiet {a0 : Fin 24} {a1 : Fin 4} {s : State} {t : State} (h : execTriggerPulse a0 a1 s = .next t) : Quiet s t := by
  unfold execTriggerPulse at h; refine quiet_next h ?_; have h0 := Quiet.refl s
  repeat' first
    | with_reducible assumption
    | with_reducible apply State.edgeWork_quiet
    | with_reducible apply State.raisePulse_quiet
    | with_reducible apply quiet_ite
    | fail_if_no_progress beta_reduce
    | split

theorem execSwnWindowExpiry_quiet {a0 : Fin 24} {s : State} {t : State} (h : execSwnWindowExpiry a0 s = .next t) : Quiet s t := by
  unfold execSwnWindowExpiry at h; refine quiet_next h ?_; have h0 := Quiet.refl s
  repeat' first
    | with_reducible assumption
    | intro x; try clear_value x
    | with_reducible apply State.setLeg_quiet
    | with_reducible apply State.swnMiss_quiet
    | with_reducible apply quiet_ite
    | lift_lets -underBinder; intro x; try clear_value x
    | fail_if_no_progress beta_reduce
    | split

theorem execSyncLoad_quiet {a0 : Fin 8} {s : State} {t : State} (h : execSyncLoad a0 s = .next t) : Quiet s t := by
  unfold execSyncLoad at h; refine quiet_next h ?_; have h0 := Quiet.refl s
  repeat' first
    | with_reducible assumption
    | with_reducible apply State.isoAlign_quiet
    | with_reducible apply State.loadSync_quiet
    | with_reducible apply quiet_ite
    | fail_if_no_progress beta_reduce
    | split

theorem execShadowTransfer_quiet {a0 : Fin 8} {s : State} {t : State} (h : execShadowTransfer a0 s = .next t) : Quiet s t := by
  unfold execShadowTransfer at h; refine quiet_next h ?_; have h0 := Quiet.refl s
  repeat' first
    | with_reducible assumption
    | with_reducible apply State.edgeWork_quiet
    | with_reducible apply quiet_ite

theorem execChCommit_quiet {a0 : Fin 2} {a1 : ChFrame} {a2 : Bool} {s : State} {t : State} (h : execChCommit a0 a1 a2 s = .next t) : Quiet s t := by
  unfold execChCommit at h; refine quiet_next h ?_; have h0 := Quiet.refl s
  repeat' first
    | with_reducible assumption
    | with_reducible refine State.chFrame_quiet ?_ (fun x_ x_ k => ?_) (fun x_ x_ k => ?_)
    | with_reducible refine keepPay_quiet ?_ (fun x_ x_ k => ?_)
    | with_reducible apply State.mcCommit_quiet

theorem execChReset_quiet {a0 : Fin 2} {a1 : ChFrame} {a2 : Bool} {s : State} {t : State} (h : execChReset a0 a1 a2 s = .next t) : Quiet s t := by
  unfold execChReset at h; refine quiet_next h ?_; have h0 := Quiet.refl s
  repeat' first
    | with_reducible assumption
    | with_reducible refine State.chFrame_quiet ?_ (fun x_ x_ k => ?_) (fun x_ x_ k => ?_)
    | with_reducible refine keepPay_quiet ?_ (fun x_ x_ k => ?_)
    | with_reducible refine State.onlyIf_quiet ?_ (fun x_ k => ?_)
    | with_reducible apply State.chResetIn_quiet

theorem execUnwrapTimer_quiet {a0 : Fin 2} {s : State} {t : State} (h : execUnwrapTimer a0 s = .next t) : Quiet s t := by
  unfold execUnwrapTimer at h; refine quiet_next h ?_; have h0 := Quiet.refl s
  repeat' first
    | with_reducible assumption
    | with_reducible apply State.setChPort_quiet
    | with_reducible apply State.chUnwrapIf_quiet
    | with_reducible apply quiet_ite
    | fail_if_no_progress with_reducible apply quiet_mk (s := _)

theorem execChDrsp_quiet {a0 : Fin 2} {a1 : Fin 64} {a2 : ℕ} {s : State} {t : State} (h : execChDrsp a0 a1 a2 s = .next t) : Quiet s t := by
  unfold execChDrsp at h; refine quiet_next h ?_; have h0 := Quiet.refl s
  repeat' first
    | with_reducible assumption
    | with_reducible apply State.wr_quiet
    | with_reducible apply quiet_ite
    | fail_if_no_progress beta_reduce
    | split

theorem execPortDown_quiet {a0 : Fin 2} {s : State} {t : State} (h : execPortDown a0 s = .next t) : Quiet s t := by
  unfold execPortDown at h; refine quiet_next h ?_; have h0 := Quiet.refl s
  repeat' first
    | with_reducible assumption
    | with_reducible refine State.onlyIf_quiet ?_ (fun x_ k => ?_)
    | with_reducible apply State.chPortDown_quiet

theorem execTrainingRetry_quiet {a0 : Fin 2} {s : State} {t : State} (h : execTrainingRetry a0 s = .next t) : Quiet s t := by
  unfold execTrainingRetry at h; refine quiet_next h ?_; have h0 := Quiet.refl s
  repeat' first
    | with_reducible assumption
    | with_reducible apply State.setChPort_quiet
    | with_reducible apply quiet_ite

theorem execCsyncArm_quiet {a0 : Master} {a1 : BitVec 24} {s : State} {t : State} (h : execCsyncArm a0 a1 s = .next t) : Quiet s t := by
  unfold execCsyncArm at h; refine quiet_next h ?_; have h0 := Quiet.refl s
  repeat' first
    | with_reducible assumption
    | with_reducible refine State.winWrite_quiet ?_ (fun x_ k => ?_)
    | with_reducible apply State.csyncArm_quiet

theorem execTxFrameSend_quiet {s : State} {t : State} (h : execTxFrameSend s = .next t) : Quiet s t := by
  unfold execTxFrameSend at h; refine quiet_next h ?_; have h0 := Quiet.refl s
  repeat' first
    | with_reducible assumption
    | with_reducible apply State.chSend_quiet
    | with_reducible apply State.wr_quiet
    | with_reducible apply quiet_ite
    | fail_if_no_progress with_reducible apply quiet_mk (s := _)
    | fail_if_no_progress beta_reduce
    | split

theorem execChToken_quiet {a0 : Fin 2} {a1 : ChFrame} {a2 : Bool} {s : State} {t : State} (h : execChToken a0 a1 a2 s = .next t) : Quiet s t := by
  unfold execChToken at h; refine quiet_next h ?_; have h0 := Quiet.refl s
  repeat' first
    | with_reducible assumption
    | with_reducible refine State.chFrame_quiet ?_ (fun x_ x_ k => ?_) (fun x_ x_ k => ?_)
    | with_reducible apply State.chTokenVisit_quiet
    | with_reducible apply State.sendCensus_quiet
    | with_reducible apply State.wr_quiet
    | with_reducible apply State.flag_quiet
    | with_reducible apply State.chNewRing_quiet
    | with_reducible apply quiet_ite

theorem execChUnwrap_quiet {a0 : Fin 2} {s : State} {t : State} (h : execChUnwrap a0 s = .next t) : Quiet s t := by
  unfold execChUnwrap at h; refine quiet_next h ?_; have h0 := Quiet.refl s
  repeat' first
    | with_reducible assumption
    | with_reducible apply State.chUnwrapIf_quiet
    | with_reducible apply State.setChPort_quiet
    | with_reducible apply quiet_ite

theorem execChLsw_quiet {a0 : Fin 2} {a1 : Bool} {a2 : Fin 2} {s : State} {t : State} (h : execChLsw a0 a1 a2 s = .next t) : Quiet s t := by
  unfold execChLsw at h; refine quiet_next h ?_; have h0 := Quiet.refl s
  repeat' first
    | with_reducible assumption
    | with_reducible apply State.retireLane_quiet
    | with_reducible apply State.flag_quiet
    | with_reducible apply State.setChPort_quiet
    | with_reducible apply quiet_ite
    | fail_if_no_progress with_reducible apply quiet_mk (s := _)

theorem execCensusEmit_quiet {s : State} {t : State} (h : execCensusEmit s = .next t) : Quiet s t := by
  unfold execCensusEmit at h; refine quiet_next h ?_; have h0 := Quiet.refl s
  repeat' first
    | with_reducible assumption
    | with_reducible apply State.sendCensus_quiet
    | with_reducible apply quiet_ite

theorem execChRefused_quiet {a0 : Fin 2} {a1 : ChFrame} {a2 : Bool} {s : State} {t : State} (h : execChRefused a0 a1 a2 s = .next t) : Quiet s t := by
  unfold execChRefused at h; refine quiet_next h ?_; have h0 := Quiet.refl s
  repeat' first
    | with_reducible assumption
    | with_reducible refine State.chFrame_quiet ?_ (fun x_ x_ k => ?_) (fun x_ x_ k => ?_)
    | with_reducible refine keepPay_quiet ?_ (fun x_ x_ k => ?_)
    | with_reducible apply quiet_ite
    | fail_if_no_progress with_reducible apply quiet_mk (s := _)

theorem execChCensus_quiet {a0 : Fin 2} {a1 : ChFrame} {a2 : Bool} {s : State} {t : State} (h : execChCensus a0 a1 a2 s = .next t) : Quiet s t := by
  unfold execChCensus at h; refine quiet_next h ?_; have h0 := Quiet.refl s
  repeat' first
    | with_reducible assumption
    | with_reducible refine State.chFrame_quiet ?_ (fun x_ x_ k => ?_) (fun x_ x_ k => ?_)
    | with_reducible refine State.onlyIf_quiet ?_ (fun x_ k => ?_)
    | with_reducible apply State.chCensusHome_quiet

theorem execPrepareWrite_quiet {a0 : Master} {a1 : BitVec 16} {s : State} {t : State} (h : execPrepareWrite a0 a1 s = .next t) : Quiet s t := by
  unfold execPrepareWrite at h; refine quiet_next h ?_; have h0 := Quiet.refl s
  repeat' first
    | with_reducible assumption
    | with_reducible refine State.winWrite_quiet ?_ (fun x_ k => ?_)
    | with_reducible apply State.mcPrepare_quiet

theorem execChEnum_quiet {a0 : Master} {a1 : Bool} {s : State} {t : State} (h : execChEnum a0 a1 s = .next t) : Quiet s t := by
  unfold execChEnum at h; refine quiet_next h ?_; have h0 := Quiet.refl s
  repeat' first
    | with_reducible assumption
    | with_reducible refine State.winWrite_quiet ?_ (fun x_ k => ?_)
    | with_reducible apply State.chEnumerate_quiet

theorem execCarrierSync_quiet {s : State} {t : State} (h : execCarrierSync s = .next t) : Quiet s t := by
  unfold execCarrierSync at h; refine quiet_next h ?_; have h0 := Quiet.refl s
  repeat' first
    | with_reducible assumption
    | with_reducible apply State.csyncRaise_quiet
    | with_reducible apply quiet_ite

theorem execLaneFail_quiet {a0 : Fin 2} {a1 : Fin 3} {a2 : BitVec 16} {a3 : Bool} {s : State} {t : State} (h : execLaneFail a0 a1 a2 a3 s = .next t) : Quiet s t := by
  unfold execLaneFail at h; refine quiet_next h ?_; have h0 := Quiet.refl s
  repeat' first
    | with_reducible assumption
    | with_reducible apply State.wr_quiet
    | with_reducible apply State.chPortDown_quiet
    | with_reducible apply State.setChPort_quiet
    | with_reducible apply quiet_ite

theorem execChDreq_quiet {a0 : Fin 2} {a1 : Fin 64} {a2 : Option ℕ} {s : State} {t : State} (h : execChDreq a0 a1 a2 s = .next t) : Quiet s t := by
  unfold execChDreq at h; refine quiet_next h ?_; have h0 := Quiet.refl s
  repeat' first
    | with_reducible assumption
    | with_reducible apply State.setChPort_quiet
    | with_reducible apply quiet_ite
    | fail_if_no_progress with_reducible apply quiet_mk (s := _)
    | fail_if_no_progress beta_reduce
    | split

theorem execChTxGo_quiet {a0 : Master} {s : State} {t : State} (h : execChTxGo a0 s = .next t) : Quiet s t := by
  unfold execChTxGo at h; refine quiet_next h ?_; have h0 := Quiet.refl s
  repeat' first
    | with_reducible assumption
    | with_reducible refine State.winWrite_quiet ?_ (fun x_ k => ?_)
    | with_reducible apply State.chGo_quiet

theorem execPortTrained_quiet {a0 : Fin 2} {a1 : ℕ} {a2 : List (Fin 16 × Fin 16)} {s : State} {t : State} (h : execPortTrained a0 a1 a2 s = .next t) : Quiet s t := by
  unfold execPortTrained at h; refine quiet_next h ?_; have h0 := Quiet.refl s
  repeat' first
    | with_reducible assumption
    | with_reducible apply State.wr_quiet
    | with_reducible apply State.setUp_quiet
    | with_reducible apply State.wr2_quiet
    | with_reducible apply State.setChPort_quiet
    | with_reducible refine foldEach_quiet (fun a t k => ?_) _ ?_
    | with_reducible apply quiet_ite

theorem execChAbort_quiet {a0 : Fin 2} {a1 : ChFrame} {a2 : Bool} {s : State} {t : State} (h : execChAbort a0 a1 a2 s = .next t) : Quiet s t := by
  unfold execChAbort at h; refine quiet_next h ?_; have h0 := Quiet.refl s
  repeat' first
    | with_reducible assumption
    | with_reducible refine State.chFrame_quiet ?_ (fun x_ x_ k => ?_) (fun x_ x_ k => ?_)
    | with_reducible refine keepPay_quiet ?_ (fun x_ x_ k => ?_)
    | with_reducible refine State.onlyIf_quiet ?_ (fun x_ k => ?_)
    | with_reducible apply State.mcState_quiet

theorem execMcArmTimeout_quiet {s : State} {t : State} (h : execMcArmTimeout s = .next t) : Quiet s t := by
  unfold execMcArmTimeout at h; refine quiet_next h ?_; have h0 := Quiet.refl s
  repeat' first
    | with_reducible assumption
    | with_reducible apply State.mcThrice_quiet
    | with_reducible apply State.mcResult_quiet
    | with_reducible refine State.onlyIf_quiet ?_ (fun x_ k => ?_)
    | with_reducible apply State.mcState_quiet
    | with_reducible apply quiet_ite

theorem execResetOne_quiet {a0 : Master} {a1 : Fin 64} {s : State} {t : State} (h : execResetOne a0 a1 s = .next t) : Quiet s t := by
  unfold execResetOne at h; refine quiet_next h ?_; have h0 := Quiet.refl s
  repeat' first
    | with_reducible assumption
    | with_reducible refine State.winWrite_quiet ?_ (fun x_ k => ?_)
    | with_reducible apply State.chResetOne_quiet

theorem execChPrepare_quiet {a0 : Fin 2} {a1 : ChFrame} {a2 : Bool} {s : State} {t : State} (h : execChPrepare a0 a1 a2 s = .next t) : Quiet s t := by
  unfold execChPrepare at h; refine quiet_next h ?_; have h0 := Quiet.refl s
  repeat' first
    | with_reducible assumption
    | with_reducible refine State.chFrame_quiet ?_ (fun x_ x_ k => ?_) (fun x_ x_ k => ?_)
    | with_reducible refine keepPay_quiet ?_ (fun x_ x_ k => ?_)
    | with_reducible apply State.mcArm_quiet
    | with_reducible apply State.chSend_quiet
    | with_reducible refine quiet_fst ‹_ = (_, _)› ?_
    | lift_lets -underBinder; intro x; try clear_value x
    | fail_if_no_progress beta_reduce
    | split

theorem execChApplied_quiet {a0 : Fin 2} {a1 : ChFrame} {a2 : Bool} {s : State} {t : State} (h : execChApplied a0 a1 a2 s = .next t) : Quiet s t := by
  unfold execChApplied at h; refine quiet_next h ?_; have h0 := Quiet.refl s
  repeat' first
    | with_reducible assumption
    | with_reducible refine State.chFrame_quiet ?_ (fun x_ x_ k => ?_) (fun x_ x_ k => ?_)
    | with_reducible refine keepPay_quiet ?_ (fun x_ x_ k => ?_)
    | with_reducible apply State.mcApplied_quiet
    | with_reducible apply quiet_ite

theorem execResetAll_quiet {a0 : Master} {s : State} {t : State} (h : execResetAll a0 s = .next t) : Quiet s t := by
  unfold execResetAll at h; refine quiet_next h ?_; have h0 := Quiet.refl s
  repeat' first
    | with_reducible assumption
    | with_reducible refine State.winWrite_quiet ?_ (fun x_ k => ?_)
    | with_reducible apply State.chResetAll_quiet

theorem execEnumRetry_quiet {s : State} {t : State} (h : execEnumRetry s = .next t) : Quiet s t := by
  unfold execEnumRetry at h; refine quiet_next h ?_; have h0 := Quiet.refl s
  repeat' first
    | with_reducible assumption
    | with_reducible apply State.sendToken_quiet
    | with_reducible apply State.wr_quiet
    | with_reducible apply quiet_ite

theorem execChArmed_quiet {a0 : Fin 2} {a1 : ChFrame} {a2 : Bool} {s : State} {t : State} (h : execChArmed a0 a1 a2 s = .next t) : Quiet s t := by
  unfold execChArmed at h; refine quiet_next h ?_; have h0 := Quiet.refl s
  repeat' first
    | with_reducible assumption
    | with_reducible refine State.chFrame_quiet ?_ (fun x_ x_ k => ?_) (fun x_ x_ k => ?_)
    | with_reducible refine keepPay_quiet ?_ (fun x_ x_ k => ?_)
    | with_reducible apply quiet_ite
    | fail_if_no_progress with_reducible apply quiet_mk (s := _)

theorem execChExpired_quiet {a0 : Fin 2} {a1 : ChFrame} {a2 : Bool} {s : State} {t : State} (h : execChExpired a0 a1 a2 s = .next t) : Quiet s t := by
  unfold execChExpired at h; refine quiet_next h ?_; have h0 := Quiet.refl s
  repeat' first
    | with_reducible assumption
    | with_reducible refine State.chFrame_quiet ?_ (fun x_ x_ k => ?_) (fun x_ x_ k => ?_)
    | with_reducible refine keepPay_quiet ?_ (fun x_ x_ k => ?_)

theorem execMcResultTimeout_quiet {s : State} {t : State} (h : execMcResultTimeout s = .next t) : Quiet s t := by
  unfold execMcResultTimeout at h; refine quiet_next h ?_; have h0 := Quiet.refl s
  repeat' first
    | with_reducible assumption
    | with_reducible refine State.onlyIf_quiet ?_ (fun x_ k => ?_)
    | with_reducible apply State.mcResult_quiet

theorem execPllUnlock_quiet {a0 : Fin 3} {s : State} {t : State} (h : execPllUnlock a0 s = .next t) : Quiet s t := by
  unfold execPllUnlock at h; refine quiet_next h ?_; have h0 := Quiet.refl s
  repeat' first
    | with_reducible assumption
    | with_reducible refine State.onlyIf_quiet ?_ (fun x_ k => ?_)
    | with_reducible apply State.pllLoss_quiet

theorem execPllsReturn_quiet {s : State} {t : State} (h : execPllsReturn s = .next t) : Quiet s t := by
  unfold execPllsReturn at h; refine quiet_next h ?_; have h0 := Quiet.refl s
  repeat' first
    | with_reducible assumption
    | with_reducible apply State.flag_quiet
    | with_reducible apply quiet_ite
    | fail_if_no_progress with_reducible apply quiet_mk (s := _)

theorem execTickStretch_quiet {a0 : BitVec 16} {s : State} {t : State} (h : execTickStretch a0 s = .next t) : Quiet s t := by
  unfold execTickStretch at h; refine quiet_next h ?_; have h0 := Quiet.refl s
  repeat' first
    | with_reducible assumption
    | with_reducible apply State.flag_quiet
    | with_reducible apply State.wrI_quiet
    | with_reducible apply State.setPll_quiet
    | with_reducible apply quiet_ite
    | fail_if_no_progress with_reducible apply quiet_mk (s := _)

theorem execPllLock_quiet {a0 : Fin 3} {s : State} {t : State} (h : execPllLock a0 s = .next t) : Quiet s t := by
  unfold execPllLock at h; refine quiet_next h ?_; have h0 := Quiet.refl s
  repeat' first
    | with_reducible assumption
    | intro x; refine quiet_cut (s0 := s) x ?_ ?_; (on_goal 2 => clear_value x); (on_goal 1 => subst x)
    | intro x; try clear_value x
    | with_reducible apply State.setPll_quiet
    | with_reducible apply State.setPllSt_quiet
    | with_reducible refine State.onlyIf_quiet ?_ (fun x_ k => ?_)
    | with_reducible apply State.flag_quiet
    | with_reducible apply State.clkRun_quiet
    | with_reducible apply State.showPwm_quiet
    | with_reducible apply quiet_ite
    | fail_if_no_progress with_reducible apply quiet_mk (s := _)
    | lift_lets -underBinder; intro x; refine quiet_cut (s0 := s) x ?_ ?_; (on_goal 2 => clear_value x); (on_goal 1 => subst x)
    | fail_if_no_progress beta_reduce
    | split

theorem execRefLost_quiet {a0 : Fin 3} {a1 : BitVec 16} {s : State} {t : State} (h : execRefLost a0 a1 s = .next t) : Quiet s t := by
  unfold execRefLost at h; refine quiet_next h ?_; have h0 := Quiet.refl s
  repeat' first
    | with_reducible assumption
    | with_reducible apply State.localLost_quiet
    | with_reducible refine State.onlyIf_quiet ?_ (fun x_ k => ?_)
    | with_reducible apply State.flag_quiet
    | with_reducible apply State.wr_quiet
    | with_reducible apply State.pllLoss_quiet
    | with_reducible apply quiet_ite

theorem execCrystalWaitExpiry_quiet {s : State} {t : State} (h : execCrystalWaitExpiry s = .next t) : Quiet s t := by
  unfold execCrystalWaitExpiry at h; refine quiet_next h ?_; have h0 := Quiet.refl s
  repeat' first
    | with_reducible assumption
    | with_reducible refine State.onlyIf_quiet ?_ (fun x_ k => ?_)
    | with_reducible apply State.localChosen_quiet
    | with_reducible apply quiet_ite
    | fail_if_no_progress with_reducible apply quiet_mk (s := _)
    | fail_if_no_progress beta_reduce
    | split

theorem execBandSelectionRetry_quiet {a0 : Fin 3} {s : State} {t : State} (h : execBandSelectionRetry a0 s = .next t) : Quiet s t := by
  unfold execBandSelectionRetry at h; refine quiet_next h ?_; have h0 := Quiet.refl s
  repeat' first
    | with_reducible assumption
    | with_reducible apply State.pllRelock_quiet
    | with_reducible apply quiet_ite
    | fail_if_no_progress beta_reduce
    | split

theorem execBandTryTimeout_quiet {a0 : Fin 3} {s : State} {t : State} (h : execBandTryTimeout a0 s = .next t) : Quiet s t := by
  unfold execBandTryTimeout at h; refine quiet_next h ?_; have h0 := Quiet.refl s
  repeat' first
    | with_reducible assumption
    | with_reducible apply State.bandTry_quiet
    | with_reducible apply quiet_ite

theorem execSlewDone_quiet {a0 : BitVec 16} {s : State} {t : State} (h : execSlewDone a0 s = .next t) : Quiet s t := by
  unfold execSlewDone at h; refine quiet_next h ?_; have h0 := Quiet.refl s
  repeat' first
    | with_reducible assumption
    | with_reducible apply State.wrI_quiet
    | with_reducible apply State.setPll_quiet
    | with_reducible apply State.wr_quiet
    | with_reducible apply quiet_ite

theorem execRefValid_quiet {a0 : Fin 3} {a1 : BitVec 16} {s : State} {t : State} (h : execRefValid a0 a1 s = .next t) : Quiet s t := by
  unfold execRefValid at h; refine quiet_next h ?_; have h0 := Quiet.refl s
  repeat' first
    | with_reducible assumption
    | with_reducible apply State.localValid_quiet
    | with_reducible refine State.onlyIf_quiet ?_ (fun x_ k => ?_)
    | with_reducible apply State.flag_quiet
    | with_reducible apply State.wr_quiet
    | with_reducible apply State.bandSelect_quiet
    | with_reducible apply State.pllBack_quiet
    | with_reducible apply quiet_ite
    | fail_if_no_progress beta_reduce
    | split

theorem execStageDisable_quiet {a0 : Master} {a1 : Fin 8} {s : State} {t : State} (h : execStageDisable a0 a1 s = .next t) : Quiet s t := by
  unfold execStageDisable at h; refine quiet_next h ?_; have h0 := Quiet.refl s
  repeat' first
    | with_reducible assumption
    | with_reducible refine State.winWrite_quiet ?_ (fun x_ k => ?_)
    | with_reducible apply State.disableStage_quiet

theorem execImgLoad_quiet {a0 : Master} {a1 : Fin 2} {s : State} {t : State} (h : execImgLoad a0 a1 s = .next t) : Quiet s t := by
  unfold execImgLoad at h; refine quiet_next h ?_; have h0 := Quiet.refl s
  repeat' first
    | with_reducible assumption
    | with_reducible refine State.winWrite_quiet ?_ (fun x_ k => ?_)
    | with_reducible apply State.loadWrite_quiet

theorem execImgLockClose_quiet {a0 : Master} {a1 : BitVec 16} {s : State} {t : State} (h : execImgLockClose a0 a1 s = .next t) : Quiet s t := by
  unfold execImgLockClose at h; refine quiet_next h ?_; have h0 := Quiet.refl s
  repeat' first
    | with_reducible assumption
    | with_reducible refine State.winWrite_quiet ?_ (fun x_ k => ?_)
    | with_reducible apply State.lockWrite_quiet

theorem execStageEnable_quiet {a0 : Master} {a1 : Fin 8} {s : State} {t : State} (h : execStageEnable a0 a1 s = .next t) : Quiet s t := by
  unfold execStageEnable at h; refine quiet_next h ?_; have h0 := Quiet.refl s
  repeat' first
    | with_reducible assumption
    | with_reducible refine State.winWrite_quiet ?_ (fun x_ k => ?_)
    | with_reducible apply State.enableStage_quiet

theorem execImgLockKey_quiet {a0 : Master} {a1 : BitVec 16} {s : State} {t : State} (h : execImgLockKey a0 a1 s = .next t) : Quiet s t := by
  unfold execImgLockKey at h; refine quiet_next h ?_; have h0 := Quiet.refl s
  repeat' first
    | with_reducible assumption
    | with_reducible refine State.winWrite_quiet ?_ (fun x_ k => ?_)
    | with_reducible apply State.lockWrite_quiet

theorem execPowerGood_quiet {a0 : RailSet} {s : State} {t : State} (h : execPowerGood a0 s = .next t) : Quiet s t := by
  unfold execPowerGood at h; refine quiet_next h ?_; have h0 := Quiet.refl s
  repeat' first
    | with_reducible assumption
    | with_reducible apply State.showRails_quiet
    | fail_if_no_progress with_reducible apply quiet_mk (s := _)

theorem execCrossingTimeout_quiet {a0 : Master} {a1 : Fin 39} {a2 : BitVec 32} {s : State} {t : State} (h : execCrossingTimeout a0 a1 a2 s = .next t) : Quiet s t := by
  unfold execCrossingTimeout at h; refine quiet_next h ?_; have h0 := Quiet.refl s
  repeat' first
    | with_reducible assumption
    | with_reducible refine State.onlyIf_quiet ?_ (fun x_ k => ?_)
    | with_reducible apply State.busErr_quiet
    | with_reducible apply State.logEv_quiet
    | fail_if_no_progress with_reducible apply quiet_mk (s := _)

theorem execDieLinkReturn_quiet {a0 : DieLink} {s : State} {t : State} (h : execDieLinkReturn a0 s = .next t) : Quiet s t := by
  unfold execDieLinkReturn at h; refine quiet_next h ?_; have h0 := Quiet.refl s
  repeat' first
    | with_reducible assumption
    | with_reducible apply State.showAdt_quiet
    | with_reducible apply State.clkIsland_quiet
    | with_reducible apply State.showAllActive_quiet
    | with_reducible refine foldEach_quiet (fun a t k => ?_) _ ?_
    | with_reducible apply quiet_ite
    | fail_if_no_progress with_reducible apply quiet_mk (s := _)
    | fail_if_no_progress beta_reduce
    | split

theorem execEccSingleBit_quiet {a0 : BitVec 32} {s : State} {t : State} (h : execEccSingleBit a0 s = .next t) : Quiet s t := by
  unfold execEccSingleBit at h; refine quiet_next h ?_; have h0 := Quiet.refl s
  repeat' first
    | with_reducible assumption
    | with_reducible refine State.onlyIf_quiet ?_ (fun x_ k => ?_)
    | with_reducible apply State.eccCount_quiet
    | fail_if_no_progress beta_reduce
    | split

theorem execVgioFall_quiet {s : State} {t : State} (h : execVgioFall s = .next t) : Quiet s t := by
  unfold execVgioFall at h; refine quiet_next h ?_; have h0 := Quiet.refl s
  repeat' first
    | with_reducible assumption
    | with_reducible apply State.setPad_quiet
    | with_reducible refine foldEach_quiet (fun a t k => ?_) _ ?_
    | fail_if_no_progress with_reducible apply quiet_mk (s := _)

theorem execModuleReset_quiet {s : State} {t : State} (h : execModuleReset s = .next t) : Quiet s t := by
  unfold execModuleReset at h; refine quiet_next h ?_; have h0 := Quiet.refl s
  repeat' first
    | with_reducible assumption
    | with_reducible apply State.mReset_quiet

theorem execVgioRise_quiet {s : State} {t : State} (h : execVgioRise s = .next t) : Quiet s t := by
  unfold execVgioRise at h; refine quiet_next h ?_; have h0 := Quiet.refl s
  repeat' first
    | with_reducible assumption
    | with_reducible apply State.setPad_quiet
    | with_reducible refine foldEach_quiet (fun a t k => ?_) _ ?_
    | with_reducible apply quiet_ite
    | fail_if_no_progress with_reducible apply quiet_mk (s := _)

theorem execMalformedManagementRequest_quiet {s : State} {t : State} (h : execMalformedManagementRequest s = .next t) : Quiet s t := by
  unfold execMalformedManagementRequest at h; refine quiet_next h ?_; have h0 := Quiet.refl s
  repeat' first
    | with_reducible assumption
    | with_reducible refine State.serve_quiet ?_ (fun x_ x_ x_ k => ?_)

theorem execReplyRetry_quiet {s : State} {t : State} (h : execReplyRetry s = .next t) : Quiet s t := by
  unfold execReplyRetry at h; refine quiet_next h ?_; have h0 := Quiet.refl s
  repeat' first
    | with_reducible assumption
    | with_reducible refine State.onlyIf_quiet ?_ (fun x_ k => ?_)
    | with_reducible apply State.retryReply_quiet
    | fail_if_no_progress with_reducible apply quiet_mk (s := _)
    | fail_if_no_progress beta_reduce
    | split

theorem execRunHouse_quiet {a0 : List (Fin 93 × Fin 1024)} {s : State} {t : State} (h : execRunHouse a0 s = .next t) : Quiet s t := by
  unfold execRunHouse at h; refine quiet_next h ?_; have h0 := Quiet.refl s
  repeat' first
    | with_reducible assumption
    | with_reducible refine State.serve_quiet ?_ (fun x_ x_ x_ k => ?_)
    | with_reducible apply State.readAges_quiet

theorem execAgingRead_quiet {a0 : List (Fin 93 × Fin 1024)} {s : State} {t : State} (h : execAgingRead a0 s = .next t) : Quiet s t := by
  unfold execAgingRead at h; refine quiet_next h ?_; have h0 := Quiet.refl s
  repeat' first
    | with_reducible assumption
    | with_reducible apply State.houseWaits_quiet
    | with_reducible apply State.readAges_quiet
    | with_reducible apply quiet_ite
    | fail_if_no_progress with_reducible apply quiet_mk (s := _)

theorem execCaptureCopy_quiet {s : State} {t : State} (h : execCaptureCopy s = .next t) : Quiet s t := by
  unfold execCaptureCopy at h; refine quiet_next h ?_; have h0 := Quiet.refl s
  repeat' first
    | with_reducible assumption
    | with_reducible refine State.onlyIf_quiet ?_ (fun x_ k => ?_)
    | with_reducible apply State.copyCapture_quiet

theorem execLoadWindow_quiet {a0 : Fin 1001} {s : State} {t : State} (h : execLoadWindow a0 s = .next t) : Quiet s t := by
  unfold execLoadWindow at h; refine quiet_next h ?_; have h0 := Quiet.refl s
  repeat' first
    | with_reducible assumption
    | with_reducible refine State.onlyIf_quiet ?_ (fun x_ k => ?_)
    | with_reducible apply State.loadWindow_quiet

theorem execMgStatus_quiet {s : State} {t : State} (h : execMgStatus s = .next t) : Quiet s t := by
  unfold execMgStatus at h; refine quiet_next h ?_; have h0 := Quiet.refl s
  repeat' first
    | with_reducible assumption
    | with_reducible refine State.serve_quiet ?_ (fun x_ x_ x_ k => ?_)

theorem execArmedStale_quiet {s : State} {t : State} (h : execArmedStale s = .next t) : Quiet s t := by
  unfold execArmedStale at h; refine quiet_next h ?_; have h0 := Quiet.refl s
  repeat' first
    | with_reducible assumption
    | with_reducible apply State.flag_quiet
    | with_reducible refine foldEach_quiet (fun a t k => ?_) _ ?_
    | with_reducible apply quiet_ite
    | fail_if_no_progress beta_reduce
    | split

theorem execAscDtExpiry_quiet {a0 : Fin 8} {s : State} {t : State} (h : execAscDtExpiry a0 s = .next t) : Quiet s t := by
  unfold execAscDtExpiry at h; refine quiet_next h ?_; have h0 := Quiet.refl s
  repeat' first
    | with_reducible assumption
    | with_reducible apply State.ascOn_quiet
    | with_reducible apply quiet_ite
    | fail_if_no_progress beta_reduce
    | split

theorem execEmuEnable_quiet {a0 : Master} {a1 : Fin 4} {a2 : Bool} {s : State} {t : State} (h : execEmuEnable a0 a1 a2 s = .next t) : Quiet s t := by
  unfold execEmuEnable at h; refine quiet_next h ?_; have h0 := Quiet.refl s
  repeat' first
    | with_reducible assumption
    | with_reducible refine State.winWrite_quiet ?_ (fun x_ k => ?_)
    | with_reducible apply State.emuEnable_quiet
    | with_reducible apply State.emuDisable_quiet
    | with_reducible apply quiet_ite

theorem execSwsync_quiet {a0 : Master} {a1 : Fin 8} {s : State} {t : State} (h : execSwsync a0 a1 s = .next t) : Quiet s t := by
  unfold execSwsync at h; refine quiet_next h ?_; have h0 := Quiet.refl s
  repeat' first
    | with_reducible assumption
    | with_reducible refine State.winWrite_quiet ?_ (fun x_ k => ?_)
    | with_reducible apply State.syncEvent_quiet

theorem execIsoCalStart_quiet {a0 : Master} {a1 : Fin 8} {s : State} {t : State} (h : execIsoCalStart a0 a1 s = .next t) : Quiet s t := by
  unfold execIsoCalStart at h; refine quiet_next h ?_; have h0 := Quiet.refl s
  repeat' first
    | with_reducible assumption
    | with_reducible refine State.winWrite_quiet ?_ (fun x_ k => ?_)
    | with_reducible apply State.isoCalStart_quiet

theorem execFcDisable_quiet {a0 : Master} {a1 : Fin 8} {s : State} {t : State} (h : execFcDisable a0 a1 s = .next t) : Quiet s t := by
  unfold execFcDisable at h; refine quiet_next h ?_; have h0 := Quiet.refl s
  repeat' first
    | with_reducible assumption
    | with_reducible refine State.winWrite_quiet ?_ (fun x_ k => ?_)
    | with_reducible apply State.fcDisable_quiet

theorem execCanStop_quiet {a0 : Master} {a1 : Fin 6} {a2 : Bool} {s : State} {t : State} (h : execCanStop a0 a1 a2 s = .next t) : Quiet s t := by
  unfold execCanStop at h; refine quiet_next h ?_; have h0 := Quiet.refl s
  repeat' first
    | with_reducible assumption
    | with_reducible refine State.winWrite_quiet ?_ (fun x_ k => ?_)
    | with_reducible apply State.canStop_quiet

theorem execTbgStart_quiet {a0 : Master} {a1 : BitVec 8} {s : State} {t : State} (h : execTbgStart a0 a1 s = .next t) : Quiet s t := by
  unfold execTbgStart at h; refine quiet_next h ?_; have h0 := Quiet.refl s
  repeat' first
    | with_reducible assumption
    | with_reducible refine State.winWrite_quiet ?_ (fun x_ k => ?_)
    | with_reducible apply State.tbStart_quiet
    | with_reducible refine foldEach_quiet (fun a t k => ?_) _ ?_

theorem execBlkClr_quiet {a0 : Master} {a1 : Fin 8} {a2 : Fin 16} {s : State} {t : State} (h : execBlkClr a0 a1 a2 s = .next t) : Quiet s t := by
  unfold execBlkClr at h; refine quiet_next h ?_; have h0 := Quiet.refl s
  repeat' first
    | with_reducible assumption
    | with_reducible refine State.winWrite_quiet ?_ (fun x_ k => ?_)
    | with_reducible apply State.clrReq_quiet

theorem execAdtTrimWrite_quiet {a0 : Master} {a1 : Fin 24} {a2 : BitVec 16} {a3 : BitVec 16} {s : State} {t : State} (h : execAdtTrimWrite a0 a1 a2 a3 s = .next t) : Quiet s t := by
  unfold execAdtTrimWrite at h; refine quiet_next h ?_; have h0 := Quiet.refl s
  repeat' first
    | with_reducible assumption
    | with_reducible refine State.winWrite_quiet ?_ (fun x_ k => ?_)
    | with_reducible apply State.wr_quiet

theorem execPosCountWrite_quiet {a0 : Master} {a1 : Fin 4} {a2 : BitVec 24} {s : State} {t : State} (h : execPosCountWrite a0 a1 a2 s = .next t) : Quiet s t := by
  unfold execPosCountWrite at h; refine quiet_next h ?_; have h0 := Quiet.refl s
  repeat' first
    | with_reducible assumption
    | with_reducible refine State.winWrite_quiet ?_ (fun x_ k => ?_)
    | with_reducible apply State.posLoad_quiet

theorem execPairSwstart_quiet {a0 : Master} {a1 : Fin 16} {s : State} {t : State} (h : execPairSwstart a0 a1 s = .next t) : Quiet s t := by
  unfold execPairSwstart at h; refine quiet_next h ?_; have h0 := Quiet.refl s
  repeat' first
    | with_reducible assumption
    | with_reducible refine State.winWrite_quiet ?_ (fun x_ k => ?_)
    | with_reducible apply State.burstStart_quiet

theorem execLocalSel_quiet {a0 : Master} {a1 : Fin 4} {a2 : BitVec 16} {s : State} {t : State} (h : execLocalSel a0 a1 a2 s = .next t) : Quiet s t := by
  unfold execLocalSel at h; refine quiet_next h ?_; have h0 := Quiet.refl s
  repeat' first
    | with_reducible assumption
    | with_reducible refine State.winWrite_quiet ?_ (fun x_ k => ?_)
    | with_reducible apply State.clkLocalSel_quiet

theorem execSeqEnable_quiet {a0 : Master} {a1 : Fin 4} {s : State} {t : State} (h : execSeqEnable a0 a1 s = .next t) : Quiet s t := by
  unfold execSeqEnable at h; refine quiet_next h ?_; have h0 := Quiet.refl s
  repeat' first
    | with_reducible assumption
    | with_reducible refine State.winWrite_quiet ?_ (fun x_ k => ?_)
    | with_reducible apply State.seqEnable_quiet

theorem execSwapReq_quiet {a0 : Master} {a1 : Fin 8} {s : State} {t : State} (h : execSwapReq a0 a1 s = .next t) : Quiet s t := by
  unfold execSwapReq at h; refine quiet_next h ?_; have h0 := Quiet.refl s
  repeat' first
    | with_reducible assumption
    | with_reducible refine State.winWrite_quiet ?_ (fun x_ k => ?_)
    | with_reducible apply State.swapReq_quiet

theorem execLpPen_quiet {a0 : Master} {a1 : Fin 8} {a2 : Fin 4} {s : State} {t : State} (h : execLpPen a0 a1 a2 s = .next t) : Quiet s t := by
  unfold execLpPen at h; refine quiet_next h ?_; have h0 := Quiet.refl s
  repeat' first
    | with_reducible assumption
    | with_reducible refine State.winWrite_quiet ?_ (fun x_ k => ?_)
    | with_reducible apply State.lpEnable_quiet

theorem execLpDisable_quiet {a0 : Master} {a1 : Fin 8} {a2 : Fin 4} {s : State} {t : State} (h : execLpDisable a0 a1 a2 s = .next t) : Quiet s t := by
  unfold execLpDisable at h; refine quiet_next h ?_; have h0 := Quiet.refl s
  repeat' first
    | with_reducible assumption
    | with_reducible refine State.winWrite_quiet ?_ (fun x_ k => ?_)
    | with_reducible apply State.lpDisable_quiet

theorem execRecStart_quiet {a0 : Master} {a1 : Fin 6} {s : State} {t : State} (h : execRecStart a0 a1 s = .next t) : Quiet s t := by
  unfold execRecStart at h; refine quiet_next h ?_; have h0 := Quiet.refl s
  repeat' first
    | with_reducible assumption
    | with_reducible refine State.winWrite_quiet ?_ (fun x_ k => ?_)
    | with_reducible refine State.onlyIf_quiet ?_ (fun x_ k => ?_)
    | with_reducible apply State.wr_quiet
    | with_reducible apply State.setCanState_quiet

theorem execPosFaultClear_quiet {a0 : Master} {a1 : Fin 4} {s : State} {t : State} (h : execPosFaultClear a0 a1 s = .next t) : Quiet s t := by
  unfold execPosFaultClear at h; refine quiet_next h ?_; have h0 := Quiet.refl s
  repeat' first
    | with_reducible assumption
    | with_reducible refine State.winWrite_quiet ?_ (fun x_ k => ?_)
    | with_reducible apply State.posClear_quiet

theorem execIsoEnable_quiet {a0 : Master} {a1 : Fin 8} {a2 : Bool} {s : State} {t : State} (h : execIsoEnable a0 a1 a2 s = .next t) : Quiet s t := by
  unfold execIsoEnable at h; refine quiet_next h ?_; have h0 := Quiet.refl s
  repeat' first
    | with_reducible assumption
    | with_reducible refine State.winWrite_quiet ?_ (fun x_ k => ?_)
    | with_reducible apply State.isoSetEn_quiet

theorem execSwtrig_quiet {a0 : Master} {a1 : Fin 32} {a2 : Fin 2} {s : State} {t : State} (h : execSwtrig a0 a1 a2 s = .next t) : Quiet s t := by
  unfold execSwtrig at h; refine quiet_next h ?_; have h0 := Quiet.refl s
  repeat' first
    | with_reducible assumption
    | with_reducible refine State.winWrite_quiet ?_ (fun x_ k => ?_)
    | with_reducible apply State.injTrig_quiet

theorem execRxfullRelease_quiet {a0 : Master} {a1 : Fin 6} {a2 : Fin 2} {a3 : BitVec 32} {s : State} {t : State} (h : execRxfullRelease a0 a1 a2 a3 s = .next t) : Quiet s t := by
  unfold execRxfullRelease at h; refine quiet_next h ?_; have h0 := Quiet.refl s
  repeat' first
    | with_reducible assumption
    | with_reducible refine State.winWrite_quiet ?_ (fun x_ k => ?_)
    | with_reducible apply State.canRelease_quiet

theorem execRelock_quiet {a0 : Master} {a1 : Fin 3} {s : State} {t : State} (h : execRelock a0 a1 s = .next t) : Quiet s t := by
  unfold execRelock at h; refine quiet_next h ?_; have h0 := Quiet.refl s
  repeat' first
    | with_reducible assumption
    | with_reducible refine State.winWrite_quiet ?_ (fun x_ k => ?_)
    | with_reducible apply State.pllRelock_quiet

theorem execFcTblData_quiet {a0 : Master} {a1 : Bool} {a2 : BitVec 32} {s : State} {t : State} (h : execFcTblData a0 a1 a2 s = .next t) : Quiet s t := by
  unfold execFcTblData at h; refine quiet_next h ?_; have h0 := Quiet.refl s
  repeat' first
    | with_reducible assumption
    | with_reducible apply State.tblAccess_quiet
    | with_reducible apply State.commitEnd_quiet
    | with_reducible apply State.busErr_quiet
    | with_reducible apply quiet_ite

theorem execSeqDisable_quiet {a0 : Master} {a1 : Fin 4} {s : State} {t : State} (h : execSeqDisable a0 a1 s = .next t) : Quiet s t := by
  unfold execSeqDisable at h; refine quiet_next h ?_; have h0 := Quiet.refl s
  repeat' first
    | with_reducible assumption
    | with_reducible refine State.winWrite_quiet ?_ (fun x_ k => ?_)
    | with_reducible apply State.seqDisable_quiet

theorem execFcStop_quiet {a0 : Master} {a1 : Fin 8} {s : State} {t : State} (h : execFcStop a0 a1 s = .next t) : Quiet s t := by
  unfold execFcStop at h; refine quiet_next h ?_; have h0 := Quiet.refl s
  repeat' first
    | with_reducible assumption
    | with_reducible refine State.winWrite_quiet ?_ (fun x_ k => ?_)
    | with_reducible apply State.fcStop_quiet

theorem execPairCal_quiet {a0 : Master} {a1 : Fin 16} {s : State} {t : State} (h : execPairCal a0 a1 s = .next t) : Quiet s t := by
  unfold execPairCal at h; refine quiet_next h ?_; have h0 := Quiet.refl s
  repeat' first
    | with_reducible assumption
    | with_reducible refine State.winWrite_quiet ?_ (fun x_ k => ?_)
    | with_reducible apply State.pairCal_quiet

theorem execTbStop_quiet {a0 : Master} {a1 : Fin 8} {s : State} {t : State} (h : execTbStop a0 a1 s = .next t) : Quiet s t := by
  unfold execTbStop at h; refine quiet_next h ?_; have h0 := Quiet.refl s
  repeat' first
    | with_reducible assumption
    | with_reducible refine State.winWrite_quiet ?_ (fun x_ k => ?_)
    | with_reducible apply State.stopTb_quiet

theorem execPosEnable_quiet {a0 : Master} {a1 : Fin 4} {a2 : Bool} {s : State} {t : State} (h : execPosEnable a0 a1 a2 s = .next t) : Quiet s t := by
  unfold execPosEnable at h; refine quiet_next h ?_; have h0 := Quiet.refl s
  repeat' first
    | with_reducible assumption
    | with_reducible refine State.winWrite_quiet ?_ (fun x_ k => ?_)
    | with_reducible apply State.posEnable_quiet
    | with_reducible apply State.posDisable_quiet
    | with_reducible apply quiet_ite

theorem execRsEnable_quiet {a0 : Master} {a1 : Fin 2} {a2 : Bool} {s : State} {t : State} (h : execRsEnable a0 a1 a2 s = .next t) : Quiet s t := by
  unfold execRsEnable at h; refine quiet_next h ?_; have h0 := Quiet.refl s
  repeat' first
    | with_reducible assumption
    | with_reducible refine State.winWrite_quiet ?_ (fun x_ k => ?_)
    | with_reducible apply State.rsEnable_quiet
    | with_reducible apply State.rsDisable_quiet
    | with_reducible apply quiet_ite

theorem execCalStart_quiet {a0 : Master} {a1 : Fin 32} {s : State} {t : State} (h : execCalStart a0 a1 s = .next t) : Quiet s t := by
  unfold execCalStart at h; refine quiet_next h ?_; have h0 := Quiet.refl s
  repeat' first
    | with_reducible assumption
    | with_reducible refine State.winWrite_quiet ?_ (fun x_ k => ?_)
    | with_reducible apply State.calStart_quiet

theorem execInjEnable_quiet {a0 : Master} {a1 : Fin 32} {a2 : Fin 2} {s : State} {t : State} (h : execInjEnable a0 a1 a2 s = .next t) : Quiet s t := by
  unfold execInjEnable at h; refine quiet_next h ?_; have h0 := Quiet.refl s
  repeat' first
    | with_reducible assumption
    | with_reducible refine State.winWrite_quiet ?_ (fun x_ k => ?_)
    | with_reducible apply State.injEnable_quiet

theorem execTbRun_quiet {a0 : Master} {a1 : Fin 8} {s : State} {t : State} (h : execTbRun a0 a1 s = .next t) : Quiet s t := by
  unfold execTbRun at h; refine quiet_next h ?_; have h0 := Quiet.refl s
  repeat' first
    | with_reducible assumption
    | with_reducible refine State.winWrite_quiet ?_ (fun x_ k => ?_)
    | with_reducible apply State.tbStart_quiet

theorem execCanRun_quiet {a0 : Master} {a1 : Fin 6} {s : State} {t : State} (h : execCanRun a0 a1 s = .next t) : Quiet s t := by
  unfold execCanRun at h; refine quiet_next h ?_; have h0 := Quiet.refl s
  repeat' first
    | with_reducible assumption
    | with_reducible refine State.winWrite_quiet ?_ (fun x_ k => ?_)
    | with_reducible apply State.canRun_quiet

theorem execChopFaultClear_quiet {a0 : Master} {a1 : Fin 8} {s : State} {t : State} (h : execChopFaultClear a0 a1 s = .next t) : Quiet s t := by
  unfold execChopFaultClear at h; refine quiet_next h ?_; have h0 := Quiet.refl s
  repeat' first
    | with_reducible assumption
    | with_reducible refine State.winWrite_quiet ?_ (fun x_ k => ?_)
    | with_reducible apply State.clearChop_quiet

theorem execSeqSwstart_quiet {a0 : Master} {a1 : Fin 4} {s : State} {t : State} (h : execSeqSwstart a0 a1 s = .next t) : Quiet s t := by
  unfold execSeqSwstart at h; refine quiet_next h ?_; have h0 := Quiet.refl s
  repeat' first
    | with_reducible assumption
    | with_reducible refine State.winWrite_quiet ?_ (fun x_ k => ?_)
    | with_reducible apply State.seqStart_quiet

theorem execAdtFailClear_quiet {a0 : Master} {a1 : Fin 24} {s : State} {t : State} (h : execAdtFailClear a0 a1 s = .next t) : Quiet s t := by
  unfold execAdtFailClear at h; refine quiet_next h ?_; have h0 := Quiet.refl s
  repeat' first
    | with_reducible assumption
    | with_reducible refine State.winWrite_quiet ?_ (fun x_ k => ?_)
    | with_reducible apply State.adtClear_quiet

theorem execPllEnable_quiet {a0 : Master} {a1 : Fin 3} {a2 : Bool} {s : State} {t : State} (h : execPllEnable a0 a1 a2 s = .next t) : Quiet s t := by
  unfold execPllEnable at h; refine quiet_next h ?_; have h0 := Quiet.refl s
  repeat' first
    | with_reducible assumption
    | with_reducible refine State.winWrite_quiet ?_ (fun x_ k => ?_)
    | with_reducible apply State.pllEn_quiet

theorem execAdtEnable_quiet {a0 : Master} {a1 : Fin 24} {s : State} {t : State} (h : execAdtEnable a0 a1 s = .next t) : Quiet s t := by
  unfold execAdtEnable at h; refine quiet_next h ?_; have h0 := Quiet.refl s
  repeat' first
    | with_reducible assumption
    | with_reducible refine State.winWrite_quiet ?_ (fun x_ k => ?_)
    | with_reducible apply State.adtEnable_quiet

theorem execIlArm_quiet {a0 : Master} {a1 : Fin 16} {s : State} {t : State} (h : execIlArm a0 a1 s = .next t) : Quiet s t := by
  unfold execIlArm at h; refine quiet_next h ?_; have h0 := Quiet.refl s
  repeat' first
    | with_reducible assumption
    | with_reducible refine State.winWrite_quiet ?_ (fun x_ k => ?_)
    | with_reducible apply State.pairArm_quiet

theorem execRsFaultClear_quiet {a0 : Master} {a1 : Fin 2} {s : State} {t : State} (h : execRsFaultClear a0 a1 s = .next t) : Quiet s t := by
  unfold execRsFaultClear at h; refine quiet_next h ?_; have h0 := Quiet.refl s
  repeat' first
    | with_reducible assumption
    | with_reducible refine State.winWrite_quiet ?_ (fun x_ k => ?_)
    | with_reducible apply State.rsClear_quiet

theorem execTxreq_quiet {a0 : Master} {a1 : Fin 6} {a2 : Fin 2} {a3 : BitVec 32} {a4 : BitVec 32} {s : State} {t : State} (h : execTxreq a0 a1 a2 a3 a4 s = .next t) : Quiet s t := by
  unfold execTxreq at h; refine quiet_next h ?_; have h0 := Quiet.refl s
  repeat' first
    | with_reducible assumption
    | with_reducible refine State.winWrite_quiet ?_ (fun x_ k => ?_)
    | with_reducible apply State.canRequest_quiet
    | with_reducible apply State.canCancel_quiet
    | with_reducible refine foldEach_quiet (fun a t k => ?_) _ ?_

theorem execTxcan_quiet {a0 : Master} {a1 : Fin 6} {a2 : Fin 2} {a3 : BitVec 32} {s : State} {t : State} (h : execTxcan a0 a1 a2 a3 s = .next t) : Quiet s t := by
  unfold execTxcan at h; refine quiet_next h ?_; have h0 := Quiet.refl s
  repeat' first
    | with_reducible assumption
    | with_reducible refine State.winWrite_quiet ?_ (fun x_ k => ?_)
    | with_reducible apply State.canCancel_quiet
    | with_reducible refine foldEach_quiet (fun a t k => ?_) _ ?_

theorem execMbGo_quiet {a0 : Master} {a1 : Fin 64} {s : State} {t : State} (h : execMbGo a0 a1 s = .next t) : Quiet s t := by
  unfold execMbGo at h; refine quiet_next h ?_; have h0 := Quiet.refl s
  repeat' first
    | with_reducible assumption
    | with_reducible apply State.mbCtrl_quiet

theorem execSemRelease_quiet {a0 : Fin 64} {a1 : Master} {s : State} {t : State} (h : execSemRelease a0 a1 s = .next t) : Quiet s t := by
  unfold execSemRelease at h; refine quiet_next h ?_; have h0 := Quiet.refl s
  repeat' first
    | with_reducible assumption
    | with_reducible refine State.winWrite_quiet ?_ (fun x_ k => ?_)
    | with_reducible apply State.semRelease_quiet

theorem execAbortFill_quiet {a0 : Master} {a1 : Fin 64} {s : State} {t : State} (h : execAbortFill a0 a1 s = .next t) : Quiet s t := by
  unfold execAbortFill at h; refine quiet_next h ?_; have h0 := Quiet.refl s
  repeat' first
    | with_reducible assumption
    | with_reducible apply State.mbCtrl_quiet

theorem execMbWrite_quiet {a0 : Master} {a1 : Fin 64} {a2 : Fin 17} {a3 : BitVec 32} {a4 : Option (Master × Fin 17 × BitVec 32)} {s : State} {t : State} (h : execMbWrite a0 a1 a2 a3 a4 s = .next t) : Quiet s t := by
  unfold execMbWrite at h; refine quiet_next h ?_; have h0 := Quiet.refl s
  repeat' first
    | with_reducible assumption
    | with_reducible apply State.mbWrite_quiet
    | with_reducible apply State.flipPrec_quiet
    | with_reducible apply quiet_ite
    | fail_if_no_progress beta_reduce
    | split

theorem execDbRing_quiet {a0 : Master} {a1 : Fin 6} {a2 : BitVec 32} {s : State} {t : State} (h : execDbRing a0 a1 a2 s = .next t) : Quiet s t := by
  unfold execDbRing at h; refine quiet_next h ?_; have h0 := Quiet.refl s
  repeat' first
    | with_reducible assumption
    | with_reducible refine State.winWrite_quiet ?_ (fun x_ k => ?_)
    | with_reducible apply State.wr_quiet

theorem execMbCfgWrite_quiet {a0 : Master} {a1 : Fin 64} {a2 : Fin 8} {a3 : Bool} {a4 : Fin 32} {s : State} {t : State} (h : execMbCfgWrite a0 a1 a2 a3 a4 s = .next t) : Quiet s t := by
  unfold execMbCfgWrite at h; refine quiet_next h ?_; have h0 := Quiet.refl s
  repeat' first
    | with_reducible assumption
    | with_reducible refine State.winWrite_quiet ?_ (fun x_ k => ?_)
    | with_reducible apply State.mbCfg_quiet

theorem execSemAcq_quiet {a0 : Fin 64} {a1 : List Master} {s : State} {t : State} (h : execSemAcq a0 a1 s = .next t) : Quiet s t := by
  unfold execSemAcq at h; refine quiet_next h ?_; have h0 := Quiet.refl s
  repeat' first
    | with_reducible assumption
    | with_reducible refine State.onlyIf_quiet ?_ (fun x_ k => ?_)
    | with_reducible apply State.semRead_quiet
    | with_reducible apply State.flipPrec_quiet
    | with_reducible refine foldEach_quiet (fun a t k => ?_) _ ?_

theorem execMbRel_quiet {a0 : Master} {a1 : Fin 64} {s : State} {t : State} (h : execMbRel a0 a1 s = .next t) : Quiet s t := by
  unfold execMbRel at h; refine quiet_next h ?_; have h0 := Quiet.refl s
  repeat' first
    | with_reducible assumption
    | with_reducible apply State.mbCtrl_quiet

theorem execDbPendClear_quiet {a0 : Master} {a1 : Fin 6} {a2 : BitVec 32} {a3 : BitVec 32} {s : State} {t : State} (h : execDbPendClear a0 a1 a2 a3 s = .next t) : Quiet s t := by
  unfold execDbPendClear at h; refine quiet_next h ?_; have h0 := Quiet.refl s
  repeat' first
    | with_reducible assumption
    | with_reducible refine State.winWrite_quiet ?_ (fun x_ k => ?_)
    | with_reducible apply State.wr_quiet

theorem execRstReq_quiet {a0 : Master} {a1 : Fin 39} {s : State} {t : State} (h : execRstReq a0 a1 s = .next t) : Quiet s t := by
  unfold execRstReq at h; refine quiet_next h ?_; have h0 := Quiet.refl s
  repeat' first
    | with_reducible assumption
    | with_reducible refine State.winWrite_quiet ?_ (fun x_ k => ?_)
    | with_reducible apply State.rstReq_quiet

theorem execIslandResetRelease_quiet {a0 : Fin 39} {s : State} {t : State} (h : execIslandResetRelease a0 s = .next t) : Quiet s t := by
  unfold execIslandResetRelease at h; refine quiet_next h ?_; have h0 := Quiet.refl s
  repeat' first
    | with_reducible assumption
    | with_reducible apply State.leaveReset_quiet
    | with_reducible apply State.wr_quiet
    | with_reducible apply quiet_ite
    | fail_if_no_progress with_reducible apply quiet_mk (s := _)
    | fail_if_no_progress beta_reduce
    | split

theorem execClaySupplyLoss_quiet {s : State} {t : State} (h : execClaySupplyLoss s = .next t) : Quiet s t := by
  unfold execClaySupplyLoss at h; refine quiet_next h ?_; have h0 := Quiet.refl s
  repeat' first
    | with_reducible assumption
    | with_reducible refine State.onlyIf_quiet ?_ (fun x_ k => ?_)
    | with_reducible apply State.setMode_quiet
    | fail_if_no_progress with_reducible apply quiet_mk (s := _)

theorem execScrubPass_quiet {a0 : Fin 4097} {a1 : List (Fin 4096)} {s : State} {t : State} (h : execScrubPass a0 a1 s = .next t) : Quiet s t := by
  unfold execScrubPass at h; refine quiet_next h ?_; have h0 := Quiet.refl s
  repeat' first
    | with_reducible assumption
    | with_reducible refine State.onlyIf_quiet ?_ (fun x_ k => ?_)
    | with_reducible apply State.scrub_quiet
    | fail_if_no_progress with_reducible apply quiet_mk (s := _)

theorem execIslRel_quiet {a0 : Master} {a1 : Fin 39} {a2 : Bool} {s : State} {t : State} (h : execIslRel a0 a1 a2 s = .next t) : Quiet s t := by
  unfold execIslRel at h; refine quiet_next h ?_; have h0 := Quiet.refl s
  repeat' first
    | with_reducible assumption
    | with_reducible refine State.winWrite_quiet ?_ (fun x_ k => ?_)
    | with_reducible apply State.relIsland_quiet

theorem execScrubPassEnd_quiet {s : State} {t : State} (h : execScrubPassEnd s = .next t) : Quiet s t := by
  unfold execScrubPassEnd at h; refine quiet_next h ?_; have h0 := Quiet.refl s
  repeat' first
    | with_reducible assumption
    | with_reducible refine State.onlyIf_quiet ?_ (fun x_ k => ?_)
    | with_reducible apply State.wr_quiet

theorem execIslandPowerUp_quiet {a0 : Master} {a1 : Fin 39} {s : State} {t : State} (h : execIslandPowerUp a0 a1 s = .next t) : Quiet s t := by
  unfold execIslandPowerUp at h; refine quiet_next h ?_; have h0 := Quiet.refl s
  repeat' first
    | with_reducible assumption
    | with_reducible refine State.winWrite_quiet ?_ (fun x_ k => ?_)
    | with_reducible apply State.closeSwitch_quiet

theorem execIslandPowered_quiet {a0 : Fin 39} {s : State} {t : State} (h : execIslandPowered a0 s = .next t) : Quiet s t := by
  unfold execIslandPowered at h; refine quiet_next h ?_; have h0 := Quiet.refl s
  repeat' first
    | with_reducible assumption
    | with_reducible apply State.leaveReset_quiet
    | with_reducible apply State.wr_quiet
    | fail_if_no_progress with_reducible apply quiet_mk (s := _)
    | fail_if_no_progress beta_reduce
    | split

theorem execInputMeasurement_quiet {a0 : BitVec 16} {a1 : BitVec 16} {a2 : ℕ} {s : State} {t : State} (h : execInputMeasurement a0 a1 a2 s = .next t) : Quiet s t := by
  unfold execInputMeasurement at h; refine quiet_next h ?_; have h0 := Quiet.refl s
  repeat' first
    | with_reducible assumption
    | with_reducible refine State.onlyIf_quiet ?_ (fun x_ k => ?_)
    | with_reducible apply State.wr_quiet

theorem execPrefWrite_quiet {a0 : Master} {a1 : Bool} {s : State} {t : State} (h : execPrefWrite a0 a1 s = .next t) : Quiet s t := by
  unfold execPrefWrite at h; refine quiet_next h ?_; have h0 := Quiet.refl s
  repeat' first
    | with_reducible assumption
    | with_reducible refine State.winWrite_quiet ?_ (fun x_ k => ?_)
    | with_reducible apply State.prefWrite_quiet

theorem execIslandPowerDown_quiet {a0 : Master} {a1 : Fin 39} {a2 : Bool} {s : State} {t : State} (h : execIslandPowerDown a0 a1 a2 s = .next t) : Quiet s t := by
  unfold execIslandPowerDown at h; refine quiet_next h ?_; have h0 := Quiet.refl s
  repeat' first
    | with_reducible assumption
    | with_reducible refine State.winWrite_quiet ?_ (fun x_ k => ?_)
    | with_reducible apply State.powerDown_quiet

theorem execMonSample_quiet {a0 : Fin 16} {a1 : ℤ} {s : State} {t : State} (h : execMonSample a0 a1 s = .next t) : Quiet s t := by
  unfold execMonSample at h; refine quiet_next h ?_; have h0 := Quiet.refl s
  repeat' first
    | with_reducible assumption
    | with_reducible refine State.onlyIf_quiet ?_ (fun x_ k => ?_)
    | with_reducible apply State.monValue_quiet

theorem execMonEvent_quiet {a0 : List (Fin 256)} {a1 : ℕ} {s : State} {t : State} (h : execMonEvent a0 a1 s = .next t) : Quiet s t := by
  unfold execMonEvent at h; refine quiet_next h ?_; have h0 := Quiet.refl s
  repeat' first
    | with_reducible assumption
    | with_reducible refine State.onlyIf_quiet ?_ (fun x_ k => ?_)
    | with_reducible apply State.monEvents_quiet

theorem execMonEnable_quiet {a0 : Master} {a1 : Fin 16} {s : State} {t : State} (h : execMonEnable a0 a1 s = .next t) : Quiet s t := by
  unfold execMonEnable at h; refine quiet_next h ?_; have h0 := Quiet.refl s
  repeat' first
    | with_reducible assumption
    | with_reducible refine State.winWrite_quiet ?_ (fun x_ k => ?_)
    | with_reducible apply State.monEn_quiet

theorem execMonSwev_quiet {a0 : Master} {a1 : BitVec 8} {a2 : ℕ} {s : State} {t : State} (h : execMonSwev a0 a1 a2 s = .next t) : Quiet s t := by
  unfold execMonSwev at h; refine quiet_next h ?_; have h0 := Quiet.refl s
  repeat' first
    | with_reducible assumption
    | with_reducible refine State.winWrite_quiet ?_ (fun x_ k => ?_)
    | with_reducible apply State.monEvents_quiet

theorem execMonClr_quiet {a0 : Master} {a1 : Fin 16} {s : State} {t : State} (h : execMonClr a0 a1 s = .next t) : Quiet s t := by
  unfold execMonClr at h; refine quiet_next h ?_; have h0 := Quiet.refl s
  repeat' first
    | with_reducible assumption
    | with_reducible refine State.winWrite_quiet ?_ (fun x_ k => ?_)
    | with_reducible apply State.monClear_quiet

theorem execMarkMissing_quiet {s : State} {t : State} (h : execMarkMissing s = .next t) : Quiet s t := by
  unfold execMarkMissing at h; refine quiet_next h ?_; have h0 := Quiet.refl s
  repeat' first
    | with_reducible assumption
    | with_reducible apply State.chMarkBad_quiet
    | with_reducible refine State.onlyIf_quiet ?_ (fun x_ k => ?_)
    | with_reducible apply State.wr_quiet
    | with_reducible apply quiet_ite
    | fail_if_no_progress with_reducible apply quiet_mk (s := _)

theorem execChainResetApply_quiet {s : State} {t : State} (h : execChainResetApply s = .next t) : Quiet s t := by
  unfold execChainResetApply at h; refine quiet_next h ?_; have h0 := Quiet.refl s
  repeat' first
    | with_reducible assumption
    | with_reducible apply State.mReset_quiet
    | with_reducible apply quiet_ite
    | fail_if_no_progress beta_reduce
    | split

theorem execMarkEmit_quiet {s : State} {t : State} (h : execMarkEmit s = .next t) : Quiet s t := by
  unfold execMarkEmit at h; refine quiet_next h ?_; have h0 := Quiet.refl s
  repeat' first
    | with_reducible assumption
    | with_reducible apply State.chEmit_quiet
    | with_reducible apply quiet_ite
    | fail_if_no_progress with_reducible apply quiet_mk (s := _)

theorem execHpUnknownCommand_quiet {a0 : Fin 2} {s : State} {t : State} (h : execHpUnknownCommand a0 s = .next t) : Quiet s t := by
  unfold execHpUnknownCommand at h; refine quiet_next h ?_; have h0 := Quiet.refl s
  repeat' first
    | with_reducible assumption
    | with_reducible apply State.flag_quiet
    | with_reducible apply State.hpBegin_quiet
    | with_reducible apply quiet_ite

theorem execHpRst_quiet {a0 : Fin 2} {s : State} {t : State} (h : execHpRst a0 s = .next t) : Quiet s t := by
  unfold execHpRst at h; refine quiet_next h ?_; have h0 := Quiet.refl s
  repeat' first
    | with_reducible assumption
    | with_reducible apply State.advanceEpoch_quiet
    | with_reducible apply State.hpClear_quiet
    | with_reducible apply State.flag_quiet
    | with_reducible apply State.hpBegin_quiet
    | with_reducible apply quiet_ite

theorem execHpRsten_quiet {a0 : Fin 2} {s : State} {t : State} (h : execHpRsten a0 s = .next t) : Quiet s t := by
  unfold execHpRsten at h; refine quiet_next h ?_; have h0 := Quiet.refl s
  repeat' first
    | with_reducible assumption
    | with_reducible apply State.setHp_quiet
    | with_reducible apply State.hpBegin_quiet
    | with_reducible apply quiet_ite

theorem execHpWr_quiet {a0 : Fin 2} {a1 : BitVec 32} {a2 : List (BitVec 32)} {s : State} {t : State} (h : execHpWr a0 a1 a2 s = .next t) : Quiet s t := by
  unfold execHpWr at h; refine quiet_next h ?_; have h0 := Quiet.refl s
  repeat' first
    | with_reducible assumption
    | with_reducible apply State.hpTake_quiet
    | with_reducible apply State.hpBegin_quiet
    | with_reducible apply quiet_ite

theorem execHpRdsr_quiet {a0 : Fin 2} {s : State} {t : State} (h : execHpRdsr a0 s = .next t) : Quiet s t := by
  unfold execHpRdsr at h; refine quiet_next h ?_; have h0 := Quiet.refl s
  repeat' first
    | with_reducible assumption
    | with_reducible apply State.hpOut_quiet
    | with_reducible apply State.hpBegin_quiet
    | with_reducible apply quiet_ite

end Sys2Proof.Machine
end

