-- ==== Sys2Proof/Laws/Step.lean ====
section
/-! SUPPORT. What a tick keeps. -/

namespace Sys2Proof.Machine

/-- Time moves on from a state that keeps what `Keeps` names. -/
theorem Keeps.later {s u : State} (h : Keeps s u) : Keeps { s with now := s.now + 1 } { u with now := u.now + 1, caps := [], chOut := [] } :=
  ⟨fun c => have d := h.canon ⟨c.regs, c.mem, c.tcm, c.dcache⟩; ⟨d.regs, d.mem, d.tcm, d.dcache⟩, h.pending, congrArg (· + 1) h.now⟩

/-- A tick keeps what `Keeps` names, from the state in which time has moved on. -/
theorem State.tick_keeps (s : State) : Keeps { s with now := s.now + 1 } s.tick := by
  have h := Keeps.later (foldEach_keeps (fun a t k => State.padEdge_keeps (a1 := a) k) (List.range 24) (Keeps.refl s))
  unfold State.tick State.clayTick
  dsimp only
  generalize foldEach (fun l t => t.padEdge l) (List.range 24) s = u at h ⊢
  repeat' first
    | with_reducible assumption
    | with_reducible apply State.wr_keeps
    | with_reducible apply State.cedDrain_keeps
    | with_reducible apply State.clkTick_keeps
    | with_reducible apply State.fpcCycle_keeps
    | with_reducible apply State.fcLand_keeps
    | with_reducible apply State.mcRepeat_keeps
    | with_reducible apply State.excTick_keeps
    | with_reducible apply State.adcEdge_keeps
    | with_reducible apply State.filterEdge_keeps
    | with_reducible apply State.carrierEdge_keeps
    | with_reducible refine State.onlyIf_keeps ?_ (fun x_ k => ?_)
    | with_reducible refine foldEach_keeps (fun a t k => ?_) _ ?_
    | with_reducible apply keeps_ite
    | with_reducible apply keeps_mk (s := State.cedDrain _)
    | intro x; refine keeps_cut (s0 := { s with now := s.now + 1 }) x ?_ ?_; (on_goal 2 => clear_value x); (on_goal 1 => subst x)
    | intro x; try clear_value x

end Sys2Proof.Machine
end

