-- ==== Sys2Proof/Tests/Slice0.lean ====
section
/-! SUPPORT. Small tests of the model: a smoke test of well-formedness, worked examples of the spec, and for each statement with
hypotheses a state and operands that meet them. -/

namespace Sys2Proof.Tests

open Sys2Proof Sys2Proof.Machine

set_option Elab.async false
set_option linter.unusedVariables false

/-- The reset state with the listed islands powered, clocked and out of reset. -/
def lit (l : List Nat) : State :=
  foldEach (fun i t => (((t.wr Reg.ISL_STAT.POWERED i 1).wr Reg.ISL_STAT.IN_RESET i 0).wr Reg.ISL_STAT.CLK_OK i 1).wr
    Reg.ISL_STAT.RAIL_OK i 1) l State.reset
/-- The registers of every island up: POWERED, IN_RESET, RAIL_OK and CLK_OK of ISL_STAT by their keys. -/
def litRegs : SMap Nat :=
  [(34382823424, 1), (34382823425, 0), (34382823426, 1), (34382823427, 1),
   (34382823552, 1), (34382823553, 0), (34382823554, 1), (34382823555, 1),
   (34382823680, 1), (34382823681, 0), (34382823682, 1), (34382823683, 1),
   (34382823808, 1), (34382823809, 0), (34382823810, 1), (34382823811, 1),
   (34382823936, 1), (34382823937, 0), (34382823938, 1), (34382823939, 1),
   (34382824064, 1), (34382824065, 0), (34382824066, 1), (34382824067, 1),
   (34382824192, 1), (34382824193, 0), (34382824194, 1), (34382824195, 1),
   (34382824320, 1), (34382824321, 0), (34382824322, 1), (34382824323, 1),
   (34382824448, 1), (34382824449, 0), (34382824450, 1), (34382824451, 1),
   (34382824576, 1), (34382824577, 0), (34382824578, 1), (34382824579, 1)] ++
  [(34382824704, 1), (34382824705, 0), (34382824706, 1), (34382824707, 1),
   (34382824832, 1), (34382824833, 0), (34382824834, 1), (34382824835, 1),
   (34382824960, 1), (34382824961, 0), (34382824962, 1), (34382824963, 1),
   (34382825088, 1), (34382825089, 0), (34382825090, 1), (34382825091, 1),
   (34382825216, 1), (34382825217, 0), (34382825218, 1), (34382825219, 1),
   (34382825344, 1), (34382825345, 0), (34382825346, 1), (34382825347, 1),
   (34382825472, 1), (34382825473, 0), (34382825474, 1), (34382825475, 1),
   (34382825600, 1), (34382825601, 0), (34382825602, 1), (34382825603, 1),
   (34382825728, 1), (34382825729, 0), (34382825730, 1), (34382825731, 1),
   (34382825856, 1), (34382825857, 0), (34382825858, 1), (34382825859, 1)] ++
  [(34382825984, 1), (34382825985, 0), (34382825986, 1), (34382825987, 1),
   (34382826112, 1), (34382826113, 0), (34382826114, 1), (34382826115, 1),
   (34382826240, 1), (34382826241, 0), (34382826242, 1), (34382826243, 1),
   (34382826368, 1), (34382826369, 0), (34382826370, 1), (34382826371, 1),
   (34382826496, 1), (34382826497, 0), (34382826498, 1), (34382826499, 1),
   (34382826624, 1), (34382826625, 0), (34382826626, 1), (34382826627, 1),
   (34382826752, 1), (34382826753, 0), (34382826754, 1), (34382826755, 1),
   (34382826880, 1), (34382826881, 0), (34382826882, 1), (34382826883, 1),
   (34382827008, 1), (34382827009, 0), (34382827010, 1), (34382827011, 1),
   (34382827136, 1), (34382827137, 0), (34382827138, 1), (34382827139, 1)] ++
  [(34382827264, 1), (34382827265, 0), (34382827266, 1), (34382827267, 1),
   (34382827392, 1), (34382827393, 0), (34382827394, 1), (34382827395, 1),
   (34382827520, 1), (34382827521, 0), (34382827522, 1), (34382827523, 1),
   (34382827648, 1), (34382827649, 0), (34382827650, 1), (34382827651, 1),
   (34382827776, 1), (34382827777, 0), (34382827778, 1), (34382827779, 1),
   (34382827904, 1), (34382827905, 0), (34382827906, 1), (34382827907, 1),
   (34382828032, 1), (34382828033, 0), (34382828034, 1), (34382828035, 1),
   (34382828160, 1), (34382828161, 0), (34382828162, 1), (34382828163, 1),
   (34382828288, 1), (34382828289, 0), (34382828290, 1), (34382828291, 1)]
/-- Every island up. -/
def litA : State := { State.reset with regs := litRegs, rails := [(7, true)] }
/-- Unit 0 runs its program 0, whose first word is w. -/
def wcode (w : Nat) : State := (litA.setLu 0 { LuS.init with run := some 0 }).setNum (luBank 0) 8 w
/-- Unit 0 of stage 0 validates its program 0 of one word, END. -/
def progOk : State := (((((((litA.setLu 0 { LuS.init with vq := [0] }).wr Reg.STG_DESC.KIND 0 1).wr Reg.IMG_STATUS.STATE 0 2).wr2 Reg.LP_CFG.LEN 0 0 1).wr
  Reg.CLAIM.STATE 0x900 1).wr Reg.CLAIM.OWNER 0x900 1).setNum (luBank 0) 8 0x0100000000000000)
/-- MB60 holds a request of code c for stage 0, a motor stage. -/
def reqMb (c : Nat) : State :=
  let s := ((litA.wr Reg.MB_STAT.STATE 60 2).wr Reg.MB_HDR.LEN 60 8).wr Reg.STG_DESC.KIND 0 1
  (s.wr2 Reg.MB_DATA.DATA 60 0 c).wr2 Reg.MB_DATA.DATA 60 7 (crcWords [c, 0, 0, 0, 0, 0, 0])
/-- Mailbox 0, which belongs to Alder, holds a message of H0. -/
def mgReq (ws : List Nat) : State :=
  let s := foldEach (fun (e : Nat × Nat) (t : State) => t.wr2 Reg.MB_DATA.DATA 0 e.2 e.1) ws.zipIdx litA
  ((((s.wr Reg.MB_STAT.STATE 0 2).wr Reg.MB_HDR.LEN 0 ws.length).wr Reg.MB_CFG.RX 0 3).wr Reg.MB_HDR.SENDER 0 4).wr Reg.PWR_STATUS.PWR_STATE 0 2
/-- A request with its CRC. -/
def mgMsg (ws : List Nat) : State := mgReq (ws ++ [crcWords ws])
/-- A bus environment. -/
def env0 : BusEnv := ⟨0, true, true, false, 0⟩

/-! ## Well-formedness: an ill-formed command for each check -/

theorem test_wellFormed_register_address : (Instr.registerWrite .ash .b32 0x40000002 0 env0).wellFormed = false := by decide
theorem test_wellFormed_memory_address : (Instr.memorySlotWrite .h0 .b16 0x00E00001 0 env0).wellFormed = false := by decide
theorem test_wellFormed_byte_address : (Instr.memorySlotWrite .h0 .b8 0x00E00001 0 env0).wellFormed = true := by decide
theorem test_wellFormed_low_read : (Instr.wideLowRead .ash 0x400B1001).wellFormed = false := by decide
theorem test_wellFormed_upper_write : (Instr.wideUpperWrite .ash 0x400B1006 0 env0).wellFormed = false := by decide
theorem test_wellFormed_low_write : (Instr.wideLowWrite .ash 0x400B1002 0 env0).wellFormed = false := by decide
theorem test_wellFormed_rwi_write : (Instr.rwiWrite .ash 0x40100103 0 env0).wellFormed = false := by decide
theorem test_wellFormed_no_master : (Instr.semAcq 0 []).wellFormed = false := by decide
theorem test_wellFormed_master_twice : (Instr.semAcq 0 [.h0, .h0]).wellFormed = false := by decide
theorem test_wellFormed_empty_host_write : (Instr.hpWr 0 0x20000000 []).wellFormed = false := by decide
theorem test_wellFormed_short_frame : (Instr.canFrameRx 0 5 9 true true false [1, 2] 0 0).wellFormed = false := by decide
theorem test_wellFormed_frame : (Instr.canFrameRx 0 5 2 true true false [1, 2] 0 0).wellFormed = true := by decide
theorem test_wellFormed_scrub_twice : (Instr.scrubPass 0 [7, 7]).wellFormed = false := by decide
theorem test_wellFormed_age_twice : (Instr.agingRead [(3, 1), (3, 2)]).wellFormed = false := by decide
theorem test_wellFormed_house_twice : (Instr.runHouse [(3, 1), (3, 2)]).wellFormed = false := by decide
theorem test_wellFormed_event_twice : (Instr.monEvent [8, 8] 0).wellFormed = false := by decide

/-! ## Worked examples of the spec -/

/-- The check value of CRC-32 as R270 has it, over the bytes of "123456789". -/
theorem test_crc32 : crc32 [0x31, 0x32, 0x33, 0x34, 0x35, 0x36, 0x37, 0x38, 0x39] = 0xCBF43926 := by decide +kernel

/-- Monitor 3 measures from event 0x88 to event 0xC0 in bins of 4 ns, as in the example of spec/19_alder_and_monitors.md. -/
def mon3 : State :=
  { (((litA.wr Reg.MON_CFG.EN 3 1).wr Reg.MON_CFG.MODE 3 1).wr Reg.MON_CFG.SRC 3 0x88).wr Reg.MON_CFG.STOP_EV 3 0xC0 with clk := { litA.clk with sOn := true } }.wr
    Reg.MON_WID.WID 3 4

/-- A latency of 92 ns lies in bin 23 (spec/19_alder_and_monitors.md, worked example). -/
theorem test_monitor_bin : (mon3.monValue 3 92).rd Reg.MON_BIN.N 3 23 = 1 := by decide +kernel
/-- A latency of 412 ns advances bin 63 and sets OVER (the same example). -/
theorem test_monitor_over : ((mon3.monValue 3 412).rd Reg.MON_BIN.N 3 63, (mon3.monValue 3 412).rd Reg.MON_STAT.OVER 3) = (1, 1) := by decide +kernel
/-- MON_CFG of monitor 3 lies at 0x400D_0600, and bin 23 at 0x400D_075C (the same example). -/
theorem test_monitor_addresses : (Reg.MON_CFG.EN.addr 3 0, Reg.MON_BIN.N.addr 3 23) = (0x400D0600, 0x400D075C) := by decide

/-- The fields of CLARKE D0 ← IN0, IN1, whose word is 0x1300_0040_4100_0000 (spec/08_cedar.md, worked example). -/
theorem test_cedar_clarke : (wOp 0x1300004041000000, wDst 0x1300004041000000, wSa 0x1300004041000000, wSb 0x1300004041000000) = (0x13, 0x00, 0x40, 0x41) := by decide
/-- The fields of SUB D4 ← SP0 − D2 (the same example). -/
theorem test_cedar_sub : (wOp 0x0500045002000000, wDst 0x0500045002000000, wSa 0x0500045002000000, wSb 0x0500045002000000) = (0x05, 0x04, 0x50, 0x02) := by decide
/-- The address of the result register of ADC19, 0x4002_2600 with its Basic plane (spec/01_architecture.md). -/
theorem test_adc_window : islandAt 0x40022600 = islandAt 0x40022604 := by decide +kernel
/-- No bits are given for a row, so no word decodes. -/
theorem test_decode_none : decodeTableWord 8 0x12 = none := by decide
/-- Every commandless step from reset idles: time moves on by one tick. -/
theorem test_step_idle : (match step State.reset with | .next t => t.now | _ => 0) = 1 := by decide +kernel

theorem witness_TimebaseStarts_0 :
    ∃ (m : Master) (n : Fin 8) (s : State), (s.ready (Reg.TB_CTRL.RUN.addr n.val 0) = true) :=
  ⟨.ash, 0, lit [islTBC], by decide +kernel⟩

theorem witness_TimebaseStarts_1 :
    ∃ (n : Fin 8) (s : State), (s.tbRunning n.val = false) ∧ (s.on Reg.TB_CTRL.RUN n.val = true) ∧ (perOk (s.rd Reg.TB_CTRL.MODE n.val) (s.rd Reg.TB_PER.PER n.val) = false) :=
  ⟨0, (lit [islTBC]).wr Reg.TB_CTRL.RUN 0 1, by decide +kernel⟩

theorem witness_TimebaseStarts_2 :
    ∃ (n : Fin 8) (s : State), (s.tbRunning n.val = false) ∧ (s.on Reg.TB_CTRL.RUN n.val = true) ∧ (perOk (s.rd Reg.TB_CTRL.MODE n.val) (s.rd Reg.TB_PER.PER n.val) = true) ∧ (s.rd Reg.TB_CTRL.UPD_EVERY n.val = 0 ∨ 16 < s.rd Reg.TB_CTRL.UPD_EVERY n.val) :=
  ⟨0, ((((lit [islTBC]).wr Reg.TB_PER.PER 0 100).wr Reg.TB_CTRL.UPD_EVERY 0 17).wr Reg.TB_CTRL.RUN 0 1), by decide +kernel⟩

theorem witness_TimebaseStarts_3 :
    ∃ (n : Fin 8) (s : State), (s.tbRunning n.val = false) ∧ (s.on Reg.TB_CTRL.RUN n.val = true) ∧ (perOk (s.rd Reg.TB_CTRL.MODE n.val) (s.rd Reg.TB_PER.PER n.val) = true) ∧ (1 ≤ s.rd Reg.TB_CTRL.UPD_EVERY n.val) ∧ (s.rd Reg.TB_CTRL.UPD_EVERY n.val ≤ 16) ∧ (s.legsOfTb n.val = []) ∧ (∀ c : Fin 8, s.rd Reg.ISO_CTRL.EN c.val = 0) :=
  ⟨0, ((((lit [islTBC]).wr Reg.TB_PER.PER 0 100).wr Reg.TB_CTRL.UPD_EVERY 0 2).wr Reg.TB_CTRL.RUN 0 1), by decide +kernel⟩

theorem witness_TimebaseStarts_4 :
    ∃ (m : Master) (n : Fin 8) (s : State), (s.ready (Reg.TB_CTRL.RUN.addr n.val 0) = true) ∧ (s.on Reg.TB_CTRL.RUN n.val = true) ∧ (s.tbUsed n.val = true) :=
  ⟨.ash, 0, (((lit [islTBC]).wr Reg.TB_CTRL.RUN 0 1).wr Reg.STG_CTRL.EN 3 1).wr Reg.STG_DESC.KIND 3 1, by decide +kernel⟩

theorem witness_TimebaseStarts_5 :
    ∃ (m : Master) (n : Fin 8) (s : State), (s.ready (Reg.TB_CTRL.RUN.addr n.val 0) = true) ∧ (s.on Reg.TB_CTRL.RUN n.val = true) ∧ (s.tbUsed n.val = false) :=
  ⟨.ash, 0, ((lit [islTBC]).wr Reg.TB_CTRL.RUN 0 1), by decide +kernel⟩

theorem witness_TimebaseStarts_6 :
    ∃ (n : Fin 8) (s : State), (s.tbRunning n.val = true) ∧ (s.on Reg.TB_CTRL.RUN n.val = false) :=
  ⟨0, ((lit [islTBC]).wr Reg.TB_STATUS.RUNNING 0 1), by decide +kernel⟩

theorem witness_TimebaseStarts_7 :
    ∃ (m : Master) (n : Fin 8) (s : State), (s.ready (Reg.TBG_START.START.addr 0 0) = true) :=
  ⟨.ash, 0, lit [islTBC], by decide +kernel⟩

theorem witness_TimebaseEvents_0 :
    ∃ (m : Master) (n : Fin 8) (s : State), (s.ready (Reg.TB_CTRL.SWSYNC.addr n.val 0) = true) ∧ (s.on Reg.TB_CTRL.RUN n.val = true) ∧ (s.rd Reg.TB_CTRL.SYNC_SRC n.val = 1) :=
  ⟨.ash, 0, (((lit [islTBC]).wr Reg.TB_CTRL.RUN 0 1).wr Reg.TB_CTRL.SYNC_SRC 0 1), by decide +kernel⟩

theorem witness_TimebaseEvents_1 :
    ∃ (n : Fin 8) (s : State) (x : Nat), ((s.tb n.val).syncAt = some x) ∧ (x < s.now) ∧ (s.present islTBC = true) ∧ (s.tbRunning n.val = true) :=
  ⟨0, ({ (((lit [islTBC]).setTb 0 { TbS.init with syncAt := some 0 }).wr Reg.TB_STATUS.RUNNING 0 1) with now := 1 }), 0, by decide +kernel⟩

theorem witness_TimebaseEvents_2 :
    ∃ (n : Fin 8) (s : State), (s.present islTBC = true) ∧ (s.tbRunning n.val = true) ∧ (s.tbTime n.val = zroTime (s.tbMode n.val) (s.tbPer n.val)) ∧ ((s.tb n.val).zroAt ≠ some s.now) :=
  ⟨0, ((lit [islTBC]).wr Reg.TB_STATUS.RUNNING 0 1), by decide +kernel⟩

theorem witness_TimebaseEvents_3 :
    ∃ (n : Fin 8) (s : State), (s.present islTBC = true) ∧ (s.tbRunning n.val = true) ∧ (s.tbTime n.val = prdTime (s.tbMode n.val) (s.tbPer n.val)) ∧ ((s.tb n.val).prdAt ≠ some s.now) :=
  ⟨0, ((lit [islTBC]).wr Reg.TB_STATUS.RUNNING 0 1), by decide +kernel⟩

theorem witness_TimebaseEvents_4 :
    ∃ (l : Fin 24) (c : Cmp) (fine : Fin 128) (s : State) (n ev : Nat), (s.tbOfLeg l.val = some n) ∧ (s.tbRunning n = true) ∧ (s.present (islLeg l.val) = true) ∧ ((s.edgeWork n).winnerAt l.val n ((s.edgeWork n).tbTime n * 128 + fine.val) = some ev) :=
  ⟨0, .a, 5, ((((((((lit [islTBC, islLeg 0]).wr Reg.TB_STATUS.RUNNING 0 1).wr Reg.TB_CNT.CNT 0 1).wr Reg.STG_DESC.KIND 0 1).wr Reg.STG_LEGS.LEGS 0 1).wr Reg.TB_PER_ACT.PER_ACT 0 100).wr Reg.LEG_CMPA_ACT.CMPA_ACT 0 133).wr Reg.LEG_CMPB_ACT.CMPB_ACT 0 900), 0, 2, by decide +kernel⟩

theorem witness_TimebaseEvents_5 :
    ∃ (l : Fin 24) (k : Fin 4) (s : State) (n : Nat), (s.tbOfLeg l.val = some n) ∧ (s.tbRunning n = true) ∧ (s.present (islLeg l.val) = true) :=
  ⟨0, 0, ((((lit [islTBC, islLeg 0]).wr Reg.TB_STATUS.RUNNING 0 1).wr Reg.STG_DESC.KIND 0 1).wr Reg.STG_LEGS.LEGS 0 1), 0, by decide +kernel⟩

theorem witness_TimebaseEvents_6 :
    ∃ (n : Fin 8) (s : State), (s.present islTBC = true) ∧ (s.xferDue n.val = true) ∧ ((s.tb n.val).perPend = none) ∧ (s.on Reg.TB_CTRL.UPD_HOLD n.val = true) :=
  ⟨0, (((lit [islTBC]).wr Reg.TB_STATUS.RUNNING 0 1).wr Reg.TB_CTRL.UPD_HOLD 0 1), by decide +kernel⟩

theorem witness_TimebaseEvents_7 :
    ∃ (n : Fin 8) (s : State), (s.present islTBC = true) ∧ (s.xferDue n.val = true) ∧ ((s.tb n.val).perPend = none) ∧ (s.on Reg.TB_CTRL.UPD_HOLD n.val = false) :=
  ⟨0, ((lit [islTBC]).wr Reg.TB_STATUS.RUNNING 0 1), by decide +kernel⟩

theorem witness_LadderCalibration_0 :
    ∃ (l : Fin 24) (j : Fin 3) (up : Bool) (s : State), (s.present (islLeg l.val) = true) ∧ (s.on Reg.LEG_LAD.CAL_ERR l.val j.val = false) ∧ (s.ladIdle l.val j.val = true) ∧ ((s.leg l.val).ladAt.getD j.val 0 = 0 ∨ (s.leg l.val).ladAt.getD j.val 0 + 256 ≤ s.now) :=
  ⟨0, 0, true, { lit [islLeg 0] with now := 1000 }, by decide +kernel⟩

theorem witness_LadderCalibration_1 :
    ∃ (l : Fin 24) (j : Fin 3) (up : Bool) (s : State), (s.present (islLeg l.val) = false ∨ s.ladIdle l.val j.val = false ∨ s.on Reg.LEG_LAD.CAL_ERR l.val j.val = true) :=
  ⟨0, 0, true, State.reset, by decide +kernel⟩

theorem witness_LadderCalibration_2 :
    ∃ (l : Fin 24) (j : Fin 3) (s : State), (1024 ≤ (s.leg l.val).ladCnt.getD j.val 0) :=
  ⟨0, 0, (State.reset.setLeg 0 { LegS.init with ladCnt := [1024, 0, 0] }), by decide +kernel⟩

theorem witness_LadderCalibration_3 :
    ∃ (l : Fin 24) (j : Fin 3) (s : State), (s.present (islLeg l.val) = true) ∧ (s.on Reg.PLL_STAT.LOCK 0 = true) :=
  ⟨0, 0, ((lit [islLeg 0]).wr Reg.PLL_STAT.LOCK 0 1), by decide +kernel⟩

theorem witness_LadderCalibration_4 :
    ∃ (l : Fin 24) (j : Fin 3) (s : State), (s.on Reg.PLL_STAT.LOCK 0 = false) :=
  ⟨0, 0, State.reset, by decide +kernel⟩

theorem witness_OutputStageEvents_0 :
    ∃ (l : Fin 24) (s : State) (o c : Nat), ((s.leg l.val).newMode = some (o, c)) ∧ (c < s.now) ∧ (s.rd Reg.LEG_PAD_CFG.OUTMODE l.val = 3) :=
  ⟨0, (({ State.reset with now := 5 } : State).setLeg 0 { LegS.init with newMode := some (0, 4), outH := true }).wr Reg.LEG_PAD_CFG.OUTMODE 0 3, 0, 4, by decide +kernel⟩

theorem witness_OutputStageEvents_1 :
    ∃ (l : Fin 24) (s : State) (o c : Nat), ((s.leg l.val).newMode = some (o, c)) ∧ (c < s.now) :=
  ⟨0, ({ State.reset with now := 5 } : State).setLeg 0 { LegS.init with newMode := some (0, 4), outH := true }, 0, 4, by decide +kernel⟩

theorem witness_OutputStageEvents_2 :
    ∃ (l : Fin 24) (s : State), (∀ o c, (s.leg l.val).newMode = some (o, c) → s.now ≤ c) :=
  by exact ⟨0, State.reset, fun o c h => by cases h⟩

theorem witness_OutputStageEvents_3 :
    ∃ (l : Fin 24) (s : State) (p : PendOn), ((s.leg l.val).pend = some p) ∧ (p.due ≤ s.now * 128 + 127) :=
  ⟨0, (State.reset.setLeg 0 { LegS.init with pend := some ⟨.hi, 5⟩ }), ⟨.hi, 5⟩, by decide +kernel⟩

theorem witness_OutputStageEvents_4 :
    ∃ (l : Fin 24) (s : State), (∀ p, (s.leg l.val).pend = some p → s.now * 128 + 127 < p.due) :=
  by exact ⟨0, State.reset, fun p h => by cases h⟩

theorem witness_OutputStageEvents_5 :
    ∃ (l : Fin 24) (s : State) (h : Nat) (p : OutPulse), ((s.leg l.val).held = some h) ∧ ((s.leg l.val).pulse = some p) ∧ (h ≤ s.now * 128 + 127) ∧ (s.outmode l.val ≠ 0) :=
  ⟨0, ((State.reset.setLeg 0 { LegS.init with held := some 5, pulse := some ⟨.hi, 0, 0, 128⟩, outH := true }).wr Reg.LEG_PAD_CFG.OUTMODE 0 1), 5, ⟨.hi, 0, 0, 128⟩, by decide +kernel⟩

theorem witness_OutputStageEvents_6 :
    ∃ (l : Fin 24) (s : State) (h : Nat) (p : OutPulse), ((s.leg l.val).held = some h) ∧ ((s.leg l.val).pulse = some p) :=
  ⟨0, (State.reset.setLeg 0 { LegS.init with held := some 5, pulse := some ⟨.hi, 0, 0, 128⟩ }), 5, ⟨.hi, 0, 0, 128⟩, by decide +kernel⟩

theorem witness_SwitchNodeAndAdaptiveLoop_0 :
    ∃ (l : Fin 24) (lv : Bool) (fine : Fin 128) (s : State), (s.present (islLeg l.val) = true) ∧ (s.links.ret = false) ∧ ((lv != s.on Reg.LEG_SWN_CFG.INV l.val) ≠ s.on Reg.LEG_DT_STATUS.SWN_LVL l.val) ∧ (s.outmode l.val ≠ 0) :=
  ⟨0, true, 3, ((lit [islLeg 0]).wr Reg.LEG_PAD_CFG.OUTMODE 0 1), by decide +kernel⟩

theorem witness_SwitchNodeAndAdaptiveLoop_1 :
    ∃ (l : Fin 24) (lv : Bool) (fine : Fin 128) (s : State), (s.present (islLeg l.val) = true) ∧ (s.links.ret = false) ∧ ((lv != s.on Reg.LEG_SWN_CFG.INV l.val) ≠ s.on Reg.LEG_DT_STATUS.SWN_LVL l.val) ∧ (s.outmode l.val = 0) ∧ ((s.leg l.val).win = []) :=
  ⟨0, true, 3, (lit [islLeg 0]), by decide +kernel⟩

theorem witness_SwitchNodeAndAdaptiveLoop_2 :
    ∃ (l : Fin 24) (s : State) (w : SwnWin), ((s.leg l.val).win.find? (fun w => decide (w.on + s.rd Reg.LEG_ADT_LIM.SWN_WIN l.val * 128 ≤ s.now * 128)) = some w) ∧ (w.seen = true ∨ s.links.ret = true) :=
  ⟨0, (State.reset.setLeg 0 { LegS.init with win := [⟨0, 0, true, true⟩] }), ⟨0, 0, true, true⟩, by decide +kernel⟩

theorem witness_SwitchNodeAndAdaptiveLoop_3 :
    ∃ (l : Fin 24) (s : State) (w : SwnWin), ((s.leg l.val).win.find? (fun w => decide (w.on + s.rd Reg.LEG_ADT_LIM.SWN_WIN l.val * 128 ≤ s.now * 128)) = some w) ∧ (w.seen = false) ∧ (s.links.ret = false) ∧ (s.adtRuns l.val = false ∨ (s.leg l.val).miss + 1 < s.rd Reg.LEG_ADT_LIM.MISS_LIM l.val) :=
  ⟨0, (State.reset.setLeg 0 { LegS.init with win := [⟨0, 0, true, false⟩] }), ⟨0, 0, true, false⟩, by decide +kernel⟩

theorem witness_SwitchNodeAndAdaptiveLoop_4 :
    ∃ (l : Fin 24) (s : State) (w : SwnWin), ((s.leg l.val).win.find? (fun w => decide (w.on + s.rd Reg.LEG_ADT_LIM.SWN_WIN l.val * 128 ≤ s.now * 128)) = some w) ∧ (w.seen = false) ∧ (s.adtRuns l.val = true) ∧ (s.rd Reg.LEG_ADT_LIM.MISS_LIM l.val ≤ (s.leg l.val).miss + 1) :=
  ⟨0, (((State.reset.setLeg 0 { LegS.init with win := [⟨0, 0, true, false⟩] }).wr Reg.LEG_OUT_CFG.ADT_EN 0 1).wr Reg.LEG_ADT_LIM.MISS_LIM 0 1), ⟨0, 0, true, false⟩, by decide +kernel⟩

theorem witness_SwitchNodeAndAdaptiveLoop_5 :
    ∃ (l : Fin 24) (s : State), ((s.leg l.val).win.find? (fun w => decide (w.on + s.rd Reg.LEG_ADT_LIM.SWN_WIN l.val * 128 ≤ s.now * 128)) = none) :=
  ⟨0, State.reset, by decide +kernel⟩

theorem witness_SwitchNodeAndAdaptiveLoop_6 :
    ∃ (m : Master) (l : Fin 24) (s : State), (s.ready (Reg.LEG_OUT_CFG.ADT_EN.addr l.val 0) = true) ∧ (s.on Reg.LEG_OUT_CFG.ADT_EN l.val = false) ∧ (s.rd Reg.LEG_ADT_CFG.STEP l.val = 0 ∨ s.rd Reg.LEG_ADT_LIM.MISS_LIM l.val = 0 ∨ s.rd Reg.LEG_ADT_LIM.SWN_WIN l.val = 0) :=
  ⟨.ash, 0, ((lit [islTBC, islLeg 0]).wr Reg.LEG_ADT_CFG.STEP 0 0), by decide +kernel⟩

theorem witness_SwitchNodeAndAdaptiveLoop_7 :
    ∃ (m : Master) (l : Fin 24) (s : State), (s.ready (Reg.LEG_OUT_CFG.ADT_EN.addr l.val 0) = true) ∧ (s.on Reg.LEG_OUT_CFG.ADT_EN l.val = false) ∧ (s.rd Reg.LEG_ADT_CFG.STEP l.val ≠ 0) ∧ (s.rd Reg.LEG_ADT_LIM.MISS_LIM l.val ≠ 0) ∧ (s.rd Reg.LEG_ADT_LIM.SWN_WIN l.val ≠ 0) :=
  ⟨.ash, 0, ((((lit [islTBC, islLeg 0]).wr Reg.LEG_ADT_CFG.STEP 0 1).wr Reg.LEG_ADT_LIM.MISS_LIM 0 1).wr Reg.LEG_ADT_LIM.SWN_WIN 0 1), by decide +kernel⟩

theorem witness_SwitchNodeAndAdaptiveLoop_8 :
    ∃ (m : Master) (l : Fin 24) (s : State), (s.ready (Reg.LEG_DT_STATUS.ADT_FAIL.addr l.val 0) = true) ∧ (s.on Reg.LEG_DT_STATUS.ADT_FAIL l.val = true) ∧ (s.on Reg.LEG_OUT_CFG.ADT_EN l.val = true) :=
  ⟨.ash, 0, (((lit [islTBC, islLeg 0]).wr Reg.LEG_OUT_CFG.ADT_EN 0 1).wr Reg.LEG_DT_STATUS.ADT_FAIL 0 1), by decide +kernel⟩

theorem witness_SwitchNodeAndAdaptiveLoop_9 :
    ∃ (m : Master) (l : Fin 24) (r f : BitVec 16) (s : State), (s.ready (Reg.LEG_ADT_TRIM.TRIM_RISE.addr l.val 0) = true) :=
  ⟨.ash, 0, 5, 6, lit [islTBC, islLeg 0], by decide +kernel⟩

theorem witness_SoftwareTripActs_0 :
    ∃ (m : Master) (n : Fin 8) (s : State), (s.ready (Reg.STG_TRIP.SWTRIP.addr n.val 0) = true) ∧ (s.on Reg.STG_TRIP.SWTRIP n.val = false) ∧ (s.stgTripped n.val = false) :=
  ⟨.ash, 0, litA, by decide +kernel⟩

theorem witness_SoftwareTripActs_1 :
    ∃ (m : Master) (n : Fin 8) (s : State), (s.ready (Reg.STG_TRIP.SWTRIP.addr n.val 0) = true) ∧ (s.on Reg.STG_TRIP.SWTRIP n.val = false) ∧ (s.stgTripped n.val = true) ∧ (s.rd Reg.STG_TRIP_SRC.FIRST_SRC n.val ≠ 0xE00) :=
  ⟨.ash, 0, ((litA).wr Reg.STG_TRIP.TRIP 0 1), by decide +kernel⟩

theorem witness_SoftwareTripActs_2 :
    ∃ (m : Master) (n : Fin 8) (s : State), (s.ready (Reg.STG_TRIP.SWTRIP.addr n.val 0) = true) ∧ ((s.wr Reg.STG_TRIP.SWTRIP n.val 0).nodeActive n.val = false) :=
  ⟨.ash, 0, litA, by decide +kernel⟩

theorem witness_ProtectionSources_0 :
    ∃ (c : Fin 96) (uv : Nat) (s : State), (s.present (islCmp c.val) = true) ∧ (s.rd Reg.CMP_DAC.FILT c.val = 0) ∧ (s.cmpLevel c.val uv = false) :=
  ⟨0, 5, litA, by decide +kernel⟩

theorem witness_ProtectionSources_1 :
    ∃ (c : Fin 96) (uv : Nat) (s : State), (s.present (islCmp c.val) = false) :=
  ⟨0, 5, State.reset, by decide +kernel⟩

theorem witness_ProtectionSources_2 :
    ∃ (c : Fin 96) (uv : Nat) (s : State), (s.present (islCmp c.val) = true) ∧ (s.rd Reg.CMP_DAC.FILT c.val = 0) ∧ (s.on Reg.CMP_STAT.STATE c.val = false) ∧ (s.cmpLevel c.val uv = true) ∧ (s.routes = []) :=
  ⟨0, 3000000, (litA.wr Reg.CMP_DAC.EN 0 1), by decide +kernel⟩

theorem witness_ProtectionSources_3 :
    ∃ (c : Fin 96) (uv : Nat) (s : State), (s.present (islCmp c.val) = true) ∧ (s.rd Reg.CMP_DAC.FILT c.val ≠ 0) :=
  ⟨0, 3000000, ((litA.wr Reg.CMP_DAC.EN 0 1).wr Reg.CMP_DAC.FILT 0 1), by decide +kernel⟩

theorem witness_ProtectionSources_4 :
    ∃ (p : Fin 16) (hi : Bool) (s : State), (s.on Reg.TRIPIN_CFG.EN p.val = false) :=
  ⟨0, true, State.reset, by decide +kernel⟩

theorem witness_ProtectionSources_5 :
    ∃ (p : Fin 16) (hi : Bool) (s : State), (s.on Reg.TRIPIN_CFG.EN p.val = true) ∧ (s.rd Reg.TRIPIN_CFG.FILT p.val = 0) ∧ (hi = s.on Reg.TRIPIN_CFG.POL p.val) ∧ (s.on Reg.TRIPIN_STAT.LEVEL p.val = false) :=
  ⟨0, true, ((State.reset.wr Reg.TRIPIN_CFG.EN 0 1).wr Reg.TRIPIN_CFG.POL 0 1), by decide +kernel⟩

theorem witness_ProtectionSources_6 :
    ∃ (l : Fin 24) (sd : Side) (s : State), (s.present islPAD = true) ∧ ((match sd with | .hi => (s.pad l.val).cmdAtH | .lo => (s.pad l.val).cmdAtL) + 64 < s.now) ∧ (s.gateOn l.val sd = (match sd with | .hi => (s.pad l.val).cmdH | .lo => (s.pad l.val).cmdL)) :=
  ⟨0, .hi, { litA with now := 100 }, by decide +kernel⟩

theorem witness_ProtectionSources_8 :
    ∃ (m : Master) (n : Fin 8) (s : State), (s.ready (Reg.STG_TRIP.TRIP.addr n.val 0) = true) ∧ (s.nodeActive n.val = true) ∧ (s.stgTripped n.val = true) :=
  ⟨.ash, 0, ((litA.wr Reg.STG_TRIP.TRIP 0 1).wr Reg.STG_TRIP.SWTRIP 0 1), by decide +kernel⟩

theorem witness_ProtectionSources_9 :
    ∃ (m : Master) (n : Fin 8) (s : State), (s.ready (Reg.STG_TRIP.TRIP.addr n.val 0) = true) ∧ (s.nodeActive n.val = false) :=
  ⟨.ash, 0, (litA.wr Reg.STG_TRIP.TRIP 0 1), by decide +kernel⟩

theorem witness_ProtectionSources_10 :
    ∃ (s : State) (x : Nat), (s.rowanAt = some x) :=
  ⟨{ State.reset with rowanAt := some 0 }, 0, by decide +kernel⟩

theorem witness_ProtectionSources_11 :
    ∃ (m : Master) (n : Fin 8) (s : State), (s.ready (Reg.STG_CHOP.CHOP_FAULT.addr n.val 0) = true) ∧ (s.on Reg.STG_CHOP.CHOP_FAULT n.val = true) ∧ (s.rd Reg.STG_CHOP.REASON n.val ≠ 3) ∧ (s.stgTripped n.val = true) :=
  ⟨.ash, 0, ((litA.wr Reg.STG_CHOP.CHOP_FAULT 0 1).wr Reg.STG_TRIP.TRIP 0 1), by decide +kernel⟩

theorem witness_ProtectionSources_12 :
    ∃ (m : Master) (n : Fin 8) (s : State), (s.ready (Reg.STG_CHOP.CHOP_FAULT.addr n.val 0) = true) ∧ (s.on Reg.STG_CHOP.CHOP_FAULT n.val = true) ∧ (s.rd Reg.STG_CHOP.REASON n.val ≠ 3) ∧ (s.stgTripped n.val = false) :=
  ⟨.ash, 0, (litA.wr Reg.STG_CHOP.CHOP_FAULT 0 1), by decide +kernel⟩

theorem witness_SequencersRun_0 :
    ∃ (m : Master) (j : Fin 4) (s : State), (s.ready (Reg.SEQ_CTRL.EN.addr j.val 0) = true) ∧ (s.on Reg.SEQ_CTRL.EN j.val = false) ∧ (s.rd Reg.SEQ_CTRL.RING_BLKS j.val = 0 ∨ 64 < s.rd Reg.SEQ_CTRL.RING_BASE j.val + s.rd Reg.SEQ_CTRL.RING_BLKS j.val) :=
  ⟨.ash, 0, (litA.wr Reg.SEQ_CTRL.RING_BLKS 0 0), by decide +kernel⟩

theorem witness_SequencersRun_1 :
    ∃ (m : Master) (j : Fin 4) (s : State), (s.ready (Reg.SEQ_CTRL.EN.addr j.val 0) = true) ∧ (s.on Reg.SEQ_CTRL.EN j.val = false) ∧ (1 ≤ s.rd Reg.SEQ_CTRL.RING_BLKS j.val) ∧ (s.rd Reg.SEQ_CTRL.RING_BASE j.val + s.rd Reg.SEQ_CTRL.RING_BLKS j.val ≤ 64) ∧ (s.claimBlock (0x10 + j.val) (s.seqNeeds j.val) = none) :=
  ⟨.ash, 0, (litA.wr Reg.SEQ_CTRL.RING_BLKS 0 1), by decide +kernel⟩

theorem witness_SequencersRun_2 :
    ∃ (m : Master) (j : Fin 4) (s : State), (s.ready (Reg.SEQ_CTRL.EN.addr j.val 0) = true) ∧ ((s.seq j.val).wait ≠ []) :=
  ⟨.ash, 0, (litA.setSeq 0 { SeqS.init with wait := [0] }), by decide +kernel⟩

theorem witness_SequencersRun_3 :
    ∃ (m : Master) (j : Fin 4) (s : State), (s.ready (Reg.SEQ_CTRL.SWSTART.addr j.val 0) = true) :=
  ⟨.ash, 0, litA, by decide +kernel⟩

theorem witness_SequencersRun_4 :
    ∃ (m : Master) (j : Fin 4) (s : State) (ents : List SeqEnt), (s.ready (Reg.SEQ_CTRL.SWSTART.addr j.val 0) = true) ∧ (s.on Reg.SEQ_CTRL.EN j.val = true) ∧ (1 ≤ s.rd Reg.SEQ_CTRL.LEN j.val) ∧ (s.rd Reg.SEQ_CTRL.LEN j.val ≤ 64) ∧ (s.on Reg.SEQ_STATUS.RUNNING j.val = false) ∧ (s.seqOpen j.val = false) ∧ (ents = (List.range (s.rd Reg.SEQ_CTRL.LEN j.val)).map (s.seqEnt j.val)) ∧ ((groupsFrom 0 ents).any (fun g => hasDup (groupAdcs ents g)) = false) ∧ (ents.any (fun e => s.claimOwner (0x200 + e.adc) ≠ 0x10 + j.val || s.paired e.adc || s.rsUses e.adc) = false) ∧ (ents.any (fun e => e.ow && s.rd Reg.AIN_OW.CUR (ainOf e.adc e.mux) == 0) = false) :=
  ⟨.ash, 0, (((litA.wr Reg.SEQ_CTRL.EN 0 1).wr Reg.SEQ_CTRL.LEN 0 1).wr Reg.CLAIM.OWNER 0x200 0x10), ((List.range 1).map ((((litA.wr Reg.SEQ_CTRL.EN 0 1).wr Reg.SEQ_CTRL.LEN 0 1).wr Reg.CLAIM.OWNER 0x200 0x10).seqEnt 0)), by decide +kernel⟩

theorem witness_SequencersRun_5 :
    ∃ (j : Fin 4) (s : State), ((s.pulseAt (seqTarget j.val)).isSome = true) ∧ (s.present (0x13 + j.val) = true) :=
  ⟨0, { litA with pulses := [⟨0, ⟨1, 0, 0x200, 0⟩⟩] }, by decide +kernel⟩

theorem witness_SequencersRun_6 :
    ∃ (j : Fin 4) (s : State) (g : List Nat) (gs : List (List Nat)), (s.present (0x13 + j.val) = true) ∧ ((s.seq j.val).groups = g :: gs) ∧ (s.on Reg.SEQ_STATUS.RUNNING j.val = true) ∧ (s.groupReady (s.seq j.val).ents g = true) :=
  ⟨0, ((litA.setSeq 0 { SeqS.init with groups := [[0]], ents := [⟨0, 0, false, false, false, false⟩] }).wr Reg.SEQ_STATUS.RUNNING 0 1), [0], [], by decide +kernel⟩

theorem witness_SequencersRun_7 :
    ∃ (a : Fin 32) (nv : Int) (s : State), (s.present (islAdc a.val) = true) ∧ ((s.adc a.val).phase = .acquiring) ∧ ((s.adc a.val).job.start2 + 2 * (s.adc a.val).job.acq ≤ 2 * s.now + 1) :=
  ⟨0, 0, (litA.setAdc 0 { AdcS.init with phase := .acquiring }), by decide +kernel⟩

theorem witness_SequencersRun_8 :
    ∃ (a : Fin 32) (s : State), (s.present (islAdc a.val) = true) ∧ ((s.adc a.val).phase = .converting) ∧ ((s.adc a.val).smp2 + 42 ≤ 2 * s.now + 1) ∧ ((s.adc a.val).job.kind = 0) ∧ ((s.adc a.val).job.drop = true) ∧ ((s.seq (a.val / 8)).wait ≠ [] ∨ (s.seq (a.val / 8)).groups ≠ []) :=
  ⟨0, { (litA.setAdc 0 { AdcS.init with phase := .converting, job := { ConvJob.init with drop := true } }).setSeq 0 { SeqS.init with wait := [1] } with now := 50 }, by decide +kernel⟩

theorem witness_SequencersRun_9 :
    ∃ (a : Fin 32) (s : State) (x : SeqEnt), (s.present (islAdc a.val) = true) ∧ ((s.adc a.val).phase = .converting) ∧ ((s.adc a.val).smp2 + 42 ≤ 2 * s.now + 1) ∧ ((s.adc a.val).job.kind = 0) ∧ ((s.adc a.val).job.drop = false) ∧ ((s.adc a.val).job.step = 1) ∧ (s.slotFree a.val 0 = false) ∧ (s.slotFree a.val 1 = false) :=
  ⟨0, { litA.setAdc 0 { AdcS.init with phase := .converting, job := { ConvJob.init with step := 1 } } with now := 50 }, ⟨0, 0, false, false, false, false⟩, by decide +kernel⟩

theorem witness_SequencersRun_10 :
    ∃ (a : Fin 32) (s : State), (s.present (islAdc a.val) = true) ∧ ((s.adc a.val).phase = .converting) ∧ ((s.adc a.val).smp2 + 42 ≤ 2 * s.now + 1) :=
  ⟨0, { litA.setAdc 0 { AdcS.init with phase := .converting } with now := 50 }, by decide +kernel⟩

theorem witness_InjectedAndCalibration_0 :
    ∃ (m : Master) (a : Fin 32) (k : Fin 2) (s : State), (s.ready (Reg.ADC_INJ.EN.addr a.val k.val) = true) ∧ (s.claimBlock (s.injOwner a.val) [0x200 + a.val] = none) :=
  ⟨.ash, 0, 0, litA, by decide +kernel⟩

theorem witness_InjectedAndCalibration_1 :
    ∃ (m : Master) (a : Fin 32) (k : Fin 2) (s : State), (s.ready (Reg.ADC_INJ.EN.addr a.val k.val) = true) ∧ (s.claimBlock (s.injOwner a.val) [0x200 + a.val] = some (0x200 + a.val)) :=
  ⟨.ash, 0, 0, (litA.wr Reg.CLAIM.STATE 0x200 3), by decide +kernel⟩

theorem witness_InjectedAndCalibration_2 :
    ∃ (m : Master) (a : Fin 32) (k : Fin 2) (s : State), (s.ready (Reg.ADC_CTRL.SWTRIG_J0.addr a.val 0) = true) :=
  ⟨.ash, 0, 0, litA, by decide +kernel⟩

theorem witness_InjectedAndCalibration_3 :
    ∃ (a : Fin 32) (k : Fin 2) (s : State), ((s.pulseAt (injTarget a.val k.val)).isSome = true) ∧ (s.present (islAdc a.val) = true) :=
  ⟨0, 0, { litA with pulses := [⟨0, ⟨1, 0, 0x200, 16⟩⟩] }, by decide +kernel⟩

theorem witness_InjectedAndCalibration_4 :
    ∃ (a : Fin 32) (k : Fin 2) (s : State), (s.present (islAdc a.val) = true) ∧ (s.slotReady a.val k.val = true) :=
  ⟨0, 0, (litA.wr Reg.ADC_STATUS.J0_PEND 0 1), by decide +kernel⟩

theorem witness_InjectedAndCalibration_5 :
    ∃ (a : Fin 32) (s : State) (r : AdcS) (v : Nat) (clip : Bool), (s.present (islAdc a.val) = true) ∧ (s.adc a.val = r) ∧ (r.phase = .converting) ∧ (r.smp2 + 42 ≤ 2 * s.now + 1) ∧ (r.job.kind = 1) ∧ (s.on Reg.ADC_INJ.CEDAR a.val r.job.src = false) ∧ (s.correct a.val (rawCode r.nv) = (v, clip)) ∧ (r.owNext = none) :=
  ⟨0, { litA.setAdc 0 { AdcS.init with phase := .converting, job := { ConvJob.init with kind := 1 } } with now := 50 }, { AdcS.init with phase := .converting, job := { ConvJob.init with kind := 1 } }, 0, true, by decide +kernel⟩

theorem witness_InjectedAndCalibration_6 :
    ∃ (m : Master) (a : Fin 32) (s : State), (s.ready (Reg.ADC_CTRL.CAL_START.addr a.val 0) = true) :=
  ⟨.ash, 0, litA, by decide +kernel⟩

theorem witness_InjectedAndCalibration_7 :
    ∃ (a : Fin 32) (s : State), (s.rd Reg.ADC_STATUS.CAL_ST a.val = 1) ∧ (s.adcIdle a.val = true) ∧ ((s.adc a.val).pre0 = false) ∧ ((s.adc a.val).pre1 = false) :=
  ⟨0, (State.reset.wr Reg.ADC_STATUS.CAL_ST 0 1), by decide +kernel⟩

theorem witness_InjectedAndCalibration_8 :
    ∃ (a : Fin 32) (lo hi : Nat) (s : State), (s.rd Reg.ADC_STATUS.CAL_ST a.val = 2) ∧ ((s.adc a.val).calAt + 18432 ≤ s.now) ∧ (calTrims ((lo : Rat) / 256) ((hi : Rat) / 256) = none) :=
  by exact ⟨0, 0, 0, { (State.reset.wr Reg.ADC_STATUS.CAL_ST 0 2) with now := 20000 }, by decide +kernel, by decide +kernel, by unfold calTrims; simp⟩

theorem witness_InjectedAndCalibration_9 :
    ∃ (a : Fin 32) (lo hi : Nat) (s : State) (g o : Int), (s.rd Reg.ADC_STATUS.CAL_ST a.val = 2) ∧ ((s.adc a.val).calAt + 18432 ≤ s.now) ∧ (calTrims ((lo : Rat) / 256) ((hi : Rat) / 256) = some (g, o)) ∧ (s.on Reg.ADC_CTRL.CAL_STORE a.val = false) :=
  ⟨0, 1677722, 15099494, { (State.reset.wr Reg.ADC_STATUS.CAL_ST 0 2) with now := 20000 }, 0, 0, by decide +kernel⟩

theorem witness_InterleavedPairs_0 :
    ∃ (m : Master) (k : Fin 16) (s : State), (s.ready (Reg.IL_CTRL.ARM.addr k.val 0) = true) ∧ (s.on Reg.IL_CTRL.ARM k.val = false) ∧ (s.on Reg.IL_CTRL.IL_EN k.val = true) ∧ (s.rd Reg.IL_CTRL.IL_BLKS k.val = 0 ∨ 64 < s.rd Reg.IL_CTRL.IL_BASE k.val + s.rd Reg.IL_CTRL.IL_BLKS k.val) :=
  ⟨.ash, 0, ((litA.wr Reg.IL_CTRL.IL_EN 0 1).wr Reg.IL_CTRL.IL_BLKS 0 0), by decide +kernel⟩

theorem witness_InterleavedPairs_1 :
    ∃ (m : Master) (k : Fin 16) (s : State), (s.ready (Reg.IL_CTRL.ARM.addr k.val 0) = true) ∧ (s.on Reg.IL_CTRL.IL_EN k.val = true) ∧ (s.on Reg.IL_CTRL.ARM k.val = true) :=
  ⟨.ash, 0, (litA.wr Reg.IL_CTRL.IL_EN 0 1).wr Reg.IL_CTRL.ARM 0 1, by decide +kernel⟩

theorem witness_InterleavedPairs_2 :
    ∃ (m : Master) (k : Fin 16) (s : State), (s.ready (Reg.IL_CTRL.ARM.addr k.val 0) = true) ∧ (s.on Reg.IL_CTRL.IL_EN k.val = false) :=
  ⟨.ash, 0, litA, by decide +kernel⟩

theorem witness_InterleavedPairs_3 :
    ∃ (m : Master) (k : Fin 16) (s : State) (o : Nat), (s.ready (Reg.IL_CTRL.ARM.addr k.val 0) = true) ∧ (s.on Reg.IL_CTRL.ARM k.val = false) ∧ (s.on Reg.IL_CTRL.IL_EN k.val = true) ∧ (1 ≤ s.rd Reg.IL_CTRL.IL_BLKS k.val) ∧ (s.rd Reg.IL_CTRL.IL_BASE k.val + s.rd Reg.IL_CTRL.IL_BLKS k.val ≤ 64) ∧ (s.pairOwner k.val = some o) ∧ (s.claimBlock o ([0x200 + 2 * k.val, 0x201 + 2 * k.val] ++ (List.range (s.rd Reg.IL_CTRL.IL_BLKS k.val)).map fun b => 0x800 + s.rd Reg.IL_CTRL.IL_BASE k.val + b) = none) :=
  ⟨.ash, 0, ((litA.wr Reg.IL_CTRL.IL_EN 0 1).wr Reg.IL_CTRL.IL_BLKS 0 1), 0x10, by decide +kernel⟩

theorem witness_InterleavedPairs_4 :
    ∃ (m : Master) (k : Fin 16) (s : State), (s.ready (Reg.IL_CTRL.SWSTART.addr k.val 0) = true) :=
  ⟨.ash, 0, litA, by decide +kernel⟩

theorem witness_InterleavedPairs_5 :
    ∃ (m : Master) (k : Fin 16) (s : State), (s.ready (Reg.IL_CTRL.SWSTART.addr k.val 0) = true) ∧ (s.on Reg.IL_CTRL.ARM k.val = true) ∧ (s.on Reg.IL_FLAGS.RUNNING k.val = false) ∧ (s.rd Reg.IL_FLAGS.CAL_ST k.val = 0) ∧ (2 ≤ s.rd Reg.IL_BURST.BURST k.val) ∧ (s.rd Reg.IL_BURST.BURST k.val ≤ s.rd Reg.IL_CTRL.IL_BLKS k.val * 1024) :=
  ⟨.ash, 0, (((litA.wr Reg.IL_CTRL.ARM 0 1).wr Reg.IL_BURST.BURST 0 2).wr Reg.IL_CTRL.IL_BLKS 0 1), by decide +kernel⟩

theorem witness_InterleavedPairs_6 :
    ∃ (k : Fin 16) (s : State), ((s.pulseAt (pairTarget k.val)).isSome = true) ∧ (s.present (0x13 + k.val / 4) = true) :=
  ⟨0, { litA with pulses := [⟨0, ⟨1, 0, 0x200, 48⟩⟩] }, by decide +kernel⟩

theorem witness_InterleavedPairs_7 :
    ∃ (k : Fin 16) (s : State), (s.on Reg.IL_FLAGS.RUNNING k.val = true) ∧ ((s.pair k.val).len ≤ s.rd Reg.IL_STATUS.COUNT k.val) :=
  ⟨0, (State.reset.wr Reg.IL_FLAGS.RUNNING 0 1), by decide +kernel⟩

theorem witness_InterleavedPairs_8 :
    ∃ (a : Fin 32) (s : State) (r : AdcS) (v : Nat) (clip : Bool), (s.present (islAdc a.val) = true) ∧ (s.adc a.val = r) ∧ (r.phase = .converting) ∧ (r.smp2 + 42 ≤ 2 * s.now + 1) ∧ (r.job.kind = 2) ∧ (s.correct a.val (rawCode r.nv) = (v, clip)) :=
  ⟨0, { litA.setAdc 0 { AdcS.init with phase := .converting, job := { ConvJob.init with kind := 2 } } with now := 50 }, { AdcS.init with phase := .converting, job := { ConvJob.init with kind := 2 } }, 0, true, by decide +kernel⟩

theorem witness_PairCalibration_0 :
    ∃ (m : Master) (k : Fin 16) (s : State), (s.ready (Reg.IL_CTRL.PAIR_CAL.addr k.val 0) = true) :=
  ⟨.ash, 0, litA, by decide +kernel⟩

theorem witness_PairCalibration_1 :
    ∃ (k : Fin 16) (s : State), (s.rd Reg.IL_FLAGS.CAL_ST k.val = 1) ∧ (s.rd Reg.IL_FLAGS.RUNNING k.val = 0) :=
  ⟨0, (State.reset.wr Reg.IL_FLAGS.CAL_ST 0 1), by decide +kernel⟩

theorem witness_PairCalibration_2 :
    ∃ (k : Fin 16) (eLo eHi oLo oHi : Nat) (ramp : List Int) (s : State) (g o w : Nat), (s.rd Reg.IL_FLAGS.CAL_ST k.val = 2) ∧ ((s.pair k.val).saved = (g, o, w)) ∧ (oHi = oLo) :=
  ⟨0, 0, 0, 0, 0, [], (State.reset.wr Reg.IL_FLAGS.CAL_ST 0 2), 0, 0, 0, by decide +kernel⟩

theorem witness_PairCalibration_3 :
    ∃ (k : Fin 16) (eLo eHi oLo oHi : Nat) (ramp : List Int) (s : State) (g f sk : Int), (s.rd Reg.IL_FLAGS.CAL_ST k.val = 2) ∧ (pairTrims ((eLo : Rat) / 256) ((eHi : Rat) / 256) ((oLo : Rat) / 256) ((oHi : Rat) / 256) = some (g, f)) ∧ (skewPasses 4 (max (-127) (s.rdI Reg.ADC_SKEW.SKEW_TRIM (2 * k.val + 1))) (ramp.take 4) = some sk) ∧ (-127 ≤ sk) ∧ (sk ≤ 127) ∧ (s.on Reg.IL_CTRL.CAL_STORE k.val = false) :=
  ⟨0, 1677722, 15099494, 1677722, 15099494, [], (State.reset.wr Reg.IL_FLAGS.CAL_ST 0 2), 0, 0, 0, by decide +kernel⟩

theorem witness_IsolatedChannels_0 :
    ∃ (c : Fin 8) (bits : List Bool) (s : State), (s.present islISF = true) ∧ (s.isoRuns c.val = true) ∧ (bits.length = 2 ^ (4 + (s.iso c.val).dec)) ∧ ((s.iso c.val).base + isoPeriod (s.iso c.val).dec ≤ s.now) :=
  ⟨0, List.replicate 16 true, { (litA.wr Reg.ISO_CTRL.EN 0 1).setIso 0 { IsoS.init with dec := 0 } with now := 1000000 }, by decide +kernel⟩

theorem witness_IsolatedChannels_1 :
    ∃ (c : Fin 8) (bits : List Bool) (s : State) (code : Int) (clamp : Bool), (s.present islISF = true) ∧ (s.isoRuns c.val = true) ∧ (bits.length = 2 ^ (4 + (s.iso c.val).dec)) ∧ ((s.iso c.val).base + isoPeriod (s.iso c.val).dec ≤ s.now) ∧ (s.isoCode c.val (2 ^ (4 + (s.iso c.val).dec)) (sincSum (2 ^ (4 + (s.iso c.val).dec)) ((bits.reverse ++ (s.iso c.val).bits).take (3 * (2 ^ (4 + (s.iso c.val).dec))))) = (code, clamp)) :=
  ⟨0, List.replicate 16 false, { (litA.wr Reg.ISO_CTRL.EN 0 1).setIso 0 { IsoS.init with dec := 0 } with now := 1000000 }, -1671168, false, by decide +kernel⟩

theorem witness_IsolatedChannels_2 :
    ∃ (c : Fin 8) (bits : List Bool) (s : State), (s.isoRuns c.val = false ∨ bits.length ≠ 2 ^ (4 + (s.iso c.val).dec) ∨ s.present islISF = false) :=
  ⟨0, [], State.reset, by decide +kernel⟩

theorem witness_IsolatedChannels_4 :
    ∃ (m : Master) (c : Fin 8) (s : State) (o : Nat), (s.ready (Reg.ISO_CTRL.EN.addr c.val 0) = true) ∧ (s.on Reg.ISO_CTRL.EN c.val = false) ∧ (s.rd Reg.ISO_STATUS.CAL_ST c.val ≠ 1) ∧ (o = (if s.claimState (0x400 + c.val) = 0 then 0x2A else s.claimOwner (0x400 + c.val))) ∧ (s.claimBlock o [0x400 + c.val] = none) :=
  ⟨.ash, 0, litA, 0x2A, by decide +kernel⟩

theorem witness_IsolatedChannels_5 :
    ∃ (m : Master) (c : Fin 8) (s : State), (s.ready (Reg.ISO_CTRL.EN.addr c.val 0) = true) :=
  ⟨.ash, 0, litA, by decide +kernel⟩

theorem witness_IsolatedChannels_6 :
    ∃ (m : Master) (c : Fin 8) (s : State), (s.ready (Reg.ISO_CTRL.CAL_START.addr c.val 0) = true) :=
  ⟨.ash, 0, litA, by decide +kernel⟩

theorem witness_IsolatedChannels_7 :
    ∃ (c : Fin 8) (s : State), (s.rd Reg.ISO_STATUS.CAL_ST c.val = 1) ∧ (134 ≤ (s.iso c.val).calN) ∧ (isoTrims (((s.iso c.val).calShort : Rat) / 128) (((s.iso c.val).calRef : Rat) / 128) = none) :=
  by exact ⟨0, (State.reset.wr Reg.ISO_STATUS.CAL_ST 0 1).setIso 0 { IsoS.init with calN := 134 }, by decide +kernel, by decide +kernel, by simp [isoTrims, IsoS.init, State.wr]⟩

theorem witness_IsolatedChannels_8 :
    ∃ (c : Fin 8) (s : State) (g o : Int), (s.rd Reg.ISO_STATUS.CAL_ST c.val = 1) ∧ (134 ≤ (s.iso c.val).calN) ∧ (isoTrims (((s.iso c.val).calShort : Rat) / 128) (((s.iso c.val).calRef : Rat) / 128) = some (g, o)) ∧ (s.on Reg.ISO_CTRL.CAL_STORE c.val = false) :=
  ⟨0, (State.reset.wr Reg.ISO_STATUS.CAL_ST 0 1).setIso 0 { IsoS.init with calN := 134, calRef := 838860800 }, 0, 0, by decide +kernel⟩

theorem witness_CedarArithmetic_0 :
    ∃ (u : Fin 8) (p : Fin 4) (w : Nat) (x : Int) (s : State), (s.cedAt u.val p.val w = true) ∧ (wOp w = 0x04) ∧ (s.operand u.val (wSa w) + s.operand u.val (wSb w) = x) :=
  ⟨0, 0, 0x400016b6b000000, 2 ^ 31, wcode 0x400016b6b000000, by decide +kernel⟩

theorem witness_CedarArithmetic_1 :
    ∃ (u : Fin 8) (p : Fin 4) (w : Nat) (x : Int) (s : State), (s.cedAt u.val p.val w = true) ∧ (wOp w = 0x05) ∧ (s.operand u.val (wSa w) - s.operand u.val (wSb w) = x) :=
  ⟨0, 0, 0x500016b6b000000, 0, wcode 0x500016b6b000000, by decide +kernel⟩

theorem witness_CedarArithmetic_2 :
    ∃ (u : Fin 8) (p : Fin 4) (w : Nat) (x : Int) (s : State), (s.cedAt u.val p.val w = true) ∧ (wOp w = 0x07) ∧ (divHalfAway (s.operand u.val (wSa w) * s.operand u.val (wSb w)) (if wAux w % 2 = 1 then 2 ^ 28 else 2 ^ 30) = x) :=
  ⟨0, 0, 0x700016b6b000001, 2 ^ 32, wcode 0x700016b6b000001, by decide +kernel⟩

theorem witness_CedarArithmetic_3 :
    ∃ (u : Fin 8) (p : Fin 4) (w : Nat) (x : Int) (s : State), (s.cedAt u.val p.val w = true) ∧ (wOp w = 0x09) ∧ (s.acc u.val (wAux w % 8) = x) :=
  ⟨0, 0, 0x900010000000000, 0, wcode 0x900010000000000, by decide +kernel⟩

theorem witness_CedarArithmetic_4 :
    ∃ (u : Fin 8) (p : Fin 4) (w : Nat) (x : Int) (s : State), (s.cedAt u.val p.val w = true) ∧ (wOp w = 0x0B) ∧ (wAux w % 2 = 0) ∧ (-s.operand u.val (wSa w) = x) :=
  ⟨0, 0, 0xb00016b00000000, -(2 ^ 30), wcode 0xb00016b00000000, by decide +kernel⟩

theorem witness_CedarArithmetic_5 :
    ∃ (u : Fin 8) (p : Fin 4) (w : Nat) (x : Int) (s : State), (s.cedAt u.val p.val w = true) ∧ (wOp w = 0x0B) ∧ (wAux w % 2 = 1) ∧ ((((s.operand u.val (wSa w)).natAbs : Nat) : Int) = x) :=
  ⟨0, 0, 0xb00016b00000001, 2 ^ 30, wcode 0xb00016b00000001, by decide +kernel⟩

theorem witness_CedarArithmetic_6 :
    ∃ (u : Fin 8) (p : Fin 4) (w : Nat) (x : Int) (s : State), (s.cedAt u.val p.val w = true) ∧ (wOp w = 0x0C) ∧ (wAux w % 2 = 0) ∧ (min (s.operand u.val (wSa w)) (s.operand u.val (wSb w)) = x) :=
  ⟨0, 0, 0xc00016b00000000, 0, wcode 0xc00016b00000000, by decide +kernel⟩

theorem witness_CedarArithmetic_7 :
    ∃ (u : Fin 8) (p : Fin 4) (w : Nat) (x : Int) (s : State), (s.cedAt u.val p.val w = true) ∧ (wOp w = 0x0C) ∧ (wAux w % 2 = 1) ∧ (max (s.operand u.val (wSa w)) (s.operand u.val (wSb w)) = x) :=
  ⟨0, 0, 0xc00016b00000001, 2 ^ 30, wcode 0xc00016b00000001, by decide +kernel⟩

theorem witness_CedarArithmetic_8 :
    ∃ (u : Fin 8) (p : Fin 4) (w : Nat) (x : Int) (s : State), (s.cedAt u.val p.val w = true) ∧ (wOp w = 0x10) ∧ (divQ30 (s.operand u.val (wSa w)) (s.operand u.val (wSb w)) = x) :=
  ⟨0, 0, 0x1000016b6b000000, 2 ^ 30, wcode 0x1000016b6b000000, by decide +kernel⟩

theorem witness_CedarArithmetic_9 :
    ∃ (u : Fin 8) (p : Fin 4) (w : Nat) (x : Int) (s : State), (s.cedAt u.val p.val w = true) ∧ (wOp w = 0x11) ∧ (((roundSqrt ((s.operand u.val (wSa w)) * (s.operand u.val (wSa w)) + (s.operand u.val (wSb w)) * (s.operand u.val (wSb w))).toNat : Nat) : Int) = x) :=
  ⟨0, 0, 0x1100016b00000000, 2 ^ 30, wcode 0x1100016b00000000, by decide +kernel⟩

theorem witness_CedarArithmetic_10 :
    ∃ (u : Fin 8) (p : Fin 4) (w : Nat) (s : State), (s.cedAt u.val p.val w = true) ∧ (wOp w = 0x06) :=
  ⟨0, 0, 0x600016b6b000000, wcode 0x600016b6b000000, by decide +kernel⟩

theorem witness_CedarArithmetic_11 :
    ∃ (u : Fin 8) (p : Fin 4) (w : Nat) (s : State), (s.cedAt u.val p.val w = true) ∧ (wOp w = 0x02) :=
  ⟨0, 0, 0x200016b00000000, wcode 0x200016b00000000, by decide +kernel⟩

theorem witness_CedarArithmetic_12 :
    ∃ (u : Fin 8) (p : Fin 4) (w : Nat) (s : State), (s.cedAt u.val p.val w = true) ∧ (wOp w = 0x03) :=
  ⟨0, 0, 0x300010000000005, wcode 0x300010000000005, by decide +kernel⟩

theorem witness_CedarArithmetic_13 :
    ∃ (u : Fin 8) (p : Fin 4) (w : Nat) (s : State), (s.cedAt u.val p.val w = true) ∧ (wOp w = 0x0F) :=
  ⟨0, 0, 0xf00016b00000000, wcode 0xf00016b00000000, by decide +kernel⟩

theorem witness_CedarControlAndAccumulators_0 :
    ∃ (u : Fin 8) (p : Fin 4) (w : Nat) (x : Int) (s : State), (s.cedAt u.val p.val w = true) ∧ (wOp w = 0x08) ∧ (s.acc u.val (wAux w % 8) + divHalfAway (s.operand u.val (wSa w) * s.operand u.val (wSb w)) (if wAux w / 8 % 2 = 1 then 2 ^ 28 else 2 ^ 30) = x) :=
  ⟨0, 0, 0x800006b6b000002, 2 ^ 30, wcode 0x800006b6b000002, by decide +kernel⟩

theorem witness_CedarControlAndAccumulators_1 :
    ∃ (u : Fin 8) (p : Fin 4) (w : Nat) (s : State), (s.cedAt u.val p.val w = true) ∧ (wOp w = 0x0A) :=
  ⟨0, 0, 0xa00000000000000, wcode 0xa00000000000000, by decide +kernel⟩

theorem witness_CedarControlAndAccumulators_2 :
    ∃ (u : Fin 8) (p : Fin 4) (w : Nat) (s : State), (s.cedAt u.val p.val w = true) ∧ (wOp w = 0x0D) :=
  ⟨0, 0, 0xd00006b6b000001, wcode 0xd00006b6b000001, by decide +kernel⟩

theorem witness_CedarControlAndAccumulators_3 :
    ∃ (u : Fin 8) (p : Fin 4) (w : Nat) (s : State), (s.cedAt u.val p.val w = true) ∧ (wOp w = 0x0E) :=
  ⟨0, 0, 0xe00004100000000, wcode 0xe00004100000000, by decide +kernel⟩

theorem witness_CedarControlAndAccumulators_4 :
    ∃ (u : Fin 8) (p : Fin 4) (w : Nat) (s : State), (s.cedAt u.val p.val w = true) ∧ (wOp w = 0x21) :=
  ⟨0, 0, 0x2100000000000002, wcode 0x2100000000000002, by decide +kernel⟩

theorem witness_CedarControlAndAccumulators_5 :
    ∃ (u : Fin 8) (p : Fin 4) (w : Nat) (s : State), (s.cedAt u.val p.val w = true) ∧ (wOp w = 0x22) :=
  ⟨0, 0, 0x2200036b00000000, wcode 0x2200036b00000000, by decide +kernel⟩

theorem witness_CedarControlAndAccumulators_6 :
    ∃ (u : Fin 8) (p : Fin 4) (w : Nat) (s : State), (s.cedAt u.val p.val w = true) ∧ (wOp w = 0x00) :=
  ⟨0, 0, 0, wcode 0, by decide +kernel⟩

theorem witness_CedarControlAndAccumulators_7 :
    ∃ (u : Fin 8) (p : Fin 4) (w : Nat) (s : State), (s.cedAt u.val p.val w = true) ∧ (wOp w = 0x01) ∧ (s.on Reg.LU_STAT.SWAP_PEND u.val = false) :=
  ⟨0, 0, 0x100000000000000, wcode 0x100000000000000, by decide +kernel⟩

theorem witness_CedarControlAndAccumulators_8 :
    ∃ (u : Fin 8) (p : Fin 4) (w : Nat) (s : State), (s.cedAt u.val p.val w = true) ∧ (wOp w ≠ 0x04) :=
  ⟨0, 0, 0, wcode 0, by decide +kernel⟩

theorem witness_CedarControlAndAccumulators_9 :
    ∃ (u : Fin 8) (p : Nat) (s : State), ((s.lu u.val).run = some p) ∧ (s.eccBad = []) ∧ (wOp (s.num (luBank u.val + 8 * (s.lpAddr u.val p + (s.lu u.val).pc)) 8) = 0x04) ∧ (wCond (s.num (luBank u.val + 8 * (s.lpAddr u.val p + (s.lu u.val).pc)) 8) = 1) ∧ ((s.lu u.val).p = false) :=
  ⟨0, 0, wcode 0x0440000000000000, by decide +kernel⟩

theorem witness_CedarTransforms_0 :
    ∃ (u : Fin 8) (p : Fin 4) (w : Nat) (x y : Int) (s : State), (s.cedAt u.val p.val w = true) ∧ (wOp w = 0x12) ∧ (divHalfAway (sineAt (thetaOf (s.operand u.val (wSa w)))) 4096 = x) ∧ (divHalfAway (cosineAt (thetaOf (s.operand u.val (wSa w)))) 4096 = y) :=
  by exact ⟨0, 0, 0x1200016b6b6b0000, _, _, wcode 0x1200016b6b6b0000, by decide +kernel, by decide +kernel, rfl, rfl⟩

theorem witness_CedarTransforms_1 :
    ∃ (u : Fin 8) (p : Fin 4) (w : Nat) (x y : Int) (s : State), (s.cedAt u.val p.val w = true) ∧ (wOp w = 0x13) ∧ (wAux w % 2 = 0) ∧ (s.operand u.val (wSa w) = x) ∧ (roundSqrt3 0 (2 * (s.operand u.val (wSa w) + 2 * s.operand u.val (wSb w))) 3 = y) :=
  by exact ⟨0, 0, 0x1300016b6b6b0000, _, _, wcode 0x1300016b6b6b0000, by decide +kernel, by decide +kernel, by decide +kernel, rfl, rfl⟩

theorem witness_CedarTransforms_2 :
    ∃ (u : Fin 8) (p : Fin 4) (w : Nat) (x y : Int) (s : State), (s.cedAt u.val p.val w = true) ∧ (wOp w = 0x13) ∧ (wAux w % 2 = 1) ∧ (divHalfAway (2 * s.operand u.val (wSa w) - s.operand u.val (wSb w) - s.operand u.val (wSc w)) 3 = x) ∧ (roundSqrt3 0 (2 * (s.operand u.val (wSb w) - s.operand u.val (wSc w))) 3 = y) :=
  by exact ⟨0, 0, 0x1300016b6b6b0001, _, _, wcode 0x1300016b6b6b0001, by decide +kernel, by decide +kernel, by decide +kernel, rfl, rfl⟩

theorem witness_CedarTransforms_3 :
    ∃ (u : Fin 8) (p : Fin 4) (w : Nat) (x y z : Int) (s : State), (s.cedAt u.val p.val w = true) ∧ (wOp w = 0x14) ∧ (s.operand u.val (wSa w) = x) ∧ (roundSqrt3 (-s.operand u.val (wSa w)) (s.operand u.val (wSb w)) 1 = y) ∧ (roundSqrt3 (-s.operand u.val (wSa w)) (-s.operand u.val (wSb w)) 1 = z) :=
  by exact ⟨0, 0, 0x1400016b6b6b0000, _, _, _, wcode 0x1400016b6b6b0000, by decide +kernel, by decide +kernel, rfl, rfl, rfl⟩

theorem witness_CedarTransforms_4 :
    ∃ (u : Fin 8) (p : Fin 4) (w : Nat) (x y : Int) (s : State), (s.cedAt u.val p.val w = true) ∧ (wOp w = 0x15) ∧ (divHalfAway (s.operand u.val (wSa w) * cosineAt (thetaOf (s.operand u.val (wSc w))) + s.operand u.val (wSb w) * sineAt (thetaOf (s.operand u.val (wSc w)))) (2 ^ 42) = x) ∧ (divHalfAway (s.operand u.val (wSb w) * cosineAt (thetaOf (s.operand u.val (wSc w))) - s.operand u.val (wSa w) * sineAt (thetaOf (s.operand u.val (wSc w)))) (2 ^ 42) = y) :=
  by exact ⟨0, 0, 0x1500016b6b6b0000, _, _, wcode 0x1500016b6b6b0000, by decide +kernel, by decide +kernel, rfl, rfl⟩

theorem witness_CedarTransforms_5 :
    ∃ (u : Fin 8) (p : Fin 4) (w : Nat) (x y : Int) (s : State), (s.cedAt u.val p.val w = true) ∧ (wOp w = 0x16) ∧ (divHalfAway (s.operand u.val (wSa w) * cosineAt (thetaOf (s.operand u.val (wSc w))) - s.operand u.val (wSb w) * sineAt (thetaOf (s.operand u.val (wSc w)))) (2 ^ 42) = x) ∧ (divHalfAway (s.operand u.val (wSa w) * sineAt (thetaOf (s.operand u.val (wSc w))) + s.operand u.val (wSb w) * cosineAt (thetaOf (s.operand u.val (wSc w)))) (2 ^ 42) = y) :=
  by exact ⟨0, 0, 0x1600016b6b6b0000, _, _, wcode 0x1600016b6b6b0000, by decide +kernel, by decide +kernel, rfl, rfl⟩

theorem witness_CedarTransforms_6 :
    ∃ (u : Fin 8) (p : Fin 4) (w : Nat) (x y z : Int) (s : State), (s.cedAt u.val p.val w = true) ∧ (wOp w = 0x19) ∧ ((svmDuties (s.operand u.val (wSa w)) (s.operand u.val (wSb w))).getD 0 0 = x) ∧ ((svmDuties (s.operand u.val (wSa w)) (s.operand u.val (wSb w))).getD 1 0 = y) ∧ ((svmDuties (s.operand u.val (wSa w)) (s.operand u.val (wSb w))).getD 2 0 = z) :=
  by exact ⟨0, 0, 0x1900016b6b6b0000, _, _, _, wcode 0x1900016b6b6b0000, by decide +kernel, by decide +kernel, rfl, rfl, rfl⟩

theorem witness_CedarBlocksTablesAndOutputs_0 :
    ∃ (u : Fin 8) (p : Fin 4) (w b : Nat) (s : State) (e xin inn y : Int) (lim : Bool), (s.cedAt u.val p.val w = true) ∧ (wOp w = 0x17) ∧ (b = wAux w % 16) ∧ (e = s.operand u.val (wSa w)) ∧ (sat48At 28 (sgn 48 (s.rd Reg.BLK_S1.S1 u.val b) * 2 ^ 28 + s.coef u.val (128 + 8 * b + 1) * e) = (xin, inn)) ∧ (s.blkLimit u.val b (divHalfAway (s.coef u.val (128 + 8 * b + 0) * e + xin) (2 ^ 28)) = (y, lim)) :=
  by exact ⟨0, 0, 0x1700016b00000000, 0, wcode 0x1700016b00000000, _, _, _, _, _, by decide +kernel, by decide +kernel, rfl, rfl, rfl, rfl⟩

theorem witness_CedarBlocksTablesAndOutputs_1 :
    ∃ (u : Fin 8) (p : Fin 4) (w b : Nat) (s : State) (e x1 x2 y1 n1 y2 n2 y : Int) (lim : Bool), (s.cedAt u.val p.val w = true) ∧ (wOp w = 0x18) ∧ (b = wAux w % 16) ∧ (e = s.operand u.val (wSa w)) ∧ (x1 = sgn 48 (s.rd Reg.BLK_S1.S1 u.val b) * 2 ^ 28 + s.coef u.val (128 + 8 * b + 1) * e - s.coef u.val (128 + 8 * b + 2) * sgn 48 (s.rd Reg.BLK_S2.S2 u.val b)) ∧ (sat48At 28 x1 = (y1, n1)) ∧ (x2 = sgn 48 (s.rd Reg.BLK_S2.S2 u.val b) * 2 ^ 56 + s.coef u.val (128 + 8 * b + 2) * y1) ∧ (sat48At 56 x2 = (y2, n2)) ∧ (s.blkLimit u.val b (divHalfAway (s.coef u.val (128 + 8 * b + 0) * e + y1) (2 ^ 28)) = (y, lim)) ∧ (s.on Reg.BLK_CTRL.CI u.val b = true) ∧ (lim = true) :=
  by exact ⟨0, 0, 0x1800016b00000000, 0, ((wcode 0x1800016b00000000).wr2 Reg.BLK_CTRL.CI 0 0 1).wr2 Reg.COEF.C 0 128 (2 ^ 30), _, _, _, _, _, _, _, _, _, by decide +kernel, by decide +kernel, rfl, rfl, rfl, rfl, rfl, rfl, rfl, by decide +kernel, by decide +kernel⟩

theorem witness_CedarBlocksTablesAndOutputs_2 :
    ∃ (u : Fin 8) (p : Fin 4) (w b : Nat) (s : State) (e x1 x2 y1 n1 y2 n2 y : Int) (lim : Bool), (s.cedAt u.val p.val w = true) ∧ (wOp w = 0x18) ∧ (b = wAux w % 16) ∧ (e = s.operand u.val (wSa w)) ∧ (x1 = sgn 48 (s.rd Reg.BLK_S1.S1 u.val b) * 2 ^ 28 + s.coef u.val (128 + 8 * b + 1) * e - s.coef u.val (128 + 8 * b + 2) * sgn 48 (s.rd Reg.BLK_S2.S2 u.val b)) ∧ (sat48At 28 x1 = (y1, n1)) ∧ (x2 = sgn 48 (s.rd Reg.BLK_S2.S2 u.val b) * 2 ^ 56 + s.coef u.val (128 + 8 * b + 2) * y1) ∧ (sat48At 56 x2 = (y2, n2)) ∧ (s.blkLimit u.val b (divHalfAway (s.coef u.val (128 + 8 * b + 0) * e + y1) (2 ^ 28)) = (y, lim)) ∧ (s.on Reg.BLK_CTRL.CI u.val b = false ∨ lim = false) :=
  by exact ⟨0, 0, 0x1800016b00000000, 0, wcode 0x1800016b00000000, _, _, _, _, _, _, _, _, _, by decide +kernel, by decide +kernel, rfl, rfl, rfl, rfl, rfl, rfl, rfl, by decide +kernel⟩

theorem witness_CedarBlocksTablesAndOutputs_3 :
    ∃ (u : Fin 8) (p : Fin 4) (w td i f den j : Nat) (s : State) (x : Int), (s.cedAt u.val p.val w = true) ∧ (wOp w = 0x1A) ∧ (td = wAux w % 8) ∧ (s.tluPos u.val td (s.operand u.val (wSa w)) = (i, f, den, j)) ∧ (s.eccBad = []) ∧ (divHalfAway (sgn 32 (s.word (s.tluAddr u.val td i)) * den + f * ((if f = 0 then sgn 32 (s.word (s.tluAddr u.val td i)) else sgn 32 (s.word (s.tluAddr u.val td j))) - sgn 32 (s.word (s.tluAddr u.val td i)))) den = x) :=
  by exact ⟨0, 0, 0x1A00016b00000000, 0, _, _, _, _, wcode 0x1A00016b00000000, _, by decide +kernel, by decide +kernel, rfl, rfl, rfl, rfl⟩

theorem witness_CedarBlocksTablesAndOutputs_4 :
    ∃ (u : Fin 8) (p : Fin 4) (w n : Nat) (s : State), (s.cedAt u.val p.val w = true) ∧ (wOp w = 0x20) ∧ (wAux w % 4 = 2) ∧ (s.stageOfLu u.val = some n) ∧ ((s.stgLegs n).contains (wDst w % 32) = true) :=
  ⟨0, 0, 0x2000036b00000002, 0, (((wcode 0x2000036b00000002).wr Reg.STG_DESC.KIND 0 1).wr Reg.STG_LEGS.LEGS 0 8), by decide +kernel⟩

theorem witness_CedarBlocksTablesAndOutputs_5 :
    ∃ (u : Fin 8) (p : Fin 4) (w n : Nat) (k : Fin 8) (s : State) (x : Int), (s.cedAt u.val p.val w = true) ∧ (wOp w = 0x20) ∧ (wAux w % 4 < 2) ∧ (s.stageOfLu u.val = some n) ∧ (n < 8) ∧ (s.tbOfLeg (wDst w % 32) = some k.val) ∧ (s.fcDrives n = false) ∧ (x = s.operand u.val (wSa w)) ∧ ((s.stgLegs n).contains (wDst w % 32) = true) :=
  ⟨0, 0, 0x2000036b00000000, 0, 0, (((wcode 0x2000036b00000000).wr Reg.STG_DESC.KIND 0 1).wr Reg.STG_LEGS.LEGS 0 8), 2 ^ 30, by decide +kernel⟩

theorem witness_CedarBlocksTablesAndOutputs_6 :
    ∃ (u : Fin 8) (ws : List StagedWr) (rest : List (List StagedWr)) (s : State), (s.present islCED = true) ∧ ((s.lu u.val).rel = ws :: rest) :=
  ⟨0, [⟨3, 2, 1⟩], [], litA.setLu 0 { LuS.init with rel := [[⟨3, 2, 1⟩]] }, by decide +kernel⟩

theorem witness_CedarBlocksTablesAndOutputs_7 :
    ∃ (u : Fin 8) (l : Nat) (rest : List Nat) (s : State), ((s.lu u.val).reqs = l :: rest) :=
  ⟨0, 2, [], litA.setLu 0 { LuS.init with reqs := [2] }, by decide +kernel⟩

theorem witness_CedarPrograms_0 :
    ∃ (m : Master) (u : Fin 8) (p : Fin 4) (s : State), (s.ready (Reg.LP_CFG.PEN.addr u.val p.val) = true) ∧ (s.lpHeld u.val p.val = false) :=
  ⟨.ash, 0, 0, litA, by decide +kernel⟩

theorem witness_CedarPrograms_1 :
    ∃ (m : Master) (u : Fin 8) (p : Fin 4) (s : State), (s.ready (Reg.LP_CFG.PEN.addr u.val p.val) = true) ∧ (s.lpHeld u.val p.val = true) :=
  ⟨.ash, 0, 0, litA.wr2 Reg.LP_CFG.PEN 0 0 1, by decide +kernel⟩

theorem witness_CedarPrograms_2 :
    ∃ (u : Fin 8) (p : Fin 4) (rest : List Nat) (s : State) (code : Nat), (s.present islCED = true) ∧ ((s.lu u.val).vq = p.val :: rest) ∧ (((s.setLu u.val { s.lu u.val with vq := rest }).wr2 Reg.LP_STAT.VALIDATING u.val p.val 0).lpCheck u.val p.val = code) ∧ (code ≠ 0) ∧ (code ≠ 9) ∧ (code < 16) :=
  ⟨0, 0, [], litA.setLu 0 { LuS.init with vq := [0] }, 1, by decide +kernel⟩

theorem witness_CedarPrograms_3 :
    ∃ (u : Fin 8) (p : Fin 4) (rest : List Nat) (s : State), (s.present islCED = true) ∧ ((s.lu u.val).vq = p.val :: rest) ∧ (((s.setLu u.val { s.lu u.val with vq := rest }).wr2 Reg.LP_STAT.VALIDATING u.val p.val 0).lpCheck u.val p.val = 0) :=
  ⟨0, 0, [], progOk, by decide +kernel⟩

theorem witness_CedarPrograms_4 :
    ∃ (m : Master) (u : Fin 8) (p : Fin 4) (s : State), (s.ready (Reg.LP_CFG.PEN.addr u.val p.val) = true) ∧ (s.on Reg.LP_STAT.VALIDATING u.val p.val = false) ∧ (s.on Reg.LP_CFG.PEN u.val p.val = true) ∧ (blocksOf (s.lpWords u.val p.val) = []) ∧ (s.on Reg.LU_STAT.SWAP_PEND u.val = false) :=
  ⟨.ash, 0, 0, litA.wr2 Reg.LP_CFG.PEN 0 0 1, by decide +kernel⟩

theorem witness_CedarPrograms_5 :
    ∃ (u : Fin 8) (p : Fin 4) (s : State), ((s.pulseAt (toProgram u.val p.val)).isSome = true) ∧ (s.present islCED = true) ∧ (∀ q < p.val, s.pulseAt (toProgram u.val q) ≠ s.pulseAt (toProgram u.val p.val)) :=
  ⟨0, 0, { litA with pulses := [⟨0, ⟨2, 0, 0x500, 0⟩⟩] }, by decide +kernel⟩

theorem witness_CedarPrograms_6 :
    ∃ (u : Fin 8) (p : Fin 4) (s : State), ((s.pulseAt (toProgram u.val p.val)).isSome = true) ∧ (s.present islCED = true) ∧ (∀ q < p.val, s.pulseAt (toProgram u.val q) ≠ s.pulseAt (toProgram u.val p.val)) ∧ (s.mayStart u.val p.val = true) ∧ (s.rd Reg.LP_CFG.START_SRC u.val p.val = 1) :=
  ⟨0, 0, { (litA.wr2 Reg.LP_CFG.PEN 0 0 1).wr2 Reg.LP_CFG.START_SRC 0 0 1 with pulses := [⟨0, ⟨2, 0, 0x500, 0⟩⟩] }, by decide +kernel⟩

theorem witness_CedarPrograms_7 :
    ∃ (u : Fin 8) (p : Fin 4) (rest : List Nat) (s : State), (s.present islCED = true) ∧ (s.on Reg.LU_STAT.FAULT u.val = false) ∧ ((s.lu u.val).run = none) ∧ ((s.lu u.val).queue = p.val :: rest) ∧ (s.on Reg.LU_STAT.SWAP_PEND u.val = false) ∧ (blocksOf (s.lpWords u.val p.val) = []) ∧ (s.on Reg.LU_CTRL.SP_HOLD u.val = false) :=
  ⟨0, 0, [], litA.setLu 0 { LuS.init with queue := [0] }, by decide +kernel⟩

theorem witness_CedarPrograms_8 :
    ∃ (m : Master) (u : Fin 8) (s : State), (s.ready (Reg.LU_CTRL.SWAP_REQ.addr u.val 0) = true) ∧ (s.on Reg.LU_STAT.SWAP_PEND u.val = false) ∧ (s.lpEnabled u.val ≠ []) :=
  ⟨.ash, 0, litA.wr2 Reg.LP_CFG.PEN 0 0 1, by decide +kernel⟩

theorem witness_CedarPrograms_9 :
    ∃ (m : Master) (u : Fin 8) (b : Fin 16) (s : State), (s.ready (Reg.BLK_CTRL.CLR.addr u.val b.val) = true) :=
  ⟨.ash, 0, 0, litA, by decide +kernel⟩

theorem witness_CedarPrograms_10 :
    ∃ (w : LinkWord) (rest : List LinkWord) (s : State), (s.linkq = w :: rest) ∧ (s.present islCED = true) :=
  ⟨⟨0, 0, 0, 0⟩, [], { litA with linkq := [⟨0, 0, 0, 0⟩] }, by decide +kernel⟩

theorem witness_CedarPrograms_11 :
    ∃ (s : State), (s.linkq = []) :=
  ⟨State.reset, by decide +kernel⟩

theorem witness_FieldChannels_0 :
    ∃ (m : Master) (n : Fin 8) (s : State), (s.ready (Reg.FC_CTRL.EN.addr n.val 0) = true) ∧ (s.on Reg.FC_CTRL.EN n.val = false) ∧ (s.on Reg.FC_TBL_STAT.SINE_RDY 0 = true) :=
  ⟨.ash, 0, litA.wr Reg.FC_TBL_STAT.SINE_RDY 0 1, by decide +kernel⟩

theorem witness_FieldChannels_1 :
    ∃ (m : Master) (n : Fin 8) (s : State), (s.ready (Reg.FC_CTRL.EN.addr n.val 0) = true) ∧ (s.on Reg.FC_CTRL.EN n.val = false) ∧ (s.on Reg.FC_TBL_STAT.SINE_RDY 0 = true) ∧ (s.stgKind n.val = 1 ∨ s.stgKind n.val = 2) ∧ (s.srcOk n.val = true) ∧ (s.claimBlock (n.val + 1) (s.fcClaim n.val) = none) :=
  ⟨.ash, 0, ((litA.wr Reg.FC_TBL_STAT.SINE_RDY 0 1).wr Reg.STG_DESC.KIND 0 1).wr Reg.FC_CFG.ANG_SRC 0 3, by decide +kernel⟩

theorem witness_FieldChannels_2 :
    ∃ (m : Master) (n : Fin 8) (s : State), (s.ready (Reg.FC_CTRL.EN.addr n.val 0) = true) ∧ (s.on Reg.FC_CTRL.EN n.val = false) :=
  ⟨.ash, 0, litA, by decide +kernel⟩

theorem witness_FieldChannels_3 :
    ∃ (m : Master) (n : Fin 8) (s : State), (s.ready (Reg.FC_CTRL.EN.addr n.val 0) = true) ∧ (s.on Reg.FC_CTRL.EN n.val = true) :=
  ⟨.ash, 0, litA.wr Reg.FC_CTRL.EN 0 1, by decide +kernel⟩

theorem witness_FieldChannels_4 :
    ∃ (m : Master) (n : Fin 8) (s : State), (s.ready (Reg.FC_CTRL.START.addr n.val 0) = true) :=
  ⟨.ash, 0, litA, by decide +kernel⟩

theorem witness_FieldChannels_5 :
    ∃ (m : Master) (n : Fin 8) (s : State), (s.ready (Reg.FC_CTRL.STOP.addr n.val 0) = true) :=
  ⟨.ash, 0, litA, by decide +kernel⟩

theorem witness_FieldChannels_6 :
    ∃ (n : Fin 8) (s : State), ((s.fc n.val).pulse = true) :=
  ⟨0, { litA.setFc 0 { FcS.init with pulseAt := some 0, pulse := true, pulseEnd := 100 } with now := 100000 }, by decide +kernel⟩

theorem witness_FieldChannels_7 :
    ∃ (n : Fin 8) (s : State), (s.fcState n.val = 4) ∧ ((s.fc n.val).since + s.rd Reg.FC_TIME.ALIGN_T n.val * 1024 ≤ s.now) ∧ (s.fcSensor n.val = false) :=
  ⟨0, { (litA.wr Reg.FC_STAT.STATE 0 4).wr Reg.FC_CFG.ANG_SRC 0 3 with now := 100000 }, by decide +kernel⟩

theorem witness_FieldChannels_8 :
    ∃ (n : Fin 8) (s : State), (s.fcState n.val = 4) ∧ ((s.fc n.val).since + s.rd Reg.FC_TIME.ALIGN_T n.val * 1024 ≤ s.now) ∧ (s.fcSensor n.val = true) :=
  ⟨0, { (litA.wr Reg.FC_STAT.STATE 0 4).wr Reg.FC_CFG.ANG_SRC 0 1 with now := 100000 }, by decide +kernel⟩

theorem witness_FieldChannels_9 :
    ∃ (n : Fin 8) (s : State), (s.fcState n.val = 4) ∧ ((s.fc n.val).pre = true) ∧ ((s.fc n.val).since + s.rd Reg.FC_TIME.ALIGN_T n.val * 512 ≤ s.now) :=
  ⟨0, { (litA.wr Reg.FC_STAT.STATE 0 4).setFc 0 { FcS.init with pre := true } with now := 100000 }, by decide +kernel⟩

theorem witness_FieldChannels_10 :
    ∃ (n : Fin 8) (w : Int) (s : State), (s.present islFPC = true) ∧ (s.fcState n.val = 5) ∧ ((s.fc n.val).since + 1024 ≤ s.now) ∧ (moveTo (s.fc n.val).w (s.fc n.val).wt (s.rd Reg.FC_ACC_X.RAMP_ACC n.val : Nat) = w) ∧ (w ≠ (s.fc n.val).wt) :=
  ⟨0, 16, { ((litA.wr Reg.FC_STAT.STATE 0 5).wr Reg.FC_ACC_X.RAMP_ACC 0 16).setFc 0 { FcS.init with wt := 100 } with now := 100000 }, by decide +kernel⟩

theorem witness_FieldChannels_11 :
    ∃ (n : Fin 8) (s : State), (s.present islFPC = true) ∧ (s.fcState n.val = 5) ∧ ((s.fc n.val).since + 1024 ≤ s.now) ∧ (moveTo (s.fc n.val).w (s.fc n.val).wt (s.rd Reg.FC_ACC_X.RAMP_ACC n.val : Nat) = (s.fc n.val).wt) ∧ (s.fcSrc n.val ≠ 4) :=
  ⟨0, { ((litA.wr Reg.FC_STAT.STATE 0 5).wr Reg.FC_ACC_X.RAMP_ACC 0 16).setFc 0 { FcS.init with wt := 10 } with now := 100000 }, by decide +kernel⟩

theorem witness_FieldChannels_12 :
    ∃ (n : Fin 8) (t0 : Nat) (s : State), ((s.fc n.val).tmo = some t0) ∧ (s.fcState n.val = 5 ∨ s.fcState n.val = 6) ∧ (t0 + s.rd Reg.FC_TIME.RAMP_TMO n.val * 1024 ≤ s.now) :=
  ⟨0, 0, { (litA.wr Reg.FC_STAT.STATE 0 5).setFc 0 { FcS.init with tmo := some 0 } with now := 100000 }, by decide +kernel⟩

theorem witness_FieldChannels_13 :
    ∃ (n : Fin 8) (s : State), (s.fcState n.val = 8) ∧ ((s.fc n.val).since + s.rd Reg.FC_WAIT.RETRY_WAIT n.val * 1024 ≤ s.now) :=
  ⟨0, { litA.wr Reg.FC_STAT.STATE 0 8 with now := 100000 }, by decide +kernel⟩

theorem witness_FieldChannels_14 :
    ∃ (s : State), (s.present islFPC = true) ∧ (s.on Reg.FC_TBL_STAT.SINE_RDY 0 = false) ∧ (s.tblq = []) ∧ (∀ n < 8, (s.fc n).enWait = false) :=
  by exact ⟨litA, by decide +kernel, by decide +kernel, rfl, fun _ _ => rfl⟩

theorem witness_FieldChannels_15 :
    ∃ (m : Master) (data : BitVec 32) (s : State), (s.reach islFPC = true) ∧ (s.on Reg.BASIC_CTRL.BUSY 5 = false) ∧ (s.on Reg.FC_TBL_STAT.SINE_RDY 0 = true) ∧ (tblSize (s.rd Reg.FC_TBL_ADDR.TBL 0) ≤ s.rd Reg.FC_TBL_ADDR.IDX 0) :=
  ⟨.ash, 0, ((litA.wr Reg.FC_TBL_STAT.SINE_RDY 0 1).wr Reg.FC_TBL_ADDR.TBL 0 1).wr Reg.FC_TBL_ADDR.IDX 0 2000, by decide +kernel⟩

theorem witness_FieldChannels_16 :
    ∃ (m : Master) (data : BitVec 32) (s : State), (s.reach islFPC = true) ∧ (s.on Reg.BASIC_CTRL.BUSY 5 = false) ∧ (s.on Reg.FC_TBL_STAT.SINE_RDY 0 = true) ∧ (s.rd Reg.FC_TBL_ADDR.IDX 0 < tblSize (s.rd Reg.FC_TBL_ADDR.TBL 0)) ∧ (s.on Reg.FC_TBL_ADDR.AINC 0 = false) ∧ (s.eccBad = []) :=
  ⟨.ash, 5, litA.wr Reg.FC_TBL_STAT.SINE_RDY 0 1, by decide +kernel⟩

theorem witness_FieldChannels_17 :
    ∃ (m : Master) (n : Fin 8) (s : State), (s.ready (Reg.FC_CTRL.OFFS_STORE.addr n.val 0) = true) :=
  ⟨.ash, 0, litA, by decide +kernel⟩

theorem witness_PositionResolversAndEmulators_0 :
    ∃ (n : Fin 4) (lv : BitVec 7) (s : State), (s.present islFPC = true) ∧ (s.posEn n.val = false) :=
  ⟨0, 0, litA, by decide +kernel⟩

theorem witness_PositionResolversAndEmulators_1 :
    ∃ (n : Fin 4) (lv : BitVec 7) (s : State), (s.present islFPC = true) ∧ (s.posEn n.val = true) ∧ (s.posMode n.val = 0) ∧ ((s.pos n.val).lvl = 0) ∧ (((List.range 7).map fun b => if bitAt lv.toNat b && s.posRouted n.val b then 2 ^ b else 0).sum = 1) ∧ (s.on Reg.POS_FLT.REVDIR n.val = false) ∧ (s.on Reg.POS_FLT.ZGATE n.val = false) ∧ (s.rd Reg.POS_CNT.COUNT n.val + 1 < s.cpr n.val) ∧ (s.rd Reg.POS_CNT.COUNT n.val + 1 < 16777216) ∧ (s.rd Reg.POS_FLT.FILT_N n.val ≤ s.now / 2 - ((s.pos n.val).since.getD 0 none).getD (s.now / 2) + 1) :=
  ⟨0, 1, { (((litA.wr Reg.POS_CTRL.EN 0 1).wr Reg.POS_CFG.LINES 0 100).wr Reg.POS_FLT.FILT_N 0 1) with routes := [⟨6, 0, 0x600, 0⟩] }, by decide +kernel⟩

theorem witness_PositionResolversAndEmulators_2 :
    ∃ (n : Fin 4) (es : List (Int × Nat)) (s : State), (s.present islFPC = true) ∧ (s.posEn n.val = true) ∧ (s.posMode n.val = 0) ∧ ((s.pos n.val).est + 128 ≤ s.now) ∧ (s.keptEdges n.val = es) :=
  ⟨0, [], { litA.wr Reg.POS_CTRL.EN 0 1 with now := 1000 }, by decide +kernel⟩

theorem witness_PositionResolversAndEmulators_3 :
    ∃ (n : Fin 4) (s : State), (s.present islFPC = true) ∧ (s.posEn n.val = true) ∧ (s.posMode n.val = 1) ∧ ((s.pos n.val).at0 + s.rd Reg.POS_SPDC.SPD_TMO n.val * 1024 ≤ s.now) :=
  ⟨0, { (litA.wr Reg.POS_CTRL.EN 0 1).wr Reg.POS_CTRL.MODE 0 1 with now := 1000000 }, by decide +kernel⟩

theorem witness_PositionResolversAndEmulators_4 :
    ∃ (m : Master) (n : Fin 4) (v : BitVec 24) (s : State), (s.ready (Reg.POS_CNT.COUNT.addr n.val 0) = true) :=
  ⟨.ash, 0, 0, litA, by decide +kernel⟩

theorem witness_PositionResolversAndEmulators_5 :
    ∃ (n : Fin 4) (s : State), (s.present islFPC = true) ∧ ((s.pos n.val).busy = true) ∧ ((s.pos n.val).reqAt + s.ssiLen n.val ≤ s.now) :=
  ⟨0, { litA.setPos 0 { PosS.init with busy := true } with now := 100000 }, by decide +kernel⟩

theorem witness_PositionResolversAndEmulators_6 :
    ∃ (r : Fin 2) (negPeak : Bool) (nvS nvC : Int) (s : State) (sn cs : Int), (s.excRuns r.val = true) ∧ (s.excPeak r.val negPeak = true) ∧ (s.present (islAdc (s.rd Reg.RS_ADC.SIN_ADC r.val)) = true) ∧ (s.present (islAdc (s.rd Reg.RS_ADC.COS_ADC r.val)) = true) ∧ (sn = (if negPeak then -1 else 1) * (((s.correct (s.rd Reg.RS_ADC.SIN_ADC r.val) (rawCode nvS)).1 : Int) - 32768)) ∧ (cs = (if negPeak then -1 else 1) * (((s.correct (s.rd Reg.RS_ADC.COS_ADC r.val) (rawCode nvC)).1 : Int) - 32768)) :=
  by exact ⟨0, false, 0, 0, ((litA.wr Reg.RS_CTRL.EN 0 1).wr Reg.RS_EXC.FTW 0 65536).setRsv 0 { RsS.init with exc := 2 ^ 30 }, _, _, by decide +kernel, by decide +kernel, by decide +kernel, by decide +kernel, rfl, rfl⟩

theorem witness_PositionResolversAndEmulators_7 :
    ∃ (r : Fin 2) (s : State), (s.present islFPC = true) ∧ (s.present islRXC = true) ∧ (s.on Reg.RS_CTRL.EN r.val = true) :=
  ⟨0, litA.wr Reg.RS_CTRL.EN 0 1, by decide +kernel⟩

theorem witness_PositionResolversAndEmulators_8 :
    ∃ (m : Master) (n : Fin 4) (s : State), (s.ready (Reg.POS_CTRL.EN.addr n.val 0) = true) :=
  ⟨.ash, 0, litA, by decide +kernel⟩

theorem witness_PositionResolversAndEmulators_9 :
    ∃ (m : Master) (r : Fin 2) (s : State), (s.ready (Reg.RS_CTRL.EN.addr r.val 0) = true) ∧ (s.on Reg.RS_CTRL.EN r.val = false) :=
  ⟨.ash, 0, litA, by decide +kernel⟩

theorem witness_PositionResolversAndEmulators_10 :
    ∃ (m : Master) (r : Fin 2) (s : State), (s.ready (Reg.RS_CTRL.EN.addr r.val 0) = true) ∧ (s.on Reg.RS_CTRL.EN r.val = false) ∧ (1 ≤ s.rd Reg.RS_PH.ELEC_MUL r.val) ∧ (s.rd Reg.RS_PH.ELEC_MUL r.val ≤ 32) ∧ (s.rd Reg.RS_TRK.KP r.val ≠ 0) ∧ (s.rd Reg.RS_TRK.KI r.val ≠ 0) ∧ (s.rd Reg.RS_ADC.SIN_ADC r.val ≠ s.rd Reg.RS_ADC.COS_ADC r.val) ∧ (s.paired (s.rd Reg.RS_ADC.SIN_ADC r.val) = false) ∧ (s.paired (s.rd Reg.RS_ADC.COS_ADC r.val) = false) ∧ (s.claimBlock (s.rsOwner r.val) [0xB00 + r.val, 0x200 + s.rd Reg.RS_ADC.SIN_ADC r.val, 0x200 + s.rd Reg.RS_ADC.COS_ADC r.val] = none) :=
  ⟨.ash, 0, (((litA.wr Reg.RS_PH.ELEC_MUL 0 1).wr Reg.RS_TRK.KP 0 1).wr Reg.RS_TRK.KI 0 1).wr Reg.RS_ADC.COS_ADC 0 1, by decide +kernel⟩

theorem witness_PositionResolversAndEmulators_11 :
    ∃ (m : Master) (r : Fin 2) (s : State), (s.ready (Reg.RS_CTRL.EN.addr r.val 0) = true) ∧ (s.on Reg.RS_CTRL.EN r.val = true) ∧ (s.sensorUsed 2 r.val = true) :=
  ⟨.ash, 0, ((litA.wr Reg.RS_CTRL.EN 0 1).wr Reg.FC_CTRL.EN 0 1).wr Reg.FC_CFG.ANG_SRC 0 2, by decide +kernel⟩

theorem witness_PositionResolversAndEmulators_12 :
    ∃ (m : Master) (n : Fin 4) (s : State), (s.ready (Reg.POS_STAT.FAULT.addr n.val 0) = true) ∧ (s.on Reg.POS_STAT.FAULT n.val = true) :=
  ⟨.ash, 0, litA.wr Reg.POS_STAT.FAULT 0 1, by decide +kernel⟩

theorem witness_PositionResolversAndEmulators_13 :
    ∃ (m : Master) (r : Fin 2) (s : State), (s.ready (Reg.RS_STAT.FAULT.addr r.val 0) = true) ∧ (s.on Reg.RS_STAT.FAULT r.val = true) :=
  ⟨.ash, 0, litA.wr Reg.RS_STAT.FAULT 0 1, by decide +kernel⟩

theorem witness_PositionResolversAndEmulators_14 :
    ∃ (m : Master) (e : Fin 4) (s : State), (s.ready (Reg.EMU_CTRL.EN.addr e.val 0) = true) ∧ (s.on Reg.EMU_CTRL.EN e.val = false) :=
  ⟨.ash, 0, litA, by decide +kernel⟩

theorem witness_PositionResolversAndEmulators_15 :
    ∃ (m : Master) (e : Fin 4) (s : State), (s.ready (Reg.EMU_CTRL.EN.addr e.val 0) = true) ∧ (s.on Reg.EMU_CTRL.EN e.val = false) ∧ (1 ≤ s.rd Reg.EMU_PQ.P e.val) ∧ (s.rd Reg.EMU_PQ.P e.val ≤ s.rd Reg.EMU_PQ.Q e.val) ∧ (s.rd Reg.EMU_CTRL.SRC e.val ≤ 5) ∧ (s.rd Reg.EMU_CTRL.MINT e.val ≠ 0) ∧ (hasDup (s.emuPins e.val) = false) ∧ (s.claimBlock (0x20 + e.val) ((s.emuPins e.val).map (0xA00 + ·)) = none) :=
  ⟨.ash, 0, (((litA.wr Reg.EMU_PQ.P 0 1).wr Reg.EMU_PQ.Q 0 1).wr Reg.EMU_CTRL.MINT 0 1).wr Reg.EMU_PINS.PIN_B 0 1, by decide +kernel⟩

theorem witness_PositionResolversAndEmulators_16 :
    ∃ (e : Fin 4) (s : State), (s.present islFPC = true) ∧ (s.on Reg.EMU_CTRL.EN e.val = true) ∧ (0 < s.rdI Reg.EMU_STAT.BACKLOG e.val) ∧ ((s.emu e.val).stepAt = none) :=
  ⟨0, (litA.wr Reg.EMU_CTRL.EN 0 1).wr Reg.EMU_STAT.BACKLOG 0 3, by decide +kernel⟩

theorem witness_PositionResolversAndEmulators_17 :
    ∃ (e : Fin 4) (s : State), (s.rdI Reg.EMU_STAT.BACKLOG e.val = 0) :=
  ⟨0, State.reset, by decide +kernel⟩

theorem witness_RowanRequestsAndRefresh_0 :
    ∃ (s : State), (s.rowanLoops = true) :=
  ⟨litA.wr Reg.IMG_STATUS.STATE 0 2, by decide +kernel⟩

theorem witness_RowanRequestsAndRefresh_1 :
    ∃ (s : State), (s.rowanRuns = false) :=
  ⟨State.reset, by decide +kernel⟩

theorem witness_RowanRequestsAndRefresh_2 :
    ∃ (k : Fin 4) (s : State) (w0 : Nat), (s.rowanLoops = true) ∧ (s.mbState (60 + k.val) = 2) ∧ (w0 = s.mbWord (60 + k.val) 0) ∧ ((s.mbWords (60 + k.val)).length ≠ 8) ∧ (s.links.control = false) :=
  by exact ⟨0, ((litA.wr Reg.MB_STAT.STATE 60 2).wr Reg.IMG_STATUS.STATE 0 2), _, by decide +kernel, by decide +kernel, rfl, by decide +kernel, rfl⟩

theorem witness_RowanRequestsAndRefresh_3 :
    ∃ (k : Fin 4) (s : State) (w0 n : Nat), (s.rowanLoops = true) ∧ (s.mbState (60 + k.val) = 2) ∧ (w0 = s.mbWord (60 + k.val) 0) ∧ (n = bits w0 8 4) ∧ ((s.mbWords (60 + k.val)).length = 8) ∧ (crcWords ((s.mbWords (60 + k.val)).take 7) = (s.mbWords (60 + k.val)).getD 7 0) ∧ (s.rowg.seqs.getD k.val none = none) ∧ (n < 8) ∧ (s.stgKind n ≠ 0) ∧ (s.links.control = false) :=
  by exact ⟨0, (reqMb 3).wr Reg.IMG_STATUS.STATE 0 2, _, _, by decide +kernel, by decide +kernel, rfl, rfl, by decide +kernel, by decide +kernel, by decide +kernel, by decide +kernel, by decide +kernel, rfl⟩

theorem witness_RowanRequestsAndRefresh_4 :
    ∃ (s : State), (s.rowanRuns = true) :=
  ⟨litA, by decide +kernel⟩

theorem witness_RowanRequestsAndRefresh_5 :
    ∃ (s : State), (s.rowanRuns = true) ∧ (s.on Reg.PWR_STATUS.VLV_OK = false) ∧ (s.pwr.vlvAt + 500000 ≤ s.now) ∧ (s.rd Reg.ROW_STATUS.LV_LOST 0 = 0) ∧ (∀ n < 8, s.on Reg.ROW_MECH.AUTO_DISCH n = false) :=
  by exact ⟨{ litA.wr Reg.PWR_STATUS.VLV_OK 0 0 with now := 500000 }, by decide +kernel, by decide +kernel, by decide +kernel, by decide +kernel, by decide +kernel⟩

theorem witness_RowanRequestsAndRefresh_6 :
    ∃ (s : State), (s.rowanRuns = true) ∧ (s.rowg.repAt + 5000 ≤ s.now) ∧ (s.safeEnabled = true) :=
  ⟨{ (((litA.wr Reg.STG_DESC.KIND 0 1).wr Reg.STG_DESC.ATTR 0 1).wr Reg.STG_CTRL.EN 0 1) with now := 5000 }, by decide +kernel⟩

theorem witness_RowanRequestsAndRefresh_7 :
    ∃ (n : Fin 8) (s : State), (s.rowanRuns = true) ∧ ((s.row n.val).meth = 1) ∧ (s.rd Reg.ROW_MECH.DIS_STG n.val < 8) ∧ (s.rd Reg.STG_TRIP.SS (s.rd Reg.ROW_MECH.DIS_STG n.val) = 3) :=
  ⟨0, (litA.setRow 0 { RowS.init with meth := 1 }).wr Reg.STG_TRIP.SS 0 3, by decide +kernel⟩

theorem witness_MailboxesDoorbellsAndSemaphores_0 :
    ∃ (m : Master) (n : Fin 64) (w : Fin 16) (v : BitVec 32) (s : State), (s.reach islMSG = true) ∧ (s.mbState n.val = 0) ∧ (s.masterNo m < 8) :=
  ⟨.ash, 0, 0, 5, litA, by decide +kernel⟩

theorem witness_MailboxesDoorbellsAndSemaphores_1 :
    ∃ (m : Master) (n : Fin 64) (v : BitVec 32) (s : State), (s.reach islMSG = true) ∧ (s.mbState n.val = 1) ∧ (s.rd Reg.MB_STAT.FILLER n.val = s.masterNo m) :=
  ⟨.ash, 0, 5, litA.wr Reg.MB_STAT.STATE 0 1 |>.wr Reg.MB_STAT.FILLER 0 0, by decide +kernel⟩

theorem witness_MailboxesDoorbellsAndSemaphores_2 :
    ∃ (m : Master) (n : Fin 64) (w : Fin 16) (v : BitVec 32) (s : State), (s.mbMayFill n.val (s.masterNo m) = false ∨ s.reach islMSG = false) :=
  ⟨.ash, 0, 0, 5, litA.wr Reg.MB_STAT.STATE 0 2, by decide +kernel⟩

theorem witness_MailboxesDoorbellsAndSemaphores_3 :
    ∃ (m : Master) (n : Fin 64) (s : State), (s.reach islMSG = true) ∧ (s.mbState n.val = 1) ∧ (s.rd Reg.MB_STAT.FILLER n.val = s.masterNo m) ∧ (8 ≤ s.rd Reg.MB_HDR.LEN n.val) ∧ (s.rd Reg.MB_HDR.LEN n.val ≤ 16) :=
  ⟨.ash, 0, ((litA.wr Reg.MB_STAT.STATE 0 1).wr Reg.MB_STAT.FILLER 0 0).wr Reg.MB_HDR.LEN 0 8, by decide +kernel⟩

theorem witness_MailboxesDoorbellsAndSemaphores_4 :
    ∃ (m : Master) (n : Fin 64) (s : State), (s.reach islMSG = true) ∧ (s.mbState n.val = 1) ∧ (s.rd Reg.MB_STAT.FILLER n.val = s.masterNo m) ∧ (8 ≤ s.rd Reg.MB_HDR.LEN n.val) ∧ (s.rd Reg.MB_HDR.LEN n.val ≤ 16) ∧ (s.mbRx n.val = 6) ∧ (s.masterNo m < 8) :=
  ⟨.ash, 60, ((litA.wr Reg.MB_STAT.STATE 60 1).wr Reg.MB_STAT.FILLER 60 0).wr Reg.MB_HDR.LEN 60 8, by decide +kernel⟩

theorem witness_MailboxesDoorbellsAndSemaphores_5 :
    ∃ (m : Master) (n : Fin 64) (s : State), (s.reach islMSG = true) :=
  ⟨.ash, 0, litA, by decide +kernel⟩

theorem witness_MailboxesDoorbellsAndSemaphores_6 :
    ∃ (m : Master) (n : Fin 64) (rx : Fin 8) (notify : Bool) (db : Fin 32) (s : State), (s.ready (Reg.MB_CFG.RX.addr n.val 0) = true) :=
  ⟨.ash, 0, 0, false, 0, litA, by decide +kernel⟩

theorem witness_MailboxesDoorbellsAndSemaphores_7 :
    ∃ (m : Master) (e : Fin 6) (v ring : BitVec 32) (s : State), (s.ready (Reg.DB_RING.RING.addr e.val 0) = true) ∧ (s.ready (Reg.DB_PEND.PEND.addr e.val 0) = true) ∧ (s.rd Reg.DB_PEND.PEND e.val < 4294967296) :=
  ⟨.ash, 0, 3, 0, litA, by decide +kernel⟩

theorem witness_MailboxesDoorbellsAndSemaphores_8 :
    ∃ (n : Fin 64) (m : Master) (s : State), (s.reach islMSG = true) ∧ (s.semHolder n.val = 7) ∧ (s.masterNo m < 6) :=
  ⟨0, .ash, litA, by decide +kernel⟩

theorem witness_MailboxesDoorbellsAndSemaphores_9 :
    ∃ (n : Fin 64) (m : Master) (s : State), (s.reach islMSG = true) ∧ (s.semHolder n.val ≠ 7) :=
  ⟨0, .ash, litA.setSem 0 2, by decide +kernel⟩

theorem witness_MailboxesDoorbellsAndSemaphores_10 :
    ∃ (n : Fin 64) (m : Master) (s : State), (s.ready (Reg.SEM_ACQ.WORD.addr n.val 0) = true) :=
  ⟨0, .ash, litA, by decide +kernel⟩

theorem witness_HostPorts_0 :
    ∃ (p : Fin 2) (addr : BitVec 32) (env : BusEnv) (s : State), (s.hpUp p.val = true) :=
  ⟨0, 0, env0, litA, by decide +kernel⟩

theorem witness_HostPorts_1 :
    ∃ (p : Fin 2) (addr : BitVec 32) (n : BitVec 8) (env : BusEnv) (s : State), (s.hpUp p.val = true) :=
  ⟨0, 0, 1, env0, litA, by decide +kernel⟩

theorem witness_HostPorts_2 :
    ∃ (p : Fin 2) (addr : BitVec 32) (ws : List (BitVec 32)) (s : State), (s.hpUp p.val = true) ∧ ((s.hp p.val).buf.length + ws.length ≤ 64) :=
  ⟨0, 0, [], litA, by decide +kernel⟩

theorem witness_HostPorts_3 :
    ∃ (p : Fin 2) (addr : BitVec 32) (ws : List (BitVec 32)) (s : State), (s.hpUp p.val = true) ∧ (64 < (s.hp p.val).buf.length + ws.length) ∧ ((s.hp p.val).buf.length ≤ 64) :=
  ⟨0, 0, List.replicate 65 0, litA, by decide +kernel⟩

theorem witness_HostPorts_4 :
    ∃ (p : Fin 2) (s : State), (s.hpUp p.val = true) :=
  ⟨0, litA, by decide +kernel⟩

theorem witness_HostPorts_5 :
    ∃ (p : Fin 2) (s : State), (s.hpUp p.val = true) :=
  ⟨0, litA, by decide +kernel⟩

theorem witness_HostPorts_6 :
    ∃ (p : Fin 2) (env : BusEnv) (a v : Nat) (rest : List (Nat × Nat)) (s : State), (s.present islMSG = true) ∧ ((s.hp p.val).buf = (a, v) :: rest) :=
  ⟨0, env0, 0x40000000, 5, [], litA.setHp 0 { HpS.init with buf := [(0x40000000, 5)] }, by decide +kernel⟩

theorem witness_HostPorts_7 :
    ∃ (p : Fin 2) (env : BusEnv) (s : State), ((s.hp p.val).buf = []) :=
  ⟨0, env0, State.reset, by decide +kernel⟩

theorem witness_HostPorts_8 :
    ∃ (p : Fin 2) (addr : BitVec 32) (n : BitVec 8) (ws : List (BitVec 32)) (env : BusEnv) (s : State), (s.hpUp p.val = true) ∧ (1 ≤ n.toNat) ∧ (n.toNat ≤ 64) :=
  ⟨0, 0, 1, [], env0, litA, by decide +kernel⟩

theorem witness_CommitVoter_0 :
    ∃ (pc : BitVec 32) (i : Fin 64) (v : BitVec 32) (env : BusEnv) (s : State), (s.present islCPX = true) ∧ (s.on Reg.CPX_STATUS.PAUSED = false) ∧ (s.mode = 0) ∧ (s.act = 7) ∧ (s.on Reg.CPX_INJ.GO = false) ∧ (i ≠ 0) :=
  ⟨0, 1, 5, env0, litA.wr Reg.CPX_STATUS.ACT 0 7, by decide +kernel⟩

theorem witness_CommitVoter_1 :
    ∃ (pc : BitVec 32) (c : Fin 3) (i : Fin 64) (v w : BitVec 32) (env : BusEnv) (s : State), (s.present islCPX = true) ∧ (s.on Reg.CPX_STATUS.PAUSED = false) ∧ (s.mode = 0) ∧ (s.act = 7) ∧ (s.on Reg.CPX_INJ.GO = false) ∧ (i ≠ 0) ∧ (v ≠ w) :=
  ⟨0, 2, 1, 5, 6, env0, litA.wr Reg.CPX_STATUS.ACT 0 7, by decide +kernel⟩

theorem witness_CommitVoter_2 :
    ∃ (pc : BitVec 32) (i : Fin 64) (u v w : BitVec 32) (env : BusEnv) (s : State), (s.present islCPX = true) ∧ (s.on Reg.CPX_STATUS.PAUSED = false) ∧ (s.mode = 0) ∧ (s.act = 7) ∧ (s.on Reg.CPX_INJ.GO = false) ∧ (u ≠ v) ∧ (u ≠ w) ∧ (v ≠ w) :=
  ⟨0, 1, 5, 6, 7, env0, litA.wr Reg.CPX_STATUS.ACT 0 7, by decide +kernel⟩

theorem witness_CommitVoter_3 :
    ∃ (pc : BitVec 32) (i : Fin 64) (u v : BitVec 32) (x : Option Item) (env : BusEnv) (s : State), (s.present islCPX = true) ∧ (s.on Reg.CPX_STATUS.PAUSED = false) ∧ (s.mode = 2) ∧ (s.act = 3) ∧ (s.on Reg.CPX_INJ.GO = false) ∧ (u ≠ v) :=
  ⟨0, 1, 5, 6, none, env0, (litA.wr Reg.CPX_STATUS.ACT 0 3).wr Reg.CPX_STATUS.MODE 0 2, by decide +kernel⟩

theorem witness_ComplexModes_0 :
    ∃ (g : BitVec 32) (s : State), (s.present islCPX = true) ∧ (s.mode = 0) ∧ (s.act = 7) ∧ (s.cpx.excl = 0) ∧ (s.on Reg.CPX_CTRL.SPLIT = false) ∧ (s.cpx.rst = 0) ∧ (s.cpx.syncAt ≤ s.now) :=
  ⟨5, litA.wr Reg.CPX_STATUS.ACT 0 7, by decide +kernel⟩

theorem witness_ComplexModes_1 :
    ∃ (g : BitVec 32) (s : State), (s.present islCPX = true) ∧ (s.mode = 0) ∧ (s.act = 7) ∧ (s.cpx.excl = 0) ∧ (s.on Reg.CPX_CTRL.SPLIT = true) ∧ (s.cpx.syncAt ≤ s.now) :=
  ⟨5, (litA.wr Reg.CPX_STATUS.ACT 0 7).wr Reg.CPX_CTRL.SPLIT 0 1, by decide +kernel⟩

theorem witness_ComplexModes_2 :
    ∃ (g d : BitVec 32) (s : State), (s.present islCPX = true) ∧ (s.mode = 0) ∧ (s.act = 7) ∧ (s.cpx.excl = 0) ∧ (s.on Reg.CPX_CTRL.SPLIT = false) ∧ (s.cpx.rst = 0) ∧ (s.cpx.cnt.getD 2 0 + 1 < s.cpx.kRet) ∧ (s.cpx.cnt.length = 3) ∧ (g ≠ d) ∧ (s.cpx.syncAt ≤ s.now) :=
  ⟨5, 6, litA.wr Reg.CPX_STATUS.ACT 0 7, by decide +kernel⟩

theorem witness_ComplexModes_4 :
    ∃ (s : State), (s.present islCPX = true) :=
  ⟨litA, by decide +kernel⟩

theorem witness_ComplexModes_5 :
    ∃ (a b : Nat) (pass : BitVec 4) (s : State), (s.present islCPX = true) ∧ (s.mode = 3) ∧ (coresOf s.cpx.test = [a, b]) ∧ (s.cpx.dis = false) ∧ (s.cpx.chkWait = false) ∧ (s.cpx.trans = []) ∧ (s.on Reg.CPX_CTRL.PAUSE = false) :=
  ⟨0, 1, 1, (litA.wr Reg.CPX_STATUS.MODE 0 3).setCpx { CpxS.init with test := 3 }, by decide +kernel⟩

theorem witness_ComplexModes_6 :
    ∃ (r : Fin 4) (s : State), (s.present islCPX = true) ∧ (s.cpx.testAt ≤ s.now) :=
  ⟨0, litA, by decide +kernel⟩

theorem witness_ComplexControls_0 :
    ∃ (m : Master) (s : State), (s.ready (Reg.CPX_CTRL.SPLIT.addr 0 0) = true) :=
  ⟨.ash, litA, by decide +kernel⟩

theorem witness_ComplexControls_1 :
    ∃ (c : Fin 3) (s : State), (s.ready (Reg.CPX_CTRL.JOIN_RDY.addr 0 0) = true) ∧ (s.dcache = []) :=
  ⟨0, litA, by decide +kernel⟩

theorem witness_ComplexControls_2 :
    ∃ (m : Master) (s : State), (s.ready (Reg.CPX_CTRL.JOIN.addr 0 0) = true) :=
  ⟨.ash, litA, by decide +kernel⟩

theorem witness_ComplexControls_3 :
    ∃ (m : Master) (core : Fin 3) (s : State), (s.ready (Reg.CPX_CTRL.CRST.addr 0 0) = true) :=
  ⟨.ash, 0, litA, by decide +kernel⟩

theorem witness_ComplexControls_4 :
    ∃ (m : Master) (s : State), (s.ready (Reg.CPX_CTRL.PAUSE.addr 0 0) = true) :=
  ⟨.h0, litA, by decide +kernel⟩

theorem witness_ComplexControls_5 :
    ∃ (m : Master) (core : Fin 4) (bit : Fin 32) (s : State), (s.ready (Reg.CPX_INJ.GO.addr 0 0) = true) :=
  ⟨.ash, 0, 0, litA, by decide +kernel⟩

theorem witness_ComplexControls_7 :
    ∃ (core : Fin 3) (s : State), (s.present islCPX = true) :=
  ⟨0, litA, by decide +kernel⟩

theorem witness_ComplexControls_8 :
    ∃ (src : Fin 64) (s : State), (s.present islCPX = true) :=
  ⟨0, litA, by decide +kernel⟩

theorem witness_ChainPorts_0 :
    ∃ (p : Fin 2) (d : Nat) (eq : List (Fin 16 × Fin 16)) (s : State), (s.chOn = true) ∧ (s.chUp p.val = false) ∧ (s.on Reg.PLL_STAT.LOCK 2 = true) :=
  ⟨0, 5, [], (litA.wr Reg.CH_CFG.EN 0 1).wr Reg.PLL_STAT.LOCK 2 1, by decide +kernel⟩

theorem witness_ChainPorts_1 :
    ∃ (p : Fin 2) (d : Nat) (eq : List (Fin 16 × Fin 16)) (s : State), (s.chOn = false ∨ s.chUp p.val = true ∨ s.on Reg.PLL_STAT.LOCK 2 = false) :=
  ⟨0, 5, [], State.reset, by decide +kernel⟩

theorem witness_ChainPorts_4 :
    ∃ (p : Fin 2) (s : State), (s.chOn = true) ∧ (s.chUp p.val = true) ∧ (s.chWrapped p.val = true) :=
  ⟨0, ((litA.wr Reg.CH_CFG.EN 0 1).wr Reg.CH_PORT.UP 0 1).wr Reg.CH_PORT.WRAP 0 1, by decide +kernel⟩

theorem witness_ChainPorts_5 :
    ∃ (p : Fin 2) (lane : Fin 3) (errs : BitVec 16) (unlocked : Bool) (s : State), (s.chOn = true) ∧ (s.chUp p.val = true) ∧ (s.chLaneUsed p.val lane.val = true) :=
  ⟨0, 0, 5, false, (litA.wr Reg.CH_CFG.EN 0 1).wr Reg.CH_PORT.UP 0 1, by decide +kernel⟩

theorem witness_ChainPorts_6 :
    ∃ (p : Fin 2) (lane : Fin 2) (s : State), (s.chOn = true) ∧ (s.chUp p.val = true) :=
  ⟨0, 0, (litA.wr Reg.CH_CFG.EN 0 1).wr Reg.CH_PORT.UP 0 1, by decide +kernel⟩

theorem witness_ChainPorts_7 :
    ∃ (p : Fin 2) (sub : Fin 64) (turn : Nat) (s : State), (s.chOn = true) ∧ (s.chUp p.val = true) :=
  ⟨0, 0, 5, (litA.wr Reg.CH_CFG.EN 0 1).wr Reg.CH_PORT.UP 0 1, by decide +kernel⟩

theorem witness_ChainFrames_0 :
    ∃ (p : Fin 2) (f : ChFrame) (first : Bool) (s : State), (s.chOn = true) ∧ (s.chUp p.val = true) ∧ (f.bad = true) :=
  ⟨0, ⟨0, 0, [], 0⟩, true, (litA.wr Reg.CH_CFG.EN 0 1).wr Reg.CH_PORT.UP 0 1, by decide +kernel⟩

theorem witness_ChainFrames_1 :
    ∃ (p : Fin 2) (f : ChFrame) (first : Bool) (s : State), (s.chOn = true) ∧ (s.chUp p.val = true) ∧ (f.bad = false) ∧ (f.typ = 1) ∧ (s.on Reg.CH_STATUS.ADDR_OK = true) ∧ (f.dest = s.rd Reg.CH_STATUS.ADDR) ∧ (s.rd Reg.CH_STATUS.ADDR < 64) :=
  ⟨0, ⟨BitVec.ofNat 32 1, 0, [], BitVec.ofNat 32 (crcWords [1, 0])⟩, true, ((litA.wr Reg.CH_CFG.EN 0 1).wr Reg.CH_PORT.UP 0 1).wr Reg.CH_STATUS.ADDR_OK 0 1, by decide +kernel⟩

theorem witness_ChainFrames_2 :
    ∃ (p : Fin 2) (f : ChFrame) (s : State), (s.chOn = true) ∧ (s.chUp p.val = true) ∧ (f.bad = false) ∧ (f.dest = 255) ∧ (f.src ≠ s.rd Reg.CH_STATUS.ADDR) ∧ (s.rd Reg.CH_STATUS.ADDR < 64) :=
  ⟨0, ⟨BitVec.ofNat 32 0x01FF01, 0, [], BitVec.ofNat 32 (crcWords [0x01FF01, 0])⟩, (litA.wr Reg.CH_CFG.EN 0 1).wr Reg.CH_PORT.UP 0 1, by decide +kernel⟩

theorem witness_ChainFrames_3 :
    ∃ (m : Master) (s : State), (s.ready (Reg.CH_TX_CTRL.GO.addr 0 0) = true) :=
  ⟨.ash, litA, by decide +kernel⟩

theorem witness_ChainFrames_4 :
    ∃ (dest len off : Nat) (rest : List (Nat × Nat × Nat)) (s : State), (s.ch.queue = (dest, len, off) :: rest) :=
  ⟨1, 2, 3, [], { litA with ch := { ChS.init with queue := [(1, 2, 3)] } }, by decide +kernel⟩

theorem witness_ChainFrames_5 :
    ∃ (m : Master) (keep : Bool) (s : State), (s.ready (Reg.CH_CMD.ENUM.addr 0 0) = true) :=
  ⟨.ash, true, litA, by decide +kernel⟩

theorem witness_ChainFrames_7 :
    ∃ (w : List Nat) (s : State), (s.rd Reg.CH_STATUS.ADDR_OK = 0) :=
  ⟨[], State.reset, by decide +kernel⟩

theorem witness_ChainModeChange_0 :
    ∃ (m : Master) (per : BitVec 24) (s : State), (s.ready (Reg.CH_CSYNC.ARM.addr 0 0) = true) :=
  ⟨.ash, 5, litA, by decide +kernel⟩

theorem witness_ChainModeChange_2 :
    ∃ (m : Master) (id : BitVec 16) (s : State), (s.ready (Reg.CH_MC_CTRL.PREPARE.addr 0 0) = true) :=
  ⟨.ash, 5, litA, by decide +kernel⟩

theorem witness_ChainModeChange_4 :
    ∃ (p : Fin 2) (f : ChFrame) (first : Bool) (s : State), (s.chOn = true) ∧ (s.chUp p.val = true) ∧ (f.bad = false) ∧ (s.on Reg.CH_STATUS.ADDR_OK = true) ∧ (f.dest = s.rd Reg.CH_STATUS.ADDR) ∧ (s.rd Reg.CH_STATUS.ADDR < 64) :=
  ⟨0, ⟨BitVec.ofNat 32 0x15, 0, [], BitVec.ofNat 32 (crcWords [0x15, 0])⟩, true, ((litA.wr Reg.CH_CFG.EN 0 1).wr Reg.CH_PORT.UP 0 1).wr Reg.CH_STATUS.ADDR_OK 0 1, by decide +kernel⟩

theorem witness_ChainModeChange_5 :
    ∃ (s : State), (s.present islCHN = true) :=
  ⟨litA, by decide +kernel⟩

theorem witness_ChainModeChange_6 :
    ∃ (s : State), (s.chOn = true) :=
  ⟨litA.wr Reg.CH_CFG.EN 0 1, by decide +kernel⟩

theorem witness_ChainModeChange_7 :
    ∃ (m : Master) (target : Fin 64) (s : State), (s.ready (Reg.CH_CMD.RESET_ONE.addr 0 0) = true) ∧ (s.ready (Reg.CH_CMD.RESET_ALL.addr 0 0) = true) :=
  ⟨.ash, 0, litA, by decide +kernel⟩

theorem witness_ChainTime_0 :
    ∃ (s : State), (s.chOn = true) :=
  ⟨litA.wr Reg.CH_CFG.EN 0 1, by decide +kernel⟩

theorem witness_ChainTime_1 :
    ∃ (p : Fin 2) (time : BitVec 64) (corr : BitVec 32) (hops : BitVec 8) (dir first : Bool) (sub : Fin 64) (res : Nat) (s : State), (s.chOn = true) ∧ (s.chUp p.val = true) :=
  ⟨0, 5, 5, 5, false, true, 0, 0, (litA.wr Reg.CH_CFG.EN 0 1).wr Reg.CH_PORT.UP 0 1, by decide +kernel⟩

theorem witness_ChainTime_2 :
    ∃ (k : ChMark) (s : State), (s.chOn = true) ∧ (s.chRole = 1) ∧ (s.ch.mark = some k) ∧ (k.n = 2) ∧ (k.err.natAbs ≤ 32) ∧ (s.rd Reg.PLL_STAT.STATE 0 = 2) :=
  ⟨⟨0, 0, 0, 0, 2⟩, { (((litA.wr Reg.CH_CFG.EN 0 1).wr Reg.CH_CFG.ROLE 0 1).wr Reg.PLL_STAT.STATE 0 2) with ch := { ChS.init with mark := some ⟨0, 0, 0, 0, 2⟩ } }, by decide +kernel⟩

theorem witness_ChainTime_3 :
    ∃ (s : State), (s.chOn = true) :=
  ⟨litA.wr Reg.CH_CFG.EN 0 1, by decide +kernel⟩

theorem witness_CanControllers_0 :
    ∃ (m : Master) (n : Fin 6) (s : State), (s.ready (Reg.CAN_CTRL.RUN.addr n.val 0) = true) ∧ (s.canState n.val = 0) :=
  ⟨.ash, 0, litA, by decide +kernel⟩

theorem witness_CanControllers_1 :
    ∃ (m : Master) (n : Fin 6) (idle : Bool) (s : State), (s.ready (Reg.CAN_CTRL.RUN.addr n.val 0) = true) :=
  ⟨.ash, 0, true, litA, by decide +kernel⟩

theorem witness_CanControllers_3 :
    ∃ (m : Master) (n : Fin 6) (b : Fin 32) (w : Fin 2) (s : State), (s.ready (Reg.CAN_TXREQ.REQ.addr n.val w.val) = true) :=
  ⟨.ash, 0, 5, 0, litA, by decide +kernel⟩

theorem witness_CanControllers_4 :
    ∃ (m : Master) (n : Fin 6) (b : Fin 32) (w : Fin 2) (s : State), (s.ready (Reg.CAN_TXCAN.CAN.addr n.val w.val) = true) ∧ (s.canBit Reg.CAN_TXPEND.PEND n.val (32 * w.val + b.val) = true) :=
  ⟨.ash, 0, 5, 0, litA.wr2 Reg.CAN_TXPEND.PEND 0 0 32, by decide +kernel⟩

theorem witness_CanControllers_5 :
    ∃ (m : Master) (n : Fin 6) (b : Fin 32) (w : Fin 2) (s : State), (s.ready (Reg.CAN_RXFULL.FULL.addr n.val w.val) = true) :=
  ⟨.ash, 0, 5, 0, litA, by decide +kernel⟩

theorem witness_CanControllers_6 :
    ∃ (n : Fin 6) (b : Nat) (s : State), (s.present islCAN = true) ∧ (s.canState n.val = 2) ∧ (s.rd Reg.CAN_CTRL.MODE n.val = 0) ∧ (s.rd Reg.CAN_STAT.BOFF_VALID n.val = 0) ∧ ((s.can n.val).begun = false) :=
  ⟨0, 5, litA.wr Reg.CAN_STAT.STATE 0 2, by decide +kernel⟩

theorem witness_CanControllers_7 :
    ∃ (n : Fin 6) (s : State), (s.canOnBus n.val = true) ∧ ((s.can n.val).begun = true) :=
  ⟨0, (litA.wr Reg.CAN_STAT.STATE 0 2).setCan 0 { CanS.init with sel := some 1, begun := true }, by decide +kernel⟩

theorem witness_CanFrames_0 :
    ∃ (n : Fin 6) (tdcv : BitVec 7) (b : Fin 64) (s : State), (s.present islCAN = true) ∧ (s.canState n.val = 2) ∧ (s.rd Reg.CAN_CTRL.MODE n.val = 0) ∧ ((s.can n.val).begun = true) ∧ ((s.can n.val).sel = some b.val) ∧ (s.rd Reg.CAN_STAT.TEC n.val ≤ 127) ∧ (s.rd Reg.CAN_STAT.REC n.val ≤ 127) :=
  ⟨0, 0, 1, (litA.wr Reg.CAN_STAT.STATE 0 2).setCan 0 { CanS.init with sel := some 1, begun := true }, by decide +kernel⟩

theorem witness_CanFrames_1 :
    ∃ (n : Fin 6) (id : BitVec 31) (dlc : Fin 16) (brs esi : Bool) (data : List (BitVec 8)) (sof : BitVec 64) (b : Fin 64) (s : State), (s.present islCAN = true) ∧ (s.canState n.val = 2) ∧ (s.rd Reg.CAN_CTRL.MODE n.val = 0) ∧ ((s.can n.val).begun = false) ∧ (s.rd Reg.CAN_STAT.REC n.val ≤ 127) ∧ (s.rd Reg.CAN_STAT.TEC n.val ≤ 127) :=
  ⟨0, 5, 0, false, false, [], 0, 1, litA.wr Reg.CAN_STAT.STATE 0 2, by decide +kernel⟩

theorem witness_CanFrames_2 :
    ∃ (n : Fin 6) (kind : Fin 6) (exempt grave : Bool) (s : State), (s.present islCAN = true) ∧ (s.canState n.val = 2) ∧ (s.rd Reg.CAN_CTRL.MODE n.val = 0) ∧ (s.rd Reg.CAN_STAT.REC n.val < 120) ∧ (s.rd Reg.CAN_STAT.TEC n.val ≤ 255) :=
  ⟨0, 0, false, false, litA.wr Reg.CAN_STAT.STATE 0 2, by decide +kernel⟩

theorem witness_CanFrames_3 :
    ∃ (n : Fin 6) (s : State), (s.present islCAN = true) ∧ (s.canState n.val = 2) :=
  ⟨0, litA.wr Reg.CAN_STAT.STATE 0 2, by decide +kernel⟩

theorem witness_ClockReferences_0 :
    ∃ (src : Fin 2) (e : BitVec 16) (s : State), (s.present islCLK = true) :=
  ⟨0, 5, litA, by decide +kernel⟩

theorem witness_ClockReferences_1 :
    ∃ (src : Fin 2) (e : BitVec 16) (s : State), (s.present islCLK = true) ∧ (s.rd (refBit (src.val + 1)) = 0) ∧ (s.rd Reg.CLK_REF.LOCAL ≠ src.val + 1) ∧ (s.rd Reg.CLK_REF.LOCAL ≠ 0) :=
  ⟨0, 5, litA.wr Reg.CLK_REF.LOCAL 0 2, by decide +kernel⟩

theorem witness_ClockReferences_2 :
    ∃ (m : Master) (v : Fin 4) (e : BitVec 16) (s : State), (s.ready (Reg.CLK_REF.LOCAL_SEL.addr 0 0) = true) :=
  ⟨.ash, 1, 0, litA, by decide +kernel⟩

theorem witness_ClockReferences_3 :
    ∃ (t : Nat) (s : State), (s.clk.wait = some t) :=
  ⟨0, { State.reset with clk := { State.reset.clk with wait := some 0 } }, by decide +kernel⟩

theorem witness_ClockReferences_4 :
    ∃ (m : Master) (k : Fin 3) (s : State), (s.ready (Reg.PLL_CTRL.EN.addr k.val 0) = true) ∧ (s.ready (Reg.PLL_CTRL.RELOCK.addr k.val 0) = true) ∧ (s.rd Reg.PLL_CTRL.EN k.val = 1) :=
  ⟨.ash, 0, litA.wr Reg.PLL_CTRL.EN 0 1, by decide +kernel⟩

theorem witness_ClockReferences_5 :
    ∃ (k : Fin 3) (i code i0 : Nat) (rest : List (Nat × Nat)) (s : State), (s.present islCLK = true) ∧ (s.pllSt k.val = 2) ∧ ((s.pll k.val).since + 210000 ≤ s.now) :=
  ⟨0, 5, 5, 5, [], { litA.wr Reg.PLL_STAT.STATE 0 2 with now := 300000 }, by decide +kernel⟩

theorem witness_ClockReferences_6 :
    ∃ (k : Fin 3) (t : Nat) (s : State), ((s.pll k.val).errAt = some t) :=
  ⟨0, 5, litA.setPll 0 { PllS.init with errAt := some 5 }, by decide +kernel⟩

theorem witness_ClockReferences_7 :
    ∃ (s : State), (s.present islCLK = true) :=
  ⟨litA, by decide +kernel⟩

theorem witness_ClockReferences_8 :
    ∃ (e : BitVec 16) (s : State), (s.present islCLK = true) ∧ (s.pllSt 0 = 5) ∧ ((s.pll 0).closed = false) :=
  ⟨20, litA.wr Reg.PLL_STAT.STATE 0 5, by decide +kernel⟩

theorem witness_PowerInputs_0 :
    ∃ (s : State), (s.on Reg.PWR_STATUS.VLV_OK = false) :=
  ⟨{ State.reset with pwr := { PwrS.init with mode := 0 } }, by decide +kernel⟩

theorem witness_PowerInputs_1 :
    ∃ (ac : Bool) (s : State), (s.on Reg.PWR_STATUS.HVA_OK = false) :=
  ⟨true, State.reset, by decide +kernel⟩

theorem witness_PowerInputs_2 :
    ∃ (ovr : Bool) (vhb : BitVec 16) (s : State), (s.on Reg.PWR_STATUS.VLV_OK = true) :=
  ⟨true, 0, State.reset.wr Reg.PWR_STATUS.VLV_OK 0 1, by decide +kernel⟩

theorem witness_PowerInputs_3 :
    ∃ (vhb : BitVec 16) (s : State), (s.on Reg.PWR_STATUS.HVA_OK = true) :=
  ⟨0, State.reset.wr Reg.PWR_STATUS.HVA_OK 0 1, by decide +kernel⟩

theorem witness_PowerInputs_4 :
    ∃ (m : Master) (v : Bool) (s : State), (s.ready (Reg.PWR_CTRL.PREF.addr 0 0) = true) :=
  ⟨.alder, true, litA, by decide +kernel⟩

theorem witness_PowerInputs_6 :
    ∃ (m : Master) (s : State), (s.ready (Reg.PWR_CTRL.SHDN.addr 0 0) = true) :=
  ⟨.ash, litA, by decide +kernel⟩

theorem witness_PowerInputs_8 :
    ∃ (vlv : BitVec 16) (vhb : BitVec 16) (mw : Nat) (s : State), (s.present islPCV = true) :=
  ⟨1200, 300, 9000, litA, by decide +kernel⟩

theorem witness_PowerInputs_10 :
    ∃ (m : Master) (s : State), (s.ready (Reg.CLY_CTRL.CAP_CLR.addr 0 0) = true) :=
  ⟨.ash, litA, by decide +kernel⟩

theorem witness_IslandRequests_0 :
    ∃ (m : Master) (isl : Fin 39) (s : State), (s.ready (Reg.ISL_CTRL.RST_REQ.addr isl.val 0) = true) :=
  ⟨.alder, 0, litA, by decide +kernel⟩

theorem witness_IslandRequests_1 :
    ∃ (isl : Fin 39) (h : Nat) (s : State), (SMap.get none s.pwr.hold isl.val = some h) :=
  ⟨0, 0, { litA with pwr := { PwrS.init with hold := [(0, some 0)] } }, by decide +kernel⟩

theorem witness_IslandRequests_2 :
    ∃ (m : Master) (isl : Fin 39) (clk : Bool) (s : State), (s.ready (Reg.ISL_CTRL.REL.addr isl.val 0) = true) :=
  ⟨.ash, 0, true, litA, by decide +kernel⟩

theorem witness_IslandRequests_3 :
    ∃ (m : Master) (isl : Fin 39) (s : State), (s.ready (Reg.ISL_CTRL.PD.addr isl.val 0) = true) :=
  ⟨.ash, 9, litA, by decide +kernel⟩

theorem witness_ResetsAndErrors_0 :
    ∃ (f : FD) (i j : Nat) (s : State), (f.key i j ∉ shownKeys) :=
  by exact ⟨Reg.STG_TRIP.TRIP, 0, 0, State.reset, by decide +kernel⟩

theorem witness_ResetsAndErrors_2 :
    ∃ (addr : BitVec 32) (lo n isl : Nat) (s : State), (memRangeOf addr.toNat = some (lo, n, isl)) :=
  ⟨0x20000000, 0x20000000, 0x400000, islMEM, litA, by decide +kernel⟩

theorem witness_ResetsAndErrors_4 :
    ∃ (id : Fin 4096) (s : State), (resourceOk id.val = true) ∧ ((id.val / 256 = 0 ∨ 2 ≤ id.val / 256 ∧ id.val / 256 ≤ 5)) :=
  ⟨0, State.reset, by decide +kernel⟩

theorem witness_ResetsAndErrors_6 :
    ∃ (sbe : Fin 4097) (s : State), (s.pwr.mode ≠ 4) ∧ (s.rd Reg.CLY_CNT.CNT % 2 ^ 21 = 0) ∧ (s.on Reg.CLY_STAT.SCRUB_BUSY = false) :=
  ⟨3, State.reset, by decide +kernel⟩

theorem witness_ImageLockAndStages_0 :
    ∃ (m : Master) (slot : Fin 2) (s : State), (s.ready (Reg.IMG_CTRL.LOAD.addr 0 0) = true) :=
  ⟨.h0, 1, litA, by decide +kernel⟩

theorem witness_ImageLockAndStages_1 :
    ∃ (s : State), (s.present islALD = true) ∧ (s.rd Reg.IMG_STATUS.STATE = 1) :=
  ⟨litA.wr Reg.IMG_STATUS.STATE 0 1, by decide +kernel⟩

theorem witness_ImageLockAndStages_2 :
    ∃ (m : Master) (key : BitVec 16) (s : State), (s.ready (Reg.IMG_LOCK.KEY.addr 0 0) = true) :=
  ⟨.ash, 0x3C5A, litA, by decide +kernel⟩

theorem witness_ImageLockAndStages_3 :
    ∃ (m : Master) (addr data : BitVec 32) (env : BusEnv) (fs : List FD) (f : FD) (i j k : Nat) (s : State), (regOf addr.toNat = some (fs, f, i, j, k)) ∧ (fs.any (fun f => f.acc == .rwi) = true) ∧ (f.w ≤ 32) ∧ (addr.toNat % 4 = 0) ∧ (inWindows addr.toNat = true) ∧ ((winOf addr.toNat).1 ≠ 15) ∧ ((winOf addr.toNat).1 ≠ 7) ∧ ((winOf addr.toNat).2 ≠ 0x7FF8 ∧ (winOf addr.toNat).2 ≠ 0x7FFC ∧ f.off ≠ 0xF004) ∧ ((rwiFields addr.toNat).isEmpty = false) ∧ (s.ready addr.toNat = true) :=
  by have h : ((regOf 0x40018800).map fun r => r.1.any (fun f => f.acc == .rwi) && decide (r.2.1.w ≤ 32) && decide (r.2.1.off ≠ 0xF004)) = some true := (by decide +kernel); obtain ⟨⟨fs, f, i, j, k⟩, h1, h2⟩ := Option.map_eq_some_iff.1 h; simp only [Bool.and_eq_true, decide_eq_true_eq] at h2; exact ⟨.ash, 0x40018800, 0, env0, fs, f, i, j, k, litA, h1, h2.1.1, h2.1.2, by decide +kernel, by decide +kernel, by decide +kernel, by decide +kernel, ⟨by decide +kernel, by decide +kernel, h2.2⟩, by decide +kernel, by decide +kernel⟩

theorem witness_ImageLockAndStages_4 :
    ∃ (m : Master) (n : Fin 8) (s : State), (s.ready (Reg.STG_CTRL.EN.addr n.val 0) = true) :=
  ⟨.ash, 0, litA, by decide +kernel⟩

theorem witness_ForbiddenAccesses_0 :
    ∃ (m : Master) (size : Size) (addr : BitVec 32) (data : BitVec 32) (env : BusEnv) (s : State), (addr.toNat % size.bytes ≠ 0 ∨ (inWindows addr.toNat = true ∧ size ≠ .b32) ∨ (inWindows addr.toNat = false ∧ memRangeOf addr.toNat = none) ∨ (inWindows addr.toNat = true ∧ regOf addr.toNat = none ∧ (winOf addr.toNat).2 ≠ 0x7FF8 ∧ (winOf addr.toNat).2 ≠ 0x7FFC)) :=
  ⟨.h0, .b32, 0x30000000, 0, env0, State.reset, by decide +kernel⟩

theorem witness_ForbiddenAccesses_1 :
    ∃ (m : Master) (addr : BitVec 32) (s : State), (addr.toNat % 4 ≠ 0 ∨ (inWindows addr.toNat = false ∧ memRangeOf addr.toNat = none) ∨ (inWindows addr.toNat = true ∧ regOf addr.toNat = none ∧ (winOf addr.toNat).2 ≠ 0x7FF8)) :=
  ⟨.ash, 0x40007FF4, State.reset, by decide +kernel⟩

theorem witness_WideFields_0 :
    ∃ (m : Master) (addr : BitVec 32) (data : BitVec 32) (env : BusEnv) (fs : List FD) (f : FD) (i j k : Nat) (s : State), (regOf addr.toNat = some (fs, f, i, j, k)) ∧ (32 < f.w) ∧ (addr.toNat % 4 = 0) ∧ (inWindows addr.toNat = true) ∧ ((winOf addr.toNat).1 ≠ 15) ∧ ((winOf addr.toNat).2 ≠ 0x7FF8 ∧ (winOf addr.toNat).2 ≠ 0x7FFC) ∧ (s.ready addr.toNat = true) ∧ (f.blk = 4 → s.blkUsed i j = false) ∧ (f.key i j ≠ Reg.CPX_STATUS.MODE.key 0 0) :=
  by have h : ((regOf 0x400B1000).map fun r => decide (32 < r.2.1.w) && decide (r.2.1.blk ≠ 4) && decide (r.2.1.key r.2.2.1 r.2.2.2.1 ≠ Reg.CPX_STATUS.MODE.key 0 0)) = some true := (by decide +kernel); obtain ⟨⟨fs, f, i, j, k⟩, h1, h2⟩ := Option.map_eq_some_iff.1 h; simp only [Bool.and_eq_true, decide_eq_true_eq] at h2; exact ⟨.ash, 0x400B1000, 0, env0, fs, f, i, j, k, litA, h1, h2.1.1, by decide +kernel, by decide +kernel, by decide +kernel, ⟨by decide +kernel, by decide +kernel⟩, by decide +kernel, fun h => absurd h h2.1.2, h2.2⟩

theorem witness_BusWritesAndCommits_0 :
    ∃ (m : Master) (addr : BitVec 32) (data : BitVec 32) (env : BusEnv) (fs : List FD) (f : FD) (i j k : Nat) (s : State), (regOf addr.toNat = some (fs, f, i, j, k)) ∧ (fs.any (fun f => f.acc == .rwi) = false) ∧ (f.w ≤ 32) ∧ (addr.toNat % 4 = 0) ∧ (inWindows addr.toNat = true) ∧ ((winOf addr.toNat).1 ≠ 15) ∧ ((winOf addr.toNat).1 ≠ 7) ∧ ((winOf addr.toNat).2 ≠ 0x7FF8 ∧ (winOf addr.toNat).2 ≠ 0x7FFC ∧ f.off ≠ 0xF004) ∧ (s.ready addr.toNat = true) :=
  by have h : ((regOf 0x400B0008).map fun r => !(r.1.any (fun f => f.acc == .rwi)) && decide (r.2.1.w ≤ 32) && decide (r.2.1.off ≠ 0xF004)) = some true := (by decide +kernel); obtain ⟨⟨fs, f, i, j, k⟩, h1, h2⟩ := Option.map_eq_some_iff.1 h; simp only [Bool.and_eq_true, decide_eq_true_eq, Bool.not_eq_true'] at h2; exact ⟨.ash, 0x400B0008, 0, env0, fs, f, i, j, k, litA, h1, h2.1.1, h2.1.2, by decide +kernel, by decide +kernel, by decide +kernel, by decide +kernel, ⟨by decide +kernel, by decide +kernel, h2.2⟩, by decide +kernel⟩

theorem witness_BusWritesAndCommits_1 :
    ∃ (m : Master) (size : Size) (addr : BitVec 32) (data : BitVec 32) (env : BusEnv) (s : State), (addr.toNat % size.bytes = 0) ∧ (s.reach islMEM = true) ∧ (s.writesBack m addr.toNat = false) :=
  ⟨.alder, .b32, 0x20000000, 0, env0, litA, by decide +kernel⟩

theorem witness_AlderLoadAndLog_0 :
    ∃ (load : Fin 1001) (s : State), (s.present islALD = true) :=
  ⟨900, litA, by decide +kernel⟩

theorem witness_AlderLoadAndLog_1 :
    ∃ (s : State), (s.present islALD = true) :=
  ⟨litA, by decide +kernel⟩

theorem witness_SelfTestAndWear_1 :
    ∃ (e p : Nat) (l : List Nat) (s : State), (s.retireq = e :: l) ∧ (s.present islALD = true) ∧ (s.retiredPu e = some p) ∧ (p < 297) ∧ (s.st.pend = []) :=
  ⟨0x1000, 0, [], { litA with retireq := [0x1000] }, by decide +kernel⟩

theorem witness_SelfTestAndWear_2 :
    ∃ (ages : List (Fin 93 × Fin 1024)) (s : State), (s.present islALD = true) :=
  ⟨[], litA, by decide +kernel⟩

theorem witness_ManagementRequests_0 :
    ∃ (i : Instr) (c : Nat) (ages : List (Fin 93 × Fin 1024)) (s : State), ((i, c) ∈ [(Instr.mgStatus, 1), (.logMark, 2), (.keyWrite, 3), (.keyRevoke, 4), (.svnRaise, 5), (.runHouse ages, 6), (.malformedManagementRequest, 0)]) :=
  ⟨.mgStatus, 1, [], litA, by decide +kernel⟩

theorem witness_ManagementRequests_1 :
    ∃ (n : Nat) (ages : List (Fin 93 × Fin 1024)) (s : State), (s.nextRequest = some n) ∧ (s.aldBusy = false) :=
  ⟨0, [], mgMsg [1, 0, 0, 0, 0, 0, 0], by decide +kernel⟩

theorem witness_ManagementRequests_3 :
    ∃ (r : Reply) (s : State), (s.replies.find? (fun r => r.at0 + 500000 ≤ s.now) = some r) ∧ (s.present islALD = true) ∧ (s.present islMSG = true) :=
  ⟨⟨0, [], 4, 99, 0, 0⟩, { litA with now := 500000, replies := [⟨0, [], 4, 99, 0, 0⟩] }, by decide +kernel⟩

theorem witness_KeyRecordRequests_0 :
    ∃ (n : Nat) (s : State), (s.nextRequest = some n) ∧ (s.aldBusy = false) :=
  ⟨0, mgMsg [3, 0, 0, 0, 0, 0, 0, 0, 0, 0, 0], by decide +kernel⟩

theorem witness_MonitorControls_0 :
    ∃ (m : Master) (n : Fin 16) (s : State), (s.ready (Reg.MON_CFG.EN.addr n.val 0) = true) :=
  ⟨.ash, 15, litA, by decide +kernel⟩

theorem witness_MonitorControls_1 :
    ∃ (n : Fin 16) (x : Int) (s : State), (s.present islMON = true) ∧ (s.on Reg.MON_CFG.EN n.val = true) ∧ (s.rd Reg.MON_CFG.MODE n.val = 2) :=
  ⟨15, 7, ((litA.wr Reg.MON_CFG.EN 15 1).wr Reg.MON_CFG.MODE 15 2), by decide +kernel⟩

theorem witness_MonitorControls_2 :
    ∃ (m : Master) (n : Fin 16) (s : State), (s.ready (Reg.MON_CTRL.CLR.addr n.val 0) = true) :=
  ⟨.ash, 15, litA, by decide +kernel⟩

theorem witness_MonitorLatencies_0 :
    ∃ (codes : List (Fin 256)) (at0 : Nat) (n : Nat) (s : State), (s.present islMON = true) ∧ (n < 16) ∧ (s.on Reg.MON_CFG.EN n = true) ∧ (s.rd Reg.MON_CFG.MODE n = 1) ∧ (∀ k < 16, k ≠ n → s.on Reg.MON_CFG.EN k = false) :=
  ⟨[5], 9, 15, ((litA.wr Reg.MON_CFG.EN 15 1).wr Reg.MON_CFG.MODE 15 1), by decide +kernel⟩

theorem witness_MonitorLatencies_1 :
    ∃ (m : Master) (ev : BitVec 8) (codes : List (Fin 256)) (at0 : Nat) (s t : State), (s.ready (Reg.MON_SWEV.EV.addr 0 0) = true) ∧ (s.present islMON = true) ∧ (codes.map (·.val) = (bitList 8 ev.toNat).map (0xC8 + ·)) ∧ (exec (.monEvent codes at0) s = .next t) :=
  by exact ⟨.ash, 0x80, [0xCF], 5, litA, _, by decide +kernel, by decide +kernel, by decide +kernel, rfl⟩

theorem witness_StepRunsTheFront_1 :
    ∃ (s : State), (s.pending = []) :=
  ⟨State.reset, by decide +kernel⟩

theorem witness_EveryStepKeepsCanon_0 :
    ∃ (s t : State), (s.Canon) ∧ (step s = .next t) :=
  by exact ⟨State.reset, _, ⟨rfl, rfl, rfl, rfl⟩, rfl⟩

theorem witness_CommandsKeepQueueAndTime_0 :
    ∃ (c : Instr) (s t : State), (exec c s = .next t) :=
  by exact ⟨.malformedManagementRequest, State.reset, _, rfl⟩

theorem witness_CommandsThatStoreNothing_0 :
    ∃ (c : Instr) (s t : State), (mayStore c = false) ∧ (exec c s = .next t) :=
  by exact ⟨.malformedManagementRequest, State.reset, _, rfl, rfl⟩

theorem witness_WaitingCommandsRunInOrder_0 :
    ∃ (c d : Instr) (rest : List Instr) (s t : State), (exec c { s with pending := d :: rest } = .next t) :=
  by exact ⟨.malformedManagementRequest, .malformedManagementRequest, [], State.reset, _, rfl⟩

end Sys2Proof.Tests
end

section
/-! PROOFS. The statements of spec/00_scope.md: the queue and the step, the state at reset, the canonical form, fields wider than 32 bits. -/

namespace Sys2Proof.Machine

/-! ## The step -/

/-- A step runs the command that waits in front. -/
theorem step_of_pending_cons {s : State} {c : Instr} {rest : List Instr} (h : s.pending = c :: rest) :
    step s = exec c { s with pending := rest } := by
  simp only [step, h]

/-- A step of a state in which no command waits is a tick. -/
theorem step_of_pending_nil {s : State} (h : s.pending = []) : step s = .next s.tick := by
  simp only [step, h]

/-- A tick keeps the canonical form: the time, in which it differs from what `Keeps` compares, is no part of it. -/
theorem State.Canon.tick {s : State} (h : s.Canon) : s.tick.Canon := by
  obtain ⟨hregs, hmem, htcm, hdcache⟩ := h
  exact (State.tick_keeps s).canon ⟨hregs, hmem, htcm, hdcache⟩

theorem State.canon_reset : State.reset.Canon := ⟨rfl, rfl, rfl, rfl⟩

/-! ## The commands -/

/-- The meaning of every command is a `.next`: no arm of the dispatcher answers a fault or a refusal. -/
theorem exec_next (c : Instr) (s : State) : ∃ t, exec c s = .next t := by
  cases c <;> exact ⟨_, rfl⟩

/-- Every command keeps the canonical form, the queue and the time, by the lemma about its meaning. -/
theorem exec_keeps {c : Instr} {s t : State} (h : exec c s = .next t) : Keeps s t := by
  cases c with
  | registerWrite => exact execRegisterWrite_keeps h
  | wideLowRead => exact execWideLowRead_keeps h
  | wideUpperWrite => exact execWideUpperWrite_keeps h
  | wideLowWrite => exact execWideLowWrite_keeps h
  | basicCommit => exact execBasicCommit_keeps h
  | basicCommitDone => exact execBasicCommitDone_keeps h
  | memorySlotWrite => exact execMemorySlotWrite_keeps h
  | dieLinkLoss => exact execDieLinkLoss_keeps h
  | crossingTimeout => exact execCrossingTimeout_keeps h
  | islandClockLost => exact execIslandClockLost_keeps h
  | railFault => exact execRailFault_keeps h
  | powerGood => exact execPowerGood_keeps h
  | eccSingleBit => exact execEccSingleBit_keeps h
  | eccDoubleBit => exact execEccDoubleBit_keeps h
  | unitRuntimeFault => exact execUnitRuntimeFault_keeps h
  | powerOnReset => exact execPowerOnReset_keeps h
  | moduleReset => exact execModuleReset_keeps h
  | startSequence => exact execStartSequence_keeps h
  | imgLoad => exact execImgLoad_keeps h
  | loadDone => exact execLoadDone_keeps h
  | imgLockKey => exact execImgLockKey_keeps h
  | imgLockClose => exact execImgLockClose_keeps h
  | rwiWrite => exact execRwiWrite_keeps h
  | stageEnable => exact execStageEnable_keeps h
  | stageDisable => exact execStageDisable_keeps h
  | tbRun => exact execTbRun_keeps h
  | tbgStart => exact execTbgStart_keeps h
  | tbStop => exact execTbStop_keeps h
  | swsync => exact execSwsync_keeps h
  | syncLoad => exact execSyncLoad_keeps h
  | zro => exact execZro_keeps h
  | prd => exact execPrd_keeps h
  | compareMatch => exact execCompareMatch_keeps h
  | triggerPulse => exact execTriggerPulse_keeps h
  | shadowTransfer => exact execShadowTransfer_keeps h
  | ladderCalUpdate => exact execLadderCalUpdate_keeps h
  | ladderCalLimit => exact execLadderCalLimit_keeps h
  | ladderLock => exact execLadderLock_keeps h
  | outmodeApply => exact execOutmodeApply_keeps h
  | deadtimeExpiry => exact execDeadtimeExpiry_keeps h
  | heldEdgeExecute => exact execHeldEdgeExecute_keeps h
  | swnAccept => exact execSwnAccept_keeps h
  | swnWindowExpiry => exact execSwnWindowExpiry_keeps h
  | adtEnable => exact execAdtEnable_keeps h
  | adtFailClear => exact execAdtFailClear_keeps h
  | adtTrimWrite => exact execAdtTrimWrite_keeps h
  | padMismatch => exact execPadMismatch_keeps h
  | comparatorCrossing => exact execComparatorCrossing_keeps h
  | tripinChange => exact execTripinChange_keeps h
  | ascDtExpiry => exact execAscDtExpiry_keeps h
  | swtrip => exact execSwtrip_keeps h
  | tripClear => exact execTripClear_keeps h
  | armedStale => exact execArmedStale_keeps h
  | chopFaultClear => exact execChopFaultClear_keeps h
  | seqEnable => exact execSeqEnable_keeps h
  | seqDisable => exact execSeqDisable_keeps h
  | seqStart => exact execSeqStart_keeps h
  | seqSwstart => exact execSeqSwstart_keeps h
  | seqGroupIssue => exact execSeqGroupIssue_keeps h
  | adcEoc => exact execAdcEoc_keeps h
  | injEnable => exact execInjEnable_keeps h
  | injTrigger => exact execInjTrigger_keeps h
  | swtrig => exact execSwtrig_keeps h
  | injSlotStart => exact execInjSlotStart_keeps h
  | calStart => exact execCalStart_keeps h
  | adcCalBegin => exact execAdcCalBegin_keeps h
  | adcCalDone => exact execAdcCalDone_keeps h
  | ilArm => exact execIlArm_keeps h
  | pairBurstTrigger => exact execPairBurstTrigger_keeps h
  | pairSwstart => exact execPairSwstart_keeps h
  | pairBurstDone => exact execPairBurstDone_keeps h
  | pairCal => exact execPairCal_keeps h
  | pairCalBegin => exact execPairCalBegin_keeps h
  | pairCalDone => exact execPairCalDone_keeps h
  | isoOutput => exact execIsoOutput_keeps h
  | isoOverload => exact execIsoOverload_keeps h
  | isoEnable => exact execIsoEnable_keeps h
  | isoCalStart => exact execIsoCalStart_keeps h
  | isoCalDone => exact execIsoCalDone_keeps h
  | sampleLinkWord => exact execSampleLinkWord_keeps h
  | lpRouteStart => exact execLpRouteStart_keeps h
  | lpRunStart => exact execLpRunStart_keeps h
  | cedNop => exact execCedNop_keeps h
  | cedEnd => exact execCedEnd_keeps h
  | cedMov => exact execCedMov_keeps h
  | cedLdi => exact execCedLdi_keeps h
  | cedAdd => exact execCedAdd_keeps h
  | cedSub => exact execCedSub_keeps h
  | cedAddw => exact execCedAddw_keeps h
  | cedMul => exact execCedMul_keeps h
  | cedMac => exact execCedMac_keeps h
  | cedMva => exact execCedMva_keeps h
  | cedClra => exact execCedClra_keeps h
  | cedNeg => exact execCedNeg_keeps h
  | cedAbs => exact execCedAbs_keeps h
  | cedMin => exact execCedMin_keeps h
  | cedMax => exact execCedMax_keeps h
  | cedCmp => exact execCedCmp_keeps h
  | cedTst => exact execCedTst_keeps h
  | cedSel => exact execCedSel_keeps h
  | cedDiv => exact execCedDiv_keeps h
  | cedMag => exact execCedMag_keeps h
  | cedSincos => exact execCedSincos_keeps h
  | cedClarke => exact execCedClarke_keeps h
  | cedIclarke => exact execCedIclarke_keeps h
  | cedPark => exact execCedPark_keeps h
  | cedIpark => exact execCedIpark_keeps h
  | cedPi => exact execCedPi_keeps h
  | cedPr => exact execCedPr_keeps h
  | cedSvm => exact execCedSvm_keeps h
  | cedTlu => exact execCedTlu_keeps h
  | cedWrl => exact execCedWrl_keeps h
  | cedReq => exact execCedReq_keeps h
  | cedOut => exact execCedOut_keeps h
  | wrlCapture => exact execWrlCapture_keeps h
  | reqPulse => exact execReqPulse_keeps h
  | lpPen => exact execLpPen_keeps h
  | lpValidationDone => exact execLpValidationDone_keeps h
  | lpDisable => exact execLpDisable_keeps h
  | swapReq => exact execSwapReq_keeps h
  | blkClr => exact execBlkClr_keeps h
  | fcEnable => exact execFcEnable_keeps h
  | fcDisable => exact execFcDisable_keeps h
  | fcStart => exact execFcStart_keeps h
  | fcStop => exact execFcStop_keeps h
  | probePulseEnd => exact execProbePulseEnd_keeps h
  | alignExpiry => exact execAlignExpiry_keeps h
  | rampStep => exact execRampStep_keeps h
  | rampTimeout => exact execRampTimeout_keeps h
  | retryWaitExpiry => exact execRetryWaitExpiry_keeps h
  | sineFillDone => exact execSineFillDone_keeps h
  | fcTblData => exact execFcTblData_keeps h
  | offsStore => exact execOffsStore_keeps h
  | posInputAccept => exact execPosInputAccept_keeps h
  | posSpeedEstimate => exact execPosSpeedEstimate_keeps h
  | hallTimeout => exact execHallTimeout_keeps h
  | posCountWrite => exact execPosCountWrite_keeps h
  | ssiFrameDone => exact execSsiFrameDone_keeps h
  | resolverSamplePair => exact execResolverSamplePair_keeps h
  | excFault => exact execExcFault_keeps h
  | posEnable => exact execPosEnable_keeps h
  | rsEnable => exact execRsEnable_keeps h
  | posFaultClear => exact execPosFaultClear_keeps h
  | rsFaultClear => exact execRsFaultClear_keeps h
  | emuEnable => exact execEmuEnable_keeps h
  | emuStep => exact execEmuStep_keeps h
  | rowanRefresh => exact execRowanRefresh_keeps h
  | tqPerm => exact execTqPerm_keeps h
  | disch => exact execDisch_keeps h
  | safeState => exact execSafeState_keeps h
  | release => exact execRelease_keeps h
  | rowanFault => exact execRowanFault_keeps h
  | lvLost => exact execLvLost_keeps h
  | cpxLost => exact execCpxLost_keeps h
  | voteItem => exact execVoteItem_keeps h
  | syncPoint => exact execSyncPoint_keeps h
  | outvoteWindowExpiry => exact execOutvoteWindowExpiry_keeps h
  | yewFillDone => exact execYewFillDone_keeps h
  | pairTestDone => exact execPairTestDone_keeps h
  | checkerTest => exact execCheckerTest_keeps h
  | cpxReportSend => exact execCpxReportSend_keeps h
  | cpxSplit => exact execCpxSplit_keeps h
  | joinRdy => exact execJoinRdy_keeps h
  | cpxJoin => exact execCpxJoin_keeps h
  | joinFillDone => exact execJoinFillDone_keeps h
  | crst => exact execCrst_keeps h
  | cpxPause => exact execCpxPause_keeps h
  | cpxResume => exact execCpxResume_keeps h
  | cpxInjGo => exact execCpxInjGo_keeps h
  | dcinv => exact execDcinv_keeps h
  | dcflush => exact execDcflush_keeps h
  | dcall => exact execDcall_keeps h
  | mtimeCompare => exact execMtimeCompare_keeps h
  | irqSource => exact execIrqSource_keeps h
  | mbWrite => exact execMbWrite_keeps h
  | mbGo => exact execMbGo_keeps h
  | mbRel => exact execMbRel_keeps h
  | abortFill => exact execAbortFill_keeps h
  | mbCfgWrite => exact execMbCfgWrite_keeps h
  | dbRing => exact execDbRing_keeps h
  | dbPendClear => exact execDbPendClear_keeps h
  | semAcq => exact execSemAcq_keeps h
  | semRelease => exact execSemRelease_keeps h
  | hpRd => exact execHpRd_keeps h
  | hpRdn => exact execHpRdn_keeps h
  | hpWr => exact execHpWr_keeps h
  | hpRdsr => exact execHpRdsr_keeps h
  | hpRsten => exact execHpRsten_keeps h
  | hpRst => exact execHpRst_keeps h
  | hpWriteIssue => exact execHpWriteIssue_keeps h
  | hpAbandon => exact execHpAbandon_keeps h
  | portTrained => exact execPortTrained_keeps h
  | trainingRetry => exact execTrainingRetry_keeps h
  | portDown => exact execPortDown_keeps h
  | unwrapTimer => exact execUnwrapTimer_keeps h
  | chUnwrap => exact execChUnwrap_keeps h
  | laneFail => exact execLaneFail_keeps h
  | chLsw => exact execChLsw_keeps h
  | chDreq => exact execChDreq_keeps h
  | chDrsp => exact execChDrsp_keeps h
  | markEmit => exact execMarkEmit_keeps h
  | chMark => exact execChMark_keeps h
  | markApply => exact execMarkApply_keeps h
  | chData => exact execChData_keeps h
  | chTxGo => exact execChTxGo_keeps h
  | txFrameSend => exact execTxFrameSend_keeps h
  | chEnum => exact execChEnum_keeps h
  | chToken => exact execChToken_keeps h
  | enumRetry => exact execEnumRetry_keeps h
  | censusEmit => exact execCensusEmit_keeps h
  | chCensus => exact execChCensus_keeps h
  | csyncArm => exact execCsyncArm_keeps h
  | carrierSync => exact execCarrierSync_keeps h
  | prepareWrite => exact execPrepareWrite_keeps h
  | chPrepare => exact execChPrepare_keeps h
  | chArmed => exact execChArmed_keeps h
  | chRefused => exact execChRefused_keeps h
  | chCommit => exact execChCommit_keeps h
  | chAbort => exact execChAbort_keeps h
  | chApplied => exact execChApplied_keeps h
  | chExpired => exact execChExpired_keeps h
  | mcArmTimeout => exact execMcArmTimeout_keeps h
  | mcApply => exact execMcApply_keeps h
  | mcResultTimeout => exact execMcResultTimeout_keeps h
  | resetOne => exact execResetOne_keeps h
  | resetAll => exact execResetAll_keeps h
  | chReset => exact execChReset_keeps h
  | chainResetApply => exact execChainResetApply_keeps h
  | canRun => exact execCanRun_keeps h
  | canStop => exact execCanStop_keeps h
  | canSyncDone => exact execCanSyncDone_keeps h
  | canTxSelect => exact execCanTxSelect_keeps h
  | canTxDone => exact execCanTxDone_keeps h
  | canFrameRx => exact execCanFrameRx_keeps h
  | canBusError => exact execCanBusError_keeps h
  | txreq => exact execTxreq_keeps h
  | txcan => exact execTxcan_keeps h
  | rxfullRelease => exact execRxfullRelease_keeps h
  | recStart => exact execRecStart_keeps h
  | canRecoveryDone => exact execCanRecoveryDone_keeps h
  | refLost => exact execRefLost_keeps h
  | refValid => exact execRefValid_keeps h
  | localSel => exact execLocalSel_keeps h
  | pllEnable => exact execPllEnable_keeps h
  | relock => exact execRelock_keeps h
  | bandTryTimeout => exact execBandTryTimeout_keeps h
  | pllLock => exact execPllLock_keeps h
  | pllUnlock => exact execPllUnlock_keeps h
  | pllsReturn => exact execPllsReturn_keeps h
  | slewDone => exact execSlewDone_keeps h
  | tickStretch => exact execTickStretch_keeps h
  | vlvRise => exact execVlvRise_keeps h
  | vlvFall => exact execVlvFall_keeps h
  | hvaRise => exact execHvaRise_keeps h
  | hvaFall => exact execHvaFall_keeps h
  | prefWrite => exact execPrefWrite_keeps h
  | nreset => exact execNreset_keeps h
  | shdn => exact execShdn_keeps h
  | selftestGroupDone => exact execSelftestGroupDone_keeps h
  | rstReq => exact execRstReq_keeps h
  | islandResetRelease => exact execIslandResetRelease_keeps h
  | islRel => exact execIslRel_keeps h
  | islandPowerDown => exact execIslandPowerDown_keeps h
  | islandPowerUp => exact execIslandPowerUp_keeps h
  | islandPowered => exact execIslandPowered_keeps h
  | capClr => exact execCapClr_keeps h
  | captureCopy => exact execCaptureCopy_keeps h
  | clayColdStart => exact execClayColdStart_keeps h
  | scrubPass => exact execScrubPass_keeps h
  | wakePin => exact execWakePin_keeps h
  | wakeAtMatch => exact execWakeAtMatch_keeps h
  | wearEntry => exact execWearEntry_keeps h
  | agingRead => exact execAgingRead_keeps h
  | loadWindow => exact execLoadWindow_keeps h
  | logWrite => exact execLogWrite_keeps h
  | mgStatus => exact execMgStatus_keeps h
  | logMark => exact execLogMark_keeps h
  | keyWrite => exact execKeyWrite_keeps h
  | keyRevoke => exact execKeyRevoke_keeps h
  | svnRaise => exact execSvnRaise_keeps h
  | runHouse => exact execRunHouse_keeps h
  | replyRetry => exact execReplyRetry_keeps h
  | monEnable => exact execMonEnable_keeps h
  | monEvent => exact execMonEvent_keeps h
  | monSample => exact execMonSample_keeps h
  | monClr => exact execMonClr_keeps h
  | monSwev => exact execMonSwev_keeps h
  | dieLinkReturn => exact execDieLinkReturn_keeps h
  | vgioRise => exact execVgioRise_keeps h
  | vgioFall => exact execVgioFall_keeps h
  | safetyRegionFall => exact execSafetyRegionFall_keeps h
  | claySupplyLoss => exact execClaySupplyLoss_keeps h
  | adcSamplingInstant => exact execAdcSamplingInstant_keeps h
  | isoOverloadEnd => exact execIsoOverloadEnd_keeps h
  | alignPreHalfExpiry => exact execAlignPreHalfExpiry_keeps h
  | dischargePwmEdge => exact execDischargePwmEdge_keeps h
  | hpUnknownCommand => exact execHpUnknownCommand_keeps h
  | malformedManagementRequest => exact execMalformedManagementRequest_keeps h
  | markMissing => exact execMarkMissing_keeps h
  | canArbitrationLost => exact execCanArbitrationLost_keeps h
  | protocolExceptionEvent => exact execProtocolExceptionEvent_keeps h
  | bandSelectionRetry => exact execBandSelectionRetry_keeps h
  | crystalWaitExpiry => exact execCrystalWaitExpiry_keeps h
  | scrubPassEnd => exact execScrubPassEnd_keeps h
  | inputMeasurement => exact execInputMeasurement_keeps h

/-! ## Fields wider than 32 bits (R10) -/

@[simp] theorem State.wholdOf_setWhold (s : State) (m : Master) (h : Hold) : (s.setWhold m h).wholdOf m = h := SMap.get_set_same _ _ _ _
@[simp] theorem State.rholdOf_setRhold (s : State) (m : Master) (h : Hold) : (s.setRhold m h).rholdOf m = h := SMap.get_set_same _ _ _ _
@[simp] theorem State.rholdOf_setResp (s : State) (m : Master) (r : Resp) : (s.setResp m r).rholdOf m = s.rholdOf m := rfl
@[simp] theorem State.wholdOf_ack (s : State) (m : Master) : (s.ack m).wholdOf m = s.wholdOf m := rfl
@[simp] theorem State.rd_ack (s : State) (m : Master) (f : FD) (i j : Nat) : (s.ack m).rd f i j = s.rd f i j := rfl
@[simp] theorem State.rd_setWhold (s : State) (m : Master) (h : Hold) (f : FD) (i j : Nat) : (s.setWhold m h).rd f i j = s.rd f i j := rfl

/-- The word k of the wide field f of unit i, sub-unit j lies at address a, and its register answers: no commit of its window is in
progress, and the field is no state word of a control block in use. -/
structure State.WideAt (s : State) (a : Nat) (fs : List FD) (f : FD) (i j k : Nat) : Prop where
  reg : regOf a = some (fs, f, i, j, k)
  wide : 32 < f.w
  aligned : a % 4 = 0
  window : inWindows a = true
  notRowan : (winOf a).1 ≠ 15
  notId : (winOf a).2 ≠ 0x7FF8
  notBasic : (winOf a).2 ≠ 0x7FFC
  ready : s.ready a = true
  blkFree : f.blk = 4 → s.blkUsed i j = false

/-- No commit is in progress in the window of a register that answers, so none ends (R18). -/
theorem State.commitEnd_of_ready {s : State} {a : Nat} (h : s.ready a = true) : s.commitEnd (winOf a).1 = s := by
  simp only [State.ready, Bool.and_eq_true, Bool.not_eq_true'] at h
  simp [State.commitEnd, h.2]

/-- A wide field that takes a value is a register write; beside it only the timer interrupt of a core may follow its compare (R313). -/
theorem State.setWide_eq (s : State) {f : FD} {i j : Nat} (v : Nat) (h : f.blk = 4 → s.blkUsed i j = false) :
    ∃ c, s.setWide f i j v = { s.wr2 f i j v with cpx := c } := by
  unfold State.setWide
  split
  · next h4 => simp only [h h4]; exact ⟨s.cpx, rfl⟩
  · split
    · exact ⟨_, rfl⟩
    · exact ⟨s.cpx, rfl⟩

namespace State.WideAt

variable {s : State} {a : Nat} {fs : List FD} {f : FD} {i j k : Nat} (w : s.WideAt a fs f i j k) {m : Master}
include w

theorem wideWord_eq : wideWord a = some k := by
  simp [wideWord, w.window, w.aligned, w.reg, w.wide]

theorem busLoad_eq : s.busLoad m a = s.wideLoad m f i j k := by
  simp [State.busLoad, State.regLoad, w.aligned, w.window, w.notId, w.reg, w.wide, State.ready_reach w.ready]

theorem busStore_eq {env : BusEnv} {v : Nat} : s.busStore m env .b32 a v = (s.wideStore m f i j k v).ack m := by
  simp [State.busStore, State.regStore, Size.bytes, w.aligned, w.window, w.notRowan, w.notId, w.notBasic, w.reg, w.wide,
    State.ready_reach w.ready, State.commitEnd_of_ready w.ready]

theorem setWide_rd {v : Nat} : (s.setWide f i j v).rd f i j = v % 2 ^ f.w := by
  obtain ⟨c, hc⟩ := s.setWide_eq v w.blkFree
  rw [hc]
  exact State.rd_wr2_same s f i j v

theorem setWide_regsBut {v : Nat} : RegsBut s (s.setWide f i j v) [f.key i j] := by
  obtain ⟨c, hc⟩ := s.setWide_eq v w.blkFree
  rw [hc]
  exact ((RegsBut.refl s _).wr2 (by simp)).of_eq rfl

end State.WideAt

section
variable {s : State} {f : FD} {i j v : Nat} {m : Master}

/-- A write of an upper word is held under the name of its field. -/
theorem State.wideStore_upper {k : Nat} (hacc : f.acc = .rw) (hk : k ≠ 0) : s.wideStore m f i j k v = s.setWhold m ⟨some (f.addr i j), v⟩ := by
  simp [State.wideStore, hacc, hk]

/-- A write of the low word takes the upper word that is held for the field, and empties the write holding register. -/
theorem State.wideStore_low_held (hacc : f.acc = .rw) (hh : (s.wholdOf m).fld = some (f.addr i j)) :
    s.wideStore m f i j 0 v = (s.setWide f i j (v + (s.wholdOf m).up * 2 ^ 32)).setWhold m Hold.init := by
  simp [State.wideStore, hacc, hh]

/-- A write of the low word takes the present upper word where none is held for the field. -/
theorem State.wideStore_low_unheld (hacc : f.acc = .rw) (hh : (s.wholdOf m).fld ≠ some (f.addr i j)) :
    s.wideStore m f i j 0 v = s.setWide f i j (v + s.rd f i j / 2 ^ 32 * 2 ^ 32) := by
  simp [State.wideStore, hacc, beq_false_of_ne hh]

end

namespace State.WideAt

variable {s : State} {addr : BitVec 32} {fs : List FD} {f : FD} {i j k : Nat} (w : s.WideAt addr.toNat fs f i j k) {m : Master} {data : BitVec 32}
  {env : BusEnv}
include w

theorem wideLowRead_spec (hk : k = 0) :
    ∃ t, exec (.wideLowRead m addr) s = .next t ∧ t.respOf m = ⟨false, s.rd f i j % 2 ^ 32⟩ ∧
      t.rholdOf m = ⟨some (f.addr i j), s.rd f i j / 2 ^ 32⟩ ∧ t.regs = s.regs ∧ t.mem = s.mem := by
  subst hk
  have hexec : exec (.wideLowRead m addr) s =
      .next ((s.setRhold m ⟨some (f.addr i j), s.rd f i j / 2 ^ 32⟩).setResp m ⟨false, s.rd f i j % 2 ^ 32⟩) := by
    simp [exec, execWideLowRead, w.wideWord_eq, w.busLoad_eq, State.wideLoad]
  exact ⟨_, hexec, by simp, by simp, rfl, rfl⟩

theorem busLoad_upper_held (hk : k ≠ 0) (hh : (s.rholdOf m).fld = some (f.addr i j)) :
    s.busLoad m addr.toNat = s.setResp m ⟨false, (s.rholdOf m).up⟩ := by
  simp [w.busLoad_eq, State.wideLoad, hk, hh]

theorem busLoad_upper_unheld (hk : k ≠ 0) (hh : (s.rholdOf m).fld ≠ some (f.addr i j)) :
    s.busLoad m addr.toNat = s.setResp m ⟨false, s.rd f i j / 2 ^ 32⟩ := by
  simp [w.busLoad_eq, State.wideLoad, hk, hh]

theorem wideUpperWrite_spec (hk : k ≠ 0) (hacc : f.acc = .rw) :
    ∃ t, exec (.wideUpperWrite m addr data env) s = .next t ∧ t.wholdOf m = ⟨some (f.addr i j), data.toNat⟩ ∧ t.regs = s.regs ∧
      t.mem = s.mem := by
  have hexec : exec (.wideUpperWrite m addr data env) s = .next ((s.setWhold m ⟨some (f.addr i j), data.toNat⟩).ack m) := by
    simp [exec, execWideUpperWrite, w.wideWord_eq, w.busStore_eq, State.wideStore_upper hacc hk, hk]
  exact ⟨_, hexec, by simp, rfl, rfl⟩

theorem exec_wideLowWrite (hk : k = 0) :
    exec (.wideLowWrite m addr data env) s = .next ((s.wideStore m f i j 0 data.toNat).ack m) := by
  subst hk
  simp [exec, execWideLowWrite, w.wideWord_eq, w.busStore_eq]

theorem wideLowWrite_held (hk : k = 0) (hacc : f.acc = .rw) (hh : (s.wholdOf m).fld = some (f.addr i j)) :
    ∃ t, exec (.wideLowWrite m addr data env) s = .next t ∧ t.rd f i j = (data.toNat + (s.wholdOf m).up * 2 ^ 32) % 2 ^ f.w ∧
      t.wholdOf m = Hold.init ∧ RegsBut s t [f.key i j] := by
  refine ⟨_, w.exec_wideLowWrite hk, ?_⟩
  rw [State.wideStore_low_held hacc hh]
  exact ⟨by simp [w.setWide_rd], by simp, w.setWide_regsBut.of_eq rfl⟩

theorem wideLowWrite_unheld (hk : k = 0) (hacc : f.acc = .rw) (hh : (s.wholdOf m).fld ≠ some (f.addr i j)) :
    ∃ t, exec (.wideLowWrite m addr data env) s = .next t ∧ t.rd f i j = (data.toNat + s.rd f i j / 2 ^ 32 * 2 ^ 32) % 2 ^ f.w ∧
      RegsBut s t [f.key i j] := by
  refine ⟨_, w.exec_wideLowWrite hk, ?_⟩
  rw [State.wideStore_low_unheld hacc hh]
  exact ⟨by simp [w.setWide_rd], w.setWide_regsBut.of_eq rfl⟩

end State.WideAt

end Sys2Proof.Machine

open Sys2Proof Sys2Proof.Machine

/-! ## The obligations -/

/-- Settles O49: a step is a command or a tick, and each of them keeps the canonical form, of which the queue is no part. -/
theorem everyStepKeepsCanon : Obligations.EveryStepKeepsCanon := by
  intro s t hs h
  cases hp : s.pending with
  | nil =>
    rw [step_of_pending_nil hp] at h
    injection h with h
    exact h ▸ hs.tick
  | cons c rest =>
    rw [step_of_pending_cons hp] at h
    obtain ⟨hregs, hmem, htcm, hdcache⟩ := hs
    exact (exec_keeps h).canon ⟨hregs, hmem, htcm, hdcache⟩

/-- Settles O38, clause by clause from what a load and a store of a word of a wide field do (R10). -/
theorem wideFields : Obligations.WideFields := by
  intro m addr data env fs f i j k s hreg hwide hal hwin hrow hoff hready hblk _
  have w : s.WideAt addr.toNat fs f i j k := ⟨hreg, hwide, hal, hwin, hrow, hoff.1, hoff.2, hready, hblk⟩
  exact ⟨w.wideLowRead_spec, w.busLoad_upper_held, w.busLoad_upper_unheld, w.wideUpperWrite_spec, w.wideLowWrite_held,
    w.wideLowWrite_unheld⟩

/-- Settles O51, by the lemma about the meaning of each command. -/
theorem commandsKeepQueueAndTime : Obligations.CommandsKeepQueueAndTime := fun _ _ _ h => exec_keeps h

/-- Settles O53: the first command leaves the queue, in whose front the second one stands. -/
theorem waitingCommandsRunInOrder : Obligations.WaitingCommandsRunInOrder := by
  intro c d rest s t h
  have hqueue : t.pending = d :: rest := (exec_keeps h).pending
  exact ⟨h, step_of_pending_cons hqueue⟩

/-- Settles O46: the time and the queue after a tick are those of the state in which time has moved on. -/
theorem stepRunsTheFront : Obligations.StepRunsTheFront := by
  refine ⟨fun c rest s => step_of_pending_cons rfl, fun s hp => ⟨step_of_pending_nil hp, ?_, ?_⟩⟩
  · exact (State.tick_keeps s).now
  · exact (State.tick_keeps s).pending.trans hp

/-- Settles O47: the register file at reset lists no field, so each one reads its reset value. -/
theorem resetLeaves : Obligations.ResetLeaves :=
  fun _ _ _ => ⟨rfl, fun _ => rfl, rfl, rfl, rfl, fun _ _ => ⟨rfl, rfl⟩⟩

/-- Settles O48: at reset every sparse map is empty. -/
theorem canonAtReset : Obligations.CanonAtReset := State.canon_reset

/-- Settles O50: every arm of the dispatcher is a `.next`. -/
theorem everyCommandCompletes : Obligations.EveryCommandCompletes := exec_next
end

section
/-! PROOFS. The statements of spec/01_architecture.md: forbidden accesses, island requests and faults, and the commands that store nothing. -/

namespace Sys2Proof.Machine

/-! ## Fields at other bits -/

/-- Fields whose lowest bits differ lie under different keys, whatever their registers. -/
theorem FD.key_ne_of_lo {f g : FD} {i j a b : Nat} (h : g.lo % 32 ≠ f.lo % 32) : g.key a b ≠ f.key i j := by
  simp only [FD.key]
  omega

/-- A write leaves every field at another bit as it was. -/
theorem State.rd_wr_of_lo {s : State} {f g : FD} {i a b v : Nat} (h : g.lo % 32 ≠ f.lo % 32) : (s.wr f i v).rd g a b = s.rd g a b :=
  State.rd_wr2_ne s v (FD.key_ne_of_lo h)

theorem State.on_wr_of_lo {s : State} {f g : FD} {i a b v : Nat} (h : g.lo % 32 ≠ f.lo % 32) : (s.wr f i v).on g a b = s.on g a b := by
  rw [State.on_eq, State.on_eq, State.rd_wr_of_lo h]

/-- The value written to a field that holds it reads back. -/
theorem State.rd_wr_of_lt {s : State} {f : FD} {i v : Nat} (h : v < 2 ^ f.w) : (s.wr f i v).rd f i = v :=
  (s.rd_wr2_same f i 0 v).trans (Nat.mod_eq_of_lt h)

/-! ## What holds after an operation has run for each element -/

theorem foldEach_preserves {α σ : Type} {P : σ → Prop} {f : α → σ → σ} (hf : ∀ a t, P t → P (f a t)) (l : List α) {s : σ} (h : P s) :
    P (foldEach f l s) := by
  induction l generalizing s with
  | nil => exact h
  | cons a l ih => exact ih (hf a s h)

/-- What the operation on one element brings about, and the operation on any element preserves, holds at the end. -/
theorem foldEach_establishes {α σ : Type} {P : σ → Prop} {f : α → σ → σ} {a : α} (hset : ∀ t, P (f a t)) (hf : ∀ b t, P t → P (f b t))
    {l : List α} (ha : a ∈ l) (s : σ) : P (foldEach f l s) := by
  induction l generalizing s with
  | nil => cases ha
  | cons b l ih =>
    rcases List.mem_cons.1 ha with rfl | ha
    · exact foldEach_preserves hf l (hset s)
    · exact ih ha (f b s)

/-! ## Bus errors (R42) -/

/-- The fields in which a host port shows a bus error (R334, R335). -/
def busErrKeys (p : Nat) : List Nat := [Reg.HP_STAT.BERR.key p 0, Reg.HP_BERR_ADDR.ADDR.key p 0]

/-- An access of master m from s to t ends in a bus error: m is told, no other master is, and nothing else changes but what a host port
shows. -/
structure State.EndsInBusErr (s t : State) (m : Master) : Prop where
  answer : t.respOf m = ⟨true, 0⟩
  others : ∀ m', s.masterNo m' ≠ s.masterNo m → t.respOf m' = s.respOf m'
  noPort : m.port = none → t.regs = s.regs
  port : ∀ p, m.port = some p → RegsBut s t (busErrKeys p)
  rest : { t with regs := s.regs, resp := s.resp } = s

theorem State.busErr_of_port {s : State} {m : Master} {a p : Nat} (h : m.port = some p) :
    s.busErr m a = ((s.setResp m ⟨true, 0⟩).flag Reg.HP_STAT.BERR p).wr Reg.HP_BERR_ADDR.ADDR p a := by
  simp only [State.busErr, h]

theorem State.busErr_of_no_port {s : State} {m : Master} {a : Nat} (h : m.port = none) : s.busErr m a = s.setResp m ⟨true, 0⟩ := by
  simp only [State.busErr, h]

@[simp] theorem State.resp_busErr (s : State) (m : Master) (a : Nat) : (s.busErr m a).resp = (s.setResp m ⟨true, 0⟩).resp := by
  cases m <;> rfl

/-- The mode of the complex does not lie in the registers of a host port. -/
theorem modeKey_not_mem_busErrKeys (p : Nat) : Reg.CPX_STATUS.MODE.key 0 0 ∉ busErrKeys p := by
  simp only [busErrKeys, List.mem_cons, List.not_mem_nil, or_false, FD.key, FD.addr, Reg.CPX_STATUS.MODE, Reg.HP_STAT.BERR,
    Reg.HP_BERR_ADDR.ADDR]
  omega

theorem State.regsBut_busErr {s : State} {m : Master} {a p : Nat} (h : m.port = some p) : RegsBut s (s.busErr m a) (busErrKeys p) := by
  rw [State.busErr_of_port h]
  have hresp : RegsBut s (s.setResp m ⟨true, 0⟩) (busErrKeys p) := (RegsBut.refl s _).of_eq rfl
  exact (hresp.wr2 (by simp [busErrKeys])).wr2 (by simp [busErrKeys])

/-- Masters keep their numbers, which depend on the mode of the complex (R10). -/
@[simp] theorem State.masterNo_busErr (s : State) (m m' : Master) (a : Nat) : (s.busErr m a).masterNo m' = s.masterNo m' := by
  have hmode : (s.busErr m a).rd Reg.CPX_STATUS.MODE = s.rd Reg.CPX_STATUS.MODE := by
    cases hp : m.port with
    | none => rw [State.busErr_of_no_port hp]; rfl
    | some p => exact State.regsBut_busErr hp _ _ (modeKey_not_mem_busErrKeys p)
  have hsplit : (s.busErr m a).splitMode = s.splitMode := by simp only [State.splitMode, hmode]
  cases m' <;> simp only [State.masterNo, hsplit]

theorem State.busErr_endsInBusErr (s : State) (m : Master) (a : Nat) : s.EndsInBusErr (s.busErr m a) m where
  answer := by simp [State.respOf, State.setResp, SMap.get_set_same]
  others m' h := by simp [State.respOf, State.setResp, SMap.get_set_ne _ _ _ _ h]
  noPort h := by rw [State.busErr_of_no_port h]; rfl
  port _ h := State.regsBut_busErr h
  rest := by cases m <;> rfl

/-! ## Accesses that R8, R9 and R40 forbid -/

/-- A write that the address map forbids: misaligned, narrow in a block window, outside every range, or to an offset that names no
register. -/
theorem State.busStore_forbidden {s : State} {m : Master} {env : BusEnv} {size : Size} {a v : Nat}
    (h : a % size.bytes ≠ 0 ∨ (inWindows a = true ∧ size ≠ .b32) ∨ (inWindows a = false ∧ memRangeOf a = none) ∨
      (inWindows a = true ∧ regOf a = none ∧ (winOf a).2 ≠ 0x7FF8 ∧ (winOf a).2 ≠ 0x7FFC)) :
    s.busStore m env size a v = s.busErr m a := by
  rcases h with hal | ⟨hwin, hsize⟩ | ⟨hwin, hmem⟩ | ⟨hwin, hreg, hid, hbasic⟩
  · simp [State.busStore, hal]
  · have hbytes : size.bytes ≠ 4 := by cases size <;> simp_all [Size.bytes]
    simp [State.busStore, hwin, hbytes]
  · simp [State.busStore, State.memStore, hwin, hmem]
  · simp [State.busStore, State.regStore, hwin, hreg, hid, hbasic]

/-- A read of a word that the address map forbids. -/
theorem State.busLoad_forbidden {s : State} {m : Master} {a : Nat}
    (h : a % 4 ≠ 0 ∨ (inWindows a = false ∧ memRangeOf a = none) ∨ (inWindows a = true ∧ regOf a = none ∧ (winOf a).2 ≠ 0x7FF8)) :
    s.busLoad m a = s.busErr m a := by
  rcases h with hal | ⟨hwin, hmem⟩ | ⟨hwin, hreg, hid⟩
  · simp [State.busLoad, hal]
  · simp [State.busLoad, State.memLoad, hwin, hmem]
  · simp [State.busLoad, State.regLoad, hwin, hreg, hid]

/-! ## Refused island requests (R405) -/

theorem State.denyIsland_spec {s : State} {f : FD} (hlo : f.lo % 32 ≠ 24) (hw : f.w = 1) (isl : Fin 39) :
    (s.denyIsland f isl.val).rd f = 1 ∧ (s.denyIsland f isl.val).rd Reg.PWR_EVT.DENY_ISL = isl.val ∧
      OnlyRegs s (s.denyIsland f isl.val) [f.key 0 0, Reg.PWR_EVT.DENY_ISL.key 0 0] := by
  refine ⟨?_, State.rd_wr_of_lt ?_, ((OnlyRegs.refl s _).wr2 (by simp)).wr2 (by simp)⟩
  · exact (State.rd_wr_of_lo hlo).trans (State.rd_wr_of_lt (by simp [hw]))
  · have := isl.isLt
    simp only [Reg.PWR_EVT.DENY_ISL]
    omega

theorem State.enterReset_now (s : State) (isl : Nat) : (s.enterReset isl).now = s.now := (State.enterReset_keeps (Keeps.refl s)).now
theorem State.enterReset_mem (s : State) (isl : Nat) : (s.enterReset isl).mem = s.mem := (State.enterReset_quiet (Quiet.refl s)).mem

/-! ## RST_REQ and its release (R404, R405) -/

section
variable {s : State} {m : Master} {isl : Fin 39}

theorem exec_rstReq (h : s.ready (Reg.ISL_CTRL.RST_REQ.addr isl.val 0) = true) :
    exec (.rstReq m isl) s = .next ((s.rstReq isl.val).ack m) := congrArg Host.Outcome.next (State.winWrite_ready h)

/-- What R405 lists against a reset request: a unit in use, an island that takes none, a SAFE stage that needs Rowan or the complex. -/
def State.rstBarred (s : State) (i : Nat) : Prop :=
  s.islBusy i = true ∨ i ∈ [islMSG, islCLK, islPCV, islCLY] ∨ ((i = islRWN ∨ i = islCPX) ∧ s.safeEnabled = true)

/-- The test of the model is the list of R405. -/
theorem State.rstBarred_iff (s : State) (i : Nat) :
    (s.islBusy i || [islMSG, islCLK, islPCV, islCLY].contains i || ((i == islRWN || i == islCPX) && s.safeEnabled)) = true ↔ s.rstBarred i := by
  simp only [State.rstBarred, Bool.or_eq_true, Bool.and_eq_true, List.contains_iff_mem, beq_iff_eq, or_assoc]

/-- A powered-down island has nothing to reset. -/
theorem State.rstReq_of_down (h : s.on Reg.ISL_CTRL.PD isl.val = true ∨ s.on Reg.ISL_STAT.POWERED isl.val = false) : s.rstReq isl.val = s := by
  rcases h with h | h <;> simp [State.rstReq, h]

theorem State.rstReq_refused (hpd : s.on Reg.ISL_CTRL.PD isl.val = false) (hpow : s.on Reg.ISL_STAT.POWERED isl.val = true)
    (h : s.rstBarred isl.val) : s.rstReq isl.val = s.denyIsland Reg.PWR_EVT.RST_DENIED isl.val := by
  rw [State.rstReq, if_neg (by simp [hpd, hpow]), if_pos ((s.rstBarred_iff isl.val).2 h)]

/-- An accepted request: the island is held in D reset for 1 µs, 500 ticks. -/
theorem State.rstReq_accepted (hpd : s.on Reg.ISL_CTRL.PD isl.val = false) (hpow : s.on Reg.ISL_STAT.POWERED isl.val = true)
    (h : ¬ s.rstBarred isl.val) :
    (s.rstReq isl.val).rd Reg.ISL_CTRL.RST_REQ isl.val = 1 ∧ SMap.get none (s.rstReq isl.val).pwr.hold isl.val = some (s.now + 500) ∧
      (s.rstReq isl.val).regs = ((s.enterReset isl.val).wr Reg.ISL_CTRL.RST_REQ isl.val 1).regs ∧ (s.rstReq isl.val).mem = s.mem := by
  rw [State.rstReq, if_neg (by simp [hpd, hpow]), if_neg (fun e => h ((s.rstBarred_iff isl.val).1 e))]
  refine ⟨?_, ?_, rfl, s.enterReset_mem isl.val⟩
  · exact State.rd_wr_of_lt (s := s.enterReset isl.val) (f := Reg.ISL_CTRL.RST_REQ) (v := 1) (by decide)
  · rw [← s.enterReset_now isl.val]
    exact SMap.get_set_same none (s.enterReset isl.val).pwr.hold isl.val (some ((s.enterReset isl.val).now + 500))

/-- Where nothing else holds it, an island leaves D reset; the complex, Alder and the isolated channels do more at that. -/
theorem State.leaveReset_free {isl : Nat} (hpow : s.on Reg.ISL_STAT.POWERED isl = true) (hrail : s.on Reg.ISL_STAT.RAIL_OK isl = true)
    (hclk : s.on Reg.ISL_STAT.CLK_OK isl = true) (hfault : s.on Reg.ISL_STAT.FAULT isl = false)
    (hhold : SMap.get none s.pwr.hold isl = none) (hpup : SMap.get none s.pwr.pup isl = none) (hunder : s.st.under.contains isl = false)
    (hin : s.on Reg.ISL_STAT.IN_RESET isl = true) (hcpx : isl ≠ islCPX) (hald : isl ≠ islALD) (hisf : isl ≠ islISF) :
    s.leaveReset isl = s.wr Reg.ISL_STAT.IN_RESET isl 0 := by
  simp only [State.leaveReset, hpow, hrail, hclk, hfault, hhold, hpup, hunder, hin, hcpx, hald, hisf, Option.isNone_none, Bool.not_false,
    Bool.not_true, Bool.and_self, Bool.or_self, Bool.false_eq_true, if_false]

/-- The hold of an island ends: RST_REQ reads 0 and the island may leave D reset. -/
def State.holdEnd (s : State) (isl : Nat) : State :=
  ({ s with pwr := { s.pwr with hold := SMap.set none s.pwr.hold isl none } } : State).wr Reg.ISL_CTRL.RST_REQ isl 0

theorem State.hold_holdEnd (s : State) (i : Nat) : SMap.get none (s.holdEnd i).pwr.hold i = none :=
  SMap.get_set_same none s.pwr.hold i none

theorem exec_islandResetRelease_early {h : Nat} (hh : SMap.get none s.pwr.hold isl.val = some h) (hlt : s.now < h) :
    exec (.islandResetRelease isl) s = .next s := by
  simp only [exec, execIslandResetRelease, hh, if_neg (Nat.not_le.2 hlt)]

theorem exec_islandResetRelease_due {h : Nat} (hh : SMap.get none s.pwr.hold isl.val = some h) (hle : h ≤ s.now) :
    exec (.islandResetRelease isl) s = .next ((s.holdEnd isl.val).leaveReset isl.val) := by
  simp only [exec, execIslandResetRelease, hh, if_pos hle, State.holdEnd]

/-- The end of the hold changes no flag of ISL_STAT but POWERED, bit 0 as RST_REQ is, which lies in another register. -/
theorem State.on_holdEnd_of_lo {f : FD} {i : Nat} (h : f.lo % 32 ≠ 0) : (s.holdEnd i).on f i = s.on f i := State.on_wr_of_lo h

theorem FD.powered_key_ne_rstReq_key (i : Nat) : Reg.ISL_STAT.POWERED.key i 0 ≠ Reg.ISL_CTRL.RST_REQ.key i 0 := by
  simp only [FD.key, FD.addr, Reg.ISL_STAT.POWERED, Reg.ISL_CTRL.RST_REQ]
  omega

theorem State.powered_wr_rstReq (s : State) (i v : Nat) : (s.wr Reg.ISL_CTRL.RST_REQ i v).rd Reg.ISL_STAT.POWERED i = s.rd Reg.ISL_STAT.POWERED i :=
  State.rd_wr2_ne s v (FD.powered_key_ne_rstReq_key i)

theorem State.holdEnd_leaveReset {i : Nat} (hcpx : i ≠ islCPX) (hald : i ≠ islALD) (hisf : i ≠ islISF) (hunder : s.st.under.contains i = false)
    (hpow : s.on Reg.ISL_STAT.POWERED i = true) (hrail : s.on Reg.ISL_STAT.RAIL_OK i = true) (hclk : s.on Reg.ISL_STAT.CLK_OK i = true)
    (hfault : s.on Reg.ISL_STAT.FAULT i = false) (hpup : SMap.get none s.pwr.pup i = none) (hin : s.on Reg.ISL_STAT.IN_RESET i = true) :
    (s.holdEnd i).leaveReset i = (s.holdEnd i).wr Reg.ISL_STAT.IN_RESET i 0 := by
  have hpow' : (s.holdEnd i).on Reg.ISL_STAT.POWERED i = true := by
    rw [State.on_eq, State.holdEnd, State.powered_wr_rstReq]
    exact hpow
  exact State.leaveReset_free hpow' ((State.on_holdEnd_of_lo (by decide)).trans hrail) ((State.on_holdEnd_of_lo (by decide)).trans hclk)
    ((State.on_holdEnd_of_lo (by decide)).trans hfault) (s.hold_holdEnd i) hpup hunder
    ((State.on_holdEnd_of_lo (by decide)).trans hin) hcpx hald hisf

theorem State.holdEnd_wr_inReset_spec (s : State) (i : Nat) :
    ((s.holdEnd i).wr Reg.ISL_STAT.IN_RESET i 0).rd Reg.ISL_STAT.IN_RESET i = 0 ∧
      ((s.holdEnd i).wr Reg.ISL_STAT.IN_RESET i 0).rd Reg.ISL_CTRL.RST_REQ i = 0 ∧
      SMap.get none ((s.holdEnd i).wr Reg.ISL_STAT.IN_RESET i 0).pwr.hold i = none ∧
      OnlyRegs s { (s.holdEnd i).wr Reg.ISL_STAT.IN_RESET i 0 with pwr := s.pwr }
        [Reg.ISL_CTRL.RST_REQ.key i 0, Reg.ISL_STAT.IN_RESET.key i 0] := by
  refine ⟨State.rd_wr_of_lt (by decide), ?_, s.hold_holdEnd i, ?_, rfl⟩
  · exact (State.rd_wr_of_lo (by decide)).trans (State.rd_wr_of_lt (by decide))
  · have hend : RegsBut s (s.holdEnd i) [Reg.ISL_CTRL.RST_REQ.key i 0, Reg.ISL_STAT.IN_RESET.key i 0] :=
      ((RegsBut.refl s _).of_eq rfl).wr2 (by simp)
    exact (hend.wr2 (f := Reg.ISL_STAT.IN_RESET) (i := i) (j := 0) (v := 0) (by simp)).of_eq rfl

/-! ## REL (R31, R404, R405) -/

theorem exec_islRel {clk : Bool} (h : s.ready (Reg.ISL_CTRL.REL.addr isl.val 0) = true) :
    exec (.islRel m isl clk) s = .next ((s.relIsland isl.val clk).ack m) := congrArg Host.Outcome.next (State.winWrite_ready h)

theorem State.relIsland_of_no_fault {i : Nat} {clk : Bool} (h : s.on Reg.ISL_STAT.FAULT i = false) : s.relIsland i clk = s := by
  simp [State.relIsland, h]

/-- The clock of an island is back where CLK says so, and else as it was. -/
theorem State.clkOk_onlyIf (s : State) (i : Nat) (clk : Bool) :
    (s.onlyIf clk (·.wr Reg.ISL_STAT.CLK_OK i 1)).on Reg.ISL_STAT.CLK_OK i = (clk || s.on Reg.ISL_STAT.CLK_OK i) := by
  cases clk with
  | false => rfl
  | true => simp [State.on_eq, State.rd_wr_of_lt (s := s) (f := Reg.ISL_STAT.CLK_OK) (i := i) (v := 1) (by decide)]

theorem State.on_clkOk_onlyIf_of_lo {f : FD} {i : Nat} {clk : Bool} (h : f.lo % 32 ≠ 3) :
    (s.onlyIf clk (·.wr Reg.ISL_STAT.CLK_OK i 1)).on f i = s.on f i := by
  cases clk with
  | false => rfl
  | true => exact State.on_wr_of_lo h

theorem State.relIsland_released {i : Nat} {clk : Bool} (hfault : s.on Reg.ISL_STAT.FAULT i = true)
    (hclk : clk = true ∨ s.on Reg.ISL_STAT.CLK_OK i = true) (hrail : s.on Reg.ISL_STAT.RAIL_OK i = true) :
    s.relIsland i clk = ((s.onlyIf clk (·.wr Reg.ISL_STAT.CLK_OK i 1)).wr Reg.ISL_STAT.FAULT i 0).leaveReset i := by
  have hclk' : (clk || s.on Reg.ISL_STAT.CLK_OK i) = true := by simpa using hclk
  simp [State.relIsland, hfault, State.clkOk_onlyIf, hclk', State.on_clkOk_onlyIf_of_lo (f := Reg.ISL_STAT.RAIL_OK) (by decide), hrail]

/-- Without its clock the island stays held. -/
theorem State.relIsland_of_no_clock {i : Nat} (hclk : s.on Reg.ISL_STAT.CLK_OK i = false) : s.relIsland i false = s := by
  simp [State.relIsland, hclk]

/-- Without its rail the island stays held; a clock that has returned shows. -/
theorem State.relIsland_of_no_rail {i : Nat} {clk : Bool} (hfault : s.on Reg.ISL_STAT.FAULT i = true)
    (hrail : s.on Reg.ISL_STAT.RAIL_OK i = false) : s.relIsland i clk = s.onlyIf clk (·.wr Reg.ISL_STAT.CLK_OK i 1) := by
  simp [State.relIsland, hfault, State.on_clkOk_onlyIf_of_lo (f := Reg.ISL_STAT.RAIL_OK) (by decide), hrail]

theorem State.onlyRegs_clkOk_onlyIf (s : State) (i : Nat) (clk : Bool) :
    OnlyRegs s (s.onlyIf clk (·.wr Reg.ISL_STAT.CLK_OK i 1)) [Reg.ISL_STAT.CLK_OK.key i 0] := by
  cases clk with
  | false => exact OnlyRegs.refl s _
  | true => exact (OnlyRegs.refl s _).wr2 (by simp)

/-! ## Power-down and power-up (R404, R405) -/

theorem exec_islandPowerDown {w : Bool} (h : s.ready (Reg.ISL_CTRL.PD.addr isl.val 0) = true) :
    exec (.islandPowerDown m isl w) s = .next ((s.powerDown isl.val w).ack m) := congrArg Host.Outcome.next (State.winWrite_ready h)

theorem exec_islandPowerUp (h : s.ready (Reg.ISL_CTRL.PD.addr isl.val 0) = true) :
    exec (.islandPowerUp m isl) s = .next ((s.closeSwitch isl.val).ack m) := congrArg Host.Outcome.next (State.winWrite_ready h)

/-- What R405 lists against a power-down: no rail switch, a unit in use, a SAFE stage that needs the complex, or work of Alder. -/
def State.pdBarred (s : State) (i : Nat) : Prop :=
  s.on Reg.ISL_STAT.PD_CAP i = false ∨ s.islBusy i = true ∨ (i = islCPX ∧ s.safeEnabled = true) ∨
    (i = islALD ∧ (s.rd Reg.IMG_STATUS.STATE = 1 ∨ s.rd Reg.PWR_STATUS.PWR_STATE = 3))

/-- The test of the model is the list of R405. -/
theorem State.pdBarred_iff (s : State) (i : Nat) :
    (!s.on Reg.ISL_STAT.PD_CAP i || s.islBusy i || (i == islCPX && s.safeEnabled)
      || (i == islALD && (s.rd Reg.IMG_STATUS.STATE == 1 || s.rd Reg.PWR_STATUS.PWR_STATE == 3))) = true ↔ s.pdBarred i := by
  simp only [State.pdBarred, Bool.or_eq_true, Bool.and_eq_true, Bool.not_eq_true', beq_iff_eq, or_assoc]

theorem State.powerDown_of_down {i : Nat} (hpd : s.on Reg.ISL_CTRL.PD i = true) : s.powerDown i false = s := by
  simp [State.powerDown, hpd]

theorem State.powerDown_refused {i : Nat} {w : Bool} (hpd : s.on Reg.ISL_CTRL.PD i = false) (h : s.pdBarred i) :
    s.powerDown i w = s.denyIsland Reg.PWR_EVT.PD_DENIED i := by
  rw [State.powerDown, if_neg (by simp [hpd]), if_pos ((s.pdBarred_iff i).2 h)]

/-- The wake event of the endpoint wins against a power-down in the same cycle. -/
theorem State.powerDown_of_wake {i : Nat} (hpd : s.on Reg.ISL_CTRL.PD i = false) (h : ¬ s.pdBarred i) (hi : i = islCPX ∨ i = islALD) :
    s.powerDown i true = s := by
  rw [State.powerDown, if_neg (by simp [hpd]), if_neg (fun e => h ((s.pdBarred_iff i).1 e)), if_pos (by simpa using hi)]

theorem State.powerDown_accepted {i : Nat} (hpd : s.on Reg.ISL_CTRL.PD i = false) (h : ¬ s.pdBarred i) :
    (s.powerDown i false).rd Reg.ISL_STAT.POWERED i = 0 ∧ (s.powerDown i false).rd Reg.ISL_CTRL.PD i = 1 ∧
      SMap.get none (s.powerDown i false).pwr.pup i = none ∧ (s.powerDown i false).mem = s.mem ∧
      (s.powerDown i false).regs =
        ((((s.enterReset i).wr Reg.ISL_CTRL.PD i 1).wr Reg.ISL_STAT.POWERED i 0).wr Reg.ISL_CTRL.RST_REQ i 0).regs := by
  rw [State.powerDown, if_neg (by simp [hpd]), if_neg (fun e => h ((s.pdBarred_iff i).1 e)), if_neg (by simp)]
  refine ⟨?_, ?_, SMap.get_set_same none (s.enterReset i).pwr.pup i none, s.enterReset_mem i, rfl⟩
  · exact (State.powered_wr_rstReq _ i 0).trans (State.rd_wr_of_lt (by decide))
  · have hset : ((s.enterReset i).wr Reg.ISL_CTRL.PD i 1).rd Reg.ISL_CTRL.PD i = 1 := State.rd_wr_of_lt (by decide)
    have hpow : (((s.enterReset i).wr Reg.ISL_CTRL.PD i 1).wr Reg.ISL_STAT.POWERED i 0).rd Reg.ISL_CTRL.PD i = 1 :=
      (State.rd_wr_of_lo (by decide)).trans hset
    exact (State.rd_wr_of_lo (f := Reg.ISL_CTRL.RST_REQ) (i := i) (v := 0) (by decide)).trans hpow

theorem State.closeSwitch_of_up {i : Nat} (h : s.on Reg.ISL_CTRL.PD i = false) : s.closeSwitch i = s := by
  simp [State.closeSwitch, h]

theorem State.closeSwitch_spec {i : Nat} (h : s.on Reg.ISL_CTRL.PD i = true) :
    (s.closeSwitch i).rd Reg.ISL_CTRL.PD i = 0 ∧ SMap.get none (s.closeSwitch i).pwr.pup i = some s.now ∧
      OnlyRegs s { s.closeSwitch i with pwr := s.pwr } [Reg.ISL_CTRL.PD.key i 0] := by
  rw [State.closeSwitch, if_pos h]
  refine ⟨State.rd_wr_of_lt (s := s) (f := Reg.ISL_CTRL.PD) (v := 0) (by decide), SMap.get_set_same none s.pwr.pup i (some s.now), ?_, rfl⟩
  exact ((RegsBut.refl s [Reg.ISL_CTRL.PD.key i 0]).wr2 (f := Reg.ISL_CTRL.PD) (i := i) (j := 0) (v := 0) (by simp)).of_eq rfl

end

/-! ## Commands that store nothing -/

/-- A command that `mayStore` does not name leaves the memories alone, by the lemma about its meaning. -/
theorem exec_quiet {c : Instr} {s t : State} (hstore : mayStore c = false) (h : exec c s = .next t) : Quiet s t := by
  cases c with
  | basicCommit => exact execBasicCommit_quiet h
  | basicCommitDone => exact execBasicCommitDone_quiet h
  | crossingTimeout => exact execCrossingTimeout_quiet h
  | powerGood => exact execPowerGood_quiet h
  | eccSingleBit => exact execEccSingleBit_quiet h
  | moduleReset => exact execModuleReset_quiet h
  | imgLoad => exact execImgLoad_quiet h
  | imgLockKey => exact execImgLockKey_quiet h
  | imgLockClose => exact execImgLockClose_quiet h
  | stageEnable => exact execStageEnable_quiet h
  | stageDisable => exact execStageDisable_quiet h
  | tbRun => exact execTbRun_quiet h
  | tbgStart => exact execTbgStart_quiet h
  | tbStop => exact execTbStop_quiet h
  | swsync => exact execSwsync_quiet h
  | syncLoad => exact execSyncLoad_quiet h
  | compareMatch => exact execCompareMatch_quiet h
  | triggerPulse => exact execTriggerPulse_quiet h
  | shadowTransfer => exact execShadowTransfer_quiet h
  | ladderCalUpdate => exact execLadderCalUpdate_quiet h
  | ladderCalLimit => exact execLadderCalLimit_quiet h
  | ladderLock => exact execLadderLock_quiet h
  | outmodeApply => exact execOutmodeApply_quiet h
  | deadtimeExpiry => exact execDeadtimeExpiry_quiet h
  | heldEdgeExecute => exact execHeldEdgeExecute_quiet h
  | swnAccept => exact execSwnAccept_quiet h
  | swnWindowExpiry => exact execSwnWindowExpiry_quiet h
  | adtEnable => exact execAdtEnable_quiet h
  | adtFailClear => exact execAdtFailClear_quiet h
  | adtTrimWrite => exact execAdtTrimWrite_quiet h
  | ascDtExpiry => exact execAscDtExpiry_quiet h
  | armedStale => exact execArmedStale_quiet h
  | chopFaultClear => exact execChopFaultClear_quiet h
  | seqEnable => exact execSeqEnable_quiet h
  | seqDisable => exact execSeqDisable_quiet h
  | seqStart => exact execSeqStart_quiet h
  | seqSwstart => exact execSeqSwstart_quiet h
  | seqGroupIssue => exact execSeqGroupIssue_quiet h
  | injEnable => exact execInjEnable_quiet h
  | injTrigger => exact execInjTrigger_quiet h
  | swtrig => exact execSwtrig_quiet h
  | injSlotStart => exact execInjSlotStart_quiet h
  | calStart => exact execCalStart_quiet h
  | adcCalBegin => exact execAdcCalBegin_quiet h
  | ilArm => exact execIlArm_quiet h
  | pairBurstTrigger => exact execPairBurstTrigger_quiet h
  | pairSwstart => exact execPairSwstart_quiet h
  | pairBurstDone => exact execPairBurstDone_quiet h
  | pairCal => exact execPairCal_quiet h
  | pairCalBegin => exact execPairCalBegin_quiet h
  | isoOutput => exact execIsoOutput_quiet h
  | isoOverload => exact execIsoOverload_quiet h
  | isoEnable => exact execIsoEnable_quiet h
  | isoCalStart => exact execIsoCalStart_quiet h
  | lpRouteStart => exact execLpRouteStart_quiet h
  | lpRunStart => exact execLpRunStart_quiet h
  | wrlCapture => exact execWrlCapture_quiet h
  | reqPulse => exact execReqPulse_quiet h
  | lpPen => exact execLpPen_quiet h
  | lpDisable => exact execLpDisable_quiet h
  | swapReq => exact execSwapReq_quiet h
  | blkClr => exact execBlkClr_quiet h
  | fcDisable => exact execFcDisable_quiet h
  | fcStop => exact execFcStop_quiet h
  | probePulseEnd => exact execProbePulseEnd_quiet h
  | fcTblData => exact execFcTblData_quiet h
  | posInputAccept => exact execPosInputAccept_quiet h
  | posSpeedEstimate => exact execPosSpeedEstimate_quiet h
  | hallTimeout => exact execHallTimeout_quiet h
  | posCountWrite => exact execPosCountWrite_quiet h
  | ssiFrameDone => exact execSsiFrameDone_quiet h
  | resolverSamplePair => exact execResolverSamplePair_quiet h
  | excFault => exact execExcFault_quiet h
  | posEnable => exact execPosEnable_quiet h
  | rsEnable => exact execRsEnable_quiet h
  | posFaultClear => exact execPosFaultClear_quiet h
  | rsFaultClear => exact execRsFaultClear_quiet h
  | emuEnable => exact execEmuEnable_quiet h
  | emuStep => exact execEmuStep_quiet h
  | outvoteWindowExpiry => exact execOutvoteWindowExpiry_quiet h
  | yewFillDone => exact execYewFillDone_quiet h
  | pairTestDone => exact execPairTestDone_quiet h
  | checkerTest => exact execCheckerTest_quiet h
  | cpxReportSend => exact execCpxReportSend_quiet h
  | cpxSplit => exact execCpxSplit_quiet h
  | cpxJoin => exact execCpxJoin_quiet h
  | joinFillDone => exact execJoinFillDone_quiet h
  | cpxPause => exact execCpxPause_quiet h
  | cpxResume => exact execCpxResume_quiet h
  | cpxInjGo => exact execCpxInjGo_quiet h
  | dcinv => exact execDcinv_quiet h
  | mtimeCompare => exact execMtimeCompare_quiet h
  | irqSource => exact execIrqSource_quiet h
  | mbWrite => exact execMbWrite_quiet h
  | mbGo => exact execMbGo_quiet h
  | mbRel => exact execMbRel_quiet h
  | abortFill => exact execAbortFill_quiet h
  | mbCfgWrite => exact execMbCfgWrite_quiet h
  | dbRing => exact execDbRing_quiet h
  | dbPendClear => exact execDbPendClear_quiet h
  | semAcq => exact execSemAcq_quiet h
  | semRelease => exact execSemRelease_quiet h
  | hpWr => exact execHpWr_quiet h
  | hpRdsr => exact execHpRdsr_quiet h
  | hpRsten => exact execHpRsten_quiet h
  | hpRst => exact execHpRst_quiet h
  | portTrained => exact execPortTrained_quiet h
  | trainingRetry => exact execTrainingRetry_quiet h
  | portDown => exact execPortDown_quiet h
  | unwrapTimer => exact execUnwrapTimer_quiet h
  | chUnwrap => exact execChUnwrap_quiet h
  | laneFail => exact execLaneFail_quiet h
  | chLsw => exact execChLsw_quiet h
  | chDreq => exact execChDreq_quiet h
  | chDrsp => exact execChDrsp_quiet h
  | markEmit => exact execMarkEmit_quiet h
  | chTxGo => exact execChTxGo_quiet h
  | txFrameSend => exact execTxFrameSend_quiet h
  | chEnum => exact execChEnum_quiet h
  | chToken => exact execChToken_quiet h
  | enumRetry => exact execEnumRetry_quiet h
  | censusEmit => exact execCensusEmit_quiet h
  | chCensus => exact execChCensus_quiet h
  | csyncArm => exact execCsyncArm_quiet h
  | carrierSync => exact execCarrierSync_quiet h
  | prepareWrite => exact execPrepareWrite_quiet h
  | chPrepare => exact execChPrepare_quiet h
  | chArmed => exact execChArmed_quiet h
  | chRefused => exact execChRefused_quiet h
  | chCommit => exact execChCommit_quiet h
  | chAbort => exact execChAbort_quiet h
  | chApplied => exact execChApplied_quiet h
  | chExpired => exact execChExpired_quiet h
  | mcArmTimeout => exact execMcArmTimeout_quiet h
  | mcResultTimeout => exact execMcResultTimeout_quiet h
  | resetOne => exact execResetOne_quiet h
  | resetAll => exact execResetAll_quiet h
  | chReset => exact execChReset_quiet h
  | chainResetApply => exact execChainResetApply_quiet h
  | canRun => exact execCanRun_quiet h
  | canStop => exact execCanStop_quiet h
  | canSyncDone => exact execCanSyncDone_quiet h
  | canTxSelect => exact execCanTxSelect_quiet h
  | canBusError => exact execCanBusError_quiet h
  | txreq => exact execTxreq_quiet h
  | txcan => exact execTxcan_quiet h
  | rxfullRelease => exact execRxfullRelease_quiet h
  | recStart => exact execRecStart_quiet h
  | canRecoveryDone => exact execCanRecoveryDone_quiet h
  | refLost => exact execRefLost_quiet h
  | refValid => exact execRefValid_quiet h
  | localSel => exact execLocalSel_quiet h
  | pllEnable => exact execPllEnable_quiet h
  | relock => exact execRelock_quiet h
  | bandTryTimeout => exact execBandTryTimeout_quiet h
  | pllLock => exact execPllLock_quiet h
  | pllUnlock => exact execPllUnlock_quiet h
  | pllsReturn => exact execPllsReturn_quiet h
  | slewDone => exact execSlewDone_quiet h
  | tickStretch => exact execTickStretch_quiet h
  | prefWrite => exact execPrefWrite_quiet h
  | rstReq => exact execRstReq_quiet h
  | islandResetRelease => exact execIslandResetRelease_quiet h
  | islRel => exact execIslRel_quiet h
  | islandPowerDown => exact execIslandPowerDown_quiet h
  | islandPowerUp => exact execIslandPowerUp_quiet h
  | islandPowered => exact execIslandPowered_quiet h
  | captureCopy => exact execCaptureCopy_quiet h
  | scrubPass => exact execScrubPass_quiet h
  | agingRead => exact execAgingRead_quiet h
  | loadWindow => exact execLoadWindow_quiet h
  | mgStatus => exact execMgStatus_quiet h
  | runHouse => exact execRunHouse_quiet h
  | replyRetry => exact execReplyRetry_quiet h
  | monEnable => exact execMonEnable_quiet h
  | monEvent => exact execMonEvent_quiet h
  | monSample => exact execMonSample_quiet h
  | monClr => exact execMonClr_quiet h
  | monSwev => exact execMonSwev_quiet h
  | dieLinkReturn => exact execDieLinkReturn_quiet h
  | vgioRise => exact execVgioRise_quiet h
  | vgioFall => exact execVgioFall_quiet h
  | claySupplyLoss => exact execClaySupplyLoss_quiet h
  | adcSamplingInstant => exact execAdcSamplingInstant_quiet h
  | isoOverloadEnd => exact execIsoOverloadEnd_quiet h
  | alignPreHalfExpiry => exact execAlignPreHalfExpiry_quiet h
  | dischargePwmEdge => exact execDischargePwmEdge_quiet h
  | hpUnknownCommand => exact execHpUnknownCommand_quiet h
  | malformedManagementRequest => exact execMalformedManagementRequest_quiet h
  | markMissing => exact execMarkMissing_quiet h
  | canArbitrationLost => exact execCanArbitrationLost_quiet h
  | protocolExceptionEvent => exact execProtocolExceptionEvent_quiet h
  | bandSelectionRetry => exact execBandSelectionRetry_quiet h
  | crystalWaitExpiry => exact execCrystalWaitExpiry_quiet h
  | scrubPassEnd => exact execScrubPassEnd_quiet h
  | inputMeasurement => exact execInputMeasurement_quiet h  | _ => cases hstore

/-! ## Rails (R33, R395) -/

/-- RAIL_OK of an island, in a state t, shows the rails of the state s. -/
def State.showRail (s : State) (i : Nat) (t : State) : State :=
  t.wr Reg.ISL_STAT.RAIL_OK i (match islRail i with
    | some r => b2n (s.railUp r)
    | none => 1)

/-- Beside PG, the power-good flags are RAIL_OK of every island. -/
theorem State.showRails_eq (s : State) : ∃ v, s.showRails = foldEach s.showRail (List.range 39) (s.wr Reg.PWR_STATUS.PG 0 v) := ⟨_, rfl⟩

theorem State.rails_foldEach_showRail (s : State) (l : List Nat) (t : State) : (foldEach s.showRail l t).rails = t.rails :=
  foldEach_preserves (P := fun u : State => u.rails = t.rails) (f := s.showRail) (fun _ _ h => h) l rfl

/-- The rails are as they were: the power-good flags only show them. -/
@[simp] theorem State.rails_showRails (s : State) : s.showRails.rails = s.rails := by
  obtain ⟨v, hv⟩ := s.showRails_eq
  rw [hv, State.rails_foldEach_showRail]
  rfl

theorem State.railOk_showRail_same {s t : State} {i r : Nat} (hr : islRail i = some r) :
    (s.showRail i t).rd Reg.ISL_STAT.RAIL_OK i = b2n (s.railUp r) := by
  simp only [State.showRail, hr]
  exact State.rd_wr_of_lt (by cases s.railUp r <;> decide)

theorem State.railOk_showRail_ne {s t : State} {i k : Nat} (h : i ≠ k) :
    (s.showRail k t).rd Reg.ISL_STAT.RAIL_OK i = t.rd Reg.ISL_STAT.RAIL_OK i := by
  refine State.rd_wr2_ne t _ ?_
  simp only [FD.key, FD.addr, Reg.ISL_STAT.RAIL_OK]
  omega

/-- RAIL_OK of an island shows its rail set. -/
theorem State.railOk_showRails {s : State} {i r : Nat} (hi : i < 39) (hr : islRail i = some r) :
    s.showRails.rd Reg.ISL_STAT.RAIL_OK i = b2n (s.railUp r) := by
  obtain ⟨v, hv⟩ := s.showRails_eq
  rw [hv]
  refine foldEach_establishes (P := fun t : State => t.rd Reg.ISL_STAT.RAIL_OK i = b2n (s.railUp r)) (fun _ => State.railOk_showRail_same hr)
    (fun k t ht => ?_) (List.mem_range.2 hi) _
  by_cases hk : i = k
  · exact hk ▸ State.railOk_showRail_same hr
  · exact (State.railOk_showRail_ne hk).trans ht

theorem RailSet.no_eq_eight {r : RailSet} : r.no = 8 ↔ r = .kalP := by cases r <;> decide
theorem RailSet.no_eq_five {r : RailSet} : r.no = 5 ↔ r = .cmpC := by cases r <;> decide

theorem exec_railFault {set : RailSet} {s : State} (h : s.railUp set.no = true) : exec (.railFault set) s = .next (s.railFall set.no) := by
  simp only [exec, execRailFault, h, State.onlyIf_true]

/-- The keep-alive rail is no island fault. -/
theorem State.railFall_keepAlive (s : State) :
    s.railFall 8 = ({ s with rails := SMap.set false s.rails 8 false } : State).showRails.flag Reg.PWR_EVT.PG_FAIL 0 := by
  simp only [State.railFall, if_true]

/-- The compute rail of die C also stops the clocks that its phase-locked loops make. -/
theorem State.railFall_compute (s : State) :
    s.railFall 5 = foldEach (fun k t => t.dieLinkLost k) (railLinks 5)
      (foldEach (fun i (t : State) => if t.on Reg.ISL_STAT.CLK_OK i then t.clockLost i else t) loopIslands
      (foldEach (fun i t => t.islandFault i) (railIslands 5)
      ((({ s with rails := SMap.set false s.rails 5 false } : State).showRails.flag Reg.PWR_EVT.PG_FAIL 0).tripStages
      (stagesWhere fun n => (railIslands 5).any fun i => (s.stagesIn i).contains n)))) := by
  simp only [State.railFall, if_true, if_neg (show (5 : Nat) ≠ 8 by decide)]

/-- A rail set other than those of the keep-alive rail and of the compute region of die C falls. -/
theorem State.railFall_of_ne {s : State} {r : Nat} (h8 : r ≠ 8) (h5 : r ≠ 5) :
    s.railFall r = foldEach (fun k t => t.dieLinkLost k) (railLinks r) (foldEach (fun i t => t.islandFault i) (railIslands r)
      ((({ s with rails := SMap.set false s.rails r false } : State).showRails.flag Reg.PWR_EVT.PG_FAIL 0).tripStages
      (stagesWhere fun n => (railIslands r).any fun i => (s.stagesIn i).contains n))) := by
  simp only [State.railFall, if_neg h8, if_neg h5]

theorem exec_powerGood_spec (set : RailSet) (s : State) :
    ∃ t, exec (.powerGood set) s = .next t ∧ t.railUp set.no = true ∧ (∀ i < 39, islRail i = some set.no → t.rd Reg.ISL_STAT.RAIL_OK i = 1) ∧
      t.mem = s.mem := by
  have hup : State.railUp { s with rails := SMap.set false s.rails set.no true } set.no = true := SMap.get_set_same false s.rails set.no true
  refine ⟨_, rfl, ?_, fun i hi hr => ?_, (exec_quiet (c := .powerGood set) rfl rfl).mem⟩
  · rw [State.railUp, State.rails_showRails]
    exact hup
  · rw [State.railOk_showRails hi hr, hup]
    rfl

/-! ## Island faults (R31, R33) -/

theorem State.islandFault_flags (s : State) (i : Nat) :
    (s.islandFault i).rd Reg.ISL_STAT.FAULT i = 1 ∧ (s.islandFault i).rd Reg.PWR_EVT.ISL_FAULT = 1 := by
  refine ⟨?_, State.rd_wr_of_lt (f := Reg.PWR_EVT.ISL_FAULT) (by decide)⟩
  exact (State.rd_wr_of_lo (f := Reg.PWR_EVT.ISL_FAULT) (by decide)).trans (State.rd_wr_of_lt (by decide))

theorem exec_islandClockLost {s : State} {isl : Fin 37} (hpow : s.on Reg.ISL_STAT.POWERED isl.val = true)
    (hclk : s.on Reg.ISL_STAT.CLK_OK isl.val = true) : exec (.islandClockLost isl) s = .next (s.clockLost isl.val) := by
  simp only [exec, execIslandClockLost, hpow, hclk, Bool.and_self, State.onlyIf_true]

theorem exec_islandClockLost_idle {s : State} {isl : Fin 37}
    (h : s.on Reg.ISL_STAT.POWERED isl.val = false ∨ s.on Reg.ISL_STAT.CLK_OK isl.val = false) : exec (.islandClockLost isl) s = .next s := by
  rcases h with h | h <;> simp only [exec, execIslandClockLost, h, Bool.false_and, Bool.and_false, State.onlyIf_false]

/-- The clock forward returns to islands that PLL-T clocks (R23, R382). -/
theorem exec_dieLinkReturn_clockForward {s : State} (hrun : s.clk.tRun = true) (hlost : s.links.clockForward = true) :
    exec (.dieLinkReturn .clockForward) s = .next (foldEach (fun i (t : State) => t.clkIsland i) forwardIslands
      ({ s with links := { s.links with clockForward := false } } : State)).showAllActive := by
  simp only [exec, execDieLinkReturn, Links.set, if_pos (And.intro hrun hlost)]

/-! ## The gate driver supply (R113) -/

/-- The polarity latches of a leg lose their values. -/
def State.unloadPad (l : Nat) (t : State) : State := t.setPad l { t.pad l with polH := none, polL := none }

theorem State.pad_foldEach_unloadPad {l : Nat} {ls : List Nat} (h : l ∈ ls) (s : State) :
    ((foldEach State.unloadPad ls s).pad l).polH = none ∧ ((foldEach State.unloadPad ls s).pad l).polL = none := by
  refine foldEach_establishes (P := fun t : State => (t.pad l).polH = none ∧ (t.pad l).polL = none) (fun t => ?_) (fun k t ht => ?_) h s
  · simp [State.unloadPad]
  · by_cases hk : l = k
    · simp [State.unloadPad, hk]
    · rw [State.unloadPad, State.pad_setPad_ne t _ hk]
      exact ht

/-- The latches are no registers and no memory. -/
theorem State.foldEach_unloadPad_frame (ls : List Nat) (s : State) :
    (foldEach State.unloadPad ls s).vgio = s.vgio ∧ (foldEach State.unloadPad ls s).regs = s.regs ∧ (foldEach State.unloadPad ls s).mem = s.mem :=
  foldEach_preserves (P := fun t : State => t.vgio = s.vgio ∧ t.regs = s.regs ∧ t.mem = s.mem) (f := State.unloadPad) (fun _ _ h => h) ls ⟨rfl, rfl, rfl⟩

theorem exec_vgioRise {s : State} (h : s.vgio = false) :
    exec .vgioRise s = .next (foldEach State.unloadPad (List.range 24) { s with vgio := true }) := by
  simp only [exec, execVgioRise, h, Bool.false_eq_true, if_false]
  rfl

theorem exec_vgioFall (s : State) : exec .vgioFall s = .next (foldEach State.unloadPad (List.range 24) { s with vgio := false }) := rfl

end Sys2Proof.Machine

open Sys2Proof Sys2Proof.Machine

/-! ## The obligations -/

/-- Settles O52, by the lemma about the meaning of each command that `mayStore` does not name. -/
theorem commandsThatStoreNothing : Obligations.CommandsThatStoreNothing := by
  intro c s t hstore h
  obtain ⟨hmem, htcm⟩ := exec_quiet hstore h
  exact ⟨fun a => by rw [State.byte, hmem, State.byte], fun core off => by rw [State.tcmByte, htcm, State.tcmByte]⟩

/-- Settles O37: each forbidden access is the bus error of its master, which reaches nothing else. -/
theorem forbiddenAccesses : Obligations.ForbiddenAccesses := by
  refine ⟨fun m size addr data env s h => ?_, fun m addr s h => ?_⟩
  · obtain ⟨hanswer, hothers, hnoPort, hport, hrest⟩ := s.busErr_endsInBusErr m addr.toNat
    exact ⟨_, congrArg Host.Outcome.next (State.busStore_forbidden h), hanswer, hothers, hnoPort, hport, hrest⟩
  · obtain ⟨hanswer, hothers, hnoPort, hport, hrest⟩ := s.busErr_endsInBusErr m addr.toNat
    rw [State.busLoad_forbidden h]
    exact ⟨hanswer, hothers, hnoPort, hport, hrest⟩

/-- Settles O34, clause by clause: each command answers the state of the lemma about its operation. -/
theorem islandRequests : Obligations.IslandRequests := by
  refine ⟨fun m isl s hready => ?rstReq, fun isl h s hhold => ?release, fun m isl clk s hready => ?rel, fun m isl s hready => ?pd, fun isl s => ?powered,
    fun isl s => ?clock, fun s => ?links, fun s => ?vgio, fun set s => ?rails⟩
  case rstReq =>
    simp only [exec_rstReq hready]
    refine ⟨fun hdown => by rw [State.rstReq_of_down hdown], fun hpd hpow => ⟨fun hbar => ?_, fun hbusy hnot hsafe => ?_⟩⟩
    · rw [State.rstReq_refused hpd hpow hbar]
      obtain ⟨hflag, hisl, honly⟩ := s.denyIsland_spec (f := Reg.PWR_EVT.RST_DENIED) (by decide) rfl isl
      exact ⟨_, rfl, hflag, hisl, State.respOf_setResp _ _ _, honly.setResp⟩
    · have hbar : ¬ s.rstBarred isl.val := by simpa [State.rstBarred, hbusy, hnot] using hsafe
      obtain ⟨hreq, hheld, hregs, hmem⟩ := State.rstReq_accepted hpd hpow hbar
      exact ⟨_, rfl, hreq, hheld, State.respOf_setResp _ _ _, hregs, hmem⟩
  case release =>
    refine ⟨exec_islandResetRelease_early hhold, exec_islandResetRelease_due hhold, ?_⟩
    intro hdue hcpx hald hisf hunder hpow hrail hclk hfault hpup hin
    rw [exec_islandResetRelease_due hhold hdue, State.holdEnd_leaveReset hcpx hald hisf hunder hpow hrail hclk hfault hpup hin]
    exact ⟨_, rfl, s.holdEnd_wr_inReset_spec isl.val⟩
  case rel =>
    simp only [exec_islRel hready]
    refine ⟨fun hfault => by rw [State.relIsland_of_no_fault hfault], fun hfault hclk hrail => by rw [State.relIsland_released hfault hclk hrail],
      fun hfault hc hclk => by rw [hc, State.relIsland_of_no_clock hclk], fun hfault hrail => ?_⟩
    rw [State.relIsland_of_no_rail hfault hrail]
    exact ⟨_, rfl, (State.on_clkOk_onlyIf_of_lo (by decide)).trans hfault, State.respOf_setResp _ _ _, (s.onlyRegs_clkOk_onlyIf isl.val clk).setResp⟩
  case pd =>
    simp only [exec_islandPowerDown hready, exec_islandPowerUp hready]
    refine ⟨fun hpd hbar w => ?_, fun hpd hcap hbusy hcpx hald => ?_, fun hpd hwake hcap hbusy => ?_, fun hpd => ⟨?_, ?_⟩, fun hpd => ?_⟩
    · rw [State.powerDown_refused hpd hbar]
      obtain ⟨hflag, hisl, honly⟩ := s.denyIsland_spec (f := Reg.PWR_EVT.PD_DENIED) (by decide) rfl isl
      exact ⟨_, rfl, hflag, hisl, State.respOf_setResp _ _ _, honly.setResp⟩
    · have hbar : ¬ s.pdBarred isl.val := by simpa [State.pdBarred, hcap, hbusy] using ⟨hcpx, hald⟩
      obtain ⟨hpow, hpd', hpup, hmem, hregs⟩ := State.powerDown_accepted hpd hbar
      exact ⟨_, rfl, hpow, hpd', hpup, hmem, State.respOf_setResp _ _ _, hregs⟩
    · have hbar : ¬ s.pdBarred isl.val := by
        rcases hwake with ⟨hi, hsafe⟩ | ⟨hi, himg, hpwr⟩
        · have hald : isl.val ≠ islALD := by rw [hi]; decide
          simp [State.pdBarred, hcap, hbusy, hsafe, hald]
        · have hcpx : isl.val ≠ islCPX := by rw [hi]; decide
          simp [State.pdBarred, hcap, hbusy, himg, hpwr, hcpx]
      rw [State.powerDown_of_wake hpd hbar (hwake.imp And.left And.left)]
    · rw [State.powerDown_of_down hpd]
    · obtain ⟨hpd', hpup, honly⟩ := State.closeSwitch_spec hpd
      exact ⟨_, rfl, hpd', hpup, State.respOf_setResp _ _ _, honly.setResp (m := m) (r := ⟨false, 0⟩)⟩
    · rw [State.closeSwitch_of_up hpd]
  case powered =>
    exact ⟨fun hpup => by simp only [exec, execIslandPowered, hpup], fun h hpup => by simp only [exec, execIslandPowered, hpup]⟩
  case clock =>
    refine ⟨exec_islandClockLost_idle, fun hpow hclk => ?_⟩
    obtain ⟨hfault, hevt⟩ := (s.wr Reg.ISL_STAT.CLK_OK isl.val 0).islandFault_flags isl.val
    exact ⟨_, exec_islandClockLost hpow hclk, hfault, hevt, rfl⟩
  case links =>
    exact ⟨rfl, rfl, rfl, rfl, rfl, rfl, rfl, rfl, rfl, rfl, rfl, exec_dieLinkReturn_clockForward⟩
  case vgio =>
    refine ⟨fun h => by simp only [exec, execVgioRise, h, if_true], fun h => ⟨_, exec_vgioRise h, ?_⟩, ⟨_, exec_vgioFall s, ?_⟩⟩
    · obtain ⟨hv, hregs, hmem⟩ := State.foldEach_unloadPad_frame (List.range 24) { s with vgio := true }
      exact ⟨hv, fun l hl => State.pad_foldEach_unloadPad (List.mem_range.2 hl) _, hregs, hmem⟩
    · obtain ⟨hv, hregs, hmem⟩ := State.foldEach_unloadPad_frame (List.range 24) { s with vgio := false }
      exact ⟨hv, fun l hl => State.pad_foldEach_unloadPad (List.mem_range.2 hl) _, hregs, hmem⟩
  case rails =>
    refine ⟨exec_powerGood_spec set s, fun hdown => by simp only [exec, execRailFault, hdown, State.onlyIf_false], fun hup => ?_, fun hup h8 h5 => ?_,
      fun hup => ?_⟩
    · exact (exec_railFault (set := .kalP) hup).trans (congrArg Host.Outcome.next s.railFall_keepAlive)
    · exact (exec_railFault hup).trans (congrArg Host.Outcome.next (State.railFall_of_ne (mt RailSet.no_eq_eight.1 h8) (mt RailSet.no_eq_five.1 h5)))
    · exact (exec_railFault (set := .cmpC) hup).trans (congrArg Host.Outcome.next s.railFall_compute)

end

section
/-! PROOFS. The statement of spec/02_ahnulo_image.md: run-time loads, the image lock, RWI writes and stage enables. -/

namespace Sys2Proof.Machine

/-! ## Frames of the register file -/

theorem RegsBut.trans {s t u : State} {ks : List Nat} (h : RegsBut s t ks) (h' : RegsBut t u ks) : RegsBut s u ks :=
  fun d k hk => (h' d k hk).trans (h d k hk)

theorem RegsBut.mono {s t : State} {ks ls : List Nat} (h : RegsBut s t ks) (hsub : ks ⊆ ls) : RegsBut s t ls :=
  fun d k hk => h d k (mt (@hsub k) hk)

/-- A field that the list does not name reads as before. -/
theorem RegsBut.rd_eq {s t : State} {ks : List Nat} (h : RegsBut s t ks) {f : FD} {i j : Nat} (hk : f.key i j ∉ ks) :
    t.rd f i j = s.rd f i j := h _ _ hk

/-- What the operation on each element leaves alone, running it for every element leaves alone. -/
theorem RegsBut.foldEach {α : Type} {ks : List Nat} {f : α → State → State} {l : List α} (hf : ∀ a ∈ l, ∀ t, RegsBut t (f a t) ks) (s : State) :
    RegsBut s (foldEach f l s) ks := by
  induction l generalizing s with
  | nil => exact RegsBut.refl s ks
  | cons a l ih => exact (hf a (by simp) s).trans (ih (fun b hb => hf b (by simp [hb])) (f a s))

/-- A write leaves the fields under every other key as they were. -/
theorem State.rd_wr_ne {s : State} {f g : FD} {i a b v : Nat} (h : g.key a b ≠ f.key i 0) : (s.wr f i v).rd g a b = s.rd g a b :=
  State.rd_wr2_ne s v h

/-- A flag that is set reads 1. -/
theorem State.rd_flag {s : State} {f : FD} {i : Nat} (hw : f.w = 1) : (s.flag f i).rd f i = 1 :=
  State.rd_wr_of_lt (by simp [hw])

theorem State.regsBut_flag (s : State) (f : FD) (i : Nat) : RegsBut s (s.flag f i) [f.key i 0] := (RegsBut.refl s _).wr2 (by simp)

/-! ## What a load shows (R52, R67, R434) -/

/-- The fields of STG_STATE of a stage (R67). -/
def readyKeys (n : Nat) : List Nat :=
  [Reg.STG_STATE.READY.key n 0, Reg.STG_STATE.DEGRADED.key n 0, Reg.STG_STATE.CLAIM_FAIL.key n 0, Reg.STG_STATE.FAIL_RES.key n 0]

theorem State.regsBut_showReady (s : State) (n : Nat) : RegsBut s (s.showReady n) (readyKeys n) :=
  ((((RegsBut.refl s _).wr2 (by simp [readyKeys])).wr2 (by simp [readyKeys])).wr2 (by simp [readyKeys])).wr2 (by simp [readyKeys])

theorem State.regsBut_showAllReady (s : State) : RegsBut s s.showAllReady ((List.range 8).flatMap readyKeys) :=
  RegsBut.foldEach (fun n hn t => (t.regsBut_showReady n).mono fun _ hk => List.mem_flatMap.2 ⟨n, hn, hk⟩) s

theorem State.regsBut_showSeqs (s : State) : RegsBut s s.showSeqs [Reg.IMG_SEQ.SEQ.key 0 0, Reg.IMG_SEQ.SEQ.key 1 0] :=
  RegsBut.foldEach (l := [0, 1]) (fun _ hk t => (RegsBut.refl t _).wr2 (List.mem_map_of_mem (f := (Reg.IMG_SEQ.SEQ.key · 0)) hk)) s

/-- The fields of Alder in which a logged event shows (R435). -/
def logKeys : List Nat := [Reg.ALD_STATUS.QUEUE.key 0 0, Reg.ALD_CNT.LOST_CNT.key 0 0, Reg.ALD_EVT.EV_LOST.key 0 0]

theorem State.regsBut_setLogq (s : State) (q : List LogRec) : RegsBut s (s.setLogq q) logKeys :=
  ((RegsBut.refl s logKeys).of_eq (u := { s with logq := q }) rfl).wr2 (by simp [logKeys])

theorem State.regsBut_logEv (s : State) (code src : Nat) (data : List Nat) : RegsBut s (s.logEv code src data) logKeys := by
  unfold State.logEv
  split
  · exact RegsBut.refl s _
  split
  · exact s.regsBut_setLogq _
  split
  · exact s.regsBut_setLogq _
  · exact (((RegsBut.refl s logKeys).of_eq (u := { s with logLost := s.logLost + 1 }) rfl).wr2 (by simp [logKeys])).wr2 (by simp [logKeys])

/-! ## Run-time loads (R52) -/

theorem exec_imgLoad {m : Master} {slot : Fin 2} {s : State} (h : s.ready (Reg.IMG_CTRL.LOAD.addr 0 0) = true) :
    exec (.imgLoad m slot) s = .next ((s.loadWrite slot.val).ack m) := congrArg Host.Outcome.next (State.winWrite_ready h)

section
variable {s : State} {slot : Nat}

theorem State.loadWrite_refused (h : s.rd Reg.IMG_STATUS.STATE = 1 ∨ ∃ n < 8, s.stgEnabled n = true) :
    s.loadWrite slot = s.flag Reg.IMG_CTRL.LOAD_ERR 0 := by
  have hbar : s.rd Reg.IMG_STATUS.STATE = 1 ∨ (List.range 8).any s.stgEnabled = true := by simpa using h
  simp only [State.loadWrite, if_pos hbar]

theorem State.loadWrite_accepted (hst : s.rd Reg.IMG_STATUS.STATE ≠ 1) (hen : ∀ n < 8, s.stgEnabled n = false) :
    s.loadWrite slot =
      { (((s.wr Reg.IMG_CTRL.SLOT 0 slot).wr Reg.IMG_STATUS.STATE 0 1).flag Reg.IMG_CTRL.LOAD 0).showAllReady with
        img := { s.img with slot := slot, prev := s.rd Reg.IMG_STATUS.STATE } } := by
  have hfree : ¬ (s.rd Reg.IMG_STATUS.STATE = 1 ∨ (List.range 8).any s.stgEnabled = true) := by simpa [hst] using hen
  exact if_neg hfree

/-- STATE reads LOADING, and IMG_CTRL the load and its slot. -/
theorem State.loadWrite_accepted_rd (hst : s.rd Reg.IMG_STATUS.STATE ≠ 1) (hen : ∀ n < 8, s.stgEnabled n = false) (hslot : slot < 2) :
    (s.loadWrite slot).rd Reg.IMG_STATUS.STATE = 1 ∧ (s.loadWrite slot).rd Reg.IMG_CTRL.LOAD = 1 ∧
      (s.loadWrite slot).rd Reg.IMG_CTRL.SLOT = slot := by
  set u := ((s.wr Reg.IMG_CTRL.SLOT 0 slot).wr Reg.IMG_STATUS.STATE 0 1).flag Reg.IMG_CTRL.LOAD 0
  have hshow : RegsBut u (s.loadWrite slot) ((List.range 8).flatMap readyKeys) :=
    u.regsBut_showAllReady.of_eq (by rw [State.loadWrite_accepted hst hen])
  refine ⟨(hshow.rd_eq (by decide)).trans ?_, (hshow.rd_eq (by decide)).trans (State.rd_flag rfl), (hshow.rd_eq (by decide)).trans ?_⟩
  · exact (State.rd_wr_ne (by decide)).trans (State.rd_wr_of_lt (by decide))
  · exact (State.rd_wr_ne (by decide)).trans ((State.rd_wr_ne (by decide)).trans (State.rd_wr_of_lt hslot))

theorem exec_loadDone (hald : s.present islALD = true) (hst : s.rd Reg.IMG_STATUS.STATE = 1) : exec .loadDone s = .next s.loadEnd := by
  simp [exec, execLoadDone, hald, hst]

theorem State.loadEnd_passed (h : (s.verify s.img.slot).1 = 0) :
    s.loadEnd = (((s.wr Reg.IMG_CTRL.LOAD 0 0).showSeqs).applyImage s.img.slot false).imgRecord s.img.slot := by
  simp only [State.loadEnd, if_pos h]

theorem State.loadEnd_failed (h : (s.verify s.img.slot).1 ≠ 0) :
    s.loadEnd = (((((s.wr Reg.IMG_CTRL.LOAD 0 0).showSeqs).wr Reg.IMG_STATUS.STATE 0 s.img.prev).imgFailed s.img.slot
      (s.verify s.img.slot).1 (s.verify s.img.slot).2).showAllReady).imgRecord s.img.slot := by
  simp only [State.loadEnd, if_neg h]

theorem State.mem_loadEnd_failed (h : (s.verify s.img.slot).1 ≠ 0) : s.loadEnd.mem = s.mem := by
  rw [State.loadEnd_failed h]
  exact (State.imgRecord_quiet (State.showAllReady_quiet (State.imgFailed_quiet (State.wr_quiet (State.showSeqs_quiet
    (State.wr_quiet (Quiet.refl s))))))).mem

/-- IMG_FAIL names the step, the resource and the slot of a failed verification (R50). -/
theorem State.imgFailed_rd (s : State) (slot code res : Nat) :
    (s.imgFailed slot code res).rd Reg.IMG_FAIL.FAIL_CODE = code % 256 ∧ (s.imgFailed slot code res).rd Reg.IMG_FAIL.FAIL_RES = res % 4096 ∧
      (s.imgFailed slot code res).rd Reg.IMG_FAIL.FAIL_SLOT = slot % 2 := by
  refine ⟨?_, ?_, State.rd_wr2_same _ _ _ _ _⟩
  · exact (State.rd_wr_ne (by decide)).trans ((State.rd_wr_ne (by decide)).trans (State.rd_wr2_same _ _ _ _ _))
  · exact (State.rd_wr_ne (by decide)).trans (State.rd_wr2_same _ _ _ _ _)

theorem State.regsBut_imgFailed (s : State) (slot code res : Nat) : RegsBut s (s.imgFailed slot code res)
    [Reg.IMG_FAIL.FAIL_CODE.key 0 0, Reg.IMG_FAIL.FAIL_RES.key 0 0, Reg.IMG_FAIL.FAIL_SLOT.key 0 0] :=
  (((RegsBut.refl s _).wr2 (by simp)).wr2 (by simp)).wr2 (by simp)

/-- The registers after a failed verification: those of `imgFailed` but for what READY and the log show. -/
theorem State.loadEnd_failed_rd (h : (s.verify s.img.slot).1 ≠ 0) (hprev : s.img.prev < 4) :
    s.loadEnd.rd Reg.IMG_STATUS.STATE = s.img.prev ∧ s.loadEnd.rd Reg.IMG_CTRL.LOAD = 0 ∧
      s.loadEnd.rd Reg.IMG_FAIL.FAIL_CODE = (s.verify s.img.slot).1 % 256 ∧ s.loadEnd.rd Reg.IMG_FAIL.FAIL_RES = (s.verify s.img.slot).2 % 4096 ∧
      s.loadEnd.rd Reg.IMG_FAIL.FAIL_SLOT = s.img.slot % 2 := by
  rw [State.loadEnd_failed h]
  set t := (s.wr Reg.IMG_CTRL.LOAD 0 0).showSeqs
  set u := t.wr Reg.IMG_STATUS.STATE 0 s.img.prev
  set v := u.imgFailed s.img.slot (s.verify s.img.slot).1 (s.verify s.img.slot).2
  have hshown : RegsBut v (v.showAllReady.imgRecord s.img.slot) ((List.range 8).flatMap readyKeys ++ logKeys) :=
    (v.regsBut_showAllReady.mono (List.subset_append_left _ _)).trans
      ((State.regsBut_logEv _ _ _ _).mono (List.subset_append_right _ _))
  have hfail : RegsBut u v _ := u.regsBut_imgFailed _ _ _
  have hseqs : RegsBut (s.wr Reg.IMG_CTRL.LOAD 0 0) t _ := State.regsBut_showSeqs _
  obtain ⟨hcode, hres, hslot⟩ := u.imgFailed_rd s.img.slot (s.verify s.img.slot).1 (s.verify s.img.slot).2
  refine ⟨?_, ?_, (hshown.rd_eq (by decide)).trans hcode, (hshown.rd_eq (by decide)).trans hres, (hshown.rd_eq (by decide)).trans hslot⟩
  · calc _ = v.rd Reg.IMG_STATUS.STATE := hshown.rd_eq (by decide)
      _ = u.rd Reg.IMG_STATUS.STATE := hfail.rd_eq (by decide)
      _ = s.img.prev := State.rd_wr_of_lt hprev
  · calc _ = v.rd Reg.IMG_CTRL.LOAD := hshown.rd_eq (by decide)
      _ = u.rd Reg.IMG_CTRL.LOAD := hfail.rd_eq (by decide)
      _ = t.rd Reg.IMG_CTRL.LOAD := State.rd_wr_ne (by decide)
      _ = (s.wr Reg.IMG_CTRL.LOAD 0 0).rd Reg.IMG_CTRL.LOAD := hseqs.rd_eq (by decide)
      _ = 0 := State.rd_wr_of_lt (by decide)

end

/-! ## The image lock (R63, R65) -/

theorem Master.code_lt (m : Master) : m.code < 4 := by cases m <;> decide

section
variable {m : Master} {s : State} {key : BitVec 16}

theorem exec_imgLockKey (h : s.ready (Reg.IMG_LOCK.KEY.addr 0 0) = true) :
    exec (.imgLockKey m key) s = .next ((s.lockWrite m key.toNat false).ack m) := congrArg Host.Outcome.next (State.winWrite_ready h)

/-- CLOSE acts after the key. -/
theorem exec_imgLockClose (h : s.ready (Reg.IMG_LOCK.KEY.addr 0 0) = true) :
    exec (.imgLockClose m key) s = .next ((s.lockWrite m key.toNat false).closeLock.ack m) :=
  congrArg Host.Outcome.next (State.winWrite_ready h)

/-- The lock opens for a master. -/
def State.openLock (s : State) (m : Master) : State :=
  ((s.flag Reg.IMG_STATUS.LOCK_OPEN 0).flag Reg.IMG_LOCK.OPEN 0).wr Reg.IMG_LOCK.OPENER 0 m.code

theorem State.lockWrite_first : s.lockWrite m (0xA5C3 : BitVec 16).toNat false = s.setKeyStep (some (s.masterNo m)) := by simp [State.lockWrite]

theorem State.lockWrite_zero : s.lockWrite m (0 : BitVec 16).toNat false = s.setKeyStep none := by simp [State.lockWrite]

theorem State.lockWrite_second (hkey : s.img.key = some (s.masterNo m)) (hmay : s.mayUnlock = true) :
    s.lockWrite m (0x3C5A : BitVec 16).toNat false = (s.setKeyStep none).openLock m := by
  simp [State.lockWrite, hkey, hmay, State.openLock]

theorem State.lockWrite_wrong (hfirst : key ≠ 0xA5C3) (hzero : key ≠ 0)
    (h : key ≠ 0x3C5A ∨ s.img.key ≠ some (s.masterNo m) ∨ s.mayUnlock = false) :
    s.lockWrite m key.toNat false = (s.setKeyStep none).flag Reg.IMG_LOCK.UNLOCK_ERR 0 := by
  have hfirst' : key.toNat ≠ 0xA5C3 := fun e => hfirst (BitVec.eq_of_toNat_eq e)
  have hzero' : key.toNat ≠ 0 := fun e => hzero (BitVec.eq_of_toNat_eq e)
  have hno : ¬ (key.toNat = 0x3C5A ∧ s.img.key = some (s.masterNo m) ∧ s.mayUnlock = true) := by
    rintro ⟨hk, hkey, hmay⟩
    have hsecond : key = 0x3C5A := BitVec.eq_of_toNat_eq hk
    simp [hsecond, hkey, hmay] at h
  simp only [State.lockWrite, hfirst', hzero', or_self, if_false, if_neg hno, State.onlyIf_false]

theorem State.openLock_spec (s : State) (m : Master) :
    (s.openLock m).rd Reg.IMG_STATUS.LOCK_OPEN = 1 ∧ (s.openLock m).rd Reg.IMG_LOCK.OPEN = 1 ∧ (s.openLock m).rd Reg.IMG_LOCK.OPENER = m.code ∧
      RegsBut s (s.openLock m) [Reg.IMG_STATUS.LOCK_OPEN.key 0 0, Reg.IMG_LOCK.OPEN.key 0 0, Reg.IMG_LOCK.OPENER.key 0 0] := by
  refine ⟨?_, ?_, State.rd_wr_of_lt m.code_lt, (((RegsBut.refl s _).wr2 (by simp)).wr2 (by simp)).wr2 (by simp)⟩
  · exact (State.rd_wr_ne (by decide)).trans ((State.rd_wr_ne (by decide)).trans (State.rd_flag rfl))
  · exact (State.rd_wr_ne (by decide)).trans (State.rd_flag rfl)

/-- The closed lock keeps its OPENER. -/
theorem State.closeLock_rd (s : State) :
    s.closeLock.rd Reg.IMG_STATUS.LOCK_OPEN = 0 ∧ s.closeLock.rd Reg.IMG_LOCK.OPEN = 0 ∧
      s.closeLock.rd Reg.IMG_LOCK.OPENER = s.rd Reg.IMG_LOCK.OPENER := by
  refine ⟨?_, State.rd_wr_of_lt (by decide), ?_⟩
  · exact (State.rd_wr_ne (by decide)).trans (State.rd_wr_of_lt (by decide))
  · exact (State.rd_wr_ne (by decide)).trans (State.rd_wr_ne (by decide))

end

/-! ## RWI writes (R11, R64, R65) -/

/-- A narrow register field f of unit i, sub-unit j lies at address a, outside the windows and words with rules of their own, and its
register answers. -/
structure State.NarrowAt (s : State) (a : Nat) (fs : List FD) (f : FD) (i j k : Nat) : Prop where
  reg : regOf a = some (fs, f, i, j, k)
  narrow : f.w ≤ 32
  aligned : a % 4 = 0
  window : inWindows a = true
  notRowan : (winOf a).1 ≠ 15
  notMailbox : (winOf a).1 ≠ 7
  notId : (winOf a).2 ≠ 0x7FF8
  notBasic : (winOf a).2 ≠ 0x7FFC
  notTable : f.off ≠ 0xF004
  ready : s.ready a = true

/-- An ordinary register write: the RWI fields first, then the others by their access codes. -/
theorem State.NarrowAt.busStore_eq {s : State} {a : Nat} {fs : List FD} {f : FD} {i j k : Nat} (w : s.NarrowAt a fs f i j k) (m : Master)
    (env : BusEnv) (v : Nat) :
    s.busStore m env .b32 a v = ((((s.onlyIf (fs.any fun f => f.acc == .rwi) (·.rwiWrite m a v)).regEffect m env fs (winOf a).1 f.off i j
      v).noteExpert (s.onlyIf (fs.any fun f => f.acc == .rwi) (·.rwiWrite m a v)) fs i j).ack m) := by
  simp [State.busStore, State.regStore, Size.bytes, w.aligned, w.window, w.notRowan, w.notId, w.notBasic, w.reg, Nat.not_lt.2 w.narrow,
    w.notMailbox, w.notTable, State.ready_reach w.ready, State.commitEnd_of_ready w.ready]

section
variable {s : State} {m : Master} {a v : Nat}

/-- Does a word leave every RWI field of the register at an address as it is (R11)? -/
def State.rwiSame (s : State) (a v : Nat) : Bool := (rwiFields a).all fun e => s.rd e.1 e.2.1 e.2.2 == bits v e.1.lo e.1.w

theorem State.rwiWrite_same (h : s.rwiSame a v = true) : s.rwiWrite m a v = s := if_pos h

theorem State.rwiWrite_closed (h : s.rwiSame a v = false) (hclosed : s.rd Reg.IMG_STATUS.STATE = 1 ∨ s.on Reg.IMG_STATUS.LOCK_OPEN = false) :
    s.rwiWrite m a v = s.rwiDiscard m a 0 := by
  have hchange : ¬ s.rwiSame a v = true := by simp [h]
  exact (if_neg hchange).trans (if_pos (by simpa using hclosed))

theorem State.rwiWrite_open (h : s.rwiSame a v = false) (hst : s.rd Reg.IMG_STATUS.STATE ≠ 1) (hopen : s.on Reg.IMG_STATUS.LOCK_OPEN = true) :
    s.rwiWrite m a v =
      if s.rwiHeld a then s.rwiDiscard m a 1
      else if !s.rwiRules (s.setRwi a v) a v then s.rwiDiscard m a 2
      else ((((s.setRwi a v).rwiClaims s a).rwiPolarity s a).rwiChanged s).showAllReady := by
  have hchange : ¬ s.rwiSame a v = true := by simp [h]
  exact (if_neg hchange).trans (if_neg (by simp [hst, hopen]))

/-- RWI_LAST names the word, the master and the reason of a discarded write. -/
theorem State.rwiDiscard_spec (s : State) (m : Master) (a : Nat) {r : Nat} (hr : r < 4) :
    (s.rwiDiscard m a r).rd Reg.CLM_STATUS.RWI_DISCARD = 1 ∧ (s.rwiDiscard m a r).rd Reg.RWI_LAST.REASON = r ∧
      (s.rwiDiscard m a r).rd Reg.RWI_LAST.MASTER = m.code ∧ (s.rwiDiscard m a r).rd Reg.RWI_LAST.WORD = (a - 0x40000000) / 4 % 2 ^ 20 ∧
      OnlyRegs s (s.rwiDiscard m a r)
        [Reg.CLM_STATUS.RWI_DISCARD.key 0 0, Reg.RWI_LAST.REASON.key 0 0, Reg.RWI_LAST.MASTER.key 0 0, Reg.RWI_LAST.WORD.key 0 0] := by
  refine ⟨?_, ?_, ?_, State.rd_wr2_same _ _ _ _ _,
    ((((OnlyRegs.refl s _).wr2 (by simp)).wr2 (by simp)).wr2 (by simp)).wr2 (by simp)⟩
  · exact (State.rd_wr_ne (by decide)).trans ((State.rd_wr_ne (by decide)).trans ((State.rd_wr_ne (by decide)).trans (State.rd_flag rfl)))
  · exact (State.rd_wr_ne (by decide)).trans ((State.rd_wr_ne (by decide)).trans (State.rd_wr_of_lt hr))
  · exact (State.rd_wr_ne (by decide)).trans (State.rd_wr_of_lt m.code_lt)

end

theorem exec_rwiWrite {s : State} {addr data : BitVec 32} {fs : List FD} {f : FD} {i j k : Nat} (w : s.NarrowAt addr.toNat fs f i j k)
    (hrwi : fs.any (fun f => f.acc == .rwi) = true) (hfields : (rwiFields addr.toNat).isEmpty = false) (m : Master) (env : BusEnv) :
    exec (.rwiWrite m addr data env) s = .next ((((s.rwiWrite m addr.toNat data.toNat).regEffect m env fs (winOf addr.toNat).1 f.off i j
      data.toNat).noteExpert (s.rwiWrite m addr.toNat data.toNat) fs i j).ack m) := by
  simp only [exec, execRwiWrite, hfields, Bool.false_eq_true, if_false, w.busStore_eq, hrwi, State.onlyIf_true]

/-! ## The output stage starts afresh (R95, R128) -/

/-- The fields that the opening of a pulse of a leg shows (R98, R102). -/
def pulseKeys (l : Nat) : List Nat :=
  [Reg.LEG_DT_EFF_R.DT_R.key l 0, Reg.LEG_DT_EFF_F.DT_F.key l 0, Reg.LEG_DT_STATUS.DT_CLAMP.key l 0, Reg.LEG_DT_STATUS.MINP_ACT.key l 0]

/-- Nothing differs in the register file but the listed fields, and nothing in the override latches of the pads. -/
structure PadsKept (s t : State) (ks : List Nat) : Prop where
  regs : RegsBut s t ks
  pads : t.pads = s.pads

theorem PadsKept.refl (s : State) (ks : List Nat) : PadsKept s s ks := ⟨RegsBut.refl s ks, rfl⟩

theorem PadsKept.wr2 {s t : State} {ks : List Nat} (h : PadsKept s t ks) {f : FD} {i j v : Nat} (hk : f.key i j ∈ ks) :
    PadsKept s (t.wr2 f i j v) ks := ⟨h.regs.wr2 hk, h.pads⟩

theorem PadsKept.setLeg {s t : State} {ks : List Nat} (h : PadsKept s t ks) (l : Nat) (r : LegS) : PadsKept s (t.setLeg l r) ks :=
  ⟨h.regs.of_eq rfl, h.pads⟩

theorem PadsKept.trans {s t u : State} {ks : List Nat} (h : PadsKept s t ks) (h' : PadsKept t u ks) : PadsKept s u ks :=
  ⟨h.regs.trans h'.regs, h'.pads.trans h.pads⟩

theorem PadsKept.onlyIf {s t : State} {ks : List Nat} (h : PadsKept s t ks) {c : Bool} {f : State → State} (hf : PadsKept s (f t) ks) :
    PadsKept s (t.onlyIf c f) ks := by
  cases c
  · exact h
  · exact hf

theorem State.fixDt_padsKept (s : State) (l : Nat) (sd : Side) : PadsKept s (s.fixDt l sd) (pulseKeys l) := by
  cases sd with
  | hi =>
    have hdt : PadsKept s (s.wr Reg.LEG_DT_EFF_R.DT_R l (s.dtEff l .hi)) (pulseKeys l) := (PadsKept.refl s _).wr2 (by simp [pulseKeys])
    exact hdt.onlyIf (hdt.wr2 (by simp [pulseKeys]))
  | lo =>
    have hdt : PadsKept s (s.wr Reg.LEG_DT_EFF_F.DT_F l (s.dtEff l .lo)) (pulseKeys l) := (PadsKept.refl s _).wr2 (by simp [pulseKeys])
    exact hdt.onlyIf (hdt.wr2 (by simp [pulseKeys]))

theorem State.openPulse_padsKept {s t : State} {l : Nat} (h : PadsKept s t (pulseKeys l)) (sd : Side) (at0 : Nat) :
    PadsKept s (t.openPulse l sd at0) (pulseKeys l) := by
  have hfix : PadsKept s (if t.outmode l = 0 then t.fixDt l sd else t) (pulseKeys l) := by
    split
    · exact h.trans (t.fixDt_padsKept l sd)
    · exact h
  refine PadsKept.onlyIf (f := (·.flag Reg.LEG_DT_STATUS.MINP_ACT l)) (hfix.setLeg l _) ?_
  exact (hfix.setLeg l _).wr2 (by simp [pulseKeys])

/-- Beside the records of the leg, a restart changes only the fields that show an opening pulse. -/
theorem State.restartLeg_padsKept (s : State) (l t : Nat) : PadsKept s (s.restartLeg l t) (pulseKeys l) := by
  have hfresh (r : LegS) : PadsKept s (s.setLeg l r) (pulseKeys l) := (PadsKept.refl s _).setLeg l r
  unfold State.restartLeg
  dsimp only
  split
  · exact State.openPulse_padsKept (hfresh _) _ _
  · exact hfresh _

/-- The legs lie in the first block window, below the registers of the stages. -/
theorem lt_of_mem_pulseKeys {k l : Nat} (hl : l < 24) (hk : k ∈ pulseKeys l) : k < 0x40010000 * 32 := by
  simp only [pulseKeys, List.mem_cons, List.not_mem_nil, or_false, FD.key, FD.addr, Reg.LEG_DT_EFF_R.DT_R, Reg.LEG_DT_EFF_F.DT_F,
    Reg.LEG_DT_STATUS.DT_CLAMP, Reg.LEG_DT_STATUS.MINP_ACT] at hk
  omega

theorem FD.key_not_mem_pulseKeys {f : FD} {i j l : Nat} (hl : l < 24) (hf : 0 < f.blk) : f.key i j ∉ pulseKeys l := by
  intro hk
  have := lt_of_mem_pulseKeys hl hk
  simp only [FD.key, FD.addr] at this
  omega

/-! ## Enabling a stage (R56, R68) -/

section
variable {s : State} {m : Master} {n : Fin 8}

theorem exec_stageEnable (h : s.ready (Reg.STG_CTRL.EN.addr n.val 0) = true) :
    exec (.stageEnable m n) s = .next ((s.enableStage n.val).ack m) := congrArg Host.Outcome.next (State.winWrite_ready h)

theorem exec_stageDisable (h : s.ready (Reg.STG_CTRL.EN.addr n.val 0) = true) :
    exec (.stageDisable m n) s = .next ((s.disableStage n.val).ack m) := congrArg Host.Outcome.next (State.winWrite_ready h)

end

section
variable {s : State} {n l k : Nat}

/-- What R56, R64, R401, R402 and R405 list against the enable of a stage. -/
def State.enableBarred (s : State) (n : Nat) : Prop :=
  s.rd Reg.IMG_STATUS.STATE ≠ 2 ∨ s.stgKind n = 0 ∨ s.on Reg.STG_STATE.READY n = false ∨ s.stgTripped n = true ∨ s.modePermits n = false ∨
    s.clk.tRun = false ∨ s.rd Reg.PWR_STATUS.PWR_STATE = 3 ∨
    s.stgAttr n 0 = true ∧ (s.on Reg.IMG_STATUS.LOCK_OPEN = true ∨ s.on Reg.ISL_STAT.POWERED islCPX = false)

/-- The test of the model is the list of the rules. -/
theorem State.mayEnable_eq_false_iff : s.mayEnable n = false ↔ s.enableBarred n := by
  simp only [State.mayEnable, State.enableBarred, Bool.and_eq_false_iff, Bool.not_eq_false', beq_eq_false_iff_ne, bne_eq_false_iff_eq,
    Bool.and_eq_true, Bool.or_eq_true, Bool.not_eq_true', ne_eq, or_assoc]

theorem State.enableStage_enabled (h : s.stgEnabled n = true) : s.enableStage n = s := if_pos h

theorem State.enableStage_denied (hen : s.stgEnabled n = false) (h : s.enableBarred n) : s.enableStage n = s.flag Reg.STG_CTRL.EN_DENIED n := by
  simp [State.enableStage, hen, State.mayEnable_eq_false_iff.2 h]

/-- An enabled stage, before the latches of its legs release. -/
def State.stageOn (s : State) (n : Nat) : State := (s.flag Reg.STG_CTRL.EN n).wr Reg.STG_TRIP.SS n 0

theorem State.enableStage_accepted (hen : s.stgEnabled n = false) (hmay : s.mayEnable n = true) :
    s.enableStage n = (foldEach (fun l t => t.releaseLeg l) (s.stgLegs n) (s.stageOn n)).setAsc n none := by
  simp [State.enableStage, hen, hmay, State.stageOn]

/-- The override latches of a leg are released (R126). -/
def State.LatchFree (s : State) (l : Nat) : Prop := (s.pad l).ov = false ∧ (s.pad l).ovH = false ∧ (s.pad l).ovL = false

theorem State.latchFree_of_pads {t : State} (h : t.pads = s.pads) (hs : s.LatchFree l) : t.LatchFree l := by
  rw [State.LatchFree, State.pad, h]
  exact hs

/-- A leg that is unusable stays latched. -/
theorem State.releaseLeg_of_unusable (h : s.claimState l = 3) : s.releaseLeg l = s := if_pos h

theorem State.releaseLeg_of_usable (h : s.claimState l ≠ 3) :
    s.releaseLeg l = (s.setPad l { s.pad l with ov := false, ovH := false, ovL := false }).restartLeg l (s.fineNow 0) := if_neg h

theorem State.regsBut_releaseLeg (s : State) (l : Nat) : RegsBut s (s.releaseLeg l) (pulseKeys l) := by
  by_cases h : s.claimState l = 3
  · rw [State.releaseLeg_of_unusable h]
    exact RegsBut.refl s _
  · rw [State.releaseLeg_of_usable h]
    exact ((RegsBut.refl s _).of_eq (State.regs_setPad s l _)).trans (State.restartLeg_padsKept _ l _).regs

theorem State.latchFree_releaseLeg_same (h : s.claimState l ≠ 3) : (s.releaseLeg l).LatchFree l := by
  rw [State.releaseLeg_of_usable h]
  exact State.latchFree_of_pads (State.restartLeg_padsKept _ l _).pads (by simp [State.LatchFree])

/-- No release sets a latch again. -/
theorem State.latchFree_releaseLeg (k : Nat) (hs : s.LatchFree l) : (s.releaseLeg k).LatchFree l := by
  by_cases h : s.claimState k = 3
  · rwa [State.releaseLeg_of_unusable h]
  by_cases hk : l = k
  · exact hk ▸ State.latchFree_releaseLeg_same (hk ▸ h)
  · rw [State.releaseLeg_of_usable h]
    refine State.latchFree_of_pads (State.restartLeg_padsKept _ k _).pads ?_
    rw [State.LatchFree, State.pad_setPad_ne s _ hk]
    exact hs

/-- A release leaves the registers outside the window of the legs alone. -/
theorem State.rd_foldEach_releaseLeg {f : FD} {i j : Nat} {ls : List Nat} (hls : ∀ l ∈ ls, l < 24) (hf : 0 < f.blk) (s : State) :
    (foldEach (fun l t => t.releaseLeg l) ls s).rd f i j = s.rd f i j := by
  induction ls generalizing s with
  | nil => rfl
  | cons k ls ih =>
    calc _ = (s.releaseLeg k).rd f i j := ih (fun l hl => hls l (by simp [hl])) _
      _ = s.rd f i j := (s.regsBut_releaseLeg k).rd_eq (FD.key_not_mem_pulseKeys (hls k (by simp)) hf)

theorem State.latchFree_foldEach_releaseLeg {ls : List Nat} (hls : ∀ l ∈ ls, l < 24) (hl : l ∈ ls) (h : s.claimState l ≠ 3) :
    (foldEach (fun l t => t.releaseLeg l) ls s).LatchFree l := by
  induction ls generalizing s with
  | nil => cases hl
  | cons k ls ih =>
    by_cases hk : l = k
    · subst hk
      exact foldEach_preserves (P := fun t : State => t.LatchFree l) (fun k t => State.latchFree_releaseLeg k) ls (State.latchFree_releaseLeg_same h)
    · refine ih (fun l hl => hls l (by simp [hl])) (by simpa [hk] using hl) ?_
      rwa [State.claimState, (s.regsBut_releaseLeg k).rd_eq (FD.key_not_mem_pulseKeys (hls k (by simp)) (by decide))]

theorem State.stgLegs_lt : ∀ l ∈ s.stgLegs n, l < 24 := fun _ hl => List.mem_range.1 (List.mem_filter.1 hl).1

theorem State.regsBut_stageOn (s : State) (n : Nat) : RegsBut s (s.stageOn n) [Reg.STG_CTRL.EN.key n 0, Reg.STG_TRIP.SS.key n 0] :=
  ((RegsBut.refl s _).wr2 (by simp)).wr2 (by simp)

/-- A field that is neither EN nor SS of the stage, outside the window of the legs, reads as before. -/
theorem State.rd_enableStage_accepted (hen : s.stgEnabled n = false) (hmay : s.mayEnable n = true) {f : FD} {i j : Nat} (hf : 0 < f.blk) :
    (s.enableStage n).rd f i j = (s.stageOn n).rd f i j := by
  rw [State.enableStage_accepted hen hmay, State.rd_setAsc]
  exact State.rd_foldEach_releaseLeg State.stgLegs_lt hf _

/-- The registers of different stages lie under different keys. -/
theorem FD.en_key_inj (h : k ≠ n) : Reg.STG_CTRL.EN.key k 0 ≠ Reg.STG_CTRL.EN.key n 0 := by
  simp only [FD.key, FD.addr, Reg.STG_CTRL.EN]
  omega

theorem FD.trip_key_ne_en_key (hn : n < 8) : Reg.STG_TRIP.TRIP.key n 0 ≠ Reg.STG_CTRL.EN.key n 0 := by
  simp only [FD.key, FD.addr, Reg.STG_TRIP.TRIP, Reg.STG_CTRL.EN]
  omega

theorem FD.claimState_key_not_mem (l : Nat) : Reg.CLAIM.STATE.key l 0 ∉ [Reg.STG_CTRL.EN.key n 0, Reg.STG_TRIP.SS.key n 0] := by
  simp only [List.mem_cons, List.not_mem_nil, or_false, not_or]
  exact ⟨FD.key_ne_of_lo (by decide), FD.key_ne_of_lo (by decide)⟩

/-- EN sets, SS clears, and TRIP and the enables of the other stages stand. -/
theorem State.enableStage_accepted_rd (hn : n < 8) (hen : s.stgEnabled n = false) (hmay : s.mayEnable n = true) :
    (s.enableStage n).rd Reg.STG_CTRL.EN n = 1 ∧ (s.enableStage n).rd Reg.STG_TRIP.SS n = 0 ∧
      (s.enableStage n).rd Reg.STG_TRIP.TRIP n = s.rd Reg.STG_TRIP.TRIP n ∧
      ∀ k < 8, k ≠ n → (s.enableStage n).rd Reg.STG_CTRL.EN k = s.rd Reg.STG_CTRL.EN k := by
  have hrd {f : FD} {i : Nat} (hf : 0 < f.blk) : (s.enableStage n).rd f i = (s.stageOn n).rd f i := State.rd_enableStage_accepted hen hmay hf
  refine ⟨(hrd (by decide)).trans ?_, (hrd (by decide)).trans (State.rd_wr_of_lt (by decide)), (hrd (by decide)).trans ?_,
    fun k _ hk => (hrd (by decide)).trans ?_⟩
  · exact (State.rd_wr_of_lo (by decide)).trans (State.rd_flag rfl)
  · exact (State.rd_wr_of_lo (by decide)).trans (State.rd_wr_ne (FD.trip_key_ne_en_key hn))
  · exact (State.rd_wr_of_lo (by decide)).trans (State.rd_wr_ne (FD.en_key_inj hk))

theorem State.enableStage_latchFree (hen : s.stgEnabled n = false) (hmay : s.mayEnable n = true) (hl : l ∈ s.stgLegs n)
    (hclaim : s.claimState l ≠ 3) : (s.enableStage n).LatchFree l := by
  have hclaim' : (s.stageOn n).claimState l ≠ 3 := by
    rwa [State.claimState, (s.regsBut_stageOn n).rd_eq (FD.claimState_key_not_mem l)]
  rw [State.enableStage_accepted hen hmay]
  exact State.latchFree_of_pads rfl (State.latchFree_foldEach_releaseLeg State.stgLegs_lt hl hclaim')

/-! ## Disabling a stage (R56, R128) -/

/-- A disabled stage, its latches in SS_OFF. -/
def State.stageDown (s : State) (n : Nat) : State := ((s.latchStage n 0).wr Reg.STG_CTRL.EN n 0).stageOff n

theorem State.disableStage_disabled (h : s.stgEnabled n = false) : s.disableStage n = s := by simp [State.disableStage, h]

theorem State.disableStage_enabled (h : s.stgEnabled n = true) : s.disableStage n = s.stageDown n := if_pos h

/-- The latches are no registers: of those only SS shows the safe state. -/
theorem State.latchStage_regs (s : State) (n code : Nat) : (s.latchStage n code).regs = (s.wr Reg.STG_TRIP.SS n code).regs := by
  have hlegs : (foldEach (fun l t => t.latchLeg l code) (s.stgLegs n) s).regs = s.regs :=
    foldEach_preserves (P := fun t : State => t.regs = s.regs) (f := fun l t => t.latchLeg l code) (fun _ _ h => h) _ rfl
  simp only [State.latchStage, State.wr, State.wr2, State.regs_setAsc, hlegs]

/-- The fields of a field channel that the end of its stage's enable can change (R231). -/
def abortKeys (n : Nat) : List Nat := [Reg.FC_STAT.STATE.key n 0, Reg.FC_STAT.ABORT.key n 0]

theorem State.regs_sendRefs (s : State) (n : Nat) (d q : Int) : (s.sendRefs n d q).regs = s.regs := by
  unfold State.sendRefs
  split <;> rfl

theorem State.regs_fcHoldOff (s : State) (n : Nat) : (s.fcHoldOff n).regs = s.regs := by
  unfold State.fcHoldOff
  cases (s.fc n).hold <;> rfl

theorem State.regsBut_fcEnterHold (s : State) (n : Nat) : RegsBut s (s.fcEnterHold n) (abortKeys n) := by
  unfold State.fcEnterHold
  refine RegsBut.of_eq ?_ (State.regs_sendRefs _ n 0 0)
  refine RegsBut.wr2 (f := Reg.FC_STAT.STATE) (i := n) (j := 0) ?_ (by simp [abortKeys])
  exact (RegsBut.refl s _).of_eq (State.regs_fcHoldOff _ n)

theorem State.regsBut_fcAbort (s : State) (n : Nat) : RegsBut s (s.fcAbort n) (abortKeys n) := by
  unfold State.fcAbort
  split
  · exact (s.regsBut_fcEnterHold n).wr2 (by simp [abortKeys])
  · exact RegsBut.refl s _

theorem State.regsBut_stageOff (s : State) (n : Nat) : RegsBut s (s.stageOff n) (abortKeys n) := by
  unfold State.stageOff
  dsimp only
  split
  · exact ((RegsBut.refl s _).of_eq (State.regs_setLu s _ _)).trans (State.regsBut_fcAbort _ n)
  · exact s.regsBut_fcAbort n

/-- The fields of FC_STAT that an abort changes lie at bits 24 and 4. -/
theorem FD.key_not_mem_abortKeys {f : FD} {i j : Nat} (h24 : f.lo % 32 ≠ 24) (h4 : f.lo % 32 ≠ 4) : f.key i j ∉ abortKeys n := by
  simp only [abortKeys, List.mem_cons, List.not_mem_nil, or_false, not_or]
  exact ⟨FD.key_ne_of_lo h24, FD.key_ne_of_lo h4⟩

/-- EN and SS clear, and TRIP stands: a disable is no trip. -/
theorem State.stageDown_rd (hn : n < 8) (s : State) :
    (s.stageDown n).rd Reg.STG_CTRL.EN n = 0 ∧ (s.stageDown n).rd Reg.STG_TRIP.SS n = 0 ∧
      (s.stageDown n).rd Reg.STG_TRIP.TRIP n = s.rd Reg.STG_TRIP.TRIP n := by
  have hoff : RegsBut ((s.latchStage n 0).wr Reg.STG_CTRL.EN n 0) (s.stageDown n) (abortKeys n) := State.regsBut_stageOff _ n
  have hlatch (f : FD) (i j : Nat) : (s.latchStage n 0).rd f i j = (s.wr Reg.STG_TRIP.SS n 0).rd f i j :=
    congrArg (SMap.get (f.rst i j) · (f.key i j)) (s.latchStage_regs n 0)
  refine ⟨(hoff.rd_eq (FD.key_not_mem_abortKeys (by decide) (by decide))).trans ?_,
    (hoff.rd_eq (FD.key_not_mem_abortKeys (by decide) (by decide))).trans ?_,
    (hoff.rd_eq (FD.key_not_mem_abortKeys (by decide) (by decide))).trans ?_⟩
  · exact State.rd_wr_of_lt (by decide)
  · exact (State.rd_wr_of_lo (by decide)).trans ((hlatch _ _ _).trans (State.rd_wr_of_lt (by decide)))
  · exact (State.rd_wr_ne (FD.trip_key_ne_en_key hn)).trans ((hlatch _ _ _).trans (State.rd_wr_of_lo (by decide)))

end

end Sys2Proof.Machine

open Sys2Proof Sys2Proof.Machine

/-! ## The obligations -/

/-- Settles O36, clause by clause: each command answers the state of the lemma about its operation. -/
theorem imageLockAndStages : Obligations.ImageLockAndStages := by
  refine ⟨fun m slot s hready => ?load, fun s hald hst => ?done, fun m key s hready => ?lock,
    fun m addr data env fs f i j k s hreg hrwi hnarrow hal hwin hrow hmbx hoff hfields hready => ?rwi, fun m n s hready => ?stage⟩
  case load =>
    refine ⟨fun hbar => ?_, fun hst hen => ?_⟩
    · refine ⟨_, exec_imgLoad hready, ?_, State.respOf_setResp _ _ _, ?_⟩
      · rw [State.loadWrite_refused hbar]
        exact State.rd_flag rfl
      · rw [State.loadWrite_refused hbar]
        exact ((OnlyRegs.refl s _).wr2 (by simp)).setResp
    · obtain ⟨hstate, hload, hslot⟩ := State.loadWrite_accepted_rd hst hen slot.isLt
      have himg := congrArg State.img (State.loadWrite_accepted (slot := slot.val) hst hen)
      exact ⟨_, exec_imgLoad hready, hstate, hload, hslot, himg, State.respOf_setResp _ _ _, (exec_quiet rfl (exec_imgLoad hready)).mem⟩
  case done =>
    refine ⟨fun hpass => ?_, fun hfail hcode hprev => ?_⟩
    · rw [exec_loadDone hald hst, State.loadEnd_passed hpass]
    · obtain ⟨hstate, hload, hfc, hres, hslot⟩ := State.loadEnd_failed_rd hfail hprev
      exact ⟨_, exec_loadDone hald hst, hstate, hload, hfc.trans (Nat.mod_eq_of_lt hcode), hres, hslot, State.mem_loadEnd_failed hfail⟩
  case lock =>
    rw [exec_imgLockKey hready, exec_imgLockClose hready]
    refine ⟨?_, ?_, ?_, fun hfirst hzero hwrong => ?_, ?_⟩
    · rintro rfl
      rw [State.lockWrite_first]
      exact ⟨_, rfl, rfl, rfl⟩
    · rintro rfl
      rw [State.lockWrite_zero]
      exact ⟨_, rfl, rfl, rfl⟩
    · rintro rfl hkey hmay
      rw [State.lockWrite_second hkey hmay]
      obtain ⟨hlock, hopen, hopener, hregs⟩ := (s.setKeyStep none).openLock_spec m
      exact ⟨_, rfl, hlock, hopen, hopener, rfl, hregs⟩
    · rw [State.lockWrite_wrong hfirst hzero hwrong]
      exact ⟨_, rfl, State.rd_flag rfl, (s.setKeyStep none).regsBut_flag Reg.IMG_LOCK.UNLOCK_ERR 0⟩
    · obtain ⟨hlock, hopen, hopener⟩ := (s.lockWrite m key.toNat false).closeLock_rd
      refine ⟨_, rfl, hlock, hopen, ?_⟩
      rintro rfl hkey hmay
      obtain ⟨_, _, hcode, _⟩ := (s.setKeyStep none).openLock_spec m
      rw [← State.lockWrite_second hkey hmay] at hcode
      exact hopener.trans hcode
  case rwi =>
    have w : s.NarrowAt addr.toNat fs f i j k := ⟨hreg, hnarrow, hal, hwin, hrow, hmbx, hoff.1, hoff.2.1, hoff.2.2, hready⟩
    refine ⟨_, exec_rwiWrite w hrwi hfields m env, State.rwiWrite_same, fun hchange => ⟨fun hclosed => ?_, fun hst hopen hheld => ?_,
      fun hst hopen hheld hrules => ?_⟩⟩
    · rw [State.rwiWrite_closed hchange hclosed]
      exact s.rwiDiscard_spec m addr.toNat (by decide)
    · rw [State.rwiWrite_open hchange hst hopen, if_pos hheld]
      obtain ⟨hdisc, hreason, hmaster, _, honly⟩ := s.rwiDiscard_spec m addr.toNat (r := 1) (by decide)
      exact ⟨hdisc, hreason, hmaster, honly⟩
    · simp only [State.rwiWrite_open hchange hst hopen, hheld, hrules, Bool.not_true, Bool.false_eq_true, if_false]
  case stage =>
    rw [exec_stageEnable hready, exec_stageDisable hready]
    refine ⟨fun hen => by rw [State.enableStage_enabled hen], fun hen hbar => ?_, fun hen hmay => ?_,
      fun hen => by rw [State.disableStage_disabled hen], fun hen => ?_⟩
    · rw [State.enableStage_denied hen hbar]
      exact ⟨_, rfl, State.rd_flag rfl, State.respOf_setResp _ _ _, ((OnlyRegs.refl s _).wr2 (by simp)).setResp⟩
    · obtain ⟨hon, hss, htrip, hothers⟩ := State.enableStage_accepted_rd n.isLt hen hmay
      exact ⟨_, rfl, hon, hss, fun l hl hclaim => State.enableStage_latchFree hen hmay hl hclaim,
        (exec_quiet (c := .stageEnable m n) rfl (exec_stageEnable hready)).mem, State.respOf_setResp _ _ _, htrip, hothers⟩
    · obtain ⟨hoff, hss, htrip⟩ := s.stageDown_rd n.isLt
      have hexec := exec_stageDisable (m := m) hready
      rw [State.disableStage_enabled hen] at hexec ⊢
      have hquiet := exec_quiet (c := .stageDisable m n) rfl hexec
      refine ⟨_, rfl, rfl, ?_⟩
      simp only [State.rd_ack]
      exact ⟨hoff, hss, htrip, hquiet.mem⟩

end

section
/-! PROOFS. The statements of spec/03_timebases_and_legs.md on timebases: starts, stops, syncs, loads, compare matches, trigger pulses and
shadow transfers. -/

namespace Sys2Proof.Machine

/-! ## The registers of a timebase and those of other windows -/

/-- Every one of the keys lies in window 0, that of the timebases and legs. -/
def InWindow0 (ks : List Nat) : Prop := ∀ k ∈ ks, k < 0x40010000 * 32

/-- What changes fields of window 0 alone leaves every field of another window as it was. -/
theorem RegsBut.rd_of_blk {s t : State} {ks : List Nat} (h : RegsBut s t ks) (hks : InWindow0 ks) {f : FD} {i j : Nat} (hf : 0 < f.blk) :
    t.rd f i j = s.rd f i j := by
  refine h.rd_eq fun hk => ?_
  have := hks _ hk
  simp only [FD.key, FD.addr] at this
  omega

/-- Which legs count against a timebase is told by the stages, the islands and the rails (R68, R86), not by registers of window 0. -/
theorem State.legsOfTb_of_regsBut {s t : State} {ks : List Nat} (h : RegsBut s t ks) (hks : InWindow0 ks) (hrails : t.rails = s.rails) (n : Nat) :
    t.legsOfTb n = s.legsOfTb n := by
  have hrd {f : FD} {i j : Nat} (hf : 0 < f.blk) : t.rd f i j = s.rd f i j := h.rd_of_blk hks hf
  have hkind : t.stgKind = s.stgKind := funext fun _ => hrd (by decide)
  have hstage (l : Nat) : t.stageOfLeg l = s.stageOfLeg l := by
    rw [State.stageOfLeg, hkind]
    simp only [State.stageOfLeg, hrd (f := Reg.STG_LEGS.LEGS) (by decide)]
  have htb (l : Nat) : t.tbOfLeg l = s.tbOfLeg l := by
    simp only [State.tbOfLeg, hstage, hrd (f := Reg.STG_DESC.TB) (by decide)]
  have hpresent (isl : Nat) : t.present isl = s.present isl := by
    simp only [State.present, State.on_eq, hrails, hrd (f := Reg.ISL_STAT.POWERED) (by decide), hrd (f := Reg.ISL_STAT.IN_RESET) (by decide),
      hrd (f := Reg.ISL_STAT.CLK_OK) (by decide), hrd (f := Reg.ISL_STAT.RAIL_OK) (by decide)]
  simp only [State.legsOfTb, htb, hpresent]

/-- An operation that leaves the state alone for each element leaves it alone for all of them. -/
theorem foldEach_eq_self {α σ : Type} {f : α → σ → σ} {l : List α} {s : σ} (h : ∀ a ∈ l, f a s = s) : foldEach f l s = s := by
  induction l with
  | nil => rfl
  | cons a l ih =>
    rw [foldEach, h a (by simp)]
    exact ih fun b hb => h b (by simp [hb])

section
variable {s : State} {n : Nat}

/-! ## Channels aligned to a timebase (R175) -/

/-- No channel that is enabled, none that restarts. -/
theorem State.isoAlign_of_disabled (h : ∀ c < 8, s.on Reg.ISO_CTRL.EN c = false) : s.isoAlign n = s :=
  foldEach_eq_self fun c hc => by simp [h c (List.mem_range.1 hc)]

/-- The output counts are no registers. -/
@[simp] theorem State.regs_isoAlign (s : State) (n : Nat) : (s.isoAlign n).regs = s.regs := by
  refine foldEach_preserves (P := fun t : State => t.regs = s.regs) (fun c t ht => ?_) _ rfl
  dsimp only
  split
  · split <;> exact ht
  · exact ht

@[simp] theorem State.rd_isoAlign (s : State) (n : Nat) (f : FD) (i j : Nat) : (s.isoAlign n).rd f i j = s.rd f i j :=
  congrArg (SMap.get (f.rst i j) · (f.key i j)) (s.regs_isoAlign n)

/-! ## The counter (R69) -/

theorem State.loadCnt_eq (s : State) (n cnt : Nat) (down : Bool) :
    ∃ dir, s.loadCnt n cnt down = (s.wr Reg.TB_CNT.CNT n cnt).wr Reg.TB_STATUS.DIR n dir := ⟨_, rfl⟩

theorem State.cnt_loadCnt (s : State) (n cnt : Nat) (down : Bool) : (s.loadCnt n cnt down).rd Reg.TB_CNT.CNT n = cnt % 2 ^ 24 := by
  obtain ⟨dir, hload⟩ := s.loadCnt_eq n cnt down
  rw [hload]
  exact (State.rd_wr_of_lo (by decide)).trans (s.rd_wr2_same _ n 0 cnt)

/-- A load writes the counter and its direction. -/
theorem OnlyRegs.loadCnt {t : State} {ks : List Nat} (h : OnlyRegs s t ks) (hcnt : Reg.TB_CNT.CNT.key n 0 ∈ ks)
    (hdir : Reg.TB_STATUS.DIR.key n 0 ∈ ks) (cnt : Nat) (down : Bool) : OnlyRegs s (t.loadCnt n cnt down) ks := by
  obtain ⟨dir, hload⟩ := t.loadCnt_eq n cnt down
  rw [hload]
  exact (h.wr2 hcnt).wr2 hdir

/-! ## Starts (R70, R74) -/

/-- A start that is due happens, and aligns the channels where the timebase runs after it. -/
theorem State.startDue_of_due (hstill : s.tbRunning n = false) (hrun : s.on Reg.TB_CTRL.RUN n = true) :
    s.startDue n = (s.startTb n).onlyIf ((s.startTb n).tbRunning n) (·.isoAlign n) := by
  simp only [State.startDue, hstill, hrun, Bool.not_true, Bool.or_self, Bool.false_eq_true, if_false]

/-- A start that is refused: RUN returns to 0 and the flag of the cause is set. -/
def State.refuseStart (s : State) (n : Nat) (cause : FD) : State := (s.wr Reg.TB_CTRL.RUN n 0).flag cause n

theorem State.startTb_of_bad_per (h : perOk (s.tbMode n) (s.rd Reg.TB_PER.PER n) = false) :
    s.startTb n = s.refuseStart n Reg.TB_STATUS.PER_ERR := by
  simp only [State.startTb, h, Bool.not_false, if_true, State.refuseStart]

theorem State.startTb_of_bad_every (hper : perOk (s.tbMode n) (s.rd Reg.TB_PER.PER n) = true)
    (h : s.rd Reg.TB_CTRL.UPD_EVERY n = 0 ∨ 16 < s.rd Reg.TB_CTRL.UPD_EVERY n) : s.startTb n = s.refuseStart n Reg.TB_STATUS.CNT_ERR := by
  simp only [State.startTb, hper, Bool.not_true, Bool.false_eq_true, if_false, if_pos h, State.refuseStart]

/-- A refused start leaves the timebase still, so no channel is aligned to it. -/
theorem State.startDue_refused {cause : FD} (hstill : s.tbRunning n = false) (hrun : s.on Reg.TB_CTRL.RUN n = true)
    (hcause : cause.lo % 32 ≠ 17) (h : s.startTb n = s.refuseStart n cause) : s.startDue n = s.refuseStart n cause := by
  have hstill' : (s.refuseStart n cause).tbRunning n = false :=
    (State.on_wr_of_lo (f := cause) (g := Reg.TB_STATUS.RUNNING) (Ne.symm hcause)).trans ((State.on_wr_of_lo (by decide)).trans hstill)
  rw [State.startDue_of_due hstill hrun, h, hstill', State.onlyIf_false]

theorem State.refuseStart_spec {cause : FD} (hlo : cause.lo % 32 ≠ 0) (hw : cause.w = 1) :
    (s.refuseStart n cause).rd Reg.TB_CTRL.RUN n = 0 ∧ (s.refuseStart n cause).rd cause n = 1 ∧
      OnlyRegs s (s.refuseStart n cause) [Reg.TB_CTRL.RUN.key n 0, cause.key n 0] := by
  refine ⟨?_, State.rd_flag hw, ((OnlyRegs.refl s _).wr2 (by simp)).wr2 (by simp)⟩
  exact (State.rd_wr_of_lo (f := cause) (g := Reg.TB_CTRL.RUN) (Ne.symm hlo)).trans (State.rd_wr_of_lt (by decide))

/-- The fields that a start writes in a timebase without legs. -/
def startKeys (n : Nat) : List Nat :=
  [Reg.TB_STATUS.RUNNING.key n 0, Reg.TB_PER_ACT.PER_ACT.key n 0, Reg.TB_CNT.CNT.key n 0, Reg.TB_STATUS.DIR.key n 0,
    Reg.TB_STATUS.UPD_CNT.key n 0]

theorem inWindow0_startKeys (hn : n < 8) : InWindow0 (startKeys n) := by
  simp only [InWindow0, startKeys, List.forall_mem_cons, List.not_mem_nil, false_implies, implies_true, and_true, FD.key, FD.addr,
    Reg.TB_STATUS.RUNNING, Reg.TB_PER_ACT.PER_ACT, Reg.TB_CNT.CNT, Reg.TB_STATUS.DIR, Reg.TB_STATUS.UPD_CNT]
  omega

/-- A timebase that runs with PER as its period, before its legs transfer and its counter is loaded. -/
def State.runPer (s : State) (n : Nat) : State :=
  (s.wr Reg.TB_STATUS.RUNNING n 1).wr Reg.TB_PER_ACT.PER_ACT n (s.rd Reg.TB_PER.PER n)

/-- The counter of a start: PHS or the period where PHS lies above it, no reload point counted, and no event noted. -/
def State.startCount (s : State) (n every per : Nat) : State :=
  ((s.loadCnt n (min (s.rd Reg.TB_PHS.PHS n) per) (s.on Reg.TB_PHS.PHS_DIR n)).wr Reg.TB_STATUS.UPD_CNT n 0).setTb n
    { TbS.init with n := every, rldAt := some s.now, xferAt := some s.now, hist := (s.tb n).hist }

/-- A leg at the start of its timebase: its reference begins at REF_INIT. -/
def State.startLeg (l : Nat) (s : State) : State :=
  let t := s.setLeg l { s.leg l with aq := s.on Reg.LEG_CFG.REF_INIT l }
  if (t.leg l).pulse.isNone && t.forced l (t.leg l).aq == t.on Reg.LEG_STATUS.REF l then t.restartLeg l (t.fineNow 0) else t.followRef l 0

/-- The timebase of a start that is not refused: its legs have transferred and its counter is loaded. -/
def State.startedTb (s : State) (n : Nat) : State :=
  (foldEach (fun l t => t.xferLeg l) ((s.runPer n).legsOfTb n) (s.runPer n)).startCount n (s.rd Reg.TB_CTRL.UPD_EVERY n) (s.rd Reg.TB_PER.PER n)

theorem State.startTb_accepted (hper : perOk (s.tbMode n) (s.rd Reg.TB_PER.PER n) = true)
    (hevery : ¬ (s.rd Reg.TB_CTRL.UPD_EVERY n = 0 ∨ 16 < s.rd Reg.TB_CTRL.UPD_EVERY n)) :
    s.startTb n = foldEach State.startLeg ((s.startedTb n).legsOfTb n) (s.startedTb n) := by
  rw [State.startTb]
  dsimp only
  rw [hper, if_neg (by simp), if_neg hevery]
  rfl

theorem State.onlyRegs_runPer (s : State) (n : Nat) : OnlyRegs s (s.runPer n) (startKeys n) :=
  ((OnlyRegs.refl s _).wr2 (by simp [startKeys])).wr2 (by simp [startKeys])

theorem OnlyRegs.startCount {t : State} (h : OnlyRegs s t (startKeys n)) (every per : Nat) :
    OnlyRegs s { t.startCount n every per with tbs := s.tbs } (startKeys n) := by
  have hload := (h.loadCnt (n := n) (by simp [startKeys]) (by simp [startKeys]) (min (t.rd Reg.TB_PHS.PHS n) per) (t.on Reg.TB_PHS.PHS_DIR n)).wr2
    (f := Reg.TB_STATUS.UPD_CNT) (i := n) (j := 0) (v := 0) (by simp [startKeys])
  exact ⟨hload.regs.of_eq rfl, congrArg (fun u : State => { u with tbs := s.tbs }) hload.rest⟩

/-- A timebase without legs as its start leaves it. -/
def State.startedAlone (s : State) (n : Nat) : State :=
  (s.runPer n).startCount n (s.rd Reg.TB_CTRL.UPD_EVERY n) (s.rd Reg.TB_PER.PER n)

theorem State.onlyRegs_startedAlone (s : State) (n : Nat) : OnlyRegs s { s.startedAlone n with tbs := s.tbs } (startKeys n) :=
  (s.onlyRegs_runPer n).startCount _ _

theorem State.regsBut_startedAlone (s : State) (n : Nat) : RegsBut s (s.startedAlone n) (startKeys n) :=
  (s.onlyRegs_startedAlone n).regs.of_eq rfl

/-- Without legs there is no shadow to transfer and no reference to set. -/
theorem State.startTb_of_no_legs (hn : n < 8) (hper : perOk (s.tbMode n) (s.rd Reg.TB_PER.PER n) = true)
    (hlow : 1 ≤ s.rd Reg.TB_CTRL.UPD_EVERY n) (hhigh : s.rd Reg.TB_CTRL.UPD_EVERY n ≤ 16) (hlegs : s.legsOfTb n = []) :
    s.startTb n = s.startedAlone n := by
  have hkeys := inWindow0_startKeys hn
  have hbefore : (s.runPer n).legsOfTb n = [] := (State.legsOfTb_of_regsBut (s.onlyRegs_runPer n).regs hkeys rfl n).trans hlegs
  have hafter : (s.startedAlone n).legsOfTb n = [] := (State.legsOfTb_of_regsBut (s.regsBut_startedAlone n) hkeys rfl n).trans hlegs
  have hstarted : s.startedTb n = s.startedAlone n := by
    rw [State.startedTb, hbefore]
    rfl
  rw [State.startTb_accepted hper (by omega), hstarted, hafter]
  rfl

/-- A phase shadow lies in none of the registers that a start writes. -/
theorem FD.phs_key_not_mem_startKeys (n : Nat) : Reg.TB_PHS.PHS.key n 0 ∉ startKeys n := by
  simp only [startKeys, List.mem_cons, List.not_mem_nil, or_false, not_or, FD.key, FD.addr, Reg.TB_PHS.PHS,
    Reg.TB_STATUS.RUNNING, Reg.TB_PER_ACT.PER_ACT, Reg.TB_CNT.CNT, Reg.TB_STATUS.DIR, Reg.TB_STATUS.UPD_CNT]
  omega

theorem FD.perAct_key_ne_cnt_key (n : Nat) : Reg.TB_PER_ACT.PER_ACT.key n 0 ≠ Reg.TB_CNT.CNT.key n 0 := by
  simp only [FD.key, FD.addr, Reg.TB_PER_ACT.PER_ACT, Reg.TB_CNT.CNT]
  omega

/-- A load of the counter leaves every field but CNT and DIR as it was. -/
theorem State.rd_loadCnt {f : FD} {cnt : Nat} {down : Bool} (hcnt : f.key n 0 ≠ Reg.TB_CNT.CNT.key n 0) (hdir : f.lo % 32 ≠ 18) :
    (s.loadCnt n cnt down).rd f n = s.rd f n := by
  obtain ⟨dir, hload⟩ := s.loadCnt_eq n cnt down
  rw [hload]
  exact (State.rd_wr_of_lo hdir).trans (State.rd_wr_ne hcnt)

theorem State.startedAlone_rd (s : State) (n : Nat) :
    (s.startedAlone n).rd Reg.TB_STATUS.RUNNING n = 1 ∧ (s.startedAlone n).rd Reg.TB_PER_ACT.PER_ACT n = s.rd Reg.TB_PER.PER n % 2 ^ 24 ∧
      (s.startedAlone n).rd Reg.TB_CNT.CNT n = min (s.rd Reg.TB_PHS.PHS n) (s.rd Reg.TB_PER.PER n) % 2 ^ 24 ∧
      (s.startedAlone n).rd Reg.TB_STATUS.UPD_CNT n = 0 := by
  have hrunning : (s.runPer n).rd Reg.TB_STATUS.RUNNING n = 1 := (State.rd_wr_of_lo (by decide)).trans (State.rd_wr_of_lt (by decide))
  have hper : (s.runPer n).rd Reg.TB_PER_ACT.PER_ACT n = s.rd Reg.TB_PER.PER n % 2 ^ 24 := State.rd_wr2_same _ _ n 0 _
  have hphs : (s.runPer n).rd Reg.TB_PHS.PHS n = s.rd Reg.TB_PHS.PHS n := (s.onlyRegs_runPer n).regs.rd_eq (FD.phs_key_not_mem_startKeys n)
  simp only [State.startedAlone, State.startCount, State.rd_setTb]
  refine ⟨?_, ?_, ?_, State.rd_wr_of_lt (by decide)⟩
  · rw [State.rd_wr_of_lo (by decide), State.rd_loadCnt (FD.key_ne_of_lo (by decide)) (by decide), hrunning]
  · rw [State.rd_wr_of_lo (by decide), State.rd_loadCnt (FD.perAct_key_ne_cnt_key n) (by decide), hper]
  · rw [State.rd_wr_of_lo (by decide), State.cnt_loadCnt, hphs]

/-- A start that is not refused, of a timebase without legs, while no isolated channel is enabled. -/
theorem State.startDue_alone (hn : n < 8) (hstill : s.tbRunning n = false) (hrun : s.on Reg.TB_CTRL.RUN n = true)
    (hper : perOk (s.tbMode n) (s.rd Reg.TB_PER.PER n) = true) (hlow : 1 ≤ s.rd Reg.TB_CTRL.UPD_EVERY n)
    (hhigh : s.rd Reg.TB_CTRL.UPD_EVERY n ≤ 16) (hlegs : s.legsOfTb n = []) (hiso : ∀ c < 8, s.rd Reg.ISO_CTRL.EN c = 0) :
    s.startDue n = s.startedAlone n := by
  obtain ⟨hrunning, _⟩ := s.startedAlone_rd n
  have hruns : (s.startedAlone n).tbRunning n = true := by simp [State.tbRunning, State.on_eq, hrunning]
  have hchannels : ∀ c < 8, (s.startedAlone n).on Reg.ISO_CTRL.EN c = false := fun c hc => by
    rw [State.on_eq, (s.regsBut_startedAlone n).rd_of_blk (inWindow0_startKeys hn) (by decide), hiso c hc]
    rfl
  rw [State.startDue_of_due hstill hrun, State.startTb_of_no_legs hn hper hlow hhigh hlegs, hruns, State.onlyIf_true,
    State.isoAlign_of_disabled hchannels]

/-! ## Commanded starts and stops (R70 to R72) -/

variable {m : Master}

theorem exec_tbRun {n : Fin 8} (h : s.ready (Reg.TB_CTRL.RUN.addr n.val 0) = true) :
    exec (.tbRun m n) s = .next ((s.wr Reg.TB_CTRL.RUN n.val 1).ack m) := congrArg Host.Outcome.next (State.winWrite_ready h)

theorem exec_tbStop {n : Fin 8} (h : s.ready (Reg.TB_CTRL.RUN.addr n.val 0) = true) :
    exec (.tbStop m n) s = .next ((s.stopTb n.val).ack m) := congrArg Host.Outcome.next (State.winWrite_ready h)

theorem exec_tbgStart {mask : BitVec 8} (h : s.ready (Reg.TBG_START.START.addr 0 0) = true) :
    exec (.tbgStart m mask) s = .next ((foldEach (fun n u => u.tbStart n) (bitList 8 mask.toNat) s).ack m) :=
  congrArg Host.Outcome.next (State.winWrite_ready h)

/-- The mask of one timebase names it alone. -/
theorem bitList_two_pow (n : Fin 8) : bitList 8 (BitVec.ofNat 8 (2 ^ n.val)).toNat = [n.val] := by decide +revert

theorem State.stopTb_denied (hrun : s.on Reg.TB_CTRL.RUN n = true) (hused : s.tbUsed n = true) :
    s.stopTb n = s.flag Reg.TB_STATUS.RUN_DENIED n := by
  simp [State.stopTb, hrun, hused]

theorem State.stopTb_accepted (hrun : s.on Reg.TB_CTRL.RUN n = true) (hused : s.tbUsed n = false) : s.stopTb n = s.wr Reg.TB_CTRL.RUN n 0 := by
  simp [State.stopTb, hrun, hused]

/-- The tick edge of a timebase that runs with RUN = 0: beside the stop, only the history of its counter moves on (R72, R104). -/
theorem State.tbEdge_stop (hrunning : s.tbRunning n = true) (hrun : s.on Reg.TB_CTRL.RUN n = false) :
    s.tbEdge n = (s.setTb n { s.tb n with hist := s.tbCnt n :: (s.tb n).hist.take 254 }).wr Reg.TB_STATUS.RUNNING n 0 :=
  (if_pos hrunning).trans (if_neg (Bool.eq_false_iff.1 hrun))

/-! ## Syncs and loads (R73) -/

theorem exec_swsync {n : Fin 8} (h : s.ready (Reg.TB_CTRL.SWSYNC.addr n.val 0) = true) :
    exec (.swsync m n) s = .next ((s.syncEvent n.val 1).ack m) := congrArg Host.Outcome.next (State.winWrite_ready h)

theorem State.syncEvent_taken {src : Nat} (hrun : s.on Reg.TB_CTRL.RUN n = true) (hsrc : s.rd Reg.TB_CTRL.SYNC_SRC n = src) :
    s.syncEvent n src = s.setTb n { s.tb n with syncAt := some s.now } := if_pos ⟨hrun, hsrc⟩

theorem exec_syncLoad {n : Fin 8} {x : Nat} (hsync : (s.tb n.val).syncAt = some x) (hlater : x < s.now) (hpresent : s.present islTBC = true)
    (hrunning : s.tbRunning n.val = true) : exec (.syncLoad n) s = .next ((s.loadSync n.val).isoAlign n.val) := by
  simp [exec, execSyncLoad, hsync, hlater, hpresent, hrunning]

/-- The fields that the load of a sync writes. -/
def syncKeys (n : Nat) : List Nat := [Reg.TB_CNT.CNT.key n 0, Reg.TB_STATUS.DIR.key n 0, Reg.TB_STATUS.SYNC_JUMP.key n 0]

/-- The load of a sync is a load of the counter; beside it the timebase's record, and SYNC_JUMP where the jump is one. -/
theorem State.loadSync_eq (s : State) (n : Nat) :
    ∃ r jump, s.loadSync n = (((s.loadCnt n (min (s.rd Reg.TB_PHS.PHS n) (s.tbPer n)) (s.on Reg.TB_PHS.PHS_DIR n)).setTb n r).onlyIf jump
      (·.flag Reg.TB_STATUS.SYNC_JUMP n)) := ⟨_, _, rfl⟩

theorem State.loadSync_spec (s : State) (n : Nat) :
    (s.loadSync n).rd Reg.TB_CNT.CNT n = min (s.rd Reg.TB_PHS.PHS n) (s.tbPer n) % 2 ^ 24 ∧ RegsBut s (s.loadSync n) (syncKeys n) := by
  obtain ⟨r, jump, hload⟩ := s.loadSync_eq n
  set u := s.loadCnt n (min (s.rd Reg.TB_PHS.PHS n) (s.tbPer n)) (s.on Reg.TB_PHS.PHS_DIR n)
  have hcnt : (u.setTb n r).rd Reg.TB_CNT.CNT n = min (s.rd Reg.TB_PHS.PHS n) (s.tbPer n) % 2 ^ 24 := s.cnt_loadCnt n _ _
  have hbut : RegsBut s (u.setTb n r) (syncKeys n) :=
    ((OnlyRegs.refl s _).loadCnt (by simp [syncKeys]) (by simp [syncKeys]) _ _).regs.of_eq rfl
  rw [hload]
  cases jump with
  | false => exact ⟨hcnt, hbut⟩
  | true => exact ⟨(State.rd_wr_of_lo (by decide)).trans hcnt, hbut.wr2 (by simp [syncKeys])⟩

/-! ## Compare matches and trigger pulses (R77, R78) -/

/-- Does an event belong to a compare? -/
def Cmp.owns (c : Cmp) (ev : Nat) : Bool :=
  match c with
  | .a => ev == 2 || ev == 3
  | .b => ev == 4 || ev == 5

theorem Cmp.owns_iff {c : Cmp} {ev : Nat} : c.owns ev = true ↔ c = .a ∧ (ev = 2 ∨ ev = 3) ∨ c = .b ∧ (ev = 4 ∨ ev = 5) := by
  cases c with
  | a => simp [Cmp.owns]
  | b => simp [Cmp.owns]

theorem exec_compareMatch {l : Fin 24} {c : Cmp} {fine : Fin 128} (htb : s.tbOfLeg l.val = some n) (hrunning : s.tbRunning n = true)
    (hpresent : s.present (islLeg l.val) = true) :
    exec (.compareMatch l c fine) s = .next ((s.edgeWork n).takeEvent l.val n fine.val c.owns) := by
  simp only [exec, execCompareMatch, htb, hrunning, hpresent, Bool.and_self, if_true]
  rfl

/-- An event that wins its position and is looked for takes its action. -/
theorem State.takeEvent_won {l fine ev : Nat} {mine : Nat → Bool} (hwin : s.winnerAt l n (s.tbTime n * 128 + fine) = some ev)
    (h : mine ev = true) : s.takeEvent l n fine mine = (s.setLeg l { s.leg l with aq := Machine.act (s.action l ev) (s.leg l).aq }).followRef l fine := by
  simp only [State.takeEvent, hwin, h, if_true]

/-- Where another event wins, nothing happens. -/
theorem State.takeEvent_lost {l fine ev : Nat} {mine : Nat → Bool} (hwin : s.winnerAt l n (s.tbTime n * 128 + fine) = some ev)
    (h : ¬ mine ev = true) : s.takeEvent l n fine mine = s := by
  simp only [State.takeEvent, hwin, if_neg h]

theorem exec_triggerPulse {l : Fin 24} {k : Fin 4} (htb : s.tbOfLeg l.val = some n) (hrunning : s.tbRunning n = true)
    (hpresent : s.present (islLeg l.val) = true) :
    exec (.triggerPulse l k) s =
      .next (if (s.edgeWork n).trgFires l.val k.val n then (s.edgeWork n).raisePulse [1, 2] l.val k.val else s.edgeWork n) := by
  simp only [exec, execTriggerPulse, htb, hrunning, hpresent, Bool.and_self, if_true]

/-! ## Shadow transfers (R80, R82) -/

theorem exec_shadowTransfer {n : Fin 8} (hpresent : s.present islTBC = true) (hdue : s.xferDue n.val = true) :
    exec (.shadowTransfer n) s = .next (s.edgeWork n.val) := congrArg Host.Outcome.next (if_pos ⟨hpresent, hdue⟩)

/-- A reload point at which a transfer is due is counted, and the count starts afresh. -/
def State.recount (s : State) (n : Nat) : State := (s.setTb n { s.tb n with rldAt := some s.now }).wr Reg.TB_STATUS.UPD_CNT n 0

/-- Where no period is held, the tick edge of a due transfer is that transfer, or its skip under UPD_HOLD. -/
theorem State.edgeWork_of_due (hdue : s.xferDue n = true) (hper : (s.tb n).perPend = none) :
    s.edgeWork n =
      if s.on Reg.TB_CTRL.UPD_HOLD n then (s.recount n).flag Reg.TB_STATUS.HOLD_SKIP n else (s.recount n).transfer n := by
  have hparts := hdue
  simp only [State.xferDue, Bool.and_eq_true, decide_eq_true_eq] at hparts
  obtain ⟨⟨⟨hrunning, hreload⟩, hfresh⟩, _⟩ := hparts
  have hhold : (s.recount n).on Reg.TB_CTRL.UPD_HOLD n = s.on Reg.TB_CTRL.UPD_HOLD n := State.on_wr_of_lo (by decide)
  rw [← hhold]
  simp [State.edgeWork, hrunning, hper, hreload, hfresh, hdue, State.recount]

theorem State.recount_skip_spec (s : State) (n : Nat) :
    ((s.recount n).flag Reg.TB_STATUS.HOLD_SKIP n).rd Reg.TB_STATUS.UPD_CNT n = 0 ∧
      ((s.recount n).flag Reg.TB_STATUS.HOLD_SKIP n).rd Reg.TB_STATUS.HOLD_SKIP n = 1 ∧
      (((s.recount n).flag Reg.TB_STATUS.HOLD_SKIP n).tb n).rldAt = some s.now ∧
      OnlyRegs s { (s.recount n).flag Reg.TB_STATUS.HOLD_SKIP n with tbs := s.tbs }
        [Reg.TB_STATUS.UPD_CNT.key n 0, Reg.TB_STATUS.HOLD_SKIP.key n 0] := by
  refine ⟨?_, State.rd_flag rfl, ?_, ?_, rfl⟩
  · exact (State.rd_wr_of_lo (by decide)).trans (State.rd_wr_of_lt (by decide))
  · exact congrArg TbS.rldAt (s.tb_setTb_same n _)
  · exact (((RegsBut.refl s _).wr2 (f := Reg.TB_STATUS.UPD_CNT) (i := n) (j := 0) (v := 0) (by simp)).wr2
      (f := Reg.TB_STATUS.HOLD_SKIP) (i := n) (j := 0) (v := 1) (by simp)).of_eq rfl

end

end Sys2Proof.Machine

open Sys2Proof Sys2Proof.Machine

/-! ## The obligations -/

/-- Settles O1, clause by clause from what a commanded start or stop writes and what the tick edge after it does. -/
theorem timebaseStarts : Obligations.TimebaseStarts := by
  refine ⟨fun m n s hready => ?run, fun n s hstill hrun hper => ?badPer, fun n s hstill hrun hper hevery => ?badEvery,
    fun n s hstill hrun hper hlow hhigh hlegs hiso => ?start, fun m n s hready hrun hused => ?denied, fun m n s hready hrun hused => ?stop,
    fun n s hrunning hrun => ?still, fun m n s hready => ?group⟩
  case run =>
    exact ⟨_, exec_tbRun hready, State.respOf_setResp _ _ _, State.rd_wr_of_lt (s := s) (i := n.val) (v := 1) (by decide),
      ((OnlyRegs.refl s _).wr2 (by simp)).setResp⟩
  case badPer =>
    rw [State.startDue_refused hstill hrun (by decide) (State.startTb_of_bad_per hper)]
    exact State.refuseStart_spec (by decide) rfl
  case badEvery =>
    rw [State.startDue_refused hstill hrun (by decide) (State.startTb_of_bad_every hper hevery)]
    exact State.refuseStart_spec (by decide) rfl
  case start =>
    rw [State.startDue_alone n.isLt hstill hrun hper hlow hhigh hlegs fun c hc => hiso ⟨c, hc⟩]
    obtain ⟨hrunning, hact, hcnt, hupd⟩ := s.startedAlone_rd n.val
    exact ⟨hrunning, hact, hcnt, hupd, congrArg TbS.n (State.tb_setTb_same _ n.val _), s.onlyRegs_startedAlone n.val⟩
  case denied =>
    rw [exec_tbStop hready, State.stopTb_denied hrun hused]
    exact ⟨_, rfl, State.rd_flag (f := Reg.TB_STATUS.RUN_DENIED) rfl, ((OnlyRegs.refl s _).wr2 (by simp)).setResp⟩
  case stop =>
    rw [exec_tbStop hready, State.stopTb_accepted hrun hused]
    exact ⟨_, rfl, State.rd_wr_of_lt (s := s) (i := n.val) (v := 0) (by decide), ((OnlyRegs.refl s _).wr2 (by simp)).setResp⟩
  case still =>
    rw [State.tbEdge_stop hrunning hrun]
    refine ⟨State.rd_wr_of_lt (by decide), ?_, rfl⟩
    exact ((RegsBut.refl s _).wr2 (f := Reg.TB_STATUS.RUNNING) (i := n.val) (j := 0) (v := 0) (by simp)).of_eq rfl
  case group =>
    rw [exec_tbgStart hready, bitList_two_pow]
    rfl

/-- Settles O2, clause by clause from what a sync, an event, a match, a trigger and a transfer do. -/
theorem timebaseEvents : Obligations.TimebaseEvents := by
  refine ⟨fun m n s hready hrun hsrc => ?swsync, fun n s x hsync hlater hpresent hrunning => ?load,
    fun n s hpresent hrunning htime hfirst => ?zro, fun n s hpresent hrunning htime hfirst => ?prd,
    fun l c fine s n ev htb hrunning hpresent hwin => ?compare, fun l k s n htb hrunning hpresent => ?trigger,
    fun n s hpresent hdue hper hhold => ?skip, fun n s hpresent hdue hper hhold => ?transfer⟩
  case swsync =>
    rw [exec_swsync hready, State.syncEvent_taken hrun hsrc]
    exact ⟨_, rfl, congrArg TbS.syncAt (s.tb_setTb_same n.val _), fun k hk => s.tb_setTb_ne _ hk, (RegsBut.refl s _).of_eq rfl, rfl⟩
  case load =>
    have hexec := exec_syncLoad hsync hlater hpresent hrunning
    obtain ⟨hcnt, hbut⟩ := s.loadSync_spec n.val
    exact ⟨_, hexec, (State.rd_isoAlign _ _ _ _ _).trans hcnt, (exec_quiet rfl hexec).mem, hbut.of_eq (State.regs_isoAlign _ _)⟩
  case zro => exact congrArg Host.Outcome.next (if_pos ⟨hpresent, hrunning, htime, hfirst⟩)
  case prd => exact congrArg Host.Outcome.next (if_pos ⟨hpresent, hrunning, htime, hfirst⟩)
  case compare =>
    rw [exec_compareMatch htb hrunning hpresent]
    exact ⟨fun h => by rw [State.takeEvent_won hwin (Cmp.owns_iff.2 h)], fun h => by rw [State.takeEvent_lost hwin (mt Cmp.owns_iff.1 h)]⟩
  case trigger =>
    rw [exec_triggerPulse htb hrunning hpresent]
    exact ⟨fun h => by rw [if_pos h], fun h => by rw [if_neg (by simp [h])]⟩
  case skip =>
    refine ⟨_, exec_shadowTransfer hpresent hdue, ?_⟩
    rw [State.edgeWork_of_due hdue hper, if_pos hhold]
    exact s.recount_skip_spec n.val
  case transfer =>
    rw [exec_shadowTransfer hpresent hdue, State.edgeWork_of_due hdue hper, if_neg (by simp [hhold])]
    rfl

end

section
/-! PROOFS. The statements of spec/04_dead_time_and_extremes.md on the events of an output stage: a new OUTMODE, the end of a dead time and
a held closing edge. -/

namespace Sys2Proof.Machine

/-! ## One output of an output stage -/

section
variable {r : LegS} {sd : Side} {t : Nat}

@[simp] theorem LegS.out_drive_same (r : LegS) (sd : Side) (on : Bool) (t : Nat) : (r.drive sd on t).out sd = on := by
  cases sd with
  | hi => by_cases h : r.outH = on <;> simp [LegS.drive, LegS.out, h]
  | lo => by_cases h : r.outL = on <;> simp [LegS.drive, LegS.out, h]

/-- To drive GL leaves GH as it was. -/
@[simp] theorem LegS.outH_drive_lo (r : LegS) (on : Bool) (t : Nat) : (r.drive .lo on t).outH = r.outH := by
  by_cases h : r.outL = on <;> simp [LegS.drive, h]

@[simp] theorem LegS.newMode_drive (r : LegS) (sd : Side) (on : Bool) (t : Nat) : (r.drive sd on t).newMode = r.newMode := by
  cases sd with
  | hi => by_cases h : r.outH = on <;> simp [LegS.drive, h]
  | lo => by_cases h : r.outL = on <;> simp [LegS.drive, h]

/-- The level of an output is told by `outH` and `outL` alone. -/
theorem LegS.out_congr {q : LegS} (hH : q.outH = r.outH) (hL : q.outL = r.outL) : q.out sd = r.out sd := by
  cases sd with
  | hi => exact hH
  | lo => exact hL

/-- A pending turn-on that is due takes place. -/
theorem LegS.turnOn_of_due {p : PendOn} (hpend : r.pend = some p) (hdue : p.due ≤ t) :
    r.turnOn t = { r.drive p.side true p.due with pend := none } := by
  simp only [LegS.turnOn, hpend, if_pos hdue]

theorem LegS.turnOn_of_not_due (h : ∀ p, r.pend = some p → t < p.due) : r.turnOn t = r := by
  cases hpend : r.pend with
  | none => simp only [LegS.turnOn, hpend]
  | some p => simp only [LegS.turnOn, hpend, if_neg (Nat.not_le.2 (h p hpend))]

/-- A turn-on leaves a new mode waiting. -/
@[simp] theorem LegS.newMode_turnOn (r : LegS) (t : Nat) : (r.turnOn t).newMode = r.newMode := by
  by_cases h : ∀ p, r.pend = some p → t < p.due
  · rw [LegS.turnOn_of_not_due h]
  · push Not at h
    obtain ⟨p, hpend, hdue⟩ := h
    rw [LegS.turnOn_of_due hpend hdue]
    exact LegS.newMode_drive r p.side true p.due

/-- The record of a leg whose output stage starts afresh, both outputs off (R95). -/
def LegS.cleared (r : LegS) (t : Nat) : LegS :=
  { (r.drive .hi false t).drive .lo false t with pend := none, held := none, pulse := none, dropping := false, win := [] }

theorem LegS.outH_cleared (r : LegS) (t : Nat) : (r.cleared t).outH = false :=
  (LegS.outH_drive_lo (r.drive .hi false t) false t).trans (LegS.out_drive_same r .hi false t)

theorem LegS.outL_cleared (r : LegS) (t : Nat) : (r.cleared t).outL = false := LegS.out_drive_same (r.drive .hi false t) .lo false t

theorem LegS.newMode_cleared (r : LegS) (t : Nat) : (r.cleared t).newMode = r.newMode :=
  (LegS.newMode_drive _ .lo false t).trans (LegS.newMode_drive r .hi false t)

/-- The record of a leg whose pulse has ended with a closing edge (R103). -/
def LegS.closed (r : LegS) (sd : Side) (t : Nat) : LegS := { r.drive sd false t with pulse := none, pend := none, held := none }

theorem LegS.out_closed (r : LegS) (sd : Side) (t : Nat) : (r.closed sd t).out sd = false :=
  (LegS.out_congr rfl rfl).trans (LegS.out_drive_same r sd false t)

end

/-! ## The output stage of one leg -/

/-- Nothing differs but the record of one leg. -/
structure OnlyLeg (s t : State) (l : Nat) : Prop where
  others : ∀ k, k ≠ l → t.leg k = s.leg k
  rest : OnlyRegs s { t with legs := s.legs } []

theorem OnlyLeg.refl (s : State) (l : Nat) : OnlyLeg s s l := ⟨fun _ _ => rfl, OnlyRegs.refl s []⟩

theorem OnlyLeg.setLeg {s t : State} {l : Nat} (h : OnlyLeg s t l) (r : LegS) : OnlyLeg s (t.setLeg l r) l :=
  ⟨fun k hk => (t.leg_setLeg_ne r hk).trans (h.others k hk), h.rest⟩

section
variable {s : State} {l t : Nat}

/-- The mode by which a leg acts depends on its record by the new mode alone. -/
theorem State.outmode_setLeg {r : LegS} (h : r.newMode = (s.leg l).newMode) : (s.setLeg l r).outmode l = s.outmode l := by
  simp only [State.outmode, State.leg_setLeg_same, State.rd_setLeg, h]

/-- Without a new mode a leg acts by its register. -/
theorem State.outmode_setLeg_of_none {r : LegS} (h : r.newMode = none) : (s.setLeg l r).outmode l = s.rd Reg.LEG_PAD_CFG.OUTMODE l := by
  simp only [State.outmode, State.leg_setLeg_same, State.rd_setLeg, h]

/-- In OUTMODE 3 a restart opens no pulse, whatever the reference. -/
theorem State.restartLeg_of_outmode3 (h : s.outmode l = 3) : s.restartLeg l t = s.setLeg l ((s.leg l).cleared t) := by
  have hmode : (s.setLeg l ((s.leg l).cleared t)).outmode l = 3 := (State.outmode_setLeg (LegS.newMode_cleared _ t)).trans h
  rw [State.restartLeg, ← LegS.cleared, hmode]
  rfl

/-- Outside OUTMODE 0 a closing edge opens no pulse of the other output and drops none. -/
theorem State.closeEdge_of_outmode_ne {sd : Side} (h : s.outmode l ≠ 0) : s.closeEdge l sd t = s.setLeg l ((s.leg l).closed sd t) := by
  have hmode : (s.setLeg l ((s.leg l).closed sd t)).outmode l ≠ 0 := by
    rwa [State.outmode_setLeg (r := (s.leg l).closed sd t) (LegS.newMode_drive _ sd false t)]
  exact (if_neg fun hdrop => h hdrop.1).trans (if_neg hmode)

end

/-! ## The three events (R95, R96, R103) -/

section
variable {s : State} {l : Fin 24}

theorem exec_outmodeApply_due {o c : Nat} (hnew : (s.leg l.val).newMode = some (o, c)) (hlater : c < s.now) :
    exec (.outmodeApply l) s = .next ((s.setLeg l.val { s.leg l.val with newMode := none }).restartLeg l.val (s.now * 128)) := by
  simp only [exec, execOutmodeApply, hnew, if_pos hlater, State.fineNow, Nat.add_zero]

theorem exec_outmodeApply_not_due (h : ∀ o c, (s.leg l.val).newMode = some (o, c) → s.now ≤ c) : exec (.outmodeApply l) s = .next s := by
  cases hnew : (s.leg l.val).newMode with
  | none => simp only [exec, execOutmodeApply, hnew]
  | some m =>
    obtain ⟨o, c⟩ := m
    simp only [exec, execOutmodeApply, hnew, if_neg (Nat.not_lt.2 (h o c hnew))]

theorem exec_deadtimeExpiry : exec (.deadtimeExpiry l) s = .next (s.setLeg l.val ((s.leg l.val).turnOn (s.now * 128 + 127))) := rfl

theorem exec_heldEdgeExecute {h : Nat} {p : OutPulse} (hheld : (s.leg l.val).held = some h) (hpulse : (s.leg l.val).pulse = some p) :
    exec (.heldEdgeExecute l) s =
      .next (if h ≤ s.now * 128 + 127 then (s.setLeg l.val ((s.leg l.val).turnOn h)).closeEdge l.val p.side h else s) := by
  simp only [exec, execHeldEdgeExecute, hheld, hpulse]
  rfl

end

end Sys2Proof.Machine

open Sys2Proof Sys2Proof.Machine

/-! ## The obligation -/

/-- Settles O4, clause by clause: outside a pulse that opens, each of the three events replaces the record of its leg and nothing else. -/
theorem outputStageEvents : Obligations.OutputStageEvents := by
  refine ⟨fun l s o c hnew hlater hmode => ?off, fun l s o c hnew hlater => exec_outmodeApply_due hnew hlater,
    fun l s h => exec_outmodeApply_not_due h, fun l s p hpend hdue => ?due, fun l s h => ?waits,
    fun l s h p hheld hpulse hdue hmode => ?ends, fun l s h p hheld hpulse => ?edge⟩
  case off =>
    have hthree := (State.outmode_setLeg_of_none (s := s) (l := l.val) (r := { s.leg l.val with newMode := none }) rfl).trans hmode
    rw [exec_outmodeApply_due hnew hlater, State.restartLeg_of_outmode3 hthree, State.leg_setLeg_same]
    obtain ⟨hothers, hrest⟩ := ((OnlyLeg.refl s l.val).setLeg { s.leg l.val with newMode := none }).setLeg
      (LegS.cleared { s.leg l.val with newMode := none } (s.now * 128))
    refine ⟨_, rfl, ?_⟩
    rw [State.leg_setLeg_same]
    exact ⟨LegS.outH_cleared _ _, LegS.outL_cleared _ _, LegS.newMode_cleared _ _, rfl, rfl, hothers, hrest⟩
  case due =>
    rw [exec_deadtimeExpiry, LegS.turnOn_of_due hpend hdue]
    obtain ⟨hothers, hrest⟩ := (OnlyLeg.refl s l.val).setLeg { (s.leg l.val).drive p.side true p.due with pend := none }
    refine ⟨_, rfl, ?_⟩
    rw [State.leg_setLeg_same]
    exact ⟨(LegS.out_congr rfl rfl).trans (LegS.out_drive_same _ p.side true p.due), rfl, hothers, hrest⟩
  case waits =>
    rw [exec_deadtimeExpiry, LegS.turnOn_of_not_due h]
    obtain ⟨hothers, hrest⟩ := (OnlyLeg.refl s l.val).setLeg (s.leg l.val)
    refine ⟨_, rfl, fun k => ?_, hrest⟩
    by_cases hk : k = l.val
    · rw [hk, State.leg_setLeg_same]
    · exact hothers k hk
  case ends =>
    have hstill : (s.setLeg l.val ((s.leg l.val).turnOn h)).outmode l.val ≠ 0 := by
      rwa [State.outmode_setLeg (LegS.newMode_turnOn _ h)]
    rw [exec_heldEdgeExecute hheld hpulse, if_pos hdue, State.closeEdge_of_outmode_ne hstill, State.leg_setLeg_same]
    obtain ⟨hothers, hrest⟩ := ((OnlyLeg.refl s l.val).setLeg ((s.leg l.val).turnOn h)).setLeg (((s.leg l.val).turnOn h).closed p.side h)
    refine ⟨_, rfl, ?_⟩
    rw [State.leg_setLeg_same]
    exact ⟨LegS.out_closed _ _ _, rfl, rfl, rfl, hothers, hrest⟩
  case edge =>
    rw [exec_heldEdgeExecute hheld hpulse]
    exact ⟨fun hdue => by rw [if_pos hdue], fun hlater => by rw [if_neg (Nat.not_le.2 hlater)]⟩

end

section
/-! PROOFS. The statements of spec/06_converters.md on injected slots, the calibration of a converter, and interleaved pairs. -/

namespace Sys2Proof.Machine

/-! ## Fields of the windows of the converters -/

/-- Fields at one bit of different registers of a unit lie under different keys. -/
theorem FD.key_ne_of_off {f g : FD} {i : Nat} (h : g.blk = f.blk ∧ g.s1 = f.s1 ∧ g.lo = f.lo ∧ g.off ≠ f.off) : g.key i 0 ≠ f.key i 0 := by
  obtain ⟨hblk, hs1, hlo, hoff⟩ := h
  simp only [FD.key, FD.addr, hblk, hs1, hlo]
  omega

/-- The result of an injected slot lies behind the status and the last result of its converter. -/
theorem FD.key_ne_injRes_key {f : FD} {i slot : Nat} (hblk : f.blk = 2) (hs1 : f.s1 = 0x200) (hlo : f.lo = 0) (hoff : f.off < 0x18) :
    f.key i 0 ≠ Reg.ADC_INJ_RES.WORD.key i slot := by
  simp only [FD.key, FD.addr, hblk, hs1, hlo, Reg.ADC_INJ_RES.WORD]
  omega

/-- The registers of the pairs lie behind those of the converters. -/
theorem FD.il_key_ne_busy_key {f : FD} {i j a : Nat} (ha : a < 32) (hblk : f.blk = 2) (hoff : 0x5000 ≤ f.off) :
    f.key i j ≠ Reg.ADC_STATUS.BUSY.key a 0 := by
  simp only [FD.key, FD.addr, hblk, Reg.ADC_STATUS.BUSY]
  omega

theorem injPend_w (slot : Nat) : (injPend slot).w = 1 := by
  unfold injPend
  split <;> rfl

/-- The pending bits of the slots are bits 8 and 9 of ADC_STATUS. -/
theorem injPend_lo (slot : Nat) : 8 ≤ (injPend slot).lo ∧ (injPend slot).lo ≤ 9 := by
  unfold injPend
  split <;> decide

theorem State.rd_onlyIf_flag_of_lo {s : State} {c : Bool} {f g : FD} {i a b : Nat} (h : g.lo % 32 ≠ f.lo % 32) :
    (s.onlyIf c (·.flag f i)).rd g a b = s.rd g a b := by
  cases c
  · rfl
  · exact State.rd_wr_of_lo h

theorem State.adc_onlyIf_flag (s : State) (c : Bool) (f : FD) (i n : Nat) : (s.onlyIf c (·.flag f i)).adc n = s.adc n := by
  cases c <;> rfl

theorem State.pairs_onlyIf_flag (s : State) (c : Bool) (f : FD) (i : Nat) : (s.onlyIf c (·.flag f i)).pairs = s.pairs := by
  cases c <;> rfl

/-! ## Frames with the records of the converters and pairs -/

/-- Nothing differs but the fields under the listed keys, the answers to the bus masters, and the records of the converters and pairs. -/
def OnlyConverters (s t : State) (ks : List Nat) : Prop := OnlyRegs s { t with adcs := s.adcs, pairs := s.pairs } ks

section
variable {s t : State} {ks : List Nat}

theorem OnlyConverters.refl (s : State) (ks : List Nat) : OnlyConverters s s ks := OnlyRegs.refl s ks

theorem OnlyConverters.wr2 (h : OnlyConverters s t ks) {f : FD} {i j v : Nat} (hk : f.key i j ∈ ks) : OnlyConverters s (t.wr2 f i j v) ks :=
  OnlyRegs.wr2 h hk

theorem OnlyConverters.setResp (h : OnlyConverters s t ks) {m : Master} {r : Resp} : OnlyConverters s (t.setResp m r) ks :=
  OnlyRegs.setResp h

theorem OnlyConverters.setAdc (h : OnlyConverters s t ks) (n : Nat) (r : AdcS) : OnlyConverters s (t.setAdc n r) ks := h

theorem OnlyConverters.setPair (h : OnlyConverters s t ks) (n : Nat) (r : PairS) : OnlyConverters s (t.setPair n r) ks := h

theorem OnlyConverters.flagIf (h : OnlyConverters s t ks) {c : Bool} {f : FD} {i : Nat} (hk : f.key i 0 ∈ ks) :
    OnlyConverters s (t.onlyIf c (·.flag f i)) ks := by
  cases c
  · exact h
  · exact h.wr2 hk

/-- The frame of an operation that leaves the pairs alone. -/
theorem OnlyConverters.of_pairs (h : OnlyConverters s t ks) (hp : t.pairs = s.pairs) : OnlyRegs s { t with adcs := s.adcs } ks := by
  rw [OnlyConverters, ← hp] at h
  exact h

/-- An acquisition shows in BUSY alone. -/
theorem OnlyConverters.acquire (h : OnlyConverters s t ks) {adc : Nat} (hk : Reg.ADC_STATUS.BUSY.key adc 0 ∈ ks) (job : ConvJob) :
    OnlyConverters s (t.acquire adc job) ks := (h.setAdc _ _).wr2 hk

theorem OnlyConverters.release (h : OnlyConverters s t ks) {adc : Nat} (hk : Reg.ADC_STATUS.BUSY.key adc 0 ∈ ks) :
    OnlyConverters s (t.release adc) ks := (h.setAdc _ _).wr2 hk

/-- A pair sample within its burst is an acquisition of the even or the odd converter. -/
theorem State.pairSample_of_lt {k i start2 : Nat} (h : i < (s.pair k).len) :
    s.pairSample k i start2 = s.acquire (2 * k + i % 2) ⟨2, i, (s.pair k).ain, start2, (s.pair k).acq, 0, 0, false⟩ := if_pos h

/-- A pair sample is an acquisition of one converter, or nothing past the end of the burst. -/
theorem State.pairSample_cases (s : State) (k i start2 : Nat) :
    s.pairSample k i start2 = s ∨ ∃ job, s.pairSample k i start2 = s.acquire (2 * k + i % 2) job := by
  by_cases h : i < (s.pair k).len
  · exact .inr ⟨_, State.pairSample_of_lt h⟩
  · exact .inl (if_neg h)

theorem OnlyConverters.pairSample (h : OnlyConverters s t ks) {k i : Nat} (hk : Reg.ADC_STATUS.BUSY.key (2 * k + i % 2) 0 ∈ ks)
    (start2 : Nat) : OnlyConverters s (t.pairSample k i start2) ks := by
  obtain hnone | ⟨job, hjob⟩ := t.pairSample_cases k i start2
  · rwa [hnone]
  · rw [hjob]
    exact h.acquire hk job

end

/-! ## Acquisitions (R147) -/

section
variable {s : State} {adc : Nat} {job : ConvJob}

theorem State.adc_acquire_same : (s.acquire adc job).adc adc = { s.adc adc with phase := .acquiring, job := job } :=
  s.adc_setAdc_same adc { s.adc adc with phase := .acquiring, job := job }

theorem State.adc_acquire_ne {n : Nat} (h : n ≠ adc) : (s.acquire adc job).adc n = s.adc n :=
  s.adc_setAdc_ne { s.adc adc with phase := .acquiring, job := job } h

theorem State.rd_busy_acquire : (s.acquire adc job).rd Reg.ADC_STATUS.BUSY adc = 1 := State.rd_flag rfl

theorem State.rd_acquire_ne {f : FD} {i j : Nat} (h : f.key i j ≠ Reg.ADC_STATUS.BUSY.key adc 0) :
    (s.acquire adc job).rd f i j = s.rd f i j := State.rd_wr_ne h

theorem State.adc_release_same : (s.release adc).adc adc = { s.adc adc with phase := .idle, job := ConvJob.init } :=
  s.adc_setAdc_same adc { s.adc adc with phase := .idle, job := ConvJob.init }

end

/-! ## Claim decisions (R60, R61) -/

/-- The owner takes every free resource of a list as a dynamic claim. -/
def State.takeFree (s : State) (owner : Nat) (ids : List Nat) : State :=
  foldEach (fun id t => if t.claimState id = 0 then t.setClaim id 2 owner else t) ids s

/-- The fields in which a refused claim request shows. -/
def refusedKeys : List Nat :=
  [Reg.CLM_STATUS.CONFLICT.key 0 0, Reg.CLM_STATUS.CONFLICT_CNT.key 0 0, Reg.CLM_LAST.RES_ID.key 0 0, Reg.CLM_LAST.REQUESTER.key 0 0,
    Reg.CLM_LAST.OWNER.key 0 0]

section
variable {s : State} {owner id : Nat} {ids : List Nat} {yes no : State → State}

theorem State.claimAll_granted (h : s.claimBlock owner ids = none) : s.claimAll owner ids yes no = yes (s.takeFree owner ids) := by
  simp only [State.claimAll, h, State.takeFree]

theorem State.claimAll_refused (h : s.claimBlock owner ids = some id) : s.claimAll owner ids yes no = no (s.claimRefused id owner) := by
  simp only [State.claimAll, h]

/-- A claim of a resource that is no land shows in its claim register alone. -/
theorem OnlyRegs.setClaim {t : State} {ks : List Nat} (h : OnlyRegs s t ks) (hland : id / 256 ≠ 0xA) (hstate : Reg.CLAIM.STATE.key id 0 ∈ ks)
    (howner : Reg.CLAIM.OWNER.key id 0 ∈ ks) (st : Nat) : OnlyRegs s (t.setClaim id st owner) ks := by
  have hpin : t.claimPin id st = t := by simp [State.claimPin, hland]
  rw [State.setClaim, hpin]
  exact (h.wr2 hstate).wr2 howner

theorem OnlyRegs.takeFree_singleton {ks : List Nat} (hland : id / 256 ≠ 0xA) (hstate : Reg.CLAIM.STATE.key id 0 ∈ ks)
    (howner : Reg.CLAIM.OWNER.key id 0 ∈ ks) : OnlyRegs s (s.takeFree owner [id]) ks := by
  simp only [State.takeFree, foldEach]
  split
  · exact (OnlyRegs.refl s ks).setClaim hland hstate howner 2
  · exact OnlyRegs.refl s ks

theorem State.claimRefused_spec (s : State) (id owner : Nat) :
    (s.claimRefused id owner).rd Reg.CLM_STATUS.CONFLICT = 1 ∧ (s.claimRefused id owner).rd Reg.CLM_LAST.RES_ID = id % 2 ^ 12 ∧
      OnlyRegs s (s.claimRefused id owner) refusedKeys := by
  refine ⟨?_, ?_, ?_⟩
  · exact (State.rd_wr_ne (by decide)).trans ((State.rd_wr_ne (by decide)).trans ((State.rd_wr_ne (by decide)).trans
      ((State.rd_wr_ne (by decide)).trans (State.rd_flag rfl))))
  · exact (State.rd_wr_ne (by decide)).trans ((State.rd_wr_ne (by decide)).trans (State.rd_wr2_same _ _ _ _ _))
  · exact (((((OnlyRegs.refl s _).wr2 (by simp [refusedKeys])).wr2 (by simp [refusedKeys])).wr2 (by simp [refusedKeys])).wr2
      (by simp [refusedKeys])).wr2 (by simp [refusedKeys])

end

/-! ## Injected slots (R151, R156, R157) -/

section
variable {s : State} {adc slot : Nat}

theorem exec_injEnable {m : Master} {a : Fin 32} {k : Fin 2} (h : s.ready (Reg.ADC_INJ.EN.addr a.val k.val) = true) :
    exec (.injEnable m a k) s = .next ((s.injEnable a.val k.val).ack m) := congrArg Host.Outcome.next (State.winWrite_ready h)

theorem State.injEnable_granted (h : s.claimBlock (s.injOwner adc) [0x200 + adc] = none) :
    s.injEnable adc slot = (s.takeFree (s.injOwner adc) [0x200 + adc]).wr2 Reg.ADC_INJ.EN adc slot 1 := State.claimAll_granted h

theorem State.injEnable_refused {id : Nat} (h : s.claimBlock (s.injOwner adc) [0x200 + adc] = some id) :
    s.injEnable adc slot = s.claimRefused id (s.injOwner adc) := State.claimAll_refused h

theorem exec_swtrig {m : Master} {a : Fin 32} {k : Fin 2} (h : s.ready (Reg.ADC_CTRL.SWTRIG_J0.addr a.val 0) = true) :
    exec (.swtrig m a k) s = .next ((s.injTrig a.val k.val).ack m) := congrArg Host.Outcome.next (State.winWrite_ready h)

theorem State.injTrig_pending (h : s.on (injPend slot) adc = true) : s.injTrig adc slot = s.trigMiss adc := if_pos h

theorem State.injTrig_disabled (hpend : s.on (injPend slot) adc = false) (hen : s.on Reg.ADC_INJ.EN adc slot = false) :
    s.injTrig adc slot = s := by
  simp only [State.injTrig, hpend, hen, Bool.not_false, Bool.false_eq_true, if_true, if_false]

/-- A trigger on an idle converter has nothing to pre-empt: the slot becomes pending. -/
theorem State.injTrig_idle (hpend : s.on (injPend slot) adc = false) (hen : s.on Reg.ADC_INJ.EN adc slot = true) (hpair : s.paired adc = false)
    (hrs : s.rsUses adc = false) (hcal : s.rd Reg.ADC_STATUS.CAL_ST adc = 0) (hidle : (s.adc adc).phase = .idle) :
    s.injTrig adc slot = s.flag (injPend slot) adc := by
  have hlo := injPend_lo slot
  have hcal' : (s.flag (injPend slot) adc).rd Reg.ADC_STATUS.CAL_ST adc = 0 :=
    (State.rd_wr_of_lo (by simp only [Reg.ADC_STATUS.CAL_ST]; omega)).trans hcal
  have hidle' : ((s.flag (injPend slot) adc).adc adc).phase = .idle := hidle
  simp [State.injTrig, hpend, hen, hpair, hrs, hcal', hidle']

theorem State.trigMiss_spec (s : State) (adc : Nat) :
    (s.trigMiss adc).rd Reg.ADC_STATUS.TRIG_MISS adc = 1 ∧
      OnlyRegs s (s.trigMiss adc) [Reg.ADC_STATUS.TRIG_MISS.key adc 0, Reg.ADC_STATUS.MISS_CNT.key adc 0] :=
  ⟨(State.rd_wr_of_lo (by decide)).trans (State.rd_flag rfl), ((OnlyRegs.refl s _).wr2 (by simp)).wr2 (by simp)⟩

theorem exec_injTrigger_one {a : Fin 32} {k : Fin 2} (hpulse : (s.pulseAt (injTarget a.val k.val)).isSome = true)
    (hpresent : s.present (islAdc a.val) = true)
    (h : k.val = 0 ∨ s.pulseAt (injTarget a.val 0) ≠ s.pulseAt (injTarget a.val 1)) :
    exec (.injTrigger a k) s = .next (s.injRoute a.val k.val) := by
  have hone : (k.val == 1 && s.pulseAt (injTarget a.val 0) == s.pulseAt (injTarget a.val 1)) = false := by
    rcases h with h | h <;> simp [h]
  simp only [exec, execInjTrigger, hpulse, hpresent, hone, Bool.and_self, if_true, State.onlyIf_false]

theorem exec_injTrigger_both {a : Fin 32} {k : Fin 2} (hpulse : (s.pulseAt (injTarget a.val k.val)).isSome = true)
    (hpresent : s.present (islAdc a.val) = true) (hk : k.val = 1)
    (h : s.pulseAt (injTarget a.val 0) = s.pulseAt (injTarget a.val 1)) :
    exec (.injTrigger a k) s = .next ((s.injRoute a.val 0).injRoute a.val k.val) := by
  have hboth : (k.val == 1 && s.pulseAt (injTarget a.val 0) == s.pulseAt (injTarget a.val 1)) = true := by simp [hk, h]
  simp only [exec, execInjTrigger, hpulse, hpresent, hboth, Bool.and_self, if_true, State.onlyIf_true]

theorem exec_injSlotStart {a : Fin 32} {k : Fin 2} (hpresent : s.present (islAdc a.val) = true) (hslot : s.slotReady a.val k.val = true) :
    exec (.injSlotStart a k) s = .next (s.startSlot a.val k.val) := by
  simp only [exec, execInjSlotStart, hpresent, hslot, Bool.and_self, if_true]

/-- A slot that starts is pending no more, and its converter acquires for it. -/
theorem State.startSlot_spec (s : State) (adc slot : Nat) :
    (s.startSlot adc slot).rd (injPend slot) adc = 0 ∧ (s.startSlot adc slot).rd Reg.ADC_STATUS.BUSY adc = 1 ∧
      ((s.startSlot adc slot).adc adc).phase = .acquiring ∧ ((s.startSlot adc slot).adc adc).job.kind = 1 ∧
      ((s.startSlot adc slot).adc adc).job.src = slot ∧
      OnlyConverters s (s.startSlot adc slot) [(injPend slot).key adc 0, Reg.ADC_STATUS.BUSY.key adc 0] := by
  have hlo := injPend_lo slot
  have hbusy : (injPend slot).key adc 0 ≠ Reg.ADC_STATUS.BUSY.key adc 0 :=
    FD.key_ne_of_lo (by simp only [Reg.ADC_STATUS.BUSY]; omega)
  unfold State.startSlot
  refine ⟨(State.rd_acquire_ne hbusy).trans (State.rd_wr_of_lt (by simp [injPend_w])), State.rd_busy_acquire, ?_, ?_, ?_, ?_⟩
  · rw [State.adc_acquire_same]
  · rw [State.adc_acquire_same]
  · rw [State.adc_acquire_same]
  · exact (((OnlyConverters.refl s _).setAdc _ _).wr2 (by simp)).acquire (by simp) _

/-- The end of an injected conversion that Cedar does not take: its converter is idle, and its result word stands in ADC_LAST and in the
result of its slot. -/
def State.keepInj (s : State) (adc slot w : Nat) (clip : Bool) : State :=
  (((s.release adc).onlyIf clip (·.flag Reg.ADC_STATUS.CLIP adc)).wr Reg.ADC_LAST.WORD adc w).wr2 Reg.ADC_INJ_RES.WORD adc slot w

theorem State.keepInj_spec (s : State) (adc slot w : Nat) (clip : Bool) :
    (s.keepInj adc slot w clip).rd Reg.ADC_LAST.WORD adc = w % 2 ^ 32 ∧
      (s.keepInj adc slot w clip).rd Reg.ADC_INJ_RES.WORD adc slot = w % 2 ^ 32 ∧
      (s.keepInj adc slot w clip).rd Reg.ADC_STATUS.BUSY adc = 0 ∧ ((s.keepInj adc slot w clip).adc adc).phase = .idle ∧
      (s.keepInj adc slot w clip).pairs = s.pairs ∧
      OnlyConverters s (s.keepInj adc slot w clip) [Reg.ADC_STATUS.BUSY.key adc 0, Reg.ADC_STATUS.CLIP.key adc 0,
        Reg.ADC_LAST.WORD.key adc 0, Reg.ADC_INJ_RES.WORD.key adc slot] := by
  refine ⟨?_, State.rd_wr2_same _ _ _ _ _, ?_, ?_, State.pairs_onlyIf_flag _ _ _ _, ?_⟩
  · exact (State.rd_wr2_ne _ _ (FD.key_ne_injRes_key rfl rfl rfl (by decide))).trans (State.rd_wr2_same _ _ _ _ _)
  · calc _ = (((s.release adc).onlyIf clip (·.flag Reg.ADC_STATUS.CLIP adc)).wr Reg.ADC_LAST.WORD adc w).rd Reg.ADC_STATUS.BUSY adc :=
        State.rd_wr2_ne _ _ (FD.key_ne_injRes_key rfl rfl rfl (by decide))
      _ = ((s.release adc).onlyIf clip (·.flag Reg.ADC_STATUS.CLIP adc)).rd Reg.ADC_STATUS.BUSY adc :=
        State.rd_wr_ne (FD.key_ne_of_off (by decide))
      _ = (s.release adc).rd Reg.ADC_STATUS.BUSY adc := State.rd_onlyIf_flag_of_lo (by decide)
      _ = 0 := State.rd_wr_of_lt (by decide)
  · calc _ = ((s.release adc).adc adc).phase := congrArg AdcS.phase (State.adc_onlyIf_flag _ _ _ _ _)
      _ = .idle := by rw [State.adc_release_same]
  · exact ((((OnlyConverters.refl s _).release (by simp)).flagIf (by simp)).wr2 (by simp)).wr2 (by simp)

/-- Without Cedar and with no open-wire check waiting, the end of an injected conversion keeps its result. -/
theorem State.eocInj_unsent {r : AdcS} {v : Nat} {clip : Bool} (hcedar : s.on Reg.ADC_INJ.CEDAR adc r.job.src = false)
    (hcorr : s.correct adc (rawCode r.nv) = (v, clip)) (hnext : r.owNext = none) :
    s.eocInj adc r = s.keepInj adc r.job.src (resultWord false clip r.job.src 1 r.job.ain v) clip := by
  have hcedar' (w : Nat) : (s.keepInj adc r.job.src w clip).on Reg.ADC_INJ.CEDAR adc r.job.src = false := by
    rw [← hcedar, State.on_eq, State.on_eq]
    congr 1
    calc _ = (((s.release adc).onlyIf clip (·.flag Reg.ADC_STATUS.CLIP adc)).wr Reg.ADC_LAST.WORD adc w).rd Reg.ADC_INJ.CEDAR adc r.job.src :=
          State.rd_wr2_ne _ _ (FD.key_ne_of_lo (by decide))
      _ = ((s.release adc).onlyIf clip (·.flag Reg.ADC_STATUS.CLIP adc)).rd Reg.ADC_INJ.CEDAR adc r.job.src := State.rd_wr_of_lo (by decide)
      _ = (s.release adc).rd Reg.ADC_INJ.CEDAR adc r.job.src := State.rd_onlyIf_flag_of_lo (by decide)
      _ = s.rd Reg.ADC_INJ.CEDAR adc r.job.src := State.rd_wr_of_lo (by decide)
  simp only [State.keepInj] at hcedar'
  simp only [State.eocInj, hcorr, hcedar', hnext, Bool.false_eq_true, if_false, State.keepInj]

end

/-! ## The end of a conversion (R147) -/

section
variable {s : State} {a : Fin 32}

theorem exec_adcEoc_inj (hpresent : s.present (islAdc a.val) = true) (hphase : (s.adc a.val).phase = .converting)
    (htime : (s.adc a.val).smp2 + 42 ≤ 2 * s.now + 1) (hkind : (s.adc a.val).job.kind = 1) :
    exec (.adcEoc a) s = .next (s.eocInj a.val (s.adc a.val)) := by
  simp [exec, execAdcEoc, hpresent, hphase, htime, hkind]

theorem exec_adcEoc_pair (hpresent : s.present (islAdc a.val) = true) (hphase : (s.adc a.val).phase = .converting)
    (htime : (s.adc a.val).smp2 + 42 ≤ 2 * s.now + 1) (hkind : (s.adc a.val).job.kind = 2) :
    exec (.adcEoc a) s = .next (s.eocPair a.val (s.adc a.val)) := by
  simp [exec, execAdcEoc, hpresent, hphase, htime, hkind]

end

/-! ## Calibration (R162, R163) -/

section
variable {s : State} {adc : Nat}

theorem exec_calStart {m : Master} {a : Fin 32} (h : s.ready (Reg.ADC_CTRL.CAL_START.addr a.val 0) = true) :
    exec (.calStart m a) s = .next ((s.calStart a.val).ack m) := congrArg Host.Outcome.next (State.winWrite_ready h)

theorem State.calStart_refused (h : (s.claimedByEnabled (0x200 + adc) || s.paired adc || s.rsUses adc) = true) :
    s.calStart adc = s.flag Reg.ADC_STATUS.CAL_ERR adc := if_pos h

theorem State.calStart_accepted (h : (s.claimedByEnabled (0x200 + adc) || s.paired adc || s.rsUses adc) = false)
    (hcal : s.rd Reg.ADC_STATUS.CAL_ST adc = 0) :
    s.calStart adc =
      ((s.setAdc adc { s.adc adc with pre0 := s.on Reg.ADC_STATUS.J0_PEND adc, pre1 := s.on Reg.ADC_STATUS.J1_PEND adc }).wr
        Reg.ADC_STATUS.CAL_ST adc 1).flag Reg.ADC_CTRL.CAL_START adc :=
  (if_neg (by simp [h])).trans (if_neg (by simp [hcal]))

theorem exec_adcCalBegin {a : Fin 32} (hcal : s.rd Reg.ADC_STATUS.CAL_ST a.val = 1) (hidle : s.adcIdle a.val = true)
    (h0 : (s.adc a.val).pre0 = false) (h1 : (s.adc a.val).pre1 = false) :
    exec (.adcCalBegin a) s =
      .next (((s.setAdc a.val { s.adc a.val with calAt := s.now }).wr Reg.ADC_STATUS.CAL_ST a.val 2).flag Reg.ADC_STATUS.BUSY a.val) :=
  congrArg Host.Outcome.next (if_pos ⟨hcal, hidle, h0, h1⟩)

/-- The fields that the end of a calibration clears. -/
def calEndKeys (adc : Nat) : List Nat :=
  [Reg.ADC_STATUS.CAL_ST.key adc 0, Reg.ADC_CTRL.CAL_START.key adc 0, Reg.ADC_STATUS.INJ_HELD.key adc 0, Reg.ADC_STATUS.BUSY.key adc 0]

theorem OnlyRegs.calEnd {t : State} {ks : List Nat} (h : OnlyRegs s t ks) (hks : calEndKeys adc ⊆ ks) : OnlyRegs s (t.calEnd adc) ks :=
  (((h.wr2 (hks (by simp [calEndKeys]))).wr2 (hks (by simp [calEndKeys]))).wr2 (hks (by simp [calEndKeys]))).wr2
    (hks (by simp [calEndKeys]))

theorem State.calEnd_rd (s : State) (adc : Nat) :
    (s.calEnd adc).rd Reg.ADC_STATUS.BUSY adc = 0 ∧ (s.calEnd adc).rd Reg.ADC_STATUS.CAL_ST adc = 0 := by
  unfold State.calEnd
  refine ⟨?_, ?_⟩
  · exact (State.rd_wr_of_lo (by decide)).trans ((State.rd_wr_ne (FD.key_ne_of_off (by decide))).trans
      ((State.rd_wr_of_lo (by decide)).trans (State.rd_wr_of_lt (by decide))))
  · exact (State.rd_wr_of_lo (by decide)).trans ((State.rd_wr_of_lo (by decide)).trans (State.rd_wr_of_lt (by decide)))

/-- The end of a calibration leaves the trims of its converter. -/
theorem State.rd_calEnd_trim {f : FD} (hblk : f.blk = 2) (hs1 : f.s1 = 0x200) (hoff : f.off = 0x8004) :
    (s.calEnd adc).rd f adc = s.rd f adc := by
  have hne {g : FD} (hg : g.blk = 2) (hgs : g.s1 = 0x200) (hgo : g.off < 0x10) (hgl : g.lo < 32) : f.key adc 0 ≠ g.key adc 0 := by
    simp only [FD.key, FD.addr, hblk, hs1, hoff, hg, hgs]
    omega
  exact (State.rd_wr_ne (hne rfl rfl (by decide) (by decide))).trans ((State.rd_wr_ne (hne rfl rfl (by decide) (by decide))).trans
    ((State.rd_wr_ne (hne rfl rfl (by decide) (by decide))).trans (State.rd_wr_ne (hne rfl rfl (by decide) (by decide)))))

theorem exec_adcCalDone_failed {a : Fin 32} {lo hi : Nat} (hcal : s.rd Reg.ADC_STATUS.CAL_ST a.val = 2)
    (htime : (s.adc a.val).calAt + 18432 ≤ s.now) (h : calTrims ((lo : Rat) / 256) ((hi : Rat) / 256) = none) :
    exec (.adcCalDone a lo hi) s = .next (((s.calEnd a.val).flag Reg.ADC_STATUS.CAL_DONE a.val).flag Reg.ADC_STATUS.CAL_ERR a.val) := by
  simp only [exec, execAdcCalDone, if_pos (And.intro hcal htime), h]

theorem exec_adcCalDone_passed {a : Fin 32} {lo hi : Nat} {g o : Int} (hcal : s.rd Reg.ADC_STATUS.CAL_ST a.val = 2)
    (htime : (s.adc a.val).calAt + 18432 ≤ s.now) (h : calTrims ((lo : Rat) / 256) ((hi : Rat) / 256) = some (g, o))
    (hstore : s.on Reg.ADC_CTRL.CAL_STORE a.val = false) :
    exec (.adcCalDone a lo hi) s = .next ((((s.wrI Reg.ADC_TRIM.GAIN_TRIM a.val g).wrI Reg.ADC_TRIM.OFS_TRIM a.val o).calEnd a.val).flag
      Reg.ADC_STATUS.CAL_DONE a.val) := by
  have hstore' : ((s.wrI Reg.ADC_TRIM.GAIN_TRIM a.val g).wrI Reg.ADC_TRIM.OFS_TRIM a.val o).on Reg.ADC_CTRL.CAL_STORE a.val = false :=
    (State.on_wr_of_lo (by decide)).trans ((State.on_wr_of_lo (by decide)).trans hstore)
  simp only [exec, execAdcCalDone, if_pos (And.intro hcal htime), h, hstore', Bool.false_eq_true, if_false]

end

/-! ## Arming a pair (R151, R164, R166) -/

section
variable {s : State} {k : Nat}

theorem exec_ilArm {m : Master} {n : Fin 16} (h : s.ready (Reg.IL_CTRL.ARM.addr n.val 0) = true) :
    exec (.ilArm m n) s = .next ((s.pairArm n.val).ack m) := congrArg Host.Outcome.next (State.winWrite_ready h)

/-- A refused pair shows ERR and its code. -/
theorem State.pairErr_spec (s : State) (k : Nat) {code : Nat} (hcode : code < 4) :
    (s.pairErr k code).rd Reg.IL_FLAGS.ERR k = 1 ∧ (s.pairErr k code).rd Reg.IL_FLAGS.ERR_CODE k = code ∧
      OnlyRegs s (s.pairErr k code) [Reg.IL_FLAGS.ERR.key k 0, Reg.IL_FLAGS.ERR_CODE.key k 0] :=
  ⟨(State.rd_wr_of_lo (by decide)).trans (State.rd_flag rfl), State.rd_wr_of_lt hcode, ((OnlyRegs.refl s _).wr2 (by simp)).wr2 (by simp)⟩

/-- The resources that ARM needs: both converters and the blocks of the pair (R151). -/
def State.pairNeeds (s : State) (k : Nat) : List Nat :=
  [0x200 + 2 * k, 0x201 + 2 * k] ++ (List.range (s.rd Reg.IL_CTRL.IL_BLKS k)).map fun b => 0x800 + s.rd Reg.IL_CTRL.IL_BASE k + b

theorem State.pairArm_disabled (h : s.on Reg.IL_CTRL.IL_EN k = false) : s.pairArm k = s.pairErr k 0 := if_pos (by simp [h])

theorem State.pairArm_armed (hen : s.on Reg.IL_CTRL.IL_EN k = true) (harm : s.on Reg.IL_CTRL.ARM k = true) : s.pairArm k = s :=
  (if_neg (by simp [hen])).trans (if_pos harm)

theorem State.pairArm_bad_blocks (hen : s.on Reg.IL_CTRL.IL_EN k = true) (harm : s.on Reg.IL_CTRL.ARM k = false)
    (h : s.rd Reg.IL_CTRL.IL_BLKS k = 0 ∨ 64 < s.rd Reg.IL_CTRL.IL_BASE k + s.rd Reg.IL_CTRL.IL_BLKS k) : s.pairArm k = s.pairErr k 2 :=
  (if_neg (by simp [hen])).trans ((if_neg (by simp [harm])).trans (if_pos h))

theorem State.pairArm_granted {o : Nat} (hen : s.on Reg.IL_CTRL.IL_EN k = true) (harm : s.on Reg.IL_CTRL.ARM k = false)
    (hsome : 1 ≤ s.rd Reg.IL_CTRL.IL_BLKS k) (hlast : s.rd Reg.IL_CTRL.IL_BASE k + s.rd Reg.IL_CTRL.IL_BLKS k ≤ 64)
    (howner : s.pairOwner k = some o) (h : s.claimBlock o (s.pairNeeds k) = none) :
    s.pairArm k = ((s.takeFree o (s.pairNeeds k)).setPair k { (s.takeFree o (s.pairNeeds k)).pair k with claims := s.pairNeeds k }).flag
      Reg.IL_CTRL.ARM k := by
  have hblks : ¬ (s.rd Reg.IL_CTRL.IL_BLKS k = 0 ∨ 64 < s.rd Reg.IL_CTRL.IL_BASE k + s.rd Reg.IL_CTRL.IL_BLKS k) := by omega
  simp only [State.pairArm, hen, harm, if_neg hblks, howner, Bool.not_true, Bool.false_eq_true, if_false]
  exact State.claimAll_granted h

end

/-! ## Bursts (R164) -/

section
variable {s : State} {k : Nat}

theorem exec_pairSwstart {m : Master} {n : Fin 16} (h : s.ready (Reg.IL_CTRL.SWSTART.addr n.val 0) = true) :
    exec (.pairSwstart m n) s = .next ((s.burstStart n.val).ack m) := congrArg Host.Outcome.next (State.winWrite_ready h)

theorem exec_pairBurstTrigger {n : Fin 16} (hpulse : (s.pulseAt (pairTarget n.val)).isSome = true)
    (hpresent : s.present (0x13 + n.val / 4) = true) :
    exec (.pairBurstTrigger n) s = .next ((s.takePulse (pairTarget n.val)).burstStart n.val) := by
  simp only [exec, execPairBurstTrigger, hpulse, hpresent, Bool.and_self, if_true]

theorem State.burstStart_missed (h : s.on Reg.IL_FLAGS.RUNNING k = true ∨ s.rd Reg.IL_FLAGS.CAL_ST k ≠ 0) :
    s.burstStart k = s.flag Reg.IL_FLAGS.MISS k := if_pos h.symm

/-- A pair that runs a burst of the length, acquisition and input that its registers name, before its first sample. -/
def State.burstOn (s : State) (k : Nat) : State :=
  ((s.setPair k { s.pair k with
      len := s.rd Reg.IL_BURST.BURST k, acq := s.rd Reg.IL_ACQ_X.ACQ k, ain := ainOf (2 * k) (s.rd Reg.IL_CTRL.MUX k) }).flag
    Reg.IL_FLAGS.RUNNING k).wr Reg.IL_STATUS.COUNT k 0

section
variable (hrun : s.on Reg.IL_FLAGS.RUNNING k = false) (hcal : s.rd Reg.IL_FLAGS.CAL_ST k = 0)
include hrun hcal

theorem State.burstStart_unarmed (harm : s.on Reg.IL_CTRL.ARM k = false) : s.burstStart k = s :=
  (if_neg (by simp [hrun, hcal])).trans (if_pos (by simp [harm]))

theorem State.burstStart_bad_length (harm : s.on Reg.IL_CTRL.ARM k = true)
    (h : s.rd Reg.IL_BURST.BURST k = 0 ∨ s.rd Reg.IL_CTRL.IL_BLKS k * 1024 < s.rd Reg.IL_BURST.BURST k) : s.burstStart k = s.pairErr k 1 :=
  (if_neg (by simp [hrun, hcal])).trans ((if_neg (by simp [harm])).trans (if_pos h))

theorem State.burstStart_accepted (harm : s.on Reg.IL_CTRL.ARM k = true) (hsome : 1 ≤ s.rd Reg.IL_BURST.BURST k)
    (hfit : s.rd Reg.IL_BURST.BURST k ≤ s.rd Reg.IL_CTRL.IL_BLKS k * 1024) :
    s.burstStart k = ((s.burstOn k).pairSample k 0 (2 * s.now)).pairSample k 1 (2 * s.now + s.rd Reg.IL_ACQ_X.ACQ k + 21) :=
  (if_neg (by simp [hrun, hcal])).trans ((if_neg (by simp [harm])).trans (if_neg (by omega)))

end

theorem State.len_burstOn (s : State) (k : Nat) : ((s.burstOn k).pair k).len = s.rd Reg.IL_BURST.BURST k :=
  congrArg PairS.len (State.pair_setPair_same _ _ _)

theorem State.pairs_pairSample (s : State) (k i start2 : Nat) : (s.pairSample k i start2).pairs = s.pairs := by
  obtain hnone | ⟨job, hjob⟩ := s.pairSample_cases k i start2
  · rw [hnone]
  · rw [hjob]
    rfl

theorem State.pair_pairSample (s : State) (k i start2 n : Nat) : (s.pairSample k i start2).pair n = s.pair n :=
  congrArg (SMap.get PairS.init · n) (s.pairs_pairSample k i start2)

/-- A sample leaves the registers of the pairs. -/
theorem State.rd_pairSample {f : FD} {i n m start2 : Nat} (hk : k < 16) (hblk : f.blk = 2) (hoff : 0x5000 ≤ f.off) :
    (s.pairSample k i start2).rd f n m = s.rd f n m := by
  obtain hnone | ⟨job, hjob⟩ := s.pairSample_cases k i start2
  · rw [hnone]
  · rw [hjob]
    exact State.rd_acquire_ne (FD.il_key_ne_busy_key (by omega) hblk hoff)

/-- The registers of a burst that has begun. -/
theorem State.burstOn_rd (s : State) (k : Nat) : (s.burstOn k).rd Reg.IL_FLAGS.RUNNING k = 1 ∧ (s.burstOn k).rd Reg.IL_STATUS.COUNT k = 0 := by
  unfold State.burstOn
  exact ⟨(State.rd_wr_ne (FD.key_ne_of_off (by decide))).trans (State.rd_flag rfl), State.rd_wr_of_lt (by decide)⟩

theorem State.onlyConverters_burstOn {ks : List Nat} (hrun : Reg.IL_FLAGS.RUNNING.key k 0 ∈ ks) (hcount : Reg.IL_STATUS.COUNT.key k 0 ∈ ks) :
    OnlyConverters s (s.burstOn k) ks := (((OnlyConverters.refl s ks).setPair k _).wr2 hrun).wr2 hcount

/-- The first two samples of a burst of two or more: both converters acquire. -/
theorem State.phase_firstSamples (h : 2 ≤ (s.pair k).len) (start2 start2' : Nat) :
    (((s.pairSample k 0 start2).pairSample k 1 start2').adc (2 * k)).phase = .acquiring ∧
      (((s.pairSample k 0 start2).pairSample k 1 start2').adc (2 * k + 1)).phase = .acquiring := by
  have heven : (s.pairSample k 0 start2).adc (2 * k) = { s.adc (2 * k) with
      phase := .acquiring, job := ⟨2, 0, (s.pair k).ain, start2, (s.pair k).acq, 0, 0, false⟩ } := by
    rw [State.pairSample_of_lt (by omega)]
    exact State.adc_acquire_same
  have hlen : 1 < ((s.pairSample k 0 start2).pair k).len := by
    rw [State.pair_pairSample]
    omega
  rw [State.pairSample_of_lt hlen]
  refine ⟨?_, ?_⟩
  · rw [State.adc_acquire_ne (by omega), heven]
  · exact congrArg AdcS.phase State.adc_acquire_same

/-- A burst that has come to its end: RUNNING falls, DONE is set, and CONT is noted for the next tick. -/
def State.endBurst (s : State) (k : Nat) : State :=
  ((s.wr Reg.IL_FLAGS.RUNNING k 0).flag Reg.IL_FLAGS.DONE k).setPair k { s.pair k with again := s.on Reg.IL_CTRL.CONT k }

theorem State.endBurst_spec (s : State) (k : Nat) :
    (s.endBurst k).rd Reg.IL_FLAGS.RUNNING k = 0 ∧ (s.endBurst k).rd Reg.IL_FLAGS.DONE k = 1 ∧
      OnlyRegs s { s.endBurst k with pairs := s.pairs } [Reg.IL_FLAGS.RUNNING.key k 0, Reg.IL_FLAGS.DONE.key k 0] := by
  have honly : OnlyRegs s ((s.wr Reg.IL_FLAGS.RUNNING k 0).flag Reg.IL_FLAGS.DONE k)
      [Reg.IL_FLAGS.RUNNING.key k 0, Reg.IL_FLAGS.DONE.key k 0] := ((OnlyRegs.refl s _).wr2 (by simp)).wr2 (by simp)
  refine ⟨?_, ?_, honly⟩
  · rw [State.endBurst, State.rd_setPair]
    exact (State.rd_wr_of_lo (by decide)).trans (State.rd_wr_of_lt (by decide))
  · rw [State.endBurst, State.rd_setPair]
    exact State.rd_flag rfl

theorem exec_pairBurstDone {n : Fin 16} (hrun : s.on Reg.IL_FLAGS.RUNNING n.val = true)
    (hcount : (s.pair n.val).len ≤ s.rd Reg.IL_STATUS.COUNT n.val) : exec (.pairBurstDone n) s = .next (s.endBurst n.val) := by
  have hcont : ((s.wr Reg.IL_FLAGS.RUNNING n.val 0).flag Reg.IL_FLAGS.DONE n.val).on Reg.IL_CTRL.CONT n.val = s.on Reg.IL_CTRL.CONT n.val :=
    (State.on_wr_of_lo (by decide)).trans (State.on_wr_of_lo (by decide))
  simp only [exec, execPairBurstDone, if_pos (And.intro hrun hcount), hcont]
  rfl

end

/-! ## Pair samples (R164) -/

section
variable {s t : State} {a v : Nat}

@[simp] theorem State.mem_eccWritten (s : State) (a n : Nat) : (s.eccWritten a n).mem = s.mem := by
  unfold State.eccWritten
  split <;> rfl

/-- What bytes a store leaves in memory depends on nothing but memory. -/
theorem State.mem_setBytes_congr (h : t.mem = s.mem) (a : Nat) (l : List Nat) : (t.setBytes a l).mem = (s.setBytes a l).mem := by
  induction l generalizing s t a with
  | nil => exact h
  | cons b l ih => exact ih (by simp only [State.setByte, h]) (a + 1)

theorem State.mem_setWord_congr (h : t.mem = s.mem) : (t.setWord a v).mem = (s.setWord a v).mem := by
  simp only [State.setWord, State.mem_eccWritten, State.setNum]
  exact State.mem_setBytes_congr h a _

theorem State.byte_of_mem {b : Nat} (h : t.mem = s.mem) : t.byte b = s.byte b := congrArg (fun m => (SMap.get (0 : BitVec 8) m b).toNat) h

/-- A stored word leaves the bytes around it. -/
theorem State.byte_setWord_ne {b : Nat} (h : b < a ∨ a + 4 ≤ b) : (s.setWord a v).byte b = s.byte b :=
  (State.byte_of_mem (State.mem_eccWritten _ _ _)).trans (State.byte_setBytes_ne _ s h)

/-- The end of a pair sample before its word is stored: the converter is idle, ADC_LAST and Rowan have the result. -/
def State.notePair (s : State) (adc ain w : Nat) (clip : Bool) : State :=
  (((s.release adc).onlyIf clip (·.flag Reg.ADC_STATUS.CLIP adc)).wr Reg.ADC_LAST.WORD adc w).keepAin ain w

theorem State.mem_notePair (s : State) (adc ain w : Nat) (clip : Bool) : (s.notePair adc ain w clip).mem = s.mem :=
  (State.keepAin_quiet (State.wr_quiet (State.onlyIf_quiet (State.release_quiet (Quiet.refl s)) fun _ => State.flag_quiet))).mem

/-- The end of a conversion leaves the first block of every pair. -/
theorem State.ilBase_release (s : State) (adc : Nat) (clip : Bool) (k : Nat) :
    ((s.release adc).onlyIf clip (·.flag Reg.ADC_STATUS.CLIP adc)).rd Reg.IL_CTRL.IL_BASE k = s.rd Reg.IL_CTRL.IL_BASE k :=
  (State.rd_onlyIf_flag_of_lo (by decide)).trans (State.rd_wr_of_lo (by decide))

/-- The word of a pair sample is stored, counted, and followed by the converter's next sample. -/
theorem State.eocPair_eq {adc : Nat} {r : AdcS} {clip : Bool} (hcorr : s.correct adc (rawCode r.nv) = (v, clip)) :
    ∃ count, s.eocPair adc r =
      (((s.notePair adc r.job.ain (resultWord false clip (adc % 2) 2 r.job.ain v) clip).setWord
        (0x49000000 + s.rd Reg.IL_CTRL.IL_BASE (adc / 2) * 0x1000 + 4 * r.job.src) (resultWord false clip (adc % 2) 2 r.job.ain v)).wr
          Reg.IL_STATUS.COUNT (adc / 2) count).pairSample (adc / 2) (r.job.src + 2) (r.smp2 + 42) := by
  simp only [State.eocPair, hcorr, State.notePair, State.ilBase_release]
  exact ⟨_, rfl⟩

/-- Of memory, the end of a pair sample changes word i of the pair's blocks alone. -/
theorem State.mem_eocPair {adc : Nat} {r : AdcS} {clip : Bool} (hcorr : s.correct adc (rawCode r.nv) = (v, clip)) :
    (s.eocPair adc r).mem = (s.setWord (0x49000000 + s.rd Reg.IL_CTRL.IL_BASE (adc / 2) * 0x1000 + 4 * r.job.src)
      (resultWord false clip (adc % 2) 2 r.job.ain v)).mem := by
  obtain ⟨count, heoc⟩ := State.eocPair_eq hcorr
  rw [heoc]
  exact (State.pairSample_quiet (State.wr_quiet (Quiet.refl _))).mem.trans (State.mem_setWord_congr (s.mem_notePair adc r.job.ain _ clip))

end

end Sys2Proof.Machine

open Sys2Proof Sys2Proof.Machine

/-! ## The obligations -/

/-- Settles O9, clause by clause from what an enable, a trigger, a start, an end of conversion and a calibration write. -/
theorem injectedAndCalibration : Obligations.InjectedAndCalibration := by
  refine ⟨fun m a k s hready hfree => ?granted, fun m a k s hready hheld => ?conflict, fun m a k s hready => ⟨fun hpend => ?miss,
      fun hpend hen => ?disabled, fun hpend hen hpair hrs hcal hidle => ?pends⟩, fun a k s hpulse hpresent => ⟨fun h => ?one, fun h => ?both⟩,
    fun a k s hpresent hslot => ?start, fun a s r v clip hpresent hr hphase htime hkind hcedar hcorr hnext => ?eoc,
    fun m a s hready => ⟨fun hclaimed => ?refused, fun hfree hcal => ?request⟩, fun a s hcal hidle h0 h1 => ?begin,
    fun a lo hi s hcal htime htrims => ?failed, fun a lo hi s g o hcal htime htrims hstore => ?passed⟩
  case granted =>
    have hexec := exec_injEnable (m := m) hready
    refine ⟨_, hexec, ?_, (exec_quiet rfl hexec).mem, ?_⟩
    · rw [State.injEnable_granted hfree]
      exact (State.rd_setResp _ _ _ _ _ _).trans (State.rd_wr2_same _ _ _ _ _)
    · rw [State.injEnable_granted hfree]
      exact ((OnlyRegs.takeFree_singleton (by omega) (by simp) (by simp)).wr2 (by simp)).setResp
  case conflict =>
    obtain ⟨hconflict, hres, honly⟩ := s.claimRefused_spec (0x200 + a.val) (s.injOwner a.val)
    rw [exec_injEnable hready, State.injEnable_refused hheld]
    exact ⟨_, rfl, hconflict, hres.trans (Nat.mod_eq_of_lt (by omega)), honly.setResp⟩
  case miss =>
    obtain ⟨hmiss, honly⟩ := s.trigMiss_spec a.val
    rw [exec_swtrig hready, State.injTrig_pending hpend]
    exact ⟨_, rfl, hmiss, honly.setResp⟩
  case disabled =>
    rw [exec_swtrig hready, State.injTrig_disabled hpend hen]
    exact ⟨_, rfl, (OnlyRegs.refl s _).setResp⟩
  case pends =>
    rw [exec_swtrig hready, State.injTrig_idle hpend hen hpair hrs hcal hidle]
    exact ⟨_, rfl, State.rd_flag (injPend_w k.val), ((OnlyRegs.refl s _).wr2 (by simp)).setResp⟩
  case one => exact exec_injTrigger_one hpulse hpresent h
  case both =>
    obtain ⟨hk, hsame⟩ := h
    rw [exec_injTrigger_both hpulse hpresent hk hsame, hk]
    rfl
  case start =>
    obtain ⟨hpend, hbusy, hphase, hkind, hsrc, honly⟩ := s.startSlot_spec a.val k.val
    exact ⟨_, exec_injSlotStart hpresent hslot, hpend, hbusy, hphase, hkind, hsrc, honly.of_pairs rfl⟩
  case eoc =>
    subst hr
    obtain ⟨hlast, hres, hbusy, hidle, hpairs, honly⟩ :=
      s.keepInj_spec a.val (s.adc a.val).job.src (resultWord false clip (s.adc a.val).job.src 1 (s.adc a.val).job.ain v) clip
    rw [exec_adcEoc_inj hpresent hphase htime hkind, State.eocInj_unsent hcedar hcorr hnext]
    exact ⟨_, rfl, hlast, hres, hbusy, hidle, honly.of_pairs hpairs⟩
  case refused =>
    rw [exec_calStart hready, State.calStart_refused hclaimed]
    exact ⟨_, rfl, State.rd_flag (f := Reg.ADC_STATUS.CAL_ERR) rfl, ((OnlyRegs.refl s _).wr2 (by simp)).setResp⟩
  case request =>
    rw [exec_calStart hready, State.calStart_accepted hfree hcal]
    refine ⟨_, rfl, (State.rd_setResp _ _ _ _ _ _).trans ((State.rd_wr_of_lo (by decide)).trans (State.rd_wr_of_lt (by decide))),
      congrArg AdcS.pre0 (s.adc_setAdc_same a.val _), ?_⟩
    exact ((((OnlyConverters.refl s _).setAdc _ _).wr2 (by simp)).wr2 (by simp)).setResp.of_pairs rfl
  case begin =>
    refine ⟨_, exec_adcCalBegin hcal hidle h0 h1, (State.rd_wr_of_lo (by decide)).trans (State.rd_wr_of_lt (by decide)),
      s.adc_setAdc_same a.val _, State.rd_flag rfl, ?_⟩
    exact ((((OnlyConverters.refl s _).setAdc _ _).wr2 (by simp)).wr2 (by simp)).of_pairs rfl
  case failed =>
    obtain ⟨hbusy, hst⟩ := s.calEnd_rd a.val
    refine ⟨_, exec_adcCalDone_failed hcal htime htrims, (State.rd_wr_of_lo (by decide)).trans (State.rd_flag rfl),
      (State.rd_wr_of_lo (by decide)).trans ((State.rd_wr_of_lo (by decide)).trans hbusy), State.rd_flag rfl,
      (State.rd_wr_of_lo (by decide)).trans ((State.rd_wr_of_lo (by decide)).trans hst), ?_⟩
    exact (((OnlyRegs.refl s _).calEnd (by simp [calEndKeys])).wr2 (by simp)).wr2 (by simp)
  case passed =>
    set u := (s.wrI Reg.ADC_TRIM.GAIN_TRIM a.val g).wrI Reg.ADC_TRIM.OFS_TRIM a.val o
    obtain ⟨hbusy, -⟩ := u.calEnd_rd a.val
    refine ⟨_, exec_adcCalDone_passed hcal htime htrims hstore, State.rd_flag rfl, (State.rd_wr_of_lo (by decide)).trans hbusy, ?_, ?_, ?_⟩
    · calc _ = (u.calEnd a.val).rd Reg.ADC_TRIM.GAIN_TRIM a.val := State.rd_wr_of_lo (by decide)
        _ = u.rd Reg.ADC_TRIM.GAIN_TRIM a.val := State.rd_calEnd_trim rfl rfl rfl
        _ = (s.wrI Reg.ADC_TRIM.GAIN_TRIM a.val g).rd Reg.ADC_TRIM.GAIN_TRIM a.val := State.rd_wr_of_lo (by decide)
        _ = _ := State.rd_wr2_same _ _ _ _ _
    · calc _ = (u.calEnd a.val).rd Reg.ADC_TRIM.OFS_TRIM a.val := State.rd_wr_of_lo (by decide)
        _ = u.rd Reg.ADC_TRIM.OFS_TRIM a.val := State.rd_calEnd_trim rfl rfl rfl
        _ = _ := State.rd_wr2_same _ _ _ _ _
    · exact ((((OnlyRegs.refl s _).wr2 (by simp)).wr2 (by simp)).calEnd (by simp [calEndKeys])).wr2 (by simp)

/-- Settles O10, clause by clause from what arming, a burst and the end of a pair sample write. -/
theorem interleavedPairs : Obligations.InterleavedPairs := by
  refine ⟨fun m k s hready harm hen hblks => ?badBlocks, fun m k s hready hen harm => ?armed, fun m k s hready hen => ?disabled,
    fun m k s o hready harm hen hsome hlast howner hfree => ?arms,
    fun m k s hready => ⟨fun hbusy => ?miss, fun hrun hcal harm => ?unarmed, fun harm hrun hcal hlen => ?badLength⟩,
    fun m k s hready harm hrun hcal htwo hfit => ?burst, fun k s hpulse hpresent => exec_pairBurstTrigger hpulse hpresent,
    fun k s hrun hcount => ?done, fun a s r v clip hpresent hr hphase htime hkind hcorr => ?eoc⟩
  case badBlocks =>
    obtain ⟨herr, hcode, honly⟩ := s.pairErr_spec k.val (code := 2) (by decide)
    rw [exec_ilArm hready, State.pairArm_bad_blocks hen harm hblks]
    exact ⟨_, rfl, herr, hcode, honly.setResp⟩
  case armed =>
    rw [exec_ilArm hready, State.pairArm_armed hen harm]
    exact ⟨_, rfl, (OnlyRegs.refl s _).setResp⟩
  case disabled =>
    obtain ⟨herr, hcode, honly⟩ := s.pairErr_spec k.val (code := 0) (by decide)
    rw [exec_ilArm hready, State.pairArm_disabled hen]
    exact ⟨_, rfl, herr, hcode, honly.setResp⟩
  case arms =>
    have hexec := exec_ilArm (m := m) hready
    refine ⟨_, hexec, ?_, (exec_quiet rfl hexec).mem⟩
    rw [State.pairArm_granted hen harm hsome hlast howner hfree]
    exact State.rd_flag (f := Reg.IL_CTRL.ARM) rfl
  case miss =>
    rw [exec_pairSwstart hready, State.burstStart_missed hbusy]
    exact ⟨_, rfl, State.rd_flag (f := Reg.IL_FLAGS.MISS) rfl, ((OnlyRegs.refl s _).wr2 (by simp)).setResp⟩
  case unarmed =>
    rw [exec_pairSwstart hready, State.burstStart_unarmed hrun hcal harm]
    exact ⟨_, rfl, (OnlyRegs.refl s _).setResp⟩
  case badLength =>
    obtain ⟨herr, hcode, honly⟩ := s.pairErr_spec k.val (code := 1) (by decide)
    rw [exec_pairSwstart hready, State.burstStart_bad_length hrun hcal harm hlen]
    exact ⟨_, rfl, herr, hcode, honly.setResp⟩
  case burst =>
    obtain ⟨hrunning, hcount⟩ := s.burstOn_rd k.val
    obtain ⟨heven, hodd⟩ := State.phase_firstSamples (htwo.trans_eq (s.len_burstOn k.val).symm) (2 * s.now)
      (2 * s.now + s.rd Reg.IL_ACQ_X.ACQ k.val + 21)
    rw [exec_pairSwstart hready, State.burstStart_accepted hrun hcal harm (by omega) hfit]
    refine ⟨_, rfl, ?_, ?_, ?_, heven, hodd, ?_⟩
    · rw [State.ack_eq, State.rd_setResp, State.rd_pairSample k.isLt rfl (by decide), State.rd_pairSample k.isLt rfl (by decide), hrunning]
    · rw [State.ack_eq, State.rd_setResp, State.rd_pairSample k.isLt rfl (by decide), State.rd_pairSample k.isLt rfl (by decide), hcount]
    · calc _ = ((s.burstOn k.val).pair k.val).len :=
          congrArg PairS.len ((State.pair_pairSample _ _ _ _ _).trans (State.pair_pairSample _ _ _ _ _))
        _ = _ := s.len_burstOn k.val
    · exact (((State.onlyConverters_burstOn (by simp) (by simp)).pairSample (by simp) _).pairSample (by simp) _).setResp
  case done =>
    obtain ⟨hrunning, hdone, honly⟩ := s.endBurst_spec k.val
    exact ⟨_, exec_pairBurstDone hrun hcount, hrunning, hdone, State.pair_setPair_same _ _ _, fun n hn => State.pair_setPair_ne _ _ hn, honly⟩
  case eoc =>
    subst hr
    have hmem := State.mem_eocPair hcorr
    exact ⟨_, exec_adcEoc_pair hpresent hphase htime hkind, hmem, fun b hb => (State.byte_of_mem hmem).trans (State.byte_setWord_ne hb)⟩

end

section
/-! PROOFS. The statement of spec/07_isolated_sensing.md: outputs, overload, enables and calibration of the isolated channels. -/

namespace Sys2Proof.Machine

/-! ## Frames with the records of the channels -/

/-- Nothing differs but the fields under the listed keys, the answers to the bus masters, and the records of the isolated channels. -/
def OnlyIso (s t : State) (ks : List Nat) : Prop := OnlyRegs s { t with isos := s.isos } ks

section
variable {s t : State} {ks : List Nat}

theorem OnlyRegs.mono {ls : List Nat} (h : OnlyRegs s t ks) (hsub : ks ⊆ ls) : OnlyRegs s t ls := ⟨h.regs.mono hsub, h.rest⟩

theorem OnlyRegs.onlyIso (h : OnlyRegs s t ks) : OnlyIso s t ks :=
  ⟨h.regs.of_eq rfl, congrArg (fun u : State => { u with isos := s.isos }) h.rest⟩

theorem OnlyIso.refl (s : State) (ks : List Nat) : OnlyIso s s ks := OnlyRegs.refl s ks

theorem OnlyIso.wr2 (h : OnlyIso s t ks) {f : FD} {i j v : Nat} (hk : f.key i j ∈ ks) : OnlyIso s (t.wr2 f i j v) ks := OnlyRegs.wr2 h hk

theorem OnlyIso.setResp (h : OnlyIso s t ks) {m : Master} {r : Resp} : OnlyIso s (t.setResp m r) ks := OnlyRegs.setResp h

theorem OnlyIso.setIso (h : OnlyIso s t ks) (n : Nat) (r : IsoS) : OnlyIso s (t.setIso n r) ks := h

theorem OnlyIso.isoCount (h : OnlyIso s t ks) (n dec : Nat) : OnlyIso s (t.isoCount n dec) ks := h

/-- The frame as the statements give it. -/
theorem OnlyIso.frame (h : OnlyIso s t ks) : OnlyRegs s { t with isos := s.isos } ks := h

theorem OnlyIso.wrIf (h : OnlyIso s t ks) {b : Bool} {f : FD} {i v : Nat} (hk : f.key i 0 ∈ ks) : OnlyIso s (t.onlyIf b (·.wr f i v)) ks := by
  cases b
  · exact h
  · exact h.wr2 hk

/-- A new record of one channel changes neither the other channels nor any register. -/
theorem State.setIso_spec (s : State) (c : Nat) (r : IsoS) :
    (s.setIso c r).iso c = r ∧ (∀ k, k ≠ c → (s.setIso c r).iso k = s.iso k) ∧ OnlyRegs s { s.setIso c r with isos := s.isos } [] :=
  ⟨s.iso_setIso_same c r, fun _ hk => s.iso_setIso_ne r hk, ((OnlyIso.refl s []).setIso c r).frame⟩

end

/-- A write under a condition leaves the fields under every other key as they were. -/
theorem State.rd_onlyIf_wr_ne {s : State} {b : Bool} {f g : FD} {i j k v : Nat} (h : g.key j k ≠ f.key i 0) :
    (s.onlyIf b (·.wr f i v)).rd g j k = s.rd g j k := by
  cases b
  · rfl
  · exact State.rd_wr_ne h

/-! ## The claim of a channel -/

/-- The fields of the claim register of a resource. -/
def claimKeys (id : Nat) : List Nat := [Reg.CLAIM.STATE.key id 0, Reg.CLAIM.OWNER.key id 0]

section
variable {s t : State} {c id owner : Nat}

/-- The claim registers lie behind the registers of the channels. -/
theorem FD.iso_key_not_mem_claimKeys (hc : c < 8) {f : FD} (hf : f.blk = 3 ∧ f.s1 = 0x40 ∧ f.off < 0x9000 ∧ f.lo < 32) :
    f.key c 0 ∉ claimKeys id := by
  obtain ⟨hblk, hs1, hoff, hlo⟩ := hf
  simp only [claimKeys, List.mem_cons, List.not_mem_nil, or_false, FD.key, FD.addr, hblk, hs1, Reg.CLAIM.STATE, Reg.CLAIM.OWNER]
  omega

/-- A release of a resource that is no land shows in its claim register alone. -/
theorem OnlyRegs.releaseClaims_singleton {ks : List Nat} (h : OnlyRegs s t ks) (hland : id / 256 ≠ 0xA) (hks : claimKeys id ⊆ ks) :
    OnlyRegs s (t.releaseClaims owner [id]) ks := by
  simp only [State.releaseClaims, foldEach]
  split
  · exact h.setClaim hland (hks (by simp [claimKeys])) (hks (by simp [claimKeys])) 0
  · exact h

theorem State.onlyRegs_takeFree_channel (s : State) (hc : c < 8) (owner : Nat) :
    OnlyRegs s (s.takeFree owner [0x400 + c]) (claimKeys (0x400 + c)) :=
  OnlyRegs.takeFree_singleton (by omega) (by simp [claimKeys]) (by simp [claimKeys])

theorem State.onlyRegs_release_channel (s : State) (hc : c < 8) (owner : Nat) :
    OnlyRegs s (s.releaseClaims owner [0x400 + c]) (claimKeys (0x400 + c)) :=
  (OnlyRegs.refl s _).releaseClaims_singleton (by omega) (List.Subset.refl _)

end

/-! ## The output count (R174) -/

theorem State.iso_isoCount (s : State) (c dec : Nat) :
    (s.isoCount c dec).iso c = { s.iso c with base := s.now, settle := 3, bits := [], dec := dec } := State.iso_setIso_same _ _ _

theorem State.iso_ack (s : State) (m : Master) (c : Nat) : (s.ack m).iso c = s.iso c := rfl

theorem State.rd_isoCount (s : State) (c dec : Nat) (f : FD) (i j : Nat) : (s.isoCount c dec).rd f i j = s.rd f i j := rfl

/-- EN becomes 1 with no calibration running. -/
theorem State.isoStart_uncalibrated {s : State} {c : Nat} (h : s.rd Reg.ISO_STATUS.CAL_ST c ≠ 1) :
    s.isoStart c = (s.flag Reg.ISO_CTRL.EN c).isoRestart c := if_neg h

/-! ## Outputs (R173, R177, R178) -/

theorem b2n_lt_two (b : Bool) : b2n b < 2 := by cases b <;> decide

section
variable {s : State} {c : Nat}

/-- The filter sum of the window that ends with the bits of an output (R173). -/
def State.isoSum (s : State) (c : Nat) (new : List Bool) : Int :=
  sincSum (2 ^ (4 + (s.iso c).dec)) ((new.reverse ++ (s.iso c).bits).take (3 * 2 ^ (4 + (s.iso c).dec)))

/-- The registers that show an output beside its word: the microvolts, the reason, SETTLE and VALID. -/
def State.isoShow (s : State) (c uv reason : Nat) (settle : Bool) : State :=
  (((s.wr Reg.ISO_UV.UV c uv).wr Reg.ISO_STATUS.REASON c reason).wr Reg.ISO_STATUS.SETTLE c (b2n settle)).wr Reg.ISO_STATUS.VALID c
    (b2n (reason == 0))

/-- An output with OVR is flagged and counted. -/
def State.isoCountOvr (s : State) (c : Nat) (ovr : Bool) : State :=
  if ovr then (s.flag Reg.ISO_STATUS.OVR c).bump Reg.ISO_STATUS.OVR_CNT c else s

/-- The word of an output enters the sample link where Cedar takes it. -/
def State.isoSend (s : State) (c w : Nat) : State := if s.on Reg.ISO_CTRL.CEDAR c then s.sendLink ⟨2, c, 0, w⟩ else s

/-- The fields that an output may write. -/
def isoOutKeys (c : Nat) : List Nat :=
  [Reg.ISO_RESULT.WORD.key c 0, Reg.ISO_UV.UV.key c 0, Reg.ISO_STATUS.REASON.key c 0, Reg.ISO_STATUS.SETTLE.key c 0,
    Reg.ISO_STATUS.VALID.key c 0, Reg.ISO_STATUS.OVR.key c 0, Reg.ISO_STATUS.OVR_CNT.key c 0]

theorem State.regs_wr_congr {t : State} (h : t.regs = s.regs) {f : FD} {i v : Nat} : (t.wr f i v).regs = (s.wr f i v).regs := by
  simp only [State.wr, State.wr2, h]

/-- The sums of a calibration are no registers. -/
theorem State.regs_onlyIf_isoCalStep (s : State) (b : Bool) (c : Nat) (sum : Int) : (s.onlyIf b (·.isoCalStep c sum)).regs = s.regs := by
  cases b <;> rfl

/-- A word that leaves on the sample link writes no register. -/
theorem State.regs_isoSend (s : State) (c w : Nat) : (s.isoSend c w).regs = s.regs := by
  unfold State.isoSend State.sendLink
  split
  · split <;> rfl
  · rfl

theorem State.rd_isoSend (s : State) (c w : Nat) (f : FD) (i j : Nat) : (s.isoSend c w).rd f i j = s.rd f i j :=
  congrArg (SMap.get (f.rst i j) · (f.key i j)) (s.regs_isoSend c w)

theorem State.rd_isoCountOvr {f : FD} {i : Nat} (hovr : f.lo % 32 ≠ 6) (hcnt : f.lo % 32 ≠ 24) (ovr : Bool) :
    (s.isoCountOvr c ovr).rd f i = s.rd f i := by
  cases ovr
  · rfl
  · exact (State.rd_wr_of_lo hcnt).trans (State.rd_wr_of_lo hovr)

theorem State.regsBut_isoCountOvr (s : State) (c : Nat) (ovr : Bool) : RegsBut s (s.isoCountOvr c ovr) (isoOutKeys c) := by
  cases ovr
  · exact RegsBut.refl s _
  · exact ((RegsBut.refl s _).wr2 (by simp [isoOutKeys])).wr2 (by simp [isoOutKeys])

theorem State.regsBut_isoShow (s : State) (c uv reason : Nat) (settle : Bool) : RegsBut s (s.isoShow c uv reason settle) (isoOutKeys c) :=
  ((((RegsBut.refl s _).wr2 (by simp [isoOutKeys])).wr2 (by simp [isoOutKeys])).wr2 (by simp [isoOutKeys])).wr2 (by simp [isoOutKeys])

theorem State.rd_isoShow (s : State) (c uv reason : Nat) (settle : Bool) :
    (s.isoShow c uv reason settle).rd Reg.ISO_RESULT.WORD c = s.rd Reg.ISO_RESULT.WORD c ∧
      (s.isoShow c uv reason settle).rd Reg.ISO_STATUS.REASON c = reason % 2 ^ 3 ∧
      (s.isoShow c uv reason settle).rd Reg.ISO_STATUS.VALID c = b2n (reason == 0) := by
  refine ⟨?_, ?_, State.rd_wr_of_lt (b2n_lt_two _)⟩
  · exact (State.rd_wr_ne (FD.key_ne_of_off (by decide))).trans ((State.rd_wr_of_lo (by decide)).trans ((State.rd_wr_of_lo (by decide)).trans
      (State.rd_wr_ne (FD.key_ne_of_off (by decide)))))
  · exact (State.rd_wr_of_lo (by decide)).trans ((State.rd_wr_of_lo (by decide)).trans (State.rd_wr2_same _ _ _ _ _))

/-- An output of a filter whose window gives `code`: its word is written first, then what shows it, OVR and its count; last it is sent. -/
theorem State.isoEmit_eq {new : List Bool} {code : Int} {clamp : Bool}
    (h : s.isoCode c (2 ^ (4 + (s.iso c).dec)) (s.isoSum c new) = (code, clamp)) {w : Nat}
    (hw : w = isoWord (s.isoReason c ≠ 0) (clamp || (s.iso c).ovl) (0 < (s.iso c).settle) c code) :
    ∃ (u : State) (uv : Nat), u.regs = (s.wr Reg.ISO_RESULT.WORD c w).regs ∧
      s.isoEmit c new =
        ((u.isoShow c uv (s.isoReason c) (0 < (s.iso c).settle)).isoCountOvr c (clamp || (s.iso c).ovl)).isoSend c w := by
  subst hw
  simp only [State.isoSum] at h
  simp only [State.isoEmit, h]
  refine ⟨_, _, ?_, rfl⟩
  exact State.regs_wr_congr (State.regs_onlyIf_isoCalStep _ _ _ _)

theorem State.isoEmit_spec {new : List Bool} {code : Int} {clamp : Bool}
    (h : s.isoCode c (2 ^ (4 + (s.iso c).dec)) (s.isoSum c new) = (code, clamp)) :
    (s.isoEmit c new).rd Reg.ISO_RESULT.WORD c =
        isoWord (s.isoReason c ≠ 0) (clamp || (s.iso c).ovl) (0 < (s.iso c).settle) c code % 2 ^ 32 ∧
      (s.isoEmit c new).rd Reg.ISO_STATUS.REASON c = s.isoReason c % 2 ^ 3 ∧
      (s.isoEmit c new).rd Reg.ISO_STATUS.VALID c = b2n (s.isoReason c == 0) ∧ RegsBut s (s.isoEmit c new) (isoOutKeys c) := by
  obtain ⟨u, uv, hregs, hemit⟩ := State.isoEmit_eq h rfl
  obtain ⟨hword, hreason, hvalid⟩ := u.rd_isoShow c uv (s.isoReason c) (0 < (s.iso c).settle)
  rw [hemit]
  refine ⟨?_, ?_, ?_, ?_⟩
  · rw [State.rd_isoSend, State.rd_isoCountOvr (by decide) (by decide), hword]
    exact (congrArg (SMap.get _ · _) hregs).trans (State.rd_wr2_same _ _ _ _ _)
  · rw [State.rd_isoSend, State.rd_isoCountOvr (by decide) (by decide), hreason]
  · rw [State.rd_isoSend, State.rd_isoCountOvr (by decide) (by decide), hvalid]
  · have hu : RegsBut s u (isoOutKeys c) := ((RegsBut.refl s _).wr2 (by simp [isoOutKeys])).of_eq hregs
    exact ((hu.trans (State.regsBut_isoShow _ _ _ _ _)).trans (State.regsBut_isoCountOvr _ _ _)).of_eq (State.regs_isoSend _ _ _)

theorem exec_isoOutput_due {ch : Fin 8} {bits : List Bool} (hpresent : s.present islISF = true) (hruns : s.isoRuns ch.val = true)
    (hlen : bits.length = 2 ^ (4 + (s.iso ch.val).dec)) (hdue : (s.iso ch.val).base + isoPeriod (s.iso ch.val).dec ≤ s.now) :
    exec (.isoOutput ch bits) s = .next (s.isoEmit ch.val bits) := by
  simp [exec, execIsoOutput, hpresent, hruns, hlen, hdue]

theorem exec_isoOutput_none {ch : Fin 8} {bits : List Bool}
    (h : s.isoRuns ch.val = false ∨ bits.length ≠ 2 ^ (4 + (s.iso ch.val).dec) ∨ s.present islISF = false) :
    exec (.isoOutput ch bits) s = .next s := by
  rcases h with h | h | h <;> simp [exec, execIsoOutput, h]

end

/-! ## Enables (R179) -/

section
variable {s : State} {c : Nat}

theorem exec_isoEnable {m : Master} {ch : Fin 8} {on : Bool} (h : s.ready (Reg.ISO_CTRL.EN.addr ch.val 0) = true) :
    exec (.isoEnable m ch on) s = .next ((s.isoSetEn ch.val on).ack m) := congrArg Host.Outcome.next (State.winWrite_ready h)

/-- An enable whose claim is free or held already sets EN and, with no calibration running, restarts the output count. -/
theorem State.isoSetEn_granted {o : Nat} (hc : c < 8) (hen : s.on Reg.ISO_CTRL.EN c = false) (hcal : s.rd Reg.ISO_STATUS.CAL_ST c ≠ 1)
    (ho : o = if s.claimState (0x400 + c) = 0 then 0x2A else s.claimOwner (0x400 + c)) (hfree : s.claimBlock o [0x400 + c] = none) :
    s.isoSetEn c true = ((s.takeFree o [0x400 + c]).flag Reg.ISO_CTRL.EN c).isoRestart c := by
  subst ho
  have hregs := (s.onlyRegs_takeFree_channel hc (if s.claimState (0x400 + c) = 0 then 0x2A else s.claimOwner (0x400 + c))).regs
  have hcal' := hregs.rd_eq (f := Reg.ISO_STATUS.CAL_ST) (FD.iso_key_not_mem_claimKeys hc (by decide))
  have hen' := hregs.rd_eq (f := Reg.ISO_CTRL.EN) (FD.iso_key_not_mem_claimKeys hc (by decide))
  simp only [State.isoSetEn, if_true, State.claimAll_granted hfree]
  rw [State.on_eq, hen', ← State.on_eq, hen, State.isoStart_uncalibrated (hcal' ▸ hcal)]
  rfl

theorem State.isoSetEn_denied (h : s.isoOfRowan c = true) : s.isoSetEn c false = s.flag Reg.ISO_STATUS.EN_DENIED c := by
  simp [State.isoSetEn, h]

theorem State.isoSetEn_off (h : s.isoOfRowan c = false) :
    s.isoSetEn c false = ((s.wr Reg.ISO_CTRL.EN c 0).wr Reg.ISO_STATUS.VALID c 0).releaseClaims 0x2A [0x400 + c] := by
  simp [State.isoSetEn, h]

end

/-! ## Calibration (R180, R181) -/

section
variable {s : State} {c : Nat}

theorem exec_isoCalStart {m : Master} {ch : Fin 8} (h : s.ready (Reg.ISO_CTRL.CAL_START.addr ch.val 0) = true) :
    exec (.isoCalStart m ch) s = .next ((s.isoCalStart ch.val).ack m) := congrArg Host.Outcome.next (State.winWrite_ready h)

theorem State.isoCalStart_refused
    (h : (s.claimedByEnabled (0x400 + c) || (s.claimState (0x400 + c) ≠ 0 && s.claimOwner (0x400 + c) == 0x28 && s.safeEnabled)) = true) :
    s.isoCalStart c = s.flag Reg.ISO_STATUS.CAL_ERR c := if_pos h

/-- The record of a channel as its calibration begins: at ratio 256, its own ratio kept for the end. -/
def IsoS.calibrating (r : IsoS) (now : Nat) : IsoS :=
  { r with base := now, settle := 3, bits := [], dec := 4, own := r.dec, calN := 0, calShort := 0, calRef := 0 }

theorem State.isoCalStart_accepted
    (h : (s.claimedByEnabled (0x400 + c) || (s.claimState (0x400 + c) ≠ 0 && s.claimOwner (0x400 + c) == 0x28 && s.safeEnabled)) = false)
    (hcal : s.rd Reg.ISO_STATUS.CAL_ST c = 0) :
    s.isoCalStart c = ((((s.wr Reg.ISO_STATUS.CAL_ST c 1).flag Reg.ISO_CTRL.CAL_START c).isoCount c 4).setIso c
      ((s.iso c).calibrating s.now)) := by
  have hiso := ((s.wr Reg.ISO_STATUS.CAL_ST c 1).flag Reg.ISO_CTRL.CAL_START c).iso_isoCount c 4
  rw [State.isoCalStart, if_neg (by rw [h]; decide), if_neg (by simp [hcal])]
  dsimp only
  rw [hiso]
  rfl

/-- The fields that the end of a calibration clears. -/
def isoCalEndKeys (c : Nat) : List Nat :=
  [Reg.ISO_STATUS.CAL_ST.key c 0, Reg.ISO_CTRL.CAL_START.key c 0, Reg.ISO_STATUS.VALID.key c 0]

theorem OnlyIso.isoCalEnd {t : State} {ks : List Nat} (h : OnlyIso s t ks) (hks : isoCalEndKeys c ⊆ ks) : OnlyIso s (t.isoCalEnd c) ks :=
  (((h.wr2 (hks (by simp [isoCalEndKeys]))).wr2 (hks (by simp [isoCalEndKeys]))).isoCount _ _).wrIf (hks (by simp [isoCalEndKeys]))

/-- The channel counts afresh at its own ratio. -/
theorem State.iso_isoCalEnd (s : State) (c : Nat) :
    (s.isoCalEnd c).iso c = { s.iso c with base := s.now, settle := 3, bits := [], dec := (s.iso c).own } := by
  unfold State.isoCalEnd
  cases s.on Reg.ISO_CTRL.EN c <;> exact State.iso_isoCount _ _ _

theorem State.rd_calSt_isoCalEnd (s : State) (c : Nat) : (s.isoCalEnd c).rd Reg.ISO_STATUS.CAL_ST c = 0 :=
  (State.rd_onlyIf_wr_ne (FD.key_ne_of_lo (by decide))).trans ((State.rd_isoCount _ _ _ _ _ _).trans
    ((State.rd_wr_ne (FD.key_ne_of_off (by decide))).trans (State.rd_wr_of_lt (by decide))))

/-- The end of a calibration leaves the trims of its channel. -/
theorem State.rd_isoCalEnd_trim {f : FD} (hf : f.blk = 3 ∧ f.s1 = 0x40 ∧ f.off = 0x8004) : (s.isoCalEnd c).rd f c = s.rd f c := by
  obtain ⟨hblk, hs1, hoff⟩ := hf
  have hne {g : FD} (hg : g.blk = 3 ∧ g.s1 = 0x40 ∧ g.off < 0x10 ∧ g.lo < 32) : f.key c 0 ≠ g.key c 0 := by
    obtain ⟨hgblk, hgs1, hgoff, hglo⟩ := hg
    simp only [FD.key, FD.addr, hblk, hs1, hoff, hgblk, hgs1]
    omega
  exact (State.rd_onlyIf_wr_ne (hne (by decide))).trans ((State.rd_isoCount _ _ _ _ _ _).trans
    ((State.rd_wr_ne (hne (by decide))).trans (State.rd_wr_ne (hne (by decide)))))

/-- A channel takes the trims that its calibration has found. -/
def State.isoTrimmed (s : State) (c : Nat) (g o : Int) : State := (s.wrI Reg.ISO_TRIM.GAIN_TRIM c g).wrI Reg.ISO_TRIM.OFS_TRIM c o

theorem State.isoCal_of_calSt (h : s.rd Reg.ISO_STATUS.CAL_ST c = 1) : s.isoCal c = true := by simp [State.isoCal, h]

section
variable {ch : Fin 8} (hcal : s.rd Reg.ISO_STATUS.CAL_ST ch.val = 1) (hn : 134 ≤ (s.iso ch.val).calN)
include hcal hn

theorem exec_isoCalDone_failed (h : s.isoCalTrims ch.val = none) :
    exec (.isoCalDone ch (s.iso ch.val).calShort (s.iso ch.val).calRef) s =
      .next ((s.isoCalEnd ch.val).flag Reg.ISO_STATUS.CAL_ERR ch.val) := by
  simp only [exec, execIsoCalDone, State.isoCal_of_calSt hcal, hn, and_self, if_true, h]

theorem exec_isoCalDone_passed {g o : Int} (h : s.isoCalTrims ch.val = some (g, o))
    (hstore : s.on Reg.ISO_CTRL.CAL_STORE ch.val = false) :
    exec (.isoCalDone ch (s.iso ch.val).calShort (s.iso ch.val).calRef) s =
      .next (((s.isoTrimmed ch.val g o).isoCalEnd ch.val).flag Reg.ISO_STATUS.CAL_DONE ch.val) := by
  have hstore' : (s.isoTrimmed ch.val g o).on Reg.ISO_CTRL.CAL_STORE ch.val = false :=
    (State.on_wr_of_lo (by decide)).trans ((State.on_wr_of_lo (by decide)).trans hstore)
  simp only [State.isoTrimmed] at hstore'
  simp only [exec, execIsoCalDone, State.isoCal_of_calSt hcal, hn, and_self, if_true, h, hstore', Bool.false_eq_true, if_false,
    State.isoTrimmed]

end

end

end Sys2Proof.Machine

open Sys2Proof Sys2Proof.Machine

/-! ## The obligation -/

/-- Settles O12, clause by clause from what an output, an overload, an enable and a calibration write. -/
theorem isolatedChannels : Obligations.IsolatedChannels := by
  refine ⟨fun c bits s hpresent hruns hlen hdue => ?emits, fun c bits s code clamp hpresent hruns hlen hdue hcode => ?shows,
    fun c bits s h => exec_isoOutput_none h, fun c s => ⟨⟨_, rfl, s.setIso_spec _ _⟩, ⟨_, rfl, s.setIso_spec _ _⟩⟩, fun m c s o hready hen hcal ho hfree => ?enable,
    fun m c s hready => ⟨fun hrowan => ?denied, fun hrowan => ?disable⟩,
    fun m c s hready => ⟨fun hclaimed => ?refused, fun hfree hcal => ?begins⟩,
    fun c s hcal hn htrims => ?failed, fun c s g o hcal hn htrims hstore => ?passed⟩
  case emits =>
    have hexec := exec_isoOutput_due hpresent hruns hlen hdue
    exact ⟨hexec, (exec_quiet rfl hexec).mem⟩
  case shows =>
    obtain ⟨hword, hreason, hvalid, hregs⟩ := State.isoEmit_spec hcode
    exact ⟨_, exec_isoOutput_due hpresent hruns hlen hdue, hword, hreason, hvalid, hregs⟩
  case enable =>
    have hclaim := s.onlyRegs_takeFree_channel c.isLt o
    set u := (s.takeFree o [0x400 + c.val]).flag Reg.ISO_CTRL.EN c.val
    have hcount := u.iso_isoCount c.val (u.decSel c.val)
    rw [exec_isoEnable hready, State.isoSetEn_granted c.isLt hen hcal ho hfree]
    refine ⟨_, rfl, ?_, ?_, ?_, ?_⟩
    · exact State.rd_flag (s := s.takeFree o [0x400 + c.val]) (f := Reg.ISO_CTRL.EN) rfl
    · exact congrArg IsoS.settle hcount
    · exact (congrArg IsoS.base hcount).trans (congrArg (fun t : State => t.now) hclaim.rest :)
    · have hkeys : claimKeys (0x400 + c.val) ⊆ Reg.ISO_CTRL.EN.key c.val 0 :: claimKeys (0x400 + c.val) := List.subset_cons_self _ _
      exact (((hclaim.mono hkeys).onlyIso.wr2 (by simp)).isoCount _ _).setResp.frame
  case denied =>
    rw [exec_isoEnable hready, State.isoSetEn_denied hrowan]
    exact ⟨_, rfl, State.rd_flag (f := Reg.ISO_STATUS.EN_DENIED) rfl, ((OnlyRegs.refl s _).wr2 (by simp)).setResp⟩
  case disable =>
    set u := (s.wr Reg.ISO_CTRL.EN c.val 0).wr Reg.ISO_STATUS.VALID c.val 0
    have hregs := (u.onlyRegs_release_channel c.isLt 0x2A).regs
    rw [exec_isoEnable hready, State.isoSetEn_off hrowan]
    refine ⟨_, rfl, ?_, ?_, ?_⟩
    · calc _ = u.rd Reg.ISO_CTRL.EN c.val := hregs.rd_eq (FD.iso_key_not_mem_claimKeys c.isLt (by decide))
        _ = _ := State.rd_wr_ne (FD.key_ne_of_off (by decide))
        _ = 0 := State.rd_wr_of_lt (by decide)
    · calc _ = u.rd Reg.ISO_STATUS.VALID c.val := hregs.rd_eq (FD.iso_key_not_mem_claimKeys c.isLt (by decide))
        _ = 0 := State.rd_wr_of_lt (by decide)
    · exact ((((OnlyRegs.refl s _).wr2 (by simp)).wr2 (by simp)).releaseClaims_singleton (by omega) (by simp [claimKeys])).setResp
  case refused =>
    rw [exec_isoCalStart hready, State.isoCalStart_refused hclaimed]
    exact ⟨_, rfl, State.rd_flag (f := Reg.ISO_STATUS.CAL_ERR) rfl, ((OnlyRegs.refl s _).wr2 (by simp)).setResp⟩
  case begins =>
    rw [exec_isoCalStart hready, State.isoCalStart_accepted hfree hcal]
    refine ⟨_, rfl, ?_, (State.iso_ack _ _ _).trans (State.iso_setIso_same _ _ _), ?_⟩
    · exact (State.rd_setResp _ _ _ _ _ _).trans ((State.rd_setIso _ _ _ _ _ _).trans ((State.rd_isoCount _ _ _ _ _ _).trans
        ((State.rd_wr_ne (FD.key_ne_of_off (by decide))).trans (State.rd_wr_of_lt (by decide)))))
    · exact (((((OnlyIso.refl s _).wr2 (by simp)).wr2 (by simp)).isoCount _ _).setIso _ _).setResp.frame
  case failed =>
    have hiso := s.iso_isoCalEnd c.val
    refine ⟨_, exec_isoCalDone_failed hcal hn htrims, State.rd_flag rfl, (State.rd_wr_of_lo (by decide)).trans (s.rd_calSt_isoCalEnd _),
      congrArg IsoS.dec hiso, congrArg IsoS.settle hiso, congrArg IsoS.base hiso, ?_⟩
    exact ((OnlyIso.refl s _).isoCalEnd (by simp [isoCalEndKeys])).wr2 (by simp)
  case passed =>
    set u := s.isoTrimmed c.val g o
    refine ⟨_, exec_isoCalDone_passed hcal hn htrims hstore, State.rd_flag rfl,
      (State.rd_wr_of_lo (by decide)).trans (u.rd_calSt_isoCalEnd _), ?_, ?_, congrArg IsoS.dec (u.iso_isoCalEnd c.val), ?_⟩
    · calc _ = (u.isoCalEnd c.val).rd Reg.ISO_TRIM.GAIN_TRIM c.val := State.rd_wr_of_lo (by decide)
        _ = u.rd Reg.ISO_TRIM.GAIN_TRIM c.val := State.rd_isoCalEnd_trim (by decide)
        _ = _ := State.rd_wr_of_lo (by decide)
        _ = _ := State.rd_wr2_same _ _ _ _ _
    · calc _ = (u.isoCalEnd c.val).rd Reg.ISO_TRIM.OFS_TRIM c.val := State.rd_wr_of_lo (by decide)
        _ = u.rd Reg.ISO_TRIM.OFS_TRIM c.val := State.rd_isoCalEnd_trim (by decide)
        _ = _ := State.rd_wr2_same _ _ _ _ _
    · exact ((((OnlyIso.refl s _).wr2 (by simp)).wr2 (by simp)).isoCalEnd (by simp [isoCalEndKeys])).wr2 (by simp)

end

section
/-! PROOFS. The statements of spec/08_cedar.md on the arithmetic instructions and the transforms of the loop units, and on the life of a loop
program. -/

namespace Sys2Proof.Machine

/-! ## Instructions that write data registers (R189 to R193) -/

section
variable {s : State} {u p w : Nat} {is : Nat → Bool}

theorem isOp_of_eq {op : Nat} (h : wOp w = op) : isOp op w = true := beq_iff_eq.2 h

/-- An instruction that AUX[0] tells apart from the other one of its OP (R192). -/
theorem isOp_and_aux {op a : Nat} (hop : wOp w = op) (haux : wAux w % 2 = a) : (isOp op w && wAux w % 2 == a) = true := by
  simp [isOp, hop, haux]

/-- An immediate word is a word. -/
theorem wImm_mod (w : Nat) : wImm w % 2 ^ 32 = wImm w := by
  simp [wImm, bits]

/-- An instruction that its unit is about to execute has the effect that it names, on the state with the next word in turn. -/
theorem State.cedRun_done {f : Nat → State → State} {b : Bool} {r : LuS} (h : s.cedAt u p w = true) (his : is w = true)
    (hf : CedDone s (f w (s.cedGo u p w)) u p w b [] r) :
    ∃ t, (.next (s.cedRun u is f) : Host.Outcome State Fault Refusal) = .next t ∧ CedDone s t u p w b [] r :=
  ⟨_, congrArg Host.Outcome.next (State.cedRun_at h his f), hf⟩

/-- One data register takes a word as it is. -/
theorem State.cedRun_putD {g : Nat → State → Nat} {v : Nat} (h : s.cedAt u p w = true) (his : is w = true)
    (hv : g w (s.cedGo u p w) % 2 ^ 32 = v) :
    ∃ t, (.next (s.cedRun u is fun w t => t.putD u (wDst w) (g w t)) : Host.Outcome State Fault Refusal) = .next t ∧
      CedDone s t u p w false [] { s.lu u with d := SMap.set 0 (s.lu u).d (wDst w % 64) v } := by
  subst hv
  exact State.cedRun_done h his State.cedGo_done.putD

/-- One data register takes a saturated value. -/
theorem State.cedRun_putSat {g : Nat → State → Int} {x : Int} (h : s.cedAt u p w = true) (his : is w = true) (hx : g w (s.cedGo u p w) = x) :
    ∃ t, (.next (s.cedRun u is fun w t => t.putSat u (wDst w) (g w t)) : Host.Outcome State Fault Refusal) = .next t ∧
      CedDone s t u p w (decide (satI 32 x ≠ x)) []
        { s.lu u with d := SMap.set 0 (s.lu u).d (wDst w % 64) (uns 32 (satI 32 x)) } := by
  subst hx
  exact State.cedRun_done h his (State.cedGo_done.putSat (State.cedAt_run h))

/-- The saturated result of an operation on the operands a and b. -/
theorem State.cedSat2_done {op : Nat} {g : Nat → Int → Int → Int} {x : Int} (h : s.cedAt u p w = true) (hop : wOp w = op)
    (hx : g w (s.operand u (wSa w)) (s.operand u (wSb w)) = x) :
    ∃ t, (.next (s.cedSat2 u op g) : Host.Outcome State Fault Refusal) = .next t ∧
      CedDone s t u p w (decide (satI 32 x ≠ x)) []
        { s.lu u with d := SMap.set 0 (s.lu u).d (wDst w % 64) (uns 32 (satI 32 x)) } :=
  State.cedRun_putSat h (isOp_of_eq hop) (by simp only [State.cedGo_operand, hx])

/-- Two saturated values, in consecutive data registers. -/
theorem CedDone.putSat_pair {x y : Int} (h : s.cedAt u p w = true) :
    CedDone s (((s.cedGo u p w).putSat u (wDst w) x).putSat u (wDst w + 1) y) u p w (decide (satI 32 x ≠ x) || decide (satI 32 y ≠ y)) []
      { s.lu u with d := SMap.set 0 (SMap.set 0 (s.lu u).d (wDst w % 64) (uns 32 (satI 32 x))) ((wDst w + 1) % 64) (uns 32 (satI 32 y)) } :=
  (State.cedGo_done.putSat (State.cedAt_run h)).putSat (State.cedAt_run h)

end

/-! ## Registers of the window of Cedar -/

/-- Fields at one bit of different registers of a unit and sub-unit lie under different keys. -/
theorem FD.key2_ne_of_off {f g : FD} {i j : Nat} (h : g.blk = f.blk ∧ g.s1 = f.s1 ∧ g.s2 = f.s2 ∧ g.lo = f.lo ∧ g.off ≠ f.off) :
    g.key i j ≠ f.key i j := by
  obtain ⟨hblk, hs1, hs2, hlo, hoff⟩ := h
  simp only [FD.key, FD.addr, hblk, hs1, hs2, hlo]
  omega

/-- The status of a loop unit lies before the status of its programs. -/
theorem FD.running_key_ne_pending_key (u p : Nat) : Reg.LU_STAT.RUNNING.key u 0 ≠ Reg.LP_STAT.PENDING.key u p := by
  simp only [FD.key, FD.addr, Reg.LU_STAT.RUNNING, Reg.LP_STAT.PENDING]
  omega

theorem State.rd_wr2_of_lo {s : State} {f g : FD} {i j a b v : Nat} (h : g.lo % 32 ≠ f.lo % 32) : (s.wr2 f i j v).rd g a b = s.rd g a b :=
  State.rd_wr2_ne s v (FD.key_ne_of_lo h)

theorem State.on_wr2_of_lo {s : State} {f g : FD} {i j a b v : Nat} (h : g.lo % 32 ≠ f.lo % 32) : (s.wr2 f i j v).on g a b = s.on g a b := by
  rw [State.on_eq, State.on_eq, State.rd_wr2_of_lo h]

theorem State.rd_wr2_of_lt {s : State} {f : FD} {i j v : Nat} (h : v < 2 ^ f.w) : (s.wr2 f i j v).rd f i j = v :=
  (s.rd_wr2_same f i j v).trans (Nat.mod_eq_of_lt h)

theorem State.rd_flag2 {s : State} {f : FD} {i j : Nat} (hw : f.w = 1) : (s.flag2 f i j).rd f i j = 1 :=
  State.rd_wr2_of_lt (by simp [hw])

theorem State.lu_ack (s : State) (m : Master) (u : Nat) : (s.ack m).lu u = s.lu u := rfl

/-! ## Frames with the records of the loop units -/

/-- Nothing differs but the fields under the listed keys, the answers to the bus masters, and the records of the loop units. -/
def OnlyUnits (s t : State) (ks : List Nat) : Prop := OnlyRegs s { t with lus := s.lus } ks

section
variable {s t : State} {ks : List Nat}

theorem OnlyUnits.refl (s : State) (ks : List Nat) : OnlyUnits s s ks := OnlyRegs.refl s ks

theorem OnlyUnits.wr2 (h : OnlyUnits s t ks) {f : FD} {i j v : Nat} (hk : f.key i j ∈ ks) : OnlyUnits s (t.wr2 f i j v) ks :=
  OnlyRegs.wr2 h hk

theorem OnlyUnits.setLu (h : OnlyUnits s t ks) (u : Nat) (r : LuS) : OnlyUnits s (t.setLu u r) ks := h

theorem OnlyUnits.setResp (h : OnlyUnits s t ks) {m : Master} {r : Resp} : OnlyUnits s (t.setResp m r) ks := OnlyRegs.setResp h

end

/-! ## Enabling and validation (R209) -/

section
variable {s : State} {u p : Nat}

theorem exec_lpPen {m : Master} {n : Fin 8} {q : Fin 4} (h : s.ready (Reg.LP_CFG.PEN.addr n.val q.val) = true) :
    exec (.lpPen m n q) s = .next ((s.lpEnable n.val q.val).ack m) := congrArg Host.Outcome.next (State.winWrite_ready h)

theorem State.lpEnable_held (h : s.lpHeld u p = true) : s.lpEnable u p = s := if_pos h

theorem State.lpEnable_free (h : s.lpHeld u p = false) :
    s.lpEnable u p = (s.setLu u { s.lu u with vq := (s.lu u).vq ++ [p] }).flag2 Reg.LP_STAT.VALIDATING u p := by
  simp [State.lpEnable, h]

/-- The program whose validation ends is the front one no more, and validates no more. -/
def State.validated (s : State) (u p : Nat) (rest : List Nat) : State :=
  (s.setLu u { s.lu u with vq := rest }).wr2 Reg.LP_STAT.VALIDATING u p 0

theorem State.lpValidated_passed {rest : List Nat} (hvq : (s.lu u).vq = p :: rest) (h : (s.validated u p rest).lpCheck u p = 0) :
    s.lpValidated u = (s.validated u p rest).lpPass u p := by
  simp only [State.lpValidated, hvq]
  exact if_pos h

theorem State.lpValidated_refused {rest : List Nat} (hvq : (s.lu u).vq = p :: rest) (h : (s.validated u p rest).lpCheck u p ≠ 0) :
    s.lpValidated u = (s.validated u p rest).lpRefuse u p ((s.validated u p rest).lpCheck u p) := by
  simp only [State.lpValidated, hvq]
  exact if_neg h

theorem exec_lpValidationDone {n : Fin 8} (h : s.present islCED = true) : exec (.lpValidationDone n) s = .next (s.lpValidated n.val) := by
  simp only [exec, execLpValidationDone, h, State.onlyIf_true]

/-- A refusal for another reason than a double-bit error is only shown. -/
theorem State.lpRefuse_shown {code : Nat} (h : code ≠ 9) :
    s.lpRefuse u p code = (s.flag2 Reg.LP_STAT.LOAD_FAIL u p).wr2 Reg.LP_STAT.LOAD_ERR u p code := if_neg h

theorem State.lpRefuse_validated_spec {rest : List Nat} {code : Nat} (hecc : code ≠ 9) (hcode : code < 16) :
    ((s.validated u p rest).lpRefuse u p code).rd Reg.LP_STAT.VALIDATING u p = 0 ∧
      ((s.validated u p rest).lpRefuse u p code).rd Reg.LP_STAT.LOAD_FAIL u p = 1 ∧
      ((s.validated u p rest).lpRefuse u p code).rd Reg.LP_STAT.LOAD_ERR u p = code ∧
      (((s.validated u p rest).lpRefuse u p code).lu u).vq = rest ∧
      OnlyUnits s ((s.validated u p rest).lpRefuse u p code)
        [Reg.LP_STAT.VALIDATING.key u p, Reg.LP_STAT.LOAD_FAIL.key u p, Reg.LP_STAT.LOAD_ERR.key u p] := by
  rw [State.lpRefuse_shown hecc]
  refine ⟨?_, ?_, State.rd_wr2_of_lt hcode, by simp [State.validated, State.flag2_eq], ?_⟩
  · exact (State.rd_wr2_of_lo (by decide)).trans ((State.rd_wr2_of_lo (by decide)).trans (State.rd_wr2_of_lt (by decide)))
  · exact (State.rd_wr2_of_lo (by decide)).trans (State.rd_wr2_of_lt (by decide))
  · exact ((((OnlyUnits.refl s _).setLu _ _).wr2 (by simp)).wr2 (by simp)).wr2 (by simp)

end

/-! ## Swaps (R207, R208) -/

section
variable {s : State} {u : Nat}

theorem exec_swapReq {m : Master} {n : Fin 8} (h : s.ready (Reg.LU_CTRL.SWAP_REQ.addr n.val 0) = true) :
    exec (.swapReq m n) s = .next ((s.swapReq n.val).ack m) := congrArg Host.Outcome.next (State.winWrite_ready h)

theorem State.swapBank_of_no_request (h : s.on Reg.LU_STAT.SWAP_PEND u = false) : s.swapBank u = s := by
  simp [State.swapBank, h]

theorem State.swapIdle_of_no_request (h : s.on Reg.LU_STAT.SWAP_PEND u = false) : s.swapIdle u = s := by
  simp [State.swapIdle, State.swapBank_of_no_request h]

theorem State.swapIdle_of_enabled (h : s.lpEnabled u ≠ []) : s.swapIdle u = s := by
  simp [State.swapIdle, h]

theorem State.lpEnabled_wr2_of_lo {f : FD} {i j v : Nat} (h : f.lo % 32 ≠ 31) : (s.wr2 f i j v).lpEnabled u = s.lpEnabled u := by
  have hpen : Reg.LP_CFG.PEN.lo % 32 ≠ f.lo % 32 := Ne.symm h
  simp only [State.lpEnabled, State.on_wr2_of_lo hpen]

/-- While a program is enabled, a request waits. -/
theorem State.swapReq_waits (hpend : s.on Reg.LU_STAT.SWAP_PEND u = false) (hen : s.lpEnabled u ≠ []) :
    s.swapReq u = (s.flag Reg.LU_STAT.SWAP_PEND u).flag Reg.LU_CTRL.SWAP_REQ u := by
  have hen' : ((s.flag Reg.LU_STAT.SWAP_PEND u).flag Reg.LU_CTRL.SWAP_REQ u).lpEnabled u = s.lpEnabled u :=
    (State.lpEnabled_wr2_of_lo (by decide)).trans (State.lpEnabled_wr2_of_lo (by decide))
  simp only [State.swapReq, hpend, Bool.false_eq_true, if_false]
  exact State.swapIdle_of_enabled (hen' ▸ hen)

end

/-! ## Words of a program (R187) -/

section
variable {s : State} {u p : Nat}

/-- The words of a program depend on its LEN and START_ADDR alone of the registers. -/
theorem State.lpWords_wr2_of_lo {f : FD} {i j v : Nat} (hlen : f.lo % 32 ≠ 13) (haddr : f.lo % 32 ≠ 0) :
    (s.wr2 f i j v).lpWords u p = s.lpWords u p := by
  have hlen' : Reg.LP_CFG.LEN.lo % 32 ≠ f.lo % 32 := Ne.symm hlen
  have haddr' : Reg.LP_CFG.START_ADDR.lo % 32 ≠ f.lo % 32 := Ne.symm haddr
  simp only [State.lpWords, State.lpWord, State.lpLen, State.lpAddr, State.rd_wr2_of_lo hlen', State.rd_wr2_of_lo haddr']
  rfl

end

/-! ## Disabling (R206, R210) -/

section
variable {s : State} {u p : Nat}

theorem exec_lpDisable {m : Master} {n : Fin 8} {q : Fin 4} (h : s.ready (Reg.LP_CFG.PEN.addr n.val q.val) = true) :
    exec (.lpDisable m n q) s = .next ((s.lpDisable n.val q.val).ack m) := congrArg Host.Outcome.next (State.winWrite_ready h)

/-- BOUND_OK alone changes, so that what no BOUND_OK can change stays. -/
theorem State.bounds_preserves {P : State → Prop} (hP : ∀ (t : State) (q v : Nat), P t → P (t.wr2 Reg.LP_STAT.BOUND_OK u q v)) (h : P s) :
    P (s.bounds u) := foldEach_preserves (fun _ _ ht => hP _ _ _ ht) _ h

theorem State.rd_bounds_of_lo {f : FD} {i j : Nat} (h : f.lo % 32 ≠ 20) : (s.bounds u).rd f i j = s.rd f i j :=
  State.bounds_preserves (P := fun t => t.rd f i j = s.rd f i j) (fun _ _ _ ht => (State.rd_wr2_of_lo h).trans ht) rfl

theorem State.lu_bounds (n : Nat) : (s.bounds u).lu n = s.lu n :=
  State.bounds_preserves (P := fun t => t.lu n = s.lu n) (fun _ _ _ ht => ht) rfl

theorem State.mem_bounds : (s.bounds u).mem = s.mem :=
  State.bounds_preserves (P := fun t => t.mem = s.mem) (fun _ _ _ ht => ht) rfl

/-- A program that is enabled no more, with neither a pending start nor an arm. -/
def State.lpStopped (s : State) (u p : Nat) : State :=
  ((s.setLu u { s.lu u with queue := (s.lu u).queue.filter (· ≠ p), arms := withoutBit (s.lu u).arms p }).wr2 Reg.LP_STAT.PENDING u p 0).wr2
    Reg.LP_CFG.PEN u p 0

/-- A program without blocks leaves none, and no swap waits for its end. -/
theorem State.lpDisable_enabled (hval : s.on Reg.LP_STAT.VALIDATING u p = false) (hpen : s.on Reg.LP_CFG.PEN u p = true)
    (hblocks : blocksOf (s.lpWords u p) = []) (hswap : s.on Reg.LU_STAT.SWAP_PEND u = false) : s.lpDisable u p = (s.lpStopped u p).bounds u := by
  have hwords : (s.lpStopped u p).lpWords u p = s.lpWords u p :=
    (State.lpWords_wr2_of_lo (by decide) (by decide)).trans (State.lpWords_wr2_of_lo (by decide) (by decide))
  have hswap' : ((s.lpStopped u p).bounds u).on Reg.LU_STAT.SWAP_PEND u = false := by
    rw [State.on_eq, State.rd_bounds_of_lo (by decide), ← State.on_eq]
    exact ((State.on_wr2_of_lo (by decide)).trans (State.on_wr2_of_lo (by decide))).trans hswap
  calc s.lpDisable u p
      = ((foldEach (fun e t => if t.blkUsed u e.1 then t else t.wr2 Reg.BLK_CTRL.TYPE u e.1 0) (blocksOf ((s.lpStopped u p).lpWords u p))
          (s.lpStopped u p)).bounds u).swapIdle u := by
        simp only [State.lpDisable, hval, hpen, Bool.not_true, Bool.false_eq_true, if_false, State.lpStopped]
    _ = ((s.lpStopped u p).bounds u).swapIdle u := by rw [hwords, hblocks]; rfl
    _ = (s.lpStopped u p).bounds u := State.swapIdle_of_no_request hswap'

theorem State.lpStopped_bounds_spec :
    ((s.lpStopped u p).bounds u).rd Reg.LP_CFG.PEN u p = 0 ∧ ((s.lpStopped u p).bounds u).rd Reg.LP_STAT.PENDING u p = 0 ∧
      ((s.lpStopped u p).bounds u).lu u =
        { s.lu u with queue := (s.lu u).queue.filter (· ≠ p), arms := withoutBit (s.lu u).arms p } ∧
      ((s.lpStopped u p).bounds u).mem = s.mem := by
  refine ⟨?_, ?_, (State.lu_bounds u).trans (State.lu_setLu_same _ _ _), State.mem_bounds⟩
  · exact (State.rd_bounds_of_lo (by decide)).trans (State.rd_wr2_of_lt (by decide))
  · exact (State.rd_bounds_of_lo (by decide)).trans ((State.rd_wr2_of_lo (by decide)).trans (State.rd_wr2_of_lt (by decide)))

end

/-! ## Routes (R201, R202, R204) -/

section
variable {s : State} {u p : Nat}

theorem State.regs_takePulse (s : State) (tgt : Route → Bool) : (s.takePulse tgt).regs = s.regs := by
  unfold State.takePulse
  split <;> rfl

theorem State.mem_takePulse (s : State) (tgt : Route → Bool) : (s.takePulse tgt).mem = s.mem := by
  unfold State.takePulse
  split <;> rfl

theorem State.lu_takePulse (s : State) (tgt : Route → Bool) (u : Nat) : (s.takePulse tgt).lu u = s.lu u := by
  unfold State.takePulse
  split <;> rfl

theorem State.rd_takePulse (s : State) (tgt : Route → Bool) (f : FD) (i j : Nat) : (s.takePulse tgt).rd f i j = s.rd f i j :=
  congrArg (fun m => SMap.get (f.rst i j) m (f.key i j)) (s.regs_takePulse tgt)

theorem State.mayStart_takePulse (s : State) (tgt : Route → Bool) (u p : Nat) : (s.takePulse tgt).mayStart u p = s.mayStart u p := by
  unfold State.takePulse
  split <;> rfl

/-- A route's pulse that reaches no lower program of the unit in the same tick starts or arms this program alone. -/
theorem exec_lpRouteStart {n : Fin 8} {q : Fin 4} (hpulse : (s.pulseAt (toProgram n.val q.val)).isSome = true)
    (hpresent : s.present islCED = true) (hlower : ∀ r < q.val, s.pulseAt (toProgram n.val r) ≠ s.pulseAt (toProgram n.val q.val)) :
    exec (.lpRouteStart n q) s = .next ((s.takePulse (toProgram n.val q.val)).lpRoute n.val q.val) := by
  obtain ⟨k, hk⟩ := Option.isSome_iff_exists.1 hpulse
  have hlow : (List.range q.val).filter (fun r => s.pulseAt (toProgram n.val r) == some k) = [] :=
    List.filter_eq_nil_iff.2 fun r hr => by
      rw [beq_iff_eq, ← hk]
      exact hlower r (List.mem_range.1 hr)
  have hone : (List.range (q.val + 1)).filter (fun r => s.pulseAt (toProgram n.val r) == some k) = [q.val] := by
    rw [List.range_succ, List.filter_append, hlow, List.filter_singleton, hk, beq_self_eq_true]
    rfl
  simp only [exec, execLpRouteStart, hk, hone, foldEach, hpresent, State.onlyIf_true]

/-- A program without a pending start becomes pending. -/
theorem State.lpArrive_queued (h : (s.lu u).queue.contains p = false) :
    s.lpArrive u p = (s.setLu u { s.lu u with
      queue := (s.lu u).queue ++ [p], halt := withoutBit (s.lu u).halt p,
      clr := if bitAt (s.lu u).halt p && s.on Reg.LP_CFG.TRIP_HALT u p then withBit (s.lu u).clr p else (s.lu u).clr }).flag2
      Reg.LP_STAT.PENDING u p := by
  simp only [State.lpArrive, h, Bool.false_eq_true, if_false]

theorem State.lpArrive_missed (h : (s.lu u).queue.contains p = true) : s.lpArrive u p = s.lpMiss u p := if_pos h

theorem State.lpMiss_spec (s : State) (u p : Nat) :
    (s.lpMiss u p).rd Reg.LP_STAT.MISS u p = 1 ∧
      (s.lpMiss u p).rd Reg.LP_STAT.MISS_CNT u p = satAdd 255 (s.rd Reg.LP_STAT.MISS_CNT u p) % 256 ∧
      RegsBut s (s.lpMiss u p) [Reg.LP_STAT.MISS.key u p, Reg.LP_STAT.MISS_CNT.key u p] :=
  ⟨(State.rd_wr2_of_lo (by decide)).trans (State.rd_flag2 rfl), State.rd_wr2_same _ _ _ _ _,
    ((RegsBut.refl s _).wr2 (by simp)).wr2 (by simp)⟩

theorem State.lpRoute_start (hmay : s.mayStart u p = true) (hsrc : s.rd Reg.LP_CFG.START_SRC u p = 1) : s.lpRoute u p = s.lpArrive u p := by
  simp only [State.lpRoute, hmay, hsrc, Bool.not_true, Bool.false_eq_true, if_false]

/-- The pulse that is taken leaves the program as ready to start as it was. -/
theorem State.lpRoute_takePulse {tgt : Route → Bool} (hmay : s.mayStart u p = true) (hsrc : s.rd Reg.LP_CFG.START_SRC u p = 1) :
    (s.takePulse tgt).lpRoute u p = (s.takePulse tgt).lpArrive u p :=
  State.lpRoute_start ((s.mayStart_takePulse tgt u p).trans hmay) ((s.rd_takePulse tgt _ _ _).trans hsrc)

theorem RegsBut.of_takePulse {t : State} {tgt : Route → Bool} {ks : List Nat} (h : RegsBut (s.takePulse tgt) t ks) : RegsBut s t ks :=
  ((RegsBut.refl s ks).of_eq (s.regs_takePulse tgt)).trans h

end

/-! ## Runs (R196, R203) -/

section
variable {s : State} {u p : Nat}

theorem exec_lpRunStart {n : Fin 8} (hpresent : s.present islCED = true) (hfault : s.on Reg.LU_STAT.FAULT n.val = false) :
    exec (.lpRunStart n) s = .next (s.lpBegin n.val) := by
  simp only [exec, execLpRunStart, hpresent, hfault, Bool.not_false, Bool.and_self, State.onlyIf_true]

theorem State.clearDue_of_no_blocks (h : blocksOf (s.lpWords u p) = []) :
    s.clearDue u p = s.setLu u { s.lu u with clr := withoutBit (s.lu u).clr p } := by
  simp only [State.clearDue, h, foldEach]

/-- The front program of the queue leaves it and shows as pending no more. -/
def State.dequeued (s : State) (u p : Nat) (rest : List Nat) : State :=
  (s.setLu u { s.lu u with queue := rest }).wr2 Reg.LP_STAT.PENDING u p 0

/-- The front program is in its turn: nothing of its own remains to be cleared. -/
def State.inTurn (s : State) (u p : Nat) (rest : List Nat) : State :=
  (s.dequeued u p rest).setLu u { s.lu u with queue := rest, clr := withoutBit (s.lu u).clr p }

/-- The unit r runs its program. -/
def State.running (s : State) (u p : Nat) (r : LuS) : State := ((s.setLu u r).wr Reg.LU_STAT.PROG u p).flag Reg.LU_STAT.RUNNING u

/-- A program without blocks has none to clear at its start, and no swap waits for it. -/
theorem State.lpBegin_eq {rest : List Nat} (hrun : (s.lu u).run = none) (hqueue : (s.lu u).queue = p :: rest)
    (hswap : s.on Reg.LU_STAT.SWAP_PEND u = false) (hblocks : blocksOf (s.lpWords u p) = []) :
    s.lpBegin u = (((s.inTurn u p rest).latchRun u p).wr Reg.LU_STAT.PROG u p).flag Reg.LU_STAT.RUNNING u := by
  have hswap' : (s.dequeued u p rest).on Reg.LU_STAT.SWAP_PEND u = false := (State.on_wr2_of_lo (by decide)).trans hswap
  have hwords : (s.dequeued u p rest).lpWords u p = s.lpWords u p := State.lpWords_wr2_of_lo (by decide) (by decide)
  have hlu : (s.dequeued u p rest).lu u = { s.lu u with queue := rest } := State.lu_setLu_same _ _ _
  calc s.lpBegin u
      = (((((s.dequeued u p rest).swapBank u).clearDue u p).latchRun u p).wr Reg.LU_STAT.PROG u p).flag Reg.LU_STAT.RUNNING u := by
        simp only [State.lpBegin, hrun, hqueue, State.dequeued]
    _ = _ := by rw [State.swapBank_of_no_request hswap', State.clearDue_of_no_blocks (hwords.symm ▸ hblocks), hlu, State.inTurn]

theorem State.regs_inTurn (s : State) (u p : Nat) (rest : List Nat) : (s.inTurn u p rest).regs = (s.wr2 Reg.LP_STAT.PENDING u p 0).regs := rfl

theorem State.rd_inTurn (s : State) (u p : Nat) (rest : List Nat) (f : FD) (i j : Nat) :
    (s.inTurn u p rest).rd f i j = (s.wr2 Reg.LP_STAT.PENDING u p 0).rd f i j := rfl

theorem State.rd_inTurn_of_lo {rest : List Nat} {f : FD} {i j : Nat} (h : f.lo % 32 ≠ 7) : (s.inTurn u p rest).rd f i j = s.rd f i j :=
  (s.rd_inTurn u p rest f i j).trans (State.rd_wr2_of_lo h)

/-- What a run latches of the registers and keeps of its unit; only the record of the unit changes (R203). -/
theorem State.latchRun_spec (h : s.on Reg.LU_CTRL.SP_HOLD u = false) :
    ∃ r, s.latchRun u p = s.setLu u r ∧ r.run = some p ∧ r.pc = 0 ∧ r.p = false ∧ r.queue = (s.lu u).queue ∧ r.staged = [] ∧
      r.d = (s.lu u).d ∧ r.inp = (List.range 16).map (fun k => s.rd Reg.SLOT_VAL.VAL u k) ∧
      r.sp = (List.range 16).map (fun k => s.rd Reg.LU_SP.SP u k) :=
  ⟨_, rfl, rfl, rfl, rfl, rfl, rfl, rfl, rfl, by simp only [h, Bool.false_eq_true, if_false]⟩

/-- The front program runs, from its first word, on what the registers showed before its start. -/
theorem State.lpBegin_spec {rest : List Nat} (hrun : (s.lu u).run = none) (hqueue : (s.lu u).queue = p :: rest)
    (hswap : s.on Reg.LU_STAT.SWAP_PEND u = false) (hblocks : blocksOf (s.lpWords u p) = []) (hhold : s.on Reg.LU_CTRL.SP_HOLD u = false) :
    ∃ r, s.lpBegin u = (s.inTurn u p rest).running u p r ∧ r.run = some p ∧ r.pc = 0 ∧ r.p = false ∧ r.queue = rest ∧ r.staged = [] ∧
      r.d = (s.lu u).d ∧ r.inp = (List.range 16).map (fun k => s.rd Reg.SLOT_VAL.VAL u k) ∧
      r.sp = (List.range 16).map (fun k => s.rd Reg.LU_SP.SP u k) := by
  have hhold' : (s.inTurn u p rest).on Reg.LU_CTRL.SP_HOLD u = false := by
    rwa [State.on_eq, State.rd_inTurn_of_lo (by decide), ← State.on_eq]
  have hlu : (s.inTurn u p rest).lu u = { s.lu u with queue := rest, clr := withoutBit (s.lu u).clr p } := State.lu_setLu_same _ _ _
  have hval : ∀ k, (s.inTurn u p rest).rd Reg.SLOT_VAL.VAL u k = s.rd Reg.SLOT_VAL.VAL u k := fun _ => State.rd_inTurn_of_lo (by decide)
  have hsp : ∀ k, (s.inTurn u p rest).rd Reg.LU_SP.SP u k = s.rd Reg.LU_SP.SP u k := fun _ => State.rd_inTurn_of_lo (by decide)
  obtain ⟨r, hlatch, hr⟩ := State.latchRun_spec (p := p) hhold'
  refine ⟨r, ?_, ?_⟩
  · rw [State.lpBegin_eq hrun hqueue hswap hblocks, hlatch, State.running]
  · simpa only [hlu, hval, hsp] using hr

theorem State.inTurn_running_spec {rest : List Nat} (r : LuS) (hp : p < 4) :
    ((s.inTurn u p rest).running u p r).rd Reg.LU_STAT.RUNNING u = 1 ∧ ((s.inTurn u p rest).running u p r).rd Reg.LU_STAT.PROG u = p ∧
      ((s.inTurn u p rest).running u p r).rd Reg.LP_STAT.PENDING u p = 0 ∧ ((s.inTurn u p rest).running u p r).lu u = r ∧
      RegsBut s ((s.inTurn u p rest).running u p r)
        [Reg.LU_STAT.RUNNING.key u 0, Reg.LU_STAT.PROG.key u 0, Reg.LP_STAT.PENDING.key u p] := by
  have hpend : (s.inTurn u p rest).rd Reg.LP_STAT.PENDING u p = 0 :=
    (s.rd_inTurn u p rest _ _ _).trans (State.rd_wr2_same _ _ _ _ _)
  refine ⟨State.rd_flag rfl, (State.rd_wr_of_lo (by decide)).trans (State.rd_wr_of_lt hp), ?_, State.lu_setLu_same _ _ _, ?_⟩
  · exact (State.rd_wr_ne (FD.running_key_ne_pending_key u p).symm).trans ((State.rd_wr_of_lo (by decide)).trans hpend)
  · have hturn : RegsBut s (s.inTurn u p rest) [Reg.LU_STAT.RUNNING.key u 0, Reg.LU_STAT.PROG.key u 0, Reg.LP_STAT.PENDING.key u p] :=
      ((RegsBut.refl s _).wr2 (by simp)).of_eq (s.regs_inTurn u p rest)
    exact (RegsBut.wr2 (hturn.of_eq rfl) (by simp)).wr2 (by simp)

end

/-! ## Blocks (R196) -/

section
variable {s : State} {u b : Nat}

theorem exec_blkClr {m : Master} {n : Fin 8} {k : Fin 16} (h : s.ready (Reg.BLK_CTRL.CLR.addr n.val k.val) = true) :
    exec (.blkClr m n k) s = .next ((s.clrReq n.val k.val).ack m) := congrArg Host.Outcome.next (State.winWrite_ready h)

theorem State.clrReq_used (h : s.blkUsed u b = true) : s.clrReq u b = s.flag2 Reg.BLK_CTRL.CLR u b := if_pos h

theorem State.clrReq_unused (h : s.blkUsed u b = false) : s.clrReq u b = s.clearBlk u b := by
  simp only [State.clrReq, h, Bool.false_eq_true, if_false]

theorem State.clearBlk_spec (s : State) (u b : Nat) :
    (s.clearBlk u b).rd Reg.BLK_S1.S1 u b = 0 ∧ (s.clearBlk u b).rd Reg.BLK_S2.S2 u b = 0 ∧ (s.clearBlk u b).rd Reg.BLK_CTRL.CLR u b = 0 ∧
      OnlyRegs s (s.clearBlk u b) [Reg.BLK_S1.S1.key u b, Reg.BLK_S2.S2.key u b, Reg.BLK_CTRL.CLR.key u b] := by
  refine ⟨?_, ?_, State.rd_wr2_of_lt (by decide), (((OnlyRegs.refl s _).wr2 (by simp)).wr2 (by simp)).wr2 (by simp)⟩
  · exact (State.rd_wr2_of_lo (by decide)).trans ((State.rd_wr2_ne _ _ (FD.key2_ne_of_off (by decide))).trans (State.rd_wr2_of_lt (by decide)))
  · exact (State.rd_wr2_of_lo (by decide)).trans (State.rd_wr2_of_lt (by decide))

end

/-! ## The sample link (R199) -/

theorem exec_sampleLinkWord_empty {s : State} (h : s.linkq = []) : exec .sampleLinkWord s = .next s := by
  simp only [exec, execSampleLinkWord, h]

end Sys2Proof.Machine

open Sys2Proof Sys2Proof.Machine

/-! ## The obligations -/

/-- Settles O13: each instruction is one write of a data register on the state in which its effect begins, where the operands read as
before. -/
theorem cedarArithmetic : Obligations.CedarArithmetic := by
  unfold Obligations.CedarArithmetic
  refine ⟨?add, ?sub, ?mul, ?mva, ?neg, ?abs, ?min, ?max, ?div, ?mag, ?addw, ?mov, ?ldi, ?sel⟩
  case add | sub | mul | div | mag => exact fun u p w x s h hop hx => State.cedSat2_done h hop hx
  case mva => exact fun u p w x s h hop hx => State.cedRun_putSat h (isOp_of_eq hop) ((State.cedGo_acc ..).trans hx)
  case neg | abs | min | max =>
    exact fun u p w x s h hop haux hx => State.cedRun_putSat h (isOp_and_aux hop haux) (by simpa only [State.cedGo_operand] using hx)
  case ldi => exact fun u p w s h hop => State.cedRun_putD h (isOp_of_eq hop) (wImm_mod w)
  case addw | mov | sel =>
    exact fun u p w s h hop => State.cedRun_putD h (isOp_of_eq hop) (by simp only [State.cedGo_operand, State.cedGo_lu, uns_mod])

/-- Settles O15: each transform writes consecutive data registers, one after the other, each with its value saturated or clamped. -/
theorem cedarTransforms : Obligations.CedarTransforms := by
  unfold Obligations.CedarTransforms
  refine ⟨?sincos, ?clarke2, ?clarke3, ?iclarke, ?park, ?ipark, ?svm⟩
  case sincos | park | ipark =>
    rintro u p w _ _ s h hop rfl rfl
    refine State.cedRun_done h (isOp_of_eq hop) ?_
    simp only [State.cedGo_operand]
    exact CedDone.putSat_pair h
  case clarke2 | clarke3 =>
    rintro u p w _ _ s h hop haux rfl rfl
    refine State.cedRun_done h (isOp_of_eq hop) ?_
    simp only [State.cedGo_operand, haux]
    exact CedDone.putSat_pair h
  case iclarke =>
    rintro u p w _ _ _ s h hop rfl rfl rfl
    refine State.cedRun_done h (isOp_of_eq hop) ?_
    simp only [State.cedGo_operand]
    exact (CedDone.putSat_pair h).putSat (State.cedAt_run h)
  case svm =>
    rintro u p w _ _ _ s h hop rfl rfl rfl
    refine State.cedRun_done h (isOp_of_eq hop) ?_
    simp only [State.cedGo_operand]
    have hrun := State.cedAt_run h
    exact ((State.cedGo_done.putDuty hrun).putDuty hrun).putDuty hrun

/-- Settles O17, clause by clause from what each command does to the unit and to the registers that show it. -/
theorem cedarPrograms : Obligations.CedarPrograms := by
  unfold Obligations.CedarPrograms
  refine ⟨fun m u p s hready hfree => ?enabled, fun m u p s hready hheld => ?held,
    fun u p rest s code hpresent hvq hcheck hfail hecc hcode => ?failed, fun u p rest s hpresent hvq hcheck => ?passed,
    fun m u p s hready hval hpen hblocks hswap => ?disabled, fun u p s => exec_lpRouteStart,
    fun u p s hpulse hpresent hlower hmay hsrc => ?started, fun u p rest s hpresent hfault hrun hqueue hswap hblocks hhold => ?begun,
    fun m u s hready hpend hen => ?swap, fun m u b s hready => ⟨fun hunused => ?cleared, fun hused => ?clearDue⟩,
    fun w rest s hlink hpresent => ?linkWord, fun s => exec_sampleLinkWord_empty⟩
  case enabled =>
    rw [exec_lpPen hready, State.lpEnable_free hfree]
    refine ⟨_, rfl, (State.rd_ack ..).trans (State.rd_flag2 rfl), (State.lu_ack ..).trans (State.lu_setLu_same _ _ _), ?_⟩
    exact (((OnlyUnits.refl s _).setLu _ _).wr2 (by simp)).setResp
  case held =>
    rw [exec_lpPen hready, State.lpEnable_held hheld]
    exact ⟨_, rfl, (OnlyRegs.refl s _).setResp⟩
  case failed =>
    rw [exec_lpValidationDone hpresent, State.lpValidated_refused hvq (hcheck.trans_ne hfail)]
    rw [show (s.validated u.val p.val rest).lpCheck u.val p.val = code from hcheck]
    exact ⟨_, rfl, State.lpRefuse_validated_spec hecc hcode⟩
  case passed =>
    rw [exec_lpValidationDone hpresent, State.lpValidated_passed hvq hcheck]
    rfl
  case disabled =>
    obtain ⟨hpen', hpend', hlu, hmem⟩ := State.lpStopped_bounds_spec (s := s) (u := u.val) (p := p.val)
    rw [exec_lpDisable hready, State.lpDisable_enabled hval hpen hblocks hswap]
    exact ⟨_, rfl, (State.rd_ack ..).trans hpen', (State.rd_ack ..).trans hpend', (State.lu_ack ..).trans hlu,
      (State.mem_setResp ..).trans hmem⟩
  case started =>
    rw [exec_lpRouteStart hpulse hpresent hlower, State.lpRoute_takePulse hmay hsrc]
    set t := s.takePulse (toProgram u.val p.val)
    have hlu : t.lu u.val = s.lu u.val := s.lu_takePulse _ _
    constructor
    · intro hq
      rw [State.lpArrive_queued (hlu.symm ▸ hq)]
      refine ⟨_, rfl, State.rd_flag2 rfl, (State.lu_setLu_same _ _ _).trans ?_, ?_, s.mem_takePulse _⟩
      · rw [hlu, State.on_eq, State.on_eq, s.rd_takePulse]
      · exact RegsBut.of_takePulse (RegsBut.wr2 ((RegsBut.refl t _).of_eq rfl) (by simp))
    · intro hq
      obtain ⟨hmiss, hcnt, hregs⟩ := t.lpMiss_spec u.val p.val
      rw [State.lpArrive_missed (hlu.symm ▸ hq)]
      exact ⟨_, rfl, hmiss, hcnt.trans (by rw [s.rd_takePulse]), hlu, hregs.of_takePulse, s.mem_takePulse _⟩
  case begun =>
    obtain ⟨r, hbegin, hr, hpc, hp, hqueue', hstaged, hd, hinp, hsp⟩ := State.lpBegin_spec hrun hqueue hswap hblocks hhold
    obtain ⟨hrunning, hprog, hpending, hlu, hregs⟩ := State.inTurn_running_spec (s := s) (u := u.val) (rest := rest) r p.isLt
    rw [exec_lpRunStart hpresent hfault, hbegin]
    refine ⟨_, rfl, hrunning, hprog, hpending, ?_⟩
    rw [hlu]
    exact ⟨hr, hpc, hp, hqueue', hstaged, hd, hinp, hsp, hregs, rfl⟩
  case swap =>
    rw [exec_swapReq hready, State.swapReq_waits hpend hen]
    refine ⟨_, rfl, (State.rd_ack ..).trans ((State.rd_wr_of_lo (by decide)).trans (State.rd_flag rfl)),
      (State.rd_ack ..).trans (State.rd_flag rfl), ?_⟩
    exact (((OnlyRegs.refl s _).wr2 (by simp)).wr2 (by simp)).setResp
  case cleared =>
    obtain ⟨hs1, hs2, hclr, hregs⟩ := s.clearBlk_spec u.val b.val
    rw [exec_blkClr hready, State.clrReq_unused hunused]
    exact ⟨_, rfl, hs1, hs2, hclr, hregs.setResp⟩
  case clearDue =>
    rw [exec_blkClr hready, State.clrReq_used hused]
    exact ⟨_, rfl, (State.rd_ack ..).trans (State.rd_flag2 rfl), ((OnlyRegs.refl s _).wr2 (by simp)).setResp⟩
  case linkWord =>
    have hpresent' : ({ s with linkq := rest } : State).present islCED = true := hpresent
    simp only [exec, execSampleLinkWord, hlink, hpresent', if_true] <;> rfl

end

section
/-! PROOFS. The statement of spec/10_position.md: position channels, resolvers and encoder emulators. -/

namespace Sys2Proof.Machine

/-! ## Flags that answer a write -/

/-- A refused write sets one flag and answers its master; nothing else changes. -/
theorem State.flag_ack_spec (s : State) {f : FD} (hw : f.w = 1) (i : Nat) (m : Master) :
    ((s.flag f i).ack m).rd f i = 1 ∧ OnlyRegs s ((s.flag f i).ack m) [f.key i 0] :=
  ⟨(State.rd_ack ..).trans (State.rd_flag hw), ((OnlyRegs.refl s _).wr2 (by simp)).setResp⟩

/-! ## Frames with the records of the position channels -/

/-- Nothing differs but the fields under the listed keys, the answers to the bus masters, and the records of the position channels. -/
def OnlyPositions (s t : State) (ks : List Nat) : Prop := OnlyRegs s { t with poss := s.poss } ks

section
variable {s t : State} {n : Nat} {ks : List Nat}

theorem OnlyPositions.refl (s : State) (ks : List Nat) : OnlyPositions s s ks := OnlyRegs.refl s ks

theorem OnlyPositions.wr2 (h : OnlyPositions s t ks) {f : FD} {i j v : Nat} (hk : f.key i j ∈ ks) : OnlyPositions s (t.wr2 f i j v) ks :=
  OnlyRegs.wr2 h hk

theorem OnlyPositions.setPos (h : OnlyPositions s t ks) (n : Nat) (r : PosS) : OnlyPositions s (t.setPos n r) ks := h

theorem OnlyPositions.setResp (h : OnlyPositions s t ks) {m : Master} {r : Resp} : OnlyPositions s (t.setResp m r) ks :=
  OnlyRegs.setResp h

theorem OnlyPositions.showValid (h : OnlyPositions s t ks) (hk : Reg.POS_STAT.VALID.key n 0 ∈ ks) : OnlyPositions s (t.showValid n) ks :=
  h.wr2 hk

/-- VALID is the lowest bit of POS_STAT: what is shown leaves every field at another bit, and those at the lowest bit of other registers. -/
theorem State.rd_showValid_of_lo {f : FD} {i j : Nat} (h : f.lo % 32 ≠ 0) : (s.showValid n).rd f i j = s.rd f i j := State.rd_wr_of_lo h

theorem State.rd_showValid_of_off {f : FD} (h : f.blk = 6 ∧ f.s1 = 0x100 ∧ f.lo = 0 ∧ f.off ≠ 4) : (s.showValid n).rd f n = s.rd f n :=
  State.rd_wr_ne (FD.key_ne_of_off h)

theorem State.pos_showValid (s : State) (n k : Nat) : (s.showValid n).pos k = s.pos k := rfl

/-- A channel that is not enabled shows VALID = 0 (R257). -/
theorem State.rd_valid_showValid_of_disabled (h : s.posEn n = false) : (s.showValid n).rd Reg.POS_STAT.VALID n = 0 :=
  (State.rd_wr_of_lt (b2n_lt_two _)).trans (by simp only [h, Bool.false_and, b2n, Bool.false_eq_true, if_false])

end

/-! ## Samples of the inputs (R244) -/

section
variable {s : State} {n : Nat}

/-- The levels of a channel's inputs as its routes connect them; a signal with no route reads low (R243). -/
def State.routedLevels (s : State) (n lv : Nat) : Nat :=
  ((List.range 7).map fun b => if bitAt lv b && s.posRouted n b then 2 ^ b else 0).sum

theorem exec_posInputAccept {k : Fin 4} {lv : BitVec 7} (h : s.present islFPC = true) :
    exec (.posInputAccept k lv) s = .next ((s.posRaw k.val (s.routedLevels k.val lv.toNat)).posSample k.val) := by
  simp only [exec, execPosInputAccept, h, Bool.not_true, Bool.false_eq_true, if_false, State.routedLevels]

theorem State.raw_posRaw (s : State) (n new : Nat) : ((s.posRaw n new).pos n).raw = new := congrArg PosS.raw (State.pos_setPos_same _ _ _)

theorem State.posTake_of_disabled (h : s.posEn n = false) (old new : Nat) : s.posTake n old new = s := by
  simp only [State.posTake, h, Bool.not_false, if_true]

theorem State.posTake_abz (hen : s.posEn n = true) (hmode : s.posMode n = 0) (old new : Nat) :
    s.posTake n old new = (s.posAbz n old new).showValid n := by
  simp only [State.posTake, hen, hmode, Bool.not_true, Bool.false_eq_true, if_false]

/-- The levels of a channel after a sample: an accepted input changes its level, and SSI data stays as it was shown. -/
def State.takenLevels (s : State) (n : Nat) : Nat :=
  ((List.range 6).map fun b => if s.posAccepts n b != bitAt (s.pos n).lvl b then 2 ^ b else 0).sum + (s.pos n).lvl / 64 * 64

/-- The record of a channel after a sample: an accepted input has its new level, and waits for none. -/
def State.takenRecord (s : State) (n : Nat) : PosS :=
  { s.pos n with
    lvl := s.takenLevels n
    since := (List.range 6).map fun b => if s.posAccepts n b then none else (s.pos n).since.getD b none }

/-- A sample in which an input is accepted hands the decoder the new levels. -/
theorem State.posSample_of_accepted (h : (List.range 6).any (s.posAccepts n) = true) :
    s.posSample n = (s.setPos n (s.takenRecord n)).posTake n (s.pos n).lvl (s.takenLevels n) :=
  if_neg (by rw [h]; decide)

theorem State.posSample_of_none_accepted (h : (List.range 6).any (s.posAccepts n) = false) : s.posSample n = s :=
  if_pos (by rw [h]; rfl)

/-- A sample of a channel that is not enabled decodes nothing. -/
theorem State.posSample_of_disabled (h : s.posEn n = false) : s.posSample n = s ∨ s.posSample n = s.setPos n (s.takenRecord n) := by
  cases hany : (List.range 6).any (s.posAccepts n) with
  | false => exact .inl (State.posSample_of_none_accepted hany)
  | true =>
    have hdis : (s.setPos n (s.takenRecord n)).posEn n = false := h
    exact .inr ((State.posSample_of_accepted hany).trans (State.posTake_of_disabled hdis _ _))

theorem State.raw_posSample_of_disabled (h : s.posEn n = false) : ((s.posSample n).pos n).raw = (s.pos n).raw := by
  obtain hnone | htake := State.posSample_of_disabled h
  · rw [hnone]
  · rw [htake, State.pos_setPos_same, State.takenRecord]

theorem OnlyPositions.posSample_of_disabled {t : State} {ks : List Nat} (honly : OnlyPositions s t ks) (h : t.posEn n = false) :
    OnlyPositions s (t.posSample n) ks := by
  obtain hnone | htake := State.posSample_of_disabled h
  · rwa [hnone]
  · rw [htake]
    exact honly.setPos _ _

/-- An input is accepted where its new level differs from the accepted one and has stood for FILT_N samples with the present one. -/
theorem State.posAccepts_posRaw (s : State) (n new : Nat) {b : Nat} (hb : b < 6) :
    (s.posRaw n new).posAccepts n b = (decide (bitAt new b ≠ bitAt (s.pos n).lvl b) &&
      decide (s.rd Reg.POS_FLT.FILT_N n ≤ s.now / 2 - ((s.pos n).since.getD b none).getD (s.now / 2) + 1)) := by
  have hget : ((s.posRaw n new).pos n).since.getD b none = if bitAt new b = bitAt (s.pos n).lvl b then none
      else ((s.pos n).since.getD b none).orElse fun _ => some (s.now / 2) := by
    simp [State.posRaw, List.getD_eq_getElem?_getD, hb]
  have hfilt : (s.posRaw n new).rd Reg.POS_FLT.FILT_N n = s.rd Reg.POS_FLT.FILT_N n := rfl
  have hnow : (s.posRaw n new).now = s.now := rfl
  unfold State.posAccepts
  rw [hget, hfilt, hnow]
  by_cases hbit : bitAt new b = bitAt (s.pos n).lvl b
  · simp [hbit]
  · cases (s.pos n).since.getD b none <;> simp [hbit]

/-- With every level low, a sample that accepts the rise of A alone leaves A high. -/
theorem State.takenLevels_of_rise (hlvl : (s.pos n).lvl = 0) (h : ∀ b < 6, s.posAccepts n b = decide (b = 0)) : s.takenLevels n = 1 := by
  have hlevel : ∀ b ∈ List.range 6, (if s.posAccepts n b != bitAt 0 b then 2 ^ b else 0) = if b = 0 then 1 else 0 := fun b hb => by
    rw [h b (List.mem_range.1 hb)]
    by_cases hb0 : b = 0 <;> simp [bitAt, hb0]
  rw [State.takenLevels, hlvl, List.map_congr_left hlevel]
  rfl

end

/-! ## Incremental encoders (R246) -/

section
variable {s : State} {n : Nat}

/-- Counts that reach an emulator show in its backlog and its overflow flag alone. -/
theorem State.rd_emuCount_of_lo {f : FD} {i j e : Nat} {k : Int} (hbacklog : f.lo % 32 ≠ 16) (hovf : f.lo % 32 ≠ 1) :
    (s.emuCount e k).rd f i j = s.rd f i j :=
  (State.rd_onlyIf_flag_of_lo hovf).trans (State.rd_wr_of_lo hbacklog)

theorem State.rd_emuFeed_of_lo {f : FD} {i j : Nat} {k : Int} (hbacklog : f.lo % 32 ≠ 16) (hovf : f.lo % 32 ≠ 1) :
    (s.emuFeed n k).rd f i j = s.rd f i j := by
  refine foldEach_preserves (P := fun t : State => t.rd f i j = s.rd f i j) (fun e t ht => ?_) _ rfl
  split
  · exact (State.rd_emuCount_of_lo hbacklog hovf).trans ht
  · exact ht

/-- A forward edge below the upper end of the range counts one up. -/
theorem State.rd_count_posStep_forward (hcpr : s.rd Reg.POS_CNT.COUNT n + 1 < s.cpr n) (hw : s.rd Reg.POS_CNT.COUNT n + 1 < 2 ^ 24) :
    (s.posStep n 1).rd Reg.POS_CNT.COUNT n = s.rd Reg.POS_CNT.COUNT n + 1 := by
  simp only [State.posStep, Int.zero_lt_one, if_true, if_neg (Nat.not_le.2 hcpr)]
  exact (State.rd_emuFeed_of_lo (by decide) (by decide)).trans ((State.rd_wr_of_lo (by decide)).trans (State.rd_wr_of_lt hw))

/-- From 00 to 10 is one step forward, and with Z low no index event. -/
theorem State.posAbz_forward (hrev : s.on Reg.POS_FLT.REVDIR n = false) (hgate : s.on Reg.POS_FLT.ZGATE n = false) :
    s.posAbz n 0 1 = s.posStep n 1 := by
  simp [State.posAbz, bitAt, quadPos, hrev, hgate]

/-- The first forward edge: with every level low, A rises and has stood for FILT_N samples (R244, R246). -/
theorem State.rd_count_first_edge (hen : s.posEn n = true) (hmode : s.posMode n = 0) (hlvl : (s.pos n).lvl = 0)
    (hrev : s.on Reg.POS_FLT.REVDIR n = false) (hgate : s.on Reg.POS_FLT.ZGATE n = false)
    (hcpr : s.rd Reg.POS_CNT.COUNT n + 1 < s.cpr n) (hw : s.rd Reg.POS_CNT.COUNT n + 1 < 2 ^ 24)
    (hfilt : s.rd Reg.POS_FLT.FILT_N n ≤ s.now / 2 - ((s.pos n).since.getD 0 none).getD (s.now / 2) + 1) :
    ((s.posRaw n 1).posSample n).rd Reg.POS_CNT.COUNT n = s.rd Reg.POS_CNT.COUNT n + 1 := by
  have haccept : ∀ b < 6, (s.posRaw n 1).posAccepts n b = decide (b = 0) := fun b hb => by
    rw [State.posAccepts_posRaw s n 1 hb, hlvl]
    rcases Nat.eq_zero_or_pos b with rfl | hb0
    · rw [decide_eq_true hfilt]
      rfl
    · have hbit : bitAt 1 b = bitAt 0 b := by interval_cases b <;> rfl
      simp [hbit, hb0.ne']
  have hlow : ((s.posRaw n 1).pos n).lvl = 0 := by simp [State.posRaw, hlvl, bits]
  have hany : (List.range 6).any ((s.posRaw n 1).posAccepts n) = true :=
    List.any_eq_true.2 ⟨0, List.mem_range.2 (by decide), haccept 0 (by decide)⟩
  rw [State.posSample_of_accepted hany, hlow, State.takenLevels_of_rise hlow haccept]
  set u := (s.posRaw n 1).setPos n ((s.posRaw n 1).takenRecord n)
  rw [State.posTake_abz (s := u) hen hmode, State.posAbz_forward (s := u) hrev hgate]
  exact (State.rd_showValid_of_off (by decide)).trans (State.rd_count_posStep_forward (s := u) hcpr hw)

end

/-! ## Estimates, timeouts and frames (R248, R251 to R253) -/

section
variable {s : State} {k : Fin 4}

theorem exec_posSpeedEstimate_due (hpresent : s.present islFPC = true) (hen : s.posEn k.val = true) (hmode : s.posMode k.val = 0)
    (hest : (s.pos k.val).est + 128 ≤ s.now) :
    exec (.posSpeedEstimate k) s = .next (s.setPos k.val { s.pos k.val with
      edges := s.keptEdges k.val, wm := s.estimate k.val (s.keptEdges k.val)
      w := filterSpeed (s.pos k.val).w (s.estimate k.val (s.keptEdges k.val)) (s.rd Reg.POS_SPDC.SPD_FLT k.val), est := s.now }) :=
  congrArg Host.Outcome.next (if_pos ⟨hpresent, hen, hmode, hest⟩)

/-- The record of a Hall channel after a timeout: the speed reads 0 and the angle takes the centre of a valid state (R251). -/
def State.stoodStill (s : State) (n : Nat) : PosS :=
  { s.pos n with w := 0, base := if hallOk (hallOf (s.pos n).lvl) then s.ctr n (hallOf (s.pos n).lvl) * 256 else (s.pos n).base }

theorem exec_hallTimeout_due (hpresent : s.present islFPC = true) (hen : s.posEn k.val = true) (hmode : s.posMode k.val = 1)
    (hdue : (s.pos k.val).at0 + s.rd Reg.POS_SPDC.SPD_TMO k.val * 1024 ≤ s.now) :
    exec (.hallTimeout k) s = .next (s.setPos k.val (s.stoodStill k.val)) :=
  congrArg Host.Outcome.next (if_pos ⟨hpresent, hen, hmode, hdue⟩)

theorem exec_ssiFrameDone_due (hpresent : s.present islFPC = true) (hbusy : (s.pos k.val).busy = true)
    (hdue : (s.pos k.val).reqAt + s.ssiLen k.val ≤ s.now) :
    exec (.ssiFrameDone k (BitVec.ofNat 32 (s.pos k.val).shift)) s = .next ((s.ssiFrame k.val (s.pos k.val).shift).showValid k.val) :=
  congrArg Host.Outcome.next (if_pos ⟨hpresent, hbusy, hdue, rfl⟩)

theorem exec_ssiFrameDone_otherBits {raw : BitVec 32} (h : raw ≠ BitVec.ofNat 32 (s.pos k.val).shift) :
    exec (.ssiFrameDone k raw) s = .next s := congrArg Host.Outcome.next (if_neg fun ⟨_, _, _, hraw⟩ => h hraw)

end

/-! ## COUNT, enables and clears of position channels (R247, R259, R260) -/

section
variable {s : State} {n : Nat} {m : Master} {k : Fin 4}

theorem exec_posCountWrite {v : BitVec 24} (h : s.ready (Reg.POS_CNT.COUNT.addr k.val 0) = true) :
    exec (.posCountWrite m k v) s = .next ((s.posLoad k.val v.toNat).ack m) := congrArg Host.Outcome.next (State.winWrite_ready h)

theorem exec_posEnable {on : Bool} (h : s.ready (Reg.POS_CTRL.EN.addr k.val 0) = true) :
    exec (.posEnable m k on) s = .next ((if on then s.posEnable k.val else s.posDisable k.val).ack m) :=
  congrArg Host.Outcome.next (State.winWrite_ready h)

theorem exec_posFaultClear (h : s.ready (Reg.POS_STAT.FAULT.addr k.val 0) = true) :
    exec (.posFaultClear m k) s = .next ((s.posClear k.val).ack m) := congrArg Host.Outcome.next (State.winWrite_ready h)

theorem State.posLoad_refused {v : Nat} (h : s.posMode n ≠ 0 ∨ s.cpr n ≤ v) : s.posLoad n v = s.flag Reg.POS_STAT.CFG_ERR n := if_pos h

/-- IDX_POS after a write of COUNT: it moves by the same amount, modulo CPR (R247). -/
def State.movedIdx (s : State) (n v : Nat) : Nat :=
  (((s.rd Reg.POS_IDXPOS.IDX_POS n : Int) + v - s.rd Reg.POS_CNT.COUNT n) % s.cpr n).toNat

theorem State.posLoad_accepted {v : Nat} (hmode : s.posMode n = 0) (hv : v < s.cpr n) :
    s.posLoad n v = (((s.setPos n { s.pos n with refd := true, first := true, wrAt := some (s.now / 2) }).wr Reg.POS_CNT.COUNT n v).wr
      Reg.POS_IDXPOS.IDX_POS n (s.movedIdx n v)).showValid n := if_neg (by omega)

theorem State.posLoad_accepted_spec {v : Nat} (hmode : s.posMode n = 0) (hv : v < s.cpr n) (hw : v < 2 ^ 24) :
    (s.posLoad n v).rd Reg.POS_CNT.COUNT n = v ∧ (s.posLoad n v).rd Reg.POS_IDXPOS.IDX_POS n = s.movedIdx n v % 2 ^ 24 ∧
      ((s.posLoad n v).pos n).refd = true ∧ ((s.posLoad n v).pos n).first = true ∧
      OnlyPositions s (s.posLoad n v) [Reg.POS_CNT.COUNT.key n 0, Reg.POS_IDXPOS.IDX_POS.key n 0, Reg.POS_STAT.VALID.key n 0] := by
  rw [State.posLoad_accepted hmode hv]
  refine ⟨?_, ?_, ?_, ?_, ?_⟩
  · exact (State.rd_showValid_of_off (by decide)).trans ((State.rd_wr_ne (FD.key_ne_of_off (by decide))).trans (State.rd_wr_of_lt hw))
  · exact (State.rd_showValid_of_off (by decide)).trans (State.rd_wr2_same _ _ _ _ _)
  · exact congrArg PosS.refd (State.pos_setPos_same _ _ _)
  · exact congrArg PosS.first (State.pos_setPos_same _ _ _)
  · exact ((((OnlyPositions.refl s _).setPos _ _).wr2 (by simp)).wr2 (by simp)).showValid (by simp)

theorem State.posEnable_refused (hen : s.posEn n = false) (hcfg : s.posCfgOk n = false) :
    s.posEnable n = s.flag Reg.POS_STAT.CFG_ERR n := by
  simp [State.posEnable, hen, hcfg]

/-- An enable starts the channel with a new record. -/
theorem State.posEnable_accepted (hen : s.posEn n = false) (hcfg : s.posCfgOk n = true) :
    ∃ r, s.posEnable n = (((s.setPos n r).flag Reg.POS_CTRL.EN n).wr Reg.POS_STAT.IDX_SEEN n 0).showValid n :=
  ⟨_, by simp [State.posEnable, hen, hcfg]; rfl⟩

theorem State.posEnable_accepted_spec (hen : s.posEn n = false) (hcfg : s.posCfgOk n = true) :
    (s.posEnable n).rd Reg.POS_CTRL.EN n = 1 ∧ (s.posEnable n).rd Reg.POS_STAT.IDX_SEEN n = 0 ∧
      OnlyPositions s (s.posEnable n) [Reg.POS_CTRL.EN.key n 0, Reg.POS_STAT.IDX_SEEN.key n 0, Reg.POS_STAT.VALID.key n 0] := by
  obtain ⟨r, henable⟩ := State.posEnable_accepted hen hcfg
  rw [henable]
  refine ⟨?_, ?_, ?_⟩
  · exact (State.rd_showValid_of_off (by decide)).trans ((State.rd_wr_of_lo (by decide)).trans (State.rd_flag rfl))
  · exact (State.rd_showValid_of_lo (by decide)).trans (State.rd_wr_of_lt (by decide))
  · exact ((((OnlyPositions.refl s _).setPos _ _).wr2 (by simp)).wr2 (by simp)).showValid (by simp)

theorem State.posDisable_refused (hen : s.posEn n = true) (hused : s.sensorUsed 1 n = true) :
    s.posDisable n = s.flag Reg.POS_STAT.CFG_ERR n := by
  simp [State.posDisable, hen, hused]

theorem State.posDisable_accepted (hen : s.posEn n = true) (hused : s.sensorUsed 1 n = false) :
    s.posDisable n = ((s.wr Reg.POS_CTRL.EN n 0).setPos n { s.pos n with busy := false }).showValid n := by
  simp [State.posDisable, hen, hused]

theorem State.posDisable_accepted_spec (hen : s.posEn n = true) (hused : s.sensorUsed 1 n = false) :
    (s.posDisable n).rd Reg.POS_CTRL.EN n = 0 ∧ (s.posDisable n).rd Reg.POS_STAT.VALID n = 0 ∧
      OnlyPositions s (s.posDisable n) [Reg.POS_CTRL.EN.key n 0, Reg.POS_STAT.VALID.key n 0] := by
  have hoff : (s.wr Reg.POS_CTRL.EN n 0).rd Reg.POS_CTRL.EN n = 0 := State.rd_wr_of_lt (by decide)
  rw [State.posDisable_accepted hen hused]
  refine ⟨(State.rd_showValid_of_off (by decide)).trans hoff, State.rd_valid_showValid_of_disabled (congrArg (· == 1) hoff), ?_⟩
  exact (((OnlyPositions.refl s _).wr2 (by simp)).setPos _ _).showValid (by simp)

theorem State.posClear_denied_ssi (hfault : s.on Reg.POS_STAT.FAULT n = true) (hmode : s.posMode n = 2) (hbad : (s.pos n).lastBad = true) :
    s.posClear n = s.flag Reg.POS_STAT.CLR_DENIED n := by
  simp [State.posClear, hfault, hmode, hbad]

/-- What the clear of a fault of the index check resets: the fault with its reason, CONSEC and IDX_SEEN. -/
def State.indexCleared (s : State) (n : Nat) : State :=
  (((s.wr Reg.POS_STAT.FAULT n 0).wr Reg.POS_STAT.FAULT_RSN n 0).wr Reg.POS_IDXPOS.CONSEC n 0).wr Reg.POS_STAT.IDX_SEEN n 0

/-- A clear of the index fault of a quadrature channel drops the reference (R259). -/
theorem State.posClear_index (hfault : s.on Reg.POS_STAT.FAULT n = true) (hmode : s.posMode n = 0)
    (hrsn : s.rd Reg.POS_STAT.FAULT_RSN n = 1) :
    s.posClear n = ((s.indexCleared n).setPos n { s.pos n with refd := false, first := true }).showValid n := by
  simp [State.posClear, State.indexCleared, hfault, hmode, hrsn]

theorem State.posClear_index_spec (hfault : s.on Reg.POS_STAT.FAULT n = true) (hmode : s.posMode n = 0)
    (hrsn : s.rd Reg.POS_STAT.FAULT_RSN n = 1) :
    (s.posClear n).rd Reg.POS_STAT.FAULT n = 0 ∧ (s.posClear n).rd Reg.POS_STAT.FAULT_RSN n = 0 ∧
      (s.posClear n).rd Reg.POS_IDXPOS.CONSEC n = 0 ∧ (s.posClear n).rd Reg.POS_STAT.IDX_SEEN n = 0 ∧
      ((s.posClear n).pos n).refd = false := by
  have hrd {f : FD} (hf : f.lo % 32 ≠ 0) : (s.posClear n).rd f n = (s.indexCleared n).rd f n := by
    rw [State.posClear_index hfault hmode hrsn, State.rd_showValid_of_lo hf, State.rd_setPos]
  refine ⟨?_, ?_, ?_, ?_, ?_⟩
  · exact (hrd (by decide)).trans ((State.rd_wr_of_lo (by decide)).trans ((State.rd_wr_of_lo (by decide)).trans
      ((State.rd_wr_of_lo (by decide)).trans (State.rd_wr_of_lt (by decide)))))
  · exact (hrd (by decide)).trans ((State.rd_wr_of_lo (by decide)).trans ((State.rd_wr_of_lo (by decide)).trans
      (State.rd_wr_of_lt (by decide))))
  · exact (hrd (by decide)).trans ((State.rd_wr_of_lo (by decide)).trans (State.rd_wr_of_lt (by decide)))
  · exact (hrd (by decide)).trans (State.rd_wr_of_lt (by decide))
  · rw [State.posClear_index hfault hmode hrsn, State.pos_showValid, State.pos_setPos_same]

end

/-! ## Resolvers (R254 to R260) -/

section
variable {s : State} {r : Nat} {m : Master} {k : Fin 2}

theorem exec_rsEnable {on : Bool} (h : s.ready (Reg.RS_CTRL.EN.addr k.val 0) = true) :
    exec (.rsEnable m k on) s = .next ((if on then s.rsEnable k.val else s.rsDisable k.val).ack m) :=
  congrArg Host.Outcome.next (State.winWrite_ready h)

theorem exec_rsFaultClear (h : s.ready (Reg.RS_STAT.FAULT.addr k.val 0) = true) :
    exec (.rsFaultClear m k) s = .next ((s.rsClear k.val).ack m) := congrArg Host.Outcome.next (State.winWrite_ready h)

theorem State.rd_rsValid_of_lo {f : FD} {i j : Nat} (h : f.lo % 32 ≠ 0) : (s.rsValid r).rd f i j = s.rd f i j := State.rd_wr_of_lo h

theorem State.rd_rsValid_of_off {f : FD} (h : f.blk = 6 ∧ f.s1 = 0x100 ∧ f.lo = 0 ∧ f.off ≠ 0x404) : (s.rsValid r).rd f r = s.rd f r :=
  State.rd_wr_ne (FD.key_ne_of_off h)

theorem State.rsv_rsValid (s : State) (r k : Nat) : (s.rsValid r).rsv k = s.rsv k := rfl

/-- A resolver with a fault shows VALID = 0 (R257). -/
theorem State.rd_valid_rsValid_of_fault (h : s.on Reg.RS_STAT.FAULT r = true) : (s.rsValid r).rd Reg.RS_STAT.VALID r = 0 :=
  (State.rd_wr_of_lt (b2n_lt_two _)).trans (by simp only [h, Bool.not_true, Bool.and_false, b2n, Bool.false_eq_true, if_false])

theorem State.rsFault_rsValid_spec (s : State) (r : Nat) {rsn : Nat} (hrsn : rsn < 16) :
    ((s.rsFault r rsn).rsValid r).rd Reg.RS_STAT.FAULT r = 1 ∧ ((s.rsFault r rsn).rsValid r).rd Reg.RS_STAT.FAULT_RSN r = rsn ∧
      ((s.rsFault r rsn).rsValid r).rd Reg.RS_STAT.VALID r = 0 ∧
      OnlyRegs s ((s.rsFault r rsn).rsValid r) [Reg.RS_STAT.FAULT.key r 0, Reg.RS_STAT.FAULT_RSN.key r 0, Reg.RS_STAT.VALID.key r 0] := by
  have hfault : (s.rsFault r rsn).rd Reg.RS_STAT.FAULT r = 1 := (State.rd_wr_of_lo (by decide)).trans (State.rd_flag rfl)
  refine ⟨(State.rd_rsValid_of_lo (by decide)).trans hfault, (State.rd_rsValid_of_lo (by decide)).trans (State.rd_wr_of_lt hrsn),
    State.rd_valid_rsValid_of_fault (by rw [State.on_eq, hfault]; rfl), ?_⟩
  exact (((OnlyRegs.refl s _).wr2 (by simp)).wr2 (by simp)).wr2 (by simp)

theorem exec_excFault_enabled (hfpc : s.present islFPC = true) (hrxc : s.present islRXC = true) (hen : s.on Reg.RS_CTRL.EN k.val = true) :
    exec (.excFault k) s = .next ((s.rsFault k.val 4).rsValid k.val) := by
  simp only [exec, execExcFault, hfpc, hrxc, hen, Bool.and_self, if_true]

/-- What a converter of a resolver measures at a peak, in 2^-15; a sample at a negative peak is negated (R255). -/
def State.peakSample (s : State) (adc : Nat) (neg : Bool) (nv : Int) : Int :=
  (if neg then -1 else 1) * (((s.correct adc (rawCode nv)).1 : Int) - 32768)

/-- A sample pair at a peak: Rowan tracks it, and FPC does where it is present and the sample link is up (R255, R256). -/
theorem exec_resolverSamplePair_peak {neg : Bool} {nvS nvC sn cs : Int} (hruns : s.excRuns k.val = true)
    (hpeak : s.excPeak k.val neg = true) (hsin : s.present (islAdc (s.rd Reg.RS_ADC.SIN_ADC k.val)) = true)
    (hcos : s.present (islAdc (s.rd Reg.RS_ADC.COS_ADC k.val)) = true) (hsn : sn = s.peakSample (s.rd Reg.RS_ADC.SIN_ADC k.val) neg nvS)
    (hcs : cs = s.peakSample (s.rd Reg.RS_ADC.COS_ADC k.val) neg nvC) :
    exec (.resolverSamplePair k neg nvS nvC) s = .next (
      if (s.rowTrack k.val sn cs).present islFPC && !(s.rowTrack k.val sn cs).links.sample then
        (((s.rowTrack k.val sn cs).rsTrack k.val sn cs).rsJudge k.val).rsShow k.val
      else s.rowTrack k.val sn cs) := by
  subst hsn hcs
  exact congrArg Host.Outcome.next (if_pos (by simp only [hruns, hpeak, hsin, hcos, Bool.and_self]))

theorem State.rsEnable_refused (hen : s.on Reg.RS_CTRL.EN r = false)
    (h : s.rd Reg.RS_TRK.KP r = 0 ∨ s.rd Reg.RS_ADC.SIN_ADC r = s.rd Reg.RS_ADC.COS_ADC r) :
    s.rsEnable r = s.flag Reg.RS_STAT.CFG_ERR r := by
  rcases h with h | h <;> simp [State.rsEnable, hen, h]

/-- The resources that the enable of a resolver claims (R254). -/
def State.rsIds (s : State) (r : Nat) : List Nat :=
  [0xB00 + r, 0x200 + s.rd Reg.RS_ADC.SIN_ADC r, 0x200 + s.rd Reg.RS_ADC.COS_ADC r]

/-- The configuration with which a resolver may be enabled (R260). -/
structure State.RsCfgOk (s : State) (r : Nat) : Prop where
  mulPos : 1 ≤ s.rd Reg.RS_PH.ELEC_MUL r
  mulLe : s.rd Reg.RS_PH.ELEC_MUL r ≤ 32
  kp : s.rd Reg.RS_TRK.KP r ≠ 0
  ki : s.rd Reg.RS_TRK.KI r ≠ 0
  adcs : s.rd Reg.RS_ADC.SIN_ADC r ≠ s.rd Reg.RS_ADC.COS_ADC r
  sin : s.paired (s.rd Reg.RS_ADC.SIN_ADC r) = false
  cos : s.paired (s.rd Reg.RS_ADC.COS_ADC r) = false

theorem State.rsEnable_granted (hen : s.on Reg.RS_CTRL.EN r = false) (hcfg : s.RsCfgOk r)
    (hfree : s.claimBlock (s.rsOwner r) (s.rsIds r) = none) :
    s.rsEnable r = ((((s.takeFree (s.rsOwner r) (s.rsIds r)).setRsv r { RsS.init with owner := s.rsOwner r, claims := s.rsIds r }).flag
      Reg.RS_CTRL.EN r).wr Reg.RS_STAT.LOCK r 0).rsValid r := by
  obtain ⟨hpos, hle, hkp, hki, hadcs, hsin, hcos⟩ := hcfg
  have hcfg : ¬(s.rd Reg.RS_PH.ELEC_MUL r < 1 ∨ 32 < s.rd Reg.RS_PH.ELEC_MUL r ∨ s.rd Reg.RS_TRK.KP r = 0 ∨ s.rd Reg.RS_TRK.KI r = 0 ∨
      s.rd Reg.RS_ADC.SIN_ADC r = s.rd Reg.RS_ADC.COS_ADC r ∨ s.paired (s.rd Reg.RS_ADC.SIN_ADC r) = true ∨
      s.paired (s.rd Reg.RS_ADC.COS_ADC r) = true) := by
    simp only [hkp, hki, hadcs, hsin, hcos, Bool.false_eq_true, or_false]
    omega
  rw [State.rsEnable]
  dsimp only
  rw [hen, if_neg Bool.false_ne_true, if_neg hcfg]
  exact State.claimAll_granted hfree

theorem State.rsEnable_granted_spec (hen : s.on Reg.RS_CTRL.EN r = false) (hcfg : s.RsCfgOk r)
    (hfree : s.claimBlock (s.rsOwner r) (s.rsIds r) = none) :
    (s.rsEnable r).rd Reg.RS_CTRL.EN r = 1 ∧ (s.rsEnable r).rd Reg.RS_STAT.LOCK r = 0 ∧ ((s.rsEnable r).rsv r).claims = s.rsIds r := by
  rw [State.rsEnable_granted hen hcfg hfree]
  refine ⟨?_, ?_, ?_⟩
  · exact (State.rd_rsValid_of_off (by decide)).trans ((State.rd_wr_of_lo (by decide)).trans (State.rd_flag rfl))
  · exact (State.rd_rsValid_of_lo (by decide)).trans (State.rd_wr_of_lt (by decide))
  · rw [State.rsv_rsValid, State.wr_eq, State.rsv_wr2, State.flag_eq, State.rsv_wr2, State.rsv_setRsv_same]

theorem State.rsDisable_disabled (hen : s.on Reg.RS_CTRL.EN r = false) : s.rsDisable r = s := by
  simp [State.rsDisable, hen]

theorem State.rsDisable_refused (hen : s.on Reg.RS_CTRL.EN r = true) (hused : s.sensorUsed 2 r = true) :
    s.rsDisable r = s.flag Reg.RS_STAT.CFG_ERR r := by
  simp [State.rsDisable, hen, hused]

theorem State.rsClear_denied (hfault : s.on Reg.RS_STAT.FAULT r = true) (h : (s.rsv r).inWin = false ∨ (s.rsv r).lastTrk = false) :
    s.rsClear r = s.flag Reg.RS_STAT.CLR_DENIED r := by
  rcases h with h | h <;> simp [State.rsClear, hfault, h]

theorem State.rsClear_accepted (hfault : s.on Reg.RS_STAT.FAULT r = true) (hwin : (s.rsv r).inWin = true)
    (htrk : (s.rsv r).lastTrk = true) :
    s.rsClear r = ((s.wr Reg.RS_STAT.FAULT r 0).wr Reg.RS_STAT.FAULT_RSN r 0).rsValid r := by
  simp [State.rsClear, hfault, hwin, htrk]

theorem State.rsClear_accepted_spec (hfault : s.on Reg.RS_STAT.FAULT r = true) (hwin : (s.rsv r).inWin = true)
    (htrk : (s.rsv r).lastTrk = true) :
    (s.rsClear r).rd Reg.RS_STAT.FAULT r = 0 ∧ (s.rsClear r).rd Reg.RS_STAT.FAULT_RSN r = 0 ∧
      OnlyRegs s (s.rsClear r) [Reg.RS_STAT.FAULT.key r 0, Reg.RS_STAT.FAULT_RSN.key r 0, Reg.RS_STAT.VALID.key r 0] := by
  rw [State.rsClear_accepted hfault hwin htrk]
  refine ⟨?_, ?_, (((OnlyRegs.refl s _).wr2 (by simp)).wr2 (by simp)).wr2 (by simp)⟩
  · exact (State.rd_rsValid_of_lo (by decide)).trans ((State.rd_wr_of_lo (by decide)).trans (State.rd_wr_of_lt (by decide)))
  · exact (State.rd_rsValid_of_lo (by decide)).trans (State.rd_wr_of_lt (by decide))

end

/-! ## Encoder emulators (R261, R262) -/

section
variable {s : State} {e : Nat} {m : Master} {k : Fin 4}

theorem exec_emuEnable {on : Bool} (h : s.ready (Reg.EMU_CTRL.EN.addr k.val 0) = true) :
    exec (.emuEnable m k on) s = .next ((if on then s.emuEnable k.val else s.emuDisable k.val).ack m) :=
  congrArg Host.Outcome.next (State.winWrite_ready h)

theorem State.emuEnable_refused (hen : s.on Reg.EMU_CTRL.EN e = false)
    (h : s.rd Reg.EMU_PQ.P e = 0 ∨ s.rd Reg.EMU_PQ.Q e < s.rd Reg.EMU_PQ.P e) : s.emuEnable e = s.flag Reg.EMU_STAT.CFG_ERR e := by
  rcases h with h | h <;> simp [State.emuEnable, hen, h]

/-- The configuration with which an emulator may be enabled (R262). -/
structure State.EmuCfgOk (s : State) (e : Nat) : Prop where
  pPos : 1 ≤ s.rd Reg.EMU_PQ.P e
  pLe : s.rd Reg.EMU_PQ.P e ≤ s.rd Reg.EMU_PQ.Q e
  src : s.rd Reg.EMU_CTRL.SRC e ≤ 5
  mint : s.rd Reg.EMU_CTRL.MINT e ≠ 0
  pins : hasDup (s.emuPins e) = false

/-- An enable starts the emulator with a new record and an empty backlog, on the lands that it has claimed. -/
theorem State.emuEnable_granted (hen : s.on Reg.EMU_CTRL.EN e = false) (hcfg : s.EmuCfgOk e)
    (hfree : s.claimBlock (0x20 + e) ((s.emuPins e).map (0xA00 + ·)) = none) :
    ∃ r, s.emuEnable e = ((((s.takeFree (0x20 + e) ((s.emuPins e).map (0xA00 + ·))).setEmu e r).flag Reg.EMU_CTRL.EN e).flag
      Reg.EMU_STAT.RUN e).wr Reg.EMU_STAT.BACKLOG e 0 := by
  obtain ⟨hpos, hle, hsrc, hmint, hpins⟩ := hcfg
  have hcfg : ¬(s.rd Reg.EMU_PQ.P e = 0 ∨ s.rd Reg.EMU_PQ.Q e = 0 ∨ s.rd Reg.EMU_PQ.Q e < s.rd Reg.EMU_PQ.P e ∨
      5 < s.rd Reg.EMU_CTRL.SRC e ∨ s.rd Reg.EMU_CTRL.MINT e = 0 ∨ hasDup (s.emuPins e) = true) := by
    simp only [hmint, hpins, Bool.false_eq_true, or_false]
    omega
  rw [State.emuEnable]
  dsimp only
  rw [hen, if_neg Bool.false_ne_true, if_neg hcfg]
  exact ⟨_, State.claimAll_granted hfree⟩

theorem State.emuEnable_granted_spec (hen : s.on Reg.EMU_CTRL.EN e = false) (hcfg : s.EmuCfgOk e)
    (hfree : s.claimBlock (0x20 + e) ((s.emuPins e).map (0xA00 + ·)) = none) :
    (s.emuEnable e).rd Reg.EMU_CTRL.EN e = 1 ∧ (s.emuEnable e).rd Reg.EMU_STAT.RUN e = 1 ∧
      (s.emuEnable e).rd Reg.EMU_STAT.BACKLOG e = 0 := by
  obtain ⟨r, henable⟩ := State.emuEnable_granted hen hcfg hfree
  rw [henable]
  refine ⟨?_, (State.rd_wr_of_lo (by decide)).trans (State.rd_flag rfl), State.rd_wr_of_lt (by decide)⟩
  exact (State.rd_wr_of_lo (by decide)).trans ((State.rd_wr_ne (FD.key_ne_of_off (by decide))).trans (State.rd_flag rfl))

theorem State.emuDisable_disabled (hen : s.on Reg.EMU_CTRL.EN e = false) : s.emuDisable e = s := by
  simp [State.emuDisable, hen]

/-- The record of an emulator after a step forward; a Z that is due shows where ZEN lets it. -/
def EmuS.stepped (r : EmuS) (now : Nat) (zen : Bool) : EmuS :=
  { r with ab := (r.ab + 1) % 4, stepAt := some now, z := r.zDue && zen, zDue := false }

/-- A step with a positive backlog moves the outputs one state forward and the backlog one toward 0 (R261). -/
theorem exec_emuStep_forward (hpresent : s.present islFPC = true) (hen : s.on Reg.EMU_CTRL.EN k.val = true)
    (hpos : 0 < s.rdI Reg.EMU_STAT.BACKLOG k.val) (hfirst : (s.emu k.val).stepAt = none) :
    exec (.emuStep k) s = .next ((s.setEmu k.val ((s.emu k.val).stepped s.now (s.on Reg.EMU_CTRL.ZEN k.val))).wrI Reg.EMU_STAT.BACKLOG k.val
      (s.rdI Reg.EMU_STAT.BACKLOG k.val - 1)) := by
  simp only [exec, execEmuStep, hpresent, hen, hfirst, bne_iff_ne.2 hpos.ne', Bool.and_self, if_true, if_pos hpos, EmuS.stepped]

theorem exec_emuStep_idle (h : s.rdI Reg.EMU_STAT.BACKLOG k.val = 0) : exec (.emuStep k) s = .next s := by
  simp [exec, execEmuStep, h]

end

end Sys2Proof.Machine

open Sys2Proof Sys2Proof.Machine

/-! ## The obligation -/

/-- Settles O19, clause by clause from what each command does to the channel and to the registers that show it. -/
theorem positionResolversAndEmulators : Obligations.PositionResolversAndEmulators := by
  unfold Obligations.PositionResolversAndEmulators
  refine ⟨fun n lv s hpresent hdis => ?levels, fun n lv s hpresent hen hmode hlvl hnew hrev hgate hcpr hw hfilt => ?edge,
    fun n es s hpresent hen hmode hest hes => ?estimate, fun n s hpresent hen hmode hdue => ?hall,
    fun m n v s hready => ⟨fun hbad => ?countRefused, fun hmode hv => ?countLoaded⟩,
    fun n s hpresent hbusy hdue => ⟨exec_ssiFrameDone_due hpresent hbusy hdue, fun raw => exec_ssiFrameDone_otherBits⟩,
    fun r neg nvS nvC s sn cs hruns hpeak hsin hcos hsn hcs => ⟨fun hfpc hlink => ?pairTaken, fun hfpc => ?pairByRowan⟩,
    fun r s hfpc hrxc hen => ?excFault,
    fun m n s hready => ⟨fun hdis hcfg => ?posRefused, fun hdis hcfg => ?posEnabled, fun hen hused => ?posHeld,
      fun hen hused => ?posDisabled⟩,
    fun m r s hready hdis => ⟨fun hcfg => ?rsRefused, ?rsOff⟩,
    fun m r s hready hdis hpos hle hkp hki hadcs hsin hcos hfree => ?rsEnabled, fun m r s hready hen hused => ?rsHeld,
    fun m n s hready hfault => ⟨fun ⟨hmode, hbad⟩ => ?posDenied, fun hmode hrsn => ?posCleared⟩,
    fun m r s hready hfault => ⟨fun hcause => ?rsDenied, fun hwin htrk => ?rsCleared⟩,
    fun m e s hready hdis => ⟨fun hcfg => ?emuRefused, ?emuOff⟩,
    fun m e s hready hdis hpos hle hsrc hmint hpins hfree => ?emuEnabled,
    fun e s hpresent hen hpos hfirst => ?emuStep, fun e s => exec_emuStep_idle⟩
  case levels =>
    have hraw := State.raw_posSample_of_disabled (s := s.posRaw n.val (s.routedLevels n.val lv.toNat)) hdis
    exact ⟨_, exec_posInputAccept hpresent, hraw.trans (s.raw_posRaw _ _),
      ((OnlyPositions.refl s []).setPos _ _).posSample_of_disabled hdis⟩
  case edge =>
    have hcount := State.rd_count_first_edge hen hmode hlvl hrev hgate hcpr hw hfilt
    exact ⟨_, exec_posInputAccept hpresent, (congrArg (fun lv => State.rd ((s.posRaw n.val lv).posSample n.val) _ _ _) hnew).trans hcount⟩
  case estimate =>
    subst hes
    exact ⟨_, exec_posSpeedEstimate_due hpresent hen hmode hest, State.pos_setPos_same _ _ _, OnlyPositions.refl s []⟩
  case hall =>
    have hpos := s.pos_setPos_same n.val (s.stoodStill n.val)
    exact ⟨_, exec_hallTimeout_due hpresent hen hmode hdue, congrArg PosS.w hpos, (congrArg PosS.at0 hpos :), OnlyPositions.refl s []⟩
  case countRefused =>
    rw [exec_posCountWrite hready, State.posLoad_refused hbad]
    exact ⟨_, rfl, s.flag_ack_spec rfl _ _⟩
  case countLoaded =>
    obtain ⟨hcount, hidx, hrefd, hfirst, honly⟩ := State.posLoad_accepted_spec hmode hv v.isLt
    exact ⟨_, exec_posCountWrite hready, hcount, hidx, hrefd, hfirst, honly.setResp⟩
  case pairTaken =>
    rw [exec_resolverSamplePair_peak hruns hpeak hsin hcos hsn hcs, hfpc, hlink]
    rfl
  case pairByRowan =>
    rw [exec_resolverSamplePair_peak hruns hpeak hsin hcos hsn hcs, hfpc]
    rfl
  case excFault =>
    obtain ⟨hfault, hrsn, hvalid, honly⟩ := s.rsFault_rsValid_spec r.val (rsn := 4) (by decide)
    exact ⟨_, exec_excFault_enabled hfpc hrxc hen, hfault, hrsn, hvalid, honly⟩
  case posRefused =>
    rw [exec_posEnable hready, if_pos rfl, State.posEnable_refused hdis hcfg]
    exact ⟨_, rfl, s.flag_ack_spec rfl _ _⟩
  case posEnabled =>
    obtain ⟨hen, hseen, honly⟩ := State.posEnable_accepted_spec hdis hcfg
    exact ⟨_, exec_posEnable hready, hen, hseen, honly.setResp⟩
  case posHeld =>
    rw [exec_posEnable hready, if_neg Bool.false_ne_true, State.posDisable_refused hen hused]
    exact ⟨_, rfl, s.flag_ack_spec rfl _ _⟩
  case posDisabled =>
    obtain ⟨hoff, hvalid, honly⟩ := State.posDisable_accepted_spec hen hused
    exact ⟨_, exec_posEnable hready, hoff, hvalid, honly.setResp⟩
  case rsRefused =>
    rw [exec_rsEnable hready, if_pos rfl, State.rsEnable_refused hdis hcfg]
    exact ⟨_, rfl, s.flag_ack_spec rfl _ _⟩
  case rsOff =>
    rw [exec_rsEnable hready, if_neg Bool.false_ne_true, State.rsDisable_disabled hdis]
    exact ⟨_, rfl, (OnlyRegs.refl s []).setResp⟩
  case rsEnabled =>
    obtain ⟨hen, hlock, hclaims⟩ := State.rsEnable_granted_spec hdis ⟨hpos, hle, hkp, hki, hadcs, hsin, hcos⟩ hfree
    have hexec := exec_rsEnable (m := m) (on := true) hready
    exact ⟨_, hexec, hen, hlock, hclaims, (exec_quiet rfl hexec).mem⟩
  case rsHeld =>
    rw [exec_rsEnable hready, if_neg Bool.false_ne_true, State.rsDisable_refused hen hused]
    exact ⟨_, rfl, s.flag_ack_spec rfl _ _⟩
  case posDenied =>
    rw [exec_posFaultClear hready, State.posClear_denied_ssi hfault hmode hbad]
    exact ⟨_, rfl, s.flag_ack_spec rfl _ _⟩
  case posCleared =>
    exact ⟨_, exec_posFaultClear hready, State.posClear_index_spec hfault hmode hrsn⟩
  case rsDenied =>
    rw [exec_rsFaultClear hready, State.rsClear_denied hfault hcause]
    exact ⟨_, rfl, s.flag_ack_spec rfl _ _⟩
  case rsCleared =>
    obtain ⟨hfault, hrsn, honly⟩ := State.rsClear_accepted_spec hfault hwin htrk
    exact ⟨_, exec_rsFaultClear hready, hfault, hrsn, honly.setResp⟩
  case emuRefused =>
    rw [exec_emuEnable hready, if_pos rfl, State.emuEnable_refused hdis hcfg]
    exact ⟨_, rfl, s.flag_ack_spec rfl _ _⟩
  case emuOff =>
    rw [exec_emuEnable hready, if_neg Bool.false_ne_true, State.emuDisable_disabled hdis]
    exact ⟨_, rfl, (OnlyRegs.refl s []).setResp⟩
  case emuEnabled =>
    obtain ⟨hen, hrun, hbacklog⟩ := State.emuEnable_granted_spec hdis ⟨hpos, hle, hsrc, hmint, hpins⟩ hfree
    have hexec := exec_emuEnable (m := m) (on := true) hready
    exact ⟨_, hexec, hen, hrun, hbacklog, (exec_quiet rfl hexec).mem⟩
  case emuStep =>
    have hemu := s.emu_setEmu_same e.val ((s.emu e.val).stepped s.now (s.on Reg.EMU_CTRL.ZEN e.val))
    refine ⟨_, exec_emuStep_forward hpresent hen hpos hfirst, congrArg EmuS.ab hemu, congrArg EmuS.stepAt hemu, ?_,
      OnlyRegs.wr2 (OnlyRegs.refl s _) (by simp)⟩
    exact (State.rd_wr2_same _ _ _ _ _).trans (uns_mod _ _)

end

section
/-! PROOFS. The statements of spec/12_processor_complex.md on the commit voter and on the controls of the complex. -/

namespace Sys2Proof.Machine

/-! ## Bits of a mask -/

theorem bitAt_eq_testBit (n i : Nat) : bitAt n i = n.testBit i := by
  rw [bitAt, Nat.testBit_eq_decide_div_mod_eq, beq_eq_decide]

theorem bitAt_withBit_same (n i : Nat) : bitAt (withBit n i) i = true := by
  unfold withBit
  split
  · assumption
  · next h =>
    rw [bitAt_eq_testBit] at h ⊢
    rw [Nat.add_comm, Nat.testBit_two_pow_add_eq, Bool.eq_false_of_not_eq_true h, Bool.not_false]

/-- A mask that holds a bit is that bit and the mask without it. -/
theorem withoutBit_add (n i : Nat) (h : bitAt n i = true) : 2 ^ i + withoutBit n i = n := by
  rw [withoutBit, if_pos h]
  rw [bitAt_eq_testBit] at h
  exact Nat.add_sub_of_le (Nat.ge_two_pow_of_testBit h)

theorem bitAt_withoutBit_same (n i : Nat) : bitAt (withoutBit n i) i = false := by
  by_cases h : bitAt n i = true
  · have hsum := Nat.testBit_two_pow_add_eq (withoutBit n i) i
    rw [withoutBit_add n i h, ← bitAt_eq_testBit, ← bitAt_eq_testBit, h] at hsum
    simpa using hsum.symm
  · rw [withoutBit, if_neg h]
    exact Bool.eq_false_of_not_eq_true h

/-- Another bit of a mask is as before once a bit is cleared. -/
theorem bitAt_withoutBit_ne {n i j : Nat} (hij : j ≠ i) : bitAt (withoutBit n i) j = bitAt n j := by
  by_cases h : bitAt n i = true
  · have hsum := withoutBit_add n i h
    simp only [bitAt_eq_testBit]
    rcases Nat.lt_or_gt_of_ne hij with hlt | hgt
    · rw [← hsum, Nat.testBit_two_pow_add_gt hlt, hsum]
    · obtain ⟨d, rfl⟩ := Nat.exists_eq_add_of_lt hgt
      have hclear : withoutBit n i / 2 ^ i % 2 = 0 := by
        have := bitAt_withoutBit_same n i
        simp only [bitAt, beq_eq_false_iff_ne] at this
        omega
      have hquot : n / 2 ^ i = withoutBit n i / 2 ^ i + 1 := by
        rw [← Nat.add_div_left _ (Nat.two_pow_pos i), hsum]
      have hhigh : withoutBit n i / 2 ^ i / 2 = n / 2 ^ i / 2 := by omega
      rw [Nat.add_assoc, Nat.add_comm i, Nat.testBit_add _ (d + 1) i, Nat.testBit_add _ (d + 1) i, Nat.testBit_succ, Nat.testBit_succ, hhigh]
  · rw [withoutBit, if_neg h]

/-! ## What a change of the complex leaves alone -/

@[simp] theorem State.rd_setCpx (s : State) (c : CpxS) (f : FD) (i j : Nat) : (s.setCpx c).rd f i j = s.rd f i j := rfl

/-- The fields in which a report of the complex shows: CPX_LOST of Rowan, and the event of its change (R279, R314). -/
def reportKeys : List Nat := [Reg.ROW_STATUS.CPX_LOST.key 0 0, Reg.CPX_IRQ_PEND.PEND.key 1 0]

theorem State.regsBut_cpxReport (s : State) (r : Nat) : RegsBut s (s.cpxReport r) reportKeys := by
  unfold State.cpxReport
  split
  · exact RegsBut.refl s _
  unfold State.rowStatus
  split
  · exact (RegsBut.refl s _).of_eq rfl
  · exact (((RegsBut.refl s _).of_eq (u := { s with rowg := { s.rowg with rep := r, dis := s.rowg.dis || r == 4, repAt := s.now } }) rfl).wr2
      (by simp [reportKeys])).wr2 (by simp [reportKeys])

theorem State.regsBut_sendReport (s : State) : RegsBut s s.sendReport reportKeys := by
  unfold State.sendReport
  split
  · exact s.regsBut_cpxReport _
  · exact RegsBut.refl s _

theorem State.rd_sendReport {s : State} {f : FD} {i j : Nat} (h : f.key i j ∉ reportKeys) : s.sendReport.rd f i j = s.rd f i j :=
  s.regsBut_sendReport.rd_eq h

theorem State.mem_sendReport (s : State) : s.sendReport.mem = s.mem := (State.sendReport_quiet (Quiet.refl s)).mem

/-- An event of the complex shows in the registers of Alder alone. -/
theorem State.rd_cpxLog {s : State} {c : Nat} {f : FD} {i j : Nat} (h : f.key i j ∉ logKeys) : (s.cpxLog c).rd f i j = s.rd f i j :=
  (s.regsBut_logEv _ _ _).rd_eq h

@[simp] theorem State.cpx_logEv (s : State) (code src : Nat) (data : List Nat) : (s.logEv code src data).cpx = s.cpx := by
  unfold State.logEv
  split
  · rfl
  split
  · rfl
  split <;> rfl

@[simp] theorem State.cpx_cpxLog (s : State) (c : Nat) : (s.cpxLog c).cpx = s.cpx := s.cpx_logEv _ _ _

/-! ## Mismatches (R294, R301, R302) -/

theorem outvReg_w (c : Nat) : (outvReg c).w = 8 := by
  match c with
  | 0 | 1 | _ + 2 => rfl

/-- A mismatch of register writes is shown as a mismatch of that register, whichever item is shown. -/
theorem State.lastOf_regs {s : State} {core pc : Nat} {i : Fin 64} {vs : List (BitVec 32)} (h : vs ≠ []) :
    s.lastOf core pc (vs.map fun v => some (.reg i v)) = s.lastMismatch 0 core i.val pc := by
  have hitems : (vs.map fun v => some (Item.reg i v)).filterMap id = vs.map (Item.reg i) := by
    simp [List.filterMap_map]
  have hshown : Config.itemShown pc % (vs.map (Item.reg i)).length < (vs.map (Item.reg i)).length :=
    Nat.mod_lt _ (by simpa [List.length_pos_iff] using h)
  simp only [State.lastOf, hitems, List.length_map, Nat.lt_irrefl, if_false]
  rw [List.length_map] at hshown
  simp [hshown, Item.kind, Item.number]

theorem State.lastMismatch_spec (s : State) {kind core item pc : Nat} (hkind : kind < 2 ^ 4) (hcore : core < 2 ^ 2) (hitem : item < 2 ^ 12)
    (hpc : pc < 2 ^ 32) :
    (s.lastMismatch kind core item pc).rd Reg.CPX_LAST.KIND = kind ∧ (s.lastMismatch kind core item pc).rd Reg.CPX_LAST.CORE = core ∧
      (s.lastMismatch kind core item pc).rd Reg.CPX_LAST.ITEM = item ∧ (s.lastMismatch kind core item pc).rd Reg.CPX_LAST_PC.PC = pc := by
  refine ⟨?_, ?_, ?_, State.rd_wr_of_lt hpc⟩
  · exact (State.rd_wr_ne (by decide)).trans ((State.rd_wr_ne (by decide)).trans ((State.rd_wr_ne (by decide)).trans (State.rd_wr_of_lt hkind)))
  · exact (State.rd_wr_ne (by decide)).trans ((State.rd_wr_ne (by decide)).trans (State.rd_wr_of_lt hcore))
  · exact (State.rd_wr_ne (by decide)).trans (State.rd_wr_of_lt hitem)

/-- The fields of CPX_LAST and CPX_LAST_PC. -/
def lastKeys : List Nat := [Reg.CPX_LAST.KIND.key 0 0, Reg.CPX_LAST.CORE.key 0 0, Reg.CPX_LAST.ITEM.key 0 0, Reg.CPX_LAST_PC.PC.key 0 0]

theorem State.rd_lastMismatch {s : State} {kind core item pc : Nat} {f : FD} {i j : Nat} (h : f.key i j ∉ lastKeys) :
    (s.lastMismatch kind core item pc).rd f i j = s.rd f i j :=
  RegsBut.rd_eq (((((RegsBut.refl s _).wr2 (by simp [lastKeys])).wr2 (by simp [lastKeys])).wr2 (by simp [lastKeys])).wr2 (by simp [lastKeys])) h

/-- The fields in which the outvote of a core shows (R294, R298). -/
def outvoteKeys (c : Nat) : List Nat := [Reg.CPX_STATUS.ACT.key 0 0, Reg.CPX_EVT.OUTVOTE.key 0 0, (outvReg c).key 0 0] ++ logKeys

/-- A core that is outvoted leaves the running cores and is counted; the record of the complex takes its exclusion and the count. -/
theorem State.outvote_eq (s : State) (c : Nat) :
    ∃ p, p.excl = withBit s.cpx.excl c ∧ s.outvote c =
      ((((s.wr Reg.CPX_STATUS.ACT 0 (withoutBit s.act c)).flag Reg.CPX_EVT.OUTVOTE 0).bump (outvReg c) 0).setCpx p).cpxLog c :=
  ⟨_, by rfl, rfl⟩

theorem State.regsBut_outvote (s : State) (c : Nat) : RegsBut s (s.outvote c) (outvoteKeys c) := by
  obtain ⟨p, -, heq⟩ := s.outvote_eq c
  rw [heq]
  refine RegsBut.trans (t := ((((s.wr Reg.CPX_STATUS.ACT 0 (withoutBit s.act c)).flag Reg.CPX_EVT.OUTVOTE 0).bump (outvReg c) 0).setCpx p)) ?_
    ((State.regsBut_logEv _ _ _ _).mono (List.subset_append_right _ _))
  exact (((RegsBut.refl s _).wr2 (by simp [outvoteKeys])).wr2 (by simp [outvoteKeys])).wr2 (by simp [outvoteKeys])

theorem State.outvote_spec (s : State) (c : Fin 3) :
    bitAt (s.outvote c.val).cpx.excl c.val = true ∧ (s.outvote c.val).rd Reg.CPX_STATUS.ACT = withoutBit s.act c.val % 8 ∧
      (s.outvote c.val).rd Reg.CPX_EVT.OUTVOTE = 1 ∧ (s.outvote c.val).rd (outvReg c.val) = satAdd 255 (s.rd (outvReg c.val)) % 256 := by
  have hcount : (outvReg c.val).key 0 0 ∉ logKeys ∧ (outvReg c.val).key 0 0 ≠ Reg.CPX_STATUS.ACT.key 0 0 ∧
      (outvReg c.val).key 0 0 ≠ Reg.CPX_EVT.OUTVOTE.key 0 0 := by decide +revert
  obtain ⟨hlog, hact, hevt⟩ := hcount
  obtain ⟨p, hexcl, heq⟩ := s.outvote_eq c.val
  rw [heq]
  refine ⟨?_, ?_, ?_, ?_⟩
  · rw [State.cpx_cpxLog]
    exact (congrArg (bitAt · c.val) hexcl).trans (bitAt_withBit_same _ _)
  · refine (State.rd_cpxLog (by decide)).trans ((State.rd_wr_ne hact.symm).trans ((State.rd_wr_ne (by decide)).trans ?_))
    exact State.rd_wr2_same _ _ _ _ _
  · exact (State.rd_cpxLog (by decide)).trans ((State.rd_wr_ne hevt.symm).trans (State.rd_flag rfl))
  · refine (State.rd_cpxLog hlog).trans ((State.rd_wr2_same _ _ _ _ _).trans ?_)
    rw [outvReg_w, State.flag_eq, State.rd_wr2_ne _ _ hevt, State.wr_eq, State.rd_wr2_ne _ _ hact]
    rfl

/-- The cores that run once one of the three is excluded. -/
theorem withoutBit_seven (c : Fin 3) : withoutBit 7 c.val % 8 = 7 - 2 ^ c.val := by decide +revert

theorem outvoteKeys_spec (c : Fin 3) :
    Reg.CPX_STATUS.MODE.key 0 0 ∉ outvoteKeys c.val ∧ Reg.CPX_LAST.KIND.key 0 0 ∉ outvoteKeys c.val ∧
      Reg.CPX_LAST.CORE.key 0 0 ∉ outvoteKeys c.val ∧ Reg.CPX_LAST.ITEM.key 0 0 ∉ outvoteKeys c.val ∧
      Reg.CPX_LAST_PC.PC.key 0 0 ∉ outvoteKeys c.val ∧ (outvReg c.val).key 0 0 ∉ lastKeys := by
  decide +revert

/-- The outvote of one of three cores over a register: the mode stays, and CPX_LAST names the core, the register and the PC. -/
theorem State.outvote_lastMismatch_spec (s : State) (c : Fin 3) (i : Fin 64) (pc : BitVec 32) (hact : s.act = 7) :
    let t := (s.lastMismatch 0 c.val i.val pc.toNat).outvote c.val
    bitAt t.cpx.excl c.val = true ∧ t.rd Reg.CPX_STATUS.ACT = 7 - 2 ^ c.val ∧ t.rd Reg.CPX_STATUS.MODE = s.mode ∧
      t.rd Reg.CPX_EVT.OUTVOTE = 1 ∧ t.rd Reg.CPX_LAST.KIND = 0 ∧ t.rd Reg.CPX_LAST.CORE = c.val ∧
      t.rd Reg.CPX_LAST.ITEM = i.val ∧ t.rd Reg.CPX_LAST_PC.PC = pc.toNat ∧
      t.rd (outvReg c.val) = satAdd 255 (s.rd (outvReg c.val)) % 256 := by
  obtain ⟨hexcl, hrun, hevt, hcount⟩ := (s.lastMismatch 0 c.val i.val pc.toNat).outvote_spec c
  obtain ⟨hkind, hcore, hitem, hpc⟩ := s.lastMismatch_spec (kind := 0) (core := c.val) (item := i.val) (by decide) (by omega) (by omega) pc.isLt
  obtain ⟨hmodeKey, hkindKey, hcoreKey, hitemKey, hpcKey, hcountKey⟩ := outvoteKeys_spec c
  have hact' : (s.lastMismatch 0 c.val i.val pc.toNat).act = 7 := (State.rd_lastMismatch (by decide)).trans hact
  have hkept := (s.lastMismatch 0 c.val i.val pc.toNat).regsBut_outvote c.val
  refine ⟨hexcl, ?_, ?_, hevt, (hkept.rd_eq hkindKey).trans hkind, (hkept.rd_eq hcoreKey).trans hcore, (hkept.rd_eq hitemKey).trans hitem,
    (hkept.rd_eq hpcKey).trans hpc, ?_⟩
  · rw [hrun, hact', withoutBit_seven]
  · exact (hkept.rd_eq hmodeKey).trans (State.rd_lastMismatch (by decide))
  · rw [hcount, State.rd_lastMismatch hcountKey]

/-! ## The self-test after a mismatch (R301, R302) -/

/-- The fields in which a change of mode shows (R291, R305). -/
def modeKeys : List Nat := [Reg.CPX_STATUS.MODE.key 0 0, Reg.CPX_STATUS.ACT.key 0 0] ++ reportKeys

theorem State.rd_enterTest {s : State} {dis load : Bool} {f : FD} {i j : Nat} (h : f.key i j ∉ modeKeys) :
    (s.enterTest dis load).rd f i j = s.rd f i j := by
  have hreport : f.key i j ∉ reportKeys := fun hk => h (List.mem_append_right _ hk)
  have hact : f.key i j ≠ Reg.CPX_STATUS.ACT.key 0 0 := fun hk => h (by simp [modeKeys, hk])
  have hmode : f.key i j ≠ Reg.CPX_STATUS.MODE.key 0 0 := fun hk => h (by simp [modeKeys, hk])
  exact (State.rd_sendReport hreport).trans ((State.rd_wr_ne hact).trans (State.rd_wr_ne hmode))

theorem State.enterTest_spec (s : State) (dis load : Bool) :
    (s.enterTest dis load).rd Reg.CPX_STATUS.MODE = 3 ∧ (s.enterTest dis load).rd Reg.CPX_STATUS.ACT = 0 :=
  ⟨(State.rd_sendReport (by decide)).trans ((State.rd_wr_ne (by decide)).trans (State.rd_wr_of_lt (by decide))),
    (State.rd_sendReport (by decide)).trans (State.rd_wr_of_lt (by decide))⟩

/-- A mismatch of a register that no core decides is flagged and shown with no core's name, and the complex enters the self-test. -/
theorem State.mismatchTest_spec (s : State) {f : FD} (hf : f = Reg.CPX_EVT.DISAGREE ∨ f = Reg.CPX_EVT.PAIR_MM) (dis load : Bool) (i : Fin 64)
    (pc : BitVec 32) :
    let t := (((s.lastMismatch 0 3 i.val pc.toNat).flag f 0).cpxLog 3).enterTest dis load
    t.rd Reg.CPX_STATUS.MODE = 3 ∧ t.rd Reg.CPX_STATUS.ACT = 0 ∧ t.rd f = 1 ∧ t.rd Reg.CPX_LAST.CORE = 3 ∧
      t.rd Reg.CPX_LAST_PC.PC = pc.toNat := by
  have hkeys : f.w = 1 ∧ f.key 0 0 ∉ modeKeys ∧ f.key 0 0 ∉ logKeys ∧ Reg.CPX_LAST.CORE.key 0 0 ≠ f.key 0 0 ∧
      Reg.CPX_LAST_PC.PC.key 0 0 ≠ f.key 0 0 := by
    rcases hf with rfl | rfl <;> decide
  obtain ⟨hw, hmodeKey, hlogKey, hcoreKey, hpcKey⟩ := hkeys
  obtain ⟨-, hcore, -, hpc⟩ := s.lastMismatch_spec (kind := 0) (core := 3) (item := i.val) (by decide) (by decide) (by omega) pc.isLt
  obtain ⟨hmode, hact⟩ := (((s.lastMismatch 0 3 i.val pc.toNat).flag f 0).cpxLog 3).enterTest_spec dis load
  refine ⟨hmode, hact, ?_, ?_, ?_⟩
  · exact (State.rd_enterTest hmodeKey).trans ((State.rd_cpxLog hlogKey).trans (State.rd_flag hw))
  · exact (State.rd_enterTest (by decide)).trans ((State.rd_cpxLog (by decide)).trans ((State.rd_wr_ne hcoreKey).trans hcore))
  · exact (State.rd_enterTest (by decide)).trans ((State.rd_cpxLog (by decide)).trans ((State.rd_wr_ne hpcKey).trans hpc))

/-! ## The vote (R293, R294) -/

/-- The items that Ash, Elm and Oak commit in one cycle, by core. -/
def itemsOf (a e o : Option Item) : Nat → Option Item
  | 0 => a
  | 1 => e
  | _ => o

/-- Is one of the items an uncached load, which a resumption issues again (R301)? -/
def anyLoad (xs : List (Option Item)) : Bool :=
  xs.any fun
    | some y => y.isLoad
    | none => false

section
variable {s : State} {pc : Nat} {env : BusEnv}

theorem State.injHits_of_no_injection (h : s.on Reg.CPX_INJ.GO = false) (c : Nat) (x : Option Item) : s.injHits c x = false := by
  unfold State.injHits
  split
  · rw [h, Bool.false_and, Bool.false_and]
  · rfl

theorem State.injected_of_no_injection (h : s.on Reg.CPX_INJ.GO = false) (c : Nat) (x : Option Item) : s.injected c x = x := by
  unfold State.injected
  split
  · exact if_neg (by rw [State.injHits_of_no_injection h]; decide)
  · rfl

/-- While no injection waits and the complex compares, a committed cycle goes to the vote as it is. -/
theorem exec_voteItem {a e o : Option Item} {pc : BitVec 32} (hpresent : s.present islCPX = true) (hpaused : s.on Reg.CPX_STATUS.PAUSED = false)
    (hmode : s.mode ≤ cpxPair) (hgo : s.on Reg.CPX_INJ.GO = false) :
    exec (.voteItem pc a e o env) s = .next (s.vote pc.toNat env fun c => s.comparedItem (itemsOf a e o c)) := by
  have htest : (s.mode == cpxTest) = false := beq_eq_false_iff_ne.2 (Nat.ne_of_lt (Nat.lt_of_le_of_lt hmode (by decide)))
  have hhalted : (s.mode == cpxHalted) = false := beq_eq_false_iff_ne.2 (Nat.ne_of_lt (Nat.lt_of_le_of_lt hmode (by decide)))
  have hhit : ((coresOf s.act).any fun _ => false) = false := List.any_eq_false.2 fun _ _ => Bool.false_ne_true
  simp only [exec, execVoteItem, hpresent, hpaused, htest, hhalted, State.injHits_of_no_injection hgo, State.injected_of_no_injection hgo, hmode,
    hhit, Bool.not_true, Bool.or_self, Bool.false_eq_true, if_false, if_true, State.onlyIf_false]
  rfl

/-- The vote of three cores: they agree, one is outvoted, or all differ. -/
theorem State.vote_of_three {item : Nat → Option Item} (hact : s.act = 7) :
    s.vote pc env item =
      if item 0 = item 1 ∧ item 1 = item 2 then s.releaseItem 0 pc env (item 0)
      else if item 0 = item 1 then ((s.lastOf 2 pc [item 2, item 0]).outvote 2).releaseItem 0 pc env (item 0)
      else if item 0 = item 2 then ((s.lastOf 1 pc [item 1, item 0]).outvote 1).releaseItem 0 pc env (item 0)
      else if item 1 = item 2 then ((s.lastOf 0 pc [item 0, item 1]).outvote 0).releaseItem 1 pc env (item 1)
      else (s.lastOf 3 pc [item 0, item 1, item 2]).disagree (anyLoad [item 0, item 1, item 2]) := by
  have hcores : coresOf s.act = [0, 1, 2] := by rw [hact]; decide
  simp only [State.vote, hcores]
  rfl

/-- The vote of a pair: it agrees or differs. -/
theorem State.vote_of_pair {item : Nat → Option Item} (hact : s.act = 3) (hmode : s.mode = cpxPair) :
    s.vote pc env item =
      if item 0 = item 1 then s.releaseItem 0 pc env (item 0) else (s.lastOf 3 pc [item 0, item 1]).pairMismatch (anyLoad [item 0, item 1]) := by
  have hcores : coresOf s.act = [0, 1] := by rw [hact]; decide
  simp only [State.vote, hcores, if_pos hmode]
  rfl

/-- A register write enters the checkpoint with the PC (R295). -/
theorem State.checkpoint_reg {i : Fin 64} {v : BitVec 32} (hi : i ≠ 0) :
    s.checkpoint pc (.reg i v) = s.setCpx { s.cpx with regs := SMap.set 0 s.cpx.regs i.val v.toNat, pc := pc } := by
  simp only [State.checkpoint, if_neg (Fin.val_ne_zero_iff.2 hi)]

theorem Item.reg_ne {i : Fin 64} {v w : BitVec 32} (h : v ≠ w) : some (Item.reg i v) ≠ some (Item.reg i w) := by
  simpa using h

/-- Three cores that commit the same register write release it. -/
theorem State.vote_agrees {i : Fin 64} {v : BitVec 32} (hact : s.act = 7) :
    s.vote pc env (fun k => s.comparedItem (itemsOf (some (.reg i v)) (some (.reg i v)) (some (.reg i v)) k)) = s.checkpoint pc (.reg i v) := by
  rw [State.vote_of_three hact]
  exact if_pos ⟨rfl, rfl⟩

/-- The core that writes another value is outvoted, and the value of the other two is released. -/
theorem State.vote_outvotes {c : Fin 3} {i : Fin 64} {v w : BitVec 32} (hact : s.act = 7) (hne : v ≠ w) :
    s.vote pc env (fun k => s.comparedItem (itemsOf (some (.reg i (if c = 0 then w else v))) (some (.reg i (if c = 1 then w else v)))
        (some (.reg i (if c = 2 then w else v))) k)) =
      ((s.lastMismatch 0 c.val i.val pc).outvote c.val).checkpoint pc (.reg i v) := by
  have hvw : some (Item.reg i v) ≠ some (Item.reg i w) := Item.reg_ne hne
  rw [← State.lastOf_regs (vs := [w, v]) (List.cons_ne_nil _ _), State.vote_of_three hact]
  match c with
  | 0 => exact (if_neg fun h => hvw h.1.symm).trans ((if_neg hvw.symm).trans ((if_neg hvw.symm).trans (if_pos rfl)))
  | 1 => exact (if_neg fun h => hvw h.1).trans ((if_neg hvw).trans (if_pos rfl))
  | 2 => exact (if_neg fun h => hvw h.2).trans (if_pos rfl)

/-- Three different values of a register: the complex disagrees. -/
theorem State.vote_disagrees {i : Fin 64} {u v w : BitVec 32} (hact : s.act = 7) (huv : u ≠ v) (huw : u ≠ w) (hvw : v ≠ w) :
    s.vote pc env (fun k => s.comparedItem (itemsOf (some (.reg i u)) (some (.reg i v)) (some (.reg i w)) k)) =
      (s.lastMismatch 0 3 i.val pc).disagree false := by
  rw [← State.lastOf_regs (vs := [u, v, w]) (List.cons_ne_nil _ _), State.vote_of_three hact]
  exact (if_neg fun h => Item.reg_ne huv h.1).trans
    ((if_neg (Item.reg_ne huv)).trans ((if_neg (Item.reg_ne huw)).trans (if_neg (Item.reg_ne hvw))))

/-- Two different values of a register in a pair are its mismatch, whatever the third core commits. -/
theorem State.vote_pairMismatch {i : Fin 64} {u v : BitVec 32} {x : Option Item} (hact : s.act = 3) (hmode : s.mode = cpxPair) (huv : u ≠ v) :
    s.vote pc env (fun k => s.comparedItem (itemsOf (some (.reg i u)) (some (.reg i v)) x k)) =
      (s.lastMismatch 0 3 i.val pc).pairMismatch false := by
  rw [← State.lastOf_regs (vs := [u, v]) (List.cons_ne_nil _ _), State.vote_of_pair hact hmode]
  exact if_neg (Item.reg_ne huv)

end

/-! ## Accepted and denied controls (R304, R306, R307, R310) -/

section
variable {s : State} {m : Master}

theorem exec_cpxSplit (h : s.ready (Reg.CPX_CTRL.SPLIT.addr 0 0) = true) : exec (.cpxSplit m) s = .next (s.splitWrite.ack m) :=
  congrArg Host.Outcome.next (State.winWrite_ready h)

theorem exec_joinRdy (h : s.ready (Reg.CPX_CTRL.JOIN_RDY.addr 0 0) = true) : exec (.joinRdy m) s = .next ((s.joinRdyWrite m).ack m) :=
  congrArg Host.Outcome.next (State.winWrite_ready h)

theorem exec_cpxJoin (h : s.ready (Reg.CPX_CTRL.JOIN.addr 0 0) = true) : exec (.cpxJoin m) s = .next ((s.joinWrite m).ack m) :=
  congrArg Host.Outcome.next (State.winWrite_ready h)

theorem exec_crst {core : Fin 3} (h : s.ready (Reg.CPX_CTRL.CRST.addr 0 0) = true) :
    exec (.crst m core) s = .next ((s.crstWrite m core.val).ack m) := congrArg Host.Outcome.next (State.winWrite_ready h)

theorem exec_cpxPause (h : s.ready (Reg.CPX_CTRL.PAUSE.addr 0 0) = true) : exec (.cpxPause m) s = .next ((s.pauseWrite m true).ack m) :=
  congrArg Host.Outcome.next (State.winWrite_ready h)

theorem exec_cpxResume (h : s.ready (Reg.CPX_CTRL.PAUSE.addr 0 0) = true) : exec (.cpxResume m) s = .next ((s.pauseWrite m false).ack m) :=
  congrArg Host.Outcome.next (State.winWrite_ready h)

theorem exec_cpxInjGo {core : Fin 4} {bit : Fin 32} (h : s.ready (Reg.CPX_INJ.GO.addr 0 0) = true) :
    exec (.cpxInjGo m core bit) s = .next ((s.injWrite core.val bit.val).ack m) := congrArg Host.Outcome.next (State.winWrite_ready h)

/-! ### Splits -/

theorem State.splitWrite_refused (h : s.splitOk = false) : s.splitWrite = s.flag Reg.CPX_EVT.SPLIT_DENIED 0 := if_neg (by simp [h])

/-- An accepted split is requested and reported, and waits for its sync point. -/
theorem State.splitWrite_accepted_spec (h : s.splitOk = true) :
    s.splitWrite.rd Reg.CPX_CTRL.SPLIT = 1 ∧ s.splitWrite.rd Reg.CPX_EVT.SPLIT_DENIED = s.rd Reg.CPX_EVT.SPLIT_DENIED ∧
      s.splitWrite.mode = s.mode ∧ s.splitWrite.mem = s.mem := by
  have haccept : s.splitWrite = (s.flag Reg.CPX_CTRL.SPLIT 0).sendReport := if_pos h
  rw [haccept]
  exact ⟨(State.rd_sendReport (by decide)).trans (State.rd_flag rfl), (State.rd_sendReport (by decide)).trans (State.rd_wr_ne (by decide)),
    (State.rd_sendReport (by decide)).trans (State.rd_wr_ne (by decide)), State.mem_sendReport _⟩

/-! ### Joins -/

/-- With no dirty byte in any cache there is nothing to flush. -/
theorem State.dFlush_of_clean (h : s.dcache = []) (c a n : Nat) : s.dFlush c a n = s := by
  have hnone : ∀ p, s.dcache.filter p = [] := fun p => by rw [h]; rfl
  simp only [State.dFlush, hnone, foldEach, State.dDrop]
  rw [← h]

theorem coreOf_masterOfCore (c : Fin 3) : coreOf (masterOfCore c.val) = some c.val := by decide +revert

theorem State.joinRdyWrite_split {c : Nat} (hcore : coreOf m = some c) (hmode : s.mode = 5) (hclean : s.dcache = []) :
    s.joinRdyWrite m = s.wr Reg.CPX_STATUS.JRDY 0 (withBit (s.rd Reg.CPX_STATUS.JRDY) c) := by
  simp only [State.joinRdyWrite, hcore, State.dFlush_of_clean hclean]
  exact if_pos hmode

theorem State.joinRdyWrite_otherMode (hmode : s.mode ≠ 5) : s.joinRdyWrite m = s := by
  unfold State.joinRdyWrite
  split
  · exact if_neg hmode
  · rfl

/-- The conditions of a join (R307, R308). -/
structure State.JoinOk (s : State) (m : Master) : Prop where
  mode : s.mode = 5
  master : m = .ash
  elm : bitAt (s.rd Reg.CPX_STATUS.JRDY) 1 = true
  oak : bitAt (s.rd Reg.CPX_STATUS.JRDY) 2 = true
  act : s.act = 7

theorem State.joinWrite_accepted (h : s.JoinOk m) : s.joinWrite m = s.flag Reg.CPX_CTRL.JOIN 0 :=
  if_pos ⟨h.mode, h.master, h.elm, h.oak, h.act⟩

theorem State.joinWrite_refused (h : ¬ s.JoinOk m) : s.joinWrite m = s.flag Reg.CPX_EVT.JOIN_DENIED 0 :=
  if_neg fun ⟨hmode, hmaster, helm, hoak, hact⟩ => h ⟨hmode, hmaster, helm, hoak, hact⟩

/-! ### Core resets (R309) -/

/-- In VOTED a core reset excludes the core: nothing changes but the record of the complex, ACT and CRST. -/
theorem State.crstWrite_voted_spec (hmode : s.mode = 0) (c : Nat) :
    bitAt (s.crstWrite m c).cpx.excl c = true ∧ (s.crstWrite m c).rd Reg.CPX_STATUS.ACT = withoutBit s.act c % 8 ∧
      (s.crstWrite m c).rd Reg.CPX_CTRL.CRST = withBit (s.rd Reg.CPX_CTRL.CRST) c % 8 ∧ (s.crstWrite m c).cpx.cnt = s.cpx.cnt ∧
      OnlyRegs s { s.crstWrite m c with cpx := s.cpx } [Reg.CPX_STATUS.ACT.key 0 0, Reg.CPX_CTRL.CRST.key 0 0] := by
  have hvoted : s.crstWrite m c = ((s.setCpx { s.cpx with
      excl := withBit s.cpx.excl c
      rst := if bitAt s.cpx.excl c then s.cpx.rst else withBit s.cpx.rst c }).wr Reg.CPX_STATUS.ACT 0 (withoutBit s.act c)).wr
        Reg.CPX_CTRL.CRST 0 (withBit (s.rd Reg.CPX_CTRL.CRST) c) := if_pos hmode
  rw [hvoted]
  exact ⟨bitAt_withBit_same _ _, (State.rd_wr_ne (by decide)).trans (State.rd_wr2_same _ _ _ _ _), State.rd_wr2_same _ _ _ _ _, rfl,
    ((OnlyRegs.refl s _).wr2 (by simp)).wr2 (by simp)⟩

theorem State.crstWrite_split (hmode : s.mode = 5) {c k : Nat} (hcore : coreOf m = some k) :
    s.crstWrite m c = if k = c then s.splitReset c else s := by
  refine (if_neg (by rw [hmode]; decide)).trans ((if_pos hmode).trans ?_)
  rw [hcore]

theorem State.crstWrite_refused (hvoted : s.mode ≠ 0) (hsplit : s.mode ≠ 5) (c : Nat) : s.crstWrite m c = s.flag Reg.CPX_EVT.CRST_DENIED 0 :=
  (if_neg hvoted).trans (if_neg hsplit)

/-! ### Pauses (R310) -/

theorem State.pauseWrite_refused (h : coreOf m ≠ none) (on : Bool) : s.pauseWrite m on = s.flag Reg.CPX_EVT.PAUSE_DENIED 0 :=
  if_pos (Option.isSome_iff_ne_none.2 h)

/-- A pause by another master than a core stops the cores at once, but in a self-test, whose end it waits for. -/
theorem State.pauseWrite_true_spec (h : coreOf m = none) :
    (s.pauseWrite m true).rd Reg.CPX_CTRL.PAUSE = 1 ∧ (s.mode ≠ 3 → (s.pauseWrite m true).rd Reg.CPX_STATUS.PAUSED = 1) ∧
      (s.mode = 3 → (s.pauseWrite m true).rd Reg.CPX_STATUS.PAUSED = s.rd Reg.CPX_STATUS.PAUSED) ∧
      OnlyRegs s (s.pauseWrite m true) [Reg.CPX_CTRL.PAUSE.key 0 0, Reg.CPX_STATUS.PAUSED.key 0 0] := by
  have hmode : (s.wr Reg.CPX_CTRL.PAUSE 0 1).mode = s.mode := State.rd_wr_ne (by decide)
  have hwrite : s.pauseWrite m true = if (s.wr Reg.CPX_CTRL.PAUSE 0 1).mode = 3 then s.wr Reg.CPX_CTRL.PAUSE 0 1
      else (s.wr Reg.CPX_CTRL.PAUSE 0 1).flag Reg.CPX_STATUS.PAUSED 0 := if_neg (by simp [h])
  rw [hwrite, hmode]
  by_cases htest : s.mode = 3
  · rw [if_pos htest]
    exact ⟨State.rd_wr_of_lt (by decide), fun hne => absurd htest hne, fun _ => State.rd_wr_ne (by decide), (OnlyRegs.refl s _).wr2 (by simp)⟩
  · rw [if_neg htest]
    exact ⟨(State.rd_wr_ne (by decide)).trans (State.rd_wr_of_lt (by decide)), fun _ => State.rd_flag rfl, fun heq => absurd heq htest,
      ((OnlyRegs.refl s _).wr2 (by simp)).wr2 (by simp)⟩

theorem State.pauseWrite_false_spec (h : coreOf m = none) :
    (s.pauseWrite m false).rd Reg.CPX_CTRL.PAUSE = 0 ∧ (s.pauseWrite m false).rd Reg.CPX_STATUS.PAUSED = 0 ∧
      OnlyRegs s (s.pauseWrite m false) [Reg.CPX_CTRL.PAUSE.key 0 0, Reg.CPX_STATUS.PAUSED.key 0 0] := by
  have hwrite : s.pauseWrite m false = (s.wr Reg.CPX_CTRL.PAUSE 0 0).wr Reg.CPX_STATUS.PAUSED 0 0 := if_neg (by simp [h])
  rw [hwrite]
  exact ⟨(State.rd_wr_ne (by decide)).trans (State.rd_wr_of_lt (by decide)), State.rd_wr_of_lt (by decide),
    ((OnlyRegs.refl s _).wr2 (by simp)).wr2 (by simp)⟩

/-! ### Injections (R304) -/

/-- CPX_INJ takes the core and the bit of an injection. -/
def State.injNamed (s : State) (core bit : Nat) : State := (s.wr Reg.CPX_INJ.CORE 0 core).wr Reg.CPX_INJ.BIT 0 bit

theorem State.rd_injNamed {core bit : Nat} {f : FD} {i j : Nat} (hcore : f.key i j ≠ Reg.CPX_INJ.CORE.key 0 0)
    (hbit : f.key i j ≠ Reg.CPX_INJ.BIT.key 0 0) : (s.injNamed core bit).rd f i j = s.rd f i j :=
  (State.rd_wr_ne hbit).trans (State.rd_wr_ne hcore)

/-- An injection is accepted by the lock and the mode, which the named core and bit leave alone. -/
theorem State.injWrite_eq (core bit : Nat) :
    s.injWrite core bit =
      if s.rd Reg.IMG_STATUS.LOCK_OPEN = 1 ∧ (s.mode = cpxVoted ∨ s.mode = cpxPair) then (s.injNamed core bit).flag Reg.CPX_INJ.GO 0
      else (s.injNamed core bit).flag Reg.CPX_EVT.INJ_DENIED 0 := by
  have hlock : (s.injNamed core bit).on Reg.IMG_STATUS.LOCK_OPEN = true ↔ s.rd Reg.IMG_STATUS.LOCK_OPEN = 1 := by
    rw [State.on_eq, State.rd_injNamed (by decide) (by decide), beq_iff_eq]
  have hmode : (s.injNamed core bit).mode = s.mode := State.rd_injNamed (by decide) (by decide)
  have hnamed : s.injWrite core bit =
      if (s.injNamed core bit).on Reg.IMG_STATUS.LOCK_OPEN = true ∧ ((s.injNamed core bit).mode = cpxVoted ∨ (s.injNamed core bit).mode = cpxPair)
      then (s.injNamed core bit).flag Reg.CPX_INJ.GO 0 else (s.injNamed core bit).flag Reg.CPX_EVT.INJ_DENIED 0 := rfl
  simp only [hnamed, hlock, hmode]

theorem State.injWrite_accepted_spec (core : Fin 4) (bit : Fin 32) (hlock : s.rd Reg.IMG_STATUS.LOCK_OPEN = 1) (hmode : s.mode = 0 ∨ s.mode = 2) :
    (s.injWrite core.val bit.val).rd Reg.CPX_INJ.GO = 1 ∧ (s.injWrite core.val bit.val).rd Reg.CPX_INJ.CORE = core.val ∧
      (s.injWrite core.val bit.val).rd Reg.CPX_INJ.BIT = bit.val ∧
      OnlyRegs s (s.injWrite core.val bit.val) [Reg.CPX_INJ.CORE.key 0 0, Reg.CPX_INJ.BIT.key 0 0, Reg.CPX_INJ.GO.key 0 0] := by
  rw [(State.injWrite_eq core.val bit.val).trans (if_pos ⟨hlock, hmode⟩)]
  refine ⟨State.rd_flag rfl, ?_, ?_, (((OnlyRegs.refl s _).wr2 (by simp)).wr2 (by simp)).wr2 (by simp)⟩
  · exact (State.rd_wr_ne (by decide)).trans ((State.rd_wr_ne (by decide)).trans (State.rd_wr_of_lt core.isLt))
  · exact (State.rd_wr_ne (by decide)).trans (State.rd_wr_of_lt bit.isLt)

theorem State.injWrite_refused_spec {core bit : Nat} (h : s.rd Reg.IMG_STATUS.LOCK_OPEN ≠ 1 ∨ s.mode ≠ 0 ∧ s.mode ≠ 2) :
    (s.injWrite core bit).rd Reg.CPX_EVT.INJ_DENIED = 1 ∧ (s.injWrite core bit).rd Reg.CPX_INJ.GO = s.rd Reg.CPX_INJ.GO ∧
      OnlyRegs s (s.injWrite core bit) [Reg.CPX_INJ.CORE.key 0 0, Reg.CPX_INJ.BIT.key 0 0, Reg.CPX_EVT.INJ_DENIED.key 0 0] := by
  have hnot : ¬(s.rd Reg.IMG_STATUS.LOCK_OPEN = 1 ∧ (s.mode = cpxVoted ∨ s.mode = cpxPair)) := fun ⟨hlock, hmode⟩ =>
    h.elim (· hlock) fun ⟨hvoted, hpair⟩ => hmode.elim hvoted hpair
  rw [(State.injWrite_eq core bit).trans (if_neg hnot)]
  exact ⟨State.rd_flag rfl, (State.rd_wr_ne (by decide)).trans (State.rd_injNamed (by decide) (by decide)),
    (((OnlyRegs.refl s _).wr2 (by simp)).wr2 (by simp)).wr2 (by simp)⟩

end

/-! ## Cache CSRs (R312) -/

section
variable {s : State} {core : Fin 3} {addr v : BitVec 32}

theorem exec_dcinv : exec (.dcinv core addr) s = .next (if s.coreRuns core.val then s.dDrop core.val (addr.toNat / 32 * 32) 32 else s) := rfl

theorem exec_dcflush : exec (.dcflush core addr) s = .next (if s.coreRuns core.val then s.dFlush core.val (addr.toNat / 32 * 32) 32 else s) := rfl

theorem exec_dcall (h : s.coreRuns core.val = true) :
    exec (.dcall core v) s =
      .next (if v = 1 then s.dDrop core.val 0 (2 ^ 32) else if v = 2 then s.dFlush core.val 0 (2 ^ 32) else s) :=
  congrArg Host.Outcome.next (if_neg (by simp [h]))

theorem exec_dcall_halted (h : s.coreRuns core.val = false) : exec (.dcall core v) s = .next s :=
  congrArg Host.Outcome.next (if_pos (by simp [h]))

end

/-! ## Interrupt sources (R314, R315) -/

/-- No source has a priority. -/
def State.Unranked (s : State) : Prop := ∀ i < 64, s.rd Reg.CPX_IRQ_CFG.PRIO i = 0

/-- A core shows no interrupt. -/
structure State.NoTop (s : State) (c : Nat) : Prop where
  valid : s.rd Reg.CPX_IRQ_TOP.VALID c = 0
  meip : bitAt s.cpx.meip c = false

section
variable {s : State} {c d : Nat}

/-- A source without a priority is no core's top. -/
theorem State.topSource_of_unranked (h : s.Unranked) (c : Nat) : s.topSource c = none := by
  have hnone : (List.range 64).filter (fun i => s.rd Reg.CPX_IRQ_CFG.PRIO i != 0 && s.goesTo i c && s.pending' i c) = [] := by
    refine List.filter_eq_nil_iff.2 fun i hi => ?_
    simp [h i (List.mem_range.1 hi)]
  rw [State.topSource, hnone]
  rfl

/-- A core without a top shows none. -/
theorem State.showTop_of_none (h : s.topSource c = none) :
    s.showTop c = ((s.wr Reg.CPX_IRQ_TOP.SRC c 0).wr Reg.CPX_IRQ_TOP.VALID c 0).setCpx { s.cpx with meip := withoutBit s.cpx.meip c } := by
  simp only [State.showTop, h]

theorem FD.prio_key_ne_src_key {i : Nat} (hi : i < 64) (c : Nat) : Reg.CPX_IRQ_CFG.PRIO.key i 0 ≠ Reg.CPX_IRQ_TOP.SRC.key c 0 := by
  simp only [FD.key, FD.addr, Reg.CPX_IRQ_CFG.PRIO, Reg.CPX_IRQ_TOP.SRC]
  omega

theorem FD.prio_key_ne_pend_key {i : Nat} (hi : i < 64) (w : Nat) : Reg.CPX_IRQ_CFG.PRIO.key i 0 ≠ Reg.CPX_IRQ_PEND.PEND.key w 0 := by
  simp only [FD.key, FD.addr, Reg.CPX_IRQ_CFG.PRIO, Reg.CPX_IRQ_PEND.PEND]
  omega

/-- Priorities are not shown and stay as they are. -/
theorem State.rd_prio_showTop {i : Nat} (hi : i < 64) : (s.showTop c).rd Reg.CPX_IRQ_CFG.PRIO i = s.rd Reg.CPX_IRQ_CFG.PRIO i := by
  have hwrites : ∀ src valid, ((s.wr Reg.CPX_IRQ_TOP.SRC c src).wr Reg.CPX_IRQ_TOP.VALID c valid).rd Reg.CPX_IRQ_CFG.PRIO i =
      s.rd Reg.CPX_IRQ_CFG.PRIO i := fun _ _ => (State.rd_wr_of_lo (by decide)).trans (State.rd_wr_ne (FD.prio_key_ne_src_key hi c))
  unfold State.showTop
  split
  · exact (State.rd_setCpx ..).trans (hwrites _ _)
  · exact (State.rd_setCpx ..).trans (hwrites _ _)

theorem State.unranked_showTop_iff : (s.showTop c).Unranked ↔ s.Unranked :=
  forall₂_congr fun i hi => by rw [State.rd_prio_showTop hi]

theorem State.noTop_showTop_same (h : s.Unranked) : (s.showTop c).NoTop c := by
  rw [State.showTop_of_none (State.topSource_of_unranked h c)]
  exact ⟨(State.rd_setCpx ..).trans (State.rd_wr_of_lt (by decide)), bitAt_withoutBit_same _ _⟩

/-- What one core shows leaves a core that shows no interrupt so. -/
theorem State.noTop_showTop (h : s.Unranked) (hd : s.NoTop d) : (s.showTop c).NoTop d := by
  by_cases hcd : d = c
  · exact hcd ▸ State.noTop_showTop_same h
  · obtain ⟨hvalid, hmeip⟩ := hd
    have hkey : Reg.CPX_IRQ_TOP.VALID.key d 0 ≠ Reg.CPX_IRQ_TOP.VALID.key c 0 := by
      simp only [FD.key, FD.addr, Reg.CPX_IRQ_TOP.VALID]
      omega
    rw [State.showTop_of_none (State.topSource_of_unranked h c)]
    refine ⟨?_, (bitAt_withoutBit_ne hcd).trans hmeip⟩
    exact (State.rd_setCpx ..).trans ((State.rd_wr_ne hkey).trans ((State.rd_wr_of_lo (by decide)).trans hvalid))

/-- While no source has a priority, no core shows an interrupt. -/
theorem State.noTop_irqUpdate (h : s.Unranked) (c : Fin 3) : s.irqUpdate.NoTop c.val := by
  have hpend : ∀ p q, ((s.wr Reg.CPX_IRQ_PEND.PEND 0 p).wr Reg.CPX_IRQ_PEND.PEND 1 q).Unranked := fun p q i hi =>
    (State.rd_wr_ne (FD.prio_key_ne_pend_key hi 1)).trans ((State.rd_wr_ne (FD.prio_key_ne_pend_key hi 0)).trans (h i hi))
  have hranks : s.irqUpdate.Unranked := foldEach_preserves (fun c t ht => State.unranked_showTop_iff.2 ht) _ (hpend _ _)
  refine foldEach_establishes (P := fun t : State => t.Unranked → t.NoTop c.val) (a := c.val) (fun t ht => ?_) (fun b t ht hb => ?_) ?_ _ hranks
  · exact State.noTop_showTop_same (State.unranked_showTop_iff.1 ht)
  · exact State.noTop_showTop (State.unranked_showTop_iff.1 hb) (ht (State.unranked_showTop_iff.1 hb))
  · decide +revert

end

end Sys2Proof.Machine

open Sys2Proof Sys2Proof.Machine

/-! ## The obligations -/

/-- Settles O23, by what the vote makes of three or two register writes. -/
theorem commitVoter : Obligations.CommitVoter := by
  unfold Obligations.CommitVoter
  refine ⟨fun pc i v env s hpresent hpaused hmode hact hgo hi => ?agree, fun pc c i v w env s hpresent hpaused hmode hact hgo hi hne => ?outvoted,
    fun pc i u v w env s hpresent hpaused hmode hact hgo huv huw hvw => ?disagree,
    fun pc i u v x env s hpresent hpaused hmode hact hgo huv => ?pair⟩
  case agree =>
    rw [exec_voteItem hpresent hpaused (hmode.trans_le (by decide)) hgo, State.vote_agrees hact, State.checkpoint_reg hi]
    exact ⟨_, rfl, SMap.get_set_same _ _ _ _, rfl, rfl⟩
  case outvoted =>
    rw [exec_voteItem hpresent hpaused (hmode.trans_le (by decide)) hgo, State.vote_outvotes hact hne, State.checkpoint_reg hi]
    have hspec := s.outvote_lastMismatch_spec c i pc hact
    generalize (s.lastMismatch 0 c.val i.val pc.toNat).outvote c.val = t at hspec ⊢
    obtain ⟨hexcl, hrun, hstay, hrest⟩ := hspec
    exact ⟨_, rfl, SMap.get_set_same _ _ _ _, rfl, hexcl, hrun, hstay.trans hmode, hrest⟩
  case disagree =>
    rw [exec_voteItem hpresent hpaused (hmode.trans_le (by decide)) hgo, State.vote_disagrees hact huv huw hvw]
    exact ⟨_, rfl, s.mismatchTest_spec (.inl rfl) true false i pc⟩
  case pair =>
    rw [exec_voteItem hpresent hpaused hmode.le hgo, State.vote_pairMismatch hact hmode huv]
    exact ⟨_, rfl, s.mismatchTest_spec (.inr rfl) false false i pc⟩

/-- Settles O25, control by control: what each accepts, and what it sets alone where it refuses. -/
theorem complexControls : Obligations.ComplexControls := by
  unfold Obligations.ComplexControls
  refine ⟨fun m s hready => ?split, fun c s hready hclean => ?joinRdy, fun m s hready => ?join, fun m core s hready => ?crst,
    fun m s hready => ?pause, fun m core bit s hready => ?inject, fun core addr v s => ?caches, fun core s hpresent => ?compare,
    fun src s hpresent => ?source⟩
  case split =>
    rw [exec_cpxSplit hready]
    refine ⟨fun hok => ⟨_, rfl, State.splitWrite_accepted_spec hok⟩, fun hok => ?_⟩
    rw [State.splitWrite_refused hok]
    exact ⟨_, rfl, s.flag_ack_spec rfl _ _⟩
  case joinRdy =>
    rw [exec_joinRdy hready]
    refine ⟨fun hmode => ?_, fun hmode => ?_⟩
    · rw [State.joinRdyWrite_split (coreOf_masterOfCore c) hmode hclean]
      exact ⟨_, rfl, State.rd_wr2_same _ _ _ _ _, ((OnlyRegs.refl s _).wr2 (by simp)).setResp⟩
    · rw [State.joinRdyWrite_otherMode hmode]
      exact ⟨_, rfl, (OnlyRegs.refl s _).setResp⟩
  case join =>
    rw [exec_cpxJoin hready]
    refine ⟨fun hmode hm helm hoak hact => ?_, fun hbar => ?_⟩
    · rw [State.joinWrite_accepted ⟨hmode, hm, helm, hoak, hact⟩]
      exact ⟨_, rfl, s.flag_ack_spec rfl _ _⟩
    · have hnot : ¬ s.JoinOk m := fun ⟨hmode, hm, helm, hoak, hact⟩ => by simp [hmode, hm, helm, hoak, hact] at hbar
      rw [State.joinWrite_refused hnot]
      exact ⟨_, rfl, s.flag_ack_spec rfl _ _⟩
  case crst =>
    rw [exec_crst hready]
    refine ⟨fun hmode => ?_, fun hmode hcore => ?_, fun hmode ⟨k, hcore, hne⟩ => ?_, fun hvoted hsplit => ?_⟩
    · obtain ⟨hexcl, hact, hcrst, hcnt, honly⟩ := State.crstWrite_voted_spec (m := m) hmode core.val
      exact ⟨_, rfl, hexcl, hact, hcrst, hcnt, honly.setResp (m := m) (r := ⟨false, 0⟩)⟩
    · rw [State.crstWrite_split hmode hcore, if_pos rfl]
    · rw [State.crstWrite_split hmode hcore, if_neg hne]
    · rw [State.crstWrite_refused hvoted hsplit]
      exact ⟨_, rfl, s.flag_ack_spec rfl _ _⟩
  case pause =>
    rw [exec_cpxPause hready, exec_cpxResume hready]
    refine ⟨fun hcore => ?_, fun hcore => ?_⟩
    · obtain ⟨hpause, hstop, htest, honly⟩ := State.pauseWrite_true_spec (s := s) hcore
      obtain ⟨hresume, hrun, honly'⟩ := State.pauseWrite_false_spec (s := s) hcore
      exact ⟨⟨_, rfl, hpause, hstop, htest, honly.setResp⟩, _, rfl, hresume, hrun, honly'.setResp⟩
    · rw [State.pauseWrite_refused hcore, State.pauseWrite_refused hcore]
      exact ⟨⟨_, rfl, s.flag_ack_spec rfl _ _⟩, _, rfl, s.flag_ack_spec rfl _ _⟩
  case inject =>
    rw [exec_cpxInjGo hready]
    refine ⟨fun hlock hmode => ?_, fun hbar => ?_⟩
    · obtain ⟨hgo, hcore, hbit, honly⟩ := State.injWrite_accepted_spec core bit hlock hmode
      exact ⟨_, rfl, hgo, hcore, hbit, honly.setResp⟩
    · obtain ⟨hdenied, hgo, honly⟩ := State.injWrite_refused_spec (core := core.val) (bit := bit.val) hbar
      exact ⟨_, rfl, hdenied, hgo, honly.setResp⟩
  case caches =>
    rw [exec_dcinv, exec_dcflush]
    refine ⟨fun hruns => ?_, fun hruns => ?_⟩
    · rw [if_pos hruns, if_pos hruns]
      exact ⟨rfl, rfl, exec_dcall hruns, exec_dcall hruns, fun h1 h2 => by rw [exec_dcall hruns, if_neg h1, if_neg h2]⟩
    · rw [if_neg (by simp [hruns]), if_neg (by simp [hruns])]
      exact ⟨rfl, rfl, exec_dcall_halted hruns⟩
  case compare =>
    refine ⟨s.showMtip core.val, by simp only [exec, execMtimeCompare, hpresent, if_true], OnlyRegs.refl s [], fun hdue => ?_⟩
    have hbit : (s.showMtip core.val).cpx.mtip = withBit s.cpx.mtip core.val := if_pos (decide_eq_true hdue)
    rw [hbit]
    exact bitAt_withBit_same _ _
  case source =>
    refine ⟨fun hsrc => ?_, fun hsrc hprio => ⟨s.irqUpdate, ?_, fun c => ?_⟩⟩
    · simp [exec, execIrqSource, Nat.not_lt.2 hsrc]
    · simp [exec, execIrqSource, hpresent, hsrc]
    · obtain ⟨hvalid, hmeip⟩ := State.noTop_irqUpdate hprio c
      exact ⟨hvalid, hmeip⟩

end

section
/-! PROOFS. The statement of spec/13_messaging_and_hosts.md on the host ports: reads, writes, their buffer, and the port reset. -/

namespace Sys2Proof.Machine

/-! ## Frames with the records of the host ports -/

/-- Nothing differs but the fields under the listed keys, the answers to the bus masters, and the records of the host ports. -/
def OnlyPorts (s t : State) (ks : List Nat) : Prop := OnlyRegs s { t with hps := s.hps } ks

section
variable {s t : State} {p : Nat} {ks : List Nat}

theorem OnlyPorts.refl (s : State) (ks : List Nat) : OnlyPorts s s ks := OnlyRegs.refl s ks

theorem OnlyPorts.wr2 (h : OnlyPorts s t ks) {f : FD} {i j v : Nat} (hk : f.key i j ∈ ks) : OnlyPorts s (t.wr2 f i j v) ks :=
  OnlyRegs.wr2 h hk

theorem OnlyPorts.setHp (h : OnlyPorts s t ks) (p : Nat) (r : HpS) : OnlyPorts s (t.setHp p r) ks := h

theorem OnlyPorts.hpBegin (h : OnlyPorts s t ks) (p : Nat) : OnlyPorts s (t.hpBegin p) ks := h.setHp p _

theorem OnlyPorts.setBuf (h : OnlyPorts s t ks) (buf : List (Nat × Nat)) (hk : Reg.HP_STAT.FREE.key p 0 ∈ ks) :
    OnlyPorts s (t.setBuf p buf) ks := (h.setHp p _).wr2 hk

end

/-! ## The record of a host port -/

section
variable {s : State} {p a : Nat} {ws : List Nat}

@[simp] theorem State.hp_setHp_same (s : State) (p : Nat) (r : HpS) : (s.setHp p r).hp p = r := SMap.get_set_same _ _ _ _

@[simp] theorem State.hp_flag (s : State) (f : FD) (i p : Nat) : (s.flag f i).hp p = s.hp p := rfl

@[simp] theorem State.hp_hpBegin (s : State) (p : Nat) : (s.hpBegin p).hp p = { s.hp p with rsten := false, out := [] } :=
  State.hp_setHp_same s p _

@[simp] theorem State.hp_hpOut (s : State) (p : Nat) (l : List Nat) : (s.hpOut p l).hp p = { s.hp p with out := l } :=
  State.hp_setHp_same s p _

@[simp] theorem State.hp_setBuf (s : State) (p : Nat) (buf : List (Nat × Nat)) : (s.setBuf p buf).hp p = { s.hp p with buf := buf } :=
  State.hp_setHp_same s p _

/-- FREE holds every count of room from 0 to 64 (R333). -/
theorem State.rd_free_setBuf (s : State) (p : Nat) (buf : List (Nat × Nat)) :
    (s.setBuf p buf).rd Reg.HP_STAT.FREE p = 64 - buf.length :=
  State.rd_wr_of_lt (Nat.lt_of_le_of_lt (Nat.sub_le _ _) (by decide))

/-- A transaction that only sets a flag of HP_STAT returns nothing (R337). -/
theorem State.hpBegin_flag_spec (s : State) (p : Nat) {f : FD} (hw : f.w = 1) :
    ((s.hpBegin p).flag f p).rd f p = 1 ∧ (((s.hpBegin p).flag f p).hp p).out = [] ∧ OnlyPorts s ((s.hpBegin p).flag f p) [f.key p 0] :=
  ⟨State.rd_flag hw, by simp, ((OnlyPorts.refl s _).hpBegin p).wr2 (by simp)⟩

/-! ## Reads (R333 to R335) -/

/-- Each access of a read gives one word, a bus error included. -/
theorem State.length_hpReads (s : State) (p a n : Nat) : (s.hpReads p a n).2.length = n := by
  induction n generalizing s a with
  | zero => rfl
  | succ n ih => exact congrArg (· + 1) (ih _ _)

/-- A read of n words returns them and the status byte. -/
theorem State.length_out_hpRead (s : State) (p a n : Nat) (env : BusEnv) : ((s.hpRead p a n env).hp p).out.length = n + 1 := by
  simp [State.hpRead, State.length_hpReads]

/-- A read that is abandoned leaves ABND and no data, whatever its accesses did. -/
theorem State.hpOut_flag_spec (s : State) (p : Nat) {f : FD} (hw : f.w = 1) :
    ((s.hpOut p []).flag f p).rd f p = 1 ∧ (((s.hpOut p []).flag f p).hp p).out = [] :=
  ⟨State.rd_flag hw, by simp⟩

/-! ## Writes (R333, R337) -/

/-- The entries of the write buffer that words at rising addresses make. -/
def portWords (a : Nat) (ws : List Nat) : List (Nat × Nat) := ws.zipIdx.map fun e => ((a + 4 * e.2) % 2 ^ 32, e.1)

@[simp] theorem length_portWords (a : Nat) (ws : List Nat) : (portWords a ws).length = ws.length := by simp [portWords]

/-- Words that fit enter the buffer whole. -/
theorem State.hpTake_fits (h : (s.hp p).buf.length + ws.length ≤ 64) : s.hpTake p a ws = s.setBuf p ((s.hp p).buf ++ portWords a ws) := by
  have hroom : ws.length ≤ 64 - (s.hp p).buf.length := by omega
  simp [State.hpTake, portWords, List.take_of_length_le hroom, State.onlyIf, Nat.not_lt.2 hroom]

/-- Of words beyond the room the first fill the buffer, and WOVF shows that the others are lost. -/
theorem State.hpTake_overflows (h : 64 < (s.hp p).buf.length + ws.length) (hbuf : (s.hp p).buf.length ≤ 64) :
    s.hpTake p a ws = (s.setBuf p ((s.hp p).buf ++ portWords a (ws.take (64 - (s.hp p).buf.length)))).flag Reg.HP_STAT.WOVF p := by
  have hroom : 64 - (s.hp p).buf.length < ws.length := by omega
  simp [State.hpTake, portWords, State.onlyIf, hroom]

/-- A write that fits: the words stand after those that wait, FREE shows the room left, and no other register differs. -/
theorem State.hpWrite_fits_spec (h : (s.hp p).buf.length + ws.length ≤ 64) :
    (((s.hpBegin p).hpTake p a ws).hp p).buf = (s.hp p).buf ++ portWords a ws ∧
      ((s.hpBegin p).hpTake p a ws).rd Reg.HP_STAT.FREE p = 64 - ((s.hp p).buf.length + ws.length) ∧
      OnlyPorts s ((s.hpBegin p).hpTake p a ws) [Reg.HP_STAT.FREE.key p 0] := by
  rw [State.hpTake_fits (by simpa using h)]
  exact ⟨by simp, by simp [State.rd_free_setBuf], ((OnlyPorts.refl s _).hpBegin p).setBuf _ (by simp)⟩

/-- A write beyond the room fills the buffer: FREE is 0 and WOVF is set. -/
theorem State.hpWrite_overflows_spec (h : 64 < (s.hp p).buf.length + ws.length) (hbuf : (s.hp p).buf.length ≤ 64) :
    ((s.hpBegin p).hpTake p a ws).rd Reg.HP_STAT.WOVF p = 1 ∧ ((s.hpBegin p).hpTake p a ws).rd Reg.HP_STAT.FREE p = 0 ∧
      (((s.hpBegin p).hpTake p a ws).hp p).buf.length = 64 ∧
      OnlyPorts s ((s.hpBegin p).hpTake p a ws) [Reg.HP_STAT.FREE.key p 0, Reg.HP_STAT.WOVF.key p 0] := by
  rw [State.hpTake_overflows (by simpa using h) (by simpa using hbuf)]
  have hfull : (s.hp p).buf.length + min (64 - (s.hp p).buf.length) ws.length = 64 := by omega
  refine ⟨State.rd_flag rfl, ?_, by simp [hfull], (((OnlyPorts.refl s _).hpBegin p).setBuf _ (by simp)).wr2 (by simp)⟩
  rw [State.flag, State.rd_wr_of_lo (by decide), State.rd_free_setBuf]
  simp [hfull]

/-! ## The oldest buffered word (R335) -/

theorem State.hpIssue_nil {env : BusEnv} (h : (s.hp p).buf = []) : s.hpIssue p env = s := by
  rw [State.hpIssue, h]

theorem State.hpIssue_cons {env : BusEnv} {v : Nat} {rest : List (Nat × Nat)} (h : (s.hp p).buf = (a, v) :: rest) :
    s.hpIssue p env = (s.setBuf p rest).busStore (portMaster p) env .b32 a v := by
  rw [State.hpIssue, h]

end

/-! ## The transactions on a port that is up -/

section
variable {s : State} {p : Fin 2} {addr : BitVec 32} {n : BitVec 8} {ws : List (BitVec 32)} {env : BusEnv}

theorem exec_hpWriteIssue_present (h : s.present islMSG = true) : exec (.hpWriteIssue p env) s = .next (s.hpIssue p.val env) :=
  congrArg Host.Outcome.next (if_pos h)

/-- With nothing buffered nothing issues, whether the message island is present or not. -/
theorem exec_hpWriteIssue_nil (h : (s.hp p.val).buf = []) : exec (.hpWriteIssue p env) s = .next s := by
  simp [exec, execHpWriteIssue, State.hpIssue_nil h]

variable (hup : s.hpUp p.val = true)
include hup

theorem exec_hpRd_up : exec (.hpRd p addr env) s = .next (s.hpRead p.val addr.toNat 1 env) := congrArg Host.Outcome.next (if_pos hup)

theorem exec_hpRdn_up (hpos : 1 ≤ n.toNat) (hle : n.toNat ≤ 64) :
    exec (.hpRdn p addr n env) s = .next (s.hpRead p.val addr.toNat n.toNat env) := by
  have hok : ¬ (n.toNat = 0 ∨ 64 < n.toNat) := by omega
  simp only [exec, execHpRdn, hup, Bool.not_true, Bool.false_eq_true, if_false, if_neg hok]

/-- A count of 0, or of more than the read buffer holds, is refused (R333). -/
theorem exec_hpRdn_badCount (hbad : n.toNat = 0 ∨ 64 < n.toNat) :
    exec (.hpRdn p addr n env) s = .next ((s.hpBegin p.val).flag Reg.HP_STAT.CMD_ERR p.val) := by
  simp only [exec, execHpRdn, hup, Bool.not_true, Bool.false_eq_true, if_false, if_pos hbad]

theorem exec_hpWr_up : exec (.hpWr p addr ws) s = .next ((s.hpBegin p.val).hpTake p.val addr.toNat (ws.map (·.toNat))) :=
  congrArg Host.Outcome.next (if_pos hup)

theorem exec_hpRdsr_up : exec (.hpRdsr p) s =
    .next ((s.hpBegin p.val).hpOut p.val [s.hpStatus p.val, s.rd Reg.HP_STAT.FREE p.val, s.dbWord (4 + p.val)]) :=
  congrArg Host.Outcome.next (if_pos hup)

theorem exec_hpRsten_up :
    exec (.hpRsten p) s = .next ((s.hpBegin p.val).setHp p.val { (s.hpBegin p.val).hp p.val with rsten := true }) :=
  congrArg Host.Outcome.next (if_pos hup)

theorem exec_hpUnknownCommand_up : exec (.hpUnknownCommand p) s = .next ((s.hpBegin p.val).flag Reg.HP_STAT.CMD_ERR p.val) :=
  congrArg Host.Outcome.next (if_pos hup)

theorem exec_hpRst_armed (harmed : (s.hp p.val).rsten = true) :
    exec (.hpRst p) s = .next ((s.hpClear p.val).advanceEpoch (4 + p.val)) := by
  simp only [exec, execHpRst, hup, harmed, Bool.not_true, Bool.false_eq_true, if_false, if_true]

theorem exec_hpRst_unarmed (harmed : (s.hp p.val).rsten = false) :
    exec (.hpRst p) s = .next ((s.hpBegin p.val).flag Reg.HP_STAT.CMD_ERR p.val) := by
  simp only [exec, execHpRst, hup, harmed, Bool.not_true, Bool.false_eq_true, if_false]

theorem exec_hpAbandon_read (hpos : 1 ≤ n.toNat) (hle : n.toNat ≤ 64) : exec (.hpAbandon p addr (some n) ws env) s =
    .next (((s.hpRead p.val addr.toNat n.toNat env).hpOut p.val []).flag Reg.HP_STAT.ABND p.val) := by
  have hok : ¬ (n.toNat = 0 ∨ 64 < n.toNat) := by omega
  simp only [exec, execHpAbandon, hup, Bool.not_true, Bool.false_eq_true, if_false, if_neg hok]

theorem exec_hpAbandon_write : exec (.hpAbandon p addr none ws env) s =
    .next (((s.hpBegin p.val).hpTake p.val addr.toNat (ws.map (·.toNat))).flag Reg.HP_STAT.CMD_ERR p.val) := by
  simp only [exec, execHpAbandon, hup, Bool.not_true, Bool.false_eq_true, if_false]

end

end Sys2Proof.Machine

open Sys2Proof Sys2Proof.Machine

/-! ## The obligation -/

/-- Settles O22, transaction by transaction: what each returns, and what it leaves in the buffer and in HP_STAT. -/
theorem hostPorts : Obligations.HostPorts := by
  unfold Obligations.HostPorts
  refine ⟨fun p addr env s hup => ?read, fun p addr n env s hup => ⟨fun hpos hle => ?readN, fun hbad => ?badCount⟩,
    fun p addr ws s hup hfits => ?write, fun p addr ws s hup hover hbuf => ?overflow, fun p s hup => ⟨?status, ?arm, ?unknown⟩,
    fun p s hup => ⟨exec_hpRst_armed hup, fun harmed => ?unarmed⟩, fun p env a v rest s hpresent hbuf => ?issue,
    fun p env s => exec_hpWriteIssue_nil, fun p addr n ws env s hup hpos hle => ⟨?abandonRead, ?abandonWrite⟩⟩
  case read => exact ⟨_, exec_hpRd_up hup, rfl, s.length_out_hpRead _ _ 1 _⟩
  case readN => exact ⟨_, exec_hpRdn_up hup hpos hle, rfl, s.length_out_hpRead _ _ _ _⟩
  case badCount => exact ⟨_, exec_hpRdn_badCount hup hbad, s.hpBegin_flag_spec p.val rfl⟩
  case write =>
    have hspec := State.hpWrite_fits_spec (a := addr.toNat) (ws := ws.map (·.toNat)) (by rwa [List.length_map])
    rw [List.length_map] at hspec
    exact ⟨_, exec_hpWr_up hup, hspec⟩
  case overflow => exact ⟨_, exec_hpWr_up hup, State.hpWrite_overflows_spec (by rwa [List.length_map]) hbuf⟩
  case status => exact ⟨_, exec_hpRdsr_up hup, by simp, by simp, (OnlyPorts.refl s []).hpBegin p.val⟩
  case arm => exact ⟨_, exec_hpRsten_up hup, by simp, by simp, (OnlyPorts.refl s []).hpBegin p.val⟩
  case unknown => exact ⟨_, exec_hpUnknownCommand_up hup, s.hpBegin_flag_spec p.val rfl⟩
  case unarmed =>
    obtain ⟨herr, -, honly⟩ := s.hpBegin_flag_spec p.val (f := Reg.HP_STAT.CMD_ERR) rfl
    exact ⟨_, exec_hpRst_unarmed hup harmed, herr, honly⟩
  case issue => rw [exec_hpWriteIssue_present hpresent, State.hpIssue_cons hbuf]
  case abandonRead => exact ⟨_, exec_hpAbandon_read hup hpos hle, State.hpOut_flag_spec _ p.val rfl⟩
  case abandonWrite => exact ⟨_, exec_hpAbandon_write hup, State.rd_flag rfl, rfl⟩

end

section
/-! PROOFS. The statements of spec/19_alder_and_monitors.md on the health monitors: enabling, sampling, clearing and latencies. -/

namespace Sys2Proof.Machine

/-! ## Fields of one unit at other places -/

/-- Fields of one unit at different places of its registers lie under different keys. -/
theorem FD.key_ne_of_place {f g : FD} {i : Nat} (h : g.blk = f.blk ∧ g.s1 = f.s1 ∧ g.off * 32 + g.lo ≠ f.off * 32 + f.lo) : g.key i 0 ≠ f.key i 0 := by
  obtain ⟨hblk, hs1, hplace⟩ := h
  simp only [FD.key, FD.addr, hblk, hs1]
  omega

/-- A write leaves the fields of the same unit at other places as they were. -/
theorem State.rd_wr2_of_place {s : State} {f g : FD} {i v : Nat} (h : g.blk = f.blk ∧ g.s1 = f.s1 ∧ g.off * 32 + g.lo ≠ f.off * 32 + f.lo) :
    (s.wr2 f i 0 v).rd g i 0 = s.rd g i 0 := State.rd_wr2_ne s v (FD.key_ne_of_place h)

/-! ## Two's complement (R7) -/

/-- The encoding of what a field reads as is what the field holds. -/
theorem uns_sgn (w n : Nat) : uns w (sgn w n) = n % 2 ^ w := by
  have hmod : (sgn w n) % (2 ^ w : Int) = (n % 2 ^ w : Nat) := by
    simp only [sgn]
    split
    · push_cast; exact Int.emod_emod_of_dvd _ dvd_rfl
    · push_cast; rw [Int.sub_emod_right]; exact Int.emod_emod_of_dvd _ dvd_rfl
  rw [uns, hmod, Int.toNat_natCast]

@[simp] theorem sgn_mod (w n : Nat) : sgn w (n % 2 ^ w) = sgn w n := by simp only [sgn, Nat.mod_mod]

theorem State.rdI_wrI_sgn (s : State) (f : FD) (i n : Nat) : (s.wrI f i (sgn f.w n)).rdI f i = sgn f.w n := by
  rw [State.rdI, State.wrI_eq, State.rd_wr2_same, uns_sgn, Nat.mod_mod, sgn_mod]

section
variable {s : State} {n : Nat}

/-! ## Enabling (R440) -/

theorem exec_monEnable {m : Master} {n : Fin 16} (h : s.ready (Reg.MON_CFG.EN.addr n.val 0) = true) :
    exec (.monEnable m n) s = .next ((s.monEn n.val true).ack m) := congrArg Host.Outcome.next (State.winWrite_ready h)

theorem State.monEn_enabled (h : s.on Reg.MON_CFG.EN n = true) : s.monEn n true = s := if_pos h.symm

theorem State.monEn_accepted (hen : s.on Reg.MON_CFG.EN n = false) (hok : s.monOk n = true) :
    s.monEn n true = ((s.wr Reg.MON_CFG.EN n 1).wr Reg.MON_STAT.RUN n 1).setOpen n none := by simp [State.monEn, hen, hok]

theorem State.monEn_refused (hen : s.on Reg.MON_CFG.EN n = false) (hok : s.monOk n = false) : s.monEn n true = s.flag Reg.MON_STAT.CFG_ERR n := by
  simp [State.monEn, hen, hok]

theorem State.monOk_of_no_width (h : s.rd Reg.MON_WID.WID n = 0) : s.monOk n = false := by simp [State.monOk, h]

@[simp] theorem State.mem_setOpen (s : State) (n : Nat) (o : Option Nat) : (s.setOpen n o).mem = s.mem := rfl
@[simp] theorem State.mons_setOpen (s : State) (n : Nat) (o : Option Nat) : SMap.get none (s.setOpen n o).mons n = o := SMap.get_set_same _ _ _ _

theorem State.rd_setOpen (s : State) (n : Nat) (o : Option Nat) (f : FD) (i j : Nat) :
    (s.setOpen n o).rd f i j = (s.wr Reg.MON_STAT.OPEN n (b2n o.isSome)).rd f i j := rfl

theorem RegsBut.setOpen {t : State} {ks : List Nat} (h : RegsBut s t ks) (hk : Reg.MON_STAT.OPEN.key n 0 ∈ ks) (o : Option Nat) :
    RegsBut s (t.setOpen n o) ks := (h.of_eq (u := { t with mons := SMap.set none t.mons n o }) rfl).wr2 hk

theorem State.monEn_accepted_spec (hen : s.on Reg.MON_CFG.EN n = false) (hok : s.monOk n = true) :
    (s.monEn n true).rd Reg.MON_CFG.EN n = 1 ∧ (s.monEn n true).rd Reg.MON_STAT.RUN n = 1 ∧ (s.monEn n true).rd Reg.MON_STAT.OPEN n = 0 ∧
      (s.monEn n true).mem = s.mem ∧
      RegsBut s (s.monEn n true) [Reg.MON_CFG.EN.key n 0, Reg.MON_STAT.RUN.key n 0, Reg.MON_STAT.OPEN.key n 0] := by
  rw [State.monEn_accepted hen hok]
  refine ⟨?_, ?_, ?_, rfl, (((RegsBut.refl s _).wr2 (by simp)).wr2 (by simp)).setOpen (by simp) none⟩
  all_goals simp (disch := decide) only [State.rd_setOpen, State.wr_eq, State.rd_wr2_same, State.rd_wr2_of_place]
  all_goals rfl

/-! ## Values (R444) -/

/-- The counts of a monitor: fields of 32 bits, at bit 0. -/
theorem State.rd_monCount_same {f : FD} {j : Nat} (hw : f.w = 32) (h : s.rd f n j < 0xFFFFFFFF) : (s.monCount f n j).rd f n j = s.rd f n j + 1 := by
  rw [State.monCount, if_neg (Nat.ne_of_lt h), State.rd_wr2_same, hw]
  omega

theorem State.rd_monCount_ne {f g : FD} {j a b : Nat} (hf : g.key a b ≠ f.key n j) (hsat : g.lo % 32 ≠ 2) :
    (s.monCount f n j).rd g a b = s.rd g a b := by
  unfold State.monCount
  split
  · exact State.rd_wr_of_lo hsat
  · exact State.rd_wr2_ne _ _ hf

@[simp] theorem State.mem_monCount (s : State) (f : FD) (n j : Nat) : (s.monCount f n j).mem = s.mem := by
  unfold State.monCount
  split <;> rfl

theorem RegsBut.monCount {t : State} {ks : List Nat} (h : RegsBut s t ks) {f : FD} {j : Nat} (hf : f.key n j ∈ ks)
    (hsat : Reg.MON_STAT.SAT.key n 0 ∈ ks) : RegsBut s (t.monCount f n j) ks := by
  unfold State.monCount
  split
  · exact h.wr2 hsat
  · exact h.wr2 hf

/-- A value that a running monitor takes is seen by MIN, MAX and CNT. -/
def State.monSeen (s : State) (n : Nat) (v : Int) : State :=
  ((s.onlyIf (decide (v < s.rdI Reg.MON_MIN.VAL n)) (·.wrI Reg.MON_MIN.VAL n v)).onlyIf (decide (s.rdI Reg.MON_MAX.VAL n < v))
    (·.wrI Reg.MON_MAX.VAL n v)).monCount Reg.MON_CNT.N n 0

/-- The bin of 64 that a value advances, by its distance from OFS in widths. -/
def monBin (k : Int) : Nat := if k < 0 then 0 else if 63 < k then 63 else k.toNat

/-- A value outside the bins sets UNDER or OVER. -/
def State.monOuter (s : State) (n : Nat) (k : Int) : State :=
  if k < 0 then s.flag Reg.MON_STAT.UNDER n else if 63 < k then s.flag Reg.MON_STAT.OVER n else s

theorem eq_monBin_iff {k : Int} {b : Nat} (hb : b < 64) : ((k < 0 ∧ b = 0) ∨ (63 < k ∧ b = 63) ∨ k = b) ↔ b = monBin k := by
  unfold monBin
  split
  · omega
  split <;> omega

theorem State.monValue_frozen (h : s.on Reg.MON_CFG.FREEZE n = true) (x : Int) : s.monValue n x = s.bump Reg.MON_MISS.N n := if_pos h

theorem State.monValue_running (h : s.on Reg.MON_CFG.FREEZE n = false) {x v k : Int} (hv : v = sgn 32 (uns 32 x))
    (hk : k = (v - s.rdI Reg.MON_OFS.OFS n).fdiv (s.rd Reg.MON_WID.WID n)) :
    s.monValue n x = ((s.monSeen n v).monCount Reg.MON_BIN.N n (monBin k)).monOuter n k := by
  simp only [State.monValue, h, Bool.false_eq_true, if_false, ← hv, ← hk, State.monSeen, monBin, State.monOuter]
  split
  · rfl
  split <;> rfl

theorem State.rd_monSeen_of_place {v : Int} {g : FD} {j : Nat} (hmin : g.key n j ≠ Reg.MON_MIN.VAL.key n 0) (hmax : g.key n j ≠ Reg.MON_MAX.VAL.key n 0)
    (hcnt : g.key n j ≠ Reg.MON_CNT.N.key n 0) (hlo : g.lo % 32 ≠ 2) : (s.monSeen n v).rd g n j = s.rd g n j :=
  (State.rd_monCount_ne hcnt hlo).trans ((State.rd_onlyIf_wr_ne hmax).trans (State.rd_onlyIf_wr_ne hmin))

theorem State.rd_cnt_monSeen {v : Int} (h : s.rd Reg.MON_CNT.N n < 0xFFFFFFFF) :
    (s.monSeen n v).rd Reg.MON_CNT.N n = s.rd Reg.MON_CNT.N n + 1 := by
  have hcnt : ((s.onlyIf (decide (v < s.rdI Reg.MON_MIN.VAL n)) (·.wrI Reg.MON_MIN.VAL n v)).onlyIf (decide (s.rdI Reg.MON_MAX.VAL n < v))
      (·.wrI Reg.MON_MAX.VAL n v)).rd Reg.MON_CNT.N n = s.rd Reg.MON_CNT.N n :=
    (State.rd_onlyIf_wr_ne (FD.key_ne_of_place (by decide))).trans (State.rd_onlyIf_wr_ne (FD.key_ne_of_place (by decide)))
  rw [State.monSeen, State.rd_monCount_same rfl (hcnt ▸ h), hcnt]

theorem State.rd_min_monSeen (s : State) (n : Nat) (v : Int) : (s.monSeen n v).rd Reg.MON_MIN.VAL n =
    (s.onlyIf (decide (v < s.rdI Reg.MON_MIN.VAL n)) (·.wrI Reg.MON_MIN.VAL n v)).rd Reg.MON_MIN.VAL n :=
  (State.rd_monCount_ne (FD.key_ne_of_place (by decide)) (by decide)).trans (State.rd_onlyIf_wr_ne (FD.key_ne_of_place (by decide)))

theorem State.rd_max_monSeen (s : State) (n : Nat) (v : Int) : (s.monSeen n v).rd Reg.MON_MAX.VAL n =
    (s.onlyIf (decide (s.rdI Reg.MON_MAX.VAL n < v)) (·.wrI Reg.MON_MAX.VAL n v)).rd Reg.MON_MAX.VAL n := by
  refine (State.rd_monCount_ne (FD.key_ne_of_place (by decide)) (by decide)).trans ?_
  cases decide (s.rdI Reg.MON_MAX.VAL n < v)
  · exact State.rd_onlyIf_wr_ne (FD.key_ne_of_place (f := Reg.MON_MIN.VAL) (g := Reg.MON_MAX.VAL) (by decide))
  · exact (State.rd_wr2_same _ Reg.MON_MAX.VAL _ _ _).trans (State.rd_wr2_same _ _ _ _ _).symm

theorem State.rd_monOuter (s : State) (n : Nat) (k : Int) {g : FD} {j : Nat} (hunder : g.lo % 32 ≠ 3) (hover : g.lo % 32 ≠ 4) :
    (s.monOuter n k).rd g n j = s.rd g n j := by
  unfold State.monOuter
  split
  · exact State.rd_wr_of_lo hunder
  split
  · exact State.rd_wr_of_lo hover
  · rfl

/-- The bins lie behind every other register of their monitor. -/
theorem FD.bin_key_ne {g : FD} (h : g.blk = 13 ∧ g.s1 = 0x200 ∧ g.off < 0x100 ∧ g.lo < 32) {b : Nat} : g.key n 0 ≠ Reg.MON_BIN.N.key n b := by
  obtain ⟨hblk, hs1, hoff, hlo⟩ := h
  simp only [FD.key, FD.addr, hblk, hs1, Reg.MON_BIN.N]
  omega

theorem FD.bin_key_inj {b c : Nat} (h : b ≠ c) : Reg.MON_BIN.N.key n b ≠ Reg.MON_BIN.N.key n c := by
  simp only [FD.key, FD.addr, Reg.MON_BIN.N]
  omega

/-- The fields that a value taken by a running monitor may change. -/
def monKeys (n : Nat) : List Nat :=
  [Reg.MON_MIN.VAL.key n 0, Reg.MON_MAX.VAL.key n 0, Reg.MON_CNT.N.key n 0, Reg.MON_STAT.UNDER.key n 0, Reg.MON_STAT.OVER.key n 0,
    Reg.MON_STAT.SAT.key n 0] ++ (List.range 64).map (fun b => Reg.MON_BIN.N.key n b)

theorem bin_key_mem_monKeys {b : Nat} (hb : b < 64) : Reg.MON_BIN.N.key n b ∈ monKeys n :=
  List.mem_append_right _ (List.mem_map_of_mem (List.mem_range.2 hb))

theorem monBin_lt (k : Int) : monBin k < 64 := by
  unfold monBin
  split
  · omega
  split <;> omega

theorem State.regsBut_monSeen (s : State) (n : Nat) (v : Int) : RegsBut s (s.monSeen n v) (monKeys n) := by
  refine RegsBut.monCount ?_ (by simp [monKeys]) (by simp [monKeys])
  cases decide (v < s.rdI Reg.MON_MIN.VAL n) <;> cases decide (s.rdI Reg.MON_MAX.VAL n < v)
  · exact RegsBut.refl s _
  · exact (RegsBut.refl s _).wr2 (by simp [monKeys])
  · exact (RegsBut.refl s _).wr2 (by simp [monKeys])
  · exact ((RegsBut.refl s _).wr2 (by simp [monKeys])).wr2 (by simp [monKeys])

theorem RegsBut.monOuter {t : State} (h : RegsBut s t (monKeys n)) (k : Int) : RegsBut s (t.monOuter n k) (monKeys n) := by
  unfold State.monOuter
  split
  · exact h.wr2 (by simp [monKeys])
  split
  · exact h.wr2 (by simp [monKeys])
  · exact h

theorem State.mem_monSeen (s : State) (n : Nat) (v : Int) : (s.monSeen n v).mem = s.mem := by
  refine (State.mem_monCount _ _ _ _).trans ?_
  cases decide (v < s.rdI Reg.MON_MIN.VAL n) <;> cases decide (s.rdI Reg.MON_MAX.VAL n < v) <;> rfl

theorem State.mem_monOuter (s : State) (n : Nat) (k : Int) : (s.monOuter n k).mem = s.mem := by
  unfold State.monOuter
  split
  · rfl
  split <;> rfl

/-- What a running monitor shows of a value that it takes. -/
theorem State.monTaken_spec (s : State) (n : Nat) (v k : Int) {t : State}
    (ht : t = ((s.monSeen n v).monCount Reg.MON_BIN.N n (monBin k)).monOuter n k) :
    (s.rd Reg.MON_CNT.N n < 0xFFFFFFFF → t.rd Reg.MON_CNT.N n = s.rd Reg.MON_CNT.N n + 1) ∧
    (t.rd Reg.MON_MIN.VAL n = (s.onlyIf (decide (v < s.rdI Reg.MON_MIN.VAL n)) (·.wrI Reg.MON_MIN.VAL n v)).rd Reg.MON_MIN.VAL n) ∧
    (t.rd Reg.MON_MAX.VAL n = (s.onlyIf (decide (s.rdI Reg.MON_MAX.VAL n < v)) (·.wrI Reg.MON_MAX.VAL n v)).rd Reg.MON_MAX.VAL n) ∧
    (∀ b, s.rd Reg.MON_BIN.N n b < 0xFFFFFFFF → t.rd Reg.MON_BIN.N n b = s.rd Reg.MON_BIN.N n b + (if b = monBin k then 1 else 0)) ∧
    t.mem = s.mem ∧ RegsBut s t (monKeys n) := by
  subst ht
  have houter {g : FD} (hg : g.blk = 13 ∧ g.s1 = 0x200 ∧ g.off < 0x100 ∧ g.lo < 32) (hlo : g.lo % 32 ≠ 2 ∧ g.lo % 32 ≠ 3 ∧ g.lo % 32 ≠ 4) :
      (((s.monSeen n v).monCount Reg.MON_BIN.N n (monBin k)).monOuter n k).rd g n = (s.monSeen n v).rd g n :=
    (State.rd_monOuter _ n k hlo.2.1 hlo.2.2).trans (State.rd_monCount_ne (FD.bin_key_ne hg) hlo.1)
  have hseen (b : Nat) : (s.monSeen n v).rd Reg.MON_BIN.N n b = s.rd Reg.MON_BIN.N n b :=
    State.rd_monSeen_of_place (FD.bin_key_ne (by decide)).symm (FD.bin_key_ne (by decide)).symm (FD.bin_key_ne (by decide)).symm (by decide)
  refine ⟨fun h => ?_, ?_, ?_, fun b hb => ?_, ?_, ?_⟩
  · rw [houter (by decide) (by decide), State.rd_cnt_monSeen h]
  · rw [houter (by decide) (by decide), State.rd_min_monSeen]
  · rw [houter (by decide) (by decide), State.rd_max_monSeen]
  · rw [State.rd_monOuter _ n k (by decide) (by decide)]
    split
    case isTrue h => rw [← h, State.rd_monCount_same rfl (by rwa [hseen]), hseen]
    case isFalse h => rw [State.rd_monCount_ne (FD.bin_key_inj h) (by decide), hseen, Nat.add_zero]
  · rw [State.mem_monOuter, State.mem_monCount, State.mem_monSeen]
  · exact ((s.regsBut_monSeen n v).monCount (bin_key_mem_monKeys (monBin_lt k)) (by simp [monKeys])).monOuter k

theorem exec_monSample {n : Fin 16} {x : Int} (hmon : s.present islMON = true) (hen : s.on Reg.MON_CFG.EN n.val = true)
    (hmode : s.rd Reg.MON_CFG.MODE n.val = 2) :
    exec (.monSample n x) s = .next (s.monValue n.val ((s.levelOf (s.rd Reg.MON_CFG.SRC n.val)).getD x)) := by
  simp [exec, execMonSample, hmon, hen, hmode]

/-! ## CLR (R444) -/

theorem exec_monClr {m : Master} {n : Fin 16} (h : s.ready (Reg.MON_CTRL.CLR.addr n.val 0) = true) :
    exec (.monClr m n) s = .next ((s.monClear n.val).ack m) := congrArg Host.Outcome.next (State.winWrite_ready h)

/-- CLR resets the captured fields. -/
theorem State.monClear_spec (s : State) (n : Nat) :
    (s.monClear n).rd Reg.MON_MIN.VAL n = 0x7FFFFFFF ∧ (s.monClear n).rd Reg.MON_MAX.VAL n = 0x80000000 ∧ (s.monClear n).rd Reg.MON_CNT.N n = 0 ∧
      (s.monClear n).rd Reg.MON_MISS.N n = 0 ∧ ∀ b < 64, (s.monClear n).rd Reg.MON_BIN.N n b = 0 := by
  have hbins {g : FD} (hg : g.blk = 13 ∧ g.s1 = 0x200 ∧ g.off < 0x100 ∧ g.lo < 32) {t : State} {v : Nat} (ht : t.rd g n = v) :
      (foldEach (fun b (t : State) => t.wr2 Reg.MON_BIN.N n b 0) (List.range 64) t).rd g n = v :=
    foldEach_preserves (P := fun t => t.rd g n = v) (fun b t h => (State.rd_wr2_ne t 0 (FD.bin_key_ne hg)).trans h) _ ht
  refine ⟨hbins (by decide) ?_, hbins (by decide) ?_, hbins (by decide) ?_, hbins (by decide) ?_, fun b hb => ?_⟩
  case refine_5 =>
    refine foldEach_establishes (f := fun b (t : State) => t.wr2 Reg.MON_BIN.N n b 0) (P := fun t => t.rd Reg.MON_BIN.N n b = 0) (a := b) (fun t => State.rd_wr2_same t Reg.MON_BIN.N n b 0) (fun c t h => ?_)
      (List.mem_range.2 hb) _
    by_cases hc : b = c
    · subst hc; exact State.rd_wr2_same t Reg.MON_BIN.N n b 0
    · exact (State.rd_wr2_ne t 0 (FD.bin_key_inj hc)).trans h
  all_goals simp (disch := decide) only [State.wr_eq, State.rd_wr2_same, State.rd_wr2_of_place]
  all_goals rfl

theorem State.onlyRegs_monClear (s : State) (n : Nat) :
    OnlyRegs s (s.monClear n) ([Reg.MON_MIN.VAL.key n 0, Reg.MON_MAX.VAL.key n 0, Reg.MON_CNT.N.key n 0, Reg.MON_MISS.N.key n 0] ++
      (List.range 64).map (fun b => Reg.MON_BIN.N.key n b)) := by
  have hbins (l : List Nat) (hl : ∀ b ∈ l, b < 64) {t : State} {ks : List Nat} (hks : ∀ b < 64, Reg.MON_BIN.N.key n b ∈ ks) (h : OnlyRegs s t ks) :
      OnlyRegs s (foldEach (fun b (t : State) => t.wr2 Reg.MON_BIN.N n b 0) l t) ks := by
    induction l generalizing t with
    | nil => exact h
    | cons b l ih => exact ih (fun c hc => hl c (by simp [hc])) (h.wr2 (hks b (hl b (by simp))))
  refine hbins _ (fun b => List.mem_range.1) (fun b hb => List.mem_append_right _ (List.mem_map_of_mem (List.mem_range.2 hb))) ?_
  exact ((((OnlyRegs.refl s _).wr2 (by simp)).wr2 (by simp)).wr2 (by simp)).wr2 (by simp)

/-! ## Latencies (R441, R442) -/

/-- A monitor that no event of the cycle starts or stops. -/
theorem State.monPair_neither {codes : List Nat} {at0 : Nat} (hsrc : s.rd Reg.MON_CFG.SRC n ∉ codes) (hstop : s.rd Reg.MON_CFG.STOP_EV n ∉ codes) :
    s.monPair codes at0 n = s := by simp [State.monPair, hsrc, hstop]

theorem State.monPair_start {codes : List Nat} {at0 : Nat} (h0 : s.rd Reg.MON_CFG.SRC n ≠ 0) (hsrc : s.rd Reg.MON_CFG.SRC n ∈ codes)
    (hstop : s.rd Reg.MON_CFG.STOP_EV n ∉ codes) :
    s.monPair codes at0 n = (s.onlyIf (SMap.get none s.mons n).isSome (·.flag Reg.MON_STAT.OVERLAP n)).setOpen n (some at0) := by
  simp [State.monPair, h0, hsrc, hstop]

theorem State.monPair_stop {codes : List Nat} {at0 t0 : Nat} (hopen : SMap.get none s.mons n = some t0) (hsrc : s.rd Reg.MON_CFG.SRC n ∉ codes)
    (hstop : s.rd Reg.MON_CFG.STOP_EV n ∈ codes) : s.monPair codes at0 n = (s.monLatency n (at0 - t0)).setOpen n none := by
  simp [State.monPair, hsrc, hstop, hopen]

/-- The start of a measurement: it is open from its instant, with OVERLAP where one was open. -/
theorem State.monStart_spec {codes : List Nat} {at0 : Nat} (h0 : s.rd Reg.MON_CFG.SRC n ≠ 0) (hsrc : s.rd Reg.MON_CFG.SRC n ∈ codes)
    (hstop : s.rd Reg.MON_CFG.STOP_EV n ∉ codes) {t : State} (ht : t = s.monPair codes at0 n) :
    SMap.get none t.mons n = some at0 ∧ t.rd Reg.MON_STAT.OPEN n = 1 ∧ (SMap.get none s.mons n ≠ none → t.rd Reg.MON_STAT.OVERLAP n = 1) ∧
      RegsBut s t [Reg.MON_STAT.OPEN.key n 0, Reg.MON_STAT.OVERLAP.key n 0] := by
  rw [ht, State.monPair_start h0 hsrc hstop]
  refine ⟨State.mons_setOpen _ _ _, State.rd_wr2_same _ _ _ _ _, fun h => ?_, RegsBut.setOpen ?_ (by simp) _⟩
  · rw [Option.ne_none_iff_isSome.1 h, State.onlyIf_true, State.rd_setOpen, State.rd_wr_of_lo (by decide), State.rd_flag rfl]
  · cases (SMap.get none s.mons n).isSome
    · exact RegsBut.refl s _
    · exact (RegsBut.refl s _).wr2 (by simp)

/-- While PLL-S is on bypass a latency counts in MISS alone. -/
theorem State.monLatency_bypass (h : s.clk.sOn = false) (ns : Nat) : s.monLatency n ns = s.bump Reg.MON_MISS.N n := by
  simp [State.monLatency, h]

theorem State.bump_miss_spec (s : State) (n : Nat) :
    (s.bump Reg.MON_MISS.N n).rd Reg.MON_MISS.N n = satAdd 0xFFFFFFFF (s.rd Reg.MON_MISS.N n) % 2 ^ 32 ∧
      OnlyRegs s (s.bump Reg.MON_MISS.N n) [Reg.MON_MISS.N.key n 0] :=
  ⟨State.rd_wr2_same _ _ _ _ _, (OnlyRegs.refl s _).wr2 (by simp)⟩

theorem State.regsBut_monValue (s : State) (n : Nat) (x : Int) : RegsBut s (s.monValue n x) (Reg.MON_MISS.N.key n 0 :: monKeys n) := by
  cases h : s.on Reg.MON_CFG.FREEZE n with
  | true => rw [State.monValue_frozen h]; exact (RegsBut.refl s _).wr2 (by simp)
  | false =>
    rw [State.monValue_running h rfl rfl]
    exact (((s.regsBut_monSeen n _).monCount (bin_key_mem_monKeys (monBin_lt _)) (by simp [monKeys])).monOuter _).mono (by simp)

theorem State.regsBut_monLatency (s : State) (n ns : Nat) : RegsBut s (s.monLatency n ns) (Reg.MON_MISS.N.key n 0 :: monKeys n) := by
  unfold State.monLatency
  split
  · exact s.regsBut_monValue n _
  · exact (RegsBut.refl s _).wr2 (by simp)

/-- EN of no monitor is among the fields that events change. -/
theorem FD.en_key_not_mem (k n : Nat) :
    Reg.MON_CFG.EN.key k 0 ∉ Reg.MON_STAT.OPEN.key n 0 :: Reg.MON_STAT.OVERLAP.key n 0 :: Reg.MON_MISS.N.key n 0 :: monKeys n := by
  simp only [monKeys, List.mem_cons, List.mem_append, List.mem_map, List.mem_range, List.not_mem_nil, or_false, not_or, not_exists, not_and,
    FD.key, FD.addr, Reg.MON_CFG.EN, Reg.MON_STAT.OPEN, Reg.MON_STAT.OVERLAP, Reg.MON_MISS.N, Reg.MON_MIN.VAL, Reg.MON_MAX.VAL, Reg.MON_CNT.N,
    Reg.MON_STAT.UNDER, Reg.MON_STAT.OVER, Reg.MON_STAT.SAT, Reg.MON_BIN.N]
  refine ⟨by omega, by omega, by omega, ⟨by omega, by omega, by omega, by omega, by omega, by omega⟩, fun b _ => by omega⟩

/-- Events leave EN of every monitor as it was. -/
theorem State.regsBut_monPair (s : State) (codes : List Nat) (at0 n : Nat) :
    RegsBut s (s.monPair codes at0 n) (Reg.MON_STAT.OPEN.key n 0 :: Reg.MON_STAT.OVERLAP.key n 0 :: Reg.MON_MISS.N.key n 0 :: monKeys n) := by
  unfold State.monPair
  extract_lets src stop opened ends t
  have ht : RegsBut s t (Reg.MON_STAT.OPEN.key n 0 :: Reg.MON_STAT.OVERLAP.key n 0 :: Reg.MON_MISS.N.key n 0 :: monKeys n) := by
    unfold t
    cases ends
    · exact RegsBut.refl s _
    · cases opened with
      | none => exact RegsBut.refl s _
      | some t0 => exact ((s.regsBut_monLatency n _).mono (by simp)).setOpen (by simp) none
  split
  · refine RegsBut.setOpen ?_ (by simp) _
    cases !ends && opened.isSome
    · exact ht
    · exact ht.wr2 (by simp)
  · exact ht

/-- Where every element but one leaves the state alone, the fold is the operation on that one. -/
theorem foldEach_of_one {α σ : Type} {f : α → σ → σ} {l : List α} {a : α} {s : σ} (hl : l.Nodup) (ha : a ∈ l) (hbefore : ∀ b ∈ l, b ≠ a → f b s = s)
    (hafter : ∀ b ∈ l, b ≠ a → f b (f a s) = f a s) : foldEach f l s = f a s := by
  induction l with
  | nil => cases ha
  | cons b l ih =>
    obtain ⟨hb, hl⟩ := List.nodup_cons.1 hl
    rw [foldEach]
    rcases List.mem_cons.1 ha with rfl | ha
    · exact foldEach_eq_self fun c hc => hafter c (by simp [hc]) (fun e => hb (e ▸ hc))
    · rw [hbefore b (by simp) (fun e => hb (e ▸ ha))]
      exact ih hl ha (fun c hc => hbefore c (by simp [hc])) (fun c hc => hafter c (by simp [hc]))

/-- With one monitor enabled, in MODE 1, events reach it alone. -/
theorem State.monEvents_of_one (hn : n < 16) (hen : s.on Reg.MON_CFG.EN n = true) (hmode : s.rd Reg.MON_CFG.MODE n = 1)
    (hothers : ∀ k < 16, k ≠ n → s.on Reg.MON_CFG.EN k = false) (codes : List Nat) (at0 : Nat) : s.monEvents codes at0 = s.monPair codes at0 n := by
  have hkept (k : Nat) : (s.monPair codes at0 n).on Reg.MON_CFG.EN k = s.on Reg.MON_CFG.EN k :=
    congrArg (· == 1) ((s.regsBut_monPair codes at0 n).rd_eq (FD.en_key_not_mem k n))
  refine (foldEach_of_one List.nodup_range (List.mem_range.2 hn) (fun k hk hne => ?_) (fun k hk hne => ?_)).trans ?_
  · simp [hothers k (List.mem_range.1 hk) hne]
  · simp [hen, hmode, hkept, hothers k (List.mem_range.1 hk) hne]
  · simp [hen, hmode]

theorem exec_monEvent {codes : List (Fin 256)} {at0 : Nat} (h : s.present islMON = true) :
    exec (.monEvent codes at0) s = .next (s.monEvents (codes.map (·.val)) at0) := by simp [exec, execMonEvent, h]

theorem exec_monSwev {m : Master} {ev : BitVec 8} {at0 : Nat} (h : s.ready (Reg.MON_SWEV.EV.addr 0 0) = true) :
    exec (.monSwev m ev at0) s = .next ((s.monEvents ((bitList 8 ev.toNat).map (0xC8 + ·)) at0).ack m) :=
  congrArg Host.Outcome.next (State.winWrite_ready h)

end

end Sys2Proof.Machine

open Sys2Proof Sys2Proof.Machine

/-! ## The obligations -/

/-- Settles O44, with the rule for each of the three commands: enabling, a value that a running monitor takes, and CLR. -/
theorem monitorControls : Obligations.MonitorControls := by
  refine ⟨fun m n s hready => ?enable, fun n x s hmon hen hmode => ?sample, fun m n s hready => ?clear⟩
  case enable =>
    rw [exec_monEnable hready]
    refine ⟨fun hen => by rw [State.monEn_enabled hen], fun hen hok => ⟨_, rfl, ?_⟩, fun hen hok => ⟨_, rfl, ?_⟩, State.monOk_of_no_width⟩
    · obtain ⟨hEn, hRun, hOpen, hmem, hregs⟩ := State.monEn_accepted_spec hen hok
      exact ⟨State.respOf_setResp _ _ _, hEn, hRun, hOpen, hmem, hregs.of_eq rfl⟩
    · rw [State.monEn_refused hen hok]
      exact ⟨State.respOf_setResp _ _ _, State.rd_flag rfl, ((OnlyRegs.refl s _).wr2 (by simp)).setResp⟩
  case sample =>
    rw [exec_monSample hmon hen hmode]
    refine ⟨fun hfreeze => ⟨_, rfl, ?_⟩, fun hfreeze v k hv hk hcnt => ⟨_, rfl, ?_⟩⟩
    · rw [State.monValue_frozen hfreeze]
      exact s.bump_miss_spec n.val
    · obtain ⟨hCnt, hMin, hMax, hBins, hmem, hregs⟩ := State.monTaken_spec s n.val v k (State.monValue_running hfreeze hv hk)
      refine ⟨hCnt hcnt, fun h => ?_, fun h => ?_, fun h => ?_, fun h => ?_, fun b hb hlt => ?_, fun h => ?_, fun h => ?_, hmem, hregs⟩
      · rw [State.rdI, hMin, decide_eq_true h, State.onlyIf_true, ← State.rdI, hv]
        exact State.rdI_wrI_sgn s Reg.MON_MIN.VAL n.val _
      · rw [hMin, decide_eq_false (by omega), State.onlyIf_false]
      · rw [State.rdI, hMax, decide_eq_true h, State.onlyIf_true, ← State.rdI, hv]
        exact State.rdI_wrI_sgn s Reg.MON_MAX.VAL n.val _
      · rw [hMax, decide_eq_false (by omega), State.onlyIf_false]
      · rw [hBins b hlt]
        simp only [eq_monBin_iff hb]
      · rw [State.monValue_running hfreeze hv hk, State.monOuter, if_pos h, State.on_eq, State.rd_flag rfl]
        rfl
      · rw [State.monValue_running hfreeze hv hk, State.monOuter, if_neg (by omega), if_pos h, State.on_eq, State.rd_flag rfl]
        rfl
  case clear =>
    obtain ⟨hMin, hMax, hCnt, hMiss, hBins⟩ := s.monClear_spec n.val
    refine ⟨_, exec_monClr hready, State.respOf_setResp _ _ _, ?_⟩
    simp only [State.rd_ack]
    exact ⟨hMin, hMax, hCnt, hMiss, hBins, (s.onlyRegs_monClear n.val).setResp⟩

/-- Settles O45: with one monitor enabled the events of a cycle reach that monitor alone. -/
theorem monitorLatencies : Obligations.MonitorLatencies := by
  refine ⟨fun codes at0 n s hmon hn hen hmode hothers => ?one, fun m ev codes at0 s t hready hmon hcodes ht => ?swev⟩
  case one =>
    rw [exec_monEvent hmon, State.monEvents_of_one hn hen hmode hothers]
    refine ⟨fun hsrc hstop => by rw [State.monPair_neither hsrc hstop], fun h0 hsrc hstop => ⟨_, rfl, State.monStart_spec h0 hsrc hstop rfl⟩,
      fun t0 hopen hsrc hstop => by rw [State.monPair_stop hopen hsrc hstop], fun t0 hbypass => ⟨_, rfl, ?_⟩⟩
    rw [State.monLatency_bypass hbypass]
    exact s.bump_miss_spec n
  case swev =>
    obtain rfl := Host.Outcome.next.inj ((exec_monEvent hmon).symm.trans ht)
    rw [exec_monSwev hready, hcodes]
end

section
/-! PROOFS. The statement of spec/19_alder_and_monitors.md on Alder's load and the event log. -/

namespace Sys2Proof.Machine

/-! ## Bytes that are written -/

/-- Writing bytes changes memory alone. -/
theorem State.setBytes_eq (s : State) (a : Nat) (l : List Nat) : s.setBytes a l = { s with mem := (s.setBytes a l).mem } := by
  induction l generalizing s a with
  | nil => rfl
  | cons b l ih => exact ih (s.setByte a b) (a + 1)

theorem State.setWord_eq (s : State) (a v : Nat) : s.setWord a v = { s with mem := (s.setWord a v).mem, eccBad := (s.setWord a v).eccBad } := by
  simp only [State.setWord, State.setNum, State.eccWritten, if_pos]
  rw [State.setBytes_eq]

@[simp] theorem State.regs_setBytes (s : State) (a : Nat) (l : List Nat) : (s.setBytes a l).regs = s.regs := by rw [State.setBytes_eq]
@[simp] theorem State.regs_setWord (s : State) (a v : Nat) : (s.setWord a v).regs = s.regs := by rw [State.setWord_eq]
@[simp] theorem State.rd_setWord (s : State) (a v : Nat) (f : FD) (i j : Nat) : (s.setWord a v).rd f i j = s.rd f i j := by
  simp only [State.rd, State.regs_setWord]

/-- The bytes of a range that is written read back. -/
theorem State.byte_setBytes_same (s : State) (a : Nat) (l : List Nat) {k : Nat} (h : k < l.length) : (s.setBytes a l).byte (a + k) = l.getD k 0 % 256 := by
  induction l generalizing s a k with
  | nil => cases h
  | cons b l ih =>
    rw [State.setBytes]
    cases k with
    | zero => rw [State.byte_setBytes_ne _ _ (by omega), Nat.add_zero, State.byte_setByte_same, List.getD_cons_zero]
    | succ k => rw [show a + (k + 1) = a + 1 + k by omega, ih _ _ (by simpa using h), List.getD_cons_succ]

@[simp] theorem length_leBytes (n v : Nat) : (leBytes n v).length = n := by
  induction n generalizing v with
  | zero => rfl
  | succ n ih => simp [leBytes, ih]

theorem getD_leBytes {n k : Nat} (v : Nat) (h : k < n) : (leBytes n v).getD k 0 = v / 256 ^ k % 256 := by
  induction n generalizing v k with
  | zero => cases h
  | succ n ih =>
    cases k with
    | zero => simp [leBytes]
    | succ k => rw [leBytes, List.getD_cons_succ, ih _ (by omega), Nat.div_div_eq_div_mul, ← Nat.pow_succ']

theorem State.byte_setWord_same (s : State) (a v : Nat) {k : Nat} (h : k < 4) : (s.setWord a v).byte (a + k) = v / 256 ^ k % 256 := by
  rw [State.setWord, State.byte_of_mem (State.mem_eccWritten _ _ _), State.setNum, State.byte_setBytes_same _ _ _ (by simpa using h), getD_leBytes v h,
    Nat.mod_mod]

/-! ## Records of the event log (R433, R436) -/

theorem length_logBytes (q : Nat) (r : LogRec) : (logBytes q r).length = 64 := by simp [logBytes, dataBytes]

theorem nextSeq_lt (q : Nat) : nextSeq q < 2 ^ 32 := by
  unfold nextSeq
  split <;> omega

section
variable {s : State}

theorem State.logSlot_lt (s : State) : s.logSlot < 14336 := by
  unfold State.logSlot
  split <;> omega

/-- The state with the bytes of a record written into its slot, and the next number and the slot shown. -/
def State.slotWritten (s : State) (bytes : List Nat) : State :=
  (({ s.setBytes (logBase + 0x40 * s.logSlot) bytes with logGap := false }).wr Reg.ALD_LOG.HEAD_SEQ 0 (nextSeq (s.rd Reg.ALD_LOG.HEAD_SEQ))).wr
    Reg.ALD_LOGIDX.HEAD 0 s.logSlot

theorem State.putRecord_eq (s : State) (r : LogRec) :
    s.putRecord r = ((s.slotWritten (s.logRecord r)).setWord 0x4C000008 s.logSlot).setWord 0x4C00000C (nextSeq (s.rd Reg.ALD_LOG.HEAD_SEQ)) := rfl

theorem State.regsBut_slotWritten (s : State) (bytes : List Nat) :
    RegsBut s (s.slotWritten bytes) [Reg.ALD_LOG.HEAD_SEQ.key 0 0, Reg.ALD_LOGIDX.HEAD.key 0 0] := by
  have hbytes := (RegsBut.refl s [Reg.ALD_LOG.HEAD_SEQ.key 0 0, Reg.ALD_LOGIDX.HEAD.key 0 0]).of_eq
    (u := { s.setBytes (logBase + 0x40 * s.logSlot) bytes with logGap := false }) (s.regs_setBytes _ bytes)
  exact (hbytes.wr2 (f := Reg.ALD_LOG.HEAD_SEQ) (i := 0) (j := 0) (by simp)).wr2 (f := Reg.ALD_LOGIDX.HEAD) (i := 0) (j := 0) (by simp)

theorem State.mem_slotWritten (s : State) (bytes : List Nat) :
    (s.slotWritten bytes).mem = (s.setBytes (logBase + 0x40 * s.logSlot) bytes).mem := rfl

theorem State.queue_slotWritten (s : State) (bytes : List Nat) :
    (s.slotWritten bytes).logq = s.logq ∧ (s.slotWritten bytes).logLost = s.logLost := by
  simp only [State.slotWritten, State.wr_eq, State.logq_wr2, State.logLost_wr2]
  rw [State.setBytes_eq]
  exact ⟨rfl, rfl⟩

theorem State.head_slotWritten (s : State) (bytes : List Nat) :
    (s.slotWritten bytes).rd Reg.ALD_LOG.HEAD_SEQ = nextSeq (s.rd Reg.ALD_LOG.HEAD_SEQ) ∧ (s.slotWritten bytes).rd Reg.ALD_LOGIDX.HEAD = s.logSlot := by
  unfold State.slotWritten
  exact ⟨(State.rd_wr_ne (by decide)).trans (State.rd_wr_of_lt (nextSeq_lt _)), State.rd_wr_of_lt (s.logSlot_lt.trans (by decide))⟩

theorem State.regsBut_putRecord (s : State) (r : LogRec) : RegsBut s (s.putRecord r) [Reg.ALD_LOG.HEAD_SEQ.key 0 0, Reg.ALD_LOGIDX.HEAD.key 0 0] := by
  rw [State.putRecord_eq]
  exact (s.regsBut_slotWritten _).of_eq (by rw [State.regs_setWord, State.regs_setWord])

/-- The slot of the record lies below Clay RAM. -/
theorem State.slot_below_clay (s : State) : logBase + 0x40 * s.logSlot + 64 ≤ 0x4C000008 := by
  have := s.logSlot_lt
  unfold logBase
  omega

theorem State.byte_putRecord_record (s : State) (r : LogRec) {k : Nat} (h : k < 64) :
    (s.putRecord r).byte (logBase + 0x40 * s.logSlot + k) = (s.logRecord r).getD k 0 % 256 := by
  have hslot := s.slot_below_clay
  have hlen : (s.logRecord r).length = 64 := length_logBytes _ _
  rw [State.putRecord_eq]
  generalize s.logRecord r = bytes at hlen ⊢
  rw [State.byte_setWord_ne (by omega), State.byte_setWord_ne (by omega), State.byte_of_mem (s.mem_slotWritten bytes),
    State.byte_setBytes_same s _ bytes (by omega)]

theorem State.byte_putRecord_header (s : State) (r : LogRec) {k : Nat} (h : k < 4) :
    (s.putRecord r).byte (0x4C000008 + k) = s.logSlot / 256 ^ k % 256 ∧
      (s.putRecord r).byte (0x4C00000C + k) = nextSeq (s.rd Reg.ALD_LOG.HEAD_SEQ) / 256 ^ k % 256 := by
  rw [State.putRecord_eq]
  exact ⟨(State.byte_setWord_ne (by omega)).trans (State.byte_setWord_same _ _ _ h), State.byte_setWord_same _ _ _ h⟩

theorem State.byte_putRecord_ne (s : State) (r : LogRec) {x : Nat} (hx : x < logBase + 0x40 * s.logSlot ∨ logBase + 0x40 * s.logSlot + 64 ≤ x)
    (hheader : x < 0x4C000008 ∨ 0x4C000010 ≤ x) : (s.putRecord r).byte x = s.byte x := by
  have hlen : (s.logRecord r).length = 64 := length_logBytes _ _
  rw [State.putRecord_eq]
  generalize s.logRecord r = bytes at hlen ⊢
  rw [State.byte_setWord_ne (by omega), State.byte_setWord_ne (by omega), State.byte_of_mem (s.mem_slotWritten bytes),
    State.byte_setBytes_ne bytes s (by omega)]

theorem State.putRecord_queue (s : State) (r : LogRec) : (s.putRecord r).logq = s.logq ∧ (s.putRecord r).logLost = s.logLost := by
  rw [State.putRecord_eq]
  generalize s.logRecord r = bytes
  rw [State.setWord_eq, State.setWord_eq (s.slotWritten bytes)]
  exact s.queue_slotWritten bytes

theorem State.putRecord_head (s : State) (r : LogRec) :
    (s.putRecord r).rd Reg.ALD_LOG.HEAD_SEQ = nextSeq (s.rd Reg.ALD_LOG.HEAD_SEQ) ∧ (s.putRecord r).rd Reg.ALD_LOGIDX.HEAD = s.logSlot := by
  rw [State.putRecord_eq, State.rd_setWord, State.rd_setWord, State.rd_setWord, State.rd_setWord]
  exact s.head_slotWritten _

/-! ## LOG_WRITE (R435) -/

theorem exec_logWrite_idle (h : s.aldBusy = true ∨ (s.logLost = 0 ∧ s.logq = [])) (ok : Bool) : exec (.logWrite ok) s = .next s :=
  congrArg Host.Outcome.next (if_pos (.inr h))

theorem exec_logWrite (hald : s.present islALD = true) (hidle : s.aldBusy = false) (h : s.logLost ≠ 0 ∨ s.logq ≠ []) (ok : Bool) :
    exec (.logWrite ok) s = .next (if ok then s.writeNext else s.flag Reg.ALD_EVT.LOG_ERR 0) := by
  refine congrArg Host.Outcome.next (if_neg ?_)
  rw [hald, hidle]
  tauto

theorem State.writeNext_pending {r : LogRec} {l : List LogRec} (hlost : s.logLost = 0) (hq : s.logq = r :: l) :
    s.writeNext = (s.setLogq l).putRecord r := by simp [State.writeNext, hlost, hq]

/-- The record on lost events (R435). -/
def State.lossRecord (s : State) : LogRec :=
  ⟨0x000C, 0, 0, s.chainTime, s.chainTime, min s.logLost 0xFFFFFFFF, leBytes 4 (min s.logLost 0xFFFFFFFF)⟩

theorem State.writeNext_lost (h : 0 < s.logLost) : s.writeNext = ({ s with logLost := 0 } : State).putRecord s.lossRecord := if_pos h

/-- The queue and its length do not reach into the head of the ring. -/
theorem State.rd_setLogq_ne (s : State) (l : List LogRec) {f : FD} (h : f.key 0 0 ≠ Reg.ALD_STATUS.QUEUE.key 0 0) : (s.setLogq l).rd f = s.rd f :=
  State.rd_wr_ne (s := { s with logq := l }) h

theorem State.logSlot_setLogq (s : State) (l : List LogRec) : (s.setLogq l).logSlot = s.logSlot := by
  simp only [State.logSlot, s.rd_setLogq_ne l (f := Reg.ALD_LOG.HEAD_SEQ) (by decide), s.rd_setLogq_ne l (f := Reg.ALD_LOGIDX.HEAD) (by decide)]

theorem State.logRecord_setLogq (s : State) (l : List LogRec) (r : LogRec) : (s.setLogq l).logRecord r = s.logRecord r := by
  simp only [State.logRecord, s.rd_setLogq_ne l (f := Reg.ALD_LOG.HEAD_SEQ) (by decide)]
  rfl

/-! ## LOAD_WINDOW (R432) -/

theorem exec_loadWindow {load : Fin 1001} (h : s.present islALD = true) : exec (.loadWindow load) s = .next (s.loadWindow load.val) := by
  simp [exec, execLoadWindow, h]

/-- The fields in which a window shows. -/
def loadKeys : List Nat :=
  [Reg.ALD_STATUS.LOAD.key 0 0, Reg.ALD_STATUS.BUSY.key 0 0, Reg.ALD_STATUS.JOB.key 0 0, Reg.ALD_EVT.DEFERRED.key 0 0]

/-- The windows in a row at or above BUSY_PM. -/
def State.loadRow (s : State) (load : Nat) : Nat := if s.rd Reg.ALD_CFG.BUSY_PM ≤ load then s.aldLoad + 1 else 0

/-- Is Alder hot after a window? -/
def State.loadHot (s : State) (load : Nat) : Bool :=
  decide (2 ≤ s.loadRow load) || (s.aldHot && !(decide (load + 100 < s.rd Reg.ALD_CFG.BUSY_PM) && !s.aldCrit))

/-- The load and the count of windows of a window that has ended. -/
def State.loadShown (s : State) (load : Nat) : State :=
  { s.wr Reg.ALD_STATUS.LOAD 0 load with aldLoad := s.loadRow load, aldHot := s.loadHot load }

theorem State.loadWindow_eq (s : State) (load : Nat) : s.loadWindow load = (s.loadShown load).houseWaits.showBusy := rfl

/-- A waiting HOUSE job can set DEFERRED, and nothing else. -/
theorem State.houseWaits_eq (s : State) : ∃ b : Bool, s.houseWaits = s.onlyIf b (·.flag Reg.ALD_EVT.DEFERRED 0) := by
  unfold State.houseWaits
  split
  · exact ⟨_, rfl⟩
  · exact ⟨false, rfl⟩

/-- Whether a CRIT job runs or waits is told by the load, the start and the retirement queue. -/
theorem State.aldCrit_congr {t : State} {ks : List Nat} (h : RegsBut s t ks) (himg : Reg.IMG_STATUS.STATE.key 0 0 ∉ ks)
    (hpwr : Reg.PWR_STATUS.PWR_STATE.key 0 0 ∉ ks) (hret : t.retireq = s.retireq) : t.aldCrit = s.aldCrit := by
  simp only [State.aldCrit, h.rd_eq himg, h.rd_eq hpwr, hret]

/-- What the state of Alder holds after a window. -/
theorem State.loadWindow_spec (s : State) {load : Nat} (hload : load < 1001) {t : State} (ht : t = s.loadWindow load) :
    t.rd Reg.ALD_STATUS.LOAD = load ∧ t.aldLoad = s.loadRow load ∧ t.aldHot = s.loadHot load ∧ t.aldBusy = (s.loadHot load || s.aldCrit) ∧
      t.on Reg.ALD_STATUS.BUSY = t.aldBusy ∧ t.mem = s.mem ∧
      RegsBut s t loadKeys := by
  obtain ⟨b, hb⟩ := (s.loadShown load).houseWaits_eq
  rw [State.loadWindow_eq, hb] at ht
  have hshown : RegsBut s (s.loadShown load) loadKeys :=
    RegsBut.of_eq (t := s.wr Reg.ALD_STATUS.LOAD 0 load) ((RegsBut.refl s _).wr2 (by simp [loadKeys])) rfl
  have hcrit {u : State} (hu : RegsBut s u loadKeys) (hret : u.retireq = s.retireq) : u.aldCrit = s.aldCrit :=
    State.aldCrit_congr hu (by decide) (by decide) hret
  have hwaits : RegsBut s ((s.loadShown load).onlyIf b (·.flag Reg.ALD_EVT.DEFERRED 0)) loadKeys := by
    cases b
    · exact hshown
    · exact hshown.wr2 (by simp [loadKeys])
  have hfields : ((s.loadShown load).onlyIf b (·.flag Reg.ALD_EVT.DEFERRED 0)).aldLoad = s.loadRow load ∧
      ((s.loadShown load).onlyIf b (·.flag Reg.ALD_EVT.DEFERRED 0)).aldHot = s.loadHot load ∧
      ((s.loadShown load).onlyIf b (·.flag Reg.ALD_EVT.DEFERRED 0)).retireq = s.retireq ∧
      ((s.loadShown load).onlyIf b (·.flag Reg.ALD_EVT.DEFERRED 0)).mem = s.mem := by
    cases b <;> exact ⟨rfl, rfl, rfl, rfl⟩
  have hld : ((s.loadShown load).onlyIf b (·.flag Reg.ALD_EVT.DEFERRED 0)).rd Reg.ALD_STATUS.LOAD = load := by
    rw [State.rd_onlyIf_flag_of_lo (by decide)]
    exact State.rd_wr_of_lt (hload.trans (by decide))
  generalize (s.loadShown load).onlyIf b (·.flag Reg.ALD_EVT.DEFERRED 0) = u at ht hwaits hfields hld
  obtain ⟨hrow, hhot, hret, hmem⟩ := hfields
  have hbusy : u.aldBusy = (s.loadHot load || s.aldCrit) := by rw [State.aldBusy, hhot, hcrit hwaits hret]
  have hregs : RegsBut s t loadKeys := by
    rw [ht]
    exact (hwaits.wr2 (f := Reg.ALD_STATUS.BUSY) (by simp [loadKeys])).wr2 (by simp [loadKeys])
  have htbusy : t.aldBusy = (s.loadHot load || s.aldCrit) := by
    rw [State.aldBusy, hcrit hregs (by rw [ht]; exact hret), ht]
    exact congrArg (· || s.aldCrit) hhot
  refine ⟨?_, ?_, ?_, htbusy, ?_, ?_, hregs⟩
  · rw [ht, State.showBusy, State.rd_wr_of_lo (by decide), State.rd_wr_of_lo (by decide), hld]
  · rw [ht]; exact hrow
  · rw [ht]; exact hhot
  · rw [htbusy, ht, State.showBusy, State.on_wr_of_lo (by decide), State.on_eq, State.rd_wr_of_lt (b2n_lt_two _), hbusy]
    cases s.loadHot load || s.aldCrit <;> rfl
  · rw [ht]; exact hmem

end

end Sys2Proof.Machine

open Sys2Proof Sys2Proof.Machine

/-! ## The obligation -/

/-- Settles O40: a window by what it shows of the load, a record by the bytes of its slot and of the Clay header. -/
theorem alderLoadAndLog : Obligations.AlderLoadAndLog := by
  refine ⟨fun load s hald => ?window, fun s hald => ⟨fun hbusy ok => exec_logWrite_idle (.inl hbusy) ok,
    fun hlost hq ok => exec_logWrite_idle (.inr ⟨hlost, hq⟩) ok, fun hidle h => ?fails, fun r l hidle hlost hq => ?pending, fun hidle hlost => ?lost⟩⟩
  case window =>
    obtain ⟨hload, hrow, hhot, haldBusy, hbusy, hmem, hregs⟩ := s.loadWindow_spec load.isLt rfl
    refine ⟨_, exec_loadWindow hald, hload, hrow, fun h => ?_, fun h hs hor => ?_, fun h hs hlt hcrit => ?_, fun h hs => ?_, hbusy, ?_, hmem, hregs⟩
    · rw [hrow] at h
      rw [hhot, State.loadHot, decide_eq_true h, Bool.true_or]
    · rw [hhot, State.loadHot, hs]
      rcases hor with hle | hcrit
      · rw [decide_eq_false (p := load.val + 100 < _) (by omega)]; simp
      · rw [hcrit]; simp
    · rw [hrow] at h
      rw [hhot, State.loadHot, hs, hcrit, decide_eq_false (p := 2 ≤ _) (by omega), decide_eq_true hlt]
      rfl
    · rw [hrow] at h
      rw [hhot, State.loadHot, hs, decide_eq_false (p := 2 ≤ _) (by omega)]
      rfl
    · rw [haldBusy, hhot]
  case fails =>
    exact ⟨_, exec_logWrite hald hidle h false, State.rd_flag rfl, rfl, (OnlyRegs.refl s _).wr2 (by simp)⟩
  case pending =>
    refine ⟨_, exec_logWrite hald hidle (.inr (by simp [hq])) true, ?_⟩
    rw [if_pos rfl, State.writeNext_pending hlost hq, ← s.logSlot_setLogq l, ← s.logRecord_setLogq l r,
      ← s.rd_setLogq_ne l (f := Reg.ALD_LOG.HEAD_SEQ) (by decide)]
    obtain ⟨hseq, hhead⟩ := (s.setLogq l).putRecord_head r
    refine ⟨((s.setLogq l).putRecord_queue r).1, ?_, hseq, hhead, fun k hk => (s.setLogq l).byte_putRecord_record r hk,
      fun k hk => (s.setLogq l).byte_putRecord_header r hk, fun x hx hheader => (s.setLogq l).byte_putRecord_ne r hx hheader, ?_⟩
    · exact ((s.setLogq l).regsBut_putRecord r).rd_eq (by decide) |>.trans (State.rd_wr2_same _ _ _ _ _)
    · have hq : RegsBut s (s.setLogq l) [Reg.ALD_STATUS.QUEUE.key 0 0] := ((RegsBut.refl s _).of_eq (u := { s with logq := l }) rfl).wr2 (by simp)
      exact (hq.mono (by simp)).trans (((s.setLogq l).regsBut_putRecord r).mono (by simp))
  case lost =>
    refine ⟨_, exec_logWrite hald hidle (.inl (by omega)) true, ?_⟩
    rw [if_pos rfl, State.writeNext_lost hlost]
    obtain ⟨hseq, hhead⟩ := State.putRecord_head { s with logLost := 0 } s.lossRecord
    obtain ⟨hqueue, hzero⟩ := State.putRecord_queue { s with logLost := 0 } s.lossRecord
    exact ⟨hqueue, hzero, hseq, hhead, fun k hk => State.byte_putRecord_record { s with logLost := 0 } s.lossRecord hk,
      fun x hx hheader => State.byte_putRecord_ne { s with logLost := 0 } s.lossRecord hx hheader, State.regsBut_putRecord { s with logLost := 0 } s.lossRecord⟩
end

section
/-! PROOFS. The statement of spec/19_alder_and_monitors.md on management requests and their replies. -/

namespace Sys2Proof.Machine

/-! ## The data of a record (R433) -/

/-- The data of a record begins behind its 32 bytes of number, code, times and count. -/
theorem getD_logBytes (q : Nat) (r : LogRec) {k : Nat} (h : k < 28) : (logBytes q r).getD (0x20 + k) 0 = r.data.getD k 0 := by
  have hdata : (dataBytes r.data).getD k 0 = r.data.getD k 0 := by
    rw [dataBytes, List.getD_eq_getElem?_getD, List.getElem?_map, List.getElem?_range h]
    rfl
  unfold logBytes
  rw [List.getD_append _ _ _ _ (by simp [dataBytes]; omega), List.getD_append_right _ _ _ _ (by simp)]
  simpa using hdata

/-- The bytes of words of four bytes each, one after the other. -/
theorem getD_words (f : Nat → Nat) (n : Nat) {k : Nat} (h : k < 4 * n) :
    ((List.range n).flatMap fun i => leBytes 4 (f i)).getD k 0 = f (k / 4) / 256 ^ (k % 4) % 256 := by
  have hlen (n : Nat) : ((List.range n).flatMap fun i => leBytes 4 (f i)).length = 4 * n := by
    simp [List.length_flatMap, Nat.mul_comm]
  induction n with
  | zero => omega
  | succ n ih =>
    rw [List.range_succ, List.flatMap_append, List.flatMap_singleton]
    by_cases hk : k < 4 * n
    · rw [List.getD_append _ _ _ _ (by rwa [hlen]), ih hk]
    · rw [List.getD_append_right _ _ _ _ (by rw [hlen]; omega), hlen, getD_leBytes _ (by omega), show k / 4 = n by omega, show k % 4 = k - 4 * n by omega]

section
variable {s : State} {n : Nat}

/-! ## What is done with a request (R437, R438) -/

section
variable {kind : List Nat → Bool} {f : State → Nat → List Nat → State × Nat × List Nat}

theorem State.serve_of_none (h : s.nextRequest = none) : s.serve kind f = s := by simp only [State.serve, h]

theorem State.serve_of_other (h : s.nextRequest = some n) (hkind : kind (s.mbWords n) = false) : s.serve kind f = s := by
  simp [State.serve, h, hkind]

theorem State.serve_busy (h : s.nextRequest = some n) (hkind : kind (s.mbWords n) = true) (hbusy : s.aldBusy = true) :
    s.serve kind f = (s.takeRequest n).replyBusy (s.rd Reg.MB_HDR.SENDER n) (s.mbWords n) := by simp [State.serve, h, hkind, hbusy]

theorem State.serve_idle (h : s.nextRequest = some n) (hkind : kind (s.mbWords n) = true) (hidle : s.aldBusy = false) {t : State} {st : Nat} {res : List Nat}
    (hf : f (s.takeRequest n) (s.rd Reg.MB_HDR.SENDER n) (s.mbWords n) = (t, st, res)) :
    s.serve kind f = t.sendReply (param (s.mbWords n) 1 % 64) (s.rd Reg.MB_HDR.SENDER n) ((s.mbWords n).headD 0)
      (replyWords ((s.mbWords n).headD 0) st 0 res) := by simp [State.serve, h, hkind, hidle, hf]

end

/-- The requests that a command with a code takes: those of the code, and with code 0 the malformed ones. -/
def requestOf (c : Nat) (ws : List Nat) : Bool := if c = 0 then requestFormat ws != 0 else isRequest c ws

theorem requestOf_iff (c : Nat) (ws : List Nat) : requestOf c ws = true ↔ (if c = 0 then requestFormat ws ≠ 0 else isRequest c ws = true) := by
  unfold requestOf
  split <;> simp

/-- Every command of the management requests serves the requests of its code. -/
theorem exec_request {i : Instr} {c : Nat} {ages : List (Fin 93 × Fin 1024)}
    (h : (i, c) ∈ [(Instr.mgStatus, 1), (.logMark, 2), (.keyWrite, 3), (.keyRevoke, 4), (.svnRaise, 5), (.runHouse ages, 6),
      (.malformedManagementRequest, 0)]) (s : State) : ∃ f, exec i s = .next (s.serve (requestOf c) f) := by
  simp only [List.mem_cons, Prod.mk.injEq, List.not_mem_nil, or_false] at h
  rcases h with ⟨rfl, rfl⟩ | ⟨rfl, rfl⟩ | ⟨rfl, rfl⟩ | ⟨rfl, rfl⟩ | ⟨rfl, rfl⟩ | ⟨rfl, rfl⟩ | ⟨rfl, rfl⟩ <;> exact ⟨_, rfl⟩

/-- The record of a LOG_MARK holds the parameters of its request. -/
theorem State.byte_logMark (s : State) (src : Nat) (ws : List Nat) {k : Nat} (h : k < 24) :
    (s.logMark src ws).byte (logBase + 0x40 * (s.logMark src ws).rd Reg.ALD_LOGIDX.HEAD + 0x20 + k) = param ws (k / 4 + 2) / 256 ^ (k % 4) % 256 := by
  unfold State.logMark
  extract_lets t
  generalize hr : (⟨0x0080, src, 0, t.chainTime, t.chainTime, 1, (List.range 6).flatMap fun k => leBytes 4 (param ws (k + 2))⟩ : LogRec) = r
  have hdata (b : Bool) : (if b then { r with flags := r.flags ||| 2 } else r).data = (List.range 6).flatMap fun k => leBytes 4 (param ws (k + 2)) := by
    subst hr
    cases b <;> rfl
  rw [(t.putRecord_head r).2, Nat.add_assoc, t.byte_putRecord_record r (by omega), State.logRecord, getD_logBytes _ _ (by omega), hdata,
    getD_words (fun i => param ws (i + 2)) 6 h, Nat.mod_mod]

theorem requestFormat_of_short {ws : List Nat} (h : ws.length < 8) : requestFormat ws = 2 := by
  simp [requestFormat, requestOk, Nat.not_le.2 h]

theorem requestFormat_of_unknown {ws : List Nat} (hok : requestOk ws = true) (h : ws.headD 0 % 256 = 0 ∨ 6 < ws.headD 0 % 256) :
    requestFormat ws = 3 := by
  simp only [requestFormat, hok, Bool.not_true, Bool.false_eq_true, if_false, if_pos h]

/-! ## Replies (R439) -/

section
variable {mb src req : Nat} {ws : List Nat}

theorem State.sendReply_undeliverable (h : s.mbRx mb ≠ src) : s.sendReply mb src req ws = s.logEv 0x000D mb (leBytes 4 req) := if_pos h

theorem State.sendReply_sent (h : s.mbRx mb = src) (hfill : s.mbMayFill mb 3 = true) : s.sendReply mb src req ws = s.mbSend mb 3 ws :=
  (if_neg fun hne => hne h).trans (if_pos hfill)

theorem State.sendReply_waits (h : s.mbRx mb = src) (hfill : s.mbMayFill mb 3 = false) :
    s.sendReply mb src req ws = { s with replies := s.replies ++ [⟨mb, ws, src, 0, s.now, req⟩] } :=
  (if_neg fun hne => hne h).trans (if_neg (by simp [hfill]))

end

/-- The waiting reply is taken out of its queue and tried. -/
theorem exec_replyRetry {r : Reply} (h : s.replies.find? (fun r => r.at0 + 500000 ≤ s.now) = some r) (hald : s.present islALD = true)
    (hmsg : s.present islMSG = true) : exec .replyRetry s = .next (({ s with replies := s.replies.filter (· ≠ r) } : State).retryReply r) := by
  simp only [exec, execReplyRetry, h, hald, hmsg, Bool.and_self, State.onlyIf_true]

theorem State.retryReply_sent {r : Reply} (h : s.mbMayFill r.mb 3 = true) : s.retryReply r = s.mbSend r.mb 3 r.words := if_pos h

theorem State.retryReply_waits {r : Reply} (h : s.mbMayFill r.mb 3 = false) (htries : r.tries < 99) :
    s.retryReply r = { s with replies := s.replies ++ [{ r with tries := r.tries + 1, at0 := s.now }] } :=
  (if_neg (by simp [h])).trans (if_pos (by omega))

theorem State.retryReply_dropped {r : Reply} (h : s.mbMayFill r.mb 3 = false) (htries : 99 ≤ r.tries) :
    s.retryReply r = (s.flag Reg.ALD_EVT.REPLY_LOST 0).logEv 0x000D r.mb (leBytes 4 r.req) :=
  (if_neg (by simp [h])).trans (if_neg (by omega))

/-- An event for the log changes no waiting reply and no byte of memory. -/
theorem State.logEv_frame (s : State) (code src : Nat) (data : List Nat) :
    (s.logEv code src data).replies = s.replies ∧ (s.logEv code src data).mem = s.mem := by
  unfold State.logEv
  split
  · exact ⟨rfl, rfl⟩
  split
  · exact ⟨rfl, rfl⟩
  split <;> exact ⟨rfl, rfl⟩

end

end Sys2Proof.Machine

open Sys2Proof Sys2Proof.Machine

/-! ## The obligation -/

/-- Settles O42, with what the shared service of requests does where there is none, where it is of another kind, where Alder is busy and
where it is idle. -/
theorem managementRequests : Obligations.ManagementRequests := by
  refine ⟨fun i c ages s hmem => ?any, fun n ages s hn hidle => ?idle,
    fun mb src req ws s => ⟨State.sendReply_undeliverable, State.sendReply_sent, State.sendReply_waits⟩, fun r s hr hald hmsg => ?retry⟩
  case any =>
    obtain ⟨f, hf⟩ := exec_request hmem s
    rw [hf]
    refine ⟨fun hn => by rw [State.serve_of_none hn], fun n hn => ?_, fun n hn hkind hbusy => ?_⟩
    · rw [← requestOf_iff]
      cases hkind : requestOf c (s.mbWords n) with
      | true => exact .inl rfl
      | false => exact .inr (by rw [State.serve_of_other hn hkind])
    · rw [State.serve_busy hn ((requestOf_iff c _).2 hkind) hbusy]
      exact ⟨_, Nat.le_add_left 1 _, Nat.succ_le_of_lt (Config.retryMs _).isLt, rfl⟩
  case idle =>
    refine ⟨fun hkind => congrArg Host.Outcome.next (State.serve_idle hn hkind hidle rfl),
      fun hkind => ⟨_, rfl, congrArg Host.Outcome.next (State.serve_idle hn hkind hidle rfl), fun k hk => State.byte_logMark _ _ _ hk⟩,
      fun hkind => congrArg Host.Outcome.next (State.serve_idle hn hkind hidle rfl),
      fun hkind => congrArg Host.Outcome.next (State.serve_idle (kind := fun ws => requestFormat ws != 0) hn (bne_iff_ne.2 hkind) hidle rfl), requestFormat_of_short, requestFormat_of_unknown⟩
  case retry =>
    rw [exec_replyRetry hr hald hmsg]
    refine ⟨fun hfill => congrArg Host.Outcome.next (State.retryReply_sent hfill),
      fun hfill htries => congrArg Host.Outcome.next (State.retryReply_waits hfill htries),
      fun hfill htries => ⟨_, congrArg Host.Outcome.next (State.retryReply_dropped hfill htries), ?_⟩⟩
    generalize hu : (({ s with replies := s.replies.filter (· ≠ r) } : State).flag Reg.ALD_EVT.REPLY_LOST 0) = u
    have hfields : u.replies = s.replies.filter (· ≠ r) ∧ u.mem = s.mem ∧ u.rd Reg.ALD_EVT.REPLY_LOST = 1 := by
      subst hu
      exact ⟨rfl, rfl, State.rd_flag rfl⟩
    have hregs : RegsBut s u [Reg.ALD_EVT.REPLY_LOST.key 0 0] :=
      hu ▸ ((RegsBut.refl s _).of_eq (u := { s with replies := s.replies.filter (· ≠ r) }) rfl).wr2 (by simp)
    obtain ⟨hreplies, hmem, hlost⟩ := hfields
    obtain ⟨hreplies', hmem'⟩ := u.logEv_frame 0x000D r.mb (leBytes 4 r.req)
    have hlog := u.regsBut_logEv 0x000D r.mb (leBytes 4 r.req)
    exact ⟨hreplies'.trans hreplies, (hlog.rd_eq (by decide)).trans hlost, hmem'.trans hmem, (hregs.mono (by simp)).trans (hlog.mono (by simp [logKeys]))⟩
end

section
/-! PROOFS. The statements of spec/15_can.md: the controllers, their buffers, and the frames they send, receive and fail. -/

namespace Sys2Proof.Machine

/-! ## Bits of a pair of words -/

theorem bitAt_mod_two_pow {n w i : Nat} (h : i < w) : bitAt (n % 2 ^ w) i = bitAt n i := by
  rw [bitAt_eq_testBit, bitAt_eq_testBit, Nat.testBit_mod_two_pow, decide_eq_true h, Bool.true_and]

section
variable {s : State} {f : FD} {n b : Nat}

theorem State.canBit_setCanBit_same (hw : f.w = 32) (v : Bool) : (s.setCanBit f n b v).canBit f n b = v := by
  rw [State.canBit, State.setCanBit, State.rd_wr2_same, hw, bitAt_mod_two_pow (Nat.mod_lt b (by decide))]
  cases v
  · exact bitAt_withoutBit_same _ _
  · exact bitAt_withBit_same _ _

theorem State.canBit_of_rd {t : State} (h : t.rd f n (b / 32) = s.rd f n (b / 32)) : t.canBit f n b = s.canBit f n b := by
  rw [State.canBit, State.canBit, h]

/-- The words TXPEND, TXDONE and RXFULL lie behind the control, state and event registers of their controller. -/
theorem FD.canBit_key_ne {g : FD} (hf : f.blk = 8 ∧ f.s1 = 0x100 ∧ 0x20 ≤ f.off) (hg : g.blk = 8 ∧ g.s1 = 0x100 ∧ g.off < 0x20 ∧ g.lo < 32) (n j : Nat) :
    f.key n j ≠ g.key n 0 := by
  obtain ⟨hblk, hs1, hoff⟩ := hf
  obtain ⟨gblk, gs1, goff, glo⟩ := hg
  simp only [FD.key, FD.addr, hblk, hs1, gblk, gs1]
  omega

theorem State.canBit_wr {g : FD} {v : Nat} (hf : f.blk = 8 ∧ f.s1 = 0x100 ∧ 0x20 ≤ f.off) (hg : g.blk = 8 ∧ g.s1 = 0x100 ∧ g.off < 0x20 ∧ g.lo < 32) :
    (s.wr g n v).canBit f n b = s.canBit f n b := State.canBit_of_rd (State.rd_wr_ne (FD.canBit_key_ne hf hg n _))

theorem State.rd_setCanBit {g : FD} {v : Bool} (hf : f.blk = 8 ∧ f.s1 = 0x100 ∧ 0x20 ≤ f.off) (hg : g.blk = 8 ∧ g.s1 = 0x100 ∧ g.off < 0x20 ∧ g.lo < 32) :
    (s.setCanBit f n b v).rd g n = s.rd g n := State.rd_wr2_ne _ _ (FD.canBit_key_ne hf hg n _).symm

theorem canBufs_two_pow (w : Nat) (b : Fin 32) : canBufs w (BitVec.ofNat 32 (2 ^ b.val)).toNat = [32 * w + b.val] := by
  have h : bitList 32 (BitVec.ofNat 32 (2 ^ b.val)).toNat = [b.val] := by decide +revert
  rw [canBufs, h, List.map_singleton]

theorem canBufs_zero (w : Nat) : canBufs w (0 : BitVec 32).toNat = [] := by
  have h : bitList 32 (0 : BitVec 32).toNat = [] := by decide
  rw [canBufs, h, List.map_nil]

/-- The word that holds the bit of a buffer. -/
theorem canWord (w : Nat) (b : Fin 32) : (32 * w + b.val) / 32 = w := by omega

end

/-! ## The record of a controller -/

@[simp] theorem State.can_setCan_same (s : State) (n : Nat) (r : CanS) : (s.setCan n r).can n = r := SMap.get_set_same _ _ _ _
@[simp] theorem State.rd_setCan (s : State) (n : Nat) (r : CanS) (f : FD) (i j : Nat) : (s.setCan n r).rd f i j = s.rd f i j := rfl
@[simp] theorem State.rd_canIdle (s : State) (n : Nat) (f : FD) (i j : Nat) : (s.canIdle n).rd f i j = s.rd f i j := rfl
@[simp] theorem State.mem_canIdle (s : State) (n : Nat) : (s.canIdle n).mem = s.mem := rfl
@[simp] theorem State.canBit_canIdle (s : State) (n : Nat) (f : FD) (b : Nat) : (s.canIdle n).canBit f n b = s.canBit f n b := rfl
@[simp] theorem State.rd_canFrameEnd (s : State) (n : Nat) (f : FD) (i j : Nat) : (s.canFrameEnd n false).rd f i j = s.rd f i j := rfl
@[simp] theorem State.mem_canFrameEnd (s : State) (n : Nat) : (s.canFrameEnd n false).mem = s.mem := rfl
@[simp] theorem State.canBit_canFrameEnd (s : State) (n : Nat) (f : FD) (b : Nat) : (s.canFrameEnd n false).canBit f n b = s.canBit f n b := rfl
@[simp] theorem State.rd_next (s : State) (f : FD) (i j : Nat) : s.next.rd f i j = s.rd f i j := rfl
@[simp] theorem State.canBit_next (s : State) (f : FD) (n b : Nat) : s.next.canBit f n b = s.canBit f n b := rfl
@[simp] theorem State.can_canIdle (s : State) (n : Nat) : (s.canIdle n).can n = { s.can n with sel := none, begun := false } := State.can_setCan_same _ _ _
@[simp] theorem State.rd_setCanState_same (s : State) (n v : Nat) : (s.setCanState n v).rd Reg.CAN_STAT.STATE n = v % 8 := State.rd_wr2_same _ _ _ _ _

section
variable {s : State} {m : Master} {n : Nat}

/-! ## RUN, SYNC and the recovery (R365, R373) -/

theorem exec_canRun {n : Fin 6} (h : s.ready (Reg.CAN_CTRL.RUN.addr n.val 0) = true) : exec (.canRun m n) s = .next ((s.canRun n.val).ack m) :=
  congrArg Host.Outcome.next (State.winWrite_ready h)

theorem exec_canStop {n : Fin 6} {idle : Bool} (h : s.ready (Reg.CAN_CTRL.RUN.addr n.val 0) = true) :
    exec (.canStop m n idle) s = .next ((s.canStop n.val idle).ack m) := congrArg Host.Outcome.next (State.winWrite_ready h)

theorem exec_recStart {n : Fin 6} (h : s.ready (Reg.CAN_CTRL.REC_START.addr n.val 0) = true) :
    exec (.recStart m n) s = .next ((s.onlyIf (s.canState n.val == 4) fun u => (u.setCanState n.val 5).wr Reg.CAN_CTRL.REC_START n.val 1).ack m) :=
  congrArg Host.Outcome.next (State.winWrite_ready h)

theorem State.canRun_sync (hst : s.canState n = 0) (hcode : s.canRunCode n = 0) (htec : s.rd Reg.CAN_STAT.TEC n ≤ 255) :
    s.canRun n = (s.wr Reg.CAN_CTRL.RUN n 1).setCanState n 1 := by
  have : ¬ 255 < (s.wr Reg.CAN_CTRL.RUN n 1).rd Reg.CAN_STAT.TEC n := by rw [State.rd_wr_of_lo (by decide)]; omega
  simp only [State.canRun, hst, hcode, ne_eq, not_true_eq_false, if_false, if_neg this]

theorem State.canRun_busOff (hst : s.canState n = 0) (hcode : s.canRunCode n = 0) (htec : 255 < s.rd Reg.CAN_STAT.TEC n) :
    s.canRun n = ((s.wr Reg.CAN_CTRL.RUN n 1).setCanState n 4).flag Reg.CAN_EVT.BUSOFF n := by
  have : 255 < (s.wr Reg.CAN_CTRL.RUN n 1).rd Reg.CAN_STAT.TEC n := by rwa [State.rd_wr_of_lo (by decide)]
  simp only [State.canRun, hst, hcode, ne_eq, not_true_eq_false, if_false, if_pos this]

theorem State.canRun_refused (hst : s.canState n = 0) (hcode : s.canRunCode n ≠ 0) : s.canRun n = s.canRefuse n (s.canRunCode n) := by
  unfold State.canRun
  rw [if_neg (not_not.2 hst)]
  split
  · contradiction
  · rfl

/-- The codes of R365. -/
theorem State.canRunCode_lt (s : State) (n : Nat) : s.canRunCode n < 8 := by
  unfold State.canRunCode
  extract_lets bit
  split
  · decide
  split
  · decide
  split
  · decide
  split <;> decide

theorem State.canStop_idle {idle : Bool} (h : s.canState n = 0) : s.canStop n idle = s := if_pos h

theorem State.canStop_init {idle : Bool} (h : s.canState n = 4 ∨ s.canState n = 5 ∨ (s.canState n ≠ 0 ∧ idle = true ∧ (s.can n).begun = false)) :
    s.canStop n idle = s.canInit n := by
  have hon : s.canState n ≠ 0 := by omega
  have hstop : s.canState n = 4 ∨ s.canState n = 5 ∨ (idle = true ∧ (!(s.can n).begun) = true) :=
    h.imp_right (Or.imp_right fun ⟨_, hidle, hbegun⟩ => ⟨hidle, by rw [hbegun]; rfl⟩)
  exact (if_neg hon).trans (if_pos hstop)

theorem State.canStop_stopping {idle : Bool} (hst : s.canState n = 1 ∨ s.canState n = 2 ∨ s.canState n = 3 ∨ s.canState n = 6)
    (h : idle = false ∨ (s.can n).begun = true) : s.canStop n idle = (s.wr Reg.CAN_CTRL.RUN n 0).setCanState n 6 := by
  have hbusy : ¬ (idle = true ∧ (!(s.can n).begun) = true) := by
    rintro ⟨hidle, hbegun⟩
    rcases h with h | h <;> simp [h] at hidle hbegun
  have hgo : ¬ (s.canState n = 4 ∨ s.canState n = 5 ∨ (idle = true ∧ (!(s.can n).begun) = true)) := by
    rintro (h4 | h5 | hb)
    · omega
    · omega
    · exact hbusy hb
  exact (if_neg (by omega)).trans (if_neg hgo)

/-- What INIT leaves of a controller. -/
theorem State.canInit_spec (s : State) (n : Nat) :
    (s.canInit n).rd Reg.CAN_STAT.STATE n = 0 ∧ (s.canInit n).rd Reg.CAN_CTRL.RUN n = 0 ∧ (s.canInit n).rd Reg.CAN_CTRL.REC_START n = 0 ∧
      (s.canInit n).rd Reg.CAN_STAT.TEC n = s.rd Reg.CAN_STAT.TEC n ∧ ((s.canInit n).can n).sel = none ∧ (s.canInit n).mem = s.mem := by
  refine ⟨?_, ?_, ?_, ?_, by simp [State.canInit], rfl⟩
  all_goals
    simp (disch := decide) only [State.canInit, State.setCanState, State.rd_canIdle, State.wr_eq, State.rd_wr2_same, State.rd_wr2_of_place]
  all_goals rfl

theorem State.canErrState_lt (s : State) (n : Nat) : s.canErrState n < 8 := by
  unfold State.canErrState
  extract_lets t
  split
  · decide
  split <;> decide

theorem exec_canSyncDone {n : Fin 6} (hcan : s.present islCAN = true) (hst : s.canState n.val = 1) :
    exec (.canSyncDone n) s = .next (s.setCanState n.val (s.canErrState n.val)) := congrArg Host.Outcome.next (if_pos ⟨hcan, hst⟩)

theorem exec_canSyncDone_idle {n : Fin 6} (hst : s.canState n.val ≠ 1) : exec (.canSyncDone n) s = .next s :=
  congrArg Host.Outcome.next (if_neg fun h => hst h.2)

/-- A controller after its recovery: ACTIVE, with the counters at 0. -/
def State.canRecovered (s : State) (n : Nat) : State :=
  ((((s.wr Reg.CAN_STAT.TEC n 0).wr Reg.CAN_STAT.REC n 0).wr Reg.CAN_STAT.EWARN n 0).wr Reg.CAN_CTRL.REC_START n 0).setCanState n 2

theorem exec_canRecoveryDone {n : Fin 6} (hcan : s.present islCAN = true) (hst : s.canState n.val = 5) :
    exec (.canRecoveryDone n) s = .next (s.canRecovered n.val) := congrArg Host.Outcome.next (if_pos ⟨hcan, hst⟩)

theorem exec_canRecoveryDone_idle {n : Fin 6} (hst : s.canState n.val ≠ 5) : exec (.canRecoveryDone n) s = .next s :=
  congrArg Host.Outcome.next (if_neg fun h => hst h.2)

/-! ## Requests, cancels and releases (R369, R371, R372) -/

theorem exec_txreq {n : Fin 6} {b : Fin 32} {w : Fin 2} (h : s.ready (Reg.CAN_TXREQ.REQ.addr n.val w.val) = true) :
    exec (.txreq m n w (BitVec.ofNat 32 (2 ^ b.val)) 0) s = .next ((s.canRequest n.val (32 * w.val + b.val)).ack m) := by
  refine congrArg Host.Outcome.next ((State.winWrite_ready h).trans ?_)
  rw [canBufs_two_pow, canBufs_zero]
  rfl

theorem exec_txcan {n : Fin 6} {b : Fin 32} {w : Fin 2} (h : s.ready (Reg.CAN_TXCAN.CAN.addr n.val w.val) = true) :
    exec (.txcan m n w (BitVec.ofNat 32 (2 ^ b.val))) s = .next ((s.canCancel n.val (32 * w.val + b.val)).ack m) := by
  refine congrArg Host.Outcome.next ((State.winWrite_ready h).trans ?_)
  rw [canBufs_two_pow]
  rfl

theorem exec_rxfullRelease {n : Fin 6} {b : Fin 32} {w : Fin 2} (h : s.ready (Reg.CAN_RXFULL.FULL.addr n.val w.val) = true) :
    exec (.rxfullRelease m n w (BitVec.ofNat 32 (2 ^ b.val))) s =
      .next ((s.setCanBit Reg.CAN_RXFULL.FULL n.val (32 * w.val + b.val) false).ack m) := by
  refine congrArg Host.Outcome.next ((State.winWrite_ready h).trans ?_)
  rw [State.canRelease, canBufs_two_pow]
  rfl

section
variable {b : Nat}

theorem State.canRequest_accepted (hdir : s.canDir n b = 1) (hfd : bitAt (s.canCtl n b) 4 = false) (hpend : s.canBit Reg.CAN_TXPEND.PEND n b = false) :
    s.canRequest n b = s.setCanBit Reg.CAN_TXPEND.PEND n b true := by simp [State.canRequest, hdir, hfd, hpend]

theorem State.canRequest_refused (h : s.canDir n b ≠ 1 ∨ s.canBit Reg.CAN_TXPEND.PEND n b = true) : s.canRequest n b = s.flag Reg.CAN_EVT.TX_ERR n :=
  if_pos (h.imp_right fun hp => .inr (.inr hp))

theorem State.canCancel_late (hpend : s.canBit Reg.CAN_TXPEND.PEND n b = true) (hbegun : (s.can n).begun = true) (hsel : (s.can n).sel = some b) :
    s.canCancel n b = s.flag Reg.CAN_EVT.CANCEL_LATE n := by simp [State.canCancel, hpend, hbegun, hsel]

/-- The frame of a pending buffer has not begun: it is taken back. -/
theorem State.canCancel_spec (hpend : s.canBit Reg.CAN_TXPEND.PEND n b = true) (h : (s.can n).begun = false ∨ (s.can n).sel ≠ some b) :
    (s.canCancel n b).canBit Reg.CAN_TXPEND.PEND n b = false ∧ (s.canCancel n b).rd Reg.CAN_EVT.CANCELLED n = 1 ∧ (s.canCancel n b).mem = s.mem := by
  have hlate : ¬ ((s.can n).begun = true ∧ (s.can n).sel = some b) := by
    rintro ⟨hbegun, hsel⟩
    rcases h with h | h
    · rw [h] at hbegun; cases hbegun
    · exact h hsel
  simp only [State.canCancel, hpend, Bool.not_true, Bool.false_eq_true, if_false, if_neg hlate]
  have hbase : ((s.setCanBit Reg.CAN_TXPEND.PEND n b false).flag Reg.CAN_EVT.CANCELLED n).canBit Reg.CAN_TXPEND.PEND n b = false ∧
      ((s.setCanBit Reg.CAN_TXPEND.PEND n b false).flag Reg.CAN_EVT.CANCELLED n).rd Reg.CAN_EVT.CANCELLED n = 1 ∧
      ((s.setCanBit Reg.CAN_TXPEND.PEND n b false).flag Reg.CAN_EVT.CANCELLED n).mem = s.mem :=
    ⟨(State.canBit_wr (by decide) (by decide)).trans (State.canBit_setCanBit_same rfl false), State.rd_flag rfl, rfl⟩
  generalize (s.setCanBit Reg.CAN_TXPEND.PEND n b false).flag Reg.CAN_EVT.CANCELLED n = u at hbase ⊢
  have hidle : (u.onlyIf ((s.can n).sel == some b) (·.canIdle n)).canBit Reg.CAN_TXPEND.PEND n b = false ∧
      (u.onlyIf ((s.can n).sel == some b) (·.canIdle n)).rd Reg.CAN_EVT.CANCELLED n = 1 ∧ (u.onlyIf ((s.can n).sel == some b) (·.canIdle n)).mem = s.mem := by
    cases (s.can n).sel == some b <;> exact hbase
  generalize u.onlyIf ((s.can n).sel == some b) (·.canIdle n) = v at hidle ⊢
  obtain ⟨hbit, hflag, hmem⟩ := hidle
  cases v.on Reg.CAN_STAT.BOFF_VALID n && v.rd Reg.CAN_STAT.BOFF_BUF n == b
  · exact ⟨hbit, hflag, hmem⟩
  · exact ⟨(State.canBit_wr (by decide) (by decide)).trans hbit, (State.rd_wr_of_lo (by decide)).trans hflag, hmem⟩

end

/-! ## Selection and arbitration (R370, R371) -/

/-- In ACTIVE, in MODE 0, with no frame begun, a sample point selects, and a bit start drives what is selected. -/
theorem exec_canTxSelect {n : Fin 6} (hcan : s.present islCAN = true) (hst : s.canState n.val = 2) (hmode : s.rd Reg.CAN_CTRL.MODE n.val = 0)
    (hbegun : (s.can n.val).begun = false) (start : Bool) :
    exec (.canTxSelect n start) s = .next (if start then
      (if (s.can n.val).sel.isSome then s.setCan n.val { s.can n.val with begun := true, sof := s.canTs n.val s.chainTime } else s)
      else s.canSelect n.val) := by
  simp [exec, execCanTxSelect, hcan, hst, hmode, hbegun]

theorem State.canSelect_of_one {b : Nat} (hvalid : s.rd Reg.CAN_STAT.BOFF_VALID n = 0) (hpending : s.canPending n = [b]) :
    s.canSelect n = s.setCan n { s.can n with sel := some b } := by
  simp [State.canSelect, State.on_eq, hvalid, hpending, State.canBetter]

theorem exec_canArbitrationLost {n : Fin 6} (hbus : s.canOnBus n.val = true) (hbegun : (s.can n.val).begun = true) :
    exec (.canArbitrationLost n) s = .next (s.canIdle n.val) := congrArg Host.Outcome.next (if_pos ⟨hbus, hbegun⟩)

/-! ## The error counters (R367) -/

theorem State.canOnBus_of_active (hcan : s.present islCAN = true) (hst : s.canState n = 2) : s.canOnBus n = true := by
  rw [State.canOnBus, hcan, hst]
  rfl

/-- The counters and EWARN take their values. -/
def State.canCounted (s : State) (n tec rec' : Nat) : State :=
  ((s.wr Reg.CAN_STAT.TEC n (min 256 tec)).wr Reg.CAN_STAT.REC n (min 255 rec')).wr Reg.CAN_STAT.EWARN n (b2n (decide (96 ≤ tec) || decide (96 ≤ rec')))

theorem State.rd_tec_canCounted (s : State) (n tec rec' : Nat) : (s.canCounted n tec rec').rd Reg.CAN_STAT.TEC n = min 256 tec := by
  rw [State.canCounted, State.rd_wr_of_lo (by decide), State.rd_wr_of_lo (by decide), State.rd_wr_of_lt]
  exact lt_of_le_of_lt (Nat.min_le_left _ _) (by decide)

theorem State.rd_rec_canCounted (s : State) (n tec rec' : Nat) : (s.canCounted n tec rec').rd Reg.CAN_STAT.REC n = min 255 rec' := by
  rw [State.canCounted, State.rd_wr_of_lo (by decide), State.rd_wr_of_lt]
  exact lt_of_le_of_lt (Nat.min_le_left _ _) (by decide)

/-- The counters lie at bits 15, 24 and 4. -/
theorem State.rd_canCounted_of_lo {tec rec' : Nat} {g : FD} {i j : Nat} (h : g.lo % 32 ≠ 15 ∧ g.lo % 32 ≠ 24 ∧ g.lo % 32 ≠ 4) :
    (s.canCounted n tec rec').rd g i j = s.rd g i j := by
  obtain ⟨htec, hrec, hwarn⟩ := h
  rw [State.canCounted, State.rd_wr_of_lo hwarn, State.rd_wr_of_lo hrec, State.rd_wr_of_lo htec]

/-- Counters below 128 leave an ACTIVE controller ACTIVE. -/
theorem State.canCount_active {tec rec' : Nat} (hst : s.canState n = 2) (htec : tec < 128) (hrec : rec' < 128) :
    s.canCount n tec rec' = (s.canCounted n tec rec').setCanState n 2 := by
  have hstate : (s.canCounted n tec rec').canState n = 2 := (State.rd_canCounted_of_lo (by decide)).trans hst
  have herr : (s.canCounted n tec rec').canErrState n = 2 := by
    rw [State.canErrState, State.rd_tec_canCounted, State.rd_rec_canCounted]
    rw [if_neg (by omega), if_neg (by omega)]
  rw [State.canCount, ← State.canCounted]
  simp only [hstate, herr]
  rfl

/-- A TEC above 255 takes an ACTIVE controller to BUSOFF. -/
theorem State.canCount_busOff {tec rec' : Nat} (hst : s.canState n = 2) (htec : 255 < tec) :
    s.canCount n tec rec' = (s.canCounted n tec rec').canBusOff n := by
  have hstate : (s.canCounted n tec rec').canState n = 2 := (State.rd_canCounted_of_lo (by decide)).trans hst
  have herr : (s.canCounted n tec rec').canErrState n = 4 := by
    rw [State.canErrState, State.rd_tec_canCounted]
    exact if_pos (by omega)
  rw [State.canCount, ← State.canCounted]
  simp only [hstate, herr]
  rfl

/-- A controller that goes off the bus within a frame keeps the buffer of the frame. -/
theorem State.canBusOff_of_begun {b : Nat} (hbegun : (s.can n).begun = true) (hsel : (s.can n).sel = some b) :
    s.canBusOff n = ((((s.wr Reg.CAN_STAT.BOFF_BUF n b).wr Reg.CAN_STAT.BOFF_VALID n 1).setCanState n 4).flag Reg.CAN_EVT.BUSOFF n).canIdle n := by
  simp only [State.canBusOff, hbegun, hsel]

/-- The counters of a frame that ends in ACTIVE, and what the end leaves of the controller. -/
theorem State.frameEnd_active_spec {tec rec' : Nat} (hst : s.canState n = 2) (htec : tec < 128) (hrec : rec' < 128) {t : State}
    (ht : t = (s.canCount n tec rec').canFrameEnd n false) :
    t.rd Reg.CAN_STAT.TEC n = tec ∧ t.rd Reg.CAN_STAT.REC n = rec' ∧ t.rd Reg.CAN_STAT.STATE n = 2 ∧ (t.can n).begun = false ∧ t.mem = s.mem := by
  rw [State.canCount_active hst htec hrec] at ht
  subst ht
  refine ⟨?_, ?_, State.rd_setCanState_same _ n 2, by simp [State.canFrameEnd], rfl⟩
  · rw [State.rd_canFrameEnd, State.setCanState, State.rd_wr_of_lo (by decide), State.rd_tec_canCounted]
    omega
  · rw [State.rd_canFrameEnd, State.setCanState, State.rd_wr_of_lo (by decide), State.rd_rec_canCounted]
    omega

/-- The end of a frame in ACTIVE leaves the fields beside the counters and the state as they were, -/
theorem State.rd_frameEnd_active {tec rec' : Nat} (hst : s.canState n = 2) (htec : tec < 128) (hrec : rec' < 128) {g : FD}
    (hlo : g.lo % 32 ≠ 15 ∧ g.lo % 32 ≠ 24 ∧ g.lo % 32 ≠ 4) (hg : g.key n 0 ≠ Reg.CAN_STAT.STATE.key n 0) :
    ((s.canCount n tec rec').canFrameEnd n false).rd g n = s.rd g n := by
  rw [State.canCount_active hst htec hrec, State.rd_canFrameEnd, State.setCanState, State.rd_wr_ne hg, State.rd_canCounted_of_lo hlo]

/-- and the words of the buffers. -/
theorem State.canBit_frameEnd_active {tec rec' : Nat} (hst : s.canState n = 2) (htec : tec < 128) (hrec : rec' < 128) {f : FD} {b : Nat}
    (hf : f.blk = 8 ∧ f.s1 = 0x100 ∧ 0x20 ≤ f.off) (hlo : f.lo = 0) : ((s.canCount n tec rec').canFrameEnd n false).canBit f n b = s.canBit f n b := by
  rw [State.canCount_active hst htec hrec, State.canBit_canFrameEnd, State.setCanState, State.canBit_wr hf (by decide)]
  exact State.canBit_of_rd (State.rd_canCounted_of_lo (by rw [hlo]; decide))

/-! ## Frames that are sent (R370, R374) -/

/-- The state of a controller whose frame has completed, before the counters: its buffer moves from TXPEND to TXDONE and takes the stamp. -/
def State.canSent (s : State) (n b tdcv : Nat) : State :=
  (((((s.onlyIf (bitAt (s.canCtl n b) 4 && s.on Reg.CAN_TDC.TDC_EN n) (·.wr Reg.CAN_TDC.TDCV n tdcv)).setCanBit Reg.CAN_TXPEND.PEND n b false).setCanBit
    Reg.CAN_TXDONE.DONE n b true).setWord (canBuf n b 0x0C) (s.can n).sof).flag Reg.CAN_EVT.TXF n).wr Reg.CAN_STAT.LEC n 0

theorem State.canBit_setWord (s : State) (a v : Nat) (f : FD) (n b : Nat) : (s.setWord a v).canBit f n b = s.canBit f n b :=
  State.canBit_of_rd (State.rd_setWord s a v f n (b / 32))

/-- What a frame sent leaves as it was: the control, the state and the counters of the controller. -/
theorem State.rd_canSent {b tdcv : Nat} {g : FD} (hg : g.blk = 8 ∧ g.s1 = 0x100 ∧ g.off < 0x20 ∧ g.lo < 32)
    (hlo : g.lo % 32 ≠ 16 ∧ g.lo % 32 ≠ 12) (htxf : g.key n 0 ≠ Reg.CAN_EVT.TXF.key n 0) : (s.canSent n b tdcv).rd g n = s.rd g n := by
  rw [State.canSent, State.rd_wr_of_lo hlo.2, State.flag, State.rd_wr_ne htxf, State.rd_setWord, State.rd_setCanBit (by decide) hg,
    State.rd_setCanBit (by decide) hg]
  exact State.rd_onlyIf_wr_ne (FD.key_ne_of_lo hlo.1)

theorem State.canSent_spec (s : State) (n tdcv : Nat) {b : Nat} :
    (s.canSent n b tdcv).canBit Reg.CAN_TXPEND.PEND n b = false ∧ (s.canSent n b tdcv).canBit Reg.CAN_TXDONE.DONE n b = true ∧
      (s.canSent n b tdcv).rd Reg.CAN_EVT.TXF n = 1 ∧ (s.canSent n b tdcv).rd Reg.CAN_STAT.LEC n = 0 ∧
      (s.canSent n b tdcv).mem = (s.setWord (canBuf n b 0x0C) (s.can n).sof).mem := by
  refine ⟨?_, ?_, ?_, State.rd_wr_of_lt (by decide), ?_⟩
  · rw [State.canSent, State.canBit_wr (by decide) (by decide), State.flag, State.canBit_wr (by decide) (by decide), State.canBit_setWord]
    exact (State.canBit_of_rd (State.rd_wr2_ne _ _ (FD.key2_ne_of_off (by decide)))).trans (State.canBit_setCanBit_same rfl false)
  · rw [State.canSent, State.canBit_wr (by decide) (by decide), State.flag, State.canBit_wr (by decide) (by decide), State.canBit_setWord]
    exact State.canBit_setCanBit_same rfl true
  · rw [State.canSent, State.rd_wr_of_lo (by decide), State.rd_flag rfl]
  · refine State.mem_setWord_congr ?_
    cases bitAt (s.canCtl n b) 4 && s.on Reg.CAN_TDC.TDC_EN n <;> rfl

theorem exec_canTxDone {n : Fin 6} {tdcv : BitVec 7} {b : Nat} (hcan : s.present islCAN = true) (hst : s.canState n.val = 2)
    (hmode : s.rd Reg.CAN_CTRL.MODE n.val = 0) (hbegun : (s.can n.val).begun = true) (hsel : (s.can n.val).sel = some b)
    (htec : s.rd Reg.CAN_STAT.TEC n.val ≤ 127) (hrec : s.rd Reg.CAN_STAT.REC n.val ≤ 127) :
    exec (.canTxDone n tdcv) s = .next (((s.canSent n.val b tdcv.toNat).canCount n.val (s.rd Reg.CAN_STAT.TEC n.val - 1)
      (s.rd Reg.CAN_STAT.REC n.val)).canFrameEnd n.val false) := by
  have hsent : (s.canSent n.val b tdcv.toNat).canState n.val = 2 := (State.rd_canSent (by decide) (by decide) (FD.key_ne_of_place (by decide))).trans hst
  have hcount := State.canCount_active hsent (tec := s.rd Reg.CAN_STAT.TEC n.val - 1) (rec' := s.rd Reg.CAN_STAT.REC n.val) (by omega) (by omega)
  have hmode' : ((s.canSent n.val b tdcv.toNat).canCount n.val (s.rd Reg.CAN_STAT.TEC n.val - 1) (s.rd Reg.CAN_STAT.REC n.val)).rd
      Reg.CAN_CTRL.MODE n.val = 0 := by
    rw [hcount]
    exact ((State.rd_wr_of_lo (by decide)).trans (State.rd_canCounted_of_lo (by decide))).trans
      ((State.rd_canSent (by decide) (by decide) (FD.key_ne_of_lo (by decide))).trans hmode)
  have htec' : (s.canSent n.val b tdcv.toNat).rd Reg.CAN_STAT.TEC n.val = s.rd Reg.CAN_STAT.TEC n.val :=
    State.rd_canSent (by decide) (by decide) (FD.key_ne_of_lo (by decide))
  have hrec' : (s.canSent n.val b tdcv.toNat).rd Reg.CAN_STAT.REC n.val = s.rd Reg.CAN_STAT.REC n.val :=
    State.rd_canSent (by decide) (by decide) (FD.key_ne_of_lo (by decide))
  simp only [exec, execCanTxDone, hbegun, hsel, State.canOnBus_of_active hcan hst, Bool.not_true, Bool.false_eq_true, if_false, hst]
  rw [← State.canSent, htec', hrec', hmode']
  rfl

/-! ## Frames that are received (R372) -/

section
variable {rxid ctl ts : Nat} {data : List Nat}

theorem State.canReceive_of_no_match (h : (List.range 64).filter (fun b => s.canMatch n b rxid (bitAt ctl 4)) = []) :
    s.canReceive n rxid ctl ts data = s := by simp only [State.canReceive, h, List.find?_nil]

/-- The lowest free matching buffer takes the frame. -/
theorem State.canReceive_of_free {b : Nat}
    (h : (List.range 64).find? (fun b => s.canMatch n b rxid (bitAt ctl 4) && !s.canBit Reg.CAN_RXFULL.FULL n b) = some b) :
    s.canReceive n rxid ctl ts data = s.canStore n b rxid ctl ts data := by
  simp only [State.canReceive, List.find?_filter]
  simp only [Bool.decide_and, Bool.decide_eq_true, h]

/-- The words of the frame are in the buffer, and no register has changed. -/
theorem State.canStore_eq (s : State) (n b rxid ctl ts : Nat) (data : List Nat) :
    ∃ u : State, u.regs = s.regs ∧ s.canStore n b rxid ctl ts data = (u.setCanBit Reg.CAN_RXFULL.FULL n b true).flag Reg.CAN_EVT.RXF n :=
  ⟨_, by simp only [State.regs_setWord, State.regs_setBytes], rfl⟩

theorem State.canStore_spec (s : State) (n b rxid ctl ts : Nat) (data : List Nat) :
    (s.canStore n b rxid ctl ts data).canBit Reg.CAN_RXFULL.FULL n b = true ∧ (s.canStore n b rxid ctl ts data).rd Reg.CAN_EVT.RXF n = 1 := by
  obtain ⟨u, -, hu⟩ := s.canStore_eq n b rxid ctl ts data
  rw [hu]
  exact ⟨(State.canBit_wr (by decide) (by decide)).trans (State.canBit_setCanBit_same rfl true), State.rd_flag rfl⟩

theorem State.rd_canStore {b : Nat} {g : FD} (hg : g.blk = 8 ∧ g.s1 = 0x100 ∧ g.off < 0x20 ∧ g.lo < 32) (hlo : g.lo % 32 ≠ 1) :
    (s.canStore n b rxid ctl ts data).rd g n = s.rd g n := by
  obtain ⟨u, hregs, hu⟩ := s.canStore_eq n b rxid ctl ts data
  rw [hu, State.flag, State.rd_wr_of_lo hlo, State.rd_setCanBit (by decide) hg, State.rd, hregs]
  rfl

end

/-- The format bits of a classic frame. -/
theorem classic_ctl (dlc : Fin 16) (brs esi : Bool) : bitAt (dlc.val + b2n brs * 32 + b2n esi * 64) 4 = false := by decide +revert

/-- A classic frame received in ACTIVE, in MODE 0, with no frame of its own begun: `u` is what its storage leaves. -/
theorem exec_canFrameRx {n : Fin 6} {id : BitVec 31} {dlc : Fin 16} {brs esi : Bool} {data : List (BitVec 8)} {sof : BitVec 64} {u : State}
    (hcan : s.present islCAN = true) (hst : s.canState n.val = 2) (hbegun : (s.can n.val).begun = false)
    (hu : s.canReceive n.val id.toNat (dlc.val + b2n brs * 32 + b2n esi * 64) (s.canTs n.val sof.toNat) (data.map (·.toNat)) = u)
    (hmode : u.rd Reg.CAN_CTRL.MODE n.val = 0) (hrec : u.rd Reg.CAN_STAT.REC n.val ≤ 127) :
    exec (.canFrameRx n id dlc false brs esi data sof 0) s = .next (((u.wr Reg.CAN_STAT.LEC n.val 0).next.canCount n.val
      (u.rd Reg.CAN_STAT.TEC n.val) (u.rd Reg.CAN_STAT.REC n.val - 1)).canFrameEnd n.val false) := by
  have hrelease : bitList 64 (0 : BitVec 64).toNat = [] := by decide
  have hmode' : (u.wr Reg.CAN_STAT.LEC n.val 0).rd Reg.CAN_CTRL.MODE n.val = 0 := (State.rd_wr_of_lo (by decide)).trans hmode
  have htec : (u.wr Reg.CAN_STAT.LEC n.val 0).rd Reg.CAN_STAT.TEC n.val = u.rd Reg.CAN_STAT.TEC n.val := State.rd_wr_of_lo (by decide)
  have hctl : dlc.val + b2n false * 16 + b2n brs * 32 + b2n esi * 64 = dlc.val + b2n brs * 32 + b2n esi * 64 := by simp [b2n]
  simp only [exec, execCanFrameRx, State.canOnBus_of_active hcan hst, hbegun, Bool.not_true, Bool.false_and, Bool.or_self, Bool.false_eq_true, if_false,
    hrelease, foldEach, hctl, hu, hmode', htec, hst]
  rw [if_neg (show ¬ 127 < u.rd Reg.CAN_STAT.REC n.val by omega)]
  rfl

/-- What a received frame shows, when what its storage leaves is ACTIVE with counters of at most 127. -/
theorem State.received_spec {u t : State} (hst : u.canState n = 2) (hrec : u.rd Reg.CAN_STAT.REC n ≤ 127) (htec : u.rd Reg.CAN_STAT.TEC n ≤ 127)
    (ht : t = ((u.wr Reg.CAN_STAT.LEC n 0).next.canCount n (u.rd Reg.CAN_STAT.TEC n) (u.rd Reg.CAN_STAT.REC n - 1)).canFrameEnd n false) :
    t.mem = u.mem ∧ t.rd Reg.CAN_STAT.LEC n = 0 ∧ t.rd Reg.CAN_STAT.REC n = u.rd Reg.CAN_STAT.REC n - 1 ∧ t.rd Reg.CAN_EVT.RXF n = u.rd Reg.CAN_EVT.RXF n ∧
      ∀ b, t.canBit Reg.CAN_RXFULL.FULL n b = u.canBit Reg.CAN_RXFULL.FULL n b := by
  have hst' : (u.wr Reg.CAN_STAT.LEC n 0).next.canState n = 2 := by
    rw [State.canState, State.rd_next, State.rd_wr_of_lo (by decide)]
    exact hst
  have htec' : u.rd Reg.CAN_STAT.TEC n < 128 := by omega
  have hrec' : u.rd Reg.CAN_STAT.REC n - 1 < 128 := by omega
  obtain ⟨-, hRec, -, -, hmem⟩ := State.frameEnd_active_spec hst' htec' hrec' ht
  subst ht
  refine ⟨hmem, ?_, hRec, ?_, fun b => ?_⟩
  · rw [State.rd_frameEnd_active hst' htec' hrec' (by decide) (FD.key_ne_of_place (by decide)), State.rd_next, State.rd_wr_of_lt (by decide)]
  · rw [State.rd_frameEnd_active hst' htec' hrec' (by decide) (FD.key_ne_of_place (by decide)), State.rd_next, State.rd_wr_of_lo (by decide)]
  · rw [State.canBit_frameEnd_active hst' htec' hrec' (by decide) rfl, State.canBit_next, State.canBit_wr (by decide) (by decide)]

/-! ## Errors (R366, R367, R373) -/

theorem exec_canBusError {n : Fin 6} {kind : Fin 6} {exempt grave : Bool} (hcan : s.present islCAN = true) (hst : s.canState n.val = 2) :
    exec (.canBusError n kind exempt grave) s = .next (s.canError n.val (kind.val + 1) exempt grave) := by
  simp [exec, execCanBusError, State.canOnBus_of_active hcan hst]

/-- The counters of the state in which LEC shows an error are those of the state before. -/
theorem State.lec_shown (s : State) (n kind : Nat) {g : FD} (h : g.lo % 32 ≠ 12) : (s.wr Reg.CAN_STAT.LEC n kind).rd g n = s.rd g n := State.rd_wr_of_lo h

theorem State.canError_sender {kind : Nat} {exempt grave : Bool} (hst : s.canState n = 2) (hmode : s.rd Reg.CAN_CTRL.MODE n = 0)
    (hbegun : (s.can n).begun = true) : s.canError n kind exempt grave = ((s.wr Reg.CAN_STAT.LEC n kind).canCount n
      (if exempt then s.rd Reg.CAN_STAT.TEC n else s.rd Reg.CAN_STAT.TEC n + 8) (s.rd Reg.CAN_STAT.REC n)).canFrameEnd n false := by
  have hcan : (s.wr Reg.CAN_STAT.LEC n kind).can n = s.can n := rfl
  simp only [State.canError, hst, hcan, hbegun, s.lec_shown n kind (g := Reg.CAN_STAT.TEC) (by decide),
    s.lec_shown n kind (g := Reg.CAN_STAT.REC) (by decide), s.lec_shown n kind (g := Reg.CAN_CTRL.MODE) (by decide), hmode]
  rfl

theorem State.canError_receiver {kind : Nat} {exempt grave : Bool} (hst : s.canState n = 2) (hmode : s.rd Reg.CAN_CTRL.MODE n = 0)
    (hbegun : (s.can n).begun = false) : s.canError n kind exempt grave = ((s.wr Reg.CAN_STAT.LEC n kind).canCount n (s.rd Reg.CAN_STAT.TEC n)
      (s.rd Reg.CAN_STAT.REC n + (if grave then 8 else 1))).canFrameEnd n false := by
  have hcan : (s.wr Reg.CAN_STAT.LEC n kind).can n = s.can n := rfl
  simp only [State.canError, hst, hcan, hbegun, s.lec_shown n kind (g := Reg.CAN_STAT.TEC) (by decide),
    s.lec_shown n kind (g := Reg.CAN_STAT.REC) (by decide), s.lec_shown n kind (g := Reg.CAN_CTRL.MODE) (by decide), hmode]
  rfl

/-- A sender whose TEC rises above 255 goes off the bus and keeps the buffer of its frame. -/
theorem State.canError_busOff_spec {kind b : Nat} {grave : Bool} (hst : s.canState n = 2) (hmode : s.rd Reg.CAN_CTRL.MODE n = 0)
    (hbegun : (s.can n).begun = true) (hsel : (s.can n).sel = some b) (hb : b < 64) (htec : 248 ≤ s.rd Reg.CAN_STAT.TEC n) {t : State}
    (ht : t = s.canError n kind false grave) :
    t.rd Reg.CAN_STAT.STATE n = 4 ∧ t.rd Reg.CAN_EVT.BUSOFF n = 1 ∧ t.rd Reg.CAN_STAT.BOFF_BUF n = b ∧ t.rd Reg.CAN_STAT.BOFF_VALID n = 1 := by
  have hst' : (s.wr Reg.CAN_STAT.LEC n kind).canState n = 2 := (s.lec_shown n kind (by decide)).trans hst
  rw [State.canError_sender hst hmode hbegun, if_neg (by decide), State.canCount_busOff hst' (by omega),
    State.canBusOff_of_begun (s := (s.wr Reg.CAN_STAT.LEC n kind).canCounted n _ _) hbegun hsel] at ht
  subst ht
  refine ⟨?_, ?_, ?_, ?_⟩
  all_goals simp (disch := decide) only [State.canFrameEnd, State.onlyIf_false, State.rd_canIdle, State.setCanState, State.wr_eq, State.flag_eq,
    State.rd_wr2_same, State.rd_wr2_of_place]
  · rfl
  · rfl
  · exact Nat.mod_eq_of_lt hb
  · rfl

theorem exec_protocolExceptionEvent_form {n : Fin 6} (hcan : s.present islCAN = true) (hst : s.canState n.val = 2)
    (h : s.rd Reg.CAN_CTRL.PXHD n.val = 1) : exec (.protocolExceptionEvent n) s = .next (s.canError n.val 2 false false) := by
  simp [exec, execProtocolExceptionEvent, State.canOnBus_of_active hcan hst, State.on_eq, h]

theorem exec_protocolExceptionEvent {n : Fin 6} (hcan : s.present islCAN = true) (hst : s.canState n.val = 2)
    (h : s.rd Reg.CAN_CTRL.PXHD n.val = 0) :
    exec (.protocolExceptionEvent n) s = .next (((s.flag Reg.CAN_EVT.PXE n.val).canIdle n.val).setCanState n.val 1) := by
  simp [exec, execProtocolExceptionEvent, State.canOnBus_of_active hcan hst, State.on_eq, h, hst]

end

end Sys2Proof.Machine

open Sys2Proof Sys2Proof.Machine

/-! ## The obligations -/

/-- Settles O30, command by command. -/
theorem canControllers : Obligations.CanControllers := by
  refine ⟨fun m n s hready hst => ?run, fun m n idle s hready => ?stop, fun m n s => ?sync, fun m n b w s hready => ?request,
    fun m n b w s hready hpend => ?cancel, fun m n b w s hready => ?release, fun n b s hcan hst hmode hvalid hbegun => ?select,
    fun n s hbus hbegun => ⟨_, exec_canArbitrationLost hbus hbegun, by simp, by simp, rfl, rfl⟩⟩
  case run =>
    refine ⟨fun hcode htec => ⟨_, exec_canRun hready, ?_⟩, fun hcode htec => ⟨_, exec_canRun hready, ?_⟩, fun hcode => ⟨_, exec_canRun hready, ?_⟩⟩
    · rw [State.canRun_sync hst hcode htec, State.setCanState]
      refine ⟨?_, ?_, (((OnlyRegs.refl s _).wr2 (by simp)).wr2 (by simp)).setResp⟩
      all_goals simp (disch := decide) only [State.rd_ack, State.wr_eq, State.rd_wr2_same, State.rd_wr2_of_place]
      all_goals rfl
    · rw [State.canRun_busOff hst hcode htec, State.setCanState]
      refine ⟨?_, ?_, ?_, ((((OnlyRegs.refl s _).wr2 (by simp)).wr2 (by simp)).wr2 (by simp)).setResp⟩
      all_goals simp (disch := decide) only [State.rd_ack, State.wr_eq, State.flag_eq, State.rd_wr2_same, State.rd_wr2_of_place]
      all_goals rfl
    · rw [State.canRun_refused hst hcode, State.canRefuse]
      refine ⟨?_, ?_, (((OnlyRegs.refl s _).wr2 (by simp)).wr2 (by simp)).setResp⟩
      all_goals simp (disch := decide) only [State.rd_ack, State.wr_eq, State.flag_eq, State.rd_wr2_same, State.rd_wr2_of_place]
      · rfl
      · exact Nat.mod_eq_of_lt (s.canRunCode_lt n.val)
  case stop =>
    rw [exec_canStop hready]
    refine ⟨fun h => by rw [State.canStop_idle h], fun h => ⟨_, rfl, ?_⟩, fun hst h => ⟨_, rfl, ?_⟩⟩
    · rw [State.canStop_init h]
      exact s.canInit_spec n.val
    · rw [State.canStop_stopping hst h, State.setCanState]
      refine ⟨?_, ?_, (((OnlyRegs.refl s _).wr2 (by simp)).wr2 (by simp)).setResp⟩
      all_goals simp (disch := decide) only [State.rd_ack, State.wr_eq, State.rd_wr2_same, State.rd_wr2_of_place]
      all_goals rfl
  case sync =>
    refine ⟨fun hcan hst => ⟨_, exec_canSyncDone hcan hst, State.rd_wr_of_lt (s.canErrState_lt n.val), (OnlyRegs.refl s _).wr2 (by simp)⟩,
      exec_canSyncDone_idle, fun hready hst => ⟨_, exec_recStart hready, ?_⟩, fun hready hst => ?_,
      fun hcan hst => ⟨_, exec_canRecoveryDone hcan hst, ?_⟩, exec_canRecoveryDone_idle⟩
    · rw [hst, beq_self_eq_true, State.onlyIf_true, State.setCanState]
      refine ⟨?_, ?_, (((OnlyRegs.refl s _).wr2 (by simp)).wr2 (by simp)).setResp⟩
      all_goals simp (disch := decide) only [State.rd_ack, State.wr_eq, State.rd_wr2_same, State.rd_wr2_of_place]
      all_goals rfl
    · rw [exec_recStart hready, beq_false_of_ne hst, State.onlyIf_false]
    · simp (disch := decide) only [State.canRecovered, State.setCanState, State.wr_eq, State.rd_wr2_same, State.rd_wr2_of_place]
      decide
  case request =>
    rw [exec_txreq hready]
    refine ⟨fun hdir hfd hpend => ⟨_, rfl, ?_⟩, fun h => ⟨_, rfl, ?_⟩⟩
    · rw [State.canRequest_accepted hdir hfd hpend]
      exact ⟨State.canBit_setCanBit_same rfl true, ((OnlyRegs.refl s _).wr2 (by rw [canWord]; simp)).setResp⟩
    · rw [State.canRequest_refused h]
      exact ⟨State.rd_flag rfl, ((OnlyRegs.refl s _).wr2 (by simp)).setResp⟩
  case cancel =>
    rw [exec_txcan hready]
    refine ⟨fun h => ⟨_, rfl, State.canCancel_spec hpend h⟩, fun hbegun hsel => ⟨_, rfl, ?_⟩⟩
    rw [State.canCancel_late hpend hbegun hsel]
    exact ⟨State.rd_flag rfl, ((OnlyRegs.refl s _).wr2 (by simp)).setResp⟩
  case release =>
    exact ⟨_, exec_rxfullRelease hready, State.canBit_setCanBit_same rfl false, ((OnlyRegs.refl s _).wr2 (by rw [canWord]; simp)).setResp⟩
  case select =>
    simp only [exec_canTxSelect hcan hst hmode hbegun, if_true, Bool.false_eq_true, if_false]
    refine ⟨fun hpending => ⟨_, rfl, ?_⟩, fun hsel => ⟨_, rfl, ?_⟩, fun hsel => by simp [hsel]⟩
    · rw [State.canSelect_of_one hvalid hpending, State.can_setCan_same]
      exact ⟨rfl, hbegun, rfl⟩
    · rw [if_pos (by rw [hsel]; rfl), State.can_setCan_same]
      exact ⟨hsel, rfl, rfl, rfl⟩

/-- Settles O31: every end of a frame in ACTIVE goes through the counters of R367. -/
theorem canFrames : Obligations.CanFrames := by
  refine ⟨fun n tdcv b s hcan hst hmode hbegun hsel htec hrec => ?sent, fun n id dlc brs esi data sof b s hcan hst hmode hbegun hrec htec => ?received,
    fun n kind exempt grave s hcan hst hmode hrec htec => ?error, fun n s hcan hst => ⟨fun h => ?exception, exec_protocolExceptionEvent_form hcan hst⟩⟩
  case sent =>
    refine ⟨_, exec_canTxDone hcan hst hmode hbegun hsel htec hrec, ?_⟩
    have hst' : (s.canSent n.val b.val tdcv.toNat).canState n.val = 2 :=
      (State.rd_canSent (by decide) (by decide) (FD.key_ne_of_place (by decide))).trans hst
    have htec' : s.rd Reg.CAN_STAT.TEC n.val - 1 < 128 := by omega
    have hrec' : s.rd Reg.CAN_STAT.REC n.val < 128 := by omega
    obtain ⟨hTec, -, hState, hBegun, hmem⟩ := State.frameEnd_active_spec hst' htec' hrec' rfl
    obtain ⟨hPend, hDone, hTxf, hLec, hstamp⟩ := s.canSent_spec n.val tdcv.toNat (b := b.val)
    exact ⟨(State.canBit_frameEnd_active hst' htec' hrec' (by decide) rfl).trans hPend,
      (State.canBit_frameEnd_active hst' htec' hrec' (by decide) rfl).trans hDone,
      (State.rd_frameEnd_active hst' htec' hrec' (by decide) (FD.key_ne_of_place (by decide))).trans hTxf,
      (State.rd_frameEnd_active hst' htec' hrec' (by decide) (FD.key_ne_of_place (by decide))).trans hLec, hTec, hBegun, hState, hmem.trans hstamp⟩
  case received =>
    have hctl := classic_ctl dlc brs esi
    refine ⟨fun hnone => ⟨_, exec_canFrameRx hcan hst hbegun (State.canReceive_of_no_match (by rwa [hctl])) hmode hrec, ?_⟩,
      fun hfree => ⟨_, exec_canFrameRx hcan hst hbegun (State.canReceive_of_free (by rwa [hctl])) ?_ ?_, ?_⟩⟩
    · obtain ⟨hmem, hLec, hRec, hRxf, -⟩ := State.received_spec hst hrec htec rfl
      exact ⟨hmem, hLec, hRec, hRxf⟩
    · rw [State.rd_canStore (by decide) (by decide), hmode]
    · rw [State.rd_canStore (by decide) (by decide)]
      exact hrec
    · obtain ⟨hFull, hRxfSet⟩ := s.canStore_spec n.val b.val id.toNat (dlc.val + b2n brs * 32 + b2n esi * 64) (s.canTs n.val sof.toNat) (data.map (·.toNat))
      obtain ⟨hmem, hLec, hRec, hRxf, hBits⟩ := State.received_spec (n := n.val)
        (u := s.canStore n.val b.val id.toNat (dlc.val + b2n brs * 32 + b2n esi * 64) (s.canTs n.val sof.toNat) (data.map (·.toNat)))
        ((State.rd_canStore (by decide) (by decide)).trans hst) (by rw [State.rd_canStore (by decide) (by decide)]; exact hrec)
        (by rw [State.rd_canStore (by decide) (by decide)]; exact htec) rfl
      exact ⟨(hBits _).trans hFull, hRxf.trans hRxfSet, hLec, hRec.trans (by rw [State.rd_canStore (by decide) (by decide)]), hmem⟩
  case error =>
    rw [exec_canBusError hcan hst]
    have hst' : (s.wr Reg.CAN_STAT.LEC n.val (kind.val + 1)).canState n.val = 2 := (s.lec_shown n.val _ (by decide)).trans hst
    have hlec : (s.wr Reg.CAN_STAT.LEC n.val (kind.val + 1)).rd Reg.CAN_STAT.LEC n.val = kind.val + 1 :=
      State.rd_wr_of_lt (lt_of_le_of_lt kind.isLt (by decide))
    refine ⟨fun hbegun hlow => ⟨_, rfl, ?_⟩, fun hbegun b hb hsel hexempt hhigh => ⟨_, rfl, ?_⟩, fun hbegun hlow => ⟨_, rfl, ?_⟩⟩
    · rw [State.canError_sender hst hmode hbegun]
      have htec' : (if exempt then s.rd Reg.CAN_STAT.TEC n.val else s.rd Reg.CAN_STAT.TEC n.val + 8) < 128 := by split <;> omega
      have hrec' : s.rd Reg.CAN_STAT.REC n.val < 128 := by omega
      obtain ⟨hTec, -, hState, hBegun, -⟩ := State.frameEnd_active_spec hst' htec' hrec' rfl
      exact ⟨(State.rd_frameEnd_active hst' htec' hrec' (by decide) (FD.key_ne_of_place (by decide))).trans hlec, hTec, hState, hBegun⟩
    · subst hexempt
      exact State.canError_busOff_spec hst hmode hbegun hsel hb hhigh rfl
    · rw [State.canError_receiver hst hmode hbegun]
      have hrec' : s.rd Reg.CAN_STAT.REC n.val + (if grave then 8 else 1) < 128 := by split <;> omega
      obtain ⟨hTec, hRec, -, -, -⟩ := State.frameEnd_active_spec hst' hlow hrec' rfl
      exact ⟨(State.rd_frameEnd_active hst' hlow hrec' (by decide) (FD.key_ne_of_place (by decide))).trans hlec, hRec, hTec⟩
  case exception =>
    refine ⟨_, exec_protocolExceptionEvent hcan hst h, ?_, State.rd_wr_of_lt (by decide), ?_, ?_⟩
    · exact (State.rd_wr_of_lo (by decide)).trans (State.rd_flag rfl)
    · exact congrArg CanS.begun (State.can_canIdle _ _)
    · rw [State.setCanState, State.rd_wr_of_lo (by decide), State.rd_canIdle, State.flag, State.rd_wr_of_lo (by decide)]
end

section
/-! PROOFS. The statement of spec/14_obpex_chain.md on the ports of the chain. -/

namespace Sys2Proof.Machine

theorem State.on_iff {s : State} {f : FD} {i j : Nat} : s.on f i j = true ↔ s.rd f i j = 1 := beq_iff_eq

theorem State.on_false_iff {s : State} {f : FD} {i j : Nat} : s.on f i j = false ↔ s.rd f i j ≠ 1 := beq_eq_false_iff_ne

/-- A number and a half brought to an integer is one of its two neighbours, and a whole number is itself. -/
theorem roundAny_half (d : Nat) : roundAny (mkRat d 2) = (d / 2 : Nat) ∨ roundAny (mkRat d 2) = ((d + 1) / 2 : Nat) := by
  obtain ⟨q, hq⟩ : ∃ q, mkRat d 2 = q := ⟨_, rfl⟩
  rw [hq]
  obtain ⟨num, den, hden, hcop⟩ := q
  obtain ⟨m, hm, hnum, htwo⟩ := Rat.mkRat_num_den (by decide) hq
  have hm' : m = 1 ∨ m = 2 := by
    have : m ∣ 2 := ⟨den, by rw [htwo, Nat.mul_comm]⟩
    have := Nat.le_of_dvd (by decide) this
    omega
  simp only [roundAny]
  rcases hm' with rfl | rfl
  · have hdenTwo : den = 2 := by omega
    subst hdenTwo
    have hodd : num.natAbs % 2 = 1 := Nat.odd_iff.1 (Nat.coprime_two_right.1 hcop)
    rw [if_neg (by decide)]
    cases Config.roundsUp num 2
    · left; simp only [b2n, Bool.false_eq_true, if_false]; omega
    · right; simp only [b2n, if_true]; omega
  · have hdenOne : den = 1 := by omega
    left
    rw [if_pos hdenOne]
    omega

/-! ## The registers of the ports (R340, R342) -/

/-- The registers of the ports lie behind those of the chain. -/
theorem FD.port_key_ne {f g : FD} {p i j : Nat} (hg : g.blk = 9 ∧ 0x100 ≤ g.off) (hf : f.blk = 9 ∧ f.n1 = 1 ∧ f.s1 = 0 ∧ f.off < 0x100 ∧ f.lo < 32) :
    g.key p j ≠ f.key i 0 := by
  obtain ⟨gblk, goff⟩ := hg
  obtain ⟨fblk, -, fs1, foff, flo⟩ := hf
  simp only [FD.key, FD.addr, gblk, fblk, fs1]
  omega

/-- The bit of CH_STATUS that shows UP of a port, and the one that shows WRAP. -/
theorem FD.status_of_port (p : Nat) {f g : FD} (hf : f.blk = 9 ∧ f.n1 = 1 ∧ f.s1 = 0 ∧ f.off < 0x100 ∧ f.lo < 32)
    (hg : g.blk = 9 ∧ g.n1 = 1 ∧ g.s1 = 0 ∧ g.off < 0x100 ∧ g.lo < 32) :
    (if p = 0 then f else g).blk = 9 ∧ (if p = 0 then f else g).n1 = 1 ∧ (if p = 0 then f else g).s1 = 0 ∧ (if p = 0 then f else g).off < 0x100 ∧
      (if p = 0 then f else g).lo < 32 := by
  split
  · exact hf
  · exact hg

section
variable {s : State} {p : Nat}

theorem State.rd_up_setUp (s : State) (p : Nat) (b : Bool) : (s.setUp p b).rd Reg.CH_PORT.UP p = b2n b := by
  rw [State.setUp, State.flag, State.rd_wr_ne (FD.port_key_ne (by decide) (by decide)),
    State.rd_wr_ne (FD.port_key_ne (by decide) (FD.status_of_port p (by decide) (by decide))), State.rd_wr_of_lt (b2n_lt_two b)]

theorem State.rd_linkChg_setUp (s : State) (p : Nat) (b : Bool) : (s.setUp p b).rd Reg.CH_EVT.LINK_CHG = 1 := State.rd_flag rfl

theorem State.rd_wrap_setWrap (s : State) (p : Nat) (b : Bool) : (s.setWrap p b).rd Reg.CH_PORT.WRAP p = b2n b := by
  rw [State.setWrap, State.flag, State.rd_wr_ne (FD.port_key_ne (by decide) (by decide)),
    State.rd_wr_ne (FD.port_key_ne (by decide) (FD.status_of_port p (by decide) (by decide))), State.rd_wr_of_lt (b2n_lt_two b)]

theorem State.rd_wrapChg_setWrap (s : State) (p : Nat) (b : Bool) : (s.setWrap p b).rd Reg.CH_EVT.WRAP_CHG = 1 := State.rd_flag rfl

theorem State.rd_up_setWrap (s : State) (p : Nat) (b : Bool) : (s.setWrap p b).rd Reg.CH_PORT.UP p = s.rd Reg.CH_PORT.UP p := by
  rw [State.setWrap, State.flag, State.rd_wr_ne (FD.port_key_ne (by decide) (by decide)),
    State.rd_wr_ne (FD.port_key_ne (by decide) (FD.status_of_port p (by decide) (by decide))), State.rd_wr_of_lo (by decide)]

theorem State.rd_linkChg_setWrap (s : State) (p : Nat) (b : Bool) : (s.setWrap p b).rd Reg.CH_EVT.LINK_CHG = s.rd Reg.CH_EVT.LINK_CHG := by
  rw [State.setWrap, State.flag, State.rd_wr_ne (by decide), State.rd_wr_of_lo, State.rd_wr_ne (FD.port_key_ne (by decide) (by decide)).symm]
  split <;> decide

/-! ## The record of a port -/

@[simp] theorem State.chPort_setChPort_same (s : State) (p : Nat) (r : ChPort) : (s.setChPort p r).chPort p = r := by
  by_cases h : p = 0 <;> simp [State.setChPort, State.chPort, h]

@[simp] theorem State.rd_setChPort (s : State) (p : Nat) (r : ChPort) (f : FD) (i j : Nat) : (s.setChPort p r).rd f i j = s.rd f i j := rfl

/-! ## Training and going down (R340, R342) -/

/-- The equaliser settings of the lanes that are not frozen are shown. -/
def State.eqShown (s : State) (p : Nat) (eq : List (Fin 16 × Fin 16)) : State :=
  foldEach (fun (e : (Fin 16 × Fin 16) × Nat) (u : State) =>
    if e.2 < 3 ∧ !(u.on Reg.CH_EQ.FREEZE p e.2) then (u.wr2 Reg.CH_EQ.CTLE p e.2 e.1.1.val).wr2 Reg.CH_EQ.DFE p e.2 e.1.2.val else u) eq.zipIdx s

/-- The equalisers lie behind every other register of the chain. -/
theorem State.rd_eqShown {g : FD} {i : Nat} (hg : g.blk = 9 ∧ g.s1 ≤ 0x20 ∧ g.off ≤ 0x200 ∧ g.lo < 32) (hi : i < 2) (eq : List (Fin 16 × Fin 16)) :
    (s.eqShown p eq).rd g i = s.rd g i := by
  have hkey {f : FD} (hf : f.blk = 9 ∧ f.off = 0x8000) (l : Nat) : g.key i 0 ≠ f.key p l := by
    obtain ⟨gblk, gs1, goff, glo⟩ := hg
    obtain ⟨fblk, foff⟩ := hf
    have : i * g.s1 ≤ 1 * 0x20 := Nat.mul_le_mul (by omega) gs1
    simp only [FD.key, FD.addr, gblk, fblk, foff]
    omega
  refine foldEach_preserves (P := fun (u : State) => u.rd g i = s.rd g i) (fun e u hu => ?_) _ rfl
  split
  · exact (State.rd_wr2_ne _ _ (hkey (by decide) _)).trans ((State.rd_wr2_ne _ _ (hkey (by decide) _)).trans hu)
  · exact hu

theorem State.now_eqShown (s : State) (p : Nat) (eq : List (Fin 16 × Fin 16)) : (s.eqShown p eq).now = s.now := by
  refine foldEach_preserves (P := fun (u : State) => u.now = s.now) (fun e u hu => ?_) _ rfl
  split <;> exact hu

/-- A port that has trained: UP, with the delay of its link and the settings of its equalisers. -/
def State.trained (s : State) (p d : Nat) (eq : List (Fin 16 × Fin 16)) : State :=
  ((s.setUp p true).wr Reg.CH_PORT.DELAY p (min d 65535)).eqShown p eq

theorem exec_portTrained {p : Fin 2} {d : Nat} {eq : List (Fin 16 × Fin 16)} (hon : s.chOn = true) (hup : s.chUp p.val = false)
    (hlock : s.on Reg.PLL_STAT.LOCK 2 = true) : exec (.portTrained p d eq) s = .next ((s.trained p.val d eq).setChPort p.val
      { (s.trained p.val d eq).chPort p.val with upAt := (s.trained p.val d eq).now }) :=
  congrArg Host.Outcome.next (if_pos ⟨hon, by rw [hup]; rfl, hlock⟩)

theorem exec_portTrained_idle {p : Fin 2} {d : Nat} {eq : List (Fin 16 × Fin 16)} (h : s.chOn = false ∨ s.chUp p.val = true ∨ s.on Reg.PLL_STAT.LOCK 2 = false) :
    exec (.portTrained p d eq) s = .next s := by
  refine congrArg Host.Outcome.next (if_neg ?_)
  rintro ⟨hon, hup, hlock⟩
  rcases h with h | h | h <;> simp_all

theorem State.trained_spec (s : State) (p : Fin 2) (d : Nat) (eq : List (Fin 16 × Fin 16)) :
    (s.trained p.val d eq).rd Reg.CH_PORT.UP p.val = 1 ∧ (s.trained p.val d eq).rd Reg.CH_PORT.DELAY p.val = min d 65535 ∧
      (s.trained p.val d eq).rd Reg.CH_EVT.LINK_CHG = 1 ∧ (s.trained p.val d eq).now = s.now := by
  refine ⟨?_, ?_, ?_, State.now_eqShown _ _ _⟩
  · rw [State.trained, State.rd_eqShown (by decide) p.isLt, State.rd_wr_of_lo (by decide), State.rd_up_setUp]
    rfl
  · rw [State.trained, State.rd_eqShown (by decide) p.isLt, State.rd_wr_of_lt]
    exact lt_of_le_of_lt (Nat.min_le_right _ _) (by decide)
  · rw [State.trained, State.rd_eqShown (by decide) (by decide), State.rd_wr_of_lo (by decide), State.rd_linkChg_setUp]

theorem exec_trainingRetry {p : Fin 2} (hon : s.chOn = true) (hup : s.chUp p.val = false) (hdue : (s.chPort p.val).trainAt + 5000000 ≤ s.now) :
    exec (.trainingRetry p) s = .next (s.setChPort p.val { s.chPort p.val with trainAt := s.now }) :=
  congrArg Host.Outcome.next (if_pos ⟨hon, by rw [hup]; rfl, hdue⟩)

theorem exec_trainingRetry_idle {p : Fin 2} (h : s.chOn = false ∨ s.chUp p.val = true ∨ s.now < (s.chPort p.val).trainAt + 5000000) :
    exec (.trainingRetry p) s = .next s := by
  refine congrArg Host.Outcome.next (if_neg ?_)
  rintro ⟨hon, hup, hdue⟩
  rcases h with h | h | h
  · simp [h] at hon
  · simp [h] at hup
  · omega

theorem exec_portDown {p : Fin 2} (hon : s.chOn = true) : exec (.portDown p) s = .next (s.chPortDown p.val) := by
  simp only [exec, execPortDown, hon, State.onlyIf_true]

theorem State.chPortDown_of_down (h : s.chUp p = false) : s.chPortDown p = s := by simp [State.chPortDown, h]

/-- A port that is no longer UP, and wraps. -/
def State.fallen (s : State) (p : Nat) : State := (s.setUp p false).onlyIf (!s.chWrapped p) (·.setWrap p true)

theorem State.chPortDown_of_up (h : s.chUp p = true) : s.chPortDown p = (s.fallen p).setChPort p
    { (s.fallen p).chPort p with trainAt := (s.fallen p).now, sent := false, rcvd := false, lsw := none, t1 := none } := by
  simp only [State.chPortDown, h, Bool.not_true, Bool.false_eq_true, if_false]
  rfl

theorem State.fallen_spec (s : State) (p : Nat) :
    (s.fallen p).rd Reg.CH_PORT.UP p = 0 ∧ (s.chWrapped p = false → (s.fallen p).rd Reg.CH_PORT.WRAP p = 1) ∧ (s.fallen p).rd Reg.CH_EVT.LINK_CHG = 1 ∧
      (s.fallen p).now = s.now ∧ (s.fallen p).mem = s.mem := by
  cases h : s.chWrapped p with
  | true =>
    simp only [State.fallen, h, Bool.not_true, State.onlyIf_false]
    exact ⟨s.rd_up_setUp p false, by simp, s.rd_linkChg_setUp p false, rfl, rfl⟩
  | false =>
    simp only [State.fallen, h, Bool.not_false, State.onlyIf_true]
    exact ⟨(State.rd_up_setWrap _ p true).trans (s.rd_up_setUp p false), fun _ => State.rd_wrap_setWrap _ p true,
      (State.rd_linkChg_setWrap _ p true).trans (s.rd_linkChg_setUp p false), rfl, rfl⟩

theorem State.chPortDown_spec (h : s.chUp p = true) {t : State} (ht : t = s.chPortDown p) :
    t.rd Reg.CH_PORT.UP p = 0 ∧ (s.chWrapped p = false → t.rd Reg.CH_PORT.WRAP p = 1) ∧ t.rd Reg.CH_EVT.LINK_CHG = 1 ∧ (t.chPort p).trainAt = s.now ∧
      t.mem = s.mem := by
  obtain ⟨hUp, hWrap, hLink, hnow, hmem⟩ := s.fallen_spec p
  rw [ht, State.chPortDown_of_up h, State.chPort_setChPort_same]
  exact ⟨hUp, hWrap, hLink, hnow, hmem⟩

/-! ## UNWRAP (R342) -/

theorem State.chUnwrapIf_both (hwrap : s.chWrapped p = true) (hup : s.chUp p = true) (hsent : (s.chPort p).sent = true) (hrcvd : (s.chPort p).rcvd = true) :
    s.chUnwrapIf p = s.setWrap p false := by simp [State.chUnwrapIf, hwrap, hup, hsent, hrcvd]

theorem State.chUnwrapIf_one (h : (s.chPort p).sent = false ∨ (s.chPort p).rcvd = false) : s.chUnwrapIf p = s := by
  rcases h with h | h <;> simp [State.chUnwrapIf, h]

theorem State.ch_chUnwrapIf (s : State) (p : Nat) : (s.chUnwrapIf p).ch = s.ch ∧ (s.chUnwrapIf p).chOut = s.chOut := by
  unfold State.chUnwrapIf
  cases s.chWrapped p && s.chUp p && (s.chPort p).sent && (s.chPort p).rcvd <;> exact ⟨rfl, rfl⟩

/-- A wrapped port that is UP unwraps once it has sent and received UNWRAP. -/
theorem State.chUnwrapIf_spec (hwrap : s.chWrapped p = true) (hup : s.chUp p = true) :
    ((s.chPort p).sent = true → (s.chPort p).rcvd = true → (s.chUnwrapIf p).rd Reg.CH_PORT.WRAP p = 0 ∧ (s.chUnwrapIf p).rd Reg.CH_EVT.WRAP_CHG = 1) ∧
      ((s.chPort p).sent = false ∨ (s.chPort p).rcvd = false → (s.chUnwrapIf p).rd Reg.CH_PORT.WRAP p = 1) := by
  refine ⟨fun hsent hrcvd => ?_, fun h => ?_⟩
  · rw [State.chUnwrapIf_both hwrap hup hsent hrcvd]
    exact ⟨s.rd_wrap_setWrap p false, s.rd_wrapChg_setWrap p false⟩
  · rw [State.chUnwrapIf_one h]
    exact State.on_iff.1 hwrap

/-- UNWRAP leaves the module. -/
def State.unwrapSent (s : State) (p : Nat) : State :=
  { s.setChPort p { s.chPort p with sent := true } with chOut := s.chOut ++ [(p, ChSent.unwrap)] }

theorem State.chPort_unwrapSent (s : State) (p : Nat) : (s.unwrapSent p).chPort p = { s.chPort p with sent := true } :=
  State.chPort_setChPort_same s p _

theorem exec_unwrapTimer {p : Fin 2} (hon : s.chOn = true) (hup : s.chUp p.val = true) (hwrap : s.chWrapped p.val = true)
    (hsent : (s.chPort p.val).sent = false) (hdue : (s.chPort p.val).upAt + 5000000 ≤ s.now) :
    exec (.unwrapTimer p) s = .next ((s.unwrapSent p.val).chUnwrapIf p.val) :=
  congrArg Host.Outcome.next (if_pos ⟨hon, hup, hwrap, by rw [hsent]; rfl, hdue⟩)

theorem exec_chUnwrap {p : Fin 2} (hon : s.chOn = true) (hup : s.chUp p.val = true) (hwrap : s.chWrapped p.val = true) :
    exec (.chUnwrap p) s = .next ((s.setChPort p.val { s.chPort p.val with rcvd := true }).chUnwrapIf p.val) :=
  congrArg Host.Outcome.next (if_pos ⟨hon, hup, hwrap⟩)

/-! ## Lanes (R341) -/

/-- The errors of a lane are counted. -/
def State.codeCounted (s : State) (p n : Nat) : State := s.wr Reg.CH_PORT_ERR.CODE_CNT p (min 65535 (s.rd Reg.CH_PORT_ERR.CODE_CNT p + n))

theorem State.rd_codeCounted (s : State) (p n : Nat) {g : FD} (hg : g.blk = 9 ∧ g.s1 = 0x20 ∧ g.off * 32 + g.lo ≠ 0x104 * 32) :
    (s.codeCounted p n).rd g p = s.rd g p := State.rd_wr_ne (FD.key_ne_of_place hg)

section
variable {p : Fin 2} {lane : Fin 3} {errs : BitVec 16} {unlocked : Bool} (hon : s.chOn = true) (hup : s.chUp p.val = true)
  (hused : s.chLaneUsed p.val lane.val = true)
include hon hup hused

theorem exec_laneFail : exec (.laneFail p lane errs unlocked) s = .next (
    if errs.toNat < 16 ∧ !unlocked then s.codeCounted p.val errs.toNat
    else if (s.codeCounted p.val errs.toNat).on Reg.CH_PORT.SPARE_RX p.val then (s.codeCounted p.val errs.toNat).chPortDown p.val
    else (s.codeCounted p.val errs.toNat).setChPort p.val { s.chPort p.val with lsw := some lane.val }) :=
  congrArg Host.Outcome.next (if_pos ⟨hon, hup, hused⟩)

theorem exec_laneFail_counted (herrs : errs.toNat < 16) (hlock : unlocked = false) :
    exec (.laneFail p lane errs unlocked) s = .next (s.codeCounted p.val errs.toNat) := by
  rw [exec_laneFail hon hup hused, if_pos ⟨herrs, by rw [hlock]; rfl⟩]

theorem exec_laneFail_failed (h : 16 ≤ errs.toNat ∨ unlocked = true) : exec (.laneFail p lane errs unlocked) s = .next (
    if s.rd Reg.CH_PORT.SPARE_RX p.val = 1 then (s.codeCounted p.val errs.toNat).chPortDown p.val
    else (s.codeCounted p.val errs.toNat).setChPort p.val { s.chPort p.val with lsw := some lane.val }) := by
  have hfail : ¬ (errs.toNat < 16 ∧ (!unlocked) = true) := by
    rintro ⟨herrs, hlock⟩
    rcases h with h | h
    · omega
    · simp [h] at hlock
  rw [exec_laneFail hon hup hused, if_neg hfail]
  simp only [State.on_iff, State.rd_codeCounted s p.val errs.toNat (g := Reg.CH_PORT.SPARE_RX) (by decide)]

end

theorem exec_chLsw_transmit {p : Fin 2} {lane : Fin 2} (hon : s.chOn = true) (hup : s.chUp p.val = true) (h : s.rd Reg.CH_PORT.SPARE_TX p.val = 0) :
    exec (.chLsw p true lane) s = .next ((({ s with chOut := s.chOut ++ [(p.val, ChSent.lsw lane.val)] } : State).flag Reg.CH_PORT.SPARE_TX
      p.val).retireLane p.val 0 lane.val) := by
  simp [exec, execChLsw, hon, hup, State.on_eq, h]

theorem exec_chLsw_receive {p : Fin 2} {lane : Fin 2} (hon : s.chOn = true) (hup : s.chUp p.val = true) (h : (s.chPort p.val).lsw = some lane.val) :
    exec (.chLsw p false lane) s = .next (((s.setChPort p.val { s.chPort p.val with lsw := none, spared := some lane.val }).flag
      Reg.CH_PORT.SPARE_RX p.val).retireLane p.val 1 lane.val) := by
  simp [exec, execChLsw, hon, hup, h]

theorem exec_chLsw_other {p : Fin 2} {lane : Fin 2} (hon : s.chOn = true) (hup : s.chUp p.val = true) (h : (s.chPort p.val).lsw ≠ some lane.val) :
    exec (.chLsw p false lane) s = .next s := by
  simp [exec, execChLsw, hon, hup, h]

/-- The retirement of a lane sets LANE_SPARED and no other field. -/
theorem State.rd_retireLane_ne (s : State) (p d l : Nat) {f : FD} {i : Nat} (h : f.lo % 32 ≠ 13) : (s.retireLane p d l).rd f i = s.rd f i :=
  State.rd_wr_of_lo (s := { s with retireq := s.retireq ++ [0x1000 + 195 + 6 * p + 3 * d + l] }) h

theorem State.rd_laneSpared_retireLane (s : State) (p d l : Nat) : (s.retireLane p d l).rd Reg.CH_EVT.LANE_SPARED = 1 := State.rd_flag rfl

/-! ## Delays (R350) -/

section
variable {p : Fin 2} {sub : Fin 64} (hon : s.chOn = true) (hup : s.chUp p.val = true)
include hon hup

theorem exec_chDreq_far (turn : Nat) : exec (.chDreq p sub (some turn)) s = .next { s with chOut := s.chOut ++ [(p.val, .drsp turn)] } :=
  congrArg Host.Outcome.next (if_pos ⟨hon, hup⟩)

theorem exec_chDreq_first (h : (s.chPort p.val).t1 = none) : exec (.chDreq p sub none) s =
    .next { s.setChPort p.val { s.chPort p.val with t1 := some (64 * s.now + sub.val) } with chOut := s.chOut ++ [(p.val, .dreq)] } := by
  simp only [exec, execChDreq, hon, hup, h]
  rfl

theorem exec_chDreq_early {t1 : Nat} (h : (s.chPort p.val).t1 = some t1) (hearly : s.now < t1 / 64 + 2048) : exec (.chDreq p sub none) s = .next s := by
  have hdue : ¬ t1 / 64 + 2048 ≤ s.now := by omega
  simp [exec, execChDreq, hon, hup, h, hdue]

theorem exec_chDrsp {t1 turn : Nat} (h : (s.chPort p.val).t1 = some t1) : exec (.chDrsp p sub turn) s = .next (s.wr Reg.CH_PORT.DELAY p.val
    (clampI 0 65535 (roundAny (mkRat ((64 * s.now + sub.val : Nat) - t1 - turn) 2))).toNat) := by
  simp [exec, execChDrsp, hon, hup, h]

end

theorem exec_chDrsp_none {p : Fin 2} {sub : Fin 64} {turn : Nat} (h : (s.chPort p.val).t1 = none) : exec (.chDrsp p sub turn) s = .next s := by
  simp [exec, execChDrsp, h]

/-- Half a measured difference that the field holds. -/
theorem clampI_roundAny_half {d : Nat} (h : d ≤ 131070) :
    (clampI 0 65535 (roundAny (mkRat d 2))).toNat = d / 2 ∨ (clampI 0 65535 (roundAny (mkRat d 2))).toNat = (d + 1) / 2 := by
  rcases roundAny_half d with hr | hr
  · left; rw [hr, clampI, if_neg (by omega), if_neg (by omega), Int.toNat_natCast]
  · right; rw [hr, clampI, if_neg (by omega), if_neg (by omega), Int.toNat_natCast]

end

end Sys2Proof.Machine

open Sys2Proof Sys2Proof.Machine

/-! ## The obligation -/

/-- Settles O26, command by command; a delay is half a difference, rounded either way. -/
theorem chainPorts : Obligations.ChainPorts := by
  refine ⟨fun p d eq s hon hup hlock => ?trained, fun p d eq s h => exec_portTrained_idle h, fun p s => ⟨exec_trainingRetry, exec_trainingRetry_idle⟩,
    fun p s => ⟨fun hon hup => ⟨_, exec_portDown hon, State.chPortDown_spec hup rfl⟩, fun h => ?stays⟩, fun p s hon hup hwrap => ?unwrap,
    fun p lane errs unlocked s hon hup hused => ?lane, fun p lane s hon hup => ?lsw, fun p sub turn s hon hup => ?delay⟩
  case trained =>
    obtain ⟨hUp, hDelay, hLink, hnow⟩ := s.trained_spec p d eq
    exact ⟨_, exec_portTrained hon hup hlock, hUp, hDelay, hLink, by rw [State.chPort_setChPort_same]; exact hnow⟩
  case stays =>
    cases hon : s.chOn with
    | false => simp [exec, execPortDown, hon]
    | true => rw [exec_portDown hon, State.chPortDown_of_down (h.resolve_left (by simp [hon]))]
  case unwrap =>
    refine ⟨fun hsent hdue => ⟨_, exec_unwrapTimer hon hup hwrap hsent hdue, ?_⟩, ⟨_, exec_chUnwrap hon hup hwrap, ?_⟩⟩
    · have hport := s.chPort_unwrapSent p.val
      obtain ⟨hch, hout⟩ := (s.unwrapSent p.val).ch_chUnwrapIf p.val
      obtain ⟨hboth, hone⟩ := State.chUnwrapIf_spec (s := s.unwrapSent p.val) hwrap hup
      rw [hport] at hboth hone
      refine ⟨hout, ?_, fun hrcvd => hboth rfl hrcvd, fun hrcvd => hone (.inr hrcvd)⟩
      rw [State.chPort, hch, ← State.chPort, hport]
    · obtain ⟨hch, -⟩ := (s.setChPort p.val { s.chPort p.val with rcvd := true }).ch_chUnwrapIf p.val
      obtain ⟨hboth, hone⟩ := State.chUnwrapIf_spec (s := s.setChPort p.val { s.chPort p.val with rcvd := true }) hwrap hup
      rw [State.chPort_setChPort_same] at hboth hone
      refine ⟨?_, fun hsent => hboth hsent rfl, fun hsent => hone (.inl hsent)⟩
      rw [State.chPort, hch, ← State.chPort, State.chPort_setChPort_same]
  case lane =>
    refine ⟨fun herrs hlock => ⟨_, exec_laneFail_counted hon hup hused herrs hlock, State.rd_wr_of_lt ?_, (OnlyRegs.refl s _).wr2 (by simp)⟩,
      fun hfail hspare => ?_, fun hfail hspare => ?_⟩
    · exact lt_of_le_of_lt (Nat.min_le_left _ _) (by decide)
    · rw [exec_laneFail_failed hon hup hused hfail, if_neg (by omega)]
      exact ⟨_, rfl, by rw [State.chPort_setChPort_same], (s.rd_codeCounted p.val _ (by decide)).trans (State.on_iff.1 hup)⟩
    · rw [exec_laneFail_failed hon hup hused hfail, if_pos hspare]
      have hup' : (s.codeCounted p.val errs.toNat).chUp p.val = true :=
        State.on_iff.2 ((s.rd_codeCounted p.val _ (by decide)).trans (State.on_iff.1 hup))
      obtain ⟨hUp, -, hLink, -, -⟩ := State.chPortDown_spec hup' rfl
      exact ⟨_, rfl, hUp, hLink⟩
  case lsw =>
    refine ⟨fun hspare => ⟨_, exec_chLsw_transmit hon hup hspare, ?_, State.rd_laneSpared_retireLane _ _ _ _, rfl⟩,
      fun hlsw => ⟨_, exec_chLsw_receive hon hup hlsw, ?_, State.rd_laneSpared_retireLane _ _ _ _, ?_⟩, fun hlsw => exec_chLsw_other hon hup hlsw⟩
    · rw [State.rd_retireLane_ne _ _ _ _ (by decide), State.rd_flag rfl]
    · rw [State.rd_retireLane_ne _ _ _ _ (by decide), State.rd_flag rfl]
    · exact congrArg ChPort.spared (State.chPort_setChPort_same s p.val _)
  case delay =>
    refine ⟨exec_chDreq_far hon hup turn, fun h => ⟨_, exec_chDreq_first hon hup h, congrArg ChPort.t1 (State.chPort_setChPort_same s p.val _), rfl, rfl⟩,
      fun t1 h hearly => exec_chDreq_early hon hup h hearly, fun t1 h hle hmax => ⟨_, exec_chDrsp hon hup h, ?_, (OnlyRegs.refl s _).wr2 (by simp)⟩,
      fun h => exec_chDrsp_none h⟩
    have hdiff : (((64 * s.now + sub.val : Nat) : Int) - t1 - turn) = ((64 * s.now + sub.val - t1 - turn : Nat) : Int) := by omega
    rw [hdiff]
    rcases clampI_roundAny_half hmax with h | h <;> rw [h]
    · exact .inl (State.rd_wr_of_lt (lt_of_le_of_lt (Nat.div_le_div_right hmax) (by decide)))
    · exact .inr (State.rd_wr_of_lt (lt_of_le_of_lt (Nat.div_le_div_right (Nat.succ_le_succ hmax)) (by decide)))
end

section
/-! PROOFS. The statement of spec/14_obpex_chain.md on the two-phase mode change, the carrier sync and the chain resets. -/

namespace Sys2Proof.Machine

section
variable {s : State} {m : Master}

/-! ## Frames that leave and arrive (R344, R345) -/

theorem State.chEmit_eq (s : State) (p : Nat) (x : ChSent) : s.chEmit p x = { s with chOut := (s.chEmit p x).chOut } := by
  unfold State.chEmit
  split <;> rfl

/-- A frame that is sent advances the sequence number of the module, and may leave by a port. -/
theorem State.chSend_eq (s : State) (typ dest : Nat) (pay : List Nat) :
    s.chSend typ dest pay = { s with ch := { s.ch with seq := (s.ch.seq + 1) % 2 ^ 16 }, chOut := (s.chSend typ dest pay).chOut } := by
  unfold State.chSend
  rw [State.chEmit_eq]

@[simp] theorem State.rd_chSend (s : State) (typ dest : Nat) (pay : List Nat) (f : FD) (i j : Nat) : (s.chSend typ dest pay).rd f i j = s.rd f i j := by
  rw [State.chSend_eq]
  rfl

theorem State.rstAt_chSend (s : State) (typ dest : Nat) (pay : List Nat) : (s.chSend typ dest pay).ch.rstAt = s.ch.rstAt := by rw [State.chSend_eq]
theorem State.now_chSend (s : State) (typ dest : Nat) (pay : List Nat) : (s.chSend typ dest pay).now = s.now := by rw [State.chSend_eq]

/-- A frame at the module that it is addressed to. -/
theorem State.chFrame_addressed {p typ : Nat} {f : ChFrame} {first : Bool} {act : State → List Nat → State × List Nat} {home : State → List Nat → State}
    (hon : s.chOn = true) (hup : s.chUp p = true) (hbad : f.bad = false) (hnamed : s.on Reg.CH_STATUS.ADDR_OK = true)
    (hdest : f.dest = s.rd Reg.CH_STATUS.ADDR) (hown : s.rd Reg.CH_STATUS.ADDR < 64) (htyp : f.typ = typ) :
    s.chFrame p f first typ act home = (act s f.words).1 := by
  have hcast : (s.rd Reg.CH_STATUS.ADDR == 0xFF) = false := beq_false_of_ne (by omega)
  simp [State.chFrame, hon, hup, hbad, hnamed, hdest, htyp, hcast]

/-! ## STATE and RESULT (R353) -/

theorem State.mcState_of_ne {v : Nat} (h : s.rd Reg.CH_MC_STAT.STATE ≠ v) : s.mcState v = (s.wr Reg.CH_MC_STAT.STATE 0 v).flag Reg.CH_EVT.MC_EVT 0 :=
  if_neg h

theorem State.mcResult_of_ne {v : Nat} (h : s.rd Reg.CH_MC_RES.RESULT ≠ v) : s.mcResult v = (s.wr Reg.CH_MC_RES.RESULT 0 v).flag Reg.CH_EVT.MC_EVT 0 :=
  if_neg h

theorem State.rd_mcState_same {v : Nat} (hv : v < 8) : (s.mcState v).rd Reg.CH_MC_STAT.STATE = v := by
  by_cases h : s.rd Reg.CH_MC_STAT.STATE = v
  · rw [State.mcState, if_pos h, h]
  · rw [State.mcState_of_ne h, State.flag, State.rd_wr_of_lo (by decide), State.rd_wr_of_lt hv]

theorem State.rd_mcState_ne (s : State) (v : Nat) {g : FD} (hstate : g.key 0 0 ≠ Reg.CH_MC_STAT.STATE.key 0 0) (hevt : g.key 0 0 ≠ Reg.CH_EVT.MC_EVT.key 0 0) :
    (s.mcState v).rd g = s.rd g := by
  unfold State.mcState
  split
  · rfl
  · exact (State.rd_wr_ne hevt).trans (State.rd_wr_ne hstate)

theorem State.rd_mcResult_ne (s : State) (v : Nat) {g : FD} (hres : g.key 0 0 ≠ Reg.CH_MC_RES.RESULT.key 0 0) (hevt : g.key 0 0 ≠ Reg.CH_EVT.MC_EVT.key 0 0) :
    (s.mcResult v).rd g = s.rd g := by
  unfold State.mcResult
  split
  · rfl
  · exact (State.rd_wr_ne hevt).trans (State.rd_wr_ne hres)

/-- A new RESULT shows, with MC_EVT. -/
theorem State.mcResult_spec {v : Nat} (hv : v < 8) (h : s.rd Reg.CH_MC_RES.RESULT ≠ v) :
    (s.mcResult v).rd Reg.CH_MC_RES.RESULT = v ∧ (s.mcResult v).rd Reg.CH_EVT.MC_EVT = 1 ∧
      OnlyRegs s (s.mcResult v) [Reg.CH_MC_RES.RESULT.key 0 0, Reg.CH_EVT.MC_EVT.key 0 0] := by
  rw [State.mcResult_of_ne h]
  exact ⟨(State.rd_wr_of_lo (by decide)).trans (State.rd_wr_of_lt hv), State.rd_flag rfl, ((OnlyRegs.refl s _).wr2 (by simp)).wr2 (by simp)⟩

/-- A new STATE shows, with MC_EVT. -/
theorem State.mcState_spec {v : Nat} (hv : v < 8) (h : s.rd Reg.CH_MC_STAT.STATE ≠ v) :
    (s.mcState v).rd Reg.CH_MC_STAT.STATE = v ∧ (s.mcState v).rd Reg.CH_EVT.MC_EVT = 1 ∧
      OnlyRegs s (s.mcState v) [Reg.CH_MC_STAT.STATE.key 0 0, Reg.CH_EVT.MC_EVT.key 0 0] := by
  refine ⟨State.rd_mcState_same hv, ?_⟩
  rw [State.mcState_of_ne h]
  exact ⟨State.rd_flag rfl, ((OnlyRegs.refl s _).wr2 (by simp)).wr2 (by simp)⟩

/-! ## The carrier sync (R352) -/

theorem exec_csyncArm {per : BitVec 24} (h : s.ready (Reg.CH_CSYNC.ARM.addr 0 0) = true) :
    exec (.csyncArm m per) s = .next ((s.csyncArm per.toNat).ack m) := congrArg Host.Outcome.next (State.winWrite_ready h)

theorem State.chainTime_wr_per (s : State) (per : Nat) :
    (s.wr Reg.CH_CSYNC.PER 0 per).rd Reg.CH_CSYNC_AT.AT = s.rd Reg.CH_CSYNC_AT.AT ∧ (s.wr Reg.CH_CSYNC.PER 0 per).chainTime = s.rd Reg.CH_TIME.TIME :=
  ⟨State.rd_wr_of_lo (by decide), State.rd_wr_of_lo (by decide)⟩

theorem State.csyncArm_held {per : Nat} (h : s.rd Reg.CH_TIME.TIME < s.rd Reg.CH_CSYNC_AT.AT) :
    s.csyncArm per = (s.wr Reg.CH_CSYNC.PER 0 per).wr Reg.CH_CSYNC.ARM 0 1 := by
  obtain ⟨hat, htime⟩ := s.chainTime_wr_per per
  exact if_neg (by rw [hat, htime]; omega)

theorem State.csyncArm_late {per : Nat} (h : s.rd Reg.CH_CSYNC_AT.AT ≤ s.rd Reg.CH_TIME.TIME) :
    s.csyncArm per = ((s.wr Reg.CH_CSYNC.PER 0 per).wr Reg.CH_CSYNC.ARM 0 0).flag Reg.CH_EVT.CSYNC_LATE 0 := by
  obtain ⟨hat, htime⟩ := s.chainTime_wr_per per
  exact if_pos (by rw [hat, htime]; exact h)

theorem exec_carrierSync (hchn : s.present islCHN = true) (harm : s.on Reg.CH_CSYNC.ARM = true) (htime : s.chainTime = s.rd Reg.CH_CSYNC_AT.AT) :
    exec .carrierSync s = .next (s.csyncRaise s.chainTime) := congrArg Host.Outcome.next (if_pos ⟨hchn, harm, htime⟩)

theorem exec_carrierSync_idle (h : s.present islCHN = false ∨ s.on Reg.CH_CSYNC.ARM = false ∨ s.chainTime ≠ s.rd Reg.CH_CSYNC_AT.AT) :
    exec .carrierSync s = .next s := by
  refine congrArg Host.Outcome.next (if_neg ?_)
  rintro ⟨hchn, harm, htime⟩
  rcases h with h | h | h
  · simp [h] at hchn
  · simp [h] at harm
  · exact h htime

theorem State.csyncRaise_once (h : s.rd Reg.CH_CSYNC.PER = 0) (t : Nat) : s.csyncRaise t = s.carrierSync.wr Reg.CH_CSYNC.ARM 0 0 := if_pos h

theorem State.csyncRaise_again (h : s.rd Reg.CH_CSYNC.PER ≠ 0) (t : Nat) : s.csyncRaise t = s.carrierSync.wr Reg.CH_CSYNC_AT.AT 0
    (s.rd Reg.CH_CSYNC_AT.AT + s.rd Reg.CH_CSYNC.PER * ((t - s.rd Reg.CH_CSYNC_AT.AT) / s.rd Reg.CH_CSYNC.PER + 1)) := if_neg h

/-! ## Arming (R354) -/

/-- What a change of the armed or refused ID shows. -/
def State.mcNamed (s : State) (id r : Nat) : State :=
  (((s.wr Reg.CH_MC_STAT.ID 0 id).wr Reg.CH_MC_STAT.REASON 0 r).wr Reg.CH_MC_STAT.CMT 0 0).wr Reg.CH_MC_STAT.LOCK_LOST 0 0

theorem State.mcNamed_spec (s : State) (id : Nat) {r : Nat} (hr : r < 8) :
    (s.mcNamed id r).rd Reg.CH_MC_STAT.ID = id % 65536 ∧ (s.mcNamed id r).rd Reg.CH_MC_STAT.REASON = r ∧ (s.mcNamed id r).rd Reg.CH_MC_STAT.CMT = 0 := by
  simp (disch := decide) only [State.mcNamed, State.wr_eq, State.rd_wr2_same, State.rd_wr2_of_place]
  exact ⟨rfl, Nat.mod_eq_of_lt hr, rfl⟩

theorem State.rd_mcNamed_ne (s : State) (id r : Nat) {g : FD} {i : Nat} (h : g.lo % 32 ≠ 16 ∧ g.lo % 32 ≠ 8 ∧ g.lo % 32 ≠ 4 ∧ g.lo % 32 ≠ 5) :
    (s.mcNamed id r).rd g i = s.rd g i := by
  obtain ⟨hid, hreason, hcmt, hlock⟩ := h
  rw [State.mcNamed, State.rd_wr_of_lo hlock, State.rd_wr_of_lo hcmt, State.rd_wr_of_lo hreason, State.rd_wr_of_lo hid]

section
variable {id t : Nat}

theorem State.mcArm_armed (h : s.mcCheck id t = 0) :
    s.mcArm id t = ({ (s.mcNamed id 0).mcState 1 with ch := { s.ch with t := t } }, 0) := if_pos h

theorem State.mcArm_busy (h : s.mcCheck id t ≠ 0) (hst : s.rd Reg.CH_MC_STAT.STATE = 1) : s.mcArm id t = (s, s.mcCheck id t) :=
  (if_neg h).trans (if_pos hst)

theorem State.mcArm_refused (h : s.mcCheck id t ≠ 0) (hst : s.rd Reg.CH_MC_STAT.STATE ≠ 1) :
    s.mcArm id t = ((s.mcNamed id (s.mcCheck id t)).mcState 3, s.mcCheck id t) := (if_neg h).trans (if_neg hst)

/-- The checks of R354 are numbered 1 to 6. -/
theorem State.mcCheck_lt (s : State) (id t : Nat) : s.mcCheck id t < 8 := by
  unfold State.mcCheck
  extract_lets lead
  split
  · decide
  split
  · decide
  split
  · decide
  split
  · decide
  split
  · decide
  split <;> decide

theorem State.mcArm_armed_spec (h : s.mcCheck id t = 0) :
    (s.mcArm id t).2 = 0 ∧ (s.mcArm id t).1.rd Reg.CH_MC_STAT.STATE = 1 ∧ (s.mcArm id t).1.rd Reg.CH_MC_STAT.ID = id % 65536 ∧
      (s.mcArm id t).1.rd Reg.CH_MC_STAT.REASON = 0 ∧ (s.mcArm id t).1.rd Reg.CH_MC_STAT.CMT = 0 ∧ (s.mcArm id t).1.ch.t = t := by
  obtain ⟨hid, hreason, hcmt⟩ := s.mcNamed_spec id (r := 0) (by decide)
  have hrd (g : FD) : (s.mcArm id t).1.rd g = ((s.mcNamed id 0).mcState 1).rd g := by
    rw [State.mcArm_armed h]
    rfl
  refine ⟨by rw [State.mcArm_armed h], ?_, ?_, ?_, ?_, by rw [State.mcArm_armed h]⟩
  · rw [hrd, State.rd_mcState_same (by decide)]
  · rw [hrd, State.rd_mcState_ne _ 1 (by decide) (by decide), hid]
  · rw [hrd, State.rd_mcState_ne _ 1 (by decide) (by decide), hreason]
  · rw [hrd, State.rd_mcState_ne _ 1 (by decide) (by decide), hcmt]

theorem State.mcArm_refused_spec (h : s.mcCheck id t ≠ 0) (hst : s.rd Reg.CH_MC_STAT.STATE ≠ 1) :
    (s.mcArm id t).2 = s.mcCheck id t ∧ (s.mcArm id t).1.rd Reg.CH_MC_STAT.STATE = 3 ∧ (s.mcArm id t).1.rd Reg.CH_MC_STAT.REASON = s.mcCheck id t ∧
      (s.mcArm id t).1.rd Reg.CH_MC_STAT.ID = id % 65536 := by
  obtain ⟨hid, hreason, -⟩ := s.mcNamed_spec id (s.mcCheck_lt id t)
  rw [State.mcArm_refused h hst]
  exact ⟨rfl, State.rd_mcState_same (by decide), (State.rd_mcState_ne _ 3 (by decide) (by decide)).trans hreason,
    (State.rd_mcState_ne _ 3 (by decide) (by decide)).trans hid⟩

/-- Arming touches neither the master's RESULT nor its map of APPLIED reports. -/
theorem State.rd_mcArm_ne (s : State) (id t : Nat) {g : FD} (h : g.lo = 0) (hstate : g.key 0 0 ≠ Reg.CH_MC_STAT.STATE.key 0 0) :
    (s.mcArm id t).1.rd g = s.rd g := by
  have hevt : g.key 0 0 ≠ Reg.CH_EVT.MC_EVT.key 0 0 := FD.key_ne_of_lo (by rw [h]; decide)
  have hnamed (r : Nat) : (s.mcNamed id r).rd g = s.rd g := s.rd_mcNamed_ne id r (by rw [h]; decide)
  by_cases hcheck : s.mcCheck id t = 0
  · rw [State.mcArm_armed hcheck]
    exact (State.rd_mcState_ne _ 1 hstate hevt).trans (hnamed 0)
  by_cases hst : s.rd Reg.CH_MC_STAT.STATE = 1
  · rw [State.mcArm_busy hcheck hst]
  · rw [State.mcArm_refused hcheck hst]
    exact (State.rd_mcState_ne _ 3 hstate hevt).trans (hnamed _)

end

/-! ## PREPARE on the master (R355) -/

theorem exec_prepareWrite {id : BitVec 16} (h : s.ready (Reg.CH_MC_CTRL.PREPARE.addr 0 0) = true) :
    exec (.prepareWrite m id) s = .next ((s.mcPrepare id.toNat).ack m) := congrArg Host.Outcome.next (State.winWrite_ready h)

/-- The master's change with its members, as it begins. -/
def State.mcBegun (s : State) (id : Nat) : State :=
  { s.wr Reg.CH_MC_CTRL.ID 0 id with ch := { s.ch with mId := id, mT := s.rd Reg.CH_MC_AT.T, mS := s.rd Reg.CH_PRESENT.MAP ||| 1, mAt := s.now, armed := 1,
                                                        refused := 0 } }.wr Reg.CH_MC_MAP.APPLIED 0 0

theorem State.chRole_ne_two (h : s.rd Reg.CH_CFG.ROLE < 2) : s.chRole ≠ 2 := by
  unfold State.chRole
  omega

theorem State.chRole_of_two (h : s.rd Reg.CH_CFG.ROLE = 2) : s.chRole = 2 := by rw [State.chRole, h]

theorem State.mcPrepare_denied {id : Nat}
    (h : s.rd Reg.CH_CFG.ROLE < 2 ∨ s.rd Reg.CH_STATUS.ENUM_DONE = 0 ∨ s.rd Reg.CH_MC_RES.RESULT = 1 ∨ s.rd Reg.CH_MC_RES.RESULT = 2) :
    s.mcPrepare id = (s.wr Reg.CH_MC_CTRL.ID 0 id).flag Reg.CH_EVT.CMD_ERR 0 := by
  have hrd {g : FD} (hg : g.lo % 32 ≠ 16) : (s.wr Reg.CH_MC_CTRL.ID 0 id).rd g = s.rd g := State.rd_wr_of_lo hg
  refine if_pos ?_
  rw [hrd (g := Reg.CH_MC_RES.RESULT) (by decide)]
  rcases h with h | h | h
  · exact .inl (State.chRole_ne_two (by rwa [hrd (by decide)]))
  · exact .inr (.inl (by rw [State.on_eq, hrd (by decide), h]; rfl))
  · exact .inr (.inr h)

theorem State.mcPrepare_accepted {id : Nat} (hrole : s.rd Reg.CH_CFG.ROLE = 2) (henum : s.rd Reg.CH_STATUS.ENUM_DONE = 1)
    (hres : s.rd Reg.CH_MC_RES.RESULT = 0) : s.mcPrepare id = match (s.mcBegun id).mcArm id (s.rd Reg.CH_MC_AT.T) with
      | (s', 0) => (s'.mcResult 1).chSend 0x10 0xFF (id :: two (s.rd Reg.CH_MC_AT.T))
      | (s', _) => s'.mcResult 4 := by
  have hrd {g : FD} (hg : g.lo % 32 ≠ 16) : (s.wr Reg.CH_MC_CTRL.ID 0 id).rd g = s.rd g := State.rd_wr_of_lo hg
  have hgo : ¬ ((s.wr Reg.CH_MC_CTRL.ID 0 id).chRole ≠ 2 ∨ (!(s.wr Reg.CH_MC_CTRL.ID 0 id).on Reg.CH_STATUS.ENUM_DONE) = true ∨
      (s.wr Reg.CH_MC_CTRL.ID 0 id).rd Reg.CH_MC_RES.RESULT = 1 ∨ (s.wr Reg.CH_MC_CTRL.ID 0 id).rd Reg.CH_MC_RES.RESULT = 2) := by
    rw [State.chRole_of_two (by rw [hrd (by decide), hrole]), State.on_eq, hrd (g := Reg.CH_STATUS.ENUM_DONE) (by decide),
      hrd (g := Reg.CH_MC_RES.RESULT) (by decide), henum, hres]
    decide
  rw [State.mcPrepare, if_neg hgo, hrd (g := Reg.CH_MC_AT.T) (by decide), hrd (g := Reg.CH_PRESENT.MAP) (by decide)]
  rfl

/-- A master that does not accept refuses its own change. -/
theorem State.mcPrepare_not_accepting {id : Nat} (hrole : s.rd Reg.CH_CFG.ROLE = 2) (henum : s.rd Reg.CH_STATUS.ENUM_DONE = 1)
    (hres : s.rd Reg.CH_MC_RES.RESULT = 0) (hacc : s.rd Reg.CH_CFG.ACCEPT = 0) :
    s.mcPrepare id = ((s.mcBegun id).mcArm id (s.rd Reg.CH_MC_AT.T)).1.mcResult 4 ∧ (s.mcBegun id).mcCheck id (s.rd Reg.CH_MC_AT.T) = 1 := by
  have hoff : (s.mcBegun id).on Reg.CH_CFG.ACCEPT = false := by
    rw [State.on_false_iff, State.mcBegun, State.rd_wr_of_lo (by decide)]
    have : (s.wr Reg.CH_MC_CTRL.ID 0 id).rd Reg.CH_CFG.ACCEPT = s.rd Reg.CH_CFG.ACCEPT := State.rd_wr_of_lo (by decide)
    rw [hacc] at this
    exact fun h => absurd (this.symm.trans h) (by decide)
  have hcheck : (s.mcBegun id).mcCheck id (s.rd Reg.CH_MC_AT.T) = 1 := by
    unfold State.mcCheck
    rw [hoff]
    rfl
  refine ⟨?_, hcheck⟩
  have hne : (s.mcBegun id).mcCheck id (s.rd Reg.CH_MC_AT.T) ≠ 0 := by rw [hcheck]; decide
  rw [State.mcPrepare_accepted hrole henum hres]
  by_cases hst : (s.mcBegun id).rd Reg.CH_MC_STAT.STATE = 1
  · rw [State.mcArm_busy hne hst, hcheck]
    rfl
  · rw [State.mcArm_refused hne hst, hcheck]
    rfl

theorem State.mcPrepare_not_accepting_spec {id : BitVec 16} (hrole : s.rd Reg.CH_CFG.ROLE = 2) (henum : s.rd Reg.CH_STATUS.ENUM_DONE = 1)
    (hres : s.rd Reg.CH_MC_RES.RESULT = 0) (hacc : s.rd Reg.CH_CFG.ACCEPT = 0) {t : State} (ht : t = s.mcPrepare id.toNat) :
    t.rd Reg.CH_MC_RES.RESULT = 4 ∧ t.rd Reg.CH_EVT.MC_EVT = 1 ∧ t.rd Reg.CH_MC_MAP.APPLIED = 0 ∧
      (s.rd Reg.CH_MC_STAT.STATE ≠ 1 → t.rd Reg.CH_MC_STAT.STATE = 3 ∧ t.rd Reg.CH_MC_STAT.REASON = 1 ∧ t.rd Reg.CH_MC_STAT.ID = id.toNat) := by
  obtain ⟨heq, hcheck⟩ := State.mcPrepare_not_accepting (id := id.toNat) hrole henum hres hacc
  have hbegun {g : FD} (hid : g.key 0 0 ≠ Reg.CH_MC_CTRL.ID.key 0 0) (hmap : g.key 0 0 ≠ Reg.CH_MC_MAP.APPLIED.key 0 0) :
      (s.mcBegun id.toNat).rd g = s.rd g := (State.rd_wr_ne hmap).trans (State.rd_wr_ne (s := s) hid)
  have happlied : (s.mcBegun id.toNat).rd Reg.CH_MC_MAP.APPLIED = 0 := State.rd_wr_of_lt (by decide)
  rw [heq] at ht
  have hres' : ((s.mcBegun id.toNat).mcArm id.toNat (s.rd Reg.CH_MC_AT.T)).1.rd Reg.CH_MC_RES.RESULT ≠ 4 := by
    rw [State.rd_mcArm_ne _ _ _ rfl (by decide), hbegun (by decide) (by decide), hres]
    decide
  obtain ⟨hR, hE, -⟩ := State.mcResult_spec (by decide) hres'
  subst ht
  refine ⟨hR, hE, ?_, fun hst => ?_⟩
  · rw [State.rd_mcResult_ne _ 4 (by decide) (by decide), State.rd_mcArm_ne _ _ _ rfl (by decide), happlied]
  · have hst' : (s.mcBegun id.toNat).rd Reg.CH_MC_STAT.STATE ≠ 1 := by rwa [hbegun (by decide) (by decide)]
    obtain ⟨-, hS, hReason, hId⟩ := State.mcArm_refused_spec (by rw [hcheck]; decide) hst'
    rw [State.rd_mcResult_ne _ 4 (by decide) (by decide), State.rd_mcResult_ne _ 4 (by decide) (by decide), State.rd_mcResult_ne _ 4 (by decide) (by decide),
      hS, hReason, hcheck, hId]
    exact ⟨rfl, rfl, Nat.mod_eq_of_lt id.isLt⟩

/-! ## What the module does with the frames of a change and of a reset (R354 to R358) -/

section
variable {p : Fin 2} {f : ChFrame} {first : Bool} (hon : s.chOn = true) (hup : s.chUp p.val = true) (hbad : f.bad = false)
  (hnamed : s.on Reg.CH_STATUS.ADDR_OK = true) (hdest : f.dest = s.rd Reg.CH_STATUS.ADDR) (hown : s.rd Reg.CH_STATUS.ADDR < 64)
include hon hup hbad hnamed hdest hown

theorem exec_chPrepare_armed (htyp : f.typ = 0x10) (h : (s.mcArm (f.words.getD 0 0 % 2 ^ 16) (ofTwo f.words 1)).2 = 0) :
    exec (.chPrepare p f first) s = .next ((s.mcArm (f.words.getD 0 0 % 2 ^ 16) (ofTwo f.words 1)).1.chSend 0x11 0 [f.words.getD 0 0 % 2 ^ 16]) := by
  refine congrArg Host.Outcome.next ((State.chFrame_addressed hon hup hbad hnamed hdest hown htyp).trans ?_)
  simp only [keepPay]
  split
  next t' heq => rw [heq]
  next t' r hr heq => exact absurd (congrArg Prod.snd heq ▸ h) (by simpa using hr)

theorem exec_chPrepare_refused (htyp : f.typ = 0x10) {r : Nat} (hr : r ≠ 0) (h : (s.mcArm (f.words.getD 0 0 % 2 ^ 16) (ofTwo f.words 1)).2 = r) :
    exec (.chPrepare p f first) s = .next ((s.mcArm (f.words.getD 0 0 % 2 ^ 16) (ofTwo f.words 1)).1.chSend 0x12 0 [f.words.getD 0 0 % 2 ^ 16, r]) := by
  refine congrArg Host.Outcome.next ((State.chFrame_addressed hon hup hbad hnamed hdest hown htyp).trans ?_)
  simp only [keepPay]
  split
  next t' heq => exact absurd (h.symm.trans (congrArg Prod.snd heq)) hr
  next t' r' hr' heq =>
    have hrr : r' = r := (congrArg Prod.snd heq).symm.trans h
    rw [heq, hrr]

theorem exec_chArmed (htyp : f.typ = 0x11) : exec (.chArmed p f first) s =
    .next (if s.mcMine f.words then { s with ch := { s.ch with armed := withBit s.ch.armed (f.src % 64) } } else s) :=
  congrArg Host.Outcome.next (State.chFrame_addressed hon hup hbad hnamed hdest hown htyp)

theorem exec_chRefused (htyp : f.typ = 0x12) : exec (.chRefused p f first) s =
    .next (if s.mcMine f.words then { s with ch := { s.ch with refused := withBit s.ch.refused (f.src % 64) } } else s) :=
  congrArg Host.Outcome.next (State.chFrame_addressed hon hup hbad hnamed hdest hown htyp)

theorem exec_chCommit (htyp : f.typ = 0x13) : exec (.chCommit p f first) s = .next (s.mcCommit f.words) :=
  congrArg Host.Outcome.next (State.chFrame_addressed hon hup hbad hnamed hdest hown htyp)

theorem exec_chAbort (htyp : f.typ = 0x14) : exec (.chAbort p f first) s =
    .next (s.onlyIf (s.rd Reg.CH_MC_STAT.STATE == 1 && s.rd Reg.CH_MC_STAT.ID == f.words.getD 0 0) (·.mcState 4)) :=
  congrArg Host.Outcome.next (State.chFrame_addressed hon hup hbad hnamed hdest hown htyp)

theorem exec_chApplied (htyp : f.typ = 0x15) : exec (.chApplied p f first) s =
    .next (if s.mcMine f.words then s.mcApplied (f.src % 64) else s) :=
  congrArg Host.Outcome.next (State.chFrame_addressed hon hup hbad hnamed hdest hown htyp)

theorem exec_chExpired (htyp : f.typ = 0x16) : exec (.chExpired p f first) s = .next s :=
  congrArg Host.Outcome.next (State.chFrame_addressed hon hup hbad hnamed hdest hown htyp)

theorem exec_chReset (htyp : f.typ = 0x22) : exec (.chReset p f first) s = .next (s.onlyIf (s.on Reg.CH_CFG.RST_EN
    && (f.words.getD 0 0 == 0xFF || (s.on Reg.CH_STATUS.ADDR_OK && f.words.getD 0 0 == s.rd Reg.CH_STATUS.ADDR))) (·.chResetIn 5000)) :=
  congrArg Host.Outcome.next (State.chFrame_addressed hon hup hbad hnamed hdest hown htyp)

end

theorem State.mcCommit_armed {w : List Nat} (hst : s.rd Reg.CH_MC_STAT.STATE = 1) (hid : s.rd Reg.CH_MC_STAT.ID = w.getD 0 0) :
    s.mcCommit w = s.wr Reg.CH_MC_STAT.CMT 0 1 := by simp only [State.mcCommit, hst, hid, beq_self_eq_true, Bool.and_self, State.onlyIf_true]

theorem State.mcCommit_other {w : List Nat} (hst : s.rd Reg.CH_MC_STAT.STATE ≠ 1) : s.mcCommit w = s := by
  simp only [State.mcCommit, beq_false_of_ne hst, Bool.false_and, State.onlyIf_false]

/-! ## The master's decision (R355) -/

theorem State.rd_mcThrice (s : State) (typ : Nat) (f : FD) (i j : Nat) : (s.mcThrice typ).rd f i j = s.rd f i j :=
  s.rd_chSend typ 0xFF [s.ch.mId] f i j

/-- The frame is sent twice again, 2 µs apart. -/
theorem State.rep_mcThrice (s : State) (typ : Nat) : (s.mcThrice typ).ch.rep = [(s.now + 1000, typ, s.ch.mId), (s.now + 2000, typ, s.ch.mId)] := by
  simp only [State.mcThrice, State.now_chSend]

/-- The change of the master ends as aborted. -/
def State.mcAborted (s : State) : State :=
  ((s.mcThrice 0x14).onlyIf (s.rd Reg.CH_MC_STAT.STATE == 1 && s.rd Reg.CH_MC_STAT.ID == s.ch.mId) (·.mcState 4)).mcResult 4

theorem exec_mcArmTimeout_commits (hchn : s.present islCHN = true) (hres : s.rd Reg.CH_MC_RES.RESULT = 1) (harmed : covers s.ch.armed s.ch.mS = true)
    (hrefused : s.ch.refused = 0) (hlead : s.chainTime + 500 * s.rd Reg.CH_MC_TMO.LEAD_US ≤ s.ch.mT) :
    exec .mcArmTimeout s = .next ((s.mcResult 2).mcThrice 0x13) := by
  simp only [exec, execMcArmTimeout, hchn, hres, harmed, hrefused, Nat.or_zero, hlead, true_and, true_or, if_true, decide_true, beq_self_eq_true, Bool.and_self]

theorem exec_mcArmTimeout_aborts (hchn : s.present islCHN = true) (hres : s.rd Reg.CH_MC_RES.RESULT = 1)
    (htime : s.ch.mAt + 500 * s.rd Reg.CH_MC_TMO.ARM_TMO_US ≤ s.now) (harmed : covers s.ch.armed s.ch.mS = false) :
    exec .mcArmTimeout s = .next s.mcAborted := by
  simp only [exec, execMcArmTimeout, hchn, hres, harmed, htime, true_and, or_true, if_true, Bool.false_and, Bool.false_eq_true, if_false, State.rd_mcThrice]
  rfl

theorem exec_mcArmTimeout_idle (hres : s.rd Reg.CH_MC_RES.RESULT ≠ 1) : exec .mcArmTimeout s = .next s :=
  congrArg Host.Outcome.next (if_neg fun h => hres h.2.1)

theorem State.mcAborted_spec (hres : s.rd Reg.CH_MC_RES.RESULT = 1) :
    s.mcAborted.rd Reg.CH_MC_RES.RESULT = 4 ∧ s.mcAborted.rd Reg.CH_EVT.MC_EVT = 1 ∧
      (s.rd Reg.CH_MC_STAT.STATE = 1 → s.rd Reg.CH_MC_STAT.ID = s.ch.mId → s.mcAborted.rd Reg.CH_MC_STAT.STATE = 4) := by
  unfold State.mcAborted
  generalize hb : (s.rd Reg.CH_MC_STAT.STATE == 1 && s.rd Reg.CH_MC_STAT.ID == s.ch.mId) = b
  have hres' : ((s.mcThrice 0x14).onlyIf b (·.mcState 4)).rd Reg.CH_MC_RES.RESULT ≠ 4 := by
    have : ((s.mcThrice 0x14).onlyIf b (·.mcState 4)).rd Reg.CH_MC_RES.RESULT = s.rd Reg.CH_MC_RES.RESULT := by
      cases b
      · exact State.rd_mcThrice _ _ _ _ _
      · exact (State.rd_mcState_ne _ 4 (by decide) (by decide)).trans (State.rd_mcThrice _ _ _ _ _)
    rw [this, hres]
    decide
  obtain ⟨hR, hE, -⟩ := State.mcResult_spec (by decide) hres'
  refine ⟨hR, hE, fun hst hid => ?_⟩
  rw [hst, hid, beq_self_eq_true, beq_self_eq_true] at hb
  subst hb
  exact (State.rd_mcResult_ne _ 4 (by decide) (by decide)).trans (State.rd_mcState_same (by decide))

theorem exec_mcResultTimeout (hchn : s.present islCHN = true) (hres : s.rd Reg.CH_MC_RES.RESULT = 2) (htime : s.ch.mT + 50000 ≤ s.chainTime) :
    exec .mcResultTimeout s = .next (s.mcResult 5) := by
  simp only [exec, execMcResultTimeout, hchn, hres, decide_eq_true htime, beq_self_eq_true, Bool.and_self, State.onlyIf_true]

theorem exec_mcResultTimeout_idle (h : s.rd Reg.CH_MC_RES.RESULT ≠ 2 ∨ s.chainTime < s.ch.mT + 50000) : exec .mcResultTimeout s = .next s := by
  rcases h with h | h
  · simp [exec, execMcResultTimeout, beq_false_of_ne h]
  · simp [exec, execMcResultTimeout, Nat.not_le.2 h]

/-! ## The change at its time (R356) -/

theorem exec_mcApply (hon : s.chOn = true) : exec .mcApply s = .next (s.mcApply false) := congrArg Host.Outcome.next (if_pos hon)

theorem State.mcApply_idle {step : Bool} (h : s.rd Reg.CH_MC_STAT.STATE ≠ 1 ∨ s.chainTime < s.ch.t) : s.mcApply step = s := if_pos h

theorem State.mcApply_committed (hst : s.rd Reg.CH_MC_STAT.STATE = 1) (htime : s.ch.t ≤ s.chainTime) (hcmt : s.on Reg.CH_MC_STAT.CMT = true) :
    s.mcApply false = ((s.mcWrites.onlyIf (!s.on Reg.CH_STATUS.TLOCK) (·.flag Reg.CH_MC_STAT.LOCK_LOST 0)).mcState 2).mcReport true := by
  rw [State.mcApply, if_neg (by omega), if_pos hcmt, Bool.false_or]

theorem State.mcApply_expired (hst : s.rd Reg.CH_MC_STAT.STATE = 1) (htime : s.ch.t ≤ s.chainTime) (hcmt : s.on Reg.CH_MC_STAT.CMT = false) :
    s.mcApply false = (s.mcState 5).mcReport false := by
  rw [State.mcApply, if_neg (by omega), hcmt]
  rfl

/-- The report of an expired change shows in no register. -/
theorem State.rd_mcReport_expired (s : State) (f : FD) (i j : Nat) : (s.mcReport false).rd f i j = s.rd f i j := by
  unfold State.mcReport
  extract_lets id
  split
  · rw [Bool.false_and, State.onlyIf_false]
  · exact State.rd_chSend _ _ _ _ _ _ _

/-! ## Chain resets (R358) -/

theorem exec_resetOne {target : Fin 64} (h : s.ready (Reg.CH_CMD.RESET_ONE.addr 0 0) = true) :
    exec (.resetOne m target) s = .next ((s.chResetOne target.val).ack m) := congrArg Host.Outcome.next (State.winWrite_ready h)

theorem exec_resetAll (h : s.ready (Reg.CH_CMD.RESET_ALL.addr 0 0) = true) : exec (.resetAll m) s = .next (s.chResetAll.ack m) :=
  congrArg Host.Outcome.next (State.winWrite_ready h)

theorem State.chRole_wr_target (s : State) (target : Nat) : (s.wr Reg.CH_CMD.TARGET 0 target).chRole = s.chRole :=
  congrArg (· % 3) (State.rd_wr_of_lo (by decide))

theorem State.chResetOne_master {target : Nat} (h : s.chRole = 2) :
    s.chResetOne target = (s.wr Reg.CH_CMD.TARGET 0 target).chSend 0x22 target [target] := if_pos (by rw [State.chRole_wr_target, h])

theorem State.chResetOne_member {target : Nat} (h : s.chRole ≠ 2) :
    s.chResetOne target = (s.wr Reg.CH_CMD.TARGET 0 target).flag Reg.CH_EVT.CMD_ERR 0 := if_neg (by rwa [State.chRole_wr_target])

theorem State.chResetIn_first {d : Nat} (h : s.ch.rstAt = none) : s.chResetIn d = { s with ch := { s.ch with rstAt := some (s.now + d) } } := by
  simp only [State.chResetIn, h]

theorem State.rstAt_chResetAll (hrole : s.chRole = 2) (h : s.ch.rstAt = none) : s.chResetAll.ch.rstAt = some (s.now + 10000) := by
  rw [State.chResetAll, if_pos hrole, State.chResetIn_first ((State.rstAt_chSend _ _ _ _).trans h), State.now_chSend]

theorem exec_chainResetApply_due {t : Nat} (h : s.ch.rstAt = some t) (hchn : s.present islCHN = true) (hdue : t ≤ s.now) :
    exec .chainResetApply s = .next s.mReset := by simp only [exec, execChainResetApply, h, hchn, hdue, and_self, if_true]

theorem exec_chainResetApply_early {t : Nat} (h : s.ch.rstAt = some t) (hearly : s.now < t) : exec .chainResetApply s = .next s := by
  simp only [exec, execChainResetApply, h, Nat.not_le.2 hearly, and_false, if_false]

theorem exec_chainResetApply_none (h : s.ch.rstAt = none) : exec .chainResetApply s = .next s := by simp only [exec, execChainResetApply, h]

end

end Sys2Proof.Machine

open Sys2Proof Sys2Proof.Machine

/-! ## The obligation -/

/-- Settles O28, in the order of the protocol: carrier sync, PREPARE, the frames of a change, the master's decision, the time T, the resets. -/
theorem chainModeChange : Obligations.ChainModeChange := by
  refine ⟨fun m per s hready => ?arm, fun s => ?sync, fun m id s hready => ?prepare,
    fun s id t => ⟨State.mcArm_armed_spec, State.mcArm_busy, fun h hst => ?refused⟩, fun p f first s hon hup hbad hnamed hdest hown => ?frames,
    fun s hchn => ?decides, fun s hon => ?applies, fun m target s hone hall => ?resets,
    fun s => ⟨fun d => State.chResetIn_first, fun t => exec_chainResetApply_due, fun t => exec_chainResetApply_early, exec_chainResetApply_none⟩⟩
  case arm =>
    rw [exec_csyncArm hready]
    refine ⟨fun h => ⟨_, rfl, ?_⟩, fun h => ⟨_, rfl, ?_⟩⟩
    · simp only [State.csyncArm_held h, State.rd_ack]
      exact ⟨State.rd_wr_of_lt (by decide), (State.rd_wr_of_lo (by decide)).trans (State.rd_wr_of_lt per.isLt),
        (((OnlyRegs.refl s _).wr2 (by simp)).wr2 (by simp)).setResp⟩
    · simp only [State.csyncArm_late h, State.rd_ack, State.flag]
      exact ⟨(State.rd_wr_of_lo (by decide)).trans (State.rd_wr_of_lt (by decide)), State.rd_flag rfl,
        ((((OnlyRegs.refl s _).wr2 (by simp)).wr2 (by simp)).wr2 (by simp)).setResp⟩
  case sync =>
    refine ⟨exec_carrierSync, exec_carrierSync_idle, fun h => ?_, fun h => ?_⟩
    · rw [State.csyncRaise_once h]
      exact State.rd_wr_of_lt (by decide)
    · rw [State.csyncRaise_again h]
      exact State.rd_wr2_same _ _ _ _ _
  case prepare =>
    rw [exec_prepareWrite hready]
    refine ⟨fun h => ⟨_, rfl, ?_⟩, fun hrole henum hres hacc => ⟨_, rfl, ?_⟩⟩
    case refine_2 =>
      simp only [State.rd_ack]
      exact State.mcPrepare_not_accepting_spec hrole henum hres hacc rfl
    rw [State.mcPrepare_denied h]
    exact ⟨State.rd_flag rfl, (((OnlyRegs.refl s _).wr2 (by simp)).wr2 (by simp)).setResp⟩
  case refused =>
    obtain ⟨hcode, hState, hReason, -⟩ := State.mcArm_refused_spec h hst
    exact ⟨hcode, hState, hReason⟩
  case frames =>
    refine ⟨exec_chPrepare_armed hon hup hbad hnamed hdest hown, fun htyp r => exec_chPrepare_refused hon hup hbad hnamed hdest hown htyp,
      fun htyp h => ?_, fun htyp h => ?_, fun htyp h => ?_, fun htyp hst hid => ?_, fun htyp hst => ?_, fun htyp hst hid => ?_, fun htyp h => ?_,
      exec_chExpired hon hup hbad hnamed hdest hown, fun htyp hrst hme => ?_, fun htyp hrst => ?_⟩
    · rw [exec_chArmed hon hup hbad hnamed hdest hown htyp, if_pos h]
    · rw [exec_chArmed hon hup hbad hnamed hdest hown htyp, h]
      rfl
    · rw [exec_chRefused hon hup hbad hnamed hdest hown htyp, if_pos h]
    · rw [exec_chCommit hon hup hbad hnamed hdest hown htyp, State.mcCommit_armed hst hid]
    · rw [exec_chCommit hon hup hbad hnamed hdest hown htyp, State.mcCommit_other hst]
    · rw [exec_chAbort hon hup hbad hnamed hdest hown htyp, hst, hid, beq_self_eq_true, beq_self_eq_true, Bool.and_self, State.onlyIf_true]
      exact ⟨_, rfl, State.mcState_spec (by decide) (by rw [hst]; decide)⟩
    · rw [exec_chApplied hon hup hbad hnamed hdest hown htyp, if_pos h]
    · rw [exec_chReset hon hup hbad hnamed hdest hown htyp, State.on_iff.2 hrst, hnamed, hme, beq_self_eq_true]
      simp
    · rw [exec_chReset hon hup hbad hnamed hdest hown htyp, State.on_false_iff.2 (by rw [hrst]; decide), Bool.false_and, State.onlyIf_false]
  case decides =>
    refine ⟨fun hres harmed hrefused hlead => ⟨_, exec_mcArmTimeout_commits hchn hres harmed hrefused hlead, ?_⟩,
      fun hres htime harmed => ⟨_, exec_mcArmTimeout_aborts hchn hres htime harmed, State.mcAborted_spec hres⟩, exec_mcArmTimeout_idle,
      fun hres htime => ⟨_, exec_mcResultTimeout hchn hres htime, State.mcResult_spec (by decide) (by rw [hres]; decide)⟩, exec_mcResultTimeout_idle⟩
    have hne : s.rd Reg.CH_MC_RES.RESULT ≠ 2 := by rw [hres]; decide
    obtain ⟨hR, hE, -⟩ := State.mcResult_spec (by decide) hne
    rw [State.rd_mcThrice, State.rd_mcThrice, State.rd_mcThrice, State.rep_mcThrice]
    refine ⟨hR, hE, State.rd_mcResult_ne _ 2 (by decide) (by decide), ?_⟩
    rw [State.mcResult_of_ne hne]
    rfl
  case applies =>
    rw [exec_mcApply hon]
    refine ⟨fun h => by rw [State.mcApply_idle h], fun hst htime hcmt => by rw [State.mcApply_committed hst htime hcmt],
      fun hst htime hcmt => ⟨_, rfl, ?_⟩⟩
    rw [State.mcApply_expired hst htime hcmt, State.rd_mcReport_expired, State.rd_mcReport_expired]
    obtain ⟨hS, hE, -⟩ := State.mcState_spec (s := s) (v := 5) (by decide) (by rw [hst]; decide)
    exact ⟨hS, hE⟩
  case resets =>
    rw [exec_resetOne hone, exec_resetAll hall]
    refine ⟨fun hrole => ⟨⟨_, rfl, ?_⟩, ⟨_, rfl, ?_⟩⟩, fun hrole => ⟨?_, fun h => ⟨_, rfl, State.rstAt_chResetAll (State.chRole_of_two hrole) h⟩⟩⟩
    · rw [State.chResetOne_member (State.chRole_ne_two hrole)]
      exact ⟨State.rd_flag rfl, (((OnlyRegs.refl s _).wr2 (by simp)).wr2 (by simp)).setResp⟩
    · rw [State.chResetAll, if_neg (State.chRole_ne_two hrole)]
      exact ⟨State.rd_flag rfl, ((OnlyRegs.refl s _).wr2 (by simp)).setResp⟩
    · rw [State.chResetOne_master (State.chRole_of_two hrole)]
end

section
/-! PROOFS. The statement of spec/16_clocks.md: references, band selection, lock and return of the loops. -/

namespace Sys2Proof.Machine

/-- The 16-bit encoding of what a word reads as is the word. -/
theorem uns_toInt (e : BitVec 16) : uns 16 e.toInt = e.toNat := by
  have := e.isLt
  rw [uns, BitVec.toInt_eq_toNat_cond]
  split <;> omega

theorem State.rd_wrI_toInt {s : State} {f : FD} {i : Nat} (hw : f.w = 16) (e : BitVec 16) : (s.wrI f i e.toInt).rd f i = e.toNat := by
  rw [State.wrI_eq, State.rd_wr2_same, hw, uns_toInt, Nat.mod_eq_of_lt e.isLt]

/-! ## Frames with the record of clock control -/

/-- Nothing differs but the fields under the listed keys, the answers to the bus masters, and what clock control keeps behind its registers. -/
def OnlyClk (s t : State) (ks : List Nat) : Prop := OnlyRegs s { t with clk := s.clk } ks

section
variable {s t : State} {ks : List Nat} {k : Nat}

theorem OnlyClk.refl (s : State) (ks : List Nat) : OnlyClk s s ks := OnlyRegs.refl s ks

theorem OnlyClk.wr2 (h : OnlyClk s t ks) {f : FD} {i j v : Nat} (hk : f.key i j ∈ ks) : OnlyClk s (t.wr2 f i j v) ks := OnlyRegs.wr2 h hk

theorem OnlyClk.setResp (h : OnlyClk s t ks) {m : Master} {r : Resp} : OnlyClk s (t.setResp m r) ks := OnlyRegs.setResp h

theorem OnlyClk.setClk (h : OnlyClk s t ks) (c : ClkS) : OnlyClk s { t with clk := c } ks := h

theorem OnlyClk.setPll (h : OnlyClk s t ks) (k : Nat) (r : PllS) : OnlyClk s (t.setPll k r) ks := h

/-- The frame as the statements give it. -/
theorem OnlyClk.frame (h : OnlyClk s t ks) : OnlyRegs s { t with clk := s.clk } ks := h

end

section
variable {s : State} {k : Nat}

/-! ## The record and the state of a loop -/

@[simp] theorem State.pll_setPll_same (s : State) (k : Nat) (r : PllS) : (s.setPll k r).pll k = r := SMap.get_set_same _ _ _ _

@[simp] theorem State.rd_setPll (s : State) (k : Nat) (r : PllS) (f : FD) (i j : Nat) : (s.setPll k r).rd f i j = s.rd f i j := rfl

theorem State.rd_state_setPllSt (s : State) (k v : Nat) : (s.setPllSt k v).rd Reg.PLL_STAT.STATE k = v % 8 :=
  (State.rd_wr_of_lo (by decide)).trans (State.rd_wr2_same _ _ _ _ _)

theorem State.rd_lock_setPllSt (s : State) (k v : Nat) : (s.setPllSt k v).rd Reg.PLL_STAT.LOCK k = b2n (v == 3) :=
  State.rd_wr_of_lt (b2n_lt_two _)

theorem State.rd_setPllSt {g : FD} {i j v : Nat} (h : g.lo % 32 ≠ 0 ∧ g.lo % 32 ≠ 4) : (s.setPllSt k v).rd g i j = s.rd g i j :=
  (State.rd_wr_of_lo h.2).trans (State.rd_wr_of_lo h.1)

theorem OnlyRegs.setPllSt {t : State} {ks : List Nat} (h : OnlyRegs s t ks) (hst : Reg.PLL_STAT.STATE.key k 0 ∈ ks) (hlock : Reg.PLL_STAT.LOCK.key k 0 ∈ ks)
    (v : Nat) : OnlyRegs s (t.setPllSt k v) ks := (h.wr2 hst).wr2 hlock

theorem OnlyClk.setPllSt {t : State} {ks : List Nat} (h : OnlyClk s t ks) (hst : Reg.PLL_STAT.STATE.key k 0 ∈ ks) (hlock : Reg.PLL_STAT.LOCK.key k 0 ∈ ks)
    (v : Nat) : OnlyClk s (t.setPllSt k v) ks := (h.wr2 hst).wr2 hlock

/-! ## References (R377, R378) -/

theorem refBit_place (src : Nat) : (refBit src).lo ≤ 1 ∧ (refBit src).w = 1 := by
  unfold refBit
  split <;> decide

/-- The crystal (1) or REFCLK (2) is no longer valid. -/
def State.refGone (s : State) (src : Nat) : State := (s.wr (refBit src) 0 0).flag Reg.CLK_EVT.REF_LOST 0

theorem State.rd_refGone {g : FD} {i : Nat} (src : Nat) (h : 2 ≤ g.lo % 32 ∧ g.lo % 32 ≠ 6) : (s.refGone src).rd g i = s.rd g i := by
  obtain ⟨hlo, -⟩ := refBit_place src
  rw [State.refGone, State.flag, State.rd_wr_of_lo h.2, State.rd_wr_of_lo (by omega)]

theorem State.rd_refBit_refGone (s : State) (src : Nat) : (s.refGone src).rd (refBit src) = 0 := by
  obtain ⟨hlo, -⟩ := refBit_place src
  rw [State.refGone, State.flag, State.rd_wr_of_lo (by simp only [Reg.CLK_EVT.REF_LOST]; omega), State.rd_wr_of_lt (by positivity)]

/-- The loss of either source leaves the valid bit of the other one. -/
theorem State.rd_other_refGone (s : State) (src : Fin 2) : (s.refGone (src.val + 1)).rd (refBit (3 - (src.val + 1))) = s.rd (refBit (3 - (src.val + 1))) := by
  rw [State.refGone, State.flag]
  match src with
  | 0 => exact (State.rd_wr_of_lo (by decide)).trans (State.rd_wr_of_lo (by decide))
  | 1 => exact (State.rd_wr_of_lo (by decide)).trans (State.rd_wr_of_lo (by decide))

theorem exec_refLost {src : Fin 2} {e : BitVec 16} (h : s.present islCLK = true) :
    exec (.refLost src.castSucc e) s = .next (s.localLost (src.val + 1) e.toInt) := by
  simp [exec, execRefLost, h, src.isLt]

theorem State.localLost_unused {src : Nat} {e : Int} (h : s.rd Reg.CLK_REF.LOCAL ≠ src) : s.localLost src e = s.refGone src :=
  if_pos (by rwa [← State.refGone, State.rd_refGone src (by decide)])

theorem State.localLost_switch {src : Fin 2} {e : Int} (hloc : s.rd Reg.CLK_REF.LOCAL = src.val + 1) (hsel : s.rd Reg.CLK_REF.LOCAL_SEL = 0)
    (hother : s.rd (refBit (3 - (src.val + 1))) = 1) : s.localLost (src.val + 1) e =
      (((s.refGone (src.val + 1)).wr Reg.CLK_REF.LOCAL 0 (2 - src.val)).flag Reg.CLK_EVT.REF_BACK 0).localCycle e := by
  rw [State.localLost, ← State.refGone]
  simp only [State.rd_refGone (s := s) (i := 0) (src.val + 1) (g := Reg.CLK_REF.LOCAL) (by decide),
    State.rd_refGone (s := s) (i := 0) (src.val + 1) (g := Reg.CLK_REF.LOCAL_SEL) (by decide), State.on_iff, State.rd_other_refGone, hloc, hsel, hother]
  have hval : 3 - (src.val + 1) = 2 - src.val := by omega
  simp [hval]

theorem State.localLost_dark {src : Fin 2} {e : Int} (hloc : s.rd Reg.CLK_REF.LOCAL = src.val + 1)
    (hother : s.rd (refBit (3 - (src.val + 1))) = 0) : s.localLost (src.val + 1) e =
      foldEach (fun k t => t.pllLoss k) (s.refGone (src.val + 1)).localLoops ((s.refGone (src.val + 1)).wr Reg.CLK_REF.LOCAL 0 0) := by
  rw [State.localLost, ← State.refGone]
  simp only [State.rd_refGone (s := s) (i := 0) (src.val + 1) (g := Reg.CLK_REF.LOCAL) (by decide), State.on_iff, State.rd_other_refGone, hloc, hother]
  simp

theorem exec_refValid {src : Fin 2} {e : BitVec 16} (h : s.present islCLK = true) :
    exec (.refValid src.castSucc e) s = .next (s.localValid (src.val + 1) e.toInt) := by
  simp [exec, execRefValid, h, src.isLt]

theorem State.localValid_unused {src : Nat} {e : Int} (hbit : s.rd (refBit src) = 0) (hloc : s.rd Reg.CLK_REF.LOCAL ≠ src)
    (hused : s.rd Reg.CLK_REF.LOCAL ≠ 0) :
    s.localValid src e = (s.wr (refBit src) 0 1).flag Reg.CLK_EVT.REF_BACK 0 := by
  obtain ⟨hlo, -⟩ := refBit_place src
  have hoff : s.on (refBit src) = false := State.on_false_iff.2 (by omega)
  have hrd : ((s.wr (refBit src) 0 1).flag Reg.CLK_EVT.REF_BACK 0).rd Reg.CLK_REF.LOCAL = s.rd Reg.CLK_REF.LOCAL :=
    (State.rd_wr_of_lo (by decide)).trans (State.rd_wr_of_lo (by simp only [Reg.CLK_REF.LOCAL]; omega))
  simp only [State.localValid, hoff, Bool.not_false, State.onlyIf_true, hrd, hloc, hused, false_and, if_false]

/-- A write that clock control refuses shows its code and changes nothing else. -/
theorem State.clkRefuse_spec (s : State) {code : Nat} (h : code < 8) (m : Master) :
    ((s.clkRefuse code).ack m).rd Reg.CLK_EVT.CFG_ERR = 1 ∧ ((s.clkRefuse code).ack m).rd Reg.CLK_REF.CFG_CODE = code ∧
      OnlyRegs s ((s.clkRefuse code).ack m) [Reg.CLK_REF.CFG_CODE.key 0 0, Reg.CLK_EVT.CFG_ERR.key 0 0] :=
  ⟨State.rd_flag rfl, (State.rd_wr_of_lo (s := s.wr Reg.CLK_REF.CFG_CODE 0 code) (f := Reg.CLK_EVT.CFG_ERR) (i := 0)
    (v := 1) (by decide)).trans (State.rd_wr_of_lt h),
    (((OnlyRegs.refl s _).wr2 (by simp)).wr2 (by simp)).setResp⟩

theorem exec_localSel {m : Master} {v : Fin 4} {e : BitVec 16} (h : s.ready (Reg.CLK_REF.LOCAL_SEL.addr 0 0) = true) :
    exec (.localSel m v e) s = .next ((s.clkLocalSel v.val e.toInt).ack m) := congrArg Host.Outcome.next (State.winWrite_ready h)

theorem State.clkLocalSel_refused {v : Nat} {e : Int} (hv : v = 1 ∨ v = 2) (h : s.rd (refBit v) = 0) : s.clkLocalSel v e = s.clkRefuse 1 := by
  have hoff : s.on (refBit v) = false := State.on_false_iff.2 (by omega)
  rw [State.clkLocalSel, if_pos hv, hoff]
  rfl

theorem State.clkLocalSel_free {v : Nat} {e : Int} (hv : v = 0 ∨ v = 3) : s.clkLocalSel v e = s.wr Reg.CLK_REF.LOCAL_SEL 0 v := if_neg (by omega)

/-- The source that is already in use is only recorded as the choice. -/
theorem State.clkLocalSel_inUse {v : Nat} {e : Int} (h : s.rd (refBit v) = 1) (hloc : s.rd Reg.CLK_REF.LOCAL = v) :
    s.clkLocalSel v e = s.wr Reg.CLK_REF.LOCAL_SEL 0 v := by
  have hon : s.on (refBit v) = true := State.on_iff.2 h
  simp [State.clkLocalSel, hon, hloc]

/-! ## The wait for the crystal (R378, R401) -/

theorem exec_crystalWaitExpiry_due {t : Nat} (h : s.clk.wait = some t) (hp : s.present islCLK = true) (hdue : t + 1000000 ≤ s.now) :
    exec .crystalWaitExpiry s = .next (({ s with clk := { s.clk with wait := none } } : State).onlyIf
      (s.rd Reg.CLK_REF.LOCAL == 0 && s.on Reg.CLK_REF.REFCLK_OK) (·.localChosen 2 0)) := by
  simp only [exec, execCrystalWaitExpiry, h, hp, hdue, and_self, if_true]
  rfl

theorem exec_crystalWaitExpiry_early {t : Nat} (h : s.clk.wait = some t) (hnot : s.present islCLK = false ∨ s.now < t + 1000000) :
    exec .crystalWaitExpiry s = .next s := by
  have hearly : ¬ (s.present islCLK = true ∧ t + 1000000 ≤ s.now) := by
    rintro ⟨hp, hdue⟩
    rcases hnot with hnot | hnot
    · simp [hnot] at hp
    · omega
  simp only [exec, execCrystalWaitExpiry, h, if_neg hearly]

/-! ## Enables (R381, R389) -/

theorem exec_pllEnable {m : Master} {k : Fin 3} {b : Bool} (h : s.ready (Reg.PLL_CTRL.EN.addr k.val 0) = true) :
    exec (.pllEnable m k b) s = .next ((s.pllEn k.val b).ack m) := congrArg Host.Outcome.next (State.winWrite_ready h)

theorem exec_relock {m : Master} {k : Fin 3} (h : s.ready (Reg.PLL_CTRL.RELOCK.addr k.val 0) = true) :
    exec (.relock m k) s = .next ((s.pllRelock k.val).ack m) := congrArg Host.Outcome.next (State.winWrite_ready h)

section
variable (hen : s.on Reg.PLL_CTRL.EN k = true)
include hen

theorem State.pllEn_again : s.pllEn k true = s := if_pos hen

theorem State.pllEn_refused (hfree : s.pllFree k = false) : s.pllEn k false = s.clkRefuse 3 := by simp [State.pllEn, hen, hfree]

theorem State.pllRelock_refused (hfree : s.pllFree k = false) : s.pllRelock k = s.clkRefuse 3 := by simp [State.pllRelock, hen, hfree]

theorem State.pllRelock_accepted (hfree : s.pllFree k = true) : s.pllRelock k = (s.pllQuit k).bandSelect k := by simp [State.pllRelock, hen, hfree]

end

/-- PLL-T, stopped. -/
def State.plltStopped (s : State) : State := (s.wr Reg.PLL_CTRL.EN 0 0).setPllSt 0 0

theorem State.pllEn_stop (hen : s.on Reg.PLL_CTRL.EN 0 = true) (hfree : s.pllFree 0 = true) : ∃ c : ClkS,
    s.pllEn 0 false = { s.plltStopped with clk := c } := by
  simp only [State.pllEn, hen, hfree, Bool.not_true, Bool.false_eq_true, if_false]
  exact ⟨_, rfl⟩

theorem State.plltStopped_spec (s : State) : s.plltStopped.rd Reg.PLL_CTRL.EN 0 = 0 ∧ s.plltStopped.rd Reg.PLL_STAT.STATE 0 = 0 ∧
    s.plltStopped.rd Reg.PLL_STAT.LOCK 0 = 0 ∧ OnlyClk s s.plltStopped [Reg.PLL_CTRL.EN.key 0 0, Reg.PLL_STAT.STATE.key 0 0, Reg.PLL_STAT.LOCK.key 0 0] := by
  refine ⟨?_, State.rd_state_setPllSt _ _ _, State.rd_lock_setPllSt _ _ _, ((OnlyClk.refl s _).wr2 (by simp)).setPllSt (by simp) (by simp) 0⟩
  simp (disch := decide) only [State.plltStopped, State.setPllSt, State.wr_eq, State.rd_wr2_same, State.rd_wr2_of_place]
  rfl

/-! ## Band selection (R381, R401) -/

theorem exec_bandTryTimeout {k : Fin 3} (hp : s.present islCLK = true) (hst : s.pllSt k.val = 2) (hcand : (s.pll k.val).cand ≠ [])
    (hdue : (s.pll k.val).since + 210000 ≤ s.now) : exec (.bandTryTimeout k) s = .next (s.bandTry k.val (s.pll k.val).cand.tail) :=
  congrArg Host.Outcome.next (if_pos ⟨hp, .inr hst, hcand, hdue⟩)

theorem exec_bandTryTimeout_none {k : Fin 3} (hcand : (s.pll k.val).cand = []) : exec (.bandTryTimeout k) s = .next s :=
  congrArg Host.Outcome.next (if_neg fun h => h.2.2.1 hcand)

theorem State.bandTry_cons_spec (s : State) (k : Nat) {i code : Nat} (rest : List (Nat × Nat)) (hi : i < 32) (hcode : code < 64) {t : State}
    (ht : t = s.bandTry k ((i, code) :: rest)) : t.rd Reg.PLL_STAT.ENTRY k = i ∧ t.rd Reg.PLL_STAT.BAND k = code ∧ t.rd Reg.PLL_STAT.STATE k = 1 ∧
      t.rd Reg.PLL_STAT.LOCK k = 0 ∧ (t.pll k).since = s.now := by
  subst ht
  refine ⟨?_, ?_, ?_, ?_, congrArg PllS.since (State.pll_setPll_same _ k _)⟩
  · rw [State.bandTry, State.rd_setPll, State.rd_setPllSt (by decide), State.rd_wr_of_lo (by decide), State.rd_wr_of_lt hi]
  · rw [State.bandTry, State.rd_setPll, State.rd_setPllSt (by decide), State.rd_wr_of_lt hcode]
  · rw [State.bandTry, State.rd_setPll, State.rd_state_setPllSt]
  · rw [State.bandTry, State.rd_setPll, State.rd_lock_setPllSt]
    rfl

theorem State.clk_logEv (s : State) (code src : Nat) (data : List Nat) : (s.logEv code src data).clk = s.clk := by
  unfold State.logEv
  split
  · rfl
  split
  · rfl
  split <;> rfl

/-- A record under a condition changes neither the registers outside Alder nor clock control. -/
theorem State.logIf_frame (s : State) (c : Bool) (code src : Nat) (data : State → List Nat) :
    RegsBut s (s.onlyIf c fun t => t.logEv code src (data t)) logKeys ∧ (s.onlyIf c fun t => t.logEv code src (data t)).clk = s.clk := by
  cases c
  · exact ⟨RegsBut.refl s _, rfl⟩
  · exact ⟨s.regsBut_logEv code src _, s.clk_logEv code src _⟩

theorem pllStat_not_mem_logKeys (k : Fin 3) : Reg.PLL_STAT.STATE.key k.val 0 ∉ logKeys ∧ Reg.PLL_STAT.LOCK.key k.val 0 ∉ logKeys := by
  decide +revert

/-- A loop with no entry left, before the record. -/
def State.bandFailed (s : State) (k : Nat) : State :=
  ((s.setPllSt k 0).flag Reg.CLK_EVT.BAND_ERR 0).setPll k { s.pll k with cand := [], fails := (s.pll k).fails + 1, errAt := some s.now }

theorem State.bandErr_eq (s : State) (k : Nat) : ∃ (c : Bool) (data : State → List Nat),
    s.bandErr k = (s.bandFailed k).onlyIf c fun t => t.logEv 0x000E k (data t) :=
  ⟨((s.pll k).fails + 1) % 100 == 1, fun t => leBytes 4 (t.regWord Reg.CLK_EVT.CFG_ERR 0) ++ leBytes 4 (t.regWord Reg.PLL_STAT.STATE k) ++
    leBytes 4 ((s.pll k).fails + 1), rfl⟩

theorem State.bandErr_spec (s : State) (k : Fin 3) : (s.bandErr k.val).rd Reg.PLL_STAT.STATE k.val = 0 ∧ (s.bandErr k.val).rd Reg.PLL_STAT.LOCK k.val = 0 ∧
    (s.bandErr k.val).rd Reg.CLK_EVT.BAND_ERR = 1 ∧ ((s.bandErr k.val).pll k.val).errAt = some s.now := by
  obtain ⟨c, data, heq⟩ := s.bandErr_eq k.val
  obtain ⟨hregs, hclk⟩ := (s.bandFailed k.val).logIf_frame c 0x000E k.val data
  obtain ⟨hState, hLock⟩ := pllStat_not_mem_logKeys k
  rw [← heq] at hregs hclk
  refine ⟨(hregs.rd_eq hState).trans ?_, (hregs.rd_eq hLock).trans ?_, (hregs.rd_eq (by decide)).trans ?_, ?_⟩
  · rw [State.bandFailed, State.rd_setPll, State.flag, State.rd_wr_of_lo (by decide), State.rd_state_setPllSt]
  · rw [State.bandFailed, State.rd_setPll, State.flag, State.rd_wr_of_lo (by decide), State.rd_lock_setPllSt]
    rfl
  · rw [State.bandFailed, State.rd_setPll, State.rd_flag rfl]
  · rw [State.pll, hclk]
    exact congrArg PllS.errAt (State.pll_setPll_same _ _ _)

theorem exec_bandSelectionRetry {k : Fin 3} {t : Nat} (h : (s.pll k.val).errAt = some t) (hp : s.present islCLK = true) (hald : s.present islALD = true)
    (hst : s.pllSt k.val = 0) (hdue : t + 50000000 ≤ s.now) : exec (.bandSelectionRetry k) s = .next (s.pllRelock k.val) := by
  simp [exec, execBandSelectionRetry, h, hp, hald, hst, hdue]

theorem exec_bandSelectionRetry_early {k : Fin 3} {t : Nat} (h : (s.pll k.val).errAt = some t) (hearly : s.now < t + 50000000) :
    exec (.bandSelectionRetry k) s = .next s := by
  have hdue : ¬ t + 50000000 ≤ s.now := by omega
  simp [exec, execBandSelectionRetry, h, hdue]

/-! ## Lock and its loss (R382, R383) -/

section
variable (hp : s.present islCLK = true)
include hp

theorem exec_pllLock_plls (hen : s.rd Reg.PLL_CTRL.EN 1 = 1) (href : s.pllRefOk 1 = true) (hst : s.pllSt 1 = 2 ∨ s.pllSt 1 = 6) :
    exec (.pllLock 1) s = .next ((s.setPllSt 1 3).setPll 1 { s.pll 1 with cand := [], lockAt := s.now, closed := false, step := false, fails := 0
                                                                          lfsr := s.rd Reg.PLL_DITH.SEED 1 }) := by
  have hon : s.on Reg.PLL_CTRL.EN 1 = true := State.on_iff.2 hen
  rcases hst with hst | hst <;> simp [exec, execPllLock, hp, hon, href, hst]

theorem exec_pllUnlock {k : Fin 3} (hst : s.pllSt k.val = 3) : exec (.pllUnlock k) s = .next (s.pllLoss k.val) := by
  simp [exec, execPllUnlock, hp, hst]

theorem exec_pllsReturn (hst : s.pllSt 1 = 3) (hon : s.clk.sOn = false) (hdue : (s.pll 1).lockAt + 500000 ≤ s.now) :
    exec .pllsReturn s = .next (({ s with clk := { s.clk with sOn := true } } : State).flag Reg.CLK_EVT.S_RETURN 0) := by
  simp [exec, execPllsReturn, hp, hst, hon, hdue]

end

theorem exec_pllsReturn_idle (h : s.pllSt 1 ≠ 3 ∨ s.clk.sOn = true ∨ s.now < (s.pll 1).lockAt + 500000) : exec .pllsReturn s = .next s := by
  refine congrArg Host.Outcome.next (if_neg ?_)
  rintro ⟨-, hst, hon, hdue⟩
  rcases h with h | h | h
  · exact h hst
  · simp [h] at hon
  · omega

/-- PLL-T coasts. -/
theorem State.pllLoss_pllt (hst : s.pllSt 0 = 3) : ∃ r, s.pllLoss 0 =
    ((((s.setPllSt 0 4).wr Reg.PLL_PHERR.FOFS 0 0).setPll 0 r).flag Reg.CLK_EVT.T_COAST 0) := by
  simp only [State.pllLoss, hst, true_or, if_true]
  exact ⟨_, rfl⟩

theorem State.pllLoss_pllt_spec (hst : s.pllSt 0 = 3) : (s.pllLoss 0).rd Reg.PLL_STAT.STATE 0 = 4 ∧ (s.pllLoss 0).rd Reg.PLL_STAT.LOCK 0 = 0 ∧
    (s.pllLoss 0).rd Reg.CLK_EVT.T_COAST = 1 ∧ (s.pllLoss 0).rd Reg.PLL_PHERR.FOFS 0 = 0 ∧
    OnlyClk s (s.pllLoss 0) [Reg.PLL_STAT.STATE.key 0 0, Reg.PLL_STAT.LOCK.key 0 0, Reg.PLL_PHERR.FOFS.key 0 0, Reg.CLK_EVT.T_COAST.key 0 0] := by
  obtain ⟨r, hr⟩ := State.pllLoss_pllt hst
  rw [hr]
  refine ⟨?_, ?_, State.rd_flag rfl, ?_, ((((OnlyClk.refl s _).setPllSt (by simp) (by simp) 4).wr2 (by simp)).setPll 0 r).wr2 (by simp)⟩
  · rw [State.flag, State.rd_wr_ne (by decide), State.rd_setPll, State.rd_wr_of_lo (by decide), State.rd_state_setPllSt]
  · rw [State.flag, State.rd_wr_of_lo (by decide), State.rd_setPll, State.rd_wr_of_lo (by decide), State.rd_lock_setPllSt]
    rfl
  · rw [State.flag, State.rd_wr_of_lo (by decide), State.rd_setPll, State.rd_wr_of_lt (by decide)]

theorem State.pllLoss_plls (hst : s.pllSt 1 = 3) : s.pllLoss 1 = (s.setPllSt 1 6).toBypass := by
  simp only [State.pllLoss, hst, or_true, if_true]

theorem State.toBypass_off (h : s.clk.sOn = false) : s.toBypass = s := if_neg (by simp [h])

/-! ## The return of PLL-T (R385, R386) -/

section
variable {e : BitVec 16} (hp : s.present islCLK = true) (hst : s.pllSt 0 = 5) (hclosed : (s.pll 0).closed = false)
include hp hst hclosed

theorem exec_slewDone (hstep : (s.pll 0).step = false) : exec (.slewDone e) s = .next (
    if e.toInt.natAbs ≤ 16 then ((s.wrI Reg.PLL_PHERR.PH_ERR 0 e.toInt).wr Reg.PLL_PHERR.FOFS 0 0).setPll 0 { s.pll 0 with closed := true }
    else s.wrI Reg.PLL_PHERR.PH_ERR 0 e.toInt) :=
  congrArg Host.Outcome.next (if_pos ⟨hp, hst, by rw [hstep]; rfl, by rw [hclosed]; rfl⟩)

theorem exec_tickStretch (hstep : (s.pll 0).step = true) (htb : s.tbRunning (s.rd Reg.PLL_CTRL.STEP_TB 0) = false) : ∃ t, exec (.tickStretch e) s = .next t ∧
    (t.pll 0).closed = true ∧ t.clk.stretch = some (s.now, stretchOf e.toInt) ∧
    t = { (s.wrI Reg.PLL_PHERR.PH_ERR 0 e.toInt).flag Reg.CLK_EVT.T_STEP 0 with clk := t.clk } := by
  have hgo : exec (.tickStretch e) s = _ := congrArg Host.Outcome.next (if_pos ⟨hp, hst, hstep, by rw [hclosed]; rfl, by rw [htb]; rfl⟩)
  exact ⟨_, hgo, congrArg PllS.closed (State.pll_setPll_same _ 0 _), rfl, rfl⟩

end

theorem exec_tickStretch_slew {e : BitVec 16} (h : (s.pll 0).step = false) : exec (.tickStretch e) s = .next s := by
  refine congrArg Host.Outcome.next (if_neg ?_)
  rintro ⟨-, -, hstep, -⟩
  simp [h] at hstep

end

end Sys2Proof.Machine

open Sys2Proof Sys2Proof.Machine

/-! ## The obligation -/

/-- Settles O32, command by command. -/
theorem clockReferences : Obligations.ClockReferences := by
  refine ⟨fun src e s hp => ⟨fun hloc => ?lost, fun hloc hsel hother => ?switch, fun hloc hother => ?dark⟩, fun src e s hp hbit hloc hused => ?valid,
    fun m v e s hr => ⟨fun hv hbit => ?selRefused, fun h => ?sel⟩, fun t s hw => ⟨fun hp hdue hloc hok => ?wait, fun hp hdue h => ?waitNone,
    fun h => exec_crystalWaitExpiry_early hw h⟩, fun m k s hrEn hrRe hen => ?enable, fun k i code i0 rest s hp hst hdue => ?band,
    fun k t s h => ⟨fun hp hald hst hdue => exec_bandSelectionRetry h hp hald hst hdue, fun hearly => exec_bandSelectionRetry_early h hearly⟩,
    fun s hp => ?lock, fun e s hp hst hclosed => ?back⟩
  case lost =>
    refine ⟨_, exec_refLost hp, ?_⟩
    rw [State.localLost_unused hloc]
    exact ⟨s.rd_refBit_refGone _, State.rd_flag rfl, ((OnlyRegs.refl s _).wr2 (by simp)).wr2 (by simp)⟩
  case switch => rw [exec_refLost hp, State.localLost_switch hloc hsel hother, State.refGone]
  case dark => rw [exec_refLost hp, State.localLost_dark hloc hother, State.refGone]
  case valid =>
    obtain ⟨hlo, hw⟩ := refBit_place (src.val + 1)
    refine ⟨_, exec_refValid hp, ?_⟩
    rw [State.localValid_unused hbit hloc hused]
    refine ⟨?_, State.rd_flag rfl, ((OnlyRegs.refl s _).wr2 (by simp)).wr2 (by simp)⟩
    rw [State.flag, State.rd_wr_of_lo (by simp only [Reg.CLK_EVT.REF_BACK]; omega), State.rd_wr_of_lt (by rw [hw]; decide)]
  case selRefused =>
    refine ⟨_, exec_localSel hr, ?_⟩
    rw [State.clkLocalSel_refused (by omega) hbit]
    exact s.clkRefuse_spec (by decide) m
  case sel =>
    have hsel : s.clkLocalSel v.val e.toInt = s.wr Reg.CLK_REF.LOCAL_SEL 0 v.val := by
      rcases h with rfl | rfl | ⟨hbit, hloc⟩
      · exact State.clkLocalSel_free (.inl rfl)
      · exact State.clkLocalSel_free (.inr rfl)
      · exact State.clkLocalSel_inUse hbit hloc
    refine ⟨_, exec_localSel hr, ?_⟩
    rw [hsel]
    exact ⟨State.rd_wr_of_lt v.isLt, ((OnlyRegs.refl s _).wr2 (by simp)).setResp⟩
  case wait =>
    rw [exec_crystalWaitExpiry_due hw hp hdue, hloc, State.on_iff.2 hok]
    rfl
  case waitNone =>
    rw [exec_crystalWaitExpiry_due hw hp hdue]
    rcases h with h | h
    · rw [beq_eq_false_iff_ne.2 h, Bool.false_and, State.onlyIf_false]
    · rw [State.on_false_iff.2 (by omega), Bool.and_false, State.onlyIf_false]
  case enable =>
    have hon : s.on Reg.PLL_CTRL.EN k.val = true := State.on_iff.2 hen
    refine ⟨fun hfree => ?_, fun hfree => ?_, ?_, fun hk hfree => ?_⟩
    · refine ⟨(s.clkRefuse 3).ack m, ?_, ?_, s.clkRefuse_spec (by decide) m⟩
      · rw [exec_pllEnable hrEn, State.pllEn_refused hon hfree]
      · rw [exec_relock hrRe, State.pllRelock_refused hon hfree]
    · rw [exec_relock hrRe, State.pllRelock_accepted hon hfree]
    · rw [exec_pllEnable hrEn, State.pllEn_again hon]
    · subst hk
      obtain ⟨c, hc⟩ := State.pllEn_stop hon hfree
      obtain ⟨hEN, hState, hLock, hframe⟩ := s.plltStopped_spec
      refine ⟨_, exec_pllEnable hrEn, ?_⟩
      rw [show (0 : Fin 3).val = 0 from rfl, hc]
      exact ⟨hEN, hState, hLock, (hframe.setClk c).setResp.frame⟩
  case band =>
    refine ⟨fun hcand hi hcode => ?_, fun hcand => ?_, exec_bandTryTimeout_none⟩
    · refine ⟨_, exec_bandTryTimeout hp hst (by rw [hcand]; simp) hdue, s.bandTry_cons_spec k.val rest hi hcode ?_⟩
      rw [hcand, List.tail_cons]
    · refine ⟨_, exec_bandTryTimeout hp hst (by rw [hcand]; simp) hdue, ?_⟩
      rw [hcand, List.tail_cons]
      exact s.bandErr_spec k
  case lock =>
    refine ⟨fun hen href hst => ⟨_, exec_pllLock_plls hp hen href hst, s.rd_state_setPllSt 1 3, s.rd_lock_setPllSt 1 3,
      congrArg PllS.lockAt (State.pll_setPll_same _ 1 _), (((OnlyClk.refl s _).setPllSt (by simp) (by simp) 3).setPll 1 _).frame⟩,
      fun hst => ⟨_, exec_pllUnlock (k := 0) hp hst, State.pllLoss_pllt_spec hst⟩, fun hst hoff => ?_, fun hst hon => ?_,
      fun hst hoff hdue => ⟨_, exec_pllsReturn hp hst hoff hdue, rfl, State.rd_flag rfl⟩, exec_pllsReturn_idle⟩
    · refine ⟨_, exec_pllUnlock (k := 1) hp hst, ?_⟩
      rw [show (1 : Fin 3).val = 1 from rfl, State.pllLoss_plls hst, State.toBypass_off (s := s.setPllSt 1 6) hoff]
      exact ⟨State.rd_state_setPllSt _ _ _, State.rd_lock_setPllSt _ _ _, (OnlyRegs.refl s _).setPllSt (by simp) (by simp) 6⟩
    · rw [exec_pllUnlock (k := 1) hp hst]
      exact congrArg Host.Outcome.next (State.pllLoss_plls hst)
  case back =>
    refine ⟨fun hstep he => ?_, fun hstep he => ?_, fun hstep htb => ?_, exec_tickStretch_slew⟩
    · rw [exec_slewDone hp hst hclosed hstep, if_pos he]
      refine ⟨_, rfl, State.rd_wr_of_lt (s := s.wrI Reg.PLL_PHERR.PH_ERR 0 e.toInt) (f := Reg.PLL_PHERR.FOFS)
        (v := 0) (by decide), ?_, congrArg PllS.closed (State.pll_setPll_same _ 0 _),
        (((OnlyClk.refl s _).wr2 (by simp)).wr2 (by simp)).setPll 0 _⟩
      rw [State.rd_setPll, State.rd_wr_of_lo (by decide), State.rd_wrI_toInt rfl]
    · rw [exec_slewDone hp hst hclosed hstep, if_neg (by omega)]
      exact ⟨_, rfl, State.rd_wrI_toInt rfl e, (OnlyRegs.refl s _).wr2 (by simp)⟩
    · obtain ⟨t, ht, hcl, hstretch, heq⟩ := exec_tickStretch (e := e) hp hst hclosed hstep htb
      have hframe : OnlyClk s t [Reg.PLL_PHERR.PH_ERR.key 0 0, Reg.CLK_EVT.T_STEP.key 0 0] := by
        rw [heq]
        exact (((OnlyClk.refl s _).wr2 (by simp)).wr2 (by simp)).setClk t.clk
      refine ⟨t, ht, ?_, ?_, hcl, hstretch, hframe.frame⟩
      · rw [heq]
        exact State.rd_flag rfl
      · rw [heq]
        exact (State.rd_wr_of_lo (s := s.wrI Reg.PLL_PHERR.PH_ERR 0 e.toInt) (g := Reg.PLL_PHERR.PH_ERR) (f := Reg.CLK_EVT.T_STEP) (i := 0) (v := 1)
          (by decide)).trans (State.rd_wrI_toInt rfl e)
end

section
/-! PROOFS. The statement of spec/17_power_and_clay.md on the supplies: inputs, starts and wakes, the shutdown request and Clay. -/

namespace Sys2Proof.Machine

/-! ## Fields and bytes that a filter of their map drops -/

/-- Dropping entries by their keys resets what lies under those keys and nothing else. -/
theorem SMap.get_filter_key {α : Type} (d : α) (p : Nat → Bool) (m : SMap α) (x : Nat) :
    SMap.get d (m.filter fun e => p e.1) x = if p x then SMap.get d m x else d := by
  induction m with
  | nil => simp [SMap.get]
  | cons a l ih =>
    obtain ⟨k, v⟩ := a
    by_cases hk : k = x
    · subst hk
      cases hp : p k <;> simp [hp, SMap.get, ih]
    · cases hp : p k <;> simp [hp, SMap.get, hk, ih]

/-- A field that a reset selects reads its reset value. -/
theorem State.rd_resetFields {s : State} {sel : FD → Nat → Nat → Bool} {f : FD} {i j : Nat} (hf : fieldOfKey (f.key i j) = some (f, i, j))
    (hsel : sel f i j = true) :
    (s.resetFields sel).rd f i j = f.rst i j := by
  refine (SMap.get_filter_key (f.rst i j) (fun k => match fieldOfKey k with | some (f, i, j) => !sel f i j | none => true) s.regs (f.key i j)).trans ?_
  simp only [hf, hsel, Bool.not_true, Bool.false_eq_true, if_false]

theorem State.byte_zeroMem (s : State) (a n x : Nat) : (s.zeroMem a n).byte x = if a ≤ x ∧ x < a + n then 0 else s.byte x := by
  have h := SMap.get_filter_key (0 : BitVec 8) (fun k => !(decide (a ≤ k) && decide (k < a + n))) s.mem x
  rw [State.byte, State.zeroMem, h]
  by_cases hx : a ≤ x ∧ x < a + n
  · simp [hx]
  · have : (!(decide (a ≤ x) && decide (x < a + n))) = true := by simp only [Bool.not_eq_true', Bool.and_eq_false_iff, decide_eq_false_iff_not]; omega
    rw [if_pos this, if_neg hx]
    rfl

/-! ## Frames with the record of the supplies -/

/-- Nothing differs but the fields under the listed keys, the answers to the bus masters, and what the supplies keep behind their registers. -/
def OnlyPwr (s t : State) (ks : List Nat) : Prop := OnlyRegs s { t with pwr := s.pwr } ks

section
variable {s t u : State} {ks : List Nat}

theorem OnlyRegs.trans (h : OnlyRegs s t ks) (h' : OnlyRegs t u ks) : OnlyRegs s u ks :=
  ⟨h.regs.trans h'.regs, (congrArg (fun v : State => { v with regs := s.regs, resp := s.resp }) h'.rest).trans h.rest⟩

theorem OnlyRegs.pwr_eq (h : OnlyRegs s t ks) : t.pwr = s.pwr := by
  have := congrArg State.pwr h.rest
  exact this

theorem OnlyRegs.onlyPwr (h : OnlyRegs s t ks) (p : PwrS) : OnlyPwr s { t with pwr := p } ks :=
  ⟨h.regs.of_eq rfl, congrArg (fun v : State => { v with pwr := s.pwr }) h.rest⟩

theorem OnlyPwr.wr2 (h : OnlyPwr s t ks) {f : FD} {i j v : Nat} (hk : f.key i j ∈ ks) : OnlyPwr s (t.wr2 f i j v) ks := OnlyRegs.wr2 h hk

/-- The frame as the statements give it. -/
theorem OnlyPwr.frame (h : OnlyPwr s t ks) : OnlyRegs s { t with pwr := s.pwr } ks := h

end

section
variable {s : State}

/-! ## The input that carries the load (R393) -/

/-- The input that the load goes to. -/
def State.source (s : State) : Nat :=
  if s.on Reg.PWR_STATUS.VLV_OK && s.on Reg.PWR_STATUS.HVA_OK then s.rd Reg.PWR_CTRL.PREF
  else if s.on Reg.PWR_STATUS.HVA_OK then 1 else if s.on Reg.PWR_STATUS.VLV_OK then 0 else s.rd Reg.PWR_STATUS.SRC

theorem State.source_both (hv : s.rd Reg.PWR_STATUS.VLV_OK = 1) (hh : s.rd Reg.PWR_STATUS.HVA_OK = 1) : s.source = s.rd Reg.PWR_CTRL.PREF := by
  simp [State.source, State.on_eq, hv, hh]

theorem State.source_hva (hv : s.rd Reg.PWR_STATUS.VLV_OK ≠ 1) (hh : s.rd Reg.PWR_STATUS.HVA_OK = 1) : s.source = 1 := by
  simp [State.source, State.on_eq, hv, hh]

theorem State.source_vlv (hv : s.rd Reg.PWR_STATUS.VLV_OK = 1) (hh : s.rd Reg.PWR_STATUS.HVA_OK ≠ 1) : s.source = 0 := by
  simp [State.source, State.on_eq, hv, hh]

theorem State.pickSource_eq (s : State) (had : Bool) : s.pickSource had =
    (s.wr Reg.PWR_STATUS.SRC 0 s.source).onlyIf (had && s.source != s.rd Reg.PWR_STATUS.SRC) (·.flag Reg.PWR_EVT.SRC_CHG 0) := rfl

/-- The fields that a choice of the input writes. -/
def sourceKeys : List Nat := [Reg.PWR_STATUS.SRC.key 0 0, Reg.PWR_EVT.SRC_CHG.key 0 0]

theorem OnlyRegs.pickSource {t : State} {ks : List Nat} (h : OnlyRegs s t ks) (had : Bool) (hks : sourceKeys ⊆ ks) : OnlyRegs s (t.pickSource had) ks := by
  rw [State.pickSource_eq]
  cases had && t.source != t.rd Reg.PWR_STATUS.SRC
  · exact h.wr2 (hks (by simp [sourceKeys]))
  · exact (h.wr2 (hks (by simp [sourceKeys]))).wr2 (hks (by simp [sourceKeys]))

theorem State.rd_pickSource (had : Bool) {g : FD} {i j : Nat} (hg : g.key i j ∉ sourceKeys) : (s.pickSource had).rd g i j = s.rd g i j :=
  ((OnlyRegs.refl s sourceKeys).pickSource had (List.Subset.refl _)).regs.rd_eq hg

@[simp] theorem State.pwr_pickSource (s : State) (had : Bool) : (s.pickSource had).pwr = s.pwr :=
  ((OnlyRegs.refl s sourceKeys).pickSource had (List.Subset.refl _)).pwr_eq

theorem State.rd_src_pickSource (had : Bool) (h : s.source < 2) : (s.pickSource had).rd Reg.PWR_STATUS.SRC = s.source := by
  rw [State.pickSource_eq]
  exact (State.rd_onlyIf_wr_ne (by decide)).trans (State.rd_wr_of_lt h)

/-- A load that moves is reported. -/
theorem State.rd_srcChg_pickSource (h : s.source ≠ s.rd Reg.PWR_STATUS.SRC) : (s.pickSource true).rd Reg.PWR_EVT.SRC_CHG = 1 := by
  rw [State.pickSource_eq, bne_iff_ne.2 h]
  exact State.rd_flag rfl

/-! ## Inputs that become present (R392, R411) -/

theorem State.supplyRise_run {f : FD} {hva : Bool} (h : s.pwr.mode = 0) : s.supplyRise f hva = s.flag f 0 := by simp [State.supplyRise, h]

theorem State.supplyRise_hibernating_vlv {f : FD} (h : s.pwr.mode = 1) : s.supplyRise f false = { s with pwr := { s.pwr with riseV := true } } := by
  simp [State.supplyRise, h]

theorem State.supplyRise_hibernating_hva {f : FD} (h : s.pwr.mode = 1) : s.supplyRise f true = { s with pwr := { s.pwr with riseH := true } } := by
  simp [State.supplyRise, h]

theorem State.supplyRise_off {f : FD} {hva : Bool} (h : s.pwr.mode = 2) : s.supplyRise f hva = (s.powerStart 6).flag f 0 := by simp [State.supplyRise, h]

theorem State.supplyRise_discharge {f : FD} {hva : Bool} (h : s.pwr.mode = 3) : s.supplyRise f hva = s.dischargeStart.flag f 0 := by
  simp [State.supplyRise, h]

theorem State.supplyRise_nothing {f : FD} {hva : Bool} (h : s.pwr.mode = 4) : s.supplyRise f hva = (s.coldStart.powerStart 6).flag f 0 := by
  simp [State.supplyRise, h]

/-- LV_LOST and the interrupt that its change raises. -/
theorem OnlyRegs.rowStatus {t : State} {ks : List Nat} (h : OnlyRegs s t ks) {f : FD} (v : Nat) (hf : f.key 0 0 ∈ ks)
    (hpend : Reg.CPX_IRQ_PEND.PEND.key 1 0 ∈ ks) :
    OnlyRegs s (t.rowStatus f v) ks := by
  unfold State.rowStatus
  split
  · exact h
  · exact (h.wr2 hf).wr2 hpend

theorem State.rd_rowStatus_same {f : FD} {v : Nat} (hf : f.key 0 0 ≠ Reg.CPX_IRQ_PEND.PEND.key 1 0) (hv : v < 2 ^ f.w) : (s.rowStatus f v).rd f = v := by
  unfold State.rowStatus
  split
  case isTrue h => exact h
  case isFalse => exact (State.rd_wr_ne hf).trans (State.rd_wr_of_lt hv)

/-- VLV is present. -/
def State.vlvPresent (s : State) : State := ((s.wr Reg.PWR_STATUS.VLV_OK 0 1).wr Reg.PWR_STATUS.VLV_OVR 0 0).rowStatus Reg.ROW_STATUS.LV_LOST 0

/-- The fields of VLV. -/
def vlvKeys : List Nat :=
  [Reg.PWR_STATUS.VLV_OK.key 0 0, Reg.PWR_STATUS.VLV_OVR.key 0 0, Reg.ROW_STATUS.LV_LOST.key 0 0, Reg.CPX_IRQ_PEND.PEND.key 1 0]

theorem OnlyRegs.vlvPresent {ks : List Nat} (hks : vlvKeys ⊆ ks) : OnlyRegs s s.vlvPresent ks :=
  (((OnlyRegs.refl s ks).wr2 (hks (by simp [vlvKeys]))).wr2 (hks (by simp [vlvKeys]))).rowStatus 0 (hks (by simp [vlvKeys])) (hks (by simp [vlvKeys]))

theorem State.vlvPresent_spec (s : State) : s.vlvPresent.rd Reg.PWR_STATUS.VLV_OK = 1 ∧ s.vlvPresent.rd Reg.PWR_STATUS.VLV_OVR = 0 ∧
    s.vlvPresent.rd Reg.ROW_STATUS.LV_LOST = 0 ∧ s.vlvPresent.pwr = s.pwr := by
  have hrow : OnlyRegs ((s.wr Reg.PWR_STATUS.VLV_OK 0 1).wr Reg.PWR_STATUS.VLV_OVR 0 0) s.vlvPresent
      [Reg.ROW_STATUS.LV_LOST.key 0 0, Reg.CPX_IRQ_PEND.PEND.key 1 0] := (OnlyRegs.refl _ _).rowStatus 0 (by simp) (by simp)
  refine ⟨(hrow.regs.rd_eq (by decide)).trans ?_, (hrow.regs.rd_eq (by decide)).trans ?_, State.rd_rowStatus_same (by decide) (by decide), hrow.pwr_eq⟩
  · rw [State.rd_wr_of_lo (by decide), State.rd_wr_of_lt (by decide)]
  · rw [State.rd_wr_of_lt (by decide)]

/-- VLV is present and the load goes to the chosen input. -/
def State.vlvRisen (s : State) : State := s.vlvPresent.pickSource s.fed

theorem OnlyRegs.vlvRisen {ks : List Nat} (hks : vlvKeys ++ sourceKeys ⊆ ks) : OnlyRegs s s.vlvRisen ks :=
  (OnlyRegs.vlvPresent fun _ hk => hks (List.mem_append_left _ hk)).pickSource _ fun _ hk => hks (List.mem_append_right _ hk)

theorem State.rd_hvaOk_vlvPresent (s : State) : s.vlvPresent.rd Reg.PWR_STATUS.HVA_OK = s.rd Reg.PWR_STATUS.HVA_OK :=
  (OnlyRegs.vlvPresent (List.Subset.refl _)).regs.rd_eq (by decide)

theorem State.rd_pref_vlvPresent (s : State) : s.vlvPresent.rd Reg.PWR_CTRL.PREF = s.rd Reg.PWR_CTRL.PREF :=
  (OnlyRegs.vlvPresent (List.Subset.refl _)).regs.rd_eq (by decide)

theorem State.vlvRisen_spec (s : State) : s.vlvRisen.rd Reg.PWR_STATUS.VLV_OK = 1 ∧ s.vlvRisen.rd Reg.PWR_STATUS.VLV_OVR = 0 ∧
    s.vlvRisen.rd Reg.ROW_STATUS.LV_LOST = 0 ∧ s.vlvRisen.pwr = s.pwr ∧ (s.on Reg.PWR_STATUS.HVA_OK = false → s.vlvRisen.rd Reg.PWR_STATUS.SRC = 0) ∧
    (s.on Reg.PWR_STATUS.HVA_OK = true → s.rd Reg.PWR_CTRL.PREF < 2 → s.vlvRisen.rd Reg.PWR_STATUS.SRC = s.rd Reg.PWR_CTRL.PREF) := by
  obtain ⟨hOk, hOvr, hLost, hpwr⟩ := s.vlvPresent_spec
  refine ⟨(State.rd_pickSource _ (by decide)).trans hOk, (State.rd_pickSource _ (by decide)).trans hOvr, (State.rd_pickSource _ (by decide)).trans hLost,
    (State.pwr_pickSource _ _).trans hpwr, fun hoff => ?_, fun hon hpref => ?_⟩
  · have hsrc : s.vlvPresent.source = 0 := State.source_vlv hOk (by rw [State.rd_hvaOk_vlvPresent]; exact State.on_false_iff.1 hoff)
    exact (State.rd_src_pickSource _ (by omega)).trans hsrc
  · have hsrc : s.vlvPresent.source = s.rd Reg.PWR_CTRL.PREF :=
      (State.source_both hOk (s.rd_hvaOk_vlvPresent.trans (State.on_iff.1 hon))).trans s.rd_pref_vlvPresent
    exact (State.rd_src_pickSource _ (by omega)).trans hsrc

theorem exec_vlvRise (h : s.on Reg.PWR_STATUS.VLV_OK = false) : exec .vlvRise s = .next (s.vlvRisen.supplyRise Reg.PWR_EVT.VLV_RISE false) :=
  congrArg Host.Outcome.next (if_neg (by simp [h]))

/-- HVA is present. -/
def State.hvaPresent (s : State) (ac : Bool) : State := (s.wr Reg.PWR_STATUS.HVA_OK 0 1).wr Reg.PWR_STATUS.HVA_AC 0 (b2n ac)

/-- HVA is present and the load goes to the chosen input. -/
def State.hvaRisen (s : State) (ac : Bool) : State := (s.hvaPresent ac).pickSource s.fed

theorem OnlyRegs.hvaRisen {ac : Bool} {ks : List Nat} (hok : Reg.PWR_STATUS.HVA_OK.key 0 0 ∈ ks) (hac : Reg.PWR_STATUS.HVA_AC.key 0 0 ∈ ks)
    (hks : sourceKeys ⊆ ks) :
    OnlyRegs s (s.hvaRisen ac) ks := (((OnlyRegs.refl s ks).wr2 hok).wr2 hac).pickSource _ hks

theorem State.rd_hvaRisen {ac : Bool} {g : FD} {i : Nat} (h : g.lo % 32 ≠ 2 ∧ g.lo % 32 ≠ 3 ∧ g.lo % 32 ≠ 4) : (s.hvaRisen ac).rd g i = s.rd g i := by
  obtain ⟨h2, h3, h4⟩ := h
  have hkey : g.key i 0 ∉ sourceKeys := by
    simp only [sourceKeys, List.mem_cons, List.not_mem_nil, or_false]
    rintro (h | h)
    · exact FD.key_ne_of_lo (f := Reg.PWR_STATUS.SRC) h4 h
    · exact FD.key_ne_of_lo (f := Reg.PWR_EVT.SRC_CHG) h4 h
  rw [State.hvaRisen, State.rd_pickSource _ hkey, State.hvaPresent, State.rd_wr_of_lo h3, State.rd_wr_of_lo h2]

theorem State.hvaRisen_spec (s : State) (ac : Bool) : (s.hvaRisen ac).rd Reg.PWR_STATUS.HVA_OK = 1 ∧ (s.hvaRisen ac).rd Reg.PWR_STATUS.HVA_AC = b2n ac ∧
    (s.hvaRisen ac).pwr = s.pwr ∧ (s.on Reg.PWR_STATUS.VLV_OK = false → (s.hvaRisen ac).rd Reg.PWR_STATUS.SRC = 1) ∧
    (s.on Reg.PWR_STATUS.VLV_OK = true → s.rd Reg.PWR_CTRL.PREF < 2 → (s.hvaRisen ac).rd Reg.PWR_STATUS.SRC = s.rd Reg.PWR_CTRL.PREF) := by
  have hOk : (s.hvaPresent ac).rd Reg.PWR_STATUS.HVA_OK = 1 := (State.rd_wr_of_lo (by decide)).trans (State.rd_wr_of_lt (by decide))
  have hAc : (s.hvaPresent ac).rd Reg.PWR_STATUS.HVA_AC = b2n ac := State.rd_wr_of_lt (b2n_lt_two ac)
  have hV : (s.hvaPresent ac).rd Reg.PWR_STATUS.VLV_OK = s.rd Reg.PWR_STATUS.VLV_OK := (State.rd_wr_of_lo (by decide)).trans (State.rd_wr_of_lo (by decide))
  have hP : (s.hvaPresent ac).rd Reg.PWR_CTRL.PREF = s.rd Reg.PWR_CTRL.PREF := (State.rd_wr_of_lo (by decide)).trans (State.rd_wr_of_lo (by decide))
  refine ⟨(State.rd_pickSource _ (by decide)).trans hOk, (State.rd_pickSource _ (by decide)).trans hAc, State.pwr_pickSource _ _, fun hoff => ?_,
    fun hon hpref => ?_⟩
  · have hsrc : (s.hvaPresent ac).source = 1 := State.source_hva (by rw [hV]; exact State.on_false_iff.1 hoff) hOk
    exact (State.rd_src_pickSource _ (by omega)).trans hsrc
  · have hsrc : (s.hvaPresent ac).source = s.rd Reg.PWR_CTRL.PREF := (State.source_both (hV.trans (State.on_iff.1 hon)) hOk).trans hP
    exact (State.rd_src_pickSource _ (by omega)).trans hsrc

theorem exec_hvaRise {ac : Bool} (h : s.on Reg.PWR_STATUS.HVA_OK = false) : exec (.hvaRise ac) s =
    .next (((s.hvaRisen ac).supplyRise Reg.PWR_EVT.HVA_RISE true).onlyIf (s.pwr.mode ≤ 1 && s.on Reg.CLY_WAKE_CFG.EN_HVA) (·.wakeEvent 3)) :=
  congrArg Host.Outcome.next (if_neg (by simp [h]))

theorem exec_hvaRise_asleep {ac : Bool} (h : s.on Reg.PWR_STATUS.HVA_OK = false) (hmode : 2 ≤ s.pwr.mode) :
    exec (.hvaRise ac) s = .next ((s.hvaRisen ac).supplyRise Reg.PWR_EVT.HVA_RISE true) := by
  have hgo : ¬ s.pwr.mode ≤ 1 := by omega
  rw [exec_hvaRise h, decide_eq_false hgo, Bool.false_and, State.onlyIf_false]

/-! ## Wake events (R403, R411) -/

theorem State.wakeEvent_hibernating {c : Nat} (h : s.pwr.mode = 1) : s.wakeEvent c = s.powerStart c := if_pos h

theorem State.wakeEvent_shutdown {c : Nat} (hmode : s.pwr.mode = 0) (hst : s.rd Reg.PWR_STATUS.PWR_STATE = 3) (hnone : s.pwr.wake = none) :
    s.wakeEvent c = { s with pwr := { s.pwr with wake := some c } } := by simp [State.wakeEvent, hmode, hst, hnone]

theorem State.wakeEvent_run {c : Nat} (hmode : s.pwr.mode = 0) (hst : s.rd Reg.PWR_STATUS.PWR_STATE ≠ 3) : s.wakeEvent c = s := by
  simp [State.wakeEvent, hmode, hst]

theorem exec_wakePin {lvl : Bool} (h : s.pwr.mode ≠ 4) : exec (.wakePin lvl) s =
    .next ((s.wr Reg.CLY_STAT.WAKE_LVL 0 (b2n lvl)).onlyIf (lvl && s.on Reg.CLY_WAKE_CFG.EN_PIN) (·.wakeEvent 1)) := by
  have hpin : (s.wr Reg.CLY_STAT.WAKE_LVL 0 (b2n lvl)).on Reg.CLY_WAKE_CFG.EN_PIN = s.on Reg.CLY_WAKE_CFG.EN_PIN := State.on_wr_of_lo (by decide)
  rw [← hpin]
  exact congrArg Host.Outcome.next (if_neg h)

theorem exec_wakeAtMatch (hmode : s.pwr.mode ≠ 4) (hen : s.on Reg.CLY_WAKE_CFG.EN_RTC = true) (hat : s.rd Reg.CLY_CNT.CNT = s.rd Reg.CLY_WAKE_AT.AT) :
    exec .wakeAtMatch s = .next (s.wakeEvent 2) := by
  have hdue : (s.pwr.mode != 4 && s.on Reg.CLY_WAKE_CFG.EN_RTC && s.rd Reg.CLY_CNT.CNT == s.rd Reg.CLY_WAKE_AT.AT) = true := by simp [hmode, hen, hat]
  simp only [exec, execWakeAtMatch, hdue, State.onlyIf_true]

theorem exec_wakeAtMatch_idle (h : s.on Reg.CLY_WAKE_CFG.EN_RTC = false ∨ s.rd Reg.CLY_CNT.CNT ≠ s.rd Reg.CLY_WAKE_AT.AT) :
    exec .wakeAtMatch s = .next s := by
  have hidle : (s.pwr.mode != 4 && s.on Reg.CLY_WAKE_CFG.EN_RTC && s.rd Reg.CLY_CNT.CNT == s.rd Reg.CLY_WAKE_AT.AT) = false := by
    rcases h with h | h <;> simp [h]
  simp only [exec, execWakeAtMatch, hidle, State.onlyIf_false]

/-! ## Inputs that are lost (R392, R394) -/

theorem State.fed_iff : s.fed = true ↔ s.rd Reg.PWR_STATUS.VLV_OK = 1 ∨ s.rd Reg.PWR_STATUS.HVA_OK = 1 := by
  simp [State.fed, State.on_eq]

theorem State.supplyFall_fed {v : Nat} (h : s.fed = true) : s.supplyFall v = s.pickSource true := if_pos h

section
variable {v : Nat} (h : s.fed = false)
include h

theorem State.supplyFall_discharge (hmode : s.pwr.mode = 0) (hv : 40 ≤ v) : s.supplyFall v = s.enterDischarge := by
  simp [State.supplyFall, h, hmode, hv]

theorem State.supplyFall_off (hmode : s.pwr.mode = 0) (hv : v < 40) : s.supplyFall v = s.powerOff 2 := by
  simp [State.supplyFall, h, hmode, Nat.not_le.2 hv]

theorem State.supplyFall_hibernating (hmode : s.pwr.mode = 1) : s.supplyFall v = s.setMode 2 := by simp [State.supplyFall, h, hmode]

end

/-- VLV is lost. -/
def State.vlvLost (s : State) (ovr : Bool) : State :=
  { ((s.wr Reg.PWR_STATUS.VLV_OK 0 0).wr Reg.PWR_STATUS.VLV_OVR 0 (b2n ovr)).flag Reg.PWR_EVT.VLV_FALL 0 with pwr := { s.pwr with vlvAt := s.now } }

theorem exec_vlvFall {ovr : Bool} {vhb : BitVec 16} (h : s.on Reg.PWR_STATUS.VLV_OK = true) :
    exec (.vlvFall ovr vhb) s = .next ((s.vlvLost ovr).supplyFall vhb.toNat) := congrArg Host.Outcome.next (if_neg (by simp [h]))

theorem State.vlvLost_spec (s : State) (ovr : Bool) : (s.vlvLost ovr).rd Reg.PWR_STATUS.VLV_OK = 0 ∧ (s.vlvLost ovr).rd Reg.PWR_STATUS.VLV_OVR = b2n ovr ∧
    (s.vlvLost ovr).rd Reg.PWR_EVT.VLV_FALL = 1 ∧ (s.vlvLost ovr).rd Reg.PWR_STATUS.HVA_OK = s.rd Reg.PWR_STATUS.HVA_OK ∧
    (s.vlvLost ovr).rd Reg.PWR_STATUS.SRC = s.rd Reg.PWR_STATUS.SRC := by
  have hrd (f : FD) : (s.vlvLost ovr).rd f =
    (((s.wr Reg.PWR_STATUS.VLV_OK 0 0).wr Reg.PWR_STATUS.VLV_OVR 0 (b2n ovr)).flag Reg.PWR_EVT.VLV_FALL 0).rd f := rfl
  refine ⟨?_, ?_, ?_, ?_, ?_⟩ <;> rw [hrd]
  · rw [State.flag, State.rd_wr_ne (by decide), State.rd_wr_of_lo (by decide), State.rd_wr_of_lt (by decide)]
  · rw [State.flag, State.rd_wr_of_lo (by decide), State.rd_wr_of_lt (b2n_lt_two ovr)]
  · rw [State.rd_flag rfl]
  · rw [State.flag, State.rd_wr_of_lo (by decide), State.rd_wr_of_lo (by decide), State.rd_wr_of_lo (by decide)]
  · rw [State.flag, State.rd_wr_of_lo (by decide), State.rd_wr_of_lo (by decide), State.rd_wr_of_lo (by decide)]

theorem State.fed_vlvLost (s : State) (ovr : Bool) : (s.vlvLost ovr).fed = s.on Reg.PWR_STATUS.HVA_OK := by
  obtain ⟨hOk, -, -, hH, -⟩ := s.vlvLost_spec ovr
  simp [State.fed, State.on_eq, hOk, hH]

/-- The keys of VLV's loss. -/
def vlvFallKeys : List Nat :=
  [Reg.PWR_STATUS.VLV_OK.key 0 0, Reg.PWR_STATUS.VLV_OVR.key 0 0, Reg.PWR_STATUS.SRC.key 0 0, Reg.PWR_EVT.SRC_CHG.key 0 0, Reg.PWR_EVT.VLV_FALL.key 0 0]

theorem OnlyPwr.vlvLost (s : State) (ovr : Bool) : OnlyPwr s (s.vlvLost ovr) vlvFallKeys :=
  ((((OnlyRegs.refl s _).wr2 (by simp [vlvFallKeys])).wr2 (by simp [vlvFallKeys])).wr2 (by simp [vlvFallKeys])).onlyPwr _

theorem OnlyPwr.pickSource {t : State} {ks : List Nat} (h : OnlyPwr s t ks) (had : Bool) (hks : sourceKeys ⊆ ks) : OnlyPwr s (t.pickSource had) ks := by
  rw [State.pickSource_eq]
  cases had && t.source != t.rd Reg.PWR_STATUS.SRC
  · exact h.wr2 (hks (by simp [sourceKeys]))
  · exact (h.wr2 (hks (by simp [sourceKeys]))).wr2 (hks (by simp [sourceKeys]))

/-- HVA is lost. -/
def State.hvaLost (s : State) : State := ((s.wr Reg.PWR_STATUS.HVA_OK 0 0).wr Reg.PWR_STATUS.HVA_AC 0 0).flag Reg.PWR_EVT.HVA_FALL 0

theorem exec_hvaFall {vhb : BitVec 16} (h : s.on Reg.PWR_STATUS.HVA_OK = true) :
    exec (.hvaFall vhb) s = .next (s.hvaLost.supplyFall vhb.toNat) := congrArg Host.Outcome.next (if_neg (by simp [h]))

theorem State.hvaLost_spec (s : State) : s.hvaLost.rd Reg.PWR_STATUS.HVA_OK = 0 ∧ s.hvaLost.rd Reg.PWR_STATUS.HVA_AC = 0 ∧
    s.hvaLost.rd Reg.PWR_EVT.HVA_FALL = 1 ∧ s.hvaLost.rd Reg.PWR_STATUS.VLV_OK = s.rd Reg.PWR_STATUS.VLV_OK ∧
    s.hvaLost.rd Reg.PWR_STATUS.SRC = s.rd Reg.PWR_STATUS.SRC := by
  refine ⟨?_, ?_, State.rd_flag rfl, ?_, ?_⟩ <;> rw [State.hvaLost, State.flag]
  · rw [State.rd_wr_ne (by decide), State.rd_wr_of_lo (by decide), State.rd_wr_of_lt (by decide)]
  · rw [State.rd_wr_of_lo (by decide), State.rd_wr_of_lt (by decide)]
  · rw [State.rd_wr_of_lo (by decide), State.rd_wr_of_lo (by decide), State.rd_wr_of_lo (by decide)]
  · rw [State.rd_wr_of_lo (by decide), State.rd_wr_of_lo (by decide), State.rd_wr_of_lo (by decide)]

theorem State.fed_hvaLost (s : State) : s.hvaLost.fed = s.on Reg.PWR_STATUS.VLV_OK := by
  obtain ⟨hOk, -, -, hV, -⟩ := s.hvaLost_spec
  simp [State.fed, State.on_eq, hOk, hV]

/-! ## PREF (R393) -/

theorem exec_prefWrite {m : Master} {v : Bool} (h : s.ready (Reg.PWR_CTRL.PREF.addr 0 0) = true) :
    exec (.prefWrite m v) s = .next (((s.wr Reg.PWR_CTRL.PREF 0 (b2n v)).pickSource s.fed).ack m) :=
  congrArg Host.Outcome.next (State.winWrite_ready (f := fun t => t.prefWrite (b2n v)) h)

theorem State.prefWritten_spec (s : State) (v : Bool) : (s.wr Reg.PWR_CTRL.PREF 0 (b2n v)).rd Reg.PWR_CTRL.PREF = b2n v ∧
    (s.wr Reg.PWR_CTRL.PREF 0 (b2n v)).rd Reg.PWR_STATUS.VLV_OK = s.rd Reg.PWR_STATUS.VLV_OK ∧
    (s.wr Reg.PWR_CTRL.PREF 0 (b2n v)).rd Reg.PWR_STATUS.HVA_OK = s.rd Reg.PWR_STATUS.HVA_OK :=
  ⟨State.rd_wr_of_lt (b2n_lt_two v), State.rd_wr_of_lo (by decide), State.rd_wr_of_lo (by decide)⟩

/-! ## nRESET (R399, R411) -/

theorem State.rd_wakeCause (s : State) {c : Nat} (h : c < 8) : (s.wakeCause c).rd Reg.CLY_STAT.WAKE_CAUSE = c := State.rd_wr_of_lt h

theorem State.mem_nreset (s : State) : (s.mReset.wakeCause 4).mem = s.mem := by
  rw [State.wakeCause, State.wr_eq, State.mem_wr2, (State.mReset_quiet (Quiet.refl s)).mem]

theorem exec_nreset_run (h : s.pwr.mode = 0) : exec .nreset s = .next (s.mReset.wakeCause 4) := congrArg Host.Outcome.next (if_pos h)

theorem exec_nreset_hibernating (h : s.pwr.mode = 1) (hcold : s.pwr.cold = false) : exec .nreset s = .next ((s.pReset.setMode 0).wakeCause 4) := by
  have hstart : s.powerStart 4 = (s.pReset.setMode 0).wakeCause 4 := by simp only [State.powerStart, hcold, Bool.false_eq_true, if_false]
  rw [← hstart]
  exact congrArg Host.Outcome.next ((if_neg (by omega)).trans (if_pos h))

theorem exec_nreset_off (h : s.pwr.mode = 2 ∨ s.pwr.mode = 3 ∨ s.pwr.mode = 4) : exec .nreset s = .next s :=
  congrArg Host.Outcome.next ((if_neg (by omega)).trans (if_neg (by omega)))

/-! ## The shutdown (R402) -/

theorem exec_shdn {m : Master} (h : s.ready (Reg.PWR_CTRL.SHDN.addr 0 0) = true) : exec (.shdn m) s = .next (s.shutdown.ack m) :=
  congrArg Host.Outcome.next (State.winWrite_ready h)

theorem State.shutdown_refused (h : s.shdnCode ≠ 0) : s.shutdown = (s.flag Reg.PWR_EVT.SD_DENIED 0).wr Reg.PWR_EVT.SD_CODE 0 s.shdnCode := if_pos h

/-- The module shuts down. -/
def State.shuttingDown (s : State) : State := { (s.wr Reg.PWR_STATUS.PWR_STATE 0 3).flag Reg.PWR_CTRL.SHDN 0 with pwr := { s.pwr with wake := none } }

theorem State.shutdown_accepted (h : s.shdnCode = 0) :
    s.shutdown = if s.on Reg.PWR_CTRL.SKIP_ST = true then s.shuttingDown.shutdownEnd else s.shuttingDown.startRun.testHold := by
  have hskip : s.shuttingDown.on Reg.PWR_CTRL.SKIP_ST = s.on Reg.PWR_CTRL.SKIP_ST :=
    (State.on_wr_of_lo (s := s.wr Reg.PWR_STATUS.PWR_STATE 0 3) (f := Reg.PWR_CTRL.SHDN) (i := 0) (v := 1) (by decide)).trans (State.on_wr_of_lo (by decide))
  rw [← hskip]
  exact if_neg (not_not.2 h)

theorem State.shdnCode_stage (h : ∃ n < 8, s.stgEnabled n = true) : s.shdnCode = 1 := if_pos (by simpa using h)

section
variable (hstg : ∀ n < 8, s.stgEnabled n = false)
include hstg

theorem State.shdnCode_discharge (h : ∃ n < 8, s.rd Reg.ROW_DIS.DSTATE n = 1 ∨ s.rd Reg.ROW_DIS.DSTATE n = 2) : s.shdnCode = 2 :=
  (if_neg (by simpa using hstg)).trans (if_pos (by simpa using h))

theorem State.shdnCode_state (h : ∀ n < 8, s.rd Reg.ROW_DIS.DSTATE n ≠ 1 ∧ s.rd Reg.ROW_DIS.DSTATE n ≠ 2) :
    s.shdnCode = if s.rd Reg.PWR_STATUS.PWR_STATE = 3 then 3 else if s.rd Reg.PWR_STATUS.PWR_STATE = 1 then 4 else 0 :=
  (if_neg (by simpa using hstg)).trans (if_neg (by simpa using h))

end

theorem State.shdnCode_lt (s : State) : s.shdnCode < 8 := by
  unfold State.shdnCode
  split
  · decide
  split
  · decide
  split
  · decide
  split <;> decide

/-! ## Clay (R407, R408) -/

theorem State.coldStart_again (h : s.railUp 8 = true) : s.coldStart = s := if_pos h

/-- The fields that Clay holds read their reset values after its cold start. -/
theorem State.rd_coldStart (h : s.railUp 8 = false) {f : FD} (hf : fieldOfKey (f.key 0 0) = some (f, 0, 0)) (hclay : clayHeld f = true) :
    s.coldStart.rd f = f.rst 0 0 := by
  rw [State.coldStart, if_neg (by simp [h])]
  exact State.rd_resetFields hf hclay

theorem fieldOfKey_of_reg {key : Nat} {fs : List FD} {f : FD} {b off i j k : Nat} (hwin : winOf (key / 32) = (b, off)) (hoff : off ≠ 0x7FFC)
    (hreg : findReg off (windowMap b) = some (fs, i, j, k)) (hf : fs.find? (fun g => g.key i j == key) = some f) : fieldOfKey key = some (f, i, j) := by
  have hat : regAt (key / 32) = some (fs, i, j, k) := by
    rw [regAt, hwin]
    exact (if_neg hoff).trans hreg
  rw [fieldOfKey, hat]
  simp only [hf]

/-- The fields of CLY_STAT. -/
def clyStat : List FD :=
  [Reg.CLY_STAT.CAP_CNT, Reg.CLY_STAT.CAP_WR, Reg.CLY_STAT.WAKE_LVL, Reg.CLY_STAT.RTC_LATE, Reg.CLY_STAT.COLD, Reg.CLY_STAT.SCRUB_BUSY, Reg.CLY_STAT.DBE,
    Reg.CLY_STAT.WAKE_CAUSE]

theorem findReg_clyStat : findReg 0x1014 (windowMap 11) = some (clyStat, 0, 0, 0) := rfl

theorem findReg_clyCnt : findReg 0x1000 (windowMap 11) = some ([Reg.CLY_CNT.CNT], 0, 0, 0) := rfl

theorem fieldOfKey_clay : fieldOfKey (Reg.CLY_STAT.COLD.key 0 0) = some (Reg.CLY_STAT.COLD, 0, 0) ∧
    fieldOfKey (Reg.CLY_STAT.WAKE_CAUSE.key 0 0) = some (Reg.CLY_STAT.WAKE_CAUSE, 0, 0) ∧
    fieldOfKey (Reg.CLY_CNT.CNT.key 0 0) = some (Reg.CLY_CNT.CNT, 0, 0) := by
  refine ⟨fieldOfKey_of_reg (by decide) (by decide) findReg_clyStat ?_, fieldOfKey_of_reg (by decide) (by decide) findReg_clyStat ?_,
    fieldOfKey_of_reg (by decide) (by decide) findReg_clyCnt ?_⟩
  all_goals simp (disch := decide) only [clyStat, List.find?_cons_of_neg, List.find?_cons_of_pos]

theorem State.coldStart_fields (h : s.railUp 8 = false) : s.coldStart.rd Reg.CLY_STAT.COLD = 1 ∧ s.coldStart.rd Reg.CLY_STAT.WAKE_CAUSE = 0 ∧
    s.coldStart.rd Reg.CLY_CNT.CNT = 0 := by
  obtain ⟨hCold, hCause, hCnt⟩ := fieldOfKey_clay
  exact ⟨State.rd_coldStart h hCold rfl, State.rd_coldStart h hCause rfl, State.rd_coldStart h hCnt rfl⟩

theorem State.byte_coldStart (h : s.railUp 8 = false) (x : Nat) : s.coldStart.byte x = if 0x4C000000 ≤ x ∧ x < 0x4C004000 then 0 else s.byte x := by
  rw [State.coldStart, if_neg (by simp [h])]
  exact s.byte_zeroMem 0x4C000000 0x4000 x

theorem State.coldStart_rails (h : s.railUp 8 = false) : s.coldStart.railUp 8 = true ∧ s.coldStart.pwr.cold = true := by
  rw [State.coldStart, if_neg (by simp [h])]
  exact ⟨SMap.get_set_same false s.rails 8 true, rfl⟩

theorem exec_capClr {m : Master} (h : s.ready (Reg.CLY_CTRL.CAP_CLR.addr 0 0) = true) : exec (.capClr m) s = .next (s.capClear.ack m) :=
  congrArg Host.Outcome.next (State.winWrite_ready h)

theorem State.capClear_spec (s : State) (m : Master) : (s.capClear.ack m).rd Reg.CLY_STAT.CAP_WR = 0 ∧ (s.capClear.ack m).rd Reg.CLY_STAT.CAP_CNT = 0 ∧
    RegsBut s (s.capClear.ack m) [Reg.CLY_STAT.CAP_WR.key 0 0, Reg.CLY_STAT.CAP_CNT.key 0 0] := by
  have hrd (f : FD) : (s.capClear.ack m).rd f = (((s.zeroMem 0x4C001000 0x400).wr Reg.CLY_STAT.CAP_WR 0 0).wr Reg.CLY_STAT.CAP_CNT 0 0).rd f := rfl
  have hzero : RegsBut s (s.zeroMem 0x4C001000 0x400) [Reg.CLY_STAT.CAP_WR.key 0 0, Reg.CLY_STAT.CAP_CNT.key 0 0] := (RegsBut.refl s _).of_eq rfl
  refine ⟨?_, ?_, ((hzero.wr2 (f := Reg.CLY_STAT.CAP_WR) (v := 0) (by simp)).wr2 (f := Reg.CLY_STAT.CAP_CNT) (v := 0) (by simp)).of_eq rfl⟩ <;> rw [hrd]
  · rw [State.rd_wr_of_lo (by decide), State.rd_wr_of_lt (by decide)]
  · rw [State.rd_wr_of_lt (by decide)]

end

end Sys2Proof.Machine

open Sys2Proof Sys2Proof.Machine

/-! ## The obligation -/

/-- Settles O33, input by input: present, lost, chosen; then the starts, the shutdown, Clay and the wakes. -/
theorem powerInputs : Obligations.PowerInputs := by
  refine ⟨fun s hoff => ?vlvRise, fun ac s hoff => ?hvaRise, fun ovr vhb s hon => ?vlvFall, fun vhb s hon => ?hvaFall, fun m v s hr => ?pref,
    fun s => ?nreset, fun m s hr => ?shdn, fun s => ?clay, fun vlv vhb mw s hp => ?meas, fun lvl s => ?wake, fun m s hr => ?cap⟩
  case vlvRise =>
    obtain ⟨hOk, hOvr, hLost, hpwr, hSrcV, hSrcBoth⟩ := s.vlvRisen_spec
    have hframe {ks : List Nat} (hks : vlvKeys ++ sourceKeys ⊆ ks) : OnlyRegs s s.vlvRisen ks := OnlyRegs.vlvRisen hks
    rw [exec_vlvRise hoff]
    refine ⟨fun hm => ?_, fun hm => ?_, fun hm => ?_, fun hm => ?_, fun hm => ?_⟩
    · rw [State.supplyRise_run (by rw [hpwr]; exact hm)]
      refine ⟨_, rfl, ?_, ?_, State.rd_flag rfl, ?_, fun h => ?_, fun h hpref => ?_, (hframe (by decide)).wr2 (by simp)⟩
      all_goals rw [State.flag, State.rd_wr_ne (by decide)]
      · exact hOk
      · exact hOvr
      · exact hLost
      · exact hSrcV h
      · exact hSrcBoth h hpref
    · rw [State.supplyRise_hibernating_vlv (by rw [hpwr]; exact hm)]
      exact ⟨_, rfl, hOk, by rw [hpwr], ((hframe (by decide)).onlyPwr _).frame⟩
    · rw [State.supplyRise_off (by rw [hpwr]; exact hm), State.vlvRisen, State.vlvPresent]
    · rw [State.supplyRise_discharge (by rw [hpwr]; exact hm), State.vlvRisen, State.vlvPresent]
    · rw [State.supplyRise_nothing (by rw [hpwr]; exact hm), State.vlvRisen, State.vlvPresent]
  case hvaRise =>
    obtain ⟨hOk, hAc, hpwr, hSrcH, hSrcBoth⟩ := s.hvaRisen_spec ac
    have hframe {ks : List Nat} (h : Reg.PWR_STATUS.HVA_OK.key 0 0 ∈ ks) (h' : Reg.PWR_STATUS.HVA_AC.key 0 0 ∈ ks) (hks : sourceKeys ⊆ ks) :
      OnlyRegs s (s.hvaRisen ac) ks := OnlyRegs.hvaRisen h h' hks
    have hstate : ((s.hvaRisen ac).flag Reg.PWR_EVT.HVA_RISE 0).rd Reg.PWR_STATUS.PWR_STATE = s.rd Reg.PWR_STATUS.PWR_STATE :=
      (State.rd_wr_of_lo (by decide)).trans (State.rd_hvaRisen (by decide))
    refine ⟨fun hm hst => ?_, fun hm hst hwake hen => ?_, fun hm hen => ?_, fun hm hen => ?_, fun hm => ?_, fun hm => ?_, fun hm => ?_⟩
    · have hmode : ((s.hvaRisen ac).flag Reg.PWR_EVT.HVA_RISE 0).pwr.mode = 0 := (congrArg PwrS.mode hpwr).trans hm
      have hidle : ((s.hvaRisen ac).flag Reg.PWR_EVT.HVA_RISE 0).wakeEvent 3 = (s.hvaRisen ac).flag Reg.PWR_EVT.HVA_RISE 0 :=
        State.wakeEvent_run hmode (by rw [hstate]; exact hst)
      refine ⟨(s.hvaRisen ac).flag Reg.PWR_EVT.HVA_RISE 0, ?_, ?_, ?_, State.rd_flag rfl, fun h => ?_, fun h hpref => ?_,
        (hframe (by simp) (by simp) (by decide)).wr2 (by simp)⟩
      · rw [exec_hvaRise hoff, State.supplyRise_run (by rw [hpwr]; exact hm)]
        cases decide (s.pwr.mode ≤ 1) && s.on Reg.CLY_WAKE_CFG.EN_HVA
        · rfl
        · exact congrArg Host.Outcome.next hidle
      all_goals rw [State.flag, State.rd_wr_ne (by decide)]
      · exact hOk
      · exact hAc
      · exact hSrcH h
      · exact hSrcBoth h hpref
    · have hmode : ((s.hvaRisen ac).flag Reg.PWR_EVT.HVA_RISE 0).pwr.mode = 0 := (congrArg PwrS.mode hpwr).trans hm
      have hnone : ((s.hvaRisen ac).flag Reg.PWR_EVT.HVA_RISE 0).pwr.wake = none := (congrArg PwrS.wake hpwr).trans hwake
      have hle : s.pwr.mode ≤ 1 := by omega
      refine ⟨{ (s.hvaRisen ac).flag Reg.PWR_EVT.HVA_RISE 0 with pwr := { s.pwr with wake := some 3 } }, ?_, rfl,
        State.rd_flag (s := s.hvaRisen ac) (f := Reg.PWR_EVT.HVA_RISE) rfl,
        (((hframe (by simp) (by simp) (by decide)).wr2 (by simp)).onlyPwr _).frame⟩
      rw [exec_hvaRise hoff, State.supplyRise_run (by rw [hpwr]; exact hm), decide_eq_true hle, hen, Bool.and_self, State.onlyIf_true,
        State.wakeEvent_shutdown hmode (hstate.trans hst) hnone, ← hpwr]
      rfl
    · refine ⟨{ s.hvaRisen ac with pwr := { s.pwr with riseH := true } }, ?_, hOk, rfl, ((hframe (by simp) (by simp) (by decide)).onlyPwr _).frame⟩
      rw [exec_hvaRise hoff, State.supplyRise_hibernating_hva (by rw [hpwr]; exact hm), hen, Bool.and_false, State.onlyIf_false, hpwr]
    · have hle : s.pwr.mode ≤ 1 := by omega
      rw [exec_hvaRise hoff, State.supplyRise_hibernating_hva (by rw [hpwr]; exact hm), decide_eq_true hle, hen, Bool.and_self, State.onlyIf_true, hpwr]
      exact congrArg Host.Outcome.next (State.wakeEvent_hibernating (s := { s.hvaRisen ac with pwr := { s.pwr with riseH := true } }) hm)
    · rw [exec_hvaRise_asleep hoff (by omega), State.supplyRise_off (by rw [hpwr]; exact hm), State.hvaRisen, State.hvaPresent]
    · rw [exec_hvaRise_asleep hoff (by omega), State.supplyRise_discharge (by rw [hpwr]; exact hm), State.hvaRisen, State.hvaPresent]
    · rw [exec_hvaRise_asleep hoff (by omega), State.supplyRise_nothing (by rw [hpwr]; exact hm), State.hvaRisen, State.hvaPresent]
  case vlvFall =>
    obtain ⟨hOk, hOvr, hFall, hH, hS⟩ := s.vlvLost_spec ovr
    have hfed := s.fed_vlvLost ovr
    rw [exec_vlvFall hon]
    refine ⟨fun hh => ?_, fun hh hm hv => ?_, fun hh hm hv => ?_, fun hh hm => ?_⟩
    · have hsrc : (s.vlvLost ovr).source = 1 := State.source_hva (by rw [hOk]; decide) (hH.trans (State.on_iff.1 hh))
      rw [State.supplyFall_fed (hfed.trans hh)]
      exact ⟨_, rfl, (State.rd_pickSource _ (by decide)).trans hOk, (State.rd_pickSource _ (by decide)).trans hOvr,
        (State.rd_pickSource _ (by decide)).trans hFall,
        (State.rd_src_pickSource _ (by omega)).trans hsrc, fun h0 => State.rd_srcChg_pickSource (by rw [hsrc, hS, h0]; decide),
        congrArg PwrS.vlvAt (State.pwr_pickSource _ _), ((OnlyPwr.vlvLost s ovr).pickSource true (by decide)).frame⟩
    · rw [State.supplyFall_discharge (hfed.trans hh) hm hv, State.vlvLost]
    · rw [State.supplyFall_off (hfed.trans hh) hm hv, State.vlvLost]
    · rw [State.supplyFall_hibernating (hfed.trans hh) hm, State.vlvLost]
  case hvaFall =>
    obtain ⟨hOk, hAc, hFall, hV, hS⟩ := s.hvaLost_spec
    have hfed := s.fed_hvaLost
    rw [exec_hvaFall hon]
    refine ⟨fun hv => ?_, fun hv hm h40 => ?_, fun hv hm h40 => ?_, fun hv hm => ?_⟩
    · have hsrc : s.hvaLost.source = 0 := State.source_vlv (hV.trans (State.on_iff.1 hv)) (by rw [hOk]; decide)
      rw [State.supplyFall_fed (hfed.trans hv)]
      exact ⟨_, rfl, (State.rd_pickSource _ (by decide)).trans hOk, (State.rd_pickSource _ (by decide)).trans hAc,
        (State.rd_pickSource _ (by decide)).trans hFall,
        (State.rd_src_pickSource _ (by omega)).trans hsrc, fun h1 => State.rd_srcChg_pickSource (by rw [hsrc, hS, h1]; decide),
        ((((OnlyRegs.refl s _).wr2 (by simp)).wr2 (by simp)).wr2 (by simp)).pickSource true (by decide)⟩
    · rw [State.supplyFall_discharge (hfed.trans hv) hm h40, State.hvaLost]
    · rw [State.supplyFall_off (hfed.trans hv) hm h40, State.hvaLost]
    · rw [State.supplyFall_hibernating (hfed.trans hv) hm, State.hvaLost]
  case pref =>
    obtain ⟨hP, hV, hH⟩ := s.prefWritten_spec v
    refine ⟨_, exec_prefWrite hr, ?_⟩
    simp only [State.rd_ack]
    refine ⟨(State.rd_pickSource _ (by decide)).trans hP, State.respOf_setResp _ _ _, fun hv hh => ?_, fun hv hh => ?_, fun hv hh => ?_,
      (((OnlyRegs.refl s _).wr2 (by simp)).pickSource _ (by decide)).setResp⟩
    · have hsrc := (State.source_both (hV.trans (State.on_iff.1 hv)) (hH.trans (State.on_iff.1 hh))).trans hP
      exact (State.rd_src_pickSource _ (by rw [hsrc]; exact b2n_lt_two v)).trans hsrc
    · have hsrc := State.source_hva (by rw [hV]; exact State.on_false_iff.1 hv) (hH.trans (State.on_iff.1 hh))
      exact (State.rd_src_pickSource _ (by omega)).trans hsrc
    · have hsrc := State.source_vlv (hV.trans (State.on_iff.1 hv)) (by rw [hH]; exact State.on_false_iff.1 hh)
      exact (State.rd_src_pickSource _ (by omega)).trans hsrc
  case nreset =>
    refine ⟨fun hm => ⟨_, exec_nreset_run hm, rfl, State.rd_wakeCause _ (by decide), State.mem_nreset s⟩,
      fun hm hcold => ⟨_, exec_nreset_hibernating hm hcold, rfl, State.rd_wakeCause _ (by decide), rfl⟩, exec_nreset_off⟩
  case shdn =>
    rw [exec_shdn hr]
    refine ⟨fun h => ?_, State.shdnCode_stage, State.shdnCode_discharge, fun hstg hdis => ?_, fun h hskip => ?_, fun h hskip => ?_⟩
    · rw [State.shutdown_refused h]
      refine ⟨_, rfl, ?_, ?_, State.respOf_setResp _ _ _, (((OnlyRegs.refl s _).wr2 (by simp)).wr2 (by simp)).setResp⟩
      · rw [State.rd_ack, State.rd_wr_of_lo (by decide), State.rd_flag rfl]
      · rw [State.rd_ack, State.rd_wr_of_lt s.shdnCode_lt]
    · rw [State.shdnCode_state hstg hdis]
      exact ⟨fun h => by rw [h]; rfl, fun h => by rw [h]; rfl, fun h => by rw [h]; rfl⟩
    · rw [State.shutdown_accepted h, if_neg (by rw [hskip]; decide), State.shuttingDown]
    · rw [State.shutdown_accepted h, if_pos hskip, State.shuttingDown]
  case clay =>
    refine ⟨fun hm => ?_, fun hm => ?_, fun hm => ?_, fun hm => ?_, fun h => congrArg Host.Outcome.next (State.coldStart_again h), fun h => ?_⟩
    · simp [exec, execSafetyRegionFall, hm]
    · rw [exec, execSafetyRegionFall, beq_eq_false_iff_ne.2 hm, State.onlyIf_false]
    · rcases hm with hm | hm <;> simp [exec, execClaySupplyLoss, hm, State.setMode]
    · rcases hm with hm | hm | hm <;> simp [exec, execClaySupplyLoss, hm]
    · obtain ⟨hrail, hcold⟩ := State.coldStart_rails h
      obtain ⟨hCold, hCause, hCnt⟩ := State.coldStart_fields h
      refine ⟨s.coldStart, rfl, fun x hlo hhi => ?_, fun x hx => ?_, hrail, hcold, hCold, hCause, hCnt⟩
      · rw [State.byte_coldStart h, if_pos ⟨hlo, hhi⟩]
      · rw [State.byte_coldStart h, if_neg (by omega)]
  case meas =>
    have hgo : exec (.inputMeasurement vlv vhb mw) s = _ := congrArg (fun b => Host.Outcome.next (s.onlyIf b _)) hp
    refine ⟨_, hgo, ?_, ?_, ?_, (((OnlyRegs.refl s _).wr2 (by simp)).wr2 (by simp)).wr2 (by simp)⟩ <;> rw [State.onlyIf_true]
    · rw [State.rd_wr_ne (by decide), State.rd_wr_of_lo (by decide), State.rd_wr_of_lt vlv.isLt]
    · rw [State.rd_wr_of_lo (by decide), State.rd_wr_of_lt vhb.isLt]
    · rw [State.rd_wr_of_lt (lt_of_le_of_lt (Nat.min_le_right _ _) (by decide))]
  case wake =>
    refine ⟨fun hm h => ?_, fun hm hen => ?_, fun hm hst hwake hen => ?_, fun hm => congrArg Host.Outcome.next (if_pos hm), fun hm hen hat => ?_,
      fun hm hst hwake hen hat => ?_, exec_wakeAtMatch_idle⟩
    · have hidle : (lvl && s.on Reg.CLY_WAKE_CFG.EN_PIN) = false := by rcases h with h | h <;> simp [h]
      rw [exec_wakePin hm, hidle]
      exact ⟨_, rfl, State.rd_wr_of_lt (b2n_lt_two lvl), (OnlyRegs.refl s _).wr2 (by simp)⟩
    · rw [exec_wakePin (by omega), hen]
      exact congrArg Host.Outcome.next (State.wakeEvent_hibernating hm)
    · rw [exec_wakePin (by omega), hen]
      exact congrArg Host.Outcome.next (State.wakeEvent_shutdown (s := s.wr Reg.CLY_STAT.WAKE_LVL 0 1) hm ((State.rd_wr_of_lo (by decide)).trans hst) hwake)
    · rw [exec_wakeAtMatch (by omega) hen hat, State.wakeEvent_hibernating hm]
    · rw [exec_wakeAtMatch (by omega) hen hat, State.wakeEvent_shutdown hm hst hwake]
  case cap =>
    obtain ⟨hWr, hCnt, hregs⟩ := s.capClear_spec m
    refine ⟨_, exec_capClr hr, hWr, hCnt, rfl, State.respOf_setResp _ _ _, fun x hlo hhi => ?_, fun x hx => ?_, hregs⟩
    · exact (s.byte_zeroMem 0x4C001000 0x400 x).trans (if_pos ⟨hlo, hhi⟩)
    · exact (s.byte_zeroMem 0x4C001000 0x400 x).trans (if_neg (by omega))
end

section
/-! PROOFS. The statement of spec/18_selftest_spares_wear.md on the self-test groups, run-time retirement and the aging sensors. -/

namespace Sys2Proof.Machine

/-! ## Memory operations leave the registers alone (R425, R427) -/

section
variable {s : State}

@[simp] theorem State.regs_setByte (s : State) (a v : Nat) : (s.setByte a v).regs = s.regs := rfl
@[simp] theorem State.regs_setNum (s : State) (a n v : Nat) : (s.setNum a n v).regs = s.regs := s.regs_setBytes a (leBytes n v)
@[simp] theorem State.regs_zeroMem (s : State) (a n : Nat) : (s.zeroMem a n).regs = s.regs := rfl
@[simp] theorem State.regs_copyMem (s : State) (src dst n : Nat) : (s.copyMem src dst n).regs = s.regs := rfl

@[simp] theorem State.regs_putMark (s : State) (b p status cause : Nat) : (s.putMark b p status cause).regs = s.regs := by
  unfold State.putMark
  split <;> simp

@[simp] theorem State.regs_putTaps (s : State) (b p : Nat) (taps : List Nat) : (s.putTaps b p taps).regs = s.regs := by
  unfold State.putTaps
  extract_lets a old all t
  split
  · rw [State.regs_putMark]
    exact s.regs_setBytes _ _
  · exact s.regs_setBytes _ _

@[simp] theorem State.regs_putRow (s : State) (b : Nat) (e : Nat × Nat) : (s.putRow b e).regs = s.regs := by
  unfold State.putRow
  extract_lets at' w
  split
  · rfl
  split
  · exact s.regs_setWord _ _
  · rfl

/-- An operation that leaves the registers alone on each element leaves them alone on all. -/
theorem State.regs_foldEach {α : Type} {f : α → State → State} (hf : ∀ a t, (f a t).regs = t.regs) (l : List α) (s : State) :
    (foldEach f l s).regs = s.regs :=
  foldEach_preserves (P := fun (u : State) => u.regs = s.regs) (fun a t ht => (hf a t).trans ht) l rfl

theorem State.regs_putAdd (s : State) (b : Nat) (x : WearAdd) : (s.putAdd b x).regs = s.regs := by
  unfold State.putAdd
  extract_lets t1 t2 t3 t4 t5 t6 t7
  have h1 : t1.regs = s.regs := State.regs_foldEach (fun _ _ => State.regs_putMark _ _ _ _ _) _ _
  have h2 : t2.regs = t1.regs := State.regs_foldEach (fun _ _ => by split <;> simp) _ _
  have h3 : t3.regs = t2.regs := State.regs_foldEach (fun _ _ => State.regs_putTaps _ _ _ _) _ _
  have h4 : t4.regs = t3.regs := State.regs_foldEach (fun _ _ => State.regs_putRow _ _ _) _ _
  have h5 : t5.regs = t4.regs := State.regs_foldEach (fun _ _ => State.regs_setNum _ _ _ _) _ _
  have h6 : t6.regs = t5.regs := by
    cases hrot : x.rot <;> simp [t6, hrot]
  have h7 : t7.regs = t6.regs := by
    cases hrun : x.run <;> simp [t7, hrun]
  have h : t7.regs = s.regs := by rw [h7, h6, h5, h4, h3, h2, h1]
  split <;> exact h

@[simp] theorem State.regs_sealWear (s : State) (b : Nat) : (s.sealWear b).regs = s.regs := s.regs_setWord _ _
@[simp] theorem State.regs_sealVerdict (s : State) (k : Nat) : (s.sealVerdict k).regs = s.regs := s.regs_setWord _ _

@[simp] theorem State.regs_blankWear (s : State) (b : Nat) : (s.blankWear b).regs = s.regs := by
  rw [State.blankWear, State.regs_setBytes, State.regs_setWord, State.regs_zeroMem]

@[simp] theorem State.regs_putVerdict (s : State) (p v : Nat) : (s.putVerdict p v).regs = s.regs := by
  unfold State.putVerdict
  extract_lets a
  split <;> rfl

@[simp] theorem State.regs_clearArrays (s : State) (g : Nat) : (s.clearArrays g).regs = s.regs := by
  unfold State.clearArrays
  split
  · rfl
  split <;> rfl

/-! ## The wear record (R427) -/

/-- The copy that the next write takes, as a copy of the one in force or as a blank record, with its new WSEQ. -/
def State.wearDraft (s : State) : State :=
  match s.wearCopy with
  | some c => (s.copyMem (wearBase c) (wearBase s.wearNext) 0x4000).setWord (wearBase s.wearNext + 4) (wearSeq s c + 1)
  | none => (s.blankWear (wearBase s.wearNext)).setWord (wearBase s.wearNext + 4) 1

theorem State.regs_wearDraft (s : State) : s.wearDraft.regs = s.regs := by
  unfold State.wearDraft
  split <;> simp

/-- The copy that the next write takes, with its entries and its CRC. -/
def State.wearEntered (s : State) (x : WearAdd) : State :=
  (foldEach (fun x t => t.putAdd (wearBase s.wearNext) x) (s.st.pend ++ [x]) s.wearDraft).sealWear (wearBase s.wearNext)

theorem State.wearWrite_true (s : State) (x : WearAdd) :
    s.wearWrite x true = { s.wearEntered x with st := { (s.wearEntered x).st with pend := [], copy := some s.wearNext } } := rfl

theorem State.wearWrite_false (s : State) (x : WearAdd) :
    s.wearWrite x false = ({ s with st := { s.st with pend := s.st.pend ++ [x] } } : State).flag Reg.ST_EVT.WEAR_ERR 0 := rfl

theorem State.regs_wearEntered (s : State) (x : WearAdd) : (s.wearEntered x).regs = s.regs := by
  rw [State.wearEntered, State.regs_sealWear, State.regs_foldEach (fun _ _ => State.regs_putAdd _ _ _), State.regs_wearDraft]

/-- A write of the wear record shows in WEAR_ERR alone. -/
theorem State.regsBut_wearWrite (s : State) (x : WearAdd) (ok : Bool) : RegsBut s (s.wearWrite x ok) [Reg.ST_EVT.WEAR_ERR.key 0 0] := by
  cases ok
  · rw [State.wearWrite_false]
    exact ((RegsBut.refl s _).of_eq (u := { s with st := { s.st with pend := s.st.pend ++ [x] } }) rfl).wr2 (by simp)
  · rw [State.wearWrite_true]
    exact (RegsBut.refl s _).of_eq (s.regs_wearEntered x)

/-! ## Bytes of the wear record -/

theorem SMap.get_foldEach_set_ne {l : List (Nat × BitVec 8)} {m : SMap (BitVec 8)} {x : Nat} (h : ∀ e ∈ l, x ≠ e.1) :
    SMap.get (0 : BitVec 8) (foldEach (fun e m => SMap.set (0 : BitVec 8) m e.1 e.2) l m) x = SMap.get 0 m x := by
  induction l generalizing m with
  | nil => rfl
  | cons e l ih => exact (ih fun a ha => h a (by simp [ha])).trans (SMap.get_set_ne _ _ _ _ (h e (by simp)))

theorem State.byte_copyMem_ne (s : State) {src dst n x : Nat} (h : x < dst ∨ dst + n ≤ x) : (s.copyMem src dst n).byte x = s.byte x := by
  have hkeep := SMap.get_filter_key (0 : BitVec 8) (fun k => !(decide (dst ≤ k) && decide (k < dst + n))) s.mem x
  have hout : (!(decide (dst ≤ x) && decide (x < dst + n))) = true := by
    simp only [Bool.not_eq_true', Bool.and_eq_false_iff, decide_eq_false_iff_not]
    omega
  rw [if_pos hout] at hkeep
  refine congrArg BitVec.toNat ((SMap.get_foldEach_set_ne fun e he => ?_).trans hkeep)
  obtain ⟨a, ha, rfl⟩ := List.mem_map.1 he
  have hsrc := (List.mem_filter.1 ha).2
  simp only [Bool.and_eq_true, decide_eq_true_eq] at hsrc
  show x ≠ a.1 - src + dst
  omega

theorem State.byte_blankWear_ne (s : State) {b x : Nat} (h : x < b ∨ b + 0x4000 ≤ x) : (s.blankWear b).byte x = s.byte x := by
  rw [State.blankWear, State.byte_setBytes_ne _ _ (by rw [List.length_replicate]; omega), State.byte_setWord_ne (by omega), State.byte_zeroMem,
    if_neg (by omega)]

theorem State.byte_wearDraft_ne (s : State) {x : Nat} (h : x < wearBase s.wearNext ∨ wearBase s.wearNext + 0x4000 ≤ x) : s.wearDraft.byte x = s.byte x := by
  unfold State.wearDraft
  split
  · rw [State.byte_setWord_ne (by omega), State.byte_copyMem_ne _ h]
  · rw [State.byte_setWord_ne (by omega), State.byte_blankWear_ne _ h]

theorem State.byte_setNum_ne (s : State) {a n v x : Nat} (h : x < a ∨ a + n ≤ x) : (s.setNum a n v).byte x = s.byte x :=
  State.byte_setBytes_ne _ _ (by rw [length_leBytes]; omega)

/-- A mark of a physical unit enters the eight bytes of its entry: STATUS, CAUSE and counts. -/
theorem State.byte_putMark_ne (s : State) {b p status cause x : Nat} (h : x < b + 0x40 + 8 * p ∨ b + 0x40 + 8 * p + 8 ≤ x) :
    (s.putMark b p status cause).byte x = s.byte x := by
  simp only [State.putMark]
  rw [State.byte_setNum_ne _ (by omega)]
  split
  · rw [State.byte_setNum_ne _ (by omega), State.byte_setByte_ne _ _ (by omega), State.byte_setByte_ne _ _ (by omega)]
  · rw [State.byte_setByte_ne _ _ (by omega), State.byte_setByte_ne _ _ (by omega)]

theorem State.byte_putMark (s : State) (b p status cause : Nat) : (s.putMark b p status cause).byte (b + 0x40 + 8 * p) = status % 256 ∧
    (s.putMark b p status cause).byte (b + 0x40 + 8 * p + 1) = cause % 256 := by
  have hbytes : ((s.setByte (b + 0x40 + 8 * p) status).setByte (b + 0x40 + 8 * p + 1) cause).byte (b + 0x40 + 8 * p) = status % 256 ∧
      ((s.setByte (b + 0x40 + 8 * p) status).setByte (b + 0x40 + 8 * p + 1) cause).byte (b + 0x40 + 8 * p + 1) = cause % 256 :=
    ⟨(State.byte_setByte_ne _ _ (by omega)).trans (State.byte_setByte_same _ _ _), State.byte_setByte_same _ _ _⟩
  simp only [State.putMark]
  rw [State.byte_setNum_ne _ (by omega), State.byte_setNum_ne _ (by omega)]
  split
  · rwa [State.byte_setNum_ne _ (by omega), State.byte_setNum_ne _ (by omega)]
  · exact hbytes

theorem State.putAdd_mark (s : State) (b p cause : Nat) : s.putAdd b { WearAdd.init with marks := [(p, cause)] } = s.putMark b p 2 cause := rfl

theorem State.wearEntered_mark (h : s.st.pend = []) (p : Nat) : s.wearEntered { WearAdd.init with marks := [(p, 2)] } =
    (s.wearDraft.putMark (wearBase s.wearNext) p 2 2).sealWear (wearBase s.wearNext) := by
  rw [State.wearEntered, h, List.nil_append, foldEach, foldEach, State.putAdd_mark]

/-- One retirement in the wear record: its mark, and nothing outside the copy. -/
theorem State.byte_wearEntered_mark (h : s.st.pend = []) {p : Nat} (hp : p < 297) :
    (s.wearEntered { WearAdd.init with marks := [(p, 2)] }).byte (wearBase s.wearNext + 0x40 + 8 * p) = 2 ∧
      (s.wearEntered { WearAdd.init with marks := [(p, 2)] }).byte (wearBase s.wearNext + 0x40 + 8 * p + 1) = 2 ∧
      ∀ x, x < wearBase s.wearNext ∨ wearBase s.wearNext + 0x4000 ≤ x → (s.wearEntered { WearAdd.init with marks := [(p, 2)] }).byte x = s.byte x := by
  rw [State.wearEntered_mark h]
  obtain ⟨hStatus, hCause⟩ := s.wearDraft.byte_putMark (wearBase s.wearNext) p 2 2
  refine ⟨(State.byte_setWord_ne (by omega)).trans hStatus, (State.byte_setWord_ne (by omega)).trans hCause, fun x hx => ?_⟩
  rw [State.sealWear, State.byte_setWord_ne (by omega), State.byte_putMark_ne _ (by omega), State.byte_wearDraft_ne _ hx]

/-! ## Run-time retirement (R418) -/

/-- The retirement of a physical unit is in the wear record and shown. -/
def State.retirementShown (s : State) (l : List Nat) (p : Nat) : State :=
  let t := ({ s with retireq := l }.wearWrite { WearAdd.init with marks := [(p, 2)] } true).flag Reg.ST_EVT.RT_REC 0 |>.flag Reg.ST_EVT.RETIRED 0
  (t.wr Reg.SPR_PU.STATUS p 2).wr Reg.SPR_PU.FAILS p (min 255 (t.wearPu p 4 2))

theorem exec_wearEntry {e p : Nat} {l : List Nat} (hq : s.retireq = e :: l) (hald : s.present islALD = true) (hpu : s.retiredPu e = some p) (ok : Bool) :
    exec (.wearEntry ok) s = .next (if ok then (s.retirementShown l p).logEv 0x0006 0 (leBytes 2 p ++ leBytes 2 2) else s.flag Reg.ST_EVT.WEAR_ERR 0) := by
  cases ok
  · simp only [exec, execWearEntry, hq, hald, hpu, Bool.not_true, Bool.not_false, Bool.false_eq_true, if_false, if_true]
  · simp only [exec, execWearEntry, hq, hald, hpu, Bool.not_true, Bool.false_eq_true, if_false, if_true, State.retirementShown]

/-- The fields in which the retirement of a unit shows. -/
def retireKeys (p : Nat) : List Nat :=
  [Reg.ST_EVT.RT_REC.key 0 0, Reg.ST_EVT.RETIRED.key 0 0, Reg.SPR_PU.STATUS.key p 0, Reg.SPR_PU.FAILS.key p 0]

theorem State.regs_wearWritten (s : State) (l : List Nat) (x : WearAdd) : ({ s with retireq := l }.wearWrite x true).regs = s.regs := by
  rw [State.wearWrite_true]
  exact State.regs_wearEntered _ x

theorem State.regsBut_retirementShown (s : State) (l : List Nat) (p : Nat) : RegsBut s (s.retirementShown l p) (retireKeys p) :=
  (((((RegsBut.refl s _).of_eq (s.regs_wearWritten l _)).wr2 (f := Reg.ST_EVT.RT_REC) (i := 0) (j := 0) (v := 1) (by simp [retireKeys])).wr2
    (f := Reg.ST_EVT.RETIRED) (i := 0) (j := 0) (v := 1) (by simp [retireKeys])).wr2 (f := Reg.SPR_PU.STATUS) (i := p) (j := 0) (v := 2)
    (by simp [retireKeys])).wr2 (f := Reg.SPR_PU.FAILS) (i := p) (j := 0) (by simp [retireKeys])

theorem State.retirementShown_spec (s : State) (l : List Nat) (p : Nat) : (s.retirementShown l p).rd Reg.ST_EVT.RT_REC = 1 ∧
    (s.retirementShown l p).rd Reg.ST_EVT.RETIRED = 1 ∧ (s.retirementShown l p).rd Reg.SPR_PU.STATUS p = 2 := by
  simp only [State.retirementShown]
  generalize ({ s with retireq := l } : State).wearWrite _ true = u
  refine ⟨?_, ?_, ?_⟩
  · rw [State.rd_wr_of_lo (by decide), State.rd_wr_of_lo (by decide), State.flag, State.rd_wr_of_lo (by decide), State.rd_flag rfl]
  · rw [State.rd_wr_of_lo (by decide), State.rd_wr_of_lo (by decide), State.rd_flag rfl]
  · rw [State.rd_wr_of_lo (by decide), State.rd_wr_of_lt (by decide)]

/-- The wear record is all of memory that a retirement changes. -/
theorem State.retirementShown_frame (s : State) (l : List Nat) (p : Nat) :
    (s.retirementShown l p).mem = (({ s with retireq := l } : State).wearEntered { WearAdd.init with marks := [(p, 2)] }).mem ∧
      (s.retirementShown l p).st.copy = some s.wearNext := ⟨rfl, rfl⟩

theorem State.retireq_setBytes (s : State) (a : Nat) (l : List Nat) : (s.setBytes a l).retireq = s.retireq := by rw [State.setBytes_eq]

theorem State.retireq_setWord (s : State) (a v : Nat) : (s.setWord a v).retireq = s.retireq := by rw [State.setWord_eq]

theorem State.retireq_putMark (s : State) (b p status cause : Nat) : (s.putMark b p status cause).retireq = s.retireq := by
  simp only [State.putMark]
  split <;> simp only [State.setNum, State.retireq_setBytes] <;> rfl

theorem State.retireq_wearDraft (s : State) : s.wearDraft.retireq = s.retireq := by
  unfold State.wearDraft
  split
  · rw [State.retireq_setWord]; rfl
  · rw [State.retireq_setWord, State.blankWear, State.retireq_setBytes, State.retireq_setWord]; rfl

theorem State.retireq_wearEntered_mark (h : s.st.pend = []) (p : Nat) :
    (s.wearEntered { WearAdd.init with marks := [(p, 2)] }).retireq = s.retireq := by
  rw [State.wearEntered_mark h, State.sealWear, State.retireq_setWord, State.retireq_putMark, State.retireq_wearDraft]

theorem State.retireq_wearWrite_true (s : State) (x : WearAdd) : (s.wearWrite x true).retireq = (s.wearEntered x).retireq := by rw [State.wearWrite_true]

theorem State.retireq_wearWrite_mark (h : s.st.pend = []) (l : List Nat) (p : Nat) :
    (({ s with retireq := l } : State).wearWrite { WearAdd.init with marks := [(p, 2)] } true).retireq = l := by
  rw [State.retireq_wearWrite_true]
  exact State.retireq_wearEntered_mark (s := { s with retireq := l }) h p

theorem State.retireq_shown_eq (s : State) (l : List Nat) (p : Nat) :
    (s.retirementShown l p).retireq = (({ s with retireq := l } : State).wearWrite { WearAdd.init with marks := [(p, 2)] } true).retireq := by
  rw [State.retirementShown, State.wr_eq, State.retireq_wr2, State.wr_eq, State.retireq_wr2, State.flag_eq, State.retireq_wr2, State.flag_eq,
    State.retireq_wr2]

theorem State.retireq_retirementShown (h : s.st.pend = []) (l : List Nat) (p : Nat) : (s.retirementShown l p).retireq = l := by
  rw [State.retireq_shown_eq]
  exact State.retireq_wearWrite_mark h l p

theorem State.logEv_rest (s : State) (code src : Nat) (data : List Nat) :
    (s.logEv code src data).retireq = s.retireq ∧ (s.logEv code src data).st = s.st := by
  unfold State.logEv
  split
  · exact ⟨rfl, rfl⟩
  split
  · exact ⟨rfl, rfl⟩
  split <;> exact ⟨rfl, rfl⟩

theorem FD.key_not_mem_logKeys {f : FD} {i j : Nat} (h : f.lo % 32 ≠ 8 ∧ f.lo % 32 ≠ 0 ∧ f.lo % 32 ≠ 1) : f.key i j ∉ logKeys := by
  obtain ⟨h8, h0, h1⟩ := h
  simp only [logKeys, List.mem_cons, List.not_mem_nil, or_false]
  rintro (h | h | h)
  · exact FD.key_ne_of_lo (f := Reg.ALD_STATUS.QUEUE) h8 h
  · exact FD.key_ne_of_lo (f := Reg.ALD_CNT.LOST_CNT) h0 h
  · exact FD.key_ne_of_lo (f := Reg.ALD_EVT.EV_LOST) h1 h

/-! ## Aging sensors (R424) -/

/-- The fields in which the age of a unit shows. -/
def ageKeys : List Nat := (List.range 297).map (fun p => Reg.SPR_PU.AGE.key p 0) ++ (List.range 188).map (fun u => Reg.SPR_MAP.AGE.key u 0)

theorem State.regsBut_showAge (s : State) {p : Nat} (hp : p < 297) (age : Nat) : RegsBut s (s.showAge p age) ageKeys := by
  have hPu : RegsBut s (s.wr Reg.SPR_PU.AGE p (min age 1023)) ageKeys :=
    (RegsBut.refl s _).wr2 (List.mem_append_left _ (List.mem_map_of_mem (f := fun p => Reg.SPR_PU.AGE.key p 0) (List.mem_range.2 hp)))
  unfold State.showAge
  extract_lets t u
  split
  case isTrue hu => exact hPu.wr2 (List.mem_append_right _ (List.mem_map_of_mem (f := fun u => Reg.SPR_MAP.AGE.key u 0) (List.mem_range.2 hu)))
  case isFalse => exact hPu

theorem State.mem_showAge (s : State) (p age : Nat) : (s.showAge p age).mem = s.mem := by
  unfold State.showAge
  extract_lets t u
  split <;> rfl

theorem State.rd_age_showAge (s : State) (q p age : Nat) :
    (s.showAge q age).rd Reg.SPR_PU.AGE p = if p = q then min age 1023 else s.rd Reg.SPR_PU.AGE p := by
  have hPu : (s.wr Reg.SPR_PU.AGE q (min age 1023)).rd Reg.SPR_PU.AGE p = if p = q then min age 1023 else s.rd Reg.SPR_PU.AGE p := by
    split
    case isTrue h => rw [h, State.rd_wr_of_lt (lt_of_le_of_lt (Nat.min_le_right _ _) (by decide))]
    case isFalse h => exact State.rd_wr_ne (by simp only [FD.key, FD.addr, Reg.SPR_PU.AGE]; omega)
  unfold State.showAge
  extract_lets t u
  split
  · exact (State.rd_wr_of_lo (by decide)).trans hPu
  · exact hPu

theorem mem_agesOf {l : List (Nat × Nat)} {e : Nat × Nat} (h : e ∈ agesOf l) : e.1 < 297 := by
  obtain ⟨p, hp, he⟩ := List.mem_filterMap.1 h
  have hfst : e.1 = p := by
    split at he
    case h_1 k _ =>
      obtain ⟨a, -, rfl⟩ := Option.map_eq_some_iff.1 he
      rfl
    case h_2 => cases he
  rw [hfst]
  exact List.mem_range.1 hp

/-- The units that one reading covers, each with its age. -/
theorem agesOf_one (k a : Nat) : ∀ e ∈ agesOf [(k, a)], e.2 = a := by
  intro e h
  obtain ⟨p, -, he⟩ := List.mem_filterMap.1 h
  split at he
  case h_1 j _ =>
    obtain ⟨b, hb, rfl⟩ := Option.map_eq_some_iff.1 he
    rw [List.mem_singleton.1 (List.mem_of_find?_eq_some hb)]
  case h_2 => cases he

theorem mem_agesOf_one {k a p : Nat} (hp : p < 297) (h : sensorOf p = some k) : (p, a) ∈ agesOf [(k, a)] :=
  List.mem_filterMap.2 ⟨p, List.mem_range.2 hp, by simp [h]⟩

/-- Readings of one age leave a unit that shows it as it is. -/
theorem State.rd_age_stays {l : List (Nat × Nat)} {p a : Nat} (hl : ∀ e ∈ l, e.2 = a) {t : State} (ht : t.rd Reg.SPR_PU.AGE p = min a 1023) :
    (foldEach (fun (e : Nat × Nat) (t : State) => t.showAge e.1 e.2) l t).rd Reg.SPR_PU.AGE p = min a 1023 := by
  induction l generalizing t with
  | nil => exact ht
  | cons e l ih =>
    refine ih (fun b hb => hl b (by simp [hb])) ?_
    rw [State.rd_age_showAge, hl e (by simp), ht]
    split <;> rfl

/-- Every unit of the readings shows the age that all of them have. -/
theorem State.rd_age_foldEach {l : List (Nat × Nat)} {p a : Nat} (hl : ∀ e ∈ l, e.2 = a) (h : (p, a) ∈ l) (s : State) :
    (foldEach (fun (e : Nat × Nat) (t : State) => t.showAge e.1 e.2) l s).rd Reg.SPR_PU.AGE p = min a 1023 := by
  induction l generalizing s with
  | nil => cases h
  | cons e l ih =>
    have htail : ∀ b ∈ l, b.2 = a := fun b hb => hl b (by simp [hb])
    rcases List.mem_cons.1 h with rfl | hmem
    · exact State.rd_age_stays htail (by rw [State.rd_age_showAge, if_pos rfl])
    · exact ih htail hmem (s.showAge e.1 e.2)

theorem exec_agingRead_busy {ages : List (Fin 93 × Fin 1024)} (hald : s.present islALD = true) (hbusy : s.aldBusy = true) :
    exec (.agingRead ages) s = .next ({ s with houseAt := some (s.houseAt.getD s.now) } : State).houseWaits := by
  simp [exec, execAgingRead, hald, hbusy]

theorem exec_agingRead {ages : List (Fin 93 × Fin 1024)} (hald : s.present islALD = true) (hidle : s.aldBusy = false) :
    exec (.agingRead ages) s = .next (s.readAges (ages.map fun e => (e.1.val, e.2.val))) := by
  simp [exec, execAgingRead, hald, hidle]

/-! ## The self-test groups (R419, R425) -/

/-- The fields that a group shows after DONE and PEAK_MW. -/
def groupKeys : List Nat :=
  [Reg.ST_STATUS.LOGIC_FAIL.key 0 0, Reg.ST_STATUS.LOGIC_PART.key 0 0, Reg.ST_EVT.WEAR_ERR.key 0 0, Reg.ST_EVT.RETIRED.key 0 0]

/-- DONE with the group that ends. -/
def State.doneNext (s : State) : Nat := withBit (bits (s.word (verdictBase s.st.rcd + 4)) 16 10) (s.rd Reg.ST_STATUS.GROUP)

/-- A group before the last one: its verdicts in memory, DONE and its peak power, its failures, then the number of the next group. -/
theorem State.groupDone_early (h : s.rd Reg.ST_STATUS.GROUP < 9) (r : StResult) : ∃ u v : State, u.regs = s.regs ∧
    RegsBut ((u.wr Reg.ST_GRP.DONE 0 s.doneNext).wr Reg.ST_GRP.PEAK_MW 0 (min r.peak 4095)) v groupKeys ∧
    s.groupDone r = v.wr Reg.ST_STATUS.GROUP 0 (s.rd Reg.ST_STATUS.GROUP + 1) := by
  unfold State.groupDone
  extract_lets g b x t1 t2 t3 t4 done t5 t6 t7 part t8 st8 t9 t10 t11 noAdd t12 t13
  have h1 : t1.regs = s.regs := State.regs_foldEach (fun _ _ => State.regs_putVerdict _ _ _) _ _
  have h2 : t2.regs = t1.regs := State.regs_foldEach (fun _ _ => State.regs_putVerdict _ _ _) _ _
  have h3 : t3.regs = t2.regs := State.regs_foldEach (fun _ _ => State.regs_setByte _ _ _) _ _
  have h4 : t4.regs = t3.regs := State.regs_foldEach (fun _ _ => State.regs_putVerdict _ _ _) _ _
  have h6 : t6.regs = s.regs := by
    simp only [t6, t5, State.regs_sealVerdict, State.regs_setWord]
    rw [h4, h3, h2, h1]
  have h8 : RegsBut t7 t8 groupKeys := by
    cases hpart : part <;> simp only [t8, hpart]
    · exact RegsBut.refl t7 _
    · exact ((RegsBut.refl t7 groupKeys).wr2 (by simp [groupKeys])).wr2 (by simp [groupKeys])
  have h9 : t9.regs = t8.regs := by
    by_cases hg : g = 8 <;> simp [t9, hg]
  have hwear (t : State) (y : WearAdd) : RegsBut t (t.wearWrite y r.written) groupKeys := (t.regsBut_wearWrite y _).mono (by simp [groupKeys])
  have h11 : RegsBut t10 t11 groupKeys := by
    by_cases hx : x = WearAdd.init
    · simp only [t11, if_pos hx]; exact RegsBut.refl t10 _
    · simp only [t11, if_neg hx]; exact hwear t10 x
  have h12 : RegsBut t11 t12 groupKeys := by
    by_cases hx : (g = 5 ∨ g = 6) ∧ t11.rowCores ≠ []
    · simp only [t12, if_pos hx]; exact hwear t11 _
    · simp only [t12, if_neg hx]; exact RegsBut.refl t11 _
  have h13 : RegsBut t12 t13 groupKeys := by
    cases hmarks : x.marks != [] || x.aged != [] <;> simp only [t13, hmarks]
    · exact RegsBut.refl t12 _
    · exact (RegsBut.refl t12 _).wr2 (by simp [groupKeys])
  have h10 : RegsBut t7 t10 groupKeys := (h8.of_eq h9).of_eq (State.regs_clearArrays _ _)
  exact ⟨t6, t13, h6, ((h10.trans h11).trans h12).trans h13, if_pos h⟩

theorem State.groupDone_spec (h : s.rd Reg.ST_STATUS.GROUP < 9) (r : StResult) :
    (s.groupDone r).rd Reg.ST_STATUS.GROUP = s.rd Reg.ST_STATUS.GROUP + 1 ∧ (s.groupDone r).rd Reg.ST_GRP.DONE = s.doneNext % 2 ^ 10 ∧
      (s.groupDone r).rd Reg.ST_GRP.PEAK_MW = min r.peak 4095 ∧
      RegsBut s (s.groupDone r) [Reg.ST_GRP.DONE.key 0 0, Reg.ST_GRP.PEAK_MW.key 0 0, Reg.ST_STATUS.LOGIC_FAIL.key 0 0, Reg.ST_STATUS.LOGIC_PART.key 0 0,
        Reg.ST_EVT.WEAR_ERR.key 0 0, Reg.ST_EVT.RETIRED.key 0 0, Reg.ST_STATUS.GROUP.key 0 0] := by
  obtain ⟨u, v, hu, hv, heq⟩ := State.groupDone_early h r
  rw [heq]
  refine ⟨State.rd_wr_of_lt (lt_of_le_of_lt (Nat.succ_le_of_lt h) (by decide)), ?_, ?_, ?_⟩
  · rw [State.rd_wr_of_lo (by decide), hv.rd_eq (by decide), State.rd_wr_of_lo (by decide), State.wr_eq, State.rd_wr2_same]
    rfl
  · rw [State.rd_wr_of_lo (by decide), hv.rd_eq (by decide), State.rd_wr_of_lt (lt_of_le_of_lt (Nat.min_le_right _ _) (by decide))]
  · have hshown : RegsBut s ((u.wr Reg.ST_GRP.DONE 0 s.doneNext).wr Reg.ST_GRP.PEAK_MW 0 (min r.peak 4095))
      [Reg.ST_GRP.DONE.key 0 0, Reg.ST_GRP.PEAK_MW.key 0 0, Reg.ST_STATUS.LOGIC_FAIL.key 0 0, Reg.ST_STATUS.LOGIC_PART.key 0 0,
        Reg.ST_EVT.WEAR_ERR.key 0 0, Reg.ST_EVT.RETIRED.key 0 0, Reg.ST_STATUS.GROUP.key 0 0] :=
      (((RegsBut.refl s _).of_eq hu).wr2 (by simp)).wr2 (by simp)
    exact (hshown.trans (hv.mono (by simp [groupKeys]))).wr2 (by simp)

/-! ## The islands of an ended group leave D reset (R420) -/

theorem State.regsBut_toMode (s : State) (mode act : Nat) : RegsBut s (s.toMode mode act) modeKeys :=
  (((RegsBut.refl s modeKeys).wr2 (by simp [modeKeys])).wr2 (by simp [modeKeys])).trans
    ((State.regsBut_sendReport _).mono fun _ hk => List.mem_cons_of_mem _ (List.mem_cons_of_mem _ hk))

/-- The fields that a start of the complex writes. -/
def cpxStartKeys : List Nat := Reg.CPX_STATUS.HALT_RSN.key 0 0 :: Reg.CPX_EVT.CFG_ERR.key 0 0 :: modeKeys

theorem State.regsBut_latchCfg (s : State) : RegsBut s s.latchCfg [Reg.CPX_EVT.CFG_ERR.key 0 0] := by
  unfold State.latchCfg
  extract_lets y k r c t
  have ht : RegsBut s t [Reg.CPX_EVT.CFG_ERR.key 0 0] := (RegsBut.refl s _).of_eq rfl
  cases decide (y = 0 ∨ 8 < y ∨ k = 0 ∨ r = 0)
  · exact ht
  · exact ht.wr2 (by simp)

theorem State.regsBut_cpxStart (s : State) : RegsBut s s.cpxStart cpxStartKeys := by
  have hmode (t : State) (mode act : Nat) : RegsBut t (t.toMode mode act) cpxStartKeys :=
    (t.regsBut_toMode mode act).mono fun _ hk => List.mem_cons_of_mem _ (List.mem_cons_of_mem _ hk)
  have hhalt (t : State) : RegsBut t (t.cpxHalt 1) cpxStartKeys :=
    ((RegsBut.refl t cpxStartKeys).wr2 (by simp [cpxStartKeys])).trans (hmode _ _ _)
  unfold State.cpxStart
  extract_lets usable mask indep c0 t1 c1 t2
  have h1 : RegsBut _ t1 cpxStartKeys := (State.regsBut_latchCfg _).mono (by simp [cpxStartKeys])
  have h2 : RegsBut s t2 cpxStartKeys := fun d k hk => h1 d k hk
  refine h2.trans ?_
  split
  · exact hhalt _
  split
  · exact hmode _ _ _
  split
  · exact hmode _ _ _
  split <;> exact hmode _ _ _

theorem State.regs_isoResetEnd (s : State) : s.isoResetEnd.regs = s.regs :=
  State.regs_foldEach (f := fun c (t : State) => t.isoRestart c) (fun _ _ => rfl) _ _

theorem State.regsBut_logHead (s : State) : RegsBut s s.logHead [Reg.ALD_LOGIDX.HEAD.key 0 0, Reg.ALD_LOG.HEAD_SEQ.key 0 0] := by
  unfold State.logHead
  extract_lets i q
  split
  · exact ((RegsBut.refl s _).wr2 (by simp)).wr2 (by simp)
  · exact ((RegsBut.refl s _).wr2 (by simp)).wr2 (by simp)

/-- An island that leaves its reset does not end the self-test. -/
theorem State.rd_running_leaveReset (s : State) (isl : Nat) : (s.leaveReset isl).rd Reg.ST_STATUS.RUNNING = s.rd Reg.ST_STATUS.RUNNING := by
  have hreset : (s.wr Reg.ISL_STAT.IN_RESET isl 0).rd Reg.ST_STATUS.RUNNING = s.rd Reg.ST_STATUS.RUNNING := State.rd_wr_of_lo (by decide)
  unfold State.leaveReset
  extract_lets ok t
  split
  · rfl
  refine Eq.trans ?_ hreset
  split
  · exact t.regsBut_cpxStart.rd_eq (by decide)
  split
  · exact congrArg (SMap.get _ · _) t.regs_isoResetEnd
  split
  · exact ((State.regsBut_logEv _ _ _ _).rd_eq (by decide)).trans (t.regsBut_logHead.rd_eq (by decide))
  · rfl

theorem State.rd_running_testFree (s : State) : s.testFree.rd Reg.ST_STATUS.RUNNING = s.rd Reg.ST_STATUS.RUNNING :=
  foldEach_preserves (P := fun (u : State) => u.rd Reg.ST_STATUS.RUNNING = s.rd Reg.ST_STATUS.RUNNING)
    (fun isl t ht => (t.rd_running_leaveReset isl).trans ht) _ rfl

theorem exec_selftestGroupDone_idle {r : StResult} (h : s.on Reg.ST_STATUS.RUNNING = false) : exec (.selftestGroupDone r) s = .next s := by
  simp only [exec, execSelftestGroupDone, h, State.onlyIf_false]

theorem exec_selftestGroupDone {r : StResult} (h : s.on Reg.ST_STATUS.RUNNING = true) : exec (.selftestGroupDone r) s =
    .next (if (s.groupDone r).testFree.on Reg.ST_STATUS.RUNNING then (s.groupDone r).testFree.testHold
      else (s.groupDone r).testFree.testRecord.shutdownEnd) := by
  simp only [exec, execSelftestGroupDone, h, State.onlyIf_true]

/-- The last group ends the run. -/
theorem State.running_groupDone_last (h : 9 ≤ s.rd Reg.ST_STATUS.GROUP) (r : StResult) : (s.groupDone r).rd Reg.ST_STATUS.RUNNING = 0 := by
  unfold State.groupDone
  extract_lets
  rw [if_neg (Nat.not_lt.2 h), State.rd_wr_of_lo (by decide), State.rd_wr_of_lt (by decide)]

end

end Sys2Proof.Machine

open Sys2Proof Sys2Proof.Machine

/-! ## The obligation -/

/-- Settles O41: a group by what it shows and by RUNNING, a retirement by the bytes of its entry, a reading by the units that its sensor covers. -/
theorem selfTestAndWear : Obligations.SelfTestAndWear := by
  refine ⟨fun r s => ⟨exec_selftestGroupDone_idle, fun hrun hg => ?early, fun hrun hg => ?last⟩, fun e p l s hq hald hpu hp hpend => ⟨?entered, ?failed⟩,
    fun ages s hald => ⟨fun hbusy => ?busy, fun hidle => ?read⟩⟩
  case early =>
    obtain ⟨hGroup, hDone, hPeak, hregs⟩ := State.groupDone_spec hg r
    have hon : (s.groupDone r).testFree.on Reg.ST_STATUS.RUNNING = true := by
      rw [State.on_iff, State.rd_running_testFree, hregs.rd_eq (by decide)]
      exact State.on_iff.1 hrun
    exact ⟨_, by rw [exec_selftestGroupDone hrun, if_pos hon], rfl, hGroup, hDone, hPeak, hregs⟩
  case last =>
    have hoff : (s.groupDone r).testFree.on Reg.ST_STATUS.RUNNING = false := by
      rw [State.on_false_iff, State.rd_running_testFree, State.running_groupDone_last hg]
      decide
    rw [exec_selftestGroupDone hrun, if_neg (by rw [hoff]; decide)]
  case entered =>
    obtain ⟨hRec, hRet, hStatus⟩ := s.retirementShown_spec l p
    obtain ⟨hmem, hcopy⟩ := s.retirementShown_frame l p
    obtain ⟨hMark, hCause, hframe⟩ := State.byte_wearEntered_mark (s := { s with retireq := l }) hpend hp
    have hlog := (s.retirementShown l p).regsBut_logEv 0x0006 0 (leBytes 2 p ++ leBytes 2 2)
    obtain ⟨hretireq, hst⟩ := (s.retirementShown l p).logEv_rest 0x0006 0 (leBytes 2 p ++ leBytes 2 2)
    obtain ⟨-, hlogMem⟩ := (s.retirementShown l p).logEv_frame 0x0006 0 (leBytes 2 p ++ leBytes 2 2)
    have hbyte (x : Nat) := State.byte_of_mem (b := x) (hlogMem.trans hmem)
    refine ⟨_, exec_wearEntry hq hald hpu true, ?_⟩
    rw [if_pos rfl]
    exact ⟨hretireq.trans (State.retireq_retirementShown hpend l p), (hlog.rd_eq (by decide)).trans hRec, (hlog.rd_eq (by decide)).trans hRet,
      (hlog.rd_eq (FD.key_not_mem_logKeys (by decide))).trans hStatus, (congrArg SelfS.copy hst).trans hcopy, (hbyte _).trans hMark, (hbyte _).trans hCause,
      fun x hx => (hbyte x).trans (hframe x hx), ((s.regsBut_retirementShown l p).mono (by simp [retireKeys])).trans (hlog.mono (by simp [logKeys]))⟩
  case failed =>
    refine ⟨_, exec_wearEntry hq hald hpu false, ?_⟩
    rw [if_neg (by decide)]
    exact ⟨rfl, State.rd_flag rfl, (OnlyRegs.refl s _).wr2 (by simp)⟩
  case busy =>
    obtain ⟨b, hb⟩ := ({ s with houseAt := some (s.houseAt.getD s.now) } : State).houseWaits_eq
    refine ⟨_, exec_agingRead_busy hald hbusy, ?_, ?_, fun h hh hdue => ?_, ?_⟩
    · rw [hb]
      cases b <;> rfl
    · rw [hb]
      have hwait : RegsBut s ({ s with houseAt := some (s.houseAt.getD s.now) } : State) [Reg.ALD_EVT.DEFERRED.key 0 0] := (RegsBut.refl s _).of_eq rfl
      cases b
      · exact hwait
      · exact hwait.wr2 (by simp)
    · simp only [State.houseWaits, hh, Option.getD_some, decide_eq_true hdue, State.onlyIf_true]
      exact State.rd_flag rfl
    · rw [hb]
      cases b <;> rfl
  case read =>
    refine ⟨_, exec_agingRead hald hidle, rfl, ?_, ?_, fun k a hages p hp hsensor => ?_⟩
    · exact foldEach_preserves (P := fun (u : State) => u.mem = s.mem) (fun e t ht => (t.mem_showAge e.1 e.2).trans ht) _ rfl
    · exact (RegsBut.foldEach (fun e he t => t.regsBut_showAge (mem_agesOf he) e.2) s).of_eq rfl
    · have h := State.rd_age_foldEach (agesOf_one k.val a.val) (mem_agesOf_one hp hsensor) s
      rw [hages]
      exact h.trans (Nat.min_eq_left (Nat.le_of_lt_succ a.isLt))
end
